-- ==== Sys2Proof/Word.lean ====
section
/-!
DEFINITION. Word.lean: the word types, the plainest arithmetic on them, and the types that describe a register map (R10, R11).
-/
namespace Sys2Proof

/-- A 32-bit register or memory word. -/
abbrev Word := BitVec 32

/-- A byte of memory or of a message. -/
abbrev Byte := BitVec 8

/-- A field of a register: the register's address, the field's lowest bit and its width (R9, R11). -/
structure Fld where
  addr : Nat
  lo : Nat
  width : Nat
deriving DecidableEq, Repr

/-- One row of the register map: an array of registers at `base + i * s1 + j * s2` (i < n1, j < n2), the reset word, the bits of
each access code of R11, the expert-only bits (R15), whether the register is a ticketed ACT register (R20) and whether it is
shadowed as a whole (R27, R127). -/
structure RegRow where
  base : Nat
  n1 : Nat
  s1 : Nat
  n2 : Nat
  s2 : Nat
  reset : Word
  rw : Word
  w1c : Word
  rc : Word
  rwl : Word
  ro : Word
  expert : Word
  act : Bool
  shadowed : Bool
deriving DecidableEq, Repr

/-- Every bit that the register implements; the other bits are RSV and read 0 (R11). -/
def RegRow.impl (r : RegRow) : Word := r.rw ||| r.w1c ||| r.rc ||| r.rwl ||| r.ro

/-- The address is one of the registers of the row. -/
def RegRow.covers (r : RegRow) (a : Nat) : Bool :=
  r.base ≤ a && (a - r.base) / r.s1 < r.n1 && (a - r.base) % r.s1 / r.s2 < r.n2 && (a - r.base) % r.s1 % r.s2 == 0

/-- The value of a Nat narrowed to `w` bits and read as a signed number. -/
def toSigned (w : Nat) (n : Nat) : Int := (BitVec.ofNat w n).toInt

/-- A signed number narrowed to `w` bits, as the Nat that a field of that width holds. -/
def ofSigned (w : Nat) (i : Int) : Nat := (BitVec.ofInt w i).toNat

/-- Clamp of a signed number to a range. -/
def clampInt (x lo hi : Int) : Int := max lo (min x hi)

/-- Clamp of a Nat to a range: values outside act as the nearest limit. -/
def clampNat (x lo hi : Nat) : Nat := max lo (min x hi)

/-- A value in which 0 acts as 1. -/
def zeroAsOne (x : Nat) : Nat := if x = 0 then 1 else x

/-- Increment that saturates at the largest value of the width. -/
def satInc (w x k : Nat) : Nat := min (x + k) (2 ^ w - 1)

/-- Floor division by a power of two: the arithmetic shift right of the manual's formulas (rounding toward minus infinity). -/
def asr (x : Int) (k : Nat) : Int := x.fdiv (2 ^ k)

/-- The quotient of two Nats rounded half up. -/
def roundDiv (a b : Nat) : Nat := (2 * a + b) / (2 * b)

/-- Little-endian word of the first four bytes of a list; a missing byte counts as 0 (R9). -/
def wordOfBytes (l : List Byte) : Word :=
  (l.getD 3 0) ++ (l.getD 2 0) ++ (l.getD 1 0) ++ (l.getD 0 0)

/-- The four bytes of a word, lowest first (R9). -/
def bytesOfWord (w : Word) : List Byte :=
  [w.extractLsb' 0 8, w.extractLsb' 8 8, w.extractLsb' 16 8, w.extractLsb' 24 8]

/-- The `n` low bytes of a Nat, lowest first (R9). -/
def bytesOfNat : Nat → Nat → List Byte
  | 0, _ => []
  | n + 1, x => BitVec.ofNat 8 x :: bytesOfNat n (x / 256)

/-- The Nat that a little-endian list of bytes spells (R9). -/
def natOfBytes : List Byte → Nat
  | [] => 0
  | b :: l => b.toNat + 256 * natOfBytes l

/-- The words of a list of bytes, little-endian, four bytes a word. -/
def wordsOfBytes : List Byte → List Word
  | a :: b :: c :: d :: l => wordOfBytes [a, b, c, d] :: wordsOfBytes l
  | _ => []

end Sys2Proof
end

