-- ==== Sys2Proof/Machine/Regs.lean ====
section
/-!
DEFINITION. Machine/Regs.lean: the register map of the device (spec chapters' "Register reference" sections), as data.
`Reg.X` is the address of register X, `F.X_FIELD` a field of it, and the rows of `regRows` give each register's reset word and
the access code of each of its bits (R11): a bit outside every mask is RSV.
-/
namespace Sys2Proof.Machine

/-! SYS registers (spec/00_scope.md, spec/01_three_speeds.md, spec/19_power_reset.md) -/
def Reg.SYS_ID : Nat := 0x40010000
def F.SYS_ID_PART : Fld := ⟨Reg.SYS_ID, 16, 16⟩
def F.SYS_ID_STEP : Fld := ⟨Reg.SYS_ID, 8, 8⟩
def F.SYS_ID_GRADE : Fld := ⟨Reg.SYS_ID, 0, 1⟩
def Reg.SYS_CTL : Nat := 0x40010004
def F.SYS_CTL_EXPERT : Fld := ⟨Reg.SYS_CTL, 31, 1⟩
def Reg.SYS_RSTCAUSE : Nat := 0x40010008
def F.SYS_RSTCAUSE_LC : Fld := ⟨Reg.SYS_RSTCAUSE, 3, 1⟩
def F.SYS_RSTCAUSE_SW : Fld := ⟨Reg.SYS_RSTCAUSE, 2, 1⟩
def F.SYS_RSTCAUSE_PIN : Fld := ⟨Reg.SYS_RSTCAUSE, 1, 1⟩
def F.SYS_RSTCAUSE_POR : Fld := ⟨Reg.SYS_RSTCAUSE, 0, 1⟩
def Reg.SYS_ACT : Nat := 0x4001000C
def F.SYS_ACT_TICKET : Fld := ⟨Reg.SYS_ACT, 24, 8⟩
def F.SYS_ACT_ARG : Fld := ⟨Reg.SYS_ACT, 8, 16⟩
def F.SYS_ACT_ACTION : Fld := ⟨Reg.SYS_ACT, 0, 8⟩
def Reg.SYS_TIMEL : Nat := 0x40010010
def F.SYS_TIMEL_TIMEL : Fld := ⟨Reg.SYS_TIMEL, 0, 32⟩
def Reg.SYS_TIMEH : Nat := 0x40010014
def F.SYS_TIMEH_TIMEH : Fld := ⟨Reg.SYS_TIMEH, 0, 32⟩
def Reg.SYS_SUPPLY : Nat := 0x40010018
def F.SYS_SUPPLY_PHYDROP : Fld := ⟨Reg.SYS_SUPPLY, 8, 1⟩
def F.SYS_SUPPLY_PHYLOW : Fld := ⟨Reg.SYS_SUPPLY, 0, 1⟩
def Reg.SYS_FLT : Nat := 0x4001001C
def F.SYS_FLT_RSTKEY : Fld := ⟨Reg.SYS_FLT, 0, 1⟩
def Reg.SYS_CLKSTAT : Nat := 0x40010020
def F.SYS_CLKSTAT_XINRET : Fld := ⟨Reg.SYS_CLKSTAT, 10, 1⟩
def F.SYS_CLKSTAT_XINRANGE : Fld := ⟨Reg.SYS_CLKSTAT, 9, 1⟩
def F.SYS_CLKSTAT_XINLOSS : Fld := ⟨Reg.SYS_CLKSTAT, 8, 1⟩
def F.SYS_CLKSTAT_PERLK : Fld := ⟨Reg.SYS_CLKSTAT, 5, 1⟩
def F.SYS_CLKSTAT_TRIOLK : Fld := ⟨Reg.SYS_CLKSTAT, 4, 1⟩
def F.SYS_CLKSTAT_LOOPLK : Fld := ⟨Reg.SYS_CLKSTAT, 3, 1⟩
def F.SYS_CLKSTAT_PLLREF : Fld := ⟨Reg.SYS_CLKSTAT, 2, 1⟩
def F.SYS_CLKSTAT_AOSRC : Fld := ⟨Reg.SYS_CLKSTAT, 1, 1⟩
def F.SYS_CLKSTAT_XINOK : Fld := ⟨Reg.SYS_CLKSTAT, 0, 1⟩
def Reg.SYS_SPEED : Nat := 0x40010024
def F.SYS_SPEED_PCIEUP : Fld := ⟨Reg.SYS_SPEED, 16, 1⟩
def F.SYS_SPEED_PARARM : Fld := ⟨Reg.SYS_SPEED, 8, 4⟩
def F.SYS_SPEED_TRIO : Fld := ⟨Reg.SYS_SPEED, 4, 2⟩
def F.SYS_SPEED_HLRUN : Fld := ⟨Reg.SYS_SPEED, 0, 4⟩
def Reg.SYS_CLKCFG : Nat := 0x40010028
def F.SYS_CLKCFG_AUTORET : Fld := ⟨Reg.SYS_CLKCFG, 16, 1⟩
def F.SYS_CLKCFG_QUAL : Fld := ⟨Reg.SYS_CLKCFG, 8, 8⟩
def F.SYS_CLKCFG_RANGE : Fld := ⟨Reg.SYS_CLKCFG, 0, 4⟩
def Reg.SYS_CLKACT : Nat := 0x4001002C
def F.SYS_CLKACT_TICKET : Fld := ⟨Reg.SYS_CLKACT, 24, 8⟩
def F.SYS_CLKACT_ARG : Fld := ⟨Reg.SYS_CLKACT, 8, 16⟩
def F.SYS_CLKACT_ACTION : Fld := ⟨Reg.SYS_CLKACT, 0, 8⟩
def Reg.SYS_IGNWR : Nat := 0x40010040
def F.SYS_IGNWR_COUNT : Fld := ⟨Reg.SYS_IGNWR, 0, 32⟩
/-! ANGLE registers (spec/02_angle_domains.md) -/
def Reg.ANG_CTL : Nat := 0x40020000
def F.ANG_CTL_EXPERT : Fld := ⟨Reg.ANG_CTL, 31, 1⟩
def Reg.ANG_SYNCCTL : Nat := 0x40020004
def F.ANG_SYNCCTL_RINGCHK : Fld := ⟨Reg.ANG_SYNCCTL, 12, 1⟩
def F.ANG_SYNCCTL_FILT : Fld := ⟨Reg.ANG_SYNCCTL, 8, 4⟩
def F.ANG_SYNCCTL_MDOM : Fld := ⟨Reg.ANG_SYNCCTL, 4, 3⟩
def F.ANG_SYNCCTL_ROLE : Fld := ⟨Reg.ANG_SYNCCTL, 0, 2⟩
def Reg.ANG_SYNCCOMP : Nat := 0x40020008
def F.ANG_SYNCCOMP_COMP : Fld := ⟨Reg.ANG_SYNCCOMP, 0, 16⟩
def Reg.ANG_SYNCOFS : Nat := 0x4002000C
def F.ANG_SYNCOFS_OFS : Fld := ⟨Reg.ANG_SYNCOFS, 0, 24⟩
def Reg.ANG_RINGDLY : Nat := 0x40020010
def F.ANG_RINGDLY_VALID : Fld := ⟨Reg.ANG_RINGDLY, 31, 1⟩
def F.ANG_RINGDLY_DLY : Fld := ⟨Reg.ANG_RINGDLY, 0, 16⟩
def Reg.ANG_RAILMAP : Nat := 0x40020014
def F.ANG_RAILMAP_RAIL3DOM : Fld := ⟨Reg.ANG_RAILMAP, 12, 3⟩
def F.ANG_RAILMAP_RAIL2DOM : Fld := ⟨Reg.ANG_RAILMAP, 8, 3⟩
def F.ANG_RAILMAP_RAIL1DOM : Fld := ⟨Reg.ANG_RAILMAP, 4, 3⟩
def F.ANG_RAILMAP_RAIL0DOM : Fld := ⟨Reg.ANG_RAILMAP, 0, 3⟩
def Reg.ANG_FLT : Nat := 0x40020018
def F.ANG_FLT_CHGLATE : Fld := ⟨Reg.ANG_FLT, 21, 1⟩
def F.ANG_FLT_CHGMIS : Fld := ⟨Reg.ANG_FLT, 20, 1⟩
def F.ANG_FLT_FRANGE : Fld := ⟨Reg.ANG_FLT, 19, 1⟩
def F.ANG_FLT_RINGOPEN : Fld := ⟨Reg.ANG_FLT, 18, 1⟩
def F.ANG_FLT_REFUSED : Fld := ⟨Reg.ANG_FLT, 17, 1⟩
def F.ANG_FLT_BADSRC : Fld := ⟨Reg.ANG_FLT, 16, 1⟩
def F.ANG_FLT_LOST : Fld := ⟨Reg.ANG_FLT, 8, 8⟩
def F.ANG_FLT_HOLD : Fld := ⟨Reg.ANG_FLT, 0, 8⟩
def Reg.ANG_ACT : Nat := 0x4002001C
def F.ANG_ACT_TICKET : Fld := ⟨Reg.ANG_ACT, 24, 8⟩
def F.ANG_ACT_ARG : Fld := ⟨Reg.ANG_ACT, 8, 16⟩
def F.ANG_ACT_ACTION : Fld := ⟨Reg.ANG_ACT, 0, 8⟩
def Reg.ANGn_CTL (i : Nat) : Nat := 0x40020100 + i * 0x40
def F.ANGn_CTL_TICKSH (i : Nat) : Fld := ⟨(Reg.ANGn_CTL i), 16, 4⟩
def F.ANGn_CTL_AUTOACQ (i : Nat) : Fld := ⟨(Reg.ANGn_CTL i), 15, 1⟩
def F.ANGn_CTL_ALIGN (i : Nat) : Fld := ⟨(Reg.ANGn_CTL i), 13, 2⟩
def F.ANGn_CTL_MULT (i : Nat) : Fld := ⟨(Reg.ANGn_CTL i), 8, 4⟩
def F.ANGn_CTL_SRC (i : Nat) : Fld := ⟨(Reg.ANGn_CTL i), 4, 4⟩
def F.ANGn_CTL_EN (i : Nat) : Fld := ⟨(Reg.ANGn_CTL i), 0, 1⟩
def Reg.ANGn_FREQ (i : Nat) : Nat := 0x40020104 + i * 0x40
def F.ANGn_FREQ_FREQ (i : Nat) : Fld := ⟨(Reg.ANGn_FREQ i), 0, 32⟩
def Reg.ANGn_RATEL (i : Nat) : Nat := 0x40020108 + i * 0x40
def F.ANGn_RATEL_RATEL (i : Nat) : Fld := ⟨(Reg.ANGn_RATEL i), 0, 32⟩
def Reg.ANGn_RATEH (i : Nat) : Nat := 0x4002010C + i * 0x40
def F.ANGn_RATEH_RATEH (i : Nat) : Fld := ⟨(Reg.ANGn_RATEH i), 0, 16⟩
def Reg.ANGn_TRACK (i : Nat) : Nat := 0x40020110 + i * 0x40
def F.ANGn_TRACK_FBJUMP (i : Nat) : Fld := ⟨(Reg.ANGn_TRACK i), 20, 4⟩
def F.ANGn_TRACK_UNLKSH (i : Nat) : Fld := ⟨(Reg.ANGn_TRACK i), 16, 4⟩
def F.ANGn_TRACK_LOCKSH (i : Nat) : Fld := ⟨(Reg.ANGn_TRACK i), 12, 4⟩
def F.ANGn_TRACK_KISH (i : Nat) : Fld := ⟨(Reg.ANGn_TRACK i), 4, 5⟩
def F.ANGn_TRACK_KPSH (i : Nat) : Fld := ⟨(Reg.ANGn_TRACK i), 0, 4⟩
def Reg.ANGn_WIN (i : Nat) : Nat := 0x40020114 + i * 0x40
def F.ANGn_WIN_HOLDTO (i : Nat) : Fld := ⟨(Reg.ANGn_WIN i), 8, 16⟩
def F.ANGn_WIN_WIN (i : Nat) : Fld := ⟨(Reg.ANGn_WIN i), 0, 4⟩
def Reg.ANGn_STAT (i : Nat) : Nat := 0x40020118 + i * 0x40
def F.ANGn_STAT_TURN (i : Nat) : Fld := ⟨(Reg.ANGn_STAT i), 8, 8⟩
def F.ANGn_STAT_ARMED (i : Nat) : Fld := ⟨(Reg.ANGn_STAT i), 3, 1⟩
def F.ANGn_STAT_STATE (i : Nat) : Fld := ⟨(Reg.ANGn_STAT i), 0, 3⟩
def Reg.ANGn_ANGLE (i : Nat) : Nat := 0x4002011C + i * 0x40
def F.ANGn_ANGLE_ANGLE (i : Nat) : Fld := ⟨(Reg.ANGn_ANGLE i), 0, 32⟩
def Reg.ANGn_SNAPT (i : Nat) : Nat := 0x40020120 + i * 0x40
def F.ANGn_SNAPT_SNAPT (i : Nat) : Fld := ⟨(Reg.ANGn_SNAPT i), 0, 32⟩
def Reg.ANGn_MEAS (i : Nat) : Nat := 0x40020124 + i * 0x40
def F.ANGn_MEAS_MEAS (i : Nat) : Fld := ⟨(Reg.ANGn_MEAS i), 0, 32⟩
def Reg.ANGn_PERR (i : Nat) : Nat := 0x40020128 + i * 0x40
def F.ANGn_PERR_PERR (i : Nat) : Fld := ⟨(Reg.ANGn_PERR i), 0, 32⟩
def Reg.ANGn_REJ (i : Nat) : Nat := 0x4002012C + i * 0x40
def F.ANGn_REJ_REJ (i : Nat) : Fld := ⟨(Reg.ANGn_REJ i), 0, 16⟩
def Reg.ACUk_CTL (i : Nat) : Nat := 0x40020400 + i * 0x10
def F.ACUk_CTL_STMASK (i : Nat) : Fld := ⟨(Reg.ACUk_CTL i), 16, 4⟩
def F.ACUk_CTL_DIR (i : Nat) : Fld := ⟨(Reg.ACUk_CTL i), 11, 2⟩
def F.ACUk_CTL_LATE (i : Nat) : Fld := ⟨(Reg.ACUk_CTL i), 10, 1⟩
def F.ACUk_CTL_MODE (i : Nat) : Fld := ⟨(Reg.ACUk_CTL i), 8, 2⟩
def F.ACUk_CTL_DOM (i : Nat) : Fld := ⟨(Reg.ACUk_CTL i), 4, 3⟩
def F.ACUk_CTL_EN (i : Nat) : Fld := ⟨(Reg.ACUk_CTL i), 0, 1⟩
def Reg.ACUk_STAMP (i : Nat) : Nat := 0x40020404 + i * 0x10
def F.ACUk_STAMP_STAMP (i : Nat) : Fld := ⟨(Reg.ACUk_STAMP i), 0, 32⟩
def Reg.ACUk_STEP (i : Nat) : Nat := 0x40020408 + i * 0x10
def F.ACUk_STEP_STEP (i : Nat) : Fld := ⟨(Reg.ACUk_STEP i), 0, 32⟩
def Reg.ACUk_STAT (i : Nat) : Nat := 0x4002040C + i * 0x10
def F.ACUk_STAT_MISS (i : Nat) : Fld := ⟨(Reg.ACUk_STAT i), 3, 1⟩
def F.ACUk_STAT_LATEF (i : Nat) : Fld := ⟨(Reg.ACUk_STAT i), 2, 1⟩
def F.ACUk_STAT_FIRED (i : Nat) : Fld := ⟨(Reg.ACUk_STAT i), 1, 1⟩
def F.ACUk_STAT_ARMED (i : Nat) : Fld := ⟨(Reg.ACUk_STAT i), 0, 1⟩
/-! GATHER registers (spec/03_gather.md) -/
def Reg.GATH_CTL : Nat := 0x40030000
def F.GATH_CTL_EXPERT : Fld := ⟨Reg.GATH_CTL, 31, 1⟩
def Reg.GATH_ROT : Nat := 0x40030004
def F.GATH_ROT_ROTINT : Fld := ⟨Reg.GATH_ROT, 16, 10⟩
def F.GATH_ROT_MATCHTOL : Fld := ⟨Reg.GATH_ROT, 8, 6⟩
def F.GATH_ROT_ROTEN : Fld := ⟨Reg.GATH_ROT, 0, 1⟩
def Reg.GATH_FLT : Nat := 0x40030008
def F.GATH_FLT_VSAT : Fld := ⟨Reg.GATH_FLT, 0, 4⟩
def F.GATH_FLT_MIS : Fld := ⟨Reg.GATH_FLT, 4, 3⟩
def F.GATH_FLT_CALFAIL : Fld := ⟨Reg.GATH_FLT, 7, 1⟩
def F.GATH_FLT_NOSPARE : Fld := ⟨Reg.GATH_FLT, 8, 1⟩
def F.GATH_FLT_BUSY : Fld := ⟨Reg.GATH_FLT, 9, 1⟩
def F.GATH_FLT_BADENT : Fld := ⟨Reg.GATH_FLT, 10, 1⟩
def F.GATH_FLT_IMOPEN : Fld := ⟨Reg.GATH_FLT, 11, 1⟩
def F.GATH_FLT_MFLT : Fld := ⟨Reg.GATH_FLT, 12, 1⟩
def Reg.GATH_ACT : Nat := 0x4003000C
def F.GATH_ACT_TICKET : Fld := ⟨Reg.GATH_ACT, 24, 8⟩
def F.GATH_ACT_ARG : Fld := ⟨Reg.GATH_ACT, 8, 16⟩
def F.GATH_ACT_ACTION : Fld := ⟨Reg.GATH_ACT, 0, 8⟩
def Reg.GATH_VMAP : Nat := 0x40030010
def F.GATH_VMAP_LANE : Fld := ⟨Reg.GATH_VMAP, 0, 32⟩
def Reg.GATH_IMAP : Nat := 0x40030014
def F.GATH_IMAP_LANE : Fld := ⟨Reg.GATH_IMAP, 0, 32⟩
def Reg.GATH_SPARE : Nat := 0x40030018
def F.GATH_SPARE_VSP : Fld := ⟨Reg.GATH_SPARE, 0, 4⟩
def F.GATH_SPARE_ISP : Fld := ⟨Reg.GATH_SPARE, 4, 4⟩
def F.GATH_SPARE_MSP : Fld := ⟨Reg.GATH_SPARE, 8, 4⟩
def F.GATH_SPARE_ML0 : Fld := ⟨Reg.GATH_SPARE, 16, 2⟩
def F.GATH_SPARE_ML1 : Fld := ⟨Reg.GATH_SPARE, 18, 2⟩
def Reg.GATH_POOL : Nat := 0x4003001C
def F.GATH_POOL_V : Fld := ⟨Reg.GATH_POOL, 0, 9⟩
def F.GATH_POOL_I : Fld := ⟨Reg.GATH_POOL, 9, 9⟩
def F.GATH_POOL_M : Fld := ⟨Reg.GATH_POOL, 18, 3⟩
def Reg.GATH_CALD : Nat := 0x40030020
def F.GATH_CALD_V : Fld := ⟨Reg.GATH_CALD, 0, 9⟩
def F.GATH_CALD_I : Fld := ⟨Reg.GATH_CALD, 9, 9⟩
def F.GATH_CALD_M : Fld := ⟨Reg.GATH_CALD, 18, 3⟩
def Reg.GATH_BSTAT : Nat := 0x40030024
def F.GATH_BSTAT_STEP : Fld := ⟨Reg.GATH_BSTAT, 0, 3⟩
def F.GATH_BSTAT_FULL : Fld := ⟨Reg.GATH_BSTAT, 3, 3⟩
def Reg.GATH_CALSEL : Nat := 0x40030028
def F.GATH_CALSEL_OTP : Fld := ⟨Reg.GATH_CALSEL, 24, 1⟩
def F.GATH_CALSEL_ITEM : Fld := ⟨Reg.GATH_CALSEL, 16, 4⟩
def F.GATH_CALSEL_BANK : Fld := ⟨Reg.GATH_CALSEL, 8, 2⟩
def F.GATH_CALSEL_SLICE : Fld := ⟨Reg.GATH_CALSEL, 0, 4⟩
def Reg.GATH_CALDAT : Nat := 0x4003002C
def F.GATH_CALDAT_DATA : Fld := ⟨Reg.GATH_CALDAT, 0, 16⟩
def Reg.GATH_CMPr_CTL (i : Nat) : Nat := 0x40030040 + i * 0x10
def F.GATH_CMPr_CTL_OVEN (i : Nat) : Fld := ⟨(Reg.GATH_CMPr_CTL i), 29, 1⟩
def F.GATH_CMPr_CTL_UVEN (i : Nat) : Fld := ⟨(Reg.GATH_CMPr_CTL i), 28, 1⟩
def F.GATH_CMPr_CTL_HYST (i : Nat) : Fld := ⟨(Reg.GATH_CMPr_CTL i), 24, 3⟩
def F.GATH_CMPr_CTL_OVFILT (i : Nat) : Fld := ⟨(Reg.GATH_CMPr_CTL i), 20, 3⟩
def F.GATH_CMPr_CTL_UVFILT (i : Nat) : Fld := ⟨(Reg.GATH_CMPr_CTL i), 16, 3⟩
def F.GATH_CMPr_CTL_OVTH (i : Nat) : Fld := ⟨(Reg.GATH_CMPr_CTL i), 8, 8⟩
def F.GATH_CMPr_CTL_UVTH (i : Nat) : Fld := ⟨(Reg.GATH_CMPr_CTL i), 0, 8⟩
def Reg.GATH_CMPr_STAT (i : Nat) : Nat := 0x40030044 + i * 0x10
def F.GATH_CMPr_STAT_OVSEEN (i : Nat) : Fld := ⟨(Reg.GATH_CMPr_STAT i), 9, 1⟩
def F.GATH_CMPr_STAT_UVSEEN (i : Nat) : Fld := ⟨(Reg.GATH_CMPr_STAT i), 8, 1⟩
def F.GATH_CMPr_STAT_OVNOW (i : Nat) : Fld := ⟨(Reg.GATH_CMPr_STAT i), 1, 1⟩
def F.GATH_CMPr_STAT_UVNOW (i : Nat) : Fld := ⟨(Reg.GATH_CMPr_STAT i), 0, 1⟩
def Reg.GATH_CMPr_CNT (i : Nat) : Nat := 0x40030048 + i * 0x10
def F.GATH_CMPr_CNT_OVCNT (i : Nat) : Fld := ⟨(Reg.GATH_CMPr_CNT i), 16, 16⟩
def F.GATH_CMPr_CNT_UVCNT (i : Nat) : Fld := ⟨(Reg.GATH_CMPr_CNT i), 0, 16⟩
def Reg.GATH_IMSCALEp (i : Nat) : Nat := 0x40030100 + i * 0x4
def F.GATH_IMSCALEp_GAIN (i : Nat) : Fld := ⟨(Reg.GATH_IMSCALEp i), 16, 16⟩
def F.GATH_IMSCALEp_REF (i : Nat) : Fld := ⟨(Reg.GATH_IMSCALEp i), 0, 16⟩
def Reg.GATH_IMFLT : Nat := 0x40030180
def F.GATH_IMFLT_IMFLT : Fld := ⟨Reg.GATH_IMFLT, 0, 32⟩
def Reg.GATH_MFLT : Nat := 0x40030184
def F.GATH_MFLT_MFLT : Fld := ⟨Reg.GATH_MFLT, 0, 8⟩
def Reg.GATH_TLIMc (i : Nat) : Nat := 0x40030200 + i * 0x4
def F.GATH_TLIMc_HI (i : Nat) : Fld := ⟨(Reg.GATH_TLIMc i), 16, 16⟩
def F.GATH_TLIMc_LO (i : Nat) : Fld := ⟨(Reg.GATH_TLIMc i), 0, 16⟩
def Reg.GATH_TFLT : Nat := 0x40030280
def F.GATH_TFLT_TFLT : Fld := ⟨Reg.GATH_TFLT, 0, 32⟩
def Reg.GATH_PSCAN : Nat := 0x40030284
def F.GATH_PSCAN_TMSLOT : Fld := ⟨Reg.GATH_PSCAN, 4, 4⟩
def F.GATH_PSCAN_VINSLOT : Fld := ⟨Reg.GATH_PSCAN, 0, 4⟩
def Reg.GATH_VINRES : Nat := 0x40030290
def F.GATH_VINRES_VINRES : Fld := ⟨Reg.GATH_VINRES, 0, 16⟩
def Reg.GATH_TMONRESr (i : Nat) : Nat := 0x40030294 + i * 0x4
def F.GATH_TMONRESr_TMONRES (i : Nat) : Fld := ⟨(Reg.GATH_TMONRESr i), 0, 16⟩
def Reg.GSQn_CTL (i : Nat) : Nat := 0x40031000 + i * 0x200
def F.GSQn_CTL_TA (i : Nat) : Fld := ⟨(Reg.GSQn_CTL i), 11, 1⟩
def F.GSQn_CTL_DOM (i : Nat) : Fld := ⟨(Reg.GSQn_CTL i), 8, 3⟩
def F.GSQn_CTL_TSEL (i : Nat) : Fld := ⟨(Reg.GSQn_CTL i), 4, 3⟩
def F.GSQn_CTL_TRIG (i : Nat) : Fld := ⟨(Reg.GSQn_CTL i), 1, 2⟩
def F.GSQn_CTL_EN (i : Nat) : Fld := ⟨(Reg.GSQn_CTL i), 0, 1⟩
def Reg.GSQn_STAMP (i : Nat) : Nat := 0x40031004 + i * 0x200
def F.GSQn_STAMP_STAMP (i : Nat) : Fld := ⟨(Reg.GSQn_STAMP i), 0, 32⟩
def Reg.GSQn_STEP (i : Nat) : Nat := 0x40031008 + i * 0x200
def F.GSQn_STEP_STEP (i : Nat) : Fld := ⟨(Reg.GSQn_STEP i), 0, 32⟩
def Reg.GSQn_STAT (i : Nat) : Nat := 0x4003100C + i * 0x200
def F.GSQn_STAT_LATE (i : Nat) : Fld := ⟨(Reg.GSQn_STAT i), 12, 1⟩
def F.GSQn_STAT_TMO (i : Nat) : Fld := ⟨(Reg.GSQn_STAT i), 11, 1⟩
def F.GSQn_STAT_OVR (i : Nat) : Fld := ⟨(Reg.GSQn_STAT i), 10, 1⟩
def F.GSQn_STAT_PEND (i : Nat) : Fld := ⟨(Reg.GSQn_STAT i), 9, 1⟩
def F.GSQn_STAT_BUSY (i : Nat) : Fld := ⟨(Reg.GSQn_STAT i), 8, 1⟩
def F.GSQn_STAT_GEN (i : Nat) : Fld := ⟨(Reg.GSQn_STAT i), 0, 6⟩
def Reg.GSQn_TMO (i : Nat) : Nat := 0x40031010 + i * 0x200
def F.GSQn_TMO_TMO (i : Nat) : Fld := ⟨(Reg.GSQn_TMO i), 0, 16⟩
def Reg.GSQn_ENTe (i : Nat) (j : Nat) : Nat := 0x40031100 + i * 0x200 + j * 0x4
def F.GSQn_ENTe_LAST (i : Nat) (j : Nat) : Fld := ⟨(Reg.GSQn_ENTe i j), 31, 1⟩
def F.GSQn_ENTe_KIND (i : Nat) (j : Nat) : Fld := ⟨(Reg.GSQn_ENTe i j), 28, 3⟩
def F.GSQn_ENTe_AVG (i : Nat) (j : Nat) : Fld := ⟨(Reg.GSQn_ENTe i j), 24, 3⟩
def F.GSQn_ENTe_CH (i : Nat) (j : Nat) : Fld := ⟨(Reg.GSQn_ENTe i j), 16, 5⟩
def F.GSQn_ENTe_SETTLE (i : Nat) (j : Nat) : Fld := ⟨(Reg.GSQn_ENTe i j), 8, 8⟩
def Reg.GSQn_RESe (i : Nat) (j : Nat) : Nat := 0x40031180 + i * 0x200 + j * 0x4
def F.GSQn_RESe_VALID (i : Nat) (j : Nat) : Fld := ⟨(Reg.GSQn_RESe i j), 31, 1⟩
def F.GSQn_RESe_RANGE (i : Nat) (j : Nat) : Fld := ⟨(Reg.GSQn_RESe i j), 30, 1⟩
def F.GSQn_RESe_GEN (i : Nat) (j : Nat) : Fld := ⟨(Reg.GSQn_RESe i j), 24, 6⟩
def F.GSQn_RESe_VALUE (i : Nat) (j : Nat) : Fld := ⟨(Reg.GSQn_RESe i j), 0, 16⟩
/-! MARVER registers (spec/04_marver.md) -/
def Reg.MRV_CTL : Nat := 0x40040000
def F.MRV_CTL_EXPERT : Fld := ⟨Reg.MRV_CTL, 31, 1⟩
def Reg.MRV_VINSCL : Nat := 0x40040004
def F.MRV_VINSCL_K : Fld := ⟨Reg.MRV_VINSCL, 0, 20⟩
def Reg.MRV_ACT : Nat := 0x40040008
def F.MRV_ACT_TICKET : Fld := ⟨Reg.MRV_ACT, 24, 8⟩
def F.MRV_ACT_ARG : Fld := ⟨Reg.MRV_ACT, 8, 16⟩
def F.MRV_ACT_ACTION : Fld := ⟨Reg.MRV_ACT, 0, 8⟩
def Reg.MRVr_CFG (i : Nat) : Nat := 0x40040100 + i * 0x100
def F.MRVr_CFG_OVACT (i : Nat) : Fld := ⟨(Reg.MRVr_CFG i), 4, 2⟩
def F.MRVr_CFG_FFEN (i : Nat) : Fld := ⟨(Reg.MRVr_CFG i), 0, 1⟩
def Reg.MRVr_VSRC (i : Nat) : Nat := 0x40040104 + i * 0x100
def F.MRVr_VSRC_MASK (i : Nat) : Fld := ⟨(Reg.MRVr_VSRC i), 0, 4⟩
def Reg.MRVr_VLIM (i : Nat) : Nat := 0x40040108 + i * 0x100
def F.MRVr_VLIM_VMAX (i : Nat) : Fld := ⟨(Reg.MRVr_VLIM i), 16, 13⟩
def F.MRVr_VLIM_VMIN (i : Nat) : Fld := ⟨(Reg.MRVr_VLIM i), 0, 13⟩
def Reg.MRVr_VBOOT (i : Nat) : Nat := 0x4004010C + i * 0x100
def F.MRVr_VBOOT_VBOOT (i : Nat) : Fld := ⟨(Reg.MRVr_VBOOT i), 0, 13⟩
def Reg.MRVr_SLEW (i : Nat) : Nat := 0x40040110 + i * 0x100
def F.MRVr_SLEW_SSRATE (i : Nat) : Fld := ⟨(Reg.MRVr_SLEW i), 16, 9⟩
def F.MRVr_SLEW_SLEWRATE (i : Nat) : Fld := ⟨(Reg.MRVr_SLEW i), 0, 9⟩
def Reg.MRVr_SLEWDIV (i : Nat) : Nat := 0x40040114 + i * 0x100
def F.MRVr_SLEWDIV_SSDIV (i : Nat) : Fld := ⟨(Reg.MRVr_SLEWDIV i), 16, 13⟩
def F.MRVr_SLEWDIV_SLEWDIV (i : Nat) : Fld := ⟨(Reg.MRVr_SLEWDIV i), 0, 13⟩
def Reg.MRVr_VSHOST (i : Nat) : Nat := 0x40040118 + i * 0x100
def F.MRVr_VSHOST_VSET (i : Nat) : Fld := ⟨(Reg.MRVr_VSHOST i), 0, 13⟩
def Reg.MRVr_VSPMB (i : Nat) : Nat := 0x4004011C + i * 0x100
def F.MRVr_VSPMB_VSET (i : Nat) : Fld := ⟨(Reg.MRVr_VSPMB i), 0, 13⟩
def Reg.MRVr_VSNOW (i : Nat) : Nat := 0x40040120 + i * 0x100
def F.MRVr_VSNOW_S (i : Nat) : Fld := ⟨(Reg.MRVr_VSNOW i), 16, 16⟩
def F.MRVr_VSNOW_SRC (i : Nat) : Fld := ⟨(Reg.MRVr_VSNOW i), 14, 2⟩
def F.MRVr_VSNOW_T (i : Nat) : Fld := ⟨(Reg.MRVr_VSNOW i), 0, 13⟩
def Reg.MRVr_VSCNT (i : Nat) : Nat := 0x40040124 + i * 0x100
def F.MRVr_VSCNT_PMBUS (i : Nat) : Fld := ⟨(Reg.MRVr_VSCNT i), 24, 8⟩
def F.MRVr_VSCNT_HOST (i : Nat) : Fld := ⟨(Reg.MRVr_VSCNT i), 16, 8⟩
def F.MRVr_VSCNT_APRAM (i : Nat) : Fld := ⟨(Reg.MRVr_VSCNT i), 8, 8⟩
def F.MRVr_VSCNT_AVS (i : Nat) : Fld := ⟨(Reg.MRVr_VSCNT i), 0, 8⟩
def Reg.MRVr_VSREJ (i : Nat) : Nat := 0x40040128 + i * 0x100
def F.MRVr_VSREJ_OOR (i : Nat) : Fld := ⟨(Reg.MRVr_VSREJ i), 16, 16⟩
def F.MRVr_VSREJ_MASKED (i : Nat) : Fld := ⟨(Reg.MRVr_VSREJ i), 0, 16⟩
def Reg.MRVr_LL (i : Nat) : Nat := 0x4004012C + i * 0x100
def F.MRVr_LL_LLSH (i : Nat) : Fld := ⟨(Reg.MRVr_LL i), 8, 4⟩
def F.MRVr_LL_RLL (i : Nat) : Fld := ⟨(Reg.MRVr_LL i), 0, 8⟩
def Reg.MRVr_KP (i : Nat) : Nat := 0x40040130 + i * 0x100
def F.MRVr_KP_K (i : Nat) : Fld := ⟨(Reg.MRVr_KP i), 0, 32⟩
def Reg.MRVr_KI (i : Nat) : Nat := 0x40040134 + i * 0x100
def F.MRVr_KI_K (i : Nat) : Fld := ⟨(Reg.MRVr_KI i), 0, 32⟩
def Reg.MRVr_KD (i : Nat) : Nat := 0x40040138 + i * 0x100
def F.MRVr_KD_K (i : Nat) : Fld := ⟨(Reg.MRVr_KD i), 0, 32⟩
def Reg.MRVr_LIM (i : Nat) : Nat := 0x4004013C + i * 0x100
def F.MRVr_LIM_DMAX (i : Nat) : Fld := ⟨(Reg.MRVr_LIM i), 8, 8⟩
def F.MRVr_LIM_DFSH (i : Nat) : Fld := ⟨(Reg.MRVr_LIM i), 0, 4⟩
def Reg.MRVr_B0 (i : Nat) : Nat := 0x40040140 + i * 0x100
def F.MRVr_B0_B (i : Nat) : Fld := ⟨(Reg.MRVr_B0 i), 0, 32⟩
def Reg.MRVr_B1 (i : Nat) : Nat := 0x40040144 + i * 0x100
def F.MRVr_B1_B (i : Nat) : Fld := ⟨(Reg.MRVr_B1 i), 0, 32⟩
def Reg.MRVr_B2 (i : Nat) : Nat := 0x40040148 + i * 0x100
def F.MRVr_B2_B (i : Nat) : Fld := ⟨(Reg.MRVr_B2 i), 0, 32⟩
def Reg.MRVr_B3 (i : Nat) : Nat := 0x4004014C + i * 0x100
def F.MRVr_B3_B (i : Nat) : Fld := ⟨(Reg.MRVr_B3 i), 0, 32⟩
def Reg.MRVr_A1 (i : Nat) : Nat := 0x40040150 + i * 0x100
def F.MRVr_A1_A (i : Nat) : Fld := ⟨(Reg.MRVr_A1 i), 0, 24⟩
def Reg.MRVr_A2 (i : Nat) : Nat := 0x40040154 + i * 0x100
def F.MRVr_A2_A (i : Nat) : Fld := ⟨(Reg.MRVr_A2 i), 0, 24⟩
def Reg.MRVr_BAL (i : Nat) : Nat := 0x40040158 + i * 0x100
def F.MRVr_BAL_BALMAX (i : Nat) : Fld := ⟨(Reg.MRVr_BAL i), 16, 12⟩
def F.MRVr_BAL_KBAL (i : Nat) : Fld := ⟨(Reg.MRVr_BAL i), 0, 8⟩
def Reg.MRVr_PH (i : Nat) : Nat := 0x4004015C + i * 0x100
def F.MRVr_PH_SHEDT (i : Nat) : Fld := ⟨(Reg.MRVr_PH i), 24, 8⟩
def F.MRVr_PH_SHEDHYS (i : Nat) : Fld := ⟨(Reg.MRVr_PH i), 16, 8⟩
def F.MRVr_PH_IPHASE (i : Nat) : Fld := ⟨(Reg.MRVr_PH i), 8, 8⟩
def F.MRVr_PH_NMIN (i : Nat) : Fld := ⟨(Reg.MRVr_PH i), 0, 5⟩
def Reg.MRVr_GL (i : Nat) : Nat := 0x40040160 + i * 0x100
def F.MRVr_GL_GLHOLD (i : Nat) : Fld := ⟨(Reg.MRVr_GL i), 25, 6⟩
def F.MRVr_GL_GLALL (i : Nat) : Fld := ⟨(Reg.MRVr_GL i), 24, 1⟩
def F.MRVr_GL_GLMAX (i : Nat) : Fld := ⟨(Reg.MRVr_GL i), 16, 8⟩
def F.MRVr_GL_GLSTAG (i : Nat) : Fld := ⟨(Reg.MRVr_GL i), 8, 4⟩
def F.MRVr_GL_GLN (i : Nat) : Fld := ⟨(Reg.MRVr_GL i), 0, 5⟩
def Reg.MRVr_UPD (i : Nat) : Nat := 0x40040164 + i * 0x100
def F.MRVr_UPD_PEND (i : Nat) : Fld := ⟨(Reg.MRVr_UPD i), 8, 1⟩
def F.MRVr_UPD_HOLD (i : Nat) : Fld := ⟨(Reg.MRVr_UPD i), 0, 1⟩
def Reg.MRVr_STAT (i : Nat) : Nat := 0x40040168 + i * 0x100
def F.MRVr_STAT_FFSTALE (i : Nat) : Fld := ⟨(Reg.MRVr_STAT i), 26, 1⟩
def F.MRVr_STAT_OVBLK (i : Nat) : Fld := ⟨(Reg.MRVr_STAT i), 25, 1⟩
def F.MRVr_STAT_GLACT (i : Nat) : Fld := ⟨(Reg.MRVr_STAT i), 24, 1⟩
def F.MRVr_STAT_NCMD (i : Nat) : Fld := ⟨(Reg.MRVr_STAT i), 16, 5⟩
def F.MRVr_STAT_N (i : Nat) : Fld := ⟨(Reg.MRVr_STAT i), 8, 5⟩
def F.MRVr_STAT_STATE (i : Nat) : Fld := ⟨(Reg.MRVr_STAT i), 0, 3⟩
def Reg.MRVr_DUTY (i : Nat) : Nat := 0x4004016C + i * 0x100
def F.MRVr_DUTY_D (i : Nat) : Fld := ⟨(Reg.MRVr_DUTY i), 0, 24⟩
def Reg.MRVr_ILF (i : Nat) : Nat := 0x40040170 + i * 0x100
def F.MRVr_ILF_VT (i : Nat) : Fld := ⟨(Reg.MRVr_ILF i), 16, 16⟩
def F.MRVr_ILF_IF (i : Nat) : Fld := ⟨(Reg.MRVr_ILF i), 0, 16⟩
def Reg.MRVr_GLCNT (i : Nat) : Nat := 0x40040174 + i * 0x100
def F.MRVr_GLCNT_OV (i : Nat) : Fld := ⟨(Reg.MRVr_GLCNT i), 16, 16⟩
def F.MRVr_GLCNT_EP (i : Nat) : Fld := ⟨(Reg.MRVr_GLCNT i), 0, 16⟩
def Reg.MRVr_BALTRIMk (i : Nat) (j : Nat) : Nat := 0x40040180 + i * 0x100 + j * 0x4
def F.MRVr_BALTRIMk_BAL (i : Nat) (j : Nat) : Fld := ⟨(Reg.MRVr_BALTRIMk i j), 0, 13⟩
/-! PROT registers (spec/05_protection.md) -/
def Reg.PROT_CTL : Nat := 0x40050000
def F.PROT_CTL_EXPERT : Fld := ⟨Reg.PROT_CTL, 31, 1⟩
def Reg.PROT_FLT : Nat := 0x40050004
def F.PROT_FLT_RSTREF : Fld := ⟨Reg.PROT_FLT, 2, 1⟩
def F.PROT_FLT_CLRREF : Fld := ⟨Reg.PROT_FLT, 1, 1⟩
def F.PROT_FLT_BADRESP : Fld := ⟨Reg.PROT_FLT, 0, 1⟩
def Reg.PROT_ACT : Nat := 0x40050008
def F.PROT_ACT_TICKET : Fld := ⟨Reg.PROT_ACT, 24, 8⟩
def F.PROT_ACT_ARG : Fld := ⟨Reg.PROT_ACT, 8, 16⟩
def F.PROT_ACT_ACTION : Fld := ⟨Reg.PROT_ACT, 0, 8⟩
def Reg.PROT_OOS : Nat := 0x4005000C
def F.PROT_OOS_OOS : Fld := ⟨Reg.PROT_OOS, 0, 32⟩
def Reg.PROTr_RESP (i : Nat) : Nat := 0x40050100 + i * 0x40
def F.PROTr_RESP_RESP (i : Nat) : Fld := ⟨(Reg.PROTr_RESP i), 0, 30⟩
def Reg.PROTr_VTH (i : Nat) : Nat := 0x40050104 + i * 0x40
def F.PROTr_VTH_UVBLANK (i : Nat) : Fld := ⟨(Reg.PROTr_VTH i), 24, 8⟩
def F.PROTr_VTH_UVPERS (i : Nat) : Fld := ⟨(Reg.PROTr_VTH i), 16, 8⟩
def F.PROTr_VTH_OVPERS (i : Nat) : Fld := ⟨(Reg.PROTr_VTH i), 8, 8⟩
def F.PROTr_VTH_UVF (i : Nat) : Fld := ⟨(Reg.PROTr_VTH i), 0, 8⟩
def Reg.PROTr_ITH (i : Nat) : Nat := 0x40050108 + i * 0x40
def F.PROTr_ITH_LIMN (i : Nat) : Fld := ⟨(Reg.PROTr_ITH i), 28, 4⟩
def F.PROTr_ITH_ILIM (i : Nat) : Fld := ⟨(Reg.PROTr_ITH i), 16, 10⟩
def F.PROTr_ITH_ILHYS (i : Nat) : Fld := ⟨(Reg.PROTr_ITH i), 8, 8⟩
def F.PROTr_ITH_PHOC (i : Nat) : Fld := ⟨(Reg.PROTr_ITH i), 0, 8⟩
def Reg.PROTr_TTH (i : Nat) : Nat := 0x4005010C + i * 0x40
def F.PROTr_TTH_SFTH (i : Nat) : Fld := ⟨(Reg.PROTr_TTH i), 24, 8⟩
def F.PROTr_TTH_SFFILT (i : Nat) : Fld := ⟨(Reg.PROTr_TTH i), 20, 3⟩
def F.PROTr_TTH_OTHYS (i : Nat) : Fld := ⟨(Reg.PROTr_TTH i), 16, 4⟩
def F.PROTr_TTH_OTWTH (i : Nat) : Fld := ⟨(Reg.PROTr_TTH i), 8, 8⟩
def F.PROTr_TTH_OTTH (i : Nat) : Fld := ⟨(Reg.PROTr_TTH i), 0, 8⟩
def Reg.PROTr_TSCL (i : Nat) : Nat := 0x40050110 + i * 0x40
def F.PROTr_TSCL_SLOPE (i : Nat) : Fld := ⟨(Reg.PROTr_TSCL i), 16, 16⟩
def F.PROTr_TSCL_T0 (i : Nat) : Fld := ⟨(Reg.PROTr_TSCL i), 0, 16⟩
def Reg.PROTr_VIN (i : Nat) : Nat := 0x40050114 + i * 0x40
def F.PROTr_VIN_VINHYS (i : Nat) : Fld := ⟨(Reg.PROTr_VIN i), 8, 8⟩
def F.PROTr_VIN_VINUV (i : Nat) : Fld := ⟨(Reg.PROTr_VIN i), 0, 8⟩
def Reg.PROTr_HIC (i : Nat) : Nat := 0x40050118 + i * 0x40
def F.PROTr_HIC_ESC (i : Nat) : Fld := ⟨(Reg.PROTr_HIC i), 24, 1⟩
def F.PROTr_HIC_HICOK (i : Nat) : Fld := ⟨(Reg.PROTr_HIC i), 16, 8⟩
def F.PROTr_HIC_HICDLY (i : Nat) : Fld := ⟨(Reg.PROTr_HIC i), 8, 8⟩
def F.PROTr_HIC_HICN (i : Nat) : Fld := ⟨(Reg.PROTr_HIC i), 0, 4⟩
def Reg.PROTr_STAT (i : Nat) : Nat := 0x4005011C + i * 0x40
def F.PROTr_STAT_HCNT (i : Nat) : Fld := ⟨(Reg.PROTr_STAT i), 28, 4⟩
def F.PROTr_STAT_LCNT (i : Nat) : Fld := ⟨(Reg.PROTr_STAT i), 24, 4⟩
def F.PROTr_STAT_PSTATE (i : Nat) : Fld := ⟨(Reg.PROTr_STAT i), 20, 2⟩
def F.PROTr_STAT_TMLOW (i : Nat) : Fld := ⟨(Reg.PROTr_STAT i), 16, 1⟩
def F.PROTr_STAT_COND (i : Nat) : Fld := ⟨(Reg.PROTr_STAT i), 0, 10⟩
def Reg.PROTr_FLAG (i : Nat) : Nat := 0x40050120 + i * 0x40
def F.PROTr_FLAG_LATF (i : Nat) : Fld := ⟨(Reg.PROTr_FLAG i), 17, 1⟩
def F.PROTr_FLAG_ESCF (i : Nat) : Fld := ⟨(Reg.PROTr_FLAG i), 16, 1⟩
def F.PROTr_FLAG_DECL (i : Nat) : Fld := ⟨(Reg.PROTr_FLAG i), 0, 10⟩
def Reg.PROTr_CNT (i : Nat) : Nat := 0x40050124 + i * 0x40
def F.PROTr_CNT_LIMENG (i : Nat) : Fld := ⟨(Reg.PROTr_CNT i), 16, 16⟩
def F.PROTr_CNT_STOPS (i : Nat) : Fld := ⟨(Reg.PROTr_CNT i), 0, 16⟩
/-! EDGE registers (spec/06_edges.md) -/
def Reg.EDGE_CTL : Nat := 0x40060000
def F.EDGE_CTL_EXPERT : Fld := ⟨Reg.EDGE_CTL, 31, 1⟩
def Reg.EDGE_FLT : Nat := 0x40060004
def F.EDGE_FLT_MAPREF : Fld := ⟨Reg.EDGE_FLT, 8, 1⟩
def F.EDGE_FLT_BADMAP : Fld := ⟨Reg.EDGE_FLT, 4, 4⟩
def F.EDGE_FLT_ENREF : Fld := ⟨Reg.EDGE_FLT, 0, 4⟩
def Reg.EDGE_ACT : Nat := 0x40060008
def F.EDGE_ACT_TICKET : Fld := ⟨Reg.EDGE_ACT, 24, 8⟩
def F.EDGE_ACT_ARG : Fld := ⟨Reg.EDGE_ACT, 8, 16⟩
def F.EDGE_ACT_ACTION : Fld := ⟨Reg.EDGE_ACT, 0, 8⟩
def Reg.EDGE_PHST0 : Nat := 0x40060010
def F.EDGE_PHST0_PH : Fld := ⟨Reg.EDGE_PHST0, 0, 32⟩
def Reg.EDGE_PHST1 : Nat := 0x40060014
def F.EDGE_PHST1_PH : Fld := ⟨Reg.EDGE_PHST1, 0, 32⟩
def Reg.EDGE_PTRIMp (i : Nat) : Nat := 0x40060080 + i * 0x4
def F.EDGE_PTRIMp_TRIM (i : Nat) : Fld := ⟨(Reg.EDGE_PTRIMp i), 0, 8⟩
def Reg.EDGEr_CTL (i : Nat) : Nat := 0x40060100 + i * 0x100
def F.EDGEr_CTL_OFSMODE (i : Nat) : Fld := ⟨(Reg.EDGEr_CTL i), 12, 1⟩
def F.EDGEr_CTL_OFFMODE (i : Nat) : Fld := ⟨(Reg.EDGEr_CTL i), 8, 1⟩
def F.EDGEr_CTL_SPM (i : Nat) : Fld := ⟨(Reg.EDGEr_CTL i), 4, 2⟩
def F.EDGEr_CTL_EN (i : Nat) : Fld := ⟨(Reg.EDGEr_CTL i), 0, 1⟩
def Reg.EDGEr_TIME (i : Nat) : Nat := 0x40060104 + i * 0x100
def F.EDGEr_TIME_ENDLY (i : Nat) : Fld := ⟨(Reg.EDGEr_TIME i), 16, 8⟩
def F.EDGEr_TIME_MINOFF (i : Nat) : Fld := ⟨(Reg.EDGEr_TIME i), 8, 8⟩
def F.EDGEr_TIME_MINON (i : Nat) : Fld := ⟨(Reg.EDGEr_TIME i), 0, 8⟩
def Reg.EDGEr_OFS (i : Nat) : Nat := 0x40060108 + i * 0x100
def F.EDGEr_OFS_RAILOFS (i : Nat) : Fld := ⟨(Reg.EDGEr_OFS i), 0, 24⟩
def Reg.EDGEr_MAP (i : Nat) : Nat := 0x4006010C + i * 0x100
def F.EDGEr_MAP_M (i : Nat) : Fld := ⟨(Reg.EDGEr_MAP i), 0, 5⟩
def Reg.EDGEr_LISTj (i : Nat) (j : Nat) : Nat := 0x40060110 + i * 0x100 + j * 0x4
def F.EDGEr_LISTj_POS0 (i : Nat) (j : Nat) : Fld := ⟨(Reg.EDGEr_LISTj i j), 0, 5⟩
def F.EDGEr_LISTj_POS1 (i : Nat) (j : Nat) : Fld := ⟨(Reg.EDGEr_LISTj i j), 5, 5⟩
def F.EDGEr_LISTj_POS2 (i : Nat) (j : Nat) : Fld := ⟨(Reg.EDGEr_LISTj i j), 10, 5⟩
def F.EDGEr_LISTj_POS3 (i : Nat) (j : Nat) : Fld := ⟨(Reg.EDGEr_LISTj i j), 15, 5⟩
def F.EDGEr_LISTj_POS4 (i : Nat) (j : Nat) : Fld := ⟨(Reg.EDGEr_LISTj i j), 20, 5⟩
def F.EDGEr_LISTj_POS5 (i : Nat) (j : Nat) : Fld := ⟨(Reg.EDGEr_LISTj i j), 25, 5⟩
def Reg.EDGEr_FRZ (i : Nat) : Nat := 0x40060120 + i * 0x100
def F.EDGEr_FRZ_FRZTURNS (i : Nat) : Fld := ⟨(Reg.EDGEr_FRZ i), 0, 8⟩
def Reg.EDGEr_STAT (i : Nat) : Nat := 0x40060124 + i * 0x100
def F.EDGEr_STAT_FRZLEFT (i : Nat) : Fld := ⟨(Reg.EDGEr_STAT i), 16, 8⟩
def F.EDGEr_STAT_ENOUT (i : Nat) : Fld := ⟨(Reg.EDGEr_STAT i), 4, 1⟩
def F.EDGEr_STAT_FRZ (i : Nat) : Fld := ⟨(Reg.EDGEr_STAT i), 3, 1⟩
def F.EDGEr_STAT_ST (i : Nat) : Fld := ⟨(Reg.EDGEr_STAT i), 0, 3⟩
def Reg.EDGEr_CNT (i : Nat) : Nat := 0x40060128 + i * 0x100
def F.EDGEr_CNT_SKIP (i : Nat) : Fld := ⟨(Reg.EDGEr_CNT i), 16, 16⟩
def F.EDGEr_CNT_FRZ (i : Nat) : Fld := ⟨(Reg.EDGEr_CNT i), 8, 8⟩
def F.EDGEr_CNT_SHORT (i : Nat) : Fld := ⟨(Reg.EDGEr_CNT i), 0, 8⟩
def Reg.EDGEr_SLOTk (i : Nat) (j : Nat) : Nat := 0x40060180 + i * 0x100 + j * 0x4
def F.EDGEr_SLOTk_SLOT (i : Nat) (j : Nat) : Fld := ⟨(Reg.EDGEr_SLOTk i j), 0, 24⟩
/-! APRAM registers (spec/07_apram_link.md) -/
def Reg.APR_CTL : Nat := 0x40070000
def F.APR_CTL_EXPERT : Fld := ⟨Reg.APR_CTL, 31, 1⟩
def F.APR_CTL_TXPOL : Fld := ⟨Reg.APR_CTL, 8, 1⟩
def F.APR_CTL_RXPOL : Fld := ⟨Reg.APR_CTL, 4, 2⟩
def F.APR_CTL_ONELANE : Fld := ⟨Reg.APR_CTL, 1, 1⟩
def F.APR_CTL_EN : Fld := ⟨Reg.APR_CTL, 0, 1⟩
def Reg.APR_LINK : Nat := 0x40070004
def F.APR_LINK_GAPTO : Fld := ⟨Reg.APR_LINK, 24, 8⟩
def F.APR_LINK_LINKTO : Fld := ⟨Reg.APR_LINK, 16, 8⟩
def F.APR_LINK_FLEN : Fld := ⟨Reg.APR_LINK, 0, 13⟩
def Reg.APR_TEL : Nat := 0x40070008
def F.APR_TEL_TELPER0 : Fld := ⟨Reg.APR_TEL, 0, 8⟩
def F.APR_TEL_TELPER1 : Fld := ⟨Reg.APR_TEL, 8, 8⟩
def F.APR_TEL_TELPER2 : Fld := ⟨Reg.APR_TEL, 16, 8⟩
def F.APR_TEL_TELPER3 : Fld := ⟨Reg.APR_TEL, 24, 8⟩
def Reg.APR_STAT : Nat := 0x4007000C
def F.APR_STAT_SKEW : Fld := ⟨Reg.APR_STAT, 16, 4⟩
def F.APR_STAT_SYNCD : Fld := ⟨Reg.APR_STAT, 8, 1⟩
def F.APR_STAT_LANE1 : Fld := ⟨Reg.APR_STAT, 6, 2⟩
def F.APR_STAT_LANE0 : Fld := ⟨Reg.APR_STAT, 4, 2⟩
def F.APR_STAT_LINK : Fld := ⟨Reg.APR_STAT, 0, 3⟩
def Reg.APR_FLT : Nat := 0x40070010
def F.APR_FLT_SLIP : Fld := ⟨Reg.APR_FLT, 3, 1⟩
def F.APR_FLT_LANELOSS : Fld := ⟨Reg.APR_FLT, 2, 1⟩
def F.APR_FLT_FLENERR : Fld := ⟨Reg.APR_FLT, 1, 1⟩
def F.APR_FLT_SKEW : Fld := ⟨Reg.APR_FLT, 0, 1⟩
def Reg.APR_ACT : Nat := 0x40070014
def F.APR_ACT_TICKET : Fld := ⟨Reg.APR_ACT, 24, 8⟩
def F.APR_ACT_ARG : Fld := ⟨Reg.APR_ACT, 8, 16⟩
def F.APR_ACT_ACTION : Fld := ⟨Reg.APR_ACT, 0, 8⟩
def Reg.APR_SEQ : Nat := 0x40070018
def F.APR_SEQ_GAPID : Fld := ⟨Reg.APR_SEQ, 24, 8⟩
def F.APR_SEQ_H : Fld := ⟨Reg.APR_SEQ, 0, 16⟩
def Reg.APR_BMAP : Nat := 0x4007001C
def F.APR_BMAP_BM : Fld := ⟨Reg.APR_BMAP, 0, 32⟩
def Reg.APR_CNT0 : Nat := 0x40070020
def F.APR_CNT0_LOST : Fld := ⟨Reg.APR_CNT0, 16, 16⟩
def F.APR_CNT0_DUP : Fld := ⟨Reg.APR_CNT0, 0, 16⟩
def Reg.APR_CNT1 : Nat := 0x40070024
def F.APR_CNT1_HDRERR : Fld := ⟨Reg.APR_CNT1, 16, 16⟩
def F.APR_CNT1_CRCERR : Fld := ⟨Reg.APR_CNT1, 0, 16⟩
def Reg.APR_CNT2 : Nat := 0x40070028
def F.APR_CNT2_BADFRM : Fld := ⟨Reg.APR_CNT2, 16, 8⟩
def F.APR_CNT2_UNKTYPE : Fld := ⟨Reg.APR_CNT2, 8, 8⟩
def F.APR_CNT2_SLIP : Fld := ⟨Reg.APR_CNT2, 0, 8⟩
def Reg.PARr_CTL (i : Nat) : Nat := 0x40070100 + i * 0x20
def F.PARr_CTL_CONFMIN (i : Nat) : Fld := ⟨(Reg.PARr_CTL i), 8, 8⟩
def F.PARr_CTL_PSCALE (i : Nat) : Fld := ⟨(Reg.PARr_CTL i), 5, 1⟩
def F.PARr_CTL_PARN (i : Nat) : Fld := ⟨(Reg.PARr_CTL i), 4, 1⟩
def F.PARr_CTL_EN (i : Nat) : Fld := ⟨(Reg.PARr_CTL i), 0, 1⟩
def Reg.PARr_PLANT (i : Nat) : Nat := 0x40070104 + i * 0x20
def F.PARr_PLANT_PDMAX (i : Nat) : Fld := ⟨(Reg.PARr_PLANT i), 16, 12⟩
def F.PARr_PLANT_LPH (i : Nat) : Fld := ⟨(Reg.PARr_PLANT i), 0, 12⟩
def Reg.PARr_TIME (i : Nat) : Nat := 0x40070108 + i * 0x20
def F.PARr_TIME_APPWIN (i : Nat) : Fld := ⟨(Reg.PARr_TIME i), 16, 12⟩
def F.PARr_TIME_PTAU (i : Nat) : Fld := ⟨(Reg.PARr_TIME i), 8, 8⟩
def F.PARr_TIME_PRELEAD (i : Nat) : Fld := ⟨(Reg.PARr_TIME i), 0, 8⟩
def Reg.PARr_GUARD (i : Nat) : Nat := 0x4007010C + i * 0x20
def F.PARr_GUARD_PMAXR (i : Nat) : Fld := ⟨(Reg.PARr_GUARD i), 16, 12⟩
def F.PARr_GUARD_UNWTH (i : Nat) : Fld := ⟨(Reg.PARr_GUARD i), 0, 8⟩
def Reg.PARr_STAT (i : Nat) : Nat := 0x40070110 + i * 0x20
def F.PARr_STAT_SEQ (i : Nat) : Fld := ⟨(Reg.PARr_STAT i), 16, 16⟩
def F.PARr_STAT_NPAR (i : Nat) : Fld := ⟨(Reg.PARr_STAT i), 8, 5⟩
def F.PARr_STAT_PEND (i : Nat) : Fld := ⟨(Reg.PARr_STAT i), 3, 1⟩
def F.PARr_STAT_STATE (i : Nat) : Fld := ⟨(Reg.PARr_STAT i), 0, 3⟩
def Reg.PARr_P (i : Nat) : Nat := 0x40070114 + i * 0x20
def F.PARr_P_P (i : Nat) : Fld := ⟨(Reg.PARr_P i), 0, 26⟩
def Reg.PARr_IREF (i : Nat) : Nat := 0x40070118 + i * 0x20
def F.PARr_IREF_IREF (i : Nat) : Fld := ⟨(Reg.PARr_IREF i), 0, 16⟩
def Reg.PARr_CNT (i : Nat) : Nat := 0x4007011C + i * 0x20
def F.PARr_CNT_SUPER (i : Nat) : Fld := ⟨(Reg.PARr_CNT i), 24, 8⟩
def F.PARr_CNT_DROP (i : Nat) : Fld := ⟨(Reg.PARr_CNT i), 16, 8⟩
def F.PARr_CNT_UNW (i : Nat) : Fld := ⟨(Reg.PARr_CNT i), 8, 8⟩
def F.PARr_CNT_ARMED (i : Nat) : Fld := ⟨(Reg.PARr_CNT i), 0, 8⟩
/-! CNT registers (spec/08_counters_events.md) -/
def Reg.CNT_CTL : Nat := 0x40080000
def F.CNT_CTL_EXPERT : Fld := ⟨Reg.CNT_CTL, 31, 1⟩
def Reg.CNT_FLT : Nat := 0x40080004
def F.CNT_FLT_RUNWR : Fld := ⟨Reg.CNT_FLT, 0, 1⟩
def Reg.CNT_ACT : Nat := 0x40080008
def F.CNT_ACT_TICKET : Fld := ⟨Reg.CNT_ACT, 24, 8⟩
def F.CNT_ACT_ARG : Fld := ⟨Reg.CNT_ACT, 8, 16⟩
def F.CNT_ACT_ACTION : Fld := ⟨Reg.CNT_ACT, 0, 8⟩
def Reg.CUn_CTL (i : Nat) : Nat := 0x40080100 + i * 0x40
def F.CUn_CTL_SINKACT (i : Nat) : Fld := ⟨(Reg.CUn_CTL i), 12, 3⟩
def F.CUn_CTL_DOM (i : Nat) : Fld := ⟨(Reg.CUn_CTL i), 8, 3⟩
def F.CUn_CTL_DIRMODE (i : Nat) : Fld := ⟨(Reg.CUn_CTL i), 6, 1⟩
def F.CUn_CTL_LOADMODE (i : Nat) : Fld := ⟨(Reg.CUn_CTL i), 5, 1⟩
def F.CUn_CTL_CLK (i : Nat) : Fld := ⟨(Reg.CUn_CTL i), 4, 1⟩
def F.CUn_CTL_ONESHOT (i : Nat) : Fld := ⟨(Reg.CUn_CTL i), 3, 1⟩
def F.CUn_CTL_MBSRC (i : Nat) : Fld := ⟨(Reg.CUn_CTL i), 2, 1⟩
def F.CUn_CTL_EN (i : Nat) : Fld := ⟨(Reg.CUn_CTL i), 0, 1⟩
def Reg.CUn_COUNT (i : Nat) : Nat := 0x40080104 + i * 0x40
def F.CUn_COUNT_COUNT (i : Nat) : Fld := ⟨(Reg.CUn_COUNT i), 0, 32⟩
def Reg.CUn_MATCHA (i : Nat) : Nat := 0x40080108 + i * 0x40
def F.CUn_MATCHA_MATCH (i : Nat) : Fld := ⟨(Reg.CUn_MATCHA i), 0, 32⟩
def Reg.CUn_MATCHB (i : Nat) : Nat := 0x4008010C + i * 0x40
def F.CUn_MATCHB_MATCH (i : Nat) : Fld := ⟨(Reg.CUn_MATCHB i), 0, 32⟩
def Reg.CUn_PERIOD (i : Nat) : Nat := 0x40080110 + i * 0x40
def F.CUn_PERIOD_PERIOD (i : Nat) : Fld := ⟨(Reg.CUn_PERIOD i), 0, 32⟩
def Reg.CUn_PERACT (i : Nat) : Nat := 0x40080114 + i * 0x40
def F.CUn_PERACT_PERACT (i : Nat) : Fld := ⟨(Reg.CUn_PERACT i), 0, 32⟩
def Reg.CUn_CAP (i : Nat) : Nat := 0x40080118 + i * 0x40
def F.CUn_CAP_CAP (i : Nat) : Fld := ⟨(Reg.CUn_CAP i), 0, 32⟩
def Reg.CUn_STAT (i : Nat) : Nat := 0x4008011C + i * 0x40
def F.CUn_STAT_PEND (i : Nat) : Fld := ⟨(Reg.CUn_STAT i), 8, 1⟩
def F.CUn_STAT_DN (i : Nat) : Fld := ⟨(Reg.CUn_STAT i), 7, 1⟩
def F.CUn_STAT_PMISS (i : Nat) : Fld := ⟨(Reg.CUn_STAT i), 6, 1⟩
def F.CUn_STAT_PF (i : Nat) : Fld := ⟨(Reg.CUn_STAT i), 5, 1⟩
def F.CUn_STAT_MBF (i : Nat) : Fld := ⟨(Reg.CUn_STAT i), 4, 1⟩
def F.CUn_STAT_MAF (i : Nat) : Fld := ⟨(Reg.CUn_STAT i), 3, 1⟩
def F.CUn_STAT_OVF (i : Nat) : Fld := ⟨(Reg.CUn_STAT i), 2, 1⟩
def F.CUn_STAT_CAPF (i : Nat) : Fld := ⟨(Reg.CUn_STAT i), 1, 1⟩
def F.CUn_STAT_RUN (i : Nat) : Fld := ⟨(Reg.CUn_STAT i), 0, 1⟩
def Reg.CUn_LINK (i : Nat) : Nat := 0x40080120 + i * 0x40
def F.CUn_LINK_TGT (i : Nat) : Fld := ⟨(Reg.CUn_LINK i), 24, 5⟩
def F.CUn_LINK_PTGT (i : Nat) : Fld := ⟨(Reg.CUn_LINK i), 10, 1⟩
def F.CUn_LINK_PACT (i : Nat) : Fld := ⟨(Reg.CUn_LINK i), 8, 2⟩
def F.CUn_LINK_BTGT (i : Nat) : Fld := ⟨(Reg.CUn_LINK i), 6, 1⟩
def F.CUn_LINK_BACT (i : Nat) : Fld := ⟨(Reg.CUn_LINK i), 4, 2⟩
def F.CUn_LINK_ATGT (i : Nat) : Fld := ⟨(Reg.CUn_LINK i), 2, 1⟩
def F.CUn_LINK_AACT (i : Nat) : Fld := ⟨(Reg.CUn_LINK i), 0, 2⟩
def Reg.CUn_CAPPK (i : Nat) : Nat := 0x40080124 + i * 0x40
def F.CUn_CAPPK_CAP (i : Nat) : Fld := ⟨(Reg.CUn_CAPPK i), 0, 32⟩
/-! EVM registers (spec/08_counters_events.md) -/
def Reg.EVM_CTL : Nat := 0x40090000
def F.EVM_CTL_EXPERT : Fld := ⟨Reg.EVM_CTL, 31, 1⟩
def Reg.EVM_FLT : Nat := 0x40090004
def F.EVM_FLT_MODEREF : Fld := ⟨Reg.EVM_FLT, 1, 1⟩
def F.EVM_FLT_SNKREF : Fld := ⟨Reg.EVM_FLT, 0, 1⟩
def Reg.EVM_ACT : Nat := 0x40090008
def F.EVM_ACT_TICKET : Fld := ⟨Reg.EVM_ACT, 24, 8⟩
def F.EVM_ACT_ARG : Fld := ⟨Reg.EVM_ACT, 8, 16⟩
def F.EVM_ACT_ACTION : Fld := ⟨Reg.EVM_ACT, 0, 8⟩
def Reg.EVM_REF : Nat := 0x4009000C
def F.EVM_REF_REF : Fld := ⟨Reg.EVM_REF, 0, 32⟩
def Reg.EVM_EVOCTL : Nat := 0x40090010
def F.EVM_EVOCTL_WIDTH : Fld := ⟨Reg.EVM_EVOCTL, 8, 8⟩
def F.EVM_EVOCTL_TOGGLE : Fld := ⟨Reg.EVM_EVOCTL, 0, 8⟩
def Reg.EVM_FAST : Nat := 0x40090014
def F.EVM_FAST_FAST : Fld := ⟨Reg.EVM_FAST, 0, 16⟩
def Reg.EVM_SRCENs (i : Nat) : Nat := 0x40090100 + i * 0x4
def F.EVM_SRCENs_CH (i : Nat) : Fld := ⟨(Reg.EVM_SRCENs i), 0, 32⟩
def Reg.EVM_CHc_CTL (i : Nat) : Nat := 0x40090400 + i * 0x20
def F.EVM_CHc_CTL_MODE (i : Nat) : Fld := ⟨(Reg.EVM_CHc_CTL i), 1, 1⟩
def F.EVM_CHc_CTL_EN (i : Nat) : Fld := ⟨(Reg.EVM_CHc_CTL i), 0, 1⟩
def Reg.EVM_CHc_CNT (i : Nat) : Nat := 0x40090404 + i * 0x20
def F.EVM_CHc_CNT_CNT (i : Nat) : Fld := ⟨(Reg.EVM_CHc_CNT i), 0, 16⟩
def Reg.EVM_CHc_SNKj (i : Nat) (j : Nat) : Nat := 0x40090410 + i * 0x20 + j * 0x4
def F.EVM_CHc_SNKj_SNK (i : Nat) (j : Nat) : Fld := ⟨(Reg.EVM_CHc_SNKj i j), 0, 32⟩
/-! TRIO registers (spec/11_trio.md) -/
def Reg.TRIO_CTL : Nat := 0x400A0000
def F.TRIO_CTL_EXPERT : Fld := ⟨Reg.TRIO_CTL, 31, 1⟩
def Reg.TRIO_CKCFG : Nat := 0x400A0004
def F.TRIO_CKCFG_ROLLMAX : Fld := ⟨Reg.TRIO_CKCFG, 16, 4⟩
def F.TRIO_CKCFG_INTV : Fld := ⟨Reg.TRIO_CKCFG, 0, 16⟩
def Reg.TRIO_ACT : Nat := 0x400A0008
def F.TRIO_ACT_TICKET : Fld := ⟨Reg.TRIO_ACT, 24, 8⟩
def F.TRIO_ACT_ARG : Fld := ⟨Reg.TRIO_ACT, 8, 16⟩
def F.TRIO_ACT_ACTION : Fld := ⟨Reg.TRIO_ACT, 0, 8⟩
def Reg.TRIO_STAT : Nat := 0x400A000C
def F.TRIO_STAT_LOGUSED : Fld := ⟨Reg.TRIO_STAT, 16, 15⟩
def F.TRIO_STAT_RBSEQ : Fld := ⟨Reg.TRIO_STAT, 8, 4⟩
def F.TRIO_STAT_SLOT : Fld := ⟨Reg.TRIO_STAT, 0, 1⟩
def Reg.TRIO_LAST : Nat := 0x400A0010
def F.TRIO_LAST_AGREE : Fld := ⟨Reg.TRIO_LAST, 16, 3⟩
def F.TRIO_LAST_DUR : Fld := ⟨Reg.TRIO_LAST, 0, 16⟩
def Reg.TRIO_CNT : Nat := 0x400A0014
def F.TRIO_CNT_HWCKPT : Fld := ⟨Reg.TRIO_CNT, 16, 16⟩
def F.TRIO_CNT_ROLLS : Fld := ⟨Reg.TRIO_CNT, 0, 16⟩
def Reg.TRIO_SLP : Nat := 0x400A0018
def F.TRIO_SLP_PDOWN : Fld := ⟨Reg.TRIO_SLP, 0, 1⟩
def Reg.TRIO_WDT : Nat := 0x400A001C
def F.TRIO_WDT_TO : Fld := ⟨Reg.TRIO_WDT, 0, 16⟩
def Reg.TRIO_IRQPENDj (i : Nat) : Nat := 0x400A0020 + i * 0x4
def F.TRIO_IRQPENDj_PEND (i : Nat) : Fld := ⟨(Reg.TRIO_IRQPENDj i), 0, 32⟩
def Reg.TRIO_IRQENj (i : Nat) : Nat := 0x400A0028 + i * 0x4
def F.TRIO_IRQENj_EN (i : Nat) : Fld := ⟨(Reg.TRIO_IRQENj i), 0, 32⟩
def Reg.TRIO_IRQCLRj (i : Nat) : Nat := 0x400A0030 + i * 0x4
def F.TRIO_IRQCLRj_CLR (i : Nat) : Fld := ⟨(Reg.TRIO_IRQCLRj i), 0, 32⟩
/-! LCS registers (spec/12_memory_lifecycle.md) -/
def Reg.LCS_CTL : Nat := 0x400B0000
def F.LCS_CTL_EXPERT : Fld := ⟨Reg.LCS_CTL, 31, 1⟩
def F.LCS_CTL_SCRUBDIV : Fld := ⟨Reg.LCS_CTL, 0, 8⟩
def Reg.LCS_STAT : Nat := 0x400B0004
def F.LCS_STAT_RETAUTH : Fld := ⟨Reg.LCS_STAT, 8, 1⟩
def F.LCS_STAT_OTPBUSY : Fld := ⟨Reg.LCS_STAT, 5, 1⟩
def F.LCS_STAT_WBUSY : Fld := ⟨Reg.LCS_STAT, 4, 1⟩
def F.LCS_STAT_STATE : Fld := ⟨Reg.LCS_STAT, 0, 3⟩
def Reg.LCS_ACT : Nat := 0x400B0008
def F.LCS_ACT_TICKET : Fld := ⟨Reg.LCS_ACT, 24, 8⟩
def F.LCS_ACT_ARG : Fld := ⟨Reg.LCS_ACT, 8, 16⟩
def F.LCS_ACT_ACTION : Fld := ⟨Reg.LCS_ACT, 0, 8⟩
def Reg.LCS_FLT : Nat := 0x400B000C
def F.LCS_FLT_BUSY : Fld := ⟨Reg.LCS_FLT, 4, 1⟩
def F.LCS_FLT_LCREF : Fld := ⟨Reg.LCS_FLT, 3, 1⟩
def F.LCS_FLT_OTPFAIL : Fld := ⟨Reg.LCS_FLT, 2, 1⟩
def F.LCS_FLT_OTPREF : Fld := ⟨Reg.LCS_FLT, 1, 1⟩
def Reg.LCS_OTPADDR : Nat := 0x400B0010
def F.LCS_OTPADDR_ADDR : Fld := ⟨Reg.LCS_OTPADDR, 0, 12⟩
def Reg.LCS_OTPDATA : Nat := 0x400B0014
def F.LCS_OTPDATA_DATA : Fld := ⟨Reg.LCS_OTPDATA, 0, 32⟩
def Reg.LCS_OTPWD : Nat := 0x400B0018
def F.LCS_OTPWD_WD : Fld := ⟨Reg.LCS_OTPWD, 0, 32⟩
def Reg.LCS_ECC : Nat := 0x400B001C
def F.LCS_ECC_UE : Fld := ⟨Reg.LCS_ECC, 16, 16⟩
def F.LCS_ECC_CE : Fld := ⟨Reg.LCS_ECC, 0, 16⟩
def Reg.LCS_ECCADDR : Nat := 0x400B0020
def F.LCS_ECCADDR_ADDR : Fld := ⟨Reg.LCS_ECCADDR, 0, 32⟩
def Reg.LCS_BOOT : Nat := 0x400B0024
def F.LCS_BOOT_RECOV : Fld := ⟨Reg.LCS_BOOT, 24, 3⟩
def F.LCS_BOOT_KSLOT : Fld := ⟨Reg.LCS_BOOT, 16, 2⟩
def F.LCS_BOOT_SECVER : Fld := ⟨Reg.LCS_BOOT, 8, 6⟩
def F.LCS_BOOT_SLOT : Fld := ⟨Reg.LCS_BOOT, 0, 2⟩
def Reg.LCS_WSTATL : Nat := 0x400B0028
def F.LCS_WSTATL_STAT : Fld := ⟨Reg.LCS_WSTATL, 0, 32⟩
def Reg.LCS_WSTATH : Nat := 0x400B002C
def F.LCS_WSTATH_STAT : Fld := ⟨Reg.LCS_WSTATH, 0, 32⟩
/-! XSPI registers (spec/12_memory_lifecycle.md) -/
def Reg.XSPI_CTL : Nat := 0x40160000
def F.XSPI_CTL_EXPERT : Fld := ⟨Reg.XSPI_CTL, 31, 1⟩
def F.XSPI_CTL_DUMMY : Fld := ⟨Reg.XSPI_CTL, 16, 5⟩
def F.XSPI_CTL_DIV : Fld := ⟨Reg.XSPI_CTL, 8, 4⟩
def F.XSPI_CTL_MODE : Fld := ⟨Reg.XSPI_CTL, 0, 1⟩
def Reg.XSPI_CMD : Nat := 0x40160004
def F.XSPI_CMD_DIR : Fld := ⟨Reg.XSPI_CMD, 31, 1⟩
def F.XSPI_CMD_DATAEN : Fld := ⟨Reg.XSPI_CMD, 25, 1⟩
def F.XSPI_CMD_ADDREN : Fld := ⟨Reg.XSPI_CMD, 24, 1⟩
def F.XSPI_CMD_LEN : Fld := ⟨Reg.XSPI_CMD, 16, 8⟩
def F.XSPI_CMD_OPCODE : Fld := ⟨Reg.XSPI_CMD, 0, 16⟩
def Reg.XSPI_ADDR : Nat := 0x40160008
def F.XSPI_ADDR_ADDR : Fld := ⟨Reg.XSPI_ADDR, 0, 32⟩
def Reg.XSPI_ACT : Nat := 0x4016000C
def F.XSPI_ACT_TICKET : Fld := ⟨Reg.XSPI_ACT, 24, 8⟩
def F.XSPI_ACT_ARG : Fld := ⟨Reg.XSPI_ACT, 8, 16⟩
def F.XSPI_ACT_ACTION : Fld := ⟨Reg.XSPI_ACT, 0, 8⟩
def Reg.XSPI_STAT : Nat := 0x40160010
def F.XSPI_STAT_BUSY : Fld := ⟨Reg.XSPI_STAT, 0, 1⟩
def Reg.XSPI_FLT : Nat := 0x40160014
def F.XSPI_FLT_BUSYREF : Fld := ⟨Reg.XSPI_FLT, 1, 1⟩
def F.XSPI_FLT_TMO : Fld := ⟨Reg.XSPI_FLT, 0, 1⟩
def Reg.XSPI_BUFi (i : Nat) : Nat := 0x40160100 + i * 0x4
def F.XSPI_BUFi_BUF (i : Nat) : Fld := ⟨(Reg.XSPI_BUFi i), 0, 32⟩
/-! CRYPTO registers (spec/12_memory_lifecycle.md) -/
def Reg.CRYPTO_CTL : Nat := 0x40170000
def F.CRYPTO_CTL_EXPERT : Fld := ⟨Reg.CRYPTO_CTL, 31, 1⟩
def Reg.CRYPTO_ACT : Nat := 0x40170004
def F.CRYPTO_ACT_TICKET : Fld := ⟨Reg.CRYPTO_ACT, 24, 8⟩
def F.CRYPTO_ACT_ARG : Fld := ⟨Reg.CRYPTO_ACT, 8, 16⟩
def F.CRYPTO_ACT_ACTION : Fld := ⟨Reg.CRYPTO_ACT, 0, 8⟩
def Reg.CRYPTO_FLT : Nat := 0x40170008
def F.CRYPTO_FLT_BUSY : Fld := ⟨Reg.CRYPTO_FLT, 0, 1⟩
def Reg.CRYPTO_VSTATL : Nat := 0x4017000C
def F.CRYPTO_VSTATL_STAT : Fld := ⟨Reg.CRYPTO_VSTATL, 0, 32⟩
def Reg.CRYPTO_VSTATH : Nat := 0x40170010
def F.CRYPTO_VSTATH_STAT : Fld := ⟨Reg.CRYPTO_VSTATH, 0, 32⟩
/-! HIF registers (spec/13_host_rings.md) -/
def Reg.HIF_CTL : Nat := 0x400C0000
def F.HIF_CTL_EXPERT : Fld := ⟨Reg.HIF_CTL, 31, 1⟩
def F.HIF_CTL_LOCK : Fld := ⟨Reg.HIF_CTL, 8, 1⟩
def F.HIF_CTL_ERRVEC : Fld := ⟨Reg.HIF_CTL, 0, 5⟩
def Reg.HIF_VID : Nat := 0x400C0004
def F.HIF_VID_DID : Fld := ⟨Reg.HIF_VID, 16, 16⟩
def F.HIF_VID_VID : Fld := ⟨Reg.HIF_VID, 0, 16⟩
def Reg.HIF_STAT : Nat := 0x400C0008
def F.HIF_STAT_QCNT : Fld := ⟨Reg.HIF_STAT, 16, 5⟩
def F.HIF_STAT_SPEED : Fld := ⟨Reg.HIF_STAT, 8, 4⟩
def F.HIF_STAT_WIDTH : Fld := ⟨Reg.HIF_STAT, 4, 4⟩
def F.HIF_STAT_LINKUP : Fld := ⟨Reg.HIF_STAT, 0, 1⟩
def Reg.HIF_FLT : Nat := 0x400C000C
def F.HIF_FLT_RINGERR : Fld := ⟨Reg.HIF_FLT, 2, 1⟩
def F.HIF_FLT_BADPOST : Fld := ⟨Reg.HIF_FLT, 1, 1⟩
def F.HIF_FLT_CFGREF : Fld := ⟨Reg.HIF_FLT, 0, 1⟩
def Reg.HIF_ACT : Nat := 0x400C0010
def F.HIF_ACT_TICKET : Fld := ⟨Reg.HIF_ACT, 24, 8⟩
def F.HIF_ACT_ARG : Fld := ⟨Reg.HIF_ACT, 8, 16⟩
def F.HIF_ACT_ACTION : Fld := ⟨Reg.HIF_ACT, 0, 8⟩
def Reg.HIF_TAKE : Nat := 0x400C0014
def F.HIF_TAKE_VALID : Fld := ⟨Reg.HIF_TAKE, 31, 1⟩
def F.HIF_TAKE_SLOT : Fld := ⟨Reg.HIF_TAKE, 16, 4⟩
def F.HIF_TAKE_RING : Fld := ⟨Reg.HIF_TAKE, 8, 3⟩
def Reg.HIF_CFG : Nat := 0x400C0018
def F.HIF_CFG_DMATRY : Fld := ⟨Reg.HIF_CFG, 8, 4⟩
def F.HIF_CFG_FETCHMAX : Fld := ⟨Reg.HIF_CFG, 0, 4⟩
def Reg.HIF_EVMVECj (i : Nat) : Nat := 0x400C0020 + i * 0x4
def F.HIF_EVMVECj_VEC0 (i : Nat) : Fld := ⟨(Reg.HIF_EVMVECj i), 0, 5⟩
def F.HIF_EVMVECj_VEC1 (i : Nat) : Fld := ⟨(Reg.HIF_EVMVECj i), 8, 5⟩
def F.HIF_EVMVECj_VEC2 (i : Nat) : Fld := ⟨(Reg.HIF_EVMVECj i), 16, 5⟩
def F.HIF_EVMVECj_VEC3 (i : Nat) : Fld := ⟨(Reg.HIF_EVMVECj i), 24, 5⟩
def Reg.HIF_SLOTs_Di (i : Nat) (j : Nat) : Nat := 0x400C0400 + i * 0x40 + j * 0x4
def F.HIF_SLOTs_Di_D (i : Nat) (j : Nat) : Fld := ⟨(Reg.HIF_SLOTs_Di i j), 0, 32⟩
def Reg.HIF_SLOTs_RES (i : Nat) : Nat := 0x400C0800 + i * 0x8
def F.HIF_SLOTs_RES_RES (i : Nat) : Fld := ⟨(Reg.HIF_SLOTs_RES i), 0, 32⟩
def Reg.HIF_SLOTs_ST (i : Nat) : Nat := 0x400C0804 + i * 0x8
def F.HIF_SLOTs_ST_ST (i : Nat) : Fld := ⟨(Reg.HIF_SLOTs_ST i), 0, 8⟩
def Reg.HIF_SLOTs_DATAi (i : Nat) (j : Nat) : Nat := 0x400C1000 + i * 0x200 + j * 0x4
def F.HIF_SLOTs_DATAi_DATA (i : Nat) (j : Nat) : Fld := ⟨(Reg.HIF_SLOTs_DATAi i j), 0, 32⟩
def Reg.HIF_SQn_CTL (i : Nat) : Nat := 0x400C3000 + i * 0x40
def F.HIF_SQn_CTL_OPCLS (i : Nat) : Fld := ⟨(Reg.HIF_SQn_CTL i), 24, 8⟩
def F.HIF_SQn_CTL_DOM (i : Nat) : Fld := ⟨(Reg.HIF_SQn_CTL i), 13, 3⟩
def F.HIF_SQn_CTL_PMODE (i : Nat) : Fld := ⟨(Reg.HIF_SQn_CTL i), 12, 1⟩
def F.HIF_SQn_CTL_CQ (i : Nat) : Fld := ⟨(Reg.HIF_SQn_CTL i), 8, 3⟩
def F.HIF_SQn_CTL_LOG2SIZE (i : Nat) : Fld := ⟨(Reg.HIF_SQn_CTL i), 4, 4⟩
def F.HIF_SQn_CTL_EN (i : Nat) : Fld := ⟨(Reg.HIF_SQn_CTL i), 0, 1⟩
def Reg.HIF_SQn_GEN (i : Nat) : Nat := 0x400C3004 + i * 0x40
def F.HIF_SQn_GEN_GEN (i : Nat) : Fld := ⟨(Reg.HIF_SQn_GEN i), 0, 16⟩
def Reg.HIF_SQn_BASEL (i : Nat) : Nat := 0x400C3008 + i * 0x40
def F.HIF_SQn_BASEL_ADDR (i : Nat) : Fld := ⟨(Reg.HIF_SQn_BASEL i), 0, 32⟩
def Reg.HIF_SQn_BASEH (i : Nat) : Nat := 0x400C300C + i * 0x40
def F.HIF_SQn_BASEH_ADDR (i : Nat) : Fld := ⟨(Reg.HIF_SQn_BASEH i), 0, 32⟩
def Reg.HIF_SQn_DBL (i : Nat) : Nat := 0x400C3010 + i * 0x40
def F.HIF_SQn_DBL_ADDR (i : Nat) : Fld := ⟨(Reg.HIF_SQn_DBL i), 0, 32⟩
def Reg.HIF_SQn_DBH (i : Nat) : Nat := 0x400C3014 + i * 0x40
def F.HIF_SQn_DBH_ADDR (i : Nat) : Fld := ⟨(Reg.HIF_SQn_DBH i), 0, 32⟩
def Reg.HIF_SQn_POLL (i : Nat) : Nat := 0x400C3018 + i * 0x40
def F.HIF_SQn_POLL_PERIOD (i : Nat) : Fld := ⟨(Reg.HIF_SQn_POLL i), 0, 12⟩
def Reg.HIF_SQn_STAMP (i : Nat) : Nat := 0x400C301C + i * 0x40
def F.HIF_SQn_STAMP_STAMP (i : Nat) : Fld := ⟨(Reg.HIF_SQn_STAMP i), 0, 32⟩
def Reg.HIF_SQn_STEP (i : Nat) : Nat := 0x400C3020 + i * 0x40
def F.HIF_SQn_STEP_STEP (i : Nat) : Fld := ⟨(Reg.HIF_SQn_STEP i), 0, 32⟩
def Reg.HIF_SQn_CI0 (i : Nat) : Nat := 0x400C3024 + i * 0x40
def F.HIF_SQn_CI0_CI0 (i : Nat) : Fld := ⟨(Reg.HIF_SQn_CI0 i), 0, 16⟩
def Reg.HIF_SQn_STAT (i : Nat) : Nat := 0x400C3028 + i * 0x40
def F.HIF_SQn_STAT_CAUSE (i : Nat) : Fld := ⟨(Reg.HIF_SQn_STAT i), 28, 4⟩
def F.HIF_SQn_STAT_STATE (i : Nat) : Fld := ⟨(Reg.HIF_SQn_STAT i), 24, 2⟩
def F.HIF_SQn_STAT_CI (i : Nat) : Fld := ⟨(Reg.HIF_SQn_STAT i), 0, 16⟩
def Reg.HIF_SQn_CNT (i : Nat) : Nat := 0x400C302C + i * 0x40
def F.HIF_SQn_CNT_DUP (i : Nat) : Fld := ⟨(Reg.HIF_SQn_CNT i), 16, 16⟩
def F.HIF_SQn_CNT_PTMO (i : Nat) : Fld := ⟨(Reg.HIF_SQn_CNT i), 0, 16⟩
def Reg.HIF_CQm_CTL (i : Nat) : Nat := 0x400C3200 + i * 0x20
def F.HIF_CQm_CTL_VEC (i : Nat) : Fld := ⟨(Reg.HIF_CQm_CTL i), 8, 5⟩
def F.HIF_CQm_CTL_LOG2SIZE (i : Nat) : Fld := ⟨(Reg.HIF_CQm_CTL i), 4, 4⟩
def F.HIF_CQm_CTL_EN (i : Nat) : Fld := ⟨(Reg.HIF_CQm_CTL i), 0, 1⟩
def Reg.HIF_CQm_BASEL (i : Nat) : Nat := 0x400C3204 + i * 0x20
def F.HIF_CQm_BASEL_ADDR (i : Nat) : Fld := ⟨(Reg.HIF_CQm_BASEL i), 0, 32⟩
def Reg.HIF_CQm_BASEH (i : Nat) : Nat := 0x400C3208 + i * 0x20
def F.HIF_CQm_BASEH_ADDR (i : Nat) : Fld := ⟨(Reg.HIF_CQm_BASEH i), 0, 32⟩
def Reg.HIF_CQm_CONSL (i : Nat) : Nat := 0x400C320C + i * 0x20
def F.HIF_CQm_CONSL_ADDR (i : Nat) : Fld := ⟨(Reg.HIF_CQm_CONSL i), 0, 32⟩
def Reg.HIF_CQm_CONSH (i : Nat) : Nat := 0x400C3210 + i * 0x20
def F.HIF_CQm_CONSH_ADDR (i : Nat) : Fld := ⟨(Reg.HIF_CQm_CONSH i), 0, 32⟩
def Reg.HIF_CQm_STAT (i : Nat) : Nat := 0x400C3214 + i * 0x20
def F.HIF_CQm_STAT_STATE (i : Nat) : Fld := ⟨(Reg.HIF_CQm_STAT i), 24, 2⟩
def F.HIF_CQm_STAT_PHASE (i : Nat) : Fld := ⟨(Reg.HIF_CQm_STAT i), 16, 1⟩
def F.HIF_CQm_STAT_PI (i : Nat) : Fld := ⟨(Reg.HIF_CQm_STAT i), 0, 16⟩
def Reg.HIF_OR_CTL (i : Nat) : Nat := 0x400C3300 + i * 0x80
def F.HIF_OR_CTL_IRQSH (i : Nat) : Fld := ⟨(Reg.HIF_OR_CTL i), 28, 4⟩
def F.HIF_OR_CTL_VEC (i : Nat) : Fld := ⟨(Reg.HIF_OR_CTL i), 16, 5⟩
def F.HIF_OR_CTL_LOG2SIZE (i : Nat) : Fld := ⟨(Reg.HIF_OR_CTL i), 8, 5⟩
def F.HIF_OR_CTL_EN (i : Nat) : Fld := ⟨(Reg.HIF_OR_CTL i), 0, 1⟩
def Reg.HIF_OR_BASEL (i : Nat) : Nat := 0x400C3304 + i * 0x80
def F.HIF_OR_BASEL_ADDR (i : Nat) : Fld := ⟨(Reg.HIF_OR_BASEL i), 0, 32⟩
def Reg.HIF_OR_BASEH (i : Nat) : Nat := 0x400C3308 + i * 0x80
def F.HIF_OR_BASEH_ADDR (i : Nat) : Fld := ⟨(Reg.HIF_OR_BASEH i), 0, 32⟩
def Reg.HIF_OR_CONSL (i : Nat) : Nat := 0x400C330C + i * 0x80
def F.HIF_OR_CONSL_ADDR (i : Nat) : Fld := ⟨(Reg.HIF_OR_CONSL i), 0, 32⟩
def Reg.HIF_OR_CONSH (i : Nat) : Nat := 0x400C3310 + i * 0x80
def F.HIF_OR_CONSH_ADDR (i : Nat) : Fld := ⟨(Reg.HIF_OR_CONSH i), 0, 32⟩
def Reg.HIF_OR_STAT (i : Nat) : Nat := 0x400C3314 + i * 0x80
def F.HIF_OR_STAT_STATE (i : Nat) : Fld := ⟨(Reg.HIF_OR_STAT i), 24, 2⟩
def F.HIF_OR_STAT_PI (i : Nat) : Fld := ⟨(Reg.HIF_OR_STAT i), 0, 16⟩
def Reg.HIF_TEL_MODE : Nat := 0x400C3318
def F.HIF_TEL_MODE_PMODE : Fld := ⟨Reg.HIF_TEL_MODE, 27, 1⟩
def F.HIF_TEL_MODE_DOM : Fld := ⟨Reg.HIF_TEL_MODE, 24, 3⟩
def F.HIF_TEL_MODE_PERIOD : Fld := ⟨Reg.HIF_TEL_MODE, 0, 20⟩
def Reg.HIF_TEL_STAMP : Nat := 0x400C331C
def F.HIF_TEL_STAMP_STAMP : Fld := ⟨Reg.HIF_TEL_STAMP, 0, 32⟩
def Reg.HIF_TEL_STEP : Nat := 0x400C3320
def F.HIF_TEL_STEP_STEP : Fld := ⟨Reg.HIF_TEL_STEP, 0, 32⟩
def Reg.HIF_LOPk_STATL (i : Nat) : Nat := 0x400C3400 + i * 0x20
def F.HIF_LOPk_STATL_STAT (i : Nat) : Fld := ⟨(Reg.HIF_LOPk_STATL i), 0, 32⟩
def Reg.HIF_LOPk_STATH (i : Nat) : Nat := 0x400C3404 + i * 0x20
def F.HIF_LOPk_STATH_STAT (i : Nat) : Fld := ⟨(Reg.HIF_LOPk_STATH i), 0, 32⟩
/-! MBX registers (spec/14_mailboxes.md) -/
def Reg.MBX_CTL : Nat := 0x400D0000
def F.MBX_CTL_EXPERT : Fld := ⟨Reg.MBX_CTL, 31, 1⟩
def F.MBX_CTL_CFGLK : Fld := ⟨Reg.MBX_CTL, 8, 1⟩
def Reg.MBX_ACT : Nat := 0x400D0008
def F.MBX_ACT_TICKET : Fld := ⟨Reg.MBX_ACT, 24, 8⟩
def F.MBX_ACT_ARG : Fld := ⟨Reg.MBX_ACT, 8, 16⟩
def F.MBX_ACT_ACTION : Fld := ⟨Reg.MBX_ACT, 0, 8⟩
def Reg.MBX_LOCKTO : Nat := 0x400D000C
def F.MBX_LOCKTO_LOCKTO : Fld := ⟨Reg.MBX_LOCKTO, 0, 10⟩
def Reg.MBX_FULL : Nat := 0x400D0010
def F.MBX_FULL_FULL : Fld := ⟨Reg.MBX_FULL, 0, 16⟩
def Reg.MBX_CNT : Nat := 0x400D0014
def F.MBX_CNT_DENY : Fld := ⟨Reg.MBX_CNT, 16, 8⟩
def F.MBX_CNT_SREF : Fld := ⟨Reg.MBX_CNT, 8, 8⟩
def F.MBX_CNT_WREF : Fld := ⟨Reg.MBX_CNT, 0, 8⟩
def Reg.MBk_CFG (i : Nat) : Nat := 0x400D0100 + i * 0x80
def F.MBk_CFG_RECV (i : Nat) : Fld := ⟨Reg.MBk_CFG i, 16, 3⟩
def F.MBk_CFG_SENDER (i : Nat) : Fld := ⟨Reg.MBk_CFG i, 8, 3⟩
def F.MBk_CFG_NOTIFY (i : Nat) : Fld := ⟨Reg.MBk_CFG i, 0, 1⟩
def Reg.MBk_LOCK (i : Nat) : Nat := 0x400D0104 + i * 0x80
def F.MBk_LOCK_OWNER (i : Nat) : Fld := ⟨(Reg.MBk_LOCK i), 0, 3⟩
def Reg.MBk_SEND (i : Nat) : Nat := 0x400D0108 + i * 0x80
def F.MBk_SEND_TICKET (i : Nat) : Fld := ⟨(Reg.MBk_SEND i), 24, 8⟩
def F.MBk_SEND_ARG (i : Nat) : Fld := ⟨(Reg.MBk_SEND i), 8, 16⟩
def F.MBk_SEND_ACTION (i : Nat) : Fld := ⟨(Reg.MBk_SEND i), 0, 8⟩
def Reg.MBk_TAKE (i : Nat) : Nat := 0x400D010C + i * 0x80
def F.MBk_TAKE_FULL (i : Nat) : Fld := ⟨(Reg.MBk_TAKE i), 31, 1⟩
def F.MBk_TAKE_LEN (i : Nat) : Fld := ⟨(Reg.MBk_TAKE i), 16, 5⟩
def F.MBk_TAKE_SENDER (i : Nat) : Fld := ⟨(Reg.MBk_TAKE i), 8, 3⟩
def Reg.MBk_STAT (i : Nat) : Nat := 0x400D0110 + i * 0x80
def F.MBk_STAT_LEN (i : Nat) : Fld := ⟨(Reg.MBk_STAT i), 16, 5⟩
def F.MBk_STAT_SENDER (i : Nat) : Fld := ⟨(Reg.MBk_STAT i), 8, 3⟩
def F.MBk_STAT_OWNER (i : Nat) : Fld := ⟨(Reg.MBk_STAT i), 4, 3⟩
def F.MBk_STAT_FULL (i : Nat) : Fld := ⟨(Reg.MBk_STAT i), 0, 1⟩
def Reg.MBk_DATAi (i : Nat) (j : Nat) : Nat := 0x400D0140 + i * 0x80 + j * 0x4
def F.MBk_DATAi_DATA (i : Nat) (j : Nat) : Fld := ⟨(Reg.MBk_DATAi i j), 0, 32⟩
/-! TW registers (spec/15_two_wire_avs.md) -/
def Reg.TW_CTL : Nat := 0x400E0000
def F.TW_CTL_EXPERT : Fld := ⟨Reg.TW_CTL, 31, 1⟩
def Reg.TW_ACT : Nat := 0x400E0008
def F.TW_ACT_TICKET : Fld := ⟨Reg.TW_ACT, 24, 8⟩
def F.TW_ACT_ARG : Fld := ⟨Reg.TW_ACT, 8, 16⟩
def F.TW_ACT_ACTION : Fld := ⟨Reg.TW_ACT, 0, 8⟩
def Reg.TWn_CTL (i : Nat) : Nat := 0x400E1000 + i * 0x1000
def F.TWn_CTL_WRAPSH (i : Nat) : Fld := ⟨(Reg.TWn_CTL i), 16, 4⟩
def F.TWn_CTL_PECREQ (i : Nat) : Fld := ⟨(Reg.TWn_CTL i), 12, 1⟩
def F.TWn_CTL_ATTNMODE (i : Nat) : Fld := ⟨(Reg.TWn_CTL i), 8, 2⟩
def F.TWn_CTL_SPEED (i : Nat) : Fld := ⟨(Reg.TWn_CTL i), 4, 2⟩
def F.TWn_CTL_PERS (i : Nat) : Fld := ⟨(Reg.TWn_CTL i), 0, 3⟩
def Reg.TWn_ADDR (i : Nat) : Nat := 0x400E1004 + i * 0x1000
def F.TWn_ADDR_ADDR (i : Nat) : Fld := ⟨(Reg.TWn_ADDR i), 0, 7⟩
def Reg.TWn_TIM0 (i : Nat) : Nat := 0x400E1008 + i * 0x1000
def F.TWn_TIM0_THIGH (i : Nat) : Fld := ⟨(Reg.TWn_TIM0 i), 16, 11⟩
def F.TWn_TIM0_TLOW (i : Nat) : Fld := ⟨(Reg.TWn_TIM0 i), 0, 11⟩
def Reg.TWn_TIM1 (i : Nat) : Nat := 0x400E100C + i * 0x1000
def F.TWn_TIM1_TBUF (i : Nat) : Fld := ⟨(Reg.TWn_TIM1 i), 20, 11⟩
def F.TWn_TIM1_FILT (i : Nat) : Fld := ⟨(Reg.TWn_TIM1 i), 16, 4⟩
def F.TWn_TIM1_TSUDAT (i : Nat) : Fld := ⟨(Reg.TWn_TIM1 i), 8, 7⟩
def F.TWn_TIM1_THDDAT (i : Nat) : Fld := ⟨(Reg.TWn_TIM1 i), 0, 7⟩
def Reg.TWn_TO (i : Nat) : Nat := 0x400E1010 + i * 0x1000
def F.TWn_TO_ATTREP (i : Nat) : Fld := ⟨(Reg.TWn_TO i), 24, 8⟩
def F.TWn_TO_INBW (i : Nat) : Fld := ⟨(Reg.TWn_TO i), 16, 8⟩
def F.TWn_TO_TTMO (i : Nat) : Fld := ⟨(Reg.TWn_TO i), 8, 8⟩
def F.TWn_TO_STRTO (i : Nat) : Fld := ⟨(Reg.TWn_TO i), 0, 8⟩
def Reg.TWn_QPOP (i : Nat) : Nat := 0x400E1014 + i * 0x1000
def F.TWn_QPOP_ENTRY (i : Nat) : Fld := ⟨(Reg.TWn_QPOP i), 0, 32⟩
def Reg.TWn_QPEEK (i : Nat) : Nat := 0x400E1018 + i * 0x1000
def F.TWn_QPEEK_ENTRY (i : Nat) : Fld := ⟨(Reg.TWn_QPEEK i), 0, 32⟩
def Reg.TWn_QSTAT (i : Nat) : Nat := 0x400E101C + i * 0x1000
def F.TWn_QSTAT_CNT (i : Nat) : Fld := ⟨(Reg.TWn_QSTAT i), 0, 5⟩
def Reg.TWn_CML (i : Nat) : Nat := 0x400E1020 + i * 0x1000
def F.TWn_CML_CML (i : Nat) : Fld := ⟨(Reg.TWn_CML i), 0, 8⟩
def Reg.TWn_ATTN (i : Nat) : Nat := 0x400E1024 + i * 0x1000
def F.TWn_ATTN_CAUSE (i : Nat) : Fld := ⟨(Reg.TWn_ATTN i), 0, 6⟩
def Reg.TWn_ATTNEN (i : Nat) : Nat := 0x400E1028 + i * 0x1000
def F.TWn_ATTNEN_EN (i : Nat) : Fld := ⟨(Reg.TWn_ATTNEN i), 0, 6⟩
def Reg.TWn_PAGE (i : Nat) : Nat := 0x400E102C + i * 0x1000
def F.TWn_PAGE_MBXSEL (i : Nat) : Fld := ⟨(Reg.TWn_PAGE i), 16, 4⟩
def F.TWn_PAGE_PAGE (i : Nat) : Fld := ⟨(Reg.TWn_PAGE i), 0, 8⟩
def Reg.TWn_MCMD (i : Nat) : Nat := 0x400E1030 + i * 0x1000
def F.TWn_MCMD_HNRETRY (i : Nat) : Fld := ⟨(Reg.TWn_MCMD i), 27, 2⟩
def F.TWn_MCMD_PEC (i : Nat) : Fld := ⟨(Reg.TWn_MCMD i), 24, 1⟩
def F.TWn_MCMD_RLEN (i : Nat) : Fld := ⟨(Reg.TWn_MCMD i), 16, 6⟩
def F.TWn_MCMD_WLEN (i : Nat) : Fld := ⟨(Reg.TWn_MCMD i), 8, 6⟩
def F.TWn_MCMD_ADDR (i : Nat) : Fld := ⟨(Reg.TWn_MCMD i), 0, 7⟩
def Reg.TWn_MSTAT (i : Nat) : Nat := 0x400E1034 + i * 0x1000
def F.TWn_MSTAT_ATTNIN (i : Nat) : Fld := ⟨(Reg.TWn_MSTAT i), 10, 1⟩
def F.TWn_MSTAT_HNDROP (i : Nat) : Fld := ⟨(Reg.TWn_MSTAT i), 9, 1⟩
def F.TWn_MSTAT_BUSYREF (i : Nat) : Fld := ⟨(Reg.TWn_MSTAT i), 8, 1⟩
def F.TWn_MSTAT_RESULT (i : Nat) : Fld := ⟨(Reg.TWn_MSTAT i), 0, 3⟩
def Reg.TWn_HNRX (i : Nat) : Nat := 0x400E1038 + i * 0x1000
def F.TWn_HNRX_ADDR (i : Nat) : Fld := ⟨(Reg.TWn_HNRX i), 16, 8⟩
def F.TWn_HNRX_WORD (i : Nat) : Fld := ⟨(Reg.TWn_HNRX i), 0, 16⟩
def Reg.TWn_CNT (i : Nat) : Nat := 0x400E103C + i * 0x1000
def F.TWn_CNT_PECERR (i : Nat) : Fld := ⟨(Reg.TWn_CNT i), 24, 8⟩
def F.TWn_CNT_QFULL (i : Nat) : Fld := ⟨(Reg.TWn_CNT i), 16, 8⟩
def F.TWn_CNT_SELFRST (i : Nat) : Fld := ⟨(Reg.TWn_CNT i), 8, 8⟩
def F.TWn_CNT_ATTRETRY (i : Nat) : Fld := ⟨(Reg.TWn_CNT i), 0, 8⟩
def Reg.TWn_MBUFi (i : Nat) (j : Nat) : Nat := 0x400E1040 + i * 0x1000 + j * 0x4
def F.TWn_MBUFi_BUF (i : Nat) (j : Nat) : Fld := ⟨(Reg.TWn_MBUFi i j), 0, 32⟩
def Reg.TWn_WPROT (i : Nat) : Nat := 0x400E1060 + i * 0x1000
def F.TWn_WPROT_PROT (i : Nat) : Fld := ⟨(Reg.TWn_WPROT i), 0, 32⟩
def Reg.TWn_RSPCi (i : Nat) (j : Nat) : Nat := 0x400E1080 + i * 0x1000 + j * 0x8
def F.TWn_RSPCi_VALID (i : Nat) (j : Nat) : Fld := ⟨(Reg.TWn_RSPCi i j), 31, 1⟩
def F.TWn_RSPCi_BLOCK (i : Nat) (j : Nat) : Fld := ⟨(Reg.TWn_RSPCi i j), 30, 1⟩
def F.TWn_RSPCi_ANYPAGE (i : Nat) (j : Nat) : Fld := ⟨(Reg.TWn_RSPCi i j), 29, 1⟩
def F.TWn_RSPCi_PAGE (i : Nat) (j : Nat) : Fld := ⟨(Reg.TWn_RSPCi i j), 24, 2⟩
def F.TWn_RSPCi_LEN (i : Nat) (j : Nat) : Fld := ⟨(Reg.TWn_RSPCi i j), 16, 3⟩
def F.TWn_RSPCi_CMD (i : Nat) (j : Nat) : Fld := ⟨(Reg.TWn_RSPCi i j), 0, 8⟩
def Reg.TWn_RSPDi (i : Nat) (j : Nat) : Nat := 0x400E1084 + i * 0x1000 + j * 0x8
def F.TWn_RSPDi_DATA (i : Nat) (j : Nat) : Fld := ⟨(Reg.TWn_RSPDi i j), 0, 32⟩
def Reg.TWn_REGFi (i : Nat) (j : Nat) : Nat := 0x400E1400 + i * 0x1000 + j * 0x4
def F.TWn_REGFi_REGF (i : Nat) (j : Nat) : Fld := ⟨(Reg.TWn_REGFi i j), 0, 32⟩
/-! AVS registers (spec/15_two_wire_avs.md) -/
def Reg.AVS_CTL : Nat := 0x400F0000
def F.AVS_CTL_EXPERT : Fld := ⟨Reg.AVS_CTL, 31, 1⟩
def Reg.AVS_FLT : Nat := 0x400F0004
def F.AVS_FLT_MAPREF : Fld := ⟨Reg.AVS_FLT, 0, 1⟩
def Reg.AVSn_CTL (i : Nat) : Nat := 0x400F0100 + i * 0x40
def F.AVSn_CTL_AVSTO (i : Nat) : Fld := ⟨(Reg.AVSn_CTL i), 8, 8⟩
def F.AVSn_CTL_RAILEN (i : Nat) : Fld := ⟨(Reg.AVSn_CTL i), 0, 4⟩
def Reg.AVSn_STAT (i : Nat) : Nat := 0x400F0104 + i * 0x40
def F.AVSn_STAT_ALERT (i : Nat) : Fld := ⟨(Reg.AVSn_STAT i), 8, 1⟩
def F.AVSn_STAT_HELD (i : Nat) : Fld := ⟨(Reg.AVSn_STAT i), 0, 4⟩
def Reg.AVSn_CNT (i : Nat) : Nat := 0x400F0108 + i * 0x40
def F.AVSn_CNT_TMO (i : Nat) : Fld := ⟨(Reg.AVSn_CNT i), 16, 16⟩
def F.AVSn_CNT_CRC (i : Nat) : Fld := ⟨(Reg.AVSn_CNT i), 0, 16⟩
/-! USB registers (spec/16_usb.md) -/
def Reg.USB_CTL : Nat := 0x40100000
def F.USB_CTL_EXPERT : Fld := ⟨Reg.USB_CTL, 31, 1⟩
def F.USB_CTL_SVCTO : Fld := ⟨Reg.USB_CTL, 14, 10⟩
def F.USB_CTL_SUSPPD : Fld := ⟨Reg.USB_CTL, 8, 1⟩
def F.USB_CTL_EN : Fld := ⟨Reg.USB_CTL, 0, 1⟩
def Reg.USB_STAT : Nat := 0x40100004
def F.USB_STAT_ADDR : Fld := ⟨Reg.USB_STAT, 16, 7⟩
def F.USB_STAT_CONF : Fld := ⟨Reg.USB_STAT, 8, 1⟩
def F.USB_STAT_HS : Fld := ⟨Reg.USB_STAT, 4, 1⟩
def F.USB_STAT_FST : Fld := ⟨Reg.USB_STAT, 0, 3⟩
def Reg.USB_FLT : Nat := 0x40100008
def F.USB_FLT_OC : Fld := ⟨Reg.USB_FLT, 4, 2⟩
def F.USB_FLT_PUSHREF : Fld := ⟨Reg.USB_FLT, 2, 1⟩
def F.USB_FLT_LOST : Fld := ⟨Reg.USB_FLT, 1, 1⟩
def F.USB_FLT_CFGREF : Fld := ⟨Reg.USB_FLT, 0, 1⟩
def Reg.USB_ACT : Nat := 0x4010000C
def F.USB_ACT_TICKET : Fld := ⟨Reg.USB_ACT, 24, 8⟩
def F.USB_ACT_ARG : Fld := ⟨Reg.USB_ACT, 8, 16⟩
def F.USB_ACT_ACTION : Fld := ⟨Reg.USB_ACT, 0, 8⟩
def Reg.USB_FRAME : Nat := 0x40100010
def F.USB_FRAME_UF : Fld := ⟨Reg.USB_FRAME, 11, 3⟩
def F.USB_FRAME_FRAME : Fld := ⟨Reg.USB_FRAME, 0, 11⟩
def Reg.USB_CNT : Nat := 0x40100014
def F.USB_CNT_CRC : Fld := ⟨Reg.USB_CNT, 16, 16⟩
def F.USB_CNT_NAK : Fld := ⟨Reg.USB_CNT, 0, 16⟩
def Reg.USB_Rj_CFG (i : Nat) : Nat := 0x40100040 + i * 0x4
def F.USB_Rj_CFG_EN (i : Nat) : Fld := ⟨(Reg.USB_Rj_CFG i), 31, 1⟩
def F.USB_Rj_CFG_LAST (i : Nat) : Fld := ⟨(Reg.USB_Rj_CFG i), 8, 8⟩
def F.USB_Rj_CFG_FIRST (i : Nat) : Fld := ⟨(Reg.USB_Rj_CFG i), 0, 8⟩
def Reg.USB_Rj_ALLOC (i : Nat) : Nat := 0x40100060 + i * 0x4
def F.USB_Rj_ALLOC_VALID (i : Nat) : Fld := ⟨(Reg.USB_Rj_ALLOC i), 31, 1⟩
def F.USB_Rj_ALLOC_GOB (i : Nat) : Fld := ⟨(Reg.USB_Rj_ALLOC i), 0, 8⟩
def Reg.USB_Rj_FREE (i : Nat) : Nat := 0x40100080 + i * 0x4
def F.USB_Rj_FREE_FREE (i : Nat) : Fld := ⟨(Reg.USB_Rj_FREE i), 0, 9⟩
def Reg.USB_EPk_CTL (i : Nat) : Nat := 0x40100140 + i * 0x20
def F.USB_EPk_CTL_OUTEN (i : Nat) : Fld := ⟨(Reg.USB_EPk_CTL i), 31, 1⟩
def F.USB_EPk_CTL_INEN (i : Nat) : Fld := ⟨(Reg.USB_EPk_CTL i), 30, 1⟩
def F.USB_EPk_CTL_IREG (i : Nat) : Fld := ⟨(Reg.USB_EPk_CTL i), 8, 3⟩
def F.USB_EPk_CTL_OREG (i : Nat) : Fld := ⟨(Reg.USB_EPk_CTL i), 0, 3⟩
def Reg.USB_EPk_STAT (i : Nat) : Nat := 0x40100144 + i * 0x20
def F.USB_EPk_STAT_OQ (i : Nat) : Fld := ⟨(Reg.USB_EPk_STAT i), 16, 4⟩
def F.USB_EPk_STAT_IQ (i : Nat) : Fld := ⟨(Reg.USB_EPk_STAT i), 8, 4⟩
def F.USB_EPk_STAT_IHALT (i : Nat) : Fld := ⟨(Reg.USB_EPk_STAT i), 1, 1⟩
def F.USB_EPk_STAT_OHALT (i : Nat) : Fld := ⟨(Reg.USB_EPk_STAT i), 0, 1⟩
def Reg.USB_EPk_OPOP (i : Nat) : Nat := 0x40100148 + i * 0x20
def F.USB_EPk_OPOP_VALID (i : Nat) : Fld := ⟨(Reg.USB_EPk_OPOP i), 31, 1⟩
def F.USB_EPk_OPOP_LEN (i : Nat) : Fld := ⟨(Reg.USB_EPk_OPOP i), 16, 10⟩
def F.USB_EPk_OPOP_GOB (i : Nat) : Fld := ⟨(Reg.USB_EPk_OPOP i), 0, 8⟩
def Reg.USB_EPk_IPUSH (i : Nat) : Nat := 0x4010014C + i * 0x20
def F.USB_EPk_IPUSH_LEN (i : Nat) : Fld := ⟨(Reg.USB_EPk_IPUSH i), 16, 10⟩
def F.USB_EPk_IPUSH_GOB (i : Nat) : Fld := ⟨(Reg.USB_EPk_IPUSH i), 0, 8⟩
def Reg.USB_EPk_CNT (i : Nat) : Nat := 0x40100150 + i * 0x20
def F.USB_EPk_CNT_IN (i : Nat) : Fld := ⟨(Reg.USB_EPk_CNT i), 16, 16⟩
def F.USB_EPk_CNT_OUT (i : Nat) : Fld := ⟨(Reg.USB_EPk_CNT i), 0, 16⟩
def Reg.USB_LINKg (i : Nat) : Nat := 0x40100800 + i * 0x4
def F.USB_LINKg_END (i : Nat) : Fld := ⟨(Reg.USB_LINKg i), 8, 1⟩
def F.USB_LINKg_NEXT (i : Nat) : Fld := ⟨(Reg.USB_LINKg i), 0, 8⟩
/-! MOT registers (spec/17_motor_feedback.md) -/
def Reg.MOT_CTL : Nat := 0x40110000
def F.MOT_CTL_EXPERT : Fld := ⟨Reg.MOT_CTL, 31, 1⟩
def Reg.MOT_FLT : Nat := 0x40110004
def F.MOT_FLT_CLRREF : Fld := ⟨Reg.MOT_FLT, 8, 4⟩
def F.MOT_FLT_ENREF : Fld := ⟨Reg.MOT_FLT, 4, 4⟩
def F.MOT_FLT_BADRESP : Fld := ⟨Reg.MOT_FLT, 0, 1⟩
def Reg.MOT_ACT : Nat := 0x40110008
def F.MOT_ACT_TICKET : Fld := ⟨Reg.MOT_ACT, 24, 8⟩
def F.MOT_ACT_ARG : Fld := ⟨Reg.MOT_ACT, 8, 16⟩
def F.MOT_ACT_ACTION : Fld := ⟨Reg.MOT_ACT, 0, 8⟩
def Reg.MOTm_CTL (i : Nat) : Nat := 0x40110100 + i * 0x80
def F.MOTm_CTL_ALIGN (i : Nat) : Fld := ⟨(Reg.MOTm_CTL i), 12, 1⟩
def F.MOTm_CTL_SPM (i : Nat) : Fld := ⟨(Reg.MOTm_CTL i), 8, 2⟩
def F.MOTm_CTL_DOM (i : Nat) : Fld := ⟨(Reg.MOTm_CTL i), 4, 3⟩
def F.MOTm_CTL_EN (i : Nat) : Fld := ⟨(Reg.MOTm_CTL i), 0, 1⟩
def Reg.MOTm_PWM (i : Nat) : Nat := 0x40110104 + i * 0x80
def F.MOTm_PWM_PWMF (i : Nat) : Fld := ⟨(Reg.MOTm_PWM i), 16, 10⟩
def F.MOTm_PWM_PER (i : Nat) : Fld := ⟨(Reg.MOTm_PWM i), 0, 15⟩
def Reg.MOTm_DT (i : Nat) : Nat := 0x40110108 + i * 0x80
def F.MOTm_DT_MINPULSE (i : Nat) : Fld := ⟨(Reg.MOTm_DT i), 16, 10⟩
def F.MOTm_DT_SDLY (i : Nat) : Fld := ⟨(Reg.MOTm_DT i), 12, 4⟩
def F.MOTm_DT_DT (i : Nat) : Fld := ⟨(Reg.MOTm_DT i), 0, 9⟩
def Reg.MOTm_ISCL (i : Nat) : Nat := 0x4011010C + i * 0x80
def F.MOTm_ISCL_IZERO (i : Nat) : Fld := ⟨(Reg.MOTm_ISCL i), 16, 12⟩
def F.MOTm_ISCL_IGAIN (i : Nat) : Fld := ⟨(Reg.MOTm_ISCL i), 0, 16⟩
def Reg.MOTm_CUR (i : Nat) : Nat := 0x40110110 + i * 0x80
def F.MOTm_CUR_KI (i : Nat) : Fld := ⟨(Reg.MOTm_CUR i), 16, 16⟩
def F.MOTm_CUR_KP (i : Nat) : Fld := ⟨(Reg.MOTm_CUR i), 0, 16⟩
def Reg.MOTm_VLIM (i : Nat) : Nat := 0x40110114 + i * 0x80
def F.MOTm_VLIM_VLIM (i : Nat) : Fld := ⟨(Reg.MOTm_VLIM i), 0, 16⟩
def Reg.MOTm_REF (i : Nat) : Nat := 0x40110118 + i * 0x80
def F.MOTm_REF_IDREF (i : Nat) : Fld := ⟨(Reg.MOTm_REF i), 16, 16⟩
def F.MOTm_REF_IQREF (i : Nat) : Fld := ⟨(Reg.MOTm_REF i), 0, 16⟩
def Reg.MOTm_IQMAX (i : Nat) : Nat := 0x4011011C + i * 0x80
def F.MOTm_IQMAX_IQMAX (i : Nat) : Fld := ⟨(Reg.MOTm_IQMAX i), 0, 16⟩
def Reg.MOTm_SPDREF (i : Nat) : Nat := 0x40110120 + i * 0x80
def F.MOTm_SPDREF_SPDREF (i : Nat) : Fld := ⟨(Reg.MOTm_SPDREF i), 0, 32⟩
def Reg.MOTm_SPEED (i : Nat) : Nat := 0x40110124 + i * 0x80
def F.MOTm_SPEED_SPEED (i : Nat) : Fld := ⟨(Reg.MOTm_SPEED i), 0, 32⟩
def Reg.MOTm_THOFS (i : Nat) : Nat := 0x40110128 + i * 0x80
def F.MOTm_THOFS_THOFS (i : Nat) : Fld := ⟨(Reg.MOTm_THOFS i), 0, 16⟩
def Reg.MOTm_ALGN (i : Nat) : Nat := 0x4011012C + i * 0x80
def F.MOTm_ALGN_ALIGNT (i : Nat) : Fld := ⟨(Reg.MOTm_ALGN i), 16, 8⟩
def F.MOTm_ALGN_IALIGN (i : Nat) : Fld := ⟨(Reg.MOTm_ALGN i), 0, 16⟩
def Reg.MOTm_LIM (i : Nat) : Nat := 0x40110130 + i * 0x80
def F.MOTm_LIM_OVSPD (i : Nat) : Fld := ⟨(Reg.MOTm_LIM i), 16, 16⟩
def F.MOTm_LIM_IOC (i : Nat) : Fld := ⟨(Reg.MOTm_LIM i), 0, 16⟩
def Reg.MOTm_STALL (i : Nat) : Nat := 0x40110134 + i * 0x80
def F.MOTm_STALL_STALLT (i : Nat) : Fld := ⟨(Reg.MOTm_STALL i), 16, 8⟩
def F.MOTm_STALL_STALLSPD (i : Nat) : Fld := ⟨(Reg.MOTm_STALL i), 0, 16⟩
def Reg.MOTm_RESP (i : Nat) : Nat := 0x40110138 + i * 0x80
def F.MOTm_RESP_RESP (i : Nat) : Fld := ⟨(Reg.MOTm_RESP i), 0, 21⟩
def Reg.MOTm_STAT (i : Nat) : Nat := 0x4011013C + i * 0x80
def F.MOTm_STAT_COND (i : Nat) : Fld := ⟨(Reg.MOTm_STAT i), 16, 7⟩
def F.MOTm_STAT_THV (i : Nat) : Fld := ⟨(Reg.MOTm_STAT i), 4, 1⟩
def F.MOTm_STAT_ST (i : Nat) : Fld := ⟨(Reg.MOTm_STAT i), 0, 3⟩
def Reg.MOTm_FLAG (i : Nat) : Nat := 0x40110140 + i * 0x80
def F.MOTm_FLAG_DECL (i : Nat) : Fld := ⟨(Reg.MOTm_FLAG i), 0, 7⟩
def Reg.MOTm_IDQ (i : Nat) : Nat := 0x40110144 + i * 0x80
def F.MOTm_IDQ_Q (i : Nat) : Fld := ⟨(Reg.MOTm_IDQ i), 16, 16⟩
def F.MOTm_IDQ_D (i : Nat) : Fld := ⟨(Reg.MOTm_IDQ i), 0, 16⟩
def Reg.MOTm_VDQ (i : Nat) : Nat := 0x40110148 + i * 0x80
def F.MOTm_VDQ_Q (i : Nat) : Fld := ⟨(Reg.MOTm_VDQ i), 16, 16⟩
def F.MOTm_VDQ_D (i : Nat) : Fld := ⟨(Reg.MOTm_VDQ i), 0, 16⟩
def Reg.MOTm_CNT (i : Nat) : Nat := 0x4011014C + i * 0x80
def F.MOTm_CNT_SHORT (i : Nat) : Fld := ⟨(Reg.MOTm_CNT i), 16, 16⟩
def F.MOTm_CNT_SUPP (i : Nat) : Fld := ⟨(Reg.MOTm_CNT i), 8, 8⟩
def F.MOTm_CNT_LATE (i : Nat) : Fld := ⟨(Reg.MOTm_CNT i), 0, 8⟩
/-! FB registers (spec/17_motor_feedback.md) -/
def Reg.FB_CTL : Nat := 0x40120000
def F.FB_CTL_EXPERT : Fld := ⟨Reg.FB_CTL, 31, 1⟩
def Reg.FB_ACT : Nat := 0x40120008
def F.FB_ACT_TICKET : Fld := ⟨Reg.FB_ACT, 24, 8⟩
def F.FB_ACT_ARG : Fld := ⟨Reg.FB_ACT, 8, 16⟩
def F.FB_ACT_ACTION : Fld := ⟨Reg.FB_ACT, 0, 8⟩
def Reg.FBf_CTL (i : Nat) : Nat := 0x40120100 + i * 0x40
def F.FBf_CTL_WTIME (i : Nat) : Fld := ⟨(Reg.FBf_CTL i), 20, 8⟩
def F.FBf_CTL_ZTOL (i : Nat) : Fld := ⟨(Reg.FBf_CTL i), 16, 4⟩
def F.FBf_CTL_INTERP (i : Nat) : Fld := ⟨(Reg.FBf_CTL i), 12, 4⟩
def F.FBf_CTL_FILT (i : Nat) : Fld := ⟨(Reg.FBf_CTL i), 8, 4⟩
def F.FBf_CTL_ZGATE (i : Nat) : Fld := ⟨(Reg.FBf_CTL i), 6, 1⟩
def F.FBf_CTL_ZMODE (i : Nat) : Fld := ⟨(Reg.FBf_CTL i), 4, 2⟩
def F.FBf_CTL_DIR (i : Nat) : Fld := ⟨(Reg.FBf_CTL i), 2, 1⟩
def F.FBf_CTL_TYPE (i : Nat) : Fld := ⟨(Reg.FBf_CTL i), 1, 1⟩
def F.FBf_CTL_EN (i : Nat) : Fld := ⟨(Reg.FBf_CTL i), 0, 1⟩
def Reg.FBf_LINES (i : Nat) : Nat := 0x40120104 + i * 0x40
def F.FBf_LINES_LINES (i : Nat) : Fld := ⟨(Reg.FBf_LINES i), 0, 16⟩
def Reg.FBf_POS (i : Nat) : Nat := 0x40120108 + i * 0x40
def F.FBf_POS_POS (i : Nat) : Fld := ⟨(Reg.FBf_POS i), 0, 32⟩
def Reg.FBf_ACNT (i : Nat) : Nat := 0x4012010C + i * 0x40
def F.FBf_ACNT_ACNT (i : Nat) : Fld := ⟨(Reg.FBf_ACNT i), 0, 32⟩
def Reg.FBf_ZCAP (i : Nat) : Nat := 0x40120110 + i * 0x40
def F.FBf_ZCAP_ZCAP (i : Nat) : Fld := ⟨(Reg.FBf_ZCAP i), 0, 32⟩
def Reg.FBf_PRESET (i : Nat) : Nat := 0x40120114 + i * 0x40
def F.FBf_PRESET_PRESET (i : Nat) : Fld := ⟨(Reg.FBf_PRESET i), 0, 32⟩
def Reg.FBf_SCOR (i : Nat) : Nat := 0x40120118 + i * 0x40
def F.FBf_SCOR_COFS (i : Nat) : Fld := ⟨(Reg.FBf_SCOR i), 16, 16⟩
def F.FBf_SCOR_SOFS (i : Nat) : Fld := ⟨(Reg.FBf_SCOR i), 0, 16⟩
def Reg.FBf_SGAIN (i : Nat) : Nat := 0x4012011C + i * 0x40
def F.FBf_SGAIN_CGAIN (i : Nat) : Fld := ⟨(Reg.FBf_SGAIN i), 16, 16⟩
def F.FBf_SGAIN_SGAIN (i : Nat) : Fld := ⟨(Reg.FBf_SGAIN i), 0, 16⟩
def Reg.FBf_AWIN (i : Nat) : Nat := 0x40120120 + i * 0x40
def F.FBf_AWIN_AMAX (i : Nat) : Fld := ⟨(Reg.FBf_AWIN i), 16, 14⟩
def F.FBf_AWIN_AMIN (i : Nat) : Fld := ⟨(Reg.FBf_AWIN i), 0, 14⟩
def Reg.FBf_AMP (i : Nat) : Nat := 0x40120124 + i * 0x40
def F.FBf_AMP_AMP (i : Nat) : Fld := ⟨(Reg.FBf_AMP i), 0, 16⟩
def Reg.FBf_STAT (i : Nat) : Nat := 0x40120128 + i * 0x40
def F.FBf_STAT_INDEXED (i : Nat) : Fld := ⟨(Reg.FBf_STAT i), 0, 1⟩
def Reg.FBf_FLT (i : Nat) : Nat := 0x4012012C + i * 0x40
def F.FBf_FLT_INDEX (i : Nat) : Fld := ⟨(Reg.FBf_FLT i), 6, 1⟩
def F.FBf_FLT_AMP (i : Nat) : Fld := ⟨(Reg.FBf_FLT i), 5, 1⟩
def F.FBf_FLT_RATE (i : Nat) : Fld := ⟨(Reg.FBf_FLT i), 4, 1⟩
def F.FBf_FLT_PHASE (i : Nat) : Fld := ⟨(Reg.FBf_FLT i), 3, 1⟩
def F.FBf_FLT_WIRE (i : Nat) : Fld := ⟨(Reg.FBf_FLT i), 0, 3⟩
/-! CAP registers (spec/18_leak_sense.md) -/
def Reg.CAP_CTL : Nat := 0x40130000
def F.CAP_CTL_EXPERT : Fld := ⟨Reg.CAP_CTL, 31, 1⟩
def F.CAP_CTL_EN : Fld := ⟨Reg.CAP_CTL, 0, 1⟩
def Reg.CAP_EN : Nat := 0x40130004
def F.CAP_EN_MASK : Fld := ⟨Reg.CAP_EN, 0, 16⟩
def Reg.CAP_SCAN : Nat := 0x40130008
def F.CAP_SCAN_SCANPER : Fld := ⟨Reg.CAP_SCAN, 0, 16⟩
def Reg.CAP_ACT : Nat := 0x4013000C
def F.CAP_ACT_TICKET : Fld := ⟨Reg.CAP_ACT, 24, 8⟩
def F.CAP_ACT_ARG : Fld := ⟨Reg.CAP_ACT, 8, 16⟩
def F.CAP_ACT_ACTION : Fld := ⟨Reg.CAP_ACT, 0, 8⟩
def Reg.CAP_FLT : Nat := 0x40130010
def F.CAP_FLT_LRNREF : Fld := ⟨Reg.CAP_FLT, 18, 1⟩
def F.CAP_FLT_BUSY : Fld := ⟨Reg.CAP_FLT, 17, 1⟩
def F.CAP_FLT_EF : Fld := ⟨Reg.CAP_FLT, 0, 16⟩
def Reg.CAP_CNT : Nat := 0x40130014
def F.CAP_CNT_RECAL : Fld := ⟨Reg.CAP_CNT, 16, 16⟩
def F.CAP_CNT_OVR : Fld := ⟨Reg.CAP_CNT, 0, 16⟩
def Reg.CAP_MEAS : Nat := 0x40130018
def F.CAP_MEAS_MAXCNT : Fld := ⟨Reg.CAP_MEAS, 16, 16⟩
def F.CAP_MEAS_OSR : Fld := ⟨Reg.CAP_MEAS, 13, 3⟩
def F.CAP_MEAS_DIV : Fld := ⟨Reg.CAP_MEAS, 8, 4⟩
def Reg.CAP_DEC : Nat := 0x4013001C
def F.CAP_DEC_DEBN : Fld := ⟨Reg.CAP_DEC, 28, 4⟩
def F.CAP_DEC_NEGN : Fld := ⟨Reg.CAP_DEC, 24, 4⟩
def F.CAP_DEC_NEGTH : Fld := ⟨Reg.CAP_DEC, 16, 8⟩
def F.CAP_DEC_BLSH : Fld := ⟨Reg.CAP_DEC, 12, 4⟩
def F.CAP_DEC_SPREAD : Fld := ⟨Reg.CAP_DEC, 8, 4⟩
def F.CAP_DEC_TRKWIN : Fld := ⟨Reg.CAP_DEC, 0, 8⟩
def Reg.CAP_MEAS2 : Nat := 0x40130020
def F.CAP_MEAS2_TXFR : Fld := ⟨Reg.CAP_MEAS2, 8, 6⟩
def F.CAP_MEAS2_TCHG : Fld := ⟨Reg.CAP_MEAS2, 0, 6⟩
def Reg.CAP_LEARNT : Nat := 0x40130024
def F.CAP_LEARNT_LEARNT : Fld := ⟨Reg.CAP_LEARNT, 0, 16⟩
def Reg.CAP_LSTATL : Nat := 0x40130028
def F.CAP_LSTATL_STAT : Fld := ⟨Reg.CAP_LSTATL, 0, 32⟩
def Reg.CAP_LSTATH : Nat := 0x4013002C
def F.CAP_LSTATH_STAT : Fld := ⟨Reg.CAP_LSTATH, 0, 32⟩
def Reg.CAPi_CFG (i : Nat) : Nat := 0x40130100 + i * 0x20
def F.CAPi_CFG_CONDHYS (i : Nat) : Fld := ⟨(Reg.CAPi_CFG i), 24, 8⟩
def F.CAPi_CFG_CONDTH (i : Nat) : Fld := ⟨(Reg.CAPi_CFG i), 16, 8⟩
def F.CAPi_CFG_LEAKHYS (i : Nat) : Fld := ⟨(Reg.CAPi_CFG i), 8, 8⟩
def F.CAPi_CFG_LEAKTH (i : Nat) : Fld := ⟨(Reg.CAPi_CFG i), 0, 8⟩
def Reg.CAPi_LIM (i : Nat) : Nat := 0x40130104 + i * 0x20
def F.CAPi_LIM_CMAX (i : Nat) : Fld := ⟨(Reg.CAPi_LIM i), 16, 16⟩
def F.CAPi_LIM_CMIN (i : Nat) : Fld := ⟨(Reg.CAPi_LIM i), 0, 16⟩
def Reg.CAPi_RAW (i : Nat) : Nat := 0x40130108 + i * 0x20
def F.CAPi_RAW_RAW (i : Nat) : Fld := ⟨(Reg.CAPi_RAW i), 0, 16⟩
def Reg.CAPi_BL (i : Nat) : Nat := 0x4013010C + i * 0x20
def F.CAPi_BL_BL (i : Nat) : Fld := ⟨(Reg.CAPi_BL i), 0, 20⟩
def Reg.CAPi_DRY (i : Nat) : Nat := 0x40130110 + i * 0x20
def F.CAPi_DRY_DRY (i : Nat) : Fld := ⟨(Reg.CAPi_DRY i), 0, 16⟩
def Reg.CAPi_STAT (i : Nat) : Nat := 0x40130114 + i * 0x20
def F.CAPi_STAT_DRYV (i : Nat) : Fld := ⟨(Reg.CAPi_STAT i), 10, 1⟩
def F.CAPi_STAT_LEAKF (i : Nat) : Fld := ⟨(Reg.CAPi_STAT i), 9, 1⟩
def F.CAPi_STAT_CONDF (i : Nat) : Fld := ⟨(Reg.CAPi_STAT i), 8, 1⟩
def F.CAPi_STAT_LEAK (i : Nat) : Fld := ⟨(Reg.CAPi_STAT i), 6, 1⟩
def F.CAPi_STAT_COND (i : Nat) : Fld := ⟨(Reg.CAPi_STAT i), 5, 1⟩
def F.CAPi_STAT_SUP (i : Nat) : Fld := ⟨(Reg.CAPi_STAT i), 2, 1⟩
def F.CAPi_STAT_TMO (i : Nat) : Fld := ⟨(Reg.CAPi_STAT i), 1, 1⟩
def F.CAPi_STAT_RANGE (i : Nat) : Fld := ⟨(Reg.CAPi_STAT i), 0, 1⟩
/-! PWR registers (spec/19_power_reset.md) -/
def Reg.PWR_CTL : Nat := 0x40140000
def F.PWR_CTL_EXPERT : Fld := ⟨Reg.PWR_CTL, 31, 1⟩
def Reg.PWR_CFG : Nat := 0x40140004
def F.PWR_CFG_SLOT : Fld := ⟨Reg.PWR_CFG, 0, 4⟩
def Reg.PWR_ACT : Nat := 0x40140008
def F.PWR_ACT_TICKET : Fld := ⟨Reg.PWR_ACT, 24, 8⟩
def F.PWR_ACT_ARG : Fld := ⟨Reg.PWR_ACT, 8, 16⟩
def F.PWR_ACT_ACTION : Fld := ⟨Reg.PWR_ACT, 0, 8⟩
def Reg.PWR_FLT : Nat := 0x4014000C
def F.PWR_FLT_BRREF : Fld := ⟨Reg.PWR_FLT, 1, 1⟩
def F.PWR_FLT_REFUSED : Fld := ⟨Reg.PWR_FLT, 0, 1⟩
def Reg.PWR_REQ0 : Nat := 0x40140010
def F.PWR_REQ0_REQ : Fld := ⟨Reg.PWR_REQ0, 0, 32⟩
def Reg.PWR_REQ1 : Nat := 0x40140014
def F.PWR_REQ1_REQ : Fld := ⟨Reg.PWR_REQ1, 0, 32⟩
def Reg.PWR_ON0 : Nat := 0x40140018
def F.PWR_ON0_ON : Fld := ⟨Reg.PWR_ON0, 0, 32⟩
def Reg.PWR_ON1 : Nat := 0x4014001C
def F.PWR_ON1_ON : Fld := ⟨Reg.PWR_ON1, 0, 32⟩
def Reg.PWR_BUSY : Nat := 0x40140020
def F.PWR_BUSY_DOM : Fld := ⟨Reg.PWR_BUSY, 8, 6⟩
def F.PWR_BUSY_BUSY : Fld := ⟨Reg.PWR_BUSY, 0, 1⟩
def Reg.PWR_CNT : Nat := 0x40140024
def F.PWR_CNT_REFD : Fld := ⟨Reg.PWR_CNT, 0, 16⟩
/-! LOG registers (spec/20_lehr_log.md) -/
def Reg.LOG_CTL : Nat := 0x40150000
def F.LOG_CTL_EXPERT : Fld := ⟨Reg.LOG_CTL, 31, 1⟩
def F.LOG_CTL_FULLMODE : Fld := ⟨Reg.LOG_CTL, 8, 1⟩
def F.LOG_CTL_ADOM : Fld := ⟨Reg.LOG_CTL, 0, 3⟩
def Reg.LOG_STAT : Nat := 0x40150004
def F.LOG_STAT_QFILL : Fld := ⟨Reg.LOG_STAT, 0, 7⟩
def Reg.LOG_ACT : Nat := 0x40150008
def F.LOG_ACT_TICKET : Fld := ⟨Reg.LOG_ACT, 24, 8⟩
def F.LOG_ACT_ARG : Fld := ⟨Reg.LOG_ACT, 8, 16⟩
def F.LOG_ACT_ACTION : Fld := ⟨Reg.LOG_ACT, 0, 8⟩
def Reg.LOG_WIDX : Nat := 0x4015000C
def F.LOG_WIDX_WIDX : Fld := ⟨Reg.LOG_WIDX, 0, 32⟩
def Reg.LOG_HIDX : Nat := 0x40150010
def F.LOG_HIDX_HIDX : Fld := ⟨Reg.LOG_HIDX, 0, 32⟩
def Reg.LOG_CNT : Nat := 0x40150014
def F.LOG_CNT_DROP : Fld := ⟨Reg.LOG_CNT, 16, 16⟩
def F.LOG_CNT_LAPPED : Fld := ⟨Reg.LOG_CNT, 0, 16⟩
def Reg.LOG_QMAX : Nat := 0x40150018
def F.LOG_QMAX_QMAX : Fld := ⟨Reg.LOG_QMAX, 0, 7⟩
def Reg.LOG_FWDATAi (i : Nat) : Nat := 0x40150020 + i * 0x4
def F.LOG_FWDATAi_DATA (i : Nat) : Fld := ⟨(Reg.LOG_FWDATAi i), 0, 32⟩
def Reg.LOG_SNAPj_Ai (i : Nat) (j : Nat) : Nat := 0x40150040 + i * 0x10 + j * 0x4
def F.LOG_SNAPj_Ai_ADDR (i : Nat) (j : Nat) : Fld := ⟨(Reg.LOG_SNAPj_Ai i j), 0, 32⟩

/-- Register rows of SYS, part 1. -/
def rowsSYS1 : List RegRow := [
  ⟨0x40010000, 1, 0x4, 1, 0x4, 0x9640B100#32, 0x0#32, 0x0#32, 0x0#32, 0x0#32, 0xFFFFFF01#32, 0x0#32, false, false⟩,  -- SYS_ID (R1 R2)
  ⟨0x40010004, 1, 0x4, 1, 0x4, 0x0#32, 0x80000000#32, 0x0#32, 0x0#32, 0x0#32, 0x0#32, 0x0#32, false, false⟩,  -- SYS_CTL (R14)
  ⟨0x40010008, 1, 0x4, 1, 0x4, 0x1#32, 0x0#32, 0xF#32, 0x0#32, 0x0#32, 0x0#32, 0x0#32, false, false⟩,  -- SYS_RSTCAUSE (R515)
  ⟨0x4001000C, 1, 0x4, 1, 0x4, 0x0#32, 0x0#32, 0x0#32, 0x0#32, 0x0#32, 0xFFFFFFFF#32, 0x0#32, true, false⟩,  -- SYS_ACT (R515)
  ⟨0x40010010, 1, 0x4, 1, 0x4, 0x0#32, 0x0#32, 0x0#32, 0x0#32, 0x0#32, 0xFFFFFFFF#32, 0x0#32, false, false⟩,  -- SYS_TIMEL (R30)
  ⟨0x40010014, 1, 0x4, 1, 0x4, 0x0#32, 0x0#32, 0x0#32, 0x0#32, 0x0#32, 0xFFFFFFFF#32, 0x0#32, false, false⟩,  -- SYS_TIMEH (R30)
  ⟨0x40010018, 1, 0x4, 1, 0x4, 0x0#32, 0x0#32, 0x100#32, 0x0#32, 0x0#32, 0x1#32, 0x0#32, false, false⟩,  -- SYS_SUPPLY (R521)
  ⟨0x4001001C, 1, 0x4, 1, 0x4, 0x0#32, 0x0#32, 0x1#32, 0x0#32, 0x0#32, 0x0#32, 0x0#32, false, false⟩,  -- SYS_FLT (R515)
  ⟨0x40010020, 1, 0x4, 1, 0x4, 0x6#32, 0x0#32, 0x700#32, 0x0#32, 0x0#32, 0x3F#32, 0x0#32, false, false⟩,  -- SYS_CLKSTAT (R31)
  ⟨0x40010024, 1, 0x4, 1, 0x4, 0x0#32, 0x0#32, 0x0#32, 0x0#32, 0x0#32, 0x10F3F#32, 0x0#32, false, false⟩,  -- SYS_SPEED (R40)
  ⟨0x40010028, 1, 0x4, 1, 0x4, 0x10A05#32, 0x1FF0F#32, 0x0#32, 0x0#32, 0x0#32, 0x0#32, 0x1FF0F#32, false, false⟩,  -- SYS_CLKCFG (R41)
  ⟨0x4001002C, 1, 0x4, 1, 0x4, 0x0#32, 0x0#32, 0x0#32, 0x0#32, 0x0#32, 0xFFFFFFFF#32, 0x0#32, true, false⟩,  -- SYS_CLKACT (R41)
  ⟨0x40010040, 1, 0x4, 1, 0x4, 0x0#32, 0x0#32, 0x0#32, 0xFFFFFFFF#32, 0x0#32, 0x0#32, 0x0#32, false, false⟩]  -- SYS_IGNWR (R16)

/-- Register rows of ANGLE, part 1. -/
def rowsANGLE1 : List RegRow := [
  ⟨0x40020000, 1, 0x4, 1, 0x4, 0x0#32, 0x80000000#32, 0x0#32, 0x0#32, 0x0#32, 0x0#32, 0x0#32, false, false⟩,  -- ANG_CTL (R14)
  ⟨0x40020004, 1, 0x4, 1, 0x4, 0x400#32, 0x1F73#32, 0x0#32, 0x0#32, 0x0#32, 0x0#32, 0xF00#32, false, false⟩,  -- ANG_SYNCCTL (R69)
  ⟨0x40020008, 1, 0x4, 1, 0x4, 0x0#32, 0xFFFF#32, 0x0#32, 0x0#32, 0x0#32, 0x0#32, 0x0#32, false, false⟩,  -- ANG_SYNCCOMP (R71)
  ⟨0x4002000C, 1, 0x4, 1, 0x4, 0x0#32, 0xFFFFFF#32, 0x0#32, 0x0#32, 0x0#32, 0x0#32, 0x0#32, false, false⟩,  -- ANG_SYNCOFS (R51)
  ⟨0x40020010, 1, 0x4, 1, 0x4, 0x0#32, 0x0#32, 0x0#32, 0x0#32, 0x0#32, 0x8000FFFF#32, 0x0#32, false, false⟩,  -- ANG_RINGDLY (R75)
  ⟨0x40020014, 1, 0x4, 1, 0x4, 0x3210#32, 0x7777#32, 0x0#32, 0x0#32, 0x0#32, 0x0#32, 0x0#32, false, false⟩,  -- ANG_RAILMAP (R49)
  ⟨0x40020018, 1, 0x4, 1, 0x4, 0x0#32, 0x0#32, 0x3FFFFF#32, 0x0#32, 0x0#32, 0x0#32, 0x0#32, false, false⟩,  -- ANG_FLT (R57)
  ⟨0x4002001C, 1, 0x4, 1, 0x4, 0x0#32, 0x0#32, 0x0#32, 0x0#32, 0x0#32, 0xFFFFFFFF#32, 0x0#32, true, false⟩,  -- ANG_ACT (R58)
  ⟨0x40020100, 8, 0x40, 1, 0x4, 0x88000#32, 0xFEFF1#32, 0x0#32, 0x0#32, 0x0#32, 0x0#32, 0xFE000#32, false, false⟩,  -- ANGn_CTL (R44)
  ⟨0x40020104, 8, 0x40, 1, 0x4, 0xC35000#32, 0xFFFFFFFF#32, 0x0#32, 0x0#32, 0x0#32, 0x0#32, 0x0#32, false, false⟩,  -- ANGn_FREQ (R46)
  ⟨0x40020108, 8, 0x40, 1, 0x4, 0x6DC5D639#32, 0xFFFFFFFF#32, 0x0#32, 0x0#32, 0x0#32, 0x0#32, 0xFFFFFFFF#32, false, false⟩,  -- ANGn_RATEL (R46)
  ⟨0x4002010C, 8, 0x40, 1, 0x4, 0x34#32, 0xFFFF#32, 0x0#32, 0x0#32, 0x0#32, 0x0#32, 0xFFFF#32, false, false⟩,  -- ANGn_RATEH (R46)
  ⟨0x40020110, 8, 0x40, 1, 0x4, 0x657041#32, 0xFFF1FF#32, 0x0#32, 0x0#32, 0x0#32, 0x0#32, 0xFFF1FF#32, false, false⟩,  -- ANGn_TRACK (R52)
  ⟨0x40020114, 8, 0x40, 1, 0x4, 0x4004#32, 0xFFFF0F#32, 0x0#32, 0x0#32, 0x0#32, 0x0#32, 0xFFFF0F#32, false, false⟩,  -- ANGn_WIN (R55)
  ⟨0x40020118, 8, 0x40, 1, 0x4, 0x0#32, 0x0#32, 0x0#32, 0x0#32, 0x0#32, 0xFF0F#32, 0x0#32, false, false⟩,  -- ANGn_STAT (R58)
  ⟨0x4002011C, 8, 0x40, 1, 0x4, 0x0#32, 0x0#32, 0x0#32, 0x0#32, 0x0#32, 0xFFFFFFFF#32, 0x0#32, false, false⟩,  -- ANGn_ANGLE (R42)
  ⟨0x40020120, 8, 0x40, 1, 0x4, 0x0#32, 0x0#32, 0x0#32, 0x0#32, 0x0#32, 0xFFFFFFFF#32, 0x0#32, false, false⟩,  -- ANGn_SNAPT (R43)
  ⟨0x40020124, 8, 0x40, 1, 0x4, 0x0#32, 0x0#32, 0x0#32, 0x0#32, 0x0#32, 0xFFFFFFFF#32, 0x0#32, false, false⟩,  -- ANGn_MEAS (R52)
  ⟨0x40020128, 8, 0x40, 1, 0x4, 0x0#32, 0x0#32, 0x0#32, 0x0#32, 0x0#32, 0xFFFFFFFF#32, 0x0#32, false, false⟩,  -- ANGn_PERR (R52)
  ⟨0x4002012C, 8, 0x40, 1, 0x4, 0x0#32, 0x0#32, 0x0#32, 0xFFFF#32, 0x0#32, 0x0#32, 0x0#32, false, false⟩,  -- ANGn_REJ (R55)
  ⟨0x40020400, 16, 0x10, 1, 0x4, 0x0#32, 0xF1F71#32, 0x0#32, 0x0#32, 0x0#32, 0x0#32, 0x1C00#32, false, false⟩,  -- ACUk_CTL (R64)
  ⟨0x40020404, 16, 0x10, 1, 0x4, 0x0#32, 0xFFFFFFFF#32, 0x0#32, 0x0#32, 0x0#32, 0x0#32, 0x0#32, false, false⟩,  -- ACUk_STAMP (R64)
  ⟨0x40020408, 16, 0x10, 1, 0x4, 0x0#32, 0xFFFFFFFF#32, 0x0#32, 0x0#32, 0x0#32, 0x0#32, 0x0#32, false, false⟩,  -- ACUk_STEP (R65)
  ⟨0x4002040C, 16, 0x10, 1, 0x4, 0x0#32, 0x0#32, 0xE#32, 0x0#32, 0x0#32, 0x1#32, 0x0#32, false, false⟩]  -- ACUk_STAT (R64)

/-- Register rows of GATHER, part 1. -/
def rowsGATHER1 : List RegRow := [
  ⟨0x40030000, 1, 0x4, 1, 0x4, 0x0#32, 0x80000000#32, 0x0#32, 0x0#32, 0x0#32, 0x0#32, 0x0#32, false, false⟩,  -- GATH_CTL (R102)
  ⟨0x40030004, 1, 0x4, 1, 0x4, 0xA0800#32, 0x3FF3F01#32, 0x0#32, 0x0#32, 0x0#32, 0x0#32, 0x3FF3F00#32, false, false⟩,  -- GATH_ROT (R82)
  ⟨0x40030008, 1, 0x4, 1, 0x4, 0x0#32, 0x0#32, 0x1FFF#32, 0x0#32, 0x0#32, 0x0#32, 0x0#32, false, false⟩,  -- GATH_FLT (R100)
  ⟨0x4003000C, 1, 0x4, 1, 0x4, 0x0#32, 0x0#32, 0x0#32, 0x0#32, 0x0#32, 0xFFFFFFFF#32, 0x0#32, true, false⟩,  -- GATH_ACT (R90)
  ⟨0x40030010, 1, 0x4, 1, 0x4, 0x76543210#32, 0x0#32, 0x0#32, 0x0#32, 0x0#32, 0xFFFFFFFF#32, 0x0#32, false, false⟩,  -- GATH_VMAP (R78)
  ⟨0x40030014, 1, 0x4, 1, 0x4, 0x76543210#32, 0x0#32, 0x0#32, 0x0#32, 0x0#32, 0xFFFFFFFF#32, 0x0#32, false, false⟩,  -- GATH_IMAP (R78)
  ⟨0x40030018, 1, 0x4, 1, 0x4, 0x40288#32, 0x0#32, 0x0#32, 0x0#32, 0x0#32, 0xF0FFF#32, 0x0#32, false, false⟩,  -- GATH_SPARE (R82)
  ⟨0x4003001C, 1, 0x4, 1, 0x4, 0x0#32, 0x0#32, 0x0#32, 0x0#32, 0x0#32, 0x1FFFFF#32, 0x0#32, false, false⟩,  -- GATH_POOL (R85)
  ⟨0x40030020, 1, 0x4, 1, 0x4, 0x0#32, 0x0#32, 0x0#32, 0x0#32, 0x0#32, 0x1FFFFF#32, 0x0#32, false, false⟩,  -- GATH_CALD (R85)
  ⟨0x40030024, 1, 0x4, 1, 0x4, 0x0#32, 0x0#32, 0x0#32, 0x0#32, 0x0#32, 0x3F#32, 0x0#32, false, false⟩,  -- GATH_BSTAT (R82)
  ⟨0x40030028, 1, 0x4, 1, 0x4, 0x0#32, 0x10F030F#32, 0x0#32, 0x0#32, 0x0#32, 0x0#32, 0x0#32, false, false⟩,  -- GATH_CALSEL (R84)
  ⟨0x4003002C, 1, 0x4, 1, 0x4, 0x0#32, 0x0#32, 0x0#32, 0x0#32, 0x0#32, 0xFFFF#32, 0x0#32, false, false⟩,  -- GATH_CALDAT (R84)
  ⟨0x40030040, 4, 0x10, 1, 0x4, 0x4333C3C#32, 0x3777FFFF#32, 0x0#32, 0x0#32, 0x0#32, 0x0#32, 0x7770000#32, false, false⟩,  -- GATH_CMPr_CTL (R92)
  ⟨0x40030044, 4, 0x10, 1, 0x4, 0x0#32, 0x0#32, 0x300#32, 0x0#32, 0x0#32, 0x3#32, 0x0#32, false, false⟩,  -- GATH_CMPr_STAT (R93)
  ⟨0x40030048, 4, 0x10, 1, 0x4, 0x0#32, 0x0#32, 0x0#32, 0xFFFFFFFF#32, 0x0#32, 0x0#32, 0x0#32, false, false⟩,  -- GATH_CMPr_CNT (R93)
  ⟨0x40030100, 32, 0x4, 1, 0x4, 0x1F41F40#32, 0xFFFFFFFF#32, 0x0#32, 0x0#32, 0x0#32, 0x0#32, 0x0#32, false, false⟩,  -- GATH_IMSCALEp (R80)
  ⟨0x40030180, 1, 0x4, 1, 0x4, 0x0#32, 0x0#32, 0xFFFFFFFF#32, 0x0#32, 0x0#32, 0x0#32, 0x0#32, false, false⟩,  -- GATH_IMFLT (R101)
  ⟨0x40030184, 1, 0x4, 1, 0x4, 0x0#32, 0x0#32, 0xFF#32, 0x0#32, 0x0#32, 0x0#32, 0x0#32, false, false⟩,  -- GATH_MFLT (R101)
  ⟨0x40030200, 32, 0x4, 1, 0x4, 0xFFFF0000#32, 0xFFFFFFFF#32, 0x0#32, 0x0#32, 0x0#32, 0x0#32, 0x0#32, false, false⟩,  -- GATH_TLIMc (R97)
  ⟨0x40030280, 1, 0x4, 1, 0x4, 0x0#32, 0x0#32, 0xFFFFFFFF#32, 0x0#32, 0x0#32, 0x0#32, 0x0#32, false, false⟩,  -- GATH_TFLT (R97)
  ⟨0x40030284, 1, 0x4, 1, 0x4, 0x88#32, 0xFF#32, 0x0#32, 0x0#32, 0x0#32, 0x0#32, 0xFF#32, false, false⟩,  -- GATH_PSCAN (R94)
  ⟨0x40030290, 1, 0x4, 1, 0x4, 0x0#32, 0x0#32, 0x0#32, 0x0#32, 0x0#32, 0xFFFF#32, 0x0#32, false, false⟩,  -- GATH_VINRES (R94)
  ⟨0x40030294, 4, 0x4, 1, 0x4, 0x0#32, 0x0#32, 0x0#32, 0x0#32, 0x0#32, 0xFFFF#32, 0x0#32, false, false⟩,  -- GATH_TMONRESr (R94)
  ⟨0x40031000, 16, 0x200, 1, 0x4, 0x0#32, 0xF77#32, 0x0#32, 0x0#32, 0x0#32, 0x0#32, 0x0#32, false, false⟩,  -- GSQn_CTL (R95)
  ⟨0x40031004, 16, 0x200, 1, 0x4, 0x0#32, 0xFFFFFFFF#32, 0x0#32, 0x0#32, 0x0#32, 0x0#32, 0x0#32, false, false⟩,  -- GSQn_STAMP (R95)
  ⟨0x40031008, 16, 0x200, 1, 0x4, 0x0#32, 0xFFFFFFFF#32, 0x0#32, 0x0#32, 0x0#32, 0x0#32, 0x0#32, false, false⟩,  -- GSQn_STEP (R95)
  ⟨0x4003100C, 16, 0x200, 1, 0x4, 0x0#32, 0x0#32, 0x1C00#32, 0x0#32, 0x0#32, 0x33F#32, 0x0#32, false, false⟩,  -- GSQn_STAT (R95)
  ⟨0x40031010, 16, 0x200, 1, 0x4, 0x0#32, 0xFFFF#32, 0x0#32, 0x0#32, 0x0#32, 0x0#32, 0x0#32, false, false⟩,  -- GSQn_TMO (R98)
  ⟨0x40031100, 16, 0x200, 32, 0x4, 0x0#32, 0xF71FFF00#32, 0x0#32, 0x0#32, 0x0#32, 0x0#32, 0x0#32, false, false⟩,  -- GSQn_ENTe (R96)
  ⟨0x40031180, 16, 0x200, 32, 0x4, 0x0#32, 0x0#32, 0x0#32, 0x0#32, 0x0#32, 0xFF00FFFF#32, 0x0#32, false, false⟩]  -- GSQn_RESe (R97)

/-- Register rows of MARVER, part 1. -/
def rowsMARVER1 : List RegRow := [
  ⟨0x40040000, 1, 0x4, 1, 0x4, 0x0#32, 0x80000000#32, 0x0#32, 0x0#32, 0x0#32, 0x0#32, 0x0#32, false, false⟩,  -- MRV_CTL (R131)
  ⟨0x40040004, 1, 0x4, 1, 0x4, 0x4650#32, 0xFFFFF#32, 0x0#32, 0x0#32, 0x0#32, 0x0#32, 0x0#32, false, false⟩,  -- MRV_VINSCL (R115)
  ⟨0x40040008, 1, 0x4, 1, 0x4, 0x0#32, 0x0#32, 0x0#32, 0x0#32, 0x0#32, 0xFFFFFFFF#32, 0x0#32, true, false⟩,  -- MRV_ACT (R112)
  ⟨0x40040100, 4, 0x100, 1, 0x4, 0x11#32, 0x31#32, 0x0#32, 0x0#32, 0x0#32, 0x0#32, 0x30#32, false, true⟩,  -- MRVr_CFG (R114)
  ⟨0x40040104, 4, 0x100, 1, 0x4, 0x0#32, 0xF#32, 0x0#32, 0x0#32, 0x0#32, 0x0#32, 0x0#32, false, true⟩,  -- MRVr_VSRC (R109)
  ⟨0x40040108, 4, 0x100, 1, 0x4, 0x138801F4#32, 0x1FFF1FFF#32, 0x0#32, 0x0#32, 0x0#32, 0x0#32, 0x0#32, false, true⟩,  -- MRVr_VLIM (R107)
  ⟨0x4004010C, 4, 0x100, 1, 0x4, 0x1F4#32, 0x1FFF#32, 0x0#32, 0x0#32, 0x0#32, 0x0#32, 0x0#32, false, true⟩,  -- MRVr_VBOOT (R107)
  ⟨0x40040110, 4, 0x100, 1, 0x4, 0xA0064#32, 0x1FF01FF#32, 0x0#32, 0x0#32, 0x0#32, 0x0#32, 0x0#32, false, true⟩,  -- MRVr_SLEW (R110)
  ⟨0x40040114, 4, 0x100, 1, 0x4, 0x320005#32, 0x1FFF1FFF#32, 0x0#32, 0x0#32, 0x0#32, 0x0#32, 0x1FFF1FFF#32, false, true⟩,  -- MRVr_SLEWDIV (R110)
  ⟨0x40040118, 4, 0x100, 1, 0x4, 0x0#32, 0x1FFF#32, 0x0#32, 0x0#32, 0x0#32, 0x0#32, 0x0#32, false, false⟩,  -- MRVr_VSHOST (R108)
  ⟨0x4004011C, 4, 0x100, 1, 0x4, 0x0#32, 0x1FFF#32, 0x0#32, 0x0#32, 0x0#32, 0x0#32, 0x0#32, false, false⟩,  -- MRVr_VSPMB (R108)
  ⟨0x40040120, 4, 0x100, 1, 0x4, 0x0#32, 0x0#32, 0x0#32, 0x0#32, 0x0#32, 0xFFFFDFFF#32, 0x0#32, false, false⟩,  -- MRVr_VSNOW (R109)
  ⟨0x40040124, 4, 0x100, 1, 0x4, 0x0#32, 0x0#32, 0x0#32, 0xFFFFFFFF#32, 0x0#32, 0x0#32, 0x0#32, false, false⟩,  -- MRVr_VSCNT (R109)
  ⟨0x40040128, 4, 0x100, 1, 0x4, 0x0#32, 0x0#32, 0x0#32, 0xFFFFFFFF#32, 0x0#32, 0x0#32, 0x0#32, false, false⟩,  -- MRVr_VSREJ (R109)
  ⟨0x4004012C, 4, 0x100, 1, 0x4, 0x0#32, 0xFFF#32, 0x0#32, 0x0#32, 0x0#32, 0x0#32, 0xF00#32, false, true⟩,  -- MRVr_LL (R105)
  ⟨0x40040130, 4, 0x100, 1, 0x4, 0x0#32, 0xFFFFFFFF#32, 0x0#32, 0x0#32, 0x0#32, 0x0#32, 0x0#32, false, true⟩,  -- MRVr_KP (R113)
  ⟨0x40040134, 4, 0x100, 1, 0x4, 0x0#32, 0xFFFFFFFF#32, 0x0#32, 0x0#32, 0x0#32, 0x0#32, 0x0#32, false, true⟩,  -- MRVr_KI (R113)
  ⟨0x40040138, 4, 0x100, 1, 0x4, 0x0#32, 0xFFFFFFFF#32, 0x0#32, 0x0#32, 0x0#32, 0x0#32, 0x0#32, false, true⟩,  -- MRVr_KD (R113)
  ⟨0x4004013C, 4, 0x100, 1, 0x4, 0xC805#32, 0xFF0F#32, 0x0#32, 0x0#32, 0x0#32, 0x0#32, 0x0#32, false, true⟩,  -- MRVr_LIM (R113)
  ⟨0x40040140, 4, 0x100, 1, 0x4, 0x0#32, 0xFFFFFFFF#32, 0x0#32, 0x0#32, 0x0#32, 0x0#32, 0xFFFFFFFF#32, false, true⟩,  -- MRVr_B0 (R112)
  ⟨0x40040144, 4, 0x100, 1, 0x4, 0x0#32, 0xFFFFFFFF#32, 0x0#32, 0x0#32, 0x0#32, 0x0#32, 0xFFFFFFFF#32, false, true⟩,  -- MRVr_B1 (R112)
  ⟨0x40040148, 4, 0x100, 1, 0x4, 0x0#32, 0xFFFFFFFF#32, 0x0#32, 0x0#32, 0x0#32, 0x0#32, 0xFFFFFFFF#32, false, true⟩,  -- MRVr_B2 (R112)
  ⟨0x4004014C, 4, 0x100, 1, 0x4, 0x0#32, 0xFFFFFFFF#32, 0x0#32, 0x0#32, 0x0#32, 0x0#32, 0xFFFFFFFF#32, false, true⟩,  -- MRVr_B3 (R112)
  ⟨0x40040150, 4, 0x100, 1, 0x4, 0xC20000#32, 0xFFFFFF#32, 0x0#32, 0x0#32, 0x0#32, 0x0#32, 0xFFFFFF#32, false, true⟩,  -- MRVr_A1 (R112)
  ⟨0x40040154, 4, 0x100, 1, 0x4, 0x0#32, 0xFFFFFF#32, 0x0#32, 0x0#32, 0x0#32, 0x0#32, 0xFFFFFF#32, false, true⟩,  -- MRVr_A2 (R112)
  ⟨0x40040158, 4, 0x100, 1, 0x4, 0x1400010#32, 0xFFF00FF#32, 0x0#32, 0x0#32, 0x0#32, 0x0#32, 0xFFF00FF#32, false, true⟩,  -- MRVr_BAL (R117)
  ⟨0x4004015C, 4, 0x100, 1, 0x4, 0x20051401#32, 0xFFFFFF1F#32, 0x0#32, 0x0#32, 0x0#32, 0x0#32, 0xFFFF0000#32, false, true⟩,  -- MRVr_PH (R118)
  ⟨0x40040160, 4, 0x100, 1, 0x4, 0x21500118#32, 0x7FFF0F1F#32, 0x0#32, 0x0#32, 0x0#32, 0x0#32, 0x7FFF0F1F#32, false, true⟩,  -- MRVr_GL (R121)
  ⟨0x40040164, 4, 0x100, 1, 0x4, 0x0#32, 0x1#32, 0x0#32, 0x0#32, 0x0#32, 0x100#32, 0x0#32, false, false⟩,  -- MRVr_UPD (R127)
  ⟨0x40040168, 4, 0x100, 1, 0x4, 0x0#32, 0x0#32, 0x0#32, 0x0#32, 0x0#32, 0x71F1F07#32, 0x0#32, false, false⟩,  -- MRVr_STAT (R111)
  ⟨0x4004016C, 4, 0x100, 1, 0x4, 0x0#32, 0x0#32, 0x0#32, 0x0#32, 0x0#32, 0xFFFFFF#32, 0x0#32, false, false⟩,  -- MRVr_DUTY (R112)
  ⟨0x40040170, 4, 0x100, 1, 0x4, 0x0#32, 0x0#32, 0x0#32, 0x0#32, 0x0#32, 0xFFFFFFFF#32, 0x0#32, false, false⟩,  -- MRVr_ILF (R105)
  ⟨0x40040174, 4, 0x100, 1, 0x4, 0x0#32, 0x0#32, 0x0#32, 0xFFFFFFFF#32, 0x0#32, 0x0#32, 0x0#32, false, false⟩,  -- MRVr_GLCNT (R123)
  ⟨0x40040180, 4, 0x100, 24, 0x4, 0x0#32, 0x0#32, 0x0#32, 0x0#32, 0x0#32, 0x1FFF#32, 0x0#32, false, false⟩]  -- MRVr_BALTRIMk (R117)

/-- Register rows of PROT, part 1. -/
def rowsPROT1 : List RegRow := [
  ⟨0x40050000, 1, 0x4, 1, 0x4, 0x0#32, 0x80000000#32, 0x0#32, 0x0#32, 0x0#32, 0x0#32, 0x0#32, false, false⟩,  -- PROT_CTL (R160)
  ⟨0x40050004, 1, 0x4, 1, 0x4, 0x0#32, 0x0#32, 0x7#32, 0x0#32, 0x0#32, 0x0#32, 0x0#32, false, false⟩,  -- PROT_FLT (R155)
  ⟨0x40050008, 1, 0x4, 1, 0x4, 0x0#32, 0x0#32, 0x0#32, 0x0#32, 0x0#32, 0xFFFFFFFF#32, 0x0#32, true, false⟩,  -- PROT_ACT (R154)
  ⟨0x4005000C, 1, 0x4, 1, 0x4, 0x0#32, 0x0#32, 0x0#32, 0x0#32, 0x0#32, 0xFFFFFFFF#32, 0x0#32, false, false⟩,  -- PROT_OOS (R150)
  ⟨0x40050100, 4, 0x40, 1, 0x4, 0xC65C49C#32, 0x3FFFFFFF#32, 0x0#32, 0x0#32, 0x0#32, 0x0#32, 0x3FFFFFFF#32, false, false⟩,  -- PROTr_RESP (R137)
  ⟨0x40050104, 4, 0x40, 1, 0x4, 0x140A0A50#32, 0xFFFFFFFF#32, 0x0#32, 0x0#32, 0x0#32, 0x0#32, 0xFFFFFF00#32, false, false⟩,  -- PROTr_VTH (R132)
  ⟨0x40050108, 4, 0x40, 1, 0x4, 0x81F408C8#32, 0xF3FFFFFF#32, 0x0#32, 0x0#32, 0x0#32, 0x0#32, 0xF000FF00#32, false, false⟩,  -- PROTr_ITH (R132)
  ⟨0x4005010C, 4, 0x40, 1, 0x4, 0x822A6E7D#32, 0xFF7FFFFF#32, 0x0#32, 0x0#32, 0x0#32, 0x0#32, 0xFF7F0000#32, false, false⟩,  -- PROTr_TTH (R132)
  ⟨0x40050110, 4, 0x40, 1, 0x4, 0x3200258#32, 0xFFFFFFFF#32, 0x0#32, 0x0#32, 0x0#32, 0x0#32, 0x0#32, false, false⟩,  -- PROTr_TSCL (R133)
  ⟨0x40050114, 4, 0x40, 1, 0x4, 0x325A#32, 0xFFFF#32, 0x0#32, 0x0#32, 0x0#32, 0x0#32, 0xFF00#32, false, false⟩,  -- PROTr_VIN (R132)
  ⟨0x40050118, 4, 0x40, 1, 0x4, 0xA1403#32, 0x1FFFF0F#32, 0x0#32, 0x0#32, 0x0#32, 0x0#32, 0x1FFFF00#32, false, false⟩,  -- PROTr_HIC (R146)
  ⟨0x4005011C, 4, 0x40, 1, 0x4, 0x0#32, 0x0#32, 0x0#32, 0x0#32, 0x0#32, 0xFF3103FF#32, 0x0#32, false, false⟩,  -- PROTr_STAT (R146)
  ⟨0x40050120, 4, 0x40, 1, 0x4, 0x0#32, 0x0#32, 0x303FF#32, 0x0#32, 0x0#32, 0x0#32, 0x0#32, false, false⟩,  -- PROTr_FLAG (R136)
  ⟨0x40050124, 4, 0x40, 1, 0x4, 0x0#32, 0x0#32, 0x0#32, 0xFFFFFFFF#32, 0x0#32, 0x0#32, 0x0#32, false, false⟩]  -- PROTr_CNT (R142)

/-- Register rows of EDGE, part 1. -/
def rowsEDGE1 : List RegRow := [
  ⟨0x40060000, 1, 0x4, 1, 0x4, 0x0#32, 0x80000000#32, 0x0#32, 0x0#32, 0x0#32, 0x0#32, 0x0#32, false, false⟩,  -- EDGE_CTL (R188)
  ⟨0x40060004, 1, 0x4, 1, 0x4, 0x0#32, 0x0#32, 0x1FF#32, 0x0#32, 0x0#32, 0x0#32, 0x0#32, false, false⟩,  -- EDGE_FLT (R179)
  ⟨0x40060008, 1, 0x4, 1, 0x4, 0x0#32, 0x0#32, 0x0#32, 0x0#32, 0x0#32, 0xFFFFFFFF#32, 0x0#32, true, false⟩,  -- EDGE_ACT (R182)
  ⟨0x40060010, 1, 0x4, 1, 0x4, 0x0#32, 0x0#32, 0x0#32, 0x0#32, 0x0#32, 0xFFFFFFFF#32, 0x0#32, false, false⟩,  -- EDGE_PHST0 (R161)
  ⟨0x40060014, 1, 0x4, 1, 0x4, 0x0#32, 0x0#32, 0x0#32, 0x0#32, 0x0#32, 0xFFFFFFFF#32, 0x0#32, false, false⟩,  -- EDGE_PHST1 (R161)
  ⟨0x40060080, 32, 0x4, 1, 0x4, 0x0#32, 0xFF#32, 0x0#32, 0x0#32, 0x0#32, 0x0#32, 0xFF#32, false, false⟩,  -- EDGE_PTRIMp (R169)
  ⟨0x40060100, 4, 0x100, 1, 0x4, 0x0#32, 0x1131#32, 0x0#32, 0x0#32, 0x0#32, 0x0#32, 0x1130#32, false, false⟩,  -- EDGEr_CTL (R179)
  ⟨0x40060104, 4, 0x100, 1, 0x4, 0x1414#32, 0xFFFFFF#32, 0x0#32, 0x0#32, 0x0#32, 0x0#32, 0x0#32, false, false⟩,  -- EDGEr_TIME (R172)
  ⟨0x40060108, 4, 0x100, 1, 0x4, 0x0#32, 0xFFFFFF#32, 0x0#32, 0x0#32, 0x0#32, 0x0#32, 0x0#32, false, false⟩,  -- EDGEr_OFS (R166)
  ⟨0x4006010C, 4, 0x100, 1, 0x4, 0x0#32, 0x1F#32, 0x0#32, 0x0#32, 0x0#32, 0x0#32, 0x0#32, false, false⟩,  -- EDGEr_MAP (R164)
  ⟨0x40060110, 4, 0x100, 4, 0x4, 0x0#32, 0x3FFFFFFF#32, 0x0#32, 0x0#32, 0x0#32, 0x0#32, 0x0#32, false, false⟩,  -- EDGEr_LISTj (R164)
  ⟨0x40060120, 4, 0x100, 1, 0x4, 0x0#32, 0xFF#32, 0x0#32, 0x0#32, 0x0#32, 0x0#32, 0x0#32, false, false⟩,  -- EDGEr_FRZ (R182)
  ⟨0x40060124, 4, 0x100, 1, 0x4, 0x0#32, 0x0#32, 0x0#32, 0x0#32, 0x0#32, 0xFF001F#32, 0x0#32, false, false⟩,  -- EDGEr_STAT (R178)
  ⟨0x40060128, 4, 0x100, 1, 0x4, 0x0#32, 0x0#32, 0x0#32, 0xFFFFFFFF#32, 0x0#32, 0x0#32, 0x0#32, false, false⟩,  -- EDGEr_CNT (R175)
  ⟨0x40060180, 4, 0x100, 24, 0x4, 0x0#32, 0xFFFFFF#32, 0x0#32, 0x0#32, 0x0#32, 0x0#32, 0xFFFFFF#32, false, false⟩]  -- EDGEr_SLOTk (R166)

/-- Register rows of APRAM, part 1. -/
def rowsAPRAM1 : List RegRow := [
  ⟨0x40070000, 1, 0x4, 1, 0x4, 0x2#32, 0x80000133#32, 0x0#32, 0x0#32, 0x0#32, 0x0#32, 0x0#32, false, false⟩,  -- APR_CTL (R192)
  ⟨0x40070004, 1, 0x4, 1, 0x4, 0x320A0100#32, 0xFFFF1FFF#32, 0x0#32, 0x0#32, 0x0#32, 0x0#32, 0xFFFF0000#32, false, false⟩,  -- APR_LINK (R194)
  ⟨0x40070008, 1, 0x4, 1, 0x4, 0x0#32, 0xFFFFFFFF#32, 0x0#32, 0x0#32, 0x0#32, 0x0#32, 0x0#32, false, false⟩,  -- APR_TEL (R210)
  ⟨0x4007000C, 1, 0x4, 1, 0x4, 0x0#32, 0x0#32, 0x0#32, 0x0#32, 0x0#32, 0xF01F7#32, 0x0#32, false, false⟩,  -- APR_STAT (R197)
  ⟨0x40070010, 1, 0x4, 1, 0x4, 0x0#32, 0x0#32, 0xF#32, 0x0#32, 0x0#32, 0x0#32, 0x0#32, false, false⟩,  -- APR_FLT (R196)
  ⟨0x40070014, 1, 0x4, 1, 0x4, 0x0#32, 0x0#32, 0x0#32, 0x0#32, 0x0#32, 0xFFFFFFFF#32, 0x0#32, true, false⟩,  -- APR_ACT (R199)
  ⟨0x40070018, 1, 0x4, 1, 0x4, 0x0#32, 0x0#32, 0x0#32, 0x0#32, 0x0#32, 0xFF00FFFF#32, 0x0#32, false, false⟩,  -- APR_SEQ (R206)
  ⟨0x4007001C, 1, 0x4, 1, 0x4, 0x0#32, 0x0#32, 0x0#32, 0x0#32, 0x0#32, 0xFFFFFFFF#32, 0x0#32, false, false⟩,  -- APR_BMAP (R206)
  ⟨0x40070020, 1, 0x4, 1, 0x4, 0x0#32, 0x0#32, 0x0#32, 0xFFFFFFFF#32, 0x0#32, 0x0#32, 0x0#32, false, false⟩,  -- APR_CNT0 (R206)
  ⟨0x40070024, 1, 0x4, 1, 0x4, 0x0#32, 0x0#32, 0x0#32, 0xFFFFFFFF#32, 0x0#32, 0x0#32, 0x0#32, false, false⟩,  -- APR_CNT1 (R201)
  ⟨0x40070028, 1, 0x4, 1, 0x4, 0x0#32, 0x0#32, 0x0#32, 0xFFFFFF#32, 0x0#32, 0x0#32, 0x0#32, false, false⟩,  -- APR_CNT2 (R203)
  ⟨0x40070100, 4, 0x20, 1, 0x4, 0x8000#32, 0xFF31#32, 0x0#32, 0x0#32, 0x0#32, 0x0#32, 0x30#32, false, true⟩,  -- PARr_CTL (R211)
  ⟨0x40070104, 4, 0x20, 1, 0x4, 0x1F403E8#32, 0xFFF0FFF#32, 0x0#32, 0x0#32, 0x0#32, 0x0#32, 0x0#32, false, true⟩,  -- PARr_PLANT (R211)
  ⟨0x40070108, 4, 0x20, 1, 0x4, 0x12C3228#32, 0xFFFFFFF#32, 0x0#32, 0x0#32, 0x0#32, 0x0#32, 0xFFFFFFF#32, false, true⟩,  -- PARr_TIME (R213)
  ⟨0x4007010C, 4, 0x20, 1, 0x4, 0x14#32, 0xFFF00FF#32, 0x0#32, 0x0#32, 0x0#32, 0x0#32, 0xFFF00FF#32, false, true⟩,  -- PARr_GUARD (R215)
  ⟨0x40070110, 4, 0x20, 1, 0x4, 0x0#32, 0x0#32, 0x0#32, 0x0#32, 0x0#32, 0xFFFF1F0F#32, 0x0#32, false, false⟩,  -- PARr_STAT (R211)
  ⟨0x40070114, 4, 0x20, 1, 0x4, 0x0#32, 0x0#32, 0x0#32, 0x0#32, 0x0#32, 0x3FFFFFF#32, 0x0#32, false, false⟩,  -- PARr_P (R213)
  ⟨0x40070118, 4, 0x20, 1, 0x4, 0x0#32, 0x0#32, 0x0#32, 0x0#32, 0x0#32, 0xFFFF#32, 0x0#32, false, false⟩,  -- PARr_IREF (R213)
  ⟨0x4007011C, 4, 0x20, 1, 0x4, 0x0#32, 0x0#32, 0x0#32, 0xFFFFFFFF#32, 0x0#32, 0x0#32, 0x0#32, false, false⟩]  -- PARr_CNT (R211)

/-- Register rows of CNT, part 1. -/
def rowsCNT1 : List RegRow := [
  ⟨0x40080000, 1, 0x4, 1, 0x4, 0x0#32, 0x80000000#32, 0x0#32, 0x0#32, 0x0#32, 0x0#32, 0x0#32, false, false⟩,  -- CNT_CTL (R247)
  ⟨0x40080004, 1, 0x4, 1, 0x4, 0x0#32, 0x0#32, 0x1#32, 0x0#32, 0x0#32, 0x0#32, 0x0#32, false, false⟩,  -- CNT_FLT (R230)
  ⟨0x40080008, 1, 0x4, 1, 0x4, 0x0#32, 0x0#32, 0x0#32, 0x0#32, 0x0#32, 0xFFFFFFFF#32, 0x0#32, true, false⟩,  -- CNT_ACT (R246)
  ⟨0x40080100, 24, 0x40, 1, 0x4, 0x0#32, 0x777D#32, 0x0#32, 0x0#32, 0x0#32, 0x0#32, 0x60#32, false, false⟩,  -- CUn_CTL (R221)
  ⟨0x40080104, 24, 0x40, 1, 0x4, 0x0#32, 0xFFFFFFFF#32, 0x0#32, 0x0#32, 0x0#32, 0x0#32, 0x0#32, false, false⟩,  -- CUn_COUNT (R230)
  ⟨0x40080108, 24, 0x40, 1, 0x4, 0xFFFFFFFF#32, 0xFFFFFFFF#32, 0x0#32, 0x0#32, 0x0#32, 0x0#32, 0x0#32, false, false⟩,  -- CUn_MATCHA (R225)
  ⟨0x4008010C, 24, 0x40, 1, 0x4, 0xFFFFFFFF#32, 0xFFFFFFFF#32, 0x0#32, 0x0#32, 0x0#32, 0x0#32, 0x0#32, false, false⟩,  -- CUn_MATCHB (R225)
  ⟨0x40080110, 24, 0x40, 1, 0x4, 0xFFFFFFFF#32, 0xFFFFFFFF#32, 0x0#32, 0x0#32, 0x0#32, 0x0#32, 0x0#32, false, false⟩,  -- CUn_PERIOD (R227)
  ⟨0x40080114, 24, 0x40, 1, 0x4, 0xFFFFFFFF#32, 0x0#32, 0x0#32, 0x0#32, 0x0#32, 0xFFFFFFFF#32, 0x0#32, false, false⟩,  -- CUn_PERACT (R227)
  ⟨0x40080118, 24, 0x40, 1, 0x4, 0x0#32, 0x0#32, 0x0#32, 0x0#32, 0x0#32, 0xFFFFFFFF#32, 0x0#32, false, false⟩,  -- CUn_CAP (R231)
  ⟨0x4008011C, 24, 0x40, 1, 0x4, 0x0#32, 0x0#32, 0xFC#32, 0x0#32, 0x0#32, 0x103#32, 0x0#32, false, false⟩,  -- CUn_STAT (R221)
  ⟨0x40080120, 24, 0x40, 1, 0x4, 0x0#32, 0x1F000777#32, 0x0#32, 0x0#32, 0x0#32, 0x0#32, 0x0#32, false, false⟩,  -- CUn_LINK (R233)
  ⟨0x40080124, 24, 0x40, 1, 0x4, 0x0#32, 0x0#32, 0x0#32, 0x0#32, 0x0#32, 0xFFFFFFFF#32, 0x0#32, false, false⟩]  -- CUn_CAPPK (R232)

/-- Register rows of EVM, part 1. -/
def rowsEVM1 : List RegRow := [
  ⟨0x40090000, 1, 0x4, 1, 0x4, 0x0#32, 0x80000000#32, 0x0#32, 0x0#32, 0x0#32, 0x0#32, 0x0#32, false, false⟩,  -- EVM_CTL (R248)
  ⟨0x40090004, 1, 0x4, 1, 0x4, 0x0#32, 0x0#32, 0x3#32, 0x0#32, 0x0#32, 0x0#32, 0x0#32, false, false⟩,  -- EVM_FLT (R239)
  ⟨0x40090008, 1, 0x4, 1, 0x4, 0x0#32, 0x0#32, 0x0#32, 0x0#32, 0x0#32, 0xFFFFFFFF#32, 0x0#32, true, false⟩,  -- EVM_ACT (R245)
  ⟨0x4009000C, 1, 0x4, 1, 0x4, 0x0#32, 0x0#32, 0xFFFFFFFF#32, 0x0#32, 0x0#32, 0x0#32, 0x0#32, false, false⟩,  -- EVM_REF (R239)
  ⟨0x40090010, 1, 0x4, 1, 0x4, 0xA00#32, 0xFFFF#32, 0x0#32, 0x0#32, 0x0#32, 0x0#32, 0xFF00#32, false, false⟩,  -- EVM_EVOCTL (R244)
  ⟨0x40090014, 1, 0x4, 1, 0x4, 0x0#32, 0x0#32, 0x0#32, 0xFFFF#32, 0x0#32, 0x0#32, 0x0#32, false, false⟩,  -- EVM_FAST (R237)
  ⟨0x40090100, 192, 0x4, 1, 0x4, 0x0#32, 0xFFFFFFFF#32, 0x0#32, 0x0#32, 0x0#32, 0x0#32, 0x0#32, false, false⟩,  -- EVM_SRCENs (R236)
  ⟨0x40090400, 32, 0x20, 1, 0x4, 0x0#32, 0x3#32, 0x0#32, 0x0#32, 0x0#32, 0x0#32, 0x0#32, false, false⟩,  -- EVM_CHc_CTL (R240)
  ⟨0x40090404, 32, 0x20, 1, 0x4, 0x0#32, 0x0#32, 0x0#32, 0xFFFF#32, 0x0#32, 0x0#32, 0x0#32, false, false⟩,  -- EVM_CHc_CNT (R236)
  ⟨0x40090410, 32, 0x20, 4, 0x4, 0x0#32, 0xFFFFFFFF#32, 0x0#32, 0x0#32, 0x0#32, 0x0#32, 0x0#32, false, false⟩]  -- EVM_CHc_SNKj (R239)

/-- Register rows of TRIO, part 1. -/
def rowsTRIO1 : List RegRow := [
  ⟨0x400A0000, 1, 0x4, 1, 0x4, 0x0#32, 0x80000000#32, 0x0#32, 0x0#32, 0x0#32, 0x0#32, 0x0#32, false, false⟩,  -- TRIO_CTL (R329)
  ⟨0x400A0004, 1, 0x4, 1, 0x4, 0x30064#32, 0xFFFFF#32, 0x0#32, 0x0#32, 0x0#32, 0x0#32, 0xFFFFF#32, false, false⟩,  -- TRIO_CKCFG (R314)
  ⟨0x400A0008, 1, 0x4, 1, 0x4, 0x0#32, 0x0#32, 0x0#32, 0x0#32, 0x0#32, 0xFFFFFFFF#32, 0x0#32, true, false⟩,  -- TRIO_ACT (R320)
  ⟨0x400A000C, 1, 0x4, 1, 0x4, 0x0#32, 0x0#32, 0x0#32, 0x0#32, 0x0#32, 0x7FFF0F01#32, 0x0#32, false, false⟩,  -- TRIO_STAT (R315)
  ⟨0x400A0010, 1, 0x4, 1, 0x4, 0x0#32, 0x0#32, 0x0#32, 0x0#32, 0x0#32, 0x7FFFF#32, 0x0#32, false, false⟩,  -- TRIO_LAST (R317)
  ⟨0x400A0014, 1, 0x4, 1, 0x4, 0x0#32, 0x0#32, 0x0#32, 0xFFFFFFFF#32, 0x0#32, 0x0#32, 0x0#32, false, false⟩,  -- TRIO_CNT (R317)
  ⟨0x400A0018, 1, 0x4, 1, 0x4, 0x0#32, 0x1#32, 0x0#32, 0x0#32, 0x0#32, 0x0#32, 0x0#32, false, false⟩,  -- TRIO_SLP (R322)
  ⟨0x400A001C, 1, 0x4, 1, 0x4, 0x0#32, 0xFFFF#32, 0x0#32, 0x0#32, 0x0#32, 0x0#32, 0x0#32, false, false⟩,  -- TRIO_WDT (R325)
  ⟨0x400A0020, 2, 0x4, 1, 0x4, 0x0#32, 0x0#32, 0xFFFFFFFF#32, 0x0#32, 0x0#32, 0x0#32, 0x0#32, false, false⟩,  -- TRIO_IRQPENDj (R321)
  ⟨0x400A0028, 2, 0x4, 1, 0x4, 0x0#32, 0xFFFFFFFF#32, 0x0#32, 0x0#32, 0x0#32, 0x0#32, 0x0#32, false, false⟩,  -- TRIO_IRQENj (R321)
  ⟨0x400A0030, 2, 0x4, 1, 0x4, 0x0#32, 0x0#32, 0x0#32, 0x0#32, 0x0#32, 0xFFFFFFFF#32, 0x0#32, false, false⟩]  -- TRIO_IRQCLRj (R321)

/-- Register rows of LCS, part 1. -/
def rowsLCS1 : List RegRow := [
  ⟨0x400B0000, 1, 0x4, 1, 0x4, 0x1#32, 0x800000FF#32, 0x0#32, 0x0#32, 0x0#32, 0x0#32, 0xFF#32, false, false⟩,  -- LCS_CTL (R336)
  ⟨0x400B0004, 1, 0x4, 1, 0x4, 0x0#32, 0x0#32, 0x0#32, 0x0#32, 0x0#32, 0x137#32, 0x0#32, false, false⟩,  -- LCS_STAT (R349)
  ⟨0x400B0008, 1, 0x4, 1, 0x4, 0x0#32, 0x0#32, 0x0#32, 0x0#32, 0x0#32, 0xFFFFFFFF#32, 0x0#32, true, false⟩,  -- LCS_ACT (R347)
  ⟨0x400B000C, 1, 0x4, 1, 0x4, 0x0#32, 0x0#32, 0x1E#32, 0x0#32, 0x0#32, 0x0#32, 0x0#32, false, false⟩,  -- LCS_FLT (R347)
  ⟨0x400B0010, 1, 0x4, 1, 0x4, 0x0#32, 0xFFF#32, 0x0#32, 0x0#32, 0x0#32, 0x0#32, 0x0#32, false, false⟩,  -- LCS_OTPADDR (R346)
  ⟨0x400B0014, 1, 0x4, 1, 0x4, 0x0#32, 0x0#32, 0x0#32, 0x0#32, 0x0#32, 0xFFFFFFFF#32, 0x0#32, false, false⟩,  -- LCS_OTPDATA (R346)
  ⟨0x400B0018, 1, 0x4, 1, 0x4, 0x0#32, 0xFFFFFFFF#32, 0x0#32, 0x0#32, 0x0#32, 0x0#32, 0x0#32, false, false⟩,  -- LCS_OTPWD (R347)
  ⟨0x400B001C, 1, 0x4, 1, 0x4, 0x0#32, 0x0#32, 0x0#32, 0xFFFFFFFF#32, 0x0#32, 0x0#32, 0x0#32, false, false⟩,  -- LCS_ECC (R334)
  ⟨0x400B0020, 1, 0x4, 1, 0x4, 0x0#32, 0x0#32, 0x0#32, 0x0#32, 0x0#32, 0xFFFFFFFF#32, 0x0#32, false, false⟩,  -- LCS_ECCADDR (R334)
  ⟨0x400B0024, 1, 0x4, 1, 0x4, 0x0#32, 0x0#32, 0x0#32, 0x0#32, 0x0#32, 0x7033F03#32, 0x0#32, false, false⟩,  -- LCS_BOOT (R344)
  ⟨0x400B0028, 1, 0x4, 1, 0x4, 0x0#32, 0x0#32, 0x0#32, 0x0#32, 0x0#32, 0xFFFFFFFF#32, 0x0#32, false, false⟩,  -- LCS_WSTATL (R354)
  ⟨0x400B002C, 1, 0x4, 1, 0x4, 0x0#32, 0x0#32, 0x0#32, 0x0#32, 0x0#32, 0xFFFFFFFF#32, 0x0#32, false, false⟩]  -- LCS_WSTATH (R354)

/-- Register rows of XSPI, part 1. -/
def rowsXSPI1 : List RegRow := [
  ⟨0x40160000, 1, 0x4, 1, 0x4, 0x0#32, 0x801F0F01#32, 0x0#32, 0x0#32, 0x0#32, 0x0#32, 0x1F0F01#32, false, false⟩,  -- XSPI_CTL (R340)
  ⟨0x40160004, 1, 0x4, 1, 0x4, 0x0#32, 0x83FFFFFF#32, 0x0#32, 0x0#32, 0x0#32, 0x0#32, 0x0#32, false, false⟩,  -- XSPI_CMD (R340)
  ⟨0x40160008, 1, 0x4, 1, 0x4, 0x0#32, 0xFFFFFFFF#32, 0x0#32, 0x0#32, 0x0#32, 0x0#32, 0x0#32, false, false⟩,  -- XSPI_ADDR (R340)
  ⟨0x4016000C, 1, 0x4, 1, 0x4, 0x0#32, 0x0#32, 0x0#32, 0x0#32, 0x0#32, 0xFFFFFFFF#32, 0x0#32, true, false⟩,  -- XSPI_ACT (R340)
  ⟨0x40160010, 1, 0x4, 1, 0x4, 0x0#32, 0x0#32, 0x0#32, 0x0#32, 0x0#32, 0x1#32, 0x0#32, false, false⟩,  -- XSPI_STAT (R340)
  ⟨0x40160014, 1, 0x4, 1, 0x4, 0x0#32, 0x0#32, 0x3#32, 0x0#32, 0x0#32, 0x0#32, 0x0#32, false, false⟩,  -- XSPI_FLT (R357)
  ⟨0x40160100, 64, 0x4, 1, 0x4, 0x0#32, 0xFFFFFFFF#32, 0x0#32, 0x0#32, 0x0#32, 0x0#32, 0x0#32, false, false⟩]  -- XSPI_BUFi (R340)

/-- Register rows of CRYPTO, part 1. -/
def rowsCRYPTO1 : List RegRow := [
  ⟨0x40170000, 1, 0x4, 1, 0x4, 0x0#32, 0x80000000#32, 0x0#32, 0x0#32, 0x0#32, 0x0#32, 0x0#32, false, false⟩,  -- CRYPTO_CTL (R14)
  ⟨0x40170004, 1, 0x4, 1, 0x4, 0x0#32, 0x0#32, 0x0#32, 0x0#32, 0x0#32, 0xFFFFFFFF#32, 0x0#32, true, false⟩,  -- CRYPTO_ACT (R345)
  ⟨0x40170008, 1, 0x4, 1, 0x4, 0x0#32, 0x0#32, 0x1#32, 0x0#32, 0x0#32, 0x0#32, 0x0#32, false, false⟩,  -- CRYPTO_FLT (R345)
  ⟨0x4017000C, 1, 0x4, 1, 0x4, 0x0#32, 0x0#32, 0x0#32, 0x0#32, 0x0#32, 0xFFFFFFFF#32, 0x0#32, false, false⟩,  -- CRYPTO_VSTATL (R345)
  ⟨0x40170010, 1, 0x4, 1, 0x4, 0x0#32, 0x0#32, 0x0#32, 0x0#32, 0x0#32, 0xFFFFFFFF#32, 0x0#32, false, false⟩]  -- CRYPTO_VSTATH (R345)

/-- Register rows of HIF, part 1. -/
def rowsHIF1 : List RegRow := [
  ⟨0x400C0000, 1, 0x4, 1, 0x4, 0x0#32, 0x8000001F#32, 0x0#32, 0x0#32, 0x100#32, 0x0#32, 0x0#32, false, false⟩,  -- HIF_CTL (R363)
  ⟨0x400C0004, 1, 0x4, 1, 0x4, 0x96400000#32, 0x0#32, 0x0#32, 0x0#32, 0x0#32, 0xFFFFFFFF#32, 0x0#32, false, false⟩,  -- HIF_VID (R358)
  ⟨0x400C0008, 1, 0x4, 1, 0x4, 0x0#32, 0x0#32, 0x0#32, 0x0#32, 0x0#32, 0x1F0FF1#32, 0x0#32, false, false⟩,  -- HIF_STAT (R359)
  ⟨0x400C000C, 1, 0x4, 1, 0x4, 0x0#32, 0x0#32, 0x7#32, 0x0#32, 0x0#32, 0x0#32, 0x0#32, false, false⟩,  -- HIF_FLT (R377)
  ⟨0x400C0010, 1, 0x4, 1, 0x4, 0x0#32, 0x0#32, 0x0#32, 0x0#32, 0x0#32, 0xFFFFFFFF#32, 0x0#32, true, false⟩,  -- HIF_ACT (R373)
  ⟨0x400C0014, 1, 0x4, 1, 0x4, 0x0#32, 0x0#32, 0x0#32, 0x800F0700#32, 0x0#32, 0x0#32, 0x0#32, false, false⟩,  -- HIF_TAKE (R372)
  ⟨0x400C0018, 1, 0x4, 1, 0x4, 0x303#32, 0xF0F#32, 0x0#32, 0x0#32, 0x0#32, 0x0#32, 0xF0F#32, false, false⟩,  -- HIF_CFG (R392)
  ⟨0x400C0020, 2, 0x4, 1, 0x4, 0x0#32, 0x1F1F1F1F#32, 0x0#32, 0x0#32, 0x0#32, 0x0#32, 0x0#32, false, false⟩,  -- HIF_EVMVECj (R380)
  ⟨0x400C0400, 16, 0x40, 16, 0x4, 0x0#32, 0x0#32, 0x0#32, 0x0#32, 0x0#32, 0xFFFFFFFF#32, 0x0#32, false, false⟩,  -- HIF_SLOTs_Di (R371)
  ⟨0x400C0800, 16, 0x8, 1, 0x4, 0x0#32, 0xFFFFFFFF#32, 0x0#32, 0x0#32, 0x0#32, 0x0#32, 0x0#32, false, false⟩,  -- HIF_SLOTs_RES (R373)
  ⟨0x400C0804, 16, 0x8, 1, 0x4, 0x0#32, 0xFF#32, 0x0#32, 0x0#32, 0x0#32, 0x0#32, 0x0#32, false, false⟩,  -- HIF_SLOTs_ST (R373)
  ⟨0x400C1000, 16, 0x200, 128, 0x4, 0x0#32, 0xFFFFFFFF#32, 0x0#32, 0x0#32, 0x0#32, 0x0#32, 0x0#32, false, false⟩,  -- HIF_SLOTs_DATAi (R373)
  ⟨0x400C3000, 8, 0x40, 1, 0x4, 0x1000040#32, 0xFF00F7F1#32, 0x0#32, 0x0#32, 0x0#32, 0x0#32, 0x0#32, false, false⟩,  -- HIF_SQn_CTL (R366)
  ⟨0x400C3004, 8, 0x40, 1, 0x4, 0x0#32, 0xFFFF#32, 0x0#32, 0x0#32, 0x0#32, 0x0#32, 0x0#32, false, false⟩,  -- HIF_SQn_GEN (R365)
  ⟨0x400C3008, 8, 0x40, 1, 0x4, 0x0#32, 0xFFFFFFFF#32, 0x0#32, 0x0#32, 0x0#32, 0x0#32, 0x0#32, false, false⟩,  -- HIF_SQn_BASEL (R364)
  ⟨0x400C300C, 8, 0x40, 1, 0x4, 0x0#32, 0xFFFFFFFF#32, 0x0#32, 0x0#32, 0x0#32, 0x0#32, 0x0#32, false, false⟩,  -- HIF_SQn_BASEH (R364)
  ⟨0x400C3010, 8, 0x40, 1, 0x4, 0x0#32, 0xFFFFFFFF#32, 0x0#32, 0x0#32, 0x0#32, 0x0#32, 0x0#32, false, false⟩,  -- HIF_SQn_DBL (R367)
  ⟨0x400C3014, 8, 0x40, 1, 0x4, 0x0#32, 0xFFFFFFFF#32, 0x0#32, 0x0#32, 0x0#32, 0x0#32, 0x0#32, false, false⟩,  -- HIF_SQn_DBH (R367)
  ⟨0x400C3018, 8, 0x40, 1, 0x4, 0x4#32, 0xFFF#32, 0x0#32, 0x0#32, 0x0#32, 0x0#32, 0x0#32, false, false⟩,  -- HIF_SQn_POLL (R367)
  ⟨0x400C301C, 8, 0x40, 1, 0x4, 0x0#32, 0xFFFFFFFF#32, 0x0#32, 0x0#32, 0x0#32, 0x0#32, 0x0#32, false, false⟩,  -- HIF_SQn_STAMP (R367)
  ⟨0x400C3020, 8, 0x40, 1, 0x4, 0x0#32, 0xFFFFFFFF#32, 0x0#32, 0x0#32, 0x0#32, 0x0#32, 0x0#32, false, false⟩,  -- HIF_SQn_STEP (R367)
  ⟨0x400C3024, 8, 0x40, 1, 0x4, 0x0#32, 0xFFFF#32, 0x0#32, 0x0#32, 0x0#32, 0x0#32, 0x0#32, false, false⟩,  -- HIF_SQn_CI0 (R366)
  ⟨0x400C3028, 8, 0x40, 1, 0x4, 0x0#32, 0x0#32, 0x0#32, 0x0#32, 0x0#32, 0xF300FFFF#32, 0x0#32, false, false⟩,  -- HIF_SQn_STAT (R366)
  ⟨0x400C302C, 8, 0x40, 1, 0x4, 0x0#32, 0x0#32, 0x0#32, 0xFFFFFFFF#32, 0x0#32, 0x0#32, 0x0#32, false, false⟩,  -- HIF_SQn_CNT (R367)
  ⟨0x400C3200, 8, 0x20, 1, 0x4, 0x40#32, 0x1FF1#32, 0x0#32, 0x0#32, 0x0#32, 0x0#32, 0x0#32, false, false⟩,  -- HIF_CQm_CTL (R389)
  ⟨0x400C3204, 8, 0x20, 1, 0x4, 0x0#32, 0xFFFFFFFF#32, 0x0#32, 0x0#32, 0x0#32, 0x0#32, 0x0#32, false, false⟩,  -- HIF_CQm_BASEL (R364)
  ⟨0x400C3208, 8, 0x20, 1, 0x4, 0x0#32, 0xFFFFFFFF#32, 0x0#32, 0x0#32, 0x0#32, 0x0#32, 0x0#32, false, false⟩,  -- HIF_CQm_BASEH (R364)
  ⟨0x400C320C, 8, 0x20, 1, 0x4, 0x0#32, 0xFFFFFFFF#32, 0x0#32, 0x0#32, 0x0#32, 0x0#32, 0x0#32, false, false⟩,  -- HIF_CQm_CONSL (R375)
  ⟨0x400C3210, 8, 0x20, 1, 0x4, 0x0#32, 0xFFFFFFFF#32, 0x0#32, 0x0#32, 0x0#32, 0x0#32, 0x0#32, false, false⟩,  -- HIF_CQm_CONSH (R375)
  ⟨0x400C3214, 8, 0x20, 1, 0x4, 0x0#32, 0x0#32, 0x0#32, 0x0#32, 0x0#32, 0x301FFFF#32, 0x0#32, false, false⟩,  -- HIF_CQm_STAT (R366)
  ⟨0x400C3300, 2, 0x80, 1, 0x4, 0x400#32, 0xF01F1F01#32, 0x0#32, 0x0#32, 0x0#32, 0x0#32, 0x0#32, false, false⟩,  -- HIF_OR_CTL (R379)
  ⟨0x400C3304, 2, 0x80, 1, 0x4, 0x0#32, 0xFFFFFFFF#32, 0x0#32, 0x0#32, 0x0#32, 0x0#32, 0x0#32, false, false⟩,  -- HIF_OR_BASEL (R364)
  ⟨0x400C3308, 2, 0x80, 1, 0x4, 0x0#32, 0xFFFFFFFF#32, 0x0#32, 0x0#32, 0x0#32, 0x0#32, 0x0#32, false, false⟩,  -- HIF_OR_BASEH (R364)
  ⟨0x400C330C, 2, 0x80, 1, 0x4, 0x0#32, 0xFFFFFFFF#32, 0x0#32, 0x0#32, 0x0#32, 0x0#32, 0x0#32, false, false⟩,  -- HIF_OR_CONSL (R375)
  ⟨0x400C3310, 2, 0x80, 1, 0x4, 0x0#32, 0xFFFFFFFF#32, 0x0#32, 0x0#32, 0x0#32, 0x0#32, 0x0#32, false, false⟩,  -- HIF_OR_CONSH (R375)
  ⟨0x400C3314, 2, 0x80, 1, 0x4, 0x0#32, 0x0#32, 0x0#32, 0x0#32, 0x0#32, 0x300FFFF#32, 0x0#32, false, false⟩,  -- HIF_OR_STAT (R366)
  ⟨0x400C3318, 1, 0x4, 1, 0x4, 0x3E8#32, 0xF0FFFFF#32, 0x0#32, 0x0#32, 0x0#32, 0x0#32, 0x0#32, false, false⟩,  -- HIF_TEL_MODE (R378)
  ⟨0x400C331C, 1, 0x4, 1, 0x4, 0x0#32, 0xFFFFFFFF#32, 0x0#32, 0x0#32, 0x0#32, 0x0#32, 0x0#32, false, false⟩,  -- HIF_TEL_STAMP (R378)
  ⟨0x400C3320, 1, 0x4, 1, 0x4, 0x0#32, 0xFFFFFFFF#32, 0x0#32, 0x0#32, 0x0#32, 0x0#32, 0x0#32, false, false⟩,  -- HIF_TEL_STEP (R378)
  ⟨0x400C3400, 5, 0x20, 1, 0x4, 0x0#32, 0x0#32, 0x0#32, 0x0#32, 0x0#32, 0xFFFFFFFF#32, 0x0#32, false, false⟩]  -- HIF_LOPk_STATL (R386)
/-- Register rows of HIF, part 2. -/
def rowsHIF2 : List RegRow := [
  ⟨0x400C3404, 5, 0x20, 1, 0x4, 0x0#32, 0x0#32, 0x0#32, 0x0#32, 0x0#32, 0xFFFFFFFF#32, 0x0#32, false, false⟩]  -- HIF_LOPk_STATH (R386)

/-- Register rows of MBX, part 1. -/
def rowsMBX1 : List RegRow := [
  ⟨0x400D0000, 1, 0x4, 1, 0x4, 0x0#32, 0x80000000#32, 0x0#32, 0x0#32, 0x100#32, 0x0#32, 0x0#32, false, false⟩,  -- MBX_CTL (R400)
  ⟨0x400D0008, 1, 0x4, 1, 0x4, 0x0#32, 0x0#32, 0x0#32, 0x0#32, 0x0#32, 0xFFFFFFFF#32, 0x0#32, true, false⟩,  -- MBX_ACT (R399)
  ⟨0x400D000C, 1, 0x4, 1, 0x4, 0xA#32, 0x3FF#32, 0x0#32, 0x0#32, 0x0#32, 0x0#32, 0x3FF#32, false, false⟩,  -- MBX_LOCKTO (R399)
  ⟨0x400D0010, 1, 0x4, 1, 0x4, 0x0#32, 0x0#32, 0x0#32, 0x0#32, 0x0#32, 0xFFFF#32, 0x0#32, false, false⟩,  -- MBX_FULL (R403)
  ⟨0x400D0014, 1, 0x4, 1, 0x4, 0x0#32, 0x0#32, 0x0#32, 0xFFFFFF#32, 0x0#32, 0x0#32, 0x0#32, false, false⟩,  -- MBX_CNT (R396)
  ⟨0x400D0100, 8, 0x80, 1, 0x4, 0x10000#32, 0x0#32, 0x0#32, 0x0#32, 0x70001#32, 0x0#32, 0x0#32, false, false⟩,  -- MBk_CFG, k = 0–7 (R400)
  ⟨0x400D0500, 1, 0x4, 1, 0x4, 0x10200#32, 0x0#32, 0x0#32, 0x0#32, 0x70701#32, 0x0#32, 0x0#32, false, false⟩,  -- MB8_CFG (R400)
  ⟨0x400D0580, 1, 0x4, 1, 0x4, 0x20100#32, 0x0#32, 0x0#32, 0x0#32, 0x70701#32, 0x0#32, 0x0#32, false, false⟩,  -- MB9_CFG (R400)
  ⟨0x400D0600, 1, 0x4, 1, 0x4, 0x10300#32, 0x0#32, 0x0#32, 0x0#32, 0x70701#32, 0x0#32, 0x0#32, false, false⟩,  -- MB10_CFG (R400)
  ⟨0x400D0680, 1, 0x4, 1, 0x4, 0x30100#32, 0x0#32, 0x0#32, 0x0#32, 0x70701#32, 0x0#32, 0x0#32, false, false⟩,  -- MB11_CFG (R400)
  ⟨0x400D0700, 1, 0x4, 1, 0x4, 0x10400#32, 0x0#32, 0x0#32, 0x0#32, 0x70701#32, 0x0#32, 0x0#32, false, false⟩,  -- MB12_CFG (R400)
  ⟨0x400D0780, 1, 0x4, 1, 0x4, 0x10500#32, 0x0#32, 0x0#32, 0x0#32, 0x70701#32, 0x0#32, 0x0#32, false, false⟩,  -- MB13_CFG (R400)
  ⟨0x400D0800, 1, 0x4, 1, 0x4, 0x10600#32, 0x0#32, 0x0#32, 0x0#32, 0x70701#32, 0x0#32, 0x0#32, false, false⟩,  -- MB14_CFG (R400)
  ⟨0x400D0880, 1, 0x4, 1, 0x4, 0x60100#32, 0x0#32, 0x0#32, 0x0#32, 0x70701#32, 0x0#32, 0x0#32, false, false⟩,  -- MB15_CFG (R400)
  ⟨0x400D0104, 16, 0x80, 1, 0x4, 0x0#32, 0x7#32, 0x0#32, 0x0#32, 0x0#32, 0x0#32, 0x0#32, false, false⟩,  -- MBk_LOCK (R397)
  ⟨0x400D0108, 16, 0x80, 1, 0x4, 0x0#32, 0x0#32, 0x0#32, 0x0#32, 0x0#32, 0xFFFFFFFF#32, 0x0#32, true, false⟩,  -- MBk_SEND (R401)
  ⟨0x400D010C, 16, 0x80, 1, 0x4, 0x0#32, 0x0#32, 0x0#32, 0x0#32, 0x0#32, 0x801F0700#32, 0x0#32, false, false⟩,  -- MBk_TAKE (R403)
  ⟨0x400D0110, 16, 0x80, 1, 0x4, 0x0#32, 0x0#32, 0x0#32, 0x0#32, 0x0#32, 0x1F0771#32, 0x0#32, false, false⟩,  -- MBk_STAT (R403)
  ⟨0x400D0140, 16, 0x80, 16, 0x4, 0x0#32, 0xFFFFFFFF#32, 0x0#32, 0x0#32, 0x0#32, 0x0#32, 0x0#32, false, false⟩]  -- MBk_DATAi (R396)

/-- Register rows of TW, part 1. -/
def rowsTW1 : List RegRow := [
  ⟨0x400E0000, 1, 0x4, 1, 0x4, 0x0#32, 0x80000000#32, 0x0#32, 0x0#32, 0x0#32, 0x0#32, 0x0#32, false, false⟩,  -- TW_CTL (R14)
  ⟨0x400E0008, 1, 0x4, 1, 0x4, 0x0#32, 0x0#32, 0x0#32, 0x0#32, 0x0#32, 0xFFFFFFFF#32, 0x0#32, true, false⟩,  -- TW_ACT (R425)
  ⟨0x400E1000, 2, 0x1000, 1, 0x4, 0x80000#32, 0xF1337#32, 0x0#32, 0x0#32, 0x0#32, 0x0#32, 0x0#32, false, false⟩,  -- TWn_CTL (R409)
  ⟨0x400E1004, 2, 0x1000, 1, 0x4, 0x0#32, 0x7F#32, 0x0#32, 0x0#32, 0x0#32, 0x0#32, 0x0#32, false, false⟩,  -- TWn_ADDR (R410)
  ⟨0x400E1008, 2, 0x1000, 1, 0x4, 0x4E204E2#32, 0x7FF07FF#32, 0x0#32, 0x0#32, 0x0#32, 0x0#32, 0x7FF07FF#32, false, false⟩,  -- TWn_TIM0 (R431)
  ⟨0x400E100C, 2, 0x1000, 1, 0x4, 0x497D3F4B#32, 0x7FFF7F7F#32, 0x0#32, 0x0#32, 0x0#32, 0x0#32, 0x7FFF7F7F#32, false, false⟩,  -- TWn_TIM1 (R431)
  ⟨0x400E1010, 2, 0x1000, 1, 0x4, 0xA4B1919#32, 0xFFFFFFFF#32, 0x0#32, 0x0#32, 0x0#32, 0x0#32, 0xFFFFFFFF#32, false, false⟩,  -- TWn_TO (R426)
  ⟨0x400E1014, 2, 0x1000, 1, 0x4, 0x0#32, 0x0#32, 0x0#32, 0xFFFFFFFF#32, 0x0#32, 0x0#32, 0x0#32, false, false⟩,  -- TWn_QPOP (R422)
  ⟨0x400E1018, 2, 0x1000, 1, 0x4, 0x0#32, 0x0#32, 0x0#32, 0x0#32, 0x0#32, 0xFFFFFFFF#32, 0x0#32, false, false⟩,  -- TWn_QPEEK (R422)
  ⟨0x400E101C, 2, 0x1000, 1, 0x4, 0x0#32, 0x0#32, 0x0#32, 0x0#32, 0x0#32, 0x1F#32, 0x0#32, false, false⟩,  -- TWn_QSTAT (R422)
  ⟨0x400E1020, 2, 0x1000, 1, 0x4, 0x0#32, 0x0#32, 0xFF#32, 0x0#32, 0x0#32, 0x0#32, 0x0#32, false, false⟩,  -- TWn_CML (R413)
  ⟨0x400E1024, 2, 0x1000, 1, 0x4, 0x0#32, 0x0#32, 0x0#32, 0x0#32, 0x0#32, 0x3F#32, 0x0#32, false, false⟩,  -- TWn_ATTN (R428)
  ⟨0x400E1028, 2, 0x1000, 1, 0x4, 0x0#32, 0x3F#32, 0x0#32, 0x0#32, 0x0#32, 0x0#32, 0x0#32, false, false⟩,  -- TWn_ATTNEN (R428)
  ⟨0x400E102C, 2, 0x1000, 1, 0x4, 0x0#32, 0x0#32, 0x0#32, 0x0#32, 0x0#32, 0xF00FF#32, 0x0#32, false, false⟩,  -- TWn_PAGE (R415)
  ⟨0x400E1030, 2, 0x1000, 1, 0x4, 0x18000000#32, 0x193F3F7F#32, 0x0#32, 0x0#32, 0x0#32, 0x0#32, 0x0#32, false, false⟩,  -- TWn_MCMD (R425)
  ⟨0x400E1034, 2, 0x1000, 1, 0x4, 0x0#32, 0x0#32, 0x700#32, 0x0#32, 0x0#32, 0x7#32, 0x0#32, false, false⟩,  -- TWn_MSTAT (R425)
  ⟨0x400E1038, 2, 0x1000, 1, 0x4, 0x0#32, 0x0#32, 0x0#32, 0x0#32, 0x0#32, 0xFFFFFF#32, 0x0#32, false, false⟩,  -- TWn_HNRX (R430)
  ⟨0x400E103C, 2, 0x1000, 1, 0x4, 0x0#32, 0x0#32, 0x0#32, 0xFFFFFFFF#32, 0x0#32, 0x0#32, 0x0#32, false, false⟩,  -- TWn_CNT (R413)
  ⟨0x400E1040, 2, 0x1000, 8, 0x4, 0x0#32, 0xFFFFFFFF#32, 0x0#32, 0x0#32, 0x0#32, 0x0#32, 0x0#32, false, false⟩,  -- TWn_MBUFi (R425)
  ⟨0x400E1060, 2, 0x1000, 1, 0x4, 0x0#32, 0xFFFFFFFF#32, 0x0#32, 0x0#32, 0x0#32, 0x0#32, 0x0#32, false, false⟩,  -- TWn_WPROT (R424)
  ⟨0x400E1080, 2, 0x1000, 32, 0x8, 0x0#32, 0xE30700FF#32, 0x0#32, 0x0#32, 0x0#32, 0x0#32, 0x0#32, false, false⟩,  -- TWn_RSPCi (R416)
  ⟨0x400E1084, 2, 0x1000, 32, 0x8, 0x0#32, 0xFFFFFFFF#32, 0x0#32, 0x0#32, 0x0#32, 0x0#32, 0x0#32, false, false⟩,  -- TWn_RSPDi (R416)
  ⟨0x400E1400, 2, 0x1000, 64, 0x4, 0x0#32, 0xFFFFFFFF#32, 0x0#32, 0x0#32, 0x0#32, 0x0#32, 0x0#32, false, false⟩]  -- TWn_REGFi (R424)

/-- Register rows of AVS, part 1. -/
def rowsAVS1 : List RegRow := [
  ⟨0x400F0000, 1, 0x4, 1, 0x4, 0x0#32, 0x80000000#32, 0x0#32, 0x0#32, 0x0#32, 0x0#32, 0x0#32, false, false⟩,  -- AVS_CTL (R14)
  ⟨0x400F0004, 1, 0x4, 1, 0x4, 0x0#32, 0x0#32, 0x1#32, 0x0#32, 0x0#32, 0x0#32, 0x0#32, false, false⟩,  -- AVS_FLT (R436)
  ⟨0x400F0100, 2, 0x40, 1, 0x4, 0xA00#32, 0xFF0F#32, 0x0#32, 0x0#32, 0x0#32, 0x0#32, 0xFF00#32, false, false⟩,  -- AVSn_CTL (R436)
  ⟨0x400F0104, 2, 0x40, 1, 0x4, 0x0#32, 0x0#32, 0x0#32, 0x0#32, 0x0#32, 0x10F#32, 0x0#32, false, false⟩,  -- AVSn_STAT (R434)
  ⟨0x400F0108, 2, 0x40, 1, 0x4, 0x0#32, 0x0#32, 0x0#32, 0xFFFFFFFF#32, 0x0#32, 0x0#32, 0x0#32, false, false⟩]  -- AVSn_CNT (R432)

/-- Register rows of USB, part 1. -/
def rowsUSB1 : List RegRow := [
  ⟨0x40100000, 1, 0x4, 1, 0x4, 0x190100#32, 0x80FFC101#32, 0x0#32, 0x0#32, 0x0#32, 0x0#32, 0xFFC100#32, false, false⟩,  -- USB_CTL (R445)
  ⟨0x40100004, 1, 0x4, 1, 0x4, 0x0#32, 0x0#32, 0x0#32, 0x0#32, 0x0#32, 0x7F0117#32, 0x0#32, false, false⟩,  -- USB_STAT (R445)
  ⟨0x40100008, 1, 0x4, 1, 0x4, 0x0#32, 0x0#32, 0x37#32, 0x0#32, 0x0#32, 0x0#32, 0x0#32, false, false⟩,  -- USB_FLT (R449)
  ⟨0x4010000C, 1, 0x4, 1, 0x4, 0x0#32, 0x0#32, 0x0#32, 0x0#32, 0x0#32, 0xFFFFFFFF#32, 0x0#32, true, false⟩,  -- USB_ACT (R451)
  ⟨0x40100010, 1, 0x4, 1, 0x4, 0x0#32, 0x0#32, 0x0#32, 0x0#32, 0x0#32, 0x3FFF#32, 0x0#32, false, false⟩,  -- USB_FRAME (R460)
  ⟨0x40100014, 1, 0x4, 1, 0x4, 0x0#32, 0x0#32, 0x0#32, 0xFFFFFFFF#32, 0x0#32, 0x0#32, 0x0#32, false, false⟩,  -- USB_CNT (R453)
  ⟨0x40100040, 1, 0x4, 1, 0x4, 0x80001F00#32, 0x8000FFFF#32, 0x0#32, 0x0#32, 0x0#32, 0x0#32, 0x0#32, false, false⟩,  -- USB_R0_CFG (R449)
  ⟨0x40100040, 8, 0x4, 1, 0x4, 0x0#32, 0x8000FFFF#32, 0x0#32, 0x0#32, 0x0#32, 0x0#32, 0x0#32, false, false⟩,  -- USB_Rj_CFG (R449)
  ⟨0x40100060, 8, 0x4, 1, 0x4, 0x0#32, 0x0#32, 0x0#32, 0x800000FF#32, 0x0#32, 0x0#32, 0x0#32, false, false⟩,  -- USB_Rj_ALLOC (R450)
  ⟨0x40100080, 8, 0x4, 1, 0x4, 0x0#32, 0x0#32, 0x0#32, 0x0#32, 0x0#32, 0x1FF#32, 0x0#32, false, false⟩,  -- USB_Rj_FREE (R451)
  ⟨0x40100140, 5, 0x20, 1, 0x4, 0x0#32, 0xC0000707#32, 0x0#32, 0x0#32, 0x0#32, 0x0#32, 0x0#32, false, false⟩,  -- USB_EPk_CTL (R446)
  ⟨0x40100144, 5, 0x20, 1, 0x4, 0x0#32, 0x0#32, 0x0#32, 0x0#32, 0x0#32, 0xF0F03#32, 0x0#32, false, false⟩,  -- USB_EPk_STAT (R453)
  ⟨0x40100148, 5, 0x20, 1, 0x4, 0x0#32, 0x0#32, 0x0#32, 0x83FF00FF#32, 0x0#32, 0x0#32, 0x0#32, false, false⟩,  -- USB_EPk_OPOP (R453)
  ⟨0x4010014C, 5, 0x20, 1, 0x4, 0x0#32, 0x0#32, 0x0#32, 0x0#32, 0x0#32, 0x0#32, 0x0#32, false, false⟩,  -- USB_EPk_IPUSH (R452)
  ⟨0x40100150, 5, 0x20, 1, 0x4, 0x0#32, 0x0#32, 0x0#32, 0xFFFFFFFF#32, 0x0#32, 0x0#32, 0x0#32, false, false⟩,  -- USB_EPk_CNT (R453)
  ⟨0x40100800, 256, 0x4, 1, 0x4, 0x0#32, 0x1FF#32, 0x0#32, 0x0#32, 0x0#32, 0x0#32, 0x0#32, false, false⟩]  -- USB_LINKg (R448)

/-- Register rows of MOT, part 1. -/
def rowsMOT1 : List RegRow := [
  ⟨0x40110000, 1, 0x4, 1, 0x4, 0x0#32, 0x80000000#32, 0x0#32, 0x0#32, 0x0#32, 0x0#32, 0x0#32, false, false⟩,  -- MOT_CTL (R490)
  ⟨0x40110004, 1, 0x4, 1, 0x4, 0x0#32, 0x0#32, 0xFF1#32, 0x0#32, 0x0#32, 0x0#32, 0x0#32, false, false⟩,  -- MOT_FLT (R478)
  ⟨0x40110008, 1, 0x4, 1, 0x4, 0x0#32, 0x0#32, 0x0#32, 0x0#32, 0x0#32, 0xFFFFFFFF#32, 0x0#32, true, false⟩,  -- MOT_ACT (R480)
  ⟨0x40110100, 4, 0x80, 1, 0x4, 0x1000#32, 0x1371#32, 0x0#32, 0x0#32, 0x0#32, 0x0#32, 0x300#32, false, false⟩,  -- MOTm_CTL (R475)
  ⟨0x40110104, 4, 0x80, 1, 0x4, 0xC830D4#32, 0x3FF7FFF#32, 0x0#32, 0x0#32, 0x0#32, 0x0#32, 0x7FFF#32, false, false⟩,  -- MOTm_PWM (R465)
  ⟨0x40110108, 4, 0x80, 1, 0x4, 0x320019#32, 0x3FFF1FF#32, 0x0#32, 0x0#32, 0x0#32, 0x0#32, 0x3FFF000#32, false, false⟩,  -- MOTm_DT (R466)
  ⟨0x4011010C, 4, 0x80, 1, 0x4, 0x8000100#32, 0xFFFFFFF#32, 0x0#32, 0x0#32, 0x0#32, 0x0#32, 0x0#32, false, false⟩,  -- MOTm_ISCL (R469)
  ⟨0x40110110, 4, 0x80, 1, 0x4, 0x0#32, 0xFFFFFFFF#32, 0x0#32, 0x0#32, 0x0#32, 0x0#32, 0x0#32, false, false⟩,  -- MOTm_CUR (R470)
  ⟨0x40110114, 4, 0x80, 1, 0x4, 0x8CA0#32, 0xFFFF#32, 0x0#32, 0x0#32, 0x0#32, 0x0#32, 0x0#32, false, false⟩,  -- MOTm_VLIM (R470)
  ⟨0x40110118, 4, 0x80, 1, 0x4, 0x0#32, 0xFFFFFFFF#32, 0x0#32, 0x0#32, 0x0#32, 0x0#32, 0xFFFF0000#32, false, false⟩,  -- MOTm_REF (R470)
  ⟨0x4011011C, 4, 0x80, 1, 0x4, 0x0#32, 0xFFFF#32, 0x0#32, 0x0#32, 0x0#32, 0x0#32, 0x0#32, false, false⟩,  -- MOTm_IQMAX (R470)
  ⟨0x40110120, 4, 0x80, 1, 0x4, 0x0#32, 0xFFFFFFFF#32, 0x0#32, 0x0#32, 0x0#32, 0x0#32, 0x0#32, false, false⟩,  -- MOTm_SPDREF (R474)
  ⟨0x40110124, 4, 0x80, 1, 0x4, 0x0#32, 0x0#32, 0x0#32, 0x0#32, 0x0#32, 0xFFFFFFFF#32, 0x0#32, false, false⟩,  -- MOTm_SPEED (R473)
  ⟨0x40110128, 4, 0x80, 1, 0x4, 0x0#32, 0xFFFF#32, 0x0#32, 0x0#32, 0x0#32, 0x0#32, 0x0#32, false, false⟩,  -- MOTm_THOFS (R476)
  ⟨0x4011012C, 4, 0x80, 1, 0x4, 0x0#32, 0xFFFFFF#32, 0x0#32, 0x0#32, 0x0#32, 0x0#32, 0x0#32, false, false⟩,  -- MOTm_ALGN (R476)
  ⟨0x40110130, 4, 0x80, 1, 0x4, 0x0#32, 0xFFFFFFFF#32, 0x0#32, 0x0#32, 0x0#32, 0x0#32, 0x0#32, false, false⟩,  -- MOTm_LIM (R478)
  ⟨0x40110134, 4, 0x80, 1, 0x4, 0x0#32, 0xFFFFFF#32, 0x0#32, 0x0#32, 0x0#32, 0x0#32, 0x0#32, false, false⟩,  -- MOTm_STALL (R478)
  ⟨0x40110138, 4, 0x80, 1, 0x4, 0x64924#32, 0x1FFFFF#32, 0x0#32, 0x0#32, 0x0#32, 0x0#32, 0x1FFFFF#32, false, false⟩,  -- MOTm_RESP (R478)
  ⟨0x4011013C, 4, 0x80, 1, 0x4, 0x0#32, 0x0#32, 0x0#32, 0x0#32, 0x0#32, 0x7F0017#32, 0x0#32, false, false⟩,  -- MOTm_STAT (R475)
  ⟨0x40110140, 4, 0x80, 1, 0x4, 0x0#32, 0x0#32, 0x7F#32, 0x0#32, 0x0#32, 0x0#32, 0x0#32, false, false⟩,  -- MOTm_FLAG (R479)
  ⟨0x40110144, 4, 0x80, 1, 0x4, 0x0#32, 0x0#32, 0x0#32, 0x0#32, 0x0#32, 0xFFFFFFFF#32, 0x0#32, false, false⟩,  -- MOTm_IDQ (R470)
  ⟨0x40110148, 4, 0x80, 1, 0x4, 0x0#32, 0x0#32, 0x0#32, 0x0#32, 0x0#32, 0xFFFFFFFF#32, 0x0#32, false, false⟩,  -- MOTm_VDQ (R470)
  ⟨0x4011014C, 4, 0x80, 1, 0x4, 0x0#32, 0x0#32, 0x0#32, 0xFFFFFFFF#32, 0x0#32, 0x0#32, 0x0#32, false, false⟩]  -- MOTm_CNT (R467)

/-- Register rows of FB, part 1. -/
def rowsFB1 : List RegRow := [
  ⟨0x40120000, 1, 0x4, 1, 0x4, 0x0#32, 0x80000000#32, 0x0#32, 0x0#32, 0x0#32, 0x0#32, 0x0#32, false, false⟩,  -- FB_CTL (R490)
  ⟨0x40120008, 1, 0x4, 1, 0x4, 0x0#32, 0x0#32, 0x0#32, 0x0#32, 0x0#32, 0xFFFFFFFF#32, 0x0#32, true, false⟩,  -- FB_ACT (R481)
  ⟨0x40120100, 4, 0x40, 1, 0x4, 0x320C300#32, 0xFFFFF77#32, 0x0#32, 0x0#32, 0x0#32, 0x0#32, 0xFFF0F40#32, false, false⟩,  -- FBf_CTL (R481)
  ⟨0x40120104, 4, 0x40, 1, 0x4, 0x400#32, 0xFFFF#32, 0x0#32, 0x0#32, 0x0#32, 0x0#32, 0x0#32, false, false⟩,  -- FBf_LINES (R481)
  ⟨0x40120108, 4, 0x40, 1, 0x4, 0x0#32, 0x0#32, 0x0#32, 0x0#32, 0x0#32, 0xFFFFFFFF#32, 0x0#32, false, false⟩,  -- FBf_POS (R481)
  ⟨0x4012010C, 4, 0x40, 1, 0x4, 0x0#32, 0x0#32, 0x0#32, 0x0#32, 0x0#32, 0xFFFFFFFF#32, 0x0#32, false, false⟩,  -- FBf_ACNT (R481)
  ⟨0x40120110, 4, 0x40, 1, 0x4, 0x0#32, 0x0#32, 0x0#32, 0x0#32, 0x0#32, 0xFFFFFFFF#32, 0x0#32, false, false⟩,  -- FBf_ZCAP (R486)
  ⟨0x40120114, 4, 0x40, 1, 0x4, 0x0#32, 0xFFFFFFFF#32, 0x0#32, 0x0#32, 0x0#32, 0x0#32, 0x0#32, false, false⟩,  -- FBf_PRESET (R481)
  ⟨0x40120118, 4, 0x40, 1, 0x4, 0x0#32, 0xFFFFFFFF#32, 0x0#32, 0x0#32, 0x0#32, 0x0#32, 0xFFFFFFFF#32, false, false⟩,  -- FBf_SCOR (R484)
  ⟨0x4012011C, 4, 0x40, 1, 0x4, 0x80008000#32, 0xFFFFFFFF#32, 0x0#32, 0x0#32, 0x0#32, 0x0#32, 0xFFFFFFFF#32, false, false⟩,  -- FBf_SGAIN (R484)
  ⟨0x40120120, 4, 0x40, 1, 0x4, 0x14000800#32, 0x3FFF3FFF#32, 0x0#32, 0x0#32, 0x0#32, 0x0#32, 0x0#32, false, false⟩,  -- FBf_AWIN (R485)
  ⟨0x40120124, 4, 0x40, 1, 0x4, 0x0#32, 0x0#32, 0x0#32, 0x0#32, 0x0#32, 0xFFFF#32, 0x0#32, false, false⟩,  -- FBf_AMP (R485)
  ⟨0x40120128, 4, 0x40, 1, 0x4, 0x0#32, 0x0#32, 0x0#32, 0x0#32, 0x0#32, 0x1#32, 0x0#32, false, false⟩,  -- FBf_STAT (R486)
  ⟨0x4012012C, 4, 0x40, 1, 0x4, 0x0#32, 0x0#32, 0x7F#32, 0x0#32, 0x0#32, 0x0#32, 0x0#32, false, false⟩]  -- FBf_FLT (R487)

/-- Register rows of CAP, part 1. -/
def rowsCAP1 : List RegRow := [
  ⟨0x40130000, 1, 0x4, 1, 0x4, 0x0#32, 0x80000001#32, 0x0#32, 0x0#32, 0x0#32, 0x0#32, 0x0#32, false, false⟩,  -- CAP_CTL (R494)
  ⟨0x40130004, 1, 0x4, 1, 0x4, 0x0#32, 0xFFFF#32, 0x0#32, 0x0#32, 0x0#32, 0x0#32, 0x0#32, false, false⟩,  -- CAP_EN (R494)
  ⟨0x40130008, 1, 0x4, 1, 0x4, 0x64#32, 0xFFFF#32, 0x0#32, 0x0#32, 0x0#32, 0x0#32, 0x0#32, false, false⟩,  -- CAP_SCAN (R494)
  ⟨0x4013000C, 1, 0x4, 1, 0x4, 0x0#32, 0x0#32, 0x0#32, 0x0#32, 0x0#32, 0xFFFFFFFF#32, 0x0#32, true, false⟩,  -- CAP_ACT (R499)
  ⟨0x40130010, 1, 0x4, 1, 0x4, 0x0#32, 0x0#32, 0x6FFFF#32, 0x0#32, 0x0#32, 0x0#32, 0x0#32, false, false⟩,  -- CAP_FLT (R498)
  ⟨0x40130014, 1, 0x4, 1, 0x4, 0x0#32, 0x0#32, 0x0#32, 0xFFFFFFFF#32, 0x0#32, 0x0#32, 0x0#32, false, false⟩,  -- CAP_CNT (R494)
  ⟨0x40130018, 1, 0x4, 1, 0x4, 0x3FFF4C00#32, 0xFFFFEF00#32, 0x0#32, 0x0#32, 0x0#32, 0x0#32, 0xFFFFEF00#32, false, false⟩,  -- CAP_MEAS (R491)
  ⟨0x4013001C, 1, 0x4, 1, 0x4, 0x3408880F#32, 0xFFFFFFFF#32, 0x0#32, 0x0#32, 0x0#32, 0x0#32, 0xFFFFFFFF#32, false, false⟩,  -- CAP_DEC (R496)
  ⟨0x40130020, 1, 0x4, 1, 0x4, 0x404#32, 0x3F3F#32, 0x0#32, 0x0#32, 0x0#32, 0x0#32, 0x3F3F#32, false, false⟩,  -- CAP_MEAS2 (R503)
  ⟨0x40130024, 1, 0x4, 1, 0x4, 0x3E8#32, 0xFFFF#32, 0x0#32, 0x0#32, 0x0#32, 0x0#32, 0x0#32, false, false⟩,  -- CAP_LEARNT (R500)
  ⟨0x40130028, 1, 0x4, 1, 0x4, 0x0#32, 0x0#32, 0x0#32, 0x0#32, 0x0#32, 0xFFFFFFFF#32, 0x0#32, false, false⟩,  -- CAP_LSTATL (R500)
  ⟨0x4013002C, 1, 0x4, 1, 0x4, 0x0#32, 0x0#32, 0x0#32, 0x0#32, 0x0#32, 0xFFFFFFFF#32, 0x0#32, false, false⟩,  -- CAP_LSTATH (R500)
  ⟨0x40130100, 16, 0x20, 1, 0x4, 0xC33071F#32, 0xFFFFFFFF#32, 0x0#32, 0x0#32, 0x0#32, 0x0#32, 0xFF00FF00#32, false, false⟩,  -- CAPi_CFG (R496)
  ⟨0x40130104, 16, 0x20, 1, 0x4, 0x3E800040#32, 0xFFFFFFFF#32, 0x0#32, 0x0#32, 0x0#32, 0x0#32, 0x0#32, false, false⟩,  -- CAPi_LIM (R498)
  ⟨0x40130108, 16, 0x20, 1, 0x4, 0x0#32, 0x0#32, 0x0#32, 0x0#32, 0x0#32, 0xFFFF#32, 0x0#32, false, false⟩,  -- CAPi_RAW (R492)
  ⟨0x4013010C, 16, 0x20, 1, 0x4, 0x0#32, 0x0#32, 0x0#32, 0x0#32, 0x0#32, 0xFFFFF#32, 0x0#32, false, false⟩,  -- CAPi_BL (R496)
  ⟨0x40130110, 16, 0x20, 1, 0x4, 0x0#32, 0xFFFF#32, 0x0#32, 0x0#32, 0x0#32, 0x0#32, 0x0#32, false, false⟩,  -- CAPi_DRY (R496)
  ⟨0x40130114, 16, 0x20, 1, 0x4, 0x0#32, 0x0#32, 0x300#32, 0x0#32, 0x0#32, 0x467#32, 0x0#32, false, false⟩]  -- CAPi_STAT (R497)

/-- Register rows of PWR, part 1. -/
def rowsPWR1 : List RegRow := [
  ⟨0x40140000, 1, 0x4, 1, 0x4, 0x0#32, 0x80000000#32, 0x0#32, 0x0#32, 0x0#32, 0x0#32, 0x0#32, false, false⟩,  -- PWR_CTL (R14)
  ⟨0x40140004, 1, 0x4, 1, 0x4, 0x1#32, 0xF#32, 0x0#32, 0x0#32, 0x0#32, 0x0#32, 0xF#32, false, false⟩,  -- PWR_CFG (R508)
  ⟨0x40140008, 1, 0x4, 1, 0x4, 0x0#32, 0x0#32, 0x0#32, 0x0#32, 0x0#32, 0xFFFFFFFF#32, 0x0#32, true, false⟩,  -- PWR_ACT (R519)
  ⟨0x4014000C, 1, 0x4, 1, 0x4, 0x0#32, 0x0#32, 0x3#32, 0x0#32, 0x0#32, 0x0#32, 0x0#32, false, false⟩,  -- PWR_FLT (R507)
  ⟨0x40140010, 1, 0x4, 1, 0x4, 0x3FFFF#32, 0xFFFFFFFF#32, 0x0#32, 0x0#32, 0x0#32, 0x0#32, 0x0#32, false, false⟩,  -- PWR_REQ0 (R505)
  ⟨0x40140014, 1, 0x4, 1, 0x4, 0xD9820000#32, 0xFFFFFFFF#32, 0x0#32, 0x0#32, 0x0#32, 0x0#32, 0x0#32, false, false⟩,  -- PWR_REQ1 (R505)
  ⟨0x40140018, 1, 0x4, 1, 0x4, 0x3FFFF#32, 0x0#32, 0x0#32, 0x0#32, 0x0#32, 0xFFFFFFFF#32, 0x0#32, false, false⟩,  -- PWR_ON0 (R508)
  ⟨0x4014001C, 1, 0x4, 1, 0x4, 0xD9820000#32, 0x0#32, 0x0#32, 0x0#32, 0x0#32, 0xFFFFFFFF#32, 0x0#32, false, false⟩,  -- PWR_ON1 (R508)
  ⟨0x40140020, 1, 0x4, 1, 0x4, 0x0#32, 0x0#32, 0x0#32, 0x0#32, 0x0#32, 0x3F01#32, 0x0#32, false, false⟩,  -- PWR_BUSY (R508)
  ⟨0x40140024, 1, 0x4, 1, 0x4, 0x0#32, 0x0#32, 0x0#32, 0xFFFF#32, 0x0#32, 0x0#32, 0x0#32, false, false⟩]  -- PWR_CNT (R507)

/-- Register rows of LOG, part 1. -/
def rowsLOG1 : List RegRow := [
  ⟨0x40150000, 1, 0x4, 1, 0x4, 0x0#32, 0x80000107#32, 0x0#32, 0x0#32, 0x0#32, 0x0#32, 0x100#32, false, false⟩,  -- LOG_CTL (R534)
  ⟨0x40150004, 1, 0x4, 1, 0x4, 0x0#32, 0x0#32, 0x0#32, 0x0#32, 0x0#32, 0x7F#32, 0x0#32, false, false⟩,  -- LOG_STAT (R530)
  ⟨0x40150008, 1, 0x4, 1, 0x4, 0x0#32, 0x0#32, 0x0#32, 0x0#32, 0x0#32, 0xFFFFFFFF#32, 0x0#32, true, false⟩,  -- LOG_ACT (R536)
  ⟨0x4015000C, 1, 0x4, 1, 0x4, 0x0#32, 0x0#32, 0x0#32, 0x0#32, 0x0#32, 0xFFFFFFFF#32, 0x0#32, false, false⟩,  -- LOG_WIDX (R532)
  ⟨0x40150010, 1, 0x4, 1, 0x4, 0x0#32, 0x0#32, 0x0#32, 0x0#32, 0x0#32, 0xFFFFFFFF#32, 0x0#32, false, false⟩,  -- LOG_HIDX (R533)
  ⟨0x40150014, 1, 0x4, 1, 0x4, 0x0#32, 0x0#32, 0x0#32, 0xFFFFFFFF#32, 0x0#32, 0x0#32, 0x0#32, false, false⟩,  -- LOG_CNT (R531)
  ⟨0x40150018, 1, 0x4, 1, 0x4, 0x0#32, 0x0#32, 0x0#32, 0x7F#32, 0x0#32, 0x0#32, 0x0#32, false, false⟩,  -- LOG_QMAX (R587)
  ⟨0x40150020, 4, 0x4, 1, 0x4, 0x0#32, 0xFFFFFFFF#32, 0x0#32, 0x0#32, 0x0#32, 0x0#32, 0x0#32, false, false⟩,  -- LOG_FWDATAi (R536)
  ⟨0x40150040, 4, 0x10, 4, 0x4, 0x0#32, 0xFFFFFFFF#32, 0x0#32, 0x0#32, 0x0#32, 0x0#32, 0x0#32, false, false⟩]  -- LOG_SNAPj_Ai (R537)

/-- The register rows of each block, keyed by the upper half of the slot address (R10, spec/00_scope.md). -/
def regRows : List (Nat × List RegRow) := [
  (0x4001, rowsSYS1),
  (0x4002, rowsANGLE1),
  (0x4003, rowsGATHER1),
  (0x4004, rowsMARVER1),
  (0x4005, rowsPROT1),
  (0x4006, rowsEDGE1),
  (0x4007, rowsAPRAM1),
  (0x4008, rowsCNT1),
  (0x4009, rowsEVM1),
  (0x400A, rowsTRIO1),
  (0x400B, rowsLCS1),
  (0x4016, rowsXSPI1),
  (0x4017, rowsCRYPTO1),
  (0x400C, rowsHIF1 ++ rowsHIF2),
  (0x400D, rowsMBX1),
  (0x400E, rowsTW1),
  (0x400F, rowsAVS1),
  (0x4010, rowsUSB1),
  (0x4011, rowsMOT1),
  (0x4012, rowsFB1),
  (0x4013, rowsCAP1),
  (0x4014, rowsPWR1),
  (0x4015, rowsLOG1)]

end Sys2Proof.Machine
end

