-- ==== Sys2Proof/Machine/Map.lean ====
section
/-!
DEFINITION. Machine/Map.lean: finite maps from Nat keys in one canonical form (keys strictly rising, no entry equal to what an
unlisted key reads as). Registers, memory, OTP and calibration memory are such maps.
-/
namespace Sys2Proof.Machine

/-- The entry of a key. -/
def mapFind {β : Type} : List (Nat × β) → Nat → Option β
  | [], _ => none
  | (k, v) :: m, a => if k = a then some v else mapFind m a

/-- The map without a key. -/
def mapErase {β : Type} (m : List (Nat × β)) (a : Nat) : List (Nat × β) := m.filter (fun p => p.1 != a)

/-- Insertion of a key that is not in the map, in rising order. -/
def mapInsert {β : Type} : List (Nat × β) → Nat → β → List (Nat × β)
  | [], a, v => [(a, v)]
  | (k, w) :: m, a, v => if a < k then (a, v) :: (k, w) :: m else (k, w) :: mapInsert m a v

/-- The map with a key set to a value, where an unlisted key reads as `d`. -/
def mapPut {β : Type} [DecidableEq β] (d : β) (m : List (Nat × β)) (a : Nat) (v : β) : List (Nat × β) :=
  if v = d then mapErase m a else mapInsert (mapErase m a) a v

/-- Keys strictly rising. -/
def mapSorted {β : Type} : List (Nat × β) → Bool
  | [] => true
  | [_] => true
  | (k, _) :: (k', v') :: m => k < k' && mapSorted ((k', v') :: m)

/-- The canonical form, for a default that may depend on the key. -/
def mapWf {β : Type} [DecidableEq β] (d : Nat → β) (m : List (Nat × β)) : Bool :=
  mapSorted m && m.all (fun p => p.2 != d p.1)

/-- The map without the keys of a range. -/
def mapEraseRange {β : Type} (m : List (Nat × β)) (lo hi : Nat) : List (Nat × β) :=
  m.filter (fun p => p.1 < lo || hi ≤ p.1)

/-- The row of the register map that holds an address (R11). -/
def rowFor (a : Nat) : Option RegRow :=
  match mapFind regRows (a / 65536) with
  | none => none
  | some rs => rs.find? (fun r => r.covers a)

/-- The word a register holds after a device reset; 0 where no register stands (R11, R333) (DESIGN CHOICE, log entry 3). -/
def resetWord (a : Nat) : Word :=
  match rowFor a with
  | none => 0
  | some r => r.reset

/-- The bits a register implements; 0 where no register stands (R11, R333). -/
def implMask (a : Nat) : Word :=
  match rowFor a with
  | none => 0
  | some r => r.impl

/-- The mask of a field. -/
def fldMask (f : Fld) : Word := BitVec.ofNat 32 ((2 ^ f.width - 1) * 2 ^ f.lo)

/-- A field's value in a word. -/
def fldOf (f : Fld) (w : Word) : Nat := w.toNat / 2 ^ f.lo % 2 ^ f.width

/-- A word with a field set to a value narrowed to the field's width. -/
def fldInto (f : Fld) (v : Nat) (w : Word) : Word :=
  (w &&& ~~~ fldMask f) ||| BitVec.ofNat 32 (v % 2 ^ f.width * 2 ^ f.lo)

/-- An element of a vector replaced by a function of it. -/
def updAt {α : Type} {n : Nat} (v : Vector α n) (i : Fin n) (f : α → α) : Vector α n := v.set i (f v[i])

end Sys2Proof.Machine
end

