-- ==== Sys2Proof/Config.lean ====
section
/-!
DEFINITION. Config.lean: what the spec leaves open: FREE VALUES, opaque constants with no body. Each is applied to the
operands it depends on or to the counter `State.free`, which a step that uses a free value reads and advances.
-/
namespace Sys2Proof.Config

/-- A fresh free word: a value the device produces that the spec does not state (DESIGN CHOICE, log entry 5). -/
opaque freeWord : Nat → Word

/-- A byte of the external flash as the device reads it, for each count of indirect commands that have run: the flash's content is
outside the device (DESIGN CHOICE, log entry 5). -/
opaque flashByte : Nat → Nat → Byte

/-- SHA-384 of a list of bytes: the function of the standard, which the spec names and does not restate (DESIGN CHOICE, log entry 5). -/
opaque sha384 : List Byte → List Byte

/-- ECDSA P-384: the signature is valid under the public key over the digest (DESIGN CHOICE, log entry 5). -/
opaque ecdsaValid : List Byte → List Byte → List Byte → Bool

/-- The Penuthal return key that the boot ROM holds: the hash of its public key (R350; DESIGN CHOICE, log entry 5). -/
opaque returnKeyHash : List Byte

/-- A byte of the boot ROM image: the spec fixes the ROM's place and size and gives no content (DESIGN CHOICE, log entry 5). -/
opaque romByte : Nat → Byte

/-- The confined effect of a reserved Shauc-32 encoding, which is implementation-defined (R4, R277, R278): from the instruction
word and a fresh counter, the word that the encoding writes into the general registers of the current window (DESIGN CHOICE, log entry 6). -/
opaque reservedEffect : Word → Nat → Word

/-- The revision ID of the PCIe function's configuration space, which the spec does not state (R359; DESIGN CHOICE, log entry 5). -/
opaque pcieRevision : Byte

/-- The PCI vendor ID of HIF_VID.VID, which the spec does not state (DESIGN CHOICE, log entry 5). -/
opaque vendorId : BitVec 16

/-- The last place of the motor engines' sine, less 1: the spec states the value within 1 of the nearest (R470; DESIGN CHOICE, log entry 5). -/
opaque sinErr : Nat → Fin 3

/-- The last place of the feedback channels' arc tangent, which the spec states within 1 (R484; DESIGN CHOICE, log entry 5). -/
opaque atanErr : Int → Int → Fin 3

/-- The JEDEC manufacturer identity assigned to Penuthal, which the spec does not state (R556; DESIGN CHOICE, log entry 5). -/
opaque jedecId : BitVec 11

end Sys2Proof.Config
end

