-- ==== Sys2Proof/Syntax.lean ====
section
/-!
DEFINITION. Syntax.lean: the commands the device takes, one constructor per row of spec/opcode_table.json, with the operands the
command carries from outside: the written word, the ticket, the index of a unit, the data of a sample or of a bus frame.
-/
namespace Sys2Proof

/-- The agents that reach the device's registers, with the sender IDs of R394 (spec/14_mailboxes.md). -/
inductive Agent where
  | trio | host | usb | tw0 | tw1 | debug
deriving DecidableEq, Repr

/-- The sender ID of an agent (R394). -/
def Agent.id : Agent → Nat
  | .trio => 1
  | .host => 2
  | .usb => 3
  | .tw0 => 4
  | .tw1 => 5
  | .debug => 6

/-- How a long operation or an opcode that has an action register too is asked for: by firmware's ticketed write of the owning
ACT register, or by a host descriptor in a hand-off slot (R380, R383, R385). -/
inductive Via where
  | action (ticket : Byte) (arg : BitVec 16)
  | host (slot : Fin 16)
deriving DecidableEq, Repr

/-- How a command code is used on a two-wire target port: a write of the bytes after the code up to the STOP, PEC included; a read; a process call, which
writes bytes and then reads; or a read that the controller ends after `n` bytes (R410 to R412). -/
inductive Xfer where
  | write (data : List Byte)
  | read
  | call (data : List Byte)
  | short (n : Nat)
deriving DecidableEq, Repr

/-- The bits of an AVSBus frame beside those that its row names: the CRC, and, where the controller sends another command field (command, group and data
type) or other data than the row's own, these (R432, R433). -/
structure AvsBits where
  crc : BitVec 3
  alien : Option (BitVec 7 × BitVec 16) := none
deriving DecidableEq, Repr

/-- What the authenticated debug port is asked to do once it is reached: a challenge and response under the credential of the life-cycle
state or under the Penuthal credential; an access to memory or a register slot; an access to a core register (R324, R331, R350). -/
inductive DebugOp where
  | authenticate (penuthal valid : Bool)
  | memRead (addr : Word)
  | memWrite (addr : Word) (data : List Byte)
  | regRead (k : Fin 32)
  | regWrite (k : Fin 32) (value : Word)
  | srRead (k : BitVec 7)
  | srWrite (k : BitVec 7) (value : Word)
  | capRead (n : Fin 8)
  | capWrite (n : Fin 8) (tag : Bool) (bits : BitVec 128)
  | pcRead
  | pcWrite (value : Word)
  /-- PCC, TEPCC and TVEC by their numbers 0 to 2 -/
  | spcRead (n : Fin 3)
  | spcWrite (n : Fin 3) (tag : Bool) (bits : BitVec 128)
deriving DecidableEq, Repr

/-- Which of the supplies monitored with a reset are below their thresholds (R520, R521). -/
structure Supplies where
  core : Bool := false
  ao : Bool := false
  a18 : Bool := false
  ioA : Bool := false
  ioB : Bool := false
deriving DecidableEq, Repr

/-- An edge at the SYNC_IN ball, within its cycle in 1/64 ns, or, with no time, the detection of the edge that the glitch filter accepted (R69, R70). -/
structure SyncEdge where
  level : Bool
  ball : Option (Fin 64)
deriving DecidableEq, Repr

/-- A raw conversion of a lane's slice, and that of the spare where it shadows the lane (R79, R83, R86). -/
structure Conversion where
  raw : BitVec 12
  shadow : Option (BitVec 12)
deriving DecidableEq, Repr

/-- The sensed voltage of a rail, in 50 µV, at a window comparator (R92). -/
structure CmpLevel where
  rail : Fin 4
  volts : Int
deriving DecidableEq, Repr

/-- The same with the time, in half ns, for which the voltage has been beyond the threshold (R92). -/
structure CmpEdge where
  rail : Fin 4
  volts : Int
  beyond : Nat
deriving DecidableEq, Repr

/-- What a voted request was, and what a core that has double-trapped alone reports, bytes 0 to 14 of its entry (R305, R313). -/
structure Voted where
  perform : Option (Nat × List Byte × Bool)
  trap : Option (BitVec 120)
deriving DecidableEq, Repr

/-- A quadrature line: its level, and for how many peripheral-clock cycles it has stood (R482). -/
structure QuadLine where
  level : Bool
  stood : Nat
deriving DecidableEq, Repr

/-- A rising edge of a channel's index line, and for how many peripheral-clock cycles the high level has stood (R486). -/
structure IndexHigh where
  channel : Fin 4
  stood : Nat
deriving DecidableEq, Repr

/-- The commands of spec/opcode_table.json, the events that the device raises by itself first, then the
others, each group in the table's order. -/
inductive Instr where
  /-- XIN_WINDOW_END (R31): At the end of each 20.48 us count window the device judges the XIN count against the range. -/
  | xinWindowEnd (count : Nat) (gap : Bool)
  /-- XIN_LOSS (R31): 200 ns without an XIN edge switches AO and the PLLs to the RC, sets XINLOSS and logs. -/
  | xinLoss (since : Nat)
  /-- XIN_FIRST_SELECTION (R33): After 100 us of qualification following reset the device selects XIN without setting XINRET. -/
  | xinFirstSelection
  /-- XIN_RETURN (R33): After the qualification time following a violation the device returns to XIN, sets XINRET and logs. -/
  | xinReturn
  /-- TURN_BOUNDARY (R42): The fraction of a domain angle passes a whole turn, the turn count increments and boundary loads occur. -/
  | turnBoundary (d : Fin 8)
  /-- FREEZE_END (R183): A freeze ends at its FRZTURNS-th turn boundary. -/
  | freezeEnd (r : Fin 4)
  /-- SYNC_PULSE (R70): A SYNC_IN pulse is decided at the detection of its trailing edge, classed by width and tracked or rejected. -/
  | syncPulse (lead : Nat) (width : Nat)
  /-- SYNC_PULSE_OVERWIDTH (R70): A SYNC_IN pulse whose width exceeds 120 ns is rejected and counted. -/
  | syncPulseOverwidth
  /-- RING_OPEN (R75): After four turns without its own pulse returning the MASTER sets RINGOPEN and logs once. -/
  | ringOpen
  /-- REFERENCE_MISSING (R56): The angle passes the expected event plus 1/4 tr without an event and the domain enters HOLDOVER. -/
  | referenceMissing (d : Fin 8)
  /-- HOLDOVER_TIMEOUT (R57): After HOLDTO in HOLDOVER the domain enters LOST, sets ANG_FLT.LOST and logs. -/
  | holdoverTimeout (d : Fin 8)
  /-- ACU_FIRE (R65): An ACU fires on a crossing in its direction, raises source 80 + k and disarms or advances. -/
  | acuFire (k : Fin 16)
  /-- SETPOINT_DAC_LOAD (R106): In every loop-clock cycle the engine computes VT with the load line and loads the setpoint DAC. -/
  | setpointDacLoad (r : Fin 4)
  /-- GLORY_WALKER_STEP (R121): After GLSTAG the walker forces the next eligible phase, skipping phases in minimum off-time. -/
  | gloryWalkerStep (r : Fin 4)
  /-- GLORY_GLMAX_RELEASE (R122): A phase forced for GLMAX is released and follows the release rule. -/
  | gloryGlmaxRelease (p : Fin 32)
  /-- SLEW_STEP (R110): The slew timer expires and S moves one code toward its goal, ending RAMP or PREBIAS on the goal. -/
  | slewStep (r : Fin 4)
  /-- FF_STALE (R130): No VIN result for 64 us holds FF, sets FFSTALE and logs once. -/
  | ffStale (r : Fin 4)
  /-- VIN_RESULT (R94): TA0 delivers a VIN result at the end of its slot, updating feedforward and the VINUV detector. -/
  | vinResult (code : BitVec 16)
  /-- TMON_RESULT (R94): TA1 delivers a TMON result, feeding the OT, OTW and TMLOW detectors. -/
  | tmonResult (r : Fin 4) (code : BitVec 16)
  /-- OV_PERSISTENCE (R132): OVERSHOOT asserted continuously for OVPERS makes the OV condition present. -/
  | ovPersistence (r : Fin 4)
  /-- UV_PERSISTENCE (R132): Every merged sample below the UV threshold for UVPERS makes the UV condition present. -/
  | uvPersistence (r : Fin 4)
  /-- UV_BLANK_EXPIRY (R135): UVBLANK after entry to REG ends and detector 1 starts acting. -/
  | uvBlankExpiry (r : Fin 4)
  /-- SF_FILTER_EXPIRY (R132): TMONr at or above the stage-fault threshold for SFFILT makes fault SF present. -/
  | sfFilterExpiry (r : Fin 4) (present : Bool)
  /-- TMON_TIMEOUT (R159): No TMON result for 8 TMSLOT sets TMLOW and treats fault 5 as present. -/
  | tmonTimeout (r : Fin 4)
  /-- VIN_TIMEOUT (R159): No VIN result for 64 us treats fault 7 as present. -/
  | vinTimeout
  /-- STOP_LOW_HOLD_END (R144): The low hold of a stop, disable or inert ends, phases go to MID and ENr goes low. -/
  | stopLowHoldEnd (r : Fin 4)
  /-- HICCUP_RESTART (R147): At a boundary after HICDLY with no stopping fault present the rail restarts through PREBIAS and logs. -/
  | hiccupRestart (r : Fin 4)
  /-- HICOK_EXPIRY (R148): After HICOK in REG without a stop HCNT returns to 0. -/
  | hicokExpiry (r : Fin 4)
  /-- ON_EDGE_COMMIT (R173): Four cycles before a slot crossing the device forms W, issues a pulse or handles a short pulse. -/
  | onEdgeCommit (p : Fin 32)
  /-- SLOT_CROSSING (R167): The angle crosses a phase slot and the on-edge reaches the ball at the computed instant, or the slot is skipped. -/
  | slotCrossing (p : Fin 32)
  /-- OFF_EDGE (R170): The scheduled off-edge of a pulse is reached and the phase turns off. -/
  | offEdge (p : Fin 32)
  /-- MIN_OFF_TIME_END (R172): A phase's minimum off-time ends and it becomes eligible for on-edges and Glory forcing. -/
  | minOffTimeEnd (p : Fin 32)
  /-- ROTATION_STEP_START (R82): A bank starts a rotation step by picking its candidate C, or flags NOSPARE. -/
  | rotationStepStart (b : Fin 3)
  /-- SHADOW_COMPLETE (R83): After 256 shadow samples the device compares the spare with C and swaps or recalibrates the spare. -/
  | shadowComplete (b : Fin 3) (mean : Option Int)
  /-- LANE_SWAP (R83): At the lane's next sample boundary the merged stream takes the spare's sample in place of C's. -/
  | laneSwap (b : Fin 3)
  /-- CALIBRATION_COMPLETE (R85): A slice finishes calibration and becomes the spare, or is retired with CALFAIL. -/
  | calibrationComplete (b : Fin 3) (coefs : Option (List Int))
  /-- SEQUENCER_STAMP_CROSSING (R95): A sequencer's angle stamp is crossed, starting a run and advancing the stamp. -/
  | sequencerStampCrossing (n : Fin 16)
  /-- SEQUENCER_ENTRY_END (R97): A sequencer entry completes and writes VALUE, VALID, GEN and RANGE into its result. -/
  | sequencerEntryEnd (n : Fin 16) (level : Option (BitVec 16))
  /-- SEQUENCER_TIMEOUT (R98): A run not done within GSQn_TMO is abandoned, TMO sets, the source fires and it logs. -/
  | sequencerTimeout (n : Fin 16)
  /-- LINK_TIMEOUT (R198): With one lane FRAMED for LINKTO and ONELANE = 1 the link enters DEGRADED. -/
  | linkTimeout (ln : Fin 2)
  /-- FORECAST (R211): An accepted FORECAST message is deduplicated and taken by Parison as ARMED or dropped with a reason. -/
  | forecast (ln : Fin 2) (seq : BitVec 16) (r : Fin 4) (delta : BitVec 16) (lead : BitVec 13) (ramp : BitVec 12) (conf : Byte)
  /-- VSET (R204): An accepted Apram VSET message is an APRAM arrival at the rail's arbiter. -/
  | vset (ln : Fin 2) (seq : BitVec 16) (r : Fin 4) (v : BitVec 13)
  /-- UNKNOWN_MESSAGE (R203): A message of unknown type marks its SEQ received and counts UNKTYPE. -/
  | unknownMessage (ln : Fin 2) (seq : BitVec 16)
  /-- GAP_TIMEOUT (R207): GAPTO expires with BM nonzero and unmarked sequences are declared lost, GAP sent and logged. -/
  | gapTimeout
  /-- TX_SLOT (R209): In each slot the transmit lane sends FRAME, GAP, ACK, TELEM or IDLE in priority order. -/
  | txSlot
  /-- TELEM (R210): A TELEM message for a rail is queued every TELPER and samples its values. -/
  | telem (r : Fin 4)
  /-- PRERAMP_START (R213): The Parison stamp is crossed, STATE becomes RAMP and the ramp parameters are fixed. -/
  | prerampStart (r : Fin 4)
  /-- RAMP_COMPLETE (R213): IREF reaches ITGT and Parison enters HOLD. -/
  | rampComplete (r : Fin 4)
  /-- HANDOFF (R214): HOLD ends at its deadline and P transfers into u1 bumplessly, returning to IDLE. -/
  | handoff (r : Fin 4)
  /-- UNWIND (R215): Parison's guard finds the load absent, STATE becomes UNWIND, source 135 fires and it logs. -/
  | unwind (r : Fin 4)
  /-- UNWIND_COMPLETE (R215): IREF returns to I0, P becomes 0 and Parison returns to IDLE. -/
  | unwindComplete (r : Fin 4)
  /-- CU_COUNT_STEP (R223): In each AO cycle a counter unit captures, resets, counts and starts in fixed order. -/
  | cuCountStep (n : Fin 24)
  /-- LINK_ACTION (R233): A match or period event delivers its linked action to the target unit in the next AO cycle. -/
  | linkAction (n : Fin 24) (action : Fin 4)
  /-- EVENT_DELIVERY (R238): A sampled source firing passes its channels and acts on each enabled sink within 30 ns. -/
  | eventDelivery
  /-- EVO_PULSE_END (R244): A PULSE-mode EVO output returns low after WIDTH. -/
  | evoPulseEnd (n : Fin 8)
  /-- ADD (R258): rd = rs1 + rs2. -/
  | add (w : Word)
  /-- SUB (R258): rd = rs1 - rs2. -/
  | sub (w : Word)
  /-- AND (R258): Bitwise AND of rs1 and rs2. -/
  | and_ (w : Word)
  /-- OR (R258): Bitwise OR of rs1 and rs2. -/
  | or_ (w : Word)
  /-- XOR (R258): Bitwise XOR of rs1 and rs2. -/
  | xor (w : Word)
  /-- SLL (R258): Shift left by rs2[4:0]. -/
  | sll (w : Word)
  /-- SRL (R258): Logical shift right by rs2[4:0]. -/
  | srl (w : Word)
  /-- SRA (R258): Arithmetic shift right by rs2[4:0]. -/
  | sra (w : Word)
  /-- SLT (R258): Signed set-less-than. -/
  | slt (w : Word)
  /-- SLTU (R258): Unsigned set-less-than. -/
  | sltu (w : Word)
  /-- MIN (R258): Signed minimum. -/
  | min (w : Word)
  /-- MAX (R258): Signed maximum. -/
  | max (w : Word)
  /-- MINU (R258): Unsigned minimum. -/
  | minu (w : Word)
  /-- MAXU (R258): Unsigned maximum. -/
  | maxu (w : Word)
  /-- SLLI (R258): Shift left by sh. -/
  | slli (w : Word)
  /-- SRLI (R258): Logical shift right by sh. -/
  | srli (w : Word)
  /-- SRAI (R258): Arithmetic shift right by sh. -/
  | srai (w : Word)
  /-- SATI (R258): Signed saturation of rs1 to sh bits. -/
  | sati (w : Word)
  /-- MUL (R258): Low word of the product. -/
  | mul (w : Word)
  /-- MULH (R258): Signed high word of the product. -/
  | mulh (w : Word)
  /-- MULHU (R258): Unsigned high word of the product. -/
  | mulhu (w : Word)
  /-- MADD (R258): rd plus the low word of the product. -/
  | madd (w : Word)
  /-- MSUB (R258): rd minus the low word of the product. -/
  | msub (w : Word)
  /-- DIV (R259): Signed quotient with defined division by zero. -/
  | div (w : Word)
  /-- DIVU (R259): Unsigned quotient with defined division by zero. -/
  | divu (w : Word)
  /-- REM (R259): Signed remainder with defined division by zero. -/
  | rem (w : Word)
  /-- REMU (R259): Unsigned remainder with defined division by zero. -/
  | remu (w : Word)
  /-- ADDI (R260): rd = rs1 plus the sign-extended immediate. -/
  | addi (w : Word)
  /-- ANDI (R260): AND with the zero-extended immediate. -/
  | andi (w : Word)
  /-- ORI (R260): OR with the zero-extended immediate. -/
  | ori (w : Word)
  /-- XORI (R260): XOR with the zero-extended immediate. -/
  | xori (w : Word)
  /-- SLTI (R260): Signed compare with the immediate. -/
  | slti (w : Word)
  /-- SLTIU (R260): Unsigned compare with the sign-extended immediate. -/
  | sltiu (w : Word)
  /-- LUI (R260): Loads the immediate into the upper half of rd. -/
  | lui (w : Word)
  /-- LDW (R261): Loads a word at A under the capability checks. -/
  | ldw (w : Word)
  /-- LDH (R261): Loads a sign-extended halfword. -/
  | ldh (w : Word)
  /-- LDHU (R261): Loads a zero-extended halfword. -/
  | ldhu (w : Word)
  /-- LDB (R261): Loads a sign-extended byte. -/
  | ldb (w : Word)
  /-- LDBU (R261): Loads a zero-extended byte. -/
  | ldbu (w : Word)
  /-- STW (R261): Stores a word at A under the capability checks. -/
  | stw (w : Word)
  /-- STH (R261): Stores a halfword. -/
  | sth (w : Word)
  /-- STB (R261): Stores a byte. -/
  | stb (w : Word)
  /-- LDC (R290): Loads a capability with its tag. -/
  | ldc (w : Word)
  /-- STC (R290): Stores a capability with its tag. -/
  | stc (w : Word)
  /-- BEQ (R264): Branch if equal. -/
  | beq (w : Word)
  /-- BNE (R264): Branch if not equal. -/
  | bne (w : Word)
  /-- BLT (R264): Branch if signed less. -/
  | blt (w : Word)
  /-- BGE (R264): Branch if signed greater or equal. -/
  | bge (w : Word)
  /-- BLTU (R264): Branch if unsigned less. -/
  | bltu (w : Word)
  /-- BGEU (R264): Branch if unsigned greater or equal. -/
  | bgeu (w : Word)
  /-- J (R264): Unconditional PC-relative jump. -/
  | j (w : Word)
  /-- CALL (R264): Jump with return address in o7. -/
  | call (w : Word)
  /-- JMPL (R264): Register jump with link, trapping on misalignment. -/
  | jmpl (w : Word)
  /-- WOPEN (R265): Opens a window or raises window overflow. -/
  | wopen (w : Word)
  /-- WCLOSE (R265): Returns to the caller's window or raises window underflow. -/
  | wclose (w : Word)
  /-- LOOP (R268): Opens a hardware loop level with a register count or skips on zero. -/
  | loop (w : Word)
  /-- LOOPI (R268): Opens a hardware loop level with an immediate count or skips on zero. -/
  | loopi (w : Word)
  /-- RDSR (R273): Reads a special register. -/
  | rdsr (w : Word)
  /-- WRSR (R274): Writes a special register under SYS. -/
  | wrsr (w : Word)
  /-- TRAP (R273): Raises trap 0x0E with TVAL = rs1. -/
  | trap (w : Word)
  /-- BKPT (R273): Raises trap 0x0D. -/
  | bkpt (w : Word)
  /-- TRET (R301): Returns from a trap through TEPCC and TEPC and clears INTRAP. -/
  | tret (w : Word)
  /-- WFI (R322): Requests a checkpoint and sleep unless a wake is pending. -/
  | wfi (w : Word)
  /-- CKPT (R314): Requests a checkpoint. -/
  | ckpt (w : Word)
  /-- WSPILL (R266): Stores a window's 16 registers to its save area. -/
  | wspill (w : Word)
  /-- WFILL (R266): Loads a window's 16 registers from its save area. -/
  | wfill (w : Word)
  /-- ACPY (R291): Copies a capability with its tag. -/
  | acpy (w : Word)
  /-- ARDBASE (R294): Reads the base of a capability. -/
  | ardbase (w : Word)
  /-- ARDLEN (R294): Reads the length of a capability. -/
  | ardlen (w : Word)
  /-- ARDPERM (R294): Reads the permissions of a capability. -/
  | ardperm (w : Word)
  /-- ARDTYPE (R294): Reads the object type of a capability. -/
  | ardtype (w : Word)
  /-- ARDTAG (R275): Reads the tag and sealed bits of a capability. -/
  | ardtag (w : Word)
  /-- ATRIMLO (R291): Raises the base and shortens the length of a capability. -/
  | atrimlo (w : Word)
  /-- ATRIMLEN (R291): Sets a shorter length of a capability. -/
  | atrimlen (w : Word)
  /-- AMASK (R291): Masks the permissions of a capability. -/
  | amask (w : Word)
  /-- AVOID (R291): Clears the tag of a capability. -/
  | avoid (w : Word)
  /-- ALOCK (R291): Seals a capability with an authorised type. -/
  | alock (w : Word)
  /-- AUNLOCK (R291): Unseals a capability under an authorising capability. -/
  | aunlock (w : Word)
  /-- AWITHIN (R294): Tests whether one capability lies within another's authority. -/
  | awithin (w : Word)
  /-- AJUMP (R292): Jumps through a capability, setting PCC and PC. -/
  | ajump (w : Word)
  /-- AENTER (R293): Enters a compartment through a sealed code and data pair. -/
  | aenter (w : Word)
  /-- ARDPCC (R291): Copies PCC into a capability register. -/
  | ardpcc (w : Word)
  /-- ARDSPC (R275): Reads PCC, TEPCC or TVEC under SYS. -/
  | ardspc (w : Word)
  /-- AWRSPC (R275): Writes TEPCC or TVEC under SYS. -/
  | awrspc (w : Word)
  /-- DEFINED_ILLEGAL (R276): Executing 0x0000_0000 or 0xFFFF_FFFF raises trap 0x03. -/
  | definedIllegal (w : Word)
  /-- RESERVED_ENCODING (R278): A reserved encoding has a confined, deterministic effect within 64 cycles. -/
  | reservedEncoding (w : Word)
  /-- INTERRUPT (R302): At an instruction boundary the lowest pending enabled IRQ is taken through trap entry. -/
  | interrupt
  /-- ROLLBACK_COMPLETE (R317): Rollback step 5 re-sets cleared IRQs, reverts rollback-aware blocks, logs and releases the cores. -/
  | rollbackComplete
  /-- TRIO_RELEASE (R517): After the Trio-only reset wipe the cores are released at PC 0. -/
  | trioRelease
  /-- PERIODIC_CHECKPOINT (R314): INTV after the last checkpoint or rollback requests a checkpoint. -/
  | periodicCheckpoint
  /-- HIGH_WATER_CHECKPOINT (R314): Fewer than 64 free undo entries request a checkpoint. -/
  | highWaterCheckpoint
  /-- CHECKPOINT_COMPLETE (R315): After 100 cycles the new snapshot slot becomes active, the log empties and rollback-aware blocks commit. -/
  | checkpointComplete
  /-- WAKE (R323): A pending enabled IRQ, mailbox wake or halt request resumes the Trio after its WFI. -/
  | wake
  /-- WATCHDOG_EXPIRY (R325): The watchdog count reaches TO and the device performs a Trio-only reset. -/
  | watchdogExpiry
  /-- SCRUB_READ (R336): Every SCRUBDIV us the scrubber reads the next word of each powered bank. -/
  | scrubRead (bank : Fin 15) (result : Fin 3)
  /-- BANK_WIPE_COMPLETE (R338): A powered-up bank finishes its wipe and starts serving accesses. -/
  | bankWipeComplete (pd : Fin 64)
  /-- XSPI_COMMAND_COMPLETE (R340): An indirect flash command completes and BUSY clears. -/
  | xspiCommandComplete (data : List Byte)
  /-- FLASH_TIMEOUT (R357): No strobe edge for 64 flash clocks ends the access with TMO and logs. -/
  | flashTimeout (off : Word) (who : Fin 4)
  /-- SECURE_BOOT (R344): The boot ROM reads both headers, selects and loads a slot while hashing. -/
  | secureBoot
  /-- SIGNATURE_CHECK_COMPLETE (R343): The ECDSA check of a loaded slot completes and the image starts or the other slot is tried. -/
  | signatureCheckComplete
  /-- VERIFY_COMPLETE (R345): Image verification ends with its 16-byte result. -/
  | verifyComplete
  /-- OTP_PROGRAM_COMPLETE (R347): After 20 us the programmed word is read back and a mismatch sets OTPFAIL. -/
  | otpProgramComplete (got : Option Word)
  /-- WIPE_REGION_COMPLETE (R355): A wiped region completes, appends its record and the status word advances. -/
  | wipeRegionComplete (region : Fin 9) (ue : Bool)
  /-- DOORBELL_POLL (R367): A command ring issues its doorbell read by time, angle stamp or the 1 ms guard. -/
  | doorbellPoll (n : Fin 8) (crossing : Bool)
  /-- DOORBELL_POLL_COMPLETE (R368): A returned PI makes descriptors fetchable or puts the ring in ERROR with BADPI. -/
  | doorbellPollComplete (n : Fin 8) (pi : Option (BitVec 16))
  /-- DESCRIPTOR_FETCH (R369): HIF serves one round-robin batch of fetchable descriptors into free hand-off slots. -/
  | descriptorFetch
  /-- CONSUMER_WORD_READ (R375): A full ring rereads its consumer word every 1 us and faults a bad CI. -/
  | consumerWordRead (ring : Fin 10) (ci : Option (BitVec 16))
  /-- TELEMETRY_RECORD (R378): A telemetry record is produced by period or angle stamp and written or dropped. -/
  | telemetryRecord (crossing : Bool)
  /-- RINGTEST_POINT_COMPLETE (R387): A RINGTEST frequency point completes its correlation and appends a record. -/
  | ringtestPointComplete
  /-- STATUS_WORD_WRITE (R386): HIF writes a host-started long operation's status word at least every 1 ms while progress advances. -/
  | statusWordWrite (k : Fin 5)
  /-- LOCK_TIMEOUT (R399): LOCKTO elapsed since an external agent won a lock releases it and logs. -/
  | lockTimeout (k : Fin 8)
  /-- CONTROLLER_STRETCH_TIMEOUT (R426): STRTO expiry releases the bus, ends the transfer TMO and self-resets the port. -/
  | controllerStretchTimeout (n : Fin 2)
  /-- SELF_RESET (R427): SCL low for TTMO releases the bus, discards the transaction, counts, logs and releases locks. -/
  | selfReset (n : Fin 2)
  /-- INBAND_REQUEST (R429): With a pending cause on an idle bus the port pulls SDA low for INBW, repeating every ATTREP. -/
  | inbandRequest (n : Fin 2) (collision : Bool)
  /-- HOST_NOTIFY (R430): At a new pending cause the port sends Host Notify to address 0x08 with retries. -/
  | hostNotify (n : Fin 2) (accepted : Bool)
  /-- AVS_COMMIT_ARRIVAL (R434): 40 ns after a commit frame the released values arrive at their rails' arbiters. -/
  | avsCommitArrival (n : Fin 2)
  /-- AVS_FRAME_TIMEOUT (R432): A frame not complete within AVSTO is discarded and counted. -/
  | avsFrameTimeout (n : Fin 2)
  /-- SUSPEND (R445): 3 ms of idle suspends the function and may power down PD59 and PD60. -/
  | suspend
  /-- RESUME_END (R445): The end of resume signalling returns the function to its prior state and raises source 178. -/
  | resumeEnd
  /-- OVERCURRENT (R444): USB_OCn_N low for 1 ms removes port power, sets C_PORT_OVER_CURRENT and logs. -/
  | overcurrent (port : Fin 2)
  /-- RECONNECT_RESTORE (R451): 10 ms after RECONNECT the D+ pull-up is restored. -/
  | reconnectRestore
  /-- INFO (R457): Service INFO returns SYS_ID, LCS_STAT, LCS_BOOT and USB_STAT. -/
  | info (seq : Byte) (len : BitVec 16)
  /-- DEVTIME (R457): Service DEVTIME returns device time. -/
  | devtime (seq : Byte) (len : BitVec 16)
  /-- MBX_LOCK (R457): Service MBX_LOCK reads MBk_LOCK as sender 3. -/
  | mbxLock (seq : Byte) (arg : Word) (len : BitVec 16)
  /-- MBX_RELEASE (R457): Service MBX_RELEASE writes 0 to MBk_LOCK. -/
  | mbxRelease (seq : Byte) (arg : Word) (len : BitVec 16)
  /-- MBX_WRITE (R457): Service MBX_WRITE writes mailbox data words. -/
  | mbxWrite (seq : Byte) (arg : Word) (len : BitVec 16) (payload : List Byte)
  /-- MBX_READ (R457): Service MBX_READ returns mailbox data words. -/
  | mbxRead (seq : Byte) (arg : Word) (len : BitVec 16)
  /-- MBX_SEND (R457): Service MBX_SEND writes MBk_SEND with a ticket. -/
  | mbxSend (seq : Byte) (arg : Word) (len : BitVec 16)
  /-- MBX_TAKE (R457): Service MBX_TAKE reads MBk_TAKE. -/
  | mbxTake (seq : Byte) (arg : Word) (len : BitVec 16)
  /-- RECOV_WRITE (R458): Service RECOV_WRITE stages recovery image bytes in shared SRAM. -/
  | recovWrite (seq : Byte) (arg : Word) (len : BitVec 16) (payload : List Byte)
  /-- RECOV_BOOT (R458): Service RECOV_BOOT checks the staged slot and answers OK or FAILED. -/
  | recovBoot (seq : Byte) (len : BitVec 16)
  /-- RECOVERY_LOAD (R458): After the host acknowledges or 10 ms the boot ROM loads the recovery slot. -/
  | recoveryLoad
  /-- UNKNOWN_SERVICE_OP (R459): A service frame with an unknown OP is answered BADOP. -/
  | unknownServiceOp (op seq : Byte)
  /-- SERVICE_FRAME_TIMEOUT (R459): A command frame incomplete within SVCTO is discarded without response and logged. -/
  | serviceFrameTimeout
  /-- PWM_PERIOD_START (R465): A carrier valley starts a period, loads new on-times with carries and fires source 136 + 2m. -/
  | pwmPeriodStart (m : Fin 4)
  /-- CURRENT_SAMPLE_REQUEST (R468): SDLY after a period start the engine requests its A and B conversions. -/
  | currentSampleRequest (m : Fin 4)
  /-- ALIGNMENT_DONE (R476): After ALIGNT the engine sets THOFS, sets THV, logs and enters RUN. -/
  | alignmentDone (m : Fin 4)
  /-- DRIVER_FAULT (R478): MOTm_FLT_N low for 1 us makes fault DRV present. -/
  | driverFault (m : Fin 4) (low : Bool)
  /-- STALL (R478): Maximum IQREF with speed below STALLSPD for STALLT makes fault STALL present. -/
  | stall (m : Fin 4)
  /-- WIRE_DISAGREEMENT (R483): Both legs of a pair at one level for WTIME make WIRE present. -/
  | wireDisagreement (f : Fin 4) (pair : Fin 3) (same : Option Nat)
  /-- FB_UPDATE (R487): Every 1 us a channel delivers its position to its angle domain or flags the update missing. -/
  | fbUpdate (f : Fin 4)
  /-- SCAN_START (R494): Every SCANPER a scan latches the mask and measures enabled electrodes in order. -/
  | scanStart
  /-- MEASUREMENT_TIMEOUT (R491): MAXCNT transfers without a crossing fail the measurement with TMO. -/
  | measurementTimeout
  /-- LEARN_END (R500): At the end of the learning duration each electrode is classified, DRY set and records written. -/
  | learnEnd
  /-- POWER_REQUEST (R505): A write to PWR_REQ0 or PWR_REQ1 requests domains up or down, refusing forbidden power-downs. -/
  | powerRequest (req0 : Option Word) (req1 : Option Word)
  /-- DOMAIN_SWITCH (R508): In each sequencer slot one domain is switched up or isolated and powered down. -/
  | domainSwitch
  /-- DOMAIN_READY (R508): A powering-up domain becomes ready after its power-up time and its ON bit sets. -/
  | domainReady (pd : Fin 64)
  /-- DEVRESET (R515): SYS_ACT DEVRESET with the key starts a device reset, else sets RSTKEY. -/
  | devreset (ticket : Byte) (arg : BitVec 16)
  /-- STARTUP (R523): When the reset cause ends the RC starts, OTP is read, the wipe runs and the PLLs lock. -/
  | startup
  /-- CULLET_WIPE_COMPLETE (R353): The reset wipe completes, the reset record is logged and the Trio is released. -/
  | culletWipeComplete
  /-- LOG_ENTRY_WRITE (R530): The writer takes one queued entry per AO cycle and writes it at WIDX. -/
  | logEntryWrite
  /-- LOG_COPY (R533): HIF copies log entry HIDX to the log ring and increments HIDX. -/
  | logCopy (ue : Bool)
  /-- MIN_ON_TIME_END (R125): A phase held on by its minimum on-time under overshoot blanking or a disable turns off when that time ends. -/
  | minOnTimeEnd (p : Fin 32)
  /-- SYNC_IN_EDGE (R69): An accepted SYNC_IN edge is detected after the filter and a FOLLOWER repeats it on SYNC_OUT 2 ns later. -/
  | syncInEdge (x : SyncEdge)
  /-- DISCHARGE_CHECK (R491): At the end of the 1 us discharge the electrode ball is sampled and a high reading fails the measurement with SUP. -/
  | dischargeCheck (high : Bool)
  /-- REGISTER_WRITE (R11): A write to a register that has no row of its own stores its writable fields under the access codes. -/
  | registerWrite (agent : Agent) (addr : Nat) (value : Word)
  /-- READ_CLEAR (R11): A read of an RC register returns its value and clears it to its reset value. -/
  | readClear (agent : Agent) (addr : Nat) (event : Word)
  /-- W1C_WRITE (R13): A W1C write clears each flag written as 1 unless the setting event falls in the same cycle. -/
  | w1cWrite (agent : Agent) (addr : Nat) (value : Word) (event : Word)
  /-- EXPERT_SET (R17): Setting EXPERT keeps the derived values of expert-only fields and makes them writable. -/
  | expertSet (agent : Agent) (addr : Nat) (value : Word)
  /-- EXPERT_CLEAR (R19): Clearing EXPERT discards raw values, loads derived values and counts carried differing fields once. -/
  | expertClear (agent : Agent) (addr : Nat) (value : Word)
  /-- UNLISTED_ACTION (R20): An ACT write with an unlisted ACTION code is accepted and only updates the remembered ticket. -/
  | unlistedAction (agent : Agent) (addr : Nat) (ticket : Byte) (arg : BitVec 16) (action : Byte)
  /-- CLKACT_RETURN (R41): SYS_CLKACT action 0x01 returns to XIN if XIN is within its guard. -/
  | clkactReturn (ticket : Byte) (arg : BitVec 16)
  /-- REACQUIRE (R58): ANG_ACT action 0x01 makes a LOST domain acquire its returning reference afresh. -/
  | reacquire (ticket : Byte) (arg : BitVec 16)
  /-- DOMAIN_ENABLE (R48): Enabling a domain makes its last written rate the working rate at once. -/
  | domainEnable (d : Fin 8) (value : Word)
  /-- DOMAIN_DISABLE (R50): Disabling a domain holds its angle, or is refused if an enabled rail is bound. -/
  | domainDisable (d : Fin 8) (value : Word)
  /-- SRC_CHANGE (R44): A write of SRC selects the reference from the next turn boundary or is ignored with BADSRC. -/
  | srcChange (d : Fin 8) (value : Word)
  /-- FREQ_WRITE (R47): A FREQ write loads into a shadow, arms a follower, or is refused with FRANGE. -/
  | freqWrite (d : Fin 8) (value : Word)
  /-- RATEH_WRITE (R48): A write to RATEH commits the RATEL and RATEH pair as one shadowed rate. -/
  | ratehWrite (d : Fin 8) (value : Word)
  /-- RAILMAP_WRITE (R49): An ANG_RAILMAP write binds rails to domains or is refused with REFUSED. -/
  | railmapWrite (value : Word)
  /-- ROLE_CHANGE (R69): A change of SYNC ROLE takes effect when SYNC_OUT is low, after any pulse in progress completes. -/
  | roleChange (value : Word)
  /-- ACU_ARM (R64): An ACU becomes armed by STAMP write or enable and the LATE policy is evaluated. -/
  | acuArm (k : Fin 16) (stamp : Option Word) (ctl : Option Word)
  /-- MERGED_SAMPLE (R103): A merged V-bank sample enters the 8-cycle Marver pipeline and updates every active on-time request. -/
  | mergedSample (r : Fin 4) (x : Conversion)
  /-- V_SATURATION (R101): 256 consecutive saturated merged samples set VSAT, log and signal rail protection. -/
  | vSaturation (r : Fin 4) (positive : Bool)
  /-- I_SAMPLE (R80): An I-bank sample is scaled to current, sent to protection and marked as balance sample where it applies. -/
  | iSample (p : Fin 32) (x : Conversion)
  /-- IMON_OPEN (R101): 64 consecutive below-range IMON samples set IMFLT and IMOPEN, log and signal a stage fault. -/
  | imonOpen (p : Fin 32)
  /-- MOTOR_INPUT_FAULT (R101): 16 consecutive below-range motor-current samples set GATH_MFLT and MFLT. -/
  | motorInputFault (ch : Fin 8)
  /-- UNDERSHOOT_ASSERT (R121): The filtered UNDERSHOOT output asserts, a Glory episode starts and the walker forces its first phase. -/
  | undershootAssert (x : CmpEdge)
  /-- UNDERSHOOT_RELEASE (R123): UNDERSHOOT releases, the episode ends, forced phases are released and a Glory hold starts. -/
  | undershootRelease (x : CmpLevel)
  /-- OVERSHOOT_ASSERT (R125): OVERSHOOT asserts, blanking starts, Glory-forced phases are released and OV counts. -/
  | overshootAssert (x : CmpEdge)
  /-- OVERSHOOT_RELEASE (R125): OVERSHOOT releases and each phase follows its TON_k from its next slot. -/
  | overshootRelease (x : CmpLevel)
  /-- VSHOST_WRITE (R108): A write to MRVr_VSHOST is a HOST arrival at the rail's VSET arbiter. -/
  | vshostWrite (r : Fin 4) (value : Word)
  /-- VSPMB_WRITE (R108): A write to MRVr_VSPMB is a PMBUS arrival at the rail's VSET arbiter. -/
  | vspmbWrite (r : Fin 4) (value : Word)
  /-- UPD_HOLD_CLEAR (R127): Clearing MRVr_UPD.HOLD makes every pending value of the rail load together at one boundary. -/
  | updHoldClear (r : Fin 4) (value : Word)
  /-- COMPENSATOR_CLEAR (R112): MRV_ACT action 0x01 clears the compensator state at the rail's next merged sample. -/
  | compensatorClear (ticket : Byte) (arg : BitVec 16)
  /-- BALANCE_CLEAR (R117): MRV_ACT action 0x02 clears all balance trims of the rail. -/
  | balanceClear (ticket : Byte) (arg : BitVec 16)
  /-- PROT_CLEAR (R154): PROT_ACT CLEAR returns a LATCHED rail to NORMAL and OFF, or is refused with CLRREF. -/
  | protClear (ticket : Byte) (arg : BitVec 16)
  /-- ABORT (R154): PROT_ACT ABORT latches off a rail that is in HICWAIT. -/
  | abort (ticket : Byte) (arg : BitVec 16)
  /-- RESTOREPH (R154): PROT_ACT RESTOREPH returns a phase to service at the next boundary, or is refused with RSTREF. -/
  | restoreph (ticket : Byte) (arg : BitVec 16)
  /-- EDGE_ENABLE (R179): A write of EDGEr_CTL.EN = 1 is checked and puts the rail in ENWAIT or is refused with ENREF. -/
  | edgeEnable (r : Fin 4) (value : Word)
  /-- EDGE_DISABLE (R181): A write of EN = 0 turns phases off, holds LOW and puts the rail and engine in OFF. -/
  | edgeDisable (r : Fin 4) (value : Word)
  /-- FREEZE (R182): A FREEZE sink or EDGE_ACT 0x01 freezes a running rail's on-times and N. -/
  | freeze (r : Fin 4) (ticket : Option Byte)
  /-- UNFREEZE (R183): EDGE_ACT action 0x02 ends a freeze. -/
  | unfreeze (ticket : Byte) (arg : BitVec 16)
  /-- INERT (R184): An INERT sink or EDGE_ACT 0x03 turns the rail's phases off and puts the rail in INERT. -/
  | inert (r : Fin 4) (ticket : Option Byte)
  /-- RELEASE (R185): EDGE_ACT action 0x04 ends INERT into HALT or a restart through PREBIAS. -/
  | release (ticket : Byte) (arg : BitVec 16)
  /-- ROTATE (R90): GATH_ACT ROTATE starts one rotation step of the named bank now. -/
  | rotate (ticket : Byte) (arg : BitVec 16)
  /-- FULLCAL (R90): FULLCAL runs a step on every pool slice of the bank, also as host long operation 0x04. -/
  | fullcal (via : Via)
  /-- CALSLICE (R90): CALSLICE calibrates a spare in place or rotates an in-service slice out. -/
  | calslice (ticket : Byte) (arg : BitVec 16)
  /-- RETIRE (R90): RETIRE removes a slice from the pool, replacing it through a step if in service. -/
  | retire (ticket : Byte) (arg : BitVec 16)
  /-- RESTORE (R90): RESTORE calibrates a slice and returns it to the pool if it passes. -/
  | restore (ticket : Byte) (arg : BitVec 16)
  /-- START (R95): GATH_ACT START triggers the named sequencer under the software-trigger rule. -/
  | start (ticket : Byte) (arg : BitVec 16)
  /-- SEQUENCER_DISABLE (R99): Clearing GSQn_CTL.EN stops the run after its current entry and drops a pending start. -/
  | sequencerDisable (n : Fin 16) (value : Word)
  /-- IDLE (R193): An IDLE block arrives on an Apram lane, feeding elastic-buffer fill control. -/
  | idle (ln : Fin 2) (block : BitVec 66)
  /-- FRAME (R194): A FRAME block arrives, is validated and drives lane framing, deskew and the angle reference. -/
  | frame (ln : Fin 2) (header : BitVec 2) (b0 : Byte) (b1 : BitVec 24) (b4 : Word) (sub : Fin 64)
  /-- MSG (R193): A MSG control block arrives carrying message bytes 0 to 7. -/
  | msg (ln : Fin 2) (block : BitVec 66)
  /-- DATA_BLOCK (R193): A data block arrives carrying message bytes 8 to 15, or is errored without a preceding MSG. -/
  | dataBlock (ln : Fin 2) (header : BitVec 2) (lo hi : Word)
  /-- CLOCK_RECOVERED (R197): A lane's clock recovery locks and the lane enters HUNT. -/
  | clockRecovered (ln : Fin 2)
  /-- CLOCK_RECOVERY_UNLOCK (R197): A lane's clock recovery unlocks and the lane falls to DOWN. -/
  | clockRecoveryUnlock (ln : Fin 2)
  /-- APR_ENABLE (R192): Setting APR_CTL.EN starts the link, resets the scrambler and takes FLEN. -/
  | aprEnable (value : Word)
  /-- RETRAIN (R199): APR_ACT RETRAIN sets both lanes and the link to DOWN and takes FLEN afresh. -/
  | retrain (ticket : Byte) (arg : BitVec 16)
  /-- SEQRESET (R208): APR_ACT SEQRESET marks the sequence unsynchronised. -/
  | seqreset (ticket : Byte) (arg : BitVec 16)
  /-- CU_START (R246): CNT_ACT START sets RUN and loads the shadow period on a stopped unit. -/
  | cuStart (ticket : Byte) (arg : BitVec 16)
  /-- CU_RESET (R246): CNT_ACT RESET sets COUNT to 0 and loads the shadow period. -/
  | cuReset (ticket : Byte) (arg : BitVec 16)
  /-- START_RESET (R246): CNT_ACT START_RESET resets and starts the unit in one cycle. -/
  | startReset (ticket : Byte) (arg : BitVec 16)
  /-- CAPTURE (R231): CNT_ACT CAPTURE writes CUn_CAP, raises CAPTURE and sets CAPF, or OVF on overwrite. -/
  | capture (ticket : Byte) (arg : BitVec 16)
  /-- PERIOD_WRITE (R227): A CUn_PERIOD write goes to a shadow or, in IMMEDIATE mode, applies at the next count step. -/
  | periodWrite (n : Fin 24) (value : Word)
  /-- CAPTURE_READ (R231): A read of CUn_CAP returns the value and clears CAPF. -/
  | captureRead (n : Fin 24)
  /-- SINK_ENABLE_WRITE (R239): A write to EVM_CHc_SNKj of a SINGLE channel keeps one sink and refuses the rest. -/
  | sinkEnableWrite (c : Fin 32) (j : Fin 4) (value : Word)
  /-- MODE_WRITE (R240): A change of channel MODE is stored or refused from FORK to SINGLE with several sinks. -/
  | modeWrite (c : Fin 32) (value : Word)
  /-- SWTRIG (R245): EVM_ACT SWTRIG fires software sources 184 + i in the next AO cycle. -/
  | swtrig (ticket : Byte) (arg : BitVec 16)
  /-- MISMATCH (R313): A vote comparison disagrees and the voter holds the cores and starts a rollback. -/
  | mismatch (kind : Fin 5) (agree : BitVec 3) (x : Voted)
  /-- DEBUG_HALT (R324): A debug halt request halts all three cores at an instruction boundary. -/
  | debugHalt
  /-- DEBUG_RESUME (R324): Resume releases the halted cores with the stagger. -/
  | debugResume
  /-- TRIO_RESET_ACTION (R320): TRIO_ACT action 0x01 requests a Trio-only reset. -/
  | trioResetAction (ticket : Byte) (arg : BitVec 16)
  /-- KICK (R325): TRIO_ACT action 0x02 restarts the watchdog count. -/
  | kick (ticket : Byte) (arg : BitVec 16)
  /-- IRQ_PEND_CLEAR (R321): A W1C write to TRIO_IRQPEND clears bits and records them in TRIO_IRQCLR. -/
  | irqPendClear (j : Fin 2) (value : Word) (event : Word)
  /-- EXEC (R340): XSPI_ACT EXEC starts an indirect flash command and invalidates the prefetch buffer. -/
  | exec (ticket : Byte) (arg : BitVec 16)
  /-- VERIFY (R345): VERIFY applies the slot checks to one slot without loading it as long operation 0x03. -/
  | verify (via : Via)
  /-- PROGRAM (R347): LCS_ACT PROGRAM writes one OTP word or is refused with OTPREF. -/
  | program (ticket : Byte) (arg : BitVec 16)
  /-- TRANSITION (R351): LCS_ACT TRANSITION programs the next life-cycle word, zeroizes keys where required and resets. -/
  | transition (ticket : Byte) (arg : BitVec 16)
  /-- ARVER (R348): LCS_ACT ARVER raises the anti-rollback minimum or is refused. -/
  | arver (ticket : Byte) (arg : BitVec 16)
  /-- REVOKE (R348): LCS_ACT REVOKE revokes a key-hash slot or is refused. -/
  | revoke (ticket : Byte) (arg : BitVec 16)
  /-- WIPE (R354): WIPE zeroes selected shared SRAM banks and the USB buffer as long operation 0x02. -/
  | wipe (via : Via)
  /-- PCIE_FUNCTION_RESET (R361): FLR, hot reset or link loss disables rings, clears tag memories, frees slots and stops DMA. -/
  | pcieFunctionReset (kind : Fin 3)
  /-- RING_ENABLE (R366): Enabling a ring starts polling with CI and PI from CI0. -/
  | ringEnable (agent : Agent) (ring : Fin 18) (value : Word)
  /-- RING_DISABLE (R377): Clearing a ring's EN completes unhandled descriptors ABORTED and resets its indices. -/
  | ringDisable (agent : Agent) (ring : Fin 18) (value : Word)
  /-- DESCRIPTOR_ARRIVAL (R371): A fetched descriptor is checked for GEN, duplicate tag, opcode and buffer, then handed to firmware or completed. -/
  | descriptorArrival (slot : Fin 16) (desc : Option (BitVec 512)) (buf : Option (List Byte))
  /-- HIF_TAKE (R372): A read of HIF_TAKE takes the oldest handed descriptor, rollback-aware. -/
  | hifTake (agent : Agent)
  /-- POST (R373): HIF_ACT POST writes back data and the completion, records status, sends MSI-X and frees the slot. -/
  | post (ticket : Byte) (arg : BitVec 16)
  /-- STATUS (R383): Opcode STATUS returns SYS_SPEED. -/
  | status (slot : Fin 16)
  /-- PARAM_READ (R384): Opcode PARAM_READ reads the listed registers into the buffer. -/
  | paramRead (slot : Fin 16)
  /-- PARAM_WRITE (R384): Opcode PARAM_WRITE checks all pairs and writes them grouped under HOLD. -/
  | paramWrite (slot : Fin 16)
  /-- HOST_VSET (R383): Opcode VSET writes MRVr_VSHOST and returns MRVr_VSNOW. -/
  | hostVset (slot : Fin 16)
  /-- RAIL_ENABLE (R383): Opcode RAIL_ENABLE writes EDGEr_CTL.EN. -/
  | railEnable (slot : Fin 16)
  /-- RAIL_CLEAR (R383): Opcode RAIL_CLEAR issues a ticketed PROT CLEAR and optionally re-enables. -/
  | railClear (slot : Fin 16)
  /-- MOTOR_SPEED (R383): Opcode MOTOR_SPEED sets a motor's speed reference. -/
  | motorSpeed (slot : Fin 16)
  /-- TELEM_PERIOD (R383): Opcode TELEM_PERIOD writes HIF_TEL_MODE.PERIOD. -/
  | telemPeriod (slot : Fin 16)
  /-- RINGTEST (R387): Long operation RINGTEST injects sines into a rail's duty and measures loop gain. -/
  | ringtest (slot : Fin 16)
  /-- LONGOP_ABORT (R388): Opcode LONGOP_ABORT ends a long operation ABORTED at its next stopping point. -/
  | longopAbort (slot : Fin 16)
  /-- LOCK_READ (R397): A read of a free MBk_LOCK makes the reader owner, else returns the owner's ID. -/
  | lockRead (readers : List Agent) (k : Fin 16)
  /-- LOCK_RELEASE (R397): The owner's write of 0 to MBk_LOCK releases the lock. -/
  | lockRelease (agent : Agent) (k : Fin 16) (value : Word)
  /-- BREAK (R399): MBX_ACT BREAK releases the lock of the named mailbox. -/
  | break (ticket : Byte) (arg : BitVec 16)
  /-- MAILBOX_DATA_WRITE (R396): A write to MBk_DATA is accepted with the write right and FULL = 0, else counted in WREF. -/
  | mailboxDataWrite (agent : Agent) (k : Fin 16) (j : Fin 16) (value : Word)
  /-- MAILBOX_SEND (R401): MBk_SEND SEND sets FULL, stores LEN and sender, fires its source and notifies, or is refused. -/
  | mailboxSend (agent : Agent) (k : Fin 16) (ticket : Byte) (arg : BitVec 16)
  /-- MAILBOX_TAKE (R403): The receiver's read of MBk_TAKE returns FULL, LEN and sender and clears FULL. -/
  | mailboxTake (agent : Agent) (k : Fin 16)
  /-- PAGE (R415): PMBus PAGE selects one rail or all rails. -/
  | page (n : Fin 2) (x : Xfer)
  /-- OPERATION (R414): PMBus OPERATION reads the rail enable or queues enable or disable. -/
  | operation (n : Fin 2) (x : Xfer)
  /-- CLEAR_FAULTS (R414): PMBus CLEAR_FAULTS clears TWn_CML in hardware and queues a flag clear. -/
  | clearFaults (n : Fin 2) (x : Xfer)
  /-- CAPABILITY (R414): PMBus CAPABILITY returns 0xC4. -/
  | capability (n : Fin 2) (x : Xfer)
  /-- VOUT_MODE (R414): PMBus VOUT_MODE returns direct format. -/
  | voutMode (n : Fin 2) (x : Xfer)
  /-- VOUT_COMMAND (R414): PMBus VOUT_COMMAND reads T from the mirror or queues a new voltage. -/
  | voutCommand (n : Fin 2) (x : Xfer)
  /-- VOUT_MAX (R414): PMBus VOUT_MAX reads or queues VMAX. -/
  | voutMax (n : Fin 2) (x : Xfer)
  /-- VOUT_MIN (R414): PMBus VOUT_MIN reads or queues VMIN. -/
  | voutMin (n : Fin 2) (x : Xfer)
  /-- COEFFICIENTS (R417): PMBus COEFFICIENTS returns the direct-format coefficients. -/
  | coefficients (n : Fin 2) (x : Xfer)
  /-- STATUS_BYTE (R414): PMBus STATUS_BYTE returns the low byte of STATUS_WORD. -/
  | statusByte (n : Fin 2) (x : Xfer)
  /-- STATUS_WORD (R418): PMBus STATUS_WORD is formed from flags and rail state. -/
  | statusWord (n : Fin 2) (x : Xfer)
  /-- STATUS_VOUT (R418): PMBus STATUS_VOUT reports OV and UV declarations. -/
  | statusVout (n : Fin 2) (x : Xfer)
  /-- STATUS_IOUT (R418): PMBus STATUS_IOUT reports current faults and warnings. -/
  | statusIout (n : Fin 2) (x : Xfer)
  /-- STATUS_INPUT (R418): PMBus STATUS_INPUT reports VINUV. -/
  | statusInput (n : Fin 2) (x : Xfer)
  /-- STATUS_TEMPERATURE (R418): PMBus STATUS_TEMPERATURE reports OT and OTW. -/
  | statusTemperature (n : Fin 2) (x : Xfer)
  /-- STATUS_CML (R418): PMBus STATUS_CML returns TWn_CML. -/
  | statusCml (n : Fin 2) (x : Xfer)
  /-- STATUS_MFR_SPECIFIC (R418): PMBus STATUS_MFR_SPECIFIC reports SF, SO and IMO. -/
  | statusMfrSpecific (n : Fin 2) (x : Xfer)
  /-- READ_VIN (R414): PMBus READ_VIN returns VIN_mV in linear format. -/
  | readVin (n : Fin 2) (x : Xfer)
  /-- READ_VOUT (R414): PMBus READ_VOUT returns the sensed voltage in direct format. -/
  | readVout (n : Fin 2) (x : Xfer)
  /-- READ_IOUT (R414): PMBus READ_IOUT returns I_TOT in linear format. -/
  | readIout (n : Fin 2) (x : Xfer)
  /-- READ_TEMPERATURE_1 (R414): PMBus READ_TEMPERATURE_1 returns the stage temperature. -/
  | readTemperature1 (n : Fin 2) (x : Xfer)
  /-- READ_TEMPERATURE_2 (R414): PMBus READ_TEMPERATURE_2 returns the die temperature. -/
  | readTemperature2 (n : Fin 2) (x : Xfer)
  /-- PMBUS_REVISION (R414): PMBus PMBUS_REVISION returns 0x33. -/
  | pmbusRevision (n : Fin 2) (x : Xfer)
  /-- MFR_ID (R414): PMBus MFR_ID returns PNTH. -/
  | mfrId (n : Fin 2) (x : Xfer)
  /-- MFR_MODEL (R414): PMBus MFR_MODEL returns KT9640. -/
  | mfrModel (n : Fin 2) (x : Xfer)
  /-- MFR_REVISION (R414): PMBus MFR_REVISION returns B1. -/
  | mfrRevision (n : Fin 2) (x : Xfer)
  /-- MFR_MBX_SEL (R420): Selects the mailbox for the manufacturer mailbox commands. -/
  | mfrMbxSel (n : Fin 2) (x : Xfer)
  /-- MFR_MBX_LOCK (R420): Reads or writes MBk_LOCK as the port's sender ID. -/
  | mfrMbxLock (n : Fin 2) (x : Xfer)
  /-- MFR_MBX_DATA (R420): Block-writes or block-reads mailbox data words. -/
  | mfrMbxData (n : Fin 2) (x : Xfer)
  /-- MFR_MBX_SEND (R420): Writes MBk_SEND with a ticket and LEN at the STOP. -/
  | mfrMbxSend (n : Fin 2) (x : Xfer)
  /-- MFR_MBX_TAKE (R420): Reads MBk_TAKE as the port's sender ID. -/
  | mfrMbxTake (n : Fin 2) (x : Xfer)
  /-- MFR_ATTN (R428): Returns TWn_ATTN and clears the returned bits. -/
  | mfrAttn (n : Fin 2) (x : Xfer)
  /-- MFR_DEVTIME (R420): Returns device time. -/
  | mfrDevtime (n : Fin 2) (x : Xfer)
  /-- MFR_CLEAR (R414): Queues a PROT CLEAR for the paged rail. -/
  | mfrClear (n : Fin 2) (x : Xfer)
  /-- RESPONSE_TABLE_READ (R416): A read outside the mirror is answered from the lowest matching response table entry. -/
  | responseTableRead (n : Fin 2) (cmd : Option Byte)
  /-- UNSUPPORTED_COMMAND (R413): An unsupported command code is NACKed and sets CML invalid command. -/
  | unsupportedCommand (n : Fin 2) (cmd : Byte)
  /-- QUEUE_POP (R422): A read of TWn_QPOP returns and removes the oldest entry, rollback-aware. -/
  | queuePop (agent : Agent) (n : Fin 2)
  /-- POINTER_WRITE (R424): An I2C pointer write sets the pointer, stores bytes and appends a KIND 3 entry. -/
  | pointerWrite (n : Fin 2) (data : List Byte)
  /-- POINTER_READ (R424): An I2C pointer read returns bytes from the pointer onward. -/
  | pointerRead (n : Fin 2) (len : Byte)
  /-- PERSONALITY_CHANGE (R409): A change of PERS, SPEED or ADDR takes effect at the next bus-idle instant. -/
  | personalityChange (n : Fin 2)
  /-- CONTROLLER_EXEC (R425): TW_ACT EXEC starts a controller transfer on the port. -/
  | controllerExec (ticket : Byte) (arg : BitVec 16)
  /-- CONTROLLER_TRANSFER_END (R425): A controller transfer ends with DONE, NACK, ARBLOST, PECERR or TMO and fires source 180 + n. -/
  | controllerTransferEnd (n : Fin 2) (outcome : Fin 3) (rx : List Byte)
  /-- TW_RESET (R427): TW_ACT RESET self-resets the named port. -/
  | twReset (ticket : Byte) (arg : BitVec 16)
  /-- REQUEST (R428): TW_ACT REQUEST sets attention cause bit 4 of the port. -/
  | request (ticket : Byte) (arg : BitVec 16)
  /-- HOST_NOTIFY_RECEIVED (R430): A controller-mode port receives a Host Notify or in-band request and sets ATTNIN. -/
  | hostNotifyReceived (n : Fin 2) (inband : Bool) (addr : Byte) (data : BitVec 16)
  /-- AVS_VOLTAGE_WRITE (R434): An AVSBus voltage write frame holds or commits a rail voltage and is acknowledged. -/
  | avsVoltageWrite (n : Fin 2) (bits : AvsBits) (sel : Fin 16) (commit : Bool) (mv : BitVec 16)
  /-- AVS_VOLTAGE_READ (R433): An AVSBus voltage read returns the sensed voltage in mV. -/
  | avsVoltageRead (n : Fin 2) (bits : AvsBits) (sel : Fin 16)
  /-- AVS_TRANSITION_RATE_READ (R433): An AVSBus transition-rate read returns the slew rates. -/
  | avsTransitionRateRead (n : Fin 2) (bits : AvsBits) (sel : Fin 16)
  /-- AVS_CURRENT_READ (R433): An AVSBus current read returns I_TOT in 10 mA units. -/
  | avsCurrentRead (n : Fin 2) (bits : AvsBits) (sel : Fin 16)
  /-- AVS_TEMPERATURE_READ (R433): An AVSBus temperature read returns the stage temperature. -/
  | avsTemperatureRead (n : Fin 2) (bits : AvsBits) (sel : Fin 16)
  /-- AVS_RESET_VOLTAGE_WRITE (R433): An AVSBus reset-voltage write makes the request the rail's VBOOT. -/
  | avsResetVoltageWrite (n : Fin 2) (bits : AvsBits) (sel : Fin 16) (mv : BitVec 16)
  /-- AVS_STATUS_READ (R435): An AVSBus status read reports VDone, StatusAlert and AVSControl. -/
  | avsStatusRead (n : Fin 2) (bits : AvsBits) (sel : Fin 16)
  /-- AVS_STATUS_WRITE (R433): An AVSBus status write clears the port's StatusAlert latch. -/
  | avsStatusWrite (n : Fin 2) (bits : AvsBits) (sel : Fin 16) (clear : BitVec 16)
  /-- USB_ATTACH (R445): With EN = 1 and VBUS valid the function attaches and pulls up D+. -/
  | usbAttach
  /-- USB_DETACH (R445): VBUS invalid detaches the function, empties queues, frees gobs, releases locks and logs. -/
  | usbDetach
  /-- BUS_RESET (R445): SE0 of 2.5 us resets the function to DEFAULT and latches the endpoint set. -/
  | busReset (hs : Bool)
  /-- RESUME (R447): K in SUSPENDED starts resume and powers the USB domains up with a buffer wipe. -/
  | resume
  /-- SET_ADDRESS (R443): SET_ADDRESS moves the function to ADDRESS. -/
  | setAddress (hub : Bool) (addr : BitVec 7)
  /-- SET_CONFIGURATION (R443): SET_CONFIGURATION 1 or 0 moves the function between ADDRESS and CONFIGURED. -/
  | setConfiguration (hub : Bool) (value : Byte)
  /-- GET_STATUS (R443): GET_STATUS is answered by hardware. -/
  | getStatus (hub : Bool) (recipient : Fin 3) (index : BitVec 16)
  /-- CLEAR_FEATURE (R454): CLEAR_FEATURE ENDPOINT_HALT resets the toggle and resumes the queue. -/
  | clearFeature (hub : Bool) (recipient : Fin 3) (feature index : BitVec 16)
  /-- SET_FEATURE (R443): SET_FEATURE halts an endpoint or enters a test mode. -/
  | setFeature (hub : Bool) (recipient : Fin 3) (feature index : BitVec 16)
  /-- GET_DESCRIPTOR (R442): GET_DESCRIPTOR returns a hardware-generated descriptor. -/
  | getDescriptor (hub : Bool) (kind index : Byte) (len : BitVec 16)
  /-- GET_CONFIGURATION (R443): GET_CONFIGURATION returns the configuration value. -/
  | getConfiguration (hub : Bool)
  /-- GET_INTERFACE (R443): GET_INTERFACE returns alternate setting 0. -/
  | getInterface (hub : Bool)
  /-- SET_INTERFACE (R443): SET_INTERFACE with alternate setting 0 is accepted. -/
  | setInterface (hub : Bool) (alt : Byte)
  /-- UNSUPPORTED_REQUEST (R443): Any other EP0 request is answered STALL. -/
  | unsupportedRequest
  /-- HUB_CLASS_REQUEST (R443): The hub answers the USB 2.0 hub class requests. -/
  | hubClassRequest (reqType req : Byte) (value index len : BitVec 16)
  /-- OUT_TOKEN (R453): An OUT token allocates gobs or is answered NAK. -/
  | outToken (k : Fin 7)
  /-- OUT_DATA (R453): An OUT data packet is ACKed and queued, deduplicated by toggle or dropped on CRC error. -/
  | outData (k : Fin 7) (tog crc : Bool) (data : List Byte)
  /-- PING (R453): A PING is answered ACK if an allocation would succeed, else NAK. -/
  | ping (k : Fin 7)
  /-- IN_TOKEN (R454): An IN token sends the oldest committed packet, NAK or STALL. -/
  | inToken (k : Fin 8)
  /-- IN_ACK (R454): The host's ACK removes the IN packet, frees its gobs and toggles. -/
  | inAck (k : Fin 7)
  /-- SOF (R460): A start-of-frame packet raises event source 179. -/
  | sof (frame : BitVec 11) (uf : Fin 8)
  /-- GOB_ALLOC (R450): A read of USB_Rj_ALLOC allocates the lowest free gob or returns NONE. -/
  | gobAlloc (agent : Agent) (j : Fin 8)
  /-- GOB_RELEASE (R451): A write to USB_Rj_FREE releases a gob at the next checkpoint. -/
  | gobRelease (agent : Agent) (j : Fin 8) (gob : Byte)
  /-- IN_PUSH (R452): A write to USB_EPk_IPUSH pushes a packet chain pending commit, or is refused. -/
  | inPush (agent : Agent) (k : Fin 5) (len : BitVec 10) (gob : Byte)
  /-- OUT_TAKE (R453): A read of USB_EPk_OPOP takes the oldest OUT packet, rollback-aware. -/
  | outTake (agent : Agent) (k : Fin 5)
  /-- REGION_CONFIG (R449): A USB_Rj_CFG write sets a region or is refused with CFGREF. -/
  | regionConfig (j : Fin 8) (value : Word)
  /-- RECONNECT (R451): USB_ACT RECONNECT drops the pull-up for 10 ms, forcing a bus reset. -/
  | reconnect (ticket : Byte) (arg : BitVec 16)
  /-- MOTOR_ENABLE (R475): A write of MOTm_CTL.EN = 1 enters ALIGN or RUN, or is refused with ENREF. -/
  | motorEnable (m : Fin 4) (value : Word)
  /-- MOTOR_DISABLE (R477): A write of EN = 0 puts every motor output low and enters OFF. -/
  | motorDisable (m : Fin 4) (value : Word)
  /-- MOTOR_INERT (R477): Sink 104 + m or MOT_ACT INERT puts outputs low and enters INERT. -/
  | motorInert (m : Fin 4) (ticket : Option Byte)
  /-- MOTOR_RELEASE (R477): MOT_ACT RELEASE leaves INERT at the next period start. -/
  | motorRelease (ticket : Byte) (arg : BitVec 16)
  /-- MOTOR_CLEAR (R480): MOT_ACT CLEAR moves a motor from FAULT to OFF or is refused. -/
  | motorClear (ticket : Byte) (arg : BitVec 16)
  /-- CURRENT_PAIR_COMPLETE (R470): A completed current pair runs the d-q transform, PI controllers and modulation. -/
  | currentPairComplete (m : Fin 4) (a b : Conversion)
  /-- QUAD_SAMPLE (R482): A 4 ns quadrature sample counts Gray steps or makes PHASE or RATE present. -/
  | quadSample (f : Fin 4) (a b : QuadLine)
  /-- SINCOS_SAMPLE (R484): A sine and cosine sample pair is interpolated into the count and AMP is checked. -/
  | sincosSample (f : Fin 4) (sine cosine : BitVec 14)
  /-- INDEX_EDGE (R486): An index edge latches POS into ZCAP, may zero POS, fires 144 + 2f and checks INDEX. -/
  | indexEdge (x : IndexHigh)
  /-- SETPOS (R481): FB_ACT SETPOS sets POS and ACNT to FBf_PRESET and clears THV. -/
  | setpos (ticket : Byte) (arg : BitVec 16)
  /-- MEASUREMENT_END (R491): The integrator crosses its threshold and the transfer count is a measurement result. -/
  | measurementEnd (count : BitVec 16)
  /-- SCAN (R494): CAP_ACT SCAN requests one scan at once or holds it pending. -/
  | scan (ticket : Byte) (arg : BitVec 16)
  /-- CAPLEARN (R500): CAP_ACT LEARN or long operation 0x05 starts baseline learning for a mask. -/
  | caplearn (via : Via)
  /-- RECAL (R499): CAP_ACT RECAL resets named electrodes' baselines at their next measurement. -/
  | recal (ticket : Byte) (arg : BitVec 16)
  /-- CAP_ABORT (R499): CAP_ACT ABORT ends a running CAPLEARN ABORTED. -/
  | capAbort (ticket : Byte) (arg : BitVec 16)
  /-- BLOCKRESET (R519): PWR_ACT BLOCKRESET resets the named block or is refused with BRREF. -/
  | blockreset (ticket : Byte) (arg : BitVec 16)
  /-- POWER_ON_RESET (R521): A monitored supply below threshold for more than 1 us starts a device reset with cause POR. -/
  | powerOnReset (low : Supplies)
  /-- RESET_PIN (R515): RESET_N low for 1 us starts a device reset with cause PIN. -/
  | resetPin
  /-- PHY_SUPPLY_DROP (R521): VDD_PHY below threshold sets PHYLOW and PHYDROP, logs and the links are lost. -/
  | phySupplyDrop
  /-- SNAP (R536): LOG_ACT SNAP triggers a register snapshot. -/
  | snap (ticket : Byte) (arg : BitVec 16)
  /-- FWENTRY (R536): LOG_ACT FWENTRY requests a firmware log entry with LOG_FWDATA. -/
  | fwentry (ticket : Byte) (arg : BitVec 16)
  /-- EXTEST (R558): TAP EXTEST drives balls from the boundary register or acts as BYPASS while units run. -/
  | extest (data pins : BitVec 250)
  /-- IDCODE (R556): TAP IDCODE selects the identification register. -/
  | idcode
  /-- SAMPLE_PRELOAD (R556): TAP SAMPLE/PRELOAD captures and loads the boundary register. -/
  | samplePreload (data pins : BitVec 250)
  /-- CLAMP (R558): TAP CLAMP holds balls from the boundary register or acts as BYPASS. -/
  | clamp
  /-- HIGHZ (R558): TAP HIGHZ sets PH balls to MID and releases outputs, or acts as BYPASS. -/
  | highz
  /-- BYPASS (R556): TAP BYPASS and unlisted codes select the bypass register. -/
  | bypass (code : BitVec 5)
  /-- AUTHENTICATED_DEBUG_PORT (R556): TAP codes 0x10 to 0x1E reach the authenticated debug port. -/
  | authenticatedDebugPort (code : Fin 15) (op : DebugOp)
  /-- TAP_RESET (R563): TRST_N low or a test-logic reset resets the TAP to IDCODE and returns balls to function. -/
  | tapReset
  /-- PHY_SUPPLY_RETURN (R521): VDD_PHY rises back above its threshold, PHYLOW clears and the links may train again. -/
  | phySupplyReturn
  /-- PCIE_LINK_UP (R524): After PCIE_PERST_N rises the PCIe link trains to L0, PCIEUP sets and the function answers configuration requests. -/
  | pcieLinkUp (speed : Fin 4) (width : Fin 16)
  /-- DEBUG_SESSION_END (R399): The end of the authenticated debug session releases the mailbox locks owned by sender 6 and logs each release. -/
  | debugSessionEnd
  /-- DOWNSTREAM_REMOTE_WAKEUP (R444): A device on hub port 2 or 3 signals remote wakeup and the hub propagates it upstream, even with PD59 and PD60 off. -/
  | downstreamRemoteWakeup (port : Fin 2)
deriving DecidableEq, Repr

end Sys2Proof
end

