-- ==== Sys2Proof/Machine/State.lean ====
section
/-!
DEFINITION. Machine/State.lean: the state of the device as plain data. Every field that a register of the spec carries lives in
`regs` (INVENTORY.md lists them); the structures below hold what the spec gives each block beyond its registers.
-/
namespace Sys2Proof.Machine

/-! ## Register map -/

/-- Register contents by address: addresses strictly rising, no entry equal to the register's reset word (canonical form). -/
abbrev RegMap := List (Nat × Word)

/-- A shadow value that waits for its load (R27, R127, R187): the register, its value, the rail whose turn boundary loads it and
the loop-clock cycle in which the write completed. -/
structure Shadow where
  addr : Nat
  word : Word
  rail : Nat
  at_ : Nat
deriving DecidableEq, Repr

/-- What hardware events have done in one cycle to a register that an access can clear (R13): the register, the cycle of its block's clock,
the word from before the first event, and the word that the events alone would leave of a cleared register. -/
structure Touch where
  addr : Nat
  cyc : Nat
  before : Word
  clean : Word
deriving DecidableEq, Repr

/-! ## Clocks, device time and XIN supervision (R30 to R33) -/

/-- Clock supervision and time. -/
structure Clk where
  /-- loop-clock cycles since the device reset (model's time base, 1 ns) -/
  ns : Nat := 0
  /-- device time in 10 ns units (R30) -/
  time : BitVec 64 := 0
  /-- the first selection of XIN after the reset has happened (R33) -/
  firstSel : Bool := false
  /-- start of the running XIN qualification, in loop-clock cycles (R33) -/
  qualStart : Option Nat := none
  /-- true while a device reset holds device time (R516) -/
  held : Bool := false
  /-- cycle from which device time counts: 20 us after the start-up began (R523) -/
  timeFrom : Nat := 0
  /-- PLLs of SYS_CLKSTAT[LOOPLK, TRIOLK, PERLK] that have not locked since the reset, and the cycles in which they will (R523) -/
  lock : List (Fin 3 × Nat) := []
  /-- the cycle whose starting edge is edge 0 of the sample grid; none before the loop PLL's first lock (R79) -/
  gridT : Option Nat := none
  /-- how far the present loop-clock cycle has been worked off on empty queues (model's own field) -/
  stage : Nat := 0
deriving DecidableEq, Repr

/-! ## Angle domains, SYNC ring, compare units (spec/02_angle_domains.md) -/

/-- One angle domain. -/
structure Domain where
  /-- turn count [55:48], fraction of a turn [47:24], and 2^-24 au [23:0] (R42, R46) -/
  acc : BitVec 56 := 0
  /-- angle at the start of the present AO cycle (R62, R528) -/
  aoAcc : BitVec 56 := 0
  /-- signed ticks of the stream that the present AO cycle has gathered, in units of 2^-24 au of travel (R62) -/
  travel : Int := 0
  /-- working rate in force, 2^-24 au per loop-clock cycle; signed for an FB domain (R46, R59) -/
  rate : Int := 0
  /-- RATE_I of R52 -/
  rateI : Nat := 0
  /-- last rate committed, as FREQ or as RATEH:RATEL (R46, R48) -/
  committed : Nat := 0x346DC5D639
  /-- committed rates that wait for their turn boundary, the newest first, with the cycles of their writes: the newest, and one from before its
  cycle, which a boundary of that cycle still loads (R27, R48, R72) -/
  pendRate : List (Nat × Nat) := []
  /-- on the MASTER's domain: the rate signalled by CHANGE, in force from the next boundary (R72) -/
  ringRate : Option Nat := none
  /-- on a follower: the armed rate (R72) -/
  armed : Option Nat := none
  /-- on a follower: turn boundaries until a decoded CHANGE applies, 0 where none has been decoded, and the armed rate that it will apply (R72, R73) -/
  chgIn : Nat := 0
  chgRate : Option Nat := none
  /-- tracked rate that loads at the next turn boundary (R52, R56) -/
  nextRate : Option Nat := none
  /-- cycle in which the rate of the next turn was last fixed (R167) -/
  fixAt : Nat := 0
  /-- SRC in force; a written SRC of an enabled domain waits in the register for the next boundary (R44) -/
  src : Nat := 0
  /-- rate of the present cycle where a boundary inside it has loaded another (R42, R48) -/
  cycRate : Option Int := none
  /-- cycle and angle at which the rate last changed, and the rate before it (R52) -/
  bT : Nat := 0
  bAcc : BitVec 56 := 0
  rate0 : Int := 0
  /-- rates of the turns begun since the turn that the last accepted event marked; of the last two turns where no event is awaited (R55) -/
  turnRates : List Nat := []
  /-- time of the last accepted event, 1/64 ns, and the angle it marked (R52, R55) -/
  evT : Nat := 0
  evMark : BitVec 56 := 0
  /-- the next event is awaited: it is missing once the angle passes evMark + MULT + 1 turns + 1/4 turn (R56) -/
  awaited : Bool := false
  /-- accepted events of the present acquisition; 2 when it is complete (R53) -/
  acq : Nat := 0
  /-- consecutive accepted events with small and with large error (R54) -/
  small : Nat := 0
  large : Nat := 0
  /-- angle travelled since the entry to HOLDOVER, 2^-24 au; ns for an FB domain (R57) -/
  hold : Nat := 0
  /-- a LOST domain may acquire its reference afresh though AUTOACQ = 0 (R58) -/
  allow : Bool := false
  /-- the next turn boundary sets the turn count to 0 (R70) -/
  relabel : Bool := false
  /-- the first event after a ring change is still to come: the angle of the boundary at which the change applied (R72, R73) -/
  chgMark : Option (BitVec 56) := none
  /-- the angle that an alignment under JUMP sets at the start of the next cycle (R53) -/
  jump : Option (BitVec 56) := none
  /-- the angle that a position update gives an FB domain at the end of a cycle, and that cycle (R59) -/
  fbPos : Option (BitVec 56 × Nat) := none
deriving DecidableEq, Repr

/-- The SYNC ring port (R69 to R75). -/
structure SyncPort where
  /-- level of SYNC_OUT -/
  out : Bool := false
  /-- role in force (a written ROLE waits for SYNC_OUT low, R69) -/
  role : Nat := 0
  /-- cycle in which SYNC_OUT last rose (R69) -/
  riseT : Nat := 0
  /-- level of SYNC_IN at the ball and the time of its last edge in 1/64 ns; the cycle in which that edge will be detected, where the filter has not
  suppressed it (R70) -/
  ball : Bool := false
  ballT : Nat := 0
  detect : Option Nat := none
  /-- filtered level of SYNC_IN (R70) -/
  inLevel : Bool := false
  /-- cycle in which the last leading edge was detected (R70) -/
  leadT : Nat := 0
  /-- a pulse has been rejected as overwide; no event until SYNC_IN has returned low (R70) -/
  wait : Bool := false
  /-- class of the last pulse a MASTER sent: 0 NORMAL, 1 WRAP, 2 CHANGE, 3 CHANGE+WRAP (R69) -/
  cls : Nat := 0
  /-- edges that SYNC_OUT still has to make, with their cycles (R69) -/
  edges : List (Nat × Bool) := []
  /-- cycle of MDOM's last turn boundary, and whether its pulse has returned (R75) -/
  boundT : Option Nat := none
  returned : Bool := false
  /-- consecutive turns without a returning pulse (R75) -/
  miss : Nat := 0
  /-- the running RINGOPEN occurrence has been reported (R75) -/
  reported : Bool := false
deriving DecidableEq, Repr

/-- An angle compare unit (R64 to R67). -/
structure Acu where
  /-- the stamp is armable (R64) -/
  armable : Bool := false
  /-- a stamp written in this cycle takes over from the next cycle; the old one still stands (R67) -/
  old : Option Word := none
  /-- that stamp is armed from the next cycle, in which its LATE policy is evaluated (R67) -/
  armNext : Bool := false
  /-- the ACU has fired in this cycle: its event source fires in the next (R65) -/
  raise : Bool := false
deriving DecidableEq, Repr

/-! ## Counter units and event matrix (spec/08_counters_events.md) -/

/-- Hidden state of a counter unit. -/
structure Cu where
  /-- COUNT at the start of the AO cycle, where a write has changed it since (R223) -/
  start : Option Nat := none
  /-- a capture, a RESET and a START have reached the unit in this AO cycle (R223) -/
  capt : Bool := false
  reset : Bool := false
  go : Bool := false
  /-- the next count step is the first after a START (R228) -/
  first : Bool := false
  /-- an IMMEDIATE period written in this AO cycle, and one that applies in this cycle's count step; with each, a shadow written since it stays
  pending (R228) -/
  imm : Option (Word × Bool) := none
  immNow : Option (Word × Bool) := none
  /-- the pending PERIOD was written in this AO cycle, so it does not load in it (R227) -/
  pendNow : Bool := false
  /-- match values in force for this cycle's count step, where a write has changed them in it (R229) -/
  ma : Option Word := none
  mb : Option Word := none
  /-- AO cycle of the last count step's capture, with CUn_CAP and OVF from before it (R232) -/
  capWas : Option (Nat × Word × Bool) := none
  /-- what a read of CUn_COUNT in this AO cycle has returned so far (R221) -/
  read : Option Word := none
deriving DecidableEq, Repr

/-- One source firing with the configuration in force in its AO cycle (R236, R241). -/
structure Firing where
  cycle : Nat
  src : Nat
  chans : BitVec 32
  sinks : BitVec 128
deriving DecidableEq, Repr

/-- An EVO output (R244). -/
structure Evo where
  level : Bool := false
  /-- mode in force; a written mode waits for the output to be low -/
  toggle : Bool := false
  /-- width of the running pulse in 10 ns units -/
  width : Nat := 0
deriving DecidableEq, Repr

/-- The event matrix. -/
structure Evm where
  firings : List Firing := []
  /-- configuration words, as they stood at the start of the AO cycle, of registers written in this AO cycle (R241) -/
  old : List (Nat × Word) := []
  evo : Vector Evo 8 := Vector.replicate 8 {}
  /-- software triggers that fire in the next AO cycle (R245) -/
  sw : List (BitVec 8) := []
deriving DecidableEq, Repr

/-! ## The Lehr log (spec/20_lehr_log.md) -/

/-- A log entry (R528). -/
structure LogEntry where
  time : BitVec 64
  angle : Word
  block : Nat
  code : Nat
  data : List Byte
deriving DecidableEq, Repr

/-- The log writer: its queue, the requests of the present AO cycle, drop and lap bookkeeping (R530 to R534, R587). -/
structure LogSt where
  queue : List LogEntry := []
  /-- requests of the present AO cycle, in order of request -/
  reqs : List LogEntry := []
  /-- dropped and not yet reported entries, and the TIME of the first (R531) -/
  drops : Nat := 0
  firstDrop : BitVec 64 := 0
  /-- entries skipped since HIF's last copy (R534) -/
  skips : Nat := 0
  /-- fill of the AO cycle before the present one (R587) -/
  fill : Nat := 0
  /-- HIF copied entry HIDX in the present AO cycle (R534) -/
  copied : Bool := false
  /-- snapshots already requested in this AO cycle (R538) -/
  snapNow : List Nat := []
  /-- LOG_CTL.ADOM as it stood at the start of the present AO cycle (R529) -/
  adom : Nat := 0
deriving DecidableEq, Repr

/-! ## The Gather array (spec/03_gather.md) -/

/-- What a rotation step was started for (R82, R90). -/
inductive StepKind where
  | rotate | calslice | retire | restore
deriving DecidableEq, Repr

/-- The stage a bank's rotation step is in (R83 to R85). -/
inductive StepStage where
  | idle | shadow | recalSpare | shadowAgain | swap | calibrate
deriving DecidableEq, Repr

/-- A bank of slices: its running step and its FULLCAL (R82 to R91). -/
structure Bank where
  prevC : Nat
  stage : StepStage := .idle
  kind : StepKind := .rotate
  /-- the candidate C and the spare S of the running step -/
  cand : Nat := 0
  spare : Nat := 15
  /-- the slice that took over C's lane, 15 where none did (R91) -/
  took : Nat := 15
  /-- the swap followed a second failed compare (R84) -/
  second : Bool := false
  /-- slices a FULLCAL still has to step (R90) -/
  full : List Nat := []
  /-- NOSPARE has been reported for the running occurrence (R88) -/
  noSpare : Bool := false
  /-- the cycle in which the running stage ends (R83, R85) -/
  due : Nat := 0
  /-- the cycle in which the latest step started (R87) -/
  startAt : Option Nat := none
  /-- the shadow stage's differences S − C in LSB: their sum and how many there are (R83) -/
  sum : Int := 0
  count : Nat := 0
  /-- the latest swap: its cycle, its lane, and the slice that served the lane before (R83) -/
  swapAt : Nat := 0
  swapLane : Nat := 15
  swapOld : Nat := 15
deriving DecidableEq, Repr

/-- What a telemetry converter's present slot converts (R94, R96). -/
inductive TaUse where
  /-- no conversion -/
  | idle
  /-- the protection slot of a mux channel: 0 VIN, 1 to 4 TMON0 to TMON3 -/
  | scan (ch : Fin 5)
  /-- a sequencer's entry -/
  | seq (n : Fin 16)
deriving DecidableEq, Repr

/-- A telemetry converter: its slot, the code sampled in it, its mux channel (32 none), and a protection result that has not arrived (R94, R96). -/
structure Ta where
  use : TaUse := .idle
  code : BitVec 16 := 0
  prev : Nat := 32
  ready : Option (Fin 5) := none
deriving DecidableEq, Repr

/-- Run of saturated or below-range samples of one input, and its last valid sample (R101). -/
structure InRun where
  run : Nat := 0
  code : Int := 0
  lastValid : Option Int := none
deriving DecidableEq, Repr

/-- A sequencer (R95 to R99). -/
structure Seqr where
  /-- the next entry of the run -/
  entry : Nat := 0
  /-- the stamp is armable -/
  armable : Bool := false
  /-- the run started with this GEN -/
  gen : Nat := 0
  /-- samples of the present entry: their sum and how many there are (R96, R97) -/
  sum : Int := 0
  count : Nat := 0
  /-- the present entry holds its telemetry converter, whose input has settled in cycle `settle` (R96) -/
  own : Bool := false
  settle : Nat := 0
  /-- EN was cleared in the present entry, which ends the run (R99) -/
  stop : Bool := false
deriving DecidableEq, Repr

/-- The Gather array. -/
structure Gath where
  vbank : Bank := { prevC := 8 }
  ibank : Bank := { prevC := 8 }
  mbank : Bank := { prevC := 2 }
  /-- calibration memory, keyed by slice * 16 + item; slices V 0–8, I 9–17, M 18–20; all 0 after the wipe (R87) -/
  cal : List (Nat × Word) := []
  vsat : Vector InRun 4 := Vector.replicate 4 {}
  imon : Vector InRun 32 := Vector.replicate 32 {}
  mcur : Vector InRun 8 := Vector.replicate 8 {}
  /-- the cycle after the latest sample of each rail's merged stream and of each I-lane (R79, R80) -/
  vLast : Vector Nat 4 := Vector.replicate 4 0
  iLast : Vector Nat 8 := Vector.replicate 8 0
  /-- levels at the telemetry mux, in codes, as far as commands have given them (R94) -/
  ain : Vector (Option (BitVec 16)) 32 := Vector.replicate 32 none
  /-- the telemetry converters TA0 and TA1, and the TMON line whose turn is next (R94) -/
  ta : Vector Ta 2 := Vector.replicate 2 {}
  tmTurn : Fin 4 := 0
  /-- cycle of the last VIN result (R130, R159) -/
  vinAt : Nat := 0
  seq : Vector Seqr 16 := Vector.replicate 16 {}
deriving DecidableEq, Repr

/-! ## Long operations and posted host writes (spec/13_host_rings.md, R360, R385 to R389) -/

/-- What a host gives with LONGOP_START: the status word's address, the result buffer's address and capacity, and the MSI-X vector
it wants at the end (R383, R385, R389). -/
structure LopHost where
  status : Nat
  result : Nat
  capacity : Nat
  vec : Option Nat
deriving DecidableEq, Repr

/-- One long operation. -/
structure LongOp where
  running : Bool := false
  /-- the host's buffers, where the host started it and its writes are not suspended (R361, R386) -/
  host : Option LopHost := none
  /-- LONGOP_ABORT waits for the next stopping point (R388) -/
  abort : Bool := false
  /-- units of work planned and done, for the progress (R386) -/
  planned : Nat := 0
  done : Nat := 0
  /-- generation of the last accepted start (R386) -/
  gen : Nat := 0
deriving DecidableEq, Repr

/-- The DMA of the device, oldest first: its posted writes to host memory with their bytes, its reads with their lengths; the MSI-X messages sent; and
what the host sets in the function's configuration space (R359, R360, R364, R389). -/
structure HostOut where
  /-- MSI-X table words by index 4 v + field, an unlisted vector control word holds mask 1; pending bit array (R362, R389) -/
  table : List (Nat × Word) := []
  pba : BitVec 32 := 0
  writes : List (Nat × List Byte) := []
  vectors : List Nat := []
  reads : List (Nat × Nat) := []
  /-- MSI-X Enable and Function Mask (R389) -/
  msixOn : Bool := false
  msixMask : Bool := false
  /-- the function is in D3hot; ASPM L1 is enabled; the base address in BAR0; the uncorrectable error status of AER (R359) -/
  d3hot : Bool := false
  aspmL1 : Bool := false
  bar : BitVec 64 := 0
  aer : Word := 0
deriving DecidableEq, Repr

/-! ## Rails: phases, Marver engine, protection, edge generator (spec/04_marver.md to spec/06_edges.md) -/

/-- The state of a phase output (R161). -/
inductive PhOut where
  | mid | low | high
deriving DecidableEq, Repr

/-- One phase output. Times are in 1/64 ns from the device reset. -/
structure Phase where
  out : PhOut := .mid
  /-- the pulse's on-edge and its scheduled off-edge (R170) -/
  onT : Nat := 0
  offT : Option Nat := none
  /-- a STRETCH pulse, which later requests cannot shorten (R173) -/
  stretch : Bool := false
  /-- the next slot's pulse is committed, with the carry it uses, and as a STRETCH pulse (R173) -/
  commit : Option Nat := none
  commitStretch : Bool := false
  /-- instant at which the next slot's on-edge falls, its trim included, from the commit on (R167, R169) -/
  slotT : Option Nat := none
  /-- the on-edge commit of the present turn's slot, and of the next turn's, has taken place (R173) -/
  slotDone : Bool := false
  slotNext : Bool := false
  /-- the request of R173 found TON = 0 or short for the next slot: that crossing is R173's alone (R175) -/
  quiet : Bool := false
  /-- carry C, and the carry C_used of the present pulse, in 1/64 ns (R170, R173) -/
  carry : Nat := 0
  cUsed : Nat := 0
  /-- minimum off-time running, and its end (R172) -/
  minOff : Bool := false
  minOffT : Nat := 0
  /-- the rail that last drove the output HIGH -/
  rail : Fin 4 := 0
  /-- turns off as soon as the minimum on-time ends (R125, R181) -/
  offPending : Bool := false
  /-- goes to MID when its minimum off-time ends: shed, borrowed or held by a stop (R120, R122, R144) -/
  toMid : Bool := false
  /-- the rail whose low hold (stop, disable or inert entry) holds the phase LOW (R144) -/
  held : Option (Fin 4) := none
  /-- forced on by Glory; already forced or barred in this episode (R121, R141) -/
  forced : Bool := false
  wasForced : Bool := false
  /-- a LIMIT response of fault 2 holds the phase off for the present turn (R139) -/
  limited : Bool := false
  /-- cycle in which Glory forced the phase (R122) -/
  forcedAt : Nat := 0
  /-- fault 2 and fault 9 present on this phase (R132) -/
  oc : Bool := false
  imo : Bool := false
  /-- requested on-time and the on-time frozen at the entry to a freeze, 1/64 ns (R116, R182) -/
  ton : Nat := 0
  frozenTon : Nat := 0
  /-- balance trim, latest balance sample, latest sample (1/64 ns; 1/16 A) (R80, R117) -/
  bal : Int := 0
  ibal : Int := 0
  isamp : Int := 0
  /-- the pulse's midpoint, while its balance sample is still to come (R80) -/
  midT : Option Nat := none
  /-- returns to service at the next turn boundary of this rail (R154) -/
  restore : Option (Fin 4) := none
deriving DecidableEq, Repr

/-- A Glory episode (R121 to R123). -/
structure Glory where
  active : Bool := false
  start : Nat := 0
  /-- the position the walker reaches next -/
  pos : Nat := 0
  forced : Nat := 0
  skips : Nat := 0
  glmax : Nat := 0
  nStart : Nat := 0
  /-- turn boundaries left of the Glory hold (R123) -/
  hold : Nat := 0
deriving DecidableEq, Repr

/-- A Marver engine beyond its registers. -/
structure Mrv where
  e1 : Int := 0
  e2 : Int := 0
  e3 : Int := 0
  v1 : Int := 0
  v2 : Int := 0
  u1 : Int := 0
  /-- the next merged sample ends the wait of an action 0x01: it clears the state first (R112) -/
  clear : Bool := false
  /-- total current I_TOT and filtered current I_F, 1/16 A (R105) -/
  iTot : Int := 0
  iF : Int := 0
  /-- last valid VIN_mV (R115) and the VIN_mV of the last result (R129) -/
  vin : Option Nat := none
  vinLast : Nat := 0
  /-- MRV_VINSCL.K in force for this rail (R127) -/
  vinscl : Nat := 18000
  /-- switching period, 1/64 ns (R116) -/
  tsw64 : Nat := 80000
  /-- shed count (R119) -/
  shed : Nat := 0
  /-- latest merged sample, and whether D was 0 since the saturation run began (R132) -/
  e : Int := 0
  dZero : Bool := true
  /-- cycle and source of the last applied arrival, and what it replaced in that cycle: T, the source and the time of the next slew step (R109) -/
  arrAt : Nat := 0
  arrSrc : Option Nat := none
  arrOld : Nat × Nat × Nat × Option Nat := (0, 0, 0, none)
  /-- PREBIAS ended on its goal: the cycle from which the rail is in REG (R111) -/
  regFrom : Option Nat := none
  /-- the requests under way in the pipeline, oldest first: the cycle in which each is committed, its D, and the DMAX and the switching period
  of its sample (R103, R104) -/
  pipe : List (Nat × Nat × Nat × Nat) := []
  /-- position whose slot was most recently crossed (R121) -/
  lastPos : Nat := 0
  glory : Glory := {}
deriving DecidableEq, Repr

/-- Rail protection beyond its registers. -/
structure Prot where
  /-- cycle since which OVERSHOOT has been asserted while detector 0 acts (R132) -/
  ovSince : Option Nat := none
  /-- cycle since which every merged sample has been below the UV threshold (R132) -/
  uvSince : Option Nat := none
  uvBlank : Bool := false
  /-- consecutive results at or above, and below, the OT and OTW thresholds (R132) -/
  otHi : Nat := 0
  otLo : Nat := 0
  otwHi : Nat := 0
  otwLo : Nat := 0
  vinLo : Nat := 0
  vinHi : Nat := 0
  /-- consecutive TMON results below, and at or above, 100 mV (R159) -/
  tmLo : Nat := 0
  tmHi : Nat := 0
  /-- the conditions of R132 for faults 5 and 7 apart from the guards of R159 -/
  ot : Bool := false
  otw : Bool := false
  vin : Bool := false
  vinTmo : Bool := false
  /-- saturation signal of R101 for E = +2047 with D = 0 over the run (R132, fault 8) -/
  satPos : Bool := false
  /-- a LIMIT engaged in the present turn, and the cycle of the turn's first engagement (R142) -/
  engaged : Bool := false
  engagedAt : Nat := 0
  /-- cycle of the last stop, and whether fault 0 caused it (R144) -/
  stopAt : Nat := 0
  stopOv : Bool := false
  /-- the stop's cycle, and what it found: the engine state that its detectors saw, a LIMIT still to be declared, HCNT, the conditions present, the phases over PHOC whose response had acted, N, and whether fault 7 alone caused it (R146, R151) -/
  stopIn : Option Nat := none
  stopM : Nat := 0
  stopLim : Bool := false
  stopHcnt : Nat := 0
  stopCond : Nat := 0
  stopOc : List (Fin 32) := []
  stopN : Nat := 0
  stopVin : Bool := false
  /-- cycle and IDs of the faults declared in it (R151) -/
  declAt : Nat := 0
  declSet : Nat := 0
  /-- cycle in which a HICCUP restart is due, and in which a fault was declared in HICWAIT with response HICCUP, by fault 7 alone (R152) -/
  restartAt : Option Nat := none
  hicAt : Option Nat := none
  hicVin : Bool := false
  /-- cycle of the entry to REG (R135, R148) -/
  regAt : Nat := 0
  /-- fault 3 is limiting (R140) -/
  tocLimit : Bool := false
  /-- cycle in which PROTr_ITH or PROTr_RESP was last written: detectors 2 and 3 look again in the next (R138) -/
  limAt : Option Nat := none
  /-- cycle of the last TMON result of the rail (R159) -/
  tmonAt : Nat := 0
  /-- cycle and set of the rail's event sources raised in it: each is raised at most once a cycle (R151) -/
  evAt : Nat := 0
  evSet : Nat := 0
deriving DecidableEq, Repr

/-- An edge generator beyond its registers. -/
structure EdgeSt where
  /-- cycle of the accepted enable or restart, while ENr has still to rise (R180) -/
  enAt : Option Nat := none
  /-- cycle in which ENr rose, while the engine has still to enter PREBIAS (R180) -/
  roseAt : Option Nat := none
  /-- the engine enters PREBIAS with T held, not VBOOT (R147, R185) -/
  keepT : Bool := false
  /-- a low hold of a stop, disable or inert entry is running, and the cycle in which its last MINOFF ends (R144, R181, R184) -/
  lowHold : Bool := false
  holdUntil : Nat := 0
  /-- turn boundaries left of the freeze; 0 where only UNFREEZE or a stop ends it (R183) -/
  frzCount : Nat := 0
  /-- SYNCOFS of the present turn (R166) -/
  syncOfs : Nat := 0
deriving DecidableEq, Repr

/-! ## Parison shaping (spec/07_apram_link.md, R210 to R217) -/

/-- A forecast Parison has taken, with the values computed when it was taken (R211). Times are loop-clock cycles. -/
structure Forecast where
  seq : Nat
  de : Int
  tLoad : Nat
  tr : Nat
  tPre : Nat
  stamp : Word
  /-- the PARr parameters in force -/
  loadMode : Bool := true
  lph : Nat := 0
  ptau : Nat := 0
  appwin : Nat := 0
  unwth : Nat := 0
deriving DecidableEq, Repr

/-- A rail's Parison shaper beyond its registers. -/
structure Par where
  fc : Option Forecast := none
  pend : Option Forecast := none
  /-- NPAR has been raised for the armed episode (R212) -/
  raised : Bool := false
  /-- values fixed at the stamp crossing (R213) -/
  i0 : Int := 0
  itgt : Int := 0
  rstep : Nat := 0
  pff : Nat := 0
  gfb : Nat := 0
  /-- IREF with 16 fraction bits, and P -/
  iref : Int := 0
  p : Int := 0
  /-- the cycle after the one in which IREF last moved (R213) -/
  moved : Nat := 0
  /-- PMAXR as last derived at Basic level (R211) -/
  pmaxr : Nat := 0
deriving DecidableEq, Repr

/-! ## RINGTEST (R387) -/

/-- The running loop-gain measurement. -/
structure Ring where
  rail : Fin 4 := 0
  fstart : Nat := 0
  fstop : Nat := 0
  npts : Nat := 0
  point : Nat := 0
  amp : Nat := 0
  settle : Nat := 0
  cycles : Nat := 0
  /-- the sine added to D at the present sample, du -/
  inject : Int := 0
  /-- the present point: its frequency in Hz, the cycle it began in, and when its correlation begins, in 1/64 ns -/
  freq : Nat := 0
  since : Nat := 0
  corr : Nat := 0
  /-- correlations with the cosine and the sine at the point's frequency: of D with the injection, and of D without it -/
  aCos : Int := 0
  aSin : Int := 0
  bCos : Int := 0
  bSin : Int := 0
deriving DecidableEq, Repr

/-! ## The Apram link (spec/07_apram_link.md, R190 to R210) -/

/-- What a slot of an elastic buffer holds (R193, R196). -/
inductive AprBlk where
  | idle | frame | msg
  /-- the data block of a message, with the acceptance it has scheduled -/
  | data (c : Option Instr)
  | other
deriving DecidableEq, Repr

/-- A receive lane. -/
structure AprLane where
  /-- clock recovered while the lane is held DOWN by a RETRAIN (R199) -/
  cr : Bool := false
  /-- consecutive blocks with valid headers in HUNT (R197) -/
  good : Nat := 0
  /-- whether each of the last 64 blocks was errored, newest first (R197) -/
  hist : List Bool := []
  /-- the descrambler is valid from the second block after block lock (R192) -/
  fresh : Bool := true
  /-- the last 58 payload bits received, the newest in bit 0 (R192) -/
  scr : BitVec 58 := 0
  /-- FNUM of the last valid FRAME block (R194) -/
  fnum : Option Nat := none
  /-- the last valid FRAME blocks: FNUM and arrival time in 1/64 ns, newest first (R198) -/
  frames : List (Nat × Nat) := []
  /-- blocks since the last valid FRAME block, or since the last expected FRAME slot when FRAMED (R197) -/
  pos : Option Nat := none
  /-- consecutive expected FRAME slots without a valid FRAME block (R197) -/
  missed : Nat := 0
  /-- bytes 0 to 7 of a message whose data block must come next (R193) -/
  half : Option (List Byte) := none
  /-- the message in progress lost its MSG block to a recentre (R196) -/
  cut : Bool := false
  /-- the elastic buffer, oldest first; the fill it waits for after a recentre; the last block delivered lets an IDLE follow (R196) -/
  buf : List AprBlk := []
  refill : Nat := 4
  insertOk : Bool := false
  /-- joined to the link (R198) -/
  joined : Bool := false
  /-- FRAMED for LINKTO in ALIGN (R198) -/
  due : Bool := false
  /-- cycle in which the lane reached FRAMED (R198) -/
  framedAt : Option Nat := none
deriving DecidableEq, Repr

/-- The link beyond its registers. -/
structure Apr where
  lane : Vector AprLane 2 := Vector.replicate 2 {}
  /-- the link becomes ACTIVE at the next frame start (R198) -/
  join : Bool := false
  /-- cycle in which the link last fell to DOWN (R198) -/
  downAt : Option Nat := none
  /-- FLEN in force (R194) -/
  flen : Nat := 256
  /-- receive lanes stay DOWN until the FRAME block of a RETRAIN has been sent (R199) -/
  holdRx : Bool := false
  /-- the FRAME block that ends the hold is being sent (R199) -/
  holdSent : Bool := false
  /-- transmit lane: the next slot starts a new frame; FNUM; slot in the frame; IDLE blocks of the frame (R195, R209) -/
  newFrame : Bool := true
  txFnum : Nat := 0
  txPos : Nat := 0
  idles : Nat := 0
  /-- start of the next slot, in 1/100 ns (R191) -/
  txT : Nat := 0
  /-- second block of the message being sent -/
  second : Option (BitVec 64) := none
  /-- pending ACK; pending GAP copies with the slots each still waits and COPY; pending TELEM payloads (R209, R210) -/
  ack : Bool := false
  gaps : List (Nat × List Byte × Bool) := []
  telem : Vector (Option (List Byte)) 4 := Vector.replicate 4 none
  /-- GAPID of the last declaration, and sequences lost, saturating (R207, R210) -/
  gapid : Nat := 0
  lost : Nat := 0
  /-- transmit scrambler and the last block sent: header and payload as on the lane (R191, R192) -/
  scr : BitVec 58 := BitVec.allOnes 58
  tx : BitVec 66 := 0
deriving DecidableEq, Repr


/-! ## The Trio (spec/09_shauc_isa.md to spec/11_trio.md) -/

/-- A capability: 128 bits as R280 lays them out, and its tag. -/
structure Cap where
  tag : Bool := false
  bits : BitVec 128 := 0
deriving DecidableEq, Repr

/-- The root capability (R287). -/
def capRoot : Cap := ⟨true, 0x00000000_0000FF01_00000000_00000000#128⟩

/-- The reset value of TVEC: the boot ROM's trap entry, sealed with type 1 (R287). -/
def capBootTrap : Cap := ⟨true, 0x00000001_00010500_0001FFC0_00000040#128⟩

/-- The architectural state of the cores, which a snapshot slot holds too (R249 to R252, R287, R315). -/
structure Core where
  /-- g0 to g7; g0 reads 0 (R249) -/
  g : Vector Word 8 := Vector.replicate 8 0
  /-- the window file: locals of window w at 16w, its ins at 16w + 8 (R250) -/
  win : Vector Word 128 := Vector.replicate 128 0
  /-- the trap window by specifier − 8 (R251) -/
  tw : Vector Word 24 := Vector.replicate 24 0
  /-- c0 to c7, TC7, PCC, TEPCC and TVEC (R287, R297) -/
  c : Vector Cap 8 := (Vector.replicate 8 ({} : Cap)).set 0 capRoot |>.set 7 capRoot
  tc7 : Cap := capRoot
  pcc : Cap := capRoot
  tepcc : Cap := {}
  tvec : Cap := capBootTrap
  pc : Word := 0
  /-- special registers as RDSR reads them (R252) -/
  cwp : BitVec 3 := 0
  old : BitVec 3 := 0
  wen : Bool := true
  tcause : Word := 0
  tepc : Word := 0
  tval : Word := 0
  ie : Bool := false
  intrap : Bool := false
  /-- loop registers (R268) -/
  lsa : Vector Word 3 := Vector.replicate 3 0
  lea : Vector Word 3 := Vector.replicate 3 0
  lct : Vector Word 3 := Vector.replicate 3 0
  depth : BitVec 2 := 0
deriving DecidableEq, Repr

/-- A snapshot slot after a wipe: every bit 0 (R352). -/
def coreWiped : Core :=
  { c := Vector.replicate 8 {}, tc7 := {}, pcc := {}, tepcc := {}, tvec := {}, wen := false }

/-- An undo entry (R316). -/
structure Undo where
  old : Word
  word : Nat
  sram : Bool
  otag : Bool
  valid : Bool
deriving DecidableEq, Repr

/-- The Trio and its voter beyond registers. -/
structure TrioSt where
  core : Core := {}
  /-- the two snapshot slots and the undo log, newest entry first (R315, R316) -/
  snap : Vector Core 2 := Vector.replicate 2 coreWiped
  undo : List Undo := []
  /-- released since the last device reset or Trio-only reset (R517) -/
  run : Bool := false
  /-- a checkpoint holds the cores; whether its WFI sleeps after it; a wake has come meanwhile (R315, R322) -/
  ckpt : Bool := false
  sleepAfter : Bool := false
  wake : Bool := false
  /-- cycle in which the last checkpoint or rollback completed (R314) -/
  ckAt : Nat := 0
  /-- the cycle in which the active checkpoint was completed (R328) -/
  snapAt : Nat := 0
  /-- cycle in which the running rollback began, and its entries (R317) -/
  rbAt : Nat := 0
  rbN : Nat := 0
  /-- PD1 to PD3 are on; the snapshot must be loaded at the next wake (R322, R323) -/
  group : Bool := true
  /-- cycle in which the group, and the cores, are ready after a power-up (R323, R509) -/
  upAt : Nat := 0
  /-- a halt request that waits for the release of a rollback (R324) -/
  haltReq : Bool := false
  /-- watchdog: nanoseconds counted, and the cycle since which it counts now (R325) -/
  wdt : Nat := 0
  wdtFrom : Option Nat := none
deriving DecidableEq, Repr

/-! ## Memories (spec/12_memory_lifecycle.md) -/

/-- Tags, uncorrectable words, wipes and the scrubber (R284, R334, R336, R338). -/
structure MemSt where
  /-- tagged 16-byte granules by address; an unlisted granule has tag 0 -/
  tags : List (Nat × Bool) := []
  /-- words known to hold an uncorrectable error, by the address LCS_ECCADDR shows -/
  bad : List (Nat × Bool) := []
  /-- words that hold a single-bit error which no read has met yet (R334) -/
  soft : List (Nat × Bool) := []
  /-- banks whose wipe runs, by power domain; 59 the USB buffer -/
  wiping : List Nat := []
  /-- next word of the scrubber in each bank, as a byte offset (R336) -/
  scrub : Vector Nat 15 := Vector.replicate 15 0
  /-- the regions a runtime WIPE still has to complete, 0 to 8 (R354, R355) -/
  wipeLeft : List Nat := []
  /-- the regions selected, the cycle of the start, and an uncorrectable error read back (R355) -/
  wipeSel : Nat := 0
  wipeAt : Nat := 0
  wipeFail : Bool := false
  /-- the regions it wipes: those selected whose domain is on (R354) -/
  wipeOn : List Nat := []
deriving DecidableEq, Repr

/-- Flash, boot and one-time programmable memory (R339 to R351). -/
structure BootSt where
  /-- the flash has been changed this many times: its content is free each time (R340) -/
  epoch : Nat := 0
  /-- lines of the window's prefetch buffer, most recent first (R339) -/
  lines : List Nat := []
  /-- OTP words programmed, by word offset; an unlisted word is 0 (R346) -/
  otp : List (Nat × Word) := []
  /-- OTP operation running: words still to write (R347, R351) -/
  prog : List (Nat × Word) := []
  /-- the transition's target, and the OTP action that runs (R351) -/
  target : Option Nat := none
  action : Nat := 0
  /-- secure boot: the slot being loaded, the other slot still to try, reasons of A and B, cycle of the release (R344) -/
  slot : Option (Fin 2) := none
  next : Option (Fin 2) := none
  reason : Vector Nat 2 := Vector.replicate 2 0
  /-- the read of a slot's header has met a flash timeout (R343, R357) -/
  hdrTmo : Vector Bool 2 := Vector.replicate 2 false
  /-- reason of the slot rejected first; 0 none (R344) -/
  first : Nat := 0
  relAt : Nat := 0
  /-- boot waits for a recovery image; a checked one waits for its load (R344, R458) -/
  recovery : Bool := false
  staged : Bool := false
  /-- an image runs; the key-hash slot that verified it (R344, R348) -/
  started : Bool := false
  key : Option Nat := none
  /-- the slot a VERIFY checks (R345) -/
  vslot : Fin 2 := 0
  /-- the level of the TEST_EN ball, and production test as sampled at step 2 of start-up (R523, R563) -/
  testEn : Bool := false
  production : Bool := false
deriving DecidableEq, Repr


/-! ## Mailboxes (spec/14_mailboxes.md) -/

/-- The mailboxes beyond registers. -/
structure MbxSt where
  /-- MBk_SEND as each sender last wrote it, keyed 8k + sender ID (R401) -/
  send : List (Nat × Word) := []
  /-- mailboxes the Trio has taken since the last checkpoint (R404) -/
  taken : List Nat := []
  /-- mailboxes taken, and locks released with their owner, in an AO cycle: unit, cycle (R398, R401) -/
  took : List (Nat × Nat) := []
  freed : List (Nat × Nat × Nat) := []
  /-- locks whose LOCKTO has ended in an AO cycle: unit, owner, cycle (R401) -/
  lapsed : List (Nat × Nat × Nat) := []
  /-- the word that each reader of the last lock read has received, by sender ID (R398) -/
  answers : List (Nat × Word) := []
  /-- when each lock was won (R399) -/
  won : Vector Nat 8 := .replicate 8 0
deriving DecidableEq, Repr

/-! ## Host rings (spec/13_host_rings.md, R364 to R379) -/

/-- What a hand-off slot holds: nothing, a descriptor being fetched, one being fetched for a ring that has been disabled, one that has arrived and waits
for its checks, one handed to firmware, one firmware has taken, or a completion that waits for room (R369, R370, R372, R376, R377). -/
inductive SlotSt where
  | free | fetching | dropping | arrived | handed | taken | done
deriving DecidableEq, Repr

/-- A hand-off slot. -/
structure HSlot where
  st : SlotSt := .free
  ring : Fin 8 := 0
  /-- CI after this descriptor was fetched (R381) -/
  ci : Nat := 0
  /-- the ring was reset while firmware held the slot: its completion is discarded (R361) -/
  orphan : Bool := false
  /-- the completion that waits: STATUS, RESULT, ORIGSTAT -/
  comp : Nat × Nat × Nat := (0, 0, 0)
  /-- its tag is in the tag memory: its completion records the status there (R371, R373) -/
  tagged : Bool := false
  /-- the host buffer of a descriptor that waits for its checks; none where its read failed (R371) -/
  buf : Option (List Byte) := none
deriving DecidableEq, Repr

/-- A command ring. -/
structure HSq where
  /-- PI as the last poll returned it, and consecutive DMA failures (R368) -/
  pi : Nat := 0
  fails : Nat := 0
  /-- remembered tags: TAG, GEN, status, newest first, at most 256 (R371) -/
  tags : List (Word × Nat × Nat) := []
  /-- cycle of the last poll; a crossing waits for the minimum spacing; the stamp is armable; a STEP of 0 has fallen back to TIME (R367) -/
  pollAt : Option Nat := none
  deferred : Bool := false
  armable : Bool := true
  timeMode : Bool := false
  /-- the descriptor at CI is known to carry FENCE and is held back (R370) -/
  held : Bool := false
  /-- a fetch has failed: it is retried after the next poll (R368) -/
  retry : Bool := false
deriving DecidableEq, Repr

/-- A completion, telemetry or log ring. -/
structure HCq where
  /-- CI as last read from the consumer word, and consecutive DMA failures (R375) -/
  ci : Nat := 0
  fails : Nat := 0
  /-- cycle of the last read of the consumer word (R375) -/
  readAt : Option Nat := none
deriving DecidableEq, Repr

/-- HIF beyond registers. Rings 0 to 7 of `cq` are completion rings, 8 the telemetry ring, 9 the log ring. -/
structure HifSt where
  slot : Vector HSlot 16 := Vector.replicate 16 {}
  sq : Vector HSq 8 := Vector.replicate 8 {}
  cq : Vector HCq 10 := Vector.replicate 10 {}
  /-- slots handed and not taken, oldest first; slots taken since the last checkpoint and not posted (R372) -/
  order : List (Fin 16) := []
  taken : List (Fin 16) := []
  /-- completions that wait for room, oldest first -/
  wait : List (Fin 16) := []
  /-- the ring the arbiter served last (R369) -/
  last : Fin 8 := 7
  /-- telemetry: next sequence, dropped records, stamp armable, deferred, cycle of the last record (R378) -/
  telSeq : Nat := 0
  telDrop : Nat := 0
  telArmable : Bool := true
  telDeferred : Bool := false
  telAt : Option Nat := none
  /-- entries written to the log ring since its last vector, and to the telemetry ring (R379) -/
  irqCnt : Vector Nat 2 := Vector.replicate 2 0
  /-- a STEP of 0 of the telemetry stamp has fallen back to TIME (R378) -/
  telTime : Bool := false
deriving DecidableEq, Repr

/-! ## Two-wire ports and AVSBus (spec/15_two_wire_avs.md) -/

/-- A two-wire port. -/
structure TwPort where
  /-- PERS, SPEED and ADDR in force; written ones wait for the next bus-idle instant (R409) -/
  pers : Nat := 0
  speed : Nat := 0
  addr : Nat := 0
  /-- the write queue and the entries popped since the last checkpoint, oldest first (R421, R422) -/
  q : List Word := []
  popped : List Word := []
  /-- the bytes that the device sends: of the last read, PEC included, or of its own write as a controller (R412, R425, R430) -/
  resp : List Byte := []
  /-- the DATA in force of response-table entries whose RSPD has been written and whose RSPC has not (R416) -/
  rsp : List (Nat × Word) := []
  /-- the last transaction or its last byte was NACKed (R413) -/
  nack : Bool := false
  /-- the command code in progress or last seen (R437) -/
  cmd : Nat := 0
  /-- register pointer of the I2C personality (R424) -/
  ptr : Nat := 0
  /-- a controller transfer runs, with TWn_MCMD and the bytes written as its EXEC found them (R425) -/
  busy : Bool := false
  mcmd : Word := 0
  sent : List Byte := []
  /-- cycle of the last activity on the bus that the port has seen (R429) -/
  busAt : Option Nat := none
  /-- Host Notify attempts of the present cause, and whether one is waiting (R430) -/
  tries : Nat := 0
  notify : Bool := false
  /-- cycle until which an in-band request pulls SDA low (R429) -/
  sdaUntil : Nat := 0
  /-- a self-reset port has not yet seen the bus idle for IDLET (R427) -/
  deaf : Bool := false
deriving DecidableEq, Repr

/-- An AVSBus port: held values per rail in mV, discards since the last entry, the answer to the last frame: acknowledge code, read
data, status bits VDone, StatusAlert, AVSControl (R434, R435, R437). -/
structure AvsPort where
  held : Vector (Option Nat) 4 := Vector.replicate 4 none
  /-- values released by the last commit, on their way to the arbiters -/
  commit : Vector (Option Nat) 4 := Vector.replicate 4 none
  /-- reset voltages that are held (R433, R434) -/
  heldBoot : Vector (Option Nat) 4 := Vector.replicate 4 none
  /-- the cycle of the last frame, and the frame that answered it (R432) -/
  frameAt : Nat := 0
  resp : Word := 0
  discards : Nat := 0
  ack : Nat := 0
  data : Nat := 0
  status : Nat := 0
deriving DecidableEq, Repr

/-! ## USB (spec/16_usb.md) -/

/-- A packet and its chain of gobs. -/
structure UsbPkt where
  len : Nat
  gobs : List Nat
  /-- an IN packet that the engine may send: pushed before the last checkpoint (R451) -/
  sure : Bool := true
  /-- the bytes of a service response (R456) -/
  data : List Byte := []
deriving DecidableEq, Repr

/-- An endpoint pair; index 1 is the service engine's. -/
structure UsbEp where
  /-- EPk_CTL as latched at the last bus reset (R451) -/
  ctl : Word := 0
  outq : List UsbPkt := []
  /-- OUT packets taken since the last checkpoint (R451) -/
  taken : List UsbPkt := []
  inq : List UsbPkt := []
  /-- data toggles (R453, R454) -/
  outTog : Bool := false
  inTog : Bool := false
  /-- gobs allocated at the OUT token whose data is to come (R453) -/
  alloc : Option (List Nat) := none
  /-- ENDPOINT_HALT of each direction, set by the host (R443, R446) -/
  outHalt : Bool := false
  inHalt : Bool := false
  /-- a packet has been sent and its ACK is to come (R454) -/
  sent : Bool := false
deriving DecidableEq, Repr

/-- The USB block beyond registers. -/
structure UsbSt where
  ep : Vector UsbEp 7 := Vector.replicate 7 {}
  /-- allocated gobs (R450) -/
  used : BitVec 256 := 0
  /-- gobs the Trio allocated, and released, since the last checkpoint (R451) -/
  gets : List Nat := []
  rels : List Nat := []
  /-- the state before SUSPENDED (R445) -/
  prior : Nat := 0
  /-- VBUS valid; the pull-up is dropped by RECONNECT (R445, R451) -/
  vbus : Bool := false
  dropped : Bool := false
  /-- resume recovery: cycle of the end of resume signalling (R448) -/
  recoverAt : Nat := 0
  resumed : Bool := false
  /-- PD59 and PD60 went down with the suspension, and the packets that were lost (R447) -/
  down : Bool := false
  lost : Nat := 0
  /-- hub: address, configuration, port power, overcurrent change (R443, R444) -/
  hubAddr : Nat := 0
  hubConf : Nat := 0
  hubPower : BitVec 4 := 0
  hubOc : BitVec 4 := 0
  /-- status bits 0 to 15 and change bits 16 to 31 of hub port p, by 32 p + bit; port 0 holds the hub's own features (R443) -/
  hubFeat : List (Nat × Bool) := []
  /-- test mode of hub port p, 0 none (R441) -/
  hubTest : Vector Nat 4 := Vector.replicate 4 0
  /-- the function's answer to the last request or transaction: STALL, NAK, ACK, none, data (R443, R453) -/
  answer : Nat := 0
  resp : List Byte := []
  /-- TEST_MODE selector, 0 none (R443) -/
  test : Nat := 0
  /-- bytes of the service frame in progress; the rest of a transfer whose frame has been discarded is dropped (R456, R459) -/
  rx : List Byte := []
  skip : Bool := false
  /-- packets of EP1 IN up to the response to RECOV_BOOT (R458) -/
  bootAck : Nat := 0
deriving DecidableEq, Repr


/-! ## Power domains (spec/19_power_reset.md) -/

/-- The PWR sequencer: queued requests (domain, up), domains in power-up, end of the running slot in cycles (R508, R510). -/
structure PwrSt where
  queue : List (Nat × Bool) := []
  trans : List Nat := []
  freeAt : Nat := 0
  /-- a start-up runs: the cycle of its step 1; its reset record has been written (R518, R523) -/
  startAt : Option Nat := none
  recorded : Bool := false
  /-- PCIE_PERST_N is high and the link has been trained (R524) -/
  linkUp : Bool := false
  /-- the latched upper half of device time (SYS_TIMEL read) -/
  timeH : Word := 0
  /-- the monitored supplies below their thresholds (R521, R522) -/
  low : Supplies := {}
  /-- the words written to PWR_REQ0 and PWR_REQ1 in the present AO cycle, and the domains that a mailbox has woken in it (R506, R507, R510) -/
  want0 : Option Word := none
  want1 : Option Word := none
  woke : List Nat := []
deriving DecidableEq, Repr


/-! ## Motors and feedback channels (spec/17_motor_feedback.md) -/

/-- The pulse of one phase in the present period, in 4 ns cycles from the period start: on from `start` to `stop` before dead time, and none
where they are equal (R466, R467). -/
structure MotPulse where
  start : Nat := 0
  stop : Nat := 0
  carry : Nat := 0
  /-- the on-time in force, ON of R472 -/
  on : Nat := 0
deriving DecidableEq, Repr

/-- A motor engine beyond its registers. -/
structure Motor where
  /-- MOTm_FLT_N has been low for 1 us (R478) -/
  fltLow : Bool := false
  /-- the period in force, the cycle in which the present period started, and whether it is the first since the outputs began to switch -/
  per : Nat := 12500
  perAt : Nat := 0
  first : Bool := true
  phase : Vector MotPulse 3 := Vector.replicate 3 {}
  /-- on-times computed for the next period (R472) -/
  next : Option (Nat × Nat × Nat) := none
  /-- latched rotor angle; a current pair has been requested and is to come (R468) -/
  theta : Nat := 0
  asked : Bool := false
  /-- the cycle in which the pair asked for is complete (R468) -/
  pairAt : Nat := 0
  /-- the cycle in which the aperture of the A conversion ends and the angle is latched; none once it is (R468) -/
  apAt : Option Nat := none
  /-- the peripheral-clock cycle of the last accepted CLEAR, and the conditions present in it (R480) -/
  cleared : Option (Nat × Nat) := none
  /-- integrators of the d and q axes (R470) -/
  accD : Int := 0
  accQ : Int := 0
  /-- the cycle of the entry to ALIGN (R476) -/
  alignAt : Nat := 0
  /-- RELEASE has been asked for (R477) -/
  release : Bool := false
  /-- the cycle since which the condition of fault STALL has lasted (R478) -/
  stallFrom : Option Nat := none
deriving DecidableEq, Repr

/-- A feedback channel beyond its registers. -/
structure Fb where
  /-- the last sampled levels of A and B, and the cycle of the last counted step (R482) -/
  a : Bool := false
  b : Bool := false
  seen : Bool := false
  stepAt : Option Nat := none
  /-- the peripheral-clock cycle of the last count step and the step (R481) -/
  stepNow : Option (Nat × Word) := none
  /-- PHASE and RATE are present in this update interval (R487) -/
  phase : Bool := false
  rate : Bool := false
  /-- pairs A, B, Z whose legs disagree (R483) -/
  wire : BitVec 3 := 0
  /-- SINCOS: line, last phase and count; samples outside and inside the amplitude window in a row; AMP is present (R484, R485) -/
  line : Int := 0
  phi : Nat := 0
  count : Int := 0
  out : Nat := 0
  ok : Nat := 0
  amp : Bool := false
  /-- ACNT at the previous index (R486) -/
  zAcnt : Word := 0
deriving DecidableEq, Repr


/-! ## Capacitive sensing (spec/18_leak_sense.md) -/

/-- One electrode beyond its registers. -/
structure Electrode where
  /-- the next measurement only sets the baseline; RECAL also ends LEAK and COND (R496, R499) -/
  fresh : Bool := true
  recal : Bool := false
  /-- consecutive measurements of each condition of R496 -/
  neg : Nat := 0
  leakOn : Nat := 0
  leakOff : Nat := 0
  condOn : Nat := 0
  condOff : Nat := 0
  /-- consecutive failing and passing RAW values; a fault is present; the last count (R498) -/
  fails : Nat := 0
  passes : Nat := 0
  fault : Bool := false
  last : Nat := 0
  /-- CAPLEARN: passing values, their sum, minimum and maximum; a leak was declared (R500) -/
  n : Nat := 0
  sum : Nat := 0
  min : Nat := 0
  max : Nat := 0
  leaked : Bool := false
deriving DecidableEq, Repr

/-- The CAP block beyond registers. -/
structure CapSt where
  /-- electrodes of the running scan still to measure, the present one first; none where no scan runs (R494) -/
  scan : Option (List (Fin 16)) := none
  /-- a periodic scan has fallen due, and a SCAN request waits, while a scan runs (R494) -/
  due : Bool := false
  pend : Bool := false
  /-- measurements of the present electrode that have ended, and their sum (R493) -/
  k : Nat := 0
  sum : Nat := 0
  /-- the present measurement: the cycle of its start, the length of a transfer in ns and MAXCNT as it found them, and whether the ball has been
  sampled at the end of its discharge (R491) -/
  began : Nat := 0
  step : Nat := 0
  limit : Nat := 0
  sampled : Bool := false
  el : Vector Electrode 16 := Vector.replicate 16 {}
  /-- CAPLEARN: mask, duration in ms, and the cycle of its first scan (R500) -/
  mask : Nat := 0
  dur : Nat := 0
  from_ : Option Nat := none
deriving DecidableEq, Repr



/-! ## Test access port (spec/21_balls_signals.md, R556 to R558) -/

/-- The test access port and the authenticated debug port behind it. -/
structure Tap where
  /-- the instruction register, and what it captured as its present instruction was shifted in (R556) -/
  instr : BitVec 5 := 1
  captured : BitVec 5 := 1
  /-- the boundary register as last loaded, and the data register as captured (R557) -/
  boundary : BitVec 250 := 0
  dr : BitVec 250 := 0
  /-- a debug session is authenticated (R350) -/
  session : Bool := false
deriving DecidableEq, Repr

/-! ## The machine -/

/-- The device. -/
structure State where
  /-- registers (R11); an unlisted address holds its reset word -/
  regs : RegMap := []
  /-- values in force of shadowed registers (R27); an unlisted address holds its reset word -/
  live : RegMap := []
  /-- shadow values waiting for their load, oldest first (R27, R127) -/
  shadow : List Shadow := []
  /-- what events of the present cycle have done to registers that an access can clear (R13) -/
  touch : List Touch := []
  /-- commands waiting, first in, first out -/
  pending : List Instr := []
  /-- internal events that fall due at a loop-clock cycle (model's own field) -/
  timers : List (Nat × Instr) := []
  /-- counter of free values drawn (model's own field; its reset value is a DESIGN CHOICE, log entry 5) -/
  free : Nat := 0
  /-- data the last register read or bus response returned to its agent (model's own field) -/
  rdata : Word := 0
  /-- the last access was answered with a bus error (model's own field) -/
  busErr : Bool := false
  clk : Clk := {}
  dom : Vector Domain 8 := Vector.replicate 8 {}
  acu : Vector Acu 16 := Vector.replicate 16 {}
  sync : SyncPort := {}
  cu : Vector Cu 24 := Vector.replicate 24 {}
  evm : Evm := {}
  log : LogSt := {}
  gath : Gath := {}
  /-- device memory by byte address; an unlisted byte is 0 (R330, R353) -/
  mem : List Host.Cell := []
  lop : Vector LongOp 5 := Vector.replicate 5 {}
  out : HostOut := {}
  phase : Vector Phase 32 := Vector.replicate 32 {}
  mrv : Vector Mrv 4 := Vector.replicate 4 {}
  prot : Vector Prot 4 := Vector.replicate 4 {}
  edge : Vector EdgeSt 4 := Vector.replicate 4 {}
  par : Vector Par 4 := Vector.replicate 4 {}
  ring : Ring := {}
  apr : Apr := {}
  trio : TrioSt := {}
  mst : MemSt := {}
  boot : BootSt := {}
  /-- cycle + 1 of the last entry of each rate-limited log code (R337, R406, R437, R461) -/
  lim : List (Nat × Nat) := []
  mbx : MbxSt := {}
  hif : HifSt := {}
  tw : Vector TwPort 2 := Vector.replicate 2 {}
  avs : Vector AvsPort 2 := Vector.replicate 2 {}
  usb : UsbSt := {}
  pwr : PwrSt := {}
  mot : Vector Motor 4 := Vector.replicate 4 {}
  /-- cycle until which each M-lane is busy with current pairs (R468) -/
  mlane : Vector Nat 2 := Vector.replicate 2 0
  fb : Vector Fb 4 := Vector.replicate 4 {}
  cap : CapSt := {}
  tap : Tap := {}
deriving DecidableEq, Repr

/-- Why the machine stops with a fault. Every command of this device goes on with a next state, so no meaning raises it. -/
inductive Fault where
  /-- Raised by no meaning: the type is kept for the host's interface; safe. -/
  | none
deriving DecidableEq, Repr

/-- Why a command has no meaning. -/
inductive Refusal where
  /-- Raised by an arm of exec whose command has no meaning yet; safe. -/
  | notModelled (mnemonic : String)
deriving DecidableEq, Repr

/-- The machine right after a device reset whose cause has just ended, before start-up (R25, R516; DEDUCED, log entry 4): every register at its reset
word, every engine idle, every memory zero, no command waiting. -/
def State.reset : State := { clk := { held := true } }

end Sys2Proof.Machine
end

