-- ==== Sys2Proof/Machine/Ops.lean ====
section
/-!
DEFINITION. Machine/Ops.lean: the named operations every meaning is written with: registers and fields, shadowed registers,
ticketed actions, log requests, event firings, scheduled events, memory bytes.
-/
namespace Sys2Proof.Machine

/-- The three outcomes of a step, at this machine's types. -/
abbrev Out := Host.Outcome State Fault Refusal

/-! ## Registers (R11) -/

/-- The stored word of a register: its reset word until something else is stored. -/
def State.rd (s : State) (a : Nat) : Word := (mapFind s.regs a).getD (resetWord a)

/-- A register set to a word; bits the register does not implement stay 0 (RSV, R11). -/
def State.wr (s : State) (a : Nat) (w : Word) : State :=
  { s with regs := mapPut (resetWord a) s.regs a (w &&& implMask a) }

/-- A field's value. -/
def State.get (s : State) (f : Fld) : Nat := fldOf f (s.rd f.addr)

/-- A field's value read as a signed number. -/
def State.getI (s : State) (f : Fld) : Int := toSigned f.width (s.get f)

/-- A one-bit field. -/
def State.on (s : State) (f : Fld) : Bool := s.get f != 0

/-! ## Events and accesses of one cycle (R13) -/

/-- The cycle, of the clock that runs the block owning an address, in which a loop-clock cycle begins: AO 10 ns, Trio 4/3 ns, peripheral 4 ns, else the
loop clock (R13, spec/01_three_speeds.md, Block map). -/
def ownCycle (a ns : Nat) : Nat :=
  match a / 65536 with
  | 0x4001 | 0x4008 | 0x4009 | 0x400B | 0x400D | 0x4014 | 0x4015 => ns / 10
  | 0x400A => ns * 3 / 4
  | 0x400C | 0x400E | 0x400F | 0x4010 | 0x4011 | 0x4012 | 0x4013 | 0x4016 | 0x4017 => ns / 4
  | _ => ns

/-- The registers of GSQn_RES, whose read in the cycle of their write returns the word from before it (R97). -/
def seqResult (a : Nat) : Bool := decide (0x40031180 ≤ a ∧ a < 0x40033000 ∧ a % 0x200 / 0x80 = 3)

/-- The bits of a register that an access clears: W1C flags and RC fields (R11), and the causes of TWn_ATTN, which MFR_ATTN clears (R428). -/
def clearable (a : Nat) : Word :=
  match rowFor a with
  | some r => if a = Reg.TWn_ATTN 0 ∨ a = Reg.TWn_ATTN 1 then 0x3F else r.w1c ||| r.rc
  | none => 0

/-- A register's word with every bit that an access clears at its reset value. -/
def clearedWord (a : Nat) (w : Word) : Word := (w &&& ~~~clearable a) ||| (resetWord a &&& clearable a)

/-- What the events of the present cycle of a register's clock have done to it, where any has (R13). -/
def State.touched (s : State) (a : Nat) : Option Touch := s.touch.find? (fun t => t.addr == a && t.cyc == ownCycle a s.clk.ns)

/-- A hardware event changes a register. Where an access could clear the register, the word from before the cycle's first event and the word that
the cycle's events alone would leave are kept until the cycle ends; so are those of a sequencer's result (R13, R97). -/
def State.hw (s : State) (a : Nat) (op : Word → Word) : State :=
  { s.wr a (op (s.rd a)) with
    touch :=
      if clearable a = 0 ∧ !seqResult a then s.touch
      else
        let t := (s.touched a).getD ⟨a, ownCycle a s.clk.ns, s.rd a, clearedWord a (s.rd a)⟩
        { t with clean := op t.clean } :: s.touch.filter (fun x => x.addr != a) }

/-- A field set by hardware to a value narrowed to its width. -/
def State.put (s : State) (f : Fld) (v : Nat) : State := s.hw f.addr (fldInto f v)

/-- A field set to a signed value narrowed to its width. -/
def State.putI (s : State) (f : Fld) (v : Int) : State := s.put f (ofSigned f.width v)

/-- A field set to a truth value. -/
def State.putB (s : State) (f : Fld) (b : Bool) : State := s.put f (if b then 1 else 0)

/-- A count raised, saturating at the field's largest value. -/
def State.inc (s : State) (f : Fld) (k : Nat := 1) : State := s.hw f.addr (fun w => fldInto f (satInc f.width (fldOf f w) k) w)

/-- Bit `i` of a field. -/
def State.bit (s : State) (f : Fld) (i : Nat) : Bool := (s.get f).testBit i

/-- Bit `i` of a field set. -/
def State.setBit (s : State) (f : Fld) (i : Nat) : State := s.hw f.addr (fun w => fldInto f (fldOf f w ||| 2 ^ i) w)

/-- Bit `i` of a field set to a truth value. -/
def State.putBit (s : State) (f : Fld) (i : Nat) (b : Bool) : State :=
  if b then s.setBit f i else s.hw f.addr (fun w => fldInto f (fldOf f w - (if (fldOf f w).testBit i then 2 ^ i else 0)) w)

/-- The base of the slot an address lies in (R10). -/
def slotBase (a : Nat) : Nat := a / 65536 * 65536

/-- The EXPERT bit of the block that owns an address: bit 31 of its CTL register (R14); SYS_CTL lies at offset 4. -/
def State.expertAt (s : State) (a : Nat) : Bool :=
  (s.rd (if slotBase a = 0x40010000 then Reg.SYS_CTL else slotBase a)).getLsbD 31

/-! ## Shadowed registers (R27, R127, R187) -/

/-- The value in force of a shadowed register's field. -/
def State.lv (s : State) (f : Fld) : Nat := fldOf f ((mapFind s.live f.addr).getD (resetWord f.addr))

/-- The value in force of a shadowed signed field. -/
def State.lvI (s : State) (f : Fld) : Int := toSigned f.width (s.lv f)

/-- A shadowed register's value in force replaced. -/
def State.setLive (s : State) (a : Nat) (w : Word) : State := { s with live := mapPut (resetWord a) s.live a w }

/-- A field of a shadowed register that the device derives: the value stands in the register and is in force. -/
def State.putLive (s : State) (f : Fld) (v : Nat) : State :=
  (s.put f v).setLive f.addr (fldInto f v ((mapFind s.live f.addr).getD (resetWord f.addr)))

/-- The rails whose turn boundary loads a shadowed register: its own rail, every rail for MRV_VINSCL (R127), 5 for
EDGE_PTRIM[p], which loads at the boundary of the rail that uses it (R187); none where the register is not shadowed (DEDUCED, log entry 12). -/
def shadowRails (a : Nat) : List Nat :=
  if a = Reg.MRV_VINSCL then [0, 1, 2, 3]
  else if 0x40060080 ≤ a ∧ a < 0x40060100 then [5]
  else if 0x40060100 ≤ a ∧ a < 0x40060500 then
    (if (a - 0x40060100) % 0x100 ≤ 0x08 ∨ 0x80 ≤ (a - 0x40060100) % 0x100 then [(a - 0x40060100) / 0x100] else [])
  else if 0x40040100 ≤ a ∧ a < 0x40040500 ∨ 0x40070100 ≤ a ∧ a < 0x40070180 then
    (match rowFor a with
     | some r => if r.shadowed then [if a < 0x40050000 then (a - 0x40040100) / 0x100 else (a - 0x40070100) / 0x20] else []
     | none => [])
  else []

/-- MRVr_UPD.PEND of a rail follows whether a value is pending for it (R127). -/
def State.showPend (s : State) (r : Nat) : State :=
  s.putB (F.MRVr_UPD_PEND r) (s.shadow.any (fun p => p.rail == r))

/-- A register write that completes now: the word is stored and, for a shadowed register, waits for its load (R27, R127). -/
def State.store (s : State) (a : Nat) (w : Word) : State :=
  (shadowRails a).foldl
    (fun t r => ({ t with shadow := t.shadow ++ [⟨a, w &&& implMask a, r, t.clk.ns⟩] } : State).showPend r) (s.wr a w)

/-! ## Ticketed actions (R20 to R23) -/

/-- The word of an ACT register write. -/
def actWord (ticket : Byte) (arg : BitVec 16) (action : Byte) : Word := ticket ++ arg ++ action

/-- The ARG bits that an ACT register defines; the others are RSV. Where a register defines them action by action, an action that it does not list
has every bit that some action of it has (R20) (DESIGN CHOICE, log entry 44). -/
def argMask (a : Nat) (action : Byte) : BitVec 16 :=
  match a with
  | 0x4001000C => 0xFFFF
  | 0x4002001C | 0x400D0008 => 0x0007
  | 0x4003000C => 0x030F
  | 0x40040008 | 0x40060008 | 0x40110008 | 0x40120008 => 0x0003
  | 0x40050008 => if action = 1 ∨ action = 2 then 0x0003 else if action = 3 then 0x1F00 else 0x1F03
  | 0x40080008 => 0x001F
  | 0x40090008 | 0x40140008 => 0x00FF
  | 0x400B0008 =>
    if action = 1 then 0x0FFF else if action = 2 then 0x0007 else if action = 3 then 0x003F else if action = 4 then 0x0003 else if action = 5 then 0x01FF
    else 0x0FFF
  | 0x400C0010 => 0x000F
  | 0x400E0008 | 0x40170004 => 0x0001
  | 0x4013000C => if action = 1 ∨ action = 4 then 0x0000 else 0xFFFF
  | 0x40150008 => if action = 1 then 0x0003 else 0x7FFF
  | _ => 0x0000

/-- A write to an ACT register: ignored entirely where its nonzero ticket equals the remembered one; else the action is
performed, and the ticket, the argument's defined bits and the action are stored (R11, R20). -/
def State.act (s : State) (a : Nat) (ticket : Byte) (arg : BitVec 16) (action : Byte) (perform : State → State) : State :=
  if ticket ≠ 0 ∧ ticket = (s.rd a).extractLsb' 24 8 then s
  else (perform s).wr a (actWord ticket (arg &&& argMask a action) action)

/-! ## Scheduled events -/

/-- An internal event falls due a number of nanoseconds from now. -/
def State.after (s : State) (ns : Nat) (c : Instr) : State := { s with timers := s.timers ++ [(s.clk.ns + ns, c)] }

/-- Scheduled occurrences of an event are dropped. -/
def State.cancel (s : State) (c : Instr) : State := { s with timers := s.timers.filter (fun t => t.2 != c) }

/-- A timer is started afresh. -/
def State.restart (s : State) (ns : Nat) (c : Instr) : State := (s.cancel c).after ns c

/-- An event is scheduled. -/
def State.armed (s : State) (c : Instr) : Bool := s.timers.any (fun t => t.2 == c)

/-! ## Log requests (R528 to R531) -/

/-- The angle a log entry carries: that of domain LOG_CTL.ADOM at the start of the AO cycle; a write of ADOM acts from the next AO cycle on
(R528, R529). -/
def State.logAngle (s : State) : Word :=
  (s.dom[s.log.adom]?.getD {}).aoAcc.extractLsb' 24 32

/-- A block requests a log entry in the present AO cycle (R530). -/
def State.logReq (s : State) (block code : Nat) (data : List Byte) : State :=
  { s with log := { s.log with reqs := s.log.reqs ++ [⟨s.clk.time, s.logAngle, block, code, data⟩] } }

/-- A byte of log data from a Nat. -/
def b8 (n : Nat) : Byte := BitVec.ofNat 8 n

/-! ## Event firings (R236, R241) -/

/-- A matrix configuration word as it stood at the start of the AO cycle: a write applies to firings from the next cycle on
(R241). -/
def State.evmCfg (s : State) (a : Nat) : Word := (mapFind s.evm.old a).getD (s.rd a)

/-- The enabled channels a source feeds (R236). -/
def State.chansOf (s : State) (src : Nat) : BitVec 32 :=
  (List.range 32).foldl (fun m c =>
    if (s.evmCfg (Reg.EVM_SRCENs src)).getLsbD c && (s.evmCfg (Reg.EVM_CHc_CTL c)).getLsbD 0 then m ||| BitVec.ofNat 32 (2 ^ c) else m) 0

/-- The sinks enabled from a set of channels (R236). -/
def State.sinksOf (s : State) (chans : BitVec 32) : BitVec 128 :=
  (List.range 32).foldl (fun m c =>
    if chans.getLsbD c then
      m ||| (s.evmCfg (Reg.EVM_CHc_SNKj c 3) ++ s.evmCfg (Reg.EVM_CHc_SNKj c 2) ++ s.evmCfg (Reg.EVM_CHc_SNKj c 1) ++ s.evmCfg (Reg.EVM_CHc_SNKj c 0))
    else m) 0

/-- A source fires in the present AO cycle; a second firing in the cycle is merged and counted in EVM_FAST (R237). -/
def State.fire (s : State) (src : Nat) : State :=
  if s.evm.firings.any (fun f => f.cycle == s.clk.time.toNat && f.src == src) then s.inc F.EVM_FAST_FAST
  else
    { s with evm := { s.evm with firings := s.evm.firings ++ [⟨s.clk.time.toNat, src, s.chansOf src, s.sinksOf (s.chansOf src)⟩] } }

/-! ## Motion of an angle domain -/

/-- The travel of a domain in the present loop-clock cycle, 2^-24 au: the rate that runs in it, or the way to the angle that a position update
gives; none while disabled (R42, R43, R48, R59). -/
def State.motion (s : State) (d : Fin 8) : Int :=
  let x := s.dom[d]
  let run := (x.cycRate).getD x.rate
  if s.on (F.ANGn_CTL_EN d) then x.fbPos.elim run (fun p => if p.2 ≤ s.clk.ns then (p.1 - x.acc).toInt else run) else 0

/-! ## Free values -/

/-- The counter of free values advanced. -/
def State.draw (s : State) : State := { s with free := s.free + 1 }

/-- The free word a step draws. -/
def State.freeWord (s : State) : Word := Config.freeWord s.free

/-! ## Iteration -/

/-- A state function applied over a list in order. -/
def State.each {α : Type} (s : State) (l : List α) (f : α → State → State) : State := l.foldl (fun t x => f x t) s

/-- A state function applied where a condition holds. -/
def State.when (s : State) (c : Bool) (f : State → State) : State := if c then f s else s

/-- The four rails. -/
def rails : List (Fin 4) := [0, 1, 2, 3]

/-! ## Memory bytes (R330) -/

/-- A byte of device memory; a byte nothing has written reads 0, as the Cullet wipe leaves it (R353) (DESIGN CHOICE, log entry 7). -/
def State.byte (s : State) (a : Nat) : Byte := (mapFind s.mem a).getD 0

/-- A byte stored (DESIGN CHOICE, log entry 7). -/
def State.setByte (s : State) (a : Nat) (b : Byte) : State := { s with mem := mapPut 0 s.mem a b }

/-- `n` bytes of memory from an address, lowest first. -/
def State.bytes (s : State) (a : Nat) : Nat → List Byte
  | 0 => []
  | n + 1 => s.byte a :: s.bytes (a + 1) n

/-- Bytes stored from an address upward. -/
def State.setBytes (s : State) (a : Nat) : List Byte → State
  | [] => s
  | b :: l => (s.setByte a b).setBytes (a + 1) l

/-- A word of memory, little-endian (R9). -/
def State.memWord (s : State) (a : Nat) : Word := wordOfBytes (s.bytes a 4)

/-- A word stored, little-endian (R9). -/
def State.setMemWord (s : State) (a : Nat) (w : Word) : State := s.setBytes a (bytesOfWord w)

end Sys2Proof.Machine
end

