-- ==== Sys2Proof/Machine/Flags.lean ====
section
/-!
DEFINITION. Machine/Flags.lean: the arithmetic of the Shauc-32 register and immediate instructions (R258 to R260). The cores hold no
flags register: comparisons write 0 or 1 to a register.
-/
namespace Sys2Proof.Machine

/-- A comparison's result (R258). -/
def boolWord (b : Bool) : Word := if b then 1 else 0

/-- Signed and unsigned less-than (R258). -/
def sltW (a b : Word) : Word := boolWord (decide (a.toInt < b.toInt))
def sltuW (a b : Word) : Word := boolWord (decide (a.toNat < b.toNat))

/-- Signed and unsigned minimum and maximum (R258). -/
def minW (a b : Word) : Word := if a.toInt < b.toInt then a else b
def maxW (a b : Word) : Word := if a.toInt < b.toInt then b else a
def minuW (a b : Word) : Word := if a.toNat < b.toNat then a else b
def maxuW (a b : Word) : Word := if a.toNat < b.toNat then b else a

/-- Shifts by 0 to 31 (R258). -/
def sllW (a : Word) (n : Nat) : Word := a <<< n
def srlW (a : Word) (n : Nat) : Word := a >>> n
def sraW (a : Word) (n : Nat) : Word := a.sshiftRight n

/-- Clamp to [−2^n, 2^n − 1], signed (R258). -/
def satW (a : Word) (n : Nat) : Word := BitVec.ofInt 32 (clampInt a.toInt (-(2 ^ n)) (2 ^ n - 1))

/-- The halves of the 64-bit product (R258). -/
def mulW (a b : Word) : Word := a * b
def mulhW (a b : Word) : Word := BitVec.ofInt 32 ((a.toInt * b.toInt).fdiv (2 ^ 32))
def mulhuW (a b : Word) : Word := BitVec.ofNat 32 (a.toNat * b.toNat / 2 ^ 32)

/-- Division rounded toward zero; by 0 all ones, and the overflow wraps (R258, R259). -/
def divW (a b : Word) : Word := if b = 0 then BitVec.allOnes 32 else BitVec.ofInt 32 (a.toInt.tdiv b.toInt)
def divuW (a b : Word) : Word := if b = 0 then BitVec.allOnes 32 else BitVec.ofNat 32 (a.toNat / b.toNat)

/-- Remainder with the sign of the dividend; by 0 the dividend (R258, R259). -/
def remW (a b : Word) : Word := if b = 0 then a else BitVec.ofInt 32 (a.toInt.tmod b.toInt)
def remuW (a b : Word) : Word := if b = 0 then a else BitVec.ofNat 32 (a.toNat % b.toNat)

end Sys2Proof.Machine
end

