-- ==== Sys2Proof/Machine/Operands.lean ====
section
/-!
DEFINITION. Machine/Operands.lean: the fields of Shauc-32 instruction words and what they name: integer registers, capability registers,
special registers (spec/09_shauc_isa.md, R249 to R251, R257; spec/10_capabilities_traps.md, R280 to R283, R297).
-/
namespace Sys2Proof.Machine

/-! ## Fields of an instruction word (R257) -/

def fOp (w : Word) : Nat := (w.extractLsb' 26 6).toNat
def fRd (w : Word) : Nat := (w.extractLsb' 21 5).toNat
def fRs1 (w : Word) : Nat := (w.extractLsb' 16 5).toNat
def fRs2 (w : Word) : Nat := (w.extractLsb' 11 5).toNat
def fFn11 (w : Word) : Nat := (w.extractLsb' 0 11).toNat
/-- imm16 zero-extended and sign-extended. -/
def fImmZ (w : Word) : Word := (w.extractLsb' 0 16).zeroExtend 32
def fImmS (w : Word) : Word := (w.extractLsb' 0 16).signExtend 32
/-- Format M: the capability register and simm13. -/
def fCN (w : Word) : Nat := (w.extractLsb' 13 3).toNat
def fImm13 (w : Word) : Word := (w.extractLsb' 0 13).signExtend 32
/-- Format B: rs1 and rs2. -/
def fBs1 (w : Word) : Nat := fRd w
def fBs2 (w : Word) : Nat := fRs1 w
/-- Word offsets, in bytes. -/
def fOff16 (w : Word) : Word := fImmS w <<< 2
def fOff26 (w : Word) : Word := ((w.extractLsb' 0 26).signExtend 32) <<< 2
/-- Format L. -/
def fCount10 (w : Word) : Nat := (w.extractLsb' 16 10).toNat
def fEnd (w : Word) : Word := (fImmZ w) <<< 2
/-- Format S: special register, fn; the data capability of WSPILL and WFILL. -/
def fSr (w : Word) : Nat := (w.extractLsb' 6 7).toNat
def fFn6 (w : Word) : Nat := (w.extractLsb' 0 6).toNat
def fCd (w : Word) : Nat := (w.extractLsb' 21 3).toNat
/-- cS of a format S instruction. -/
def fCSs (w : Word) : Nat := (w.extractLsb' 13 3).toNat
/-- Format C. -/
def fCs1 (w : Word) : Nat := (w.extractLsb' 13 3).toNat
def fCs2 (w : Word) : Nat := (w.extractLsb' 10 3).toNat
def fCSc (w : Word) : Nat := (w.extractLsb' 7 3).toNat

/-! ## Integer registers (R249 to R251) -/

/-- Locals and ins of a window in the window file (R250). -/
def winLocal (w k : Nat) : Fin 128 := Fin.ofNat 128 (w % 8 * 16 + k % 8)
def winIn (w k : Nat) : Fin 128 := Fin.ofNat 128 (w % 8 * 16 + 8 + k % 8)

/-- The physical register that a specifier from 8 to 31 names in the current window (R249, R250). -/
def winReg (cwp : BitVec 3) (k : Nat) : Fin 128 :=
  if k < 16 then winIn (cwp.toNat + 1) k else if k < 24 then winLocal cwp.toNat k else winIn cwp.toNat k

/-- A register read: g0 is 0, the trap window's registers while INTRAP = 1 (R249, R251). -/
def Core.reg (c : Core) (k : Nat) : Word :=
  if k = 0 then 0
  else if k < 8 then c.g[Fin.ofNat 8 k]
  else if c.intrap then c.tw[Fin.ofNat 24 (k - 8)]
  else c.win[winReg c.cwp k]

/-- A register write: to g0 discarded (R249). -/
def Core.setReg (c : Core) (k : Nat) (v : Word) : Core :=
  if k = 0 then c
  else if k < 8 then { c with g := updAt c.g (Fin.ofNat 8 k) (fun _ => v) }
  else if c.intrap then { c with tw := updAt c.tw (Fin.ofNat 24 (k - 8)) (fun _ => v) }
  else { c with win := updAt c.win (winReg c.cwp k) (fun _ => v) }

/-! ## Capabilities (R280 to R283, R297) -/

def Cap.base (c : Cap) : Nat := (c.bits.extractLsb' 0 32).toNat
def Cap.len (c : Cap) : Nat := (c.bits.extractLsb' 32 33).toNat
def Cap.perm (c : Cap) : BitVec 8 := c.bits.extractLsb' 72 8
def Cap.otype (c : Cap) : Nat := (c.bits.extractLsb' 80 16).toNat
def Cap.isSealed (c : Cap) : Bool := c.bits.getLsbD 96

/-- Permission bits (R281). -/
def pLOAD : Nat := 0
def pSTORE : Nat := 1
def pEXEC : Nat := 2
def pLOADCAP : Nat := 3
def pSTORECAP : Nat := 4
def pSEAL : Nat := 5
def pUNSEAL : Nat := 6
def pSYS : Nat := 7

def Cap.has (c : Cap) (p : Nat) : Bool := c.perm.getLsbD p

/-- An access of `n` bytes lies within the capability (R283). -/
def Cap.covers (c : Cap) (a n : Nat) : Bool := decide (c.base ≤ a) && decide (a + n ≤ c.base + c.len)

/-- The capability with a field replaced: `n` bits at `lo`. -/
def Cap.putBits (c : Cap) (lo n v : Nat) : Cap :=
  { c with bits := (c.bits &&& ~~~(BitVec.ofNat 128 ((2 ^ n - 1) * 2 ^ lo))) ||| BitVec.ofNat 128 (v % 2 ^ n * 2 ^ lo) }

def Cap.setBase (c : Cap) (v : Nat) : Cap := c.putBits 0 32 v
def Cap.setLen (c : Cap) (v : Nat) : Cap := c.putBits 32 33 v
def Cap.setPerm (c : Cap) (v : Nat) : Cap := c.putBits 72 8 v

/-- The capability sealed with a type, and unsealed (R280, R291). -/
def Cap.sealed (c : Cap) (t : Nat) : Cap := (c.putBits 80 16 t).putBits 96 1 1
def Cap.unsealed (c : Cap) : Cap := (c.putBits 80 16 0).putBits 96 1 0

/-- The conditions that a tagged capability always satisfies (R282). -/
def Cap.wf (c : Cap) : Bool :=
  !c.tag || (decide (c.base + c.len ≤ 2 ^ 32) && c.bits.extractLsb' 65 7 == 0 && c.bits.extractLsb' 97 31 == 0 &&
    ((c.otype == 0) == !c.isSealed))

/-- The capability register a specifier names: TC7 for 7 in the trap window (R297). -/
def Core.cap (c : Core) (n : Nat) : Cap := if n = 7 ∧ c.intrap then c.tc7 else c.c[Fin.ofNat 8 n]
def Core.setCap (c : Core) (n : Nat) (v : Cap) : Core :=
  if n = 7 ∧ c.intrap then { c with tc7 := v } else { c with c := updAt c.c (Fin.ofNat 8 n) (fun _ => v) }

/-! ## Special registers (R274) -/

/-- Loop level and register of a special register number from 0x08 to 0x13: 0 LSA, 1 LEA, 2 LCT; each level has four numbers. -/
def srLoop (sr : Nat) : Option (Fin 3 × Fin 3) :=
  if 8 ≤ sr ∧ sr < 20 ∧ (sr - 8) % 4 < 3 then some (Fin.ofNat 3 ((sr - 8) / 4), Fin.ofNat 3 ((sr - 8) % 4)) else none

/-- The special register number is listed (R274). -/
def srListed (sr : Nat) : Bool := decide (sr ≤ 5) || (srLoop sr).isSome || sr == 0x14

/-- A special register as RDSR reads it. -/
def Core.sr (c : Core) (sr : Nat) : Word :=
  match sr with
  | 0 => c.cwp.zeroExtend 32
  | 1 => (boolWord c.wen <<< 8) ||| c.old.zeroExtend 32
  | 2 => c.tcause
  | 3 => c.tepc
  | 4 => c.tval
  | 5 => (boolWord c.ie <<< 1) ||| boolWord c.intrap
  | 0x14 => c.depth.zeroExtend 32
  | n =>
    match srLoop n with
    | some (l, 0) => c.lsa[l]
    | some (l, 1) => c.lea[l]
    | some (l, _) => c.lct[l]
    | none => 0

/-- A special register written in its writable fields (R274). -/
def Core.setSr (c : Core) (sr : Nat) (v : Word) : Core :=
  match sr with
  | 0 => { c with cwp := v.extractLsb' 0 3 }
  | 1 => { c with wen := v.getLsbD 8, old := v.extractLsb' 0 3 }
  | 2 => { c with tcause := v &&& 0x1FFF }
  | 3 => { c with tepc := v &&& 0xFFFFFFFC }
  | 4 => { c with tval := v }
  | 5 => { c with ie := v.getLsbD 1 }
  | 0x14 => { c with depth := v.extractLsb' 0 2 }
  | n =>
    match srLoop n with
    | some (l, 0) => { c with lsa := updAt c.lsa l (fun _ => v &&& 0xFFFFFFFC) }
    | some (l, 1) => { c with lea := updAt c.lea l (fun _ => v &&& 0xFFFFFFFC) }
    | some (l, _) => { c with lct := updAt c.lct l (fun _ => v) }
    | none => c

end Sys2Proof.Machine
end

