-- ==== Sys2Proof/Decode.lean ====
section
/-!
DEFINITION. Decode.lean: the decoder of Shauc-32 instruction words (spec/09_shauc_isa.md, R257, R258, R260, R261, R264, R265, R268, R273,
R275 to R277): every word is the command of one instruction, of a defined-illegal word or of a reserved encoding. The rows of the opcode table
carry no bits of their own, so `decodeTableWord` answers none.
-/
namespace Sys2Proof

open Sys2Proof.Machine

/-- The command that a word of the opcode table's bits spells: the table gives its rows no bits (DEDUCED, log entry 4). -/
def decodeTableWord (_nbits _w : Nat) : Option Instr := none

/-- The register ALU instructions by fn (R258). -/
def decodeAlu (w : Word) : Instr :=
  match fFn11 w with
  | 0x000 => .add w
  | 0x001 => .sub w
  | 0x002 => .and_ w
  | 0x003 => .or_ w
  | 0x004 => .xor w
  | 0x005 => .sll w
  | 0x006 => .srl w
  | 0x007 => .sra w
  | 0x008 => .slt w
  | 0x009 => .sltu w
  | 0x00A => .min w
  | 0x00B => .max w
  | 0x00C => .minu w
  | 0x00D => .maxu w
  | 0x010 => .slli w
  | 0x011 => .srli w
  | 0x012 => .srai w
  | 0x013 => .sati w
  | 0x020 => .mul w
  | 0x021 => .mulh w
  | 0x022 => .mulhu w
  | 0x023 => .madd w
  | 0x024 => .msub w
  | 0x028 => .div w
  | 0x029 => .divu w
  | 0x02A => .rem w
  | 0x02B => .remu w
  | _ => .reservedEncoding w

/-- The system instructions by fn; RDSR and WRSR name a listed special register (R273, R274). -/
def decodeSystem (w : Word) : Instr :=
  match fFn6 w with
  | 0x00 => if srListed (fSr w) then .rdsr w else .reservedEncoding w
  | 0x01 => if srListed (fSr w) then .wrsr w else .reservedEncoding w
  | 0x02 => .trap w
  | 0x03 => .bkpt w
  | 0x04 => .tret w
  | 0x05 => .wfi w
  | 0x06 => .ckpt w
  | 0x07 => .wspill w
  | 0x08 => .wfill w
  | _ => .reservedEncoding w

/-- The capability instructions by fn; bit 6 is 0, and bits 25:24 are 0 where [23:21] names a capability register (R257, R275). -/
def decodeCap (w : Word) : Instr :=
  let cd := fun (i : Instr) => if w.extractLsb' 24 2 = 0 then i else .reservedEncoding w
  if w.getLsbD 6 then .reservedEncoding w
  else
    match fFn6 w with
    | 0x00 => cd (.acpy w)
    | 0x01 => .ardbase w
    | 0x02 => .ardlen w
    | 0x03 => .ardperm w
    | 0x04 => .ardtype w
    | 0x05 => .ardtag w
    | 0x08 => cd (.atrimlo w)
    | 0x09 => cd (.atrimlen w)
    | 0x0A => cd (.amask w)
    | 0x0B => cd (.avoid w)
    | 0x0C => cd (.alock w)
    | 0x0D => cd (.aunlock w)
    | 0x0E => .awithin w
    | 0x10 => cd (.ajump w)
    | 0x11 => cd (.aenter w)
    | 0x12 => cd (.ardpcc w)
    | 0x18 => cd (.ardspc w)
    | 0x19 => cd (.awrspc w)
    | _ => .reservedEncoding w

/-- The command of an instruction word: by op, fn and the fields that must hold 0 (R257, R276, R277) (DEDUCED, log entry 4). -/
def shaucDecode (w : Word) : Instr :=
  let zero := fun (lo n : Nat) (i : Instr) => if (w.extractLsb' lo n) = 0 then i else .reservedEncoding w
  if w = 0 ∨ w = BitVec.allOnes 32 then .definedIllegal w
  else
    match fOp w with
    | 0x01 => decodeAlu w
    | 0x02 => .addi w
    | 0x03 => .andi w
    | 0x04 => .ori w
    | 0x05 => .xori w
    | 0x06 => .slti w
    | 0x07 => .sltiu w
    | 0x08 => zero 16 5 (.lui w)
    | 0x10 => .ldw w
    | 0x11 => .ldh w
    | 0x12 => .ldhu w
    | 0x13 => .ldb w
    | 0x14 => .ldbu w
    | 0x15 => .stw w
    | 0x16 => .sth w
    | 0x17 => .stb w
    | 0x18 => zero 24 2 (.ldc w)
    | 0x19 => zero 24 2 (.stc w)
    | 0x20 => .beq w
    | 0x21 => .bne w
    | 0x22 => .blt w
    | 0x23 => .bge w
    | 0x24 => .bltu w
    | 0x25 => .bgeu w
    | 0x28 => .j w
    | 0x29 => .call w
    | 0x2A => .jmpl w
    | 0x2C => .wopen w
    | 0x2D => .wclose w
    | 0x30 => if w.extractLsb' 0 16 = 0 then .reservedEncoding w else zero 16 5 (.loop w)
    | 0x31 => if w.extractLsb' 0 16 = 0 then .reservedEncoding w else .loopi w
    | 0x38 => decodeSystem w
    | 0x3A => decodeCap w
    | _ => .reservedEncoding w

end Sys2Proof
end

