-- ==== Sys2Proof/Machine/Attn.lean ====
section
/-!
DEFINITION. Machine/Attn.lean: the attention causes of the two-wire ports and the alert latches of the AVSBus ports, which other blocks
set (spec/15_two_wire_avs.md, R428, R435).
-/
namespace Sys2Proof.Machine

/-- A two-wire port's hidden state replaced. -/
def twUpd (n : Fin 2) (f : TwPort → TwPort) (s : State) : State := { s with tw := updAt s.tw n f }

/-- The two-wire and AVSBus ports are powered: PD61 (R511). -/
def twOn (s : State) : Bool := s.bit F.PWR_ON1_ON 29

/-- The attention causes that are pending: set and enabled (R428). -/
def twPending (n : Fin 2) (s : State) : Nat := s.get (F.TWn_ATTN_CAUSE n) &&& s.get (F.TWn_ATTNEN_EN n)

/-- Nanoseconds until the bus has been idle for IDLET, 50 us (R409, R429) (DEDUCED, log entry 35). -/
def idleLeft (n : Fin 2) (s : State) : Nat := match s.tw[n].busAt with | some t => t + 50000 - s.clk.ns | none => 0

/-- The port listens to its bus: a self-reset port does so again once the bus has been idle for IDLET (R427) (DESIGN CHOICE, log entry 65). -/
def twHears (n : Fin 2) (s : State) : Bool := twOn s && !(s.tw[n].deaf && idleLeft n s != 0)

/-- A cause has become pending: in INBAND mode a request at the next idle, unless one is being made; in NOTIFY mode a Host Notify (R429, R430). -/
def attnKick (n : Fin 2) (s : State) : State :=
  match s.get (F.TWn_CTL_ATTNMODE n) with
  | 1 => if s.tw[n].sdaUntil ≤ s.clk.ns then s.restart (idleLeft n s) (.inbandRequest n false) else s
  | 2 => twUpd n (fun p => { p with notify := true, tries := 0 }) s
  | _ => s

/-- A cause is set; a new pending one is signalled (R428). -/
def twCause (n : Fin 2) (bit : Nat) (s : State) : State :=
  if !twOn s then s
  else
    let s1 := s.setBit (F.TWn_ATTN_CAUSE n) bit
    if twPending n s1 = twPending n s then s1 else attnKick n s1

/-- A new declaration on a rail: both ports' cause of that rail, and the alert latch of the AVSBus port that serves it (R428, R435). -/
def railAttn (r : Fin 4) (s : State) : State :=
  let s1 := twCause 1 r (twCause 0 r s)
  s1.each [0, 1] (fun n t => if twOn t && t.bit (F.AVSn_CTL_RAILEN n) r then t.put (F.AVSn_STAT_ALERT n) 1 else t)

end Sys2Proof.Machine
end

