-- ==== Sys2Proof/Machine/LongOp.lean ====
section
/-!
DEFINITION. Machine/LongOp.lean: what every long operation shares (spec/13_host_rings.md, R385 to R390): its start, its records, its
status word and its end. Operation k has op code k + 1.
-/
namespace Sys2Proof.Machine

/-- The device posts a write to host memory; in D3hot it makes no request (R359, R360) (PRESUMED, log entry 72). -/
def State.postWrite (s : State) (a : Nat) (d : List Byte) : State :=
  if s.out.d3hot then s else { s with out := { s.out with writes := s.out.writes ++ [(a, d)] } }

/-- The device issues a read of host memory (R364, R367). -/
def State.postRead (s : State) (a n : Nat) : State :=
  if s.out.d3hot then s else { s with out := { s.out with reads := s.out.reads ++ [(a, n)] } }

/-- A word of the MSI-X table; the mask bit of a vector is 1 until it is written (R362) (PRESUMED, log entry 61). -/
def State.msixWord (s : State) (i : Nat) : Word := (mapFind s.out.table i).getD (if i % 4 = 3 then 1 else 0)

/-- The message of a vector goes out: its data is written to its address. -/
def State.msixSend (s : State) (v : Nat) : State :=
  let s1 := s.postWrite ((s.msixWord (4 * v)).toNat + 2 ^ 32 * (s.msixWord (4 * v + 1)).toNat) (bytesOfWord (s.msixWord (4 * v + 2)))
  { s1 with out := { s1.out with vectors := s1.out.vectors ++ [v] } }

/-- A vector is masked: by its own mask bit, by Function Mask, or in D3hot (R389)
(PRESUMED, log entry 61; PRESUMED, log entry 72). -/
def State.msixShut (s : State) (v : Nat) : Bool := (s.msixWord (4 * v + 3)).getLsbD 0 || s.out.msixMask || s.out.d3hot

/-- The device sends an MSI-X vector while MSI-X is enabled: a masked one becomes pending, and merges with one that is pending (R389)
(PRESUMED, log entry 61). -/
def State.sendVector (s : State) (v : Nat) : State :=
  if !s.out.msixOn then s
  else if s.msixShut v then { s with out := { s.out with pba := s.out.pba ||| BitVec.ofNat 32 (2 ^ v) } }
  else s.msixSend v

/-- A vector that is pending and no longer masked is sent. -/
def State.msixLate (s : State) (v : Nat) : State :=
  if s.out.msixOn && !s.msixShut v && s.out.pba.getLsbD v then
    ({ s with out := { s.out with pba := s.out.pba &&& ~~~(BitVec.ofNat 32 (2 ^ v)) } } : State).msixSend v
  else s

/-- A host write to the MSI-X table; a vector unmasked while pending is sent (PRESUMED, log entry 61). -/
def State.msixWrite (s : State) (i : Nat) (w : Word) : State :=
  ({ s with out := { s.out with table := mapPut (if i % 4 = 3 then 1 else 0) s.out.table i w } } : State).msixLate (i / 4)

/-- A long operation's bookkeeping replaced. -/
def State.lopUpd (s : State) (k : Fin 5) (f : LongOp → LongOp) : State := { s with lop := updAt s.lop k f }

/-- STATE codes of the status word (R386). -/
def lopRUNNING : Nat := 1
def lopDONE : Nat := 2
def lopFAILED : Nat := 3
def lopABORTED : Nat := 4

/-- Records already counted in the status word (R386). -/
def lopCount (k : Fin 5) (s : State) : Nat := (s.rd (Reg.HIF_LOPk_STATL k)).toNat / 65536

/-- The words that a runtime wipe has written by now: in every region at once four a cycle of AO after 64 of set-up (R352, R355). -/
def wipedWords (s : State) : Nat :=
  (s.mst.wipeOn.map (fun i => min (if i = 8 then 4096 else 65536) (4 * ((s.clk.ns - s.mst.wipeAt) / 10 - 64)))).sum

/-- The work done by now: words of a WIPE, milliseconds of a CAPLEARN, else the points, slots or steps that have ended (R355, R386, R500). -/
def lopDone (k : Fin 5) (s : State) : Nat :=
  if k = 1 then wipedWords s
  else match s.cap.from_ with
    | some t => if k = 4 then min s.lop[k].planned ((s.clk.ns - t) / 1000000) else s.lop[k].done
    | none => s.lop[k].done

/-- The progress of the operation in 1/65 536, at most 65 535 (R386). -/
def lopProgress (k : Fin 5) (s : State) : Nat :=
  if s.lop[k].planned = 0 then 0 else min 65535 (lopDone k s * 65536 / s.lop[k].planned)

/-- The high half of a status word that shows the progress by now while the operation runs (R355, R500). -/
def lopShow (k : Fin 5) (hi : Word) (s : State) : Word :=
  if s.lop[k].running then (hi &&& 0xFFFF0000) ||| BitVec.ofNat 32 (lopProgress k s) else hi

/-- The status words that the owning block shows: LCS_WSTAT for WIPE, CRYPTO_VSTAT for VERIFY, CAP_LSTAT for CAPLEARN. -/
def lopMirror (k : Fin 5) (lo hi : Word) (s : State) : State :=
  if k = 1 then (s.wr Reg.LCS_WSTATL lo).wr Reg.LCS_WSTATH hi
  else if k = 2 then (s.wr Reg.CRYPTO_VSTATL lo).wr Reg.CRYPTO_VSTATH hi
  else if k = 4 then (s.wr Reg.CAP_LSTATL lo).wr Reg.CAP_LSTATH hi
  else s

/-- The status word with a progress is formed, kept in HIF_LOPk and the owning block, and written to host memory for a host-started
operation as one 8-byte write (R386). -/
def lopWord (k : Fin 5) (state count progress : Nat) (s : State) : State :=
  let lo : Word := BitVec.ofNat 32 (s.lop[k].gen % 65536 + 65536 * (count % 65536))
  let hi : Word := BitVec.ofNat 32 (progress + 65536 * (k.val + 1) + 16777216 * state)
  let s1 := lopMirror k lo hi ((s.wr (Reg.HIF_LOPk_STATL k) lo).wr (Reg.HIF_LOPk_STATH k) hi)
  match s.lop[k].host with
  | some h => s1.postWrite h.status (bytesOfWord lo ++ bytesOfWord hi)
  | none => s1

/-- The status word with the progress by now (R386). -/
def lopStatus (k : Fin 5) (state count : Nat) (s : State) : State := lopWord k state count (lopProgress k s) s

/-- A start is accepted: the generation steps by one, from 0xFFFF to 1, and the status word reads RUNNING; the host's is written again within 1 ms
(R386). -/
def lopStart (k : Fin 5) (h : Option LopHost) (planned : Nat) (s : State) : State :=
  lopWord k lopRUNNING 0 0 ((s.when h.isSome (fun t => t.restart 1000000 (.statusWordWrite k))).lopUpd k (fun l =>
    { l with running := true, host := h, abort := false, planned := planned, done := 0, gen := if 65535 ≤ l.gen then 1 else l.gen + 1 }))

/-- A record is written to the result buffer before the status word that counts it (R360, R386). -/
def lopRecord (k : Fin 5) (size : Nat) (d : List Byte) (s : State) : State :=
  let n := lopCount k s
  let s1 := match s.lop[k].host with
    | some h => s.postWrite (h.result + n * size) (d ++ List.replicate (size - d.length) 0)
    | none => s
  lopStatus k lopRUNNING (n + 1) s1

/-- One unit of the planned work is done; the status word follows (R386). -/
def lopAdvance (k : Fin 5) (by_ : Nat) (s : State) : State :=
  lopStatus k lopRUNNING (lopCount k s) (s.lopUpd k (fun l => { l with done := l.done + by_ }))

/-- The operation ends: the final status word, log code 0x0003 of block 0x0C and, where the host asked for it, its vector (R386,
R389, R390). -/
def lopEnd (k : Fin 5) (state : Nat) (s : State) : State :=
  let n := lopCount k s
  let s1 := (lopStatus k state n s).logReq 0x0C 0x0003 ([b8 (k.val + 1), b8 state] ++ bytesOfNat 2 s.lop[k].gen ++ bytesOfNat 2 n)
  let s2 := match s.lop[k].host with
    | some h => (match h.vec with | some v => s1.sendVector v | none => s1)
    | none => s1
  (s2.cancel (.statusWordWrite k)).lopUpd k (fun l => { l with running := false, host := none, abort := false })

/-- The host's result capacity holds the most records the operation can yield (R385). -/
def lopFits (h : Option LopHost) (records size : Nat) : Bool :=
  match h with
  | none => true
  | some x => records * size ≤ x.capacity

/-! ## Host descriptors (R380) -/

/-- Word `i` of the descriptor in a hand-off slot (R371, R380). -/
def descW (slot : Fin 16) (i : Nat) (s : State) : Nat := (s.rd (Reg.HIF_SLOTs_Di slot i)).toNat

/-- Operand P`i` of the descriptor (R380). -/
def descP (slot : Fin 16) (i : Nat) (s : State) : Nat := descW slot (5 + i) s

/-- ADDR and LEN of the descriptor (R380). -/
def descAddr (slot : Fin 16) (s : State) : Nat := descW slot 2 s + 2 ^ 32 * descW slot 3 s
def descLen (slot : Fin 16) (s : State) : Nat := descW slot 4 s

/-- The completion status codes of R382. -/
def stOK : Nat := 0
def stDUPLICATE : Nat := 1
def stBADOP : Nat := 2
def stBADARG : Nat := 3
def stBADGEN : Nat := 4
def stREFUSED : Nat := 5
def stBUSY : Nat := 6
def stDMAERR : Nat := 7
def stABORTED : Nat := 8
def stDENIED : Nat := 9

/-- The interpreter stages a descriptor's STATUS and RESULT in its slot; POST completes it (R373, R382). -/
def stageResult (slot : Fin 16) (status result : Nat) (s : State) : State :=
  (s.put (F.HIF_SLOTs_RES_RES slot) result).put (F.HIF_SLOTs_ST_ST slot) status

/-- The host's buffers of a LONGOP_START descriptor (R383, R389). -/
def lopHostOf (slot : Fin 16) (s : State) : LopHost :=
  { status := descAddr slot s, result := descP slot 1 s + 2 ^ 32 * descP slot 2 s, capacity := descP slot 3 s
    vec := if (descP slot 10 s).testBit 8 then some (descP slot 10 s % 32) else none }

/-- FLAGS[7:2] of the descriptor are 0, and ADDR, LEN and every operand outside `ps` are 0 where the opcode does not use them (R380). -/
def descClean (slot : Fin 16) (addr len : Bool) (ps : List Nat) (s : State) : Bool :=
  decide (descW slot 1 s < 2 ^ 26) && (addr || descAddr slot s == 0) && (len || descLen slot s == 0) &&
    (List.range 11).all (fun i => ps.contains i || descP slot i s == 0)

/-- The operands of LONGOP_START for operation `k` carry nothing in reserved places (R380, R383, R385, R389). -/
def lopClean (k : Fin 5) (slot : Fin 16) (s : State) : Bool :=
  let own := if k = 0 then [4, 5, 6, 7, 8, 9] else if k = 4 then [4, 5] else [4]
  descClean slot true false ([0, 1, 2, 3, 10] ++ own) s && decide (descP slot 0 s < 256) && (descP slot 10 s &&& 0x11F) == descP slot 10 s

/-- The operands of a host start fit: they name the operation, nothing stands in reserved places, and the buffers hold what the operation can yield
(R383, R385). -/
def lopAccepts (k : Fin 5) (slot : Fin 16) (records size : Nat) (argsOk : Bool) (s : State) : Bool :=
  argsOk && lopClean k slot s && lopFits (some (lopHostOf slot s)) records size && decide (descAddr slot s % 8 = 0)

/-- P0[7:0] of a LONGOP_START names an operation (R385). -/
def lopNamed (slot : Fin 16) (s : State) : Bool := decide (1 ≤ descP slot 0 s % 256 ∧ descP slot 0 s % 256 ≤ 5)

/-- A host start of operation `k`: BUSY while one runs, BADARG where the arguments or the capacity do not fit or
P0 names no operation, else the start and RESULT = the generation assigned (R383, R385). -/
def lopHostStart (k : Fin 5) (slot : Fin 16) (records size : Nat) (argsOk : Bool) (planned : Nat) (begin_ : State → State) (s : State) : State :=
  if !lopNamed slot s then stageResult slot stBADARG 0 s
  else if s.lop[k].running then stageResult slot stBUSY 0 s
  else if !lopAccepts k slot records size argsOk s then stageResult slot stBADARG 0 s
  else
    let s1 := lopStart k (some (lopHostOf slot s)) planned s
    begin_ (stageResult slot stOK s1.lop[k].gen s1)

/-- STATUS_WORD_WRITE: 1 ms after the start or the last such write a host-started operation's status word is written again (R386). -/
def execStatusWordWrite (k : Fin 5) (s : State) : Out :=
  .next (s.when (s.lop[k].running && s.lop[k].host.isSome) (fun t =>
    (lopStatus k lopRUNNING (lopCount k t) t).restart 1000000 (.statusWordWrite k)))

end Sys2Proof.Machine
end

