-- ==== Sys2Proof/Machine/Mem.lean ====
section
/-!
DEFINITION. Machine/Mem.lean: the Trio's address map, tags, uncorrectable words, and reads and writes of the memories by each agent
(spec/12_memory_lifecycle.md, R330 to R341; spec/10_capabilities_traps.md, R284, R285; spec/11_trio.md, R316).
-/
namespace Sys2Proof.Machine

/-! ## Rate-limited log codes -/

/-- A log request written at most once per millisecond for its key (R337, R406, R437, R461). -/
def State.logLimited (s : State) (key block code : Nat) (data : List Byte) : State :=
  match (mapFind s.lim key).getD 0 with
  | 0 => ({ s with lim := mapPut 0 s.lim key (s.clk.ns + 1) } : State).logReq block code data
  | t => if t + 1000000 ≤ s.clk.ns + 1 then ({ s with lim := mapPut 0 s.lim key (s.clk.ns + 1) } : State).logReq block code data else s

/-! ## Address map (R330) -/

/-- The regions of the address map. -/
inductive Region where
  | rom | itcm | dtcm | sram | usbBuf | logRam | xspi | slot
deriving DecidableEq, Repr

/-- The region of an address; none outside every listed range. -/
def regionOf (a : Nat) : Option Region :=
  if a < 0x20000 then some .rom
  else if 0x10000000 ≤ a ∧ a < 0x10080000 then some .itcm
  else if 0x11000000 ≤ a ∧ a < 0x11080000 then some .dtcm
  else if 0x20000000 ≤ a ∧ a < 0x20200000 then some .sram
  else if 0x28000000 ≤ a ∧ a < 0x28004000 then some .usbBuf
  else if 0x29000000 ≤ a ∧ a < 0x29010000 then some .logRam
  else if 0x30000000 ≤ a ∧ a < 0x34000000 then some .xspi
  else if 0x40010000 ≤ a ∧ a < 0x40180000 then some .slot
  else none

/-- A power domain is on and ready (R505). -/
def domainOn (n : Nat) (s : State) : Bool := if n < 32 then s.bit F.PWR_ON0_ON n else s.bit F.PWR_ON1_ON (n - 32)

/-- The power domain of the SRAM bank that holds an address (R330). -/
def bankPd (a : Nat) : Nat :=
  match regionOf a with
  | some .itcm => 4 + (a - 0x10000000) / 0x40000
  | some .dtcm => 6 + (a - 0x11000000) / 0x40000
  | some .sram => 8 + (a - 0x20000000) / 0x40000
  | some .usbBuf => 59
  | some .logRam => 17
  | _ => 0

/-- The span of a bank in the address map. -/
def bankSpan (pd : Nat) : Nat × Nat :=
  if pd = 59 then (0x28000000, 0x4000)
  else if pd = 17 then (0x29000000, 0x10000)
  else if pd < 6 then (0x10000000 + (pd - 4) * 0x40000, 0x40000)
  else if pd < 8 then (0x11000000 + (pd - 6) * 0x40000, 0x40000)
  else (0x20000000 + (pd - 8) * 0x40000, 0x40000)

/-- A bank serves accesses: its domain is on and no wipe of it runs (R338, R354). -/
def bankServes (a : Nat) (s : State) : Bool := domainOn (bankPd a) s && !(s.mst.wiping.contains (bankPd a))

/-- The power domain of a block's register slot (R511). -/
def slotPd (id : Nat) : Nat :=
  match id with
  | 0x13 => 54
  | 0x0C => 55
  | 0x07 => 58
  | 0x10 => 59
  | 0x0E => 61
  | 0x0F => 61
  | 0x16 => 62
  | 0x17 => 63
  | _ => 0

/-- The slot of an address answers (R333, R511). -/
def slotOn (a : Nat) (s : State) : Bool := domainOn (slotPd (a / 65536 % 256)) s

/-! ## Tags and errors (R284, R285, R334) -/

/-- The tag of an address's granule, and tags set or cleared. -/
def tagOf (a : Nat) (s : State) : Bool := (mapFind s.mst.tags (a / 16 * 16)).getD false
def setTag (a : Nat) (t : Bool) (s : State) : State := { s with mst := { s.mst with tags := mapPut false s.mst.tags (a / 16 * 16) t } }

/-- A region of the map that holds tags (R284). -/
def holdsTags (a : Nat) : Bool := regionOf a == some .itcm || regionOf a == some .dtcm || regionOf a == some .sram

/-- A word holds an uncorrectable error (DEDUCED, log entry 20). -/
def isBad (a : Nat) (s : State) : Bool := (mapFind s.mst.bad (a / 4 * 4)).getD false
def setBad (a : Nat) (b : Bool) (s : State) : State := { s with mst := { s.mst with bad := mapPut false s.mst.bad (a / 4 * 4) b } }

/-- A word holds a single-bit error, which the next read of it corrects (R334) (DEDUCED, log entry 20). -/
def isSoft (a : Nat) (s : State) : Bool := (mapFind s.mst.soft (a / 4 * 4)).getD false
def setSoft (a : Nat) (b : Bool) (s : State) : State := { s with mst := { s.mst with soft := mapPut false s.mst.soft (a / 4 * 4) b } }

/-- Words written whole, wiped or restored hold no error. -/
def eccClear (lo hi : Nat) (s : State) : State :=
  { s with mst := { s.mst with bad := mapEraseRange s.mst.bad lo hi, soft := mapEraseRange s.mst.soft lo hi } }
def eccGood (w : Nat) (s : State) : State := eccClear (w / 4 * 4) (w / 4 * 4 + 4) s

/-- The region number of R356 of an address as LCS_ECCADDR shows it. -/
def eccRegion (a : Nat) : Nat :=
  if 0xC0000000 ≤ a then 6
  else if 0x80000000 ≤ a then 3
  else match regionOf a with
    | some .itcm => 0
    | some .dtcm => 1
    | some .sram => 2
    | some .logRam => 4
    | some .usbBuf => 5
    | _ => 2

/-- An uncorrectable error is read: counted, latched, logged with its reader (R334, R337, R356). -/
def eccUe (a reader : Nat) (s : State) : State :=
  ((s.inc F.LCS_ECC_UE).put F.LCS_ECCADDR_ADDR (a / 4 * 4)).logReq 0x0B 0x0002 ([b8 (eccRegion a)] ++ bytesOfNat 4 (a / 4 * 4) ++ [b8 reader])

/-- A corrected error: counted, latched, logged at most once a millisecond per region (R334, R337). -/
def eccCe (a : Nat) (s : State) : State :=
  ((s.inc F.LCS_ECC_CE).put F.LCS_ECCADDR_ADDR (a / 4 * 4)).logLimited (0x0B00 + eccRegion a) 0x0B 0x0001 ([b8 (eccRegion a)] ++ bytesOfNat 4 (a / 4 * 4))

/-- The words that `n` bytes at an address touch. -/
def wordsAt (a n : Nat) : List Nat := (List.range ((a + n + 3) / 4 - a / 4)).map (fun i => (a / 4 + i) * 4)

/-- A read of `n` bytes corrects the single-bit errors of the words it touches, which are written back at once; a tag stays as it is (R334, R335)
(DEDUCED, log entry 20). -/
def eccFix (a n : Nat) (s : State) : State :=
  s.each ((s.mst.soft.filter (fun p => p.2 && decide (a / 4 * 4 ≤ p.1) && decide (p.1 < a + n))).map (·.1)) (fun w t => setSoft w false (eccCe w t))

/-- The first word of a span that holds an uncorrectable error. -/
def badIn (a n : Nat) (s : State) : Option Nat := (wordsAt a n).find? (fun w => isBad w s)

/-- Bytes written by anyone: the tags of the granules they touch clear, and a word written whole is good again (R285, R334). -/
def pokeBytes (a : Nat) (l : List Byte) (s : State) : State :=
  let s1 := (s.setBytes a l).each ((List.range ((a + l.length + 15) / 16 - a / 16)).map (fun i => (a / 16 + i) * 16)) (fun g => setTag g false)
  s1.each ((wordsAt a l.length).filter (fun w => a ≤ w ∧ w + 4 ≤ a + l.length)) eccGood

/-- A word that a write of an agent covers in part is read: a single-bit error is corrected; an uncorrectable one is counted and logged with its
reader, and its bytes become 0 (R334, R337). -/
def partWrite (reader w : Nat) (s : State) : State :=
  if isBad w s then eccGood w ((eccUe w reader s).setMemWord w 0) else eccFix w 4 s

/-- Bytes written by HIF, USB or debug (R334). -/
def agentWrite (reader a : Nat) (l : List Byte) (s : State) : State :=
  pokeBytes a l (s.each ((wordsAt a l.length).filter (fun w => !(a ≤ w ∧ w + 4 ≤ a + l.length))) (fun w => partWrite reader w))

/-! ## Undo log (R316) -/

/-- An entry is appended for a word about to change: its content, read with its errors, and its granule's tag (R316, R334, R337). -/
def undoPush (reader w : Nat) (s0 : State) : State :=
  let s := if isBad w s0 then eccUe w reader s0 else eccFix w 4 s0
  let sram := regionOf w == some .sram
  let e : Undo := { old := if isBad w s then 0 else s.memWord w, word := (if sram then w - 0x20000000 else w - 0x11000000) / 4, sram := sram, otag := tagOf w s, valid := true }
  let n := s.trio.undo.length
  let s1 := eccClear (0x80000000 + 8 * n) (0x80000008 + 8 * n) s
  ({ s1 with trio := { s1.trio with undo := e :: s1.trio.undo } } : State).put F.TRIO_STAT_LOGUSED (n + 1)

/-- The words of a store that are logged: those in DTCM and shared SRAM (R316). -/
def undoStore (reader a n : Nat) (s : State) : State :=
  if regionOf a = some .dtcm ∨ regionOf a = some .sram then s.each (wordsAt a n) (fun w => undoPush reader w) else s

/-- VALID clears in every entry whose word lies in a bank (R354, R513). -/
def undoVoid (pd : Nat) (s : State) : State :=
  let span := bankSpan pd
  { s with trio := { s.trio with undo := s.trio.undo.map (fun e =>
      let a := (if e.sram then 0x20000000 else 0x11000000) + e.word * 4
      if span.1 ≤ a ∧ a < span.1 + span.2 then { e with valid := false } else e) } }

/-- A bank is wiped: zero data, zero tags, no errors (R352). -/
def wipeBank (pd : Nat) (s : State) : State :=
  let b := bankSpan pd
  let t := eccClear b.1 (b.1 + b.2) s
  { t with mem := mapEraseRange s.mem b.1 (b.1 + b.2), mst := { t.mst with tags := mapEraseRange s.mst.tags b.1 (b.1 + b.2) } }

/-- The cycles of a bank's wipe in nanoseconds: 16 bytes per AO cycle and 64 of set-up (R352). -/
def wipeNs (pd : Nat) : Nat := ((bankSpan pd).2 / 16 + 64) * 10

/-! ## The flash window (R339, R340) -/

/-- An image verification or a boot load holds the controller (R341). -/
def verifying (s : State) : Bool := s.lop[(2 : Fin 5)].running || s.boot.slot.isSome

/-- A byte of the flash. -/
def flash (off : Nat) (s : State) : Byte := Config.flashByte s.boot.epoch off

/-- Bytes of the flash from an offset. -/
def flashBytes (s : State) (off n : Nat) : List Byte := (List.range n).map (fun i => flash (off + i) s)

/-- Nanoseconds in which `n` bytes are read from flash: 400 MB/s in 8D mode at 200 MHz, one bit a clock in 1S mode (R340, R343). -/
def flashNs (n : Nat) (s : State) : Nat :=
  if s.on F.XSPI_CTL_MODE then n * 5 * (s.get F.XSPI_CTL_DIV + 1) / 2 else n * 40 * 8

/-- A window read: the line becomes the most recent of four (R339). -/
def windowTouch (off : Nat) (s : State) : State :=
  { s with boot := { s.boot with lines := ((off / 32) :: s.boot.lines.erase (off / 32)).take 4 } }

/-! ## The Trio's accesses to memories (R330, R334, R338) -/

/-- The outcome of an access: data, or a trap cause with the failing address. -/
inductive Acc where
  | ok (data : List Byte)
  | err (cause : Nat) (addr : Nat)
deriving DecidableEq, Repr

/-- The data of an access that has ended well. -/
def Acc.bytes : Acc → List Byte
  | .ok d => d
  | .err _ _ => []

/-- A read of `n` bytes outside the peripheral slots. -/
def memRead (n a : Nat) (s : State) : State × Acc :=
  match regionOf a with
  | some .rom => (s, .ok ((List.range n).map (fun i => Config.romByte (a + i))))
  | some .xspi =>
    if !domainOn 62 s || s.on F.XSPI_STAT_BUSY then (s, .err 0x0A a)
    else (windowTouch (a - 0x30000000) s, .ok (flashBytes s (a - 0x30000000) n))
  | some .slot => (s, .err 0x0A a)
  | none => (s, .err 0x0A a)
  | _ =>
    if !bankServes a s then (s, .err 0x0A a)
    else
      let t := eccFix a n s
      match badIn a n t with
      | some w => (eccUe w 0 t, .err 0x0B w)
      | none => (t, .ok (t.bytes a n))

/-- A store outside the peripheral slots: logged for rollback where R316 says so; less than a word into a bad word traps (R334). -/
def memWrite (a : Nat) (l : List Byte) (s : State) : State × Acc :=
  match regionOf a with
  | some .itcm | some .dtcm | some .sram | some .usbBuf =>
    if !bankServes a s then (s, .err 0x0A a)
    else
      let t := if l.length < 4 then eccFix a l.length s else s
      match (if l.length < 4 then badIn a l.length t else none) with
      | some w => (eccUe w 0 t, .err 0x0B w)
      | none => (pokeBytes a l (undoStore 0 a l.length t), .ok [])
  | _ => (s, .err 0x0A a)

end Sys2Proof.Machine
end

