-- ==== Sys2Proof/Machine/Gather.lean ====
section
/-!
DEFINITION. Machine/Gather.lean: the Gather array's spare rotation, calibration and sequencers (spec/03_gather.md, R78 to R102).
Banks are numbered 0 V, 1 I, 2 M as ARG[9:8] of GATH_ACT numbers them (R90).
-/
namespace Sys2Proof.Machine

/-! ## Power domains -/

/-- Power domain `n` is on and ready (R508). -/
def pdOn (n : Nat) (s : State) : Bool :=
  if n < 32 then s.bit F.PWR_ON0_ON n else s.bit F.PWR_ON1_ON (n - 32)

/-! ## Banks, slices and lanes -/

/-- Bank `b`. -/
def gBank (b : Fin 3) (s : State) : Bank := match b with | 0 => s.gath.vbank | 1 => s.gath.ibank | 2 => s.gath.mbank

/-- A bank's hidden state replaced. -/
def gUpd (b : Fin 3) (f : Bank → Bank) (s : State) : State :=
  match b with
  | 0 => { s with gath := { s.gath with vbank := f s.gath.vbank } }
  | 1 => { s with gath := { s.gath with ibank := f s.gath.ibank } }
  | 2 => { s with gath := { s.gath with mbank := f s.gath.mbank } }

/-- The number of slices and of lanes of a bank. -/
def gSlices (b : Fin 3) : Nat := if b = 2 then 3 else 9
def gLanes (b : Fin 3) : Nat := if b = 2 then 2 else 8

/-- The power domain of a slice: PD30 to PD38, PD39 to PD47, PD48. -/
def gDomain (b : Fin 3) (i : Nat) : Nat := match b with | 0 => 30 + i | 1 => 39 + i | 2 => 48

/-- The bit of a slice in GATH_POOL and GATH_CALD. -/
def gBit (b : Fin 3) (i : Nat) : Nat := match b with | 0 => i | 1 => 9 + i | 2 => 18 + i

/-- The slice is retired (R85). -/
def gRetired (b : Fin 3) (i : Nat) (s : State) : Bool := (s.rd Reg.GATH_POOL).getLsbD (gBit b i)

/-- The slice is marked in GATH_CALD (R87). -/
def gCald (b : Fin 3) (i : Nat) (s : State) : Bool := (s.rd Reg.GATH_CALD).getLsbD (gBit b i)

/-- A slice's bit in a pool register set or cleared. -/
def gMark (a : Nat) (b : Fin 3) (i : Nat) (v : Bool) (s : State) : State :=
  let m : Word := BitVec.ofNat 32 (2 ^ gBit b i)
  s.hw a (fun w => if v then w ||| m else w &&& ~~~m)

/-- The pool: slices whose domain is on and that are not retired (R82). -/
def gPool (b : Fin 3) (s : State) : List Nat :=
  (List.range (gSlices b)).filter (fun i => pdOn (gDomain b i) s && !gRetired b i s)

/-- The slice that holds the spare role; 15 none. -/
def gSpare (b : Fin 3) (s : State) : Nat :=
  match b with | 0 => s.get F.GATH_SPARE_VSP | 1 => s.get F.GATH_SPARE_ISP | 2 => s.get F.GATH_SPARE_MSP

/-- The bank has a usable spare: the spare role is held by a slice of the pool (R88). -/
def gHasSpare (b : Fin 3) (s : State) : Bool := (gPool b s).contains (gSpare b s)

/-- A bank that has a usable spare again ends the occurrence of NOSPARE (R88). -/
def gSpareBack (b : Fin 3) (s : State) : State := s.when (gHasSpare b s) (gUpd b (fun k => { k with noSpare := false }))

/-- The spare role given to a slice, or to none (15); a bank with a usable spare ends the occurrence of R88. -/
def gSetSpare (b : Fin 3) (i : Nat) (s : State) : State :=
  gSpareBack b (match b with | 0 => s.put F.GATH_SPARE_VSP i | 1 => s.put F.GATH_SPARE_ISP i | 2 => s.put F.GATH_SPARE_MSP i)

/-- The field of a lane in its mapping register. -/
def gLaneFld (b : Fin 3) (k : Nat) : Fld :=
  match b with
  | 0 => ⟨Reg.GATH_VMAP, 4 * k, 4⟩
  | 1 => ⟨Reg.GATH_IMAP, 4 * k, 4⟩
  | 2 => if k = 0 then F.GATH_SPARE_ML0 else F.GATH_SPARE_ML1

/-- The lane a slice serves, if any. -/
def gLaneOf (b : Fin 3) (i : Nat) (s : State) : Option Nat :=
  (List.range (gLanes b)).find? (fun k => s.get (gLaneFld b k) == i)

/-- A step or a FULLCAL runs in the bank (R90). -/
def gBusy (b : Fin 3) (s : State) : Bool := s.bit F.GATH_BSTAT_STEP b || s.bit F.GATH_BSTAT_FULL b

/-- The pool slices in cyclic rising order after the previous C (R82). -/
def gCyclic (b : Fin 3) (s : State) : List Nat :=
  (gPool b s).filter (fun i => (gBank b s).prevC < i) ++ (gPool b s).filter (fun i => i ≤ (gBank b s).prevC)

/-- The candidate that R82 picks: the first pool slice after the previous C that does not hold the spare role. -/
def gCandidate (b : Fin 3) (s : State) : Option Nat := (gCyclic b s).find? (fun i => i != gSpare b s)

/-! ## Coefficients (R85, R87) -/

/-- The key of a slice's item in calibration memory: slices are numbered V 0–8, I 9–17, M 18–20. -/
def calKey (b : Fin 3) (i item : Nat) : Nat := gBit b i * 16 + item

/-- A working coefficient. -/
def calGet (b : Fin 3) (i item : Nat) (s : State) : Word := (mapFind s.gath.cal (calKey b i item)).getD 0

/-- The address of a coefficient's word in calibration memory as LCS_ECCADDR shows it, the slices and items in the order of OTP (R334, R346)
(DESIGN CHOICE, log entry 74). -/
def calAddr (b : Fin 3) (i item : Nat) : Nat := 0xC0000000 + calKey b i item / 2 * 4

/-- A working coefficient stored (16 bits); its word is good again (R334). -/
def calPut (b : Fin 3) (i item : Nat) (v : Int) (s : State) : State :=
  let t := eccGood (calAddr b i item) s
  { t with gath := { t.gath with cal := mapPut 0 t.gath.cal (calKey b i item) (BitVec.ofNat 32 (ofSigned 16 v)) } }

/-- The valid range of a calibration item (R85). -/
def calRange (item : Nat) : Int × Int :=
  if item = 1 then (31785, 33751) else if item = 2 then (-64, 64) else (-512, 512)

/-- A working coefficient as a signed value (R85). -/
def calSigned (b : Fin 3) (i item : Nat) (s : State) : Int := toSigned 16 (calGet b i item s).toNat

/-- The output code of a slice from its raw SAR bits, by the slice's DW, OFS and GAIN (R86). -/
def sarCode (b : Fin 3) (i : Nat) (raw : BitVec 12) (s : State) : Int :=
  let w := fun (k : Nat) => if raw.getLsbD k then (2 : Int) ^ (k + 6) + (if k = 0 then 0 else calSigned b i (k + 2) s) else 0
  let sum := ((List.range 12).map w).foldl (· + ·) 0
  let c := asr (sum + 2) 2 - calSigned b i 0 s
  clampInt (asr (asr (c * (calGet b i 1 s).toNat) 15 + 8) 4) 0 4095

/-- The first item outside its valid range; an M-slice has no SKEW (R85). -/
def calBad (b : Fin 3) (co : List Int) : Option (Nat × Int) :=
  (List.range 14).findSome? (fun k =>
    if b = 2 ∧ k = 2 then none
    else if (calRange k).1 ≤ co.getD k 0 ∧ co.getD k 0 ≤ (calRange k).2 then none else some (k, co.getD k 0))

/-! ## Samples of the lanes (R79, R80, R83, R86) -/

/-- The position of an aperture that ends in cycle `t` in the sample grid: loop-clock edges since grid edge 0 (R79). -/
def gridAt (t : Nat) (s : State) : Option Nat :=
  match s.clk.gridT with | some g => if g ≤ t then some (t - g) else none | none => none

/-- The V-lane of rail `r` whose sample reaches the merged stream now, 6 ns after its aperture: the even lane's at a grid edge, the odd lane's 2 ns
later (R37, R79). -/
def vLaneNow (r : Fin 4) (s : State) : Option (Fin 8) :=
  if s.clk.ns < 6 then none
  else
    match gridAt (s.clk.ns - 6) s with
    | some n => if n % 4 = 0 then some (Fin.ofNat 8 (2 * r.val)) else if n % 4 = 2 then some (Fin.ofNat 8 (2 * r.val + 1)) else none
    | none => none

/-- The current of phase `p` is the one its I-lane hands over now, 5 ns after its aperture: grid edge g converts phase g mod 4 of the lane
(R37, R80). -/
def iPhaseNow (p : Fin 32) (s : State) : Bool :=
  decide (5 ≤ s.clk.ns) && (match gridAt (s.clk.ns - 5) s with | some n => n % 4 == 0 && n / 4 % 4 == p.val % 4 | none => false)

/-- The slice that serves a lane's aperture ending in cycle `t`: apertures before the latest swap are still the released slice's (R83). -/
def gSliceAt (b : Fin 3) (k t : Nat) (s : State) : Nat :=
  if (gBank b s).swapLane = k ∧ t < (gBank b s).swapAt then (gBank b s).swapOld else s.get (gLaneFld b k)

/-- The lane is served: a slice is mapped to it and that slice's domain is on (R89). -/
def gServed (b : Fin 3) (k t : Nat) (s : State) : Bool := decide (gSliceAt b k t s < gSlices b) && pdOn (gDomain b (gSliceAt b k t s)) s

/-- The shadow stage compares the spare's corrected code with C's of the same aperture (R83); a raw code of the spare that no command gives is a
free value (DESIGN CHOICE, log entry 44). -/
def gCompare (b : Fin 3) (k : Nat) (code : Int) (shadow : Option (BitVec 12)) (s : State) : State :=
  let q := gBank b s
  if (q.stage = .shadow ∨ q.stage = .shadowAgain) ∧ q.count < 256 ∧ gLaneOf b q.cand s = some k then
    let raw := shadow.getD (s.freeWord.truncate 12)
    gUpd b (fun q => { q with sum := q.sum + (sarCode b q.spare raw s - code), count := q.count + 1 }) s.draw
  else s

/-- A conversion of a lane whose aperture ended in cycle `t`: the code of the slice that serves it, and the shadow stage's comparison (R83, R86). -/
def gTake (b : Fin 3) (k t : Nat) (raw : BitVec 12) (shadow : Option (BitVec 12)) (s : State) : State × Int :=
  let code := sarCode b (gSliceAt b k t s) raw s
  (gCompare b k code shadow s, code)

/-! ## Rotation steps (R82 to R88) -/

/-- NOSPARE is flagged and logged once per occurrence: where a step would start, and where a step leaves the bank without a spare (R88)
(DESIGN CHOICE, log entry 47). -/
def gNoSpare (b : Fin 3) (s : State) : State :=
  if (gBank b s).noSpare then s
  else
    gUpd b (fun k => { k with noSpare := true })
      ((s.put F.GATH_FLT_NOSPARE 1).logReq 0x03 0x0005 (b8 b :: bytesOfNat 2 ((gPool b s).foldl (fun m i => m + 2 ^ i) 0)))

/-- The interval between periodic steps in ns: ROTINT, clamped to 1–1000 ms (R87, R102). -/
def rotNs (s : State) : Nat := clampNat (s.get F.GATH_ROT_ROTINT) 1 1000 * 1000000

/-- 256 conversions of a bank in ns, and its calibration of 21 760 or 17 664 conversions (R83, R85). -/
def shadowNs (b : Fin 3) : Nat := if b = 2 then 25600 else 1024
def calNs (b : Fin 3) : Nat := if b = 2 then 1766400 else 87040

/-- The bank's next periodic step is due: every pool slice is not yet calibrated, or ROTINT has passed since the start of the previous step (R87). -/
def gStepDue (b : Fin 3) (s : State) : Bool :=
  !(gPool b s).all (fun i => gCald b i s) || (match (gBank b s).startAt with | some t => decide (t + rotNs s ≤ s.clk.ns) | none => true)

/-- The spare shadows the candidate for 256 samples (R83). -/
def gShadow (b : Fin 3) (again : Bool) (s : State) : State :=
  (gUpd b (fun k => { k with stage := if again then .shadowAgain else .shadow, sum := 0, count := 0, due := s.clk.ns + shadowNs b }) s).restart
    (shadowNs b) (.shadowComplete b none)

/-- A slice calibrates: the spare after a failed compare, else the step's candidate (R84, R85). -/
def gCalibrate (b : Fin 3) (stage : StepStage) (s : State) : State :=
  (gUpd b (fun k => { k with stage := stage, due := s.clk.ns + calNs b }) s).restart (calNs b) (.calibrationComplete b none)

/-- A step of the bank starts for candidate `c`: the spare shadows it (R82, R83). -/
def gStep (b : Fin 3) (kind : StepKind) (c : Nat) (s : State) : State :=
  gShadow b false (gUpd b (fun k => { k with
    kind := kind, cand := c, spare := gSpare b s, took := 15, second := false, prevC := c, startAt := some s.clk.ns })
    (s.setBit F.GATH_BSTAT_STEP b))

/-- A slice calibrates in place: the spare under CALSLICE or FULLCAL, or a slice under RESTORE. It is no rotation step for R82 and R87, and a slice
whose domain is off calibrates too (R90) (DEDUCED, log entry 15; DESIGN CHOICE, log entry 66). -/
def gInPlace (b : Fin 3) (kind : StepKind) (c : Nat) (s : State) : State :=
  gCalibrate b .calibrate (gUpd b (fun k => { k with kind := kind, cand := c, spare := gSpare b s, took := 15, second := false })
    (s.setBit F.GATH_BSTAT_STEP b))

/-- A rotation step with the candidate of R82; a bank without a spare does not rotate (R88). -/
def gRotate (b : Fin 3) (s : State) : State :=
  if gHasSpare b s then (match gCandidate b s with | some c => gStep b .rotate c s | none => s) else gNoSpare b s

/-- Periodic rotation of a bank that no step keeps busy: a step that is due starts, and the next one is scheduled; with ROTINT = 0 it steps only
on GATH_ACT (R87, R88, R102). -/
def gNext (b : Fin 3) (s : State) : State :=
  if !s.on F.GATH_ROT_ROTEN || s.get F.GATH_ROT_ROTINT == 0 || gBusy b s then s
  else
    let s1 := if gStepDue b s then gRotate b s else s
    let wait := match (gBank b s1).startAt with | some t => if s.clk.ns < t + rotNs s then t + rotNs s - s.clk.ns else rotNs s | none => rotNs s
    s1.restart wait (.rotationStepStart b)

/-- The slices a FULLCAL still has to step that are in the pool: the first of them, and those after it (R89, R90). -/
def gFullHead (b : Fin 3) (s : State) : List Nat := (gBank b s).full.dropWhile (fun c => !(gPool b s).contains c)

/-- The next step of a running FULLCAL: the spare, and a slice that serves no lane, calibrate in place, a slice in service rotates out; without a
spare for it, or with none left, the FULLCAL is over (R88, R90, R91). -/
def gFullNext (b : Fin 3) (s : State) : State :=
  match gFullHead b s with
  | c :: rest =>
    let s1 := gUpd b (fun k => { k with full := rest }) s
    if gSpare b s = c ∨ (gLaneOf b c s).isNone then gInPlace b .calslice c s1
    else if gHasSpare b s then gStep b .calslice c s1
    else (gNoSpare b (gUpd b (fun k => { k with full := [] }) s)).putBit F.GATH_BSTAT_FULL b false
  | [] => (gUpd b (fun k => { k with full := [] }) s).putBit F.GATH_BSTAT_FULL b false

/-- The long operation FULLCAL ends when no bank runs it any more: DONE with every planned step taken, else FAILED (R385, R386)
(DESIGN CHOICE, log entry 47). -/
def gFullEnd (state : Nat) (s : State) : State :=
  if s.lop[(3 : Fin 5)].running && s.get F.GATH_BSTAT_FULL = 0 then
    lopEnd 3 (if state = lopDONE ∧ s.lop[(3 : Fin 5)].done < s.lop[(3 : Fin 5)].planned then lopFAILED else state) s
  else s

/-- An abort of FULLCAL takes effect after the present rotation step (R388). -/
def gFullAbort (s : State) : State :=
  if s.lop[(3 : Fin 5)].running && s.lop[(3 : Fin 5)].abort then
    let drop := fun (b : Fin 3) (t : State) => if t.bit F.GATH_BSTAT_STEP b then gUpd b (fun k => { k with full := [] }) t
      else (gUpd b (fun k => { k with full := [] }) t).putBit F.GATH_BSTAT_FULL b false
    gFullEnd lopABORTED (drop 2 (drop 1 (drop 0 s)))
  else s

/-- The end of a step that calibrated slice `c`: the record of a FULLCAL step, the next step of the FULLCAL, or the next periodic step; NOSPARE
where the step leaves the bank without a spare (R87, R88, R90, R91). -/
def gStepEnd (b : Fin 3) (c took result : Nat) (s : State) : State :=
  let s0 := gUpd b (fun k => { k with stage := .idle }) (s.putBit F.GATH_BSTAT_STEP b false)
  let s1 := if gHasSpare b s0 then s0 else gNoSpare b s0
  if s.bit F.GATH_BSTAT_FULL b then
    let s2 := s1.when s.lop[(3 : Fin 5)].running (fun t =>
      lopAdvance 3 1 (lopRecord 3 8 ([b8 b, b8 c, b8 (if took = 15 then 255 else took), b8 result] ++ bytesOfNat 2 (calGet b c 0 t).toNat ++
        bytesOfNat 2 (calGet b c 1 t).toNat) t))
    gNext b (gFullEnd lopDONE (if s2.lop[(3 : Fin 5)].running && s2.lop[(3 : Fin 5)].abort then gFullAbort s2 else gFullNext b s2))
  else gNext b s1

/-- A step of the bank ends before its calibrate stage, because its spare or its candidate has left the pool: no lane is swapped and nothing is
recorded (R82, R89) (DESIGN CHOICE, log entry 66). -/
def gStepDrop (b : Fin 3) (s : State) : State :=
  let s0 := ((gUpd b (fun k => { k with stage := .idle }) (s.putBit F.GATH_BSTAT_STEP b false)).cancel (.shadowComplete b none)).cancel (.laneSwap b)
  let s1 := s0.cancel (.calibrationComplete b none)
  let s2 := if gHasSpare b s1 then s1 else gNoSpare b s1
  gNext b (if s.bit F.GATH_BSTAT_FULL b then gFullEnd lopDONE (gFullNext b s2) else s2)

/-- A slice's domain has gone down: it leaves the pool, and a step that still needs it ends (R82, R89). -/
def gSliceDown (b : Fin 3) (i : Nat) (s : State) : State :=
  let k := gBank b s
  if k.stage ≠ .idle ∧ (k.cand = i ∨ (k.spare = i ∧ k.stage ≠ .calibrate)) then gStepDrop b s else s

/-- ROTATION_STEP_START: the periodic step of a bank while ROTEN = 1 starts where it is due, and the next one is scheduled (R87)
(DEDUCED, log entry 22). -/
def gPeriodic (b : Fin 3) (s : State) : State := gNext b s

/-- The mean of the shadow stage's differences: their sum and number, which may be below 256. A command may give the mean in 1/16 LSB; where the stage
saw no sample it is a free value (R83) (DESIGN CHOICE, log entry 44; DESIGN CHOICE, log entry 66). -/
def gMean (b : Fin 3) (mean : Option Int) (s : State) : Int × Nat :=
  match mean with
  | some m => (m, 16)
  | none => if (gBank b s).count = 0 then (toSigned 16 (s.freeWord.toNat % 65536), 16) else ((gBank b s).sum, (gBank b s).count)

/-- The compare is passed, or failed for the second time: S takes the lane at its next sample boundary, a grid edge of the lane, or the end of the
M-lane's running conversion of 100 ns (R81, R83, R84). -/
def gToSwap (b : Fin 3) (second : Bool) (s : State) : State :=
  let k := (gLaneOf b (gBank b s).cand s).getD 0
  let ahead := if b = 2 then (s.mlane[Fin.ofNat 2 k] - s.clk.ns) % 100
    else match gridAt s.clk.ns s with | some n => (4 + (if b = 0 then 2 * (k % 2) else 0) - n % 4) % 4 | none => 0
  (gUpd b (fun q => { q with stage := .swap, second := second, due := s.clk.ns + ahead }) s).restart ahead (.laneSwap b)

/-- SHADOW_COMPLETE: the mean of the 256 differences S − C is compared with MATCHTOL; the log entry has it rounded down to 1/16 LSB (R83, R84)
(DESIGN CHOICE, log entry 66). -/
def gShadowComplete (b : Fin 3) (mean : Option Int) (s0 : State) : State :=
  let k := gBank b s0
  let lane := b8 ((gLaneOf b k.cand s0).getD 0)
  let m := gMean b mean s0
  let within := decide (m.1.natAbs ≤ clampNat (s0.get F.GATH_ROT_MATCHTOL) 1 63 * m.2)
  let s := s0.draw.cancel (.shadowComplete b none)
  if s0.clk.ns < k.due then s0
  else
    match k.stage with
    | .shadow =>
      if within then gToSwap b false s
      else gCalibrate b .recalSpare
        ((s.setBit F.GATH_FLT_MIS b).logReq 0x03 0x0002
          ([b8 b, b8 k.cand, b8 k.spare, lane] ++ bytesOfNat 2 (ofSigned 16 ((16 * m.1).fdiv m.2))))
    | .shadowAgain =>
      if within then gToSwap b false s
      else gToSwap b true (s.logReq 0x03 0x0003 [b8 b, b8 k.cand, b8 k.spare, lane])
    | _ => s0

/-- LANE_SWAP: at the lane's next sample boundary S serves the lane and C leaves its input to calibrate; until it has calibrated the bank shows no
spare (R83) (DESIGN CHOICE, log entry 47). -/
def gLaneSwap (b : Fin 3) (s0 : State) : State :=
  let k := gBank b s0
  let s := s0.cancel (.laneSwap b)
  if k.stage = .swap ∧ k.due ≤ s0.clk.ns then
    gCalibrate b .calibrate (match gLaneOf b k.cand s with
    | some lane => gUpd b (fun q => { q with took := k.spare, swapAt := s.clk.ns, swapLane := lane, swapOld := k.cand })
        (gSetSpare b 15 (s.put (gLaneFld b lane) k.spare))
    | none => s)
  else s0

/-- A slice whose calibration failed is retired and keeps its coefficients (R85). -/
def gRetire (b : Fin 3) (i item : Nat) (v : Int) (s : State) : State :=
  let s1 := ((gMark Reg.GATH_POOL b i true s).put F.GATH_FLT_CALFAIL 1).logReq 0x03 0x0004 ([b8 b, b8 i, b8 item] ++ bytesOfNat 2 (ofSigned 16 v))
  if gSpare b s1 = i then gSetSpare b 15 s1 else s1

/-- The coefficients of a passing calibration apply, and GATH_CALD marks the slice (R85 to R87). -/
def gStoreCal (b : Fin 3) (i : Nat) (co : List Int) (s : State) : State :=
  gMark Reg.GATH_CALD b i true ((List.range 14).foldl (fun t k => if b = 2 ∧ k = 2 then t else calPut b i k (co.getD k 0) t) s)

/-- The coefficients that a calibration yields: those a command gives, else free values (R85) (DESIGN CHOICE, log entry 44). -/
def gCoefs (co : Option (List Int)) (s : State) : List Int :=
  co.getD ((List.range 14).map (fun k =>
    let v := (Config.freeWord (s.free + k)).toNat % 65536
    if k = 1 then (v : Int) else toSigned 16 v))

/-- CALIBRATION_COMPLETE: the calibrating slice takes its coefficients, or is retired; the step goes on or ends. The record of a step that the
spare's failed calibration ends names the spare (R83 to R85, R90, R91) (DESIGN CHOICE, log entry 47). -/
def gCalComplete (b : Fin 3) (coefs : Option (List Int)) (s0 : State) : State :=
  let k := gBank b s0
  let co := gCoefs coefs s0
  let s : State := { s0.cancel (.calibrationComplete b none) with free := s0.free + 14 }
  if s0.clk.ns < k.due then s0
  else
    match k.stage with
    | .recalSpare =>
      (match calBad b co with
       | none => gShadow b true (gStoreCal b k.spare co s)
       | some (item, v) => gStepEnd b k.spare 15 2 (gRetire b k.spare item v s))
    | .calibrate =>
      (match calBad b co with
       | some (item, v) => gStepEnd b k.cand k.took 2 (gRetire b k.cand item v s)
       | none =>
         let s1 := gStoreCal b k.cand co s
         let s2 := match k.kind with
           | .retire => gMark Reg.GATH_POOL b k.cand true s1
           | .restore =>
             let t := gMark Reg.GATH_POOL b k.cand false s1
             if gHasSpare b t then t else gSetSpare b k.cand t
           | .rotate => if k.took = 15 then s1 else gSetSpare b k.cand s1
           | .calslice => if k.took = 15 then s1 else gSetSpare b k.cand s1
         gStepEnd b k.cand k.took (if k.second then 1 else 0) s2)
    | _ => s0

/-- A slice's domain powers up: its factory coefficients load from OTP (R87). The factory words are given as the list of items. -/
def gLoadFactory (b : Fin 3) (i : Nat) (items : List Nat) (s : State) : State :=
  (List.range 14).foldl (fun t k => calPut b i k (items.getD k 0 % 65536 : Nat) t) s

/-! ## Actions (R90) -/

/-- The banks that ARG[9:8] names. -/
def gBanks (arg : BitVec 16) : List (Fin 3) :=
  match (arg.toNat / 256) % 4 with | 0 => [0] | 1 => [1] | 2 => [2] | _ => [0, 1, 2]

/-- An action that performs nothing sets GATH_FLT.BUSY (R90). -/
def gRefuse (s : State) : State := s.put F.GATH_FLT_BUSY 1

/-- ROTATE; with bank 3 the banks that are not busy step (R90) (DESIGN CHOICE, log entry 47). -/
def gathRotate (arg : BitVec 16) (s : State) : State :=
  s.each (gBanks arg) (fun b t => if gBusy b t then gRefuse t else gRotate b t)

/-- FULLCAL of a set of banks: a step on every pool slice, back to back, the banks in parallel; refused whole where one of them is busy (R90)
(DEDUCED, log entry 16; DESIGN CHOICE, log entry 47). -/
def gFullCal (bs : List (Fin 3)) (s : State) : State :=
  if bs.any (fun b => gBusy b s) then gRefuse s
  else gFullEnd lopDONE (s.each bs (fun b t =>
    gFullNext b ((gUpd b (fun k => { k with full := (gCyclic b t).filter (fun i => i != gSpare b t) ++ (gPool b t).filter (fun i => i == gSpare b t) }) t).setBit F.GATH_BSTAT_FULL b)))

/-- The steps a FULLCAL plans: one for each slice in the pools of its banks (R91) (DEDUCED, log entry 16). -/
def gPlanned (bs : List (Fin 3)) (s : State) : Nat := bs.foldl (fun k b => k + (gPool b s).length) 0

/-- FULLCAL started by firmware: long operation 0x04 without host buffers (R90, R388). -/
def gathFullcal (arg : BitVec 16) (s : State) : State :=
  if (gBanks arg).any (fun b => gBusy b s) || s.lop[(3 : Fin 5)].running then gRefuse s
  else gFullCal (gBanks arg) (lopStart 3 none (gPlanned (gBanks arg) s) s)

/-- The slice index and single bank of a slice action; none where the slice lies outside the bank, and for bank 3, which names no one slice (R90)
(DESIGN CHOICE, log entry 47). -/
def gSliceArg (arg : BitVec 16) : Option (Fin 3 × Nat) :=
  match (arg.toNat / 256) % 4 with
  | 0 => if arg.toNat % 16 < 9 then some (0, arg.toNat % 16) else none
  | 1 => if arg.toNat % 16 < 9 then some (1, arg.toNat % 16) else none
  | 2 => if arg.toNat % 16 < 3 then some (2, arg.toNat % 16) else none
  | _ => none

/-- A slice action on a bank that is not busy; an in-service slice needs a spare (R90). -/
def gSliceAction (arg : BitVec 16) (onSpare onLane onOther : Fin 3 → Nat → State → State) (s : State) : State :=
  match gSliceArg arg with
  | none => gRefuse s
  | some (b, i) =>
    if gBusy b s then gRefuse s
    else if gSpare b s = i then onSpare b i s
    else if (gLaneOf b i s).isSome then (if gHasSpare b s then onLane b i s else gRefuse s)
    else onOther b i s

/-- CALSLICE; of a slice that neither serves a lane nor is the spare it does nothing (R90) (DESIGN CHOICE, log entry 47). -/
def gathCalslice (arg : BitVec 16) (s : State) : State :=
  gSliceAction arg (fun b i => gInPlace b .calslice i) (fun b i => gStep b .calslice i) (fun _ _ t => t) s

/-- RETIRE (R90). -/
def gathRetire (arg : BitVec 16) (s : State) : State :=
  gSliceAction arg (fun b i t => gSetSpare b 15 (gMark Reg.GATH_POOL b i true t)) (fun b i => gStep b .retire i) (fun b i => gMark Reg.GATH_POOL b i true) s

/-- RESTORE (R90) (DEDUCED, log entry 15). -/
def gathRestore (arg : BitVec 16) (s : State) : State :=
  match gSliceArg arg with
  | none => gRefuse s
  | some (b, i) => if gBusy b s then gRefuse s else if gRetired b i s then gInPlace b .restore i s else s

/-! ## Sequencers (R95 to R99) -/

/-- A sequencer's hidden state replaced. -/
def seqUpd (n : Fin 16) (f : Seqr → Seqr) (s : State) : State := { s with gath := { s.gath with seq := updAt s.gath.seq n f } }

/-- The word of a sequencer's present entry. -/
def seqEnt (n : Fin 16) (s : State) : Word := s.rd (Reg.GSQn_ENTe n s.gath.seq[n].entry)

/-- The present entry of a running sequencer has its KIND and CH. -/
def seqAt (n : Fin 16) (kind ch : Nat) (s : State) : Bool :=
  s.on (F.GSQn_STAT_BUSY n) && fldOf (F.GSQn_ENTe_KIND 0 0) (seqEnt n s) == kind && fldOf (F.GSQn_ENTe_CH 0 0) (seqEnt n s) == ch

/-- The samples that the present entry takes: 2^AVG (R96). -/
def seqNeed (n : Fin 16) (s : State) : Nat := 2 ^ fldOf (F.GSQn_ENTe_AVG 0 0) (seqEnt n s)

/-- A sample reaches a sequencer's present entry; its last one ends the entry (R96, R97). -/
def seqGot (n : Fin 16) (v : Int) (s : State) : State :=
  if seqNeed n s ≤ s.gath.seq[n].count then s
  else
    let s1 := seqUpd n (fun q => { q with sum := q.sum + v, count := q.count + 1 }) s
    s1.when (seqNeed n s == s.gath.seq[n].count + 1) (fun t => t.after 0 (.sequencerEntryEnd n none))

/-- A sample of a fast or M channel reaches every sequencer whose present entry names it (R96). -/
def seqFeed (kind ch : Nat) (v : Int) (s : State) : State :=
  s.each (List.finRange 16) (fun n t => if seqAt n kind ch t then seqGot n v t else t)

/-- A run starts: GEN of the run, entry 0, the timeout, whose length a later write of GSQn_TMO does not change (R96 to R98)
(DESIGN CHOICE, log entry 66). -/
def seqRun (n : Fin 16) (s : State) : State :=
  let s1 := ((seqUpd n (fun q => { q with entry := 0, gen := (s.get (F.GSQn_STAT_GEN n) + 1) % 64, sum := 0, count := 0, own := false, stop := false }) s).put
    (F.GSQn_STAT_BUSY n) 1).put (F.GSQn_STAT_PEND n) 0
  if s.get (F.GSQn_TMO_TMO n) = 0 then s1 else s1.restart (s.get (F.GSQn_TMO_TMO n) * 1000) (.sequencerTimeout n)

/-- A trigger: dropped with OVR while the sequencer runs or has a pending start (R95) (DEDUCED, log entry 54). -/
def seqTrigger (n : Fin 16) (s : State) : State :=
  if s.on (F.GSQn_STAT_BUSY n) || s.on (F.GSQn_STAT_PEND n) then s.put (F.GSQn_STAT_OVR n) 1 else seqRun n s

/-- The trigger of one kind reaches an enabled sequencer of that kind (R95). -/
def seqTrigKind (n : Fin 16) (kind : Nat) (s : State) : State :=
  if s.on (F.GSQn_CTL_EN n) && s.get (F.GSQn_CTL_TRIG n) == kind then seqTrigger n s else s

/-- Event-matrix sink 88 + j triggers every sequencer that listens to it (R95). -/
def seqSink (j : Nat) (s : State) : State :=
  s.each (List.finRange 16) (fun n t => if t.get (F.GSQn_CTL_TSEL n) = j then seqTrigKind n 1 t else t)

/-- START: GATH_ACT action 0x10 under the software-trigger rule (R90, R95). -/
def gathStart (arg : BitVec 16) (s : State) : State := seqTrigKind (Fin.ofNat 16 arg.toNat) 0 s

/-- GATH_ACT by its action code; an unlisted code sets BUSY (R90). -/
def gathAct (arg : BitVec 16) (action : Byte) (s : State) : State :=
  match action.toNat with
  | 1 => gathRotate arg s
  | 2 => gathFullcal arg s
  | 3 => gathCalslice arg s
  | 4 => gathRetire arg s
  | 5 => gathRestore arg s
  | 16 => gathStart arg s
  | _ => gRefuse s

/-- The 32-bit angle of a domain at the start of the present loop-clock cycle (R42, R43). -/
def domAngle (d : Fin 8) (s : State) : Word := s.dom[d].acc.extractLsb' 24 32

/-- The domain's accumulator at the start of the next cycle. -/
def domNextAcc (d : Fin 8) (s : State) : BitVec 56 :=
  s.dom[d].acc + BitVec.ofInt 56 (s.motion d)

/-- The domain's angle at the start of the next cycle. -/
def domNextAngle (d : Fin 8) (s : State) : Word := (domNextAcc d s).extractLsb' 24 32

/-- The way from an angle forward to a fraction of a turn, in au: 0 where the angle lies on it. -/
def turnGap (a : Word) (frac : Nat) : Nat := (frac + 2 ^ 24 - a.toNat % 2 ^ 24) % 2 ^ 24

/-- A fraction of a turn is crossed forward in a cycle from angle `a` to angle `b` (R42, R63). -/
def passes (a b : Word) (frac : Nat) : Bool := decide ((turnGap a frac : Int) < (b - a).toInt)

/-- d(X) of R63: the signed distance of an angle from a stamp. -/
def stampD (x stamp : Word) : Int := (x - stamp).toInt

/-- A stamp is crossed forward in a cycle from angle `a` to angle `b` (R63). -/
def crossedFwd (a b stamp : Word) : Bool := stampD a stamp ≤ 0 && 0 < stampD b stamp

/-- A stamp is crossed backward in a cycle from angle `a` to angle `b` (R63). -/
def crossedRev (a b stamp : Word) : Bool := 0 < stampD a stamp && stampD b stamp ≤ 0

/-- The first S + i·STEP, i ≥ 1, not yet reached by angle `b` going forward, and whether more than one step was needed (R65). -/
def advanceStamp (stamp step b : Word) : Word × Bool :=
  let k := if 0 < stampD b (stamp + step) then (stampD b stamp).toNat / step.toNat + (if (stampD b stamp).toNat % step.toNat = 0 then 0 else 1) else 1
  (stamp + BitVec.ofNat 32 (k * step.toNat), k != 1)

/-- SEQUENCER_STAMP_CROSSING: a run is triggered and the stamp advances by STEP, capped at 2^31 − 1; a STEP of 0 fires once (R95) (DEDUCED, log entry 14). -/
def seqCrossing (n : Fin 16) (s : State) : State :=
  if s.on (F.GSQn_CTL_EN n) && s.get (F.GSQn_CTL_TRIG n) == 2 && s.gath.seq[n].armable then
    let step : Word := BitVec.ofNat 32 (min (s.get (F.GSQn_STEP_STEP n)) (2 ^ 31 - 1))
    let s1 := seqTrigger n s
    if step = 0 then seqUpd n (fun q => { q with armable := false }) s1
    else s1.wr (Reg.GSQn_STAMP n) (advanceStamp (s.rd (Reg.GSQn_STAMP n)) step (domNextAngle (Fin.ofNat 8 (s.get (F.GSQn_CTL_DOM n))) s)).1
  else s

/-- A write of GSQn_STAMP makes the stamp armable; one already crossed fires in the next cycle and sets LATE, where the sequencer is enabled with
TRIG = ANGLE; elsewhere it does neither, then or at a later enable (R95) (DESIGN CHOICE, log entry 66). -/
def seqStampWrite (n : Fin 16) (v : Word) (s : State) : State :=
  let s1 := seqUpd n (fun q => { q with armable := true }) (s.wr (Reg.GSQn_STAMP n) v)
  if s.on (F.GSQn_CTL_EN n) ∧ s.get (F.GSQn_CTL_TRIG n) = 2 ∧ 0 < stampD (domAngle (Fin.ofNat 8 (s.get (F.GSQn_CTL_DOM n))) s) v then
    (s1.put (F.GSQn_STAT_LATE n) 1).after 1 (.sequencerStampCrossing n)
  else s1

/-- A write of GSQn_CTL: EN = 0 stops the run at the end of its present entry and drops a pending start; a CONT sequencer runs from
its enable (R95, R99) (DEDUCED, log entry 18). -/
def seqCtlWrite (n : Fin 16) (v : Word) (s : State) : State :=
  let was := s.on (F.GSQn_CTL_EN n)
  let s1 := s.wr (Reg.GSQn_CTL n) v
  if !s1.on (F.GSQn_CTL_EN n) then seqUpd n (fun q => { q with stop := true }) (s1.put (F.GSQn_STAT_PEND n) 0)
  else if !was && s1.get (F.GSQn_CTL_TRIG n) == 3 && !s1.on (F.GSQn_STAT_BUSY n) then seqRun n s1
  else s1

/-- KIND and CH of an entry name a listed channel (R96). -/
def entOk (v : Word) : Bool :=
  let kind := fldOf (F.GSQn_ENTe_KIND 0 0) v
  let ch := fldOf (F.GSQn_ENTe_CH 0 0) v
  match kind with
  | 0 => ch < 30
  | 1 => ch < 8
  | 2 => true
  | 3 => ch < 8
  | 4 => ch < 16 && ch % 4 ≤ 1
  | _ => false

/-- A write of GSQn_ENT[e]: ignored and flagged while EN = 1 or for a reserved KIND or CH (R99). -/
def seqEntWrite (n : Fin 16) (e : Fin 32) (v : Word) (s : State) : State :=
  if s.on (F.GSQn_CTL_EN n) || !entOk v then s.put F.GATH_FLT_BADENT 1 else s.wr (Reg.GSQn_ENTe n e) v

/-- The value of an entry from the sum of its samples, by its kind and AVG (R97). -/
def entValue (kind avg : Nat) (sum : Int) : Int :=
  let half : Int := if avg = 0 then 0 else 2 ^ (avg - 1)
  if kind = 1 ∨ kind = 3 then asr (sum * 16 + half) avg else asr (sum + half) avg

/-- A run is done: GEN, source 96 + n; the next run of a CONT sequencer is pending and starts in the next cycle (R95, R97) (DEDUCED, log entry 54). -/
def seqDone (n : Fin 16) (s : State) : State :=
  let s1 := (((s.put (F.GSQn_STAT_GEN n) s.gath.seq[n].gen).put (F.GSQn_STAT_BUSY n) 0).cancel (.sequencerTimeout n)).fire (96 + n)
  if s.on (F.GSQn_CTL_EN n) && s.get (F.GSQn_CTL_TRIG n) == 3 then s1.put (F.GSQn_STAT_PEND n) 1 else s1

/-- The level at the mux channel of a running kind-0 entry. -/
def seqLevel (n : Fin 16) (level : Option (BitVec 16)) (s : State) : State :=
  let ch := fldOf (F.GSQn_ENTe_CH 0 0) (seqEnt n s)
  if level.isSome ∧ seqAt n 0 ch s then { s with gath := { s.gath with ain := updAt s.gath.ain (Fin.ofNat 32 ch) (fun _ => level) } } else s

/-- The value that an entry's result holds: a current or a voltage of kind 4 that its 16-bit format does not hold has none, and is free (R96, R97)
(DESIGN CHOICE, log entry 66). -/
def seqFits (kind ch : Nat) (v : Int) (s : State) : Int :=
  let fits := if ch % 4 = 0 then decide (-32768 ≤ v ∧ v ≤ 32767) else decide (0 ≤ v ∧ v ≤ 65535)
  if kind = 4 ∧ !fits then (s.freeWord.toNat % 65536 : Nat) else v

/-- The end of an entry that has its samples: its VALUE, VALID, GEN and RANGE are written; the run goes on, stops where EN was cleared in the entry,
or is done; a CONT sequencer enabled anew by then starts its next run (R95, R97, R99) (DESIGN CHOICE, log entry 66). -/
def seqEntryEnd (n : Fin 16) (s : State) : State :=
  if s.on (F.GSQn_STAT_BUSY n) && seqNeed n s == s.gath.seq[n].count then
    let q := s.gath.seq[n]
    let e := q.entry
    let ent := seqEnt n s
    let kind := fldOf (F.GSQn_ENTe_KIND 0 0) ent
    let ch := fldOf (F.GSQn_ENTe_CH 0 0) ent
    let v := seqFits kind ch (entValue kind (fldOf (F.GSQn_ENTe_AVG 0 0) ent) q.sum) s
    let range := kind == 0 && ((v < s.get (F.GATH_TLIMc_LO ch)) || ((s.get (F.GATH_TLIMc_HI ch) : Int) < v))
    let s1 := (((s.draw.put (F.GSQn_RESe_VALID n e) 1).putB (F.GSQn_RESe_RANGE n e) range).put (F.GSQn_RESe_GEN n e) q.gen).putI (F.GSQn_RESe_VALUE n e) v
    let s2 := s1.when range (fun t => t.setBit F.GATH_TFLT_TFLT ch)
    if q.stop then
      ((s2.put (F.GSQn_STAT_BUSY n) 0).cancel (.sequencerTimeout n)).putB (F.GSQn_STAT_PEND n) (s.on (F.GSQn_CTL_EN n) && s.get (F.GSQn_CTL_TRIG n) == 3)
    else if fldOf (F.GSQn_ENTe_LAST 0 0) ent = 1 ∨ e = 31 then seqDone n s2
    else seqUpd n (fun q => { q with entry := e + 1, sum := 0, count := 0, own := false }) s2
  else s

/-- SEQUENCER_TIMEOUT: the run is abandoned, TMO sets, source 96 + n fires, log code 0x0008 (R98). -/
def seqTimeout (n : Fin 16) (s : State) : State :=
  if s.on (F.GSQn_STAT_BUSY n) then
    (((s.put (F.GSQn_STAT_BUSY n) 0).put (F.GSQn_STAT_TMO n) 1).fire (96 + n)).logReq 0x03 0x0008 [b8 n, b8 s.gath.seq[n].entry]
  else s

/-- The run of a CONT sequencer that was done in the last cycle starts (R95). -/
def seqPended (n : Fin 16) (s : State) : State := if s.on (F.GSQn_STAT_PEND n) then seqRun n s else s

/-! ## Telemetry converters (R94, R96, R102) -/

/-- A telemetry converter's state replaced. -/
def taUpd (c : Fin 2) (f : Ta → Ta) (s : State) : State := { s with gath := { s.gath with ta := updAt s.gath.ta c f } }

/-- Device time lies `off` × 10 ns into a slot of 1 µs at the start of the present AO cycle (R94). -/
def inSlot (off : Nat) (s : State) : Bool :=
  s.clk.ns % 10 == 0 && decide (s.clk.timeFrom ≤ s.clk.ns) && s.clk.time.toNat % 100 == off

/-- The protection channel of a converter's slot that starts now: VIN in every VINSLOT-th slot of TA0, a TMON line in every TMSLOT-th of TA1, both
within 4 to 15 (R94, R102). -/
def scanSlot (c : Fin 2) (s : State) : Option (Fin 5) :=
  let k := s.clk.time.toNat / 100
  if c = 0 then (if k % clampNat (s.get F.GATH_PSCAN_VINSLOT) 4 15 = 0 then some 0 else none)
  else if k % clampNat (s.get F.GATH_PSCAN_TMSLOT) 4 15 = 0 then some (s.gath.tmTurn.succ) else none

/-- A sequencer's present entry waits for converter `c` (R96). -/
def seqWaits (c : Fin 2) (n : Fin 16) (s : State) : Bool :=
  s.on (F.GSQn_STAT_BUSY n) && s.get (F.GSQn_CTL_TA n) == c.val && fldOf (F.GSQn_ENTe_KIND 0 0) (seqEnt n s) == 0 &&
    decide (s.gath.seq[n].count < seqNeed n s)

/-- The sequencer that gets a slot: the one whose entry holds the converter, else the lowest-numbered that waits for it (R96). -/
def seqChosen (c : Fin 2) (s : State) : Option (Fin 16) :=
  let l := (List.finRange 16).filter (fun n => seqWaits c n s)
  match l.find? (fun n => s.gath.seq[n].own) with | some n => some n | none => l.head?

/-- A sequencer's slot: the mux takes the entry's channel; before the entry's first conversion the input settles for SETTLE × 0.1 µs, from the start
of the slot in which the entry got the converter, where its channel differs from the previous one (R96) (DESIGN CHOICE, log entry 48). -/
def seqSlot (c : Fin 2) (n : Fin 16) (s : State) : State :=
  let ch := fldOf (F.GSQn_ENTe_CH 0 0) (seqEnt n s)
  let wait := if s.gath.ta[c].prev = ch then 0 else 100 * fldOf (F.GSQn_ENTe_SETTLE 0 0) (seqEnt n s)
  let s1 := if s.gath.seq[n].own then s else seqUpd n (fun q => { q with own := true, settle := s.clk.ns + wait }) s
  taUpd c (fun t => { t with prev := ch, use := if s1.gath.seq[n].settle ≤ s.clk.ns then .seq n else .idle }) s1

/-- A slot starts: the protection scan goes before the sequencers; without PD49 the converters stand (R89, R94, R96). -/
def taSlotStart (c : Fin 2) (s : State) : State :=
  if !pdOn 49 s then taUpd c (fun t => { t with use := .idle }) s
  else
    match scanSlot c s with
    | some ch =>
      let s1 := taUpd c (fun t => { t with use := .scan ch, prev := ch.val }) s
      if c = 1 then { s1 with gath := { s1.gath with tmTurn := s1.gath.tmTurn + 1 } } else s1
    | none => (match seqChosen c s with | some n => seqSlot c n s | none => taUpd c (fun t => { t with use := .idle }) s)

/-- The acquisition ends: the sample is the level of the slot's channel, a free value where no command has given it (R94)
(DESIGN CHOICE, log entry 44). -/
def taSample (c : Fin 2) (s : State) : State :=
  if s.gath.ta[c].use = .idle then s
  else taUpd c (fun t => { t with code := (s.gath.ain[Fin.ofNat 32 t.prev]).getD (s.freeWord.truncate 16) }) s.draw

/-- A slot ends: a protection result arrives, a sequencer gets its sample (R94, R96). -/
def taSlotEnd (c : Fin 2) (s : State) : State :=
  let t := s.gath.ta[c]
  match t.use with
  | .idle => taUpd c (fun t => { t with ready := none }) s
  | .scan ch =>
    let s1 := taUpd c (fun t => { t with use := .idle, ready := some ch }) s
    if h : ch.val = 0 then s1.after 0 (.vinResult t.code) else s1.after 0 (.tmonResult (Fin.ofNat 4 (ch.val - 1)) t.code)
  | .seq n =>
    let s1 := taUpd c (fun t => { t with use := .idle, ready := none }) s
    if seqWaits c n s then seqGot n t.code.toNat s1 else s1

/-- A result of the protection scan is the one that arrives now (R94). -/
def scanReady (c : Fin 2) (ch : Fin 5) (code : BitVec 16) (s : State) : Bool := s.gath.ta[c].ready == some ch && s.gath.ta[c].code == code

/-- The level at a channel of the telemetry mux from now on. -/
def setLevel (ch : Fin 32) (code : BitVec 16) (s : State) : State := { s with gath := { s.gath with ain := updAt s.gath.ain ch (fun _ => some code) } }

/-- A rail's total current reaches the sequencers that wait for it, one value a cycle: I_TOT in 1/8 A (R96) (DESIGN CHOICE, log entry 48). -/
def totFeed (r : Fin 4) (s : State) : State := seqFeed 4 (4 * r.val) (asr (s.mrv[r].iTot + 1) 1) s

/-! ## Input guards (R101) -/

/-- A motor-current input has been below range for 16 consecutive samples (R101). -/
def motorInputFault (ch : Fin 8) (s : State) : State :=
  (s.setBit F.GATH_MFLT_MFLT ch).put F.GATH_FLT_MFLT 1

/-! ## Meanings -/

/-- ROTATION_STEP_START (R82, R87, R88). -/
def execRotationStepStart (b : Fin 3) (s : State) : Out := .next (gPeriodic b s)

/-- SHADOW_COMPLETE (R83, R84). -/
def execShadowComplete (b : Fin 3) (mean : Option Int) (s : State) : Out := .next (gShadowComplete b mean s)

/-- LANE_SWAP (R83). -/
def execLaneSwap (b : Fin 3) (s : State) : Out := .next (gLaneSwap b s)

/-- CALIBRATION_COMPLETE (R85). -/
def execCalibrationComplete (b : Fin 3) (coefs : Option (List Int)) (s : State) : Out := .next (gCalComplete b coefs s)

/-- ROTATE: GATH_ACT action 0x01 (R90). -/
def execRotate (ticket : Byte) (arg : BitVec 16) (s : State) : Out := .next (s.act Reg.GATH_ACT ticket arg 1 (gathRotate arg))

/-- FULLCAL: GATH_ACT action 0x02, or long operation 0x04 with the bank in P4[1:0]; a host start that fits finds a bank busy with a rotation step and
completes BUSY (R90, R91, R385) (DESIGN CHOICE, log entry 66). -/
def execFullcal (via : Via) (s : State) : Out :=
  .next (match via with
    | .action ticket arg => s.act Reg.GATH_ACT ticket arg 2 (gathFullcal arg)
    | .host slot =>
      let bs := gBanks (BitVec.ofNat 16 (descP slot 4 s % 4 * 256))
      let records := bs.foldl (fun k b => k + gSlices b) 0
      if !s.lop[(3 : Fin 5)].running && lopAccepts 3 slot records 8 (descP slot 4 s < 4) s && bs.any (fun b => gBusy b s) then
        stageResult slot stBUSY 0 (gRefuse s)
      else lopHostStart 3 slot records 8 (descP slot 4 s < 4) (gPlanned bs s) (gFullCal bs) s)

/-- CALSLICE: GATH_ACT action 0x03 (R90). -/
def execCalslice (ticket : Byte) (arg : BitVec 16) (s : State) : Out := .next (s.act Reg.GATH_ACT ticket arg 3 (gathCalslice arg))

/-- RETIRE: GATH_ACT action 0x04 (R90). -/
def execRetire (ticket : Byte) (arg : BitVec 16) (s : State) : Out := .next (s.act Reg.GATH_ACT ticket arg 4 (gathRetire arg))

/-- RESTORE: GATH_ACT action 0x05 (R90). -/
def execRestore (ticket : Byte) (arg : BitVec 16) (s : State) : Out := .next (s.act Reg.GATH_ACT ticket arg 5 (gathRestore arg))

/-- START: GATH_ACT action 0x10 (R90, R95). -/
def execStart (ticket : Byte) (arg : BitVec 16) (s : State) : Out := .next (s.act Reg.GATH_ACT ticket arg 16 (gathStart arg))

/-- SEQUENCER_STAMP_CROSSING (R95). -/
def execSequencerStampCrossing (n : Fin 16) (s : State) : Out := .next (seqCrossing n s)

/-- SEQUENCER_ENTRY_END: an entry whose samples are complete ends; a level given with it is that of a kind-0 entry's channel from now on (R96, R97)
(DESIGN CHOICE, log entry 44). -/
def execSequencerEntryEnd (n : Fin 16) (level : Option (BitVec 16)) (s : State) : Out := .next (seqEntryEnd n (seqLevel n level s))

/-- SEQUENCER_TIMEOUT (R98). -/
def execSequencerTimeout (n : Fin 16) (s : State) : Out := .next (seqTimeout n s)

/-- SEQUENCER_DISABLE: a write of GSQn_CTL with EN = 0 (R99). -/
def execSequencerDisable (n : Fin 16) (value : Word) (s : State) : Out := .next (seqCtlWrite n (value &&& ~~~1) s)

end Sys2Proof.Machine
end

