-- ==== Sys2Proof/Machine/Rail.lean ====
section
/-!
DEFINITION. Machine/Rail.lean: what the blocks of a rail share: its phases and positions, its states, turning phases off, the low
hold of a stop, and Parison's abort (spec/04_marver.md, spec/05_protection.md, spec/06_edges.md, R217).
-/
namespace Sys2Proof.Machine

/-! ## States -/

/-- MRVr_STAT.STATE codes (R111). -/
def mOFF : Nat := 0
def mPREBIAS : Nat := 1
def mRAMP : Nat := 2
def mREG : Nat := 3
def mSTOPPED : Nat := 4

/-- EDGEr_STAT.ST codes (R180). -/
def eOFF : Nat := 0
def eENWAIT : Nat := 1
def eRUN : Nat := 2
def eHALT : Nat := 3
def eINERT : Nat := 4

/-- PROTr_STAT.PSTATE codes (R153). -/
def pNORMAL : Nat := 0
def pLIMIT : Nat := 1
def pHICWAIT : Nat := 2
def pLATCHED : Nat := 3

/-- The states of a rail's three parts. -/
def mState (r : Fin 4) (s : State) : Nat := s.get (F.MRVr_STAT_STATE r)
def eState (r : Fin 4) (s : State) : Nat := s.get (F.EDGEr_STAT_ST r)
def pState (r : Fin 4) (s : State) : Nat := s.get (F.PROTr_STAT_PSTATE r)

/-- N of a rail (R118). -/
def railN (r : Fin 4) (s : State) : Nat := s.get (F.MRVr_STAT_N r)

/-- The compensator and the loop of the rail run: RAMP or REG. -/
def mRunning (r : Fin 4) (s : State) : Bool := mState r s == mRAMP || mState r s == mREG

/-- The rail's angle domain (R49). -/
def railDom (r : Fin 4) (s : State) : Fin 8 :=
  Fin.ofNat 8 (s.get (match r with | 0 => F.ANG_RAILMAP_RAIL0DOM | 1 => F.ANG_RAILMAP_RAIL1DOM | 2 => F.ANG_RAILMAP_RAIL2DOM | 3 => F.ANG_RAILMAP_RAIL3DOM))

/-- The rails bound to a domain. -/
def domRails (d : Fin 8) (s : State) : List (Fin 4) := rails.filter (fun r => railDom r s == d)

/-- A rail is enabled: EDGEr_CTL.EN = 1 (R179). -/
def railEn (r : Fin 4) (s : State) : Bool := s.on (F.EDGEr_CTL_EN r)

/-- SYS_SPEED.HLRUN: per rail, hard loop switching (RAMP or REG). -/
def showRun (s : State) : State :=
  s.put F.SYS_SPEED_HLRUN (rails.foldl (fun m r => if mRunning r s then m + 2 ^ r.val else m) 0)

/-- The Marver engine enters a state (R111). -/
def setM (r : Fin 4) (st : Nat) (s : State) : State := showRun (s.put (F.MRVr_STAT_STATE r) st)

/-- The edge generator enters a state (R180). -/
def setE (r : Fin 4) (st : Nat) (s : State) : State := s.put (F.EDGEr_STAT_ST r) st

/-! ## Phase lists and positions (R118, R164) -/

/-- List entry `k` of a rail. -/
def listEntry (r : Fin 4) (k : Nat) (s : State) : Fin 32 :=
  Fin.ofNat 32 ((s.rd (Reg.EDGEr_LISTj r (k / 6))).toNat / 2 ^ (5 * (k % 6)) % 32)

/-- The first M entries of the list; none where M lies outside 1 to 24. -/
def railList (r : Fin 4) (s : State) : List (Fin 32) :=
  let m := s.get (F.EDGEr_MAP_M r)
  if m ≤ 24 then (List.range m).map (fun k => listEntry r k s) else []

/-- The phase is out of service (R150). -/
def phaseOos (p : Fin 32) (s : State) : Bool := s.bit F.PROT_OOS_OOS p

/-- The in-service phases in list order: positions 0 to MAV − 1 (R118). -/
def positions (r : Fin 4) (s : State) : List (Fin 32) := (railList r s).filter (fun p => !phaseOos p s)

/-- MAV of a rail (R118). -/
def mav (r : Fin 4) (s : State) : Nat := (positions r s).length

/-- The active phases: positions 0 to N − 1 (R118). -/
def active (r : Fin 4) (s : State) : List (Fin 32) := (positions r s).take (railN r s)

/-- The rail a phase serves: the one that is not OFF and has it among its first M entries (R162). -/
def railOf (p : Fin 32) (s : State) : Option (Fin 4) :=
  rails.find? (fun r => eState r s != eOFF && (railList r s).contains p)

/-- The position of a phase on a rail. -/
def posOf (r : Fin 4) (p : Fin 32) (s : State) : Option Nat := (positions r s).idxOf? p

/-! ## Hidden state -/

/-- Hidden state of a phase, an engine, a protection unit, an edge generator and a shaper replaced. -/
def phUpd (p : Fin 32) (f : Phase → Phase) (s : State) : State := { s with phase := updAt s.phase p f }
def mrvUpd (r : Fin 4) (f : Mrv → Mrv) (s : State) : State := { s with mrv := updAt s.mrv r f }
def protUpd (r : Fin 4) (f : Prot → Prot) (s : State) : State := { s with prot := updAt s.prot r f }
def edgeUpd (r : Fin 4) (f : EdgeSt → EdgeSt) (s : State) : State := { s with edge := updAt s.edge r f }
def parUpd (r : Fin 4) (f : Par → Par) (s : State) : State := { s with par := updAt s.par r f }

/-- Now, in 1/64 ns. -/
def State.now64 (s : State) : Nat := s.clk.ns * 64

/-- MINON and MINOFF of a rail in force, in ns, clamped to 10–100 (R170, R172). -/
def minOn (r : Fin 4) (s : State) : Nat := clampNat (s.lv (F.EDGEr_TIME_MINON r)) 10 100
def minOff (r : Fin 4) (s : State) : Nat := clampNat (s.lv (F.EDGEr_TIME_MINOFF r)) 10 100

/-! ## The angle ahead (R42, R63, R167) -/

/-- The turn count of an accumulator. -/
def turnOf (a : BitVec 56) : Nat := a.toNat / 2 ^ 48

/-- The fraction of an accumulator, 2^-24 au. -/
def fracOf (a : BitVec 56) : Nat := a.toNat % 2 ^ 48

/-- The domain drives the SYNC ring: the role in force is MASTER and MDOM names it (R69, R72). -/
def ringMaster (d : Fin 8) (s : State) : Bool := s.sync.role == 1 && s.get F.ANG_SYNCCTL_MDOM == d.val

/-- A committed rate whose write completed before a cycle (R27). -/
def readyRate (d : Fin 8) (now : Nat) (s : State) : Option Nat := (s.dom[d].pendRate.find? (fun p => p.2 < now)).map (·.1)

/-- The rate that the domain's next turn boundary loads, at a cycle: on a MASTER the one signalled a turn before, on a follower the one that a decoded
CHANGE applies there, else the committed one; the tracked one where there is none of these (R27, R48, R52, R56, R72). -/
def dueRate (d : Fin 8) (now : Nat) (s : State) : Option Nat :=
  let x := s.dom[d]
  let first := if ringMaster d s then x.ringRate else if x.chgIn = 1 then x.chgRate else readyRate d now s
  first.orElse (fun _ => x.nextRate)

/-- A boundary of a domain falls in the present cycle (R42). -/
def boundaryNow (d : Fin 8) (s : State) : Bool := s.on (F.ANGn_CTL_EN d) && passes (domAngle d s) (domNextAngle d s) 0

/-- The turn count at the end of the present cycle, its boundary counted where one falls inside it. -/
def turnNow (d : Fin 8) (s : State) : Nat :=
  let a := s.dom[d].acc
  (turnOf a + (if boundaryNow d s && decide (2 ^ 24 ≤ fracOf a) then 1 else 0)) % 256

/-- The angle at the start of the cycle `n` ahead and its travel in that cycle, as projected in the present one: a rate that the next boundary
loads counts where it was fixed at least four cycles before that boundary (R167). -/
def projected (d : Fin 8) (s : State) : Nat → BitVec 56 × Int
  | 0 => (s.dom[d].acc, s.motion d)
  | n + 1 =>
    let p := projected d s n
    let a := p.1 + BitVec.ofInt 56 p.2
    let at_ := s.clk.ns + n + (if fracOf a < 2 ^ 24 then 1 else 0)
    if turnOf a = turnNow d s then (a, s.dom[d].rate)
    else if turnOf p.1 ≠ turnNow d s then (a, p.2)
    else (a, if s.dom[d].fixAt + 4 ≤ at_ then ((dueRate d at_ s).map (fun (v : Nat) => (v : Int))).getD s.dom[d].rate else s.dom[d].rate)

/-! ## Turning phases off -/

/-- A phase that is HIGH goes LOW at an instant in 1/64 ns; its minimum off-time begins there. Whether it then goes to MID is the caller's (R141, R172). -/
def phaseOffAt (r : Fin 4) (p : Fin 32) (t64 : Nat) (s : State) : State :=
  let s1 := (s.cancel (.offEdge p)).cancel (.gloryGlmaxRelease p)
  let t := t64 + 64 * minOff r s
  if s.phase[p].out = .high then
    (phUpd p (fun h => { h with out := .low, offT := none, stretch := false, offPending := false, minOff := true, minOffT := t, forced := false }) s1).restart
      ((t + 63) / 64 - s.clk.ns) (.minOffTimeEnd p)
  else phUpd p (fun h => { h with forced := false }) s1

/-- A phase that is HIGH goes LOW at once (R141, R172). -/
def phaseOff (r : Fin 4) (p : Fin 32) (s : State) : State := phaseOffAt r p s.now64 s

/-- A phase within its minimum on-time. -/
def inMinOn (r : Fin 4) (p : Fin 32) (s : State) : Bool :=
  s.phase[p].out == .high && decide (s.now64 < s.phase[p].onT + 64 * minOn r s)

/-- A phase turns off at once, or as soon as its minimum on-time ends (R125, R181). -/
def phaseOffMinOn (r : Fin 4) (p : Fin 32) (s : State) : State :=
  if inMinOn r p s then
    (phUpd p (fun h => { h with offPending := true, forced := false }) (s.cancel (.gloryGlmaxRelease p))).restart ((s.phase[p].onT + 64 * minOn r s - s.now64 + 63) / 64) (.minOnTimeEnd p)
  else phaseOff r p s

/-- OVACT as it acts: 3 acts as 1 (R125). -/
def ovAct (r : Fin 4) (s : State) : Nat := if s.lv (F.MRVr_CFG_OVACT r) = 3 then 1 else s.lv (F.MRVr_CFG_OVACT r)

/-- A phase that is no longer active goes to MID after its minimum off-time, and its carry clears (R120, R122, R174). -/
def settle (r : Fin 4) (p : Fin 32) (s : State) : State :=
  if (active r s).contains p ∨ s.phase[p].held.isSome then s
  else phUpd p (fun h => { h with carry := 0, toMid := h.minOff, out := if h.minOff || h.out == .high then h.out else .mid }) s

/-- A phase's output falls at an instant: LOW, or MID under blanking with OVACT = 2 (R125, R176). -/
def fallAt (r : Fin 4) (p : Fin 32) (t64 : Nat) (s : State) : State :=
  let s1 := settle r p (phaseOffAt r p t64 s)
  if s.on (F.MRVr_STAT_OVBLK r) ∧ ovAct r s = 2 ∧ s1.phase[p].held.isNone ∧ s1.phase[p].out = .low then phUpd p (fun h => { h with out := .mid }) s1 else s1

/-- A phase's output falls at once. -/
def fall (r : Fin 4) (p : Fin 32) (s : State) : State := fallAt r p s.now64 s

/-- The phases a stop acts on: active or Glory-forced (R144). -/
def stopPhases (r : Fin 4) (s : State) : List (Fin 32) :=
  (railList r s).filter (fun p => (active r s).contains p || s.phase[p].forced)

/-- A phase enters the low hold of a stop: LOW for a full MINOFF from now, then MID; its carry and its committed pulse are dropped (R144, R174). -/
def holdPhase (r : Fin 4) (p : Fin 32) (s : State) : State :=
  (phUpd p (fun h => { h with
      out := if h.offPending then h.out else .low, offT := none, commit := none, quiet := false, slotT := none, carry := 0, forced := false, limited := false
      held := some r, toMid := true, minOff := true, minOffT := s.now64 + 64 * minOff r s }) s).restart (minOff r s) (.minOffTimeEnd p)

/-- The end of the low hold: the held phases go to MID and ENr goes low, unless it has risen anew since (R144, R163, R181, R184). -/
def holdEnd (r : Fin 4) (s : State) : State :=
  let s1 := s.each (List.finRange 32) (fun p t =>
    if t.phase[p].held = some r then (phUpd p (fun h => { h with out := .mid, held := none, toMid := false, minOff := false }) t).cancel (.minOffTimeEnd p) else t)
  let s2 := edgeUpd r (fun e => { e with lowHold := false }) s1
  if (s.edge[r].roseAt).isSome ∨ eState r s = eRUN then s2 else s2.put (F.EDGEr_STAT_ENOUT r) 0

/-- The low hold of a stop, a disable or an inert entry: the rail's active and forced phases turn off, at once or after their
minimum on-time, and hold LOW; ENr stays high until the last hold ends. With no phase to hold, and none still held by an earlier stop, it is over at once and ENr goes low
(R144, R163, R181, R184) (DEDUCED, log entry 19). -/
def lowHold (r : Fin 4) (obeyMinOn : Bool) (s : State) : State :=
  let ps := stopPhases r s
  let wait := if obeyMinOn then
      ps.foldl (fun m p => if inMinOn r p s then max m ((s.phase[p].onT + 64 * minOn r s - s.now64 + 63) / 64) else m) 0
    else 0
  let s1 := s.each ps (fun p t => holdPhase r p (if obeyMinOn then phaseOffMinOn r p t else phaseOff r p t))
  let s2 := edgeUpd r (fun e => { e with lowHold := true, holdUntil := s.clk.ns + wait + minOff r s, enAt := none, roseAt := none }) s1
  if !ps.isEmpty then s2.restart (wait + minOff r s) (.stopLowHoldEnd r)
  else if (List.finRange 32).any (fun p => s.phase[p].held == some r) then edgeUpd r (fun e => { e with holdUntil := s.edge[r].holdUntil }) s2
  else (holdEnd r s2).put (F.EDGEr_STAT_ENOUT r) 0

/-- A pending shadow value of a rail's group: its own, or an EDGE_PTRIM of a phase of its list (R127, R187). -/
def shadowMine (r : Fin 4) (p : Shadow) (s : State) : Bool :=
  p.rail == r.val || (p.rail == 5 && (railList r s).contains (Fin.ofNat 32 ((p.addr - Reg.EDGE_PTRIMp 0) / 4)))

/-- MRVr_UPD.PEND of every rail (R127, R187). -/
def showPends (s : State) : State := s.each rails (fun r t => t.putB (F.MRVr_UPD_PEND r) (t.shadow.any (fun p => shadowMine r p t)))

/-! ## Engine entries -/

/-- I_TOT: the sum of the latest balance samples of the rail's active phases, 1/16 A (R105). -/
def iTotOf (r : Fin 4) (s : State) : Int := (active r s).foldl (fun m p => m + s.phase[p].ibal) 0

/-- N of a rail set; I_TOT follows the active phases (R105, R118). -/
def setN (r : Fin 4) (n : Nat) (s : State) : State :=
  let s1 := s.put (F.MRVr_STAT_N r) n
  mrvUpd r (fun m => { m with iTot := iTotOf r s1 }) s1

/-- A Glory episode ends in every way but a release of UNDERSHOOT being counted; every forced phase is released by the caller. -/
def gloryStop (r : Fin 4) (s : State) : State :=
  mrvUpd r (fun m => { m with glory := { m.glory with active := false } }) (s.put (F.MRVr_STAT_GLACT r) 0)

/-- An episode that ends: the hold starts, EP counts, log code 0x0001 (R123, R129). -/
def gloryEnd (r : Fin 4) (s : State) : State :=
  if s.mrv[r].glory.active then
    let g := s.mrv[r].glory
    let s1 := (s.inc (F.MRVr_GLCNT_EP r)).logReq 0x04 0x0001
      ([b8 r] ++ bytesOfNat 2 (min (s.clk.ns - g.start) 65535) ++ [b8 g.forced, b8 g.skips, b8 g.glmax, b8 g.nStart])
    gloryStop r (mrvUpd r (fun m => { m with glory := { m.glory with hold := s.lv (F.MRVr_GL_GLHOLD r) } }) (s1.cancel (.gloryWalkerStep r)))
  else s

/-- The engine leaves its running states: N is 0, the slew timer stops, and the pipeline's requests are dropped (R103, R111) (DESIGN CHOICE, log entry 63). -/
def mLeave (r : Fin 4) (st : Nat) (s : State) : State :=
  mrvUpd r (fun m => { m with pipe := [] }) (setM r st (setN r 0 ((gloryEnd r s).cancel (.slewStep r))))

/-! ## Parison's abort (R217) -/

/-- Parison of the rail aborts: P = 0 with no transfer, IDLE, the pending slot clears, log code 0x0007 with the cause; with nothing
armed or pending it has no effect (R217). -/
def parAbort (r : Fin 4) (cause : Nat) (s : State) : State :=
  if s.get (F.PARr_STAT_STATE r) ≠ 0 ∨ (s.par[r].pend).isSome then
    let s1 := s.logReq 0x07 0x0007 [b8 r, b8 (s.get (F.PARr_STAT_STATE r)), b8 cause]
    let s2 := ((((s1.put (F.PARr_STAT_STATE r) 0).put (F.PARr_STAT_PEND r) 0).put (F.PARr_STAT_NPAR r) 0).put (F.PARr_P_P r) 0).cancel (.handoff r)
    parUpd r (fun q => { q with fc := none, pend := none, raised := false, p := 0 }) s2
  else s

/-! ## Freeze -/

/-- A freeze ends (R183). -/
def freezeEnd (r : Fin 4) (s : State) : State :=
  (s.put (F.EDGEr_STAT_FRZ r) 0).put (F.EDGEr_STAT_FRZLEFT r) 0

/-- A running RINGTEST on the rail ends FAILED: a stop, disable, inert entry or freeze (R387). -/
def ringtestFail (r : Fin 4) (s : State) : State :=
  if s.lop[(0 : Fin 5)].running && s.ring.rail == r then lopEnd 0 lopFAILED s else s

/-- The sensed voltage of a rail in 50 uV: V_DAC + E, rounded to the nearest code (R96). -/
def sensed (r : Fin 4) (s : State) : Nat := ((s.get (F.MRVr_ILF_VT r) : Int) + asr (s.mrv[r].e * 125 + 64) 7).toNat

end Sys2Proof.Machine
end

