-- ==== Sys2Proof/Machine/Prot.lean ====
section
/-!
DEFINITION. Machine/Prot.lean: rail protection (spec/05_protection.md, R132 to R160): conditions, declarations, limiting, stops, hiccup,
latch, phases out of service and PROT_ACT.
-/
namespace Sys2Proof.Machine

/-! ## Detectors (R132, R135) -/

/-- The response code of fault `f` (R137). -/
def respOf (r : Fin 4) (f : Nat) (s : State) : Nat := (s.rd (Reg.PROTr_RESP r)).toNat / 8 ^ f % 8

/-- The condition of fault `f` is present (PROTr_STAT.COND). -/
def condOn (r : Fin 4) (f : Nat) (s : State) : Bool := s.bit (F.PROTr_STAT_COND r) f

/-- A COND bit set to a truth value. -/
def condPut (r : Fin 4) (f : Nat) (b : Bool) (s : State) : State := s.putBit (F.PROTr_STAT_COND r) f b

/-- The engine state that detectors 0 to 3 and 8 see; detector 1's blanking is seen as RAMP (R135). -/
def detState (r : Fin 4) (s : State) : Nat := if mState r s = mREG ∧ s.prot[r].uvBlank then mRAMP else mState r s

/-- The detector of fault `f` acts in an engine state: 0 to 3 and 8 in PREBIAS, RAMP and REG, 1 only in REG after its blanking, 0 not while fault 8 is
present; 4 to 7 and 9 while the rail is enabled (R135, R136). -/
def detIn (r : Fin 4) (f st : Nat) (s : State) : Bool :=
  let runs := st == mPREBIAS || st == mRAMP || st == mREG
  if f = 1 then st == mREG
  else if f = 0 then runs && !condOn r 8 s
  else if f = 2 ∨ f = 3 ∨ f = 8 then runs
  else railEn r s

/-- The detector of fault `f` acts and holds its condition. -/
def detAct (r : Fin 4) (f : Nat) (s : State) : Bool := detIn r f (detState r s) s

/-- The rail was stopped in the present cycle: a fault that its detectors find in that cycle, and that was absent before, is declared with the others
(R151). Fault 2 is judged by phase. -/
def detStill (r : Fin 4) (f : Nat) (s : State) : Bool :=
  s.prot[r].stopIn == some s.clk.ns && !detAct r f s && detIn r f s.prot[r].stopM s && (f == 2 || !s.prot[r].stopCond.testBit f)

/-- A persistence timer that started at `since` runs out in the present cycle. -/
def dueNow (since : Option Nat) (len : Nat) (s : State) : Bool := match since with | some t => decide (t + len ≤ s.clk.ns) | none => false

/-- OVPERS and UVPERS in ns (R132). -/
def ovPers (r : Fin 4) (s : State) : Nat := zeroAsOne (s.get (F.PROTr_VTH_OVPERS r)) * 100
def uvPers (r : Fin 4) (s : State) : Nat := zeroAsOne (s.get (F.PROTr_VTH_UVPERS r)) * 1000

/-- Some fault whose response is HICCUP or LATCH_OFF is present (R147, R155). -/
def stopPresent (r : Fin 4) (s : State) : Bool := (List.range 10).any (fun f => condOn r f s && 3 ≤ respOf r f s)

/-- Detectors 0 to 3 and 8 fall idle: conditions absent, timers and counts cleared, limits ended. A timer that runs out in the cycle of a stop
still does (R135, R151). -/
def idleFast (r : Fin 4) (s : State) : State :=
  let q := s.prot[r]
  let ov := q.stopIn == some s.clk.ns && !condOn r 0 s && dueNow q.ovSince (ovPers r s) s
  let uv := q.stopIn == some s.clk.ns && !condOn r 1 s && dueNow q.uvSince (uvPers r s) s
  let s1 := condPut r 8 false (condPut r 3 false (condPut r 2 false (condPut r 1 false (condPut r 0 false s))))
  let s2 := ((s1.when (!ov) (fun t => t.cancel (.ovPersistence r))).when (!uv) (fun t => t.cancel (.uvPersistence r))).cancel (.uvBlankExpiry r)
  let s3 := protUpd r (fun q => { q with
    ovSince := if ov then q.ovSince else none, uvSince := if uv then q.uvSince else none, uvBlank := false, satPos := false, tocLimit := false }) s2
  s3.each (railList r s) (fun p => phUpd p (fun h => { h with oc := false, limited := false }))

/-- Every detector falls idle at a disable; flags keep their values (R135). -/
def idleAll (r : Fin 4) (s : State) : State :=
  let s1 := (idleFast r s).put (F.PROTr_STAT_COND r) 0
  let s2 := ((s1.cancel (.sfFilterExpiry r true)).cancel (.sfFilterExpiry r false)).cancel (.tmonTimeout r)
  let s3 := protUpd r (fun q => { q with
    otHi := 0, otLo := 0, otwHi := 0, otwLo := 0, vinLo := 0, vinHi := 0, tmLo := 0, tmHi := 0, ot := false, otw := false, vin := false, vinTmo := false }) s2
  (s3.put (F.PROTr_STAT_TMLOW r) 0).each (railList r s) (fun p => phUpd p (fun h => { h with imo := false }))

/-- An event source of a rail, raised at most once in a loop-clock cycle (R151, R157). -/
def protFire (r : Fin 4) (i : Nat) (s : State) : State :=
  let seen := if s.prot[r].evAt = s.clk.ns then s.prot[r].evSet else 0
  if seen.testBit i then s
  else protUpd r (fun q => { q with evAt := s.clk.ns, evSet := seen + 2 ^ i }) (s.fire (112 + 4 * r.val + i))

/-! ## Stops (R144 to R149) -/

/-- The rail's protection state. -/
def setP (r : Fin 4) (p : Nat) (s : State) : State := s.put (F.PROTr_STAT_PSTATE r) p

/-- LCNT returns to 0 and any LIMIT response of the rail ends (R151). -/
def limEnd (r : Fin 4) (s : State) : State :=
  (protUpd r (fun q => { q with engaged := false, tocLimit := false }) (s.put (F.PROTr_STAT_LCNT r) 0)).each (railList r s)
    (fun p => phUpd p (fun h => { h with limited := false }))

/-- A stop: in the cycle of the declaration every active or forced phase turns off and holds LOW, the engine enters STOPPED and the
rail HALT, the stop source fires and STOPS counts. A rail already INERT keeps its state and its outputs (R144, R183, R186, R217). -/
def railStop (r : Fin 4) (byOv : Bool) (s : State) : State :=
  let s1 := ((limEnd r s).inc (F.PROTr_CNT_STOPS r)).cancel (.hicokExpiry r)
  let first := s.prot[r].stopIn != some s.clk.ns
  let s2 := protUpd r (fun q => { q with
    stopAt := s.clk.ns, stopIn := some s.clk.ns, stopOv := byOv && s.on (F.GATH_CMPr_STAT_OVNOW r)
    stopM := if first then detState r s else q.stopM, stopCond := if first then s.get (F.PROTr_STAT_COND r) else q.stopCond
    stopN := if first then railN r s else q.stopN
    stopOc := if first then (railList r s).filter (fun p => s.phase[p].oc && (respOf r 2 s != 2 || s.phase[p].limited)) else q.stopOc
    stopHcnt := if first then s.get (F.PROTr_STAT_HCNT r) else q.stopHcnt
    stopLim := if first then s.get (F.PROTr_STAT_LCNT r) == 0 && (!q.engaged || q.engagedAt == s.clk.ns) else q.stopLim }) (protFire r 2 s1)
  if eState r s = eINERT then s2
  else
    setE r eHALT (freezeEnd r (parAbort r 1 (ringtestFail r (idleFast r (mLeave r mSTOPPED (lowHold r false s2))))))

/-- The rail enters LATCHED (R149). -/
def railLatch (r : Fin 4) (s : State) : State := protFire r 3 ((setP r pLATCHED s).put (F.PROTr_FLAG_LATF r) 1)

/-- A HICCUP stop: HICWAIT with one more retry counted, or a latch once the retries are spent; a stop caused only by fault 7 uses
no retry (R146). -/
def hiccup (r : Fin 4) (onlyVin : Bool) (s : State) : State :=
  let hicn := s.get (F.PROTr_HIC_HICN r)
  let hcnt := s.get (F.PROTr_STAT_HCNT r)
  if onlyVin then setP r pHICWAIT s
  else if hcnt = hicn ∧ hicn ≠ 15 then railLatch r (s.logReq 0x05 0x0004 [b8 r, b8 hicn])
  else setP r pHICWAIT (s.put (F.PROTr_STAT_HCNT r) (min 15 (hcnt + 1)))

/-- The response HICCUP (3) or LATCH_OFF (4) acts as the protection state allows. In the cycle of a HICCUP stop a LATCH_OFF takes its place and its
retry is not used, a fault besides fault 7 uses one, and fault 0 makes it an overvoltage stop (R144, R146, R149, R151, R152, R153). -/
def respond (r : Fin 4) (code : Nat) (onlyVin byOv : Bool) (s0 : State) : State :=
  let same := s0.prot[r].stopIn == some s0.clk.ns
  let s := s0.when (same && byOv) (fun t => protUpd r (fun q => { q with stopOv := q.stopOv || t.on (F.GATH_CMPr_STAT_OVNOW r) }) t)
  if pState r s = pLATCHED then s
  else if pState r s = pHICWAIT then
    if code = 4 then railLatch r (s.when same (fun t => t.put (F.PROTr_STAT_HCNT r) s.prot[r].stopHcnt))
    else if same && s.prot[r].stopVin && !onlyVin then hiccup r false (protUpd r (fun q => { q with stopVin := false }) s)
    else protUpd r (fun q => { q with hicAt := some s.clk.ns, hicVin := onlyVin && (q.hicVin || q.hicAt != some s.clk.ns) }) s
  else
    let s1 := railStop r byOv s
    if code = 4 then railLatch r s1 else protUpd r (fun q => { q with stopVin := onlyVin }) (hiccup r onlyVin s1)

/-! ## Declarations (R136, R142, R151) -/

/-- A fault declared in the present cycle: its ID, its phase (0xFF for rail faults) and its measured value (R158). -/
structure Decl where
  id : Nat
  ph : Nat
  val : Int
deriving DecidableEq, Repr

/-- The faults declared on a rail in the present cycle, as a mask (R151). -/
def declNow (r : Fin 4) (s : State) : Nat := if s.prot[r].declAt = s.clk.ns then s.prot[r].declSet else 0

/-- A log entry that is the declaration of fault `f` on a rail (R158). -/
def declLog (r : Fin 4) (f : Nat) (e : LogEntry) : Bool := e.block == 0x05 && e.code == 0x0001 && e.data.take 2 == [b8 r, b8 f]

/-- The newest entry of a list put before the last earlier one that satisfies a condition. -/
def lastBefore (c : LogEntry → Bool) (l : List LogEntry) : List LogEntry :=
  match l.reverse with
  | [] => []
  | e :: t =>
    match t.dropWhile (fun x => !c x) with
    | [] => l
    | y :: u => u.reverse ++ [e, y] ++ (t.takeWhile (fun x => !c x)).reverse

/-- The flag and the log entry of one declared fault; the entries of one cycle stand in ascending ID order (R151, R158). -/
def declOne (r : Fin 4) (d : Decl) (s : State) : State :=
  let above := (List.range 10).find? (fun f => decide (d.id < f) && (declNow r s).testBit f)
  let s1 := (railAttn r (s.setBit (F.PROTr_FLAG_DECL r) d.id)).logReq 0x05 0x0001
    ([b8 r, b8 d.id, b8 (respOf r d.id s), b8 d.ph] ++ bytesOfNat 2 (ofSigned 16 d.val))
  let s2 : State := match above with
    | some f => { s1 with log := { s1.log with reqs := lastBefore (declLog r f) s1.log.reqs } }
    | none => s1
  protUpd r (fun q => { q with declAt := s.clk.ns, declSet := declNow r s ||| 2 ^ d.id }) s2

/-- The faults declared in one cycle, in ascending ID order: flags and logs, each event source once, the highest response (R151) (DESIGN CHOICE, log entry 13). -/
def declare (r : Fin 4) (ds : List Decl) (s : State) : State :=
  let top := ds.foldl (fun m d => max m (respOf r d.id s)) 0
  let s1 := s.each ds (fun d => declOne r d)
  let s2 := s1.when (decide (1 ≤ top)) (protFire r 0)
  let s3 := s2.when (ds.any (fun d => respOf r d.id s == 2)) (protFire r 1)
  let stopping := ds.filter (fun d => 3 ≤ respOf r d.id s)
  if 3 ≤ top then respond r top (stopping.all (fun d => d.id == 7)) (stopping.any (fun d => d.id == 0)) s3 else s3

/-- The condition of a fault whose response is not LIMIT is found present or absent; it is declared as it becomes present (R132,
R135). -/
def setCond (r : Fin 4) (f : Nat) (present : Bool) (val : Int) (s : State) : State :=
  if detStill r f s && present && !(declNow r s).testBit f then declare r [⟨f, 255, val⟩] s
  else if !detAct r f s || condOn r f s == present then s
  else if present then declare r [⟨f, 255, val⟩] (condPut r f true s)
  else condPut r f false s

/-- A LIMIT response engages: LIMENG counts, the rail is in LIMIT, and the fault is declared if the turn's first engagement with
LCNT = 0 falls in this cycle (R142, R143, R153). -/
def engage (r : Fin 4) (d : Decl) (s : State) : State :=
  let first := !s.prot[r].engaged || s.prot[r].engagedAt == s.clk.ns
  let s1 := (s.inc (F.PROTr_CNT_LIMENG r)).when (pState r s == pNORMAL) (setP r pLIMIT)
  let s2 := protUpd r (fun q => { q with engaged := true, engagedAt := if q.engaged then q.engagedAt else s.clk.ns }) s1
  if s.get (F.PROTr_STAT_LCNT r) = 0 ∧ first then declare r [d] s2 else s2

/-- A walker that has stopped looks again in the present cycle (R121). -/
def gloryKick (r : Fin 4) (s : State) : State :=
  if s.mrv[r].glory.active && !s.armed (.gloryWalkerStep r) then s.after 0 (.gloryWalkerStep r) else s

/-- A protection turn-off of a phase: at once, its minimum on-time ignored; a forced phase is released, and a phase that is not active then goes to
MID (R120, R122, R141). -/
def protOff (r : Fin 4) (p : Fin 32) (s : State) : State := (fall r p s).when s.phase[p].forced (gloryKick r)

/-! ## Fault 0: overvoltage (R132, R136) -/

/-- The OV persistence timer starts where detector 0 acts and OVERSHOOT is asserted. -/
def ovStart (r : Fin 4) (s : State) : State :=
  if detAct r 0 s && s.on (F.GATH_CMPr_STAT_OVNOW r) && !condOn r 0 s then
    (protUpd r (fun q => { q with ovSince := some s.clk.ns }) s).restart (ovPers r s) (.ovPersistence r)
  else s

/-- OVERSHOOT has released: the timer is dropped and the condition is absent. -/
def ovEnd (r : Fin 4) (s : State) : State :=
  condPut r 0 false ((protUpd r (fun q => { q with ovSince := none }) s).cancel (.ovPersistence r))

/-- OV_PERSISTENCE: OVERSHOOT has been asserted continuously for OVPERS (R132). -/
def ovDue (r : Fin 4) (s : State) : State :=
  let s1 := if (s.prot[r].ovSince).isSome && s.on (F.GATH_CMPr_STAT_OVNOW r) then setCond r 0 true s.mrv[r].e s else s
  if detAct r 0 s1 then s1 else protUpd r (fun q => { q with ovSince := none }) s1

/-! ## Fault 1: undervoltage (R132, R135) -/

/-- UVC in V-bank LSB; UVF acts within 10 to 99 mV. -/
def uvc (r : Fin 4) (s : State) : Nat := clampNat (s.get (F.PROTr_VTH_UVF r)) 10 99 * 2048 / 100

/-- A merged sample reaches detector 1 (R132). -/
def uvSample (r : Fin 4) (e : Int) (s : State) : State :=
  if !detAct r 1 s then s
  else if e ≤ -(uvc r s : Int) then
    (if (s.prot[r].uvSince).isSome then s
     else (protUpd r (fun q => { q with uvSince := some s.clk.ns }) s).restart (uvPers r s) (.uvPersistence r))
  else setCond r 1 false e ((protUpd r (fun q => { q with uvSince := none }) s).cancel (.uvPersistence r))

/-- UV_PERSISTENCE: every merged sample has been at or below −UVC for UVPERS (R132). -/
def uvDue (r : Fin 4) (s : State) : State :=
  let s1 := if (s.prot[r].uvSince).isSome then setCond r 1 true s.mrv[r].e s else s
  if detAct r 1 s1 then s1 else protUpd r (fun q => { q with uvSince := none }) s1

/-- A timer that runs keeps its start across a change of its length (R138). -/
def retimed (since len : Nat) (c : Instr) (s : State) : State := s.restart (since + len - s.clk.ns) c

/-- UVBLANK and HICOK in ns (R135, R148). -/
def uvBlankNs (r : Fin 4) (s : State) : Nat := s.get (F.PROTr_VTH_UVBLANK r) * 10000
def hicokNs (r : Fin 4) (s : State) : Nat := zeroAsOne (s.get (F.PROTr_HIC_HICOK r)) * 1000000

/-- PROTr_VTH has been written: the timers that run keep their elapsed time (R138). -/
def vthWritten (r : Fin 4) (s : State) : State :=
  let s1 := match s.prot[r].ovSince with
    | some t => if condOn r 0 s then s else retimed t (ovPers r s) (.ovPersistence r) s
    | none => s
  let s2 := match s.prot[r].uvSince with
    | some t => if condOn r 1 s then s1 else retimed t (uvPers r s) (.uvPersistence r) s1
    | none => s1
  if s.prot[r].uvBlank then retimed s.prot[r].regAt (uvBlankNs r s) (.uvBlankExpiry r) s2 else s2

/-- PROTr_HIC has been written: a HICOK time that runs keeps its elapsed time (R138). -/
def hicWritten (r : Fin 4) (s : State) : State :=
  if s.armed (.hicokExpiry r) then retimed s.prot[r].regAt (hicokNs r s) (.hicokExpiry r) s else s

/-- The entry to REG starts the blanking of detector 1 and the HICOK time (R135, R148). -/
def regEntered (r : Fin 4) (s : State) : State :=
  let blank := decide (uvBlankNs r s ≠ 0)
  let s1 := (protUpd r (fun q => { q with uvBlank := blank, regAt := s.clk.ns }) s).restart (hicokNs r s) (.hicokExpiry r)
  if blank then s1.restart (uvBlankNs r s) (.uvBlankExpiry r) else s1

/-! ## Faults 2 and 3: overcurrent (R132, R139, R140) -/

/-- A sample of an active or forced phase reaches detector 2; under LIMIT the phase turns off for the rest of the turn, and engages anew in each
turn in which a sample does. In the cycle of a stop the fault is declared besides (R132, R139, R142, R151). -/
def phocSample (r : Fin 4) (p : Fin 32) (i : Int) (s : State) : State :=
  let high := decide ((s.get (F.PROTr_ITH_PHOC r) * 8 : Nat) ≤ i)
  let lim := respOf r 2 s == 2
  if detStill r 2 s then
    if high && s.phase[p].held == some r && !s.prot[r].stopOc.contains p && (!lim || s.prot[r].stopLim) then declare r [⟨2, p, i⟩] (s.when lim (fun t => t.inc (F.PROTr_CNT_LIMENG r)))
    else s
  else if !detAct r 2 s then s
  else
    let mine := (active r s).contains p || s.phase[p].forced
    let hit := mine && high
    let s1 := phUpd p (fun h => { h with oc := hit }) (s.when (hit && lim) (fun t => phUpd p (fun h => { h with limited := true }) (protOff r p t)))
    let s2 := condPut r 2 ((railList r s1).any (fun q => s1.phase[q].oc)) s1
    if hit && lim && (!s.phase[p].oc || !s.phase[p].limited) then engage r ⟨2, p, i⟩ s2
    else if hit && !lim && !s.phase[p].oc then declare r [⟨2, p, i⟩] s2
    else s2

/-- Fault 3 limits: every phase that is on turns off and no on-edge starts until it is absent (R140). -/
def tocEngage (r : Fin 4) (i : Int) (s : State) : State :=
  engage r ⟨3, 255, i⟩ ((protUpd r (fun q => { q with tocLimit := true }) s).each (railList r s)
    (fun p t => if t.phase[p].out = .high then protOff r p t else t))

/-- I_TOT as detector 3 sees it in the cycle of a stop: that of the phases which were active until then (R105, R151). -/
def iTotSeen (r : Fin 4) (s : State) : Int :=
  if detStill r 3 s then ((positions r s).take s.prot[r].stopN).foldl (fun m p => m + s.phase[p].ibal) 0 else s.mrv[r].iTot

/-- Detector 3 looks at I_TOT: at a balance sample, where N or the phases in service change, and in the cycle after a write of its thresholds or its
response. Fault 3 limits too where its response is written LIMIT while it is present; in the cycle of a stop it is declared besides
(R105, R132, R138, R140, R151) (DEDUCED, log entry 68). -/
def tocSample (r : Fin 4) (s : State) : State :=
  let i := iTotSeen r s
  let ilim : Int := s.get (F.PROTr_ITH_ILIM r) * 16
  let hys : Int := s.get (F.PROTr_ITH_ILHYS r) * 16
  let lim := respOf r 3 s == 2
  if detStill r 3 s then
    if decide (ilim ≤ i) && !(declNow r s).testBit 3 && (!lim || s.prot[r].stopLim) then
      declare r [⟨3, 255, i⟩] (s.when lim (fun t => t.inc (F.PROTr_CNT_LIMENG r)))
    else s
  else if !detAct r 3 s then s
  else if !condOn r 3 s then
    if i < ilim then s else if lim then tocEngage r i (condPut r 3 true s) else declare r [⟨3, 255, i⟩] (condPut r 3 true s)
  else if i < ilim - hys then gloryKick r (protUpd r (fun q => { q with tocLimit := false }) (condPut r 3 false s))
  else if lim && !s.prot[r].tocLimit then tocEngage r i s
  else s

/-- Detectors 2 and 3 in the cycle after a write of PROTr_ITH or PROTr_RESP: a phase over PHOC whose response has become LIMIT turns off
(R138, R139, R140) (DEDUCED, log entry 68). -/
def limitFollow (r : Fin 4) (s0 : State) : State :=
  match s0.prot[r].limAt with
  | none => s0
  | some t =>
    if s0.clk.ns ≤ t then s0
    else
      let s := protUpd r (fun q => { q with limAt := none }) s0
      let ps := if respOf r 2 s = 2 ∧ detAct r 2 s then (railList r s).filter (fun p => s.phase[p].oc && s.phase[p].out == .high) else []
      tocSample r (s.each ps (fun p u =>
        engage r ⟨2, p, u.phase[p].isamp⟩ (phUpd p (fun h => { h with limited := true }) (protOff r p u))))

/-- PROTr_ITH or PROTr_RESP has been written: detectors 2 and 3 look again in the next loop-clock cycle (R138). -/
def limitWritten (r : Fin 4) (s : State) : State := protUpd r (fun q => { q with limAt := some s.clk.ns }) s

/-- A LIMIT response holds the phase or its rail off (R139, R140). -/
def limitHolds (r : Fin 4) (p : Fin 32) (s : State) : Bool := s.prot[r].tocLimit || s.phase[p].limited

/-! ## Faults 4 to 7 (R132, R133, R159) -/

/-- TMON_mV of a TMON code (R133). -/
def tmonMv (code : Nat) : Nat := (code * 1800 + 32768) / 65536

/-- TMON_mV is at or above the voltage of `t` degrees (R133). -/
def tmonAbove (r : Fin 4) (mv : Nat) (t : Int) (s : State) : Bool :=
  decide ((s.get (F.PROTr_TSCL_T0 r) : Int) * 100 + t * s.get (F.PROTr_TSCL_SLOPE r) ≤ (mv : Int) * 100)

/-- A two-result condition: present after two consecutive results above its threshold, absent after two below its release. -/
def twoResults (present above below : Bool) (hi lo : Nat) : Bool × Nat × Nat :=
  let hi' := if above then min 2 (hi + 1) else 0
  let lo' := if below then min 2 (lo + 1) else 0
  (if present then !(decide (2 ≤ lo')) else decide (2 ≤ hi'), hi', lo')

/-- The timeout of TMON results: 8 × TMSLOT us, TMSLOT within 4 to 15 (R102, R159). -/
def tmonTmo (s : State) : Nat := 8 * clampNat (s.get F.GATH_PSCAN_TMSLOT) 4 15 * 1000

/-- A change of the conditions of faults 5 and 6 in one cycle, declared together (R151). -/
def setOt (r : Fin 4) (c5 c6 : Bool) (mv : Nat) (s : State) : State :=
  let new := (if c5 && !condOn r 5 s then [(⟨5, 255, mv⟩ : Decl)] else []) ++ (if c6 && !condOn r 6 s then [⟨6, 255, mv⟩] else [])
  let s1 := condPut r 6 c6 (condPut r 5 c5 s)
  if new.isEmpty then s1 else declare r new s1

/-- TMON_RESULT: a TMON result reaches detectors 5 and 6 and the guard of R159 (R132, R159). -/
def tmonSample (r : Fin 4) (code : Nat) (s0 : State) : State :=
  let s := s0.put (F.GATH_TMONRESr_TMONRES r) code
  if !railEn r s then s
  else
    let q := s.prot[r]
    let mv := tmonMv code
    let hys : Int := s.get (F.PROTr_TTH_OTHYS r)
    let th : Int := s.get (F.PROTr_TTH_OTTH r)
    let thw : Int := s.get (F.PROTr_TTH_OTWTH r)
    let a := twoResults q.ot (tmonAbove r mv th s) (!tmonAbove r mv (th - hys) s) q.otHi q.otLo
    let w := twoResults q.otw (tmonAbove r mv thw s) (!tmonAbove r mv (thw - hys) s) q.otwHi q.otwLo
    let low := decide (mv < 100)
    let lo' := if low then min 8 (q.tmLo + 1) else 0
    let hi' := if low then 0 else if s.clk.ns ≤ q.tmonAt + tmonTmo s then min 2 (q.tmHi + 1) else 0
    let tml := if lo' = 8 then true else if hi' = 2 then false else s.on (F.PROTr_STAT_TMLOW r)
    let s1 := protUpd r (fun q => { q with
      ot := a.1, otHi := a.2.1, otLo := a.2.2, otw := w.1, otwHi := w.2.1, otwLo := w.2.2, tmLo := lo', tmHi := hi', tmonAt := s.clk.ns }) s
    setOt r (a.1 || tml) w.1 mv ((s1.putB (F.PROTr_STAT_TMLOW r) tml).restart (tmonTmo s) (.tmonTimeout r))

/-- TMON_TIMEOUT: no result for 8 × TMSLOT us: TMLOW sets and fault 5 is treated as present (R159). -/
def tmonMissing (r : Fin 4) (s : State) : State :=
  if railEn r s then
    setCond r 5 true (tmonMv (s.get (F.GATH_TMONRESr_TMONRES r))) (protUpd r (fun q => { q with tmHi := 0 }) (s.put (F.PROTr_STAT_TMLOW r) 1))
  else s

/-- SF_FILTER_EXPIRY: the comparator on TMONr has been at or above its threshold for the SFFILT time, or has fallen below it (R132). -/
def sfResult (r : Fin 4) (present : Bool) (s : State) : State := setCond r 4 present (tmonMv (s.get (F.GATH_TMONRESr_TMONRES r))) s

/-- VIN_mV of a VIN code for a rail (R115). -/
def vinMv (r : Fin 4) (code : Nat) (s : State) : Nat := (code * s.mrv[r].vinscl + 32768) / 65536

/-- A VIN result reaches detector 7; it ends a VIN timeout (R132, R159). -/
def vinSample (r : Fin 4) (mv : Nat) (s : State) : State :=
  if !railEn r s then s
  else
    let q := s.prot[r]
    let uv := s.get (F.PROTr_VIN_VINUV r) * 100
    let v := twoResults q.vin (decide (mv < uv)) (decide (uv + s.get (F.PROTr_VIN_VINHYS r) * 10 ≤ mv)) q.vinLo q.vinHi
    setCond r 7 v.1 mv (protUpd r (fun q => { q with vin := v.1, vinLo := v.2.1, vinHi := v.2.2, vinTmo := false }) s)

/-- VIN_TIMEOUT on a rail: fault 7 is treated as present; from the next result on it follows its own condition (R159). -/
def vinMissing (r : Fin 4) (s : State) : State :=
  if railEn r s then
    setCond r 7 true s.mrv[r].vinLast (protUpd r (fun q => { q with vin := true, vinLo := 0, vinHi := 0, vinTmo := true }) s)
  else s

/-! ## Fault 8: sense open (R101, R132, R136) -/

/-- The saturation signal reaches detector 8 with its sign: fault 8 is present for positive saturation with D = 0 in every cycle of the
run (R132). Fault 8's presence inhibits the OV detector (R136). -/
def satSignal (r : Fin 4) (positive : Bool) (s : State) : State :=
  if positive && s.mrv[r].dZero && !condOn r 8 s && (detAct r 8 s || detStill r 8 s) then
    setCond r 8 true 2047 (protUpd r (fun q => { q with satPos := true }) (ovEnd r s))
  else s

/-- The saturation run ends: fault 8 is absent and the OV timer runs again where OVERSHOOT is asserted (R132, R136). -/
def satEnd (r : Fin 4) (s : State) : State :=
  if condOn r 8 s then ovStart r (setCond r 8 false s.mrv[r].e (protUpd r (fun q => { q with satPos := false }) s)) else s

/-! ## Fault 9: IMON open, phases out of service (R132, R150) -/

/-- Fault 9 of a phase follows GATH_IMFLT; it is declared as it becomes present (R132). -/
def imoRefresh (r : Fin 4) (p : Fin 32) (s : State) : State :=
  if railEn r s && (railList r s).contains p then
    let now := s.bit F.GATH_IMFLT_IMFLT p
    let s1 := phUpd p (fun h => { h with imo := now }) s
    let s2 := condPut r 9 ((railList r s1).any (fun q => s1.phase[q].imo)) s1
    if now && !(s.phase[p].imo) then declare r [⟨9, p, s.phase[p].isamp⟩] s2 else s2
  else s

/-- GATH_IMFLT has changed: every rail's fault 9 follows (R132). -/
def imoAll (s : State) : State := s.each rails (fun r t => t.each (railList r t) (fun p => imoRefresh r p))

/-- At a turn boundary, phases with a RESTOREPH return and, unless the rail is OFF, phases with fault 9 leave; a rail left without phases latches
off, with its low hold on the phases that switched until now (R144, R150, R154). -/
def oosBoundary (r : Fin 4) (s : State) : State :=
  let s1 := s.each (List.finRange 32) (fun p t =>
    if t.phase[p].restore = some r then (phUpd p (fun h => { h with restore := none }) t).putBit F.PROT_OOS_OOS p false else t)
  let new := if eState r s = eOFF then [] else (railList r s).filter (fun p => s1.phase[p].imo && !phaseOos p s1)
  let left := (positions r s1).filter (fun p => !new.contains p)
  let s2 := s1.each new (fun p t => t.logReq 0x05 0x0007 [b8 r, b8 p, b8 left.length])
  let s3 := if new.isEmpty ∨ !left.isEmpty then s2 else respond r 4 false false s2
  s3.each new (fun p t => t.putBit F.PROT_OOS_OOS p true)

/-! ## The turn boundary (R142, R143) -/

/-- LCNT at a turn boundary, and the escalation at LIMN (R142, R143, R153). -/
def limitBoundary (r : Fin 4) (s : State) : State :=
  let lcnt := if s.prot[r].engaged then min 15 (s.get (F.PROTr_STAT_LCNT r) + 1) else 0
  let s1 := protUpd r (fun q => { q with engaged := false }) (s.put (F.PROTr_STAT_LCNT r) lcnt)
  let s2 := s1.when (lcnt == 0 && pState r s1 == pLIMIT) (setP r pNORMAL)
  let limn := s.get (F.PROTr_ITH_LIMN r)
  let esc := s.get (F.PROTr_HIC_ESC r)
  if limn ≠ 0 ∧ limn ≤ lcnt then
    respond r (if esc = 1 then 4 else 3) false false ((s2.put (F.PROTr_FLAG_ESCF r) 1).logReq 0x05 0x0002 [b8 r, b8 lcnt, b8 esc])
  else s2

/-- HICDLY has elapsed for a rail in HICWAIT that is not INERT (R147, R184). -/
def hicTime (r : Fin 4) (s : State) : Bool :=
  pState r s == pHICWAIT && eState r s == eHALT && decide (s.prot[r].stopAt + zeroAsOne (s.get (F.PROTr_HIC_HICDLY r)) * 1000000 ≤ s.clk.ns)

/-- A rail in HICWAIT is ready to restart: HICDLY has elapsed and nothing that stops is present (R147). -/
def hicReady (r : Fin 4) (s : State) : Bool := hicTime r s && !stopPresent r s

/-- The boundary is the one of a restart: nothing that stops was present before the present cycle (R147, R152). -/
def hicDue (r : Fin 4) (s : State) : Bool :=
  hicTime r s && !(List.range 10).any (fun f => condOn r f s && 3 ≤ respOf r f s && !(declNow r s).testBit f)

/-- A declaration with response HICCUP in the cycle of a restart cancels it and counts as a stop (R146, R152). -/
def hicCancel (r : Fin 4) (s : State) : State :=
  hiccup r s.prot[r].hicVin (protUpd r (fun q => { q with stopAt := s.clk.ns, stopIn := some s.clk.ns }) (protFire r 2 (s.inc (F.PROTr_CNT_STOPS r))))

/-- HICOK_EXPIRY: the rail has been in REG for HICOK without a stop; the time keeps running in INERT
(R148, R184). -/
def hicok (r : Fin 4) (s : State) : State :=
  if mState r s = mREG ∨ eState r s = eINERT then s.put (F.PROTr_STAT_HCNT r) 0 else s

/-- Protection state at a disable of the rail: NORMAL, HCNT = 0, LCNT = 0, every detector idle (R135, R148, R153). -/
def protOffRail (r : Fin 4) (s : State) : State :=
  (setP r pNORMAL (limEnd r (idleAll r s))).put (F.PROTr_STAT_HCNT r) 0 |>.cancel (.hicokExpiry r)

/-- Protection at an enable: the result timers start, fault 9 follows GATH_IMFLT, and VIN is judged by the age of its last result
(R132, R159). -/
def protOnRail (r : Fin 4) (s : State) : State :=
  let s1 := (protUpd r (fun q => { q with tmonAt := s.clk.ns }) s).restart (tmonTmo s) (.tmonTimeout r)
  let s2 := if s.gath.vinAt + 64000 ≤ s.clk.ns then vinMissing r s1 else s1.restart (s.gath.vinAt + 64000 - s.clk.ns) .vinTimeout
  s2.each (railList r s2) (fun p => imoRefresh r p)

/-! ## PROTr_RESP (R137) -/

/-- The responses each fault allows (R137). -/
def respAllowed (f code : Nat) : Bool :=
  if f = 2 ∨ f = 3 then code ≤ 4
  else if f = 4 ∨ f = 8 then code = 1 ∨ code = 3 ∨ code = 4
  else if f = 6 then code ≤ 1
  else if f = 9 then code ≤ 1 ∨ code = 4
  else code ≤ 1 ∨ code = 3 ∨ code = 4

/-- A write of PROTr_RESP: each field outside its fault's allowed set is left unchanged, flagged and logged (R137). -/
def respWrite (r : Fin 4) (v : Word) (s : State) : State :=
  (limitWritten r s).each (List.range 10) (fun f t =>
    let code := v.toNat / 8 ^ f % 8
    if respAllowed f code then t.put ⟨Reg.PROTr_RESP r, 3 * f, 3⟩ code
    else (t.put F.PROT_FLT_BADRESP 1).logReq 0x05 0x0008 [b8 r, b8 f, b8 code])

/-! ## Meanings -/

/-- OV_PERSISTENCE (R132). -/
def execOvPersistence (r : Fin 4) (s : State) : Out := .next (ovDue r s)

/-- UV_PERSISTENCE (R132). -/
def execUvPersistence (r : Fin 4) (s : State) : Out := .next (uvDue r s)

/-- UV_BLANK_EXPIRY: the blanking of detector 1 after the entry to REG ends (R135). -/
def execUvBlankExpiry (r : Fin 4) (s : State) : Out := .next (protUpd r (fun q => { q with uvBlank := false }) s)

/-- SF_FILTER_EXPIRY (R132). -/
def execSfFilterExpiry (r : Fin 4) (present : Bool) (s : State) : Out := .next (sfResult r present s)

/-- TMON_RESULT: the result of the rail's TMON slot that ends now arrives; at any other time the code is the level at TMONr from now on
(R94, R132, R159) (DESIGN CHOICE, log entry 44). -/
def execTmonResult (r : Fin 4) (code : BitVec 16) (s : State) : Out :=
  .next (if scanReady 1 r.succ code s then tmonSample r code.toNat (taUpd 1 (fun t => { t with ready := none }) s)
    else setLevel (Fin.ofNat 32 (r.val + 1)) code s)

/-- TMON_TIMEOUT (R159). -/
def execTmonTimeout (r : Fin 4) (s : State) : Out := .next (tmonMissing r s)

/-- VIN_TIMEOUT (R159). -/
def execVinTimeout (s : State) : Out := .next (s.each rails vinMissing)

/-- HICOK_EXPIRY (R148). -/
def execHicokExpiry (r : Fin 4) (s : State) : Out := .next (hicok r s)

end Sys2Proof.Machine
end

