-- ==== Sys2Proof/Machine/Trig.lean ====
section
/-!
DEFINITION. Machine/Trig.lean: the sine, cosine, arc tangent and square root of the motor engines and feedback channels in integers
(spec/17_motor_feedback.md, R470, R484, R485). The spec leaves the last place of the sine and of the arc tangent open within a
bound: that place is a free value of Config.
-/
namespace Sys2Proof.Machine

/-- A quarter turn times 2^60. -/
def quarterTurn : Nat := 1811004864519280711

/-- Further terms of the sine's series: `n` of them from the k-th on, after the term `t` and the sum `acc`; `x2` is the square. -/
def sinTerms (x2 : Int) : Nat → Int → Int → Int → Int
  | 0, _, _, acc => acc
  | n + 1, k, t, acc =>
    let t1 : Int := -(t * x2).fdiv (2 ^ 60 * ((2 * k) * (2 * k + 1)))
    sinTerms x2 n (k + 1) t1 (acc + t1)

/-- The sine of an angle of the first quadrant, in 2^60ths: `x` is the angle in radians times 2^60; the series up to the 21st power. -/
def sinSeries (x : Nat) : Int := sinTerms ((x * x / 2 ^ 60 : Nat) : Int) 10 1 x x

/-- The sine of a 16-bit angle in 2^60ths. -/
def sin60 (a : Nat) : Int :=
  let q := a % 65536 / 16384
  let r := a % 16384
  let up := fun (k : Nat) => sinSeries (k * quarterTurn / 16384)
  match q with
  | 0 => up r
  | 1 => up (16384 - r)
  | 2 => -(up r)
  | _ => -(up (16384 - r))

/-- The sine of n/d turns in 2^30ths. -/
def sinTurn (n d : Nat) : Int :=
  let q := 4 * n / d % 4
  let r := 4 * n % d
  let up := fun (k : Nat) => (sinSeries (k * quarterTurn / d)).fdiv (2 ^ 30)
  match q with
  | 0 => up r
  | 1 => up (d - r)
  | 2 => -(up r)
  | _ => -(up (d - r))

/-- The cosine: the sine a quarter turn on. -/
def cosTurn (n d : Nat) : Int := sinTurn (4 * n + d) (4 * d)

/-- A Q1.15 sine: the nearest value of 32 767 × sin, off by at most 1 in a way the spec leaves open (R470; log entry 5). -/
def sin16 (a : Nat) : Int :=
  let near := (sin60 a * 32767 * 2 + 2 ^ 60).fdiv (2 ^ 61)
  max (-32768) (min 32767 (near + (Config.sinErr (a % 65536)).val - 1))

/-- A Q1.15 cosine: the sine a quarter turn on. -/
def cos16 (a : Nat) : Int := sin16 (a + 16384)

/-- The integer square root's lower `k` bits on top of `r`. -/
def isqrtBits (n : Nat) : Nat → Nat → Nat
  | 0, r => r
  | k + 1, r => if (r + 2 ^ k) * (r + 2 ^ k) ≤ n then isqrtBits n k (r + 2 ^ k) else isqrtBits n k r

/-- The integer square root, bit by bit. -/
def isqrt (n : Nat) : Nat := isqrtBits n 24 0

/-- The sine of k / 4096 of a turn in 2^60ths. -/
def sinLine (k : Nat) : Int := sin60 (16 * k)

/-- The arc tangent's lower `k` bits on top of `r`. -/
def atanBits (s c : Nat) : Nat → Nat → Nat
  | 0, r => r
  | k + 1, r =>
    let t := r + 2 ^ k
    if (c : Int) * sinLine t ≤ (s : Int) * sinLine (t + 1024) then atanBits s c k t else atanBits s c k r

/-- The floor of atan2(s, c) in the 1024 steps of the first quadrant, for s ≥ 0 and c > 0. -/
def atanQuarter (s c : Nat) : Nat := atanBits s c 10 0

/-- The floor of atan2 in 1/4096 turn and whether the angle is exactly that value, for s and c not both 0. -/
def atanFloor (s c : Int) : Nat × Bool :=
  let q : Nat × Nat × Nat :=
    if 0 ≤ s ∧ 0 < c then (0, s.natAbs, c.natAbs)
    else if 0 < s ∧ c ≤ 0 then (1, c.natAbs, s.natAbs)
    else if s ≤ 0 ∧ c < 0 then (2, s.natAbs, c.natAbs)
    else (3, c.natAbs, s.natAbs)
  (q.1 * 1024 + atanQuarter q.2.1 q.2.2, q.2.1 == 0 || q.2.1 == q.2.2)

/-- The lower `k` bits, on top of `r`, of the angle of (c, s) in the first quadrant in 1/72 000 turn. -/
def angleBits (s c : Nat) : Nat → Nat → Nat
  | 0, r => r
  | k + 1, r =>
    let t := r + 2 ^ k
    if t ≤ 18000 ∧ (c : Int) * sinTurn t 72000 ≤ (s : Int) * cosTurn t 72000 then angleBits s c k t else angleBits s c k r

/-- atan2(s, c) in 0.01 degrees from −18 000 to 17 999, to the nearest, for s and c not both 0 (R387). -/
def angle100 (s c : Int) : Int :=
  let q : Nat × Nat × Nat :=
    if 0 ≤ s ∧ 0 < c then (0, s.natAbs, c.natAbs)
    else if 0 < s ∧ c ≤ 0 then (1, c.natAbs, s.natAbs)
    else if s ≤ 0 ∧ c < 0 then (2, s.natAbs, c.natAbs)
    else (3, c.natAbs, s.natAbs)
  let a := (q.1 * 18000 + angleBits q.2.1 q.2.2 15 0 + 1) / 2 % 36000
  if 18000 ≤ a then (a : Int) - 36000 else a

/-- 10^(2 g − 65 539) is at most (n/d)^5120: the nearest value of 2560 log10(n/d) is at least g − 32 769. -/
def gainAtLeast (n d g : Nat) : Bool :=
  if 65539 ≤ 2 * g then decide (10 ^ (2 * g - 65539) * d ^ 5120 ≤ n ^ 5120) else decide (d ^ 5120 ≤ n ^ 5120 * 10 ^ (65539 - 2 * g))

/-- The lower `k` bits, on top of `r`, of the largest such g. -/
def gainBits (n d : Nat) : Nat → Nat → Nat
  | 0, r => r
  | k + 1, r => if gainAtLeast n d (r + 2 ^ k) then gainBits n d k (r + 2 ^ k) else gainBits n d k r

/-- 10 log10(n/d) in 1/256 dB, to the nearest; none outside 16 bits (R387). -/
def gain256 (n d : Nat) : Option Int :=
  let g := gainBits n d 17 0
  if n = 0 ∨ d = 0 ∨ g = 0 ∨ 65536 < g then none else some ((g : Int) - 32769)

/-- The phase of a sample pair: within 1 of atan2 in 1/4096 line; which of the values within that bound is free, and so is the phase of
a pair that is (0, 0) (R484; log entry 5). -/
def phaseOf (s c : Int) (fresh : Nat) : Nat :=
  if s = 0 ∧ c = 0 then fresh % 4096
  else
    let a := atanFloor s c
    let e := (Config.atanErr s c).val
    (if a.2 then a.1 + 4095 + e else a.1 + min e 1) % 4096

end Sys2Proof.Machine
end

