-- ==== Sys2Proof/Machine/Marver.lean ====
section
/-!
DEFINITION. Machine/Marver.lean: the VSET arbiter, the slew, the engine's states, the compensator, feedforward and balance of a rail
(spec/04_marver.md, R103 to R131).
-/
namespace Sys2Proof.Machine

/-! ## Slew and states (R110, R111) -/

/-- S in 50 uV codes and its goal T × 10. -/
def vS (r : Fin 4) (s : State) : Nat := s.get (F.MRVr_VSNOW_S r)
def vGoal (r : Fin 4) (s : State) : Nat := s.get (F.MRVr_VSNOW_T r) * 10

/-- The shadow values of a rail that a load at a turn boundary takes: those written at least one cycle earlier, unless HOLD holds the group; MRV_VINSCL
loads per rail (R27, R127, R187). -/
def loadDue (r : Fin 4) (s : State) : List Shadow :=
  s.shadow.filter (fun p => shadowMine r p s && decide (p.at_ < s.clk.ns) && (!s.on (F.MRVr_UPD_HOLD r) || p.addr == Reg.MRV_VINSCL))

/-- A shadowed field as in force in the present cycle, a load counted that a turn boundary still brings in this cycle (R109). -/
def lvIn (r : Fin 4) (f : Fld) (s : State) : Nat :=
  if s.clk.stage = 0 ∧ boundaryNow (railDom r s) s then
    match ((loadDue r s).filter (fun p => p.addr == f.addr)).getLast? with
    | some p => fldOf f p.word
    | none => s.lv f
  else s.lv f

/-- The divider in force: SLEWDIV in REG, SSDIV in PREBIAS and RAMP; 0 acts as 1 (R110). -/
def slewDiv (r : Fin 4) (s : State) : Nat :=
  zeroAsOne (if mState r s = mREG then lvIn r (F.MRVr_SLEWDIV_SLEWDIV r) s else lvIn r (F.MRVr_SLEWDIV_SSDIV r) s)

/-- The target or the state has changed: while S is off its goal the step timer runs, and one that runs keeps its time; `rested`: S stood on its goal until
now, and the timer starts. On its goal the timer rests. The one cycle of RAMP after a PREBIAS that ended on its goal passes as it is (R110, R111). -/
def slewKick (r : Fin 4) (rested : Bool) (s : State) : State :=
  if (mState r s ≠ mPREBIAS ∧ !mRunning r s) ∨ s.mrv[r].regFrom.isSome then s
  else if vS r s = vGoal r s then
    (if mState r s = mREG then s.cancel (.slewStep r) else s.restart 0 (.slewStep r))
  else if s.armed (.slewStep r) ∧ !rested then s
  else s.restart (slewDiv r s) (.slewStep r)

/-- VMIN and VMAX as they act (R107). -/
def vLimits (r : Fin 4) (s : State) : Nat × Nat :=
  let lo := max 500 (lvIn r (F.MRVr_VLIM_VMIN r) s)
  let hi := min 5000 (lvIn r (F.MRVr_VLIM_VMAX r) s)
  (lo, if lvIn r (F.MRVr_VLIM_VMAX r) s < lvIn r (F.MRVr_VLIM_VMIN r) s ∨ hi < lo then lo else hi)

/-- The request lies within 0.250 V to 2.500 V and within the limits (R107). -/
def vsetOk (r : Fin 4) (v : Nat) (s : State) : Bool :=
  500 ≤ v && v ≤ 5000 && (vLimits r s).1 ≤ v && v ≤ (vLimits r s).2

/-- The field of MRVr_VSCNT of a source (R28, R109). -/
def vscntFld (r : Fin 4) (src : Nat) : Fld := ⟨Reg.MRVr_VSCNT r, 8 * (src % 4), 8⟩

/-- The time of the rail's next slew step, where one is scheduled. -/
def slewNext (r : Fin 4) (s : State) : Option Nat := (s.timers.find? (fun t => t.2 == .slewStep r)).map (·.1)

/-- A valid request becomes the target; S is redirected (R107, R109, R110). -/
def vsetApply (r : Fin 4) (src v : Nat) (s : State) : State :=
  let old := (s.get (F.MRVr_VSNOW_T r), s.get (F.MRVr_VSNOW_SRC r), vS r s, slewNext r s)
  let s1 := (s.put (F.MRVr_VSNOW_T r) v).put (F.MRVr_VSNOW_SRC r) src
  slewKick r (vS r s == vGoal r s) (mrvUpd r (fun m => { m with arrAt := s.clk.ns, arrSrc := some src, arrOld := old }) s1)

/-- The request applied earlier in the present cycle is undone: it has lost the tie and is never applied; a step that S took toward it since is taken
back and falls due again (R109, R110). -/
def vsetUndo (r : Fin 4) (s : State) : State :=
  let o := s.mrv[r].arrOld
  let s1 := (((s.put (F.MRVr_VSNOW_T r) o.1).put (F.MRVr_VSNOW_SRC r) o.2.1).put (F.MRVr_VSNOW_S r) o.2.2.1).cancel (.slewStep r)
  match o.2.2.2 with
  | some t => s1.after (t - s.clk.ns) (.slewStep r)
  | none => s1

/-- A VSET request arrives at the arbiter: the mask first, then the range, then the tie of the cycle: the lower source number stands,
and of one source the last request; each discarded request counts (R28, R107, R109). -/
def vsetArrive (r : Fin 4) (src v : Nat) (s : State) : State :=
  if !(lvIn r (F.MRVr_VSRC_MASK r) s).testBit src then s.inc (F.MRVr_VSREJ_MASKED r)
  else if !vsetOk r v s then
    (s.inc (F.MRVr_VSREJ_OOR r)).logReq 0x04 0x0002 ([b8 r, b8 src] ++ bytesOfNat 2 v)
  else
    match s.mrv[r].arrSrc with
    | some s0 =>
      if s.mrv[r].arrAt = s.clk.ns then
        (if src ≤ s0 then vsetApply r src v (vsetUndo r (s.inc (vscntFld r s0))) else s.inc (vscntFld r src))
      else vsetApply r src v s
    | none => vsetApply r src v s

/-- A Glory episode can exist: the engine is in RAMP or REG and no low hold runs (R121). -/
def gloryCond (r : Fin 4) (s : State) : Bool := mRunning r s && !s.edge[r].lowHold

/-- An episode starts where UNDERSHOOT is asserted under its conditions: the walker starts at the active position whose slot was most
recently crossed (R121) (DESIGN CHOICE, log entry 67). -/
def gloryStart (r : Fin 4) (s : State) : State :=
  if gloryCond r s && s.on (F.GATH_CMPr_STAT_UVNOW r) && !s.mrv[r].glory.active then
    let s1 := mrvUpd r (fun m => { m with glory :=
      { m.glory with active := true, pos := m.lastPos, forced := 0, skips := 0, glmax := 0, nStart := railN r s } }) s
    ((s1.each (railList r s) (fun p => phUpd p (fun h => { h with wasForced := false }))).put (F.MRVr_STAT_GLACT r) 1).restart 0 (.gloryWalkerStep r)
  else s

/-- The entry to RAMP (R111, R121). -/
def enterRamp (r : Fin 4) (s : State) : State := gloryStart r (slewKick r false (setM r mRAMP (mrvUpd r (fun m => { m with regFrom := none }) s)))

/-- The entry to REG (R111, R135, R148). -/
def enterReg (r : Fin 4) (s : State) : State := gloryStart r (regEntered r (setM r mREG s))

/-- BAL_k as MRVr_BALTRIM shows it, by position (R117). -/
def showBal (r : Fin 4) (s : State) : State :=
  let ps := positions r s
  s.each (List.range 24) (fun k t => t.putI (F.MRVr_BALTRIMk_BAL r k) (match ps[k]? with | some p => t.phase[p].bal | none => 0))

/-- The entry to PREBIAS: compensator, filter and balance state cleared, S = 0, N = 0, T = VBOOT within its limits unless T is held; a Glory hold
goes on (R111, R123, R147, R185). -/
def enterPrebias (r : Fin 4) (keepT : Bool) (s : State) : State :=
  let lim := vLimits r s
  let t := if keepT then s.get (F.MRVr_VSNOW_T r) else clampNat (s.lv (F.MRVr_VBOOT_VBOOT r)) lim.1 lim.2
  let s1 := mrvUpd r (fun m => { m with
    e1 := 0, e2 := 0, e3 := 0, v1 := 0, v2 := 0, u1 := 0, pipe := [], clear := false, iTot := 0, iF := 0, shed := 0, regFrom := none, glory := { start := m.glory.start, hold := m.glory.hold }, lastPos := 0 }) s
  let s2 := showBal r (s1.each (railList r s) (fun p => phUpd p (fun h => { h with bal := 0, ibal := 0, ton := 0, frozenTon := 0 })))
  let s3 := (((s2.put (F.MRVr_VSNOW_T r) t).put (F.MRVr_VSNOW_S r) 0).put (F.MRVr_DUTY_D r) 0).put (F.MRVr_ILF_IF r) 0
  ovStart r (slewKick r false ((setN r 0 (setM r mPREBIAS s3)).cancel (.slewStep r)))

/-- The rail enters REG in the cycle after a PREBIAS that ended on its goal: a target that has arrived since is slewed to, with the divider of its
arrival's cycle (R110, R111). -/
def regAfterPrebias (r : Fin 4) (s : State) : State :=
  let at_ := s.mrv[r].arrAt
  let ramp := slewDiv r s
  let s1 := enterReg r (mrvUpd r (fun m => { m with regFrom := none }) s)
  if vS r s1 = vGoal r s1 then s1 else s1.restart (if at_ = s.clk.ns then slewDiv r s1 else at_ + ramp - s.clk.ns) (.slewStep r)

/-- SLEW_STEP: S moves one code toward its goal. On its goal, PREBIAS ends into RAMP for one cycle and RAMP into REG (R110, R111). -/
def slewStep (r : Fin 4) (s : State) : State :=
  let arrived := fun (t : State) =>
    if mState r t = mPREBIAS then
      (gloryStart r (setM r mRAMP (mrvUpd r (fun m => { m with regFrom := some (t.clk.ns + 1) }) t))).restart 1 (.slewStep r)
    else if mState r t = mRAMP then enterReg r t
    else t
  if mState r s ≠ mPREBIAS ∧ !mRunning r s then s
  else if mState r s = mRAMP ∧ s.mrv[r].regFrom.isSome then (if s.mrv[r].regFrom.getD 0 ≤ s.clk.ns then regAfterPrebias r s else s)
  else if vS r s = vGoal r s then arrived s
  else
    let v := if vS r s < vGoal r s then vS r s + 1 else vS r s - 1
    let s1 := s.put (F.MRVr_VSNOW_S r) v
    if v = vGoal r s then arrived s1 else s1.restart (slewDiv r s1) (.slewStep r)

/-! ## Target voltage (R105, R106) -/

/-- VT: S less the droop of the filtered current; RLL above 200 acts as 200 (R106). -/
def vtOf (r : Fin 4) (s : State) : Nat :=
  let drp := ((max s.mrv[r].iF 0).toNat * min (s.lv (F.MRVr_LL_RLL r)) 200 + 40) / 80
  min 65535 (vS r s - drp)

/-- SETPOINT_DAC_LOAD: the cycle's VT goes into the rail's setpoint DAC (R79, R106). -/
def dacLoad (r : Fin 4) (s : State) : State := s.put (F.MRVr_ILF_VT r) (vtOf r s)

/-! ## Feedforward (R115, R130) -/

/-- FF of the present VT and the latest valid VIN_mV; 0 while FFEN = 0 or no valid result exists (R115). -/
def ffOf (r : Fin 4) (s : State) : Nat :=
  match s.mrv[r].vin with
  | some mv => if s.lv (F.MRVr_CFG_FFEN r) = 1 then roundDiv (s.get (F.MRVr_ILF_VT r) * 2 ^ 24) (mv * 20) else 0
  | none => 0

/-- The feedforward guard applies (R130). -/
def ffGuard (r : Fin 4) (s : State) : Bool := railEn r s && s.lv (F.MRVr_CFG_FFEN r) == 1

/-- FFSTALE sets and log code 0x0004 is written, once per occurrence (R130). -/
def ffMark (r : Fin 4) (s : State) : State :=
  if ffGuard r s && !s.on (F.MRVr_STAT_FFSTALE r) then
    (s.put (F.MRVr_STAT_FFSTALE r) 1).logReq 0x04 0x0004 (b8 r :: bytesOfNat 2 s.mrv[r].vinLast)
  else s

/-- The guard starts or stops applying: its 64 us run from its start; FFSTALE clears as it stops (R130). -/
def ffGuardChange (r : Fin 4) (before : Bool) (s : State) : State :=
  if ffGuard r s && !before then s.restart 64000 (.ffStale r)
  else if !ffGuard r s && before then (s.put (F.MRVr_STAT_FFSTALE r) 0).cancel (.ffStale r)
  else s

/-- A VIN result on a rail: VIN_mV, its validity for feedforward, and detector 7 (R115, R130, R132). -/
def vinRail (r : Fin 4) (code : Nat) (s : State) : State :=
  let mv := vinMv r code s
  let valid := decide (4000 ≤ mv ∧ mv ≤ 20000)
  let s1 := mrvUpd r (fun m => { m with vinLast := mv, vin := if valid then some mv else m.vin }) s
  let s2 := if valid then s1.put (F.MRVr_STAT_FFSTALE r) 0 else ffMark r s1
  vinSample r mv (if ffGuard r s2 then s2.restart 64000 (.ffStale r) else s2)

/-- VIN_RESULT (R94, R115). -/
def vinResult (code : Nat) (s : State) : State :=
  let s1 := s.put F.GATH_VINRES_VINRES code
  let s2 : State := { s1 with gath := { s1.gath with vinAt := s1.clk.ns } }
  (s2.restart 64000 .vinTimeout).each rails (fun r => vinRail r code)

/-! ## Compensator (R112, R113) -/

/-- DMAX as it acts, 1 to 255 (R113). -/
def dMax (r : Fin 4) (s : State) : Nat := zeroAsOne (s.lv (F.MRVr_LIM_DMAX r))

/-- The compensator on a sample E: its new state, and D with the DMAX and the switching period of its first cycle on its way through the rest of the
pipeline's eight cycles.
`add` is the duty a RINGTEST injects (R103, R104, R112, R387) (DESIGN CHOICE, log entry 63). A frozen rail keeps u1 (R182). -/
def compensate (r : Fin 4) (e : Int) (add : Int) (s : State) : State :=
  let m0 := s.mrv[r]
  let m : Mrv := if m0.clear then { m0 with e1 := 0, e2 := 0, e3 := 0, v1 := 0, v2 := 0, u1 := 0, clear := false } else m0
  let x := -e
  let lim : Int := dMax r s * 2 ^ 28
  let top : Int := dMax r s * 2 ^ 16
  let v0 := s.lvI (F.MRVr_B0_B r) * x + s.lvI (F.MRVr_B1_B r) * m.e1 + s.lvI (F.MRVr_B2_B r) * m.e2 + s.lvI (F.MRVr_B3_B r) * m.e3
  let v := clampInt (v0 - asr (s.lvI (F.MRVr_A1_A r) * m.v1 + s.lvI (F.MRVr_A2_A r) * m.v2) 22) (-(2 ^ 47)) (2 ^ 47 - 1)
  let ui := m.u1 + v
  let d0 := asr ui 12 + ffOf r s + s.par[r].p + add
  let d1 := if top < d0 then top else d0
  let ui1 := if top < d0 ∧ 0 < v then m.u1 else ui
  let d2 := if d1 < 0 then 0 else d1
  let ui2 := clampInt (if d1 < 0 ∧ v < 0 then m.u1 else ui1) (-lim) lim
  let u := if s.on (F.EDGEr_STAT_FRZ r) then m.u1 else ui2
  mrvUpd r (fun _ => { m with
    e3 := m.e2, e2 := m.e1, e1 := x, v2 := m.v1, v1 := v, u1 := u, pipe := m.pipe ++ [(s.clk.ns + 8, d2.toNat, dMax r s, m0.tsw64)] }) s

/-- The sine a running RINGTEST adds to D at this sample: of amplitude AMP, from phase 0 at the point's beginning, to the nearest du (R387)
(DESIGN CHOICE, log entry 73). -/
def ringInject (r : Fin 4) (s : State) : State :=
  if s.lop[(0 : Fin 5)].running && s.ring.rail == r then
    { s with ring := { s.ring with inject := (2 * s.ring.amp * sinTurn (s.ring.freq * (s.clk.ns - s.ring.since)) (10 ^ 9) + 2 ^ 30).fdiv (2 ^ 31) } }
  else s

/-- The duty a RINGTEST adds on this rail. -/
def ringAdd (r : Fin 4) (s : State) : Int := if s.lop[(0 : Fin 5)].running && s.ring.rail == r then s.ring.inject else 0

/-- The correlation of a running RINGTEST takes a sample of D, with and without the injection, once SETTLE has passed (R387)
(DESIGN CHOICE, log entry 73). -/
def ringCorrelate (r : Fin 4) (s : State) : State :=
  if s.lop[(0 : Fin 5)].running && s.ring.rail == r && decide (s.ring.corr ≤ 64 * s.clk.ns) then
    match s.mrv[r].pipe.getLast? with
    | none => s
    | some x =>
      let t := s.ring.freq * (s.clk.ns - s.ring.since)
      let c := cosTurn t (10 ^ 9)
      let n := sinTurn t (10 ^ 9)
      let a : Int := x.2.1
      let b := a - s.ring.inject
      { s with ring := { s.ring with aCos := s.ring.aCos + a * c, aSin := s.ring.aSin + a * n, bCos := s.ring.bCos + b * c, bSin := s.ring.bSin + b * n } }
  else s

/-! ## Current and balance (R105, R117) -/

/-- The trims of a list of phases cleared. -/
def clearBal (r : Fin 4) (ps : List (Fin 32)) (s : State) : State := showBal r (s.each ps (fun p => phUpd p (fun h => { h with bal := 0 })))

/-- A balance sample of a phase: I_TOT, I_F, the trim of an active phase, and detector 3; a phase shed since its on-edge keeps a trim of 0
(R80, R105, R117, R132). -/
def balanceSample (r : Fin 4) (p : Fin 32) (i : Int) (s : State) : State :=
  let s1 := phUpd p (fun h => { h with ibal := i }) s
  let tot := iTotOf r s1
  let f := s1.mrv[r].iF
  let f' := clampInt (f + asr (tot - f) (s.lv (F.MRVr_LL_LLSH r))) (-131072) 131071
  let s2 := (mrvUpd r (fun m => { m with iTot := tot, iF := f' }) s1).putI (F.MRVr_ILF_IF r) (clampInt f' (-32768) 32767)
  let n : Int := railN r s
  let lim : Int := s.lv (F.MRVr_BAL_BALMAX r)
  let b := if s.bit F.GATH_IMFLT_IMFLT p ∨ n = 0 ∨ !(active r s).contains p then 0
    else clampInt (s.phase[p].bal + asr ((tot.tdiv n - i) * s.lv (F.MRVr_BAL_KBAL r)) 8) (-lim) lim
  tocSample r (showBal r (phUpd p (fun h => { h with bal := b }) s2))

/-! ## MRV_ACT (R112, R117) -/

/-- COMPENSATOR_CLEAR: the state clears at the rail's next merged sample. -/
def mrvClear (arg : BitVec 16) (s : State) : State := mrvUpd (Fin.ofNat 4 arg.toNat) (fun m => { m with clear := true }) s

/-- BALANCE_CLEAR: the rail's trims clear. -/
def mrvBalClear (arg : BitVec 16) (s : State) : State :=
  clearBal (Fin.ofNat 4 arg.toNat) (railList (Fin.ofNat 4 arg.toNat) s) s

/-- MRV_ACT by its action code; an unlisted code is ignored. -/
def mrvAct (arg : BitVec 16) (action : Byte) (s : State) : State :=
  match action.toNat with
  | 1 => mrvClear arg s
  | 2 => mrvBalClear arg s
  | _ => s

/-! ## Requests by register (R108, R127) -/

/-- A write of MRVr_VSHOST is a HOST arrival, a write of MRVr_VSPMB a PMBUS arrival; neither is held (R108, R128). -/
def vshostWrite (r : Fin 4) (v : Word) (s : State) : State :=
  vsetArrive r 2 (fldOf (F.MRVr_VSHOST_VSET r) v) (s.wr (Reg.MRVr_VSHOST r) v)
def vspmbWrite (r : Fin 4) (v : Word) (s : State) : State :=
  vsetArrive r 3 (fldOf (F.MRVr_VSPMB_VSET r) v) (s.wr (Reg.MRVr_VSPMB r) v)

/-- A write of MRVr_UPD: a write that clears HOLD counts as the write of every pending value of the rail (R127). -/
def updWrite (r : Fin 4) (v : Word) (s : State) : State :=
  let was := s.on (F.MRVr_UPD_HOLD r)
  let s1 := s.put (F.MRVr_UPD_HOLD r) (fldOf (F.MRVr_UPD_HOLD r) v)
  if was && !s1.on (F.MRVr_UPD_HOLD r) then
    { s1 with shadow := s1.shadow.map (fun p => if shadowMine r p s1 then { p with at_ := s1.clk.ns } else p) }
  else s1

/-- The word in force of a shadowed register on a rail; EN of EDGEr_CTL is not shadowed (R127, R187). -/
def inForce (r : Fin 4) (a : Nat) (s : State) : Word :=
  let w := (mapFind s.live a).getD (resetWord a)
  if a = Reg.MRV_VINSCL then BitVec.ofNat 32 s.mrv[r].vinscl
  else if a = Reg.EDGEr_CTL r then fldInto (F.EDGEr_CTL_EN r) (s.get (F.EDGEr_CTL_EN r)) w
  else w

/-- The Trio-only reset: HOLD clears, pending values are discarded and the registers read the values in force; log code 0x0003 where
any were pending (R128). -/
def updDiscard (r : Fin 4) (s : State) : State :=
  let mine := s.shadow.filter (fun p => shadowMine r p s)
  let s1 := (mine.foldl (fun t p => t.wr p.addr (inForce r p.addr t)) s).put (F.MRVr_UPD_HOLD r) 0
  let s2 : State := { s1 with shadow := s1.shadow.filter (fun p => !shadowMine r p s) }
  (s2.put (F.MRVr_UPD_PEND r) 0).when (!mine.isEmpty) (fun t => t.logReq 0x04 0x0003 [b8 r])

/-! ## Meanings -/

/-- SETPOINT_DAC_LOAD (R106). -/
def execSetpointDacLoad (r : Fin 4) (s : State) : Out := .next (dacLoad r s)

/-- SLEW_STEP (R110). -/
def execSlewStep (r : Fin 4) (s : State) : Out := .next (slewStep r s)

/-- VSHOST_WRITE (R108). -/
def execVshostWrite (r : Fin 4) (value : Word) (s : State) : Out := .next (vshostWrite r value s)

/-- VSPMB_WRITE (R108). -/
def execVspmbWrite (r : Fin 4) (value : Word) (s : State) : Out := .next (vspmbWrite r value s)

/-- UPD_HOLD_CLEAR: the write of MRVr_UPD that clears HOLD (R127). -/
def execUpdHoldClear (r : Fin 4) (value : Word) (s : State) : Out := .next (updWrite r (value &&& ~~~1) s)

/-- COMPENSATOR_CLEAR: MRV_ACT action 0x01 (R112). -/
def execCompensatorClear (ticket : Byte) (arg : BitVec 16) (s : State) : Out := .next (s.act Reg.MRV_ACT ticket arg 1 (mrvClear arg))

/-- BALANCE_CLEAR: MRV_ACT action 0x02 (R117). -/
def execBalanceClear (ticket : Byte) (arg : BitVec 16) (s : State) : Out := .next (s.act Reg.MRV_ACT ticket arg 2 (mrvBalClear arg))

/-- FF_STALE: no new VIN result for 64 us while the guard applies (R130). -/
def execFfStale (r : Fin 4) (s : State) : Out := .next (ffMark r s)

/-- VIN_RESULT: the result of the VIN slot that ends now arrives; at any other time the code is the level at VINSNS from now on (R94, R115)
(DESIGN CHOICE, log entry 44). -/
def execVinResult (code : BitVec 16) (s : State) : Out :=
  .next (if scanReady 0 0 code s then vinResult code.toNat (taUpd 0 (fun t => { t with ready := none }) s) else setLevel 0 code s)

end Sys2Proof.Machine
end

