-- ==== Sys2Proof/Machine/Edge.lean ====
section
/-!
DEFINITION. Machine/Edge.lean: slots, pulses and the off state of the phase outputs, Glory's walker and overshoot blanking, the rail's
enable, disable, freeze, inert and release (spec/06_edges.md, R161 to R189; R119 to R126).
-/
namespace Sys2Proof.Machine

/-! ## Slots (R166, R167) -/

/-- SYNCOFS of a rail as a turn boundary takes it: ANG_SYNCOFS while its domain's SRC is SYNC (R51, R166). -/
def syncOfs (r : Fin 4) (s : State) : Nat := if s.dom[railDom r s].src = 1 then s.get F.ANG_SYNCOFS_OFS else 0

/-- The slot of active position `k`, in au of a turn (R166). -/
def slotOf (r : Fin 4) (k : Nat) (s : State) : Nat :=
  let n := zeroAsOne (railN r s)
  let base := if s.lv (F.EDGEr_CTL_OFSMODE r) = 1 then s.lv (F.EDGEr_SLOTk_SLOT r k) else (k * 2 ^ 24 + n / 2) / n
  (base + s.lv (F.EDGEr_OFS_RAILOFS r) + s.edge[r].syncOfs) % 2 ^ 24

/-- The part of a turn from an angle forward to a slot, in 2^-24 au; 0 where the 32-bit angle stands on it (R63, R167). -/
def slotGap (slot : Nat) (a : BitVec 56) : Nat :=
  let g := (slot * 2 ^ 24 + 2 ^ 48 - fracOf a) % 2 ^ 48
  if 2 ^ 48 - 2 ^ 24 < g then 0 else g

/-- The part of a turn that the domain still has to travel to a slot, in 2^-24 au (R63, R167). -/
def slotAhead (r : Fin 4) (k : Nat) (s : State) : Nat := slotGap (slotOf r k s) s.dom[railDom r s].acc

/-- The working rate of a rail's domain, at least 1. -/
def railRate (r : Fin 4) (s : State) : Nat := zeroAsOne s.dom[railDom r s].rate.toNat

/-- EDGE_PTRIM of a phase in force, 1/64 ns (R169). -/
def trimOf (p : Fin 32) (s : State) : Int := s.lvI (F.EDGE_PTRIMp_TRIM p)

/-- The instant of a slot crossing in the cycle `n` ahead, whose start angle and travel are given: its fine step of 0 to 63, and the phase's trim, in
1/64 ns; no earlier than now (R167, R169). -/
def edgeInstant (r : Fin 4) (p : Fin 32) (k n : Nat) (x : BitVec 56 × Int) (s : State) : Nat :=
  max s.now64 ((s.now64 + 64 * n + min 63 (slotGap (slotOf r k s) x.1 * 64 / zeroAsOne x.2.toNat) : Nat) + trimOf p s).toNat

/-- The instant of a slot crossing in the present cycle (R167). -/
def onEdgeTime (r : Fin 4) (p : Fin 32) (k : Nat) (s : State) : Nat := edgeInstant r p k 0 (projected (railDom r s) s 0) s

/-- The crossing of a position's slot within the present cycle and the four after it, as projected: whether it belongs to the turn after the present one,
and its instant. A crossing of the turn that has ended in this cycle is none (R63, R167, R173). -/
def slotAim (r : Fin 4) (p : Fin 32) (k : Nat) (s : State) : Option (Bool × Nat) :=
  let d := railDom r s
  let slot := slotOf r k s
  ((List.range 5).find? (fun n =>
    let x := projected d s n
    passes (x.1.extractLsb' 24 32) ((x.1 + BitVec.ofInt 56 x.2).extractLsb' 24 32) slot)).bind (fun n =>
      let x := projected d s n
      let turn := (turnOf x.1 + (if slot < fracOf x.1 / 2 ^ 24 then 1 else 0)) % 256
      if turn = turnNow d s then some (false, edgeInstant r p k n x s)
      else if turn = (turnNow d s + 1) % 256 then some (true, edgeInstant r p k n x s)
      else none)

/-- The next crossing of a phase's slot after an on-edge, as projected under the present N, slots and rate, in 1/64 ns (R170). -/
def nextCrossing (r : Fin 4) (p : Fin 32) (k onT : Nat) (s : State) : Nat :=
  let a := slotAhead r k s
  let t := fun (x : Nat) => ((s.now64 + x * 64 / railRate r s : Nat) + trimOf p s).toNat
  if t a < onT + 192 then t (a + 2 ^ 48) else t a

/-! ## On-times (R116, R170, R171, R182) -/

/-- TON_k of an active phase from D, its trim, and the DMAX and the switching period of its sample (R104, R116). -/
def tonFor (r : Fin 4) (dmax t : Nat) (p : Fin 32) (s : State) : Nat :=
  (clampInt (asr ((s.get (F.MRVr_DUTY_D r) * t : Nat) + 2 ^ 23) 24 + s.phase[p].bal) 0 (dmax * t / 256 : Nat)).toNat

/-- The on-time a phase uses: the frozen one on a frozen rail (R182). -/
def tonUsed (r : Fin 4) (p : Fin 32) (s : State) : Nat := if s.on (F.EDGEr_STAT_FRZ r) then s.phase[p].frozenTon else s.phase[p].ton

/-- The bounds of R170 on an off-edge; the upper bound has precedence. -/
def offBound (r : Fin 4) (p : Fin 32) (k : Nat) (onT v : Nat) (s : State) : Nat :=
  let moff := 64 * minOff r s
  min (max v (onT + 64 * minOn r s)) (min (onT + s.mrv[r].tsw64 - moff) (nextCrossing r p k onT s - moff))

/-- A phase's off-edge is scheduled (R170). -/
def setOff (p : Fin 32) (t : Nat) (s : State) : State :=
  (phUpd p (fun h => { h with offT := some t }) s).restart (t / 64 - s.clk.ns) (.offEdge p)

/-- Every phase of the rail gets its on-time request; only that of an active phase acts (R103, R116). -/
def requestTons (r : Fin 4) (dmax tsw : Nat) (s : State) : State := s.each (positions r s) (fun p t => phUpd p (fun h => { h with ton := tonFor r dmax tsw p t }) t)

/-- A committed request moves the off-edge of a pulse that has begun, where that edge lies at or after H_c + 3 ns, and never to
before H_c + 3 ns; a STRETCH pulse is not shortened (R171, R173). -/
def moveOff (r : Fin 4) (p : Fin 32) (s : State) : State :=
  let h := s.phase[p]
  match h.offT, posOf r p s with
  | some t, some k =>
    let hz := s.now64 + 64 + 192
    if h.out = .high ∧ !h.forced ∧ !h.offPending ∧ hz ≤ t then
      let v := max (offBound r p k h.onT (h.onT + tonUsed r p s + h.cUsed) s) hz
      let v' := if h.stretch then max v t else v
      if v' = t then s else setOff p v' s
    else s
  | _, _ => s

/-- The requests of a sample reach every active phase that is in a pulse (R171). -/
def moveOffs (r : Fin 4) (s : State) : State := if s.on (F.MRVr_STAT_OVBLK r) then s else s.each (active r s) (fun p => moveOff r p)

/-- The request that leaves the pipeline in this cycle is committed: D, the on-time of every active phase, and the off-edges of the pulses that have
begun (R103, R104, R116, R171) (DESIGN CHOICE, log entry 63). -/
def pipeCommit (r : Fin 4) (s : State) : State :=
  match s.mrv[r].pipe with
  | (t, d, dmax, tsw) :: rest =>
    if t ≤ s.clk.ns then moveOffs r (requestTons r dmax tsw ((mrvUpd r (fun m => { m with pipe := rest }) s).put (F.MRVr_DUTY_D r) d)) else s
  | [] => s

/-! ## The off state (R125, R176) -/

/-- The phase is due at MID under diode emulation: its minimum off-time has ended and its latest sample shows 0 A or less; an open
IMON keeps it LOW (R176). -/
def diodeMid (r : Fin 4) (p : Fin 32) (s : State) : Bool :=
  s.lv (F.EDGEr_CTL_OFFMODE r) == 1 && !s.phase[p].minOff && decide (s.phase[p].isamp ≤ 0) && !s.bit F.GATH_IMFLT_IMFLT p

/-! ## Pulses (R170, R173, R175) -/

/-- A pulse begins at its slot, at the instant `on`: HIGH, the off-edge, and the midpoint for the balance sample (R80, R170, R173). -/
def issue (r : Fin 4) (p : Fin 32) (k on c : Nat) (stretch : Bool) (s : State) : State :=
  let v := if stretch then on + 64 * minOn r s else on + tonUsed r p s + c
  let off := offBound r p k on v s
  setOff p off ((phUpd p (fun h => { h with
    out := .high, onT := on, rail := r, minOff := false, carry := 0, cUsed := if stretch then 0 else c, stretch := stretch, commit := none, quiet := false, midT := some (on + (off - on) / 2) }) s).cancel (.minOffTimeEnd p))

/-- The instant of the coming slot's on-edge is fixed, from the projected angle (R167, R173). -/
def aimSlot (r : Fin 4) (p : Fin 32) (s : State) : State :=
  match (posOf r p s).bind (fun k => slotAim r p k s) with
  | some (next, t) => phUpd p (fun h => { h with slotT := some t, slotDone := h.slotDone || !next, slotNext := h.slotNext || next }) s
  | none => s

/-- ON_EDGE_COMMIT: the on-edge's instant, and the request W = TON_k + C of the coming slot: no pulse for TON_k = 0, a pulse for W ≥ MINON, else a short
pulse by its mode (R167, R173). -/
def onEdgeCommit (p : Fin 32) (s0 : State) : State :=
  match railOf p s0 with
  | none => s0
  | some r =>
    if !mRunning r s0 || !(active r s0).contains p then s0
    else
      let s := aimSlot r p s0
      let ton := tonUsed r p s
      let w := ton + s.phase[p].carry
      if ton = 0 then phUpd p (fun h => { h with quiet := true, commit := none }) s
      else if 64 * minOn r s ≤ w then phUpd p (fun h => { h with quiet := false, commit := some h.carry, commitStretch := false }) s
      else
        let s1 := s.inc (F.EDGEr_CNT_SHORT r)
        match s.lv (F.EDGEr_CTL_SPM r) with
        | 1 => phUpd p (fun h => { h with quiet := false, commit := none, carry := 0 }) s1
        | 2 => phUpd p (fun h => { h with quiet := false, commit := some (64 * minOn r s), commitStretch := true }) s1
        | _ => phUpd p (fun h => { h with quiet := false, commit := none, carry := w }) s1

/-- A slot crossing whose on-edge would fall at the instant `on` and cannot start (R169, R175). -/
def slotBlocked (r : Fin 4) (p : Fin 32) (on : Nat) (s : State) : Bool :=
  s.phase[p].out == .high || (s.phase[p].minOff && decide (on < s.phase[p].minOffT)) || s.on (F.MRVr_STAT_OVBLK r) || limitHolds r p s ||
    s.phase[p].held.isSome

/-- SLOT_CROSSING, at the slot's on-edge: the pulse committed for the slot begins, or the slot is skipped (R167, R173, R175). -/
def slotCrossing (p : Fin 32) (s : State) : State :=
  match railOf p s with
  | none => s
  | some r =>
    match posOf r p s with
    | none => s
    | some k =>
      if !mRunning r s || !(active r s).contains p then s
      else
        let s1 := mrvUpd r (fun m => { m with lastPos := k }) s
        let h := s1.phase[p]
        let on := h.slotT.getD (onEdgeTime r p k s)
        let s2 := phUpd p (fun h => { h with quiet := false, commit := none, slotT := none }) s1
        if h.quiet then s2
        else if slotBlocked r p on s1 then s2.inc (F.EDGEr_CNT_SKIP r)
        else
          match h.commit with
          | some c => issue r p k on c h.commitStretch s2
          | none => s2

/-- OFF_EDGE: the scheduled off-edge of a pulse that Glory does not hold on (R170, R176, R177). -/
def offEdge (p : Fin 32) (s : State) : State :=
  let t := s.phase[p].offT.getD s.now64
  if s.phase[p].out = .high ∧ !s.phase[p].forced then
    match railOf p s with
    | some r => fallAt r p t s
    | none => phUpd p (fun h => { h with toMid := true }) (phaseOffAt s.phase[p].rail p t s)
  else s

/-- A low hold that follows an overvoltage stop lasts while OVERSHOOT stays asserted (R144). -/
def holdWaits (r : Fin 4) (s : State) : Bool := s.prot[r].stopOv && s.on (F.GATH_CMPr_STAT_OVNOW r)

/-- MIN_OFF_TIME_END: a held, shed or borrowed phase goes to MID; diode emulation may; the walker looks again (R120, R121, R122, R144,
R172, R176). -/
def minOffEnd (p : Fin 32) (s : State) : State :=
  let s1 := phUpd p (fun h => { h with minOff := false }) s
  if s.phase[p].out = .high then s1
  else
    match s.phase[p].held with
    | some r => if holdWaits r s then s1 else phUpd p (fun h => { h with out := .mid, held := none, toMid := false }) s1
    | none =>
      match railOf p s with
      | none => phUpd p (fun h => { h with out := .mid, toMid := false }) s1
      | some r =>
        let s2 := if s.phase[p].toMid then phUpd p (fun h => { h with out := .mid, toMid := false }) s1
          else if diodeMid r p s1 && !s.on (F.MRVr_STAT_OVBLK r) then phUpd p (fun h => { h with out := .mid }) s1
          else s1
        gloryKick r s2

/-- MIN_ON_TIME_END: a phase whose turn-off waited for its minimum on-time turns off (R125, R181). -/
def minOnEnd (p : Fin 32) (s : State) : State :=
  if s.phase[p].out = .high ∧ s.phase[p].offPending then
    match s.phase[p].held, railOf p s with
    | some r, _ => phUpd p (fun h => { h with toMid := true }) (phaseOff r p s)
    | none, some r => fall r p s
    | none, none => phUpd p (fun h => { h with toMid := true }) (phaseOff s.phase[p].rail p s)
  else s

/-! ## Glory (R121 to R124) -/

/-- A forced phase is released: off, its minimum off-time, then as R122 says. -/
def forceEnd (r : Fin 4) (p : Fin 32) (s : State) : State := if s.phase[p].forced then fall r p s else s

/-- Every forced phase of a rail is released in the same cycle (R122). -/
def forceEndAll (r : Fin 4) (s : State) : State := s.each (railList r s) (fun p => forceEnd r p)

/-- Phases forced at once. -/
def forcedCount (r : Fin 4) (s : State) : Nat := ((railList r s).filter (fun p => s.phase[p].forced)).length

/-- The walker forces a phase on, or holds one on (R121, R174). -/
def forceOn (r : Fin 4) (p : Fin 32) (s : State) : State :=
  let s1 := phUpd p (fun h => { h with
    forced := true, wasForced := true, forcedAt := s.clk.ns, rail := r, carry := 0, offT := none, toMid := false, offPending := false
    out := .high, onT := if h.out == .high then h.onT else s.now64, midT := if h.out == .high then h.midT else none }) s
  mrvUpd r (fun m => { m with glory := { m.glory with forced := m.glory.forced + 1 } })
    ((s1.cancel (.offEdge p)).restart (zeroAsOne (s.lv (F.MRVr_GL_GLMAX r)) * 2) (.gloryGlmaxRelease p))

/-- The walker visits at most `n` positions, and stops where `left` of them in a row, a whole cycle of the walk, gave none to force: a phase in minimum
off-time or held by a LIMIT is a skip; the first it can force is forced, and it waits GLSTAG ns (R121). -/
def gloryWalk (r : Fin 4) (elig : List (Fin 32)) : Nat → Nat → State → State
  | 0, _, s => s
  | _, 0, s => s
  | n + 1, left + 1, s =>
    if clampNat (s.lv (F.MRVr_GL_GLN r)) 1 24 ≤ forcedCount r s then s
    else
      let pos := s.mrv[r].glory.pos % elig.length
      let s1 := mrvUpd r (fun m => { m with glory := { m.glory with pos := pos + 1 } }) s
      match elig[pos]? with
      | none => s
      | some p =>
        if s.phase[p].wasForced || s.phase[p].held.isSome then gloryWalk r elig n left s1
        else if s.phase[p].minOff || limitHolds r p s then
          gloryWalk r elig n left (mrvUpd r (fun m => { m with glory := { m.glory with skips := m.glory.skips + 1 } }) s1)
        else
          let stag := s.lv (F.MRVr_GL_GLSTAG r)
          if stag = 0 then gloryWalk r elig n elig.length (forceOn r p s1) else (forceOn r p s1).restart stag (.gloryWalkerStep r)

/-- GLORY_WALKER_STEP: nothing outside an episode or while OVERSHOOT is asserted (R121, R125). -/
def gloryStep (r : Fin 4) (s : State) : State :=
  if !s.mrv[r].glory.active || !gloryCond r s || s.on (F.GATH_CMPr_STAT_OVNOW r) then s
  else
    let elig := if s.lv (F.MRVr_GL_GLALL r) = 1 then positions r s else active r s
    if elig.isEmpty then s else gloryWalk r elig (elig.length * (elig.length + 1)) elig.length s

/-- GLORY_GLMAX_RELEASE: a phase has been forced for GLMAX (R122). -/
def glmaxRelease (p : Fin 32) (s : State) : State :=
  match railOf p s with
  | none => s
  | some r =>
    if s.phase[p].forced then
      gloryKick r (fall r p (mrvUpd r (fun m => { m with glory := { m.glory with glmax := m.glory.glmax + 1 } }) s))
    else s

/-- UNDERSHOOT asserts: counted and flagged; an episode starts under its conditions, and the walker forces its first phase (R93, R121). -/
def uvAssert (r : Fin 4) (s : State) : State :=
  if !s.on (F.GATH_CMPr_CTL_UVEN r) || !railEn r s || s.on (F.GATH_CMPr_STAT_UVNOW r) then s
  else
    let s1 := ((s.put (F.GATH_CMPr_STAT_UVNOW r) 1).put (F.GATH_CMPr_STAT_UVSEEN r) 1).inc (F.GATH_CMPr_CNT_UVCNT r)
    gloryStep r ((gloryStart r (mrvUpd r (fun m => { m with glory := { m.glory with start := s.clk.ns } }) s1)).cancel (.gloryWalkerStep r))

/-- UNDERSHOOT releases: the episode ends, every forced phase is released, the hold starts (R122, R123). -/
def uvRelease (r : Fin 4) (s : State) : State := gloryEnd r (forceEndAll r (s.put (F.GATH_CMPr_STAT_UVNOW r) 0))

/-! ## Overshoot blanking (R125) -/

/-- Between pulses a phase rests at LOW, or at MID under blanking with OVACT = 2; under diode emulation it may rest at MID (R125, R176). -/
def restOne (r : Fin 4) (p : Fin 32) (s : State) : State :=
  if s.phase[p].held.isSome ∨ s.phase[p].out = .high then s
  else if s.on (F.MRVr_STAT_OVBLK r) then phUpd p (fun h => { h with out := if ovAct r s = 2 then .mid else .low }) s
  else if s.lv (F.EDGEr_CTL_OFFMODE r) = 1 then s
  else phUpd p (fun h => { h with out := .low }) s

/-- Every active phase rests as it is due: a load or a change of N can change that (R125, R176) (DEDUCED, log entry 46). -/
def restAll (r : Fin 4) (s : State) : State := s.when (mRunning r s) (fun t => t.each (active r t) (fun p => restOne r p))

/-- Blanking takes hold of a phase of the rail. -/
def blankOne (r : Fin 4) (p : Fin 32) (s : State) : State :=
  if s.phase[p].held.isSome then s
  else if s.phase[p].out = .high then (if inMinOn r p s then phaseOffMinOn r p s else fall r p s)
  else if (active r s).contains p then restOne r p s
  else s

/-- Blanking ends for a phase: its off state of R176. -/
def unblankOne (r : Fin 4) (p : Fin 32) (s : State) : State :=
  if s.phase[p].held.isSome ∨ s.phase[p].out = .high then s
  else phUpd p (fun h => { h with out := if diodeMid r p s then .mid else .low }) s

/-- Blanking follows OVERSHOOT and OVACT: it takes hold of every phase of the rail, or ends (R125). -/
def blankFollow (r : Fin 4) (s : State) : State :=
  let want := s.on (F.GATH_CMPr_STAT_OVNOW r) && ovAct r s != 0
  if want == s.on (F.MRVr_STAT_OVBLK r) then s
  else if want then (s.put (F.MRVr_STAT_OVBLK r) 1).each (railList r s) (fun p => blankOne r p)
  else (s.put (F.MRVr_STAT_OVBLK r) 0).each (active r s) (fun p => unblankOne r p)

/-- OVERSHOOT asserts: counted and flagged, every forced phase is released, blanking starts where OVACT is not 0, and the OV timer
starts (R93, R122, R125, R132). -/
def ovAssert (r : Fin 4) (s : State) : State :=
  if !s.on (F.GATH_CMPr_CTL_OVEN r) || !railEn r s || s.on (F.GATH_CMPr_STAT_OVNOW r) then s
  else
    let s1 := (((s.put (F.GATH_CMPr_STAT_OVNOW r) 1).put (F.GATH_CMPr_STAT_OVSEEN r) 1).inc (F.GATH_CMPr_CNT_OVCNT r)).inc (F.MRVr_GLCNT_OV r)
    ovStart r (if ovAct r s = 0 then forceEndAll r s1 else blankFollow r s1)

/-- A low hold that waited for OVERSHOOT ends, or its phases whose minimum off-time is over go to MID (R144). -/
def ovHoldEnd (r : Fin 4) (s : State) : State :=
  if !s.edge[r].lowHold then s
  else if s.edge[r].holdUntil ≤ s.clk.ns then holdEnd r s
  else s.each (List.finRange 32) (fun p t =>
    if t.phase[p].held = some r ∧ !t.phase[p].minOff then phUpd p (fun h => { h with out := .mid, held := none, toMid := false }) t else t)

/-- The OVERSHOOT output is inactive: blanking ends, fault 0 is absent, and a low hold that waited for the release ends (R125, R132, R144). -/
def ovQuiet (r : Fin 4) (s : State) : State :=
  ovHoldEnd r (protUpd r (fun q => { q with stopOv := false }) (blankFollow r (ovEnd r (s.put (F.GATH_CMPr_STAT_OVNOW r) 0))))

/-- OVERSHOOT releases; the walker may go on (R121). -/
def ovRelease (r : Fin 4) (s : State) : State := gloryKick r (ovQuiet r s)

/-- The rail's comparators are inactive while it is disabled (R93). -/
def cmpOff (r : Fin 4) (s : State) : State := ovQuiet r (s.put (F.GATH_CMPr_STAT_UVNOW r) 0)

/-! ## Stop, freeze, inert (R144, R182 to R186) -/

/-- STOP_LOW_HOLD_END: the last MINOFF of a low hold has ended; after an overvoltage stop the hold lasts while OVERSHOOT is asserted. -/
def lowHoldEnd (r : Fin 4) (s : State) : State := if s.edge[r].lowHold && !holdWaits r s then gloryStart r (holdEnd r s) else s

/-- FREEZE of a rail in RUN; on a frozen rail the count restarts (R182, R217). -/
def freeze (r : Fin 4) (s : State) : State :=
  if eState r s ≠ eRUN then s
  else
    let n := s.get (F.EDGEr_FRZ_FRZTURNS r)
    let s1 := edgeUpd r (fun e => { e with frzCount := n }) (s.put (F.EDGEr_STAT_FRZLEFT r) n)
    if s.on (F.EDGEr_STAT_FRZ r) then s1
    else
      let s2 := ((s1.put (F.EDGEr_STAT_FRZ r) 1).inc (F.EDGEr_CNT_FRZ r)).each (active r s) (fun p => phUpd p (fun h => { h with frozenTon := h.ton }))
      parAbort r 4 (ringtestFail r s2)

/-- The freeze ends by its count or by action 0x02 (R183). -/
def unfreeze (r : Fin 4) (s : State) : State := if s.on (F.EDGEr_STAT_FRZ r) then freezeEnd r s else s

/-- The rail's phases outside a stop's hold that are still HIGH turn off at an inert entry or a disable (R181, R184). -/
def othersOff (r : Fin 4) (obeyMinOn : Bool) (s : State) : State :=
  s.each (railList r s) (fun p t =>
    if t.phase[p].out = .high ∧ t.phase[p].held.isNone then
      phUpd p (fun h => { h with carry := 0, toMid := true }) (if obeyMinOn then phaseOffMinOn r p t else phaseOff r p t)
    else phUpd p (fun h => { h with carry := 0 }) t)

/-- A phase that is HIGH at an inert entry within a disable's hold, waiting for its minimum on-time, turns off at once and holds LOW from then
(R181, R184). -/
def heldOff (r : Fin 4) (s : State) : State :=
  let ps := (List.finRange 32).filter (fun p => s.phase[p].held == some r && s.phase[p].out == .high)
  if ps.isEmpty then s
  else (edgeUpd r (fun e => { e with holdUntil := s.clk.ns + minOff r s })
    (s.each ps (fun p t => holdPhase r p ((phaseOff r p t).cancel (.minOnTimeEnd p))))).restart (minOff r s) (.stopLowHoldEnd r)

/-- INERT of a rail in ENWAIT, RUN or HALT; a stop's own hold goes on (R184, R186, R217). -/
def inert (r : Fin 4) (s : State) : State :=
  let st := eState r s
  if st = eOFF ∨ st = eINERT then s
  else
    let n := railN r s
    let s1 := othersOff r false (if st = eHALT then s
      else freezeEnd r (parAbort r 3 (ringtestFail r (idleFast r (mLeave r mSTOPPED (lowHold r false (protUpd r (fun q => { q with stopOv := false }) (heldOff r s))))))))
    (setE r eINERT (edgeUpd r (fun e => { e with enAt := none, roseAt := none }) s1)).logReq 0x06 0x0002 [b8 r, b8 st, b8 (pState r s), b8 n]

/-- RELEASE of an INERT rail: HALT where protection holds it, else a restart with T held (R185). -/
def release (r : Fin 4) (s : State) : State :=
  if eState r s ≠ eINERT then s
  else
    let held := pState r s = pLATCHED ∨ pState r s = pHICWAIT
    let s1 := if held then setE r eHALT s
      else setE r eENWAIT (edgeUpd r (fun e => { e with enAt := some s.clk.ns, roseAt := none, keepT := true }) s)
    s1.logReq 0x06 0x0003 [b8 r, b8 (eState r s1)]

/-- EDGE_ACT by its action code; an unlisted code is ignored. -/
def edgeAct (arg : BitVec 16) (action : Byte) (s : State) : State :=
  let r : Fin 4 := Fin.ofNat 4 arg.toNat
  match action.toNat with
  | 1 => freeze r s
  | 2 => unfreeze r s
  | 3 => inert r s
  | 4 => release r s
  | _ => s

/-! ## Enable and disable (R164, R165, R179 to R181) -/

/-- The first phase of a list that occurs earlier in it or on another rail that is not OFF (R164). -/
def listClash (r : Fin 4) (s : State) : Option (Fin 32) :=
  let others := (rails.filter (fun q => q != r && eState q s != eOFF)).flatMap (fun q => railList q s)
  let l := railList r s
  (List.range l.length).findSome? (fun k =>
    match l[k]? with
    | some p => if (l.take k).contains p || others.contains p then some p else none
    | none => none)

/-- The fault of a rail's phase list: 0xFF for M outside 1 to 24, else the phase that breaks R164 (R188). -/
def listFault (r : Fin 4) (s : State) : Option Nat :=
  let m := s.get (F.EDGEr_MAP_M r)
  if m = 0 ∨ 24 < m then some 255 else (listClash r s).map (fun p => p.val)

/-- The power domains a rail needs (R89, R179). -/
def railDomains (r : Fin 4) (s : State) : List Nat :=
  let v := [2 * r.val, 2 * r.val + 1].map (fun k => gDomain 0 (s.get (gLaneFld 0 k)))
  let i := ((List.range 8).filter (fun j => (railList r s).any (fun p => p.val / 4 == j))).map (fun j => gDomain 1 (s.get (gLaneFld 1 j)))
  [18 + r.val, 22 + r.val] ++ v ++ i ++ [49]

/-- The lowest-numbered needed domain that is off. -/
def railDomainOff (r : Fin 4) (s : State) : Option Nat := ((railDomains r s).filter (fun d => !pdOn d s)).min?

/-- The lowest-numbered reason that refuses an enable, with its data byte (R179, R188). -/
def enableRefusal (r : Fin 4) (s : State) : Option (Nat × Nat) :=
  let d := railDom r s
  if !s.on (F.ANGn_CTL_EN d) then some (1, d.val)
  else
    match listFault r s with
    | some p => some (2, p)
    | none =>
      match railDomainOff r s with
      | some n => some (3, n)
      | none => if 4 ≤ s.dom[d].src ∨ 4 ≤ s.get (F.ANGn_CTL_SRC d) then some (4, d.val) else none

/-- A write of EN = 1 to a rail in OFF: refused and logged, or ENWAIT (R179, R180). -/
def railEnable (r : Fin 4) (s : State) : State :=
  if eState r s ≠ eOFF then s
  else
    match enableRefusal r s with
    | some (why, d) =>
      let s1 := ((s.put (F.EDGEr_CTL_EN r) 0).setBit F.EDGE_FLT_ENREF r).when (listFault r s).isSome (fun t => t.setBit F.EDGE_FLT_BADMAP r)
      s1.logReq 0x06 0x0001 [b8 r, b8 why, b8 d]
    | none =>
      let s1 := s.put (F.EDGEr_CTL_EN r) 1
      let s2 := setE r eENWAIT (edgeUpd r (fun e => { e with enAt := some s.clk.ns, roseAt := none, keepT := false }) s1)
      ffGuardChange r false (protOnRail r s2)

/-- A write of EN = 0: phases turn off after their minimum on-time and hold LOW, the engine and the rail enter OFF, protection state
follows R153, freeze, carries and Parison end (R181, R217). -/
def railDisable (r : Fin 4) (s : State) : State :=
  if eState r s = eOFF then s.put (F.EDGEr_CTL_EN r) 0
  else
    let before := ffGuard r s
    let s1 := if s.edge[r].lowHold then s else lowHold r true (protUpd r (fun q => { q with stopOv := false }) s)
    let s2 := othersOff r true (freezeEnd r (parAbort r 2 (ringtestFail r (mLeave r mOFF (protOffRail r s1)))))
    let s3 := setE r eOFF (edgeUpd r (fun e => { e with enAt := none, roseAt := none }) (s2.put (F.EDGEr_CTL_EN r) 0))
    ffGuardChange r before (cmpOff r s3)

/-- A write of EDGEr_CTL: SPM, OFFMODE and OFSMODE wait for the rail's boundary; EN acts at once (R166, R179, R181, R187). -/
def edgeCtlWrite (r : Fin 4) (v : Word) (s : State) : State :=
  let old := s.rd (Reg.EDGEr_CTL r)
  let keep := fldInto (F.EDGEr_CTL_EN r) (fldOf (F.EDGEr_CTL_EN r) old) v
  let s1 := if (keep ^^^ old) &&& implMask (Reg.EDGEr_CTL r) = 0 then s else showPends (s.store (Reg.EDGEr_CTL r) keep)
  if fldOf (F.EDGEr_CTL_EN r) v = 1 then railEnable r s1 else railDisable r s1

/-- A write of EDGEr_MAP or EDGEr_LISTj: ignored, flagged and logged unless the rail is OFF (R165). -/
def edgeMapWrite (r : Fin 4) (a : Nat) (v : Word) (s : State) : State :=
  if eState r s ≠ eOFF then (s.put F.EDGE_FLT_MAPREF 1).logReq 0x06 0x0004 (b8 r :: bytesOfNat 2 (a % 65536)) else s.wr a v

/-! ## Enable and restart at turn boundaries (R147, R180) -/

/-- The engine enters PREBIAS once ENDLY has passed since ENr rose; the rail is then in RUN (R180). -/
def prebiasEntry (r : Fin 4) (s : State) : State :=
  match s.edge[r].roseAt with
  | some t =>
    if eState r s = eENWAIT ∧ t + s.lv (F.EDGEr_TIME_ENDLY r) * 1000 ≤ s.clk.ns then
      let keep := s.edge[r].keepT
      enterPrebias r keep (setE r eRUN (edgeUpd r (fun e => { e with enAt := none, roseAt := none, keepT := false }) s))
    else s
  | none => s

/-- ENr rises at the first boundary at least one cycle after the accepted enable or release (R180). -/
def enrBoundary (r : Fin 4) (s : State) : State :=
  match s.edge[r].enAt with
  | some t =>
    if eState r s = eENWAIT ∧ t < s.clk.ns ∧ s.edge[r].roseAt.isNone then
      prebiasEntry r (edgeUpd r (fun e => { e with roseAt := some s.clk.ns }) (s.put (F.EDGEr_STAT_ENOUT r) 1))
    else prebiasEntry r s
  | none => prebiasEntry r s

/-- HICCUP_RESTART: ENr rises at the restart boundary, T is held, PSTATE is NORMAL, log code 0x0003; a fault declared in that cycle with response HICCUP
cancels it (R147, R152, R153). -/
def hicRestart (r : Fin 4) (s0 : State) : State :=
  let s := protUpd r (fun q => { q with restartAt := none }) s0
  if hicTime r s && s0.prot[r].restartAt == some s.clk.ns && s.prot[r].hicAt == some s.clk.ns then hicCancel r s
  else if hicReady r s then
    let s1 := (setP r pNORMAL s).logReq 0x05 0x0003 [b8 r, b8 (s.get (F.PROTr_STAT_HCNT r))]
    let s2 := edgeUpd r (fun e => { e with enAt := none, roseAt := some s.clk.ns, keepT := true }) (s1.put (F.EDGEr_STAT_ENOUT r) 1)
    prebiasEntry r (setE r eENWAIT s2)
  else s

/-! ## PROT_ACT (R154, R155) -/

/-- The faults present on a rail, as a mask. -/
def condMask (r : Fin 4) (s : State) : Nat := s.get (F.PROTr_STAT_COND r)

/-- A phase outside a low hold goes to MID at once; a HIGH one then has its minimum off-time (R154, R172). -/
def midNow (r : Fin 4) (p : Fin 32) (s : State) : State :=
  if s.phase[p].held.isSome then s
  else phUpd p (fun h => { h with out := .mid, toMid := false, offPending := false, commit := none, quiet := false, slotT := none, carry := 0 }) (phaseOff r p s)

/-- CLEAR (R154, R155). -/
def protClear (arg : BitVec 16) (s : State) : State :=
  let r : Fin 4 := Fin.ofNat 4 arg.toNat
  if pState r s ≠ pLATCHED then s
  else if stopPresent r s then (s.put F.PROT_FLT_CLRREF 1).logReq 0x05 0x0006 ([b8 r, 1] ++ bytesOfNat 2 (condMask r s))
  else
    let before := ffGuard r s
    let s1 := (s.logReq 0x05 0x0005 [b8 r]).put (F.EDGEr_CTL_EN r) 0
    let s2 := setE r eOFF (protOffRail r (mLeave r mOFF (s1.each (railList r s1) (fun p => midNow r p))))
    let s3 := ffGuardChange r before (cmpOff r s2)
    if s3.edge[r].lowHold then s3 else s3.put (F.EDGEr_STAT_ENOUT r) 0

/-- ABORT: a rail in HICWAIT latches off (R154). -/
def protAbort (arg : BitVec 16) (s : State) : State :=
  let r : Fin 4 := Fin.ofNat 4 arg.toNat
  if pState r s = pHICWAIT then railLatch r s else s

/-- RESTOREPH (R154, R155). -/
def protRestore (arg : BitVec 16) (s : State) : State :=
  let p : Fin 32 := Fin.ofNat 32 (arg.toNat / 256)
  if !phaseOos p s then s
  else
    match railOf p s with
    | some r =>
      if s.bit F.GATH_IMFLT_IMFLT p then (s.put F.PROT_FLT_RSTREF 1).logReq 0x05 0x0006 ([b8 r, 3] ++ bytesOfNat 2 (condMask r s))
      else phUpd p (fun h => { h with restore := some r }) s
    | none =>
      if s.bit F.GATH_IMFLT_IMFLT p then (s.put F.PROT_FLT_RSTREF 1).logReq 0x05 0x0006 ([255, 3] ++ bytesOfNat 2 0)
      else s.putBit F.PROT_OOS_OOS p false

/-- PROT_ACT by its action code; an unlisted code has no other effect (R155). -/
def protAct (arg : BitVec 16) (action : Byte) (s : State) : State :=
  match action.toNat with
  | 1 => protClear arg s
  | 2 => protAbort arg s
  | 3 => protRestore arg s
  | _ => s

/-! ## Samples (R80, R101, R103) -/

/-- A run of saturated merged samples: its length by code (R101). -/
def satRun (r : Fin 4) (e : Int) (s : State) : State :=
  let u := s.gath.vsat[r]
  let sat := decide (e = 2047 ∨ e = -2048)
  let n := if !sat then 0 else if u.run = 0 ∨ u.code ≠ e then 1 else min 257 (u.run + 1)
  let s1 : State := { s with gath := { s.gath with vsat := updAt s.gath.vsat r (fun u => { u with run := n, code := e }) } }
  let zero := decide (s.get (F.MRVr_DUTY_D r) = 0)
  let s2 := mrvUpd r (fun m => { m with dZero := if n ≤ 1 then zero else if n ≤ 256 then m.dZero && zero else m.dZero }) s1
  if n ≤ 1 then satEnd r s2 else s2

/-- V_SATURATION: 256 consecutive merged samples at one saturated code: VSAT, log code 0x0007, and the signal to protection (R101, R132). -/
def vSaturation (r : Fin 4) (positive : Bool) (s : State) : State :=
  satSignal r positive ((s.setBit F.GATH_FLT_VSAT r).logReq 0x03 0x0007 [b8 r, if positive then 1 else 0])

/-- MERGED_SAMPLE: the saturation run in every state of the engine, and its signal while it lasts; detector 1, the end of PREBIAS, or the compensator
(R101, R103, R111, R112, R132, R135). -/
def mergedSample (r : Fin 4) (e0 : Int) (s : State) : State :=
  let e := clampInt e0 (-2048) 2047
  let s1 := satRun r e (mrvUpd r (fun m => { m with e := e }) s)
  let run := s1.gath.vsat[r].run
  let s2 := if run = 256 then vSaturation r (decide (e = 2047)) s1 else if 256 < run then satSignal r (decide (e = 2047)) s1 else s1
  if mState r s2 ≠ mPREBIAS ∧ !mRunning r s2 then s2
  else
    let s3 := uvSample r e s2
    if mState r s3 = mPREBIAS then (if e ≤ 0 then enterRamp r s3 else s3)
    else if mRunning r s3 then
      let s4 := ringInject r s3
      ringCorrelate r (compensate r e (ringAdd r s4) s4)
    else s3

/-- I = (V_IMON − REF) / GAIN in 1/16 A, exactly, a half rounding up, saturated to 16 bits; a GAIN of 0 acts as 1; a written scale acts at once, unshadowed
(R27, R80) (DESIGN CHOICE, log entry 57). -/
def imonScale (p : Fin 32) (code : Nat) (s : State) : Int :=
  let gain : Int := zeroAsOne (s.get (F.GATH_IMSCALEp_GAIN p))
  let ref : Int := s.get (F.GATH_IMSCALEp_REF p)
  clampInt ((2 * (((code : Int) * 18000 - ref * 4096) * 160) + gain * 4096).fdiv (2 * (gain * 4096))) (-32768) 32767

/-- The IMON code is below 0.100 V (R101). -/
def imonLow (code : Nat) : Bool := decide (code * 18 < 4096)

/-- A phase's current with the guard of R101: a below-range sample is replaced by the last valid one, or by 0 A. -/
def imonCurrent (p : Fin 32) (code : Nat) (s : State) : Int :=
  if imonLow code then (s.gath.imon[p].lastValid).getD 0 else imonScale p code s

/-- IMON_OPEN: 64 consecutive below-range samples: GATH_IMFLT, IMOPEN, log code 0x0006, fault 9, the trim held at 0 (R101, R117, R132). -/
def imonOpen (p : Fin 32) (s : State) : State :=
  let s1 := ((s.setBit F.GATH_IMFLT_IMFLT p).put F.GATH_FLT_IMOPEN 1).logReq 0x03 0x0006
    (b8 p :: bytesOfNat 2 (ofSigned 16 ((s.gath.imon[p].lastValid).getD 0)))
  let s2 := phUpd p (fun h => { h with bal := 0 }) s1
  s2.each (rails.filter (fun r => (railList r s).contains p)) (fun r t => showBal r (imoRefresh r p t))

/-- The run of below-range samples of a phase; the last valid sample is held as the current it was scaled to (R101) (DESIGN CHOICE, log entry 66). -/
def imonRun (p : Fin 32) (code : Nat) (i : Int) (s : State) : State :=
  let n := if imonLow code then min 64 (s.gath.imon[p].run + 1) else 0
  let s1 : State := { s with gath := { s.gath with imon := updAt s.gath.imon p (fun u => { u with run := n, lastValid := if imonLow code then u.lastValid else some i }) } }
  if n = 64 ∧ !s.bit F.GATH_IMFLT_IMFLT p then imonOpen p s1 else s1

/-- I_SAMPLE: the sample is scaled and guarded, goes to protection, ends diode emulation's LOW, and is the balance sample where its
aperture is the first at or after the pulse's midpoint (R80, R101, R117, R132, R176). -/
def iSample (p : Fin 32) (code : Nat) (s : State) : State :=
  let i := imonCurrent p code s
  let s1 := phUpd p (fun h => { h with isamp := i }) (imonRun p code i s)
  match railOf p s1 with
  | none => phUpd p (fun h => { h with midT := none }) s1
  | some r =>
    let s2 := phocSample r p i s1
    let due := match s2.phase[p].midT with | some t => decide (t ≤ (s2.clk.ns - 5) * 64) | none => false
    let s3 := s2.when due (fun t => balanceSample r p i (phUpd p (fun h => { h with midT := none }) t))
    if s3.phase[p].out = .low ∧ diodeMid r p s3 ∧ mRunning r s3 ∧ (active r s3).contains p ∧ s3.phase[p].held.isNone ∧ !s3.on (F.MRVr_STAT_OVBLK r)
    then phUpd p (fun h => { h with out := .mid }) s3 else s3

/-! ## Conversions of the lanes (R79, R80, R86) -/

/-- The rail's sensed voltage in 50 µV from the DAC's value and the error of a sample; a half rounds up, and V_DAC is the one at the sample's
arrival; below 0 V the format has no value, which is free (R96) (DESIGN CHOICE, log entry 48). -/
def sensedAt (r : Fin 4) (e : Int) (s : State) : Int :=
  let v := (s.get (F.MRVr_ILF_VT r) : Int) + asr (e * 125 + 64) 7
  if v < 0 then (s.freeWord.toNat % 65536 : Nat) else v

/-- A sample of a served V-lane: the error of the slice's code goes to the sequencers and, as the next of the merged stream, to the Marver engine
(R79, R86, R96, R103). -/
def vSample (r : Fin 4) (k : Fin 8) (raw : BitVec 12) (shadow : Option (BitVec 12)) (s : State) : State :=
  let q := gTake 0 k (s.clk.ns - 6) raw shadow s
  let e := q.2 - 2048
  let s1 : State := { q.1 with gath := { q.1.gath with vLast := updAt q.1.gath.vLast r (fun _ => s.clk.ns + 1) } }
  mergedSample r e (seqFeed 4 (4 * r.val + 1) (sensedAt r e s1) (seqFeed 1 k e s1.draw))

/-- A sample of a served I-lane: the slice's code is the phase's current sample, which the sequencers see as R101 passes it (R80, R86, R96). -/
def pSample (p : Fin 32) (raw : BitVec 12) (shadow : Option (BitVec 12)) (s : State) : State :=
  let j : Fin 8 := Fin.ofNat 8 (p.val / 4)
  let q := gTake 1 j (s.clk.ns - 5) raw shadow s
  let s1 : State := { q.1 with gath := { q.1.gath with iLast := updAt q.1.gath.iLast j (fun _ => s.clk.ns + 1) } }
  iSample p q.2.toNat (seqFeed 2 p (imonCurrent p q.2.toNat s1) s1)

/-! ## Window comparators (R92, R93) -/

/-- The UNDERSHOOT threshold in 50 µV, not below 0 V, and the OVERSHOOT threshold (R92). -/
def uvThr (r : Fin 4) (s : State) : Int := max 0 ((vS r s : Int) - 20 * s.get (F.GATH_CMPr_CTL_UVTH r))
def ovThr (r : Fin 4) (s : State) : Int := (vS r s : Int) + 20 * s.get (F.GATH_CMPr_CTL_OVTH r)

/-- The hysteresis in 50 µV (R92). -/
def cmpHyst (r : Fin 4) (s : State) : Int := 20 * s.get (F.GATH_CMPr_CTL_HYST r)

/-- The glitch filter's time in 0.5 ns by its code (R92). -/
def cmpFilt (c : Nat) : Nat := ([1, 2, 3, 4, 6, 8, 12, 16] : List Nat).getD c 0

/-! ## Meanings -/

/-- MERGED_SAMPLE: the raw conversion of the lane whose sample is due now. A sample that the grid does not place here, a second one of the cycle,
and one of an unserved lane do not exist (R79, R86, R89, R103) (DESIGN CHOICE, log entry 44). -/
def execMergedSample (r : Fin 4) (x : Conversion) (s : State) : Out :=
  .next (match vLaneNow r s with
    | some k => if gServed 0 k (s.clk.ns - 6) s && s.gath.vLast[r] != s.clk.ns + 1 then vSample r k x.raw x.shadow s else s
    | none => s)

/-- V_SATURATION (R101). -/
def execVSaturation (r : Fin 4) (positive : Bool) (s : State) : Out := .next (vSaturation r positive s)

/-- I_SAMPLE: the raw conversion of the phase that its lane samples now (R80, R86, R89) (DESIGN CHOICE, log entry 44). -/
def execISample (p : Fin 32) (x : Conversion) (s : State) : Out :=
  .next (if iPhaseNow p s && gServed 1 (p.val / 4) (s.clk.ns - 5) s && s.gath.iLast[Fin.ofNat 8 (p.val / 4)] != s.clk.ns + 1
    then pSample p x.raw x.shadow s else s)

/-- IMON_OPEN (R101). -/
def execImonOpen (p : Fin 32) (s : State) : Out := .next (imonOpen p s)

/-- UNDERSHOOT_ASSERT: the sensed voltage has been below the threshold for the filter time or more (R92, R121)
(DESIGN CHOICE, log entry 44). -/
def execUndershootAssert (x : CmpEdge) (s : State) : Out :=
  .next (if x.volts < uvThr x.rail s ∧ cmpFilt (s.get (F.GATH_CMPr_CTL_UVFILT x.rail)) ≤ x.beyond then uvAssert x.rail s else s)

/-- UNDERSHOOT_RELEASE: the sensed voltage is back over the threshold by HYST (R92, R123). -/
def execUndershootRelease (x : CmpLevel) (s : State) : Out :=
  .next (if uvThr x.rail s + cmpHyst x.rail s ≤ x.volts ∧ s.on (F.GATH_CMPr_STAT_UVNOW x.rail) then uvRelease x.rail s else s)

/-- OVERSHOOT_ASSERT: the sensed voltage has been above the threshold for the filter time (R92, R125) (DESIGN CHOICE, log entry 44). -/
def execOvershootAssert (x : CmpEdge) (s : State) : Out :=
  .next (if ovThr x.rail s < x.volts ∧ cmpFilt (s.get (F.GATH_CMPr_CTL_OVFILT x.rail)) ≤ x.beyond then ovAssert x.rail s else s)

/-- OVERSHOOT_RELEASE: the sensed voltage is back under the threshold by HYST (R92, R125). -/
def execOvershootRelease (x : CmpLevel) (s : State) : Out :=
  .next (if x.volts ≤ ovThr x.rail s - cmpHyst x.rail s ∧ s.on (F.GATH_CMPr_STAT_OVNOW x.rail) then ovRelease x.rail s else s)

/-- GLORY_WALKER_STEP (R121). -/
def execGloryWalkerStep (r : Fin 4) (s : State) : Out := .next (gloryStep r s)

/-- GLORY_GLMAX_RELEASE (R122). -/
def execGloryGlmaxRelease (p : Fin 32) (s : State) : Out := .next (glmaxRelease p s)

/-- STOP_LOW_HOLD_END (R144). -/
def execStopLowHoldEnd (r : Fin 4) (s : State) : Out := .next (lowHoldEnd r s)

/-- HICCUP_RESTART (R147). -/
def execHiccupRestart (r : Fin 4) (s : State) : Out := .next (hicRestart r s)

/-- ON_EDGE_COMMIT (R173). -/
def execOnEdgeCommit (p : Fin 32) (s : State) : Out := .next (onEdgeCommit p s)

/-- SLOT_CROSSING (R167). -/
def execSlotCrossing (p : Fin 32) (s : State) : Out := .next (slotCrossing p s)

/-- OFF_EDGE (R170). -/
def execOffEdge (p : Fin 32) (s : State) : Out := .next (offEdge p s)

/-- MIN_OFF_TIME_END (R172). -/
def execMinOffTimeEnd (p : Fin 32) (s : State) : Out := .next (minOffEnd p s)

/-- MIN_ON_TIME_END (R125). -/
def execMinOnTimeEnd (p : Fin 32) (s : State) : Out := .next (minOnEnd p s)

/-- FREEZE: event-matrix sink 96 + 2r, or EDGE_ACT action 0x01 with its ticket (R182). -/
def execFreeze (r : Fin 4) (ticket : Option Byte) (s : State) : Out :=
  .next (match ticket with
    | some t => s.act Reg.EDGE_ACT t (BitVec.ofNat 16 r) 1 (freeze r)
    | none => freeze r s)

/-- UNFREEZE: EDGE_ACT action 0x02 (R183). -/
def execUnfreeze (ticket : Byte) (arg : BitVec 16) (s : State) : Out :=
  .next (s.act Reg.EDGE_ACT ticket arg 2 (unfreeze (Fin.ofNat 4 arg.toNat)))

/-- FREEZE_END: the FRZTURNS-th turn boundary of a freeze (R183). -/
def execFreezeEnd (r : Fin 4) (s : State) : Out := .next (unfreeze r s)

/-- INERT: event-matrix sink 97 + 2r, or EDGE_ACT action 0x03 with its ticket (R184). -/
def execInert (r : Fin 4) (ticket : Option Byte) (s : State) : Out :=
  .next (match ticket with
    | some t => s.act Reg.EDGE_ACT t (BitVec.ofNat 16 r) 3 (inert r)
    | none => inert r s)

/-- RELEASE: EDGE_ACT action 0x04 (R185). -/
def execRelease (ticket : Byte) (arg : BitVec 16) (s : State) : Out :=
  .next (s.act Reg.EDGE_ACT ticket arg 4 (release (Fin.ofNat 4 arg.toNat)))

/-- PROT_CLEAR: PROT_ACT action 0x01 (R154, R155). -/
def execProtClear (ticket : Byte) (arg : BitVec 16) (s : State) : Out := .next (s.act Reg.PROT_ACT ticket arg 1 (protClear arg))

/-- ABORT: PROT_ACT action 0x02 (R154). -/
def execAbort (ticket : Byte) (arg : BitVec 16) (s : State) : Out := .next (s.act Reg.PROT_ACT ticket arg 2 (protAbort arg))

/-- RESTOREPH: PROT_ACT action 0x03 (R154, R155). -/
def execRestoreph (ticket : Byte) (arg : BitVec 16) (s : State) : Out := .next (s.act Reg.PROT_ACT ticket arg 3 (protRestore arg))

end Sys2Proof.Machine
end

