-- ==== Sys2Proof/Machine/MotFault.lean ====
section
/-!
DEFINITION. Machine/MotFault.lean: motor states and motor faults, which other blocks' events bring about
(spec/17_motor_feedback.md, R475 to R480).
-/
namespace Sys2Proof.Machine

/-- A motor's hidden state replaced. -/
def motUpd (m : Fin 4) (f : Motor → Motor) (s : State) : State := { s with mot := updAt s.mot m f }

/-- MOTm_STAT.ST codes. -/
def moOFF : Nat := 0
def moALIGN : Nat := 1
def moRUN : Nat := 2
def moINERT : Nat := 3
def moFAULT : Nat := 4

/-- A motor's state. -/
def motSt (m : Fin 4) (s : State) : Nat := s.get (F.MOTm_STAT_ST m)

/-- The motor switches: ALIGN or RUN. -/
def motSwitches (m : Fin 4) (s : State) : Bool := motSt m s == moALIGN || motSt m s == moRUN

/-- A motor is enabled (R475). -/
def motorEn (m : Fin 4) (s : State) : Bool := s.on (F.MOTm_CTL_EN m)

/-- The domain of a motor, and the feedback channel its source names; 4 where the source is not FB0 to FB3 (R44, R475). -/
def motorDom (m : Fin 4) (s : State) : Fin 8 := Fin.ofNat 8 (s.get (F.MOTm_CTL_DOM m))
def motorFb (m : Fin 4) (s : State) : Nat :=
  let src := s.dom[motorDom m s].src
  if 4 ≤ src ∧ src ≤ 7 then src - 4 else 4

/-- A motor enters a state: its carries clear, and outside ALIGN and RUN its outputs are low: no pulse stands and no current pair is
awaited (R464, R467, R477). -/
def motEnter (m : Fin 4) (st : Nat) (s : State) : State :=
  let s1 := s.put (F.MOTm_STAT_ST m) st
  motUpd m (fun x => { x with
    phase := x.phase.map (fun p => { p with carry := 0, start := 0, stop := 0 })
    next := none, asked := false, apAt := none, first := true, release := false, alignAt := if st = moALIGN then s.clk.ns else x.alignAt }) s1

/-- The carrier of a motor stops, and its stall timer. -/
def motCarrierOff (m : Fin 4) (s : State) : State :=
  motUpd m (fun x => { x with stallFrom := none }) (((s.cancel (.pwmPeriodStart m)).cancel (.currentSampleRequest m)).cancel (.stall m))

/-- The speed in rpm, truncated toward zero (R473, R488). -/
def motRpm (m : Fin 4) (s : State) : Int := Int.tdiv (s.getI (F.MOTm_SPEED_SPEED m)) 16

/-! ## Conditions (R478) -/

/-- The response code of a fault. -/
def motResp (m : Fin 4) (f : Nat) (s : State) : Nat := s.get (F.MOTm_RESP_RESP m) / 2 ^ (3 * f) % 8

/-- The raw condition of DRV, ISNS, FBF and OVSPD; the others are kept by their events. -/
def motRaw (m : Fin 4) (f : Nat) (s : State) : Bool :=
  match f with
  | 1 => s.mot[m].fltLow
  | 2 => s.bit F.GATH_MFLT_MFLT (2 * m.val) || s.bit F.GATH_MFLT_MFLT (2 * m.val + 1)
  | 3 =>
    let st := s.get (F.ANGn_STAT_STATE (motorDom m s).val)
    st == 0 || st == 4 || st == 5
  | 4 => decide (s.get (F.MOTm_LIM_OVSPD m) * 16 ≤ (s.getI (F.MOTm_SPEED_SPEED m)).natAbs)
  | _ => s.bit (F.MOTm_STAT_COND m) f

/-- The conditions that stood when a CLEAR was accepted in this peripheral-clock cycle; none where none was (R480). -/
def motCleared (m : Fin 4) (s : State) : Option Nat := s.mot[m].cleared.bind (fun c => if c.1 = s.clk.ns / 4 then some c.2 else none)

/-- The detector of a fault acts: 0, 4 and 5 in ALIGN and RUN, the others whenever EN = 1; a declaration in the cycle of an accepted CLEAR is applied
after it (R478, R480). -/
def motActs (m : Fin 4) (f : Nat) (s : State) : Bool :=
  if f = 0 ∨ f = 4 ∨ f = 5 then motorEn m s && motSwitches m s else motorEn m s || (motCleared m s).isSome

/-- The mask of conditions present. -/
def motConds (m : Fin 4) (s : State) : Nat := ((List.range 7).map (fun f => if motActs m f s && motRaw m f s then 2 ^ f else 0)).sum

/-! ## Declarations (R479) -/

/-- The value that a fault's log entry carries (R488). -/
def motValue (m : Fin 4) (f : Nat) (cur : Int) (s : State) : Int := if f = 0 then cur else if f = 4 ∨ f = 5 then motRpm m s else 0

/-- Faults declared in one cycle, in ascending order: DECL, log code 0x0001, source 137 + 2m once, and the highest response (R479). `cur`
is the current that the entry of fault OC reports. -/
def motDeclare (m : Fin 4) (fs : List Nat) (cur : Int) (s : State) : State :=
  let s1 := s.each fs (fun f t => (t.setBit (F.MOTm_FLAG_DECL m) f).logReq 0x11 0x0001
    ([b8 m, b8 f, b8 (motResp m f s)] ++ bytesOfNat 2 (ofSigned 16 (motValue m f cur s))))
  let s2 := s1.when (fs.any (fun f => decide (1 ≤ motResp m f s))) (fun t => t.fire (137 + 2 * m.val))
  if fs.any (fun f => motResp m f s == 4) ∧ motSt m s ≠ moFAULT then
    let s3 := motCarrierOff m (motEnter m moFAULT s2)
    s3.put (F.MOTm_STAT_COND m) (motConds m s3)
  else s2

/-- The conditions are formed afresh, and those newly present are declared (R478). -/
def motWatch (m : Fin 4) (cur : Int) (old : Nat) (s : State) : State :=
  let now := motConds m s
  let s1 := s.put (F.MOTm_STAT_COND m) now
  motDeclare m ((List.range 7).filter (fun f => now.testBit f && !old.testBit f)) cur s1

/-- The conditions that are no new ones: those shown, and those that stood at a CLEAR of this cycle. -/
def motOld (m : Fin 4) (s : State) : Nat := s.get (F.MOTm_STAT_COND m) ||| (motCleared m s).getD 0

/-- The conditions of a motor are formed afresh from the present state. -/
def motCheck (m : Fin 4) (s : State) : State := motWatch m 0 (motOld m s) s

/-- A condition that an event decides becomes present or absent. -/
def motSetCond (m : Fin 4) (f : Nat) (present : Bool) (cur : Int) (s : State) : State :=
  motWatch m cur (motOld m s) (s.putBit (F.MOTm_STAT_COND m) f present)

/-- Every enabled motor's conditions are formed afresh. -/
def motWatchAll (s : State) : State :=
  let live := fun (m : Fin 4) (t : State) => motorEn m t || (motCleared m t).isSome
  if (List.finRange 4).any (fun m => live m s) then s.each (List.finRange 4) (fun m t => if live m t then motCheck m t else t) else s

end Sys2Proof.Machine
end

