-- ==== Sys2Proof/Machine/Parison.lean ====
section
/-!
DEFINITION. Machine/Parison.lean: forecast shaping of a rail (spec/07_apram_link.md, R211 to R217). PARr_STAT.STATE: 0 IDLE, 1
ARMED, 2 RAMP, 3 HOLD, 4 UNWIND.
-/
namespace Sys2Proof.Machine

/-- PARr_STAT.STATE. -/
def parState (r : Fin 4) (s : State) : Nat := s.get (F.PARr_STAT_STATE r)

/-- A forecast is dropped with a reason: counted and logged (R211, R216, R218). -/
def parDrop (r : Fin 4) (reason seq : Nat) (s : State) : State :=
  (s.inc (F.PARr_CNT_DROP r)).logReq 0x07 0x0005 ([b8 r, b8 reason] ++ bytesOfNat 2 seq)

/-- PMAXR at Basic level, computed when a forecast is taken; at least 1 A/us (R211). -/
def parPmaxr (r : Fin 4) (s : State) : Nat :=
  max 1 (9 * s.get (F.EDGEr_MAP_M r) * (20 * (s.mrv[r].vin).getD 0 - s.get (F.MRVr_VSNOW_S r)) / (20 * zeroAsOne (s.lv (F.PARr_PLANT_LPH r))))

/-- The limit of the slew in force: derived and shown in PARr_GUARD at Basic level, as written at Expert level (R211). -/
def parGuardSlew (r : Fin 4) (s : State) : Nat :=
  if s.on F.APR_CTL_EXPERT then zeroAsOne (s.lv (F.PARr_GUARD_PMAXR r)) else parPmaxr r s

/-- DE of R211: DELTA, or DELTA × CONF / 256 toward zero when PSCALE = 1. -/
def parDe (r : Fin 4) (delta : Int) (conf : Nat) (s : State) : Int :=
  if s.lv (F.PARr_CTL_PSCALE r) = 1 then (delta * conf).tdiv 256 else delta

/-- The parameters of an episode: those in force when it is armed (R211 to R216). -/
def parParams (r : Fin 4) (f : Forecast) (s : State) : Forecast :=
  { f with
    loadMode := s.lv (F.PARr_CTL_PARN r) == 1, lph := zeroAsOne (s.lv (F.PARr_PLANT_LPH r)), ptau := zeroAsOne (s.lv (F.PARr_TIME_PTAU r))
    appwin := s.lv (F.PARr_TIME_APPWIN r), unwth := s.lv (F.PARr_GUARD_UNWTH r) }

/-- The values computed for a forecast that is taken (R211). -/
def parCompute (r : Fin 4) (seq : Nat) (delta : Int) (conf lead ramp : Nat) (s : State) : Forecast :=
  let now := s.clk.ns
  let de := parDe r delta conf s
  let tLoad := now + lead
  let slew := parGuardSlew r s
  let tr := max ramp ((de.natAbs * 125 + slew - 1) / slew)
  let tPre := max (tLoad - s.lv (F.PARr_TIME_PRELEAD r)) (now + 1)
  let d := railDom r s
  parParams r
    { seq := seq, de := de, tLoad := tLoad, tr := tr, tPre := tPre
      stamp := domAngle d s + BitVec.ofNat 32 (roundDiv ((tPre - now) * s.dom[d].rate.toNat) (2 ^ 24)) } s

/-- The lowest-numbered condition of R211 that a forecast fails; 0 when it is taken. -/
def parRefusal (r : Fin 4) (delta : Int) (conf lead : Nat) (s : State) : Nat :=
  if s.lv (F.PARr_CTL_EN r) = 0 ∨ !s.on (F.PARr_CTL_EN r) then 1
  else if mState r s ≠ mREG ∨ s.on (F.EDGEr_STAT_FRZ r) then 2
  else if lead < 40 ∨ 8000 < lead then 3
  else if delta = 0 ∨ 8 * s.lv (F.PARr_PLANT_PDMAX r) < delta.natAbs then 4
  else if conf < s.lv (F.PARr_CTL_CONFMIN r) then 5
  else if (s.mrv[r].vin).isNone then 7
  else 0

/-- The forecast is armed with the parameters in force: STATE ARMED, ARMED counts (R211, R216). It raises NPAR at a boundary of its own, at the latest with its ramp: until then NPAR is 0,
also where it replaces a forecast that had raised it (R212; DEDUCED, log entry 43). -/
def parArm (r : Fin 4) (f : Forecast) (s : State) : State :=
  parUpd r (fun q => { q with fc := some (parParams r f s), raised := false })
    ((((s.put (F.PARr_STAT_STATE r) 1).put (F.PARr_STAT_NPAR r) 0).put (F.PARr_STAT_SEQ r) f.seq).inc (F.PARr_CNT_ARMED r))

/-- An accepted FORECAST reaches Parison: dropped with a reason, or taken (source 128 + r) and armed, or put in the pending slot
(R211, R216). -/
def parTake (r : Fin 4) (seq : Nat) (delta : Int) (conf lead ramp : Nat) (s : State) : State :=
  let why := parRefusal r delta conf lead s
  if why ≠ 0 then parDrop r why seq s
  else
    let f := parCompute r seq delta conf lead ramp s
    let s1 := (s.when (!s.on F.APR_CTL_EXPERT) (fun t => parUpd r (fun q => { q with pmaxr := parPmaxr r s }) (t.putLive (F.PARr_GUARD_PMAXR r) (parPmaxr r s)))).fire (128 + r)
    if parState r s = 0 then parArm r f s1
    else if parState r s = 1 then parArm r f (s1.inc (F.PARr_CNT_SUPER r))
    else
      (parUpd r (fun q => { q with pend := some f }) (s1.when (s.par[r].pend).isSome (fun t => t.inc (F.PARr_CNT_SUPER r)))).put (F.PARr_STAT_PEND r) 1

/-- NPAR of an episode that requests phases (R212). -/
def parNpar (r : Fin 4) (f : Forecast) (s : State) : Nat :=
  let m := s.get (F.EDGEr_MAP_M r)
  if f.loadMode then
    clampNat (((s.mrv[r].iTot + 2 * max f.de 0).toNat + zeroAsOne (s.lv (F.MRVr_PH_IPHASE r)) * 16 - 1) / (zeroAsOne (s.lv (F.MRVr_PH_IPHASE r)) * 16)) 1 m
  else m

/-- At a turn boundary of the rail an armed episode raises NPAR once T_pre lies less than two periods ahead (R212). -/
def parBoundary (r : Fin 4) (s : State) : State :=
  match s.par[r].fc with
  | some f =>
    if parState r s = 0 then s
    else if s.par[r].raised || decide (f.tPre * 64 < s.now64 + 2 * s.mrv[r].tsw64) then
      (parUpd r (fun q => { q with raised := true }) s).put (F.PARr_STAT_NPAR r) (parNpar r f s)
    else s
  | none => s

/-- P of the present state, from IREF and I_TOT (R213, R215). -/
def parP (r : Fin 4) (f : Forecast) (s : State) : Int :=
  let q := s.par[r]
  let pfb := clampInt (asr ((asr q.iref 16 - s.mrv[r].iTot) * q.gfb) 8) (-(2 ^ 24)) (2 ^ 24)
  match parState r s with
  | 2 => (if 0 < f.de then (q.pff : Int) else -(q.pff : Int)) + pfb
  | 3 => pfb
  | 4 => if 0 < f.de then min pfb 0 else max pfb 0
  | _ => 0

/-- P and IREF as the registers show them. -/
def parShow (r : Fin 4) (f : Forecast) (s : State) : State :=
  let p := parP r f s
  (parUpd r (fun q => { q with p := p }) ((s.putI (F.PARr_P_P r) p).putI (F.PARr_IREF_IREF r) (asr s.par[r].iref 16)))

/-- IREF moved toward a target by RSTEP, stopping on it (R213). -/
def parMove (x target : Int) (step : Nat) : Int :=
  if x < target then min target (x + step) else max target (x - step)

/-- The guard's decision in RAMP and HOLD; a DE of 0 has no condition (R215). -/
def parGuardTrips (r : Fin 4) (f : Forecast) (s : State) : Bool :=
  (parState r s == 2 || parState r s == 3) &&
    (if 0 < f.de then decide (s.get (F.MRVr_VSNOW_S r) + 20 * f.unwth ≤ sensed r s)
      else decide (f.de < 0) && s.on (F.GATH_CMPr_STAT_UVNOW r))

/-- IREF and P of the present cycle: IREF moves in RAMP and UNWIND, once a cycle, the cycle that enters the state included; the end of the move
ends the state (R213, R215). -/
def parAdvance (r : Fin 4) (f : Forecast) (s : State) : State :=
  let q := s.par[r]
  let st := parState r s
  if q.moved = s.clk.ns + 1 ∨ st = 0 ∨ st = 1 then s
  else if st = 2 ∨ st = 4 then
    let target := if st = 4 then q.i0 * 65536 else q.itgt * 65536
    let s1 := parShow r f (parUpd r (fun q => { q with iref := parMove q.iref target q.rstep, moved := s.clk.ns + 1 }) s)
    s1.when (decide (s1.par[r].iref = target)) (fun t => t.after 0 (if st = 4 then .unwindComplete r else .rampComplete r))
  else parShow r f s

/-- One loop-clock cycle of a shaper: the guard is judged before IREF moves, and a trip joins the waiting commands (R213, R215). -/
def parCycle (r : Fin 4) (s : State) : State × List Instr :=
  match s.par[r].fc with
  | none => (s, [])
  | some f => if parGuardTrips r f s then (s, [.unwind r]) else (parAdvance r f s, [])

/-- PRERAMP_START: at the stamp crossing STATE becomes RAMP and the ramp's parameters are fixed; an episode that has not raised NPAR does so now;
the guard may trip in this cycle, else IREF makes its first move (R212, R213, R215) (DEDUCED, log entry 43). -/
def parRampStart (r : Fin 4) (s : State) : State :=
  match s.par[r].fc with
  | some f =>
    if parState r s = 1 then
      let i0 := s.mrv[r].iTot
      let n := railN r s
      let vin := (s.mrv[r].vin).getD 0
      let s1 := parUpd r (fun q => { q with
        i0 := i0, itgt := i0 + 2 * f.de, rstep := roundDiv (f.de.natAbs * 2 ^ 17) f.tr, moved := 0
        pff := roundDiv (f.lph * f.de.natAbs * 25 * 2 ^ 23) (f.tr * n * vin), gfb := roundDiv (f.lph * 100 * 2 ^ 28) (f.ptau * n * vin), iref := i0 * 65536 }) s
      let s2 := s1.put (F.PARr_STAT_STATE r) 2
      let s3 := if s2.par[r].raised then s2 else (parUpd r (fun q => { q with raised := true }) s2).put (F.PARr_STAT_NPAR r) (parNpar r f s2)
      if parGuardTrips r f s3 then (parShow r f s3).after 0 (.unwind r) else parAdvance r f s3
    else s
  | none => s

/-- RAMP_COMPLETE: IREF has reached ITGT and STATE becomes HOLD until T_load + TR + APPWIN (R213, R214). -/
def parRampComplete (r : Fin 4) (s : State) : State :=
  match s.par[r].fc with
  | some f =>
    if parState r s = 2 then
      let s1 := (parUpd r (fun q => { q with iref := q.itgt * 65536 }) s).put (F.PARr_STAT_STATE r) 3
      (parShow r f s1).restart (f.tLoad + f.tr + f.appwin - s.clk.ns) (.handoff r)
    else s
  | none => s

/-- STATE returns to IDLE: P is 0, NPAR is 0, and the pending forecast is armed, started at once where T_pre has passed or its stamp is crossed by
the end of this cycle, or dropped as late (R216). -/
def parIdle (r : Fin 4) (s : State) : State :=
  let s1 := parUpd r (fun q => { q with fc := none, pend := none, raised := false, p := 0 })
    ((((s.put (F.PARr_STAT_STATE r) 0).put (F.PARr_STAT_NPAR r) 0).put (F.PARr_STAT_PEND r) 0).put (F.PARr_P_P r) 0)
  match s.par[r].pend with
  | none => s1
  | some f =>
    if f.tLoad + f.tr < s.clk.ns then parDrop r 6 f.seq s1
    else if f.tPre < s.clk.ns ∨ 0 < stampD (domNextAngle (railDom r s) s) f.stamp then parRampStart r (parArm r f s1)
    else parArm r f s1

/-- HANDOFF: at the end of HOLD, P × 2^12 transfers into u1 and Parison is IDLE (R214). -/
def parHandoff (r : Fin 4) (s : State) : State :=
  if parState r s = 3 then
    let lim : Int := zeroAsOne (s.lv (F.MRVr_LIM_DMAX r)) * 2 ^ 28
    parIdle r (mrvUpd r (fun m => { m with u1 := clampInt (m.u1 + s.par[r].p * 4096) (-lim) lim }) s)
  else s

/-- UNWIND: the guard finds the load absent: STATE UNWIND, source 135, UNW counts, log code 0x0004; IREF makes its first move back (R215). -/
def parUnwind (r : Fin 4) (s : State) : State :=
  match s.par[r].fc with
  | some f =>
    if parState r s = 2 ∨ parState r s = 3 then
      let s1 := ((s.put (F.PARr_STAT_STATE r) 4).fire 135).inc (F.PARr_CNT_UNW r)
      parAdvance r f ((s1.logReq 0x07 0x0004 ([b8 r] ++ bytesOfNat 2 f.seq ++ bytesOfNat 2 (ofSigned 16 (asr s.par[r].iref 16)) ++
        bytesOfNat 2 (sensed r s))).cancel (.handoff r))
    else s
  | none => s

/-- UNWIND_COMPLETE: IREF is back at I0 and Parison is IDLE, with no transfer (R215). -/
def parUnwindComplete (r : Fin 4) (s : State) : State :=
  if parState r s = 4 then parIdle r (parUpd r (fun q => { q with iref := q.i0 * 65536 }) s) else s

/-! ## Meanings -/

/-- PRERAMP_START (R213). -/
def execPrerampStart (r : Fin 4) (s : State) : Out := .next (parRampStart r s)

/-- RAMP_COMPLETE (R213). -/
def execRampComplete (r : Fin 4) (s : State) : Out := .next (parRampComplete r s)

/-- HANDOFF (R214). -/
def execHandoff (r : Fin 4) (s : State) : Out := .next (parHandoff r s)

/-- UNWIND (R215). -/
def execUnwind (r : Fin 4) (s : State) : Out := .next (parUnwind r s)

/-- UNWIND_COMPLETE (R215). -/
def execUnwindComplete (r : Fin 4) (s : State) : Out := .next (parUnwindComplete r s)

end Sys2Proof.Machine
end

