-- ==== Sys2Proof/Machine/Angle.lean ====
section
/-!
DEFINITION. Machine/Angle.lean: the angle domains, their tracking, the turn boundary with every load it brings, the SYNC ring and the
angle compare units (spec/02_angle_domains.md, R42 to R77; R27, R118 to R120, R142, R147, R166, R178, R212).
-/
namespace Sys2Proof.Machine

/-- A domain's hidden state replaced. -/
def domUpd (d : Fin 8) (f : Domain → Domain) (s : State) : State := { s with dom := updAt s.dom d f }

/-- ANGn_STAT.STATE codes (R58). -/
def dOFF : Nat := 0
def dFREE : Nat := 1
def dACQUIRE : Nat := 2
def dLOCKED : Nat := 3
def dHOLDOVER : Nat := 4
def dLOST : Nat := 5

/-- A domain's state. -/
def dState (d : Fin 8) (s : State) : Nat := s.get (F.ANGn_STAT_STATE d)

/-- Turns in a reference period (R45). -/
def refTurns (d : Fin 8) (s : State) : Nat := s.get (F.ANGn_CTL_MULT d) + 1

/-- Some enabled rail is bound to the domain. -/
def domInUse (d : Fin 8) (s : State) : Bool := (domRails d s).any (fun r => railEn r s)

/-- A rate that R47 forbids: above 6.25 MHz, or outside 200 kHz to 5 MHz while an enabled rail is bound. `num` / `den` is the rate as a
multiple of 1 Hz. -/
def rateBad (d : Fin 8) (num den : Nat) (s : State) : Bool :=
  decide (6250000 * den < num) || (domInUse d s && (decide (num < 200000 * den) || decide (5000000 * den < num)))

/-- A rate in 2^-24 au per cycle that R47 forbids. -/
def rateRangeBad (d : Fin 8) (rate : Nat) (s : State) : Bool := rateBad d (rate * 10 ^ 9) (2 ^ 48) s

/-- RATE = round(FREQ × 2^44 / 10^9), halves up (R46). -/
def rateOfFreq (freq : Nat) : Nat := roundDiv (freq * 2 ^ 44) (10 ^ 9)

/-- A rate as 1/16 Hz, for ANGn_MEAS. -/
def freqOfRate (rate : Int) : Int := (2 * rate * 10 ^ 9 + 2 ^ 44).fdiv (2 ^ 45)

/-- A write is ignored, flagged and logged with its register's offset (R47, R49, R50, R76). -/
def angRefuse (idx a : Nat) (flag : Fld) (s : State) : State := (s.put flag 1).logReq 0x02 0x0004 (b8 idx :: bytesOfNat 2 (a % 65536))

/-! ## Angle compare units (R64 to R67) -/

/-- An ACU's hidden state replaced. -/
def acuUpd (k : Fin 16) (f : Acu → Acu) (s : State) : State := { s with acu := updAt s.acu k f }

/-- ACUk_STAT.ARMED follows EN and the stamp; in STATUS mode, which needs no stamp, it follows EN (R64) (DEDUCED, log entry 43). -/
def acuShow (k : Fin 16) (s : State) : State :=
  s.putB (F.ACUk_STAT_ARMED k) (s.on (F.ACUk_CTL_EN k) && (s.get (F.ACUk_CTL_MODE k) == 2 || s.acu[k].armable))

/-- A firing: FIRED sets, and source 80 + k fires in the next cycle (R65). -/
def acuRaise (k : Fin 16) (s : State) : State := acuUpd k (fun c => { c with raise := true }) (s.put (F.ACUk_STAT_FIRED k) 1)

/-- An ACU disarms and its stamp is consumed. -/
def acuDisarm (k : Fin 16) (s : State) : State := acuShow k (acuUpd k (fun c => { c with armable := false }) s)

/-- The stamp advances to the first S + i × STEP, i ≥ 1, not yet crossed in the sense of STEP; MISS where i > 1 (R65). -/
def acuAdvance (k : Fin 16) (s : State) : State :=
  let step : Int := s.getI (F.ACUk_STEP_STEP k)
  let stamp := s.rd (Reg.ACUk_STAMP k)
  let past : Int := stampD (domNextAngle (Fin.ofNat 8 (s.get (F.ACUk_CTL_DOM k))) s) stamp
  let i : Int := if 0 < step then max 1 (-((-past).fdiv step)) else max 1 (past.fdiv step + (if past ≤ 0 then 1 else 0))
  (s.wr (Reg.ACUk_STAMP k) (stamp + BitVec.ofInt 32 (i * step))).when (i != 1) (fun t => t.put (F.ACUk_STAT_MISS k) 1)

/-- What a crossing or a late stamp leads to beyond the firing itself (R65). -/
def acuAfter (k : Fin 16) (s : State) : State :=
  if s.get (F.ACUk_CTL_MODE k) = 1 ∧ s.rd (Reg.ACUk_STEP k) ≠ 0 then acuAdvance k s else acuDisarm k s

/-- ACU_FIRE: an armed ACU fires on its stamp; a stamp that R67 keeps fires for the old one (R65, R67). -/
def acuFire (k : Fin 16) (s : State) : State :=
  if !s.on (F.ACUk_CTL_EN k) || s.get (F.ACUk_CTL_MODE k) = 2 then s
  else if s.acu[k].old.isSome then acuUpd k (fun c => { c with old := none }) (acuRaise k s)
  else if s.acu[k].armable then acuAfter k (acuRaise k s)
  else s

/-- The stamp is crossed between two angles in the direction the ACU watches (R63, R65); DIR 3 acts as FWD. -/
def acuCrossed (k : Fin 16) (a b : Word) (s : State) : Bool :=
  let st := (s.acu[k].old).getD (s.rd (Reg.ACUk_STAMP k))
  let dir := s.get (F.ACUk_CTL_DIR k)
  s.on (F.ACUk_CTL_EN k) && s.get (F.ACUk_CTL_MODE k) ≤ 1 && (s.acu[k].armable && !s.acu[k].armNext || s.acu[k].old.isSome) &&
    ((dir != 1 && crossedFwd a b st) || ((dir == 1 || dir == 2) && crossedRev a b st))

/-- The ACU becomes armed: the LATE policy is evaluated for a stamp that is already crossed; a stamp crossed in this very cycle fires though the
cycle's crossings have been taken (R64). -/
def acuArmed (k : Fin 16) (s0 : State) : State :=
  let s := acuShow k s0
  let d : Fin 8 := Fin.ofNat 8 (s.get (F.ACUk_CTL_DOM k))
  if !s.on (F.ACUk_CTL_EN k) || s.get (F.ACUk_CTL_MODE k) = 2 || !s.acu[k].armable then s
  else if 0 < stampD (domAngle d s) (s.rd (Reg.ACUk_STAMP k)) then
    let s1 := s.put (F.ACUk_STAT_LATEF k) 1
    if s.get (F.ACUk_CTL_LATE k) = 0 then s1.after 1 (.acuFire k) else acuAfter k s1
  else if 2 ≤ s.clk.stage ∧ acuCrossed k (domAngle d s) (domNextAngle d s) s then s.after 0 (.acuFire k)
  else s

/-- A write of ACUk_STAMP arms the stamp; the old stamp, crossed in this cycle, still fires, and the new one is then armed from the next cycle
(R64, R67). -/
def acuStampWrite (k : Fin 16) (v : Word) (s : State) : State :=
  let d : Fin 8 := Fin.ofNat 8 (s.get (F.ACUk_CTL_DOM k))
  let due := decide (s.clk.stage < 2) && acuCrossed k (domAngle d s) (domNextAngle d s) s
  let s1 := (acuUpd k (fun c => { c with
    armable := true, old := if due then some ((c.old).getD (s.rd (Reg.ACUk_STAMP k))) else none, armNext := due || c.raise }) s).wr (Reg.ACUk_STAMP k) v
  if due || s.acu[k].raise then acuShow k s1 else acuArmed k s1

/-- A write of ACUk_CTL: a MODE of 3 leaves MODE unchanged; EN = 1 arms the stamp it holds, EN = 0 disarms without consuming it (R64). -/
def acuCtlWrite (k : Fin 16) (v : Word) (s : State) : State :=
  let was := s.on (F.ACUk_CTL_EN k)
  let w := if fldOf (F.ACUk_CTL_MODE k) v = 3 then fldInto (F.ACUk_CTL_MODE k) (s.get (F.ACUk_CTL_MODE k)) v else v
  let s1 := s.wr (Reg.ACUk_CTL k) w
  if s1.on (F.ACUk_CTL_EN k) && !was then acuArmed k s1 else acuShow k s1

/-- Every STATUS-mode ACU of a domain whose STMASK selects a transition fires: 0 HOLDOVER, 1 LOST, 2 LOCKED, 3 a rejected event (R66). -/
def acuStatus (d : Fin 8) (bit : Nat) (s : State) : State :=
  s.each (List.finRange 16) (fun k t =>
    if t.on (F.ACUk_CTL_EN k) ∧ t.get (F.ACUk_CTL_MODE k) = 2 ∧ t.get (F.ACUk_CTL_DOM k) = d.val ∧ t.bit (F.ACUk_CTL_STMASK k) bit then acuRaise k t else t)

/-! ## Stamps (R63) -/

/-- The commands that the forward motion of a domain from one angle to another brings about at angle stamps: ACUs, sequencers and
Parison pre-ramps (R63). -/
def stampEvents (d : Fin 8) (a b : Word) (s : State) : List Instr :=
  ((List.finRange 16).filter (fun (k : Fin 16) => s.get (F.ACUk_CTL_DOM k) == d.val && acuCrossed k a b s)).map (fun (k : Fin 16) => Instr.acuFire k) ++
  ((List.finRange 16).filter (fun (n : Fin 16) => s.gath.seq[n].armable && s.get (F.GSQn_CTL_DOM n) == d.val && s.on (F.GSQn_CTL_EN n) &&
      s.get (F.GSQn_CTL_TRIG n) == 2 && crossedFwd a b (s.rd (Reg.GSQn_STAMP n)))).map (fun (n : Fin 16) => Instr.sequencerStampCrossing n) ++
  (rails.filter (fun r => railDom r s == d && parState r s == 1 &&
      (match s.par[r].fc with | some f => crossedFwd a b f.stamp | none => false))).map (fun (r : Fin 4) => Instr.prerampStart r)

/-! ## Domain states (R54 to R58) -/

/-- The bytes of RATE_I in a log entry (R76). -/
def rateIBytes (d : Fin 8) (s : State) : List Byte := bytesOfNat 6 s.dom[d].rateI

/-- Entry to HOLDOVER: flag, log code 0x0001, RATE_I from the next boundary (R56). -/
def holdoverEnter (d : Fin 8) (s : State) : State :=
  let s1 := motWatchAll ((s.put (F.ANGn_STAT_STATE d) dHOLDOVER).setBit F.ANG_FLT_HOLD d)
  let s2 := s1.logReq 0x02 0x0001 ([b8 d] ++ rateIBytes d s ++ bytesOfNat 4 (s.get (F.ANGn_PERR_PERR d)))
  acuStatus d 0 (domUpd d (fun x => { x with
    nextRate := if x.src ≤ 2 then some x.rateI else none, fixAt := s.clk.ns, acq := 0, small := 0, large := 0, awaited := false, hold := 0, chgIn := 0,
    chgRate := none, chgMark := none }) s2)

/-- REFERENCE_MISSING: the expected event angle plus 1/4 turn has been passed without an accepted event (R56). -/
def refMissing (d : Fin 8) (s : State) : State :=
  if dState d s = dACQUIRE ∨ dState d s = dLOCKED then holdoverEnter d s else s

/-- HOLDTO as it acts. -/
def holdTo (d : Fin 8) (s : State) : Nat := s.get (F.ANGn_WIN_HOLDTO d)

/-- HOLDOVER_TIMEOUT: LOST, its flag, log code 0x0002 (R57). -/
def lostEnter (d : Fin 8) (s : State) : State :=
  if dState d s = dHOLDOVER then
    let s1 := ((s.put (F.ANGn_STAT_STATE d) dLOST).setBit F.ANG_FLT_LOST d).logReq 0x02 0x0002 ([b8 d] ++ rateIBytes d s ++ bytesOfNat 2 (holdTo d s))
    acuStatus d 1 (domUpd d (fun x => { x with allow := false }) s1)
  else s

/-- Entry to LOCKED: log code 0x0003 (R54). -/
def lockedEnter (d : Fin 8) (s : State) : State :=
  acuStatus d 2 (domUpd d (fun x => { x with small := 0, large := 0 })
    ((s.put (F.ANGn_STAT_STATE d) dLOCKED).logReq 0x02 0x0003 (b8 d :: rateIBytes d s)))

/-- A fresh acquisition from the next two accepted events (R53, R58). -/
def acquireAfresh (d : Fin 8) (s : State) : State :=
  domUpd d (fun x => { x with acq := 0, small := 0, large := 0, chgMark := none }) (motWatchAll (s.put (F.ANGn_STAT_STATE d) dACQUIRE))

/-- An event is rejected: counted, and treated as absent (R55). -/
def refReject (d : Fin 8) (s : State) : State := acuStatus d 3 (s.inc (F.ANGn_REJ_REJ d))

/-- CHGMIS (1) or CHGLATE (2) is flagged and logged (R73, R76). -/
def chgFault (d : Fin 8) (code : Nat) (s : State) : State :=
  (s.put (if code = 1 then F.ANG_FLT_CHGMIS else F.ANG_FLT_CHGLATE) 1).logReq 0x02 0x0005 [b8 d, b8 code]

/-- REACQUIRE: ANG_ACT action 0x01 by the domain's state and SRC (R58). -/
def reacquire (arg : BitVec 16) (s : State) : State :=
  let d : Fin 8 := Fin.ofNat 8 arg.toNat
  let st := dState d s
  let src := s.dom[d].src
  if st = dLOST ∧ src ≠ 0 then domUpd d (fun x => { x with allow := true, acq := 0 }) s
  else if (st = dACQUIRE ∨ st = dLOCKED ∨ st = dHOLDOVER) ∧ (src = 1 ∨ src = 2) then
    acquireAfresh d (domUpd d (fun x => { x with nextRate := none, jump := none }) s)
  else s

/-! ## The turn boundary on a rail (R27, R118 to R120, R142 to R150, R178, R180, R183, R212) -/

/-- The load point of a rail: every shadow value written at least one cycle earlier becomes the value in force, unless HOLD holds
the group; MRV_VINSCL loads per rail (R27, R127, R187). -/
def railLoad (r : Fin 4) (s : State) : State :=
  let due := loadDue r s
  let before := ffGuard r s
  let s1 : State := { s with shadow := s.shadow.filter (fun p => !due.contains p) }
  let s2 := due.foldl (fun t p =>
    if p.addr = Reg.MRV_VINSCL then mrvUpd r (fun m => { m with vinscl := p.word.toNat }) t else t.setLive p.addr p.word) s1
  let ofs := fldInto (F.EDGEr_CTL_OFSMODE r) (s2.get (F.EDGEr_CTL_OFSMODE r)) ((mapFind s2.live (Reg.EDGEr_CTL r)).getD (resetWord (Reg.EDGEr_CTL r)))
  edgeUpd r (fun e => { e with syncOfs := syncOfs r s }) (slewKick r false (ffGuardChange r before (showPends (s2.setLive (Reg.EDGEr_CTL r) ofs))))

/-- The demand for a filtered current: NLOAD with NPAR, NGL and NMIN, limited to MAV; in RAMP min(NMIN, MAV) (R118). -/
def phaseDemand (r : Fin 4) (iphase nmin ngl : Nat) (i : Int) (s : State) : Nat :=
  let m := (railList r s).length
  let ip : Int := zeroAsOne iphase * 16
  let nload := clampNat (-((-i).fdiv ip)).toNat 1 m
  let nm := clampNat nmin 1 24
  if mState r s = mRAMP then min nm (mav r s)
  else min (max (max nload (s.get (F.PARr_STAT_NPAR r))) (max ngl nm)) (mav r s)

/-- N takes a new value: trims of phases added or shed are 0, a shed phase settles to MID, an added one stays out of that way, and detector 3
sees the new I_TOT (R105, R117, R119, R120, R132, R174). -/
def changeN (r : Fin 4) (old : List (Fin 32)) (n : Nat) (s : State) : State :=
  let s1 := setN r n s
  let new := active r s1
  let s2 := s1.each (old.filter (fun p => !new.contains p)) (fun p t =>
    settle r p (phUpd p (fun h => { h with bal := 0, carry := 0, commit := none, quiet := false, slotT := none }) t))
  let s3 := s2.each (new.filter (fun p => !old.contains p)) (fun p =>
    phUpd p (fun h => { h with bal := 0, carry := 0, toMid := false, slotT := none, slotDone := false, slotNext := false }))
  tocSample r (showBal r s3)

/-- The phase count at a boundary: rises at once, falls by one once SHEDT sheds have been counted, falls to MAV at once; a frozen rail
keeps N but for MAV, and counts sheds all the same (R118, R119, R182). -/
def countBoundary (r : Fin 4) (old : List (Fin 32)) (iphase nmin shedhys : Nat) (s0 : State) : State :=
  let hold := s0.mrv[r].glory.hold
  let ngl := if 0 < hold then (railList r s0).length else 0
  let s := mrvUpd r (fun m => { m with glory := { m.glory with hold := hold - 1 } }) s0
  if !mRunning r s then s
  else
    let ncmd := phaseDemand r iphase nmin ngl s.mrv[r].iF s
    let nshed := phaseDemand r iphase nmin ngl (s.mrv[r].iF + shedhys * 16) s
    let n := railN r s
    let frozen := s.on (F.EDGEr_STAT_FRZ r)
    let n1 := if !frozen && decide (n < ncmd) then ncmd else n
    let shed := if nshed < n1 then s.mrv[r].shed + 1 else 0
    let n2 := if !frozen && decide (nshed < n1) && decide (zeroAsOne (s.lv (F.MRVr_PH_SHEDT r)) ≤ shed) then n1 - 1 else n1
    let forced := decide (mav r s < n1)
    let n3 := if forced then mav r s else n2
    let s1 := (mrvUpd r (fun m => { m with shed := if forced then 0 else min shed 65535 }) s).put (F.MRVr_STAT_NCMD r) ncmd
    changeN r old n3 s1

/-- The switching period of a rate, 1/64 ns (R116). -/
def tsw64Of (rate : Nat) : Nat := roundDiv (2 ^ 54) (zeroAsOne rate)

/-- The count of a freeze at a boundary; its end is FREEZE_END in the same cycle (R183). -/
def freezeBoundary (r : Fin 4) (s : State) : State :=
  let n := s.edge[r].frzCount
  if s.on (F.EDGEr_STAT_FRZ r) ∧ 0 < n then
    let s1 := edgeUpd r (fun e => { e with frzCount := n - 1 }) (s.put (F.EDGEr_STAT_FRZLEFT r) (n - 1))
    if n = 1 then s1.restart 0 (.freezeEnd r) else s1
  else s

/-- The slot of every active phase of a rail. -/
def slotsOf (r : Fin 4) (s : State) : List (Fin 32 × Nat) := ((active r s).zipIdx).map (fun x => (x.1, slotOf r x.2 s))

/-- A turn begins for the slots of a rail: a commit that was made ahead for it stands where the phase keeps its slot, else it is dropped and the new slot
is committed as the angle comes within four cycles of it (R120, R166, R173). -/
def slotBoundary (r : Fin 4) (old : List (Fin 32 × Nat)) (s : State) : State :=
  s.each (slotsOf r s) (fun x t =>
    if !t.phase[x.1].slotNext then phUpd x.1 (fun h => { h with slotDone := false }) t
    else if old.contains x then phUpd x.1 (fun h => { h with slotDone := true, slotNext := false }) t
    else phUpd x.1 (fun h => { h with slotDone := false, slotNext := false, slotT := none, commit := none, quiet := false }) t)

/-- A turn boundary of the rail's domain as the rail sees it. A LIMIT hold of a phase ends with its turn, which is one switching period (R139)
(DEDUCED, log entry 46). -/
def railBoundary (r : Fin 4) (rateChanged : Bool) (s : State) : State :=
  let iphase := s.lv (F.MRVr_PH_IPHASE r)
  let nmin := s.lv (F.MRVr_PH_NMIN r)
  let hys := s.lv (F.MRVr_PH_SHEDHYS r)
  let old := active r s
  let slots := slotsOf r s
  let mav0 := mav r s
  let s1 := blankFollow r (railLoad r s)
  let s2 := mrvUpd r (fun m => { m with tsw64 := tsw64Of s1.dom[railDom r s1].rate.toNat }) s1
  let s3 := parBoundary r (oosBoundary r (limitBoundary r s2))
  let s4 := countBoundary r old iphase nmin hys s3
  let s5 := s4.when rateChanged (fun t => t.each (positions r t) (fun p => phUpd p (fun h => { h with carry := 0 })))
  let s6 := enrBoundary r (freezeBoundary r s5)
  let s7 := s6.when (hicDue r s6) (protUpd r (fun q => { q with restartAt := some s6.clk.ns }))
  let freed := (railList r s7).any (fun p => s7.phase[p].limited)
  let s8 := s7.each (railList r s7) (fun p => phUpd p (fun h => { h with limited := false }))
  let s9 := s8.when (freed || railN r s8 != old.length || mav r s8 != mav0) (gloryKick r)
  restAll r (slotBoundary r slots s9)

/-! ## The turn boundary of a domain -/

/-- The domain follows the ring: SRC is SYNC and the role is OFF, FOLLOWER or END (R72). -/
def ringFollower (d : Fin 8) (s : State) : Bool := s.dom[d].src == 1 && s.sync.role != 1

/-- ANGn_MEAS shows the integral rate of a domain whose reference is SYNC or APRAM, and the working rate of any other domain
(R48, R52, R53) (DEDUCED, log entry 43). -/
def showRate (d : Fin 8) (s : State) : State :=
  let x := s.dom[d]
  s.putI (F.ANGn_MEAS_MEAS d) (freqOfRate (if x.src = 1 ∨ x.src = 2 then x.rateI else x.rate))

/-- A working rate takes force; within a boundary's own cycle the old rate still runs unless the cycle starts exactly on the boundary
(R42, R48) (DEDUCED, log entry 43). -/
def setRate (d : Fin 8) (rate : Int) (s : State) : State :=
  showRate d (domUpd d (fun x =>
    let exact := fracOf x.acc < 2 ^ 24
    { x with rate := rate, rate0 := x.rate, cycRate := if exact then none else some ((x.cycRate).getD x.rate)
             bT := if exact then s.clk.ns else s.clk.ns + 1, bAcc := if exact then x.acc else x.acc + BitVec.ofInt 56 ((x.cycRate).getD x.rate) }) s)

/-- The rate loads at a boundary; answers whether a MASTER signals CHANGE at it, for the newly committed rate. A follower's armed rate that takes force
is its RATE_I too (R27, R48, R52, R56, R72) (DESIGN CHOICE, log entry 67). -/
def rateLoad (d : Fin 8) (mark : BitVec 56) (s : State) : State × Bool :=
  let x := s.dom[d]
  let ready := readyRate d s.clk.ns s
  let late := x.pendRate.filter (fun p => s.clk.ns ≤ p.2)
  let s1 := match dueRate d s.clk.ns s with | some v => setRate d v s | none => s
  let s2 := domUpd d (fun y => { y with nextRate := none }) s1
  if ringMaster d s then
    (domUpd d (fun y => { y with ringRate := ready, fixAt := if ready.isSome then s.clk.ns else y.fixAt, pendRate := late }) s2,
      ready.isSome)
  else if x.chgIn = 1 ∧ x.chgRate.isSome then
    (showRate d (domUpd d (fun y => { y with chgIn := 0, chgRate := none, rateI := x.chgRate.getD 0, chgMark := some mark })
      (s2.putB (F.ANGn_STAT_ARMED d) x.armed.isSome)), false)
  else (domUpd d (fun y => { y with chgIn := y.chgIn - 1, pendRate := late }) s2, false)

/-- A written SRC takes force at the boundary: the domain acquires the new reference and keeps its present rate (R44). -/
def srcLoad (d : Fin 8) (s : State) : State :=
  let v := s.get (F.ANGn_CTL_SRC d)
  if v = s.dom[d].src then s
  else
    showRate d (domUpd d (fun x => { x with src := v, acq := 0, small := 0, large := 0, awaited := false, chgIn := 0, chgRate := none, armed := none, nextRate := none, chgMark := none, jump := none, allow := false })
      (motWatchAll ((s.put (F.ANGn_STAT_STATE d) (if v = 0 then dFREE else dACQUIRE)).put (F.ANGn_STAT_ARMED d) 0)))

/-- Turn counts relabelled by a number of turns: only bits [31:24] change (R70). -/
def shiftTurns (d : Fin 8) (k : Int) (s : State) : State :=
  let δ : BitVec 56 := BitVec.ofInt 56 (k * 2 ^ 48)
  domUpd d (fun x => { x with
    acc := x.acc + δ, bAcc := x.bAcc + δ, evMark := x.evMark + δ, jump := x.jump.map (· + δ), chgMark := x.chgMark.map (· + δ), relabel := false }) s

/-- The turn count that begins at a boundary in this cycle (R42). -/
def newTurn (d : Fin 8) (s : State) : Nat :=
  let a := s.dom[d].acc
  (turnOf a + (if fracOf a < 2 ^ 24 then 0 else 1)) % 256

/-- RING_OPEN: four consecutive turns without a return, once per occurrence (R75). -/
def ringOpen (s : State) : State :=
  if s.sync.reported then s
  else
    ({ s with sync := { s.sync with reported := true } } : State).put F.ANG_FLT_RINGOPEN 1 |>.logReq 0x02 0x0006
      (b8 (s.get F.ANG_SYNCCTL_MDOM) :: bytesOfNat 2 (s.get F.ANG_RINGDLY_DLY))

/-- The MASTER's pulse: SYNC_OUT rises 2 ns after the boundary for the width of its class; the ring check counts turns without a
return (R69, R75). -/
def masterPulse (d : Fin 8) (change wrap : Bool) (s : State) : State :=
  if !ringMaster d s then s
  else
    let width := if change then (if wrap then 100 else 68) else (if wrap then 40 else 16)
    let cls := (if wrap then 1 else 0) + (if change then 2 else 0)
    let check := s.on F.ANG_SYNCCTL_RINGCHK
    let miss := if check && s.sync.boundT.isSome && !s.sync.returned then s.sync.miss + 1 else if s.sync.returned then 0 else s.sync.miss
    let s1 : State := { s with sync := { s.sync with
      edges := s.sync.edges ++ [(s.clk.ns + 2, true), (s.clk.ns + 2 + width, false)], cls := cls, boundT := some s.clk.ns, returned := false, miss := miss } }
    if check && decide (4 ≤ miss) && !s.sync.reported then s1.restart 0 .ringOpen else s1

/-- Everything that a turn boundary of a domain brings apart from its turn-start event: the rate, the SRC, the ring and every rail bound to
the domain. The boundary's angle is `mark`; `wrap`: the turn count passes to 0x00 (R48, R68). -/
def boundaryLoads (d : Fin 8) (mark : BitVec 56) (wrap : Bool) (s1 : State) : State :=
  let s := s1
  let rl := rateLoad d mark s1
  let s2 := srcLoad d rl.1
  let s3 := masterPulse d rl.2 wrap s2
  let s4 := domUpd d (fun x => { x with turnRates := if x.awaited then (x.turnRates ++ [x.rate.toNat]).take 17 else (x.turnRates ++ [x.rate.toNat]).drop (x.turnRates.length - 1) }) s3
  s4.each (domRails d s4) (fun r => railBoundary r (s4.dom[d].rate != s.dom[d].rate))

/-- A relabel that waits for the boundary: the turn that begins receives turn count 0x00 (R70). -/
def relabelled (d : Fin 8) (turn : Nat) (s : State) : State := s.when s.dom[d].relabel (shiftTurns d (-(turn : Int)))

/-- The angle of a whole turn. -/
def turnMark (turn : Nat) : BitVec 56 := BitVec.ofNat 56 (turn * 2 ^ 48)

/-- TURN_BOUNDARY: event source 72 + n, then the loads (R42, R61). -/
def turnBoundary (d : Fin 8) (s : State) : State :=
  if s.on (F.ANGn_CTL_EN d) then
    let s1 := relabelled d (newTurn d s) (s.fire (72 + d.val))
    boundaryLoads d (turnMark (newTurn d s1)) (newTurn d s1 == 0) s1
  else s

/-! ## Jumps (R68, R168) -/

/-- A forward jump passes slots over: they are skipped, and a TON_k of 0 counts nothing (R168, R175). -/
def skipSlots (d : Fin 8) (a b : Word) (s : State) : State :=
  s.each (domRails d s) (fun r t =>
    t.each (slotsOf r t) (fun x u =>
      if mRunning r u ∧ passes a b x.2 then
        phUpd x.1 (fun h => { h with slotT := none, commit := none, quiet := false }) (u.when (tonUsed r x.1 u != 0) (fun v => v.inc (F.EDGEr_CNT_SKIP r)))
      else u))

/-- After a jump of the angle the on-edges that are still to come are aimed anew; `back`: a backward jump drops them (R167, R168). -/
def reaim (d : Fin 8) (back : Bool) (s : State) : State :=
  s.each (domRails d s) (fun r t =>
    t.each (active r t) (fun p u =>
      let aimed := !back && ((posOf r p u).bind (fun k => slotAim r p k u)).isSome
      if aimed && u.phase[p].slotT.isSome then aimSlot r p u
      else phUpd p (fun h => { h with slotT := none, commit := none, quiet := false, slotDone := false, slotNext := false }) u))

/-- The angle is set under JUMP: a backward jump crosses nothing; a forward one crosses each skipped stamp once, `hif` among them, and acts as one
turn boundary. The turn that the acquisition's second event marked begins anew at the rate that the jump loads (R53, R55, R68) (DEDUCED, log entry 17). -/
def angleJump (d : Fin 8) (new : BitVec 56) (hif : List Instr) (s : State) : State :=
  let old := s.dom[d].acc
  let delta := (new - old).toInt
  let a : Word := old.extractLsb' 24 32
  let b : Word := new.extractLsb' 24 32
  let put := fun (t : State) => domUpd d (fun x => { x with acc := new, bAcc := new, bT := t.clk.ns, cycRate := none, jump := none }) t
  if delta ≤ 0 then reaim d true (put s)
  else
    let evs := stampEvents d a b s ++ hif
    let s1 := reaim d false (put (skipSlots d a b s))
    let s2 := (evs.foldl (fun t c => t.after 0 c) s1).when (passes a b 0) (fun t => t.fire (72 + d.val))
    let s3 := domUpd d (fun x => { x with turnRates := [] }) (relabelled d (turnOf new) s2)
    boundaryLoads d (turnMark (turnOf s3.dom[d].acc)) (crossedFwd a b 0) s3

/-! ## Tracking (R52 to R56) -/

/-- A domain's angle at a time in 1/64 ns, at the rates in force before and since its last rate change (R52) (DEDUCED, log entry 43). -/
def domAt (d : Fin 8) (t : Nat) (s : State) : BitVec 56 :=
  let x := s.dom[d]
  if x.bT * 64 ≤ t then x.acc - BitVec.ofInt 56 ((x.rate * ((s.now64 : Int) - t)).fdiv 64)
  else x.bAcc - BitVec.ofInt 56 ((x.rate0 * ((x.bT * 64 : Nat) - (t : Int))).fdiv 64)

/-- The phase error of an event at an angle: signed, in au, wrapped to [−2^23, 2^23) (R52). -/
def phaseError (a : BitVec 56) : Int :=
  let f : Int := fracOf a / 2 ^ 24
  if f ≤ 2 ^ 23 then -f else 2 ^ 24 - f

/-- The angle the event marks: the whole turn nearest to an angle. -/
def markOf (a : BitVec 56) : BitVec 56 :=
  BitVec.ofNat 56 ((turnOf a + (if fracOf a / 2 ^ 24 ≤ 2 ^ 23 then 0 else 1)) * 2 ^ 48)

/-- The turn an event marks, counted from the last boundary passed: 0 the present turn, 1 the next. -/
def markAhead (d : Fin 8) (mark : BitVec 56) (s : State) : Int := (BitVec.ofInt 8 ((turnOf mark : Int) - turnOf s.dom[d].acc)).toInt

/-- The tracked rate of an event with error `e` (R52). -/
def track (d : Fin 8) (e : Int) (s : State) : State :=
  let ri0 : Int := s.dom[d].rateI
  let ri := ri0 + asr (ri0 * e) (24 + s.get (F.ANGn_TRACK_KISH d))
  let rw := clampInt (ri + asr (ri * e) (24 + s.get (F.ANGn_TRACK_KPSH d))) (ri - ri.fdiv 16) (ri + ri.fdiv 16)
  showRate d (domUpd d (fun x => { x with rateI := ri.toNat, nextRate := some rw.toNat, fixAt := s.clk.ns }) s)

/-- The lock decision of an accepted event (R54). -/
def lockStep (d : Fin 8) (e : Int) (s : State) : State :=
  if dState d s = dLOCKED then
    let n := if 2 ^ (24 - s.get (F.ANGn_TRACK_UNLKSH d)) ≤ e.natAbs then s.dom[d].large + 1 else 0
    if 4 ≤ n then acquireAfresh d s else domUpd d (fun x => { x with large := n }) s
  else if dState d s = dACQUIRE then
    let n := if e.natAbs < 2 ^ (24 - s.get (F.ANGn_TRACK_LOCKSH d)) then s.dom[d].small + 1 else 0
    if 8 ≤ n then lockedEnter d s else domUpd d (fun x => { x with small := n }) s
  else s

/-- An accepted event is remembered: its time, its mark, and the rates of the turns begun since, the marked one among them (R55). -/
def rememberEvent (d : Fin 8) (t : Nat) (mark : BitVec 56) (e : Int) (s : State) : State :=
  let begun := (1 - markAhead d mark s).toNat
  domUpd d (fun x => { x with
    evT := t, evMark := mark, awaited := true
    turnRates := if begun ≤ 1 then List.replicate begun x.rate.toNat else x.turnRates.drop (x.turnRates.length - begun) }) (s.putI (F.ANGn_PERR_PERR d) e)

/-- The expected interval in 1/64 ns, each turn rounded down: the turns since the last accepted event at the rates in force over them (R55)
(DESIGN CHOICE, log entry 45). -/
def expectedInterval (d : Fin 8) (s : State) : Nat :=
  let x := s.dom[d]
  (List.range (refTurns d s)).foldl (fun m j => m + 2 ^ 54 / zeroAsOne (x.turnRates.getD j x.rate.toNat)) 0

/-- The alignment rule: JUMP, or SLEW; AUTO is JUMP where no enabled rail is bound (R53). -/
def alignJumps (d : Fin 8) (s : State) : Bool :=
  match s.get (F.ANGn_CTL_ALIGN d) with
  | 1 => true
  | 2 => false
  | _ => !domInUse d s

/-- The second event of an acquisition: RATE_I from the interval, rounded half up, then the alignment, under JUMP in the next cycle; out of range it
starts a new pair (R53) (DESIGN CHOICE, log entry 45). -/
def acquireSecond (d : Fin 8) (t : Nat) (a : BitVec 56) (s : State) : State × Bool :=
  let e := phaseError a
  let mark := markOf a
  let iv := t - s.dom[d].evT
  let rate := if iv = 0 then 2 ^ 48 else roundDiv (refTurns d s * 2 ^ 54) iv
  if rateRangeBad d rate s then (domUpd d (fun x => { x with evT := t, evMark := mark }) (refReject d s), false)
  else
    let s1 := domUpd d (fun x => { x with rateI := rate, acq := 2, small := 0, large := 0 }) (rememberEvent d t mark e s)
    let s2 := showRate d s1
    let s3 := if alignJumps d s then
        domUpd d (fun x => { x with nextRate := some rate, fixAt := s.clk.ns, jump := some (mark + BitVec.ofNat 56 (rate * (s.now64 + 64 - t) / 64)) }) s2
      else track d e s2
    (lockStep d e s3, true)

/-- A reference event of a SYNC or APRAM domain at a time in 1/64 ns: acquired, tracked or rejected; answers whether it is accepted
(R52 to R58, R73). -/
def refEvent (d : Fin 8) (t : Nat) (s : State) : State × Bool :=
  let st := dState d s
  let x := s.dom[d]
  if !s.on (F.ANGn_CTL_EN d) || (x.src != 1 && x.src != 2) || st < dACQUIRE then (s, false)
  else if st = dLOST ∧ !s.on (F.ANGn_CTL_AUTOACQ d) ∧ !x.allow then (s, false)
  else
    let s0 := if dHOLDOVER ≤ st then domUpd d (fun y => { y with allow := false }) (acquireAfresh d s) else s
    let a := domAt d t s0
    let e := phaseError a
    if s0.dom[d].acq = 0 then (domUpd d (fun y => { y with acq := 1 }) (rememberEvent d t (markOf a) e s0), true)
    else if s0.dom[d].acq = 1 then acquireSecond d t a s0
    else
      let exp := expectedInterval d s0
      let after := x.chgMark.elim false (fun m => decide (0 < (markOf a - m).toInt) || x.evMark == m)
      let iv := t - x.evT
      if zeroAsOne (s0.get (F.ANGn_WIN_WIN d)) * exp < ((iv : Int) - exp).natAbs * 32 then
        let s1 := refReject d s0
        (if after then acquireAfresh d (chgFault d 1 s1) else s1, false)
      else
        let s1 := domUpd d (fun y => { y with chgMark := if after then none else y.chgMark }) (rememberEvent d t (markOf a) e s0)
        (lockStep d e (track d e s1), true)

/-! ## The SYNC ring (R69 to R75) -/

/-- The domains that follow the ring. -/
def syncDoms (s : State) : List (Fin 8) := (List.finRange 8).filter (fun d => s.on (F.ANGn_CTL_EN d) && s.dom[d].src == 1)

/-- A pulse is rejected by every SYNC domain; a MASTER ignores SYNC_IN for its own tracking (R70, R75). -/
def syncReject (s : State) : State := if s.sync.role = 1 then s else s.each (syncDoms s) (fun d => refReject d)

/-- A follower accepts a WRAP: its turn count is relabelled, at once or at the boundary still ahead (R70). -/
def wrapRelabel (d : Fin 8) (mark : BitVec 56) (s : State) : State :=
  if 0 < markAhead d mark s then domUpd d (fun x => { x with relabel := true }) s else shiftTurns d (-(turnOf mark : Int)) s

/-- A follower decodes CHANGE: the rate then armed is in force from the boundary after the one the pulse marks; a rate armed later waits for the next
CHANGE (R72, R73). -/
def ringChange (d : Fin 8) (ahead : Int) (s : State) : State :=
  let take := domUpd d (fun x => { x with chgIn := if ahead ≤ 0 then 1 else 2, chgRate := x.armed, armed := none, fixAt := s.clk.ns })
  if s.dom[d].armed.isNone then acquireAfresh d (chgFault d 1 s)
  else if ahead < 0 then take (chgFault d 2 s)
  else take s

/-- SYNC_PULSE: decided at its trailing edge from the cycle of its leading edge and its width: classed and tracked, or rejected (R70 to
R73). -/
def syncPulse (lead width : Nat) (s : State) : State :=
  if s.sync.role = 1 then s
  else if width < 6 ∨ 120 < width then syncReject s
  else
    let t := ((lead * 64 : Nat) - s.getI F.ANG_SYNCCOMP_COMP).toNat
    let wrap := decide (28 ≤ width ∧ width ≤ 51) || decide (84 ≤ width)
    let change := decide (52 ≤ width)
    s.each (syncDoms s) (fun d u =>
      let res := refEvent d t u
      if res.2 then
        let mark := res.1.dom[d].evMark
        let ahead := markAhead d mark res.1
        (res.1.when wrap (wrapRelabel d mark)).when change (ringChange d ahead)
      else res.1)

/-- SYNC_PULSE_OVERWIDTH: the width exceeds 120 ns: rejected once; nothing more until SYNC_IN has returned low (R70). -/
def syncOverwidth (s : State) : State := if s.sync.wait then s else syncReject { s with sync := { s.sync with wait := true } }

/-- The MASTER detects its own pulse (R75). -/
def ringReturn (s : State) : State :=
  if s.sync.role = 1 ∧ s.on F.ANG_SYNCCTL_RINGCHK then
    match s.sync.boundT with
    | some b =>
      let s1 := (s.put F.ANG_RINGDLY_DLY (min (s.clk.ns - b) 65535)).put F.ANG_RINGDLY_VALID 1
      { s1 with sync := { s1.sync with returned := true, miss := 0, reported := false } }
    | none => s
  else s

/-- The glitch filter: an edge at the ball, `at_` / 64 ns after the cycle's start, is accepted once its level has held for FILT, and detected in the first
cycle that starts 2.0 ns or more after that; an edge that comes sooner suppresses it and returns to the accepted level (R70). -/
def syncBall (level : Bool) (at_ : Nat) (s : State) : State :=
  let p := s.sync
  let t := s.now64 + at_
  let filt := s.get F.ANG_SYNCCTL_FILT * 64
  if level = p.ball then s
  else
    match p.detect with
    | some c =>
      if t < p.ballT + filt ∧ s.clk.ns < c then
        { s with
          sync := { p with ball := level, ballT := t, detect := none }
          timers := s.timers.filter (fun x => x != (c, Instr.syncInEdge ⟨p.ball, none⟩)) }
      else
        let due := (t + filt + 128 + 63) / 64
        ({ s with sync := { p with ball := level, ballT := t, detect := some due } } : State).after (due - s.clk.ns) (.syncInEdge ⟨level, none⟩)
    | none =>
      let due := (t + filt + 128 + 63) / 64
      ({ s with sync := { p with ball := level, ballT := t, detect := some due } } : State).after (due - s.clk.ns) (.syncInEdge ⟨level, none⟩)

/-- An accepted edge is detected: a FOLLOWER repeats it 2 ns later, a rising edge is stamped and may be the MASTER's own
pulse, a falling edge leads to the pulse's decision (R69, R70, R75). -/
def syncInEdge (level : Bool) (s : State) : State :=
  let s0 := s.when (s.sync.role == 2) (fun t => { t with sync := { t.sync with edges := t.sync.edges ++ [(t.clk.ns + 2, level)] } })
  if level then
    ringReturn (({ s0 with sync := { s0.sync with inLevel := true, leadT := s.clk.ns, wait := false } } : State).restart 121 .syncPulseOverwidth)
  else
    let s1 := ({ s0 with sync := { s0.sync with inLevel := false } } : State).cancel .syncPulseOverwidth
    if s.sync.wait || !s.sync.inLevel then s1 else s1.after 0 (.syncPulse s.sync.leadT (s.clk.ns - s.sync.leadT))

/-- The written role takes force where SYNC_OUT is low and no pulse is in progress; a pulse whose leading edge is already due counts as in progress
(R69) (DESIGN CHOICE, log entry 67). -/
def roleLoad (s : State) : State :=
  if !s.sync.out && s.sync.edges.isEmpty then { s with sync := { s.sync with role := s.get F.ANG_SYNCCTL_ROLE } } else s

/-- A write of ANG_SYNCCTL (R69). -/
def syncCtlWrite (v : Word) (s : State) : State := roleLoad (s.wr Reg.ANG_SYNCCTL v)

/-- SYNC_OUT at the start of a cycle: the edges due are made; a pulse that a written role waits for ends 120 ns after its leading edge at the latest; the
role takes force while the output is low (R69). -/
def syncOutCycle (s : State) : State :=
  if s.sync.edges = [] ∧ s.sync.role = s.get F.ANG_SYNCCTL_ROLE then s
  else
    let p := s.sync
    let due := p.edges.filter (fun e => e.1 ≤ s.clk.ns)
    let lvl := match due.getLast? with | some e => e.2 | none => p.out
    let rise := if lvl && !p.out then s.clk.ns else p.riseT
    let ended := lvl && p.role != s.get F.ANG_SYNCCTL_ROLE && decide (rise + 120 ≤ s.clk.ns)
    roleLoad { s with sync := { p with
      out := lvl && !ended, riseT := rise, edges := if ended then [] else p.edges.filter (fun e => s.clk.ns < e.1) } }

/-! ## Register writes (R44, R47 to R50) -/

/-- The SRC codes a write may carry (R44). -/
def srcOk (v : Nat) : Bool := v ≤ 2 || (4 ≤ v && v ≤ 7)

/-- A domain is enabled: its last committed rate is its working rate at once; an FB domain rests until its first update (R48, R58) (DEDUCED, log entry 43). -/
def domEnable (d : Fin 8) (s : State) : State :=
  let src := s.get (F.ANGn_CTL_SRC d)
  let s1 := domUpd d (fun x => { x with
    src := src, rate := if src ≤ 2 then x.committed else 0, rateI := x.committed, pendRate := [], ringRate := none, armed := none, nextRate := none, cycRate := none
    chgIn := 0, chgRate := none, acq := 0, small := 0, large := 0, awaited := false, hold := 0, allow := false, relabel := false, chgMark := none, jump := none, fbPos := none,
    bT := s.clk.ns, bAcc := x.acc }) s
  motWatchAll (((showRate d s1).put (F.ANGn_STAT_STATE d) (if src = 0 then dFREE else dACQUIRE)).put (F.ANGn_STAT_ARMED d) 0)

/-- A domain is disabled: its angle holds (R43, R58). -/
def domDisable (d : Fin 8) (s : State) : State :=
  domUpd d (fun x => { x with armed := none, chgRate := none, ringRate := none, nextRate := none, awaited := false, acq := 0, jump := none, fbPos := none })
    (motWatchAll ((s.put (F.ANGn_STAT_STATE d) dOFF).put (F.ANGn_STAT_ARMED d) 0))

/-- At Basic level HOLDTO follows SRC: 10 ms for an FB domain, 64 turns otherwise (R57). -/
def holdToDerive (d : Fin 8) (s : State) : State :=
  if s.on F.ANG_CTL_EXPERT then s else s.put (F.ANGn_WIN_HOLDTO d) (if 4 ≤ s.get (F.ANGn_CTL_SRC d) then 1000 else 64)

/-- A write of ANGn_CTL: refused whole where it disables the domain of an enabled rail or gives it SRC = FB; an unlisted SRC is ignored
alone; EN acts at once (R44, R48 to R50). -/
def angCtlWrite (d : Fin 8) (v : Word) (s : State) : State :=
  let en := fldOf (F.ANGn_CTL_EN d) v
  let src := fldOf (F.ANGn_CTL_SRC d) v
  let was := s.on (F.ANGn_CTL_EN d)
  if domInUse d s ∧ (en = 0 ∨ (4 ≤ src ∧ srcOk src)) then angRefuse d (Reg.ANGn_CTL d) F.ANG_FLT_REFUSED s
  else
    let w := if srcOk src then v else fldInto (F.ANGn_CTL_SRC d) (s.get (F.ANGn_CTL_SRC d)) v
    let s1 := holdToDerive d ((s.wr (Reg.ANGn_CTL d) w).when (!srcOk src) (fun t => t.put F.ANG_FLT_BADSRC 1))
    if en = 1 ∧ !was then domEnable d s1 else if en = 0 ∧ was then domDisable d s1 else s1

/-- A rate is committed: it loads at a turn boundary, arms a follower, or waits for the next enable (R27, R48, R72). -/
def commitRate (d : Fin 8) (rate : Nat) (s : State) : State :=
  let s1 := domUpd d (fun x => { x with committed := rate }) s
  if !s.on (F.ANGn_CTL_EN d) || 4 ≤ s.dom[d].src then s1
  else if ringFollower d s then (domUpd d (fun x => { x with armed := some rate }) s1).put (F.ANGn_STAT_ARMED d) 1
  else domUpd d (fun x => { x with pendRate := (rate, s.clk.ns) :: (x.pendRate.filter (fun p => p.2 < s.clk.ns)).take 1, fixAt := s.clk.ns }) s1

/-- FREQ_WRITE: refused with FRANGE, or committed; RATE shows the derived value at Basic level (R46 to R48). -/
def freqWrite (d : Fin 8) (v : Word) (s : State) : State :=
  if rateBad d v.toNat 16 s then angRefuse d (Reg.ANGn_FREQ d) F.ANG_FLT_FRANGE s
  else
    let rate := rateOfFreq v.toNat
    let s1 := s.wr (Reg.ANGn_FREQ d) v
    let s2 := if s.on F.ANG_CTL_EXPERT then s1 else (s1.put (F.ANGn_RATEL_RATEL d) rate).put (F.ANGn_RATEH_RATEH d) (rate / 2 ^ 32)
    commitRate d rate s2

/-- RATEH_WRITE: commits RATEH:RATEL as one rate, or is refused with FRANGE; an expert-only register (R47, R48). -/
def ratehWrite (d : Fin 8) (v : Word) (s : State) : State :=
  let rate := fldOf (F.ANGn_RATEH_RATEH d) v * 2 ^ 32 + s.get (F.ANGn_RATEL_RATEL d)
  if rateRangeBad d rate s then angRefuse d (Reg.ANGn_RATEH d) F.ANG_FLT_FRANGE s
  else commitRate d rate (s.wr (Reg.ANGn_RATEH d) v)

/-- The domain field of a rail in a RAILMAP word. -/
def railmapFld (r : Fin 4) : Fld := ⟨Reg.ANG_RAILMAP, 4 * r.val, 3⟩

/-- RAILMAP_WRITE: refused whole where it binds a rail to an FB domain or rebinds an enabled rail; the log names the domain of the lowest
rail at fault (R49, R76) (DEDUCED, log entry 43). -/
def railmapWrite (v : Word) (s : State) : State :=
  let new := fun (r : Fin 4) => Fin.ofNat 8 (fldOf (railmapFld r) v)
  let bad := fun (r : Fin 4) => 4 ≤ s.get (F.ANGn_CTL_SRC (new r)) || (s.on (F.ANGn_CTL_EN (new r)) && 4 ≤ s.dom[new r].src) || (railEn r s && decide (new r ≠ railDom r s))
  match rails.find? bad with
  | some r => angRefuse (new r) Reg.ANG_RAILMAP F.ANG_FLT_REFUSED s
  | none => s.wr Reg.ANG_RAILMAP v

/-- ANG_ACT by its action code; an unlisted code is ignored. -/
def angAct (arg : BitVec 16) (action : Byte) (s : State) : State := if action = 1 then reacquire arg s else s

/-! ## FB domains (R59) -/

/-- An FB domain's update is missing: a feedback fault or a rejected update (R58, R59). -/
def fbMissing (d : Fin 8) (s : State) : State := refMissing d s

/-- A position update of an FB domain: the angle takes the shaft position scaled by MULT + 1 at the end of the cycle, and the rate the position change over
the last microsecond filtered with KISH; an update too far from the extrapolated angle is rejected, but for the two that an acquisition measures; until
the second of these the rate stays. `pos` is the shaft position in 2^-48 revolutions, its turn count above (R44, R53, R59) (DESIGN CHOICE, log entry 45). -/
def fbDomain (d : Fin 8) (pos : Int) (s : State) : State :=
  let st := dState d s
  let x := s.dom[d]
  if !s.on (F.ANGn_CTL_EN d) || x.src < 4 || st < dACQUIRE then s
  else if st = dLOST ∧ !s.on (F.ANGn_CTL_AUTOACQ d) ∧ !x.allow then s
  else
    let s0 := if dHOLDOVER ≤ st then domUpd d (fun y => { y with allow := false }) (acquireAfresh d s) else s
    let new := BitVec.ofInt 56 (pos * refTurns d s)
    let e := (new - x.acc).toInt
    let acq := s0.dom[d].acq
    if acq = 2 ∧ 2 ^ (48 - s.get (F.ANGn_TRACK_FBJUMP d)) < e.natAbs then refMissing d (refReject d s0)
    else
      let step := (new - x.evMark).toInt
      let rate := if acq = 0 then x.rate else if acq = 1 then step.fdiv 1000 else x.rate + asr (step.fdiv 1000 - x.rate) (s.get (F.ANGn_TRACK_KISH d))
      if acq = 1 ∧ rateBad d (rate.natAbs * 10 ^ 9) (2 ^ 48) s then refMissing d (refReject d s0)
      else
        let at_ := if s.clk.stage = 0 then s.clk.ns else s.clk.ns + 1
        let s1 := domUpd d (fun y => { y with
          fbPos := some (new, at_), evMark := new, rate := rate, rateI := rate.natAbs, acq := min 2 (acq + 1), cycRate := some ((y.cycRate).getD y.rate), bT := at_ + 1, bAcc := new }) s0
        let s2 := (s1.putI (F.ANGn_PERR_PERR d) (asr e 24)).putI (F.ANGn_MEAS_MEAS d) (freqOfRate rate)
        if acq = 0 then s2 else lockStep d (asr e 24) s2

/-! ## Meanings -/

/-- TURN_BOUNDARY (R42). -/
def execTurnBoundary (d : Fin 8) (s : State) : Out := .next (turnBoundary d s)

/-- SYNC_PULSE (R70). -/
def execSyncPulse (lead width : Nat) (s : State) : Out := .next (syncPulse lead width s)

/-- SYNC_PULSE_OVERWIDTH (R70). -/
def execSyncPulseOverwidth (s : State) : Out := .next (syncOverwidth s)

/-- SYNC_IN_EDGE: the level changes at the ball, within the cycle, and the glitch filter takes it; or the edge it accepted is detected (R69, R70). -/
def execSyncInEdge (x : SyncEdge) (s : State) : Out :=
  .next (match x.ball with | some t => syncBall x.level t.val s | none => syncInEdge x.level s)

/-- RING_OPEN (R75). -/
def execRingOpen (s : State) : Out := .next (ringOpen s)

/-- REFERENCE_MISSING (R56). -/
def execReferenceMissing (d : Fin 8) (s : State) : Out := .next (refMissing d s)

/-- HOLDOVER_TIMEOUT (R57). -/
def execHoldoverTimeout (d : Fin 8) (s : State) : Out := .next (lostEnter d s)

/-- REACQUIRE: ANG_ACT action 0x01 (R58). -/
def execReacquire (ticket : Byte) (arg : BitVec 16) (s : State) : Out := .next (s.act Reg.ANG_ACT ticket arg 1 (reacquire arg))

/-- FREQ_WRITE (R47). -/
def execFreqWrite (d : Fin 8) (value : Word) (s : State) : Out := .next (freqWrite d value s)

/-- RAILMAP_WRITE (R49). -/
def execRailmapWrite (value : Word) (s : State) : Out := .next (railmapWrite value s)

/-- ACU_FIRE (R65). -/
def execAcuFire (k : Fin 16) (s : State) : Out := .next (acuFire k s)

end Sys2Proof.Machine
end

