-- ==== Sys2Proof/Machine/Pwr.lean ====
section
/-!
DEFINITION. Machine/Pwr.lean: power domains: requests, refusals, the sequencer, retention (spec/19_power_reset.md, R504 to R513).
-/
namespace Sys2Proof.Machine

/-- The sequencer's state replaced. -/
def pwrUpd (f : PwrSt → PwrSt) (s : State) : State := { s with pwr := f s.pwr }

/-- A domain's request bit. -/
def reqOn (d : Nat) (s : State) : Bool := if d < 32 then s.bit F.PWR_REQ0_REQ d else s.bit F.PWR_REQ1_REQ (d - 32)
def setReq (d : Nat) (v : Bool) (s : State) : State := if d < 32 then s.putBit F.PWR_REQ0_REQ d v else s.putBit F.PWR_REQ1_REQ (d - 32) v
def setOn (d : Nat) (v : Bool) (s : State) : State := if d < 32 then s.putBit F.PWR_ON0_ON d v else s.putBit F.PWR_ON1_ON (d - 32) v

/-- The domains a domain requires (R504). -/
def requires (d : Nat) : List Nat :=
  if 22 ≤ d ∧ d ≤ 25 then [d - 4]
  else if 26 ≤ d ∧ d ≤ 29 then [48]
  else if d = 56 then [55] else if d = 57 then [58] else if d = 60 then [59]
  else if 1 ≤ d ∧ d ≤ 3 then [4, 6, 16] else []

/-- The domains whose bits always read 1 (R505). -/
def fixedPd (d : Nat) : Bool := d ≤ 3 || d == 16 || d == 17

/-- Units that a lane of a bank serves and that are enabled (R89). -/
def laneBusy (b : Fin 3) (k : Nat) (s : State) : Bool :=
  match b with
  | 0 => rails.any (fun r => railEn r s && k / 2 == r.val)
  | 1 => rails.any (fun r => railEn r s && (railList r s).any (fun p => p.val / 4 == k))
  | _ => (List.finRange 4).any (fun m => motorEn m s && m.val / 2 == k)

/-- A slice's domain belongs to an enabled unit: it serves a busy lane, or is the spare of a bank with one (R89). -/
def sliceBusy (b : Fin 3) (i : Nat) (s : State) : Bool :=
  (List.range (gLanes b)).any (fun k => laneBusy b k s && (s.get (gLaneFld b k) == i || gSpare b s == i))

/-- Any ring of the host interface is enabled (R366). -/
def anyRing (s : State) : Bool :=
  (List.range 8).any (fun n => s.on (F.HIF_SQn_CTL_EN n) || s.on (F.HIF_CQm_CTL_EN n)) || s.on (F.HIF_OR_CTL_EN 0) || s.on (F.HIF_OR_CTL_EN 1)

/-- The Power-down refused condition of a domain (R34, R504) (DEDUCED, log entry 21). -/
def downRefused (d : Nat) (s : State) : Bool :=
  if d = 4 ∨ d = 6 then true
  else if 8 ≤ d ∧ d ≤ 15 then s.mst.wipeLeft.contains (d - 8)
  else if 18 ≤ d ∧ d ≤ 21 then railEn (Fin.ofNat 4 (d - 18)) s
  else if 22 ≤ d ∧ d ≤ 25 then railEn (Fin.ofNat 4 (d - 22)) s
  else if 26 ≤ d ∧ d ≤ 29 then motorEn (Fin.ofNat 4 (d - 26)) s
  else if 30 ≤ d ∧ d ≤ 38 then sliceBusy 0 (d - 30) s
  else if 39 ≤ d ∧ d ≤ 47 then sliceBusy 1 (d - 39) s
  else if d = 48 then (List.range 3).any (fun i => sliceBusy 2 i s)
  else if d = 49 then rails.any (fun r => railEn r s)
  else if 50 ≤ d ∧ d ≤ 53 then (List.finRange 4).any (fun m => motorEn m s && motorFb m s == d - 50)
  else if d = 54 then s.on F.CAP_CTL_EN && s.get F.CAP_EN_MASK != 0
  else if d = 55 ∨ d = 56 then anyRing s
  else if d = 57 ∨ d = 58 then s.on F.APR_CTL_EN
  else if d = 59 ∨ d = 60 then s.on F.USB_CTL_EN
  else if d = 61 then (List.range 2).any (fun n => (1 ≤ s.get (F.TWn_CTL_PERS n) && s.get (F.TWn_CTL_PERS n) ≤ 4) || s.get (F.AVSn_CTL_RAILEN n) != 0)
  else if d = 62 then s.on F.XSPI_STAT_BUSY || verifying s
  else if d = 63 then verifying s
  else false

/-- The power-down requests that stand once those are dropped that leave a dependent domain on (R506). -/
def dropDependent : Nat → List Nat → State → List Nat
  | 0, l, _ => l
  | k + 1, l, s =>
    let keep := l.filter (fun d => !(List.range 64).any (fun e => (requires e).contains d && (domainOn e s || s.pwr.trans.contains e) && !l.contains e))
    if keep.length = l.length then l else dropDependent k keep s

/-- The order of accepted power-downs: every domain before each one it requires, otherwise descending (R506). -/
def downOrder : Nat → List Nat → List Nat
  | 0, l => l
  | k + 1, l =>
    match (l.filter (fun d => !l.any (fun e => (requires e).contains d))).max? with
    | some d => d :: downOrder k (l.erase d)
    | none => l

/-- The sequencer is kicked: the first slot starts in the AO cycle after the write, or when the running slot ends (R508). -/
def pwrKick (s : State) : State :=
  if s.pwr.queue = [] then s
  else if s.armed .domainSwitch then s
  else (s.put F.PWR_BUSY_BUSY 1).after (max (10 - s.clk.ns % 10) (s.pwr.freeAt - s.clk.ns)) .domainSwitch

/-- Power-up requests for a list of domains and all that they require (R506, R508). -/
def upRequests (l : List Nat) (s : State) : State :=
  let all := (List.range 64).filter (fun d => l.contains d || l.any (fun e => (requires e).contains d && !(domainOn d s && reqOn d s)))
  pwrKick (pwrUpd (fun p => { p with queue := p.queue ++ (all.filter (fun d => !(domainOn d s) && !(p.trans.contains d))).map (fun d => (d, true)) })
    (s.each all (fun d => setReq d true)))

/-- The domains that a mailbox wake powers up; a power-down request of the same AO cycle does not take them down again (R405, R510). -/
def wakeRequests (l : List Nat) (s : State) : State := pwrUpd (fun p => { p with woke := p.woke ++ l }) (upRequests l s)

/-- The writes of PWR_REQ0 and PWR_REQ1 that complete in one AO cycle, after every other write of the cycle: refusals, then requests; a domain
that a mailbox has woken in the cycle stays up (R505 to R508, R510) (DEDUCED, log entry 21). -/
def powerRequest (r0 r1 : Option Word) (s : State) : State :=
  let new := fun (d : Nat) => if fixedPd d then true
    else if d < 32 then (match r0 with | some w => w.getLsbD d | none => reqOn d s)
    else (match r1 with | some w => w.getLsbD (d - 32) | none => reqOn d s)
  let ups := (List.range 64).filter (fun d => new d && !reqOn d s)
  let downs := (List.range 64).filter (fun d => !new d && reqOn d s && !s.pwr.woke.contains d)
  let ok1 := downs.filter (fun d => !downRefused d s)
  let ok := dropDependent 64 ok1 s
  let refused := downs.filter (fun d => !ok.contains d)
  let s1 := s.each ok (fun d => setReq d false)
  let s2 := pwrUpd (fun p => { p with queue := p.queue ++ ((downOrder 64 ok).filter (fun d => domainOn d s1)).map (fun d => (d, false)) }) s1
  let s3 := match refused.min? with
    | some d =>
      ((s2.put F.PWR_FLT_REFUSED 1).inc F.PWR_CNT_REFD).logReq 0x14 0x0001 [b8 d, b8 (if downRefused d s then 1 else 2), b8 refused.length]
    | none => s2
  pwrKick (upRequests ups s3)

/-! ## Switching (R508 to R513) -/

/-- The power-up time of a domain in nanoseconds, the wipe of a memory bank included; PD59 is ready before its buffer's wipe (R504). -/
def powerUpNs (d : Nat) : Nat :=
  if 4 ≤ d ∧ d ≤ 15 then 10000 + wipeNs d
  else if 30 ≤ d ∧ d ≤ 48 then 20000
  else if d = 56 then 40000 else if d = 57 then 50000 else if d = 60 then 450000 else 10000

/-- The fields of a slot that retention cells keep: RW, RWL and remembered tickets (R512). -/
def retained (a : Nat) (w : Word) : Word :=
  match rowFor a with
  | none => 0
  | some r => if r.act then w else (w &&& (r.rw ||| r.rwl)) ||| (r.reset &&& ~~~(r.rw ||| r.rwl))

/-- A slot after its domain has powered up: retained fields stay, the others are at reset (R512). -/
def retainSlot (base : Nat) (s : State) : State :=
  let mine := s.regs.filter (fun p => base ≤ p.1 && p.1 < base + 65536)
  mine.foldl (fun t p => t.wr p.1 (retained p.1 p.2)) s

/-- Packets that wait in the USB queues, pending pushes and untaken takes included. -/
def usbPackets (s : State) : Nat := (s.usb.ep.toList.map (fun e => e.outq.length + e.inq.length)).sum

/-- Every gob is free and every queue is empty (R447, R455). -/
def usbEmpty (s : State) : State :=
  { s with usb := { s.usb with
      used := 0, gets := [], rels := [], rx := [], bootAck := 0
      ep := s.usb.ep.map (fun e => { e with outq := [], taken := [], inq := [], alloc := none }) } }

/-- The content of the USB buffer is lost with `n` packets: 1 by power-down, 2 by a wipe (R447, R455, R461). -/
def usbLose (why n : Nat) (s : State) : State :=
  (usbEmpty (s.put F.USB_FLT_LOST 1)).logReq 0x10 0x0004 (b8 why :: bytesOfNat 2 n)

/-- PD59 has powered up: the retention set stays, buffer and queues are empty; after a suspension the loss is reported (R446, R447). -/
def usbPowered (s : State) : State :=
  let s1 := (retainSlot 0x40100000 s).wr Reg.USB_STAT (s.rd Reg.USB_STAT)
  if s.usb.down then let s2 := usbLose 1 s.usb.lost s1; { s2 with usb := { s2.usb with down := false, lost := 0 } } else usbEmpty s1

/-- PD59 goes down; while the function is enabled only a suspension does this, and the packets that it loses are counted (R447). -/
def usbDown (s : State) : State :=
  if s.on F.USB_CTL_EN then
    let s1 := usbEmpty s
    { s1 with usb := { s1.usb with down := true, lost := usbPackets s } }
  else usbEmpty s

/-- PD54 has powered up: DRY and DRYV stay, DRY as a retained RW field; every baseline and counter is cleared, a learning that ran ends, and
an enabled block scans afresh (R494, R495). -/
def capPowered (s0 : State) : State :=
  let s := if s0.lop[(4 : Fin 5)].running then lopEnd 4 lopABORTED s0 else s0
  let s1 := ({ retainSlot 0x40130000 s with cap := {} } : State).each (List.range 16) (fun i t => t.put (F.CAPi_STAT_DRYV i) (s.get (F.CAPi_STAT_DRYV i)))
  s1.when (s1.on F.CAP_CTL_EN) (fun t => t.restart (4 - t.clk.ns % 4) .scanStart)

/-- The data-path state of a domain returns to its reset state as it powers up (R512). -/
def dataReset (d : Nat) (s : State) : State :=
  if 18 ≤ d ∧ d ≤ 21 then
    let r : Fin 4 := Fin.ofNat 4 (d - 18)
    mrvUpd r (fun m => { ({} : Mrv) with vinscl := m.vinscl, vin := m.vin, vinLast := m.vinLast }) (protUpd r (fun _ => {}) s)
  else if 22 ≤ d ∧ d ≤ 25 then edgeUpd (Fin.ofNat 4 (d - 22)) (fun _ => {}) s
  else if 26 ≤ d ∧ d ≤ 29 then motUpd (Fin.ofNat 4 (d - 26)) (fun x => { ({} : Motor) with fltLow := x.fltLow }) s
  else if 50 ≤ d ∧ d ≤ 53 then
    let f : Fin 4 := Fin.ofNat 4 (d - 50)
    ({ s with fb := updAt s.fb f (fun _ => {}) } : State).when (s.on (F.FBf_CTL_EN f)) (fun t => t.restart 1000 (.fbUpdate f))
  else if d = 58 then { (retainSlot 0x40070000 s) with apr := {}, par := Vector.replicate 4 {} }
  else if d = 55 then { (retainSlot 0x400C0000 s) with hif := {} }
  else if d = 61 then
    { (retainSlot 0x400F0000 (retainSlot 0x400E0000 s)) with
      avs := Vector.replicate 2 {}, tw := s.tw.map (fun p => { ({} : TwPort) with pers := p.pers, speed := p.speed, addr := p.addr }) }
  else if d = 62 then { (retainSlot 0x40160000 s) with boot := { s.boot with lines := [] } }
  else if d = 63 then retainSlot 0x40170000 s
  else if d = 59 then usbPowered s
  else if d = 54 then capPowered s
  else s

/-- A slice's factory coefficients load from OTP word 0x100 + s × 8 + i div 2, even items in the low half (R87, R346) (DESIGN CHOICE, log entry 8). -/
def factoryItems (sl : Nat) (s : State) : List Nat :=
  (List.range 14).map (fun i => ((mapFind s.boot.otp (0x100 + sl * 8 + i / 2)).getD 0).toNat / (if i % 2 = 0 then 1 else 65536) % 65536)

/-- The slices of a domain. -/
def slicesOf (d : Nat) : List (Fin 3 × Nat) :=
  if 30 ≤ d ∧ d ≤ 38 then [(0, d - 30)] else if 39 ≤ d ∧ d ≤ 47 then [(1, d - 39)] else if d = 48 then [(2, 0), (2, 1), (2, 2)] else []

/-- A domain of the Trio group is ready 16.8 µs after the voter switched the group on (R509). -/
def groupReady (d : Nat) (s : State) : State := if s.trio.group ∧ s.trio.upAt ≤ s.clk.ns + 128 then setOn d true s else s

/-- The voter switches the Trio group on; the cores are ready 96 cycles after the group (R323, R509). -/
def groupUp (s : State) : State :=
  if s.trio.group then s
  else ({ s with trio := { s.trio with group := true, upAt := s.clk.ns + 16928 } } : State).each [1, 2, 3] (fun d t => t.after 16800 (.domainReady (Fin.ofNat 64 d)))

/-- The voter powers the Trio group down (R322). -/
def groupDown (s : State) : State :=
  ({ s with trio := { s.trio with group := false } } : State).each [1, 2, 3] (fun d t => setOn d false (t.cancel (.domainReady (Fin.ofNat 64 d))))

/-- The power-up wipe of the USB buffer begins: it runs after PD59 is ready (R338, R504). -/
def bufferWipe (s : State) : State :=
  let s1 := wipeBank 59 s
  ({ s1 with mst := { s1.mst with wiping := s1.mst.wiping.filter (· != 59) ++ [59] } }).restart (wipeNs 59) (.bankWipeComplete 59)

/-- The power-up wipe of the USB buffer is over; a runtime wipe of it may still run (R338, R354). -/
def bufferWiped (s : State) : State :=
  if s.mst.wipeLeft.contains 8 then s else { s with mst := { s.mst with wiping := s.mst.wiping.filter (· != 59) } }

/-- A domain is ready: its ON bit sets; it then follows its request bit; PWR_BUSY shows the last domain still in transition (R508, R510). -/
def domainReady (d : Nat) (s : State) : State :=
  if 1 ≤ d ∧ d ≤ 3 then groupReady d s
  else if s.pwr.trans.contains d then
    let s1 := dataReset d (pwrUpd (fun p => { p with trans := p.trans.erase d }) (setOn d true s))
    let s2 := s1.each (slicesOf d) (fun x t => gNext x.1 (gSpareBack x.1 (gLoadFactory x.1 x.2 (factoryItems (gBit x.1 x.2) s1) t)))
    let s3 := if d = 59 then bufferWipe s2 else { s2 with mst := { s2.mst with wiping := s2.mst.wiping.filter (· != d) } }
    let s4 := if reqOn d s3 then s3 else pwrUpd (fun p => { p with queue := p.queue ++ [(d, false)] }) s3
    let s5 := s4.put F.PWR_BUSY_DOM ((s4.pwr.trans.getLast?).getD 0)
    pwrKick (s5.when (s5.pwr.trans == [] && s5.pwr.queue == []) (fun t => t.wr Reg.PWR_BUSY 0))
  else s

/-- The edge generator's domain goes down: every phase of its rail, none that another rail's list names and runs, is at MID, a low hold is over, and ENr is low (R162, R163). -/
def edgeDown (r : Fin 4) (s : State) : State :=
  let s1 := s.each (List.finRange 32) (fun p t =>
    if t.phase[p].held = some r ∨ ((railList r t).contains p ∧ (railOf p t = some r ∨ ((railOf p t).isNone ∧ t.phase[p].held.isNone))) then
      phUpd p (fun h => { h with out := .mid, held := none, toMid := false, offPending := false, offT := none, forced := false, minOff := false, slotT := none, commit := none })
        (((t.cancel (.offEdge p)).cancel (.minOffTimeEnd p)).cancel (.minOnTimeEnd p))
    else t)
  ((edgeUpd r (fun e => { e with lowHold := false }) s1).cancel (.stopLowHoldEnd r)).put (F.EDGEr_STAT_ENOUT r) 0

/-- A domain goes down: isolated at once, its ON bit clears; a bank loses its content and its undo entries, a slice leaves the pool
(R82, R508, R512, R513) (DEDUCED, log entry 62). -/
def domainDown (d : Nat) (s : State) : State :=
  let s0 := (setOn d false s).each (slicesOf d) (fun x => gSliceDown x.1 x.2)
  let s1 := s0.when (22 ≤ d && d ≤ 25) (edgeDown (Fin.ofNat 4 (d - 22)))
  if (6 ≤ d ∧ d ≤ 15) ∨ d = 4 ∨ d = 5 then undoVoid d (wipeBank d s1) else if d = 59 then (usbDown (bufferWiped (wipeBank 59 s1))).cancel (.bankWipeComplete 59) else s1

/-- A domain goes up: ready after its time; a bank is wiped first (R338, R508). -/
def domainUp (d : Nat) (s : State) : State :=
  let s1 := pwrUpd (fun p => { p with trans := p.trans ++ [d] }) ((s.put F.PWR_BUSY_BUSY 1).put F.PWR_BUSY_DOM d)
  if 4 ≤ d ∧ d ≤ 15 then
    (wipeBank d s1).after (powerUpNs d) (.bankWipeComplete (Fin.ofNat 64 d))
  else s1.after (powerUpNs d) (.domainReady (Fin.ofNat 64 d))

/-- The first request that a slot can serve: not one for a domain in transition, not an up whose required domains are not ready (R508). -/
def nextRequest (s : State) : Option (Nat × Bool) :=
  s.pwr.queue.find? (fun q => !s.pwr.trans.contains q.1 && (!q.2 || (requires q.1).all (fun e => domainOn e s)))

/-- DOMAIN_SWITCH: one slot of the sequencer, none while the previous one runs; requests that no longer change anything take none (R508, R510). -/
def domainSwitch (s0 : State) : State :=
  if s0.clk.ns < s0.pwr.freeAt then pwrKick s0 else
  let s := pwrUpd (fun p => { p with queue := p.queue.filter (fun q => p.trans.contains q.1 || (domainOn q.1 s0 != q.2 && reqOn q.1 s0 == q.2)) }) s0
  let slot := zeroAsOne (s.get F.PWR_CFG_SLOT) * 1000
  match nextRequest s with
  | some (d, up) =>
    let s1 := pwrUpd (fun p => { p with queue := p.queue.erase (d, up), freeAt := s.clk.ns + slot }) s
    let s2 := if up then domainUp d s1 else domainDown d (s1.put F.PWR_BUSY_DOM d)
    if s2.pwr.queue = [] then s2.when (s2.pwr.trans == []) (fun t => t.wr Reg.PWR_BUSY 0) else s2.restart slot .domainSwitch
  | none => if s.pwr.queue = [] then s.when (s.pwr.trans == []) (fun t => t.wr Reg.PWR_BUSY 0) else s.restart slot .domainSwitch

/-! ## Meanings -/

/-- POWER_REQUEST: the writes of PWR_REQ0 and PWR_REQ1 of one AO cycle (R505 to R507). -/
def execPowerRequest (req0 req1 : Option Word) (s : State) : Out :=
  .next (powerRequest req0 req1 (pwrUpd (fun p => { p with want0 := none, want1 := none }) s))

/-- DOMAIN_SWITCH (R508). -/
def execDomainSwitch (s : State) : Out := .next (domainSwitch s)

/-- DOMAIN_READY (R508). -/
def execDomainReady (pd : Fin 64) (s : State) : Out := .next (domainReady pd.val s)

/-- BANK_WIPE_COMPLETE: a bank that powered up has been wiped and starts serving; the USB buffer's domain is ready
before its wipe ends (R338, R504). -/
def execBankWipeComplete (pd : Fin 64) (s : State) : Out := .next (if pd = 59 then bufferWiped s else domainReady pd.val s)

end Sys2Proof.Machine
end

