-- ==== Sys2Proof/Machine/Mbx.lean ====
section
/-!
DEFINITION. Machine/Mbx.lean: mailboxes and locks (spec/14_mailboxes.md). FULL, LEN, SENDER and OWNER live in MBk_STAT; MBk_SEND's
remembered word per sender in `mbx.send`.
-/
namespace Sys2Proof.Machine

/-- The authenticated debug port is open: in BLANK, in END never, else after authentication (R350). -/
def debugOpen (s : State) : Bool :=
  let st := s.get F.LCS_STAT_STATE
  if st = 0 then true else if 4 ≤ st then false else s.tap.session

/-- An access of the debug port is answered only after its authentication (R350, R393). -/
def mbReached (agent : Agent) (f : State → State) (s : State) : State :=
  if agent = .debug ∧ !debugOpen s then { s with busErr := true } else f s

/-- FULL, owner, receiver and configured sender of a mailbox (R395, R397, R400). -/
def mbFull (k : Nat) (s : State) : Bool := s.on (F.MBk_STAT_FULL k)
def mbOwner (k : Nat) (s : State) : Nat := s.get (F.MBk_STAT_OWNER k)
def mbRecv (k : Nat) (s : State) : Nat := s.get (F.MBk_CFG_RECV k)

/-- A mailbox whose RECV is 0 or 7 is disabled (R395). -/
def mbDisabled (k : Nat) (s : State) : Bool := mbRecv k s == 0 || mbRecv k s == 7

/-- The agent holds the write right: the lock owner of a shared mailbox, the fixed sender of a private one (R396, R400). -/
def mbRight (agent : Agent) (k : Nat) (s : State) : Bool :=
  if k < 8 then mbOwner k s == agent.id else s.get (F.MBk_CFG_SENDER k) == agent.id

/-- The host window is closed: HIF_CTL.LOCK = 1 (R393). -/
def mbDenied (agent : Agent) (s : State) : Bool := agent == .host && s.on F.HIF_CTL_LOCK

/-- An access that is denied reads 0, changes nothing and counts in DENY (R393, R394). -/
def mbDeny (s : State) : State := { s.inc F.MBX_CNT_DENY with rdata := 0 }

/-- An ignored data or lock write (R396, R397). -/
def mbWref (s : State) : State := s.inc F.MBX_CNT_WREF

/-- A log entry of the block, at most once a millisecond per mailbox and code (R406). -/
def mbLog (k code : Nat) (data : List Byte) (s : State) : State := s.logLimited (0x0D0000 + code * 16 + k) 0x0D code (b8 k :: data)

/-- The content of the mailbox is final: a Trio take can no longer be handed back (R404). -/
def mbTouch (k : Nat) (s : State) : State := { s with mbx := { s.mbx with taken := s.mbx.taken.filter (· != k) } }

/-! ## Locks (R397 to R399) -/

/-- The device releases a lock without the owner's write (R399). -/
def lockBreak (k cause : Nat) (s : State) : State :=
  if mbOwner k s = 0 then s
  else mbLog k 0x0001 [b8 (mbOwner k s), b8 cause] ((s.put (F.MBk_STAT_OWNER k) 0).cancel (.lockTimeout (Fin.ofNat 8 k)))

/-- The device releases every lock of an agent that was reset (R399). -/
def locksOf (id : Nat) (s : State) : State := s.each (List.range 8) (fun k t => if mbOwner k t = id then lockBreak k 2 t else t)

/-- LOCKTO in nanoseconds; 0 disables the timeout, and values above 1 000 act as 1 000 (R408). -/
def locktoNs (s : State) : Nat := min 1000 (s.get F.MBX_LOCKTO_LOCKTO) * 1000000

/-- The lock is held by an external agent and LOCKTO has elapsed since it was won (R399, R408). -/
def lockDue (k : Fin 8) (s : State) : Bool := decide (2 ≤ mbOwner k s) && locktoNs s != 0 && decide (s.mbx.won[k] + locktoNs s ≤ s.clk.ns)

/-- LOCKTO has changed: each held lock times out by the new value, counted from when it was won (R399). -/
def locktoChanged (s : State) : State :=
  s.each (List.finRange 8) (fun k t =>
    let t1 := t.cancel (.lockTimeout k)
    if 2 ≤ mbOwner k t ∧ locktoNs t ≠ 0 then t1.after (t.mbx.won[k] + locktoNs t - t.clk.ns) (.lockTimeout k) else t1)

/-- The AO cycle. -/
def aoNow (s : State) : Nat := s.clk.ns / 10

/-- The owner whose release of a lock falls in this cycle; 0 none (R398). -/
def mbFreed (k : Nat) (s : State) : Nat := ((s.mbx.freed.find? (fun x => x.1 == k && x.2.2 == aoNow s)).map (·.2.1)).getD 0

/-- The owner releases a lock: reads of the same cycle still see the owner (R397, R398). -/
def lockFree (k : Nat) (s : State) : State :=
  let s1 : State := { s with mbx := { s.mbx with freed := (k, mbOwner k s, aoNow s) :: s.mbx.freed.filter (fun x => x.2.2 == aoNow s) } }
  (s1.put (F.MBk_STAT_OWNER k) 0).cancel (.lockTimeout (Fin.ofNat 8 k))

/-- A read of MBk_LOCK: a free lock of a shared mailbox becomes the reader's; in the cycle of a release the owner is read (R397, R398, R400). -/
def lockRead (agent : Agent) (k : Nat) (s : State) : State :=
  if mbDenied agent s then mbDeny s
  else if 8 ≤ k then { s with rdata := 0 }
  else if mbFreed k s ≠ 0 then { s with rdata := BitVec.ofNat 32 (mbFreed k s) }
  else if mbOwner k s = 0 then
    let s1 := { s.put (F.MBk_STAT_OWNER k) agent.id with rdata := 0, mbx := { s.mbx with won := updAt s.mbx.won (Fin.ofNat 8 k) (fun _ => s.clk.ns) } }
    if agent.id ≠ 1 ∧ locktoNs s ≠ 0 then s1.restart (locktoNs s) (.lockTimeout (Fin.ofNat 8 k)) else s1
  else { s with rdata := BitVec.ofNat 32 (mbOwner k s) }

/-- Several agents read one MBk_LOCK in the same cycle: they read in the order of their IDs, so the lowest wins a free lock and every other one reads the
winner's ID; each one's word stands in `answers`, the first one's in `rdata` (R398). -/
def lockReads (readers : List Agent) (k : Nat) (s : State) : State :=
  let s1 : State := { s with mbx := { s.mbx with answers := [] } }
  let s2 := s1.each (([.trio, .host, .usb, .tw0, .tw1, .debug] : List Agent).filter readers.contains) (fun a t =>
    mbReached a (fun u => let v := lockRead a k u; { v with mbx := { v.mbx with answers := v.mbx.answers ++ [(a.id, v.rdata)] } }) t)
  match readers with
  | [] => s2
  | a :: _ => { s2 with rdata := ((s2.mbx.answers.find? (fun x => x.1 == a.id)).map (·.2)).getD s2.rdata }

/-- A write to MBk_LOCK: 0 by the owner releases the lock; a private mailbox ignores writes (R397, R400). -/
def lockWrite (agent : Agent) (k : Nat) (value : Word) (s : State) : State :=
  if mbDenied agent s then mbDeny s
  else if 8 ≤ k then s
  else if value = 0 ∧ mbOwner k s = agent.id then lockFree k s
  else mbWref s

/-! ## Data, send and take (R396, R401 to R405) -/

/-- A write to MBk_DATA[i] (R396). -/
def dataWrite (agent : Agent) (k i : Nat) (value : Word) (s : State) : State :=
  if mbDenied agent s then mbDeny s
  else if mbRight agent k s && !mbFull k s then mbTouch k (s.wr (Reg.MBk_DATAi k i) value)
  else mbWref s

/-- Why a send is refused: 1 no write right, which a lock whose LOCKTO ends in the cycle of the send still gives, 2 full at the start of the cycle, 3 bad LEN, 4 disabled; 0 where it is not (R401, R406). -/
def sendReason (agent : Agent) (k len : Nat) (s : State) : Nat :=
  if !mbRight agent k s && !s.mbx.lapsed.contains (k, agent.id, aoNow s) then 1 else if mbFull k s || s.mbx.took.contains (k, aoNow s) then 2 else if len = 0 ∨ 16 < len then 3 else if mbDisabled k s then 4 else 0

/-- The notification of an accepted send in WAKE mode (R405). -/
def mbNotify (k : Nat) (s : State) : State :=
  if s.on (F.MBk_CFG_NOTIFY k) then
    match mbRecv k s with
    | 1 => s.after 0 .wake
    | 2 => wakeRequests [55, 56] s
    | 3 => wakeRequests [59, 60] s
    | 4 => wakeRequests [61] s
    | 5 => wakeRequests [61] s
    | _ => s
  else s

/-- The effect of a SEND whose ticket check passed (R401, R405). -/
def sendDo (agent : Agent) (k : Nat) (arg : BitVec 16) (s : State) : State :=
  let len := arg.toNat % 32
  match sendReason agent k len s with
  | 0 =>
    let s1 := ((s.put (F.MBk_STAT_FULL k) 1).put (F.MBk_STAT_LEN k) len).put (F.MBk_STAT_SENDER k) agent.id
    let s2 := (mbTouch k s1).fire (168 + k % 8)
    mbNotify k (if mbRecv k s = 4 then twCause 0 5 s2 else if mbRecv k s = 5 then twCause 1 5 s2 else s2)
  | why => mbLog k 0x0002 [b8 agent.id, b8 why] (s.inc F.MBX_CNT_SREF)

/-- A write to MBk_SEND: one remembered word for each sender ID, ARG above [4:0] being RSV; an unlisted action only updates it
(R11, R20, R401). -/
def sendWrite (agent : Agent) (k : Nat) (ticket : Byte) (arg0 : BitVec 16) (action : Byte) (s : State) : State :=
  let arg := arg0 &&& 0x1F
  if mbDenied agent s then mbDeny s
  else
    let key := 8 * k + agent.id
    let old := (mapFind s.mbx.send key).getD 0
    if ticket ≠ 0 ∧ ticket = old.extractLsb' 24 8 then s
    else
      let s1 := if action = 1 then sendDo agent k arg s else s
      { s1 with mbx := { s1.mbx with send := mapPut 0 s1.mbx.send key (actWord ticket arg action) } }

/-- The word MBk_TAKE reads (R403). -/
def takeWord (k : Nat) (s : State) : Word :=
  BitVec.ofNat 32 ((if mbFull k s then 2 ^ 31 else 0) + s.get (F.MBk_STAT_LEN k) * 65536 + s.get (F.MBk_STAT_SENDER k) * 256)

/-- A read of MBk_TAKE: the receiver's read clears FULL; the Trio's take can be handed back by a rollback (R403, R404). -/
def takeRead (agent : Agent) (k : Nat) (s : State) : State :=
  if mbDenied agent s then mbDeny s
  else
    let s1 := { s with rdata := takeWord k s }
    if agent.id = mbRecv k s ∧ mbFull k s then
      let s2 : State := { s1.put (F.MBk_STAT_FULL k) 0 with
        mbx := { s1.mbx with took := (k, aoNow s) :: s1.mbx.took.filter (fun x => x.2 == aoNow s) } }
      if agent.id = 1 then { s2 with mbx := { s2.mbx with taken := s2.mbx.taken ++ [k] } } else s2
    else s1

/-- A read of any MBX register, by its agent: MBk_DATA reads as stored for the receiver and 0 for others (R396); MBk_SEND reads the
agent's own last accepted write (R401); MBX_FULL collects the flags (R403). -/
def mbxRead (agent : Agent) (a : Nat) (s : State) : State :=
  if mbDenied agent s then mbDeny s
  else
    let o := a - 0x400D0000
    if o = 0x10 then { s with rdata := (List.range 16).foldl (fun w k => if mbFull k s then w ||| BitVec.ofNat 32 (2 ^ k) else w) 0 }
    else if o < 0x100 then { s with rdata := s.rd a }
    else
      let k := (o - 0x100) / 0x80
      let r := (o - 0x100) % 0x80
      if r = 0x04 then lockRead agent k s
      else if r = 0x08 then { s with rdata := (mapFind s.mbx.send (8 * k + agent.id)).getD 0 }
      else if r = 0x0C then takeRead agent k s
      else if 0x40 ≤ r then { s with rdata := if mbRecv k s = agent.id then s.rd a else 0 }
      else { s with rdata := s.rd a }

/-- LOCKTO has elapsed: the lock is released; a send of its owner in this cycle is still accepted (R399, R401). -/
def lockLapse (k : Nat) (s : State) : State :=
  lockBreak k 1 { s with mbx := { s.mbx with lapsed := (k, mbOwner k s, aoNow s) :: s.mbx.lapsed.filter (fun x => x.2.2 == aoNow s) } }

/-! ## Meanings -/

/-- LOCK_READ: the reads of one MBk_LOCK in one cycle (R397, R398). -/
def execLockRead (readers : List Agent) (k : Fin 16) (s : State) : Out := .next (lockReads readers k s)

/-- LOCK_RELEASE: a write of MBk_LOCK (R397). -/
def execLockRelease (agent : Agent) (k : Fin 16) (value : Word) (s : State) : Out := .next (mbReached agent (lockWrite agent k value) s)

/-- LOCK_TIMEOUT: LOCKTO has elapsed since an external agent won the lock (R399). -/
def execLockTimeout (k : Fin 8) (s : State) : Out := .next (if lockDue k s then lockLapse k s else s)

/-- BREAK: MBX_ACT action 0x01 releases the lock of the mailbox in ARG[2:0] (R399). -/
def execBreak (ticket : Byte) (arg : BitVec 16) (s : State) : Out :=
  .next (s.act Reg.MBX_ACT ticket arg 1 (lockBreak (arg.toNat % 8) 3))

/-- MAILBOX_DATA_WRITE (R396). -/
def execMailboxDataWrite (agent : Agent) (k i : Fin 16) (value : Word) (s : State) : Out := .next (mbReached agent (dataWrite agent k i value) s)

/-- MAILBOX_SEND: MBk_SEND action 0x01 (R401). -/
def execMailboxSend (agent : Agent) (k : Fin 16) (ticket : Byte) (arg : BitVec 16) (s : State) : Out :=
  .next (mbReached agent (sendWrite agent k ticket arg 1) s)

/-- MAILBOX_TAKE (R403). -/
def execMailboxTake (agent : Agent) (k : Fin 16) (s : State) : Out := .next (mbReached agent (takeRead agent k) s)

end Sys2Proof.Machine
end

