-- ==== Sys2Proof/Machine/TrioCtl.lean ====
section
/-!
DEFINITION. Machine/TrioCtl.lean: the Trio beyond its instructions: traps and interrupts (spec/10_capabilities_traps.md, R297 to
R305), checkpoints, rollback, Trio-only reset, sleep, debug halt and watchdog (spec/11_trio.md).
-/
namespace Sys2Proof.Machine

/-- The Trio's state, and its cores, replaced. -/
def trioUpd (f : TrioSt → TrioSt) (s : State) : State := { s with trio := f s.trio }
def coreUpd (f : Core → Core) (s : State) : State := trioUpd (fun t => { t with core := f t.core }) s

/-- SYS_SPEED.TRIO: 0 running, 1 asleep, 2 in rollback or reset, 3 halted (R40). -/
def trioSpeed (s : State) : Nat := s.get F.SYS_SPEED_TRIO
def setSpeed (v : Nat) (s : State) : State := s.put F.SYS_SPEED_TRIO v

/-- The cores execute instructions: released, running, and no checkpoint stalls them (R315). -/
def trioActive (s : State) : Bool := s.trio.run && trioSpeed s == 0 && !s.trio.ckpt

/-- An IRQ is both pending and enabled, and the lowest such IRQ (R302, R321). -/
def irqVec (s : State) : Nat :=
  ((s.rd (Reg.TRIO_IRQPENDj 0) &&& s.rd (Reg.TRIO_IRQENj 0)).toNat) + 2 ^ 32 * ((s.rd (Reg.TRIO_IRQPENDj 1) &&& s.rd (Reg.TRIO_IRQENj 1)).toNat)
def irqLowest (s : State) : Option Nat := (List.range 64).find? (fun n => (irqVec s).testBit n)

/-! ## Watchdog (R325) -/

/-- The watchdog's count stops, keeping what it has counted. -/
def wdtPause (s : State) : State :=
  match s.trio.wdtFrom with
  | some t => trioUpd (fun x => { x with wdt := x.wdt + (s.clk.ns - t), wdtFrom := none }) (s.cancel .watchdogExpiry)
  | none => s

/-- The watchdog counts while TO is not 0 and SYS_SPEED.TRIO = 0. -/
def wdtResume (s0 : State) : State :=
  let s := wdtPause s0
  let limit := s.get F.TRIO_WDT_TO
  if limit ≠ 0 ∧ s.trio.run ∧ trioSpeed s = 0 then
    (trioUpd (fun x => { x with wdtFrom := some s.clk.ns }) s).after (limit * 1000000 - s.trio.wdt) .watchdogExpiry
  else s

/-- KICK: the count restarts. -/
def wdtKick (s : State) : State := wdtResume (trioUpd (fun x => { x with wdt := 0 }) (wdtPause s))

/-! ## Rollback-aware consumption (R319, R404, R422, R372, R451) -/

/-- A checkpoint commits every consumption of the Trio. -/
def commitTaken (s : State) : State :=
  let u := s.usb
  let freed := u.rels ++ (u.ep.toList.map (fun e => e.taken.flatMap (fun p => p.gobs))).flatten
  { s with
    mbx := { s.mbx with taken := [] }
    hif := { s.hif with taken := [] }
    tw := s.tw.map (fun p => { p with popped := [] })
    usb := { u with
      used := freed.foldl (fun m g => m &&& ~~~(BitVec.ofNat 256 (2 ^ g))) u.used
      gets := [], rels := []
      ep := u.ep.map (fun e => { e with taken := [], inq := e.inq.map (fun p => { p with sure := true }) }) } }

/-- A rollback, or a Trio-only reset, hands every consumption back. -/
def handBack (s : State) : State :=
  let s1 := s.each [0, 1] (fun j t => t.hw (Reg.TRIO_IRQPENDj j) (fun w => w ||| t.rd (Reg.TRIO_IRQCLRj j)))
  let s2 := s1.each s1.mbx.taken (fun k t => t.put (F.MBk_STAT_FULL k) 1)
  let u := s2.usb
  { s2 with
    mbx := { s2.mbx with taken := [] }
    hif := { s2.hif with
      order := s2.hif.taken ++ s2.hif.order, taken := []
      slot := s2.hif.taken.foldl (fun v i => updAt v i (fun x => { x with st := .handed })) s2.hif.slot }
    tw := s2.tw.map (fun p => { p with q := p.popped ++ p.q, popped := [] })
    usb := { u with
      used := u.gets.foldl (fun m g => m &&& ~~~(BitVec.ofNat 256 (2 ^ g))) u.used
      gets := [], rels := []
      ep := u.ep.map (fun e => { e with outq := e.taken ++ e.outq, taken := [], inq := e.inq.filter (fun p => p.sure) }) } }

/-! ## Checkpoints (R314, R315, R322) -/

/-- INTV in nanoseconds; 0 where there are no periodic checkpoints (R329). -/
def intvNs (s : State) : Nat :=
  let v := s.get F.TRIO_CKCFG_INTV
  if v = 0 then 0 else max 10 v * 1000

/-- ROLLMAX in force (R329). -/
def rollMax (s : State) : Nat := zeroAsOne (s.get F.TRIO_CKCFG_ROLLMAX)

/-- The periodic request falls due INTV after the last checkpoint or rollback, unless the Trio sleeps or is halted (R314). -/
def periodicArm (s0 : State) : State :=
  let s := s0.cancel .periodicCheckpoint
  if intvNs s = 0 ∨ !trioActive s then s else s.after (s.trio.ckAt + intvNs s - s.clk.ns) .periodicCheckpoint

/-- A checkpoint starts: the cores stall for 100 cycles (R315) (DESIGN CHOICE, log entry 11). -/
def ckptStart (sleep : Bool) (s : State) : State :=
  (trioUpd (fun t => { t with ckpt := true, sleepAfter := sleep, wake := false }) (s.cancel .periodicCheckpoint)).after 134 .checkpointComplete

/-- A checkpoint is taken where fewer than 64 undo entries are free at a boundary of the running or halted Trio (R314). -/
def highWater (s : State) : State :=
  if s.trio.run && (trioSpeed s == 0 || trioSpeed s == 3) && !s.trio.ckpt && decide (32256 - s.trio.undo.length < 64) then
    ckptStart false (s.inc F.TRIO_CNT_HWCKPT)
  else s

/-- The cores go on: into a halt that was asked for, else into execution (R315, R323, R324). -/
def enterRun (s : State) : State :=
  if s.trio.haltReq then wdtPause (trioUpd (fun t => { t with haltReq := false }) (setSpeed 3 s)) else periodicArm (wdtResume (setSpeed 0 s))

/-- The bytes of a snapshot slot in the checkpoint SRAM, as LCS_ECCADDR shows them (R316). -/
def snapSpan (j : Nat) : Nat × Nat := (0x8003F000 + 0x800 * j, 0x8003F800 + 0x800 * j)

/-- The Trio falls asleep (R322). -/
def sleepEnter (s : State) : State :=
  let s1 := wdtPause (setSpeed 1 s)
  if s1.on F.TRIO_SLP_PDOWN then groupDown s1 else s1

/-- CHECKPOINT_COMPLETE: the inactive slot takes the agreed state and becomes the active one; the log empties; the clears and the
consumptions are committed (R315). A halted Trio stays halted (R324); a WFI then sleeps unless a wake came meanwhile (R322). -/
def checkpointComplete (s : State) : State :=
  if !s.trio.ckpt then s
  else
    let j : Fin 2 := Fin.ofNat 2 (1 - s.get F.TRIO_STAT_SLOT)
    let s1 := trioUpd (fun t => { t with snap := updAt t.snap j (fun _ => t.core), undo := [], ckpt := false, ckAt := s.clk.ns, snapAt := s.clk.ns, sleepAfter := false, wake := false }) s
    let s2 := eccClear (snapSpan j.val).1 (snapSpan j.val).2 s1
    let s3 := ((s2.put F.TRIO_STAT_SLOT j.val).put F.TRIO_STAT_LOGUSED 0).put F.TRIO_STAT_RBSEQ 0
    let s4 := commitTaken ((s3.wr (Reg.TRIO_IRQCLRj 0) 0).wr (Reg.TRIO_IRQCLRj 1) 0)
    if trioSpeed s = 3 then s4
    else if s.trio.sleepAfter && !s.trio.wake && irqVec s4 == 0 && !s4.trio.haltReq then sleepEnter s4 else enterRun s4

/-! ## Sleep and wake (R322, R323, R509) -/

/-- A wake: out of clock-gated sleep the cores resume at once; out of power-down after 16.8 µs and the 96 cycles of the snapshot's
load (R323, R509). A wake during the checkpoint of a WFI is kept (R322) (DEDUCED, log entry 34). -/
def wakeUp (s : State) : State :=
  if trioSpeed s = 1 ∧ s.trio.run then
    if !s.trio.group then
      (groupUp s).after 16928 .wake
    else if s.trio.upAt ≤ s.clk.ns then
      enterRun s
    else s
  else if s.trio.ckpt && s.trio.sleepAfter then trioUpd (fun t => { t with wake := true }) s
  else s

/-- A sink action on Trio IRQ n sets its pending bit; a sleeping Trio wakes where the IRQ is enabled, and one in the checkpoint of a WFI does
not sleep (R321 to R323) (DESIGN CHOICE, log entry 13). -/
def irqRaise (n : Nat) (s : State) : State :=
  let s1 := s.setBit (F.TRIO_IRQPENDj_PEND (n / 32)) (n % 32)
  if irqVec s1 ≠ 0 then wakeUp s1 else s1

/-- The cores start in the boot ROM, which selects an image afresh once both headers have been read (R343, R344). -/
def bootRom (s : State) : State :=
  ({ s with boot := { s.boot with slot := none, next := none, recovery := false, staged := false, started := false, key := none, relAt := s.clk.ns, hdrTmo := Vector.replicate 2 false } } : State).restart
    (if s.get F.LCS_STAT_STATE = 0 then 0 else flashNs 512 s) .secureBoot

/-! ## Trio-only reset (R320, R509, R517) -/

/-- The power domains of the TCM banks that are off and in no transition (R509). -/
def tcmOff (s : State) : List Nat := [4, 5, 6, 7].filter (fun d => !domainOn d s && !s.pwr.trans.contains d)

/-- The time from a Trio-only reset to the release: the wipe of the TCM banks, after the power-up of those that were off, and of the
group (R352, R509). -/
def resetNs (s : State) : Nat :=
  let t := wipeNs 4 + (if (tcmOff s).isEmpty then 0 else 10000)
  if s.trio.group then t else max t 16800

/-- A Trio-only reset; the watchdog's count pauses, and starts afresh after its own expiry (R320, R325, R509, R517) (DESIGN CHOICE, log entry 50). -/
def trioReset (cause offset : Nat) (s0 : State) : State :=
  if !s0.trio.run then s0
  else
    let s := (((s0.logReq 0x0A 0x0003 (b8 cause :: bytesOfNat 4 offset)).cancel .checkpointComplete).cancel .rollbackComplete).cancel .periodicCheckpoint
    let ns := resetNs s
    let s1 := groupUp (handBack (wdtPause (setSpeed 2 s)))
    let s2 := { s1 with
      trio := { s1.trio with
        core := {}, snap := Vector.replicate 2 coreWiped, undo := [], run := false, ckpt := false, sleepAfter := false, wake := false
        wdt := if cause = 3 then 0 else s1.trio.wdt }
      mst := { (eccClear 0x80000000 0x80040000 s1).mst with wiping := s1.mst.wiping ++ [4, 5, 6, 7] } }
    let s3 := ((s2.put F.TRIO_STAT_SLOT 0).put F.TRIO_STAT_LOGUSED 0).put F.TRIO_STAT_RBSEQ 0
    let s4 := (s3.wr (Reg.TRIO_IRQCLRj 0) 0).wr (Reg.TRIO_IRQCLRj 1) 0
    let s5 := s4.each (tcmOff s4) (fun d t => setReq d true t)
    let s6 := s5.each [4, 5, 6, 7] (fun d => wipeBank d)
    let s7 := locksOf 1 (s6.each rails (fun r => updDiscard r))
    s7.restart ns .trioRelease

/-- TRIO_RELEASE: the cores leave reset at PC 0 with the boot ROM; after a Trio-only reset a checkpoint is taken (R307, R314, R320,
R353). The boot ROM then selects an image (R344). -/
def trioRelease (s : State) : State :=
  if s.trio.run then s
  else
    let again := trioSpeed s == 2
    let s1 := s.each (tcmOff s) (fun d => setOn d true)
    let s2 := { s1 with mst := { s1.mst with wiping := s1.mst.wiping.filter (fun d => !([4, 5, 6, 7].contains d)) } }
    let s3 := enterRun (trioUpd (fun t => { t with run := true, core := {}, ckAt := s.clk.ns, snapAt := s.clk.ns }) s2)
    bootRom (if again then ckptStart false s3 else s3)

/-! ## Rollback (R313, R317 to R320) -/

/-- A double trap or a mismatch starts a rollback, or the Trio-only reset that stands for rollback ROLLMAX + 1; a halted Trio is halted again after it
(R317, R320, R324) (DESIGN CHOICE, log entry 11; DESIGN CHOICE, log entry 69). -/
def rollbackStart (cause kind agree : Nat) (s0 : State) : State :=
  if rollMax s0 ≤ s0.get F.TRIO_STAT_RBSEQ then trioReset 1 0 s0
  else
    let s := ((s0.cancel .checkpointComplete).cancel .periodicCheckpoint)
    let n := s.trio.undo.length
    let age := min ((s.clk.ns - s.trio.snapAt) / 1000) 0xFFFFFF
    let data := [b8 cause, b8 kind, b8 agree] ++ bytesOfNat 4 s.trio.core.pc.toNat ++ bytesOfNat 2 n ++ bytesOfNat 3 age ++ [b8 (s.get F.TRIO_STAT_RBSEQ)]
    let s1 := (wdtPause (setSpeed 2 s)).logReq 0x0A 0x0001 data
    let s2 := (s1.inc F.TRIO_CNT_ROLLS).put F.TRIO_LAST_AGREE agree
    (trioUpd (fun t => { t with
      ckpt := false, sleepAfter := false, wake := false, rbAt := s.clk.ns, rbN := n, haltReq := t.haltReq || trioSpeed s == 3 }) s2).after
      (((192 + n) * 4 + 2) / 3) .rollbackComplete

/-- Offset of undo entry `i`, counted from the oldest, in the checkpoint SRAM (R316). -/
def undoAddr (i : Nat) : Nat := 0x80000000 + 8 * i

/-- The replay of the undo log from newest to oldest; it ends at an entry with an uncorrectable error (R317, R320). -/
def undoReplay : List Undo → State → State × Option Nat
  | [], s => (s, none)
  | e :: l, s0 =>
    let s := eccFix (undoAddr l.length) 8 s0
    match [undoAddr l.length, undoAddr l.length + 4].find? (fun a => isBad a s) with
    | some a => (s, some a)
    | none =>
      let a := (if e.sram then 0x20000000 else 0x11000000) + 4 * e.word
      undoReplay l (if e.valid then setTag a e.otag (eccGood a (s.setMemWord a e.old)) else s)

/-- ROLLBACK_COMPLETE: memory and registers stand as at the checkpoint, consumptions are handed back and the cores go on there (R317 to
R319); an uncorrectable error in the checkpoint SRAM abandons it for a Trio-only reset (R320). -/
def rollbackComplete (s : State) : State :=
  if !(s.trio.run && trioSpeed s == 2) then s
  else
    let slot : Fin 2 := Fin.ofNat 2 (s.get F.TRIO_STAT_SLOT)
    let r := undoReplay s.trio.undo s
    let span := snapSpan slot.val
    let bad := match r.2 with
      | some a => some a
      | none => (r.1.mst.bad.find? (fun p => decide (span.1 ≤ p.1) && decide (p.1 < span.2))).map (·.1)
    match bad with
    | some a => trioReset 2 (a - 0x80000000) (eccUe a 4 r.1)
    | none =>
      let n := 192 + s.trio.rbN
      let s1 := handBack (trioUpd (fun t => { t with core := t.snap[slot], undo := [], ckAt := s.clk.ns }) r.1)
      let s2 := ((s1.put F.TRIO_STAT_LOGUSED 0).inc F.TRIO_STAT_RBSEQ).put F.TRIO_LAST_DUR n
      let s3 := enterRun (s2.logReq 0x0A 0x0002 (bytesOfNat 2 n))
      if s3.trio.core.pc.toNat < 0x20000 then bootRom s3 else s3

/-! ## Traps and interrupts (R297 to R305) -/

/-- A double trap: nothing of the cores changes; it is logged and starts a rollback (R304, R305) (DEDUCED, log entry 33). -/
def doubleTrap (why cause2 : Nat) (tval : Word) (s : State) : State :=
  let c := s.trio.core
  rollbackStart 1 4 7 (s.logReq 0x0A 0x0020
    ([b8 why, b8 (c.tcause.toNat % 256), b8 cause2] ++ bytesOfNat 4 c.tepc.toNat ++ bytesOfNat 4 c.pc.toNat ++ bytesOfNat 4 tval.toNat))

/-- TVEC may be entered (R299). -/
def tvecOk (c : Cap) : Bool := c.tag && c.isSealed && c.has pEXEC && c.base % 4 == 0 && decide (4 ≤ c.len)

/-- The TCAUSE word of a cause, with the failing capability where there is one. -/
def causeWord (cause : Nat) (cap : Option Nat) : Word :=
  BitVec.ofNat 32 (cause % 256 + (match cap with | some n => 4096 + 256 * (n % 16) | none => 0))

/-- A trap is taken: cause, value and return address are written, the trap window opens and the cores go on at TVEC; a trap in the trap
window, or a TVEC that fails its check, is a double trap (R298, R299, R304). -/
def takeTrap (cause : Nat) (tval : Word) (cap : Option Nat) (s : State) : State :=
  let c := s.trio.core
  if c.intrap then doubleTrap 0 cause tval s
  else if !tvecOk c.tvec then doubleTrap 1 0xFF 0 s
  else
    coreUpd (fun x => { x with
      tcause := causeWord cause cap, tval := tval, tepc := x.pc, tepcc := x.pcc
      intrap := true, pcc := x.tvec.unsealed, pc := BitVec.ofNat 32 x.tvec.base }) s

/-- An interrupt is taken at this boundary: enabled, outside the trap window, with an IRQ pending and enabled (R302) (DEDUCED, log entry 10). -/
def irqDue (s : State) : Option Nat := if s.trio.core.ie && !s.trio.core.intrap then irqLowest s else none

/-! ## Scrubber (R336, R337) -/

/-- The domain, first address and size of each bank the scrubber walks: ITCM, DTCM and shared SRAM; bank 12 is the log SRAM, 13 the checkpoint SRAM
in its own addresses, 14 the USB buffer (R336). -/
def scrubBank (b : Fin 15) : Nat × Nat × Nat :=
  if b.val < 12 then (4 + b.val, bankSpan (4 + b.val))
  else if b.val = 12 then (17, bankSpan 17) else if b.val = 13 then (16, 0x80000000, 0x40000) else (59, bankSpan 59)

/-! ## Meanings -/

/-- INTERRUPT (R302) (DEDUCED, log entry 10). -/
def execInterrupt (s : State) : Out :=
  .next (if trioActive s then (match irqDue s with | some n => takeTrap (0x10 + n) 0 none s | none => s) else s)

/-- ROLLBACK_COMPLETE (R317). -/
def execRollbackComplete (s : State) : Out := .next (rollbackComplete s)

/-- TRIO_RELEASE (R320). -/
def execTrioRelease (s : State) : Out := .next (trioRelease s)

/-- PERIODIC_CHECKPOINT: INTV has elapsed; an INTV of 0 has no periodic checkpoints (R314, R329). -/
def execPeriodicCheckpoint (s : State) : Out := .next (if trioActive s && intvNs s != 0 then ckptStart false s else s)

/-- HIGH_WATER_CHECKPOINT: fewer than 64 undo entries are free (R314). -/
def execHighWaterCheckpoint (s : State) : Out :=
  .next (highWater s)

/-- CHECKPOINT_COMPLETE (R315). -/
def execCheckpointComplete (s : State) : Out := .next (checkpointComplete s)

/-- WAKE (R323). -/
def execWake (s : State) : Out := .next (wakeUp s)

/-- DEBUG_HALT: a halt request of the authenticated debug port; it wakes a sleeping Trio, and waits for the end of a checkpoint, rollback or reset
(R323, R324, R350). -/
def execDebugHalt (s : State) : Out :=
  .next (if !debugOpen s then s
    else if trioActive s then (wdtPause (setSpeed 3 s)).cancel .periodicCheckpoint
    else if trioSpeed s = 3 then s
    else wakeUp (trioUpd (fun t => { t with haltReq := true }) s))

/-- DEBUG_RESUME of the authenticated debug port (R324, R350). -/
def execDebugResume (s : State) : Out :=
  .next (if !debugOpen s then s else
    let s1 := trioUpd (fun t => { t with haltReq := false }) s
    if trioSpeed s = 3 ∧ s.trio.run then enterRun s1 else s1)

/-- WATCHDOG_EXPIRY: the count has reached TO (R325). -/
def execWatchdogExpiry (s : State) : Out :=
  let count := s.trio.wdt + (s.trio.wdtFrom.elim 0 (fun t => s.clk.ns - t))
  let limit := s.get F.TRIO_WDT_TO * 1000000
  .next (if s.trio.run && trioSpeed s == 0 && limit != 0 && decide (limit ≤ count) then trioReset 3 0 s else s)

/-- TRIO_RESET_ACTION: TRIO_ACT action 0x01 (R320). -/
def execTrioResetAction (ticket : Byte) (arg : BitVec 16) (s : State) : Out := .next (s.act Reg.TRIO_ACT ticket arg 1 (trioReset 4 0))

/-- KICK: TRIO_ACT action 0x02 (R325). -/
def execKick (ticket : Byte) (arg : BitVec 16) (s : State) : Out := .next (s.act Reg.TRIO_ACT ticket arg 2 wdtKick)

/-- IRQ_PEND_CLEAR: the Trio's W1C write of TRIO_IRQPENDj; the bits it clears are recorded; a sink action of the same cycle, which has acted or
which `event` gives, leaves its bit set and unrecorded (R13, R321). -/
def execIrqPendClear (j : Fin 2) (value event : Word) (s : State) : Out :=
  let old := s.rd (Reg.TRIO_IRQPENDj j)
  let stay := event ||| ((s.touched (Reg.TRIO_IRQPENDj j)).elim 0 (fun t => t.clean &&& value))
  let cleared := old &&& value &&& ~~~stay
  let s1 := s.wr (Reg.TRIO_IRQPENDj j) ((old &&& ~~~value) ||| stay)
  .next (s1.wr (Reg.TRIO_IRQCLRj j) (s1.rd (Reg.TRIO_IRQCLRj j) ||| cleared))

/-- SCRUB_READ: the scrubber reads the next word of a bank and finds it good (0), with a corrected error (1) or with an uncorrectable one
(2), which it only logs (R334, R336, R337) (DEDUCED, log entry 20). -/
def execScrubRead (bank : Fin 15) (result : Fin 3) (s : State) : Out :=
  let b := scrubBank bank
  let a := b.2.1 + s.mst.scrub[bank]
  let s1 : State := { s with mst := { s.mst with scrub := updAt s.mst.scrub bank (fun x => (x + 4) % b.2.2) } }
  .next (if s.get F.LCS_CTL_SCRUBDIV = 0 ∨ !domainOn b.1 s ∨ s.mst.wiping.contains b.1 then s
    else if result = 1 ∨ (isSoft a s ∧ result = 0 ∧ !isBad a s) then setSoft a false (eccCe a s1)
    else if result = 2 ∨ isBad a s then setBad a true (eccUe a 3 s1)
    else s1)

end Sys2Proof.Machine
end

