-- ==== Sys2Proof/Machine/Reset.lean ====
section
/-!
DEFINITION. Machine/Reset.lean: device reset and start-up (spec/19_power_reset.md, R515 to R523).
-/
namespace Sys2Proof.Machine

/-- A word of OTP: what has been programmed, else 0 (R346) (DESIGN CHOICE, log entry 8). -/
def otpWord (w : Nat) (s : State) : Word := (mapFind s.boot.otp w).getD 0

/-- SLOTB: that of BOOTCFG, 0x0100 while nothing has programmed BOOTCFG (R342, R346) (DESIGN CHOICE, log entry 8). -/
def slotB (s : State) : Nat := if otpWord 0x40 s = 0 then 0x100 else (otpWord 0x40 s).toNat % 65536

/-- The number of ones of a word. -/
def onesOf (w : Word) : Nat := (List.range 32).foldl (fun n i => if w.getLsbD i then n + 1 else n) 0

/-- An OTP word programmed: bits only change from 0 to 1 (R346) (DESIGN CHOICE, log entry 8). -/
def otpSet (w : Nat) (v : Word) (s : State) : State :=
  { s with boot := { s.boot with otp := mapPut 0 s.boot.otp w (otpWord w s ||| v) } }

/-- A device reset cuts the programming of an OTP word short: any of its bits may have been set, and of a life-cycle word at least five are, so that it
counts as programmed (R349) (DESIGN CHOICE, log entry 74). -/
def otpCut (s : State) : State :=
  match s.boot.prog with
  | [] => s
  | (w, v) :: _ => otpSet w (v &&& (if w < 4 then s.freeWord ||| 0x1F else s.freeWord)) s.draw

/-- The life-cycle state: the LC words programmed before the first blank one; five ones or more count as programmed (R349). -/
def lcState (s : State) : Nat := (([0, 1, 2, 3] : List Nat).takeWhile (fun w => decide (5 ≤ onesOf (otpWord w s)))).length

/-- A device reset with the bit of its cause in SYS_RSTCAUSE: every register and every unit at its reset state, outputs inert, domains
as after start-up, device time held at 0 (R515 to R517). OTP and flash keep their content, and what lies outside the device stays: the
commands waiting, host memory, the pins (DEDUCED, log entry 29). -/
def deviceReset (bit : Nat) (s0 : State) : State :=
  let s := otpCut s0
  let s1 : State := { State.reset with
    pending := s.pending, free := s.free
    out := { writes := s.out.writes, vectors := s.out.vectors, reads := s.out.reads }
    clk := { held := true }
    gath := { ain := s.gath.ain }
    boot := { otp := s.boot.otp, epoch := s.boot.epoch, testEn := s.boot.testEn }
    usb := { vbus := s.usb.vbus }
    mot := s.mot.map (fun (x : Motor) => { fltLow := x.fltLow })
    sync := { ball := s.sync.ball, inLevel := s.sync.ball }
    pwr := { low := s.pwr.low }
    tap := { s.tap with session := false } }
  (s1.wr Reg.SYS_RSTCAUSE (s.rd Reg.SYS_RSTCAUSE ||| BitVec.ofNat 32 (2 ^ bit))).put F.SYS_SUPPLY_PHYLOW (s.get F.SYS_SUPPLY_PHYLOW)

/-- STARTUP, steps 1 to 4: every monitored supply is above its threshold, device time starts after 20 us, OTP gives life cycle, grade and flash mode, TEST_EN is sampled (in BLANK, high
selects production test), the wipe runs and the PLLs lock, at instants from 60 to 110 us that R523 leaves free (R346, R523, R563)
(DEDUCED, log entry 30). -/
def startup (s : State) : State :=
  let s1 := { s with clk := { s.clk with held := false, timeFrom := s.clk.ns + 20000 }, pwr := { s.pwr with low := {}, startAt := some s.clk.ns } }
  let s2 := ((s1.put F.LCS_STAT_STATE (lcState s)).put F.SYS_ID_GRADE ((otpWord 4 s).toNat % 2)).put F.XSPI_CTL_MODE ((otpWord 0x40 s).toNat / 65536 % 2)
  let s3 := { s2.put F.XSPI_CTL_DUMMY ((otpWord 0x40 s).toNat / 131072 % 32) with boot := { s2.boot with production := s.boot.testEn && lcState s == 0 } }
  let at_ := fun (i : Nat) => s.clk.ns + 60000 + (Config.freeWord (s.free + i)).toNat % 50001
  let s4 := { s3 with free := s.free + 3, clk := { s3.clk with lock := [(0, at_ 0), (1, at_ 1), (2, at_ 2)] } }
  s4.restart (60000 + wipeNs 4) .culletWipeComplete

/-- The device-key words not all ones (R351). -/
def keysLeft (s : State) : List (Nat × Word) :=
  ((List.range 64).map (fun i => 0x80 + i)).filter (fun w => otpWord w s ≠ BitVec.allOnes 32) |>.map (fun w => (w, BitVec.allOnes 32))

/-- CULLET_WIPE_COMPLETE: the reset record is the first entry, and the Trio is released unless the life cycle is END or production test is
selected; a transition that was interrupted has its keys zeroized (R350, R351, R353, R518, R523, R563). -/
def culletComplete (s : State) : State :=
  if s.pwr.recorded then s else
  let st := s.get F.LCS_STAT_STATE
  let s1 := { s with mem := [], mst := {}, pwr := { s.pwr with recorded := true } }
  let s2 := s1.logReq 0x14 0x0002 [b8 ((s.rd Reg.SYS_RSTCAUSE).toNat % 16), b8 st, b8 (s.get F.SYS_ID_GRADE)]
  if st = 4 then s2.each (keysLeft s2) (fun x => otpSet x.1 x.2) else if s2.boot.production then s2 else trioRelease s2

/-! ## Meanings -/

/-- The supplies below their thresholds, with further ones. -/
def lowAlso (now more : Supplies) : Supplies :=
  { core := now.core || more.core, ao := now.ao || more.ao, a18 := now.a18 || more.a18, ioA := now.ioA || more.ioA, ioB := now.ioB || more.ioB }

/-- POWER_ON_RESET: the supplies `low` fall below their thresholds for more than 1 us; after a loss of VDD_AO only POR is set (R515, R521).
The reset is held until STARTUP, and a bank without its supply or VDD_AO is high-impedance (R522). -/
def execPowerOnReset (low : Supplies) (s : State) : Out :=
  let s1 := deviceReset 0 { s with pwr := { s.pwr with low := lowAlso s.pwr.low low } }
  .next (if low.ao then s1.wr Reg.SYS_RSTCAUSE 1 else s1)

/-- RESET_PIN: RESET_N low for 1 us (R515). The reset is held until STARTUP. -/
def execResetPin (s : State) : Out := .next (deviceReset 1 s)

/-- DEVRESET: SYS_ACT action 0x01; with the key 0x5A5A a device reset whose cause ends at once, else SYS_FLT.RSTKEY (R515). -/
def execDevreset (ticket : Byte) (arg : BitVec 16) (s : State) : Out :=
  .next (if ticket ≠ 0 ∧ ticket = (s.rd Reg.SYS_ACT).extractLsb' 24 8 then s
    else if arg = 0x5A5A then (deviceReset 2 s).after 0 .startup
    else s.act Reg.SYS_ACT ticket arg 1 (fun t => t.put F.SYS_FLT_RSTKEY 1))

/-- STARTUP: the cause of the reset that is held has ended (R516, R523). -/
def execStartup (s : State) : Out := .next (if s.clk.held then startup s else s)

/-- CULLET_WIPE_COMPLETE (R353). -/
def execCulletWipeComplete (s : State) : Out := .next (culletComplete s)

end Sys2Proof.Machine
end

