-- ==== Sys2Proof/Machine/Boot.lean ====
section
/-!
DEFINITION. Machine/Boot.lean: flash commands, secure boot, image verification, OTP, life cycle and the runtime wipe
(spec/12_memory_lifecycle.md, R339 to R357).
-/
namespace Sys2Proof.Machine

/-- The boot state replaced. -/
def bootUpd (f : BootSt → BootSt) (s : State) : State := { s with boot := f s.boot }

/-- An ACT write to a slot that does not answer ends with a bus error (R333). -/
def State.actAt (s : State) (a : Nat) (ticket : Byte) (arg : BitVec 16) (action : Byte) (perform : State → State) : State :=
  if slotOn a s then s.act a ticket arg action perform else { s with busErr := true }

/-! ## Indirect flash commands (R340, R341) -/

/-- EXEC: the prefetch buffer is invalidated and the command runs; while one runs, or a verification holds the controller, BUSYREF (DEDUCED, log entry 62). -/
def xspiExec (s : State) : State :=
  if s.on F.XSPI_STAT_BUSY || verifying s then bootUpd (fun b => { b with lines := [] }) (s.put F.XSPI_FLT_BUSYREF 1)
  else bootUpd (fun b => { b with lines := [] }) (s.put F.XSPI_STAT_BUSY 1)

/-- A running command completes: a read's data stands in XSPI_BUF, and the flash's content is what the command left (R340). -/
def xspiDone (data : List Byte) (s : State) : State :=
  if !s.on F.XSPI_STAT_BUSY then s
  else
    let s1 := bootUpd (fun b => { b with epoch := b.epoch + 1 }) (s.put F.XSPI_STAT_BUSY 0)
    let n := s.get F.XSPI_CMD_LEN + 1
    if s.on F.XSPI_CMD_DATAEN && !s.on F.XSPI_CMD_DIR then
      s1.each (List.range (min n data.length)) (fun i t =>
        t.wr (Reg.XSPI_BUFi (i / 4)) (wordOfBytes ((bytesOfWord (t.rd (Reg.XSPI_BUFi (i / 4)))).set (i % 4) (data.getD i 0))))
    else s1

/-! ## Slots and their checks (R342, R343) -/

/-- Where slot A and slot B start, and the room each has: A up to slot B, B to the end of the 64 MiB window (R342). -/
def slotOff (n : Nat) (s : State) : Nat := if n = 0 then 0 else slotB s * 65536
def slotRoom (n : Nat) (s : State) : Nat := if n = 0 then slotOff 1 s else 0x4000000 - slotOff 1 s

/-- A little-endian field of a header. -/
def hdrW (h : List Byte) (off : Nat) : Nat := natOfBytes ((h.drop off).take 4)
def hdrSecver (h : List Byte) : Nat := hdrW h 8
def hdrIlen (h : List Byte) : Nat := hdrW h 16
def hdrDlen (h : List Byte) : Nat := hdrW h 20

/-- The number of 48 big-endian bytes at an offset of a header (R342). -/
def hdrBig (h : List Byte) (off : Nat) : Nat := natOfBytes (((h.drop off).take 48).reverse)

/-- PUBKEY is x then y of a point of the curve P-384 (R342) (PRESUMED, log entry 51). -/
def p384Point (h : List Byte) : Bool :=
  let p : Nat := 2 ^ 384 - 2 ^ 128 - 2 ^ 96 + 2 ^ 32 - 1
  let b : Nat := 0xb3312fa7e23ee7e4988e056be3f82d19181d9c6efe8141120314088f5013875ac656398d8a2ed19d2a85c8edd3ec2aef
  let x := hdrBig h 0x20
  let y := hdrBig h 0x50
  decide (x < p) && decide (y < p) && y * y % p == (x * x * x + (p - 3) * x + b) % p

/-- The header passes R342. -/
def hdrOk (h : List Byte) : Bool :=
  p384Point h &&
  hdrW h 0 == 0x5746544B && hdrW h 4 == 1 && decide (hdrSecver h ≤ 63) && hdrW h 12 % 4 == 0 && decide (hdrW h 12 < hdrIlen h) &&
  hdrIlen h % 16 == 0 && decide (16 ≤ hdrIlen h) && decide (hdrIlen h ≤ 0x80000) && hdrDlen h % 16 == 0 && decide (hdrDlen h ≤ 0x80000) &&
  ((h.drop 0x18).take 8).all (· == 0) && ((h.drop 0xE0).take 32).all (· == 0)

/-- The words of key-hash slot `k`, and whether it is programmed and not revoked (R343, R346, R348). -/
def keyHash (k : Nat) (s : State) : List Byte := ((List.range 12).map (fun i => bytesOfWord (otpWord (0x10 + 12 * k + i) s))).flatten
def keyLive (k : Nat) (s : State) : Bool := !((keyHash k s).all (· == 0)) && !(otpWord 0x3C s).getLsbD k

/-- The key that the public key of a header matches: a key-hash slot, or in RETURN the return key of the boot ROM; none otherwise
(R343, R350). -/
def keyMatch (h : List Byte) (s : State) : Option Nat :=
  let d := Config.sha384 ((h.drop 0x20).take 96)
  if s.get F.LCS_STAT_STATE = 3 then (if d = Config.returnKeyHash then some 3 else none)
  else (List.range 3).find? (fun k => keyLive k s && d == keyHash k s)

/-- The minimum SECVER: consecutive ones of ARB from bit 0 (R348). -/
def arbMin (s : State) : Nat :=
  ((List.range 64).takeWhile (fun i => (otpWord (0x3E + i / 32) s).getLsbD (i % 32))).length

/-- The reason checks 1 to 3 of R343 give a header with the room its slot has; 0 where they pass. -/
def hdrReason (h : List Byte) (room : Nat) (s : State) : Nat :=
  if !hdrOk h then 1
  else if room < 0x100 + hdrIlen h + hdrDlen h then 4
  else if (keyMatch h s).isNone then 2
  else if hdrSecver h < arbMin s then 3 else 0

/-- Check 4 of R343: 5 where the signature is not valid. -/
def sigReason (h image : List Byte) : Nat :=
  if Config.ecdsaValid ((h.drop 0x20).take 96) ((h.drop 0x80).take 96) (Config.sha384 (h.take 0x80 ++ image)) then 0 else 5

/-- The header and image of a flash slot. -/
def slotHdr (n : Nat) (s : State) : List Byte := flashBytes s (slotOff n s) 256
def slotImage (n : Nat) (s : State) : List Byte := flashBytes s (slotOff n s + 256) (hdrIlen (slotHdr n s) + hdrDlen (slotHdr n s))

/-- All checks of R343 on a flash slot. -/
def slotReason (n : Nat) (s : State) : Nat :=
  match hdrReason (slotHdr n s) (slotRoom n s) s with
  | 0 => sigReason (slotHdr n s) (slotImage n s)
  | r => r

/-! ## Secure boot (R344, R350) -/

/-- Bytes loaded from a granule boundary upward: the tags of the granules they touch clear, and words written whole are good (R285, R334). -/
def loadBlock (a : Nat) (l : List Byte) (s : State) : State :=
  let t := eccClear a (a + l.length / 4 * 4) (s.setBytes a l)
  { t with mst := { t.mst with tags := mapEraseRange t.mst.tags a (a + l.length) } }

/-- An image lies in ITCM and DTCM (R331, R344). -/
def loadImage (h image : List Byte) (s : State) : State :=
  loadBlock 0x11000000 (image.drop (hdrIlen h)) (loadBlock 0x10000000 (image.take (hdrIlen h)) s)

/-- The image starts: LCS_BOOT, log code 0x0002, and AJUMP to its entry under a root without the boot ROM, which traps on an entry
that is no multiple of 4, as only an unchecked image can have (R292, R344, R350). `which` is 0 A, 1 B, 2 USB recovery. -/
def startImage (which : Nat) (h : List Byte) (s : State) : State :=
  let key := if s.get F.LCS_STAT_STATE = 0 then none else keyMatch h s
  let kslot := match key with | some k => k | none => 0
  let s1 := (((s.put F.LCS_BOOT_SLOT which).put F.LCS_BOOT_SECVER (hdrSecver h)).put F.LCS_BOOT_KSLOT kslot).put F.LCS_BOOT_RECOV s.boot.first
  let s2 := s1.logReq 0x17 0x0002 ([b8 which, b8 (hdrSecver h), b8 (match key with | some k => k | none => 0xFF)] ++ bytesOfNat 4 ((s.clk.ns - s.boot.relAt) / 1000))
  let s3 := bootUpd (fun b => { b with slot := none, next := none, recovery := false, staged := false, started := true, key := key }) s2
  let entry := BitVec.ofNat 32 (0x10000000 + hdrW h 12)
  if entry.toNat % 4 ≠ 0 then takeTrap 0x09 entry none s3
  else coreUpd (fun c => { c with pcc := (capRoot.setBase 0x20000).setLen (2 ^ 32 - 0x20000), pc := entry }) s3

/-- No slot passes: log code 0x0003, and the boot ROM waits for a recovery image (R344). -/
def noImage (s : State) : State :=
  bootUpd (fun b => { b with slot := none, next := none, recovery := true })
    (s.logReq 0x17 0x0003 [b8 s.boot.reason[0], b8 s.boot.reason[1]])

/-- A slot is loaded, `after` nanoseconds from now, while it is hashed; its signature check ends 1 200 us after the last byte, the most R343 allows
(R343, R344) (DESIGN CHOICE, log entry 55). -/
def loadSlot (after : Nat) (n : Fin 2) (next : Option (Fin 2)) (s : State) : State :=
  let h := slotHdr n s
  let s1 := bootUpd (fun b => { b with slot := some n, next := next }) (loadImage h (slotImage n s) s)
  s1.restart (after + flashNs (hdrIlen h + hdrDlen h) s + 1200000) .signatureCheckComplete

/-- SECURE_BOOT: both headers have been read and are checked, a header whose read met a flash timeout fails with reason 6; the slot that passes with the higher SECVER, A on equal, is loaded (R344). In BLANK
the boot ROM waits for an image over USB; in RETURN keys left by an interrupted transition are zeroized first (R343, R350, R351). -/
def secureBoot (s : State) : State :=
  if !s.trio.run || s.boot.started || s.boot.slot.isSome then s
  else if s.get F.LCS_STAT_STATE = 0 then bootUpd (fun b => { b with recovery := true }) s
  else if s.get F.LCS_STAT_STATE = 3 ∧ !(keysLeft s).isEmpty then (s.each (keysLeft s) (fun x => otpSet x.1 x.2)).restart 1280000 .secureBoot
  else
    let ra := if s.boot.hdrTmo[0] then 6 else hdrReason (slotHdr 0 s) (slotRoom 0 s) s
    let rb := if s.boot.hdrTmo[1] then 6 else hdrReason (slotHdr 1 s) (slotRoom 1 s) s
    let s1 := bootUpd (fun b => { b with hdrTmo := Vector.replicate 2 false, reason := (b.reason.set 0 ra).set 1 rb, first := if ra = 0 then rb else ra, recovery := false }) s
    if ra = 0 ∧ rb = 0 then
      if hdrSecver (slotHdr 0 s) < hdrSecver (slotHdr 1 s) then loadSlot 0 1 (some 0) s1 else loadSlot 0 0 (some 1) s1
    else if ra = 0 then loadSlot 0 0 none s1
    else if rb = 0 then loadSlot 0 1 none s1
    else noImage s1

/-- The loaded slot fails: ITCM and DTCM are wiped, and the other slot is loaded where it passed (R344). -/
def rejectSlot (reason : Nat) (s : State) : State :=
  match s.boot.slot with
  | none => s
  | some n =>
    let s1 := (([4, 5, 6, 7] : List Nat).foldl (fun t d => wipeBank d t) s).logReq 0x17 0x0001 [b8 n.val, b8 reason, b8 (hdrSecver (slotHdr n.val s))]
    let s2 := bootUpd (fun b => { b with slot := none, reason := b.reason.set n reason, first := if b.first = 0 then reason else b.first }) s1
    match s.boot.next with
    | some m => loadSlot (wipeNs 4) m none s2
    | none => noImage s2

/-- SIGNATURE_CHECK_COMPLETE (R343, R344). -/
def sigCheck (s : State) : State :=
  match s.boot.slot with
  | none => s
  | some n =>
    match sigReason (slotHdr n.val s) (slotImage n.val s) with
    | 0 => startImage n.val (slotHdr n.val s) s
    | r => rejectSlot r s

/-! ## Recovery image (R342, R458) -/

/-- The staging area for a recovery image. -/
def stagedHdr (s : State) : List Byte := s.bytes 0x20000000 256
def stagedImage (s : State) : List Byte := s.bytes 0x20000100 (hdrIlen (stagedHdr s) + hdrDlen (stagedHdr s))

/-- The first word of the staging area's first `n` bytes whose read traps: beyond shared SRAM, in a bank that does not serve, or uncorrectable
(R330, R334, R338). -/
def stagedTrap (n : Nat) (s : State) : Option (Nat × Nat) :=
  let off := (((List.range 8).map (fun i => 0x20000000 + i * 0x40000)).filter (fun a => !bankServes a s) ++ [0x20200000]).find? (fun a => a < 0x20000000 + n)
  let bad := (s.mst.bad.find? (fun p => p.2 && decide (0x20000000 ≤ p.1) && decide (p.1 < 0x20000000 + n))).map (·.1)
  match off, bad with
  | some a, some b => if b < a then some (0x0B, b) else some (0x0A, a)
  | some a, none => some (0x0A, a)
  | none, some b => some (0x0B, b)
  | none, none => none

/-- The staged header's length with its image. -/
def stagedLen (s : State) : Nat := 0x100 + hdrIlen (stagedHdr s) + hdrDlen (stagedHdr s)

/-- The boot ROM reads the staged header and, where it wants it, the image; it traps as any load does (R334, R338) (DEDUCED, log entry 70). -/
def stagedRead (image : State → Bool) (go : State → State) (s0 : State) : State :=
  let trap := fun (c a : Nat) (t : State) => takeTrap c (BitVec.ofNat 32 a) none (t.when (c == 0x0B) (eccUe a 0))
  let s := eccFix 0x20000000 0x100 s0
  match stagedTrap 0x100 s with
  | some (c, a) => trap c a s
  | none =>
    if !image s then go s
    else
      let t := eccFix 0x20000000 (stagedLen s) s
      match stagedTrap (stagedLen t) t with
      | some (c, a) => trap c a t
      | none => go t

/-- The reason of the staged slot; in BLANK no check applies (R458). -/
def stagedReason (s : State) : Nat :=
  if s.get F.LCS_STAT_STATE = 0 then 0
  else match hdrReason (stagedHdr s) 0x100100 s with
    | 0 => sigReason (stagedHdr s) (stagedImage s)
    | r => r

/-- RECOVERY_LOAD: the accepted staged slot is loaded and started with LCS_BOOT.SLOT = 2; an unchecked image that is longer than its memory traps
where the store leaves it (R330, R350, R458). -/
def recoveryLoad (s : State) : State :=
  if s.boot.recovery && s.boot.staged then
    stagedRead (fun _ => true) (fun t =>
      let h := stagedHdr t
      if 0x80000 < hdrIlen h then takeTrap 0x0A 0x10080000 none t
      else if 0x80000 < hdrDlen h then takeTrap 0x0A 0x11080000 none t
      else startImage 2 h (loadImage h (stagedImage t) t)) s
  else s

/-! ## Image verification (R345, R388) -/

/-- The time of a verification. -/
def verifyNs (n : Nat) (s : State) : Nat :=
  let h := slotHdr n s
  if hdrReason h (slotRoom n s) s = 0 then flashNs (256 + hdrIlen h + hdrDlen h) s + 1200000 else flashNs 256 s

/-- A verification of a slot begins. -/
def verifyBegin (n : Fin 2) (s : State) : State := (bootUpd (fun b => { b with vslot := n }) s).restart (verifyNs n.val s) .verifyComplete

/-- A verification ends with its 16-byte result; the return key is no key-hash slot (R345, R350). -/
def verifyEnd (reason : Nat) (s : State) : State :=
  let h := slotHdr s.boot.vslot.val s
  let key := match keyMatch h s with | some k => if k < 3 then k else 0xFF | none => 0xFF
  let s1 := lopRecord 2 16 [b8 s.boot.vslot.val, b8 reason, b8 (hdrSecver h), b8 key] (lopAdvance 2 1 s)
  lopEnd 2 lopDONE (s1.cancel .verifyComplete)

/-! ## OTP and life cycle (R346 to R351) -/

/-- PROGRAM may write a word in a life-cycle state; a device key is generated in BLANK by programming its words (R346, R350) (DEDUCED, log entry 70). -/
def programmable (w st : Nat) : Bool :=
  if w = 4 ∨ (0x100 ≤ w ∧ w ≤ 0x1A7) ∨ (0x200 ≤ w ∧ w ≤ 0x3FF) then st == 0
  else if 0x80 ≤ w ∧ w ≤ 0xBF then st == 0
  else if (0x10 ≤ w ∧ w ≤ 0x3B) ∨ w = 0x40 then st ≤ 1
  else if 0x400 ≤ w ∧ w ≤ 0xFFF then st == 1 || st == 2
  else false

/-- A refused OTP action: OTPREF and log code 0x0003 (R347). -/
def otpRefuse (action word : Nat) (s : State) : State := (s.put F.LCS_FLT_OTPREF 1).logReq 0x0B 0x0003 ([b8 action] ++ bytesOfNat 2 word ++ [1])

/-- An OTP operation begins: its words are programmed one by one in 20 us each (R347, R351). -/
def otpBegin (action : Nat) (l : List (Nat × Word)) (s : State) : State :=
  (bootUpd (fun b => { b with prog := l, action := action }) (s.put F.LCS_STAT_OTPBUSY 1)).restart 20000 (.otpProgramComplete none)

/-- PROGRAM (R347). -/
def otpProgram (arg : BitVec 16) (s : State) : State :=
  let w := arg.toNat % 4096
  if !programmable w (s.get F.LCS_STAT_STATE) || otpWord w s != 0 || s.on F.LCS_STAT_OTPBUSY then otpRefuse 1 w s
  else otpBegin 1 [(w, s.rd Reg.LCS_OTPWD)] s

/-- ARVER: the thermometer is set up to ARG[5:0] (R348). -/
def otpArver (arg : BitVec 16) (s : State) : State :=
  let v := arg.toNat % 64
  let st := s.get F.LCS_STAT_STATE
  let running := if s.boot.started then s.get F.LCS_BOOT_SECVER else 0
  if s.on F.LCS_STAT_OTPBUSY || !(st == 1 || st == 2) || v < arbMin s || running < v then otpRefuse 3 0x3E s
  else otpBegin 3 [(0x3E, BitVec.ofNat 32 ((2 ^ v - 1) % 2 ^ 32)), (0x3F, BitVec.ofNat 32 ((2 ^ v - 1) / 2 ^ 32))] s

/-- REVOKE: refused for the key-hash slot that verified the running image (R348) (DESIGN CHOICE, log entry 65). -/
def otpRevoke (arg : BitVec 16) (s : State) : State :=
  let k := arg.toNat % 4
  let st := s.get F.LCS_STAT_STATE
  if s.on F.LCS_STAT_OTPBUSY || !(st == 1 || st == 2) || k == 3 || (s.boot.started && s.boot.key == some k) then otpRefuse 4 0x3C s
  else otpBegin 4 [(0x3C, BitVec.ofNat 32 (2 ^ k))] s

/-- The move from one life-cycle state to another is allowed (R351). -/
def moveOk (st target : Nat) (s : State) : Bool :=
  if target = 4 then st != 4
  else if st = 0 ∧ target = 1 then true
  else if st = 1 ∧ target = 2 then (List.range 3).any (fun k => keyLive k s)
  else if st = 2 ∧ target = 3 then s.on F.LCS_STAT_RETAUTH
  else false

/-- TRANSITION: refused with LCREF, or the LC words and, for RETURN and END, the device keys are programmed (R351) (DESIGN CHOICE, log entry 65). -/
def otpTransition (arg : BitVec 16) (s : State) : State :=
  let target := arg.toNat % 8
  let st := s.get F.LCS_STAT_STATE
  if s.on F.LCS_STAT_OTPBUSY then otpRefuse 2 st s
  else if !moveOk st target s then (otpRefuse 2 st s).put F.LCS_FLT_LCREF 1
  else
    let lc := if target = 4 then (List.range 4).filter (fun w => st ≤ w) else [st]
    let keys := if 3 ≤ target then (List.range 64).map (fun i => (0x80 + i, BitVec.allOnes 32)) else []
    otpBegin 2 (lc.map (fun w => (w, BitVec.allOnes 32)) ++ keys)
      (bootUpd (fun b => { b with target := some target }) (s.logReq 0x0B 0x0004 [b8 st, b8 target]))

/-- OTP_PROGRAM_COMPLETE: the word is read back as programmed, or as `got`, which is a mismatch (R347); a transition ends with a device
reset (R351). -/
def otpComplete (got : Option Word) (s : State) : State :=
  match s.boot.prog with
  | [] => s
  | (w, v) :: l =>
    let s0 := s.cancel (.otpProgramComplete none)
    let s1 := match got with
      | none => otpSet w v s0
      | some x => otpSet w x s0
    let s2 := bootUpd (fun b => { b with prog := l }) s1
    let s3 := if otpWord w s2 &&& v = v ∧ (got = none ∨ s.boot.action = 2 ∨ got = some v) then s2
      else (s2.put F.LCS_FLT_OTPFAIL 1).logReq 0x0B 0x0003 ([b8 s.boot.action] ++ bytesOfNat 2 w ++ [2])
    if l = [] then
      let s4 := s3.put F.LCS_STAT_OTPBUSY 0
      if s.boot.action = 2 then (deviceReset 3 s4).after 0 .startup else s4
    else s3.after 20000 (.otpProgramComplete none)

/-! ## Runtime wipe (R354, R355, R388) -/

/-- The power domain and the words of region 0 to 8. -/
def regionPd (i : Nat) : Nat := if i = 8 then 59 else 8 + i
def regionWords (i : Nat) : Nat := (bankSpan (regionPd i)).2 / 4

/-- The regions of a mask. -/
def wipeRegions (mask : Nat) : List Nat := (List.range 9).filter (fun i => mask.testBit i)

/-- The words a mask selects. -/
def wipePlanned (mask : Nat) : Nat := ((wipeRegions mask).map regionWords).sum

/-- The runtime wipe is over: its final state and log code 0x0005 (R355, R356). -/
def wipeFinish (state : Nat) (s : State) : State :=
  let pds := (wipeRegions s.mst.wipeSel).map regionPd
  let s1 := (lopEnd 1 state s).logReq 0x0B 0x0005 (bytesOfNat 2 s.mst.wipeSel ++ [b8 state])
  { (s1.put F.LCS_STAT_WBUSY 0) with mst := { s1.mst with wipeLeft := [], wipeOn := [], wiping := s1.mst.wiping.filter (fun d => !(pds.contains d)) } }

/-- A runtime wipe begins: undo entries of the regions are void, the regions are closed to every agent; regions whose domain is off are
skipped (R354). -/
def wipeBegin (mask : Nat) (s : State) : State :=
  let l := wipeRegions mask
  let pds := (l.map regionPd).filter (fun d => domainOn d s)
  let s1 := (s.put F.LCS_STAT_WBUSY 1).each pds (fun d => undoVoid d)
  let s2 := { s1 with mst := { s1.mst with wipeLeft := l, wipeSel := mask, wipeAt := s.clk.ns, wipeFail := false, wipeOn := l.filter (fun i => domainOn (regionPd i) s), wiping := s1.mst.wiping ++ pds } }
  let s3 := s2.each l (fun i t => t.after (if domainOn (regionPd i) s then wipeNs (regionPd i) else 0) (.wipeRegionComplete (Fin.ofNat 9 i) false))
  if l = [] then wipeFinish lopDONE s3 else s3

/-- What a region abandoned after some time holds: zeros as far as the engine has come (R352, R388). -/
def wipePartial (i : Nat) (s : State) : State :=
  let b := bankSpan (regionPd i)
  let n := min b.2 (((s.clk.ns - s.mst.wipeAt) / 10 - 64) * 16)
  let t := eccClear b.1 (b.1 + n) s
  { t with mem := mapEraseRange s.mem b.1 (b.1 + n), mst := { t.mst with tags := mapEraseRange s.mst.tags b.1 (b.1 + n) } }

/-- WIPE_REGION_COMPLETE: the region is zero, its record follows, and the operation ends with its last region or at an abort (R355,
R388); a wipe of the USB buffer frees every gob (R455) (DESIGN CHOICE, log entry 65). -/
def wipeRegion (i : Nat) (ue : Bool) (s : State) : State :=
  if !s.mst.wipeLeft.contains i then s
  else
    let pd := regionPd i
    let skipped := !s.mst.wiping.contains pd
    let s1 := if skipped then s else (wipeBank pd s).when (i == 8) (usbLose 2 (usbPackets s))
    let s2 := if ue then { eccUe (bankSpan pd).1 3 s1 with mst := { (eccUe (bankSpan pd).1 3 s1).mst with wipeFail := true } } else s1
    let s3 := { s2 with mst := { s2.mst with wipeLeft := s2.mst.wipeLeft.erase i, wiping := s2.mst.wiping.filter (· != pd) } }
    let s4 := lopRecord 1 8 ([b8 i, (if skipped then 1 else 0), 0, 0] ++ bytesOfNat 4 (if skipped then 0 else regionWords i))
      (lopAdvance 1 (regionWords i) s3)
    if s4.mst.wipeLeft = [] ∧ !s4.lop[(1 : Fin 5)].abort then wipeFinish (if s4.mst.wipeFail then lopFAILED else lopDONE) s4
    else if s4.lop[(1 : Fin 5)].abort then wipeFinish lopABORTED (s4.each s4.mst.wipeLeft wipePartial)
    else s4

/-! ## ACT registers by action code -/

/-- LCS_ACT actions; firmware's WIPE while one runs sets BUSY (R354). -/
def wipeStart (arg : BitVec 16) (s : State) : State :=
  if s.lop[(1 : Fin 5)].running then s.put F.LCS_FLT_BUSY 1
  else wipeBegin (arg.toNat % 512) (lopStart 1 none (wipePlanned (arg.toNat % 512)) s)

/-- CRYPTO_ACT VERIFY (R345). -/
def verifyStart (arg : BitVec 16) (s : State) : State :=
  if s.lop[(2 : Fin 5)].running then s.put F.CRYPTO_FLT_BUSY 1
  else verifyBegin (Fin.ofNat 2 arg.toNat) (lopStart 2 none 1 s)

def lcsAct (arg : BitVec 16) (action : Byte) (s : State) : State :=
  if action = 1 then otpProgram arg s else if action = 2 then otpTransition arg s else if action = 3 then otpArver arg s
  else if action = 4 then otpRevoke arg s else if action = 5 then wipeStart arg s else s

/-! ## Meanings -/

/-- EXEC: XSPI_ACT action 0x01 (R340). -/
def execExec (ticket : Byte) (arg : BitVec 16) (s : State) : Out := .next (s.actAt Reg.XSPI_ACT ticket arg 1 xspiExec)

/-- XSPI_COMMAND_COMPLETE (R340) (DEDUCED, log entry 62). -/
def execXspiCommandComplete (data : List Byte) (s : State) : Out := .next (xspiDone data s)

/-- The boot ROM reads a slot's header: it has been released, no slot is loaded and no image runs (R344). -/
def hdrReading (s : State) : Bool :=
  s.trio.run && !s.boot.started && s.boot.slot.isNone && !s.boot.recovery && ([1, 2, 3].contains (s.get F.LCS_STAT_STATE))

/-- FLASH_TIMEOUT: the access ends with XSPI_FLT.TMO and log code 0x0001: 0 a window read of the Trio, which traps with 0x0A; 1 the
indirect command; 2 a read of the boot ROM, of a header or an image, or of a verification, which fails its slot with reason 6; 3 a window read of the
debug port, which ends with an error response (R334, R343, R357) (DEDUCED, log entry 40). -/
def execFlashTimeout (off : Word) (who : Fin 4) (s : State) : Out :=
  let s1 := (s.put F.XSPI_FLT_TMO 1).logReq 0x16 0x0001 (bytesOfNat 4 off.toNat)
  .next (match who with
    | 0 => if trioActive s1 then takeTrap 0x0A (0x30000000 + off) none s1 else s1
    | 1 => s1.put F.XSPI_STAT_BUSY 0
    | 2 =>
      if s1.boot.slot.isSome then rejectSlot 6 s1
      else if s1.lop[(2 : Fin 5)].running then verifyEnd 6 s1
      else if hdrReading s1 then
        bootUpd (fun b => { b with hdrTmo := updAt b.hdrTmo (if slotOff 1 s1 ≤ off.toNat ∧ 0 < slotOff 1 s1 then 1 else 0) (fun _ => true) }) s1
      else s1
    | _ => { s1 with busErr := true })

/-- SECURE_BOOT (R344). -/
def execSecureBoot (s : State) : Out := .next (secureBoot s)

/-- SIGNATURE_CHECK_COMPLETE (R343, R344). -/
def execSignatureCheckComplete (s : State) : Out := .next (sigCheck s)

/-- VERIFY: CRYPTO_ACT action 0x01, or long operation 0x03 with the slot in P4[0] (R345, R385). -/
def execVerify (via : Via) (s : State) : Out :=
  .next (match via with
    | .action ticket arg => s.actAt Reg.CRYPTO_ACT ticket arg 1 (verifyStart arg)
    | .host slot => lopHostStart 2 slot 1 16 (descP slot 4 s < 2) 1 (verifyBegin (Fin.ofNat 2 (descP slot 4 s))) s)

/-- VERIFY_COMPLETE (R345). -/
def execVerifyComplete (s : State) : Out :=
  .next (if s.lop[(2 : Fin 5)].running then verifyEnd (slotReason s.boot.vslot.val s) s else s)

/-- PROGRAM: LCS_ACT action 0x01 (R347). -/
def execProgram (ticket : Byte) (arg : BitVec 16) (s : State) : Out := .next (s.act Reg.LCS_ACT ticket arg 1 (otpProgram arg))

/-- OTP_PROGRAM_COMPLETE (R347, R351). -/
def execOtpProgramComplete (got : Option Word) (s : State) : Out := .next (otpComplete got s)

/-- TRANSITION: LCS_ACT action 0x02 (R351). -/
def execTransition (ticket : Byte) (arg : BitVec 16) (s : State) : Out := .next (s.act Reg.LCS_ACT ticket arg 2 (otpTransition arg))

/-- ARVER: LCS_ACT action 0x03 (R348). -/
def execArver (ticket : Byte) (arg : BitVec 16) (s : State) : Out := .next (s.act Reg.LCS_ACT ticket arg 3 (otpArver arg))

/-- REVOKE: LCS_ACT action 0x04 (R348). -/
def execRevoke (ticket : Byte) (arg : BitVec 16) (s : State) : Out := .next (s.act Reg.LCS_ACT ticket arg 4 (otpRevoke arg))

/-- WIPE: LCS_ACT action 0x05, or long operation 0x02 with the mask in P4[8:0] (R354, R385). -/
def execWipe (via : Via) (s : State) : Out :=
  .next (match via with
    | .action ticket arg => s.act Reg.LCS_ACT ticket arg 5 (wipeStart arg)
    | .host slot => lopHostStart 1 slot 9 8 (descP slot 4 s < 512) (wipePlanned (descP slot 4 s)) (wipeBegin (descP slot 4 s)) s)

/-- WIPE_REGION_COMPLETE (R355). -/
def execWipeRegionComplete (region : Fin 9) (ue : Bool) (s : State) : Out := .next (wipeRegion region.val ue s)

end Sys2Proof.Machine
end

