-- ==== Sys2Proof/Machine/Tw.lean ====
section
/-!
DEFINITION. Machine/Tw.lean: the two-wire ports: transactions, the PMBus personality, the response table, the write queue, the pointer
personality, the controller role, attention (spec/15_two_wire_avs.md, R409 to R431).
-/
namespace Sys2Proof.Machine

/-! ## Bytes on the bus (R411, R412) -/

/-- One byte through the CRC-8 with polynomial x^8 + x^2 + x + 1. -/
def crc8Byte (c b : Byte) : Byte :=
  (List.range 8).foldl (fun x _ => if x.getLsbD 7 then (x <<< 1) ^^^ 0x07 else x <<< 1) (c ^^^ b)

/-- The packet error code of a list of bytes. -/
def pec (l : List Byte) : Byte := l.foldl crc8Byte 0

/-- The address byte of a port for writing and for reading. -/
def addrW (n : Fin 2) (s : State) : Byte := b8 (2 * s.tw[n].addr)
def addrR (n : Fin 2) (s : State) : Byte := b8 (2 * s.tw[n].addr + 1)

/-- Personalities (R409). -/
def pSMBUS : Nat := 1
def pPMBUS : Nat := 2
def pPOINTER : Nat := 3
def pCONTROLLER : Nat := 4

/-- The sender of a port (R393), its PAGE and its selected mailbox. -/
def twAgent (n : Fin 2) : Agent := if n = 0 then .tw0 else .tw1
def twPage (n : Fin 2) (s : State) : Nat := s.get (F.TWn_PAGE_PAGE n)
def twMbx (n : Fin 2) (s : State) : Nat := s.get (F.TWn_PAGE_MBXSEL n)

/-- A log entry of the block; codes 0x0002 and 0x0003 at most once a millisecond per port (R437). -/
def twLog (n : Fin 2) (code : Nat) (data : List Byte) (s : State) : State :=
  if code = 2 ∨ code = 3 then s.logLimited (0x0E0000 + code * 16 + n) 0x0E code (b8 n :: data) else s.logReq 0x0E code (b8 n :: data)

/-- The device refuses a byte: a bit of TWn_CML sets (R413). -/
def twNack (n : Fin 2) (bit : Nat) (s : State) : State := twUpd n (fun p => { p with nack := true }) (s.setBit (F.TWn_CML_CML n) bit)
def badCommand (n : Fin 2) (s : State) : State := twNack n 7 s
def badData (n : Fin 2) (s : State) : State := twNack n 6 s

/-- The address is not acknowledged: the port is off, unpowered, in another role or not listening yet after a self-reset. -/
def twSilent (n : Fin 2) (s : State) : State := twUpd n (fun p => { p with nack := true, resp := [], busAt := some s.clk.ns }) s

/-- A transaction with a command code begins. -/
def twBegin (n : Fin 2) (cmd : Nat) (s : State) : State := twUpd n (fun p => { p with nack := false, cmd := cmd, resp := [], busAt := some s.clk.ns, deaf := false }) s

/-- A read is answered after the bytes `sent`: its own, then the PEC over the whole transaction (R412, R419). -/
def twReply (n : Fin 2) (sent d : List Byte) (s : State) : State := twUpd n (fun p => { p with resp := d ++ [pec (sent ++ addrR n s :: d)] }) s

/-- A read after a command code is answered. -/
def twAnswer (n : Fin 2) (d : List Byte) (s : State) : State := twReply n [addrW n s, b8 s.tw[n].cmd] d s

/-- The controller has ended a read after `k` bytes (R412). -/
def twCut (n : Fin 2) (k : Nat) (s : State) : State := twUpd n (fun p => { p with resp := p.resp.take k }) s

/-- The PEC of a write fails (R413). -/
def pecFail (n : Fin 2) (s : State) : State :=
  twLog n 2 [b8 s.tw[n].cmd, b8 (twPage n s)] ((twNack n 5 s).inc (F.TWn_CNT_PECERR n))

/-- A write that needs `need` bytes after the command code ends: it takes effect only with the right count, valid data and, where it
carries one or must, the right PEC (R411 to R413). -/
def twWrite (n : Fin 2) (need : Nat) (valid : Bool) (data : List Byte) (effect : State → State) (s : State) : State :=
  if data.length < need || !valid || need + 1 < data.length then badData n s
  else if data.length = need then (if s.on (F.TWn_CTL_PECREQ n) then badData n s else effect s)
  else if data.getD need 0 = pec ([addrW n s, b8 s.tw[n].cmd] ++ data.take need) then effect s
  else pecFail n s

/-! ## Response table (R416) -/

/-- Entry `i` answers a command. -/
def tableHit (n : Fin 2) (cmd : Nat) (s : State) (i : Nat) : Bool :=
  s.on (F.TWn_RSPCi_VALID n i) && s.get (F.TWn_RSPCi_CMD n i) == cmd && (s.on (F.TWn_RSPCi_ANYPAGE n i) || s.get (F.TWn_RSPCi_PAGE n i) == twPage n s)

/-- DATA of entry `i` in force: a written RSPD takes effect with the write of RSPC. -/
def rspData (n : Fin 2) (i : Nat) (s : State) : Word := (mapFind s.tw[n].rsp i).getD (s.rd (Reg.TWn_RSPDi n i))

/-- A write of TWn_RSPD[i]: reads use the old DATA until RSPC is written. -/
def rspdWrite (n : Fin 2) (i : Nat) (v : Word) (s : State) : State :=
  (twUpd n (fun p => { p with rsp := mapInsert (mapErase p.rsp i) i (rspData n i s) }) s).wr (Reg.TWn_RSPDi n i) v

/-- A write of TWn_RSPC[i]: the entry is the new one. -/
def rspcWrite (n : Fin 2) (i : Nat) (v : Word) (s : State) : State :=
  (twUpd n (fun p => { p with rsp := mapErase p.rsp i }) s).wr (Reg.TWn_RSPCi n i) v

/-- A read, after the bytes `sent`, answered from the table; one without a match is an invalid command. -/
def tableReply (n : Fin 2) (cmd : Nat) (sent : List Byte) (s : State) : State :=
  match (List.range 32).find? (tableHit n cmd s) with
  | none => badCommand n s
  | some i =>
    let len := clampNat (s.get (F.TWn_RSPCi_LEN n i)) 1 4
    let d := (bytesOfWord (rspData n i s)).take len
    twReply n sent (if s.on (F.TWn_RSPCi_BLOCK n i) then b8 len :: d else d) s

/-- A read of a command code answered from the table. -/
def tableRead (n : Fin 2) (cmd : Nat) (s : State) : State := tableReply n cmd [addrW n s, b8 s.tw[n].cmd] s

/-! ## Write queue (R421, R422) -/

/-- The queue has no room: a popped entry keeps its place until its pop is committed, since a rollback returns it (R319, R421) (DEDUCED, log entry 52). -/
def queueFull (n : Fin 2) (s : State) : Bool := decide (16 ≤ s.tw[n].q.length + s.tw[n].popped.length)

/-- A write that would append to a full queue is refused (R422). -/
def queueRefuse (n : Fin 2) (s : State) : State := twLog n 3 [b8 s.tw[n].cmd] ((twNack n 1 s).inc (F.TWn_CNT_QFULL n))

/-- An entry is appended, and the port's source fires (R421). -/
def queueAppend (n : Fin 2) (kind cmd data : Nat) (s : State) : State :=
  let page := twPage n s
  let w : Word := BitVec.ofNat 32 (2 ^ 31 + kind * 2 ^ 29 + (if page = 0xFF then 2 ^ 28 else page % 4 * 2 ^ 24) + cmd * 65536 + data % 65536)
  (twUpd n (fun p => { p with q := p.q ++ [w] }) s).fire (180 + n)

/-- A queued write: a send byte (kind 0), byte (1) or word (2). A full queue refuses it at the command code of a send byte, else at the first data byte
unless that is invalid itself (R413, R422). -/
def queueWrite (n : Fin 2) (kind cmd : Nat) (valid : Nat → Bool) (data : List Byte) (also_ : State → State) (s : State) : State :=
  let v := natOfBytes (data.take kind)
  if queueFull n s && (kind == 0 || (data != [] && (kind == 2 || valid v))) then queueRefuse n s
  else
    twWrite n kind (valid v) data (fun t => queueAppend n kind cmd v (also_ t)) s

/-- QUEUE_POP: the Trio's read of TWn_QPOP; the pop can be handed back (R319, R422). -/
def queuePop (agent : Agent) (n : Fin 2) (s : State) : State :=
  match s.tw[n].q with
  | [] => { s with rdata := 0 }
  | w :: l =>
    if agent = .trio then { twUpd n (fun p => { p with q := l, popped := p.popped ++ [w] }) s with rdata := w } else { s with rdata := w }

/-! ## Data formats (R414) -/

/-- A quotient rounded to the nearest integer, halves up (DESIGN CHOICE, log entry 65). -/
def roundInt (a b : Int) : Int := (2 * a + b).fdiv (2 * b)

/-- Linear format: exponent N and mantissa. -/
def linearWord (exp : Int) (y : Int) : List Byte := bytesOfNat 2 (ofSigned 5 exp * 2048 + ofSigned 11 (clampInt y (-1024) 1023))

/-- The stage temperature of a rail times `k`, rounded; a SLOPE of 0 gives a free value, since R133 states none (log entry 5). -/
def stageTemp (r : Fin 4) (k : Int) (s : State) : Int :=
  let slope : Int := s.get (F.PROTr_TSCL_SLOPE r)
  if slope = 0 then s.freeWord.toInt
  else roundInt (((tmonMv (s.get (F.GATH_TMONRESr_TMONRES r)) : Int) - s.get (F.PROTr_TSCL_T0 r)) * 100 * k) slope

/-- STATUS_VOUT, _IOUT, _INPUT, _TEMPERATURE and _MFR_SPECIFIC of a rail (R418). -/
def bitIf (c : Bool) (i : Nat) : Nat := if c then 2 ^ i else 0
def declBit (r : Fin 4) (f : Nat) (s : State) : Bool := s.bit (F.PROTr_FLAG_DECL r) f
def statusVout (r : Fin 4) (s : State) : Nat := bitIf (declBit r 0 s) 7 + bitIf (declBit r 1 s) 4
def statusIout (r : Fin 4) (s : State) : Nat :=
  let hard := fun f => declBit r f s && decide (3 ≤ respOf r f s)
  let soft := fun f => declBit r f s && decide (respOf r f s ≤ 2)
  bitIf (hard 2 || hard 3) 7 + bitIf (soft 2 || soft 3) 5
def statusInput (r : Fin 4) (s : State) : Nat := bitIf (declBit r 7 s) 4
def statusTemp (r : Fin 4) (s : State) : Nat := bitIf (declBit r 5 s) 7 + bitIf (declBit r 6 s) 6
def statusMfr (r : Fin 4) (s : State) : Nat := bitIf (declBit r 4 s) 0 + bitIf (declBit r 8 s) 1 + bitIf (declBit r 9 s) 2

/-- STATUS_WORD of a rail on a port (R418). -/
def statusWord (n : Fin 2) (r : Fin 4) (s : State) : Nat :=
  let d := fun f => declBit r f s
  let vout := d 0 || d 1
  let iout := d 2 || d 3
  let mfr := d 4 || d 8 || d 9
  let pg := s.get (F.MRVr_STAT_STATE r) != mREG || s.bit (F.PROTr_STAT_COND r) 1
  bitIf vout 15 + bitIf iout 14 + bitIf (d 7) 13 + bitIf mfr 12 + bitIf pg 11 + bitIf (s.get (F.EDGEr_STAT_ST r) != eRUN) 6 +
  bitIf (d 0) 5 + bitIf iout 4 + bitIf (d 7) 3 + bitIf (d 5 || d 6) 2 + bitIf (s.get (F.TWn_CML_CML n) != 0) 1 + bitIf (vout || mfr || pg) 0

/-! ## Reads and writes of a PMBus command (R413 to R416) -/

/-- A mirrored read: TW0 answers from live state, TW1 from its table; a paged one needs a single rail on either port (R413, R414, R416)
(DEDUCED, log entry 52). -/
def mirrorRead (n : Fin 2) (cmd : Nat) (paged : Bool) (len : Nat) (f : Fin 4 → State → List Byte) (s : State) : State :=
  if paged ∧ twPage n s = 0xFF then twAnswer n (List.replicate len 0xFF) (s.setBit (F.TWn_CML_CML n) 6)
  else if n = 1 then tableRead n cmd s
  else twAnswer n (f (Fin.ofNat 4 (if paged then twPage n s else 0)) s) s.draw

/-- A command code on a port: its read and write in the PMBus personality; in the SMBus personality reads, those of process calls too, come from the table
and writes are unsupported; other roles do not answer to it (R409, R410, R414, R416) (DEDUCED, log entry 52). -/
def pmbus (n : Fin 2) (cmd : Nat) (x : Xfer) (read : State → State) (write : List Byte → State → State) (s : State) : State :=
  if !twHears n s then twSilent n s
  else
    let s1 := twBegin n cmd s
    if s.tw[n].pers = pPMBUS then
      match x with
      | .read => read s1
      | .write d => write d s1
      | .call _ => badData n s1
      | .short k => twCut n k (read s1)
    else if s.tw[n].pers = pSMBUS then
      match x with
      | .read => tableRead n cmd s1
      | .write _ => badCommand n s1
      | .call d => tableReply n cmd ([addrW n s, b8 cmd] ++ d) s1
      | .short k => twCut n k (tableRead n cmd s1)
    else twSilent n s

/-- A write to a read-only command is invalid data (R413). -/
def readOnly (n : Fin 2) (_ : List Byte) (s : State) : State := badData n s

/-- A manufacturer command: both personalities execute it in hardware (R420). -/
def mfr (n : Fin 2) (cmd : Nat) (x : Xfer) (read : State → State) (write : List Byte → State → State) (s : State) : State :=
  if !twHears n s || !(s.tw[n].pers == pPMBUS || s.tw[n].pers == pSMBUS) then twSilent n s
  else
    let s1 := twBegin n cmd s
    match x with
    | .read => read s1
    | .write d => write d s1
    | .call _ => badData n s1
    | .short k => twCut n k (read s1)

/-! ## I2C pointer personality (R424) -/

/-- The next pointer within its aligned block. -/
def ptrNext (n : Fin 2) (p : Nat) (s : State) : Nat :=
  let b := 2 ^ min (s.get (F.TWn_CTL_WRAPSH n)) 8
  p / b * b + (p + 1) % b

/-- A byte of the register file. -/
def regfByte (n : Fin 2) (p : Nat) (s : State) : Byte := (bytesOfWord (s.rd (Reg.TWn_REGFi n (p / 4)))).getD (p % 4) 0

/-- Bytes stored from the pointer on; protected ones are passed over. -/
def ptrStore (n : Fin 2) : List Byte → State → State
  | [], s => s
  | b :: l, s =>
    let p := s.tw[n].ptr
    let s1 := if (s.rd (Reg.TWn_WPROT n)).getLsbD (p / 32) then s
      else s.wr (Reg.TWn_REGFi n (p / 4)) (wordOfBytes ((bytesOfWord (s.rd (Reg.TWn_REGFi n (p / 4)))).set (p % 4) b))
    ptrStore n l (twUpd n (fun t => { t with ptr := ptrNext n p s }) s1)

/-- Bytes read from the pointer on. -/
def ptrRead (n : Fin 2) : Nat → State → List Byte × State
  | 0, s => ([], s)
  | k + 1, s =>
    let p := s.tw[n].ptr
    let r := ptrRead n k (twUpd n (fun t => { t with ptr := ptrNext n p s }) s)
    (regfByte n p s :: r.1, r.2)

/-- POINTER_WRITE: the first byte sets the pointer; a write with data appends one entry, and is refused whole where the queue is full
(R422, R424). -/
def pointerWrite (n : Fin 2) (data : List Byte) (s : State) : State :=
  if !twHears n s || s.tw[n].pers != pPOINTER then twSilent n s
  else match data with
  | [] => twBegin n 0 s
  | p :: d =>
    let s1 := twBegin n 0 s
    if d = [] then twUpd n (fun t => { t with ptr := p.toNat }) s1
    else if queueFull n s then queueRefuse n s1
    else queueAppend n 3 0 (p.toNat * 256 + min d.length 255) (ptrStore n d (twUpd n (fun t => { t with ptr := p.toNat }) s1))

/-- POINTER_READ. -/
def pointerRead (n : Fin 2) (len : Nat) (s : State) : State :=
  if !twHears n s || s.tw[n].pers != pPOINTER then twSilent n s
  else let r := ptrRead n len (twBegin n 0 s); twUpd n (fun t => { t with resp := r.1 }) r.2

/-! ## Controller role, self-reset, attention (R425 to R430) -/


/-- A transfer ends with its result and the port's event source. -/
def twEnd (n : Fin 2) (result : Nat) (s : State) : State :=
  (twUpd n (fun p => { p with busy := false, busAt := some s.clk.ns }) (s.put (F.TWn_MSTAT_RESULT n) result)).fire (180 + n)

/-- RLEN and WLEN of a TWn_MCMD word; above 32 they act as 32. -/
def mcmdRlen (w : Word) : Nat := min (fldOf (F.TWn_MCMD_RLEN 0) w) 32
def mcmdWlen (w : Word) : Nat := min (fldOf (F.TWn_MCMD_WLEN 0) w) 32

/-- The bytes of the transfer buffer. -/
def mbuf (n : Fin 2) (s : State) : List Byte := ((List.range 8).map (fun i => bytesOfWord (s.rd (Reg.TWn_MBUFi n i)))).flatten

/-- EXEC: a transfer starts with the bytes it writes, followed by the PEC where PEC = 1, or BUSYREF (R425) (DEDUCED, log entry 52). -/
def twExec (arg : BitVec 16) (s : State) : State :=
  let n : Fin 2 := Fin.ofNat 2 arg.toNat
  if s.tw[n].busy then s.put (F.TWn_MSTAT_BUSYREF n) 1
  else if s.tw[n].pers = pCONTROLLER then
    let w := s.rd (Reg.TWn_MCMD n)
    let d := b8 (2 * fldOf (F.TWn_MCMD_ADDR 0) w) :: (mbuf n s).take (mcmdWlen w)
    let all := if fldOf (F.TWn_MCMD_PEC 0) w = 1 then d ++ [pec d] else d
    twUpd n (fun p => { p with busy := true, mcmd := w, sent := all, resp := all, busAt := some s.clk.ns }) (s.put (F.TWn_MSTAT_RESULT n) 0)
  else s

/-- The transfer buffer with bytes stored from offset 0. -/
def mbufStore (n : Fin 2) (d : List Byte) (s : State) : State :=
  s.each (List.range 8) (fun i t => t.wr (Reg.TWn_MBUFi n i) (wordOfBytes (((d ++ (mbuf n s).drop d.length).drop (4 * i)).take 4)))

/-- CONTROLLER_TRANSFER_END: 0 the bus completed the transfer, 1 a byte was not acknowledged, 2 arbitration was lost. `rx` holds the bytes
read, with their PEC where PEC = 1 (R425). -/
def transferEnd (n : Fin 2) (outcome : Fin 3) (rx : List Byte) (s : State) : State :=
  if !s.tw[n].busy then s
  else match outcome with
  | 1 => twEnd n 2 s
  | 2 => twEnd n 3 s
  | _ =>
    let w := s.tw[n].mcmd
    let rlen := mcmdRlen w
    let d := (rx ++ List.replicate rlen 0).take rlen
    let ok := rlen = 0 ∨ fldOf (F.TWn_MCMD_PEC 0) w = 0 ∨
      rx.getD rlen 0 = pec (s.tw[n].sent ++ [b8 (2 * fldOf (F.TWn_MCMD_ADDR 0) w + 1)] ++ d)
    twEnd n (if ok then 1 else 4) (mbufStore n d s)

/-- A self-reset: the transaction is discarded; queue, PAGE, mailbox selection, causes and table stay (R427). -/
def selfReset (n : Fin 2) (cause : Nat) (s : State) : State :=
  let s1 := twLog n 1 [b8 cause, b8 s.tw[n].cmd] ((s.setBit (F.TWn_CML_CML n) 1).inc (F.TWn_CNT_SELFRST n))
  locksOf (4 + n) (twUpd n (fun p => { p with resp := [], nack := false, busy := false, sdaUntil := min p.sdaUntil s.clk.ns, busAt := some s.clk.ns, deaf := true }) s1)

/-- RESET: TW_ACT action 0x03 on a port that is not OFF. -/
def twReset (arg : BitVec 16) (s : State) : State :=
  let n : Fin 2 := Fin.ofNat 2 arg.toNat
  if s.tw[n].pers = 0 ∨ 4 < s.tw[n].pers then s else selfReset n 3 s

/-- REQUEST: TW_ACT action 0x02. -/
def twRequest (arg : BitVec 16) (s : State) : State := twCause (Fin.ofNat 2 arg.toNat) 4 s

def twAct (arg : BitVec 16) (action : Byte) (s : State) : State :=
  if action = 1 then twExec arg s else if action = 2 then twRequest arg s else if action = 3 then twReset arg s else s

/-- INBW, TTMO and STRTO in nanoseconds, within their limits (R439). -/
def inbwNs (n : Fin 2) (s : State) : Nat := clampNat (s.get (F.TWn_TO_INBW n)) 50 100 * 1000
def ttmoNs (n : Fin 2) (s : State) : Nat := clampNat (s.get (F.TWn_TO_TTMO n)) 25 35 * 1000000
def strtoNs (n : Fin 2) (s : State) : Nat := clampNat (s.get (F.TWn_TO_STRTO n)) 1 100 * 1000000

/-- The bus can have stood without a change for a time: the port has seen nothing on it since (R426, R427) (DEDUCED, log entry 35). -/
def twStill (n : Fin 2) (ns : Nat) (s : State) : Bool := decide ((s.tw[n].busAt).getD 0 + ns ≤ s.clk.ns)

/-- A port answers as a target: personalities 1 to 3 (R409). -/
def twTarget (n : Fin 2) (s : State) : Bool := twOn s && decide (1 ≤ s.tw[n].pers) && decide (s.tw[n].pers ≤ 3)

/-- INBAND_REQUEST: a cause is pending and the bus has been idle for IDLET: SDA goes low for INBW, again after ATTREP; a collision, which comes from
outside, ends the hold, is counted and is retried at the next idle (R429). -/
def inband (n : Fin 2) (collision : Bool) (s : State) : State :=
  if collision then
    if s.clk.ns < s.tw[n].sdaUntil then
      (twUpd n (fun p => { p with sdaUntil := s.clk.ns, busAt := some s.clk.ns }) (s.inc (F.TWn_CNT_ATTRETRY n))).restart 50000 (.inbandRequest n false)
    else s
  else if !twTarget n s || s.get (F.TWn_CTL_ATTNMODE n) != 1 || twPending n s == 0 then s
  else if idleLeft n s ≠ 0 then s.restart (idleLeft n s) (.inbandRequest n false)
  else (twUpd n (fun p => { p with sdaUntil := s.clk.ns + inbwNs n s }) s).restart (zeroAsOne (s.get (F.TWn_TO_ATTREP n)) * 1000000) (.inbandRequest n false)

/-- HOST_NOTIFY: one attempt of the waiting notification in NOTIFY mode; accepted, or lost or not acknowledged and retried up to HNRETRY times (R430) (DEDUCED, log entry 52). -/
def hostNotify (n : Fin 2) (accepted : Bool) (s : State) : State :=
  if !twTarget n s || !s.tw[n].notify || s.get (F.TWn_CTL_ATTNMODE n) != 2 then s
  else
    let s1 := twUpd n (fun p => { p with resp := [0x10, b8 (2 * p.addr), b8 (s.get (F.TWn_ATTN_CAUSE n)), 0] }) s
    if accepted then twUpd n (fun p => { p with notify := false, tries := 0 }) s1
    else if s.tw[n].tries < s.get (F.TWn_MCMD_HNRETRY n) then twUpd n (fun p => { p with tries := p.tries + 1 }) s1
    else twLog n 4 [b8 (s.get (F.TWn_ATTN_CAUSE n))] (twUpd n (fun p => { p with notify := false, tries := 0 }) (s1.put (F.TWn_MSTAT_HNDROP n) 1))

/-- HOST_NOTIFY_RECEIVED: in the CONTROLLER personality an in-band request, or a Host Notify with its address byte and word (R430). -/
def notifyReceived (n : Fin 2) (inband : Bool) (addr : Byte) (data : BitVec 16) (s : State) : State :=
  if !twHears n s || s.tw[n].pers != pCONTROLLER then s
  else
    let s1 := (s.put (F.TWn_MSTAT_ATTNIN n) 1).fire (180 + n)
    if inband then s1 else (s1.put (F.TWn_HNRX_ADDR n) addr.toNat).put (F.TWn_HNRX_WORD n) data.toNat

/-- PERSONALITY_CHANGE: at a bus-idle instant a changed PERS, SPEED or ADDR takes effect and resets the transaction state (R409). -/
def personality (n : Fin 2) (s : State) : State :=
  let pers := s.get (F.TWn_CTL_PERS n)
  let speed := s.get (F.TWn_CTL_SPEED n)
  let addr := s.get (F.TWn_ADDR_ADDR n)
  if !twOn s || (pers == s.tw[n].pers && speed == s.tw[n].speed && addr == s.tw[n].addr) then s
  else
    let s1 := twUpd n (fun p => { p with pers := pers, speed := speed, addr := addr, resp := [], nack := false, busy := false, cmd := 0, sdaUntil := 0, deaf := false }) s
    if s1.get (F.TWn_CTL_ATTNMODE n) = 1 ∧ twPending n s1 ≠ 0 then attnKick n s1 else s1

/-! ## Meanings of the PMBus rows (R414 to R420) -/

/-- PAGE: 0 to 3 or 0xFF (R415). -/
def execPage (n : Fin 2) (x : Xfer) (s : State) : Out :=
  .next (pmbus n 0x00 x (fun t => twAnswer n [b8 (twPage n t)] t)
    (fun d => twWrite n 1 (decide ((d.getD 0 0).toNat ≤ 3) || d.getD 0 0 == 0xFF) d (fun t => t.put (F.TWn_PAGE_PAGE n) (d.getD 0 0).toNat)) s)

/-- OPERATION. -/
def execOperation (n : Fin 2) (x : Xfer) (s : State) : Out :=
  .next (pmbus n 0x01 x (mirrorRead n 0x01 true 1 (fun r t => [if t.on (F.EDGEr_CTL_EN r) then 0x80 else 0x00]))
    (fun d => queueWrite n 1 0x01 (fun v => v == 0x80 || v == 0) d id) s)

/-- CLEAR_FAULTS: TWn_CML in hardware, PROTr_FLAG by the queue (R413). -/
def execClearFaults (n : Fin 2) (x : Xfer) (s : State) : Out :=
  .next (pmbus n 0x03 x (tableRead n 0x03) (fun d => queueWrite n 0 0x03 (fun _ => true) d (fun t => t.put (F.TWn_CML_CML n) 0)) s)

/-- CAPABILITY. -/
def execCapability (n : Fin 2) (x : Xfer) (s : State) : Out := .next (pmbus n 0x19 x (twAnswer n [0xC4]) (readOnly n) s)

/-- VOUT_MODE. -/
def execVoutMode (n : Fin 2) (x : Xfer) (s : State) : Out := .next (pmbus n 0x20 x (twAnswer n [0x40]) (readOnly n) s)

/-- A voltage in 0.5 mV steps within R107. -/
def voltOk (v : Nat) : Bool := decide (500 ≤ v) && decide (v ≤ 5000)

/-- VOUT_COMMAND. -/
def execVoutCommand (n : Fin 2) (x : Xfer) (s : State) : Out :=
  .next (pmbus n 0x21 x (mirrorRead n 0x21 true 2 (fun r t => bytesOfNat 2 (t.get (F.MRVr_VSNOW_T r)))) (fun d => queueWrite n 2 0x21 voltOk d id) s)

/-- VOUT_MAX. -/
def execVoutMax (n : Fin 2) (x : Xfer) (s : State) : Out :=
  .next (pmbus n 0x24 x (mirrorRead n 0x24 true 2 (fun r t => bytesOfNat 2 (t.get (F.MRVr_VLIM_VMAX r)))) (fun d => queueWrite n 2 0x24 voltOk d id) s)

/-- VOUT_MIN. -/
def execVoutMin (n : Fin 2) (x : Xfer) (s : State) : Out :=
  .next (pmbus n 0x2B x (mirrorRead n 0x2B true 2 (fun r t => bytesOfNat 2 (t.get (F.MRVr_VLIM_VMIN r)))) (fun d => queueWrite n 2 0x2B voltOk d id) s)

/-- COEFFICIENTS: a block process call with a count of 2, CODE and 0x01; the answer is a block of five bytes (R417). -/
def execCoefficients (n : Fin 2) (x : Xfer) (s : State) : Out :=
  .next (if !twHears n s || s.tw[n].pers != pPMBUS then pmbus n 0x30 x id (fun _ => id) s
    else
      let s1 := twBegin n 0x30 s
      match x with
      | .call d =>
        let code := (d.getD 1 0).toNat
        if d.length == 3 && d.getD 0 0 == 2 && d.getD 2 0 == 1 && [0x21, 0x24, 0x2B, 0x8B].contains code then
          twUpd n (fun p => { p with resp := [5, 2, 0, 0, 0, 3] ++ [pec ([addrW n s, 0x30] ++ d ++ [addrR n s, 5, 2, 0, 0, 0, 3])] }) s1
        else badData n s1
      | _ => badData n s1)

/-- STATUS_BYTE. -/
def execStatusByte (n : Fin 2) (x : Xfer) (s : State) : Out :=
  .next (pmbus n 0x78 x (mirrorRead n 0x78 true 1 (fun r t => [b8 (statusWord n r t)])) (readOnly n) s)

/-- STATUS_WORD. -/
def execStatusWord (n : Fin 2) (x : Xfer) (s : State) : Out :=
  .next (pmbus n 0x79 x (mirrorRead n 0x79 true 2 (fun r t => bytesOfNat 2 (statusWord n r t))) (readOnly n) s)

/-- STATUS_VOUT. -/
def execStatusVout (n : Fin 2) (x : Xfer) (s : State) : Out :=
  .next (pmbus n 0x7A x (mirrorRead n 0x7A true 1 (fun r t => [b8 (statusVout r t)])) (readOnly n) s)

/-- STATUS_IOUT. -/
def execStatusIout (n : Fin 2) (x : Xfer) (s : State) : Out :=
  .next (pmbus n 0x7B x (mirrorRead n 0x7B true 1 (fun r t => [b8 (statusIout r t)])) (readOnly n) s)

/-- STATUS_INPUT. -/
def execStatusInput (n : Fin 2) (x : Xfer) (s : State) : Out :=
  .next (pmbus n 0x7C x (mirrorRead n 0x7C true 1 (fun r t => [b8 (statusInput r t)])) (readOnly n) s)

/-- STATUS_TEMPERATURE. -/
def execStatusTemperature (n : Fin 2) (x : Xfer) (s : State) : Out :=
  .next (pmbus n 0x7D x (mirrorRead n 0x7D true 1 (fun r t => [b8 (statusTemp r t)])) (readOnly n) s)

/-- STATUS_CML: not paged. -/
def execStatusCml (n : Fin 2) (x : Xfer) (s : State) : Out :=
  .next (pmbus n 0x7E x (mirrorRead n 0x7E false 1 (fun _ t => [b8 (t.get (F.TWn_CML_CML n))])) (readOnly n) s)

/-- STATUS_MFR_SPECIFIC. -/
def execStatusMfrSpecific (n : Fin 2) (x : Xfer) (s : State) : Out :=
  .next (pmbus n 0x80 x (mirrorRead n 0x80 true 1 (fun r t => [b8 (statusMfr r t)])) (readOnly n) s)

/-- READ_VIN: VIN_mV in linear, N = -5. -/
def execReadVin (n : Fin 2) (x : Xfer) (s : State) : Out :=
  .next (pmbus n 0x88 x (mirrorRead n 0x88 false 2 (fun r t => linearWord (-5) (roundInt ((t.mrv[r].vinLast : Int) * 32) 1000))) (readOnly n) s)

/-- READ_VOUT: the sensed voltage in 0.5 mV. -/
def execReadVout (n : Fin 2) (x : Xfer) (s : State) : Out :=
  .next (pmbus n 0x8B x (mirrorRead n 0x8B true 2 (fun r t => bytesOfNat 2 ((sensed r t + 5) / 10))) (readOnly n) s)

/-- READ_IOUT: I_TOT in linear, N = -1. -/
def execReadIout (n : Fin 2) (x : Xfer) (s : State) : Out :=
  .next (pmbus n 0x8C x (mirrorRead n 0x8C true 2 (fun r t => linearWord (-1) (roundInt t.mrv[r].iTot 8))) (readOnly n) s)

/-- READ_TEMPERATURE_1: the stage temperature in linear, N = -2. -/
def execReadTemperature1 (n : Fin 2) (x : Xfer) (s : State) : Out :=
  .next (pmbus n 0x8D x (mirrorRead n 0x8D true 2 (fun r t => linearWord (-2) (stageTemp r 4 t))) (readOnly n) s)

/-- The die temperature in quarter degrees, from the level at the mux's channel 5: T = code / 128 - 273.15; a free value where no command has given
the level (R94) (DESIGN CHOICE, log entry 44). -/
def dieTemp (s : State) : Int :=
  match s.gath.ain[(5 : Fin 32)] with
  | some code => roundInt ((code.toNat * 100 - 3496320 : Int) * 4) 12800
  | none => s.freeWord.toInt

/-- READ_TEMPERATURE_2: the die temperature in linear, N = -2. -/
def execReadTemperature2 (n : Fin 2) (x : Xfer) (s : State) : Out :=
  .next (pmbus n 0x8E x (mirrorRead n 0x8E false 2 (fun _ t => linearWord (-2) (dieTemp t))) (readOnly n) s)

/-- PMBUS_REVISION. -/
def execPmbusRevision (n : Fin 2) (x : Xfer) (s : State) : Out := .next (pmbus n 0x98 x (twAnswer n [0x33]) (readOnly n) s)

/-- MFR_ID: "PNTH". -/
def execMfrId (n : Fin 2) (x : Xfer) (s : State) : Out := .next (pmbus n 0x99 x (twAnswer n [4, 0x50, 0x4E, 0x54, 0x48]) (readOnly n) s)

/-- MFR_MODEL: "KT9640". -/
def execMfrModel (n : Fin 2) (x : Xfer) (s : State) : Out :=
  .next (pmbus n 0x9A x (twAnswer n [6, 0x4B, 0x54, 0x39, 0x36, 0x34, 0x30]) (readOnly n) s)

/-- MFR_REVISION: "B1". -/
def execMfrRevision (n : Fin 2) (x : Xfer) (s : State) : Out := .next (pmbus n 0x9B x (twAnswer n [2, 0x42, 0x31]) (readOnly n) s)

/-- MFR_MBX_SEL. -/
def execMfrMbxSel (n : Fin 2) (x : Xfer) (s : State) : Out :=
  .next (mfr n 0xD0 x (fun t => twAnswer n [b8 (twMbx n t)] t)
    (fun d => twWrite n 1 (decide ((d.getD 0 0).toNat ≤ 15)) d (fun t => t.put (F.TWn_PAGE_MBXSEL n) (d.getD 0 0).toNat)) s)

/-- MFR_MBX_LOCK: MBk_LOCK as the port's sender. -/
def execMfrMbxLock (n : Fin 2) (x : Xfer) (s : State) : Out :=
  .next (mfr n 0xD1 x (fun t => let t1 := lockRead (twAgent n) (twMbx n t) t; twAnswer n [b8 t1.rdata.toNat] t1)
    (fun d => twWrite n 1 true d (fun t => lockWrite (twAgent n) (twMbx n t) ((d.getD 0 0).zeroExtend 32) t)) s)

/-- MFR_MBX_DATA: a block of words to or from the selected mailbox; a read gives the length of its last send. -/
def execMfrMbxData (n : Fin 2) (x : Xfer) (s : State) : Out :=
  .next (mfr n 0xD2 x
    (fun t =>
      let k := twMbx n t
      let len := clampNat (t.get (F.MBk_STAT_LEN k)) 1 16
      let d := ((List.range len).map (fun i => bytesOfWord (if mbRecv k t = (twAgent n).id then t.rd (Reg.MBk_DATAi k i) else 0))).flatten
      twAnswer n (b8 (4 * len) :: d) t)
    (fun d =>
      let c := (d.getD 0 0).toNat
      twWrite n (c + 1) (decide (4 ≤ c) && decide (c ≤ 64) && c % 4 == 0) d (fun t =>
        ((wordsOfBytes ((d.drop 1).take c)).zipIdx).foldl (fun u w => dataWrite (twAgent n) (twMbx n t) w.2 w.1 u) t)) s)

/-- MFR_MBX_SEND: MBk_SEND with the ticket and LEN of the word. -/
def execMfrMbxSend (n : Fin 2) (x : Xfer) (s : State) : Out :=
  .next (mfr n 0xD3 x (tableRead n 0xD3)
    (fun d => twWrite n 2 true d (fun t => sendWrite (twAgent n) (twMbx n t) (d.getD 1 0) (BitVec.ofNat 16 ((d.getD 0 0).toNat % 32)) 1 t)) s)

/-- MFR_MBX_TAKE: MBk_TAKE as the port's sender. -/
def execMfrMbxTake (n : Fin 2) (x : Xfer) (s : State) : Out :=
  .next (mfr n 0xD4 x (fun t =>
      let t1 := takeRead (twAgent n) (twMbx n t) t
      let w := t1.rdata
      twAnswer n (bytesOfNat 2 (bitIf (w.getLsbD 31) 15 + (w.extractLsb' 16 5).toNat * 256 + (w.extractLsb' 8 3).toNat)) t1)
    (readOnly n) s)

/-- A read of the causes: those that stood before this cycle are returned and clear; one set in this cycle stays (R13, R428). -/
def attnRead (n : Fin 2) (s : State) : State :=
  let a := Reg.TWn_ATTN n
  match s.touched a with
  | some t =>
    let s1 := twAnswer n (bytesOfNat 2 (fldOf (F.TWn_ATTN_CAUSE n) t.before)) s
    { s1.wr a t.clean with touch := s1.touch.map (fun x => if x = t then { x with before := clearedWord a x.before } else x) }
  | none => (twAnswer n (bytesOfNat 2 (s.get (F.TWn_ATTN_CAUSE n))) s).wr a 0

/-- MFR_ATTN: the causes, and those returned clear, unless the controller ends the read before their last byte (R412, R428). -/
def execMfrAttn (n : Fin 2) (x : Xfer) (s : State) : Out :=
  let early := match x with | .short k => decide (k < 2) | _ => false
  .next (mfr n 0xD5 x (fun t => if early then twAnswer n (bytesOfNat 2 (t.get (F.TWn_ATTN_CAUSE n))) t else attnRead n t) (readOnly n) s)

/-- MFR_DEVTIME: device time. -/
def execMfrDevtime (n : Fin 2) (x : Xfer) (s : State) : Out :=
  .next (mfr n 0xD6 x (fun t => twAnswer n (8 :: bytesOfNat 8 t.clk.time.toNat) t) (readOnly n) s)

/-- MFR_CLEAR: PROT_ACT CLEAR by the queue. -/
def execMfrClear (n : Fin 2) (x : Xfer) (s : State) : Out :=
  .next (pmbus n 0xD8 x (tableRead n 0xD8) (fun d => queueWrite n 0 0xD8 (fun _ => true) d id) s)

/-! ## Meanings of the other rows -/

/-- RESPONSE_TABLE_READ: a read of a code outside the mirror; without a code, a receive byte, which is answered for the code last seen (R410, R416)
(DEDUCED, log entry 52). -/
def execResponseTableRead (n : Fin 2) (cmd : Option Byte) (s : State) : Out :=
  .next (if !twHears n s || !(s.tw[n].pers == pPMBUS || s.tw[n].pers == pSMBUS) then twSilent n s
    else match cmd with
    | some c => tableRead n c.toNat (twBegin n c.toNat s)
    | none => tableReply n s.tw[n].cmd [] (twBegin n s.tw[n].cmd s))

/-- UNSUPPORTED_COMMAND (R413). -/
def execUnsupportedCommand (n : Fin 2) (cmd : Byte) (s : State) : Out :=
  .next (if !twHears n s || !(s.tw[n].pers == pPMBUS || s.tw[n].pers == pSMBUS) then twSilent n s else badCommand n (twBegin n cmd.toNat s))

/-- QUEUE_POP (R422). -/
def execQueuePop (agent : Agent) (n : Fin 2) (s : State) : Out := .next (if twOn s then queuePop agent n s else { s with busErr := true })

/-- POINTER_WRITE (R424). -/
def execPointerWrite (n : Fin 2) (data : List Byte) (s : State) : Out := .next (pointerWrite n data s)

/-- POINTER_READ (R424). -/
def execPointerRead (n : Fin 2) (len : Byte) (s : State) : Out := .next (pointerRead n len.toNat s)

/-- PERSONALITY_CHANGE (R409) (DEDUCED, log entry 35). -/
def execPersonalityChange (n : Fin 2) (s : State) : Out := .next (personality n s)

/-- CONTROLLER_EXEC: TW_ACT action 0x01 (R425). -/
def execControllerExec (ticket : Byte) (arg : BitVec 16) (s : State) : Out := .next (s.actAt Reg.TW_ACT ticket arg 1 (twExec arg))

/-- CONTROLLER_TRANSFER_END (R425). -/
def execControllerTransferEnd (n : Fin 2) (outcome : Fin 3) (rx : List Byte) (s : State) : Out := .next (transferEnd n outcome rx s)

/-- CONTROLLER_STRETCH_TIMEOUT: STRTO has expired: the transfer ends with TMO and the port resets itself (R426). -/
def execControllerStretchTimeout (n : Fin 2) (s : State) : Out := .next (if s.tw[n].busy && twStill n (strtoNs n s) s then selfReset n 2 (twEnd n 5 s) else s)

/-- SELF_RESET: SCL has been low for TTMO without a change on a target port (R427). -/
def execSelfReset (n : Fin 2) (s : State) : Out :=
  .next (if twOn s && (s.tw[n].pers == pSMBUS || s.tw[n].pers == pPMBUS || s.tw[n].pers == pPOINTER) && twStill n (ttmoNs n s) s then selfReset n 1 s else s)

/-- TW_RESET: TW_ACT action 0x03 (R427). -/
def execTwReset (ticket : Byte) (arg : BitVec 16) (s : State) : Out := .next (s.actAt Reg.TW_ACT ticket arg 3 (twReset arg))

/-- REQUEST: TW_ACT action 0x02 (R428). -/
def execRequest (ticket : Byte) (arg : BitVec 16) (s : State) : Out := .next (s.actAt Reg.TW_ACT ticket arg 2 (twRequest arg))

/-- INBAND_REQUEST (R429). -/
def execInbandRequest (n : Fin 2) (collision : Bool) (s : State) : Out := .next (inband n collision s)

/-- HOST_NOTIFY (R430). -/
def execHostNotify (n : Fin 2) (accepted : Bool) (s : State) : Out := .next (hostNotify n accepted s)

/-- HOST_NOTIFY_RECEIVED (R430). -/
def execHostNotifyReceived (n : Fin 2) (inband : Bool) (addr : Byte) (data : BitVec 16) (s : State) : Out :=
  .next (notifyReceived n inband addr data s)

end Sys2Proof.Machine
end

