-- ==== Sys2Proof/Machine/Avs.lean ====
section
/-!
DEFINITION. Machine/Avs.lean: the AVSBus ports (spec/15_two_wire_avs.md, R432 to R437).
-/
namespace Sys2Proof.Machine

/-- A port's hidden state replaced. -/
def avsUpd (n : Fin 2) (f : AvsPort → AvsPort) (s : State) : State := { s with avs := updAt s.avs n f }

/-- The held values shown in AVSn_STAT.HELD. -/
def avsShow (n : Fin 2) (s : State) : State :=
  s.put (F.AVSn_STAT_HELD n)
    ((List.finRange 4).foldl (fun m r => if (s.avs[n].held[r]).isSome || (s.avs[n].heldBoot[r]).isSome then m + 2 ^ r.val else m) 0)

/-! ## Frames (R432) -/

/-- The 3-bit CRC of Part III, x^3 + x + 1, over the other 29 bits of a frame, the first bit sent in bit 28 (R432) (PRESUMED, log entry 32). -/
def avsCrc (w : BitVec 29) : BitVec 3 :=
  (List.range 29).foldl (fun c i => if c.getLsbD 2 != w.getLsbD (28 - i) then (c <<< 1) ^^^ 3 else c <<< 1) 0

/-- The 29 bits of a frame before its CRC: the start code, the command field, the select field and the data (R432) (PRESUMED, log entry 32). -/
def avsWord (field : BitVec 7) (sel : Fin 16) (data : BitVec 16) : BitVec 29 := (1 : BitVec 2) ++ field ++ BitVec.ofNat 4 sel.val ++ data

/-- The frame that answers: acknowledge code, status bits, data, five 1s and its CRC (R432) (PRESUMED, log entry 32). -/
def avsReply (ack status data : Nat) : Word :=
  let w : BitVec 29 := BitVec.ofNat 2 ack ++ (0 : BitVec 1) ++ BitVec.ofNat 3 status ++ (0 : BitVec 2) ++ BitVec.ofNat 16 data ++ (31 : BitVec 5)
  w ++ avsCrc w

/-- A discarded frame: 1 bad CRC, which is answered, 2 timeout (R432, R437). -/
def avsDiscard (n : Fin 2) (why : Nat) (s : State) : State :=
  let s0 := avsUpd n (fun p => { p with discards := min (p.discards + 1) 65535 }) (if why = 1 then s.inc (F.AVSn_CNT_CRC n) else s.inc (F.AVSn_CNT_TMO n))
  let s1 := if why = 1 then avsUpd n (fun p => { p with ack := 2, data := 0, status := 0, resp := avsReply 2 0 0 }) s0 else s0
  let s2 := s1.logLimited (0x0F0010 + n) 0x0F 0x0001 ([b8 n, b8 why] ++ bytesOfNat 2 s1.avs[n].discards)
  if s2.log.reqs.length = s1.log.reqs.length then s2 else avsUpd n (fun p => { p with discards := 0 }) s2

/-- The AVS bit of a rail's source mask in force (R109, R434). -/
def avsMask (r : Fin 4) (s : State) : Bool := (s.lv (F.MRVr_VSRC_MASK r)).testBit 0

/-- The status bits of a response on a rail: VDone in bit 2, StatusAlert in bit 1, AVSControl in bit 0 (R435) (PRESUMED, log entry 32). -/
def avsStatus (n : Fin 2) (r : Fin 4) (s : State) : Nat :=
  bitIf (s.get (F.MRVr_VSNOW_S r) == 10 * s.get (F.MRVr_VSNOW_T r)) 2 + bitIf (s.on (F.AVSn_STAT_ALERT n)) 1 + bitIf (avsMask r s) 0

/-- The answer to a frame: acknowledge code, data and the status bits of its rail. -/
def avsAnswer (n : Fin 2) (sel : Fin 16) (ack data : Nat) (s : State) : State :=
  let status := if sel.val < 4 then avsStatus n (Fin.ofNat 4 sel.val) s else 0
  avsUpd n (fun p => { p with ack := ack, data := data, status := status, resp := avsReply ack status data }) s

/-- A voltage request of a frame is checked: 0 accepted, 1 no action, 3 invalid; the mask and the range count and log as at the arbiter
(R107, R109, R434). -/
def avsCheck (r : Fin 4) (v : Nat) (s : State) : Nat × State :=
  if !railEn r s then (1, s)
  else if !avsMask r s then (1, vsetArrive r 0 v s)
  else if !vsetOk r v s then (3, vsetArrive r 0 v s)
  else (0, s)

/-- Every held value is released: voltages arrive 40 ns later, reset voltages become VBOOT (R433, R434) (DESIGN CHOICE, log entry 74). -/
def avsRelease (n : Fin 2) (s : State) : State :=
  let p := s.avs[n]
  let s1 := avsShow n (avsUpd n (fun q => { q with held := Vector.replicate 4 none, heldBoot := Vector.replicate 4 none }) s)
  let s2 := s1.each (List.finRange 4) (fun r t => match p.heldBoot[r] with | some mv => t.store (Reg.MRVr_VBOOT r) (BitVec.ofNat 32 (2 * mv)) | none => t)
  if p.held.toList.any (·.isSome) then (avsUpd n (fun q => { q with commit := p.held }) s2).restart 40 (.avsCommitArrival n) else s2

/-- A voltage or reset-voltage frame that passes its checks: its value replaces what the port holds for the rail; a commit releases every held value
with it (R433, R434). -/
def avsRequest (n : Fin 2) (sel : Fin 16) (boot commit : Bool) (mv : Nat) (r : Fin 4) (s : State) : State :=
  match avsCheck r (2 * mv) s with
  | (0, s1) =>
    let s2 := avsUpd n (fun p => { p with held := p.held.set r (if boot then none else some mv), heldBoot := p.heldBoot.set r (if boot then some mv else none) }) s1
    if commit then avsRelease n (avsAnswer n sel 0 0 s2) else avsShow n (avsAnswer n sel 0 0 s2)
  | (k, s1) => avsAnswer n sel k 0 s1

/-- A status write: bits written as 1 clear the alert latch; a commit releases the held values (R433 to R435). -/
def avsStatusWrite (n : Fin 2) (sel : Fin 16) (commit : Bool) (clear : Nat) (s : State) : State :=
  let s1 := if clear = 0 then s else s.put (F.AVSn_STAT_ALERT n) 0
  if commit then avsRelease n (avsAnswer n sel 0 0 s1) else avsAnswer n sel 0 0 s1

/-- A supported command and direction: its data type in [3:0], the command group in bit 4, the direction in [6:5]: 0 write and commit, 1 write and hold,
3 read (R433). -/
def avsKnown (field : BitVec 7) : Bool :=
  let f := field.toNat
  if f / 32 = 3 then [0x60, 0x61, 0x62, 0x63, 0x6E].contains f else [0x00, 0x04, 0x0E, 0x20, 0x24, 0x2E].contains f

/-- A supported frame on a rail (R433, R434) (DEDUCED, log entry 62). -/
def avsDo (n : Fin 2) (sel : Fin 16) (field : BitVec 7) (data : Nat) (r : Fin 4) (s : State) : State :=
  let commit := field.toNat / 32 == 0
  match field.toNat % 16 with
  | 0 =>
    if field.toNat / 32 = 3 then avsAnswer n sel 0 ((sensed r s + 10) / 20) s else avsRequest n sel false commit data r s
  | 1 => avsAnswer n sel 0 (257 * min 255 (roundDiv (s.lv (F.MRVr_SLEW_SLEWRATE r)) 10)) s
  | 2 => avsAnswer n sel 0 (min 65535 (s.mrv[r].iTot.toNat * 100 / 16)) s
  | 3 => avsAnswer n sel 0 (ofSigned 16 (stageTemp r 10 s)) s.draw
  | 4 => avsRequest n sel true commit data r s
  | _ => if field.toNat / 32 = 3 then avsAnswer n sel 0 (avsStatus n r s * 8192) s else avsStatusWrite n sel commit data s

/-- A frame: bad CRC 0b10; no such rail, or an unsupported type or direction 0b11; a rail not in RAILEN 0b01; else its command (R432 to R434)
(DEDUCED, log entry 62). -/
def avsFrame (n : Fin 2) (bits : AvsBits) (own : BitVec 7) (sel : Fin 16) (ownData : BitVec 16) (s0 : State) : State :=
  if !twOn s0 then s0
  else
    let s := avsUpd n (fun p => { p with frameAt := s0.clk.ns }) s0
    let f := bits.alien.getD (own, ownData)
    if bits.crc ≠ avsCrc (avsWord f.1 sel f.2) then avsDiscard n 1 s
    else if 4 ≤ sel.val || !avsKnown f.1 then avsAnswer n sel 3 0 s
    else if !s.bit (F.AVSn_CTL_RAILEN n) sel then avsAnswer n sel 1 0 s
    else avsDo n sel f.1 f.2.toNat (Fin.ofNat 4 sel.val) s

/-- AVS_COMMIT_ARRIVAL: the released values reach their arbiters; the port's source fires once where one is applied (R108, R434). -/
def avsArrive (n : Fin 2) (s : State) : State :=
  let vals := (List.finRange 4).filterMap (fun r => (s.avs[n].commit[r]).map (fun v => (r, v)))
  let hit := vals.any (fun x => avsMask x.1 s && vsetOk x.1 (2 * x.2) s)
  let s1 := s.each vals (fun x => vsetArrive x.1 0 (2 * x.2))
  avsUpd n (fun p => { p with commit := Vector.replicate 4 none }) (if hit then s1.fire (182 + n) else s1)

/-- A write to AVSn_CTL: one with a RAILEN bit that the other port has is refused whole (R433). -/
def avsCtlWrite (n : Fin 2) (v : Word) (s : State) : State :=
  let new := fldOf (F.AVSn_CTL_RAILEN n) v
  if (new &&& s.get (F.AVSn_CTL_RAILEN (1 - n.val))) = 0 then s.wr (Reg.AVSn_CTL n) v
  else (s.put F.AVS_FLT_MAPREF 1).logReq 0x0F 0x0002 [b8 n, b8 new]

/-- AVSTO in nanoseconds, within its limits (R439). -/
def avstoNs (n : Fin 2) (s : State) : Nat := clampNat (s.get (F.AVSn_CTL_AVSTO n)) 1 100 * 1000

/-! ## Meanings -/

/-- AVS_VOLTAGE_WRITE (R434). -/
def execAvsVoltageWrite (n : Fin 2) (bits : AvsBits) (sel : Fin 16) (commit : Bool) (mv : BitVec 16) (s : State) : Out :=
  .next (avsFrame n bits (if commit then 0x00 else 0x20) sel mv s)

/-- AVS_VOLTAGE_READ: the sensed voltage in mV, rounded (R433). -/
def execAvsVoltageRead (n : Fin 2) (bits : AvsBits) (sel : Fin 16) (s : State) : Out := .next (avsFrame n bits 0x60 sel 0xFFFF s)

/-- AVS_TRANSITION_RATE_READ: rising and falling rate (R433). -/
def execAvsTransitionRateRead (n : Fin 2) (bits : AvsBits) (sel : Fin 16) (s : State) : Out := .next (avsFrame n bits 0x61 sel 0xFFFF s)

/-- AVS_CURRENT_READ: I_TOT in 10 mA units (R433) (DEDUCED, log entry 62). -/
def execAvsCurrentRead (n : Fin 2) (bits : AvsBits) (sel : Fin 16) (s : State) : Out := .next (avsFrame n bits 0x62 sel 0xFFFF s)

/-- AVS_TEMPERATURE_READ: the stage temperature in 0.1 degrees (R433). -/
def execAvsTemperatureRead (n : Fin 2) (bits : AvsBits) (sel : Fin 16) (s : State) : Out := .next (avsFrame n bits 0x63 sel 0xFFFF s)

/-- AVS_RESET_VOLTAGE_WRITE: the request becomes VBOOT, under the limits of R107 (R433). -/
def execAvsResetVoltageWrite (n : Fin 2) (bits : AvsBits) (sel : Fin 16) (mv : BitVec 16) (s : State) : Out :=
  .next (avsFrame n bits 0x04 sel mv s)

/-- AVS_STATUS_READ: the status bits (R435) (PRESUMED, log entry 32). -/
def execAvsStatusRead (n : Fin 2) (bits : AvsBits) (sel : Fin 16) (s : State) : Out := .next (avsFrame n bits 0x6E sel 0xFFFF s)

/-- AVS_STATUS_WRITE: bits written as 1 clear the alert latch (R433, R435). -/
def execAvsStatusWrite (n : Fin 2) (bits : AvsBits) (sel : Fin 16) (clear : BitVec 16) (s : State) : Out := .next (avsFrame n bits 0x0E sel clear s)

/-- AVS_COMMIT_ARRIVAL (R434). -/
def execAvsCommitArrival (n : Fin 2) (s : State) : Out := .next (avsArrive n s)

/-- AVS_FRAME_TIMEOUT: AVSTO has passed since the first clock edge of a frame, which comes after the last frame (R432, R439). -/
def execAvsFrameTimeout (n : Fin 2) (s : State) : Out :=
  .next (if twOn s && decide (s.avs[n].frameAt + avstoNs n s ≤ s.clk.ns) then avsDiscard n 2 (avsUpd n (fun p => { p with frameAt := s.clk.ns }) s) else s)

end Sys2Proof.Machine
end

