-- ==== Sys2Proof/Machine/Cap.lean ====
section
/-!
DEFINITION. Machine/Cap.lean: capacitive leak and condensation sensing (spec/18_leak_sense.md, R491 to R500).
-/
namespace Sys2Proof.Machine

/-- The CAP state, and an electrode, replaced. -/
def capUpd (f : CapSt → CapSt) (s : State) : State := { s with cap := f s.cap }
def elUpd (i : Fin 16) (f : Electrode → Electrode) (s : State) : State := capUpd (fun c => { c with el := updAt c.el i f }) s

/-- The block works: enabled and powered (R494, R495). -/
def capOn (s : State) : Bool := s.on F.CAP_CTL_EN && domainOn 54 s

/-- Fields as they act (R503). -/
def capOsr (s : State) : Nat := clampNat (s.get F.CAP_MEAS_OSR) 0 4
def capMaxcnt (s : State) : Nat := clampNat (s.get F.CAP_MEAS_MAXCNT) 256 65535
def capDebn (s : State) : Nat := clampNat (s.get F.CAP_DEC_DEBN) 1 15
def capNegn (s : State) : Nat := clampNat (s.get F.CAP_DEC_NEGN) 1 15
def capBlsh (s : State) : Nat := clampNat (s.get F.CAP_DEC_BLSH) 2 12

/-- The length of one transfer in nanoseconds (R491, R503). -/
def capStep (s : State) : Nat := (clampNat (s.get F.CAP_MEAS2_TCHG) 2 63 + clampNat (s.get F.CAP_MEAS2_TXFR) 2 63) * 4

/-- The present measurement has lasted its discharge of 1 us and `n` transfers (R491). -/
def capLasted (n : Nat) (s : State) : Bool := decide (s.cap.began + 1000 + n * s.cap.step ≤ s.clk.ns)

/-- The electrode under measurement (R494). -/
def capNow (s : State) : Option (Fin 16) := if capOn s then (match s.cap.scan with | some (i :: _) => some i | _ => none) else none

/-- What drives an electrode's ball: 0 released, 1 driven low, 2 measured (R492). -/
def ceDrive (i : Fin 16) (s : State) : Nat :=
  if !capOn s || !s.bit F.CAP_EN_MASK i then 0 else if capNow s = some i then 2 else 1

/-! ## Scans (R494) -/

/-- The scan's present electrode begins a measurement, with the transfer times and MAXCNT as they stand (R491) (DESIGN CHOICE, log entry 53). -/
def capMeasure (s : State) : State :=
  (capUpd (fun c => { c with began := s.clk.ns, step := capStep s, limit := capMaxcnt s, sampled := false }) s).restart
    (1000 + capMaxcnt s * capStep s) .measurementTimeout

/-- A scan starts: the mask is latched; an accepted CAPLEARN begins its duration (R494, R500). -/
def capScan (s : State) : State :=
  let l := (List.finRange 16).filter (fun (i : Fin 16) => s.bit F.CAP_EN_MASK i)
  let s1 := if s.lop[(4 : Fin 5)].running ∧ s.cap.from_.isNone then
      (capUpd (fun c => { c with from_ := some s.clk.ns }) s).after (s.cap.dur * 1000000) .learnEnd
    else s
  if l = [] then s1 else capMeasure (capUpd (fun c => { c with scan := some l, k := 0, sum := 0 }) s1)

/-- The elapsed part of a CAPLEARN is reported (R386, R500). -/
def capProgress (s : State) : State :=
  match s.cap.from_ with
  | some t =>
    if s.lop[(4 : Fin 5)].running then
      lopStatus 4 lopRUNNING (lopCount 4 s) (s.lopUpd 4 (fun l => { l with done := min l.planned ((s.clk.ns - t) / 1000000) }))
    else s
  | none => s

/-- The present electrode is done: the next one, or the end of the scan (R494). -/
def capNext (s : State) : State :=
  match s.cap.scan with
  | some (_ :: i :: l) => capMeasure (capUpd (fun c => { c with scan := some (i :: l), k := 0, sum := 0 }) s)
  | _ =>
    let s1 := capProgress (capUpd (fun c => { c with scan := none, k := 0, sum := 0 }) (s.cancel .measurementTimeout))
    if s1.cap.due then capScan (capUpd (fun c => { c with due := false }) s1)
    else if s1.cap.pend then capScan (capUpd (fun c => { c with pend := false }) s1)
    else s1

/-- A scan falls due; the next one SCANPER later (R494). -/
def scanStart (s : State) : State :=
  if !capOn s then s
  else
    let s1 := s.restart (zeroAsOne (s.get F.CAP_SCAN_SCANPER) * 100000) .scanStart
    if s.cap.scan.isSome then (capUpd (fun c => { c with due := true }) s1).inc F.CAP_CNT_OVR else capScan s1

/-- SCAN: one scan at once, or one that waits (R494). -/
def scanRequest (s : State) : State :=
  if !capOn s then s else if s.cap.scan.isSome then capUpd (fun c => { c with pend := true }) s else capScan s

/-- A write of CAP_CTL: the first scan starts in the cycle after EN is set; every electrode then begins afresh (R494, R496). -/
def capCtlWrite (value : Word) (s : State) : State :=
  let was := s.on F.CAP_CTL_EN
  let s1 := s.wr Reg.CAP_CTL value
  if value.getLsbD 0 ∧ !was then
    (capUpd (fun c => { c with el := c.el.map (fun e => { e with fresh := true }) }) s1).restart (4 - s.clk.ns % 4) .scanStart
  else if !value.getLsbD 0 ∧ was then
    capUpd (fun c => { c with scan := none, due := false, pend := false, k := 0, sum := 0 }) ((s1.cancel .scanStart).cancel .measurementTimeout)
  else s1

/-! ## Decisions (R496, R497) -/

/-- The block's log data for a detection. -/
def detData (i : Fin 16) (kind raw blc : Nat) (s : State) : List Byte :=
  [b8 i, b8 kind] ++ bytesOfNat 2 raw ++ bytesOfNat 2 blc ++ bytesOfNat 2 (s.get (F.CAPi_DRY_DRY i))

/-- The debounce counts cleared (R496, R498). -/
def debClear (e : Electrode) : Electrode := { e with leakOn := 0, leakOff := 0, condOn := 0, condOff := 0 }

/-- LEAK and COND take their new values, and what becomes present is declared: the source once, the leak entry first (R497). -/
def capDeclare (i : Fin 16) (leak cond : Bool) (raw blc : Nat) (s : State) : State :=
  let newL := leak && !s.on (F.CAPi_STAT_LEAK i)
  let newC := cond && !s.on (F.CAPi_STAT_COND i)
  let s1 := (s.putB (F.CAPi_STAT_LEAK i) leak).putB (F.CAPi_STAT_COND i) cond
  let s2 := s1.when newL (fun t => (elUpd i (fun e => { e with leaked := e.leaked || s.cap.from_.isSome }) (t.put (F.CAPi_STAT_LEAKF i) 1)).logReq 0x13 0x0001 (detData i 1 raw blc s))
  let s3 := s2.when newC (fun t => (t.put (F.CAPi_STAT_CONDF i) 1).logReq 0x13 0x0001 (detData i 2 raw blc s))
  s3.when (newL || newC) (fun t => t.fire (152 + i.val))

/-- A RAW value without a fault (R496). -/
def baseline (i : Fin 16) (raw : Nat) (s : State) : State :=
  let e := s.cap.el[i]
  let bl := s.get (F.CAPi_BL_BL i)
  let blc := bl / 16
  let sig : Int := (blc : Int) - raw
  if e.fresh || e.recal then
    let s1 := elUpd i (fun x => { debClear x with fresh := false, recal := false, neg := 0 }) (s.put (F.CAPi_BL_BL i) (raw * 16))
    if e.recal then (s1.put (F.CAPi_STAT_LEAK i) 0).put (F.CAPi_STAT_COND i) 0 else s1
  else
    let neg := if sig * 1024 ≤ -((s.get F.CAP_DEC_NEGTH * blc : Nat) : Int) then e.neg + 1 else 0
    if capNegn s ≤ neg then
      let s1 := elUpd i (fun x => { debClear x with neg := 0 }) ((s.put (F.CAPi_BL_BL i) (raw * 16)).inc F.CAP_CNT_RECAL)
      s1.logReq 0x13 0x0003 ([b8 i, 0] ++ bytesOfNat 2 raw ++ bytesOfNat 2 blc)
    else
      let s1 := if sig.natAbs * 1024 < s.get F.CAP_DEC_TRKWIN * blc then
          s.put (F.CAPi_BL_BL i) ((bl : Int) + asr ((raw * 16 : Nat) - (bl : Int)) (capBlsh s)).toNat
        else s
      let dry := s.get (F.CAPi_DRY_DRY i)
      let csig : Int := (dry : Int) - blc
      let lth := s.get (F.CAPi_CFG_LEAKTH i)
      let cth := s.get (F.CAPi_CFG_CONDTH i)
      let leakHi := decide (((lth * blc : Nat) : Int) ≤ sig * 1024)
      let leakLo := decide (sig * 1024 < ((lth : Int) - s.get (F.CAPi_CFG_LEAKHYS i)) * blc)
      let condHi := decide (((cth * dry : Nat) : Int) ≤ csig * 1024)
      let condLo := decide (csig * 1024 < ((cth : Int) - s.get (F.CAPi_CFG_CONDHYS i)) * dry)
      let n := capDebn s
      let lOn := if leakHi then min 15 (e.leakOn + 1) else 0
      let lOff := if leakLo then min 15 (e.leakOff + 1) else 0
      let dryv := s.on (F.CAPi_STAT_DRYV i)
      let cOn := if condHi && dryv then min 15 (e.condOn + 1) else 0
      let cOff := if condLo && dryv then min 15 (e.condOff + 1) else 0
      let leak := if n ≤ lOn then true else if n ≤ lOff then false else s.on (F.CAPi_STAT_LEAK i)
      let cond := if !dryv then false else if n ≤ cOn then true else if n ≤ cOff then false else s.on (F.CAPi_STAT_COND i)
      capDeclare i leak cond raw blc (elUpd i (fun x => { x with neg := neg, leakOn := lOn, leakOff := lOff, condOn := cOn, condOff := cOff }) s1)

/-! ## Electrode faults (R498) -/

/-- A failing RAW value: 1 SUP, 2 TMO, 3 RANGE; the second in a row makes the fault present. -/
def capFail (i : Fin 16) (cause : Nat) (s : State) : State :=
  let e := s.cap.el[i]
  let fails := min 2 (e.fails + 1)
  let now := e.fault || fails == 2
  let s1 := elUpd i (fun x => { (if now then debClear x else x) with fails := fails, passes := 0, fault := now }) s
  if now && !e.fault then
    let s2 := s1.put (if cause = 1 then F.CAPi_STAT_SUP i else if cause = 2 then F.CAPi_STAT_TMO i else F.CAPi_STAT_RANGE i) 1
    ((s2.setBit F.CAP_FLT_EF i).fire (152 + i.val)).logReq 0x13 0x0002 ([b8 i, b8 cause] ++ bytesOfNat 2 e.last)
  else s1

/-- A passing RAW value; the second in a row ends a fault, and without a fault the decisions follow. -/
def capPass (i : Fin 16) (raw : Nat) (s : State) : State :=
  let e := s.cap.el[i]
  let passes := min 2 (e.passes + 1)
  let now := e.fault && passes != 2
  let s1 := elUpd i (fun x => { (if now then debClear x else x) with fails := 0, passes := passes, fault := now }) s
  let s2 := if e.fault && !now then ((s1.put (F.CAPi_STAT_SUP i) 0).put (F.CAPi_STAT_TMO i) 0).put (F.CAPi_STAT_RANGE i) 0 else s1
  let s3 := if s.lop[(4 : Fin 5)].running && s.cap.from_.isSome && s.cap.mask.testBit i then
      elUpd i (fun x => { x with n := x.n + 1, sum := x.sum + raw, min := if x.n = 0 then raw else Nat.min x.min raw, max := Nat.max x.max raw }) s2
    else s2
  if now then s3 else baseline i raw s3

/-- A RAW value is complete: within its limits or RANGE (R493, R498). -/
def capRaw (i : Fin 16) (raw : Nat) (s : State) : State :=
  let s1 := s.put (F.CAPi_RAW_RAW i) raw
  if s.get (F.CAPi_LIM_CMIN i) ≤ raw ∧ raw ≤ s.get (F.CAPi_LIM_CMAX i) then capPass i raw s1 else capFail i 3 s1

/-- A measurement fails, and with it its RAW value (R491, R493). -/
def measureFail (cause : Nat) (s : State) : State :=
  match capNow s with
  | none => s
  | some i => capNext (capFail i cause s)

/-- A measurement ends with its transfer count, no sooner than its transfers have been made (R491, R493) (DESIGN CHOICE, log entry 44). -/
def measureEnd (count : Nat) (s : State) : State :=
  match capNow s with
  | none => s
  | some i =>
    if count = 0 ∨ s.cap.limit < count ∨ !capLasted count s then s else
    let sum := s.cap.sum + count
    let k := s.cap.k + 1
    let s1 := elUpd i (fun x => { x with last := count }) s
    if k < 2 ^ capOsr s then capMeasure (capUpd (fun c => { c with k := k, sum := sum }) s1)
    else capNext (capRaw i ((sum + 2 ^ capOsr s / 2) / 2 ^ capOsr s) s1)

/-! ## CAPLEARN (R500) -/

/-- The arguments of a start fit: a duration of 10 to 60 000 ms, and a mask with an electrode of CAP_EN.MASK. -/
def learnOk (mask dur : Nat) (s : State) : Bool := decide (10 ≤ dur ∧ dur ≤ 60000) && (mask &&& s.get F.CAP_EN_MASK) != 0

/-- An accepted start waits for the next scan. -/
def learnBegin (mask dur : Nat) (s : State) : State :=
  capUpd (fun c => { c with mask := mask, dur := dur, from_ := none, el := c.el.map (fun e => { e with n := 0, sum := 0, min := 0, max := 0, leaked := false }) }) s

/-- LEARN by firmware. -/
def learnStart (mask : Nat) (s : State) : State :=
  let dur := s.get F.CAP_LEARNT_LEARNT
  if s.lop[(4 : Fin 5)].running then s.put F.CAP_FLT_BUSY 1
  else if learnOk mask dur s then learnBegin mask dur (lopStart 4 none dur s)
  else s.put F.CAP_FLT_LRNREF 1

/-- An electrode's status (DESIGN CHOICE, log entry 65). -/
def learnStatus (e : Electrode) (spread : Nat) : Nat :=
  if e.n < 4 then 1 else if spread * roundDiv e.sum e.n < (e.max - e.min) * 1024 then 2 else if e.leaked then 3 else 0

/-- One electrode is classified and its record appended. -/
def learnOne (i : Fin 16) (s : State) : State :=
  let e := s.cap.el[i]
  let mean := if e.n = 0 then 0 else roundDiv e.sum e.n
  let st := learnStatus e (s.get F.CAP_DEC_SPREAD)
  let s1 := if st = 0 then ((s.put (F.CAPi_DRY_DRY i) mean).put (F.CAPi_BL_BL i) (mean * 16)).put (F.CAPi_STAT_DRYV i) 1 else s
  lopRecord 4 16 ([b8 i, b8 st] ++ bytesOfNat 2 mean ++ bytesOfNat 2 e.min ++ bytesOfNat 2 e.max ++ bytesOfNat 2 e.n) s1

/-- The mask of the electrodes that learned. -/
def learned (s : State) : Nat :=
  ((List.finRange 16).map (fun (i : Fin 16) =>
    if s.cap.mask.testBit i && learnStatus s.cap.el[i] (s.get F.CAP_DEC_SPREAD) == 0 then 2 ^ i.val else 0)).sum

/-- The operation ends: log code 0x0004 with its state and the mask learned. -/
def learnFinish (state mask : Nat) (s : State) : State :=
  (capUpd (fun c => { c with from_ := none, mask := 0 }) (lopEnd 4 state (s.cancel .learnEnd))).logReq 0x13 0x0004 ([0xFF, b8 state] ++ bytesOfNat 2 mask)

/-- LEARN_END. -/
def learnDone (s : State) : State :=
  if !s.lop[(4 : Fin 5)].running then s
  else
    let s1 := s.lopUpd 4 (fun l => { l with done := l.planned })
    learnFinish lopDONE (learned s) (s1.each ((List.finRange 16).filter (fun (i : Fin 16) => s.cap.mask.testBit i)) learnOne)

/-- ABORT: no record, no DRY changed (R499, R500). -/
def learnAbort (s : State) : State := if s.lop[(4 : Fin 5)].running then learnFinish lopABORTED 0 s else s

/-- RECAL of the electrodes of a mask (R499). -/
def capRecal (mask : Nat) (s : State) : State := s.each ((List.finRange 16).filter (fun (i : Fin 16) => mask.testBit i)) (fun i => elUpd i (fun e => { e with recal := true }))

/-- A firmware write of CAPi_DRY sets DRYV (R500). -/
def dryWrite (i : Fin 16) (value : Word) (s : State) : State := (s.wr (Reg.CAPi_DRY i) value).put (F.CAPi_STAT_DRYV i) 1

/-! ## Meanings -/

/-- SCAN_START (R494). -/
def execScanStart (s : State) : Out := .next (scanStart s)

/-- DISCHARGE_CHECK: the level of the ball, sampled once a measurement, from the last cycle of its discharge on (R491) (DESIGN CHOICE, log entry 44). -/
def execDischargeCheck (high : Bool) (s : State) : Out :=
  .next (if (capNow s).isNone || s.cap.sampled || decide (s.clk.ns < s.cap.began + 996) then s
    else (capUpd (fun c => { c with sampled := true }) s).when high (measureFail 1))

/-- MEASUREMENT_END: the integrator has crossed its threshold at a transfer count (R491). -/
def execMeasurementEnd (count : BitVec 16) (s : State) : Out := .next (measureEnd count.toNat s)

/-- MEASUREMENT_TIMEOUT: MAXCNT transfers without a crossing (R491). -/
def execMeasurementTimeout (s : State) : Out :=
  .next (match capNow s with
    | none => s
    | some i => if capLasted s.cap.limit s then measureFail 2 (elUpd i (fun e => { e with last := s.cap.limit }) s) else s)

/-- SCAN: CAP_ACT action 0x01 (R494). -/
def execScan (ticket : Byte) (arg : BitVec 16) (s : State) : Out := .next (s.actAt Reg.CAP_ACT ticket arg 1 scanRequest)

/-- CAPLEARN: CAP_ACT action 0x02, or long operation 0x05 of a host descriptor with its mask in P4 and its duration in P5 (R383, R500). -/
def execCaplearn (via : Via) (s : State) : Out :=
  .next (match via with
    | .action ticket arg => s.actAt Reg.CAP_ACT ticket arg 2 (learnStart arg.toNat)
    | .host slot =>
      let mask := descP slot 4 s % 65536
      let dur := descP slot 5 s
      lopHostStart 4 slot ((List.range 16).filter (fun i => mask.testBit i)).length 16 (decide (descP slot 4 s < 65536) && learnOk mask dur s) dur (learnBegin mask dur) s)

/-- LEARN_END (R500). -/
def execLearnEnd (s : State) : Out := .next (learnDone s)

/-- RECAL: CAP_ACT action 0x03 (R499). -/
def execRecal (ticket : Byte) (arg : BitVec 16) (s : State) : Out := .next (s.actAt Reg.CAP_ACT ticket arg 3 (capRecal arg.toNat))

/-- CAP_ABORT: CAP_ACT action 0x04 (R499). -/
def execCapAbort (ticket : Byte) (arg : BitVec 16) (s : State) : Out := .next (s.actAt Reg.CAP_ACT ticket arg 4 learnAbort)

end Sys2Proof.Machine
end

