-- ==== Sys2Proof/Machine/Cnt.lean ====
section
/-!
DEFINITION. Machine/Cnt.lean: the counter units CU0 to CU23 (spec/08_counters_events.md, R221 to R235, R246). A unit's actions act
when they reach it; CU_COUNT_STEP is the unit's evaluation at the end of an AO cycle.
-/
namespace Sys2Proof.Machine

/-- A counter unit's hidden state replaced. -/
def State.cuUpd (s : State) (n : Fin 24) (f : Cu → Cu) : State := { s with cu := updAt s.cu n f }

/-- The unit's count step of the present AO cycle has run: what is written or read now is of this cycle still, and acts on the step of the next (R221,
R223 to R232) (DEDUCED, log entry 49). -/
def cuPast (n : Fin 24) (s : State) : Bool := s.clk.ns % 10 == 9 && decide (3 ≤ s.clk.stage) && !s.pending.contains (.cuCountStep n)

/-- The pending period becomes the active one, unless it was written in this very AO cycle or an IMMEDIATE write supersedes it (R227, R228). -/
def cuLoadPeriod (n : Fin 24) (s : State) : State :=
  if s.on (F.CUn_STAT_PEND n) && !(s.cu[n].pendNow) && s.cu[n].imm.isNone then
    (s.put (F.CUn_PERACT_PERACT n) (s.get (F.CUn_PERIOD_PERIOD n))).put (F.CUn_STAT_PEND n) 0
  else s

/-- COUNT at the start of the AO cycle is remembered before a write changes it (R223). -/
def cuKeepStart (n : Fin 24) (s : State) : State :=
  if cuPast n s then s else s.cuUpd n (fun c => { c with start := some (c.start.getD (s.get (F.CUn_COUNT_COUNT n))) })

/-- RESET: COUNT becomes 0, the shadow PERIOD loads (R223 step 2). -/
def cuReset (n : Fin 24) (s : State) : State := cuLoadPeriod n (s.put (F.CUn_COUNT_COUNT n) 0)

/-- START: on an enabled, stopped unit RUN becomes 1 and the shadow PERIOD loads (R223 step 4, R228). -/
def cuStart (n : Fin 24) (s : State) : State :=
  if s.on (F.CUn_CTL_EN n) && !s.on (F.CUn_STAT_RUN n) then
    (cuLoadPeriod n (s.put (F.CUn_STAT_RUN n) 1)).cuUpd n (fun c => { c with first := true })
  else s

/-- Capture: CUn_CAP takes the COUNT held at the start of the cycle; CAPF sets; OVF sets where the value before it is unread
(R223 step 1, R231, R232). -/
def cuCapture (n : Fin 24) (s : State) : State :=
  if s.on (F.CUn_CTL_EN n) then
    let v := (s.cu[n].start).getD (s.get (F.CUn_COUNT_COUNT n))
    let was := (s.clk.ns / 10, s.rd (Reg.CUn_CAP n), s.on (F.CUn_STAT_OVF n))
    let s1 := ((s.cuUpd n (fun c => { c with capWas := some was })).put (F.CUn_CAP_CAP n) v).put (F.CUn_CAPPK_CAP n) v
    let s2 := s1.when (s.on (F.CUn_STAT_CAPF n)) (fun t => t.put (F.CUn_STAT_OVF n) 1)
    (s2.put (F.CUn_STAT_CAPF n) 1).fire (3 * n + 2)
  else s

/-- The action of a sink, a link or of CNT_ACT by its code reaches the unit; the end of the AO cycle applies what has reached it (R223, R246). -/
def cuAction (n : Fin 24) (code : Nat) (s : State) : State :=
  s.cuUpd n (fun c => { c with
    capt := c.capt || (([4, 5, 6] : List Nat).contains code)
    reset := c.reset || (([2, 3, 5] : List Nat).contains code)
    go := c.go || (([1, 3, 6] : List Nat).contains code) })

/-- The sink 64 + n acts as CUn_CTL.SINKACT selects (R243, R246). -/
def cuSink (n : Fin 24) (s : State) : State := cuAction n (s.get (F.CUn_CTL_SINKACT n)) s

/-- A link action: none, START, RESET or START_RESET reaches the target at the start of the next AO cycle; a target above 23 is none (R233). -/
def cuLink (n : Fin 24) (toTgt : Bool) (act : Nat) (s : State) : State :=
  let tgt := if toTgt then s.get (F.CUn_LINK_TGT n) else n.val
  if h : tgt < 24 then
    (if act = 0 then s else s.after (10 - s.clk.ns % 10) (.linkAction ⟨tgt, h⟩ (Fin.ofNat 4 act)))
  else s

/-- The PERIOD event: PF, source 3n + 1, its link action, a pending period loads (R224, R227, R233, R235). -/
def cuPeriodEvent (n : Fin 24) (s : State) : State :=
  let s1 := cuLoadPeriod n ((s.put (F.CUn_STAT_PF n) 1).fire (3 * n + 1))
  cuLink n (s1.on (F.CUn_LINK_PTGT n)) (s1.get (F.CUn_LINK_PACT n)) s1

/-- The match events of a step whose taken values are the given test: MAF, MBF, source 3n once, link actions (R225, R235). -/
def cuMatches (n : Fin 24) (taken : Nat → Bool) (s : State) : State :=
  let a := taken ((s.cu[n].ma).getD (s.rd (Reg.CUn_MATCHA n))).toNat
  let b := taken ((s.cu[n].mb).getD (s.rd (Reg.CUn_MATCHB n))).toNat
  let s1 := s.when a (fun t => cuLink n (t.on (F.CUn_LINK_ATGT n)) (t.get (F.CUn_LINK_AACT n)) (t.put (F.CUn_STAT_MAF n) 1))
  let s2 := s1.when b (fun t => cuLink n (t.on (F.CUn_LINK_BTGT n)) (t.get (F.CUn_LINK_BACT n)) (t.put (F.CUn_STAT_MBF n) 1))
  s2.when (a || (b && s.on (F.CUn_CTL_MBSRC n))) (fun t => t.fire (3 * n))

/-- A period event that leaves COUNT at 0, discards the step's ticks and raises no match: the shrink of R228, which ends a
one-shot run as any period event does (R234). -/
def cuShrink (n : Fin 24) (s : State) : State :=
  let s1 := cuPeriodEvent n (s.put (F.CUn_COUNT_COUNT n) 0)
  s1.when (s.on (F.CUn_CTL_ONESHOT n)) (fun t => t.put (F.CUn_STAT_RUN n) 0)

/-- Counting up by `k` ticks under an active period `p` (R224, R225, R234). -/
def cuUp (n : Fin 24) (k p : Nat) (s : State) : State :=
  let c := s.get (F.CUn_COUNT_COUNT n)
  if c + k ≤ p then
    cuMatches n (fun m => c < m && m ≤ c + k) (s.put (F.CUn_COUNT_COUNT n) (c + k))
  else if s.on (F.CUn_CTL_ONESHOT n) then
    ((cuPeriodEvent n (cuMatches n (fun m => c < m && m ≤ p) s)).put (F.CUn_COUNT_COUNT n) 0).put (F.CUn_STAT_RUN n) 0
  else
    let past := c + k - (p + 1)
    let miss := p < past
    let s1 := cuMatches n (fun m => m ≤ p && (miss || c < m || m ≤ past % (p + 1))) s
    (cuPeriodEvent n (s1.put (F.CUn_COUNT_COUNT n) (past % (p + 1)))).when miss (fun t => t.put (F.CUn_STAT_PMISS n) 1)

/-- Counting down by `k` ticks in UPDOWN mode (R226, R234). -/
def cuDown (n : Fin 24) (k p : Nat) (s : State) : State :=
  let c := s.get (F.CUn_COUNT_COUNT n)
  if k ≤ c then
    cuMatches n (fun m => m ≤ p && c - k ≤ m && m < c) (s.put (F.CUn_COUNT_COUNT n) (c - k))
  else if s.on (F.CUn_CTL_ONESHOT n) then
    (((cuPeriodEvent n (cuMatches n (fun m => m ≤ p && m < c) s)).put (F.CUn_COUNT_COUNT n) 0).put (F.CUn_STAT_RUN n) 0).put (F.CUn_STAT_DN n) 1
  else
    let fin := (((c : Int) - k) % ((p : Int) + 1)).toNat
    let miss := (c : Int) - k < -((p : Int) + 1)
    let s1 := cuMatches n (fun m => m ≤ p && (miss || m < c || fin ≤ m)) s
    ((cuPeriodEvent n (s1.put (F.CUn_COUNT_COUNT n) fin)).put (F.CUn_STAT_DN n) 1).when miss (fun t => t.put (F.CUn_STAT_PMISS n) 1)

/-- The signed ticks a domain delivers in the AO cycle: crossings of multiples of 2^-TICKSH turn by the angle travelled since
the cycle's start and still to travel to its end, at the motion of the present loop-clock cycle (R62); TICKSH above 12 acts as 12
(DEDUCED, log entry 17). -/
def domTicks (d : Fin 8) (s : State) : Int :=
  let unit : Int := 2 ^ (48 - min (s.get (F.ANGn_CTL_TICKSH d)) 12)
  let a : Int := (s.dom[d].aoAcc.toNat % 2 ^ 48 : Nat)
  (a + s.dom[d].travel + s.motion d * (10 - s.clk.ns % 10 : Nat)).fdiv unit - a.fdiv unit

/-- The ticks of the AO cycle for a unit: one for the AO clock, else those of its domain (R222) (DEDUCED, log entry 17). -/
def cuTicks (n : Fin 24) (s : State) : Int :=
  if s.on (F.CUn_CTL_CLK n) then domTicks (Fin.ofNat 8 (s.get (F.CUn_CTL_DOM n))) s else 1

/-- The count part of the step: nothing while stopped; the period checks of R228; then R224 to R226. -/
def cuCount (n : Fin 24) (checked : Bool) (s : State) : State :=
  let p := s.get (F.CUn_PERACT_PERACT n)
  let k := cuTicks n s
  if !s.on (F.CUn_STAT_RUN n) then s
  else if checked && p ≤ s.get (F.CUn_COUNT_COUNT n) then cuShrink n s
  else if 0 < k then cuUp n k.toNat p s
  else if k < 0 && s.on (F.CUn_CTL_DIRMODE n) then cuDown n (-k).toNat p s
  else s

/-- An IMMEDIATE period written in the cycle before becomes the active one; a shadow written since stays pending (R228). -/
def cuImmediate (n : Fin 24) (s : State) : State :=
  match s.cu[n].immNow with
  | some v => (s.put (F.CUn_PERACT_PERACT n) v.1.toNat).when (!s.cu[n].pendNow && !v.2) (fun t => t.put (F.CUn_STAT_PEND n) 0)
  | none => s

/-- The end of an AO cycle for a unit: capture, RESET or the count, START, each as it has reached the unit; then the marks of the cycle are
dropped. A read of CUn_COUNT in this cycle whose answer stands takes the COUNT that the cycle leaves (R221, R223). -/
def cuCountStep (n : Fin 24) (s : State) : State :=
  let c := s.cu[n]
  let s1 := (cuImmediate n (s.cuUpd n (fun x => { x with capWas := none }))).when c.capt (cuCapture n)
  let s2 := if c.reset then cuReset n s1
    else (cuCount n (c.immNow.isSome || c.first) s1).cuUpd n (fun c => { c with first := c.first && !s.on (F.CUn_STAT_RUN n) })
  let s3 := s2.when c.go (cuStart n)
  let s4 : State := { s3 with rdata := if c.read = some s.rdata then s3.rd (Reg.CUn_COUNT n) else s3.rdata }
  s4.cuUpd n (fun x => { x with
    read := none, start := none, capt := false, reset := false, go := false, immNow := x.imm, imm := none, pendNow := false, ma := none, mb := none })

/-- A write that R230 ignores is flagged and logged with the register's offset (R230, R247). -/
def cuRunWrite (n : Fin 24) (off : Nat) (s : State) : State :=
  (s.put F.CNT_FLT_RUNWR 1).logReq 0x08 0x0001 (b8 n :: bytesOfNat 2 off)

/-- A write of CUn_CTL: EN = 0 clears RUN (R221); while RUN = 1 a change of CLK, DOM or DIRMODE is ignored (R230). -/
def cuCtlWrite (n : Fin 24) (old new : Word) (s : State) : State :=
  let locked : Word := fldMask (F.CUn_CTL_CLK 0) ||| fldMask (F.CUn_CTL_DOM 0) ||| fldMask (F.CUn_CTL_DIRMODE 0)
  let changed := (old ^^^ new) &&& locked ≠ 0
  let s1 := if s.on (F.CUn_STAT_RUN n) ∧ changed then
      cuRunWrite n (0x100 + n * 0x40) (s.wr (Reg.CUn_CTL n) ((new &&& ~~~locked) ||| (old &&& locked)))
    else s.wr (Reg.CUn_CTL n) new
  s1.when (!s1.on (F.CUn_CTL_EN n)) (fun t => t.put (F.CUn_STAT_RUN n) 0)

/-- A write of CUn_COUNT: stored while stopped, ignored and flagged while running (R230). -/
def cuCountWrite (n : Fin 24) (v : Word) (s : State) : State :=
  if s.on (F.CUn_STAT_RUN n) then cuRunWrite n (0x104 + n * 0x40) s
  else (cuKeepStart n s).put (F.CUn_COUNT_COUNT n) v.toNat

/-- A write of CUn_MATCHA or CUn_MATCHB applies from the next cycle's count step (R229). -/
def cuMatchWrite (n : Fin 24) (isB : Bool) (v : Word) (s : State) : State :=
  if cuPast n s then s.wr (if isB then Reg.CUn_MATCHB n else Reg.CUn_MATCHA n) v
  else if isB then (s.cuUpd n (fun c => { c with mb := some (c.mb.getD (s.rd (Reg.CUn_MATCHB n))) })).wr (Reg.CUn_MATCHB n) v
  else (s.cuUpd n (fun c => { c with ma := some (c.ma.getD (s.rd (Reg.CUn_MATCHA n))) })).wr (Reg.CUn_MATCHA n) v

/-- A write of CUn_PERIOD: to the shadow with PEND, or for the next cycle's count step in IMMEDIATE mode (R227, R228). -/
def cuPeriodWrite (n : Fin 24) (v : Word) (s : State) : State :=
  let s1 := s.wr (Reg.CUn_PERIOD n) v
  let past := cuPast n s
  if s.on (F.CUn_CTL_LOADMODE n) then s1.cuUpd n (fun c => if past then { c with immNow := some (v, false) } else { c with imm := some (v, false) })
  else (s1.put (F.CUn_STAT_PEND n) 1).cuUpd n (fun c => if past then { c with immNow := c.immNow.map (fun x => (x.1, true)) }
    else { c with pendNow := true, imm := c.imm.map (fun x => (x.1, true)) })

/-- A read of CUn_CAP: returns the value and clears CAPF. A capture of the same cycle follows it, at the cycle's end; a read after that end, in the
cycle still, returns the value from before the capture, whose CAPF stays and which sets no OVF (R231, R232). -/
def cuCaptureRead (n : Fin 24) (s : State) : State :=
  match s.cu[n].capWas with
  | some (cyc, v, ovf) =>
    if cyc = s.clk.ns / 10 then ({ s with rdata := v } : State).putB (F.CUn_STAT_OVF n) ovf
    else ({ s with rdata := s.rd (Reg.CUn_CAP n) } : State).put (F.CUn_STAT_CAPF n) 0
  | none => ({ s with rdata := s.rd (Reg.CUn_CAP n) } : State).put (F.CUn_STAT_CAPF n) 0

/-- What CUn_COUNT reads: COUNT as it stands at the end of the AO cycle, by what has reached the unit so far (R221) (DEDUCED, log entry 49). -/
def cuCountWord (n : Fin 24) (s : State) : Word := (if cuPast n s then s else cuCountStep n s).rd (Reg.CUn_COUNT n)

/-- A read of CUn_COUNT: its answer follows what reaches the unit up to the end of the AO cycle (R221) (DEDUCED, log entry 49). -/
def cuCountRead (n : Fin 24) (s : State) : State :=
  let v := cuCountWord n s
  { s.cuUpd n (fun c => { c with read := if cuPast n s then c.read else some v }) with rdata := v }

/-- CNT_ACT: the action on the unit of ARG[4:0]; a unit above 23 and an unlisted code do nothing (R246). -/
def cntAct (arg : BitVec 16) (action : Byte) (s : State) : State :=
  if h : arg.toNat % 32 < 24 then (if action.toNat ≤ 4 then cuAction ⟨arg.toNat % 32, h⟩ action.toNat s else s) else s

/-! ## Meanings -/

/-- CU_COUNT_STEP (R223). -/
def execCuCountStep (n : Fin 24) (s : State) : Out := .next (cuCountStep n s)

/-- CU_START: CNT_ACT action 0x01 (R246). -/
def execCuStart (ticket : Byte) (arg : BitVec 16) (s : State) : Out := .next (s.act Reg.CNT_ACT ticket arg 1 (cntAct arg 1))

/-- CU_RESET: CNT_ACT action 0x02 (R246). -/
def execCuReset (ticket : Byte) (arg : BitVec 16) (s : State) : Out := .next (s.act Reg.CNT_ACT ticket arg 2 (cntAct arg 2))

/-- START_RESET: CNT_ACT action 0x03 (R246). -/
def execStartReset (ticket : Byte) (arg : BitVec 16) (s : State) : Out := .next (s.act Reg.CNT_ACT ticket arg 3 (cntAct arg 3))

/-- CAPTURE: CNT_ACT action 0x04 (R231, R246). -/
def execCapture (ticket : Byte) (arg : BitVec 16) (s : State) : Out := .next (s.act Reg.CNT_ACT ticket arg 4 (cntAct arg 4))

/-- LINK_ACTION: the linked action reaches its target (R233). -/
def execLinkAction (n : Fin 24) (action : Fin 4) (s : State) : Out := .next (cuAction n action.val s)

/-- PERIOD_WRITE (R227, R228). -/
def execPeriodWrite (n : Fin 24) (value : Word) (s : State) : Out := .next (cuPeriodWrite n value s)

/-- CAPTURE_READ (R231, R232). -/
def execCaptureRead (n : Fin 24) (s : State) : Out := .next (cuCaptureRead n s)

end Sys2Proof.Machine
end

