-- ==== Sys2Proof/Machine/Mot.lean ====
section
/-!
DEFINITION. Machine/Mot.lean: the motor engines (spec/17_motor_feedback.md, R464 to R480).
-/
namespace Sys2Proof.Machine

/-! ## Outputs (R464 to R467) -/

/-- DT and MINPULSE as they act (R466, R490). -/
def motDt (m : Fin 4) (s : State) : Nat := clampNat (s.get (F.MOTm_DT_DT m)) 5 500
def motMin (m : Fin 4) (s : State) : Nat := clampNat (s.get (F.MOTm_DT_MINPULSE m)) (motDt m s + 1) 1000

/-- PER as it acts: even, 2 500 to 31 250 (R465). -/
def motPer (m : Fin 4) (s : State) : Nat := clampNat (s.get (F.MOTm_PWM_PER m) / 2 * 2) 2500 31250

/-- TONMAX of a period (R471). -/
def motTonMax (m : Fin 4) (per : Nat) (s : State) : Nat := per - 2 * (motDt m s + (s.get (F.MOTm_DT_SDLY m) * 25 + 125))

/-- The low and the high switch of a phase at an offset into the period, in 4 ns cycles: the low switch is off from `start` to
`stop` + DT, the high switch on from `start` + DT to `stop`; a pulse of no length leaves the low switch on (R466). -/
def lowOn (dt : Nat) (p : MotPulse) (t : Nat) : Bool := p.start == p.stop || decide (t < p.start) || decide (p.stop + dt ≤ t)
def highOn (dt : Nat) (p : MotPulse) (t : Nat) : Bool := p.start != p.stop && decide (p.start + dt ≤ t) && decide (t < p.stop)

/-- The level of an output pin of a motor at the present cycle: every output is low outside ALIGN and RUN and while PD26 + m is off (R464). -/
def motPin (m : Fin 4) (x : Fin 3) (high : Bool) (s : State) : Bool :=
  let t := (s.clk.ns - s.mot[m].perAt) / 4
  motSwitches m s && pdOn (26 + m.val) s && (if high then highOn (motDt m s) s.mot[m].phase[x] t else lowOn (motDt m s) s.mot[m].phase[x] t)

/-- What a phase's carry makes of an on-time: the pulse's length, the new carry, and what it counts: 1 SUPP, 2 SHORT (R467). -/
def motPulse (spm dt minP tonMax on carry : Nat) : Nat × Nat × Nat :=
  let w := on + carry
  if on = 0 then (0, carry, 0)
  else if w ≤ dt then (0, if spm = 1 ∨ spm = 2 then 0 else w, 1)
  else if w < minP then (if spm = 2 then (minP, 0, 2) else if spm = 1 then (0, 0, 2) else (0, w, 2))
  else (min w tonMax, 0, 0)

/-- A phase begins its pulse of a period with an on-time (R466, R467). -/
def motPhase (m : Fin 4) (x : Fin 3) (per on : Nat) (s : State) : State :=
  let p := s.mot[m].phase[x]
  let r := motPulse (s.get (F.MOTm_CTL_SPM m)) (motDt m s) (motMin m s) (motTonMax m per s) on p.carry
  let start := per / 2 - r.1 / 2
  let s1 := motUpd m (fun y => { y with phase := updAt y.phase x (fun _ =>
    if r.1 = 0 then { start := 0, stop := 0, carry := r.2.1, on := on } else { start := start, stop := start + r.1, carry := r.2.1, on := on }) }) s
  if r.2.2 = 1 then s1.inc (F.MOTm_CNT_SUPP m) else if r.2.2 = 2 then s1.inc (F.MOTm_CNT_SHORT m) else s1

/-! ## Enable, disable, inert (R475 to R477) -/

/-- Why an enable is refused: 1 a domain is off or the lane unserved, 2 bad domain, 3 channel off, 4 fault present (R89, R475). -/
def motRefusal (m : Fin 4) (s : State) : Option Nat :=
  let d := motorDom m s
  let f := motorFb m s
  if !pdOn (26 + m.val) s || !pdOn 48 s || s.get (gLaneFld 2 (m.val / 2)) == 15 || (f < 4 && !pdOn (50 + f) s) then some 1
  else if !s.on (F.ANGn_CTL_EN d) || f == 4 then some 2
  else if !s.on (F.FBf_CTL_EN f) then some 3
  else if motRaw m 1 s || motRaw m 2 s then some 4
  else none

/-- ALIGN where it is asked for and THOFS is not valid, else RUN (R475). -/
def motStart (m : Fin 4) (s : State) : Nat := if s.on (F.MOTm_CTL_ALIGN m) && !s.on (F.MOTm_STAT_THV m) then moALIGN else moRUN

/-- IQREF as it acts, and the condition of STALL (R470, R478). -/
def motIqRef (m : Fin 4) (s : State) : Int :=
  let lim : Int := s.get (F.MOTm_IQMAX_IQMAX m)
  clampInt (s.getI (F.MOTm_REF_IQREF m)) (-lim) lim
def stallNow (m : Fin 4) (s : State) : Bool :=
  motorEn m s && motSwitches m s && (motIqRef m s).natAbs == s.get (F.MOTm_IQMAX_IQMAX m) &&
    decide ((s.getI (F.MOTm_SPEED_SPEED m)).natAbs < s.get (F.MOTm_STALL_STALLSPD m) * 16)

/-- STALLT in nanoseconds (R478). -/
def stallNs (m : Fin 4) (s : State) : Nat := s.get (F.MOTm_STALL_STALLT m) * 10000000

/-- The stall timer runs while the condition lasts and follows a write of STALLT; without the condition fault STALL is absent (R478). -/
def stallWatch (m : Fin 4) (s : State) : State :=
  if stallNow m s then
    match s.mot[m].stallFrom with
    | none => (motUpd m (fun x => { x with stallFrom := some s.clk.ns }) s).restart (stallNs m s) (.stall m)
    | some t => if s.bit (F.MOTm_STAT_COND m) 5 then s else s.restart (t + stallNs m s - s.clk.ns) (.stall m)
  else motSetCond m 5 false 0 ((motUpd m (fun x => { x with stallFrom := none }) s).cancel (.stall m))

/-- A write of MOTm_CTL with EN = 1: refused and logged, or ALIGN or RUN; the first period starts in the next peripheral-clock cycle
(R465, R475). A motor that is enabled takes the other fields, and its conditions follow (R478). -/
def motEnable (m : Fin 4) (value : Word) (s : State) : State :=
  if motorEn m s then stallWatch m (motCheck m (s.wr (Reg.MOTm_CTL m) value))
  else
    let s0 := (s.wr (Reg.MOTm_CTL m) value).put (F.MOTm_CTL_EN m) 0
    match motRefusal m s0 with
    | some why => (s0.setBit F.MOT_FLT_ENREF m).logReq 0x11 0x0002 [b8 m, b8 why]
    | none =>
      let s1 := motEnter m (motStart m s0) (s0.put (F.MOTm_CTL_EN m) 1)
      stallWatch m (motWatch m 0 0 (s1.restart (4 - s.clk.ns % 4) (.pwmPeriodStart m)))

/-- A write of EN = 0 (R477) (DESIGN CHOICE, log entry 65). -/
def motDisable (m : Fin 4) (value : Word) (s : State) : State :=
  let s1 := (s.wr (Reg.MOTm_CTL m) value).put (F.MOTm_CTL_EN m) 0
  (motCarrierOff m (motEnter m moOFF s1)).put (F.MOTm_STAT_COND m) 0

/-- INERT acts in ALIGN and RUN (R477). -/
def motInert (m : Fin 4) (s : State) : State := if motSwitches m s then stallWatch m (motCheck m (motEnter m moINERT s)) else s

/-- RELEASE acts in INERT, at the next period start (R477). -/
def motRelease (m : Fin 4) (s : State) : State := if motSt m s = moINERT then motUpd m (fun x => { x with release := true }) s else s

/-- CLEAR: from FAULT to OFF, refused while a condition with response LATCH_OFF is present (R480). -/
def motClear (m : Fin 4) (s0 : State) : State :=
  if motSt m s0 ≠ moFAULT then s0
  else
    let s := motCheck m s0
    let mask := s.get (F.MOTm_STAT_COND m)
    if (List.range 7).any (fun f => mask.testBit f && motResp m f s == 4) then (s.setBit F.MOT_FLT_CLRREF m).logReq 0x11 0x0004 [b8 m, b8 mask]
    else motUpd m (fun x => { x with cleared := some (s.clk.ns / 4, mask) }) (motDisable m (s.rd (Reg.MOTm_CTL m)) s)

/-- A write of MOTm_RESP: a code outside a fault's allowed set leaves that field and sets BADRESP (R478). -/
def motRespOk (f c : Nat) : Bool :=
  match f with
  | 0 => c == 1 || c == 4
  | 1 => c == 4
  | 2 => c == 4
  | 3 => c == 0 || c == 1 || c == 4
  | 4 => c == 1 || c == 4
  | 5 => c == 1 || c == 4
  | _ => c == 0 || c == 1
def motRespWrite (m : Fin 4) (value : Word) (s : State) : State :=
  let new := fun (f : Nat) => value.toNat / 2 ^ (3 * f) % 8
  let bad := (List.range 7).any (fun f => !motRespOk f (new f))
  let v := ((List.range 7).map (fun f => (if motRespOk f (new f) then new f else motResp m f s) * 2 ^ (3 * f))).sum
  (s.put (F.MOTm_RESP_RESP m) v).when bad (fun t => t.put F.MOT_FLT_BADRESP 1)

/-- A write of MOTm_LIM: the conditions follow it (R478). -/
def motLimWrite (m : Fin 4) (value : Word) (s : State) : State := motCheck m (s.wr (Reg.MOTm_LIM m) value)

/-- A firmware write of MOTm_THOFS sets THV (R476). -/
def motThofsWrite (m : Fin 4) (value : Word) (s : State) : State := (s.wr (Reg.MOTm_THOFS m) value).put (F.MOTm_STAT_THV m) 1

/-! ## The period (R465, R472, R476) -/

/-- The rotor's fraction of a turn in 2^-16, ANG[23:8], `ns` from now at the domain's rate (R468). -/
def motAngle (m : Fin 4) (ns : Nat) (s : State) : Nat :=
  let x := s.dom[motorDom m s]
  (x.acc + BitVec.ofInt 56 (x.rate * ns)).toNat % 2 ^ 48 / 2 ^ 32

/-- The alignment is done: THOFS, both integrators, THV, log code 0x0003, RUN (R476). -/
def motAligned (m : Fin 4) (s : State) : State :=
  if motSt m s ≠ moALIGN then s
  else
    let th := (65536 - motAngle m 0 s) % 65536
    let s1 := motUpd m (fun x => { x with accD := 0, accQ := 0 }) (((s.put (F.MOTm_THOFS_THOFS m) th).put (F.MOTm_STAT_THV m) 1))
    motEnter m moRUN (s1.logReq 0x11 0x0003 (b8 m :: bytesOfNat 2 th))

/-- ALIGNT has elapsed in ALIGN (R476). -/
def motAlignDue (m : Fin 4) (s : State) : Bool :=
  motSt m s == moALIGN && decide (s.mot[m].alignAt + zeroAsOne (s.get (F.MOTm_ALGN_ALIGNT m)) * 10000000 ≤ s.clk.ns)

/-- The state changes that wait for a period start: a release, and the end of an alignment (R476, R477). -/
def motTurn (m : Fin 4) (s : State) : State :=
  if motSt m s = moINERT ∧ s.mot[m].release then
    motUpd m (fun x => { x with accD := 0, accQ := 0 }) (motEnter m (motStart m s) s)
  else if motAlignDue m s then motAligned m s
  else s

/-- A period starts: the carrier's event, PER, waiting state changes, then the new on-times, or the previous ones and LATE
(R465, R467, R472) (DEDUCED, log entry 60). -/
def periodStart (m : Fin 4) (s : State) : State :=
  if !(motorEn m s) || motSt m s == moFAULT || motSt m s == moOFF then s
  else
    let per := motPer m s
    let next := s.mot[m].next
    let first := s.mot[m].first
    let s1 := (s.fire (136 + 2 * m.val)).restart (per * 4) (.pwmPeriodStart m)
    let s2 := motTurn m (motUpd m (fun x => { x with per := per, perAt := s.clk.ns }) s1)
    if !motSwitches m s2 then s2
    else
      let late := next.isNone && !first
      let on : Nat × Nat × Nat := match next with
        | some v => v
        | none => (s.mot[m].phase[(0 : Fin 3)].on, s.mot[m].phase[(1 : Fin 3)].on, s.mot[m].phase[(2 : Fin 3)].on)
      let on' := if first && next.isNone then (0, 0, 0) else on
      let s3 := motUpd m (fun x => { x with next := none, asked := false, first := false }) s2
      let s4 := motPhase m 2 per on'.2.2 (motPhase m 1 per on'.2.1 (motPhase m 0 per on'.1 s3))
      let s5 := s4.restart (s.get (F.MOTm_DT_SDLY m) * 100) (.currentSampleRequest m)
      let s6 := if late then motSetCond m 6 true 0 (s5.inc (F.MOTm_CNT_LATE m)) else motSetCond m 6 false 0 s5
      stallWatch m s6

/-! ## Current sampling (R468, R469) -/

/-- The rotor angle is latched where the aperture of the A conversion ends in this cycle (R468). -/
def motLatch (m : Fin 4) (s : State) : State :=
  match s.mot[m].apAt with
  | some t =>
    if t ≤ s.clk.ns then
      motUpd m (fun x => { x with apAt := none, theta := if motSt m s = moALIGN then 0 else (motAngle m 0 s + s.get (F.MOTm_THOFS_THOFS m)) % 65536 }) s
    else s
  | none => s

/-- The pair is requested: the lane takes it in turn, 200 ns for each pair; the aperture of the A conversion ends as its conversion begins (R468)
(DESIGN CHOICE, log entry 44). -/
def sampleRequest (m : Fin 4) (s : State) : State :=
  if !motSwitches m s then s
  else
    let ln : Fin 2 := Fin.ofNat 2 (m.val / 2)
    let at_ := max s.clk.ns s.mlane[ln]
    motLatch m (motUpd m (fun x => { x with apAt := some at_, asked := true, pairAt := at_ + 200 }) { s with mlane := updAt s.mlane ln (fun _ => at_ + 200) })

/-- A motor-current code is below 0.100 V (R101). -/
def mcurLow (code : Nat) : Bool := decide (code * 18 < 4096)

/-- The guard of R101 on a motor channel: the code used, and the run of below-range samples; the 16th sets GATH_MFLT. -/
def mcurGuard (ch : Fin 8) (code : Nat) (s : State) : State × Int :=
  let u := s.gath.mcur[ch]
  if mcurLow code then
    let n := min 16 (u.run + 1)
    let s1 : State := { s with gath := { s.gath with mcur := updAt s.gath.mcur ch (fun x => { x with run := n }) } }
    (if n = 16 ∧ u.run ≠ 16 then motorInputFault ch s1 else s1, u.lastValid.getD (s.get (F.MOTm_ISCL_IZERO (ch.val / 2))))
  else ({ s with gath := { s.gath with mcur := updAt s.gath.mcur ch (fun x => { x with run := 0, lastValid := some (code : Int) }) } }, (code : Int))

/-- The signed current of a code in mA, saturated to 16 bits (R469). -/
def motScale (m : Fin 4) (code : Int) (s : State) : Int :=
  clampInt (asr ((code - s.get (F.MOTm_ISCL_IZERO m)) * s.get (F.MOTm_ISCL_IGAIN m) + 128) 8) (-32768) 32767

/-! ## Current loop and modulation (R470, R471) -/

/-- One axis: the voltage command and the integrator after clamping to ±lim, and to ±VLIM × 2^12 (R470). -/
def motAxis (kp ki acc e lim vlim : Int) : Int × Int :=
  let acc1 := acc + ki * e
  let v := asr (kp * e + acc1) 12
  let out := clampInt v (-lim) lim
  let keep := (lim < v ∧ 0 < e) ∨ (v < -lim ∧ e < 0)
  (out, clampInt (if keep then acc else acc1) (-(vlim * 4096)) (vlim * 4096))

/-- The on-time of a phase voltage (R471). -/
def motOn (v voff : Int) (per tonMax : Nat) : Nat := (clampInt (asr ((v + voff + 32768) * per + 32768) 16) 0 tonMax).toNat

/-- A completed current pair: the d-q transform, both controllers, the modulation, and the detector of OC (R470, R471, R478). -/
def currentPair (m : Fin 4) (codeA codeB : Nat) (s0 : State) : State :=
  if !motSwitches m s0 || !s0.mot[m].asked then s0
  else
    let a := mcurGuard (Fin.ofNat 8 (2 * m.val)) codeA s0
    let b := mcurGuard (Fin.ofNat 8 (2 * m.val + 1)) codeB a.1
    let s := seqFeed 3 (2 * m.val + 1) (b.2 - 2048) (seqFeed 3 (2 * m.val) (a.2 - 2048) b.1)
    let ia := motScale m a.2 s
    let ib := motScale m b.2 s
    let ic := -ia - ib
    let align := motSt m s == moALIGN
    let th := s.mot[m].theta
    let ibeta := asr ((ia + 2 * ib) * 37837 + 32768) 16
    let id := asr (ia * cos16 th + ibeta * sin16 th) 15
    let iq := asr (-ia * sin16 th + ibeta * cos16 th) 15
    let lim : Int := s.get (F.MOTm_IQMAX_IQMAX m)
    let refD := if align then (s.get (F.MOTm_ALGN_IALIGN m) : Int) else clampInt (s.getI (F.MOTm_REF_IDREF m)) (-lim) lim
    let refQ := if align then 0 else motIqRef m s
    let vlim := min (s.get (F.MOTm_VLIM_VLIM m)) 37837
    let kp : Int := s.get (F.MOTm_CUR_KP m)
    let ki : Int := s.get (F.MOTm_CUR_KI m)
    let d := motAxis kp ki s.mot[m].accD (refD - id) vlim vlim
    let ql := isqrt (vlim * vlim - d.1.natAbs * d.1.natAbs)
    let q := motAxis kp ki s.mot[m].accQ (refQ - iq) ql vlim
    let per := s.mot[m].per
    let adv := asr (s.dom[motorDom m s].rate * 6 * per) 32
    let tho := if align then 0 else ((th + adv) % 65536).toNat
    let va := asr (d.1 * cos16 tho - q.1 * sin16 tho) 15
    let vbeta := asr (d.1 * sin16 tho + q.1 * cos16 tho) 15
    let vb := asr (-va + asr (vbeta * 113512) 16) 1
    let vc := -va - vb
    let voff := -(asr (max va (max vb vc) + min va (min vb vc)) 1)
    let ton := motTonMax m per s
    let s1 := motUpd m (fun x => { x with
      accD := d.2, accQ := q.2, asked := false, next := some (motOn va voff per ton, motOn vb voff per ton, motOn vc voff per ton) }) s
    let s2 := (((s1.putI (F.MOTm_IDQ_D m) id).putI (F.MOTm_IDQ_Q m) iq).putI (F.MOTm_VDQ_D m) d.1).putI (F.MOTm_VDQ_Q m) q.1
    let ioc := s.get (F.MOTm_LIM_IOC m)
    let hit := [ia, ib, ic].find? (fun i => decide (ioc ≤ i.natAbs))
    motSetCond m 0 hit.isSome (hit.getD 0) s2

/-! ## Meanings -/

/-- MOTOR_INERT: sink 104 + m, or MOT_ACT action 0x02 with its ticket (R477). -/
def execMotorInert (m : Fin 4) (ticket : Option Byte) (s : State) : Out :=
  .next (match ticket with
    | some t => s.act Reg.MOT_ACT t (BitVec.ofNat 16 m) 2 (motInert m)
    | none => motInert m s)

/-- MOTOR_RELEASE: MOT_ACT action 0x03 (R477). -/
def execMotorRelease (ticket : Byte) (arg : BitVec 16) (s : State) : Out :=
  .next (s.act Reg.MOT_ACT ticket arg 3 (motRelease (Fin.ofNat 4 arg.toNat)))

/-- MOTOR_CLEAR: MOT_ACT action 0x01 (R480). -/
def execMotorClear (ticket : Byte) (arg : BitVec 16) (s : State) : Out :=
  .next (s.act Reg.MOT_ACT ticket arg 1 (motClear (Fin.ofNat 4 arg.toNat)))

/-- PWM_PERIOD_START (R465). -/
def execPwmPeriodStart (m : Fin 4) (s : State) : Out := .next (periodStart m s)

/-- CURRENT_SAMPLE_REQUEST (R468). -/
def execCurrentSampleRequest (m : Fin 4) (s : State) : Out := .next (sampleRequest m s)

/-- CURRENT_PAIR_COMPLETE: the raw A and B conversions of a served lane, from the cycle on in which the pair that was asked for is complete
(R86, R89, R468, R470) (DESIGN CHOICE, log entry 44). -/
def execCurrentPairComplete (m : Fin 4) (a b : Conversion) (s : State) : Out :=
  let k := m.val / 2
  let t := s.mot[m].pairAt - 100
  if s.clk.ns < s.mot[m].pairAt ∨ !gServed 2 k t s then .next s
  else
    let x := gTake 2 k (t - 100) a.raw a.shadow s
    let y := gTake 2 k t b.raw b.shadow x.1
    .next (currentPair m x.2.toNat y.2.toNat y.1)

/-- ALIGNMENT_DONE: ALIGNT has elapsed (R476). -/
def execAlignmentDone (m : Fin 4) (s : State) : Out := .next (if motAlignDue m s then motAligned m s else s)

/-- DRIVER_FAULT: MOTm_FLT_N has been low for 1 us, or is high again (R478). -/
def execDriverFault (m : Fin 4) (low : Bool) (s : State) : Out := .next (motCheck m (motUpd m (fun x => { x with fltLow := low }) s))

/-- STALL: STALLT has elapsed with the condition present (R478). -/
def execStall (m : Fin 4) (s : State) : Out :=
  .next (if stallNow m s ∧ s.mot[m].stallFrom.any (fun t => t + stallNs m s ≤ s.clk.ns) then motSetCond m 5 true 0 s else s)

/-- MOTOR_INPUT_FAULT: 16 consecutive below-range samples of a motor-current channel (R101); fault ISNS of its motor (R478). -/
def execMotorInputFault (ch : Fin 8) (s : State) : Out := .next (motWatchAll (motorInputFault ch s))

end Sys2Proof.Machine
end

