-- ==== Sys2Proof/Machine/Fb.lean ====
section
/-!
DEFINITION. Machine/Fb.lean: the feedback channels (spec/17_motor_feedback.md, R481 to R487) and what their updates bring to the angle
domains and motors (R59, R473).
-/
namespace Sys2Proof.Machine

/-- A channel's hidden state replaced. -/
def fbUpd (f : Fin 4) (g : Fb → Fb) (s : State) : State := { s with fb := updAt s.fb f g }

/-- The channel works: enabled and powered (R481). -/
def fbOn (f : Fin 4) (s : State) : Bool := s.on (F.FBf_CTL_EN f) && pdOn (50 + f.val) s

/-- SINCOS is selected. -/
def fbSinCos (f : Fin 4) (s : State) : Bool := s.on (F.FBf_CTL_TYPE f)

/-- INTERP as it acts, and the positions of a revolution (R481). -/
def fbInterp (f : Fin 4) (s : State) : Nat := clampNat (s.get (F.FBf_CTL_INTERP f)) 2 12
def fbCpr (f : Fin 4) (s : State) : Nat :=
  zeroAsOne (s.get (F.FBf_LINES_LINES f)) * (if fbSinCos f s then 2 ^ fbInterp f s else 4)

/-- Both counts step by a signed number of positions, which DIR inverts (R481). -/
def fbStep (f : Fin 4) (k : Int) (s0 : State) : State :=
  let d : Word := BitVec.ofInt 32 (if s0.on (F.FBf_CTL_DIR f) then -k else k)
  let s := fbUpd f (fun x => { x with stepNow := some (s0.clk.ns / 4, d) }) s0
  (s.wr (Reg.FBf_POS f) (s.rd (Reg.FBf_POS f) + d)).wr (Reg.FBf_ACNT f) (s.rd (Reg.FBf_ACNT f) + d)

/-- THV clears in every motor whose domain this channel feeds (R476). -/
def fbThv (f : Fin 4) (s : State) : State :=
  s.each (List.finRange 4) (fun m t => if motorFb m t = f.val then t.put (F.MOTm_STAT_THV m) 0 else t)

/-- A feedback fault becomes present: its flag, source 145 + 2f, log code 0x0001: 1 WIRE, 2 PHASE, 3 RATE, 4 AMP, 5 INDEX (R487, R488); all
but INDEX clear THV (R476). -/
def fbFault (f : Fin 4) (kind pair : Nat) (s : State) : State :=
  let bit := if kind = 1 then pair else kind + 1
  let s1 := s.hw (Reg.FBf_FLT f) (fun w => w ||| BitVec.ofNat 32 (2 ^ bit))
  let s2 := (s1.fire (145 + 2 * f.val)).logReq 0x12 0x0001 ([b8 f, b8 kind, b8 (if kind = 1 then pair else 0)] ++ bytesOfWord (s1.rd (Reg.FBf_ACNT f)))
  if kind = 5 then s2 else fbThv f s2

/-- PHASE and RATE stay present for the update interval in which they occur (R487). -/
def fbPhase (f : Fin 4) (s : State) : State := if s.fb[f].phase then s else fbFault f 2 0 (fbUpd f (fun x => { x with phase := true }) s)
def fbRate (f : Fin 4) (s : State) : State := if s.fb[f].rate then s else fbFault f 3 0 (fbUpd f (fun x => { x with rate := true }) s)

/-! ## Quadrature (R482) -/

/-- The place of a pair of levels in the forward Gray sequence (PRESUMED, log entry 28). -/
def grayPlace (a b : Bool) : Nat := match a, b with | false, false => 0 | true, false => 1 | true, true => 2 | false, true => 3

/-- The level of an input behind the glitch filter: a level that has stood for FILT cycles of 4 ns is taken (R482). -/
def fbFilter (f : Fin 4) (level old : Bool) (held : Nat) (s : State) : Bool := if s.get (F.FBf_CTL_FILT f) ≤ held then level else old

/-- A quadrature sample of levels that have stood for `na` and `nb` peripheral-clock cycles; the first one after an enable counts nothing (R482). -/
def quadSample (f : Fin 4) (ra rb : Bool) (na nb : Nat) (s : State) : State :=
  if !fbOn f s || fbSinCos f s then s
  else
    let x := s.fb[f]
    let a := if x.seen then fbFilter f ra x.a na s else ra
    let b := if x.seen then fbFilter f rb x.b nb s else rb
    let s0 := fbUpd f (fun y => { y with a := a, b := b, seen := true }) s
    if !x.seen then s0
    else
      match (grayPlace a b + 4 - grayPlace x.a x.b) % 4 with
      | 0 => s0
      | 2 => fbPhase f s0
      | k =>
        let close := match x.stepAt with
          | some t => decide (s.clk.ns - t < 40)
          | none => false
        let s1 := fbStep f (if k = 1 then 1 else -1) (fbUpd f (fun y => { y with stepAt := some s.clk.ns }) s0)
        if close then fbRate f s1 else s1

/-! ## Sine and cosine (R484, R485) -/

/-- The amplitude detector: 4 samples in a row outside the window make AMP present, 4 within it absent (R485). -/
def ampWatch (f : Fin 4) (outside : Bool) (s : State) : State :=
  let x := s.fb[f]
  let out := if outside then min 4 (x.out + 1) else 0
  let ok := if outside then 0 else min 4 (x.ok + 1)
  let now := if out = 4 then true else if ok = 4 then false else x.amp
  let s1 := fbUpd f (fun y => { y with out := out, ok := ok, amp := now }) s
  if now && !x.amp then fbFault f 4 0 s1 else s1

/-- A sine and cosine sample pair (R484, R485). -/
def sinCosSample (f : Fin 4) (rawS rawC : Int) (s : State) : State :=
  if !fbOn f s || !fbSinCos f s then s
  else
    let sn := asr ((rawS - s.getI (F.FBf_SCOR_SOFS f)) * s.get (F.FBf_SGAIN_SGAIN f)) 15
    let cs := asr ((rawC - s.getI (F.FBf_SCOR_COFS f)) * s.get (F.FBf_SGAIN_CGAIN f)) 15
    let sq := sn.natAbs * sn.natAbs + cs.natAbs * cs.natAbs
    let lo := s.get (F.FBf_AWIN_AMIN f)
    let hi := s.get (F.FBf_AWIN_AMAX f)
    let s1 := ampWatch f (decide (sq < lo * lo) || decide (hi * hi < sq)) (s.put (F.FBf_AMP_AMP f) (isqrt sq))
    if s1.fb[f].amp then s1
    else
      let x := s1.fb[f]
      let phi := phaseOf sn cs s1.freeWord.toNat
      let s2 := if sn = 0 ∧ cs = 0 then s1.draw else s1
      let wrapUp := decide (3072 ≤ x.phi) && decide (phi < 1024)
      let wrapDown := decide (x.phi < 1024) && decide (3072 ≤ phi)
      let jump := x.seen && !wrapUp && !wrapDown && decide (1024 ≤ max phi x.phi - min phi x.phi)
      let line := if x.seen && wrapUp then x.line + 1 else if x.seen && wrapDown then x.line - 1 else x.line
      let count := line * 2 ^ fbInterp f s + (phi / 2 ^ (12 - fbInterp f s) : Nat)
      let s3 := fbUpd f (fun y => { y with seen := true, line := line, phi := phi, count := count }) s2
      let s4 := if x.seen then fbStep f (count - x.count) s3 else s3
      if jump then fbRate f s4 else s4

/-! ## Index, wires, SETPOS (R481, R483, R486) -/

/-- A rising index edge whose level has stood for `held` peripheral-clock cycles: the filter passes it after FILT (R486). -/
def indexEdge (f : Fin 4) (held : Nat) (s : State) : State :=
  let mode := s.get (F.FBf_CTL_ZMODE f)
  let gated := s.on (F.FBf_CTL_ZGATE f) && !fbSinCos f s && !(s.fb[f].a && s.fb[f].b)
  if !fbOn f s || gated || !(mode == 1 || mode == 2) || !fbFilter f true false held s then s
  else
    let acnt := s.rd (Reg.FBf_ACNT f)
    let moved := (acnt - s.fb[f].zAcnt).toInt
    let cpr : Int := fbCpr f s
    let tol := s.get (F.FBf_CTL_ZTOL f)
    let wrong := s.on (F.FBf_STAT_INDEXED f) && decide (tol < (moved - cpr).natAbs) && decide (tol < (moved + cpr).natAbs)
    let s1 := (s.wr (Reg.FBf_ZCAP f) (s.rd (Reg.FBf_POS f))).fire (144 + 2 * f.val)
    let s2 := (if mode = 2 then s1.wr (Reg.FBf_POS f) 0 else s1).put (F.FBf_STAT_INDEXED f) 1
    let s3 := fbUpd f (fun x => { x with zAcnt := acnt }) s2
    if wrong then fbFault f 5 0 s3 else s3

/-- The legs of a pair have read one level for a number of peripheral-clock cycles, or differ: WIRE after WTIME; A, B and Z in QUAD mode, Z
in SINCOS mode (R483). -/
def wireSet (f : Fin 4) (pair : Fin 3) (same : Option Nat) (s : State) : State :=
  let present := same.isSome
  if !fbOn f s || (fbSinCos f s && pair != 2) || same.any (fun n => n < s.get (F.FBf_CTL_WTIME f)) then s
  else
    let was := s.fb[f].wire.getLsbD pair
    let m : BitVec 3 := BitVec.ofNat 3 (2 ^ pair.val)
    let s1 := fbUpd f (fun x => { x with wire := if present then x.wire ||| m else x.wire &&& ~~~m }) s
    if present && !was then fbFault f 1 pair.val s1 else s1

/-- SETPOS: FB_ACT action 0x01; the count step of its cycle is added afterward (R476, R481). -/
def setPos (f : Fin 4) (s : State) : State :=
  let step := match s.fb[f].stepNow with | some (c, d) => if c = s.clk.ns / 4 then d else 0 | none => 0
  let v := s.rd (Reg.FBf_PRESET f) + step
  fbThv f ((s.wr (Reg.FBf_POS f) v).wr (Reg.FBf_ACNT f) v)

/-- A write of FBf_CTL: a channel that EN enables starts afresh and delivers its first update 1 us later; one that EN disables fails to deliver the
next; ACNT at the previous index stays. A change of TYPE ends what only the other TYPE detects (R481, R483, R485 to R487) (DESIGN CHOICE, log entry
59) (DESIGN CHOICE, log entry 59). -/
def fbCtlWrite (f : Fin 4) (value : Word) (s : State) : State :=
  let was := s.on (F.FBf_CTL_EN f)
  let s1 := s.wr (Reg.FBf_CTL f) value
  let en := s1.on (F.FBf_CTL_EN f)
  if en && !was then (fbUpd f (fun x => { zAcnt := x.zAcnt }) s1).restart 1000 (.fbUpdate f)
  else if !en && was then fbUpd f (fun x => { zAcnt := x.zAcnt }) s1
  else if value.getLsbD 1 != (s.rd (Reg.FBf_CTL f)).getLsbD 1 then
    fbUpd f (fun x => { x with seen := false, out := 0, ok := 0, amp := false, wire := if fbSinCos f s1 then x.wire &&& 4 else x.wire }) s1
  else s1

/-! ## The update (R473, R487) -/

/-- The position a channel delivers, in 2^-48 revolutions with whole revolutions above: floor((ACNT mod CPR) × 2^24 / CPR) 2^-24
revolutions (R487). -/
def fbPosition (f : Fin 4) (s : State) : Int :=
  let acnt := (s.rd (Reg.FBf_ACNT f)).toInt
  let cpr : Int := fbCpr f s
  acnt.fdiv cpr * 2 ^ 48 + ((acnt.fmod cpr) * 2 ^ 24).fdiv cpr * 2 ^ 24

/-- MOTm_SPEED after an update of its domain (R473). -/
def motSpeed (m : Fin 4) (s : State) : State :=
  let d := motorDom m s
  stallWatch m (motCheck m (s.putI (F.MOTm_SPEED_SPEED m) (Int.tdiv (s.getI (F.ANGn_MEAS_MEAS d) * 60) (refTurns d s))))

/-- FB_UPDATE: the domains that the channel feeds take its position, or miss it while a feedback fault is present; their motors' speeds
follow; a channel that is off delivers none, and its domains miss it (R58, R59, R473, R487) (DESIGN CHOICE, log entry 59). -/
def fbUpdateNow (f : Fin 4) (s : State) : State :=
  let doms := (List.finRange 8).filter (fun d => s.dom[d].src == 4 + f.val)
  if !fbOn f s then s.each doms (fun d => fbMissing d)
  else
    let x := s.fb[f]
    let bad := x.wire.getLsbD 0 || x.wire.getLsbD 1 || x.phase || x.rate || x.amp
    let pos := fbPosition f s
    let s1 := s.each doms (fun d t => if bad then fbMissing d t else fbDomain d pos t)
    let s2 := s1.each (List.finRange 4) (fun m t => if doms.contains (motorDom m t) && pdOn (26 + m.val) t then motSpeed m t else t)
    (fbUpd f (fun y => { y with phase := false, rate := false }) s2).restart 1000 (.fbUpdate f)

/-! ## Meanings -/

/-- QUAD_SAMPLE: the levels of A and B and for how many peripheral-clock cycles each has stood (R482). -/
def execQuadSample (f : Fin 4) (a b : QuadLine) (s : State) : Out := .next (quadSample f a.level b.level a.stood b.stood s)

/-- SINCOS_SAMPLE: the signed codes of both converters (R484). -/
def execSincosSample (f : Fin 4) (sine cosine : BitVec 14) (s : State) : Out := .next (sinCosSample f sine.toInt cosine.toInt s)

/-- INDEX_EDGE: a rising edge, and for how many peripheral-clock cycles the high level has stood (R486). -/
def execIndexEdge (x : IndexHigh) (s : State) : Out := .next (indexEdge x.channel x.stood s)

/-- WIRE_DISAGREEMENT: for how many peripheral-clock cycles both legs have read one level; none where they differ (R483). -/
def execWireDisagreement (f : Fin 4) (pair : Fin 3) (same : Option Nat) (s : State) : Out := .next (wireSet f pair same s)

/-- FB_UPDATE (R487). -/
def execFbUpdate (f : Fin 4) (s : State) : Out := .next (fbUpdateNow f s)

/-- SETPOS (R481). -/
def execSetpos (ticket : Byte) (arg : BitVec 16) (s : State) : Out := .next (s.act Reg.FB_ACT ticket arg 1 (setPos (Fin.ofNat 4 arg.toNat)))

end Sys2Proof.Machine
end

