-- ==== Sys2Proof/Machine/Lehr.lean ====
section
/-!
DEFINITION. Machine/Lehr.lean: the event log's writer (spec/20_lehr_log.md, R528 to R536, R587). LOG_ENTRY_WRITE is the LOG
block's part of the end of an AO cycle.
-/
namespace Sys2Proof.Machine

/-- The 32 bytes of an entry (R528). -/
def entryBytes (e : LogEntry) : List Byte :=
  bytesOfNat 8 e.time.toNat ++ bytesOfNat 4 e.angle.toNat ++ bytesOfNat 2 e.block ++ bytesOfNat 2 e.code ++
    (e.data ++ List.replicate 16 0).take 16

/-- The address of entry `w` in the log SRAM (R530). -/
def entryAddr (w : Nat) : Nat := 0x29000000 + w % 2048 * 32

/-- Entries that HIDX stands behind WIDX, modulo 2^32 (R532, R533). -/
def logBehind (s : State) : Nat := (s.rd Reg.LOG_WIDX - s.rd Reg.LOG_HIDX).toNat

/-- The log ring is in RUN (R533). -/
def logRingRun (s : State) : Bool := s.get (F.HIF_OR_STAT_STATE 1) == 1

/-- The order of one AO cycle's requests: by block ID, and within block 0x15 by R538. -/
def logKey (e : LogEntry) : Nat := e.block * 65536 + (if e.block = 0x15 then min e.code 0x8000 else 0)

/-- Stable insertion of a request among those of its cycle (R530). -/
def logInsert (e : LogEntry) : List LogEntry → List LogEntry
  | [] => [e]
  | x :: l => if logKey e < logKey x then e :: x :: l else x :: logInsert e l

/-- The cycle's requests in the order in which they enter (R530). -/
def logOrder (l : List LogEntry) : List LogEntry := l.foldl (fun acc e => logInsert e acc) []

/-- A request enters the 64-entry queue, or is dropped and counted (R531). -/
def logEnter (e : LogEntry) (s : State) : State :=
  if s.log.queue.length < 64 then { s with log := { s.log with queue := s.log.queue ++ [e] } }
  else
    (s.inc F.LOG_CNT_DROP).when true (fun t =>
      { t with log := { t.log with drops := t.log.drops + 1, firstDrop := if t.log.drops = 0 then e.time else t.log.firstDrop } })

/-- The drop record enters ahead of the cycle's requests where drops are unreported and there is room (R531). -/
def logDropRecord (s : State) : State :=
  if s.log.drops ≠ 0 ∧ s.log.queue.length < 64 then
    { s with log := { s.log with
        queue := s.log.queue ++ [⟨s.clk.time, s.logAngle, 0x15, 0x0001, bytesOfNat 4 s.log.drops ++ bytesOfNat 8 s.log.firstDrop.toNat⟩]
        drops := 0, firstDrop := 0 } }
  else s

/-- STOP mode holds the writer while the log ring is in RUN and, at the start of the cycle, the SRAM was full of uncopied entries (R534, R535). -/
def logStopped (s : State) : Bool :=
  s.on F.LOG_CTL_FULLMODE && logRingRun s && logBehind s + (if s.log.copied then 1 else 0) == 2048

/-- The writer takes the oldest queued entry and writes it at WIDX; in WRAP mode a write that would lap HIDX first advances it
(R530, R534). -/
def logTake (s : State) : State :=
  match s.log.queue with
  | [] => s
  | e :: q =>
    if logStopped s then s
    else
      let s1 := if logBehind s = 2048 ∧ !s.log.copied then
          let t := (s.put F.LOG_HIDX_HIDX (s.get F.LOG_HIDX_HIDX + 1)).inc F.LOG_CNT_LAPPED
          { t with log := { t.log with skips := t.log.skips + 1 } }
        else s
      let s2 := s1.setBytes (entryAddr (s1.get F.LOG_WIDX_WIDX)) (entryBytes e)
      let s3 := s2.put F.LOG_WIDX_WIDX (s2.get F.LOG_WIDX_WIDX + 1)
      { s3 with log := { s3.log with queue := q } }

/-- The LOG block's end of an AO cycle: the writer's entry, the drop record, the cycle's requests, then the fill (R530, R531,
R587). -/
def logCycle (s : State) : State :=
  let s1 := (logDropRecord (logTake s)).each (logOrder s.log.reqs) logEnter
  let fill := s1.log.queue.length
  let s2 : State := { s1 with log := { s1.log with reqs := [], fill := fill, copied := false, snapNow := [] } }
  (s2.put F.LOG_STAT_QFILL fill).put F.LOG_QMAX_QMAX (max (s2.get F.LOG_QMAX_QMAX) fill)

/-- The data of a firmware entry: LOG_FWDATA0 to LOG_FWDATA3 (R536). -/
def fwData (s : State) : List Byte :=
  bytesOfWord (s.rd (Reg.LOG_FWDATAi 0)) ++ bytesOfWord (s.rd (Reg.LOG_FWDATAi 1)) ++ bytesOfWord (s.rd (Reg.LOG_FWDATAi 2)) ++
    bytesOfWord (s.rd (Reg.LOG_FWDATAi 3))

/-- FWENTRY: one entry from block 0x15 with CODE 0x8000 + ARG[14:0] (R536). -/
def logFwEntry (arg : BitVec 16) (s : State) : State := s.logReq 0x15 (0x8000 + arg.toNat % 0x8000) (fwData s)

/-! ## Meanings -/

/-- LOG_ENTRY_WRITE (R530). -/
def execLogEntryWrite (s : State) : Out := .next (logCycle s)

/-- FWENTRY: LOG_ACT action 0x02 (R536). -/
def execFwentry (ticket : Byte) (arg : BitVec 16) (s : State) : Out := .next (s.act Reg.LOG_ACT ticket arg 2 (logFwEntry arg))

end Sys2Proof.Machine
end

