-- ==== Sys2Proof/Machine/Hif.lean ====
section
/-!
DEFINITION. Machine/Hif.lean: the host interface: rings, polls, fetch and hand-off, completions, telemetry and the log ring's copy
(spec/13_host_rings.md, R360 to R379; spec/20_lehr_log.md, R533).
-/
namespace Sys2Proof.Machine

/-- HIF's hidden state, a command ring's, another ring's and a slot's replaced. -/
def hifUpd (f : HifSt → HifSt) (s : State) : State := { s with hif := f s.hif }
def sqUpd (n : Fin 8) (f : HSq → HSq) (s : State) : State := hifUpd (fun h => { h with sq := updAt h.sq n f }) s
def cqUpd (m : Fin 10) (f : HCq → HCq) (s : State) : State := hifUpd (fun h => { h with cq := updAt h.cq m f }) s
def slotUpd (i : Fin 16) (f : HSlot → HSlot) (s : State) : State := hifUpd (fun h => { h with slot := updAt h.slot i f }) s

/-! ## Geometry (R364) -/

/-- An address of 64 bits from its low and high registers, aligned. -/
def addr64 (lo hi : Word) (align : Nat) : Nat := (lo.toNat + 2 ^ 32 * hi.toNat) / align * align

/-- Entries of a command ring, and of the ring `m`: 0 to 7 completion, 8 telemetry, 9 log (DESIGN CHOICE, log entry 64). -/
def sqSize (n : Fin 8) (s : State) : Nat := 2 ^ clampNat (s.get (F.HIF_SQn_CTL_LOG2SIZE n)) 4 12
def cqSize (m : Fin 10) (s : State) : Nat :=
  if m.val < 8 then 2 ^ clampNat (s.get (F.HIF_CQm_CTL_LOG2SIZE m)) 4 12 else 2 ^ clampNat (s.get (F.HIF_OR_CTL_LOG2SIZE (m - 8))) 4 15

/-- State, producer index and base of a ring that the device writes. -/
def cqState (m : Fin 10) (s : State) : Nat := if m.val < 8 then s.get (F.HIF_CQm_STAT_STATE m) else s.get (F.HIF_OR_STAT_STATE (m - 8))
def cqPi (m : Fin 10) (s : State) : Nat := if m.val < 8 then s.get (F.HIF_CQm_STAT_PI m) else s.get (F.HIF_OR_STAT_PI (m - 8))
def cqBase (m : Fin 10) (s : State) : Nat :=
  if m.val < 8 then addr64 (s.rd (Reg.HIF_CQm_BASEL m)) (s.rd (Reg.HIF_CQm_BASEH m)) 4096
  else addr64 (s.rd (Reg.HIF_OR_BASEL (m - 8))) (s.rd (Reg.HIF_OR_BASEH (m - 8))) 4096
def cqSetPi (m : Fin 10) (v : Nat) (s : State) : State :=
  if m.val < 8 then s.put (F.HIF_CQm_STAT_PI m) v else s.put (F.HIF_OR_STAT_PI (m - 8)) v
def cqSetState (m : Fin 10) (v : Nat) (s : State) : State :=
  if m.val < 8 then s.put (F.HIF_CQm_STAT_STATE m) v else s.put (F.HIF_OR_STAT_STATE (m - 8)) v

/-- Ring states (R366). -/
def rgOFF : Nat := 0
def rgRUN : Nat := 1
def rgERROR : Nat := 2

/-- A difference of indices modulo 2^16 (R364). -/
def idxDiff (a b : Nat) : Nat := (a + 65536 - b % 65536) % 65536

/-- The ring runs and has room for an entry by the cached consumer index (R375). -/
def cqRoom (m : Fin 10) (s : State) : Bool := cqState m s == rgRUN && !s.out.d3hot && decide (idxDiff (cqPi m s) s.hif.cq[m].ci < cqSize m s)

/-- The completion ring of a command ring (R366). -/
def cqOf (n : Fin 8) (s : State) : Fin 10 := Fin.ofNat 10 (s.get (F.HIF_SQn_CTL_CQ n))

/-- A command ring runs. -/
def sqRun (n : Fin 8) (s : State) : Bool := s.get (F.HIF_SQn_STAT_STATE n) == rgRUN

/-! ## Errors (R377) -/

/-- The report of a ring that enters ERROR; its number is that of R390. -/
def ringReport (ring cause idx : Nat) (s : State) : State :=
  ((s.put F.HIF_FLT_RINGERR 1).logReq 0x0C 0x0002 ([b8 ring, b8 cause] ++ bytesOfNat 2 idx)).sendVector (s.get F.HIF_CTL_ERRVEC)

/-- A command ring enters ERROR: it stops polling and fetching. -/
def sqError (n : Fin 8) (cause idx : Nat) (s : State) : State :=
  let s1 := (s.cancel (.doorbellPoll n false)).put (F.HIF_SQn_STAT_STATE n) rgERROR
  ringReport n.val cause idx (s1.put (F.HIF_SQn_STAT_CAUSE n) cause)

/-- Another ring enters ERROR; a completion ring with a bad CI takes every running command ring mapped to it along (R375, R377). -/
def cqError (m : Fin 10) (cause idx : Nat) (s : State) : State :=
  let s1 := ringReport (m.val + 8) cause idx (cqSetState m rgERROR s)
  s1.each ((List.finRange 8).filter (fun n => m.val < 8 && cause == 2 && cqOf n s1 == m && sqRun n s1)) (fun n => sqError n cause idx)

/-- DMATRY in force (R392). -/
def dmaTry (s : State) : Nat := zeroAsOne (s.get F.HIF_CFG_DMATRY)

/-- AER notes a failed read: a completion timeout, a poisoned completion, or neither where an error completion answered, which the command does not
tell (R359, R368) (PRESUMED, log entry 72). -/
def aerNote (s : State) : State := { s.draw with out := { s.out with aer := s.out.aer ||| (s.freeWord &&& 0x5000) } }

/-- A failed DMA of a command ring; DMATRY in a row put it in ERROR (R368). -/
def sqFail (n : Fin 8) (s : State) : State :=
  let s1 := sqUpd n (fun q => { q with fails := q.fails + 1 }) s
  if dmaTry s ≤ s1.hif.sq[n].fails then sqError n 3 0 s1 else s1

/-! ## Descriptors (R380, R383) -/

def descTag (i : Fin 16) (s : State) : Word := s.rd (Reg.HIF_SLOTs_Di i 0)
def descGen (i : Fin 16) (s : State) : Nat := descW i 1 s % 65536
def descOp (i : Fin 16) (s : State) : Nat := descW i 1 s / 65536 % 256
def descIrq (i : Fin 16) (s : State) : Bool := (descW i 1 s).testBit 24
def descFence (i : Fin 16) (s : State) : Bool := (descW i 1 s).testBit 25

/-- The class of an opcode; none where it is unlisted (R383). -/
def opClass (op lop : Nat) : Option Nat :=
  match op with
  | 0x00 | 0x01 | 0x02 => some 0
  | 0x03 => some 2
  | 0x04 | 0x05 | 0x06 => some 1
  | 0x07 => some 3
  | 0x08 => some 4
  | 0x10 => some (if lop = 2 then 6 else 5)
  | 0x11 => some 5
  | _ => none

/-- Opcodes that carry a host buffer (R383). -/
def opBuffer (op : Nat) : Bool := op == 0x02 || op == 0x03

/-! ## Tag memory (R371) -/

/-- The recorded status of a tag. -/
def tagFind (n : Fin 8) (tag : Word) (gen : Nat) (s : State) : Option Nat :=
  (s.hif.sq[n].tags.find? (fun t => t.1 == tag && t.2.1 == gen)).map (fun t => t.2.2)

/-- A tag recorded as PENDING, evicting the oldest of 256. -/
def tagAdd (n : Fin 8) (tag : Word) (gen : Nat) (s : State) : State :=
  sqUpd n (fun q => { q with tags := ((tag, gen, 0xFF) :: q.tags).take 256 }) s

/-- A tag keeps the status of its first completion. -/
def tagDone (n : Fin 8) (tag : Word) (gen st : Nat) (s : State) : State :=
  sqUpd n (fun q => { q with tags := q.tags.map (fun t => if t.1 = tag ∧ t.2.1 = gen ∧ t.2.2 = 0xFF then (t.1, t.2.1, st) else t) }) s

/-! ## Completions (R366, R373, R376, R381) -/

/-- The entry of a slot's completion is written, its vector follows where the descriptor asks for it, and the slot is free. -/
def completionWrite (i : Fin 16) (s : State) : State :=
  let x := s.hif.slot[i]
  let n := x.ring
  let m := cqOf n s
  let p := cqPi m s
  let phase := if s.on (F.HIF_CQm_STAT_PHASE m) then 1 else 0
  let entry := bytesOfWord (descTag i s) ++ bytesOfNat 2 (descGen i s) ++ [b8 x.comp.1, b8 (phase + 2 * n.val)] ++ bytesOfNat 4 x.comp.2.1 ++
    bytesOfNat 2 x.ci ++ [b8 x.comp.2.2, 0]
  let s1 := cqSetPi m ((p + 1) % 65536) (s.postWrite (cqBase m s + p % cqSize m s * 16) entry)
  let s2 := if (p + 1) % cqSize m s = 0 then s1.putB (F.HIF_CQm_STAT_PHASE m) (!s1.on (F.HIF_CQm_STAT_PHASE m)) else s1
  let s3 := if x.tagged then tagDone n (descTag i s) (descGen i s) x.comp.1 s2 else s2
  let s4 := if descIrq i s then s3.sendVector (s.get (F.HIF_CQm_CTL_VEC m)) else s3
  slotUpd i (fun _ => {}) s4

/-- A slot's completion is due: written where its ring has room, else it waits in the slot (R376). -/
def complete (i : Fin 16) (st result orig : Nat) (s : State) : State :=
  let s1 := slotUpd i (fun x => { x with st := .done, comp := (st, result, orig) }) s
  let m := cqOf s1.hif.slot[i].ring s1
  if cqRoom m s1 && !s1.hif.wait.any (fun j => cqOf s1.hif.slot[j].ring s1 == m) then completionWrite i s1
  else hifUpd (fun h => { h with wait := h.wait ++ [i] }) s1

/-- The waiting completions that have room now, oldest first. -/
def drainWait (m : Fin 10) (s : State) : State :=
  s.each s.hif.wait (fun i t =>
    if cqOf t.hif.slot[i].ring t = m ∧ cqRoom m t = true then completionWrite i (hifUpd (fun h => { h with wait := h.wait.erase i }) t) else t)

/-! ## Fetch (R369, R370) -/

/-- A slot belongs to a ring and its completion is not written. -/
def hslotOf (n : Fin 8) (s : State) (i : Fin 16) : Bool := s.hif.slot[i].st != .free && s.hif.slot[i].ring == n && !s.hif.slot[i].orphan

/-- Descriptors of a ring that may be fetched now. -/
def fetchable (n : Fin 8) (s : State) : Nat :=
  if !sqRun n s || s.hif.sq[n].retry || !cqRoom (cqOf n s) s then 0
  else if s.hif.sq[n].held && (List.finRange 16).any (hslotOf n s) then 0
  else idxDiff s.hif.sq[n].pi (s.get (F.HIF_SQn_STAT_CI n))

/-- The free hand-off slots. -/
def freeSlots (s : State) : List (Fin 16) := (List.finRange 16).filter (fun i => s.hif.slot[i].st == .free)

/-- The arbiter has work. -/
def fetchWork (s : State) : Bool := !(freeSlots s).isEmpty && (List.finRange 8).any (fun n => 0 < fetchable n s)

/-- The arbiter runs again. -/
def fetchKick (s : State) : State := if fetchWork s then s.restart 0 .descriptorFetch else s

/-- Entry `i` of a command ring in host memory, and its doorbell word (R364). -/
def sqEntry (n : Fin 8) (i : Nat) (s : State) : Nat :=
  addr64 (s.rd (Reg.HIF_SQn_BASEL n)) (s.rd (Reg.HIF_SQn_BASEH n)) 4096 + i % sqSize n s * 64
def sqBell (n : Fin 8) (s : State) : Nat := addr64 (s.rd (Reg.HIF_SQn_DBL n)) (s.rd (Reg.HIF_SQn_DBH n)) 8

/-- One batch of the round-robin arbiter: up to FETCHMAX + 1 descriptors of the first ring after the last served, not across the end of
its buffer; each takes a free slot, and one read fetches them (R364, R369, R392) (DEDUCED, log entry 31). -/
def fetchBatch (s : State) : State :=
  if (freeSlots s).isEmpty then s
  else match ((List.range 8).map (fun k => (s.hif.last + 1 + Fin.ofNat 8 k : Fin 8))).find? (fun n => 0 < fetchable n s) with
  | none => s
  | some n =>
    let ci := s.get (F.HIF_SQn_STAT_CI n)
    let k := min (min (min (s.get F.HIF_CFG_FETCHMAX + 1) 8) (fetchable n s)) (min (sqSize n s - ci % sqSize n s) (freeSlots s).length)
    let k1 := if s.hif.sq[n].held then min k 1 else k
    let taken := (freeSlots s).take k1
    let s1 := taken.foldl (fun (t : State × Nat) i => (slotUpd i (fun _ => { st := .fetching, ring := n, ci := t.2 }) t.1, (t.2 + 1) % 65536)) (s, (ci + 1) % 65536)
    fetchKick (hifUpd (fun h => { h with last := n }) ((s1.1.put (F.HIF_SQn_STAT_CI n) ((ci + k1) % 65536)).postRead (sqEntry n ci s) (64 * k1)))

/-- A slot holds a descriptor that is on its way, or that has arrived and waits for its checks. -/
def coming (x : HSlot) : Bool := x.st == .fetching || x.st == .arrived

/-- A fetch that failed or must wait: CI goes back to its descriptor, and the later descriptors of the ring on their way are dropped. -/
def fetchUndo (i : Fin 16) (s : State) : State :=
  let n := s.hif.slot[i].ring
  let ci := idxDiff s.hif.slot[i].ci 1
  let s1 := s.each (List.finRange 16) (fun j t =>
    if j = i ∨ (coming t.hif.slot[j] ∧ t.hif.slot[j].ring = n ∧ 0 < idxDiff t.hif.slot[j].ci s.hif.slot[i].ci ∧ idxDiff t.hif.slot[j].ci s.hif.slot[i].ci < 32768) then slotUpd j (fun _ => {}) t else t)
  s1.put (F.HIF_SQn_STAT_CI n) ci

/-- The checks of R371 on a descriptor that has arrived in its slot. -/
def arrivalCheck (i : Fin 16) (s : State) : State :=
  let n := s.hif.slot[i].ring
  let tag := descTag i s
  let gen := descGen i s
  if gen ≠ s.get (F.HIF_SQn_GEN_GEN n) then complete i stBADGEN 0 0 s
  else match tagFind n tag gen s with
  | some st => complete i stDUPLICATE 0 st (s.inc (F.HIF_SQn_CNT_DUP n))
  | none =>
    let s1 := slotUpd i (fun x => { x with tagged := true }) (tagAdd n tag gen s)
    match opClass (descOp i s) (descP i 0 s % 256) with
    | none => complete i stBADOP 0 0 s1
    | some c =>
      if !(s.get (F.HIF_SQn_CTL_OPCLS n)).testBit c then complete i stDENIED 0 0 s1
      else if descOp i s = 0 then complete i stOK 0 0 s1
      else
        let s2 := slotUpd i (fun x => { x with st := .handed }) (hifUpd (fun h => { h with order := h.order ++ [i] }) s1)
        if opBuffer (descOp i s) then
          match s.hif.slot[i].buf with
          | none => complete i stDMAERR 0 0 (s1.postRead (descAddr i s) (min (descLen i s) 512))
          | some d => ((wordsOfBytes ((d ++ List.replicate 512 0).take (min (descLen i s) 512 + 3))).zipIdx).foldl (fun t x => t.wr (Reg.HIF_SLOTs_DATAi i x.2) x.1)
              (s2.postRead (descAddr i s) (min (descLen i s) 512))
        else s2

/-- An earlier descriptor of the ring is still on its way. -/
def earlierComing (i : Fin 16) (s : State) : Bool :=
  (List.finRange 16).any (fun j => j != i && coming s.hif.slot[j] && s.hif.slot[j].ring == s.hif.slot[i].ring && decide (idxDiff s.hif.slot[i].ci s.hif.slot[j].ci < 32768))

/-- An arrived descriptor in its turn: a fenced one goes back while an earlier one of its ring has no completion written; else it is checked (R370,
R371). -/
def arrivedTurn (i : Fin 16) (s : State) : State :=
  let n := s.hif.slot[i].ring
  if descFence i s && (List.finRange 16).any (fun j => j != i && hslotOf n s j && !coming s.hif.slot[j]) then
    sqUpd n (fun q => { q with held := true, fails := 0 }) (fetchUndo i s)
  else fetchKick (arrivalCheck i (sqUpd n (fun q => { q with held := false, fails := 0 }) s))

/-- The arrived descriptors of a running ring are dealt with in the ring's order (R370) (DEDUCED, log entry 31). -/
def arrivedTurns (n : Fin 8) (s : State) : State :=
  s.each (List.range 16) (fun _ t =>
    match (List.finRange 16).find? (fun i => sqRun n t && t.hif.slot[i].st == .arrived && t.hif.slot[i].ring == n && !earlierComing i t) with
    | some i => arrivedTurn i t
    | none => t)

/-- The words of a descriptor in its slot. -/
def descStore (i : Fin 16) (d : BitVec 512) (s : State) : State :=
  s.each (List.range 16) (fun k t => t.wr (Reg.HIF_SLOTs_Di i k) (d.extractLsb' (32 * k) 32))

/-- DESCRIPTOR_ARRIVAL: none where the fetch failed. One whose ring has been disabled meanwhile completes ABORTED; in a ring in ERROR nothing goes on
until the disable (R368, R370, R371, R377) (DEDUCED, log entry 31). -/
def arrival (i : Fin 16) (desc : Option (BitVec 512)) (buf : Option (List Byte)) (s : State) : State :=
  let n := s.hif.slot[i].ring
  match s.hif.slot[i].st, desc with
  | .fetching, some d => arrivedTurns n (slotUpd i (fun x => { x with st := .arrived, buf := buf }) (descStore i d s))
  | .fetching, none =>
    if sqRun n s then sqFail n (sqUpd n (fun q => { q with retry := true }) (fetchUndo i (aerNote s))) else slotUpd i (fun _ => {}) (aerNote s)
  | .dropping, some d => fetchKick (complete i stABORTED 0 0 (descStore i d s))
  | .dropping, none => fetchKick (slotUpd i (fun _ => {}) (aerNote s))
  | _, _ => s

/-! ## Take and POST (R372, R373) -/

/-- A read of HIF_TAKE: the oldest handed descriptor; the Trio's take can be handed back. -/
def takeSlot (agent : Agent) (s : State) : State :=
  match s.hif.order with
  | [] => { s with rdata := 0 }
  | i :: l =>
    let s1 := slotUpd i (fun x => { x with st := .taken }) (hifUpd (fun h => { h with order := l }) s)
    let s2 := if agent = .trio then hifUpd (fun h => { h with taken := h.taken ++ [i] }) s1 else s1
    { s2 with rdata := BitVec.ofNat 32 (2 ^ 31 + i.val * 65536 + s.hif.slot[i].ring.val * 256) }

/-- The first `n` bytes of a slot's data area. -/
def slotBytes (i : Fin 16) (n : Nat) (s : State) : List Byte :=
  (((List.range 128).map (fun k => bytesOfWord (s.rd (Reg.HIF_SLOTs_DATAi i k)))).flatten).take n

/-- POST: write-back, completion and the free slot; a slot that firmware does not hold sets BADPOST; one whose ring was reset is freed and
its completion discarded (R361, R373). -/
def postDo (arg : BitVec 16) (s : State) : State :=
  let i : Fin 16 := Fin.ofNat 16 arg.toNat
  let x := s.hif.slot[i]
  if x.st ≠ .taken then s.put F.HIF_FLT_BADPOST 1
  else
    let s0 := hifUpd (fun h => { h with taken := h.taken.filter (· != i) }) s
    if x.orphan then fetchKick (slotUpd i (fun _ => {}) s0)
    else
      let s1 := if descOp i s = 0x02 then s0.postWrite (descAddr i s) (slotBytes i (min (descLen i s) 512) s) else s0
      fetchKick (complete i (s.get (F.HIF_SLOTs_ST_ST i)) (s.get (F.HIF_SLOTs_RES_RES i)) 0 s1)

def hifAct (arg : BitVec 16) (action : Byte) (s : State) : State := if action = 1 then postDo arg s else s

/-! ## Polls (R367, R368) -/

/-- The poll period in nanoseconds. -/
def pollNs (n : Fin 8) (s : State) : Nat := clampNat (s.get (F.HIF_SQn_POLL_PERIOD n)) 1 4000 * 250

/-- The ring polls by its angle stamp. -/
def pollAngle (n : Fin 8) (s : State) : Bool := s.on (F.HIF_SQn_CTL_PMODE n) && !s.hif.sq[n].timeMode

/-- What is left of a minimum spacing after the last poll or record; none where it may come now (R367, R378). -/
def spacing (last : Option Nat) (gap : Nat) (s : State) : Option Nat :=
  last.bind (fun t => if s.clk.ns < t + gap then some (t + gap - s.clk.ns) else none)

/-- A poll is issued: a read of 8 bytes; the next one by time, or the 1 ms guard, is scheduled. -/
def pollIssue (n : Fin 8) (s : State) : State :=
  let s1 := sqUpd n (fun q => { q with pollAt := some s.clk.ns, deferred := false }) (s.postRead (sqBell n s) 8)
  s1.restart (if pollAngle n s1 then 1000000 else pollNs n s1) (.doorbellPoll n false)

/-- The stamp moves on by STEP, at most 2^31 − 1; a STEP of 0 falls back to TIME (R367). -/
def stampStep (stamp step : Word) (d : Fin 8) (s : State) : Word :=
  (advanceStamp stamp (BitVec.ofNat 32 (min step.toNat (2 ^ 31 - 1))) (domNextAngle d s)).1

/-- DOORBELL_POLL: by a stamp crossing, deferred to 250 ns after the previous poll; by time; by the 1 ms guard, counted in PTMO. -/
def doorbellPoll (n : Fin 8) (crossing : Bool) (s : State) : State :=
  if !sqRun n s then s
  else if crossing then
    if !(pollAngle n s && s.hif.sq[n].armable) then s
    else
      let step := s.rd (Reg.HIF_SQn_STEP n)
      let s1 := if step = 0 then sqUpd n (fun q => { q with timeMode := true, armable := false }) s
        else s.wr (Reg.HIF_SQn_STAMP n) (stampStep (s.rd (Reg.HIF_SQn_STAMP n)) step (Fin.ofNat 8 (s.get (F.HIF_SQn_CTL_DOM n))) s)
      match spacing s.hif.sq[n].pollAt 250 s with
      | some w => (sqUpd n (fun q => { q with deferred := true }) s1).restart w (.doorbellPoll n false)
      | none => pollIssue n s1
  else
    let s1 := if pollAngle n s && !s.hif.sq[n].deferred then s.inc (F.HIF_SQn_CNT_PTMO n) else s
    pollIssue n s1

/-- DOORBELL_POLL_COMPLETE; a good poll ends the run of failures unless a failed fetch is still to be retried (R368) (DEDUCED, log entry 31). -/
def pollComplete (n : Fin 8) (pi : Option (BitVec 16)) (s : State) : State :=
  if !sqRun n s || s.out.d3hot then s
  else match pi with
  | none => sqFail n (aerNote s)
  | some v =>
    let ci := s.get (F.HIF_SQn_STAT_CI n)
    if sqSize n s < idxDiff v.toNat ci then sqError n 1 v.toNat s
    else fetchKick (sqUpd n (fun q => { q with pi := v.toNat, fails := if q.retry then q.fails else 0, retry := false }) s)

/-- An entry waits for the ring: a completion in its slot or a descriptor that R370 holds back; a telemetry record that was dropped; a log entry
not yet copied (R375, R376) (DESIGN CHOICE, log entry 64). -/
def entryWaits (m : Fin 10) (s : State) : Bool :=
  if m.val < 8 then
    s.hif.wait.any (fun i => cqOf s.hif.slot[i].ring s == m) ||
      (List.finRange 8).any (fun n => cqOf n s == m && sqRun n s && idxDiff s.hif.sq[n].pi (s.get (F.HIF_SQn_STAT_CI n)) != 0)
  else if m = 8 then s.hif.telDrop != 0 else logBehind s != 0

/-- The device reads a ring's consumer word: the ring runs, its cached free count is 0 and an entry waits; then every 1 us while it stays full
(R375). -/
def readDue (m : Fin 10) (s : State) : Bool :=
  cqState m s == rgRUN && !s.out.d3hot && !cqRoom m s && (match s.hif.cq[m].readAt with | some t => decide (t + 1000 ≤ s.clk.ns) | none => entryWaits m s)

/-- The consumer word of a ring (R364). -/
def cqCons (m : Fin 10) (s : State) : Nat :=
  if m.val < 8 then addr64 (s.rd (Reg.HIF_CQm_CONSL m)) (s.rd (Reg.HIF_CQm_CONSH m)) 8
  else addr64 (s.rd (Reg.HIF_OR_CONSL (m - 8))) (s.rd (Reg.HIF_OR_CONSH (m - 8))) 8

/-- CONSUMER_WORD_READ: the read of 8 bytes and its answer (R375). -/
def consumerRead (m : Fin 10) (ci : Option (BitVec 16)) (s0 : State) : State :=
  if !readDue m s0 then s0
  else
  let s := cqUpd m (fun q => { q with readAt := some s0.clk.ns }) (s0.postRead (cqCons m s0) 8)
  match ci with
  | none =>
    let s1 := cqUpd m (fun q => { q with fails := q.fails + 1 }) (aerNote s)
    if dmaTry s ≤ s1.hif.cq[m].fails then cqError m 3 0 s1 else s1
  | some v =>
    if cqSize m s < idxDiff (cqPi m s) v.toNat then cqError m 2 v.toNat s
    else
      let s1 := cqUpd m (fun q => { q with ci := v.toNat, fails := 0 }) s
      fetchKick (drainWait m (if cqRoom m s1 then cqUpd m (fun q => { q with readAt := none }) s1 else s1))

/-! ## Telemetry and the log ring (R376, R378, R379, R533) -/

/-- An entry goes into the telemetry or log ring; the ring's vector follows each 2^IRQSH entries. -/
def orWrite (m : Fin 10) (size : Nat) (d : List Byte) (s : State) : State :=
  let k : Fin 2 := Fin.ofNat 2 (m.val - 8)
  let p := cqPi m s
  let s1 := cqSetPi m ((p + 1) % 65536) (s.postWrite (cqBase m s + p % cqSize m s * size) d)
  let n := s.hif.irqCnt[k] + 1
  let wrap := decide (2 ^ s.get (F.HIF_OR_CTL_IRQSH k) ≤ n)
  let s2 := hifUpd (fun h => { h with irqCnt := h.irqCnt.set k (if wrap then 0 else n) }) s1
  if wrap then s2.sendVector (s.get (F.HIF_OR_CTL_VEC k)) else s2

/-- The rail block of a telemetry record. -/
def telRail (r : Fin 4) (s : State) : List Byte :=
  bytesOfNat 2 (s.get (F.MRVr_VSNOW_S r)) ++ bytesOfNat 2 (sensed r s) ++ bytesOfNat 2 (ofSigned 16 (asr s.mrv[r].iTot 1)) ++
    [b8 (s.get (F.MRVr_STAT_N r) + 32 * s.get (F.MRVr_STAT_STATE r)),
     b8 (s.get (F.PROTr_STAT_PSTATE r) + (if s.mrv[r].glory.active then 4 else 0) + (if s.on (F.MRVr_STAT_OVBLK r) then 8 else 0) + 16 * s.get (F.PARr_STAT_STATE r))]

/-- A motor's speed in 1 rpm (R473). -/
def telRpm (m : Fin 4) (s : State) : Int := clampInt (motRpm m s) (-32768) 32767

/-- A telemetry record. The die temperature is the level at the mux's channel 5, a free value where no command has given it (log entries 5 and 44). -/
def telRecord (s : State) : List Byte :=
  bytesOfNat 8 s.clk.time.toNat ++ bytesOfWord (domAngle (Fin.ofNat 8 (s.get F.HIF_TEL_MODE_DOM)) s) ++ bytesOfNat 2 s.hif.telSeq ++
    [b8 (min s.hif.telDrop 255), 0] ++ telRail 0 s ++ telRail 1 s ++ telRail 2 s ++ telRail 3 s ++
    bytesOfNat 2 s.mrv[(0 : Fin 4)].vinLast ++ bytesOfNat 2 ((s.gath.ain[(5 : Fin 32)]).getD (s.freeWord.truncate 16)).toNat ++
    ((List.finRange 4).map (fun m => bytesOfNat 2 (ofSigned 16 (telRpm m s)))).flatten ++ [0, 0, 0, 0]

/-- The telemetry records come by angle stamp. -/
def telAngle (s : State) : Bool := s.on F.HIF_TEL_MODE_PMODE && !s.hif.telTime

/-- A record is produced: written, or dropped where the ring is full; the next one is scheduled (DEDUCED, log entry 62). -/
def telProduce (s : State) : State :=
  let s0 := hifUpd (fun h => { h with telAt := some s.clk.ns, telDeferred := false }) s
  let s1 := if cqRoom 8 s0 then
      hifUpd (fun h => { h with telSeq := (h.telSeq + 1) % 65536, telDrop := 0 }) (orWrite 8 64 (telRecord s0) s0).draw
    else hifUpd (fun h => { h with telSeq := (h.telSeq + 1) % 65536, telDrop := min (h.telDrop + 1) 255 }) s0
  let p := s.get F.HIF_TEL_MODE_PERIOD
  if telAngle s1 then s1.restart 1000000 (.telemetryRecord false)
  else if p = 0 then s1.cancel (.telemetryRecord false) else s1.restart (p * 1000) (.telemetryRecord false)

/-- TELEMETRY_RECORD: by a stamp crossing, deferred to 1 us after the previous record; by time; by the 1 ms guard (R378). -/
def telemetry (crossing : Bool) (s : State) : State :=
  if cqState 8 s ≠ rgRUN then s
  else if crossing then
    if !(telAngle s && s.hif.telArmable) then s
    else
      let step := s.rd Reg.HIF_TEL_STEP
      let s1 := if step = 0 then hifUpd (fun h => { h with telTime := true, telArmable := false }) s
        else s.wr Reg.HIF_TEL_STAMP (stampStep (s.rd Reg.HIF_TEL_STAMP) step (Fin.ofNat 8 (s.get F.HIF_TEL_MODE_DOM)) s)
      match spacing s.hif.telAt 1000 s with
      | some w => (hifUpd (fun h => { h with telDeferred := true }) s1).restart w (.telemetryRecord false)
      | none => telProduce s1
  else if !telAngle s ∧ s.get F.HIF_TEL_MODE_PERIOD = 0 ∧ !s.hif.telDeferred then s
  else telProduce s

/-- LOG_COPY: HIF copies entry HIDX; one with an uncorrectable error (`ue`) is replaced by an entry that says so; the first copy after
skipped entries queues code 0x0002 (R533, R534). -/
def logCopy (ue : Bool) (s : State) : State :=
  if !(cqRoom 9 s) || logBehind s == 0 || s.log.copied then s
  else
    let h := s.get F.LOG_HIDX_HIDX
    let a := entryAddr h
    let e := s.bytes a 32
    let bad := if ue then some a else badIn a 32 s
    let s := eccFix a 32 s
    let d := if bad.isSome then e.take 12 ++ bytesOfNat 2 0x15 ++ bytesOfNat 2 3 ++ bytesOfNat 4 h ++ (e.drop 12).take 2 ++ List.replicate 10 0 else e
    let s1 := match bad with | some w => eccUe w 1 s | none => s
    let s2 := orWrite 9 32 d (s1.put F.LOG_HIDX_HIDX (h + 1))
    let s3 := if s.log.skips = 0 then s2 else s2.logReq 0x15 0x0002 (bytesOfNat 4 s.log.skips ++ bytesOfNat 4 h)
    { s3 with log := { s3.log with copied := true, skips := 0 } }

/-! ## Enabling and disabling rings (R363, R366, R377) -/

/-- The CTL register of a ring by the numbers of R390, and whether the ring is enabled. -/
def ringCtl (ring : Fin 18) : Nat :=
  if ring.val < 8 then Reg.HIF_SQn_CTL ring else if ring.val < 16 then Reg.HIF_CQm_CTL (ring - 8) else Reg.HIF_OR_CTL (ring - 16)
def ringEn (ring : Fin 18) (s : State) : Bool := (s.rd (ringCtl ring)).getLsbD 0

/-- A ring starts: indices at their start, RUN; a command ring starts polling, a completion ring takes the completions that wait (R366, R376). -/
def ringStart (ring : Fin 18) (s : State) : State :=
  if ring.val < 8 then
    let n : Fin 8 := Fin.ofNat 8 ring.val
    let ci0 := s.get (F.HIF_SQn_CI0_CI0 n)
    let s1 := ((s.put (F.HIF_SQn_STAT_STATE n) rgRUN).put (F.HIF_SQn_STAT_CAUSE n) 0).put (F.HIF_SQn_STAT_CI n) ci0
    let s2 := sqUpd n (fun q => { q with pi := ci0, fails := 0, pollAt := none, deferred := false, armable := true, timeMode := false, held := false, retry := false }) s1
    s2.restart (if pollAngle n s2 then 1000000 else 0) (.doorbellPoll n false)
  else
    let m : Fin 10 := Fin.ofNat 10 (ring.val - 8)
    let s1 := cqUpd m (fun _ => {}) (cqSetPi m 0 (cqSetState m rgRUN s))
    if m.val < 8 then fetchKick (drainWait m (s1.put (F.HIF_CQm_STAT_PHASE m) 1))
    else if m = 8 then
      (hifUpd (fun h => { h with telArmable := true, telTime := false, telDeferred := false, telAt := none, irqCnt := h.irqCnt.set 0 0 }) s1).restart
        (if s.on F.HIF_TEL_MODE_PMODE then 1000000 else max 1 (s.get F.HIF_TEL_MODE_PERIOD) * 1000) (.telemetryRecord false)
    else hifUpd (fun h => { h with irqCnt := h.irqCnt.set 1 0 }) s1

/-- A ring stops: unhandled descriptors of a command ring complete ABORTED, those on their way when they arrive, and the indices return to CI0; what a
function reset has orphaned is no longer the ring's (R361, R377). -/
def ringStop (ring : Fin 18) (s : State) : State :=
  if ring.val < 8 then
    let n : Fin 8 := Fin.ofNat 8 ring.val
    let ci0 := s.get (F.HIF_SQn_CI0_CI0 n)
    let s1 := (s.cancel (.doorbellPoll n false)).each (List.finRange 16) (fun i t =>
      if t.hif.slot[i].ring ≠ n ∨ t.hif.slot[i].orphan then t
      else match t.hif.slot[i].st with
      | .handed => complete i stABORTED 0 0 (hifUpd (fun h => { h with order := h.order.filter (· != i) }) t)
      | .arrived => complete i stABORTED 0 0 t
      | .fetching => slotUpd i (fun x => { x with st := .dropping }) t
      | _ => t)
    let s2 := ((s1.put (F.HIF_SQn_STAT_STATE n) rgOFF).put (F.HIF_SQn_STAT_CAUSE n) 0).put (F.HIF_SQn_STAT_CI n) ci0
    sqUpd n (fun q => { q with pi := ci0, held := false, retry := false, deferred := false }) s2
  else
    let m : Fin 10 := Fin.ofNat 10 (ring.val - 8)
    let s1 := cqSetPi m 0 (cqSetState m rgOFF s)
    if m.val < 8 then s1 else if m = 8 then s1.cancel (.telemetryRecord false) else s1

/-- The ring whose set-up register an address is; the telemetry ring's MODE, whose period TELEM_PERIOD writes while it runs, is none (R363, R383). -/
def setupRing (a : Nat) : Option (Fin 18) :=
  let o := a - 0x400C3000
  if a < 0x400C3000 then none
  else if o < 0x200 then (if o % 0x40 < 0x28 then some (Fin.ofNat 18 (o / 0x40)) else none)
  else if o < 0x300 then (if (o - 0x200) % 0x20 < 0x14 then some (Fin.ofNat 18 (8 + (o - 0x200) / 0x20)) else none)
  else if o < 0x314 ∨ o = 0x31C ∨ o = 0x320 then some 16
  else if 0x380 ≤ o ∧ o < 0x394 then some 17
  else none

/-- HIF_CTL and the ring set-up registers, the telemetry ring's MODE among them, which LOCK closes to the host (R363). -/
def hifLocked (a : Nat) : Bool := a == Reg.HIF_CTL || (setupRing a).isSome || a == Reg.HIF_TEL_MODE

/-- The device ignores a write of the host: LOCK closes the register to it (R363). -/
def hifShut (agent : Agent) (a : Nat) (s : State) : Bool := agent == .host && s.on F.HIF_CTL_LOCK && hifLocked a

/-- A write to a HIF register that is not an ACT register: LOCK and enabled rings turn it away with CFGREF; a ring's EN starts and stops it;
a new GEN clears the tag memory; LOCK, once set, stays (R363, R366, R371, R377). `value` holds the fields the writer may write. -/
def hifWrite (agent : Agent) (a : Nat) (value : Word) (s : State) : State :=
  let old := s.rd a
  if hifShut agent a s then s.put F.HIF_FLT_CFGREF 1
  else match setupRing a with
  | some ring =>
    if ringEn ring s then
      if a = ringCtl ring ∧ !value.getLsbD 0 then ringStop ring (s.wr a value) else s.put F.HIF_FLT_CFGREF 1
    else
      let s1 := s.wr a value
      if a = ringCtl ring ∧ value.getLsbD 0 then ringStart ring s1
      else if ring.val < 8 then
        let n : Fin 8 := Fin.ofNat 8 ring.val
        if a = Reg.HIF_SQn_GEN n ∧ s1.rd a ≠ old then sqUpd n (fun q => { q with tags := [] }) s1
        else if a = Reg.HIF_SQn_STAMP n then sqUpd n (fun q => { q with armable := true, timeMode := false }) s1
        else s1
      else if a = Reg.HIF_TEL_STAMP then hifUpd (fun h => { h with telArmable := true, telTime := false }) s1
      else s1
  | none =>
    if a = Reg.HIF_CTL then
      let s1 := s.wr a (value ||| (old &&& 0x100))
      if !old.getLsbD 8 && (s1.rd a).getLsbD 8 then locksOf 2 s1 else s1
    else if a = Reg.HIF_TEL_MODE then
      let s1 := s.wr a value
      if cqState 8 s1 ≠ rgRUN then s1
      else if telAngle s1 then s1.restart 1000000 (.telemetryRecord false)
      else if s1.get F.HIF_TEL_MODE_PERIOD = 0 then s1.cancel (.telemetryRecord false)
      else if fldOf F.HIF_TEL_MODE_PERIOD old = s1.get F.HIF_TEL_MODE_PERIOD ∧ s.armed (.telemetryRecord false) then s1
      else s1.restart (s1.get F.HIF_TEL_MODE_PERIOD * 1000) (.telemetryRecord false)
    else s.wr a value

/-! ## Function reset and link (R361, R524) -/

/-- A function level reset, a hot reset or the loss of the link; the function's configuration and its MSI-X table return to their reset values (R361,
R389, R399) (DESIGN CHOICE, log entry 64; PRESUMED, log entry 72). -/
def functionReset (kind : Fin 3) (s : State) : State :=
  let held := ((List.finRange 16).filter (fun i => s.hif.slot[i].st == .taken)).length
  let s1 := s.each (List.finRange 18) (fun ring t =>
    let t1 := t.wr (ringCtl ring) (t.rd (ringCtl ring) &&& ~~~1)
    if ring.val < 8 then
      let n : Fin 8 := Fin.ofNat 8 ring.val
      let ci0 := t1.get (F.HIF_SQn_CI0_CI0 n)
      let t2 := ((t1.cancel (.doorbellPoll n false)).put (F.HIF_SQn_STAT_STATE n) rgOFF).put (F.HIF_SQn_STAT_CAUSE n) 0
      sqUpd n (fun _ => { pi := ci0 }) (t2.put (F.HIF_SQn_STAT_CI n) ci0)
    else cqSetPi (Fin.ofNat 10 (ring.val - 8)) 0 (cqSetState (Fin.ofNat 10 (ring.val - 8)) rgOFF t1))
  let s2 := hifUpd (fun h => { h with
    order := [], wait := []
    slot := h.slot.map (fun (x : HSlot) => if x.st = .taken then { x with orphan := true } else ({} : HSlot)) }) ((s1.cancel (.telemetryRecord false)).cancel .descriptorFetch)
  let s3 : State := { s2 with
    lop := s2.lop.map (fun (l : LongOp) => ({ l with host := none } : LongOp))
    out := { s2.out with table := [], pba := 0, msixOn := false, msixMask := false, d3hot := false, aspmL1 := false, bar := 0 } }
  let s4 := locksOf 2 (s3.logReq 0x0C 0x0001 [b8 (kind.val + 1), b8 held])
  let s5 := if kind = 0 then s4.put F.HIF_CTL_LOCK 0 else s4
  if kind = 2 then
    let s6 := ((s5.put F.SYS_SPEED_PCIEUP 0).put F.HIF_STAT_LINKUP 0).put F.HIF_STAT_SPEED 0
    { (s6.put F.HIF_STAT_WIDTH 0) with pwr := { s6.pwr with linkUp := false } }
  else s5

/-! ## Configuration space (R359, R389) -/

/-- A word of the function's configuration space; the places of the capabilities are the model's (R359) (PRESUMED, log entry 72). -/
def cfgRead (o : Nat) (s : State) : Word :=
  match o with
  | 0x00 => 0x96400000 ||| Config.vendorId.zeroExtend 32
  | 0x08 => 0x11800000 ||| Config.pcieRevision.zeroExtend 32
  | 0x10 => (s.out.bar.extractLsb' 0 32 &&& 0xFFFF0000) ||| 4
  | 0x14 => s.out.bar.extractLsb' 32 32
  | 0x34 => 0x40
  | 0x40 => 0x00035001
  | 0x44 => if s.out.d3hot then 0xB else 0x8
  | 0x50 => 0x001F7011 ||| (if s.out.msixMask then 0x40000000 else 0) ||| (if s.out.msixOn then 0x80000000 else 0)
  | 0x54 => 0x8000
  | 0x58 => 0x9000
  | 0x70 => 0x00020010
  | 0x80 => (if s.out.aspmL1 then 2 else 0) ||| BitVec.ofNat 32 (s.get F.HIF_STAT_SPEED * 65536 + s.get F.HIF_STAT_WIDTH * 1048576)
  | 0x100 => 0x00010001
  | 0x104 => s.out.aer
  | _ => 0

/-- What has waited goes on where the function may make requests again. -/
def dmaResume (s : State) : State :=
  (fetchKick (s.each (List.finRange 10) drainWait)).each (List.range 32) (fun v t => t.msixLate v)

/-- A write of a word of the configuration space: the base address, the power state, MSI-X Enable and Function Mask, Initiate FLR, ASPM, and the AER
status, whose bits clear where 1 is written (R359, R361, R389) (PRESUMED, log entry 72). -/
def cfgWrite (o : Nat) (v : Word) (s : State) : State :=
  match o with
  | 0x10 => { s with out := { s.out with bar := s.out.bar.extractLsb' 32 32 ++ (v &&& 0xFFFF0000) } }
  | 0x14 => { s with out := { s.out with bar := v ++ s.out.bar.extractLsb' 0 32 } }
  | 0x44 =>
    if v &&& 3 = 3 then { s with out := { s.out with d3hot := true } }
    else if v &&& 3 = 0 then dmaResume { s with out := { s.out with d3hot := false } }
    else s
  | 0x50 => dmaResume { s with out := { s.out with msixOn := v.getLsbD 31, msixMask := v.getLsbD 30 } }
  | 0x78 => if v.getLsbD 15 then functionReset 0 s else s
  | 0x80 => { s with out := { s.out with aspmL1 := v.getLsbD 1 } }
  | 0x104 => { s with out := { s.out with aer := s.out.aer &&& ~~~v } }
  | _ => s

/-- The PCIe link reaches L0 with a speed generation and a width (R524). -/
def linkTrained (speed : Fin 4) (width : Fin 16) (s : State) : State :=
  let s1 := ((s.put F.SYS_SPEED_PCIEUP 1).put F.HIF_STAT_LINKUP 1).put F.HIF_STAT_SPEED (speed.val + 1)
  { (s1.put F.HIF_STAT_WIDTH width) with pwr := { s1.pwr with linkUp := true } }

/-! ## Meanings -/

/-- PCIE_FUNCTION_RESET: 0 FLR, 1 hot reset, 2 link loss (R361). -/
def execPcieFunctionReset (kind : Fin 3) (s : State) : Out := .next (functionReset kind s)

/-- PCIE_LINK_UP: link training starts after the wipe of a device reset and ends at x1 or x2 (R359, R523, R524). -/
def execPcieLinkUp (speed : Fin 4) (width : Fin 16) (s : State) : Out := .next (if (width = 1 || width = 2) && s.pwr.recorded && domainOn 56 s && !s.on F.SYS_SUPPLY_PHYLOW then linkTrained speed width s else s)

/-- RING_ENABLE: a write of a ring's CTL with EN = 1 (R363, R366). -/
def execRingEnable (agent : Agent) (ring : Fin 18) (value : Word) (s : State) : Out :=
  .next (if slotOn Reg.HIF_CTL s then hifWrite agent (ringCtl ring) (value ||| 1) s else { s with busErr := true })

/-- RING_DISABLE: a write of a ring's CTL with EN = 0 (R377). -/
def execRingDisable (agent : Agent) (ring : Fin 18) (value : Word) (s : State) : Out :=
  .next (if slotOn Reg.HIF_CTL s then hifWrite agent (ringCtl ring) (value &&& ~~~1) s else { s with busErr := true })

/-- DOORBELL_POLL (R367). -/
def execDoorbellPoll (n : Fin 8) (crossing : Bool) (s : State) : Out := .next (doorbellPoll n crossing s)

/-- DOORBELL_POLL_COMPLETE: PI, or none for a failed read (R368). -/
def execDoorbellPollComplete (n : Fin 8) (pi : Option (BitVec 16)) (s : State) : Out := .next (pollComplete n pi s)

/-- DESCRIPTOR_FETCH (R369). -/
def execDescriptorFetch (s : State) : Out := .next (fetchBatch s)

/-- DESCRIPTOR_ARRIVAL: the descriptor in a slot and the host buffer it names, none for a failed read (R371). -/
def execDescriptorArrival (slot : Fin 16) (desc : Option (BitVec 512)) (buf : Option (List Byte)) (s : State) : Out :=
  .next (arrival slot desc buf s)

/-- HIF_TAKE (R372). -/
def execHifTake (agent : Agent) (s : State) : Out := .next (if slotOn Reg.HIF_TAKE s then takeSlot agent s else { s with busErr := true })

/-- POST: HIF_ACT action 0x01 (R373). -/
def execPost (ticket : Byte) (arg : BitVec 16) (s : State) : Out := .next (s.actAt Reg.HIF_ACT ticket arg 1 (postDo arg))

/-- CONSUMER_WORD_READ: rings 0 to 7 completion, 8 telemetry, 9 log; none for a failed read (R375). -/
def execConsumerWordRead (ring : Fin 10) (ci : Option (BitVec 16)) (s : State) : Out := .next (consumerRead ring ci s)

/-- TELEMETRY_RECORD (R378). -/
def execTelemetryRecord (crossing : Bool) (s : State) : Out := .next (telemetry crossing s)

/-- LOG_COPY (R533). -/
def execLogCopy (ue : Bool) (s : State) : Out := .next (logCopy ue s)

end Sys2Proof.Machine
end

