-- ==== Sys2Proof/Machine/Link.lean ====
section
/-!
DEFINITION. Machine/Link.lean: the Apram link (spec/07_apram_link.md, R190 to R210): lanes, frames, deskew, messages, sequence numbers
and the transmit lane. Blocks arrive as the 66 bits on the lane.
-/
namespace Sys2Proof.Machine

/-- The link's hidden state, and a lane's, replaced. -/
def aprUpd (f : Apr → Apr) (s : State) : State := { s with apr := f s.apr }
def laneUpd (ln : Fin 2) (f : AprLane → AprLane) (s : State) : State := aprUpd (fun a => { a with lane := updAt a.lane ln f }) s

/-- APR_STAT.LANE of a lane: 0 DOWN, 1 HUNT, 2 BLOCK, 3 FRAMED (R197); LINK: 0 DOWN, 1 ALIGN, 2 ACTIVE, 3 DEGRADED (R198). -/
def laneFld (ln : Fin 2) : Fld := if ln = 0 then F.APR_STAT_LANE0 else F.APR_STAT_LANE1
def laneState (ln : Fin 2) (s : State) : Nat := s.get (laneFld ln)
def linkState (s : State) : Nat := s.get F.APR_STAT_LINK
def linkUp (s : State) : Bool := decide (2 ≤ linkState s)

/-- The lanes. -/
def lanes : List (Fin 2) := [0, 1]

/-- CRC-16 of R201: polynomial 0x1021, initial value 0xFFFF, most significant bit first. -/
def crc16Bit (c : BitVec 16) : BitVec 16 := if c.msb then (c <<< 1) ^^^ 0x1021 else c <<< 1
def crc16Byte (c : BitVec 16) (b : Byte) : BitVec 16 :=
  crc16Bit (crc16Bit (crc16Bit (crc16Bit (crc16Bit (crc16Bit (crc16Bit (crc16Bit (c ^^^ (b ++ (0 : Byte))))))))))
def crc16 (l : List Byte) : BitVec 16 := l.foldl crc16Byte 0xFFFF

/-! ## Link state (R198, R199) -/

/-- LINK changes: log code 0x0001; source 134 on an entry to ACTIVE or DEGRADED from below; ALIGN from DOWN marks the sequence
unsynchronised (R199, R208). -/
def setLink (new : Nat) (joined : Fin 2 → Bool) (s : State) : State :=
  let old := linkState s
  let s1 := s.each lanes (fun ln => laneUpd ln (fun l => { l with joined := joined ln }))
  if new = old then s1
  else
    let s2 := (s1.put F.APR_STAT_LINK new).logReq 0x07 0x0001 [0, b8 old, b8 new, b8 (laneState 0 s + 4 * laneState 1 s)]
    let s3 := s2.when (old == 0 && new == 1) (fun t => t.put F.APR_STAT_SYNCD 0)
    let s4 := s3.when (decide (new < 2)) (aprUpd (fun a => { a with join := false, downAt := if new = 0 then some s.clk.ns else a.downAt }))
    s4.when (decide (2 ≤ new) && decide (old < 2)) (fun t => t.fire 134)

/-- A joined lane is lost while the link is up: source 132, LANELOSS, log code 0x0002, HOLDOVER of the APRAM domains (R60, R199). -/
def laneLoss (ln : Fin 2) (cause : Nat) (s : State) : State :=
  let s1 := ((s.fire 132).put F.APR_FLT_LANELOSS 1).logReq 0x07 0x0002 [b8 ln, b8 cause]
  s1.each (List.finRange 8) (fun d t => if t.on (F.ANGn_CTL_EN d) ∧ t.dom[d].src = 2 then refMissing d t else t)

/-- A lane leaves or enters BLOCK: its place in the frame and its FNUM history start afresh (R194, R197). -/
def laneFresh (ln : Fin 2) (s : State) : State :=
  (s.cancel (.linkTimeout ln)) |> laneUpd ln (fun l => { l with fnum := none, frames := [], pos := none, missed := 0, due := false })

/-- A message that lacks its second block is discarded and counted (R201). -/
def halfLost (ln : Fin 2) (s : State) : State :=
  (laneUpd ln (fun l => { l with half := none, cut := false }) s).when (s.apr.lane[ln].half.isSome && linkUp s && s.apr.lane[ln].joined)
    (fun t => t.inc F.APR_CNT1_CRCERR)

/-- A lane without block lock: everything it has gathered is dropped, and the first block after the next lock is not used (R192, R197). -/
def laneUnlock (ln : Fin 2) (s : State) : State :=
  laneUpd ln (fun l => { l with good := 0, hist := [], fresh := true, half := none, cut := false }) (laneFresh ln s)

/-- The link follows the lanes: a joined lane that is no longer FRAMED degrades or ends it (R198). -/
def linkFollow (s : State) : State :=
  let up := fun ln => s.apr.lane[ln].joined && laneState ln s == 3
  if linkUp s && lanes.any (fun ln => s.apr.lane[ln].joined && laneState ln s != 3) then
    (if linkState s == 2 && lanes.any up && s.on F.APR_CTL_ONELANE then setLink 3 up s else setLink 0 (fun _ => false) s)
  else if linkState s = 1 ∧ lanes.all (fun ln => laneState ln s != 3) then setLink 0 (fun _ => false) s
  else s

/-- A lane goes to a state below FRAMED; one that was FRAMED and joined to a link that is up is a lane loss (R197, R199). -/
def laneTo (ln : Fin 2) (st cause : Nat) (s : State) : State :=
  if laneState ln s = st then s
  else
    let lost := laneState ln s == 3 && linkUp s && s.apr.lane[ln].joined
    let s1 := (if st = 2 then laneFresh ln s else laneUnlock ln (halfLost ln s)).put (laneFld ln) st
    let s2 := s1.when (laneState ln s == 3) (aprUpd (fun a => { a with join := false }))
    linkFollow (s2.when lost (laneLoss ln cause))

/-- Both lanes and the link go DOWN: RETRAIN, EN = 0 (R199). -/
def aprDown (cause : Nat) (s : State) : State :=
  let s1 := s.each lanes (fun ln t =>
    let lost := laneState ln s == 3 && linkUp s && s.apr.lane[ln].joined
    (laneUnlock ln ((halfLost ln t).put (laneFld ln) 0)).when lost (laneLoss ln cause))
  setLink 0 (fun _ => false) (s1.each lanes (fun ln => laneUpd ln (fun l => { l with cr := false, buf := [], refill := 4, insertOk := false })))

/-- The link is DOWN with a lane FRAMED: ALIGN from the next cycle; LINKTO runs for each FRAMED lane (R198). -/
def linkTo (s : State) : Nat := zeroAsOne (s.get F.APR_LINK_LINKTO) * 10000

/-- The two lanes hold FRAME blocks with equal FNUM: skew measured; at most 3 slots apart joins a lane, more sets SKEW (R198). Times are
in 1/64 ns: a slot is 337.92, three are 1013.76. -/
def deskew (fnum : Nat) (s : State) : State :=
  match mapFind s.apr.lane[(0 : Fin 2)].frames fnum, mapFind s.apr.lane[(1 : Fin 2)].frames fnum with
  | some t0, some t1 =>
    if laneState 0 s = 3 ∧ laneState 1 s = 3 then
      let dt : Int := (t1 : Int) - t0
      let s1 := s.putI F.APR_STAT_SKEW (clampInt ((2 * dt * 100 + 33792).fdiv 67584) (-8) 7)
      if 101376 < dt.natAbs * 100 then s1.put F.APR_FLT_SKEW 1
      else if linkState s1 = 1 then setLink 2 (fun _ => true) s1
      else if linkState s1 = 3 then aprUpd (fun a => { a with join := true }) s1
      else s1
    else s
  | _, _ => s

/-- The start of a loop-clock cycle on the link: a link that was DOWN with a lane FRAMED in an earlier cycle goes to ALIGN with its FRAMED lanes
(R198). -/
def aprCycle (s : State) : State :=
  let fr := lanes.filter (fun ln => laneState ln s == 3)
  let before := fr.any (fun ln => s.apr.lane[ln].framedAt != some s.clk.ns) && s.apr.downAt != some s.clk.ns
  if s.on F.APR_CTL_EN ∧ linkState s = 0 ∧ before then
    let s1 := setLink 1 (fun _ => false) s
    let s2 := s1.each fr (fun ln t => t.restart (linkTo t) (.linkTimeout ln))
    match s2.apr.lane[(0 : Fin 2)].frames.find? (fun p => s2.apr.lane[(1 : Fin 2)].frames.any (fun q => q.1 == p.1)) with
    | some p => deskew p.1 s2
    | none => s2
  else s

/-- LINK_TIMEOUT: one lane has been FRAMED for LINKTO; with ONELANE = 1 the link is DEGRADED on it (R198). -/
def linkTimeout (ln : Fin 2) (s : State) : State :=
  if linkState s = 1 ∧ laneState ln s = 3 then
    (if s.on F.APR_CTL_ONELANE then setLink 3 (fun x => x == ln) s else laneUpd ln (fun l => { l with due := true }) s)
  else s

/-! ## Elastic buffer (R196) -/

/-- A recentre at a fill: every held block is lost with the messages they carry, each counted in CRCERR; SLIP, log code 0x0006
(R196, R201, R218) (DEDUCED, log entry 39). -/
def recentre (ln : Fin 2) (fill : Nat) (s : State) : State :=
  let l := s.apr.lane[ln]
  let s1 := ((s.inc F.APR_CNT2_SLIP).put F.APR_FLT_SLIP 1).logReq 0x07 0x0006 [b8 ln, b8 fill]
  let s2 := s1.each l.buf (fun b t => match b with | .data (some c) => t.cancel c | _ => t)
  let cut := l.half.isSome && l.buf.getLast? == some .msg
  let n := (l.buf.filter (fun b => match b with | .data (some _) => true | _ => false)).length + (if cut then 1 else 0)
  laneUpd ln (fun x => { x with buf := [], refill := 4, insertOk := false, half := if cut then none else x.half, cut := x.cut || cut })
    (s2.when (linkUp s2 && l.joined) (fun t => t.inc F.APR_CNT1_CRCERR n))

/-- The first IDLE block of a buffer removed. -/
def dropIdle (l : List AprBlk) : List AprBlk := l.erase .idle

/-- A block enters the buffer: above 5 an IDLE is removed; at 8 without one, a recentre (R196). -/
def bufIn (ln : Fin 2) (b : AprBlk) (s : State) : State :=
  let s1 := laneUpd ln (fun l => { l with buf := l.buf ++ [b], refill := l.refill - 1 }) s
  let buf := s1.apr.lane[ln].buf
  if 5 < buf.length ∧ AprBlk.idle ∈ buf then laneUpd ln (fun l => { l with buf := dropIdle l.buf }) s1
  else if 8 ≤ buf.length then recentre ln 8 s1
  else s1

/-- A block leaves the buffer in a slot: below 3 an IDLE is inserted where one may follow; at 0 a recentre (R196). -/
def bufOut (ln : Fin 2) (s : State) : State :=
  let l := s.apr.lane[ln]
  if laneState ln s < 2 ∨ l.refill ≠ 0 then s
  else if l.buf.length < 3 ∧ l.insertOk then laneUpd ln (fun x => { x with insertOk := true }) s
  else
    match l.buf with
    | [] => recentre ln 0 s
    | b :: rest =>
      let ok := match b with | .idle => true | .frame => true | .data _ => true | _ => false
      let s1 := laneUpd ln (fun x => { x with buf := rest, insertOk := ok }) s
      if rest = [] ∧ !ok then recentre ln 0 s1 else s1

/-! ## Blocks (R191 to R197) -/

/-- An errored block is counted (R191, R193). -/
def hdrErr (s : State) : State := s.inc F.APR_CNT1_HDRERR

/-- What every arriving block does to its lane: block lock in HUNT, the error count, the place in the frame; answers whether the block's
content is used (R192, R197). `frameOk`: the block is a valid FRAME block (DEDUCED, log entry 39). -/
def laneBlock (ln : Fin 2) (headerOk errored : Bool) (s : State) : State × Bool :=
  let st := laneState ln s
  if !s.on F.APR_CTL_EN || st == 0 then (s, false)
  else if st = 1 then
    let g := if headerOk then s.apr.lane[ln].good + 1 else 0
    let s1 := s.when (!headerOk) hdrErr
    if g = 64 then (laneUpd ln (fun l => { l with buf := [], refill := 4, insertOk := false }) (laneUnlock ln (s1.put (laneFld ln) 2)), false)
    else (laneUpd ln (fun l => { l with good := g }) s1, false)
  else
    let l := s.apr.lane[ln]
    let hist := (errored :: l.hist).take 64
    let s1 := s.when errored hdrErr
    if 16 ≤ (hist.filter id).length then (laneTo ln 1 2 s1, false)
    else (laneUpd ln (fun x => { x with hist := hist, fresh := false, pos := x.pos.map (· + 1) }) s1, !l.fresh)

/-- The expected FRAME slot of a FRAMED lane has held no valid FRAME block: two in a row fall to BLOCK (R197). -/
def frameSlot (ln : Fin 2) (valid : Bool) (s : State) : State :=
  if laneState ln s = 3 ∧ s.apr.lane[ln].pos = some s.apr.flen then
    (if valid then laneUpd ln (fun l => { l with pos := some 0, missed := 0 }) s
     else if s.apr.lane[ln].missed = 1 then laneTo ln 2 1 s
     else laneUpd ln (fun l => { l with pos := some 0, missed := l.missed + 1 }) s)
  else s

/-- An IDLE block (R193). -/
def aprIdle (ln : Fin 2) (clean : Bool) (s : State) : State :=
  let x := laneBlock ln true false s
  if x.2 then bufIn ln .idle (frameSlot ln false ((halfLost ln x.1).when (!clean) hdrErr)) else frameSlot ln false x.1

/-- A valid FRAME block on a lane: FRAMED after two exactly FLEN slots apart, deskew, the reference event of the lowest lane joined
when it arrives (R194, R197, R198, R200, R208). -/
def frameValid (ln : Fin 2) (fnum : Nat) (seqrst : Bool) (sub : Nat) (s : State) : State :=
  let t64 := s.clk.ns * 64 + sub
  let newly := laneState ln s == 2 && s.apr.lane[ln].pos == some s.apr.flen
  let s1 := laneUpd ln (fun l => { l with fnum := some fnum, frames := ((fnum, t64) :: l.frames).take 8 }) s
  let s2 := s1.when seqrst (fun t => t.put F.APR_STAT_SYNCD 0)
  let s3 := if laneState ln s = 2 then
      laneUpd ln (fun l => { l with pos := some 0, missed := 0 }) (s2.when newly (fun t => laneUpd ln (fun l => { l with framedAt := some t.clk.ns }) (t.put (laneFld ln) 3)))
    else frameSlot ln true s2
  let s4 := s3.when (newly && linkState s3 == 1) (fun t => t.restart (linkTo t) (.linkTimeout ln))
  let joinWas := s4.apr.join
  let s5 := deskew fnum s4
  let joined := linkUp s5 && s5.apr.lane[ln].joined
  let s6 := if joined && joinWas && linkState s5 == 3 then setLink 2 (fun _ => true) (aprUpd (fun a => { a with join := false }) s5) else s5
  let first := lanes.find? (fun x => s5.apr.lane[x].joined && laneState x s5 == 3)
  if joined ∧ first = some ln then
    s6.each (List.finRange 8) (fun d t => if t.on (F.ANGn_CTL_EN d) ∧ t.dom[d].src = 2 then (refEvent d t.now64 t).1 else t)
  else s6

/-- A FRAME block: unused and counted where LANE, FLEN or FNUM is wrong (R194). -/
def aprFrame (ln : Fin 2) (lane fnum flen : Nat) (seqrst : Bool) (sub : Nat) (s : State) : State :=
  let x := laneBlock ln true false s
  if !x.2 then frameSlot ln false x.1
  else
    let s1 := bufIn ln .frame (halfLost ln x.1)
    let s2 := s1.when (flen != s1.apr.flen) (fun t => t.put F.APR_FLT_FLENERR 1)
    let ok := lane == ln.val && flen == s2.apr.flen && (match s2.apr.lane[ln].fnum with | some f => fnum == (f + 1) % 65536 | none => true)
    if ok then frameValid ln fnum seqrst sub s2 else frameSlot ln false (s2.inc F.APR_CNT2_BADFRM)

/-- A MSG block: its data block must come in the next slot of the lane (R193). -/
def aprMsg (ln : Fin 2) (d : BitVec 64) (s : State) : State :=
  let x := laneBlock ln true false s
  if x.2 then
    frameSlot ln false (bufIn ln .msg (laneUpd ln (fun l => { l with half := some (bytesOfNat 8 d.toNat), cut := false }) (halfLost ln x.1)))
  else frameSlot ln false x.1

/-- The command that an accepted message becomes; none where its CRC is wrong (R201, R203). -/
def aprMessage (ln : Fin 2) (m : List Byte) : Option Instr :=
  let n := fun (i k : Nat) => natOfBytes ((m.drop i).take k)
  if m.getD 0 0 ≠ 0x6C ∨ (crc16 ((m.drop 1).take 13)).toNat ≠ n 14 2 then none
  else
    let r : Fin 4 := Fin.ofNat 4 (n 4 1)
    match n 1 1 with
    | 1 => some (.forecast ln (BitVec.ofNat 16 (n 2 2)) r (BitVec.ofNat 16 (n 5 2)) (BitVec.ofNat 13 (n 7 2)) (BitVec.ofNat 12 (n 9 2)) (BitVec.ofNat 8 (n 11 1)))
    | 2 => some (.vset ln (BitVec.ofNat 16 (n 2 2)) r (BitVec.ofNat 13 (n 5 2)))
    | _ => some (.unknownMessage ln (BitVec.ofNat 16 (n 2 2)))

/-- A data block: the second half of a message, received 48 ns after its last bit; of two messages with one acceptance cycle, lane 0's
comes first (R193, R201, R202) (DEDUCED, log entry 39). -/
def aprData (ln : Fin 2) (headerOk ok : Bool) (d : BitVec 64) (s : State) : State :=
  let l := s.apr.lane[ln]
  let errored := !headerOk || !ok || (l.half.isNone && !l.cut)
  let x := laneBlock ln headerOk errored s
  if !x.2 then frameSlot ln false x.1
  else if errored then frameSlot ln false (bufIn ln .other (halfLost ln x.1))
  else
    let s1 := laneUpd ln (fun y => { y with half := none, cut := false }) x.1
    match l.half with
    | none => frameSlot ln false (bufIn ln .other s1)
    | some h =>
      match aprMessage ln (h ++ bytesOfNat 8 d.toNat) with
      | none => frameSlot ln false (bufIn ln (.data none) (s1.when (linkUp s1 && l.joined) (fun t => t.inc F.APR_CNT1_CRCERR)))
      | some c =>
        let s2 : State := { s1 with timers := if ln = 0 then (s1.clk.ns + 48, c) :: s1.timers else s1.timers ++ [(s1.clk.ns + 48, c)] }
        frameSlot ln false (bufIn ln (.data (some c)) s2)

/-- Eight bytes as a block's payload, byte 0 first. -/
def payload (l : List Byte) : BitVec 64 := BitVec.ofNat 64 (natOfBytes (l.take 8))

/-- One descrambled bit: the received bit XOR those received 39 and 58 bits before (R192). -/
def descramble : Nat → BitVec 64 → BitVec 58 → BitVec 64 → BitVec 64 × BitVec 58
  | 0, _, st, out => (out, st)
  | k + 1, d, st, out =>
    let b := d.getLsbD 0
    let o := (b != st.getLsbD 38) != st.getLsbD 57
    descramble k (d >>> 1) ((st <<< 1) ||| (if b then 1 else 0)) ((out >>> 1) ||| (if o then 0x8000000000000000 else 0))

/-- A block as a lane receives it, with the lane's polarity undone (R190, R191). The first bit on the lane is bit 0. -/
def rxBits (ln : Fin 2) (w : BitVec 66) (s : State) : BitVec 66 := if s.bit F.APR_CTL_RXPOL ln then ~~~w else w

/-- The bytes of a received block's payload, descrambled (R191, R192). -/
def rxPayload (ln : Fin 2) (w : BitVec 66) (s : State) : List Byte :=
  bytesOfNat 8 (descramble 64 ((rxBits ln w s).extractLsb' 2 64) s.apr.lane[ln].scr 0).1.toNat

/-- A block arrives on a lane: a data block, a control block by its type, or an errored block (R191 to R194). -/
def rxBlock (ln : Fin 2) (w : BitVec 66) (sub : Nat) (s : State) : State :=
  let v := rxBits ln w s
  let p := rxPayload ln w s
  let s1 := laneUpd ln (fun l => { l with scr := (descramble 64 (v.extractLsb' 2 64) l.scr 0).2 }) s
  let d := payload p
  match v.extractLsb' 0 2 with
  | 2 => aprData ln true true d s1
  | 1 =>
    (match (p.getD 0 0).toNat with
     | 0x33 => aprIdle ln (decide (p.drop 1 = List.replicate 7 0)) s1
     | 0x5A => aprFrame ln (p.getD 1 0).toNat (natOfBytes ((p.drop 2).take 2)) (natOfBytes ((p.drop 4).take 2)) ((p.getD 6 0).getLsbD 3) sub s1
     | 0x6C => aprMsg ln d s1
     | _ => aprData ln true false d s1)
  | _ => aprData ln false false d s1

/-- Clock recovery of a lane locks: HUNT, unless a RETRAIN still holds the lane DOWN (R197, R199). -/
def clockRecovered (ln : Fin 2) (s : State) : State :=
  if !s.on F.APR_CTL_EN ∨ laneState ln s ≠ 0 then s
  else if s.apr.holdRx then laneUpd ln (fun l => { l with cr := true }) s
  else laneUnlock ln (s.put (laneFld ln) 1)

/-- Clock recovery of a lane unlocks: DOWN, cause 3 (R197, R218). -/
def clockUnlock (ln : Fin 2) (s : State) : State := laneUpd ln (fun l => { l with cr := false, buf := [], refill := 4, insertOk := false }) (laneTo ln 0 3 s)

/-! ## Sequence (R206 to R208) -/

/-- The device's record of received sequences: H and BM. -/
def seqH (s : State) : Nat := s.get F.APR_SEQ_H
def seqBM (s : State) : Nat := s.get F.APR_BMAP_BM

/-- `while BM[0] = 1: H += 1; BM >>= 1` (R206). -/
def seqSlide : Nat → Nat → Nat → Nat × Nat
  | 0, h, bm => (h, bm)
  | k + 1, h, bm => if bm % 2 = 1 then seqSlide k ((h + 1) % 65536) (bm / 2) else (h, bm)

/-- H and BM take values: an ACK becomes pending on a change; the GAP timer runs while BM is nonzero and restarts at each advance of H
(R206, R207, R210). -/
def seqSet (h bm : Nat) (s : State) : State :=
  let n := seqSlide 32 h bm
  let changed := n.1 != seqH s || n.2 != seqBM s
  let s1 := ((s.put F.APR_SEQ_H n.1).put F.APR_BMAP_BM n.2).when changed (aprUpd (fun a => { a with ack := true }))
  if n.2 = 0 then s1.cancel .gapTimeout
  else if n.1 ≠ seqH s ∨ !s1.armed .gapTimeout then s1.restart (zeroAsOne (s.get F.APR_LINK_GAPTO) * 10) .gapTimeout
  else s1

/-- Sequences declared lost: counted, GAP pending in two copies, source 133, log code 0x0003 (R207, R210). -/
def seqLost (lost : List Nat) (s : State) : State :=
  match lost.head?, lost.getLast? with
  | some a, some z =>
    let id := (s.apr.gapid + 1) % 256
    let p := bytesOfNat 2 a ++ bytesOfNat 2 z ++ bytesOfNat 2 (seqH s) ++ [b8 id]
    let s1 := (s.inc F.APR_CNT0_LOST lost.length).fire 133
    let s2 := s1.logReq 0x07 0x0003 ([0] ++ bytesOfNat 2 a ++ bytesOfNat 2 z ++ [b8 id])
    aprUpd (fun x => { x with gapid := id, lost := min 65535 (x.lost + lost.length), gaps := x.gaps ++ [(0, p, false)] }) s2
  | _, _ => s

/-- The unmarked sequences among the `n` that follow H. -/
def seqHoles (n : Nat) (s : State) : List Nat :=
  ((List.range n).filter (fun i => 32 ≤ i || !(seqBM s).testBit i)).map (fun i => (seqH s + 1 + i) % 65536)

/-- A message that passes R201: synchronised where it was not, then duplicate or marked; answers whether it is acted on (R206, R208). -/
def seqMark (seq : Nat) (s : State) : State × Bool :=
  let s1 := if s.on F.APR_STAT_SYNCD then s else (seqSet ((seq + 65535) % 65536) 0 s).put F.APR_STAT_SYNCD 1
  let d : Int := toSigned 16 (seq + 65536 - seqH s1)
  if d ≤ 0 ∨ (d ≤ 32 ∧ (seqBM s1).testBit (d.toNat - 1)) then (s1.inc F.APR_CNT0_DUP, false)
  else if d ≤ 32 then (seqSet (seqH s1) (seqBM s1 + 2 ^ (d.toNat - 1)) s1, true)
  else (seqLost (seqHoles (d.toNat - 1) s1) (seqSet seq 0 s1), true)

/-- GAP_TIMEOUT: the holes below the lowest marked sequence are lost and H moves past them (R207). -/
def gapTimeout (s : State) : State :=
  match (List.range 32).find? (fun i => (seqBM s).testBit i) with
  | some k => seqLost (seqHoles k s) (seqSet ((seqH s + k) % 65536) (seqBM s / 2 ^ k) s)
  | none => s

/-- A message in its acceptance cycle: nothing unless its lane carries messages; duplicates end here (R202, R206). -/
def aprAccept (ln : Fin 2) (seq : Nat) (act : State → State) (s : State) : State :=
  if linkUp s && s.apr.lane[ln].joined then
    (let x := seqMark seq s
     if x.2 then act x.1 else x.1)
  else s

/-! ## The transmit lane (R192, R195, R199, R209, R210) -/

/-- One scrambled bit: the input XOR the outputs of 39 and 58 bits before (R192). -/
def scramble : Nat → BitVec 64 → BitVec 58 → BitVec 64 → BitVec 64 × BitVec 58
  | 0, _, st, out => (out, st)
  | k + 1, d, st, out =>
    let b := (d.getLsbD 0 != st.getLsbD 38) != st.getLsbD 57
    scramble k (d >>> 1) ((st <<< 1) ||| (if b then 1 else 0)) ((out >>> 1) ||| (if b then 0x8000000000000000 else 0))

/-- A block goes out: header 0,1 for data and 1,0 for control, the payload scrambled, both inverted where TXPOL = 1 (R190 to R192). The
first bit on the lane is bit 0. -/
def txBlock (control : Bool) (d : BitVec 64) (s : State) : State :=
  let x := scramble 64 d s.apr.scr 0
  let w : BitVec 66 := x.1 ++ (if control then 1#2 else 2#2)
  aprUpd (fun a => { a with scr := x.2, tx := if s.on F.APR_CTL_TXPOL then ~~~w else w }) s

/-- The first block of a back-channel message goes out; the second waits for the next slot (R201, R210). -/
def txMessage (type : Nat) (body : List Byte) (s : State) : State :=
  let m := (b8 type :: body ++ List.replicate 12 0).take 13
  let all := (0x6C : Byte) :: m ++ bytesOfNat 2 (crc16 m).toNat
  aprUpd (fun a => { a with second := some (payload (all.drop 8)) }) (txBlock true (payload all) s)

/-- What the slot sends, by the order of R209. -/
def txSlotContent (s : State) : State :=
  let a := s.apr
  match a.second with
  | some d => aprUpd (fun x => { x with second := none }) (txBlock false d s)
  | none =>
    if a.newFrame || a.txPos == 0 then
      let f := [0x5A, 0x10] ++ bytesOfNat 2 a.txFnum ++ bytesOfNat 2 a.flen ++ [b8 (linkState s), 0]
      aprUpd (fun x => { x with newFrame := false, txPos := 0, idles := 0, ack := true, txFnum := (x.txFnum + 1) % 65536 }) (txBlock true (payload f) s)
    else
      let room := decide (a.txPos + 2 + (2 - a.idles) ≤ a.flen) && decide (a.txPos + 1 < a.flen)
      let idle := aprUpd (fun x => { x with idles := x.idles + 1 }) (txBlock true (payload [0x33]) s)
      if !room then idle
      else
        match a.gaps.find? (fun g => g.1 == 0) with
        | some g =>
          let rest := a.gaps.erase g
          let s1 := (txMessage 0x82 (g.2.1 ++ [if g.2.2 then 1 else 0]) s).put F.APR_SEQ_GAPID (g.2.1.getD 6 0).toNat
          aprUpd (fun x => { x with gaps := if g.2.2 then rest else rest ++ [(12, g.2.1, true)] }) s1
        | none =>
          if a.ack then
            aprUpd (fun x => { x with ack := false }) (txMessage 0x81 (bytesOfNat 2 (seqH s) ++ bytesOfNat 4 (seqBM s) ++ bytesOfNat 2 a.lost) s)
          else
            match rails.find? (fun r => a.telem[r].isSome) with
            | some r => aprUpd (fun x => { x with telem := updAt x.telem r (fun _ => none) }) (txMessage 0x83 (a.telem[r].getD []) s)
            | none => idle

/-- The FRAME block that reports a RETRAIN has been sent: lanes whose clock recovery has locked leave DOWN (R199). -/
def rxRelease (s : State) : State :=
  (aprUpd (fun a => { a with holdRx := false, holdSent := false }) s).each lanes (fun ln u =>
    if u.apr.lane[ln].cr then clockRecovered ln (laneUpd ln (fun l => { l with cr := false }) u) else u)

/-- TX_SLOT: the slot's block, the slot counts, the next slot 5.28 ns later; each lane's buffer delivers one block; a RETRAIN's held
lanes leave DOWN once its FRAME block has gone out (R191, R196, R199, R209). -/
def txSlot (s : State) : State :=
  if !s.on F.APR_CTL_EN then s
  else
    let framed := s.apr.newFrame && s.apr.holdRx
    let s0 := s.when s.apr.holdSent rxRelease
    let s1 := txSlotContent s0
    let s2 := aprUpd (fun a => { a with
      txPos := if a.txPos + 1 = a.flen then 0 else a.txPos + 1, gaps := a.gaps.map (fun g => (g.1 - 1, g.2)), txT := a.txT + 528 }) s1
    let s3 := aprUpd (fun a => { a with holdSent := framed }) s2
    (s3.each lanes bufOut).restart (s3.apr.txT / 100 - s3.clk.ns) .txSlot

/-- The payload of a TELEM message of a rail, sampled now (R210). -/
def telemBytes (r : Fin 4) (s : State) : List Byte :=
  let b := fun (x : Bool) (k : Nat) => if x then 2 ^ k else 0
  [b8 (r.val + 4 * parState r s + b s.mrv[r].glory.active 5 + b (s.on (F.MRVr_STAT_OVBLK r)) 6 + b (mState r s == mREG) 7), b8 (railN r s)] ++
    bytesOfNat 2 (sensed r s) ++ bytesOfNat 2 (ofSigned 16 (asr s.mrv[r].iTot 1)) ++ bytesOfNat 4 s.clk.time.toNat ++ bytesOfNat 2 (vS r s)

/-- TELPER of a rail. -/
def telPer (r : Fin 4) (s : State) : Nat := (s.rd Reg.APR_TEL).toNat / 2 ^ (8 * r.val) % 256

/-- The telemetry timer of a rail follows APR_TEL and EN (R210). -/
def telTimer (r : Fin 4) (s : State) : State :=
  if s.on F.APR_CTL_EN ∧ telPer r s ≠ 0 then s.restart (telPer r s * 500) (.telem r) else s.cancel (.telem r)

/-- TELEM: a message for the rail is queued with the values of this moment (R210). -/
def aprTelem (r : Fin 4) (s : State) : State :=
  if s.on F.APR_CTL_EN ∧ telPer r s ≠ 0 then
    telTimer r (aprUpd (fun a => { a with telem := updAt a.telem r (fun _ => some (telemBytes r s)) }) s)
  else s

/-! ## Control (R192, R194, R199, R208) -/

/-- FLEN as the link takes it: 64 to 4 096 (R194). -/
def flenOf (s : State) : Nat := clampNat (s.get F.APR_LINK_FLEN) 64 4096

/-- A write of APR_CTL: EN rising starts the transmit lane with its scrambler at all ones and takes FLEN; EN falling sets lanes and link
DOWN; ONELANE set late still lets a due lane through (R192, R194, R198, R199). -/
def aprCtlWrite (v : Word) (s : State) : State :=
  let was := s.on F.APR_CTL_EN
  let s1 := s.wr Reg.APR_CTL v
  let now := s1.on F.APR_CTL_EN
  if now && !was then
    let s2 := aprUpd (fun a => { a with
      flen := flenOf s1, newFrame := true, txPos := 0, idles := 0, second := none, scr := BitVec.allOnes 58, txT := s1.clk.ns * 100, holdRx := false, holdSent := false }) s1
    (s2.restart 0 .txSlot).each rails telTimer
  else if was && !now then
    let s2 := aprUpd (fun a => { a with ack := false, gaps := [], telem := Vector.replicate 4 none, second := none, holdRx := false, holdSent := false }) (aprDown 4 s1)
    (s2.cancel .txSlot).each rails telTimer
  else
    s1.each lanes (fun ln t => if t.on F.APR_CTL_ONELANE ∧ t.apr.lane[ln].due then linkTimeout ln t else t)

/-- A write of APR_TEL (R210). -/
def aprTelWrite (v : Word) (s : State) : State := (s.wr Reg.APR_TEL v).each rails telTimer

/-- RETRAIN: FLEN is taken; on an enabled link both lanes and the link go DOWN, their clock recovery is reset and the next slot starts a
frame (R194, R199). -/
def aprRetrain (s : State) : State :=
  let s1 := aprUpd (fun a => { a with flen := flenOf s }) s
  if s.on F.APR_CTL_EN then aprUpd (fun a => { a with newFrame := true, second := none, holdRx := true, holdSent := false }) (aprDown 4 s1) else s1

/-- APR_ACT by its action code. -/
def aprAct (action : Byte) (s : State) : State :=
  match action with
  | 1 => aprRetrain s
  | 2 => s.put F.APR_STAT_SYNCD 0
  | _ => s

/-! ## Meanings -/

/-- IDLE: the 66 bits of a block reach a lane; what they are is read from them (R191 to R193) (DESIGN CHOICE, log entry 58). -/
def execIdle (ln : Fin 2) (block : BitVec 66) (s : State) : Out := .next (rxBlock ln block 0 s)

/-- The 66 bits of a block from its header and the two halves of its payload (R191). -/
def wireBlock (header : BitVec 2) (lo hi : Word) : BitVec 66 := hi ++ lo ++ header

/-- FRAME: as IDLE, the bits in the order of the wire (the header, byte 0, bytes 1 to 3, bytes 4 to 7); `sub`: arrival within the cycle in 1/64 ns
(R194). -/
def execFrame (ln : Fin 2) (header : BitVec 2) (b0 : Byte) (b1 : BitVec 24) (b4 : Word) (sub : Fin 64) (s : State) : Out :=
  .next (rxBlock ln (wireBlock header (b1 ++ b0) b4) sub.val s)

/-- MSG: as IDLE (R193). -/
def execMsg (ln : Fin 2) (block : BitVec 66) (s : State) : Out := .next (rxBlock ln block 0 s)

/-- DATA_BLOCK: as IDLE, the payload in two halves (R193). -/
def execDataBlock (ln : Fin 2) (header : BitVec 2) (lo hi : Word) (s : State) : Out := .next (rxBlock ln (wireBlock header lo hi) 0 s)

/-- CLOCK_RECOVERED (R197). -/
def execClockRecovered (ln : Fin 2) (s : State) : Out := .next (clockRecovered ln s)

/-- CLOCK_RECOVERY_UNLOCK (R197). -/
def execClockRecoveryUnlock (ln : Fin 2) (s : State) : Out := .next (clockUnlock ln s)

/-- LINK_TIMEOUT (R198). -/
def execLinkTimeout (ln : Fin 2) (s : State) : Out := .next (linkTimeout ln s)

/-- FORECAST in its acceptance cycle (R206, R211). -/
def execForecast (ln : Fin 2) (seq : BitVec 16) (r : Fin 4) (delta : BitVec 16) (lead : BitVec 13) (ramp : BitVec 12) (conf : Byte) (s : State) : Out :=
  .next (aprAccept ln seq.toNat (parTake r seq.toNat delta.toInt conf.toNat lead.toNat ramp.toNat) s)

/-- VSET in its acceptance cycle: an APRAM arrival at the rail's arbiter (R204). -/
def execVset (ln : Fin 2) (seq : BitVec 16) (r : Fin 4) (v : BitVec 13) (s : State) : Out :=
  .next (aprAccept ln seq.toNat (vsetArrive r 1 v.toNat) s)

/-- UNKNOWN_MESSAGE: SEQ marked, UNKTYPE counted (R203). -/
def execUnknownMessage (ln : Fin 2) (seq : BitVec 16) (s : State) : Out :=
  .next (aprAccept ln seq.toNat (fun t => t.inc F.APR_CNT2_UNKTYPE) s)

/-- GAP_TIMEOUT (R207). -/
def execGapTimeout (s : State) : Out := .next (gapTimeout s)

/-- TX_SLOT (R209). -/
def execTxSlot (s : State) : Out := .next (txSlot s)

/-- TELEM (R210). -/
def execTelem (r : Fin 4) (s : State) : Out := .next (aprTelem r s)

/-- RETRAIN: APR_ACT action 0x01 (R199); its slot's domain PD58 answers only while it is on (R511). -/
def execRetrain (ticket : Byte) (arg : BitVec 16) (s : State) : Out :=
  .next (if s.bit F.PWR_ON1_ON 26 then s.act Reg.APR_ACT ticket arg 1 (aprAct 1) else { s with busErr := true })

/-- SEQRESET: APR_ACT action 0x02 (R208). -/
def execSeqreset (ticket : Byte) (arg : BitVec 16) (s : State) : Out :=
  .next (if s.bit F.PWR_ON1_ON 26 then s.act Reg.APR_ACT ticket arg 2 (aprAct 2) else { s with busErr := true })

end Sys2Proof.Machine
end

