-- ==== Sys2Proof/Machine/Usb.lean ====
section
/-!
DEFINITION. Machine/Usb.lean: the USB service port, its hub and its service engine (spec/16_usb.md). Endpoint queues, halts and
toggles live in `usb.ep`; the free-gob counts and queue states are shown at a read.
-/
namespace Sys2Proof.Machine

/-- The USB state, and an endpoint pair, replaced. -/
def usbUpd (f : UsbSt → UsbSt) (s : State) : State := { s with usb := f s.usb }
def epUpd (k : Fin 7) (f : UsbEp → UsbEp) (s : State) : State := usbUpd (fun u => { u with ep := updAt u.ep k f }) s

/-- States of the function (R445). -/
def fst (s : State) : Nat := s.get F.USB_STAT_FST
def setFst (v : Nat) (s : State) : State := s.put F.USB_STAT_FST v

/-- Maximum packet of a bulk endpoint, and the gobs it takes (R442, R453). -/
def usbMps (s : State) : Nat := if s.on F.USB_STAT_HS then 512 else 64
def mpsGobs (s : State) : Nat := usbMps s / 64

/-- The function answers requests: attached, reset by the host and not suspended, its pull-up not dropped (R443, R445, R451). -/
def usbTalks (s : State) : Bool := slotOn Reg.USB_CTL s && s.on F.USB_CTL_EN && decide (2 ≤ fst s ∧ fst s ≤ 4) && !s.usb.dropped

/-- What the host receives: 0 nothing, 1 ACK, 2 NAK, 3 STALL, 4 data. -/
def usbAnswer (a : Nat) (d : List Byte) (s : State) : State := usbUpd (fun u => { u with answer := a, resp := d }) s
def usbAck (s : State) : State := usbAnswer 1 [] s
def usbStall (s : State) : State := usbAnswer 3 [] s
def usbQuiet (s : State) : State := usbAnswer 0 [] s

/-- A NAK, counted in USB_CNT. -/
def usbNak (s : State) : State := usbAnswer 2 [] (s.inc F.USB_CNT_NAK)

/-! ## Gobs and regions (R449 to R452) -/

/-- Region j: enabled, and its first and last gob (R449). -/
def regEn (j : Nat) (s : State) : Bool := s.on (F.USB_Rj_CFG_EN j)
def regFirst (j : Nat) (s : State) : Nat := s.get (F.USB_Rj_CFG_FIRST j)
def regLast (j : Nat) (s : State) : Nat := s.get (F.USB_Rj_CFG_LAST j)

/-- The gobs of a region, the free ones in rising order (R449, R450). -/
def regGobs (j : Nat) (s : State) : List Nat :=
  if regEn j s then (List.range 256).filter (fun g => regFirst j s ≤ g ∧ g ≤ regLast j s) else []
def freeGobs (j : Nat) (s : State) : List Nat := (regGobs j s).filter (fun g => !s.usb.used.getLsbD g)

/-- Gobs allocated, and freed. -/
def gobTake (l : List Nat) (s : State) : State := usbUpd (fun u => { u with used := l.foldl (fun m g => m ||| BitVec.ofNat 256 (2 ^ g)) u.used }) s
def gobFree (l : List Nat) (s : State) : State :=
  usbUpd (fun u => { u with used := l.foldl (fun m g => m &&& ~~~(BitVec.ofNat 256 (2 ^ g))) u.used }) s

/-- Address of a gob (R449). -/
def gobAddr (g : Nat) : Nat := 0x28000000 + 64 * g

/-- A packet's bytes lie in its gobs, linked with END on the last (R452). -/
def gobStore : List Nat → List Byte → State → State
  | [], _, s => s
  | g :: l, d, s =>
    let w : Word := match l with
      | [] => 0x100
      | h :: _ => BitVec.ofNat 32 h
    gobStore l (d.drop 64) ((agentWrite 2 (gobAddr g) (d.take 64) s).wr (Reg.USB_LINKg g) w)

/-- The gobs of a chain that starts at `g`, at most `n`, through USB_LINK (R452). -/
def chain : Nat → Nat → State → List Nat
  | 0, _, _ => []
  | n + 1, g, s => g :: (if s.on (F.USB_LINKg_END g) then [] else chain n (s.get (F.USB_LINKg_NEXT g)) s)

/-- Gobs that a packet of a length uses (R452). -/
def gobsFor (len : Nat) : Nat := (len + 63) / 64

/-- The endpoint is one of the active set (R442, R449, R451): EP1, or a direction enabled in the latched EPk_CTL. -/
def outActive (k : Fin 7) (s : State) : Bool := s.on F.USB_STAT_CONF && (k == 1 || decide (2 ≤ k.val) && s.usb.ep[k].ctl.getLsbD 31)
def inActive (k : Fin 7) (s : State) : Bool := s.on F.USB_STAT_CONF && (k == 1 || decide (2 ≤ k.val) && s.usb.ep[k].ctl.getLsbD 30)

/-- The regions of an endpoint in the latched set; the service engine uses region 0 (R449, R451). -/
def outRegion (k : Fin 7) (s : State) : Nat := if k = 1 then 0 else (s.usb.ep[k].ctl.extractLsb' 0 3).toNat
def inRegion (k : Fin 7) (s : State) : Nat := if k = 1 then 0 else (s.usb.ep[k].ctl.extractLsb' 8 3).toNat

/-- An endpoint of the active set uses a region (R449). -/
def regUsed (j : Nat) (s : State) : Bool :=
  (List.finRange 7).any (fun k => (outActive k s && outRegion k s == j) || (inActive k s && inRegion k s == j))

/-- A USB_Rj_CFG write is refused (R449). -/
def regRefused (j : Nat) (value : Word) (s : State) : Bool :=
  let first := (value.extractLsb' 0 8).toNat
  let last := (value.extractLsb' 8 8).toNat
  (List.range 8).any (fun i => i != j && regEn i s && decide (first ≤ regLast i s) && decide (regFirst i s ≤ last)) || decide (last < first) || regUsed j s

/-- A write of USB_Rj_CFG (R449). -/
def regionWrite (j : Nat) (value : Word) (s : State) : State :=
  if regRefused j value s then (s.put F.USB_FLT_CFGREF 1).logLimited 0x100006 0x10 0x0006 [1, b8 j]
  else s.store (Reg.USB_Rj_CFG j) value

/-- A read of USB_Rj_ALLOC: the lowest free gob, or NONE (R450); the Trio's allocation is committed by the next checkpoint (R451). -/
def gobAlloc (agent : Agent) (j : Nat) (s : State) : State :=
  match freeGobs j s with
  | [] => { s with rdata := 0 }
  | g :: _ =>
    let s1 := { gobTake [g] s with rdata := BitVec.ofNat 32 (2 ^ 31 + g) }
    if agent = .trio then usbUpd (fun u => { u with gets := u.gets ++ [g] }) s1 else s1

/-- A write of USB_Rj_FREE releases an allocated gob of the region: the Trio's at the next checkpoint (R451). -/
def gobRelease (agent : Agent) (j g : Nat) (s : State) : State :=
  if !(regGobs j s).contains g || !s.usb.used.getLsbD g then s
  else if agent = .trio then usbUpd (fun u => { u with rels := u.rels ++ [g] }) s
  else gobFree [g] s

/-- A push is refused (R452). -/
def pushRefused (k : Fin 7) (len g : Nat) (s : State) : Bool :=
  let c := chain (gobsFor len) g s
  decide (usbMps s < len) || decide (c.length < gobsFor len) ||
    c.any (fun x => !(regGobs (inRegion k s) s).contains x || !s.usb.used.getLsbD x) || decide (8 ≤ s.usb.ep[k].inq.length)

/-- A write of USB_EPk_IPUSH: the packet is queued, the Trio's for the next checkpoint (R451, R452). -/
def inPush (agent : Agent) (k : Fin 7) (len g : Nat) (s : State) : State :=
  if pushRefused k len g s then (s.put F.USB_FLT_PUSHREF 1).logLimited 0x100006 0x10 0x0006 [2, b8 k.val]
  else epUpd k (fun e => { e with inq := e.inq ++ [{ len := len, gobs := chain (gobsFor len) g s, sure := agent != .trio }] }) s

/-- The word USB_EPk_OPOP reads (R453). -/
def opopWord (k : Fin 7) (s : State) : Word :=
  match s.usb.ep[k].outq with
  | [] => 0
  | p :: _ => BitVec.ofNat 32 (2 ^ 31 + p.len * 65536 + p.gobs.headD 0)

/-- A read of USB_EPk_OPOP: the Trio takes the oldest untaken packet; once committed the take frees its gobs (R451, R453). -/
def outTake (agent : Agent) (k : Fin 7) (s : State) : State :=
  let s1 := { s with rdata := opopWord k s }
  if agent = .trio then
    match s.usb.ep[k].outq with
    | [] => s1
    | p :: q => epUpd k (fun e => { e with outq := q, taken := e.taken ++ [p] }) s1
  else s1

/-- USB_EPk_STAT as read: packets untaken and committed, halts (R453, R454). -/
def epStatWord (k : Fin 7) (s : State) : Word :=
  let e := s.usb.ep[k]
  BitVec.ofNat 32 (e.outq.length % 16 * 65536 + (e.inq.filter (·.sure)).length % 16 * 256 + (if e.inHalt then 2 else 0) + (if e.outHalt then 1 else 0))

/-! ## Function states (R445 to R448) -/

/-- The service frame in progress is dropped (R459). -/
def rxDrop (s : State) : State := (usbUpd (fun u => { u with rx := [], skip := false }) s).cancel .serviceFrameTimeout

/-- Queues are emptied and gobs freed (R445). -/
def usbFlush (s : State) : State := rxDrop (usbEmpty s)

/-- A bit of the hub's features and ports. -/
def hubBit (i : Nat) (s : State) : Bool := (mapFind s.usb.hubFeat i).getD false
def setHubBit (i : Nat) (b : Bool) (s : State) : State := usbUpd (fun u => { u with hubFeat := mapPut false u.hubFeat i b }) s

/-- The function on hub port 1 connects or disconnects: C_PORT_CONNECTION (R443) (PRESUMED, log entry 71). -/
def portConnect (s : State) : State := setHubBit 48 true s

/-- RECONNECT: the pull-up is dropped for 10 ms (R451). -/
def usbReconnect (s : State) : State :=
  if fst s = 0 then s else (setHubBit 33 false (portConnect (usbUpd (fun u => { u with dropped := true }) s))).restart 10000000 .reconnectRestore

/-- The function detaches; no code 0x0001 where firmware clears EN (R445) (DEDUCED, log entry 27). -/
def usbDetach (s : State) : State :=
  let s1 := ((((setFst 0 s).put F.USB_STAT_ADDR 0).put F.USB_STAT_CONF 0).put F.USB_STAT_HS 0).cancel .reconnectRestore
  locksOf 3 (usbFlush (usbUpd (fun u => { u with dropped := false, resumed := false }) s1))

/-- The function attaches where EN = 1, VBUS and the PHY supply are valid (R445, R521). -/
def usbAttach (s : State) : State :=
  if s.on F.USB_CTL_EN && s.usb.vbus && fst s == 0 && !s.on F.SYS_SUPPLY_PHYLOW then portConnect (setFst 1 s) else s

/-- A write of USB_CTL: EN = 0 forces DETACHED (R445) (DEDUCED, log entry 27). -/
def usbCtlWrite (w : Word) (s : State) : State :=
  let s1 := s.store Reg.USB_CTL w
  if w.getLsbD 0 then usbAttach s1
  else
    let s2 := usbUpd (fun u => { u with hubAddr := 0, hubConf := 0, hubPower := 0, hubOc := 0, hubFeat := [], test := 0, hubTest := Vector.replicate 4 0 }) s1
    if fst s = 0 then s2 else usbDetach s2

/-- VBUS, or the link, is lost (R445, R448). -/
def usbLost (s : State) : State :=
  if fst s = 0 then s
  else
    let s1 := s.when (fst s == 6) (fun t => t.logReq 0x10 0x0002 [2, b8 s.usb.prior])
    usbDetach (s1.logReq 0x10 0x0001 [b8 (fst s)])

/-- PD59 and PD60 power up for a suspended function (R447). -/
def usbWake (s : State) : State := upRequests [59, 60] s

/-- A bus reset now falls into a suspension, a resume or its 10 ms recovery (R448). -/
def resumeHit (s : State) : Bool := fst s == 5 || fst s == 6 || (s.usb.resumed && decide (s.clk.ns < s.usb.recoverAt + 10000000))

/-- A bus reset; `hs` is the outcome of the chirp negotiation (R445, R448). -/
def busReset (hs : Bool) (s : State) : State :=
  if fst s = 0 then s
  else
    let s1 := s.when (resumeHit s) (fun t => t.logReq 0x10 0x0002 [1, b8 s.usb.prior])
    let s2 := s1.when (fst s == 5 || fst s == 6) usbWake
    let s3 := (((setFst 2 s2).put F.USB_STAT_ADDR 0).put F.USB_STAT_CONF 0).putB F.USB_STAT_HS hs
    let s4 := usbFlush s3
    let s5 := s4.each (List.finRange 7) (fun k => epUpd k (fun e =>
      { e with ctl := if 2 ≤ k.val then s.rd (Reg.USB_EPk_CTL (k.val - 2)) else 0, outTog := false, inTog := false, outHalt := false, inHalt := false, sent := false }))
    locksOf 3 ((usbUpd (fun u => { u with resumed := false, hubAddr := 0, hubConf := 0, hubPower := 0, hubOc := 0, hubFeat := if u.dropped then [] else [(48, true)] }) s5).fire 176)

/-- Entry to SUSPENDED after 3 ms of idle (R445, R447). -/
def usbSuspend (s : State) : State :=
  if 1 ≤ fst s ∧ fst s ≤ 4 then
    let s1 := (usbUpd (fun u => { u with prior := fst s, resumed := false }) (setFst 5 s)).fire 177
    if s.on F.USB_CTL_SUSPPD then
      pwrKick (pwrUpd (fun p => { p with queue := p.queue ++ ([60, 59].filter (fun d => domainOn d s)).map (fun d => (d, false)) })
        (setReq 60 false (setReq 59 false s1)))
    else s1
  else s

/-- K in SUSPENDED: resume begins (R445, R447). -/
def usbResume (s : State) : State := if fst s = 5 then usbWake (setFst 6 s) else s

/-- The end of resume signalling (R445, R448). -/
def usbResumeEnd (s : State) : State :=
  if fst s = 6 then (usbUpd (fun u => { u with resumed := true, recoverAt := s.clk.ns }) (setFst s.usb.prior s)).fire 178 else s

/-! ## Descriptors (R442) -/

/-- A text in UTF-16LE as a string descriptor. -/
def strDesc (t : String) : List Byte := b8 (2 + 2 * t.length) :: 3 :: (t.toList.flatMap (fun c => [b8 c.toNat, 0]))

/-- The strings; index 0 lists LANGID 0x0409. -/
def usbString (hub : Bool) (i : Nat) : Option (List Byte) :=
  if i = 0 then some [4, 3, 0x09, 0x04]
  else if i = 1 then some (strDesc "Penuthal")
  else if i = 2 then some (strDesc (if hub then "KT9640 hub" else "KT9640 service"))
  else none

/-- The device descriptor (R442). -/
def devDesc (hub : Bool) : List Byte :=
  [18, 1, 0x00, 0x02] ++ (if hub then [9, 0, 1] else [0, 0, 0]) ++ [64] ++ bytesOfNat 2 Config.vendorId.toNat ++
    bytesOfNat 2 (if hub then 0x9641 else 0x9640) ++ bytesOfNat 2 0x00B1 ++ [1, 2, 0, 1]

/-- The device qualifier. -/
def qualDesc (hub : Bool) : List Byte := [10, 6, 0x00, 0x02] ++ (if hub then [9, 0, 1] else [0, 0, 0]) ++ [64, 1, 0]

/-- An endpoint descriptor; the polling interval is not stated by the spec. -/
def epDesc (addr attr mps : Nat) (interval : Byte) : List Byte := [7, 5, b8 addr, b8 attr] ++ bytesOfNat 2 mps ++ [interval]

/-- The endpoints of the function's interface: EP1, and every direction of the latched set (R442). -/
def fnEndpoints (mps : Nat) (interval : Byte) (s : State) : List (List Byte) :=
  ((List.finRange 7).filter (fun k => decide (1 ≤ k.val))).flatMap (fun (k : Fin 7) =>
    (if k = 1 ∨ s.usb.ep[k].ctl.getLsbD 31 then [epDesc k.val 2 mps interval] else []) ++
    (if k = 1 ∨ s.usb.ep[k].ctl.getLsbD 30 then [epDesc (128 + k.val) 2 mps interval] else []))

/-- A configuration descriptor of a kind (2, or 7 for the other speed) at high or full speed. -/
def confDesc (hub : Bool) (kind : Nat) (hs : Bool) (interval : Byte) (s : State) : List Byte :=
  let eps := if hub then [epDesc 129 3 1 interval] else fnEndpoints (if hs then 512 else 64) interval s
  let body := [9, 4, 0, 0, b8 eps.length] ++ (if hub then [9, 0, 0] else [0xFF, 1, 1]) ++ [0] ++ eps.flatten
  [9, b8 kind] ++ bytesOfNat 2 (9 + body.length) ++ [1, 1, 0] ++ [if hub then 0xE0 else 0xC0] ++ [0] ++ body

/-- The hub descriptor (R442). -/
def hubDesc : List Byte := [9, 0x29, 3, 0x0D, 0x00, 10, 0, 0x02, 0xFF]

/-- A descriptor by type and index. -/
def descriptor (hub : Bool) (kind index : Nat) (s : State) : Option (List Byte) :=
  let iv : Byte := s.freeWord.extractLsb' 0 8
  let hs := s.on F.USB_STAT_HS
  if kind = 1 ∧ index = 0 then some (devDesc hub)
  else if kind = 2 ∧ index = 0 then some (confDesc hub 2 hs iv s)
  else if kind = 3 then usbString hub index
  else if kind = 6 ∧ index = 0 then some (qualDesc hub)
  else if kind = 7 ∧ index = 0 then some (confDesc hub 7 (!hs) iv s)
  else none

/-! ## Requests on EP0 (R443) -/

/-- A token of the host ends an OUT transaction that has brought no data: its gobs are free again (R453). -/
def allocDrop (s : State) : State :=
  s.each ((List.finRange 7).filter (fun k => s.usb.ep[k].alloc.isSome)) (fun k t =>
    gobFree ((s.usb.ep[k].alloc).getD []) (epUpd k (fun e => { e with alloc := none }) t))

/-- A request is answered while the device talks. -/
def usbRequest (f : State → State) (s : State) : State := if usbTalks s then f (allocDrop s) else usbQuiet (allocDrop s)

/-- The endpoint that an index names, with its direction, where the function has it. -/
def epOf (index : BitVec 16) (s : State) : Option (Fin 7 × Bool) :=
  let k : Fin 7 := Fin.ofNat 7 ((index.extractLsb' 0 4).toNat)
  let dirIn := index.getLsbD 7
  if 7 ≤ (index.extractLsb' 0 4).toNat then none
  else if k = 0 then some (0, dirIn)
  else if (if dirIn then inActive k s else outActive k s) then some (k, dirIn) else none

/-- SET_ADDRESS (R443, R445) (DEDUCED, log entry 27). -/
def setAddress (hub : Bool) (addr : Nat) (s : State) : State :=
  if hub then usbAck (usbUpd (fun u => { u with hubAddr := addr }) s)
  else if addr = 0 then usbAck s
  else
    let s1 := usbAck (s.put F.USB_STAT_ADDR addr)
    if fst s = 2 then setFst 3 s1 else s1

/-- SET_CONFIGURATION 0 or 1 (R443, R445). -/
def setConfiguration (hub : Bool) (v : Nat) (s : State) : State :=
  if 1 < v then usbStall s
  else if hub then usbAck (usbUpd (fun u => { u with hubConf := v }) s)
  else if v = 1 ∧ fst s = 3 then usbAck (setFst 4 (s.put F.USB_STAT_CONF 1))
  else if v = 0 ∧ fst s = 4 then usbAck (usbFlush (setFst 3 (s.put F.USB_STAT_CONF 0)))
  else usbAck s

/-- GET_STATUS of the device (0), an interface (1) or an endpoint (2). -/
def usbStatus (hub : Bool) (rcpt : Fin 3) (index : BitVec 16) (s : State) : State :=
  if rcpt = 0 then usbAnswer 4 [if hub && hubBit 1 s then 3 else 1, 0] s
  else if rcpt = 1 then usbAnswer 4 [0, 0] s
  else if hub then (if index = 0x81 ∨ index.extractLsb' 0 4 = 0 then usbAnswer 4 [if hubBit 2 s && index == 0x81 then 1 else 0, 0] s else usbStall s)
  else match epOf index s with
    | none => usbStall s
    | some (k, d) => usbAnswer 4 [if (if d then s.usb.ep[k].inHalt else s.usb.ep[k].outHalt) then 1 else 0, 0] s

/-- ENDPOINT_HALT set or cleared; clearing resets the toggle and the queue goes on (R443, R454). -/
def setHalt (k : Fin 7) (dirIn halt : Bool) (s : State) : State :=
  epUpd k (fun e =>
    if dirIn then { e with inHalt := halt, inTog := if halt then e.inTog else false, sent := false }
    else { e with outHalt := halt, outTog := if halt then e.outTog else false }) s

/-- CLEAR_FEATURE: ENDPOINT_HALT; TEST_MODE, whose test ends; of the hub also DEVICE_REMOTE_WAKEUP (R443) (DESIGN CHOICE, log entry 74). -/
def clearFeature (hub : Bool) (rcpt : Fin 3) (feature index : BitVec 16) (s : State) : State :=
  if rcpt = 2 ∧ feature = 0 then
    (if hub then (if index = 0x81 then usbAck (setHubBit 2 false s) else usbStall s)
     else match epOf index s with
       | none => usbStall s
       | some (k, d) => usbAck (setHalt k d false s))
  else if rcpt = 0 ∧ feature = 2 then usbAck (usbUpd (fun u => { u with test := 0 }) s)
  else if hub && rcpt == 0 && feature == 1 then usbAck (setHubBit 1 false s)
  else usbStall s

/-- SET_FEATURE: ENDPOINT_HALT, TEST_MODE 1 to 4; of the hub also DEVICE_REMOTE_WAKEUP. -/
def setFeature (hub : Bool) (rcpt : Fin 3) (feature index : BitVec 16) (s : State) : State :=
  if rcpt = 2 ∧ feature = 0 then
    (if hub then (if index = 0x81 then usbAck (setHubBit 2 true s) else usbStall s)
     else match epOf index s with
       | none => usbStall s
       | some (k, d) => if k = 0 then usbStall s else usbAck (setHalt k d true s))
  else if rcpt = 0 ∧ feature = 2 then
    let t := (index.extractLsb' 8 8).toNat
    if 1 ≤ t ∧ t ≤ 4 then usbAck (usbUpd (fun u => { u with test := t }) s) else usbStall s
  else if hub && rcpt == 0 && feature == 1 then usbAck (setHubBit 1 true s)
  else usbStall s

/-- GET_DESCRIPTOR: at most the length asked for. -/
def getDescriptor (hub : Bool) (kind index : Byte) (len : BitVec 16) (s : State) : State :=
  match descriptor hub kind.toNat index.toNat s with
  | none => usbStall s
  | some d => (usbAnswer 4 (d.take len.toNat) s).draw

/-! ## Hub class requests (R443, R444) -/

/-- Port power: port 1 always on (R440, R444). -/
def hubPowered (p : Nat) (s : State) : Bool := p == 1 || s.usb.hubPower.getLsbD p

/-- The status and change words of a hub port: the function on port 1 is connected while it is attached. -/
def portStatus (p : Nat) (s : State) : List Byte :=
  let bit := fun i => if hubBit (32 * p + i) s then 2 ^ i else 0
  let low := ((List.range 16).map bit).sum
  let conn := if p = 1 ∧ fst s ≠ 0 ∧ !s.usb.dropped then 1 else 0
  let speed := if p = 1 ∧ s.on F.USB_STAT_HS then 1024 else 0
  let change := ((List.range 16).map (fun i => if hubBit (32 * p + 16 + i) s then 2 ^ i else 0)).sum
  bytesOfNat 2 (low + conn + speed + (if hubPowered p s then 256 else 0)) ++ bytesOfNat 2 (change + (if s.usb.hubOc.getLsbD p then 8 else 0))

/-- SetPortFeature. -/
def setPortFeature (feature p test : Nat) (s : State) : State :=
  if p = 0 ∨ 3 < p then usbStall s
  else if feature = 8 then usbAck (if p = 1 then s else usbUpd (fun u => { u with hubPower := u.hubPower ||| BitVec.ofNat 4 (2 ^ p) }) s)
  else if feature = 2 then usbAck (if hubBit (32 * p + 1) s then setHubBit (32 * p + 2) true s else s)
  else if feature = 4 then usbAck (if p = 1 then setHubBit (32 * p + 20) true (setHubBit (32 * p + 1) true s) else s)
  else if feature = 21 then (if p ≠ 1 ∧ 1 ≤ test ∧ test ≤ 4 then usbAck (usbUpd (fun u => { u with hubTest := updAt u.hubTest (Fin.ofNat 4 p) (fun _ => test) }) (setHubBit (32 * p + 11) true s)) else usbStall s)
  else usbStall s

/-- ClearPortFeature. -/
def clearPortFeature (feature p : Nat) (s : State) : State :=
  if p = 0 ∨ 3 < p then usbStall s
  else if feature = 1 then usbAck (setHubBit (32 * p + 1) false s)
  else if feature = 2 then usbAck (if hubBit (32 * p + 2) s then setHubBit (32 * p + 18) true (setHubBit (32 * p + 2) false s) else s)
  else if feature = 8 then usbAck (if p = 1 then s else usbUpd (fun u => { u with hubPower := u.hubPower &&& ~~~(BitVec.ofNat 4 (2 ^ p)) }) s)
  else if feature = 19 then usbAck (usbUpd (fun u => { u with hubOc := u.hubOc &&& ~~~(BitVec.ofNat 4 (2 ^ p)) }) s)
  else if feature = 16 ∨ feature = 17 ∨ feature = 18 ∨ feature = 20 then usbAck (setHubBit (32 * p + feature) false s)
  else usbStall s

/-- A hub class request by its set-up packet; what the spec of USB 2.0 does not list is answered STALL. -/
def hubRequest (reqType req : Byte) (value index len : BitVec 16) (s : State) : State :=
  let p := (index.extractLsb' 0 8).toNat
  let give := fun (d : List Byte) => usbAnswer 4 (d.take len.toNat) s
  if reqType = 0xA0 ∧ req = 0 then give [0, 0, 0, 0]
  else if reqType = 0xA3 ∧ req = 0 then (if p = 0 ∨ 3 < p then usbStall s else give (portStatus p s))
  else if reqType = 0xA0 ∧ req = 6 ∧ value = 0x2900 then give hubDesc
  else if reqType = 0x20 ∧ (req = 1 ∨ req = 3) ∧ (value = 0 ∨ value = 1) then usbAck s
  else if reqType = 0x23 ∧ req = 1 then clearPortFeature value.toNat p s
  else if reqType = 0x23 ∧ req = 3 then setPortFeature value.toNat p (index.extractLsb' 8 8).toNat s
  else if reqType = 0x23 ∧ (req = 8 ∨ req = 9 ∨ req = 11) then usbAck s
  else if reqType = 0xA3 ∧ req = 10 then (give (bytesOfWord s.freeWord)).draw
  else usbStall s

/-- An overcurrent on hub port 2 or 3 (R444). -/
def usbOvercurrent (p : Nat) (s : State) : State :=
  if s.on F.USB_CTL_EN then
    let s1 := usbUpd (fun u => { u with
      hubPower := u.hubPower &&& ~~~(BitVec.ofNat 4 (2 ^ p)), hubOc := u.hubOc ||| BitVec.ofNat 4 (2 ^ p) }) s
    (s1.setBit F.USB_FLT_OC (p - 2)).logReq 0x10 0x0003 [b8 p]
  else s

/-! ## Transactions (R453, R454) -/

/-- A wipe of the buffer runs. -/
def bufWiping (s : State) : Bool := s.mst.wiping.contains 59 || s.pwr.trans.contains 59

/-- An allocation for an OUT packet would succeed (R453). -/
def outRoom (k : Fin 7) (s : State) : Bool :=
  decide (mpsGobs s ≤ (freeGobs (outRegion k s) s).length) && decide (s.usb.ep[k].outq.length < 8) && !bufWiping s

/-- An OUT token: gobs of the OUT region for a whole packet, or NAK (R453). -/
def outToken (k : Fin 7) (s0 : State) : State :=
  let s := allocDrop s0
  if !usbTalks s || !outActive k s then usbQuiet s
  else if s.usb.ep[k].outHalt then usbStall s
  else if outRoom k s then
    let l := (freeGobs (outRegion k s) s).take (mpsGobs s)
    usbQuiet (epUpd k (fun e => { e with alloc := some l }) (gobTake l s))
  else usbNak s

/-- PING: whether the allocation would succeed (R453). -/
def usbPing (k : Fin 7) (s0 : State) : State :=
  let s := allocDrop s0
  if !usbTalks s || !outActive k s then usbQuiet s
  else if s.usb.ep[k].outHalt then usbStall s
  else if outRoom k s then usbAck s else usbNak s

/-! ## Service engine (R456 to R459) -/

/-- The status codes of a response (R456). -/
def svOK : Nat := 0
def svBADOP : Nat := 1
def svBADARG : Nat := 2
def svBADLEN : Nat := 3
def svDENIED : Nat := 4
def svFAILED : Nat := 5

/-- Packets of a transfer: full ones and then a short one, which is empty after a full last one. -/
def packetsOf : Nat → Nat → List Byte → List (List Byte)
  | 0, _, _ => []
  | n + 1, mps, d => if mps ≤ d.length then d.take mps :: packetsOf n mps (d.drop mps) else [d]

/-- A response packet is queued on EP1 IN in gobs of region 0; none is written while a wipe of the buffer runs (R338, R354). -/
def svPacket (d : List Byte) (s : State) : State :=
  let l := if bufWiping s then [] else (freeGobs 0 s).take (gobsFor d.length)
  epUpd 1 (fun e => { e with inq := e.inq ++ [{ len := d.length, gobs := l, data := d }] }) (gobStore l d (gobTake l s))

/-- The response frame of an executed command frame (R456). -/
def svRespond (op seq : Byte) (status : Nat) (payload : List Byte) (s : State) : State :=
  let frame := [op ||| 0x80, seq] ++ bytesOfNat 2 payload.length ++ [b8 status, 0, 0, 0] ++ payload
  s.each (packetsOf 20 (usbMps s) frame) svPacket

/-- A command frame reaches the engine: the function is configured. -/
def svRun (f : State → State) (s : State) : State := if usbTalks s && fst s == 4 then f s else s

/-- A service command without payload. -/
def svPlain (op seq : Byte) (len : BitVec 16) (f : State → State) (s : State) : State :=
  svRun (fun t => if len ≠ 0 then svRespond op seq svBADLEN [] t else f t) s

/-- The mailbox of a service command, its count field and its ticket (R457). -/
def svK (arg : Word) : Nat := (arg.extractLsb' 0 4).toNat
def svN (arg : Word) : Nat := (arg.extractLsb' 8 5).toNat
def svTicket (arg : Word) : Byte := arg.extractLsb' 16 8

/-- Data words written to a mailbox one by one, and how many were accepted (R396, R457). -/
def svWords (k : Nat) : Nat → List Word → State → State × Nat
  | _, [], s => (s, 0)
  | i, w :: l, s =>
    let ok := mbRight .usb k s && !mbFull k s
    let r := svWords k (i + 1) l (dataWrite .usb k i w s)
    (r.1, r.2 + (if ok then 1 else 0))

/-- The words of a mailbox read one by one. -/
def svReads (k : Nat) : Nat → Nat → State → State × List Byte
  | _, 0, s => (s, [])
  | i, n + 1, s =>
    let s1 := mbxRead .usb (Reg.MBk_DATAi k i) s
    let r := svReads k (i + 1) n s1
    (r.1, bytesOfWord s1.rdata ++ r.2)

/-- The boot ROM waits for a recovery image and none has been accepted (R458). -/
def svRecovery (s : State) : Bool := s.boot.recovery && !s.boot.staged

/-- The whole span of a staging write is served. -/
def stageServes (a n : Nat) (s : State) : Bool := (List.range (n / 4 + 1)).all (fun i => bankServes (min (a + 4 * i) (a + n - 1)) s)

/-- MBX_SEND by the service engine: accepted, or refused under R401. A frame with a remembered ticket is ignored there; the answer then
tells whether the mailbox holds this sender's message. -/
def svSend (seq : Byte) (arg : Word) (s : State) : State :=
  let k := svK arg
  let s1 := sendWrite .usb k (svTicket arg) (BitVec.ofNat 16 (svN arg)) 1 s
  let ok := mbFull k s1 && s1.get (F.MBk_STAT_SENDER k) == 3 && (!mbFull k s || s1.rd (Reg.MBk_STAT k) != s.rd (Reg.MBk_STAT k) ||
    ((svTicket arg) != 0 && ((mapFind s.mbx.send (8 * k + 3)).getD 0).extractLsb' 24 8 == svTicket arg))
  svRespond 0x07 seq svOK [if ok then 1 else 0] s1

/-- RECOV_WRITE (R458). -/
def recovWrite (seq : Byte) (arg : Word) (len : BitVec 16) (payload : List Byte) (s : State) : State :=
  let answer := fun st t => svRespond 0x10 seq st [] t
  if !svRecovery s then answer svDENIED s
  else if arg.toNat % 4 ≠ 0 ∨ 0x100100 < arg.toNat + len.toNat then answer svBADARG s
  else if len.toNat < 4 ∨ 1024 < len.toNat then answer svBADLEN s
  else if stageServes (0x20000000 + arg.toNat) len.toNat s then answer svOK (agentWrite 2 (0x20000000 + arg.toNat) (payload.take len.toNat) s)
  else answer svFAILED s

/-- RECOV_BOOT: the staged slot is checked, but in BLANK; the load follows the host's acknowledgement of the response, or 10 ms (R458). -/
def recovBoot (seq : Byte) (len : BitVec 16) (s0 : State) : State :=
  if !svRecovery s0 then svRespond 0x11 seq svDENIED [] s0
  else if len ≠ 0 then svRespond 0x11 seq svBADLEN [] s0
  else
    let go := fun (s : State) =>
      match stagedReason s with
      | 0 =>
        let t := svRespond 0x11 seq svOK [0] (bootUpd (fun b => { b with staged := true }) s)
        (usbUpd (fun u => { u with bootAck := t.usb.ep[(1 : Fin 7)].inq.length }) t).restart 10000000 .recoveryLoad
      | r => svRespond 0x11 seq svFAILED [b8 r] s
    if s0.get F.LCS_STAT_STATE = 0 then go s0 else stagedRead (fun t => hdrReason (stagedHdr t) 0x100100 t == 0) go s0

/-- The command of a complete service frame, which the engine executes at once. -/
def svCommand (f : List Byte) : Instr :=
  let op := f.getD 0 0
  let seq := f.getD 1 0
  let len : BitVec 16 := f.getD 3 0 ++ f.getD 2 0
  let arg := wordOfBytes (f.drop 4)
  let pay := (f.drop 8).take len.toNat
  match op.toNat with
  | 0x01 => .info seq len
  | 0x02 => .devtime seq len
  | 0x03 => .mbxLock seq arg len
  | 0x04 => .mbxRelease seq arg len
  | 0x05 => .mbxWrite seq arg len pay
  | 0x06 => .mbxRead seq arg len
  | 0x07 => .mbxSend seq arg len
  | 0x08 => .mbxTake seq arg len
  | 0x10 => .recovWrite seq arg len pay
  | 0x11 => .recovBoot seq len
  | _ => .unknownServiceOp op seq

/-- A service frame is discarded without a response (R459). -/
def svDiscard (why : Nat) (op : Byte) (s : State) : State := rxDrop (s.logLimited 0x100005 0x10 0x0005 [b8 why, op])

/-- A packet of EP1 OUT joins the frame in progress. A transfer ends with a short packet, or with the last byte that its header announces; one that
ends before is discarded, and what it holds beyond is skipped (R456, R459) (DESIGN CHOICE, log entry 74). -/
def svReceive (d : List Byte) (s : State) : State :=
  let short := decide (d.length < usbMps s)
  if s.usb.skip then usbUpd (fun u => { u with skip := !short }) s
  else if s.usb.rx = [] ∧ d = [] then s
  else
    let s1 := if s.usb.rx = [] then s.restart (clampNat (s.get F.USB_CTL_SVCTO) 10 1000 * 1000000) .serviceFrameTimeout else s
    let rx := s.usb.rx ++ d
    let len := natOfBytes ((rx.drop 2).take 2)
    if rx.length < 8 then (if short then svDiscard 1 (rx.getD 0 0) s1 else usbUpd (fun u => { u with rx := rx }) s1)
    else if 1024 < len then usbUpd (fun u => { u with skip := !short }) (svDiscard 2 (rx.getD 0 0) s1)
    else if rx.length < 8 + len then (if short then svDiscard 1 (rx.getD 0 0) s1 else usbUpd (fun u => { u with rx := rx }) s1)
    else (usbUpd (fun u => { u with skip := !short && decide (8 + len < rx.length) }) (rxDrop s1)).after 0 (svCommand rx)

/-- An OUT data packet: `tog` its toggle, `crc` whether its CRC is good; one that a wipe of the buffer finds on its way is answered NAK
(R338, R354, R453). -/
def outData (k : Fin 7) (tog crc : Bool) (data : List Byte) (s : State) : State :=
  match s.usb.ep[k].alloc with
  | none => s
  | some l =>
    let s0 := epUpd k (fun e => { e with alloc := none }) s
    if !usbTalks s || !outActive k s then usbQuiet (gobFree l s0)
    else if !crc then usbQuiet (gobFree l (s0.inc F.USB_CNT_CRC))
    else if usbMps s < data.length then usbQuiet (gobFree l s0)
    else if tog ≠ s.usb.ep[k].outTog then usbAck (gobFree l s0)
    else if bufWiping s then usbNak (gobFree l s0)
    else
      let n := gobsFor data.length
      let s1 := gobStore (l.take n) data (gobFree (l.drop n) s0)
      let s2 := usbAck (epUpd k (fun e => { e with outTog := !e.outTog }) s1)
      if k = 1 then svReceive data (gobFree (l.take n) s2)
      else (epUpd k (fun e => { e with outq := e.outq ++ [{ len := data.length, gobs := l.take n }] }) s2).inc (F.USB_EPk_CNT_OUT (k.val - 2))

/-- The bytes of an IN packet, from its gobs. -/
def pktBytes (p : UsbPkt) (s : State) : List Byte :=
  if p.gobs.length < gobsFor p.len then p.data else ((p.gobs.map (fun g => s.bytes (gobAddr g) 64)).flatten).take p.len

/-- A word of the packet's gobs holds an uncorrectable error. -/
def pktBad (p : UsbPkt) (s : State) : Option Nat := p.gobs.findSome? (fun g => badIn (gobAddr g) 64 s)

/-- An IN token: the oldest committed packet, NAK or STALL (R454); a packet with an uncorrectable error is counted and not sent (R334). -/
def inToken (k : Fin 7) (s : State) : State :=
  let s0 := epUpd k (fun e => { e with sent := false }) (allocDrop s)
  if !usbTalks s || !inActive k s then usbQuiet s0
  else if s.usb.ep[k].inHalt then usbStall s0
  else match s.usb.ep[k].inq.find? (·.sure) with
    | none => usbNak s0
    | some p =>
      if bufWiping s then usbNak s0
      else
        let s1 := s0.each p.gobs (fun g => eccFix (gobAddr g) 64)
        match pktBad p s with
        | some w => usbQuiet (eccUe w 2 s1)
        | none => usbAnswer 4 (pktBytes p s) (epUpd k (fun e => { e with sent := true }) s1)

/-- The bitmap of the hub's status-change endpoint: bit p where port p has a change (R441). -/
def hubChanges (s : State) : Nat :=
  ([1, 2, 3].map (fun p => if s.usb.hubOc.getLsbD p || (List.range 16).any (fun i => hubBit (32 * p + 16 + i) s) then 2 ^ p else 0)).sum

/-- An IN token for the hub's status-change endpoint, 1 of the hub: the bitmap where a port has a change, else NAK (R441). -/
def hubInToken (s0 : State) : State :=
  let s := allocDrop s0
  if !usbTalks s || s.usb.hubConf != 1 then usbQuiet s
  else if hubBit 2 s then usbStall s
  else if hubChanges s = 0 then usbNak s else usbAnswer 4 [b8 (hubChanges s)] s

/-- The host's ACK of an IN packet (R454); with it the response to RECOV_BOOT ends the wait for the load (R458). -/
def inAck (k : Fin 7) (s : State) : State :=
  match s.usb.ep[k].inq.find? (·.sure) with
  | none => s
  | some p =>
    if !s.usb.ep[k].sent then s
    else
      let q := s.usb.ep[k].inq.eraseP (·.sure)
      let s1 := gobFree p.gobs (epUpd k (fun e => { e with inq := q, inTog := !e.inTog, sent := false }) s)
      if k = 1 then
        let s2 := usbUpd (fun u => { u with bootAck := u.bootAck - 1 }) s1
        if s.usb.bootAck = 1 ∧ s.armed .recoveryLoad then s2.restart 0 .recoveryLoad else s2
      else s1.inc (F.USB_EPk_CNT_IN (k.val - 2))

/-! ## Meanings -/

/-- USB_ATTACH: VBUS is valid (R445). -/
def execUsbAttach (s : State) : Out := .next (usbAttach (usbUpd (fun u => { u with vbus := true }) s))

/-- USB_DETACH: VBUS is invalid (R445). -/
def execUsbDetach (s : State) : Out := .next (usbLost (usbUpd (fun u => { u with vbus := false }) s))

/-- BUS_RESET: SE0 of 2.5 us; `hs` where the chirp negotiation ends in high speed (R445). -/
def execBusReset (hs : Bool) (s : State) : Out := .next (busReset hs s)

/-- SUSPEND: 3 ms of idle (R445). -/
def execSuspend (s : State) : Out := .next (usbSuspend s)

/-- RESUME: the K state (R445, R447). -/
def execResume (s : State) : Out := .next (usbResume s)

/-- RESUME_END (R445). -/
def execResumeEnd (s : State) : Out := .next (usbResumeEnd s)

/-- OVERCURRENT on hub port 2 (0) or 3 (1) (R444). -/
def execOvercurrent (port : Fin 2) (s : State) : Out := .next (usbOvercurrent (2 + port.val) s)

/-- DOWNSTREAM_REMOTE_WAKEUP on hub port 2 (0) or 3 (1): the hub propagates it upstream, where it is the K state (R444, R445). -/
def execDownstreamRemoteWakeup (port : Fin 2) (s : State) : Out := .next (if hubPowered (2 + port.val) s then usbResume s else s)

/-- SET_ADDRESS to the function or the hub (R443). -/
def execSetAddress (hub : Bool) (addr : BitVec 7) (s : State) : Out := .next (usbRequest (setAddress hub addr.toNat) s)

/-- SET_CONFIGURATION (R443). -/
def execSetConfiguration (hub : Bool) (value : Byte) (s : State) : Out := .next (usbRequest (setConfiguration hub value.toNat) s)

/-- GET_STATUS of the device (0), an interface (1) or an endpoint (2) (R443). -/
def execGetStatus (hub : Bool) (recipient : Fin 3) (index : BitVec 16) (s : State) : Out :=
  .next (usbRequest (usbStatus hub recipient index) s)

/-- CLEAR_FEATURE (R443, R454). -/
def execClearFeature (hub : Bool) (recipient : Fin 3) (feature index : BitVec 16) (s : State) : Out :=
  .next (usbRequest (clearFeature hub recipient feature index) s)

/-- SET_FEATURE (R443). -/
def execSetFeature (hub : Bool) (recipient : Fin 3) (feature index : BitVec 16) (s : State) : Out :=
  .next (usbRequest (setFeature hub recipient feature index) s)

/-- GET_DESCRIPTOR (R442, R443). -/
def execGetDescriptor (hub : Bool) (kind index : Byte) (len : BitVec 16) (s : State) : Out :=
  .next (usbRequest (getDescriptor hub kind index len) s)

/-- GET_CONFIGURATION (R443). -/
def execGetConfiguration (hub : Bool) (s : State) : Out :=
  .next (usbRequest (usbAnswer 4 [b8 (if hub then s.usb.hubConf else s.get F.USB_STAT_CONF)]) s)

/-- GET_INTERFACE: alternate setting 0 (R443). -/
def execGetInterface (hub : Bool) (s : State) : Out := .next (usbRequest (if hub then usbAnswer 4 [0] else usbAnswer 4 [0]) s)

/-- SET_INTERFACE: alternate setting 0 is accepted (R443). -/
def execSetInterface (hub : Bool) (alt : Byte) (s : State) : Out :=
  .next (usbRequest (if alt = 0 then usbAck else if hub then usbStall else usbStall) s)

/-- UNSUPPORTED_REQUEST (R443). -/
def execUnsupportedRequest (s : State) : Out := .next (usbRequest usbStall s)

/-- HUB_CLASS_REQUEST, by its set-up packet (R443, R444). -/
def execHubClassRequest (reqType req : Byte) (value index len : BitVec 16) (s : State) : Out :=
  .next (usbRequest (hubRequest reqType req value index len) s)

/-- OUT_TOKEN for endpoint `k` (R453). -/
def execOutToken (k : Fin 7) (s : State) : Out := .next (outToken k s)

/-- OUT_DATA (R453). -/
def execOutData (k : Fin 7) (tog crc : Bool) (data : List Byte) (s : State) : Out := .next (outData k tog crc data s)

/-- PING (R453). -/
def execPing (k : Fin 7) (s : State) : Out := .next (usbPing k s)

/-- IN_TOKEN for endpoint `k` of the function; 7 is the status-change endpoint of the hub (R441, R454). -/
def execInToken (k : Fin 8) (s : State) : Out := .next (if h : k.val < 7 then inToken ⟨k.val, h⟩ s else hubInToken s)

/-- IN_ACK (R454). -/
def execInAck (k : Fin 7) (s : State) : Out := .next (inAck k s)

/-- SOF: a start-of-frame packet with its frame number; the microframe at high speed (R460). -/
def execSof (frame : BitVec 11) (uf : Fin 8) (s : State) : Out :=
  .next (if slotOn Reg.USB_CTL s && s.on F.USB_CTL_EN && fst s != 0 && fst s != 5 then
      (((allocDrop s).put F.USB_FRAME_FRAME frame.toNat).put F.USB_FRAME_UF uf.val).fire 179
    else s)

/-- A register access of the block, which its slot must answer (R333). -/
def usbAccess (f : State → State) (s : State) : State := if slotOn Reg.USB_CTL s then f s else { s with busErr := true }

/-- GOB_ALLOC: a read of USB_Rj_ALLOC (R450). -/
def execGobAlloc (agent : Agent) (j : Fin 8) (s : State) : Out := .next (usbAccess (gobAlloc agent j.val) s)

/-- GOB_RELEASE: a write of USB_Rj_FREE (R451). -/
def execGobRelease (agent : Agent) (j : Fin 8) (gob : Byte) (s : State) : Out := .next (usbAccess (gobRelease agent j.val gob.toNat) s)

/-- IN_PUSH: a write of USB_EPk_IPUSH, k = 2 to 6 given as 0 to 4 (R452). -/
def execInPush (agent : Agent) (k : Fin 5) (len : BitVec 10) (gob : Byte) (s : State) : Out :=
  .next (usbAccess (inPush agent (Fin.ofNat 7 (k.val + 2)) len.toNat gob.toNat) s)

/-- OUT_TAKE: a read of USB_EPk_OPOP, k = 2 to 6 given as 0 to 4 (R453). -/
def execOutTake (agent : Agent) (k : Fin 5) (s : State) : Out := .next (usbAccess (outTake agent (Fin.ofNat 7 (k.val + 2))) s)

/-- REGION_CONFIG: a write of USB_Rj_CFG (R449). -/
def execRegionConfig (j : Fin 8) (value : Word) (s : State) : Out := .next (usbAccess (regionWrite j.val value) s)

/-- RECONNECT: USB_ACT action 0x01 drops the pull-up for 10 ms (R451). -/
def execReconnect (ticket : Byte) (arg : BitVec 16) (s : State) : Out :=
  .next (s.actAt Reg.USB_ACT ticket arg 1 (fun t =>
    usbReconnect t))

/-- RECONNECT_RESTORE (R451). -/
def execReconnectRestore (s : State) : Out := .next (portConnect (usbUpd (fun u => { u with dropped := false }) s))

/-- INFO (R457). -/
def execInfo (seq : Byte) (len : BitVec 16) (s : State) : Out :=
  .next (svPlain 0x01 seq len (fun t => svRespond 0x01 seq svOK
    (bytesOfWord (t.rd Reg.SYS_ID) ++ bytesOfWord (t.rd Reg.LCS_STAT) ++ bytesOfWord (t.rd Reg.LCS_BOOT) ++ bytesOfWord (t.rd Reg.USB_STAT)) t) s)

/-- DEVTIME (R457). -/
def execDevtime (seq : Byte) (len : BitVec 16) (s : State) : Out :=
  .next (svPlain 0x02 seq len (fun t => svRespond 0x02 seq svOK (bytesOfNat 8 t.clk.time.toNat) t) s)

/-- MBX_LOCK (R457). -/
def execMbxLock (seq : Byte) (arg : Word) (len : BitVec 16) (s : State) : Out :=
  .next (svPlain 0x03 seq len (fun t => let t1 := lockRead .usb (svK arg) t; svRespond 0x03 seq svOK [t1.rdata.extractLsb' 0 8] t1) s)

/-- MBX_RELEASE (R457). -/
def execMbxRelease (seq : Byte) (arg : Word) (len : BitVec 16) (s : State) : Out :=
  .next (svPlain 0x04 seq len (fun t => svRespond 0x04 seq svOK [] (lockWrite .usb (svK arg) 0 t)) s)

/-- MBX_WRITE: 4 to 64 bytes, a multiple of 4 (R457). -/
def execMbxWrite (seq : Byte) (arg : Word) (len : BitVec 16) (payload : List Byte) (s : State) : Out :=
  .next (svRun (fun t =>
    if len.toNat < 4 ∨ 64 < len.toNat ∨ len.toNat % 4 ≠ 0 then svRespond 0x05 seq svBADLEN [] t
    else
      let r := svWords (svK arg) 0 (wordsOfBytes (payload.take len.toNat)) t
      svRespond 0x05 seq svOK [b8 r.2] r.1) s)

/-- MBX_READ: 1 to 16 words (R457). -/
def execMbxRead (seq : Byte) (arg : Word) (len : BitVec 16) (s : State) : Out :=
  .next (svRun (fun t =>
    if svN arg = 0 ∨ 16 < svN arg then svRespond 0x06 seq svBADARG [] t
    else if len ≠ 0 then svRespond 0x06 seq svBADLEN [] t
    else
      let r := svReads (svK arg) 0 (svN arg) t
      svRespond 0x06 seq svOK r.2 r.1) s)

/-- MBX_SEND (R457). -/
def execMbxSend (seq : Byte) (arg : Word) (len : BitVec 16) (s : State) : Out := .next (svPlain 0x07 seq len (svSend seq arg) s)

/-- MBX_TAKE (R457). -/
def execMbxTake (seq : Byte) (arg : Word) (len : BitVec 16) (s : State) : Out :=
  .next (svPlain 0x08 seq len (fun t => let t1 := takeRead .usb (svK arg) t; svRespond 0x08 seq svOK (bytesOfWord t1.rdata) t1) s)

/-- RECOV_WRITE (R458). -/
def execRecovWrite (seq : Byte) (arg : Word) (len : BitVec 16) (payload : List Byte) (s : State) : Out :=
  .next (svRun (recovWrite seq arg len payload) s)

/-- RECOV_BOOT (R458). -/
def execRecovBoot (seq : Byte) (len : BitVec 16) (s : State) : Out := .next (svRun (recovBoot seq len) s)

/-- RECOVERY_LOAD (R458). -/
def execRecoveryLoad (s : State) : Out := .next (recoveryLoad (s.cancel .recoveryLoad))

/-- UNKNOWN_SERVICE_OP (R459). -/
def execUnknownServiceOp (op seq : Byte) (s : State) : Out := .next (svRun (svRespond op seq svBADOP []) s)

/-- SERVICE_FRAME_TIMEOUT: SVCTO after the first packet; what still comes of the transfer is skipped (R459). -/
def execServiceFrameTimeout (s : State) : Out :=
  .next (if s.usb.rx = [] then s else usbUpd (fun u => { u with skip := true }) (svDiscard 1 (s.usb.rx.getD 0 0) s))

end Sys2Proof.Machine
end

