-- ==== Sys2Proof/Machine/View.lean ====
section
/-!
DEFINITION. Machine/View.lean: the word a register shows when it is read, without the effects of the read: registers whose value is
computed from other state, else the stored word. A snapshot reads registers so (spec/20_lehr_log.md, R537, R538).
-/
namespace Sys2Proof.Machine

/-- The index of an address in an array of `n` registers from `base`, `stride` apart. -/
def at1 (a base n stride : Nat) : Option Nat :=
  if base ≤ a ∧ (a - base) % stride = 0 ∧ (a - base) / stride < n then some ((a - base) / stride) else none

/-- SYS_SPEED.PARARM: rails whose forecasts are accepted: Apram enabled as a VSET source or Parison enabled, and a lane up (R40). -/
def pararm (s : State) : Nat :=
  if linkUp s then
    rails.foldl (fun m (r : Fin 4) => if (s.lv (F.MRVr_VSRC_MASK r)).testBit 1 || s.lv (F.PARr_CTL_EN r) == 1 then m + 2 ^ r.val else m) 0
  else 0

/-- The code of a phase output in EDGE_PHST (R161). -/
def phCode (o : PhOut) : Nat := match o with | .mid => 0 | .low => 1 | .high => 2

/-- EDGE_PHSTn: phases 16 n to 16 n + 15. -/
def phstWord (n : Nat) (s : State) : Word :=
  BitVec.ofNat 32 ((List.range 16).foldl (fun w i => w + phCode (s.phase[Fin.ofNat 32 (16 * n + i)]).out * 4 ^ i) 0)

/-- The word of calibration memory that a read of GATH_CALDAT reads: none for the factory set, or where GATH_CALSEL names no coefficient (R334). -/
def calReads (s : State) : Option Nat :=
  let b : Fin 3 := Fin.ofNat 3 (s.get F.GATH_CALSEL_BANK)
  let i := s.get F.GATH_CALSEL_SLICE
  let item := s.get F.GATH_CALSEL_ITEM
  if s.get F.GATH_CALSEL_BANK = 3 ∨ (if b = 2 then 3 else 9) ≤ i ∨ 14 ≤ item ∨ s.on F.GATH_CALSEL_OTP then none else some (calAddr b i item)

/-- GATH_CALDAT: the coefficient GATH_CALSEL names, of the working or the factory set; no slice, no value (R84, R87). -/
def calView (s : State) : Word :=
  let b : Fin 3 := Fin.ofNat 3 (s.get F.GATH_CALSEL_BANK)
  let i := s.get F.GATH_CALSEL_SLICE
  let item := s.get F.GATH_CALSEL_ITEM
  if s.get F.GATH_CALSEL_BANK = 3 ∨ (if b = 2 then 3 else 9) ≤ i ∨ 14 ≤ item then 0
  else if s.on F.GATH_CALSEL_OTP then BitVec.ofNat 32 ((factoryItems (gBit b i) s).getD item 0)
  else calGet b i item s

/-- LCS_OTPDATA: the word at LCS_OTPADDR; the device keys read 0 (R342, R346). -/
def otpView (s : State) : Word :=
  let w := s.get F.LCS_OTPADDR_ADDR
  if 0x80 ≤ w ∧ w < 0xC0 then 0 else otpWord w s

/-- MBX_FULL: bit k is FULL of MBk (R403). -/
def mbxFullWord (s : State) : Word := (List.range 16).foldl (fun w k => if mbFull k s then w ||| BitVec.ofNat 32 (2 ^ k) else w) 0

/-- A mailbox register without a read's effects; MBk_SEND as the Trio's own, MBk_DATA as stored (DEDUCED, log entry 24). -/
def mbxPeek (a : Nat) (s : State) : Word :=
  let o := a - 0x400D0000
  if o = 0x10 then mbxFullWord s
  else if o < 0x100 then s.rd a
  else
    let k := (o - 0x100) / 0x80
    let r := (o - 0x100) % 0x80
    if r = 0x04 then BitVec.ofNat 32 (mbOwner k s)
    else if r = 0x08 then (mapFind s.mbx.send (8 * k + 1)).getD 0
    else if r = 0x0C then takeWord k s
    else s.rd a

/-- Computed registers of SYS, ANGLE and GATHER (R30, R40, R42, R84, R97). -/
def peekHard (a : Nat) (s : State) : Word :=
  if a = Reg.SYS_TIMEL then s.clk.time.extractLsb' 0 32
  else if a = Reg.SYS_TIMEH then s.pwr.timeH
  else if a = Reg.SYS_SPEED then fldInto F.SYS_SPEED_PARARM (pararm s) (s.rd a)
  else if a = Reg.GATH_CALDAT then calView s
  else if seqResult a then (s.touched a).elim (s.rd a) (fun t => t.before)
  else if a = Reg.EDGE_PHST0 then phstWord 0 s
  else if a = Reg.EDGE_PHST1 then phstWord 1 s
  else match at1 a (Reg.ANGn_ANGLE 0) 8 0x40, at1 a (Reg.ANGn_STAT 0) 8 0x40 with
  | some d, _ => domAngle (Fin.ofNat 8 d) s
  | _, some d => fldInto (F.ANGn_STAT_TURN d) (turnOf (s.dom[Fin.ofNat 8 d]).acc) (s.rd a)
  | _, _ => s.rd a

/-- Computed registers of HIF (R358, R359, R372). -/
def peekHif (a : Nat) (s : State) : Word :=
  if a = Reg.HIF_VID then s.rd a ||| Config.vendorId.zeroExtend 32
  else if a = Reg.HIF_STAT then fldInto F.HIF_STAT_QCNT s.hif.order.length (s.rd a)
  else if a = Reg.HIF_TAKE then
    (match s.hif.order with
     | [] => 0
     | i :: _ => BitVec.ofNat 32 (2 ^ 31 + i.val * 65536 + s.hif.slot[i].ring.val * 256))
  else s.rd a

/-- Computed registers of TW (R422). -/
def peekTw (a : Nat) (s : State) : Word :=
  match at1 a (Reg.TWn_QPOP 0) 2 0x1000, at1 a (Reg.TWn_QPEEK 0) 2 0x1000, at1 a (Reg.TWn_QSTAT 0) 2 0x1000 with
  | some n, _, _ => (s.tw[Fin.ofNat 2 n]).q.headD 0
  | _, some n, _ => (s.tw[Fin.ofNat 2 n]).q.headD 0
  | _, _, some n => BitVec.ofNat 32 (s.tw[Fin.ofNat 2 n]).q.length
  | _, _, _ => s.rd a

/-- Computed registers of USB (R450 to R454). -/
def peekUsb (a : Nat) (s : State) : Word :=
  match at1 a (Reg.USB_Rj_ALLOC 0) 8 4, at1 a (Reg.USB_Rj_FREE 0) 8 4, at1 a (Reg.USB_EPk_STAT 0) 5 0x20, at1 a (Reg.USB_EPk_OPOP 0) 5 0x20 with
  | some j, _, _, _ => (match freeGobs j s with | [] => 0 | g :: _ => BitVec.ofNat 32 (2 ^ 31 + g))
  | _, some j, _, _ => BitVec.ofNat 32 (freeGobs j s).length
  | _, _, some k, _ => epStatWord (Fin.ofNat 7 (k + 2)) s
  | _, _, _, some k => opopWord (Fin.ofNat 7 (k + 2)) s
  | _, _, _, _ => s.rd a

/-- The word that a register of an owned slot shows; an offset that holds no register shows 0 (R11, R333). -/
def peek (a : Nat) (s : State) : Word :=
  match a / 65536 with
  | 0x4001 | 0x4002 | 0x4003 | 0x4006 => peekHard a s
  | 0x4008 => (match at1 a (Reg.CUn_COUNT 0) 24 0x40 with | some n => cuCountWord (Fin.ofNat 24 n) s | none => s.rd a)
  | 0x400B => if a = Reg.LCS_OTPDATA then otpView s else if a = Reg.LCS_WSTATH then lopShow 1 (s.rd a) s else s.rd a
  | 0x400C => peekHif a s
  | 0x400D => mbxPeek a s
  | 0x400E => peekTw a s
  | 0x4010 => peekUsb a s
  | 0x4013 => if a = Reg.CAP_LSTATH then lopShow 4 (s.rd a) s else s.rd a
  | _ => s.rd a

/-- An address lies in an owned slot (R333). -/
def ownedSlot (a : Nat) : Bool := decide (0x40010000 ≤ a) && decide (a < 0x40180000)

/-- A snapshot's read: 0 outside an owned slot, in a slot whose domain is off, or off a word boundary (R538) (DEDUCED, log entry 24). -/
def snapRead (a : Nat) (s : State) : Word := if ownedSlot a && slotOn a s && a % 4 == 0 then peek a s else 0

/-- Snapshot j: one entry of four register words, at most once in an AO cycle (R537, R538). -/
def snapshot (j : Nat) (s : State) : State :=
  if s.log.snapNow.contains j then s
  else
    let data := ((List.range 4).map (fun i => bytesOfWord (snapRead (s.rd (Reg.LOG_SNAPj_Ai j i)).toNat s))).flatten
    ({ s with log := { s.log with snapNow := j :: s.log.snapNow } } : State).logReq 0x15 (0x0010 + j) data

/-- LOG_ACT by its action code; an unlisted code is ignored (R536). -/
def logAct (arg : BitVec 16) (action : Byte) (s : State) : State :=
  match action.toNat with
  | 1 => snapshot (arg.toNat % 4) s
  | 2 => logFwEntry arg s
  | _ => s

/-! ## Meanings -/

/-- SNAP: LOG_ACT action 0x01 (R536). -/
def execSnap (ticket : Byte) (arg : BitVec 16) (s : State) : Out := .next (s.act Reg.LOG_ACT ticket arg 1 (logAct arg 1))

end Sys2Proof.Machine
end

