-- ==== Sys2Proof/Machine/Evm.lean ====
section
/-!
DEFINITION. Machine/Evm.lean: the event matrix: delivery to sinks, configuration writes, EVO outputs, software triggers
(spec/08_counters_events.md, R236 to R245).
-/
namespace Sys2Proof.Machine

/-- A matrix configuration word written: firings of this AO cycle keep the old one (R241). -/
def evmStore (a : Nat) (v : Word) (s : State) : State :=
  let s1 : State := if (mapFind s.evm.old a).isSome then s else { s with evm := { s.evm with old := mapInsert s.evm.old a (s.rd a) } }
  s1.wr a v

/-- The enabled sinks of a channel (R239). -/
def chSinks (c : Fin 32) (s : State) : BitVec 128 :=
  s.rd (Reg.EVM_CHc_SNKj c 3) ++ s.rd (Reg.EVM_CHc_SNKj c 2) ++ s.rd (Reg.EVM_CHc_SNKj c 1) ++ s.rd (Reg.EVM_CHc_SNKj c 0)

/-- The numbers of the bits that are set, lowest first. -/
def bitsOf {n : Nat} (v : BitVec n) : List Nat := (List.range n).filter (fun i => v.getLsbD i)

/-- A write of EVM_CHc_SNKj: a SINGLE channel keeps what was enabled and is not cleared, else takes the lowest sink the write sets; the
others are refused, flagged and logged (R239, R247). -/
def sinkWrite (c : Fin 32) (j : Fin 4) (v : Word) (s : State) : State :=
  let a := Reg.EVM_CHc_SNKj c j
  if s.on (F.EVM_CHc_CTL_MODE c) then evmStore a v s
  else
    let kept := s.rd a &&& v
    let others := (bitsOf (chSinks c s)).filter (fun k => k / 32 ≠ j.val)
    let asked := bitsOf (v &&& ~~~(s.rd a))
    let free := others == [] && kept == 0
    let refused := if free then asked.drop 1 else asked
    let word := if free then asked.head?.elim 0 (fun i => BitVec.ofNat 32 (2 ^ i)) else kept
    let s1 := evmStore a word s
    match refused with
    | [] => s1
    | i :: _ =>
      ((s1.setBit F.EVM_REF_REF c).put F.EVM_FLT_SNKREF 1).logReq 0x09 0x0001
        [b8 c, b8 ((bitsOf (chSinks c s1)).headD 0), b8 (32 * j.val + i), b8 refused.length]

/-- A write of EVM_CHc_CTL: FORK to SINGLE is refused while more than one sink is enabled (R240). -/
def modeWrite (c : Fin 32) (v : Word) (s : State) : State :=
  let a := Reg.EVM_CHc_CTL c
  let n := (bitsOf (chSinks c s)).length
  if s.on (F.EVM_CHc_CTL_MODE c) ∧ !v.getLsbD 1 ∧ 1 < n then
    ((evmStore a (v ||| 2) s).put F.EVM_FLT_MODEREF 1).logReq 0x09 0x0002 [b8 c, b8 n]
  else evmStore a v s

/-- An EVO output replaced. -/
def evoUpd (i : Fin 8) (f : Evo → Evo) (s : State) : State := { s with evm := { s.evm with evo := updAt s.evm.evo i f } }

/-- A sink action on EVOi: a pulse of WIDTH × 10 ns, started or restarted, or an inversion (R244). -/
def evoSink (i : Fin 8) (s : State) : State :=
  if s.evm.evo[i].toggle then evoUpd i (fun e => { e with level := !e.level }) s
  else
    let w := zeroAsOne (s.get F.EVM_EVOCTL_WIDTH)
    (evoUpd i (fun e => { e with level := true, width := w }) s).restart (w * 10) (.evoPulseEnd i)

/-- The end of a pulse (R244). -/
def evoEnd (i : Fin 8) (s : State) : State := if s.evm.evo[i].toggle then s else evoUpd i (fun e => { e with level := false }) s

/-- A written mode takes over in each output that is low (R244). -/
def evoModes (s : State) : State :=
  s.each (List.finRange 8) (fun i t => if t.evm.evo[i].level then t else evoUpd i (fun e => { e with toggle := t.bit F.EVM_EVOCTL_TOGGLE i }) t)

/-- The effect of a sink (R243). -/
def sinkAct (k : Nat) (s : State) : State :=
  if k < 64 then irqRaise k s
  else if k < 88 then cuSink (Fin.ofNat 24 (k - 64)) s
  else if k < 96 then seqSink (k - 88) s
  else if k < 104 then (if k % 2 = 0 then freeze (Fin.ofNat 4 ((k - 96) / 2)) s else inert (Fin.ofNat 4 ((k - 96) / 2)) s)
  else if k < 108 then motInert (Fin.ofNat 4 (k - 104)) s
  else if k < 112 then snapshot (k - 108) s
  else if k < 120 then
    (if slotOn Reg.HIF_CTL s then s.sendVector ((s.rd (Reg.HIF_EVMVECj ((k - 112) / 4))).toNat / 2 ^ (8 * ((k - 112) % 4)) % 32) else s)
  else evoSink (Fin.ofNat 8 (k - 120)) s

/-- Delivery of the oldest AO cycle's firings, three cycles after them: each channel that fires is counted once and each enabled sink
acts once; a FREEZE of a rail that receives INERT with it is not entered (R186, R236 to R238) (DESIGN CHOICE, log entry 13; DEDUCED, log entry 38). -/
def eventDelivery (s : State) : State :=
  match s.evm.firings with
  | [] => s
  | f :: _ =>
    if s.clk.time.toNat < f.cycle + 3 then s
    else
      let batch := s.evm.firings.filter (fun g => g.cycle == f.cycle)
      let chans := batch.foldl (fun m g => m ||| g.chans) 0
      let sinks := batch.foldl (fun m g => m ||| g.sinks) 0
      let s1 : State := { s with evm := { s.evm with firings := s.evm.firings.filter (fun g => g.cycle != f.cycle) } }
      let frozenOut := fun (k : Nat) => decide (96 ≤ k ∧ k < 104 ∧ k % 2 = 0) && sinks.getLsbD (k + 1)
      (s1.each (bitsOf chans) (fun c t => t.inc (F.EVM_CHc_CNT_CNT c))).each ((bitsOf sinks).filter (fun k => !frozenOut k)) sinkAct

/-- SWTRIG: software sources fire in the AO cycle after the write; each accepted write fires its own (R237, R245). -/
def swTrig (arg : BitVec 16) (s : State) : State := { s with evm := { s.evm with sw := s.evm.sw ++ [arg.extractLsb' 0 8] } }

/-- EVM_ACT by its action code; an unlisted code is ignored (R245). -/
def evmAct (arg : BitVec 16) (action : Byte) (s : State) : State := if action = 1 then swTrig arg s else s

/-! ## Meanings -/

/-- EVENT_DELIVERY (R238). -/
def execEventDelivery (s : State) : Out := .next (eventDelivery s)

/-- SINK_ENABLE_WRITE: a write of EVM_CHc_SNKj (R239). -/
def execSinkEnableWrite (c : Fin 32) (j : Fin 4) (value : Word) (s : State) : Out := .next (sinkWrite c j value s)

/-- MODE_WRITE: a write of EVM_CHc_CTL (R240). -/
def execModeWrite (c : Fin 32) (value : Word) (s : State) : Out := .next (modeWrite c value s)

/-- EVO_PULSE_END (R244). -/
def execEvoPulseEnd (i : Fin 8) (s : State) : Out := .next (evoEnd i s)

/-- SWTRIG: EVM_ACT action 0x01 (R245). -/
def execSwtrig (ticket : Byte) (arg : BitVec 16) (s : State) : Out := .next (s.act Reg.EVM_ACT ticket arg 1 (swTrig arg))

end Sys2Proof.Machine
end

