-- ==== Sys2Proof/Machine/Block.lean ====
section
/-!
DEFINITION. Machine/Block.lean: block resets and the PHY supply (spec/19_power_reset.md, R519, R521).
-/
namespace Sys2Proof.Machine

/-- The condition under which a block takes a reset; none where BLOCKRESET never takes its ID (R519). -/
def blockReady (id : Nat) (s : State) : Option Bool :=
  let noMotor := (List.finRange 4).all (fun m => !motorEn m s)
  if 2 ≤ id ∧ id ≤ 6 then some (rails.all (fun r => eState r s == eOFF) && noMotor)
  else match id with
  | 0x11 | 0x12 => some noMotor
  | 0x07 => some (!s.on F.APR_CTL_EN)
  | 0x0C => some (!anyRing s)
  | 0x10 => some (!s.on F.USB_CTL_EN)
  | 0x13 => some (!s.on F.CAP_CTL_EN)
  | 0x16 => some (!s.on F.XSPI_STAT_BUSY)
  | 0x09 | 0x0D | 0x0E | 0x0F => some true
  | _ => none

/-- The block whose work a scheduled event is; 0 for blocks that no block reset reaches, and for the update of a feedback channel, which its domain
then misses (R487). -/
def timerBlock (c : Instr) : Nat :=
  match c with
  | .syncInEdge _ | .acuFire _ | .referenceMissing _ | .holdoverTimeout _ | .syncPulse _ _ | .syncPulseOverwidth | .ringOpen => 0x02
  | .rotationStepStart _ | .shadowComplete _ _ | .laneSwap _ | .calibrationComplete _ _ | .sequencerStampCrossing _ | .sequencerTimeout _
  | .sequencerEntryEnd _ _ | .vinResult _ | .tmonResult _ _ => 0x03
  | .slewStep _ | .ffStale _ | .gloryWalkerStep _ | .gloryGlmaxRelease _ | .setpointDacLoad _ => 0x04
  | .ovPersistence _ | .uvPersistence _ | .uvBlankExpiry _ | .sfFilterExpiry _ _ | .tmonTimeout _ | .vinTimeout | .hiccupRestart _
  | .hicokExpiry _ => 0x05
  | .freezeEnd _ | .stopLowHoldEnd _ | .onEdgeCommit _ | .slotCrossing _ | .offEdge _ | .minOffTimeEnd _ => 0x06
  | .linkTimeout _ | .gapTimeout | .txSlot | .telem _ | .prerampStart _ | .rampComplete _ | .handoff _ | .unwind _ | .unwindComplete _ => 0x07
  | .eventDelivery | .evoPulseEnd _ => 0x09
  | .doorbellPoll _ _ | .descriptorFetch | .telemetryRecord _ => 0x0C
  | .lockTimeout _ => 0x0D
  | .controllerStretchTimeout _ | .inbandRequest _ _ | .hostNotify _ _ => 0x0E
  | .avsCommitArrival _ | .avsFrameTimeout _ => 0x0F
  | .suspend | .resumeEnd | .reconnectRestore | .serviceFrameTimeout => 0x10
  | .pwmPeriodStart _ | .currentSampleRequest _ | .alignmentDone _ | .stall _ => 0x11
  | .scanStart | .measurementTimeout | .learnEnd => 0x13
  | _ => 0

/-- The state a block keeps beside its registers, at reset (R517). A GATHER reset replaces the working calibration set by the factory set; a CAP
reset keeps DRY and DRYV (R495); XSPI takes its mode from OTP again (R340) (DEDUCED, log entry 25). -/
def blockHidden (id : Nat) (s0 s : State) : State :=
  match id with
  | 0x02 => { s with dom := Vector.replicate 8 {}, acu := Vector.replicate 16 {}, sync := {} }
  | 0x03 =>
    let s1 := { s with gath := { cal := s.gath.cal, ain := s.gath.ain } }
    let s2 := s1.each ((List.range 21).filter (fun i => domainOn (30 + min i 18) s1)) (fun i =>
      if i < 9 then gLoadFactory 0 i (factoryItems i s1) else if i < 18 then gLoadFactory 1 (i - 9) (factoryItems i s1)
      else gLoadFactory 2 (i - 18) (factoryItems i s1))
    if s2.lop[(3 : Fin 5)].running then lopEnd 3 lopABORTED s2 else s2
  | 0x04 => { s with mrv := Vector.replicate 4 {}, phase := s.phase.map (fun (p : Phase) => { p with bal := 0, ton := 0 }) }
  | 0x05 => { s with prot := Vector.replicate 4 {}, phase := s.phase.map (fun (p : Phase) => { p with oc := false, imo := false, restore := none }) }
  | 0x06 => { s with edge := Vector.replicate 4 {}, phase := Vector.replicate 32 {} }
  | 0x07 => { s with apr := {}, par := Vector.replicate 4 {} }
  | 0x09 => { s with evm := {} }
  | 0x0C => { s with hif := {}, out := { s.out with table := [], pba := 0 }, lop := s.lop.map (fun (l : LongOp) => { l with host := none }) }
  | 0x0D => { s with mbx := {} }
  | 0x0E => { s with tw := Vector.replicate 2 {} }
  | 0x0F => { s with avs := Vector.replicate 2 {} }
  | 0x10 => { s with usb := { vbus := s.usb.vbus } }
  | 0x11 => { s with mot := s.mot.map (fun (x : Motor) => { fltLow := x.fltLow }), mlane := Vector.replicate 2 0 }
  | 0x12 => { s with fb := Vector.replicate 4 {} }
  | 0x13 =>
    let s1 := if s.lop[(4 : Fin 5)].running then lopEnd 4 lopABORTED s else s
    ({ s1 with cap := {} } : State).each (List.range 16) (fun i t =>
      (t.wr (Reg.CAPi_DRY i) (s0.rd (Reg.CAPi_DRY i))).put (F.CAPi_STAT_DRYV i) (s0.get (F.CAPi_STAT_DRYV i)))
  | 0x16 =>
    let b := (otpWord 0x40 s).toNat
    ({ s with boot := { s.boot with lines := [] } } : State).put F.XSPI_CTL_MODE (b / 65536 % 2) |>.put F.XSPI_CTL_DUMMY (b / 131072 % 32)
  | _ => s

/-- A block at its reset values: registers, tickets, pending shadow values, scheduled events and hidden state (R21, R517, R519) (DEDUCED, log entry 25). -/
def blockReset (id : Nat) (s : State) : State :=
  let lo := 0x40000000 + id * 65536
  let s1 : State := { s with
    regs := mapEraseRange s.regs lo (lo + 65536)
    live := mapEraseRange s.live lo (lo + 65536)
    shadow := s.shadow.filter (fun p => p.addr < lo || lo + 65536 ≤ p.addr)
    timers := s.timers.filter (fun t => timerBlock t.2 != id) }
  (blockHidden id s s1).each rails (fun r t => t.showPend r)

/-- BLOCKRESET: performed where the block takes it, its condition holds and its slot's domain is on; else BRREF and log code 0x0004
(R519). -/
def blockResetAct (arg : BitVec 16) (s : State) : State :=
  let id := arg.toNat % 256
  if blockReady id s = some true ∧ slotOn (0x40000000 + id * 65536) s then blockReset id s
  else (s.put F.PWR_FLT_BRREF 1).logReq 0x14 0x0004 [b8 id]

/-- PWR_ACT by its action code; an unlisted code is ignored (R519). -/
def pwrAct (arg : BitVec 16) (action : Byte) (s : State) : State := if action = 1 then blockResetAct arg s else s

/-- VDD_PHY falls below its threshold: the PCIe, USB and Apram links are lost (R199, R361, R445, R521). -/
def phyDrop (s : State) : State :=
  if s.on F.SYS_SUPPLY_PHYLOW then s
  else
    let s1 := ((s.put F.SYS_SUPPLY_PHYLOW 1).put F.SYS_SUPPLY_PHYDROP 1).logReq 0x14 0x0003 []
    let s2 := if s1.pwr.linkUp then functionReset 2 s1 else s1
    clockUnlock 1 (clockUnlock 0 (usbLost s2))

/-- VDD_PHY rises again: the links may train (R521). -/
def phyReturn (s : State) : State := if s.on F.SYS_SUPPLY_PHYLOW then usbAttach (s.put F.SYS_SUPPLY_PHYLOW 0) else s

/-! ## Meanings -/

/-- BLOCKRESET: PWR_ACT action 0x01 (R519). -/
def execBlockreset (ticket : Byte) (arg : BitVec 16) (s : State) : Out := .next (s.act Reg.PWR_ACT ticket arg 1 (blockResetAct arg))

/-- PHY_SUPPLY_DROP (R521). -/
def execPhySupplyDrop (s : State) : Out := .next (phyDrop s)

/-- PHY_SUPPLY_RETURN (R521). -/
def execPhySupplyReturn (s : State) : Out := .next (phyReturn s)

end Sys2Proof.Machine
end

