-- ==== Sys2Proof/Machine/Clock.lean ====
section
/-!
DEFINITION. Machine/Clock.lean: supervision of XIN and the selection of the clock source (spec/01_three_speeds.md, R30 to R33, R41).
-/
namespace Sys2Proof.Machine

/-- RANGE and QUAL as they act: 3 to 10 %, 1 to 100 ms (R41). -/
def xinRange (s : State) : Nat := clampNat (s.get F.SYS_CLKCFG_RANGE) 3 10
def xinQual (s : State) : Nat := clampNat (s.get F.SYS_CLKCFG_QUAL) 1 100

/-- A count of XIN edges in a 20.48 us window lies within RANGE % of 50 MHz: 1 024 edges (R31). -/
def xinInRange (count : Nat) (s : State) : Bool := decide (((count : Int) - 1024).natAbs * 100 ≤ xinRange s * 1024)

/-- The frequency of a window's count in Hz. -/
def xinHz (count : Nat) : Nat := count * 1000000000 / 20480

/-- The event that the running qualification leads to is scheduled: the first selection after 100 us, later a return after QUAL ms where
AUTORET = 1 (R33, R41). -/
def xinSchedule (s : State) : State :=
  let s1 := (s.cancel .xinFirstSelection).cancel .xinReturn
  match s.clk.qualStart with
  | none => s1
  | some q =>
    if !s.clk.firstSel then s1.after (q + 100000 - s.clk.ns) .xinFirstSelection
    else if s.on F.SYS_CLKSTAT_AOSRC && s.on F.SYS_CLKCFG_AUTORET then s1.after (q + xinQual s * 1000000 - s.clk.ns) .xinReturn
    else s1

/-- XIN leaves its guard: AO and the PLLs run from the RC and the qualification ends (R31, R33). -/
def xinDrop (s : State) : State :=
  xinSchedule ({ (((s.put F.SYS_CLKSTAT_XINOK 0).put F.SYS_CLKSTAT_AOSRC 1).put F.SYS_CLKSTAT_PLLREF 1) with
    clk := { s.clk with qualStart := none } })

/-- XIN is selected for AO and the PLL reference. -/
def xinSelect (s : State) : State := (s.put F.SYS_CLKSTAT_AOSRC 0).put F.SYS_CLKSTAT_PLLREF 0

/-- The end of a count window: a pass from outside the guard starts the qualification at the window's start; a count outside the range
from within the guard is a range violation; other failures change nothing (R31, R33). -/
def xinWindow (count : Nat) (gap : Bool) (s : State) : State :=
  if s.on F.SYS_CLKSTAT_XINOK then
    if xinInRange count s then s
    else xinDrop ((s.put F.SYS_CLKSTAT_XINRANGE 1).logReq 0x01 0x0002 (bytesOfNat 4 (xinHz count)))
  else if xinInRange count s && !gap then
    xinSchedule ({ (s.put F.SYS_CLKSTAT_XINOK 1) with clk := { s.clk with qualStart := some (s.clk.ns - 20480) } })
  else s

/-- 200 ns without an edge: a violation only from within the guard (R31). -/
def xinLoss (since : Nat) (s : State) : State :=
  if s.on F.SYS_CLKSTAT_XINOK then
    xinDrop ((s.put F.SYS_CLKSTAT_XINLOSS 1).logReq 0x01 0x0001 (bytesOfNat 2 (min since 65535)))
  else s

/-- The first selection of XIN after a device reset: no flag, no entry (R33). -/
def xinFirst (s : State) : State :=
  if s.clk.qualStart.isSome ∧ !s.clk.firstSel then ({ (xinSelect s) with clk := { s.clk with firstSel := true } }) else s

/-- A return to XIN: XINRET and log code 0x0003, 0 automatic or 1 by action; before the first selection, which is no return, nothing happens
(R33, R41) (DEDUCED, log entry 56). -/
def xinReturnTo (by_ : Nat) (s : State) : State :=
  if s.on F.SYS_CLKSTAT_XINOK ∧ s.clk.firstSel ∧ s.on F.SYS_CLKSTAT_AOSRC then
    (((xinSelect s).put F.SYS_CLKSTAT_XINRET 1).logReq 0x01 0x0003 [b8 by_]).cancel .xinReturn
  else s

/-- A write of SYS_CLKCFG: a running qualification follows the new settings (R41). -/
def clkCfgWrite (v : Word) (s : State) : State := xinSchedule (s.wr Reg.SYS_CLKCFG v)

/-! ## Meanings -/

/-- XIN_WINDOW_END: the count of the window and whether a 200 ns gap fell in it (R31). -/
def execXinWindowEnd (count : Nat) (gap : Bool) (s : State) : Out := .next (xinWindow count gap s)

/-- XIN_LOSS: loop-clock periods since the last edge, for the log (R31, R525). -/
def execXinLoss (since : Nat) (s : State) : Out := .next (xinLoss since s)

/-- XIN_FIRST_SELECTION (R33). -/
def execXinFirstSelection (s : State) : Out := .next (xinFirst s)

/-- XIN_RETURN (R33). -/
def execXinReturn (s : State) : Out := .next (if s.on F.SYS_CLKCFG_AUTORET then xinReturnTo 0 s else s)

/-- CLKACT_RETURN: SYS_CLKACT action 0x01; XIN outside its guard leaves nothing to do (R41). -/
def execClkactReturn (ticket : Byte) (arg : BitVec 16) (s : State) : Out := .next (s.act Reg.SYS_CLKACT ticket arg 1 (xinReturnTo 1))

end Sys2Proof.Machine
end

