-- ==== Sys2Proof/Machine/Derive.lean ====
section
/-!
DEFINITION. Machine/Derive.lean: the levels of a block: what the device derives at Basic level, and the loss of raw values when EXPERT is cleared
(spec/00_scope.md, R14 to R19).
-/
namespace Sys2Proof.Machine

/-- The CTL register of the block that owns an address (R14). -/
def ctlOf (a : Nat) : Nat := if slotBase a = 0x40010000 then Reg.SYS_CTL else slotBase a

/-- A word stored where it differs from the one that stands. -/
def State.storeIf (s : State) (a : Nat) (w : Word) : State := if s.rd a = w &&& implMask a then s else s.store a w

/-- A field stored where it differs. -/
def State.deriveFld (s : State) (f : Fld) (v : Nat) : State := s.storeIf f.addr (fldInto f v (s.rd f.addr))

/-- A signed value saturated to 32 bits (R114). -/
def sat32 (x : Int) : Word := BitVec.ofInt 32 (clampInt x (-(2 ^ 31)) (2 ^ 31 - 1))

/-- A rail's derived Marver settings: the coefficients of R114, the dividers of R110, SHEDHYS. They load with their inputs. -/
def mrvDerive (r : Fin 4) (s : State) : State :=
  let k := clampNat (s.get (F.MRVr_LIM_DFSH r)) 1 10
  let h : Int := 2 ^ (k - 1)
  let kp := s.getI (F.MRVr_KP_K r)
  let ki := s.getI (F.MRVr_KI_K r)
  let kd := s.getI (F.MRVr_KD_K r)
  let kda := asr (kd + h) k
  let kib := ki - asr (ki + h) k
  let kpb := kp - asr (kp + h) k
  let s1 := (((s.storeIf (Reg.MRVr_B0 r) (sat32 (ki + kp + kda))).storeIf (Reg.MRVr_B1 r) (sat32 (-kib - kp - kpb - 2 * kda))).storeIf
    (Reg.MRVr_B2 r) (sat32 (kpb + kda))).storeIf (Reg.MRVr_B3 r) 0
  let s2 := (s1.deriveFld (F.MRVr_A1_A r) (ofSigned 24 (-(2 ^ 22 - 2 ^ (22 - k))))).deriveFld (F.MRVr_A2_A r) 0
  let rate := fun (v : Nat) => roundDiv 500 (clampNat v 1 500)
  let s3 := (s2.deriveFld (F.MRVr_SLEWDIV_SLEWDIV r) (rate (s2.get (F.MRVr_SLEW_SLEWRATE r)))).deriveFld
    (F.MRVr_SLEWDIV_SSDIV r) (rate (s2.get (F.MRVr_SLEW_SSRATE r)))
  s3.deriveFld (F.MRVr_PH_SHEDHYS r) (s3.get (F.MRVr_PH_IPHASE r) / 4)

/-- A motor's derived PER and MINPULSE, from DT as it acts (R465, R466, R490). -/
def motDerive (m : Fin 4) (s : State) : State :=
  (s.deriveFld (F.MOTm_PWM_PER m) (2 * roundDiv 1250000 (clampNat (s.get (F.MOTm_PWM_PWMF m)) 80 1000))).deriveFld
    (F.MOTm_DT_MINPULSE m) (2 * clampNat (s.get (F.MOTm_DT_DT m)) 5 500)

/-- The derived decision thresholds: TRKWIN is half the smallest LEAKTH of the enabled electrodes, or half of CAP0's; LEAKHYS and CONDHYS are a
quarter of their thresholds (spec/18_leak_sense.md, Basic level). -/
def capDerive (s : State) : State :=
  let ths := ((List.range 16).filter (fun i => s.bit F.CAP_EN_MASK i)).map (fun i => s.get (F.CAPi_CFG_LEAKTH i))
  let small := (ths.min?).getD (s.get (F.CAPi_CFG_LEAKTH 0))
  (s.deriveFld F.CAP_DEC_TRKWIN (small / 2)).each (List.range 16) (fun i t =>
    (t.deriveFld (F.CAPi_CFG_LEAKHYS i) (t.get (F.CAPi_CFG_LEAKTH i) / 4)).deriveFld (F.CAPi_CFG_CONDHYS i) (t.get (F.CAPi_CFG_CONDTH i) / 4))

/-- A two-wire port's derived timing (R431). -/
def twDerive (n : Fin 2) (s : State) : State :=
  let v := s.get (F.TWn_CTL_SPEED n)
  let row : Nat × Nat × Nat × Nat := if v = 0 then (1250, 1250, 63, 1175) else if v = 1 then (325, 300, 25, 325) else (125, 125, 13, 125)
  ((((s.deriveFld (F.TWn_TIM0_TLOW n) row.1).deriveFld (F.TWn_TIM0_THIGH n) row.2.1).deriveFld (F.TWn_TIM1_TSUDAT n) row.2.2.1).deriveFld
    (F.TWn_TIM1_TBUF n) row.2.2.2)

/-- XSPI takes MODE and DUMMY from OTP (R340, spec/12_memory_lifecycle.md, Basic level). -/
def xspiDerive (s : State) : State :=
  let b := (otpWord 0x40 s).toNat
  (s.deriveFld F.XSPI_CTL_MODE (b / 65536 % 2)).deriveFld F.XSPI_CTL_DUMMY (b / 131072 % 32)

/-- The derived rate of a domain shows in RATEL and RATEH and is committed where it differs (R46, R48). -/
def rateDerive (d : Fin 8) (s : State) : State :=
  let rate := rateOfFreq (s.rd (Reg.ANGn_FREQ d)).toNat
  let s1 := (s.put (F.ANGn_RATEL_RATEL d) rate).put (F.ANGn_RATEH_RATEH d) (rate / 2 ^ 32)
  if s.dom[d].committed = rate then s1 else commitRate d rate s1

/-- What a block derives at Basic level from its Basic fields, beyond constants. -/
def deriveBlock (id : Nat) (s : State) : State :=
  match id with
  | 0x04 => s.each rails (fun r => mrvDerive r)
  | 0x0E => twDerive 1 (twDerive 0 s)
  | 0x11 => s.each (List.finRange 4) (fun m => motDerive m)
  | 0x13 => capDerive s
  | 0x16 => xspiDerive s
  | _ => s

/-- The addresses of a row of the register map. -/
def rowAddrs (r : RegRow) : List Nat :=
  (List.range r.n1).flatMap (fun i => (List.range r.n2).map (fun j => r.base + i * r.s1 + j * r.s2))

/-- EXPERT of a block is cleared: its raw values are discarded, the derived values load, at the block's parameter-update boundary where a
register is shadowed; what follows from a write of such a register follows (R19). -/
def expertLoad (id : Nat) (s : State) : State :=
  let rows := ((mapFind regRows (0x4000 + id)).getD []).filter (fun r => r.expert != 0)
  let s1 := s.each rows (fun r t => t.each (rowAddrs r) (fun a u => u.storeIf a ((u.rd a &&& ~~~r.expert) ||| (r.reset &&& r.expert))))
  let s2 := deriveBlock id s1
  match id with
  | 0x01 => xinSchedule s2
  | 0x02 => s2.each (List.finRange 8) (fun d t => holdToDerive d (rateDerive d t))
  | 0x03 => gNext 2 (gNext 1 (gNext 0 s2))
  | 0x05 => s2.each rails (fun r t => limitWritten r (hicWritten r (vthWritten r t)))
  | 0x06 => showPends s2
  | 0x07 => s2.each rails (fun r t => t.deriveFld (F.PARr_GUARD_PMAXR r) t.par[r].pmaxr)
  | 0x0A => periodicArm s2
  | 0x11 => s2.each (List.finRange 4) (fun m => stallWatch m)
  | _ => s2

end Sys2Proof.Machine
end

