-- ==== Sys2Proof/Machine/Bus.lean ====
section
/-!
DEFINITION. Machine/Bus.lean: reads and writes of registers by every agent: access codes, levels, ticketed actions, and what a write to each
register brings about (spec/00_scope.md, R11 to R23; spec/12_memory_lifecycle.md, R333; spec/13_host_rings.md, R362;
spec/14_mailboxes.md, R393, R394).
-/
namespace Sys2Proof.Machine

/-! ## Who reaches what -/

/-- An agent reaches a register slot: the host HIF and the mailboxes through BAR0, the USB engine and the two-wire ports the mailboxes, the debug port
what its life-cycle state opens (R350, R362, R393) (DEDUCED, log entry 23). -/
def reaches (agent : Agent) (a : Nat) (s : State) : Bool :=
  match agent with
  | .trio => true
  | .debug => debugOpen s
  | .host => !s.out.d3hot && (a / 65536 == 0x400C || (a / 65536 == 0x400D && decide (a % 65536 < 0x1000)))
  | _ => a / 65536 == 0x400D

/-- The device address of an access: BAR0 offset x of the host is 0x400C_0000 + x, with the mailboxes at offsets 0xA000 to 0xAFFF; past the 64 KiB of BAR0
the host reaches nothing (R362, R393) (DEDUCED, log entry 23). -/
def barAddr (agent : Agent) (a : Nat) : Nat :=
  if agent ≠ .host then a else if 0x400CA000 ≤ a ∧ a < 0x400CB000 then a - 0x400CA000 + 0x400D0000 else if a / 65536 = 0x400C then a else 0

/-- A request of the host to the function's configuration space, which the model puts at 0x1_0000_0000 (R359) (PRESUMED, log entry 72). -/
def cfgAccess (agent : Agent) (a : Nat) : Bool := agent == .host && decide (0x100000000 ≤ a ∧ a < 0x100001000)

/-- An access is answered: a word of an owned slot whose domain is on, by an agent that reaches it (R333). -/
def answered (agent : Agent) (a : Nat) (s : State) : Bool := ownedSlot a && a % 4 == 0 && slotOn a s && reaches agent a s

/-- An access that ends with a bus error (R333). -/
def busFail (s : State) : State := { s with busErr := true }

/-- An access that is not answered; one of the host in D3hot is an unsupported request, which AER reports (R333, R359) (PRESUMED, log entry 72). -/
def unanswered (agent : Agent) (s : State) : State :=
  busFail (if agent = .host ∧ s.out.d3hot then { s with out := { s.out with aer := s.out.aer ||| 0x100000 } } else s)

/-- A configuration request that the function answers once its link is up (R359, R524). -/
def cfgAnswer (f : State → State) (s : State) : State := if s.pwr.linkUp then f s else busFail s

/-! ## Reads -/

/-- The read of an RC register returns its fields from before the events of the same cycle and clears them; they then hold only the effect of those
events and of `event` (R11, R13) (DESIGN CHOICE, log entry 42). -/
def readClear (a : Nat) (event : Word) (s : State) : State :=
  match rowFor a with
  | none => s
  | some r =>
    if r.rc = 0 then s
    else
      let t := (s.touched a).getD ⟨a, ownCycle a s.clk.ns, s.rd a, r.reset⟩
      { s.wr a ((s.rd a &&& ~~~r.rc) ||| (t.clean &&& r.rc &&& ~~~event) ||| (event &&& r.rc)) with
        rdata := (s.rdata &&& ~~~r.rc) ||| (t.before &&& r.rc)
        touch := s.touch.map (fun x => if x = t then { x with before := clearedWord a x.before } else x) }

/-- GATH_CALDAT reads calibration memory: a single-bit error is corrected; an uncorrectable one is counted and logged, and the coefficient it hides is
a free value (R334, R337) (DESIGN CHOICE, log entry 74). -/
def calRead (agent : Agent) (w : Nat) (s : State) : State :=
  let t := eccFix w 4 s
  if isBad w t then { (eccUe w (if agent = .debug then 5 else 0) t).draw with rdata := s.freeWord &&& 0xFFFF } else { t with rdata := peek Reg.GATH_CALDAT t }

/-- A read of a register of the SYS, ANGLE, GATHER and CNT slots whose read has an effect, or whose answer follows the cycle (R30, R43, R221, R231). -/
def readHard (agent : Agent) (a : Nat) (s : State) : Option State :=
  if a = Reg.GATH_CALDAT then (calReads s).map (fun w => calRead agent w s)
  else if a = Reg.SYS_TIMEL then some (pwrUpd (fun p => { p with timeH := s.clk.time.extractLsb' 32 32 }) { s with rdata := peek a s })
  else match at1 a (Reg.ANGn_ANGLE 0) 8 0x40, at1 a (Reg.CUn_CAP 0) 24 0x40 with
  | some d, _ => some (({ s with rdata := peek a s } : State).wr (Reg.ANGn_SNAPT d) (s.clk.time.extractLsb' 0 32))
  | _, some n => some (cuCaptureRead (Fin.ofNat 24 n) s)
  | _, _ => (at1 a (Reg.CUn_COUNT 0) 24 0x40).map (fun n => cuCountRead (Fin.ofNat 24 n) s)

/-- A read of a register of the HIF, TW and USB slots whose read has an effect (R372, R422, R450, R453). -/
def readIo (agent : Agent) (a : Nat) (s : State) : Option State :=
  if a = Reg.HIF_TAKE then some (takeSlot agent s)
  else match at1 a (Reg.TWn_QPOP 0) 2 0x1000, at1 a (Reg.USB_Rj_ALLOC 0) 8 4, at1 a (Reg.USB_EPk_OPOP 0) 5 0x20 with
  | some n, _, _ => some (queuePop agent (Fin.ofNat 2 n) s)
  | _, some j, _ => some (gobAlloc agent j s)
  | _, _, some k => some (outTake agent (Fin.ofNat 7 (k + 2)) s)
  | _, _, _ => none

/-- A host read of BAR0 beyond the register slot and the mailbox window: the MSI-X table, the pending bits; 0 elsewhere (R362) (DEDUCED, log entry 23). -/
def barRead (a : Nat) (s : State) : Word :=
  let o := a - 0x400C0000
  if 0x8000 ≤ o ∧ o < 0x8200 then s.msixWord ((o - 0x8000) / 4) else if o = 0x9000 then s.out.pba else 0

/-- A read of a register by an agent: the word in `rdata`, and the read's effects. `event` holds the bits of RC fields that hardware events of the
same cycle set (R11, R13) (DEDUCED, log entry 23; DESIGN CHOICE, log entry 42). -/
def busRead (agent : Agent) (a0 : Nat) (event : Word) (s0 : State) : State :=
  let s : State := { s0 with busErr := false }
  let a := barAddr agent a0
  if cfgAccess agent a0 then cfgAnswer (fun t => { t with rdata := cfgRead (a0 % 4096) t }) s
  else if !answered agent a s then unanswered agent s
  else if agent = .host ∧ 0x400C8000 ≤ a ∧ a < 0x400D0000 then { s with rdata := barRead a s }
  else if a / 65536 = 0x400D then (if mbDenied agent s then mbDeny s else readClear a event (mbxRead agent a s))
  else match readHard agent a s with
  | some t => t
  | none => match readIo agent a s with
    | some t => t
    | none => readClear a event { s with rdata := peek a s }

/-! ## Actions -/

/-- The effect of an ACTION code of the register at an address; an unlisted code has none (R20). -/
def actionOf (a : Nat) (arg : BitVec 16) (action : Byte) (s : State) : State :=
  match a with
  | 0x4001000C => if action = 1 then (if arg = 0x5A5A then s else s.put F.SYS_FLT_RSTKEY 1) else s
  | 0x4001002C => if action = 1 then xinReturnTo 1 s else s
  | 0x4002001C => angAct arg action s
  | 0x4003000C => gathAct arg action s
  | 0x40040008 => mrvAct arg action s
  | 0x40050008 => protAct arg action s
  | 0x40060008 => edgeAct arg action s
  | 0x40070014 => aprAct action s
  | 0x40080008 => cntAct arg action s
  | 0x40090008 => evmAct arg action s
  | 0x400A0008 => if action = 1 then trioReset 4 0 s else if action = 2 then wdtKick s else s
  | 0x400B0008 => lcsAct arg action s
  | 0x400C0010 => hifAct arg action s
  | 0x400D0008 => if action = 1 then lockBreak (arg.toNat % 8) 3 s else s
  | 0x400E0008 => twAct arg action s
  | 0x4010000C => if action = 1 then usbReconnect s else s
  | 0x40110008 =>
    let m : Fin 4 := Fin.ofNat 4 arg.toNat
    if action = 1 then motClear m s else if action = 2 then motInert m s else if action = 3 then motRelease m s else s
  | 0x40120008 => if action = 1 then setPos (Fin.ofNat 4 arg.toNat) s else s
  | 0x4013000C =>
    if action = 1 then scanRequest s else if action = 2 then learnStart arg.toNat s else if action = 3 then capRecal arg.toNat s
    else if action = 4 then learnAbort s else s
  | 0x40140008 => pwrAct arg action s
  | 0x40150008 => logAct arg action s
  | 0x4016000C => if action = 1 then xspiExec s else s
  | 0x40170004 => if action = 1 then verifyStart arg s else s
  | _ => s

/-- A write of an ACT register; DEVRESET with its key starts a device reset (R20, R515). -/
def actWrite (a : Nat) (ticket : Byte) (arg : BitVec 16) (action : Byte) (s : State) : State :=
  if a = Reg.SYS_ACT ∧ action = 1 ∧ arg = 0x5A5A then
    (if ticket ≠ 0 ∧ ticket = (s.rd a).extractLsb' 24 8 then s else (deviceReset 2 s).after 0 .startup)
  else s.act a ticket arg action (actionOf a arg action)

/-! ## What a write to a register brings about -/

/-- The index of an address in an array of registers, applied. -/
def onAt (a base n stride : Nat) (f : Nat → State) (other : State) : State :=
  match at1 a base n stride with | some i => f i | none => other

/-- GATH_CMPr_CTL: a comparator that is disabled releases its output; the write acts at once, unshadowed (R27, R93) (DESIGN CHOICE, log entry 57). -/
def cmpCtlWrite (r : Fin 4) (v : Word) (s : State) : State :=
  let s1 := s.wr (Reg.GATH_CMPr_CTL r) v
  let s2 := if s1.on (F.GATH_CMPr_STAT_UVNOW r) && !s1.on (F.GATH_CMPr_CTL_UVEN r) then uvRelease r s1 else s1
  if s2.on (F.GATH_CMPr_STAT_OVNOW r) && !s2.on (F.GATH_CMPr_CTL_OVEN r) then ovRelease r s2 else s2

/-- GATH_ROT: with ROTEN set, each bank starts a step that is due, or is scheduled to (R82, R87) (DEDUCED, log entry 22). -/
def rotWrite (v : Word) (s : State) : State :=
  let s1 := s.wr Reg.GATH_ROT v
  gNext 2 (gNext 1 (gNext 0 s1))

/-- Writes in the SYS, ANGLE and GATHER slots. -/
def writeAngle (a : Nat) (v : Word) (s : State) : State :=
  if a = Reg.SYS_CLKCFG then clkCfgWrite v s
  else if a = Reg.ANG_SYNCCTL then syncCtlWrite v s
  else if a = Reg.ANG_RAILMAP then railmapWrite v s
  else if a = Reg.GATH_ROT then rotWrite v s
  else
    onAt a (Reg.ANGn_CTL 0) 8 0x40 (fun d => angCtlWrite (Fin.ofNat 8 d) v s) <|
    onAt a (Reg.ANGn_FREQ 0) 8 0x40 (fun d => freqWrite (Fin.ofNat 8 d) v s) <|
    onAt a (Reg.ANGn_RATEH 0) 8 0x40 (fun d => ratehWrite (Fin.ofNat 8 d) v s) <|
    onAt a (Reg.ACUk_CTL 0) 16 0x10 (fun k => acuCtlWrite (Fin.ofNat 16 k) v s) <|
    onAt a (Reg.ACUk_STAMP 0) 16 0x10 (fun k => acuStampWrite (Fin.ofNat 16 k) v s) <|
    onAt a (Reg.GATH_CMPr_CTL 0) 4 0x10 (fun r => cmpCtlWrite (Fin.ofNat 4 r) v s) <|
    onAt a (Reg.GSQn_CTL 0) 16 0x200 (fun n => seqCtlWrite (Fin.ofNat 16 n) v s) <|
    onAt a (Reg.GSQn_STAMP 0) 16 0x200 (fun n => seqStampWrite (Fin.ofNat 16 n) v s) <|
    (if 0x40031100 ≤ a ∧ a % 0x200 - 0x100 < 0x80 ∧ 0x100 ≤ a % 0x200 then
      seqEntWrite (Fin.ofNat 16 ((a - 0x40031000) / 0x200)) (Fin.ofNat 32 (a % 0x80 / 4)) v s
    else s.store a v)

/-- Writes in the MARVER, PROT, EDGE and APRAM slots. A write of PARr_CTL.EN = 0 aborts Parison (R217) (DEDUCED, log entry 12). -/
def writeRail (a : Nat) (v : Word) (s : State) : State :=
  if a = Reg.APR_CTL then aprCtlWrite v s
  else if a = Reg.APR_TEL then aprTelWrite v s
  else
    onAt a (Reg.MRVr_VSHOST 0) 4 0x100 (fun r => vshostWrite (Fin.ofNat 4 r) v s) <|
    onAt a (Reg.MRVr_VSPMB 0) 4 0x100 (fun r => vspmbWrite (Fin.ofNat 4 r) v s) <|
    onAt a (Reg.MRVr_UPD 0) 4 0x100 (fun r => updWrite (Fin.ofNat 4 r) v s) <|
    onAt a (Reg.PROTr_VTH 0) 4 0x40 (fun r => vthWritten (Fin.ofNat 4 r) (s.wr a v)) <|
    onAt a (Reg.PROTr_HIC 0) 4 0x40 (fun r => hicWritten (Fin.ofNat 4 r) (s.wr a v)) <|
    onAt a (Reg.PROTr_ITH 0) 4 0x40 (fun r => limitWritten (Fin.ofNat 4 r) (s.wr a v)) <|
    onAt a (Reg.PROTr_RESP 0) 4 0x40 (fun r => respWrite (Fin.ofNat 4 r) v s) <|
    onAt a (Reg.EDGEr_CTL 0) 4 0x100 (fun r => edgeCtlWrite (Fin.ofNat 4 r) v s) <|
    onAt a (Reg.EDGEr_MAP 0) 4 0x100 (fun r => edgeMapWrite (Fin.ofNat 4 r) a v s) <|
    onAt a (Reg.PARr_CTL 0) 4 0x20 (fun r => (s.store a v).when (!v.getLsbD 0) (parAbort (Fin.ofNat 4 r) 5)) <|
    (if Reg.EDGE_PTRIMp 0 ≤ a ∧ a < Reg.EDGE_PTRIMp 32 then showPends (s.store a v)
    else if 0x40060110 ≤ a ∧ a < 0x40060500 ∧ 0x10 ≤ a % 0x100 ∧ a % 0x100 < 0x20 then edgeMapWrite (Fin.ofNat 4 ((a - 0x40060100) / 0x100)) a v s
    else s.store a v)

/-- Writes in the CNT, EVM, TRIO and HIF slots. -/
def writeCore (agent : Agent) (a : Nat) (v : Word) (s : State) : State :=
  match a / 65536 with
  | 0x4008 =>
    onAt a (Reg.CUn_CTL 0) 24 0x40 (fun n => cuCtlWrite (Fin.ofNat 24 n) (s.rd a) v s) <|
    onAt a (Reg.CUn_COUNT 0) 24 0x40 (fun n => cuCountWrite (Fin.ofNat 24 n) v s) <|
    onAt a (Reg.CUn_MATCHA 0) 24 0x40 (fun n => cuMatchWrite (Fin.ofNat 24 n) false v s) <|
    onAt a (Reg.CUn_MATCHB 0) 24 0x40 (fun n => cuMatchWrite (Fin.ofNat 24 n) true v s) <|
    onAt a (Reg.CUn_PERIOD 0) 24 0x40 (fun n => cuPeriodWrite (Fin.ofNat 24 n) v s) (s.store a v)
  | 0x4009 =>
    onAt a (Reg.EVM_SRCENs 0) 192 4 (fun _ => evmStore a v s) <|
    onAt a (Reg.EVM_CHc_CTL 0) 32 0x20 (fun c => modeWrite (Fin.ofNat 32 c) v s) <|
    (if 0x40090400 ≤ a ∧ a < 0x40090800 ∧ 0x10 ≤ a % 0x20 then
      sinkWrite (Fin.ofNat 32 ((a - 0x40090400) / 0x20)) (Fin.ofNat 4 (a % 0x10 / 4)) v s
    else s.store a v)
  | 0x400A =>
    if a = Reg.TRIO_WDT then wdtResume (s.wr a v)
    else if a = Reg.TRIO_CKCFG then periodicArm (s.wr a v)
    else if a = Reg.TRIO_IRQENj 0 ∨ a = Reg.TRIO_IRQENj 1 then
      let s1 := s.wr a v
      if irqVec s1 ≠ 0 then wakeUp s1 else s1
    else s.store a v
  | _ => hifWrite agent a v s

/-- TWn_ATTNEN: a cause that the write makes pending is signalled (R428 to R430). -/
def attnenWrite (n : Fin 2) (v : Word) (s : State) : State :=
  let s1 := s.wr (Reg.TWn_ATTNEN n) v
  if twPending n s1 &&& twPending n s = twPending n s1 then s1 else attnKick n s1

/-- TWn_CTL: causes that are pending when INBAND is selected are signalled; a notification that waits when NOTIFY is left is dropped (R428 to R430)
(DEDUCED, log entry 52). -/
def twCtlWrite (n : Fin 2) (v : Word) (s : State) : State :=
  let s0 := s.wr (Reg.TWn_CTL n) v
  let s1 := if s0.get (F.TWn_CTL_ATTNMODE n) = 2 then s0 else twUpd n (fun p => { p with notify := false, tries := 0 }) s0
  if s.get (F.TWn_CTL_ATTNMODE n) ≠ 1 ∧ s1.get (F.TWn_CTL_ATTNMODE n) = 1 ∧ twPending n s1 ≠ 0 then attnKick n s1 else s1

/-- Writes in the TW, AVS and USB slots. -/
def writeIo (a : Nat) (v : Word) (s : State) : State :=
  if a = Reg.USB_CTL then usbCtlWrite v s
  else
    onAt a (Reg.TWn_CTL 0) 2 0x1000 (fun n => twCtlWrite (Fin.ofNat 2 n) v s) <|
    (if 0x400E1080 ≤ a ∧ a < 0x400E3000 ∧ 0x80 ≤ a % 0x1000 ∧ a % 0x1000 < 0x180 then
      (let n : Fin 2 := Fin.ofNat 2 ((a - 0x400E1000) / 0x1000)
       let i := (a % 0x1000 - 0x80) / 8
       if a % 8 = 0 then rspcWrite n i v else rspdWrite n i v)
     else fun s =>
    onAt a (Reg.TWn_ATTNEN 0) 2 0x1000 (fun n => attnenWrite (Fin.ofNat 2 n) v s) <|
    onAt a (Reg.AVSn_CTL 0) 2 0x40 (fun n => avsCtlWrite (Fin.ofNat 2 n) v s) <|
    onAt a (Reg.USB_Rj_CFG 0) 8 4 (fun j => regionWrite j v s) (s.store a v)) s

/-- Writes in the MOT, FB, CAP and PWR slots. A request register takes writes of the Trio and the debug port only, and
they act together at the end of the AO cycle (R505 to R507). -/
def writeMotor (agent : Agent) (a : Nat) (v : Word) (s : State) : State :=
  if a = Reg.CAP_CTL then capCtlWrite v s
  else if a = Reg.PWR_REQ0 then (if agent = .trio ∨ agent = .debug then pwrUpd (fun p => { p with want0 := some v }) s else s)
  else if a = Reg.PWR_REQ1 then (if agent = .trio ∨ agent = .debug then pwrUpd (fun p => { p with want1 := some v }) s else s)
  else
    let watch := fun (m : Nat) => stallWatch (Fin.ofNat 4 m) (s.wr a v)
    onAt a (Reg.MOTm_CTL 0) 4 0x80 (fun m => if v.getLsbD 0 then motEnable (Fin.ofNat 4 m) v s else motDisable (Fin.ofNat 4 m) v s) <|
    onAt a (Reg.MOTm_RESP 0) 4 0x80 (fun m => motRespWrite (Fin.ofNat 4 m) v s) <|
    onAt a (Reg.MOTm_THOFS 0) 4 0x80 (fun m => motThofsWrite (Fin.ofNat 4 m) v s) <|
    onAt a (Reg.MOTm_LIM 0) 4 0x80 (fun m => motLimWrite (Fin.ofNat 4 m) v s) <|
    onAt a (Reg.MOTm_REF 0) 4 0x80 watch <|
    onAt a (Reg.MOTm_IQMAX 0) 4 0x80 watch <|
    onAt a (Reg.MOTm_STALL 0) 4 0x80 watch <|
    onAt a (Reg.FBf_CTL 0) 4 0x40 (fun f => fbCtlWrite (Fin.ofNat 4 f) v s) <|
    onAt a (Reg.CAPi_DRY 0) 16 0x20 (fun i => dryWrite (Fin.ofNat 16 i) v s) (s.store a v)

/-- The effect of a write on the register's slot; `v` holds the fields the writer may write. -/
def writeEffect (agent : Agent) (a : Nat) (v : Word) (s : State) : State :=
  match a / 65536 with
  | 0x4001 | 0x4002 | 0x4003 => writeAngle a v s
  | 0x4004 | 0x4005 | 0x4006 | 0x4007 => writeRail a v s
  | 0x4008 | 0x4009 | 0x400A | 0x400C => writeCore agent a v s
  | 0x400E | 0x400F | 0x4010 => writeIo a v s
  | 0x4011 | 0x4012 | 0x4013 | 0x4014 => writeMotor agent a v s
  | _ => s.store a v

/-! ## Flags -/

/-- Flags written as 1 clear, unless an event that sets them falls in the same cycle: one that has acted, or one that `event` gives (R13); what
follows from a cleared flag follows (DESIGN CHOICE, log entry 42). -/
def flagClear (agent : Agent) (a : Nat) (v event : Word) (s : State) : State :=
  match rowFor a with
  | none => s
  | some r =>
    if r.w1c = 0 then s
    else
      let old := s.rd a
      let stay := event ||| ((s.touched a).elim 0 (fun t => t.clean &&& v))
      let s1 := s.wr a ((old &&& ~~~(v &&& r.w1c)) ||| (stay &&& r.w1c))
      if a = Reg.TRIO_IRQPENDj 0 ∨ a = Reg.TRIO_IRQPENDj 1 then
        (if agent = .trio then s1.wr (a + 0x10) (s1.rd (a + 0x10) ||| (old &&& v &&& ~~~stay)) else s1)
      else if a = Reg.GATH_IMFLT then imoAll s1
      else if a = Reg.GATH_MFLT then motWatchAll s1
      else s1

/-! ## Writes -/

/-- A write of a register that is not an ACT register: flags, then the level, then the fields that the writer may write (R11, R15, R18, R19). -/
def fieldWrite (agent : Agent) (a : Nat) (v event : Word) (s : State) : State :=
  match rowFor a with
  | none => s
  | some r =>
    let s0 := flagClear agent a v event s
    let level := if a = ctlOf a then v.getLsbD 31 else s.expertAt a
    let s1 := if a = ctlOf a ∧ s.expertAt a ∧ !level then expertLoad (a / 65536 % 256) (s0.wr a (s0.rd a &&& 0x7FFFFFFF)) else s0
    let old := s1.rd a
    let shut := if level then 0 else r.expert
    let may := (r.rw ||| r.rwl) &&& ~~~shut
    let s2 := if (v ^^^ old) &&& shut = 0 then s1 else s1.inc F.SYS_IGNWR_COUNT
    if may = 0 then s2
    else
      let s3 := writeEffect agent a ((v &&& may) ||| (old &&& ~~~may)) s2
      if s3.expertAt a then s3 else deriveBlock (a / 65536 % 256) s3

/-- A write in the mailbox slot: set-up registers by the Trio only, MBk_CFG until CFGLK; locks, sends and data by every agent
(R394 to R401). -/
def mbxWriteReg (agent : Agent) (a : Nat) (v : Word) (s : State) : State :=
  let o := a - 0x400D0000
  let k := (o - 0x100) / 0x80
  let r := (o - 0x100) % 0x80
  if mbDenied agent s then s.inc F.MBX_CNT_DENY
  else if o < 0x100 ∨ (o < 0x900 ∧ r = 0) then
    if o = 0x10 ∨ o = 0x14 ∨ (rowFor a).isNone then s
    else if agent ≠ .trio then s.inc F.MBX_CNT_DENY
    else if a = Reg.MBX_ACT then actWrite a (v.extractLsb' 24 8) (v.extractLsb' 8 16) (v.extractLsb' 0 8) s
    else if 0x100 ≤ o ∧ s.on F.MBX_CTL_CFGLK then s
    else
      let t := fieldWrite agent a (if a = Reg.MBX_CTL then v ||| (s.rd a &&& 0x100) else v) 0 s
      if locktoNs t = locktoNs s then t else locktoChanged t
  else if 0x900 ≤ o then s
  else if r = 0x04 then lockWrite agent k v s
  else if r = 0x08 then sendWrite agent k (v.extractLsb' 24 8) (v.extractLsb' 8 16) (v.extractLsb' 0 8) s
  else if 0x40 ≤ r then dataWrite agent k ((r - 0x40) / 4) v s
  else s

/-- A write to USB_Rj_FREE or USB_EPk_IPUSH, which store nothing (R451, R452). -/
def gobWrite (agent : Agent) (a : Nat) (v : Word) (other s : State) : State :=
  onAt a (Reg.USB_Rj_FREE 0) 8 4 (fun j => gobRelease agent j (v.toNat % 256) s) <|
  onAt a (Reg.USB_EPk_IPUSH 0) 5 0x20 (fun k => inPush agent (Fin.ofNat 7 (k + 2)) (v.toNat / 65536 % 1024) (v.toNat % 256) s) other

/-- A sleeping Trio wakes where an access leaves an IRQ pending and enabled, and one in the checkpoint of a WFI does not sleep (R322, R323). -/
def irqSeen (a : Nat) (s : State) : State := if a / 65536 = 0x400A ∧ irqVec s ≠ 0 then wakeUp s else s

/-- A write of a register by an agent (R11). `event` holds the W1C flags that hardware events of the same cycle set (R13) (DEDUCED, log entry 23; DESIGN CHOICE, log entry 42). -/
def busWrite (agent : Agent) (a0 : Nat) (v event : Word) (s0 : State) : State :=
  let s : State := { s0 with busErr := false }
  let a := barAddr agent a0
  if cfgAccess agent a0 then cfgAnswer (cfgWrite (a0 % 4096) v) s
  else if !answered agent a s then unanswered agent s
  else if hifShut agent a s then s.put F.HIF_FLT_CFGREF 1
  else if agent = .host ∧ 0x400C8000 ≤ a ∧ a < 0x400D0000 then (if a < 0x400C8200 then s.msixWrite ((a - 0x400C8000) / 4) v else s)
  else if a / 65536 = 0x400D then mbxWriteReg agent a v s
  else match rowFor a with
  | none => s
  | some r =>
    if r.act then actWrite a (v.extractLsb' 24 8) (v.extractLsb' 8 16) (v.extractLsb' 0 8) s
    else if a / 65536 = 0x4010 then gobWrite agent a v (fieldWrite agent a v event s) s
    else irqSeen a (fieldWrite agent a v event s)

/-! ## Meanings -/

/-- REGISTER_WRITE (R11). -/
def execRegisterWrite (agent : Agent) (addr : Nat) (value : Word) (s : State) : Out := .next (busWrite agent addr value 0 s)

/-- READ_CLEAR: the read of a register by an agent (R11, R13). -/
def execReadClear (agent : Agent) (addr : Nat) (event : Word) (s : State) : Out := .next (busRead agent addr event s)

/-- W1C_WRITE: flags written as 1 clear, except those whose event falls in the same cycle (R13). -/
def execW1cWrite (agent : Agent) (addr : Nat) (value event : Word) (s : State) : Out := .next (busWrite agent addr value event s)

/-- EXPERT_SET: a write of the block's CTL with EXPERT = 1 (R17, R18). -/
def execExpertSet (agent : Agent) (addr : Nat) (value : Word) (s : State) : Out :=
  .next (busWrite agent (ctlOf addr) (value ||| 0x80000000) 0 s)

/-- EXPERT_CLEAR: a write of the block's CTL with EXPERT = 0 (R19). -/
def execExpertClear (agent : Agent) (addr : Nat) (value : Word) (s : State) : Out :=
  .next (busWrite agent (ctlOf addr) (value &&& ~~~0x80000000) 0 s)

/-- UNLISTED_ACTION: a write of an ACT register; a code that its table does not list only leaves its ticket, argument and action (R20). -/
def execUnlistedAction (agent : Agent) (addr : Nat) (ticket : Byte) (arg : BitVec 16) (action : Byte) (s : State) : Out :=
  .next (busWrite agent addr (actWord ticket arg action) 0 s)

/-- DOMAIN_ENABLE: a write of ANGn_CTL with EN = 1 (R48). -/
def execDomainEnable (d : Fin 8) (value : Word) (s : State) : Out := .next (busWrite .trio (Reg.ANGn_CTL d) (value ||| 1) 0 s)

/-- DOMAIN_DISABLE: a write of ANGn_CTL with EN = 0 (R50). -/
def execDomainDisable (d : Fin 8) (value : Word) (s : State) : Out := .next (busWrite .trio (Reg.ANGn_CTL d) (value &&& ~~~1) 0 s)

/-- SRC_CHANGE: a write of ANGn_CTL that changes SRC (R44). -/
def execSrcChange (d : Fin 8) (value : Word) (s : State) : Out := .next (busWrite .trio (Reg.ANGn_CTL d) value 0 s)

/-- RATEH_WRITE: at Basic level a write of the expert-only RATEH is ignored and counted (R15, R48). -/
def execRatehWrite (d : Fin 8) (value : Word) (s : State) : Out := .next (busWrite .trio (Reg.ANGn_RATEH d) value 0 s)

/-- ROLE_CHANGE: a write of ANG_SYNCCTL that changes ROLE (R69). -/
def execRoleChange (value : Word) (s : State) : Out := .next (busWrite .trio Reg.ANG_SYNCCTL value 0 s)

/-- ACU_ARM: a write of ACUk_STAMP, of ACUk_CTL, or of both (R64). -/
def execAcuArm (k : Fin 16) (stamp ctl : Option Word) (s : State) : Out :=
  let s1 := match stamp with | some v => busWrite .trio (Reg.ACUk_STAMP k) v 0 s | none => s
  .next (match ctl with | some v => busWrite .trio (Reg.ACUk_CTL k) v 0 s1 | none => s1)

/-- EDGE_ENABLE: a write of EDGEr_CTL with EN = 1 (R179). -/
def execEdgeEnable (r : Fin 4) (value : Word) (s : State) : Out := .next (busWrite .trio (Reg.EDGEr_CTL r) (value ||| 1) 0 s)

/-- EDGE_DISABLE: a write of EDGEr_CTL with EN = 0 (R181). -/
def execEdgeDisable (r : Fin 4) (value : Word) (s : State) : Out := .next (busWrite .trio (Reg.EDGEr_CTL r) (value &&& ~~~1) 0 s)

/-- MOTOR_ENABLE: a write of MOTm_CTL with EN = 1 (R475). -/
def execMotorEnable (m : Fin 4) (value : Word) (s : State) : Out := .next (busWrite .trio (Reg.MOTm_CTL m) (value ||| 1) 0 s)

/-- MOTOR_DISABLE: a write of MOTm_CTL with EN = 0 (R477). -/
def execMotorDisable (m : Fin 4) (value : Word) (s : State) : Out := .next (busWrite .trio (Reg.MOTm_CTL m) (value &&& ~~~1) 0 s)

/-- APR_ENABLE: the write of APR_CTL with EN = 1 (R192). -/
def execAprEnable (value : Word) (s : State) : Out := .next (busWrite .trio Reg.APR_CTL (value ||| 1) 0 s)

end Sys2Proof.Machine
end

