-- ==== Sys2Proof/Machine/HostOps.lean ====
section
/-!
DEFINITION. Machine/HostOps.lean: the opcodes that the firmware's command interpreter executes from a hand-off slot (spec/13_host_rings.md,
R380 to R388), and the ring test. The interpreter reaches registers as the Trio does; each opcode stages STATUS and RESULT, and POST
completes the descriptor.
-/
namespace Sys2Proof.Machine

/-! ## Simple opcodes (R383) -/

/-- Words of the slot's data area: the word at offset `4 i` (R371). -/
def dataWord (slot : Fin 16) (i : Nat) (s : State) : Word := s.rd (Reg.HIF_SLOTs_DATAi slot i)

/-- STATUS: RESULT is SYS_SPEED. -/
def opStatus (slot : Fin 16) (s : State) : State :=
  if !descClean slot false false [] s then stageResult slot stBADARG 0 s
  else
    let t := busRead .trio Reg.SYS_SPEED 0 s
    stageResult slot stOK t.rdata.toNat t

/-- A register that PARAM_READ reads: a word of a slot that answers (R333, R384). -/
def readable (a : Nat) (s : State) : Bool := ownedSlot a && a % 4 == 0 && slotOn a s

/-- PARAM_READ reads entries `i` to `n − 1` of the list in order (DEDUCED, log entry 36). -/
def paramReads (slot : Fin 16) (i : Nat) : Nat → State → State
  | 0, s => s
  | n + 1, s =>
    let t := busRead .trio (dataWord slot i s).toNat 0 s
    paramReads slot (i + 1) n (t.wr (Reg.HIF_SLOTs_DATAi slot i) t.rdata)

/-- PARAM_READ: every entry is overwritten with its register's value; RESULT is the count (R383, R384). -/
def opParamRead (slot : Fin 16) (s : State) : State :=
  let len := descLen slot s
  let n := len / 4
  if !descClean slot true true [] s || len % 4 ≠ 0 || len < 4 || 256 < len || !(List.range n).all (fun i => readable (dataWord slot i s).toNat s) then
    stageResult slot stBADARG 0 s
  else stageResult slot stOK n (paramReads slot 0 n s)

/-- A register that PARAM_WRITE may write: in the slots of blocks 0x02 to 0x09, 0x0E, 0x0F and 0x11 to 0x13, 4-aligned, no ACT register
(R384). -/
def writable (a : Nat) : Bool :=
  let id := a / 65536 - 0x4000
  ownedSlot a && a % 4 == 0 && ((2 ≤ id && id ≤ 9) || id == 0x0E || id == 0x0F || (0x11 ≤ id && id ≤ 0x13)) &&
    !(match rowFor a with | some row => row.act | none => false)

/-- The rails whose MARVER or EDGE registers an address belongs to: a phase's trim belongs to the rails whose list names the phase (R187, R384)
(DEDUCED, log entry 36). -/
def railsOfAddr (a : Nat) (s : State) : List (Fin 4) :=
  if (0x40040100 ≤ a ∧ a < 0x40040500) ∨ (0x40060100 ≤ a ∧ a < 0x40060500) then [Fin.ofNat 4 (a % 65536 / 0x100 - 1)]
  else if a = Reg.MRV_VINSCL then rails
  else if Reg.EDGE_PTRIMp 0 ≤ a ∧ a < Reg.EDGE_PTRIMp 32 then rails.filter (fun r => (railList r s).contains (Fin.ofNat 32 (a % 0x80 / 4)))
  else []

/-- PARAM_WRITE writes pairs `i` to `n − 1` in order. -/
def paramWrites (slot : Fin 16) (i : Nat) : Nat → State → State
  | 0, s => s
  | n + 1, s => paramWrites slot (i + 1) n (busWrite .trio (dataWord slot (2 * i) s).toNat (dataWord slot (2 * i + 1) s) 0 s)

/-- PARAM_WRITE: a list with a bad pair writes nothing; a good list is written in order, with HOLD set around it on the rails it touches
(R384). -/
def opParamWrite (slot : Fin 16) (s : State) : State :=
  let len := descLen slot s
  let n := len / 8
  if !descClean slot true true [] s || len % 8 ≠ 0 || len < 8 || 512 < len then stageResult slot stBADARG 0 s
  else
    match (List.range n).find? (fun i => !writable (dataWord slot (2 * i) s).toNat) with
    | some i => stageResult slot stBADARG i s
    | none =>
      let touched := rails.filter (fun r => (List.range n).any (fun i => (railsOfAddr (dataWord slot (2 * i) s).toNat s).contains r))
      let s1 := s.each touched (fun r => busWrite .trio (Reg.MRVr_UPD r) 1 0)
      let s2 := (paramWrites slot 0 n s1).each touched (fun r => busWrite .trio (Reg.MRVr_UPD r) 0 0)
      stageResult slot stOK 0 s2

/-- A rail is configured: its registers answer and its list names a phase (DEDUCED, log entry 36). -/
def railConfigured (r : Fin 4) (s : State) : Bool :=
  slotOn (Reg.MRVr_STAT r) s && slotOn (Reg.EDGEr_CTL r) s && slotOn (Reg.PROTr_STAT r) s && s.get (F.EDGEr_MAP_M r) != 0

/-- The rail or motor that P0 names. -/
def descUnit (slot : Fin 16) (s : State) : Fin 4 := Fin.ofNat 4 (descP slot 0 s)

/-- VSET: MRVr_VSHOST is written; RESULT is MRVr_VSNOW after the arrival (R383). -/
def opVset (slot : Fin 16) (s : State) : State :=
  let r := descUnit slot s
  if !descClean slot false false [0, 1] s || 4 ≤ descP slot 0 s || 8192 ≤ descP slot 1 s || !railConfigured r s then stageResult slot stBADARG 0 s
  else
    let t := busWrite .trio (Reg.MRVr_VSHOST r) (BitVec.ofNat 32 (descP slot 1 s)) 0 s
    stageResult slot stOK (t.rd (Reg.MRVr_VSNOW r)).toNat t

/-- EDGEr_CTL with EN replaced (R179, R181). -/
def writeEn (r : Fin 4) (en : Bool) (s : State) : State :=
  busWrite .trio (Reg.EDGEr_CTL r) (fldInto (F.EDGEr_CTL_EN r) (if en then 1 else 0) (s.rd (Reg.EDGEr_CTL r))) 0 s

/-- P0 names a configured rail in [1:0] and carries nothing but bit 8 beside it (DEDUCED, log entry 36). -/
def railP0 (slot : Fin 16) (s : State) : Bool :=
  descClean slot false false [0] s && (descP slot 0 s &&& 0x103) == descP slot 0 s && railConfigured (descUnit slot s) s

/-- RAIL_ENABLE: REFUSED where EN stays 0 (R179, R181, R383). -/
def opRailEnable (slot : Fin 16) (s : State) : State :=
  let r := descUnit slot s
  let en := (descP slot 0 s).testBit 8
  if !railP0 slot s then stageResult slot stBADARG 0 s
  else
    let t := writeEn r en s
    stageResult slot (if en && !t.on (F.EDGEr_CTL_EN r) then stREFUSED else stOK) (t.rd (Reg.EDGEr_STAT r)).toNat t

/-- A ticket that PROT_ACT does not remember, and not 0 (R20). -/
def freshTicket (s : State) : Byte :=
  let t := (s.rd Reg.PROT_ACT).extractLsb' 24 8
  if t = 0xFF then 1 else t + 1

/-- RAIL_CLEAR: PROT_ACT CLEAR with a fresh ticket, then EN = 1 where P0[8] asks for it; REFUSED where a stop condition is still present
(R155, R383) (DEDUCED, log entry 36). -/
def opRailClear (slot : Fin 16) (s : State) : State :=
  let r := descUnit slot s
  if !railP0 slot s then stageResult slot stBADARG 0 s
  else
    let refused := pState r s == pLATCHED && stopPresent r s
    let t := busWrite .trio Reg.PROT_ACT (actWord (freshTicket s) (BitVec.ofNat 16 r.val) 1) 0 s
    let u := if (descP slot 0 s).testBit 8 && !refused then writeEn r true t else t
    stageResult slot (if refused then stREFUSED else stOK) (u.rd (Reg.PROTr_STAT r)).toNat u

/-- MOTOR_SPEED: the speed-loop reference of a motor (R383, R474). -/
def opMotorSpeed (slot : Fin 16) (s : State) : State :=
  let m := descUnit slot s
  if !descClean slot false false [0, 1] s || 4 ≤ descP slot 0 s || !slotOn (Reg.MOTm_SPDREF m) s then stageResult slot stBADARG 0 s
  else stageResult slot stOK 0 (busWrite .trio (Reg.MOTm_SPDREF m) (BitVec.ofNat 32 (descP slot 1 s)) 0 s)

/-- TELEM_PERIOD: HIF_TEL_MODE.PERIOD in µs; 0 stops (R378, R383). -/
def opTelemPeriod (slot : Fin 16) (s : State) : State :=
  let p := descP slot 0 s
  if !descClean slot false false [0] s || 2 ^ 20 ≤ p then stageResult slot stBADARG 0 s
  else stageResult slot stOK 0 (busWrite .trio Reg.HIF_TEL_MODE (fldInto F.HIF_TEL_MODE_PERIOD p (s.rd Reg.HIF_TEL_MODE)) 0 s)

/-! ## LONGOP_ABORT (R388) -/

/-- An operation is asked to end at its next stopping point: VERIFY and CAPLEARN end at once, RINGTEST after the present point, WIPE after the
present region, FULLCAL after the present rotation step (R388). -/
def lopAbort (k : Fin 5) (s : State) : State :=
  if k = 2 then lopEnd 2 lopABORTED (s.cancel .verifyComplete)
  else if k = 4 then learnAbort s
  else
    let s1 := s.lopUpd k (fun l => { l with abort := true })
    if k = 3 ∧ !([0, 1, 2] : List (Fin 3)).any (fun b => s1.bit F.GATH_BSTAT_STEP b) then gFullAbort s1 else s1

/-- LONGOP_ABORT: REFUSED where no operation of that op code runs (R383). -/
def opAbort (slot : Fin 16) (s : State) : State :=
  let op := descP slot 0 s
  if !descClean slot false false [0] s || op = 0 || 5 < op then stageResult slot stBADARG 0 s
  else
    let k : Fin 5 := Fin.ofNat 5 (op - 1)
    if !s.lop[k].running then stageResult slot stREFUSED 0 s else stageResult slot stOK 0 (lopAbort k s)

/-! ## RINGTEST (R385, R387) -/

/-- The time of one point: SETTLE + CYC switching cycles. -/
def pointNs (s : State) : Nat := (s.ring.settle + s.ring.cycles) * s.mrv[s.ring.rail].tsw64 / 64

/-- The operands lie in range: rail, NPTS, AMP, and frequencies from 100 Hz to a quarter of the switching frequency, rising. -/
def ringArgsOk (slot : Fin 16) (s : State) : Bool :=
  let r : Fin 4 := Fin.ofNat 4 (descP slot 4 s)
  let f0 := descP slot 5 s
  let f1 := descP slot 6 s
  decide (descP slot 4 s < 4) && decide (2 ≤ descP slot 7 s) && decide (descP slot 7 s ≤ 256) && decide (descP slot 8 s < 2 ^ 21) &&
    decide (100 ≤ f0) && decide (f0 < f1) && decide (f1 * 4 * s.mrv[r].tsw64 ≤ 64 * 10 ^ 9) && railConfigured r s

/-- (2 f − 1)^n ≤ 2^n F0^(n − i) F1^i: the rounded frequency of point `i` of `n + 1` is at least `f`. -/
def freqAtLeast (f0 f1 n i f : Nat) : Bool := decide ((2 * f - 1) ^ n ≤ 2 ^ n * f0 ^ (n - i) * f1 ^ i)

/-- The largest such `f`, found bit by bit from bit `b − 1`. -/
def freqSearch (f0 f1 n i : Nat) : Nat → Nat → Nat
  | 0, acc => acc
  | b + 1, acc => freqSearch f0 f1 n i b (if freqAtLeast f0 f1 n i (acc + 2 ^ b) then acc + 2 ^ b else acc)

/-- The frequency of point `i`, logarithmically spaced and rounded to the nearest hertz (R387). -/
def ringFreq (g : Ring) (i : Nat) : Nat := freqSearch g.fstart g.fstop (g.npts - 1) i 32 0

/-- The present point begins: its sine from phase 0, its correlation after SETTLE switching cycles, its end after CYC more (R387). -/
def ringPointBegin (s : State) : State :=
  let g := s.ring
  let s1 := { s with ring := { g with
    freq := ringFreq g g.point, since := s.clk.ns, corr := 64 * s.clk.ns + g.settle * s.mrv[g.rail].tsw64, inject := 0
    aCos := 0, aSin := 0, bCos := 0, bSin := 0 } }
  s1.restart (pointNs s1) .ringtestPointComplete

/-- The ring test of a descriptor begins: its first point is under way. -/
def ringTestBegin (slot : Fin 16) (s : State) : State :=
  let g : Ring := { s.ring with
    rail := Fin.ofNat 4 (descP slot 4 s), fstart := descP slot 5 s, fstop := descP slot 6 s, npts := descP slot 7 s, point := 0
    amp := descP slot 8 s, settle := descP slot 9 s % 65536, cycles := descP slot 9 s / 65536 }
  ringPointBegin { s with ring := g }

/-- LONGOP_START of RINGTEST: REFUSED unless the rail is in REG with Parison disabled (R387); the spec states no RESULT for it. -/
def ringTestStart (slot : Fin 16) (s : State) : State :=
  let r : Fin 4 := Fin.ofNat 4 (descP slot 4 s)
  let n := descP slot 7 s
  if !s.lop[(0 : Fin 5)].running && ringArgsOk slot s && lopClean 0 slot s && lopFits (some (lopHostOf slot s)) n 16 && descAddr slot s % 8 == 0 &&
      (mState r s != mREG || s.lv (F.PARr_CTL_EN r) != 0) then
    stageResult slot stREFUSED s.freeWord.toNat s.draw
  else lopHostStart 0 slot n 16 (ringArgsOk slot s) n (ringTestBegin slot) s

/-- A point's record: its frequency, and 20 log10 |T| and arg T for T = −B / A; where A or B is 0, or the gain lies outside its format, the spec states no
value and a free one stands (R387) (DESIGN CHOICE, log entry 73). -/
def ringRecord (s : State) : State :=
  let g := s.ring
  let a := (g.aCos * g.aCos + g.aSin * g.aSin).natAbs
  let b := (g.bCos * g.bCos + g.bSin * g.bSin).natAbs
  let gain := ((gain256 b a).map (ofSigned 16)).getD (s.freeWord.toNat % 65536)
  let phase : Int := if a = 0 ∨ b = 0 then ((s.draw.freeWord.toNat % 36000 : Nat) : Int) - 18000
    else angle100 (g.bSin * g.aCos - g.bCos * g.aSin) (-(g.bCos * g.aCos + g.bSin * g.aSin))
  lopRecord 0 16 (bytesOfNat 4 g.freq ++ bytesOfNat 2 gain ++ bytesOfNat 2 (ofSigned 16 phase))
    (s.draw.draw.lopUpd 0 (fun l => { l with done := l.done + 1 }))

/-- The end of a point: an abort ends the operation without its record; else the record, and the next point or DONE (R387, R388). -/
def ringPoint (s : State) : State :=
  if !s.lop[(0 : Fin 5)].running then s
  else if s.lop[(0 : Fin 5)].abort then lopEnd 0 lopABORTED (s.cancel .ringtestPointComplete)
  else
    let s1 := ringRecord s
    let s2 := { s1 with ring := { s1.ring with point := s.ring.point + 1 } }
    if s2.ring.npts ≤ s2.ring.point then lopEnd 0 lopDONE (s2.cancel .ringtestPointComplete)
    else ringPointBegin s2

/-! ## Meanings -/

/-- STATUS, opcode 0x01 (R383) (DESIGN CHOICE, log entry 41). -/
def execStatus (slot : Fin 16) (s : State) : Out := .next (opStatus slot s)

/-- PARAM_READ, opcode 0x02 (R383, R384) (DESIGN CHOICE, log entry 41). -/
def execParamRead (slot : Fin 16) (s : State) : Out := .next (opParamRead slot s)

/-- PARAM_WRITE, opcode 0x03 (R383, R384). -/
def execParamWrite (slot : Fin 16) (s : State) : Out := .next (opParamWrite slot s)

/-- The host's VSET, opcode 0x04 (R383) (DESIGN CHOICE, log entry 41). -/
def execHostVset (slot : Fin 16) (s : State) : Out := .next (opVset slot s)

/-- RAIL_ENABLE, opcode 0x05 (R383). -/
def execRailEnable (slot : Fin 16) (s : State) : Out := .next (opRailEnable slot s)

/-- RAIL_CLEAR, opcode 0x06 (R383). -/
def execRailClear (slot : Fin 16) (s : State) : Out := .next (opRailClear slot s)

/-- MOTOR_SPEED, opcode 0x07 (R383). -/
def execMotorSpeed (slot : Fin 16) (s : State) : Out := .next (opMotorSpeed slot s)

/-- TELEM_PERIOD, opcode 0x08 (R383). -/
def execTelemPeriod (slot : Fin 16) (s : State) : Out := .next (opTelemPeriod slot s)

/-- LONGOP_ABORT, opcode 0x11 (R388). -/
def execLongopAbort (slot : Fin 16) (s : State) : Out := .next (opAbort slot s)

/-- RINGTEST: long operation 0x01 (R387). -/
def execRingtest (slot : Fin 16) (s : State) : Out := .next (ringTestStart slot s)

/-- RINGTEST_POINT_COMPLETE: a point's correlation is over (R387). -/
def execRingtestPointComplete (s : State) : Out := .next (ringPoint s)

end Sys2Proof.Machine
end

