-- ==== Sys2Proof/Machine/Shauc.lean ====
section
/-!
DEFINITION. Machine/Shauc.lean: the instructions of the Trio (spec/09_shauc_isa.md; spec/10_capabilities_traps.md, R288 to R296;
spec/11_trio.md, R312, R313). Each command carries its instruction word. The cores execute it at an instruction boundary: a due interrupt is
taken instead, the fetch checks on PCC come first, and the effect and the next PC follow.
-/
namespace Sys2Proof.Machine

/-! ## What an instruction answers -/

/-- The outcome of an instruction's own effect: completion at its address, with what takes effect after its loop-back evaluation (R269,
R272); a control transfer that ends no loop level; a taken branch, which may end levels (R270); a count-zero loop, which completes at the end
of the body (R268); a trap, which names a capability register where one failed (R255). -/
inductive Res where
  | done (s : State) (after : State → State)
  | goto (pc : Word) (s : State)
  | branch (pc : Word) (s : State)
  | skip (last : Word) (s : State)
  | trap (cause : Nat) (tval : Word) (cap : Option Nat) (s : State)

/-! ## Loops (R269, R270) -/

/-- The loop-back evaluation for address `a`: levels that end there count down, and the PC follows (R269). -/
def loopBack (a : Word) : Nat → Core → Core
  | 0, c => { c with pc := a + 4 }
  | n + 1, c =>
    let l : Fin 3 := Fin.ofNat 3 (c.depth.toNat - 1)
    if c.depth = 0 ∨ c.lea[l] ≠ a then { c with pc := a + 4 }
    else
      let k := c.lct[l] - 1
      let c1 := { c with lct := updAt c.lct l (fun _ => k) }
      if k ≠ 0 then { c1 with pc := c1.lsa[l] } else loopBack a n { c1 with depth := c.depth - 1 }

/-- A taken branch ends the innermost levels whose range its target leaves (R270). -/
def endLevels (t : Word) : Nat → Core → Core
  | 0, c => c
  | n + 1, c =>
    let l : Fin 3 := Fin.ofNat 3 (c.depth.toNat - 1)
    if c.depth = 0 ∨ (c.lsa[l].toNat ≤ t.toNat ∧ t.toNat ≤ c.lea[l].toNat) then c else endLevels t n { c with depth := c.depth - 1 }

/-! ## Execution (R253, R255, R302) -/

/-- The first failing check of a capability register that a data or fetch access names: tag, seal, permissions, bounds (R288, R289). -/
def capFault (c : Cap) (perms : List Nat) (a n : Nat) : Option Nat :=
  if !c.tag then some 0x05
  else if c.isSealed then some 0x08
  else if !perms.all (fun p => c.has p) then some 0x07
  else if !c.covers a n then some 0x06
  else none

/-- A region from which instructions are fetched: boot ROM, ITCM, shared SRAM, xSPI window (R330). -/
def fetches (a : Nat) : Bool := regionOf a == some .rom || regionOf a == some .itcm || regionOf a == some .sram || regionOf a == some .xspi

/-- The fetch at PC: the checks on PCC, then a bus or ECC error (R289, R330) (DEDUCED, log entry 9). -/
def fetchFault (s : State) : State × Option (Nat × Option Nat) :=
  let c := s.trio.core
  match capFault c.pcc [pEXEC] c.pc.toNat 4 with
  | some cause => (s, some (cause, some 8))
  | none =>
    if !fetches c.pc.toNat then (s, some (0x0A, none))
    else
      match memRead 4 c.pc.toNat s with
      | (t, .err cause _) => (t, some (cause, none))
      | (t, .ok _) => (t, none)

/-- The instruction's answer brought into the core. Where its store has reset the Trio or the device, the PC is the reset's. -/
def settleRes (r : Res) : State :=
  match r with
  | .done s f => if trioActive s then f (coreUpd (fun c => loopBack c.pc 3 c) s) else s
  | .goto pc s => if trioActive s then coreUpd (fun c => { c with pc := pc }) s else s
  | .branch pc s => if trioActive s then coreUpd (fun c => { endLevels pc 3 c with pc := pc }) s else s
  | .skip last s => if trioActive s then coreUpd (loopBack last 3) s else s
  | .trap cause tval cap s => takeTrap cause tval cap s

/-- One instruction of the Trio at its boundary (DEDUCED, log entry 9; DEDUCED, log entry 10; DESIGN CHOICE, log entry 11). -/
def instr (body : State → Res) (s : State) : Out :=
  .next (if !trioActive s then s
    else match irqDue s with
    | some n => takeTrap (0x10 + n) 0 none s
    | none =>
      match fetchFault s with
      | (t, some (cause, cap)) => takeTrap cause t.trio.core.pc cap t
      | (t, none) => highWater (settleRes (body t)))

/-! ## Operands -/

/-- The word of a register of the current view. -/
def reg (k : Nat) (s : State) : Word := s.trio.core.reg k

/-- The present PC. -/
def pcNow (s : State) : Word := s.trio.core.pc

/-- An instruction that writes one integer register and completes. -/
def writeReg (k : Nat) (v : Word) (s : State) : Res := .done (coreUpd (fun c => c.setReg k v) s) id

/-- A register ALU instruction of rs1 and rs2 (R258). -/
def aluR (f : Word → Word → Word) (w : Word) (s : State) : Res := writeReg (fRd w) (f (reg (fRs1 w) s) (reg (fRs2 w) s)) s

/-- A register ALU instruction of rs1 and an amount (R258). -/
def aluN (f : Word → Nat → Word) (n : Nat) (w : Word) (s : State) : Res := writeReg (fRd w) (f (reg (fRs1 w) s) n) s

/-- The amount of a shift by register: rs2[4:0] (R258). -/
def shAmt (w : Word) (s : State) : Nat := (reg (fRs2 w) s).toNat % 32

/-- An immediate instruction (R260). -/
def aluI (f : Word → Word → Word) (imm : Word) (w : Word) (s : State) : Res := writeReg (fRd w) (f (reg (fRs1 w) s) imm) s

/-- A conditional branch (R264). -/
def condBranch (f : Word → Word → Bool) (w : Word) (s : State) : Res :=
  if f (reg (fBs1 w) s) (reg (fBs2 w) s) then .branch (pcNow s + fOff16 w) s else .done s id

/-- A privileged instruction: 0x04 where the capability in cS is untagged, sealed or lacks SYS (R273, R296). -/
def priv (cS : Nat) (w : Word) (body : State → Res) (s : State) : Res :=
  let c := s.trio.core.cap cS
  if c.tag && !c.isSealed && c.has pSYS then body s else .trap 0x04 w (some cS) s

/-! ## Data accesses (R261, R288, R311, R312) -/

/-- The address of a memory instruction (R261). -/
def effAddr (w : Word) (s : State) : Nat := (reg (fRs1 w) s + fImm13 w).toNat

/-- The data checks of R288: the capability in cN, then alignment. -/
def dataFault (cN : Nat) (perms : List Nat) (a n align : Nat) (s : State) : Option Nat :=
  match capFault (s.trio.core.cap cN) perms a n with
  | some cause => some cause
  | none => if a % align ≠ 0 then some 0x09 else none

/-- A load of `n` bytes: a peripheral register by words, else memory (R311, R333). -/
def loadBytes (n a : Nat) (s : State) : State × Acc :=
  if regionOf a = some .slot then
    if n ≠ 4 then (s, .err 0x0A a)
    else
      let t := busRead .trio a 0 s
      (t, if t.busErr then .err 0x0A a else .ok (bytesOfWord t.rdata))
  else memRead n a s

/-- A store: a peripheral register by words, else memory (R312, R333). -/
def storeBytes (a : Nat) (l : List Byte) (s : State) : State × Acc :=
  if regionOf a = some .slot then
    if l.length ≠ 4 then (s, .err 0x0A a)
    else
      let t := busWrite .trio a (wordOfBytes l) 0 s
      (t, if t.busErr then .err 0x0A a else .ok [])
  else memWrite a l s

/-- A load into an integer register (R261, R262) (DEDUCED, log entry 37). -/
def load (n : Nat) (conv : Nat → Word) (w : Word) (s : State) : Res :=
  let a := effAddr w s
  match dataFault (fCN w) [pLOAD] a n n s with
  | some cause => .trap cause (BitVec.ofNat 32 a) (some (fCN w)) s
  | none =>
    match loadBytes n a s with
    | (t, .err cause at_) => .trap cause (BitVec.ofNat 32 at_) none t
    | (t, .ok d) => writeReg (fRd w) (conv (natOfBytes d)) t

/-- A store of the low `n` bytes of an integer register (R261, R262). -/
def storeReg (n : Nat) (w : Word) (s : State) : Res :=
  let a := effAddr w s
  match dataFault (fCN w) [pSTORE] a n n s with
  | some cause => .trap cause (BitVec.ofNat 32 a) (some (fCN w)) s
  | none =>
    match storeBytes a (bytesOfNat n (reg (fRd w) s).toNat) s with
    | (t, .err cause at_) => .trap cause (BitVec.ofNat 32 at_) none t
    | (t, .ok _) => .done t id

/-- LDC: 16 bytes and the granule's tag (R261, R284, R290). -/
def loadCap (w : Word) (s : State) : Res :=
  let a := effAddr w s
  match dataFault (fCN w) [pLOAD, pLOADCAP] a 16 16 s with
  | some cause => .trap cause (BitVec.ofNat 32 a) (some (fCN w)) s
  | none =>
    match loadBytes 16 a s with
    | (t, .err cause at_) => .trap cause (BitVec.ofNat 32 at_) none t
    | (t, .ok d) =>
      .done (coreUpd (fun c => c.setCap (fCd w) { bits := BitVec.ofNat 128 (natOfBytes d), tag := holdsTags a && tagOf a s }) t) id

/-- 16 bytes and a tag stored: four undo entries, then the data, then the tag where the region holds tags (R284, R285, R316). -/
def storeTagged (a : Nat) (l : List Byte) (tag : Bool) (s : State) : State × Acc :=
  match storeBytes a l s with
  | (t, .ok d) => (if holdsTags a then setTag a tag t else t, .ok d)
  | r => r

/-- STC (R261, R284, R290). -/
def storeCap (w : Word) (s : State) : Res :=
  let a := effAddr w s
  match dataFault (fCN w) [pSTORE, pSTORECAP] a 16 16 s with
  | some cause => .trap cause (BitVec.ofNat 32 a) (some (fCN w)) s
  | none =>
    let v := s.trio.core.cap (fCd w)
    match storeTagged a (bytesOfNat 16 v.bits.toNat) v.tag s with
    | (t, .err cause at_) => .trap cause (BitVec.ofNat 32 at_) none t
    | (t, .ok _) => .done t id

/-! ## Windows (R265 to R267) -/

/-- WOPEN and WCLOSE past their window check: v is read in the old window, rd is written in the new one (R265). -/
def windowMove (new : BitVec 3) (w : Word) (s : State) : Res :=
  let v := reg (fRs1 w) s + fImmS w
  .done (coreUpd (fun c => ({ c with cwp := new } : Core).setReg (fRd w) v) s) id

/-- The 16 own registers of a window in the order of the save area: locals, then ins (R266). -/
def ownRegs (w : Nat) : List (Fin 128) := (List.range 8).map (winLocal w) ++ (List.range 8).map (winIn w)

/-- The save area of a window: the 64 bytes below its own o6 (R266). -/
def saveArea (w : Nat) (s : State) : Nat := (s.trio.core.win[winIn (w + 1) 6] - 64).toNat

/-- Registers stored to words from `a` upward, until an access fails (R256, R266). -/
def spillWords : List (Fin 128) → Nat → State → State × Option (Nat × Nat)
  | [], _, s => (s, none)
  | k :: l, a, s =>
    match storeBytes a (bytesOfWord s.trio.core.win[k]) s with
    | (t, .err cause at_) => (t, some (cause, at_))
    | (t, .ok _) => spillWords l (a + 4) t

/-- Registers loaded from words from `a` upward, until an access fails (R256, R266). -/
def fillWords : List (Fin 128) → Nat → State → State × Option (Nat × Nat)
  | [], _, s => (s, none)
  | k :: l, a, s =>
    match loadBytes 4 a s with
    | (t, .err cause at_) => (t, some (cause, at_))
    | (t, .ok d) => fillWords l (a + 4) (coreUpd (fun c => { c with win := updAt c.win k (fun _ => wordOfBytes d) }) t)

/-- WSPILL and WFILL: every check completes before the first word moves (R266). -/
def windowTransfer (perm : Nat) (move : List (Fin 128) → Nat → State → State × Option (Nat × Nat)) (w : Word) (s : State) : Res :=
  let k := (reg (fRs1 w) s).toNat % 8
  let a := saveArea k s
  match dataFault (fCd w) [perm] a 64 4 s with
  | some cause => .trap cause (BitVec.ofNat 32 a) (some (fCd w)) s
  | none =>
    match move (ownRegs k) a s with
    | (t, some (cause, at_)) => .trap cause (BitVec.ofNat 32 at_) none t
    | (t, none) => .done t id

/-! ## Loops (R268) -/

/-- LOOP and LOOPI with their count. -/
def loopStart (count : Word) (w : Word) (s : State) : Res :=
  let c := s.trio.core
  let last := c.pc + fEnd w
  if c.depth = 3 then .trap 0x0C count none s
  else if count = 0 then .skip last s
  else
    let l : Fin 3 := Fin.ofNat 3 c.depth.toNat
    .goto (c.pc + 4) (coreUpd (fun x =>
      { x with lsa := updAt x.lsa l (fun _ => x.pc + 4), lea := updAt x.lea l (fun _ => last), lct := updAt x.lct l (fun _ => count), depth := x.depth + 1 }) s)

/-! ## Capabilities (R291 to R294) -/

/-- The capabilities cs1 and cs2 name. -/
def cs1 (w : Word) (s : State) : Cap := s.trio.core.cap (fCs1 w)
def cs2 (w : Word) (s : State) : Cap := s.trio.core.cap (fCs2 w)

/-- An instruction that writes one capability register and completes. -/
def writeCap (w : Word) (v : Cap) (s : State) : Res := .done (coreUpd (fun c => c.setCap (fCd w) v) s) id

/-- The first failing check of a list of checks (fails, cause, register). -/
def firstFail : List (Bool × Nat × Nat) → Option (Nat × Nat)
  | [] => none
  | (b, cause, r) :: l => if b then some (cause, r) else firstFail l

/-- Checks in order, the first that fails trapping with its register named, then the instruction's effect (R291 to R293). -/
def checked (l : List (Bool × Nat × Nat)) (tval : Word) (body : State → Res) (s : State) : Res :=
  match firstFail l with
  | some (cause, r) => .trap cause tval (some r) s
  | none => body s

/-- An object type lies in the bounds of a sealing capability (R291). -/
def typeIn (t : Nat) (c : Cap) : Bool := decide (c.base ≤ t) && decide (t < c.base + c.len)

/-- ATRIMLO and ATRIMLEN: tag, seal, rs1 within the length (R291). -/
def trim (f : Cap → Nat → Cap) (w : Word) (s : State) : Res :=
  let c := cs1 w s
  let v := reg (fRs1 w) s
  checked [(!c.tag, 0x05, fCs1 w), (c.isSealed, 0x08, fCs1 w), (decide (c.len < v.toNat), 0x06, fCs1 w)] v (writeCap w (f c v.toNat)) s

/-- AWITHIN: cs1 lies within the authority of cs2 (R294). -/
def within (a b : Cap) : Bool :=
  a.tag && b.tag && decide (b.base ≤ a.base) && decide (a.base + a.len ≤ b.base + b.len) && (a.perm &&& ~~~b.perm) == 0

/-! ## Reserved encodings (R277, R278) -/

/-- A free value that a reserved encoding uses: it depends on the word and on a fresh count (DESIGN CHOICE, log entry 6). -/
def reservedWord (w : Word) (s : State) : Word × State := (Config.reservedEffect w s.free, s.draw)

/-- Every general register of the view takes a free value (R278) (DESIGN CHOICE, log entry 6). -/
def reservedRegs (w : Word) (s : State) : State :=
  s.each (List.range 32) (fun k t => coreUpd (fun c => c.setReg k (Config.reservedEffect w t.free)) t.draw)

/-- One free access: a load or a store of a free size at a free address with a capability that the core holds, where it passes the checks
(R278). A trap that it raises ends the encoding (DESIGN CHOICE, log entry 6). -/
def reservedAccess (w : Word) (s : State) : State × Option (Nat × Nat) :=
  let how := Config.reservedEffect w s.free
  let a := (Config.reservedEffect w (s.free + 1)).toNat
  let v := Config.reservedEffect w (s.free + 2)
  let cN := (how.extractLsb' 0 3).toNat
  let n := if how.getLsbD 3 then 16 else 2 ^ ((how.extractLsb' 4 2).toNat % 3)
  let t := s.draw.draw.draw
  let store := how.getLsbD 6
  let perms := if store then (if n = 16 then [pSTORE, pSTORECAP] else [pSTORE]) else if n = 16 then [pLOAD, pLOADCAP] else [pLOAD]
  let cap := t.trio.core.cap (how.extractLsb' 7 3).toNat
  match dataFault cN perms a n n t with
  | some _ => (t, none)
  | none =>
    let r := if !store then loadBytes n a t
      else if n = 16 then storeTagged a (bytesOfNat 16 cap.bits.toNat) cap.tag t
      else storeBytes a (bytesOfNat n v.toNat) t
    match r with
    | (u, .err cause at_) => (u, some (cause, at_))
    | (u, .ok _) => (u, none)

/-- A free number of accesses in order, until one traps (R278) (DESIGN CHOICE, log entry 6). -/
def reservedAccesses (w : Word) : Nat → State → State × Option (Nat × Nat)
  | 0, s => (s, none)
  | n + 1, s =>
    match reservedAccess w s with
    | (t, none) => if trioActive t then reservedAccesses w n t else (t, none)
    | r => r

/-- The TVAL of a trap that a reserved encoding raises by its cause: the window to spill or fill, the word, 0, or a free value
(R266, R300). -/
def reservedTval (cause : Nat) (w v : Word) (s : State) : Word :=
  if cause = 1 ∨ cause = 2 then BitVec.ofNat 32 ((s.trio.core.cwp.toNat + (if cause = 1 then 2 else 7)) % 8)
  else if cause = 3 ∨ cause = 4 then w else if cause = 0x0D ∨ 0x10 ≤ cause then 0 else v

/-- A trap that a reserved encoding raises: causes 0x01 to 0x0E and 0x10 to 0x4F; the encoding that an interrupt follows has completed,
but where its trap is a double trap the PC stays at it (R278, R297, R300, R302, R305). -/
def reservedTrap (w : Word) (s : State) : Res :=
  let how := Config.reservedEffect w s.free
  let v := Config.reservedEffect w (s.free + 1)
  let t := s.draw.draw
  let n := (how.extractLsb' 0 8).toNat % 78
  let cause := if n < 14 then n + 1 else n + 2
  let cap := if cause = 4 then some ((how.extractLsb' 8 3).toNat) else if 5 ≤ cause ∧ cause ≤ 8 then some ((how.extractLsb' 8 4).toNat % 9) else none
  .trap cause (reservedTval cause w v t) cap
    (if 0x10 ≤ cause ∧ !t.trio.core.intrap ∧ tvecOk t.trio.core.tvec then coreUpd (fun c => { c with pc := (loopBack c.pc 3 c).pc }) t else t)

/-- The confined effect of a reserved encoding: at most 64 accesses that pass their checks, free values in the general registers, and
completion, which leaves the loop registers as they are, or a trap of the TCAUSE table (R278) (DESIGN CHOICE, log entry 6). -/
def reserved (w : Word) (s : State) : Res :=
  let n := (reservedWord w s).1.toNat % 65
  match reservedAccesses w n (reservedWord w s).2 with
  | (t, some (cause, a)) => .trap cause (BitVec.ofNat 32 a) none t
  | (t, none) =>
    if !trioActive t then .done t id
    else
      let how := Config.reservedEffect w t.free
      let u := reservedRegs w t.draw
      if how.getLsbD 0 then reservedTrap w u else .goto (loopBack u.trio.core.pc 3 u.trio.core).pc u

/-! ## Votes (R310 to R313) -/

/-- The request of the disagreeing comparison, where two cores agree on it: a load of a peripheral register (no bytes), or a store (R311,
R312). -/
def performVoted (p : Option (Nat × List Byte × Bool)) (s : State) : State :=
  match p with
  | none => s
  | some (a, [], _) => if regionOf a = some .slot then (loadBytes 4 a s).1 else s
  | some (a, l, tag) => if l.length = 16 then (storeTagged a l tag s).1 else (storeBytes a l s).1

/-! ## Meanings: arithmetic and logic (R258 to R260) -/

/-- ADD. -/
def execAdd (w : Word) (s : State) : Out := instr (aluR (· + ·) w) s
/-- SUB. -/
def execSub (w : Word) (s : State) : Out := instr (aluR (· - ·) w) s
/-- AND. -/
def execAnd (w : Word) (s : State) : Out := instr (aluR (· &&& ·) w) s
/-- OR. -/
def execOr (w : Word) (s : State) : Out := instr (aluR (· ||| ·) w) s
/-- XOR. -/
def execXor (w : Word) (s : State) : Out := instr (aluR (· ^^^ ·) w) s
/-- SLL. -/
def execSll (w : Word) (s : State) : Out := instr (fun t => aluN sllW (shAmt w t) w t) s
/-- SRL. -/
def execSrl (w : Word) (s : State) : Out := instr (fun t => aluN srlW (shAmt w t) w t) s
/-- SRA. -/
def execSra (w : Word) (s : State) : Out := instr (fun t => aluN sraW (shAmt w t) w t) s
/-- SLT. -/
def execSlt (w : Word) (s : State) : Out := instr (aluR sltW w) s
/-- SLTU. -/
def execSltu (w : Word) (s : State) : Out := instr (aluR sltuW w) s
/-- MIN. -/
def execMin (w : Word) (s : State) : Out := instr (aluR minW w) s
/-- MAX. -/
def execMax (w : Word) (s : State) : Out := instr (aluR maxW w) s
/-- MINU. -/
def execMinu (w : Word) (s : State) : Out := instr (aluR minuW w) s
/-- MAXU. -/
def execMaxu (w : Word) (s : State) : Out := instr (aluR maxuW w) s
/-- SLLI. -/
def execSlli (w : Word) (s : State) : Out := instr (aluN sllW (fRs2 w) w) s
/-- SRLI. -/
def execSrli (w : Word) (s : State) : Out := instr (aluN srlW (fRs2 w) w) s
/-- SRAI. -/
def execSrai (w : Word) (s : State) : Out := instr (aluN sraW (fRs2 w) w) s
/-- SATI. -/
def execSati (w : Word) (s : State) : Out := instr (aluN satW (fRs2 w) w) s
/-- MUL. -/
def execMul (w : Word) (s : State) : Out := instr (aluR mulW w) s
/-- MULH. -/
def execMulh (w : Word) (s : State) : Out := instr (aluR mulhW w) s
/-- MULHU. -/
def execMulhu (w : Word) (s : State) : Out := instr (aluR mulhuW w) s
/-- MADD. -/
def execMadd (w : Word) (s : State) : Out := instr (fun t => aluR (fun a b => reg (fRd w) t + mulW a b) w t) s
/-- MSUB. -/
def execMsub (w : Word) (s : State) : Out := instr (fun t => aluR (fun a b => reg (fRd w) t - mulW a b) w t) s
/-- DIV (R259). -/
def execDiv (w : Word) (s : State) : Out := instr (aluR divW w) s
/-- DIVU (R259). -/
def execDivu (w : Word) (s : State) : Out := instr (aluR divuW w) s
/-- REM (R259). -/
def execRem (w : Word) (s : State) : Out := instr (aluR remW w) s
/-- REMU (R259). -/
def execRemu (w : Word) (s : State) : Out := instr (aluR remuW w) s
/-- ADDI. -/
def execAddi (w : Word) (s : State) : Out := instr (aluI (· + ·) (fImmS w) w) s
/-- ANDI. -/
def execAndi (w : Word) (s : State) : Out := instr (aluI (· &&& ·) (fImmZ w) w) s
/-- ORI. -/
def execOri (w : Word) (s : State) : Out := instr (aluI (· ||| ·) (fImmZ w) w) s
/-- XORI. -/
def execXori (w : Word) (s : State) : Out := instr (aluI (· ^^^ ·) (fImmZ w) w) s
/-- SLTI. -/
def execSlti (w : Word) (s : State) : Out := instr (aluI sltW (fImmS w) w) s
/-- SLTIU. -/
def execSltiu (w : Word) (s : State) : Out := instr (aluI sltuW (fImmS w) w) s
/-- LUI. -/
def execLui (w : Word) (s : State) : Out := instr (writeReg (fRd w) (fImmZ w <<< 16)) s

/-! ## Meanings: loads and stores (R261) -/

/-- LDW. -/
def execLdw (w : Word) (s : State) : Out := instr (load 4 (fun n => BitVec.ofNat 32 n) w) s
/-- LDH: sign-extended. -/
def execLdh (w : Word) (s : State) : Out := instr (load 2 (fun n => (BitVec.ofNat 16 n).signExtend 32) w) s
/-- LDHU: zero-extended. -/
def execLdhu (w : Word) (s : State) : Out := instr (load 2 (fun n => (BitVec.ofNat 16 n).zeroExtend 32) w) s
/-- LDB: sign-extended. -/
def execLdb (w : Word) (s : State) : Out := instr (load 1 (fun n => (BitVec.ofNat 8 n).signExtend 32) w) s
/-- LDBU: zero-extended. -/
def execLdbu (w : Word) (s : State) : Out := instr (load 1 (fun n => (BitVec.ofNat 8 n).zeroExtend 32) w) s
/-- STW. -/
def execStw (w : Word) (s : State) : Out := instr (storeReg 4 w) s
/-- STH. -/
def execSth (w : Word) (s : State) : Out := instr (storeReg 2 w) s
/-- STB. -/
def execStb (w : Word) (s : State) : Out := instr (storeReg 1 w) s
/-- LDC. -/
def execLdc (w : Word) (s : State) : Out := instr (loadCap w) s
/-- STC. -/
def execStc (w : Word) (s : State) : Out := instr (storeCap w) s

/-! ## Meanings: control transfer (R264) -/

/-- BEQ. -/
def execBeq (w : Word) (s : State) : Out := instr (condBranch (fun a b => a == b) w) s
/-- BNE. -/
def execBne (w : Word) (s : State) : Out := instr (condBranch (fun a b => a != b) w) s
/-- BLT: signed. -/
def execBlt (w : Word) (s : State) : Out := instr (condBranch (fun a b => decide (a.toInt < b.toInt)) w) s
/-- BGE: signed. -/
def execBge (w : Word) (s : State) : Out := instr (condBranch (fun a b => decide (b.toInt ≤ a.toInt)) w) s
/-- BLTU: unsigned. -/
def execBltu (w : Word) (s : State) : Out := instr (condBranch (fun a b => decide (a.toNat < b.toNat)) w) s
/-- BGEU: unsigned. -/
def execBgeu (w : Word) (s : State) : Out := instr (condBranch (fun a b => decide (b.toNat ≤ a.toNat)) w) s
/-- J. -/
def execJ (w : Word) (s : State) : Out := instr (fun t => .branch (pcNow t + fOff26 w) t) s
/-- CALL: o7 takes PC + 4. -/
def execCall (w : Word) (s : State) : Out :=
  instr (fun t => .goto (pcNow t + fOff26 w) (coreUpd (fun c => c.setReg 15 (c.pc + 4)) t)) s
/-- JMPL: 0x09 for a target off a word boundary. -/
def execJmpl (w : Word) (s : State) : Out :=
  instr (fun t =>
    let target := reg (fRs1 w) t + fImmS w
    if target.extractLsb' 0 2 ≠ 0 then .trap 0x09 target none t
    else .goto target (coreUpd (fun c => c.setReg (fRd w) (c.pc + 4)) t)) s

/-! ## Meanings: windows (R265 to R267) -/

/-- WOPEN: overflow where the new window's outs are the ins of the oldest resident window; a double trap in the trap window (DEDUCED, log entry 37). -/
def execWopen (w : Word) (s : State) : Out :=
  instr (fun t =>
    let c := t.trio.core
    if c.intrap ∨ (c.wen ∧ c.cwp + 2 = c.old) then .trap 0x01 ((c.cwp + 2).zeroExtend 32) none t else windowMove (c.cwp + 1) w t) s
/-- WCLOSE: underflow where the window below is not resident; a double trap in the trap window (DEDUCED, log entry 37). -/
def execWclose (w : Word) (s : State) : Out :=
  instr (fun t =>
    let c := t.trio.core
    if c.intrap ∨ (c.wen ∧ c.cwp = c.old) then .trap 0x02 ((c.cwp - 1).zeroExtend 32) none t else windowMove (c.cwp - 1) w t) s

/-! ## Meanings: loops (R268) -/

/-- LOOP: the count is rs1. -/
def execLoop (w : Word) (s : State) : Out := instr (fun t => loopStart (reg (fRd w) t) w t) s
/-- LOOPI: the count is in the word. -/
def execLoopi (w : Word) (s : State) : Out := instr (loopStart (BitVec.ofNat 32 (fCount10 w)) w) s

/-! ## Meanings: system (R273, R274) -/

/-- RDSR: privileged for special registers 0x01 to 0x05. -/
def execRdsr (w : Word) (s : State) : Out :=
  let body := fun (t : State) => writeReg (fRd w) (t.trio.core.sr (fSr w)) t
  instr (if 1 ≤ fSr w ∧ fSr w ≤ 5 then priv (fCSs w) w body else body) s
/-- WRSR: the loop registers and LSTAT change after the instruction's own completion (R272). -/
def execWrsr (w : Word) (s : State) : Out :=
  instr (priv (fCSs w) w (fun t => .done t (coreUpd (fun c => c.setSr (fSr w) (reg (fRs1 w) t))))) s
/-- TRAP. -/
def execTrap (w : Word) (s : State) : Out := instr (fun t => .trap 0x0E (reg (fRs1 w) t) none t) s
/-- BKPT. -/
def execBkpt (_w : Word) (s : State) : Out := instr (fun t => .trap 0x0D 0 none t) s
/-- TRET (R301). -/
def execTret (w : Word) (s : State) : Out :=
  instr (priv (fCSs w) w (fun t => .goto t.trio.core.tepc (coreUpd (fun c => { c with intrap := false, pcc := c.tepcc }) t))) s
/-- WFI: a no-op where a wake is pending, else a checkpoint and sleep (R322). -/
def execWfi (w : Word) (s : State) : Out :=
  instr (priv (fCSs w) w (fun t => .done t (if irqVec t ≠ 0 ∨ t.trio.haltReq then id else ckptStart true))) s
/-- CKPT (R314). -/
def execCkpt (w : Word) (s : State) : Out := instr (priv (fCSs w) w (fun t => .done t (ckptStart false))) s
/-- WSPILL. -/
def execWspill (w : Word) (s : State) : Out := instr (priv (fCSs w) w (windowTransfer pSTORE spillWords w)) s
/-- WFILL. -/
def execWfill (w : Word) (s : State) : Out := instr (priv (fCSs w) w (windowTransfer pLOAD fillWords w)) s

/-! ## Meanings: capabilities (R275, R291 to R295) -/

/-- ACPY. -/
def execAcpy (w : Word) (s : State) : Out := instr (fun t => writeCap w (cs1 w t) t) s
/-- ARDBASE. -/
def execArdbase (w : Word) (s : State) : Out := instr (fun t => writeReg (fRd w) (BitVec.ofNat 32 (cs1 w t).base) t) s
/-- ARDLEN: 0xFFFF_FFFF for a length of 2^32. -/
def execArdlen (w : Word) (s : State) : Out :=
  instr (fun t => writeReg (fRd w) (if (cs1 w t).len = 2 ^ 32 then BitVec.allOnes 32 else BitVec.ofNat 32 (cs1 w t).len) t) s
/-- ARDPERM. -/
def execArdperm (w : Word) (s : State) : Out := instr (fun t => writeReg (fRd w) ((cs1 w t).perm.zeroExtend 32) t) s
/-- ARDTYPE. -/
def execArdtype (w : Word) (s : State) : Out := instr (fun t => writeReg (fRd w) (BitVec.ofNat 32 (cs1 w t).otype) t) s
/-- ARDTAG: tag and seal. -/
def execArdtag (w : Word) (s : State) : Out :=
  instr (fun t => writeReg (fRd w) (boolWord (cs1 w t).tag ||| (boolWord (cs1 w t).isSealed <<< 1)) t) s
/-- ATRIMLO. -/
def execAtrimlo (w : Word) (s : State) : Out := instr (trim (fun c v => (c.setBase (c.base + v)).setLen (c.len - v)) w) s
/-- ATRIMLEN. -/
def execAtrimlen (w : Word) (s : State) : Out := instr (trim (fun c v => c.setLen v) w) s
/-- AMASK. -/
def execAmask (w : Word) (s : State) : Out :=
  instr (fun t => checked [(!(cs1 w t).tag, 0x05, fCs1 w), ((cs1 w t).isSealed, 0x08, fCs1 w)] 0
    (writeCap w ((cs1 w t).setPerm ((cs1 w t).perm.toNat &&& (reg (fRs1 w) t).toNat % 256))) t) s
/-- AVOID. -/
def execAvoid (w : Word) (s : State) : Out := instr (fun t => writeCap w { cs1 w t with tag := false } t) s
/-- ALOCK. -/
def execAlock (w : Word) (s : State) : Out :=
  instr (fun t =>
    let a := cs1 w t
    let b := cs2 w t
    let ty := (reg (fRs1 w) t).toNat % 65536
    checked [(!a.tag, 0x05, fCs1 w), (!b.tag, 0x05, fCs2 w), (a.isSealed, 0x08, fCs1 w), (b.isSealed, 0x08, fCs2 w), (!b.has pSEAL, 0x07, fCs2 w),
      (ty == 0 || !typeIn ty b, 0x06, fCs2 w)] (BitVec.ofNat 32 ty) (writeCap w (a.sealed ty)) t) s
/-- AUNLOCK. -/
def execAunlock (w : Word) (s : State) : Out :=
  instr (fun t =>
    let a := cs1 w t
    let b := cs2 w t
    checked [(!a.tag, 0x05, fCs1 w), (!b.tag, 0x05, fCs2 w), (!a.isSealed, 0x08, fCs1 w), (b.isSealed, 0x08, fCs2 w), (!b.has pUNSEAL, 0x07, fCs2 w),
      (!typeIn a.otype b, 0x06, fCs2 w)] (BitVec.ofNat 32 a.otype) (writeCap w a.unsealed) t) s
/-- AWITHIN. -/
def execAwithin (w : Word) (s : State) : Out := instr (fun t => writeReg (fRd w) (boolWord (within (cs1 w t) (cs2 w t))) t) s
/-- AJUMP (R292). -/
def execAjump (w : Word) (s : State) : Out :=
  instr (fun t =>
    let a := cs1 w t
    let target := reg (fRs1 w) t
    checked [(!a.tag, 0x05, fCs1 w), (a.isSealed, 0x08, fCs1 w), (!a.has pEXEC, 0x07, fCs1 w)] 0
      (fun u => if target.extractLsb' 0 2 ≠ 0 then .trap 0x09 target none u else .goto target (coreUpd (fun c => { c with pcc := a }) u)) t) s
/-- AENTER (R293) (DEDUCED, log entry 37). -/
def execAenter (w : Word) (s : State) : Out :=
  instr (fun t =>
    let a := cs1 w t
    let b := cs2 w t
    checked [(!a.tag, 0x05, fCs1 w), (!b.tag, 0x05, fCs2 w), (!a.isSealed || a.otype % 2 == 1, 0x08, fCs1 w),
      (!b.isSealed || b.otype != a.otype + 1, 0x08, fCs2 w), (!a.has pEXEC, 0x07, fCs1 w), (b.has pEXEC, 0x07, fCs2 w)] 0
      (fun u => .goto (BitVec.ofNat 32 (a.base / 4 * 4)) (coreUpd (fun c => { c.setCap (fCd w) b.unsealed with pcc := a.unsealed }) u)) t) s
/-- ARDPCC. -/
def execArdpcc (w : Word) (s : State) : Out := instr (fun t => writeCap w t.trio.core.pcc t) s
/-- ARDSPC: a number outside 0 to 2 acts as a reserved encoding (R275). -/
def execArdspc (w : Word) (s : State) : Out :=
  instr (priv (fCSc w) w (fun t =>
    match (reg (fRs1 w) t).toNat with
    | 0 => writeCap w t.trio.core.pcc t
    | 1 => writeCap w t.trio.core.tepcc t
    | 2 => writeCap w t.trio.core.tvec t
    | _ => reserved w t)) s
/-- AWRSPC: a number other than 1 and 2 acts as a reserved encoding (R275). -/
def execAwrspc (w : Word) (s : State) : Out :=
  instr (priv (fCSc w) w (fun t =>
    match (reg (fRs1 w) t).toNat with
    | 1 => .done (coreUpd (fun c => { c with tepcc := cs1 w t }) t) id
    | 2 => .done (coreUpd (fun c => { c with tvec := cs1 w t }) t) id
    | _ => reserved w t)) s

/-! ## Meanings: illegal and reserved words, votes -/

/-- DEFINED_ILLEGAL (R276). -/
def execDefinedIllegal (w : Word) (s : State) : Out := instr (fun t => .trap 0x03 w none t) s

/-- RESERVED_ENCODING (R277, R278). -/
def execReservedEncoding (w : Word) (s : State) : Out := instr (reserved w) s

/-- MISMATCH: the comparison's request is performed where two cores agree, and a rollback starts (R313). `agree` has bit 0 for A = B, bit 1 for
A = C, bit 2 for B = C; three equal values are no mismatch. A core that has double-trapped alone reports its entry with it
(R305). In a halt only a checkpoint compares, with no request of the cores (R315). -/
def execMismatch (kind : Fin 5) (agree : BitVec 3) (x : Voted) (s : State) : Out :=
  .next (if s.trio.run && (trioSpeed s == 0 || (trioSpeed s == 3 && s.trio.ckpt)) && ([0, 1, 2, 4] : List (BitVec 3)).contains agree then
      let s0 := match x.trap with | some d => s.logReq 0x0A 0x0020 (bytesOfNat 15 d.toNat) | none => s
      let s1 := if agree = 0 ∨ trioSpeed s = 3 then s0 else performVoted x.perform s0
      if s1.trio.run && trioSpeed s1 == trioSpeed s then rollbackStart 0 kind.val agree.toNat s1 else s1
    else s)

end Sys2Proof.Machine
end

