-- ==== Sys2Proof/Machine/Tap.lean ====
section
/-!
DEFINITION. Machine/Tap.lean: the test access port, the boundary register, and the authenticated debug port (spec/21_balls_signals.md, R556 to
R558; spec/11_trio.md, R324; spec/12_memory_lifecycle.md, R331, R334, R350).
-/
namespace Sys2Proof.Machine

/-- The port's state replaced. -/
def tapUpd (f : Tap → Tap) (s : State) : State := { s with tap := f s.tap }

/-- A rail outside OFF or an enabled motor makes EXTEST, CLAMP and HIGHZ act as BYPASS (R558). -/
def tapBlocked (s : State) : Bool := rails.any (fun r => eState r s != eOFF) || (List.finRange 4).any (fun m => motorEn m s)

/-- The balls are taken from their functions: 1 they follow the boundary register (EXTEST, CLAMP), 2 they are released (HIGHZ), 0 they keep
their functions (R558). -/
def tapTakes (s : State) : Nat :=
  if tapBlocked s then 0 else if s.tap.instr = 0 ∨ s.tap.instr = 3 then 1 else if s.tap.instr = 4 then 2 else 0

/-- The first boundary cell, data, of ball PHp; its enable cell follows. Cells run over the ball map in row-major order (R543, R557). -/
def phCell (p : Fin 32) : Nat := if p.val < 16 then 2 * p else if p.val < 24 then 34 + 2 * (p - 16) else 54 + 2 * (p - 24)

/-- The first boundary cell of balls EN0 to EN3, EVO0 to EVO7 and SYNC_OUT (R543, R557). -/
def enCell (r : Fin 4) : Nat := match r with | 0 => 32 | 1 => 50 | 2 => 52 | _ => 70
def evoCell (i : Fin 8) : Nat := if i.val < 4 then 150 + 2 * i else 214 + 2 * (i - 4)
def syncOutCell : Nat := 147

/-- The first boundary cell of a motor's output, of USB_PWR2 and USB_PWR3, and of an electrode's ball (R543, R557). -/
def motCell (m : Fin 4) (x : Fin 3) (high : Bool) : Nat :=
  (match m with | 0 => 158 | 1 => 172 | 2 => 184 | _ => 198) + 4 * x + (if high then 0 else 2)
def usbPwrCell (p : Fin 2) : Nat := 132 + 3 * p
def ceCell (i : Fin 16) : Nat := 72 + 3 * i

/-- The outputs of banks VDDIO_A and VDDIO_B are high-impedance without bias while VDD_AO or the bank's supply is low (R522, R545). -/
def bankAOff (s : State) : Bool := s.pwr.low.ao || s.pwr.low.ioA
def bankBOff (s : State) : Bool := s.pwr.low.ao || s.pwr.low.ioB

/-- The level of ball PHp: enable 0 selects MID, enable 1 drives the data cell's value (R557, R558); none where its bank is off (R522). -/
def phBall (p : Fin 32) (s : State) : Option PhOut :=
  if bankBOff s then none else
  match tapTakes s with
  | 0 => some (s.phase[p]).out
  | 1 => some (if s.tap.boundary.getLsbD (phCell p + 1) then (if s.tap.boundary.getLsbD (phCell p) then .high else .low) else .mid)
  | _ => some .mid

/-- The level of a two-level output with its boundary cells at `cell`: none where it is released (R557, R558) or its bank is off (R522). -/
def outBall (off : Bool) (cell : Nat) (function : Bool) (s : State) : Option Bool :=
  if off then none else
  match tapTakes s with
  | 0 => some function
  | 1 => if s.tap.boundary.getLsbD (cell + 1) then some (s.tap.boundary.getLsbD cell) else none
  | _ => none

/-- Balls ENr, EVOi and SYNC_OUT (R549, R553). -/
def enBall (r : Fin 4) (s : State) : Option Bool := outBall (bankBOff s) (enCell r) (s.on (F.EDGEr_STAT_ENOUT r)) s
def evoBall (i : Fin 8) (s : State) : Option Bool := outBall (bankAOff s) (evoCell i) s.evm.evo[i].level s
def syncOutBall (s : State) : Option Bool := outBall (bankAOff s) syncOutCell s.sync.out s

/-- A motor's output balls, USB_PWR2 and USB_PWR3 (R464, R444, R551, R554). -/
def motBall (m : Fin 4) (x : Fin 3) (high : Bool) (s : State) : Option Bool := outBall (bankBOff s) (motCell m x high) (motPin m x high s) s
def usbPwrBall (p : Fin 2) (s : State) : Option Bool := outBall (bankBOff s) (usbPwrCell p) (s.usb.hubPower.getLsbD (2 + p)) s

/-- An electrode's ball: 0 released, 1 driven low, 2 under measurement, 3 driven high; the data and enable cells follow its input cell
(R492, R522, R557, R558). -/
def ceBall (i : Fin 16) (s : State) : Nat :=
  if bankBOff s then 0 else
  match tapTakes s with
  | 0 => ceDrive i s
  | 1 => if s.tap.boundary.getLsbD (ceCell i + 2) then (if s.tap.boundary.getLsbD (ceCell i + 1) then 3 else 1) else 0
  | _ => 0

/-- XSPI_RESETn: low while a device reset is held, high from step 2 of the start-up (R523, R555). -/
def xspiResetBall (s : State) : Option Bool :=
  outBall (bankAOff s) 212 (!s.clk.held && s.pwr.startAt.all (fun t => t + 20000 ≤ s.clk.ns)) s

/-- What the instruction register captures (R556). -/
def irCapture : BitVec 5 := 0b00001

/-- An instruction is shifted in (R556). -/
def tapLoad (code : BitVec 5) (s : State) : State := tapUpd (fun t => { t with instr := code, captured := irCapture }) s

/-- IDCODE: version, part, the manufacturer's identity, 1 (R556). -/
def idcode : Word := (0x1 : BitVec 4) ++ (0x9640 : BitVec 16) ++ Config.jedecId ++ (1 : BitVec 1)

/-- An instruction that selects the boundary register: it captures the balls and loads what is shifted in (R556, R557); EXTEST that acts as BYPASS
selects the bypass register, which captures 0. -/
def tapBoundary (code : BitVec 5) (data pins : BitVec 250) (s : State) : State :=
  let s1 := tapLoad code s
  if code = 0 ∧ tapBlocked s then tapUpd (fun t => { t with dr := 0 }) s1 else tapUpd (fun t => { t with boundary := data, dr := pins }) s1

/-- An instruction that selects the bypass register (R556). -/
def tapSelect (code : BitVec 5) (s : State) : State := tapUpd (fun t => { t with dr := 0 }) (tapLoad code s)

/-! ## The authenticated debug port -/

/-- The Trio is in debug halt (R324). -/
def halted (s : State) : Bool := trioSpeed s == 3

/-- A debug read or access ends with its data in `rdata` and the data register, or with an error response (R334). -/
def dbgData (w : BitVec 250) (s : State) : State := { tapUpd (fun t => { t with dr := w }) s with rdata := w.extractLsb' 0 32, busErr := false }

/-- A debug read of a word: every region; an uncorrectable word, or a bank or window that does not answer, gives an error response
(R331, R334). -/
def dbgRead (a : Nat) (s : State) : State :=
  if ownedSlot a then
    let t := busRead .debug a 0 s
    if t.busErr then t else tapUpd (fun x => { x with dr := t.rdata.zeroExtend 250 }) t
  else match regionOf a with
  | some .rom | some .xspi | none =>
    (match memRead 4 a s with
     | (t, .ok d) => dbgData ((wordOfBytes d).zeroExtend 250) t
     | (t, .err _ _) => busFail t)
  | _ =>
    if !bankServes a s then busFail s
    else
      let t := eccFix a 4 s
      match badIn a 4 t with
      | some w => busFail (eccUe w 5 t)
      | none => dbgData ((t.memWord a).zeroExtend 250) t

/-- A debug write: shared SRAM and the USB buffer at any time, ITCM and DTCM while the Trio is halted, nothing else; while it is halted the words are
logged for rollback, with a checkpoint where the log runs short (R314, R324, R331). -/
def dbgWrite (a : Nat) (l : List Byte) (s : State) : State :=
  if ownedSlot a then busWrite .debug a (wordOfBytes l) 0 s
  else
    let may := match regionOf a with
      | some .sram | some .usbBuf => true
      | some .itcm | some .dtcm => halted s
      | _ => false
    if !may then { s with busErr := false }
    else if !bankServes a s then busFail s
    else
      let s1 := if halted s then undoStore 5 a l.length s else s
      let s2 : State := { agentWrite 5 a l s1 with busErr := false }
      if halted s then highWater s2 else s2

/-- A challenge and response: under the credential of the state it opens the session; under the Penuthal credential in FIELD it sets RETAUTH
(R350, R351) (DEDUCED, log entry 26). -/
def dbgAuth (penuthal valid : Bool) (s : State) : State :=
  let st := s.get F.LCS_STAT_STATE
  if !valid then s
  else if penuthal then
    (if st = 2 then s.put F.LCS_STAT_RETAUTH 1 else if st = 3 then tapUpd (fun t => { t with session := true }) s else s)
  else if st = 1 ∨ st = 2 then tapUpd (fun t => { t with session := true }) s else s

/-- A core register access, of all three cores, while the Trio is halted (R324) (DEDUCED, log entry 26). -/
def dbgCore (f : Core → Core) (out : Option (Core → BitVec 250)) (s : State) : State :=
  if !halted s then busFail s
  else
    let s1 := match out with | some g => dbgData (g s.trio.core) s | none => { s with busErr := false }
    coreUpd f s1

/-- A capability as the data register shows it: the tag above its 128 bits. -/
def capBits (c : Cap) : BitVec 250 := c.bits.zeroExtend 250 ||| (if c.tag then 1 <<< 128 else 0)

/-- PCC, TEPCC and TVEC by number, read and written. -/
def spcOf (n : Fin 3) (c : Core) : Cap := match n with | 0 => c.pcc | 1 => c.tepcc | 2 => c.tvec
def spcSet (n : Fin 3) (v : Cap) (c : Core) : Core := match n with | 0 => { c with pcc := v } | 1 => { c with tepcc := v } | 2 => { c with tvec := v }

/-- What the debug port does once it is open (DEDUCED, log entry 26). -/
def dbgOp (op : DebugOp) (s : State) : State :=
  match op with
  | .authenticate p v => dbgAuth p v s
  | .memRead a => dbgRead (a.toNat / 4 * 4) s
  | .memWrite a l => dbgWrite a.toNat (l.take 4) s
  | .regRead k => dbgCore id (some (fun c => (c.reg k).zeroExtend 250)) s
  | .regWrite k v => dbgCore (fun c => c.setReg k v) none s
  | .srRead k => dbgCore id (some (fun c => (c.sr k.toNat).zeroExtend 250)) s
  | .srWrite k v => dbgCore (fun c => c.setSr k.toNat v) none s
  | .capRead n => dbgCore id (some (fun c => capBits (c.cap n))) s
  | .capWrite n t b => dbgCore (fun c => if (Cap.wf ⟨t, b⟩) then c.setCap n ⟨t, b⟩ else c) none s
  | .pcRead => dbgCore id (some (fun c => c.pc.zeroExtend 250)) s
  | .pcWrite v => dbgCore (fun c => { c with pc := v &&& ~~~3 }) none s
  | .spcRead n => dbgCore id (some (fun c => capBits (spcOf n c))) s
  | .spcWrite n t b => dbgCore (fun c => if (Cap.wf ⟨t, b⟩) then spcSet n ⟨t, b⟩ c else c) none s

/-- The authenticated debug port: authentication in every state but END, everything else once the port is open (R350). -/
def debugPort (op : DebugOp) (s : State) : State :=
  match op with
  | .authenticate p v => if 4 ≤ s.get F.LCS_STAT_STATE then s else dbgAuth p v s
  | _ => if debugOpen s then dbgOp op s else busFail s

/-! ## Meanings -/

/-- EXTEST (R556, R558). -/
def execExtest (data pins : BitVec 250) (s : State) : Out := .next (tapBoundary 0 data pins s)

/-- IDCODE (R556). -/
def execIdcode (s : State) : Out := .next (tapUpd (fun t => { t with dr := idcode.zeroExtend 250 }) (tapLoad 1 s))

/-- SAMPLE_PRELOAD (R556). -/
def execSamplePreload (data pins : BitVec 250) (s : State) : Out := .next (tapBoundary 2 data pins s)

/-- CLAMP (R558). -/
def execClamp (s : State) : Out := .next (tapSelect 3 s)

/-- HIGHZ (R558). -/
def execHighz (s : State) : Out := .next (tapSelect 4 s)

/-- BYPASS, and every unlisted code (R556). -/
def execBypass (code : BitVec 5) (s : State) : Out := .next (tapSelect code s)

/-- AUTHENTICATED_DEBUG_PORT: codes 0x10 to 0x1E (R350, R556). -/
def execAuthenticatedDebugPort (code : Fin 15) (op : DebugOp) (s : State) : Out :=
  .next (debugPort op (tapLoad (BitVec.ofNat 5 (16 + code)) s))

/-- TAP_RESET: TRST_N low or a test-logic reset (R556, R563). -/
def execTapReset (s : State) : Out := .next (tapUpd (fun t => { t with instr := 1, dr := 0 }) s)

/-- DEBUG_SESSION_END: the locks of sender 6 are released (R399). -/
def execDebugSessionEnd (s : State) : Out := .next (locksOf 6 (tapUpd (fun t => { t with session := false }) s))

end Sys2Proof.Machine
end

