-- ==== Sys2Proof/Machine/Dispatch.lean ====
section
/-!
DEFINITION. Machine/Dispatch.lean: one arm per command, each a direct call of that command's meaning.
-/
namespace Sys2Proof.Machine

def exec (i : Instr) (s : State) : Host.Outcome State Fault Refusal :=
  match i with
  | .xinWindowEnd count gap => Sys2Proof.Machine.execXinWindowEnd count gap s
  | .xinLoss since => Sys2Proof.Machine.execXinLoss since s
  | .xinFirstSelection => Sys2Proof.Machine.execXinFirstSelection s
  | .xinReturn => Sys2Proof.Machine.execXinReturn s
  | .turnBoundary d => Sys2Proof.Machine.execTurnBoundary d s
  | .freezeEnd r => Sys2Proof.Machine.execFreezeEnd r s
  | .syncPulse lead width => Sys2Proof.Machine.execSyncPulse lead width s
  | .syncPulseOverwidth => Sys2Proof.Machine.execSyncPulseOverwidth s
  | .ringOpen => Sys2Proof.Machine.execRingOpen s
  | .referenceMissing d => Sys2Proof.Machine.execReferenceMissing d s
  | .holdoverTimeout d => Sys2Proof.Machine.execHoldoverTimeout d s
  | .acuFire k => Sys2Proof.Machine.execAcuFire k s
  | .setpointDacLoad r => Sys2Proof.Machine.execSetpointDacLoad r s
  | .gloryWalkerStep r => Sys2Proof.Machine.execGloryWalkerStep r s
  | .gloryGlmaxRelease p => Sys2Proof.Machine.execGloryGlmaxRelease p s
  | .slewStep r => Sys2Proof.Machine.execSlewStep r s
  | .ffStale r => Sys2Proof.Machine.execFfStale r s
  | .vinResult code => Sys2Proof.Machine.execVinResult code s
  | .tmonResult r code => Sys2Proof.Machine.execTmonResult r code s
  | .ovPersistence r => Sys2Proof.Machine.execOvPersistence r s
  | .uvPersistence r => Sys2Proof.Machine.execUvPersistence r s
  | .uvBlankExpiry r => Sys2Proof.Machine.execUvBlankExpiry r s
  | .sfFilterExpiry r present => Sys2Proof.Machine.execSfFilterExpiry r present s
  | .tmonTimeout r => Sys2Proof.Machine.execTmonTimeout r s
  | .vinTimeout => Sys2Proof.Machine.execVinTimeout s
  | .stopLowHoldEnd r => Sys2Proof.Machine.execStopLowHoldEnd r s
  | .hiccupRestart r => Sys2Proof.Machine.execHiccupRestart r s
  | .hicokExpiry r => Sys2Proof.Machine.execHicokExpiry r s
  | .onEdgeCommit p => Sys2Proof.Machine.execOnEdgeCommit p s
  | .slotCrossing p => Sys2Proof.Machine.execSlotCrossing p s
  | .offEdge p => Sys2Proof.Machine.execOffEdge p s
  | .minOffTimeEnd p => Sys2Proof.Machine.execMinOffTimeEnd p s
  | .rotationStepStart b => Sys2Proof.Machine.execRotationStepStart b s
  | .shadowComplete b mean => Sys2Proof.Machine.execShadowComplete b mean s
  | .laneSwap b => Sys2Proof.Machine.execLaneSwap b s
  | .calibrationComplete b coefs => Sys2Proof.Machine.execCalibrationComplete b coefs s
  | .sequencerStampCrossing n => Sys2Proof.Machine.execSequencerStampCrossing n s
  | .sequencerEntryEnd n level => Sys2Proof.Machine.execSequencerEntryEnd n level s
  | .sequencerTimeout n => Sys2Proof.Machine.execSequencerTimeout n s
  | .linkTimeout ln => Sys2Proof.Machine.execLinkTimeout ln s
  | .forecast ln seq r delta lead ramp conf => Sys2Proof.Machine.execForecast ln seq r delta lead ramp conf s
  | .vset ln seq r v => Sys2Proof.Machine.execVset ln seq r v s
  | .unknownMessage ln seq => Sys2Proof.Machine.execUnknownMessage ln seq s
  | .gapTimeout => Sys2Proof.Machine.execGapTimeout s
  | .txSlot => Sys2Proof.Machine.execTxSlot s
  | .telem r => Sys2Proof.Machine.execTelem r s
  | .prerampStart r => Sys2Proof.Machine.execPrerampStart r s
  | .rampComplete r => Sys2Proof.Machine.execRampComplete r s
  | .handoff r => Sys2Proof.Machine.execHandoff r s
  | .unwind r => Sys2Proof.Machine.execUnwind r s
  | .unwindComplete r => Sys2Proof.Machine.execUnwindComplete r s
  | .cuCountStep n => Sys2Proof.Machine.execCuCountStep n s
  | .linkAction n action => Sys2Proof.Machine.execLinkAction n action s
  | .eventDelivery => Sys2Proof.Machine.execEventDelivery s
  | .evoPulseEnd n => Sys2Proof.Machine.execEvoPulseEnd n s
  | .add w => Sys2Proof.Machine.execAdd w s
  | .sub w => Sys2Proof.Machine.execSub w s
  | .and_ w => Sys2Proof.Machine.execAnd w s
  | .or_ w => Sys2Proof.Machine.execOr w s
  | .xor w => Sys2Proof.Machine.execXor w s
  | .sll w => Sys2Proof.Machine.execSll w s
  | .srl w => Sys2Proof.Machine.execSrl w s
  | .sra w => Sys2Proof.Machine.execSra w s
  | .slt w => Sys2Proof.Machine.execSlt w s
  | .sltu w => Sys2Proof.Machine.execSltu w s
  | .min w => Sys2Proof.Machine.execMin w s
  | .max w => Sys2Proof.Machine.execMax w s
  | .minu w => Sys2Proof.Machine.execMinu w s
  | .maxu w => Sys2Proof.Machine.execMaxu w s
  | .slli w => Sys2Proof.Machine.execSlli w s
  | .srli w => Sys2Proof.Machine.execSrli w s
  | .srai w => Sys2Proof.Machine.execSrai w s
  | .sati w => Sys2Proof.Machine.execSati w s
  | .mul w => Sys2Proof.Machine.execMul w s
  | .mulh w => Sys2Proof.Machine.execMulh w s
  | .mulhu w => Sys2Proof.Machine.execMulhu w s
  | .madd w => Sys2Proof.Machine.execMadd w s
  | .msub w => Sys2Proof.Machine.execMsub w s
  | .div w => Sys2Proof.Machine.execDiv w s
  | .divu w => Sys2Proof.Machine.execDivu w s
  | .rem w => Sys2Proof.Machine.execRem w s
  | .remu w => Sys2Proof.Machine.execRemu w s
  | .addi w => Sys2Proof.Machine.execAddi w s
  | .andi w => Sys2Proof.Machine.execAndi w s
  | .ori w => Sys2Proof.Machine.execOri w s
  | .xori w => Sys2Proof.Machine.execXori w s
  | .slti w => Sys2Proof.Machine.execSlti w s
  | .sltiu w => Sys2Proof.Machine.execSltiu w s
  | .lui w => Sys2Proof.Machine.execLui w s
  | .ldw w => Sys2Proof.Machine.execLdw w s
  | .ldh w => Sys2Proof.Machine.execLdh w s
  | .ldhu w => Sys2Proof.Machine.execLdhu w s
  | .ldb w => Sys2Proof.Machine.execLdb w s
  | .ldbu w => Sys2Proof.Machine.execLdbu w s
  | .stw w => Sys2Proof.Machine.execStw w s
  | .sth w => Sys2Proof.Machine.execSth w s
  | .stb w => Sys2Proof.Machine.execStb w s
  | .ldc w => Sys2Proof.Machine.execLdc w s
  | .stc w => Sys2Proof.Machine.execStc w s
  | .beq w => Sys2Proof.Machine.execBeq w s
  | .bne w => Sys2Proof.Machine.execBne w s
  | .blt w => Sys2Proof.Machine.execBlt w s
  | .bge w => Sys2Proof.Machine.execBge w s
  | .bltu w => Sys2Proof.Machine.execBltu w s
  | .bgeu w => Sys2Proof.Machine.execBgeu w s
  | .j w => Sys2Proof.Machine.execJ w s
  | .call w => Sys2Proof.Machine.execCall w s
  | .jmpl w => Sys2Proof.Machine.execJmpl w s
  | .wopen w => Sys2Proof.Machine.execWopen w s
  | .wclose w => Sys2Proof.Machine.execWclose w s
  | .loop w => Sys2Proof.Machine.execLoop w s
  | .loopi w => Sys2Proof.Machine.execLoopi w s
  | .rdsr w => Sys2Proof.Machine.execRdsr w s
  | .wrsr w => Sys2Proof.Machine.execWrsr w s
  | .trap w => Sys2Proof.Machine.execTrap w s
  | .bkpt w => Sys2Proof.Machine.execBkpt w s
  | .tret w => Sys2Proof.Machine.execTret w s
  | .wfi w => Sys2Proof.Machine.execWfi w s
  | .ckpt w => Sys2Proof.Machine.execCkpt w s
  | .wspill w => Sys2Proof.Machine.execWspill w s
  | .wfill w => Sys2Proof.Machine.execWfill w s
  | .acpy w => Sys2Proof.Machine.execAcpy w s
  | .ardbase w => Sys2Proof.Machine.execArdbase w s
  | .ardlen w => Sys2Proof.Machine.execArdlen w s
  | .ardperm w => Sys2Proof.Machine.execArdperm w s
  | .ardtype w => Sys2Proof.Machine.execArdtype w s
  | .ardtag w => Sys2Proof.Machine.execArdtag w s
  | .atrimlo w => Sys2Proof.Machine.execAtrimlo w s
  | .atrimlen w => Sys2Proof.Machine.execAtrimlen w s
  | .amask w => Sys2Proof.Machine.execAmask w s
  | .avoid w => Sys2Proof.Machine.execAvoid w s
  | .alock w => Sys2Proof.Machine.execAlock w s
  | .aunlock w => Sys2Proof.Machine.execAunlock w s
  | .awithin w => Sys2Proof.Machine.execAwithin w s
  | .ajump w => Sys2Proof.Machine.execAjump w s
  | .aenter w => Sys2Proof.Machine.execAenter w s
  | .ardpcc w => Sys2Proof.Machine.execArdpcc w s
  | .ardspc w => Sys2Proof.Machine.execArdspc w s
  | .awrspc w => Sys2Proof.Machine.execAwrspc w s
  | .definedIllegal w => Sys2Proof.Machine.execDefinedIllegal w s
  | .reservedEncoding w => Sys2Proof.Machine.execReservedEncoding w s
  | .interrupt => Sys2Proof.Machine.execInterrupt s
  | .rollbackComplete => Sys2Proof.Machine.execRollbackComplete s
  | .trioRelease => Sys2Proof.Machine.execTrioRelease s
  | .periodicCheckpoint => Sys2Proof.Machine.execPeriodicCheckpoint s
  | .highWaterCheckpoint => Sys2Proof.Machine.execHighWaterCheckpoint s
  | .checkpointComplete => Sys2Proof.Machine.execCheckpointComplete s
  | .wake => Sys2Proof.Machine.execWake s
  | .watchdogExpiry => Sys2Proof.Machine.execWatchdogExpiry s
  | .scrubRead bank result => Sys2Proof.Machine.execScrubRead bank result s
  | .bankWipeComplete pd => Sys2Proof.Machine.execBankWipeComplete pd s
  | .xspiCommandComplete data => Sys2Proof.Machine.execXspiCommandComplete data s
  | .flashTimeout off who => Sys2Proof.Machine.execFlashTimeout off who s
  | .secureBoot => Sys2Proof.Machine.execSecureBoot s
  | .signatureCheckComplete => Sys2Proof.Machine.execSignatureCheckComplete s
  | .verifyComplete => Sys2Proof.Machine.execVerifyComplete s
  | .otpProgramComplete got => Sys2Proof.Machine.execOtpProgramComplete got s
  | .wipeRegionComplete region ue => Sys2Proof.Machine.execWipeRegionComplete region ue s
  | .doorbellPoll n crossing => Sys2Proof.Machine.execDoorbellPoll n crossing s
  | .doorbellPollComplete n pi => Sys2Proof.Machine.execDoorbellPollComplete n pi s
  | .descriptorFetch => Sys2Proof.Machine.execDescriptorFetch s
  | .consumerWordRead ring ci => Sys2Proof.Machine.execConsumerWordRead ring ci s
  | .telemetryRecord crossing => Sys2Proof.Machine.execTelemetryRecord crossing s
  | .ringtestPointComplete => Sys2Proof.Machine.execRingtestPointComplete s
  | .statusWordWrite k => Sys2Proof.Machine.execStatusWordWrite k s
  | .lockTimeout k => Sys2Proof.Machine.execLockTimeout k s
  | .controllerStretchTimeout n => Sys2Proof.Machine.execControllerStretchTimeout n s
  | .selfReset n => Sys2Proof.Machine.execSelfReset n s
  | .inbandRequest n collision => Sys2Proof.Machine.execInbandRequest n collision s
  | .hostNotify n accepted => Sys2Proof.Machine.execHostNotify n accepted s
  | .avsCommitArrival n => Sys2Proof.Machine.execAvsCommitArrival n s
  | .avsFrameTimeout n => Sys2Proof.Machine.execAvsFrameTimeout n s
  | .suspend => Sys2Proof.Machine.execSuspend s
  | .resumeEnd => Sys2Proof.Machine.execResumeEnd s
  | .overcurrent port => Sys2Proof.Machine.execOvercurrent port s
  | .reconnectRestore => Sys2Proof.Machine.execReconnectRestore s
  | .info seq len => Sys2Proof.Machine.execInfo seq len s
  | .devtime seq len => Sys2Proof.Machine.execDevtime seq len s
  | .mbxLock seq arg len => Sys2Proof.Machine.execMbxLock seq arg len s
  | .mbxRelease seq arg len => Sys2Proof.Machine.execMbxRelease seq arg len s
  | .mbxWrite seq arg len payload => Sys2Proof.Machine.execMbxWrite seq arg len payload s
  | .mbxRead seq arg len => Sys2Proof.Machine.execMbxRead seq arg len s
  | .mbxSend seq arg len => Sys2Proof.Machine.execMbxSend seq arg len s
  | .mbxTake seq arg len => Sys2Proof.Machine.execMbxTake seq arg len s
  | .recovWrite seq arg len payload => Sys2Proof.Machine.execRecovWrite seq arg len payload s
  | .recovBoot seq len => Sys2Proof.Machine.execRecovBoot seq len s
  | .recoveryLoad => Sys2Proof.Machine.execRecoveryLoad s
  | .unknownServiceOp op seq => Sys2Proof.Machine.execUnknownServiceOp op seq s
  | .serviceFrameTimeout => Sys2Proof.Machine.execServiceFrameTimeout s
  | .pwmPeriodStart m => Sys2Proof.Machine.execPwmPeriodStart m s
  | .currentSampleRequest m => Sys2Proof.Machine.execCurrentSampleRequest m s
  | .alignmentDone m => Sys2Proof.Machine.execAlignmentDone m s
  | .driverFault m low => Sys2Proof.Machine.execDriverFault m low s
  | .stall m => Sys2Proof.Machine.execStall m s
  | .wireDisagreement f pair same => Sys2Proof.Machine.execWireDisagreement f pair same s
  | .fbUpdate f => Sys2Proof.Machine.execFbUpdate f s
  | .scanStart => Sys2Proof.Machine.execScanStart s
  | .measurementTimeout => Sys2Proof.Machine.execMeasurementTimeout s
  | .learnEnd => Sys2Proof.Machine.execLearnEnd s
  | .powerRequest req0 req1 => Sys2Proof.Machine.execPowerRequest req0 req1 s
  | .domainSwitch => Sys2Proof.Machine.execDomainSwitch s
  | .domainReady pd => Sys2Proof.Machine.execDomainReady pd s
  | .devreset ticket arg => Sys2Proof.Machine.execDevreset ticket arg s
  | .startup => Sys2Proof.Machine.execStartup s
  | .culletWipeComplete => Sys2Proof.Machine.execCulletWipeComplete s
  | .logEntryWrite => Sys2Proof.Machine.execLogEntryWrite s
  | .logCopy ue => Sys2Proof.Machine.execLogCopy ue s
  | .minOnTimeEnd p => Sys2Proof.Machine.execMinOnTimeEnd p s
  | .syncInEdge x => Sys2Proof.Machine.execSyncInEdge x s
  | .dischargeCheck high => Sys2Proof.Machine.execDischargeCheck high s
  | .registerWrite agent addr value => Sys2Proof.Machine.execRegisterWrite agent addr value s
  | .readClear agent addr event => Sys2Proof.Machine.execReadClear agent addr event s
  | .w1cWrite agent addr value event => Sys2Proof.Machine.execW1cWrite agent addr value event s
  | .expertSet agent addr value => Sys2Proof.Machine.execExpertSet agent addr value s
  | .expertClear agent addr value => Sys2Proof.Machine.execExpertClear agent addr value s
  | .unlistedAction agent addr ticket arg action => Sys2Proof.Machine.execUnlistedAction agent addr ticket arg action s
  | .clkactReturn ticket arg => Sys2Proof.Machine.execClkactReturn ticket arg s
  | .reacquire ticket arg => Sys2Proof.Machine.execReacquire ticket arg s
  | .domainEnable d value => Sys2Proof.Machine.execDomainEnable d value s
  | .domainDisable d value => Sys2Proof.Machine.execDomainDisable d value s
  | .srcChange d value => Sys2Proof.Machine.execSrcChange d value s
  | .freqWrite d value => Sys2Proof.Machine.execFreqWrite d value s
  | .ratehWrite d value => Sys2Proof.Machine.execRatehWrite d value s
  | .railmapWrite value => Sys2Proof.Machine.execRailmapWrite value s
  | .roleChange value => Sys2Proof.Machine.execRoleChange value s
  | .acuArm k stamp ctl => Sys2Proof.Machine.execAcuArm k stamp ctl s
  | .mergedSample r x => Sys2Proof.Machine.execMergedSample r x s
  | .vSaturation r positive => Sys2Proof.Machine.execVSaturation r positive s
  | .iSample p x => Sys2Proof.Machine.execISample p x s
  | .imonOpen p => Sys2Proof.Machine.execImonOpen p s
  | .motorInputFault ch => Sys2Proof.Machine.execMotorInputFault ch s
  | .undershootAssert x => Sys2Proof.Machine.execUndershootAssert x s
  | .undershootRelease x => Sys2Proof.Machine.execUndershootRelease x s
  | .overshootAssert x => Sys2Proof.Machine.execOvershootAssert x s
  | .overshootRelease x => Sys2Proof.Machine.execOvershootRelease x s
  | .vshostWrite r value => Sys2Proof.Machine.execVshostWrite r value s
  | .vspmbWrite r value => Sys2Proof.Machine.execVspmbWrite r value s
  | .updHoldClear r value => Sys2Proof.Machine.execUpdHoldClear r value s
  | .compensatorClear ticket arg => Sys2Proof.Machine.execCompensatorClear ticket arg s
  | .balanceClear ticket arg => Sys2Proof.Machine.execBalanceClear ticket arg s
  | .protClear ticket arg => Sys2Proof.Machine.execProtClear ticket arg s
  | .abort ticket arg => Sys2Proof.Machine.execAbort ticket arg s
  | .restoreph ticket arg => Sys2Proof.Machine.execRestoreph ticket arg s
  | .edgeEnable r value => Sys2Proof.Machine.execEdgeEnable r value s
  | .edgeDisable r value => Sys2Proof.Machine.execEdgeDisable r value s
  | .freeze r ticket => Sys2Proof.Machine.execFreeze r ticket s
  | .unfreeze ticket arg => Sys2Proof.Machine.execUnfreeze ticket arg s
  | .inert r ticket => Sys2Proof.Machine.execInert r ticket s
  | .release ticket arg => Sys2Proof.Machine.execRelease ticket arg s
  | .rotate ticket arg => Sys2Proof.Machine.execRotate ticket arg s
  | .fullcal via => Sys2Proof.Machine.execFullcal via s
  | .calslice ticket arg => Sys2Proof.Machine.execCalslice ticket arg s
  | .retire ticket arg => Sys2Proof.Machine.execRetire ticket arg s
  | .restore ticket arg => Sys2Proof.Machine.execRestore ticket arg s
  | .start ticket arg => Sys2Proof.Machine.execStart ticket arg s
  | .sequencerDisable n value => Sys2Proof.Machine.execSequencerDisable n value s
  | .idle ln block => Sys2Proof.Machine.execIdle ln block s
  | .frame ln header b0 b1 b4 sub => Sys2Proof.Machine.execFrame ln header b0 b1 b4 sub s
  | .msg ln block => Sys2Proof.Machine.execMsg ln block s
  | .dataBlock ln header lo hi => Sys2Proof.Machine.execDataBlock ln header lo hi s
  | .clockRecovered ln => Sys2Proof.Machine.execClockRecovered ln s
  | .clockRecoveryUnlock ln => Sys2Proof.Machine.execClockRecoveryUnlock ln s
  | .aprEnable value => Sys2Proof.Machine.execAprEnable value s
  | .retrain ticket arg => Sys2Proof.Machine.execRetrain ticket arg s
  | .seqreset ticket arg => Sys2Proof.Machine.execSeqreset ticket arg s
  | .cuStart ticket arg => Sys2Proof.Machine.execCuStart ticket arg s
  | .cuReset ticket arg => Sys2Proof.Machine.execCuReset ticket arg s
  | .startReset ticket arg => Sys2Proof.Machine.execStartReset ticket arg s
  | .capture ticket arg => Sys2Proof.Machine.execCapture ticket arg s
  | .periodWrite n value => Sys2Proof.Machine.execPeriodWrite n value s
  | .captureRead n => Sys2Proof.Machine.execCaptureRead n s
  | .sinkEnableWrite c j value => Sys2Proof.Machine.execSinkEnableWrite c j value s
  | .modeWrite c value => Sys2Proof.Machine.execModeWrite c value s
  | .swtrig ticket arg => Sys2Proof.Machine.execSwtrig ticket arg s
  | .mismatch kind agree x => Sys2Proof.Machine.execMismatch kind agree x s
  | .debugHalt => Sys2Proof.Machine.execDebugHalt s
  | .debugResume => Sys2Proof.Machine.execDebugResume s
  | .trioResetAction ticket arg => Sys2Proof.Machine.execTrioResetAction ticket arg s
  | .kick ticket arg => Sys2Proof.Machine.execKick ticket arg s
  | .irqPendClear j value event => Sys2Proof.Machine.execIrqPendClear j value event s
  | .exec ticket arg => Sys2Proof.Machine.execExec ticket arg s
  | .verify via => Sys2Proof.Machine.execVerify via s
  | .program ticket arg => Sys2Proof.Machine.execProgram ticket arg s
  | .transition ticket arg => Sys2Proof.Machine.execTransition ticket arg s
  | .arver ticket arg => Sys2Proof.Machine.execArver ticket arg s
  | .revoke ticket arg => Sys2Proof.Machine.execRevoke ticket arg s
  | .wipe via => Sys2Proof.Machine.execWipe via s
  | .pcieFunctionReset kind => Sys2Proof.Machine.execPcieFunctionReset kind s
  | .ringEnable agent ring value => Sys2Proof.Machine.execRingEnable agent ring value s
  | .ringDisable agent ring value => Sys2Proof.Machine.execRingDisable agent ring value s
  | .descriptorArrival slot desc buf => Sys2Proof.Machine.execDescriptorArrival slot desc buf s
  | .hifTake agent => Sys2Proof.Machine.execHifTake agent s
  | .post ticket arg => Sys2Proof.Machine.execPost ticket arg s
  | .status slot => Sys2Proof.Machine.execStatus slot s
  | .paramRead slot => Sys2Proof.Machine.execParamRead slot s
  | .paramWrite slot => Sys2Proof.Machine.execParamWrite slot s
  | .hostVset slot => Sys2Proof.Machine.execHostVset slot s
  | .railEnable slot => Sys2Proof.Machine.execRailEnable slot s
  | .railClear slot => Sys2Proof.Machine.execRailClear slot s
  | .motorSpeed slot => Sys2Proof.Machine.execMotorSpeed slot s
  | .telemPeriod slot => Sys2Proof.Machine.execTelemPeriod slot s
  | .ringtest slot => Sys2Proof.Machine.execRingtest slot s
  | .longopAbort slot => Sys2Proof.Machine.execLongopAbort slot s
  | .lockRead readers k => Sys2Proof.Machine.execLockRead readers k s
  | .lockRelease agent k value => Sys2Proof.Machine.execLockRelease agent k value s
  | .break ticket arg => Sys2Proof.Machine.execBreak ticket arg s
  | .mailboxDataWrite agent k j value => Sys2Proof.Machine.execMailboxDataWrite agent k j value s
  | .mailboxSend agent k ticket arg => Sys2Proof.Machine.execMailboxSend agent k ticket arg s
  | .mailboxTake agent k => Sys2Proof.Machine.execMailboxTake agent k s
  | .page n x => Sys2Proof.Machine.execPage n x s
  | .operation n x => Sys2Proof.Machine.execOperation n x s
  | .clearFaults n x => Sys2Proof.Machine.execClearFaults n x s
  | .capability n x => Sys2Proof.Machine.execCapability n x s
  | .voutMode n x => Sys2Proof.Machine.execVoutMode n x s
  | .voutCommand n x => Sys2Proof.Machine.execVoutCommand n x s
  | .voutMax n x => Sys2Proof.Machine.execVoutMax n x s
  | .voutMin n x => Sys2Proof.Machine.execVoutMin n x s
  | .coefficients n x => Sys2Proof.Machine.execCoefficients n x s
  | .statusByte n x => Sys2Proof.Machine.execStatusByte n x s
  | .statusWord n x => Sys2Proof.Machine.execStatusWord n x s
  | .statusVout n x => Sys2Proof.Machine.execStatusVout n x s
  | .statusIout n x => Sys2Proof.Machine.execStatusIout n x s
  | .statusInput n x => Sys2Proof.Machine.execStatusInput n x s
  | .statusTemperature n x => Sys2Proof.Machine.execStatusTemperature n x s
  | .statusCml n x => Sys2Proof.Machine.execStatusCml n x s
  | .statusMfrSpecific n x => Sys2Proof.Machine.execStatusMfrSpecific n x s
  | .readVin n x => Sys2Proof.Machine.execReadVin n x s
  | .readVout n x => Sys2Proof.Machine.execReadVout n x s
  | .readIout n x => Sys2Proof.Machine.execReadIout n x s
  | .readTemperature1 n x => Sys2Proof.Machine.execReadTemperature1 n x s
  | .readTemperature2 n x => Sys2Proof.Machine.execReadTemperature2 n x s
  | .pmbusRevision n x => Sys2Proof.Machine.execPmbusRevision n x s
  | .mfrId n x => Sys2Proof.Machine.execMfrId n x s
  | .mfrModel n x => Sys2Proof.Machine.execMfrModel n x s
  | .mfrRevision n x => Sys2Proof.Machine.execMfrRevision n x s
  | .mfrMbxSel n x => Sys2Proof.Machine.execMfrMbxSel n x s
  | .mfrMbxLock n x => Sys2Proof.Machine.execMfrMbxLock n x s
  | .mfrMbxData n x => Sys2Proof.Machine.execMfrMbxData n x s
  | .mfrMbxSend n x => Sys2Proof.Machine.execMfrMbxSend n x s
  | .mfrMbxTake n x => Sys2Proof.Machine.execMfrMbxTake n x s
  | .mfrAttn n x => Sys2Proof.Machine.execMfrAttn n x s
  | .mfrDevtime n x => Sys2Proof.Machine.execMfrDevtime n x s
  | .mfrClear n x => Sys2Proof.Machine.execMfrClear n x s
  | .responseTableRead n cmd => Sys2Proof.Machine.execResponseTableRead n cmd s
  | .unsupportedCommand n cmd => Sys2Proof.Machine.execUnsupportedCommand n cmd s
  | .queuePop agent n => Sys2Proof.Machine.execQueuePop agent n s
  | .pointerWrite n data => Sys2Proof.Machine.execPointerWrite n data s
  | .pointerRead n len => Sys2Proof.Machine.execPointerRead n len s
  | .personalityChange n => Sys2Proof.Machine.execPersonalityChange n s
  | .controllerExec ticket arg => Sys2Proof.Machine.execControllerExec ticket arg s
  | .controllerTransferEnd n outcome rx => Sys2Proof.Machine.execControllerTransferEnd n outcome rx s
  | .twReset ticket arg => Sys2Proof.Machine.execTwReset ticket arg s
  | .request ticket arg => Sys2Proof.Machine.execRequest ticket arg s
  | .hostNotifyReceived n inband addr data => Sys2Proof.Machine.execHostNotifyReceived n inband addr data s
  | .avsVoltageWrite n bits sel commit mv => Sys2Proof.Machine.execAvsVoltageWrite n bits sel commit mv s
  | .avsVoltageRead n bits sel => Sys2Proof.Machine.execAvsVoltageRead n bits sel s
  | .avsTransitionRateRead n bits sel => Sys2Proof.Machine.execAvsTransitionRateRead n bits sel s
  | .avsCurrentRead n bits sel => Sys2Proof.Machine.execAvsCurrentRead n bits sel s
  | .avsTemperatureRead n bits sel => Sys2Proof.Machine.execAvsTemperatureRead n bits sel s
  | .avsResetVoltageWrite n bits sel mv => Sys2Proof.Machine.execAvsResetVoltageWrite n bits sel mv s
  | .avsStatusRead n bits sel => Sys2Proof.Machine.execAvsStatusRead n bits sel s
  | .avsStatusWrite n bits sel clear => Sys2Proof.Machine.execAvsStatusWrite n bits sel clear s
  | .usbAttach => Sys2Proof.Machine.execUsbAttach s
  | .usbDetach => Sys2Proof.Machine.execUsbDetach s
  | .busReset hs => Sys2Proof.Machine.execBusReset hs s
  | .resume => Sys2Proof.Machine.execResume s
  | .setAddress hub addr => Sys2Proof.Machine.execSetAddress hub addr s
  | .setConfiguration hub value => Sys2Proof.Machine.execSetConfiguration hub value s
  | .getStatus hub recipient index => Sys2Proof.Machine.execGetStatus hub recipient index s
  | .clearFeature hub recipient feature index => Sys2Proof.Machine.execClearFeature hub recipient feature index s
  | .setFeature hub recipient feature index => Sys2Proof.Machine.execSetFeature hub recipient feature index s
  | .getDescriptor hub kind index len => Sys2Proof.Machine.execGetDescriptor hub kind index len s
  | .getConfiguration hub => Sys2Proof.Machine.execGetConfiguration hub s
  | .getInterface hub => Sys2Proof.Machine.execGetInterface hub s
  | .setInterface hub alt => Sys2Proof.Machine.execSetInterface hub alt s
  | .unsupportedRequest => Sys2Proof.Machine.execUnsupportedRequest s
  | .hubClassRequest reqType req value index len => Sys2Proof.Machine.execHubClassRequest reqType req value index len s
  | .outToken k => Sys2Proof.Machine.execOutToken k s
  | .outData k tog crc data => Sys2Proof.Machine.execOutData k tog crc data s
  | .ping k => Sys2Proof.Machine.execPing k s
  | .inToken k => Sys2Proof.Machine.execInToken k s
  | .inAck k => Sys2Proof.Machine.execInAck k s
  | .sof frame uf => Sys2Proof.Machine.execSof frame uf s
  | .gobAlloc agent j => Sys2Proof.Machine.execGobAlloc agent j s
  | .gobRelease agent j gob => Sys2Proof.Machine.execGobRelease agent j gob s
  | .inPush agent k len gob => Sys2Proof.Machine.execInPush agent k len gob s
  | .outTake agent k => Sys2Proof.Machine.execOutTake agent k s
  | .regionConfig j value => Sys2Proof.Machine.execRegionConfig j value s
  | .reconnect ticket arg => Sys2Proof.Machine.execReconnect ticket arg s
  | .motorEnable m value => Sys2Proof.Machine.execMotorEnable m value s
  | .motorDisable m value => Sys2Proof.Machine.execMotorDisable m value s
  | .motorInert m ticket => Sys2Proof.Machine.execMotorInert m ticket s
  | .motorRelease ticket arg => Sys2Proof.Machine.execMotorRelease ticket arg s
  | .motorClear ticket arg => Sys2Proof.Machine.execMotorClear ticket arg s
  | .currentPairComplete m a b => Sys2Proof.Machine.execCurrentPairComplete m a b s
  | .quadSample f a b => Sys2Proof.Machine.execQuadSample f a b s
  | .sincosSample f sine cosine => Sys2Proof.Machine.execSincosSample f sine cosine s
  | .indexEdge x => Sys2Proof.Machine.execIndexEdge x s
  | .setpos ticket arg => Sys2Proof.Machine.execSetpos ticket arg s
  | .measurementEnd count => Sys2Proof.Machine.execMeasurementEnd count s
  | .scan ticket arg => Sys2Proof.Machine.execScan ticket arg s
  | .caplearn via => Sys2Proof.Machine.execCaplearn via s
  | .recal ticket arg => Sys2Proof.Machine.execRecal ticket arg s
  | .capAbort ticket arg => Sys2Proof.Machine.execCapAbort ticket arg s
  | .blockreset ticket arg => Sys2Proof.Machine.execBlockreset ticket arg s
  | .powerOnReset low => Sys2Proof.Machine.execPowerOnReset low s
  | .resetPin => Sys2Proof.Machine.execResetPin s
  | .phySupplyDrop => Sys2Proof.Machine.execPhySupplyDrop s
  | .snap ticket arg => Sys2Proof.Machine.execSnap ticket arg s
  | .fwentry ticket arg => Sys2Proof.Machine.execFwentry ticket arg s
  | .extest data pins => Sys2Proof.Machine.execExtest data pins s
  | .idcode => Sys2Proof.Machine.execIdcode s
  | .samplePreload data pins => Sys2Proof.Machine.execSamplePreload data pins s
  | .clamp => Sys2Proof.Machine.execClamp s
  | .highz => Sys2Proof.Machine.execHighz s
  | .bypass code => Sys2Proof.Machine.execBypass code s
  | .authenticatedDebugPort code op => Sys2Proof.Machine.execAuthenticatedDebugPort code op s
  | .tapReset => Sys2Proof.Machine.execTapReset s
  | .phySupplyReturn => Sys2Proof.Machine.execPhySupplyReturn s
  | .pcieLinkUp speed width => Sys2Proof.Machine.execPcieLinkUp speed width s
  | .debugSessionEnd => Sys2Proof.Machine.execDebugSessionEnd s
  | .downstreamRemoteWakeup port => Sys2Proof.Machine.execDownstreamRemoteWakeup port s

end Sys2Proof.Machine
end

