-- ==== Sys2Proof/Machine/Tick.lean ====
section
/-!
DEFINITION. Machine/Tick.lean: what the device does of its own accord while no command waits: time and the angle domains advance by one
loop-clock cycle of 1 ns, and the events that fall in a cycle join the queue as commands (log entry 1). A cycle is worked off in stages:
0 its start, 1 the crossings of slots and stamps, 2 the end of an AO cycle, 3 the advance to the next cycle. Events that fall due by a timer
come before each stage.
-/
namespace Sys2Proof.Machine

/-- Commands that the device itself brings about join the queue. -/
def State.enqueue (s : State) (l : List Instr) : State := { s with pending := s.pending ++ l }

/-- The next stage of the cycle. -/
def toStage (n : Nat) (s : State) : State := { s with clk := { s.clk with stage := n } }

/-- The unit that a scheduled event belongs to, where a block has several that ask for one resource. -/
def unitOf (c : Instr) : Nat :=
  match c with
  | .currentSampleRequest m | .pwmPeriodStart m | .alignmentDone m => m.val
  | .sequencerTimeout n | .sequencerStampCrossing n => n.val
  | .doorbellPoll n _ => n.val
  | .slewStep r | .handoff r | .hiccupRestart r | .tmonTimeout r | .telem r => r.val
  | .rotationStepStart b => b.val
  | .fbUpdate f => f.val
  | .controllerStretchTimeout n | .inbandRequest n _ | .hostNotify n _ | .avsFrameTimeout n | .avsCommitArrival n => n.val
  | _ => 0

/-- An event put among those of its time: before the events of the same kind that belong to a higher unit (R24). -/
def placeDue : List (Nat × Instr) → Nat × Instr → List (Nat × Instr)
  | [], x => [x]
  | y :: l, x => if y.1 = x.1 ∧ y.2.ctorIdx = x.2.ctorIdx ∧ unitOf x.2 < unitOf y.2 then x :: y :: l else y :: placeDue l x

/-- The stage of its cycle from which a scheduled event may be delivered: requests to the VSET arbiter and slew steps come after the loads of a turn
boundary, the end of HOLD after Parison's guard (R109, R110, R215). -/
def dueStage (c : Instr) : Nat :=
  match c with
  | .avsCommitArrival _ | .vset _ _ _ _ | .slewStep _ => 1
  | .handoff _ => 2
  | _ => 0

/-- A message of lane 1 waits for a VSET of lane 0 that has the same acceptance cycle (R202). -/
def behindVset (c : Instr) (s : State) : Bool :=
  let lane0 := s.timers.any (fun t => decide (t.1 ≤ s.clk.ns) && match t.2 with | .vset ln _ _ _ => ln == 0 | _ => false)
  match c with
  | .forecast ln _ _ _ _ _ _ | .unknownMessage ln _ => ln == 1 && lane0
  | _ => false

/-- A current pair of the higher motor of a lane waits for the period start of the lower one in the same cycle, which may ask for a pair too (R24, R468). -/
def behindPair (c : Instr) (s : State) : Bool :=
  match c with
  | .currentSampleRequest m =>
    m.val % 2 == 1 && s.timers.any (fun t => decide (t.1 ≤ s.clk.ns) && match t.2 with | .pwmPeriodStart k => k.val + 1 == m.val | _ => false)
  | _ => false

/-- A scheduled event is due in the present stage. -/
def dueHere (s : State) (t : Nat × Instr) : Bool :=
  decide (t.1 ≤ s.clk.ns) && (s.clk.held || (decide (dueStage t.2 ≤ s.clk.stage) && !(s.clk.stage == 0 && behindVset t.2 s) && !behindPair t.2 s))

/-- The events whose time has come, in the order in which they were scheduled, and the lower unit first where units of one kind fall due together
(R24) (DESIGN CHOICE, log entry 1). -/
def dueTimers (s : State) : List (Nat × Instr) := (s.timers.filter (dueHere s)).foldl placeDue []

/-! ## Stage 0: the start of a cycle -/

/-- The domains whose turn boundary falls in this cycle (R42, R63). -/
def boundaries (s : State) : List (Fin 8) := (List.finRange 8).filter (fun d => boundaryNow d s)

/-- A delivery of event firings is due: three AO cycles after them (R238). -/
def deliveryDue (s : State) : Bool := match s.evm.firings with | f :: _ => decide (f.cycle + 3 ≤ s.clk.time.toNat) | [] => false

/-- The scrubber's reads of this cycle: one word of each powered bank every SCRUBDIV µs (R336). -/
def scrubReads (s : State) : List Instr :=
  let div := s.get F.LCS_CTL_SCRUBDIV
  if div = 0 ∨ s.clk.ns % (1000 * div) ≠ 0 then []
  else ((List.finRange 15).filter (fun b => domainOn (scrubBank b).1 s)).map (fun (b : Fin 15) => Instr.scrubRead b 0)

/-- The PLLs whose lock falls in this cycle report it; the first edge after the loop PLL's is edge 0 of the sample grid (R79, R523). -/
def pllLocks (s : State) : State :=
  let now := s.clk.lock.filter (fun x => decide (x.2 ≤ s.clk.ns))
  let s1 := s.each now (fun x t => t.put (if x.1 = 0 then F.SYS_CLKSTAT_LOOPLK else if x.1 = 1 then F.SYS_CLKSTAT_TRIOLK else F.SYS_CLKSTAT_PERLK) 1)
  { s1 with clk := { s1.clk with
    lock := s.clk.lock.filter (fun x => decide (s.clk.ns < x.2)), gridT := if now.any (fun x => x.1 == 0) then some (s.clk.ns + 1) else s.clk.gridT } }

/-- The telemetry converters at the start of a cycle: an acquisition, or a slot, ends (R94). -/
def scanSamples (s : State) : State :=
  if inSlot 40 s then taSample 1 (taSample 0 s) else if inSlot 0 s then taSlotEnd 1 (taSlotEnd 0 s) else s

/-- The start of a cycle: SYNC_OUT, the link and the detectors of limiting follow, deliveries and turn boundaries join the queue (DESIGN CHOICE, log entry 1). -/
def stage0 (s0 : State) : State :=
  let s := (rails.foldl (fun t r => limitFollow r t) (scanSamples (pllLocks s0))).each (List.finRange 4) motLatch
  let s1 := aprCycle (syncOutCycle s)
  let evs := (if s.clk.ns % 10 = 0 ∧ deliveryDue s then [Instr.eventDelivery] else []) ++ scrubReads s1 ++
    (boundaries s1).map (fun (d : Fin 8) => Instr.turnBoundary d)
  toStage 1 (s1.enqueue evs)

/-! ## Stage 1: crossings of slots and stamps -/

/-- On-edge commits and slot crossings of a rail: an aimed on-edge whose instant falls in this cycle, and a slot that the angle reaches within four
cycles and whose commit has not taken place (R167, R173). -/
def railCrossings (r : Fin 4) (s : State) : List Instr :=
  if !mRunning r s then []
  else
    (((active r s).zipIdx).map (fun x =>
      let h := s.phase[x.1]
      match h.slotT with
      | some t => if t / 64 ≤ s.clk.ns then [Instr.slotCrossing x.1] else []
      | none =>
        match slotAim r x.1 x.2 s with
        | some (next, _) => if (if next then h.slotNext else h.slotDone) then [] else [Instr.onEdgeCommit x.1]
        | none => [])).flatten

/-- A domain's reference has not come: its expected event and a quarter turn more have been passed (R56). -/
def refDue (d : Fin 8) (s : State) : Bool :=
  let x := s.dom[d]
  x.awaited && (dState d s == dACQUIRE || dState d s == dLOCKED) && (x.src == 1 || x.src == 2) &&
    decide (0 < (domNextAcc d s - x.evMark - BitVec.ofNat 56 (refTurns d s * 2 ^ 48 + 2 ^ 46)).toInt)

/-- HOLDOVER has lasted HOLDTO: turns, or 10 µs for an FB domain (R57, R59). -/
def lostDue (d : Fin 8) (s : State) : Bool :=
  dState d s == dHOLDOVER && decide ((if 4 ≤ s.dom[d].src then 10000 else 2 ^ 48) * holdTo d s ≤ s.dom[d].hold)

/-- Crossings and limits of a domain (R56, R57, R63). -/
def domCrossings (d : Fin 8) (s : State) : List Instr :=
  stampEvents d (domAngle d s) (domNextAngle d s) s ++
    (if refDue d s then [Instr.referenceMissing d] else []) ++ (if lostDue d s then [Instr.holdoverTimeout d] else [])

/-- Doorbell polls and telemetry records whose stamps a domain crosses forward from one angle to another (R63, R367, R378). -/
def hifCrossings (d : Fin 8) (a b : Word) (s : State) : List Instr :=
  ((List.finRange 8).filter (fun n => sqRun n s && pollAngle n s && s.hif.sq[n].armable && s.get (F.HIF_SQn_CTL_DOM n) == d.val &&
      crossedFwd a b (s.rd (Reg.HIF_SQn_STAMP n)))).map (fun (n : Fin 8) => Instr.doorbellPoll n true) ++
    (if cqState 8 s == rgRUN && telAngle s && s.hif.telArmable && s.get F.HIF_TEL_MODE_DOM == d.val && crossedFwd a b (s.rd Reg.HIF_TEL_STAMP) then
      [Instr.telemetryRecord true] else [])

/-- The shapers move, and what they bring about joins the queue (R213, R215). -/
def shapers (s : State) : State × List Instr :=
  rails.foldl (fun p r => let q := parCycle r p.1; (q.1, p.2 ++ q.2)) (s, [])

/-- The setpoint DACs load, the pipelines' requests are committed, slots of the telemetry converters start, and the crossings of this cycle join the
queue (R94, R103, R106) (DESIGN CHOICE, log entry 1). -/
def stage1 (s0 : State) : State :=
  let s1 := s0.each rails (fun r t => totFeed r (pipeCommit r (t.when (slotOn (Reg.MRVr_ILF r) t) (dacLoad r))))
  let s := if inSlot 0 s1 then taSlotStart 1 (taSlotStart 0 s1) else s1
  let evs := (rails.map (fun r => railCrossings r s)).flatten ++ ((List.finRange 8).map (fun d => domCrossings d s)).flatten ++
    ((List.finRange 8).map (fun d => hifCrossings d (domAngle d s) (domNextAngle d s) s)).flatten
  let p := shapers s
  toStage 2 (p.1.enqueue (evs ++ p.2))

/-! ## Stage 2: the end of an AO cycle -/

/-- A counter unit has something to do at the end of the AO cycle. -/
def cuActive (n : Fin 24) (s : State) : Bool := s.on (F.CUn_STAT_RUN n) || decide (s.cu[n] ≠ {})

/-- The counter units count, the cycle's power requests are judged, HIF copies a log entry, and the log takes the cycle's requests (R223, R507,
R530, R533). -/
def aoEnd (s : State) : List Instr :=
  ((List.finRange 24).filter (fun n => cuActive n s)).map (fun (n : Fin 24) => Instr.cuCountStep n) ++
    (if s.pwr.want0.isSome || s.pwr.want1.isSome then [Instr.powerRequest s.pwr.want0 s.pwr.want1] else []) ++
    (if logRingRun s && logBehind s != 0 then [Instr.logCopy false] else []) ++
    (if logRingRun s && logBehind s != 0 || decide ({ s.log with adom := 0 } ≠ ({} : LogSt)) || s.pwr.want0.isSome || s.pwr.want1.isSome || s.get F.LOG_STAT_QFILL != 0 then [Instr.logEntryWrite] else [])

/-- The end of a cycle: HICCUP restarts that its boundary brought, and in the last cycle of an AO cycle the end of that (R147, R152)
(DESIGN CHOICE, log entry 1). -/
def stage2 (s : State) : State :=
  let restarts := (rails.filter (fun r => s.prot[r].restartAt == some s.clk.ns)).map (fun (r : Fin 4) => Instr.hiccupRestart r)
  toStage 3 (s.enqueue (restarts ++ if s.clk.ns % 10 = 9 then aoEnd s else []))

/-! ## Stage 3: the advance -/

/-- A domain's angle advances by the cycle's travel (R42). -/
def domAdvance (d : Fin 8) (s : State) : State :=
  let m := s.motion d
  let held := dState d s == dHOLDOVER
  domUpd d (fun x => { x with
    acc := x.acc + BitVec.ofInt 56 m, travel := x.travel + m, cycRate := none, fbPos := x.fbPos.filter (fun p => decide (s.clk.ns < p.2))
    hold := if held then x.hold + (if 4 ≤ x.src then 1 else m.toNat) else x.hold }) s

/-- The firing of an angle compare unit reaches its event source in the next cycle; a stamp written in the cycle of the old one's crossing is armed
(R65, R67). -/
def acuCycle (k : Fin 16) (s : State) : State :=
  let late := s.acu[k].armNext
  (acuUpd k (fun c => { c with raise := false, old := none, armNext := false }) (s.when s.acu[k].raise (fun t => t.fire (80 + k.val)))).when late (acuArmed k)

/-- The alignment that the second event of an acquisition asked for in the last cycle (R53, R68). -/
def domJump (d : Fin 8) (s : State) : State :=
  match s.dom[d].jump with
  | some v => angleJump d v (hifCrossings d (domAngle d s) (v.extractLsb' 24 32) s) s
  | none => s

/-- The start of an AO cycle: device time counts, angles and tick streams are taken, matrix writes of the last cycle take force, and software
triggers fire (R30, R62, R241, R245, R523). -/
def aoStart (s : State) : State :=
  let sw := s.evm.sw
  let s1 : State := { s with
    touch := s.touch.filter (fun t => t.cyc == ownCycle t.addr s.clk.ns)
    clk := { s.clk with time := if s.clk.timeFrom < s.clk.ns then s.clk.time + 1 else s.clk.time }
    dom := s.dom.map (fun x => { x with aoAcc := x.acc, travel := 0 })
    evm := { s.evm with old := [], sw := [] }
    log := { s.log with adom := s.get F.LOG_CTL_ADOM }
    pwr := { s.pwr with woke := [] } }
  s1.each sw (fun m t => t.each ((List.range 8).filter (fun i => m.getLsbD i)) (fun i u => u.fire (184 + i)))

/-- The advance to the next loop-clock cycle (DESIGN CHOICE, log entry 1). -/
def stage3 (s : State) : State :=
  let s1 := s.each (List.finRange 8) domAdvance
  let s2 := { s1 with clk := { s1.clk with ns := s1.clk.ns + 1, stage := 0 } }
  let s3 := s2.when (s2.clk.ns % 10 == 0) aoStart
  evoModes (((s3.each (List.finRange 16) seqPended).each (List.finRange 16) acuCycle).each (List.finRange 8) domJump)

/-! ## The tick -/

/-- One tick, with no command waiting: due events join the queue; else the cycle's next stage. While a reset is held nothing moves but the
model's time base (R516) (DESIGN CHOICE, log entry 1). -/
def tick (s : State) : State :=
  if dueTimers s ≠ [] then
    { s with timers := s.timers.filter (fun t => !dueHere s t), pending := s.pending ++ (dueTimers s).map (·.2) }
  else if s.clk.held then { s with clk := { s.clk with ns := s.clk.ns + 1 } }
  else
    match s.clk.stage with
    | 0 => stage0 s
    | 1 => stage1 s
    | 2 => stage2 s
    | _ => stage3 s

end Sys2Proof.Machine
end

