-- ==== Sys2Proof/Safety.lean ====
section
/-!
DEFINITION. Safety.lean: what counts as a safe state and a safe step, in the terms that statements use.
-/
namespace Sys2Proof.Machine

/-- The finite maps of the state are in canonical form: keys strictly rising, no entry equal to what an unlisted key reads as. -/
def State.mapsOk (s : State) : Bool :=
  mapWf resetWord s.regs && mapWf resetWord s.live && mapWf (fun _ => (0 : Byte)) s.mem

/-- Device memory is in canonical form. -/
def Memory.wf (s : State) : Bool := mapWf (fun _ => (0 : Byte)) s.mem

/-- A command completes from a state, in a next state of which `P` holds. -/
def Does (c : Instr) (s : State) (P : State → Prop) : Prop := ∃ t, exec c s = .next t ∧ P t

/-- Every byte of memory and the queue of waiting commands read as before. -/
def SameMem (s t : State) : Prop := (∀ a, t.byte a = s.byte a) ∧ t.pending = s.pending

/-- The frame of a command that changes no register but those listed, no byte of memory and not the queue. -/
def Keeps (changed : List Nat) (s t : State) : Prop := (∀ a, a ∉ changed → t.rd a = s.rd a) ∧ SameMem s t

/-- The frame of a command that stores `n` bytes from `lo` on: it changes no register but those listed, no other byte of memory and
not the queue. -/
def Stores (changed : List Nat) (lo n : Nat) (s t : State) : Prop :=
  (∀ a, a ∉ changed → t.rd a = s.rd a) ∧ (∀ a, a < lo ∨ lo + n ≤ a → t.byte a = s.byte a) ∧ t.pending = s.pending

/-- A source has not fired in the present AO cycle (R237). -/
abbrev NotFired (src : Nat) (s : State) : Prop := s.evm.firings.any (fun f => f.cycle == s.clk.time.toNat && f.src == src) = false

/-- One firing of a source has been recorded, routed by the configuration in force in its cycle (R236, R241). -/
def Fires (src : Nat) (s t : State) : Prop :=
  t.evm.firings = s.evm.firings ++ [⟨s.clk.time.toNat, src, s.chansOf src, s.sinksOf (s.chansOf src)⟩]

/-- One log request has been made, in the present cycle. -/
def Logged (block code : Nat) (data : List Byte) (s t : State) : Prop :=
  t.log.reqs = s.log.reqs ++ [⟨s.clk.time, s.logAngle, block, code, data⟩]

/-- The last of the log requests made is this one. -/
def LastLog (block code : Nat) (data : List Byte) (s t : State) : Prop :=
  t.log.reqs.getLast? = some ⟨s.clk.time, s.logAngle, block, code, data⟩

/-- No log request has been made. -/
def NoLog (s t : State) : Prop := t.log.reqs = s.log.reqs

/-- An ACT register performs a write that carries a ticket: the ticket is 0 or is not the one that the register remembers (R20). -/
abbrev Fresh (act : Nat) (ticket : Byte) (s : State) : Prop := ticket = 0 ∨ ticket ≠ (s.rd act).extractLsb' 24 8

/-! ## The Trio -/

/-- The state after the fetch at PC. -/
def fetched (s : State) : State := (fetchFault s).1

/-- An ordinary instruction boundary: the cores execute, no interrupt is due, the fetch passes its checks and the undo log is far from
full (R253, R289, R302, R314). -/
abbrev Boundary (s : State) : Prop :=
  trioActive s = true ∧ irqDue s = none ∧ (fetchFault s).2 = none ∧ s.trio.undo.length ≤ 32000

/-- A trap taken now is no double trap (R304). -/
abbrev CanTrap (s : State) : Prop := s.trio.core.intrap = false ∧ tvecOk s.trio.core.tvec = true

/-- An instruction completes: the cores change as given, the loop levels that end at its address are evaluated and the PC follows (R269);
beyond the fetch nothing outside the cores changes. -/
def Completes (f : Core → Core) (s t : State) : Prop := t = coreUpd (fun c => loopBack c.pc 3 (f c)) (fetched s)

/-- A control transfer: the cores change as given, the PC among it; beyond the fetch nothing outside the cores changes. -/
def Jumps (f : Core → Core) (s t : State) : Prop := t = coreUpd f (fetched s)

/-- The capability that a privileged instruction names is tagged, unsealed and carries SYS (R273, R296). -/
abbrev SysCap (n : Nat) (s : State) : Prop :=
  (s.trio.core.cap n).tag = true ∧ (s.trio.core.cap n).isSealed = false ∧ (s.trio.core.cap n).has pSYS = true

/-- A trap is taken with its cause, value and failing capability: the interrupted PC and PCC are saved, the trap window opens and the
cores go on at TVEC; nothing else changes (R298, R299). -/
def Trapped (cause : Nat) (tval : Word) (cap : Option Nat) (s t : State) : Prop :=
  Jumps (fun c => { c with
    tcause := BitVec.ofNat 32 (cause % 256 + (match cap with | some n => 4096 + 256 * (n % 16) | none => 0)), tval := tval, tepc := c.pc, tepcc := c.pcc,
    intrap := true, pcc := c.tvec.unsealed, pc := BitVec.ofNat 32 c.tvec.base }) s t

/-! ## The two-wire and AVSBus ports -/

/-- A two-wire port acknowledges a read and answers these bytes, followed by the packet error code over the address bytes, the command
code and the bytes (R411, R419). -/
def Answered (n : Fin 2) (cmd : Nat) (d : List Byte) (s t : State) : Prop :=
  t.tw[n].nack = false ∧ t.tw[n].resp = d ++ [pec ([b8 (2 * s.tw[n].addr), b8 cmd, b8 (2 * s.tw[n].addr + 1)] ++ d)]

/-- A two-wire port refuses a byte and sets one bit of TWn_CML (R413). -/
def Nacked (n : Fin 2) (bit : Nat) (s t : State) : Prop :=
  t.tw[n].nack = true ∧ t.tw[n].resp = [] ∧ t.get (F.TWn_CML_CML n) = s.get (F.TWn_CML_CML n) ||| 2 ^ bit

/-- A two-wire port has accepted a write that appends one entry to its queue: the last one, with its kind, page, command code and data
(R421). -/
def Queued (n : Fin 2) (kind cmd data : Nat) (s t : State) : Prop :=
  t.tw[n].nack = false ∧
  t.tw[n].q = s.tw[n].q ++ [BitVec.ofNat 32 (2 ^ 31 + kind * 2 ^ 29 + (if twPage n s = 0xFF then 2 ^ 28 else twPage n s % 4 * 2 ^ 24) + cmd * 65536 + data % 65536)]

/-- A port in a personality that listens to its bus (R409, R427). -/
abbrev Target (n : Fin 2) (pers : Nat) (s : State) : Prop := twHears n s = true ∧ s.tw[n].pers = pers

/-- An AVSBus port answers a frame with an acknowledge code, data and the status bits of its rail (R434, R435). -/
def AvsAnswered (n : Fin 2) (ack data status : Nat) (t : State) : Prop :=
  t.avs[n].ack = ack ∧ t.avs[n].data = data ∧ t.avs[n].status = status ∧ t.avs[n].resp = avsReply ack status data

/-! ## Capabilities -/

/-- The capability state after a reset (R287). -/
abbrev CapsAtReset (c : Core) : Prop :=
  c.pcc = capRoot ∧ c.pc = 0 ∧ c.c[(0 : Fin 8)] = capRoot ∧ c.c[(7 : Fin 8)] = capRoot ∧ (∀ n : Fin 8, n ≠ 0 → n ≠ 7 → c.c[n] = ⟨false, 0⟩) ∧ c.tc7 = capRoot ∧
  c.tepcc = ⟨false, 0⟩ ∧ c.tvec = capBootTrap

/-- Every capability of the cores meets the conditions of R282, and g0 holds 0 (R249, R282). -/
abbrev CapsOk (s : State) : Prop :=
  (∀ n : Fin 8, Cap.wf s.trio.core.c[n] = true) ∧ Cap.wf s.trio.core.tc7 = true ∧ Cap.wf s.trio.core.pcc = true ∧ Cap.wf s.trio.core.tepcc = true ∧
  Cap.wf s.trio.core.tvec = true ∧ s.trio.core.g[(0 : Fin 8)] = 0

/-- The Trio instructions that access no memory beyond their fetch. -/
def noAccess (i : Instr) : Bool :=
  match i with
  | .add _ | .sub _ | .and_ _ | .or_ _ | .xor _ | .sll _ | .srl _ | .sra _ | .slt _ | .sltu _ | .min _ | .max _ | .minu _ | .maxu _ | .slli _ | .srli _
  | .srai _ | .sati _ | .mul _ | .mulh _ | .mulhu _ | .madd _ | .msub _ | .div _ | .divu _ | .rem _ | .remu _ => true
  | .addi _ | .andi _ | .ori _ | .xori _ | .slti _ | .sltiu _ | .lui _ => true
  | .beq _ | .bne _ | .blt _ | .bge _ | .bltu _ | .bgeu _ | .j _ | .call _ | .jmpl _ | .loop _ | .loopi _ | .wopen _ | .wclose _ => true
  | .rdsr _ | .wrsr _ | .trap _ | .bkpt _ | .tret _ | .wfi _ | .ckpt _ | .definedIllegal _ | .reservedEncoding _ => true
  | .acpy _ | .ardbase _ | .ardlen _ | .ardperm _ | .ardtype _ | .ardtag _ | .atrimlo _ | .atrimlen _ | .amask _ | .avoid _ | .alock _ | .aunlock _
  | .awithin _ | .ajump _ | .aenter _ | .ardpcc _ | .ardspc _ | .awrspc _ => true
  | _ => false

/-- A step answers a next state. -/
def goesOn (s : State) : Prop := ∃ t, step s = .next t

end Sys2Proof.Machine
end

