-- ==== Sys2Proof/Certificates/Slice0/Obligations.lean ====
section
/-!
DEFINITION. Certificates/Slice0/Obligations.lean: the statements for the provers. Each clause says what one command does from every state and with
every operand that meets the hypotheses before it: `Does c s fun t => P` says that the command completes, in a next state t of which P holds.
-/
open Sys2Proof Sys2Proof.Machine

set_option linter.unusedVariables false

/-- A step runs the command at the front of the queue on the queue's rest; every command completes; an empty queue ticks (R11, R20, R26; tier 1, derived).
For every command and state, a step with the command at the front of the queue answers exactly what the command's meaning answers with the queue's
rest; each of the commands, with every operand and in every state, completes: its meaning answers a next state, a refused or denied request being
answered as its rule says and the machine going on; with no command waiting the step is one tick of device time. The queue and the tick are the
model's own choice (log entry 1). -/
def Obligations.StepRunsFrontCommand : Prop :=
  ((∀ (c : Instr) (rest : List Instr) (s : State), step { s with pending := c :: rest } = exec c { s with pending := rest }) ∧
    (∀ (c : Instr) (s : State), ∃ t, exec c s = .next t) ∧ (∀ s : State, s.pending = [] → step s = .next (tick s)))

/-- The reset state meets the invariants: canonical maps, well-formed capabilities, g0 = 0, an empty queue (R249, R282, R287; tier 1, derived). At reset
the register maps and memory are in canonical form, every capability meets the conditions of R282, g0 reads 0, and no command waits; the canonical
form and the queue are the model's own (log entries 1 and 4). -/
def Obligations.ResetInvariants : Prop :=
  (State.reset.mapsOk = true ∧ Memory.wf State.reset = true ∧ CapsOk State.reset ∧ State.reset.pending = [])

/-- The capability state after a device reset and after a Trio-only reset (R287; tier 1, stated). In the reset state, after a device reset by SYS_ACT and
after a Trio-only reset by TRIO_ACT, PCC, c0, c7 and TC7 are root, c1 to c6 and TEPCC null, TVEC the sealed boot trap entry and the PC 0; root and the
boot trap entry carry the fields that R287 lists. -/
def Obligations.CapabilityReset : Prop :=
  (CapsAtReset State.reset.trio.core) ∧
  (capRoot.tag = true ∧ capRoot.base = 0 ∧ capRoot.len = 2 ^ 32 ∧ capRoot.perm = 0xFF ∧ capRoot.otype = 0 ∧ capRoot.isSealed = false) ∧
  (capBootTrap.tag = true ∧ capBootTrap.isSealed = true ∧ capBootTrap.otype = 1 ∧ capBootTrap.base = 0x40 ∧ capBootTrap.len = 0x1FFC0 ∧
    capBootTrap.perm = 0x05) ∧
  (∀ (s : State) (ticket : Byte), Fresh Reg.SYS_ACT ticket s → Does (.devreset ticket 0x5A5A) s fun t =>
      CapsAtReset t.trio.core) ∧
  (∀ (s : State) (ticket : Byte) (arg : BitVec 16), Fresh Reg.TRIO_ACT ticket s → s.trio.run = true → Does (.trioResetAction ticket arg) s fun t =>
      CapsAtReset t.trio.core)

/-- Register accesses by the Trio: stored fields, levels, flags, counters, levels of a block, unlisted actions (R11, R13, R15, R16, R17, R18, R19, R20;
tier 2, derived). A write stores the bits that the level lets pass and counts an attempt on the others; a flag written as 1 clears unless its event
falls in the same cycle; a read clears an RC register; EXPERT is set and cleared, and clearing it discards raw values; an unlisted action leaves only
the ACT word. The ARG bits that an unlisted action keeps are the model's choice (log entry 44). -/
def Obligations.RegisterAccess : Prop :=
  (∀ (s : State) (addr : Nat) (value : Word) (r : RegRow), answered .trio addr { s with busErr := false } = true → rowFor addr = some r →
    r.act = false → r.w1c = 0 → addr ≠ ctlOf addr → (addr / 65536 = 0x400B ∨ addr / 65536 = 0x4015 ∨ addr / 65536 = 0x4017) → Does (.registerWrite .trio addr value) s fun t =>
      let shut := if s.expertAt addr then 0 else r.expert;
      let may := (r.rw ||| r.rwl) &&& ~~~shut;
      t.rd addr &&& r.impl = ((value &&& may) ||| (s.rd addr &&& ~~~may)) &&& r.impl ∧
      t.get F.SYS_IGNWR_COUNT = (if (value ^^^ s.rd addr) &&& shut = 0 then s.get F.SYS_IGNWR_COUNT else min (s.get F.SYS_IGNWR_COUNT + 1) (2 ^ 32 - 1)) ∧
      t.busErr = false ∧ NoLog s t ∧ Keeps [addr, Reg.SYS_IGNWR] s t) ∧
  (∀ (s : State) (addr : Nat) (event : Word) (r : RegRow), answered .trio addr { s with busErr := false } = true → rowFor addr = some r → r.rc ≠ 0 →
    addr / 65536 ≠ 0x400D → Does (.readClear .trio addr event) s fun t =>
      t.rdata = peek addr { s with busErr := false } ∧ t.rd addr &&& r.rc = ((r.reset &&& ~~~event) ||| event) &&& r.rc ∧ t.busErr = false ∧
        NoLog s t ∧ Keeps [addr] s t) ∧
  (∀ (s : State) (addr : Nat) (value event : Word) (r : RegRow), answered .trio addr { s with busErr := false } = true → rowFor addr = some r →
    r.act = false → r.w1c ≠ 0 → r.rw ||| r.rwl = 0 → addr ≠ ctlOf addr → addr / 65536 ≠ 0x400D → addr / 65536 ≠ 0x4010 → addr / 65536 ≠ 0x400A →
    addr / 65536 ≠ 0x4003 → Does (.w1cWrite .trio addr value event) s fun t =>
      t.rd addr &&& r.w1c = ((s.rd addr &&& ~~~value) ||| event) &&& r.w1c ∧ t.busErr = false ∧ NoLog s t ∧ Keeps [addr, Reg.SYS_IGNWR] s t) ∧
  (∀ (s : State) (addr : Nat) (value : Word), answered .trio (ctlOf addr) { s with busErr := false } = true →
    (addr / 65536 = 0x4002 ∨ addr / 65536 = 0x4003 ∨ addr / 65536 = 0x4008 ∨ addr / 65536 = 0x4015) → Does (.expertSet .trio addr value) s fun t =>
      t.expertAt addr = true ∧ t.busErr = false ∧ NoLog s t ∧ Keeps [ctlOf addr, Reg.SYS_IGNWR] s t) ∧
  (∀ (s : State) (addr : Nat) (value : Word), answered .trio (ctlOf addr) { s with busErr := false } = true →
    (addr / 65536 = 0x4003 ∨ addr / 65536 = 0x4008 ∨ addr / 65536 = 0x4015) → s.expertAt addr = true → Does (.expertClear .trio addr value) s fun t =>
      t.expertAt addr = false ∧ t.busErr = false ∧ SameMem s t ∧
      ((mapFind regRows (addr / 65536)).getD []).all (fun r => (rowAddrs r).all (fun a => t.rd a &&& r.expert == r.reset &&& r.expert)) = true) ∧
  (∀ (s : State) (addr : Nat) (ticket : Byte) (arg : BitVec 16) (action : Byte) (r : RegRow), answered .trio addr { s with busErr := false } = true →
    addr / 65536 ≠ 0x400D → rowFor addr = some r → addr / 65536 ≠ 0x4003 → r.act = true → Fresh addr ticket s → 0x40 ≤ action.toNat → Does (.unlistedAction .trio addr ticket arg action) s fun t =>
      t.rd addr = ticket ++ (arg &&& argMask addr action) ++ action ∧ t.busErr = false ∧ NoLog s t ∧ Keeps [addr] s t)

/-- XIN supervision: the violations, the qualification and the returns complete with their effects (R31, R33, R41; tier 2, derived). From within its guard
a loss of edges or a count out of range drops XIN, flags and logs it; a count in range starts the qualification; the first selection and the two
returns select XIN again; nothing but SYS_CLKSTAT (and the ACT register) changes. That the return by action waits for the first selection is the
model's reading (log entry 56). -/
def Obligations.ClockSelection : Prop :=
  (∀ (s : State) (since : Nat), s.on F.SYS_CLKSTAT_XINOK = true → Does (.xinLoss since) s fun t =>
      t.get F.SYS_CLKSTAT_XINOK = 0 ∧ t.get F.SYS_CLKSTAT_XINLOSS = 1 ∧ t.get F.SYS_CLKSTAT_AOSRC = 1 ∧ t.get F.SYS_CLKSTAT_PLLREF = 1 ∧
      t.clk.qualStart = none ∧ Logged 0x01 0x0001 (bytesOfNat 2 (min since 65535)) s t ∧ Keeps [Reg.SYS_CLKSTAT] s t) ∧
  (∀ (s : State) (count : Nat) (gap : Bool), s.on F.SYS_CLKSTAT_XINOK = true → xinInRange count s = false → Does (.xinWindowEnd count gap) s fun t =>
      t.get F.SYS_CLKSTAT_XINOK = 0 ∧ t.get F.SYS_CLKSTAT_XINRANGE = 1 ∧ t.get F.SYS_CLKSTAT_AOSRC = 1 ∧ t.get F.SYS_CLKSTAT_PLLREF = 1 ∧
      Logged 0x01 0x0002 (bytesOfNat 4 (count * 1000000000 / 20480)) s t ∧ Keeps [Reg.SYS_CLKSTAT] s t) ∧
  (∀ (s : State) (count : Nat), s.on F.SYS_CLKSTAT_XINOK = false → xinInRange count s = true → Does (.xinWindowEnd count false) s fun t =>
      t.get F.SYS_CLKSTAT_XINOK = 1 ∧ t.clk.qualStart = some (s.clk.ns - 20480) ∧ NoLog s t ∧ Keeps [Reg.SYS_CLKSTAT] s t) ∧
  (∀ (s : State), s.clk.qualStart.isSome = true → s.clk.firstSel = false → Does .xinFirstSelection s fun t =>
      t.get F.SYS_CLKSTAT_AOSRC = 0 ∧ t.get F.SYS_CLKSTAT_PLLREF = 0 ∧ t.clk.firstSel = true ∧ NoLog s t ∧
      t.get F.SYS_CLKSTAT_XINRET = s.get F.SYS_CLKSTAT_XINRET ∧ Keeps [Reg.SYS_CLKSTAT] s t) ∧
  (∀ (s : State), s.on F.SYS_CLKSTAT_XINOK = true → s.clk.firstSel = true → s.on F.SYS_CLKSTAT_AOSRC = true → s.on F.SYS_CLKCFG_AUTORET = true → Does .xinReturn s fun t =>
      t.get F.SYS_CLKSTAT_AOSRC = 0 ∧ t.get F.SYS_CLKSTAT_PLLREF = 0 ∧ t.get F.SYS_CLKSTAT_XINRET = 1 ∧ Logged 0x01 0x0003 [0] s t ∧
      Keeps [Reg.SYS_CLKSTAT] s t) ∧
  (∀ (s : State) (ticket : Byte) (arg : BitVec 16), Fresh Reg.SYS_CLKACT ticket s → s.on F.SYS_CLKSTAT_XINOK = true → s.clk.firstSel = true →
    s.on F.SYS_CLKSTAT_AOSRC = true → Does (.clkactReturn ticket arg) s fun t =>
      t.get F.SYS_CLKSTAT_AOSRC = 0 ∧ t.get F.SYS_CLKSTAT_PLLREF = 0 ∧ t.get F.SYS_CLKSTAT_XINRET = 1 ∧ Logged 0x01 0x0003 [1] s t ∧
      t.rd Reg.SYS_CLKACT = ticket ++ (0 : BitVec 16) ++ (1 : Byte) ∧ Keeps [Reg.SYS_CLKSTAT, Reg.SYS_CLKACT] s t)

/-- Reference tracking: holdover, loss, acquisition, ring pulses (R53, R55, R56, R57, R58, R69, R70, R75; tier 2, derived). A missing reference takes a
tracking domain to HOLDOVER and a timeout to LOST, REACQUIRE starts an acquisition, an overwide pulse is rejected, the first valid pulse of an
acquisition is remembered, edges are stamped, an open ring is reported once. The rounding of the measured rate and the moment of the expected interval
are the model's choice (log entry 45). -/
def Obligations.AngleTracking : Prop :=
  (∀ (s : State) (d : Fin 8), (dState d s = 2 ∨ dState d s = 3) → Does (.referenceMissing d) s fun t =>
      dState d t = 4 ∧ t.bit F.ANG_FLT_HOLD d = true ∧ t.dom[d].hold = 0 ∧ t.dom[d].awaited = false ∧ t.dom[d].acc = s.dom[d].acc ∧
      LastLog 0x02 0x0001 ([b8 d] ++ bytesOfNat 6 s.dom[d].rateI ++ bytesOfNat 4 (s.get (F.ANGn_PERR_PERR d))) s t ∧ SameMem s t) ∧
  (∀ (s : State) (d : Fin 8), dState d s = 4 → Does (.holdoverTimeout d) s fun t =>
      dState d t = 5 ∧ t.bit F.ANG_FLT_LOST d = true ∧ t.dom[d].allow = false ∧ t.dom[d].acc = s.dom[d].acc ∧
      Logged 0x02 0x0002 ([b8 d] ++ bytesOfNat 6 s.dom[d].rateI ++ bytesOfNat 2 (s.get (F.ANGn_WIN_HOLDTO d))) s t ∧ SameMem s t) ∧
  (∀ (s : State) (ticket : Byte) (arg : BitVec 16), Fresh Reg.ANG_ACT ticket s → dState (Fin.ofNat 8 arg.toNat) s = 5 →
    s.dom[Fin.ofNat 8 arg.toNat].src ≠ 0 → Does (.reacquire ticket arg) s fun t =>
      t.dom[Fin.ofNat 8 arg.toNat].allow = true ∧ t.dom[Fin.ofNat 8 arg.toNat].acq = 0 ∧ t.rd Reg.ANG_ACT = ticket ++ (arg &&& 0x7) ++ (1 : Byte) ∧
      Keeps [Reg.ANG_ACT] s t) ∧
  (∀ (s : State) (ticket : Byte) (arg : BitVec 16), Fresh Reg.ANG_ACT ticket s →
    (dState (Fin.ofNat 8 arg.toNat) s = 3 ∨ dState (Fin.ofNat 8 arg.toNat) s = 4) →
    (s.dom[Fin.ofNat 8 arg.toNat].src = 1 ∨ s.dom[Fin.ofNat 8 arg.toNat].src = 2) → Does (.reacquire ticket arg) s fun t =>
      dState (Fin.ofNat 8 arg.toNat) t = 2 ∧ t.dom[Fin.ofNat 8 arg.toNat].acq = 0 ∧ t.rd Reg.ANG_ACT = ticket ++ (arg &&& 0x7) ++ (1 : Byte) ∧
        SameMem s t) ∧
  (∀ (s : State), s.sync.reported = false → Does .ringOpen s fun t =>
      t.get F.ANG_FLT_RINGOPEN = 1 ∧ t.sync.reported = true ∧
      Logged 0x02 0x0006 (b8 (s.get F.ANG_SYNCCTL_MDOM) :: bytesOfNat 2 (s.get F.ANG_RINGDLY_DLY)) s t ∧ Keeps [Reg.ANG_FLT] s t) ∧
  (∀ (s : State) (d : Fin 8), s.sync.wait = false → s.sync.role ≠ 1 → syncDoms s = [d] → Does .syncPulseOverwidth s fun t =>
      t.sync.wait = true ∧ t.get (F.ANGn_REJ_REJ d) = satInc (F.ANGn_REJ_REJ d).width (s.get (F.ANGn_REJ_REJ d)) 1 ∧ t.dom = s.dom ∧ SameMem s t) ∧
  (∀ (s : State) (d : Fin 8) (lead width : Nat), s.sync.role ≠ 1 → 6 ≤ width → width < 28 → syncDoms s = [d] → dState d s = 2 → s.dom[d].acq = 0 → Does (.syncPulse lead width) s fun t =>
      t.dom[d].acq = 1 ∧ t.dom[d].evT = ((lead * 64 : Nat) - s.getI F.ANG_SYNCCOMP_COMP).toNat ∧ t.dom[d].awaited = true ∧
      t.dom[d].rate = s.dom[d].rate ∧ t.dom[d].acc = s.dom[d].acc ∧ NoLog s t ∧ Keeps [Reg.ANGn_PERR d] s t) ∧
  (∀ (s : State), Does (.syncInEdge ⟨true, none⟩) s fun t =>
      t.sync.inLevel = true ∧ t.sync.leadT = s.clk.ns ∧ t.sync.wait = false ∧ t.dom = s.dom ∧ Keeps [Reg.ANG_RINGDLY] s t) ∧
  (∀ (s : State), s.sync.wait = false → s.sync.inLevel = true → Does (.syncInEdge ⟨false, none⟩) s fun t =>
      t.sync.inLevel = false ∧ (s.clk.ns, .syncPulse s.sync.leadT (s.clk.ns - s.sync.leadT)) ∈ t.timers ∧
      (s.sync.role = 2 → t.sync.edges = s.sync.edges ++ [(s.clk.ns + 2, false)]) ∧ Keeps [] s t) ∧
  (∀ (s : State) (level : Bool) (frac : Fin 64), level ≠ s.sync.ball → s.sync.detect = none → Does (.syncInEdge ⟨level, some frac⟩) s fun t =>
      t.sync.ball = level ∧ t.sync.detect = some ((s.now64 + frac.val + s.get F.ANG_SYNCCTL_FILT * 64 + 128 + 63) / 64) ∧
      ((s.now64 + frac.val + s.get F.ANG_SYNCCTL_FILT * 64 + 128 + 63) / 64, .syncInEdge ⟨level, none⟩) ∈ t.timers ∧
        t.sync.inLevel = s.sync.inLevel ∧ t.dom = s.dom ∧ NoLog s t ∧ Keeps [] s t)

/-- Domain settings: enable, disable, source, rate, rail map, role (R42, R44, R46, R47, R48, R49, R50, R69; tier 2, derived). A domain is enabled and
disabled, its source is written and waits for the boundary, a rate in range is committed and loads at the next turn boundary, a rail map and a role
are written, each with the registers that stay as they were. What ANGn_MEAS shows of a domain without a SYNC or APRAM reference is the model's reading
(log entry 43). -/
def Obligations.AngleSettings : Prop :=
  (∀ (s : State) (d : Fin 8) (value : Word), slotOn (Reg.ANGn_CTL d) s = true → s.on (F.ANGn_CTL_EN d) = false → domInUse d s = false →
    fldOf (F.ANGn_CTL_SRC d) value ≤ 2 → Does (.domainEnable d value) s fun t =>
      t.on (F.ANGn_CTL_EN d) = true ∧ t.get (F.ANGn_CTL_SRC d) = fldOf (F.ANGn_CTL_SRC d) value ∧ t.dom[d].src = fldOf (F.ANGn_CTL_SRC d) value ∧
      t.dom[d].rate = s.dom[d].committed ∧ t.dom[d].acc = s.dom[d].acc ∧ dState d t = (if fldOf (F.ANGn_CTL_SRC d) value = 0 then 1 else 2) ∧
        SameMem s t) ∧
  (∀ (s : State) (d : Fin 8) (value : Word), slotOn (Reg.ANGn_CTL d) s = true → s.on (F.ANGn_CTL_EN d) = true → domInUse d s = false → Does (.domainDisable d value) s fun t =>
      t.on (F.ANGn_CTL_EN d) = false ∧ dState d t = 0 ∧ t.dom[d].acc = s.dom[d].acc ∧ t.dom[d].armed = none ∧ SameMem s t) ∧
  (∀ (s : State) (d : Fin 8) (value : Word), slotOn (Reg.ANGn_CTL d) s = true → s.on (F.ANGn_CTL_EN d) = true → fldOf (F.ANGn_CTL_EN d) value = 1 →
    fldOf (F.ANGn_CTL_SRC d) value ≤ 2 → Does (.srcChange d value) s fun t =>
      t.get (F.ANGn_CTL_SRC d) = fldOf (F.ANGn_CTL_SRC d) value ∧ t.dom = s.dom ∧ NoLog s t ∧
      Keeps [Reg.ANGn_CTL d, Reg.ANGn_WIN d, Reg.SYS_IGNWR] s t) ∧
  (∀ (s : State) (d : Fin 8) (value : Word), rateBad d value.toNat 16 s = false → s.on (F.ANGn_CTL_EN d) = true → s.dom[d].src ≤ 2 →
    ringFollower d s = false → Does (.freqWrite d value) s fun t =>
      t.rd (Reg.ANGn_FREQ d) = value ∧ t.dom[d].committed = roundDiv (value.toNat * 2 ^ 44) (10 ^ 9) ∧
      t.dom[d].pendRate.head? = some (roundDiv (value.toNat * 2 ^ 44) (10 ^ 9), s.clk.ns) ∧ t.dom[d].rate = s.dom[d].rate ∧ NoLog s t ∧
      Keeps [Reg.ANGn_FREQ d, Reg.ANGn_RATEL d, Reg.ANGn_RATEH d] s t) ∧
  (∀ (s : State) (d : Fin 8) (value : Word), rateBad d value.toNat 16 s = true → Does (.freqWrite d value) s fun t =>
      t.get F.ANG_FLT_FRANGE = 1 ∧ t.dom = s.dom ∧ Logged 0x02 0x0004 (b8 d :: bytesOfNat 2 (Reg.ANGn_FREQ d % 65536)) s t ∧ Keeps [Reg.ANG_FLT] s t) ∧
  (∀ (s : State) (d : Fin 8) (value : Word), slotOn (Reg.ANGn_RATEH d) s = true → s.on F.ANG_CTL_EXPERT = true →
    rateRangeBad d (value.toNat % 2 ^ 16 * 2 ^ 32 + s.get (F.ANGn_RATEL_RATEL d)) s = false → Does (.ratehWrite d value) s fun t =>
      t.get (F.ANGn_RATEH_RATEH d) = value.toNat % 2 ^ 16 ∧ t.dom[d].committed = value.toNat % 2 ^ 16 * 2 ^ 32 + s.get (F.ANGn_RATEL_RATEL d) ∧
      t.dom[d].rate = s.dom[d].rate ∧ NoLog s t ∧ Keeps [Reg.ANGn_RATEH d, Reg.ANGn_STAT d] s t) ∧
  (∀ (s : State) (value : Word), (∀ r : Fin 4, s.get (F.ANGn_CTL_SRC (fldOf (railmapFld r) value)) < 4 ∧
    s.dom[Fin.ofNat 8 (fldOf (railmapFld r) value)].src < 4 ∧ (railEn r s = true → Fin.ofNat 8 (fldOf (railmapFld r) value) = railDom r s)) → Does (.railmapWrite value) s fun t =>
      t.rd Reg.ANG_RAILMAP = value &&& 0x7777 ∧ (∀ r : Fin 4, railDom r t = Fin.ofNat 8 (fldOf (railmapFld r) value)) ∧ NoLog s t ∧
      Keeps [Reg.ANG_RAILMAP] s t) ∧
  (∀ (s : State) (value : Word), slotOn Reg.ANG_SYNCCTL s = true → s.sync.out = false → s.sync.edges = [] → Does (.roleChange value) s fun t =>
      t.get F.ANG_SYNCCTL_ROLE = value.toNat % 4 ∧ t.sync.role = value.toNat % 4 ∧ t.dom = s.dom ∧ NoLog s t ∧
        Keeps [Reg.ANG_SYNCCTL, Reg.SYS_IGNWR] s t) ∧
  (∀ (s : State) (d : Fin 8) (v t0 : Nat), s.on (F.ANGn_CTL_EN d) = true → domRails d s = [] → s.get (F.ANGn_CTL_SRC d) = s.dom[d].src →
    ringMaster d s = false → s.dom[d].relabel = false → s.dom[d].chgIn ≠ 1 → s.dom[d].pendRate = [(v, t0)] → t0 < s.clk.ns → Does (.turnBoundary d) s fun t =>
      t.dom[d].rate = v ∧ t.dom[d].pendRate = [] ∧ t.dom[d].acc = s.dom[d].acc ∧ t.evm = (s.fire (72 + d.val)).evm ∧
      t.get (F.ANGn_MEAS_MEAS d) = ofSigned 32 (freqOfRate (if s.dom[d].src = 1 ∨ s.dom[d].src = 2 then s.dom[d].rateI else v)) ∧ NoLog s t ∧
      Keeps [Reg.EVM_FAST, Reg.ANGn_MEAS d] s t)

/-- Angle compare units: arming and firing (R64, R65, R66, R67; tier 2, derived). A stamp written that has not been crossed arms an enabled unit; a unit
whose EN is set holds the stamp it has; an armed unit fires once in ONCE mode and stays armed in REPEAT mode with a STEP. -/
def Obligations.AngleCompare : Prop :=
  (∀ (s : State) (k : Fin 16) (v : Word), slotOn (Reg.ACUk_STAMP k) s = true → s.on (F.ACUk_CTL_EN k) = true → s.get (F.ACUk_CTL_MODE k) ≤ 1 →
    stampD (domAngle (Fin.ofNat 8 (s.get (F.ACUk_CTL_DOM k))) s) v ≤ 0 → Does (.acuArm k (some v) none) s fun t =>
      t.rd (Reg.ACUk_STAMP k) = v ∧ t.acu[k].armable = true ∧ t.get (F.ACUk_STAT_ARMED k) = 1 ∧ NoLog s t ∧
      Keeps [Reg.ACUk_STAMP k, Reg.ACUk_STAT k] s t) ∧
  (∀ (s : State) (k : Fin 16) (v : Word), slotOn (Reg.ACUk_CTL k) s = true → s.on (F.ACUk_CTL_EN k) = true → fldOf (F.ACUk_CTL_EN k) v = 0 → Does (.acuArm k none (some v)) s fun t =>
      t.on (F.ACUk_CTL_EN k) = false ∧ t.acu = s.acu ∧ t.get (F.ACUk_STAT_ARMED k) = 0 ∧ t.rd (Reg.ACUk_STAMP k) = s.rd (Reg.ACUk_STAMP k) ∧
        NoLog s t ∧
      Keeps [Reg.ACUk_CTL k, Reg.ACUk_STAT k, Reg.SYS_IGNWR] s t) ∧
  (∀ (s : State) (k : Fin 16), s.on (F.ACUk_CTL_EN k) = true → s.get (F.ACUk_CTL_MODE k) = 0 → s.acu[k].old = none → s.acu[k].armable = true → Does (.acuFire k) s fun t =>
      t.get (F.ACUk_STAT_FIRED k) = 1 ∧ t.get (F.ACUk_STAT_ARMED k) = 0 ∧ t.acu[k].raise = true ∧ t.acu[k].armable = false ∧ NoLog s t ∧
      Keeps [Reg.ACUk_STAT k] s t) ∧
  (∀ (s : State) (k : Fin 16), s.on (F.ACUk_CTL_EN k) = true → s.get (F.ACUk_CTL_MODE k) = 1 → s.rd (Reg.ACUk_STEP k) ≠ 0 → s.acu[k].old = none →
    s.acu[k].armable = true → Does (.acuFire k) s fun t =>
      t.get (F.ACUk_STAT_FIRED k) = 1 ∧ t.acu[k].raise = true ∧ t.acu[k].armable = true ∧ NoLog s t ∧ Keeps [Reg.ACUk_STAT k, Reg.ACUk_STAMP k] s t)

/-- Gather rotation: steps, the lane swap, calibration results and the bank actions (R82, R83, R84, R85, R86, R87, R88, R90; tier 2, derived). A periodic
or commanded step starts with the candidate of R82, a shadow comparison within MATCHTOL leads to the swap, the swap gives the spare the lane, a
passing calibration is stored and marked, CALSLICE, RETIRE and RESTORE act on the slice they name. The order of FULLCAL, the role that RESTORE gives a
slice, the spare between swap and calibration and the corners of the actions are the model's choice (log entries 15, 16 and 47). -/
def Obligations.GatherRotation : Prop :=
  (∀ (s : State) (b : Fin 3) (c : Nat), s.on F.GATH_ROT_ROTEN = true → gBusy b s = false → gHasSpare b s = true → gCandidate b s = some c →
    s.get F.GATH_ROT_ROTINT ≠ 0 → gStepDue b s = true → Does (.rotationStepStart b) s fun t =>
      (gBank b t).stage = .shadow ∧ (gBank b t).due = s.clk.ns + (if b = 2 then 25600 else 1024) ∧ (gBank b t).cand = c ∧
        (gBank b t).spare = gSpare b s ∧ t.bit F.GATH_BSTAT_STEP b = true ∧ NoLog s t ∧
      Keeps [Reg.GATH_BSTAT] s t) ∧
  (∀ (s : State) (b : Fin 3) (c : Nat) (ticket : Byte) (arg : BitVec 16), Fresh Reg.GATH_ACT ticket s → gBanks arg = [b] → gBusy b s = false →
    gHasSpare b s = true → gCandidate b s = some c → Does (.rotate ticket arg) s fun t =>
      (gBank b t).stage = .shadow ∧ (gBank b t).cand = c ∧ (gBank b t).spare = gSpare b s ∧ t.bit F.GATH_BSTAT_STEP b = true ∧
      t.rd Reg.GATH_ACT = ticket ++ (arg &&& 0x30f) ++ (1 : Byte) ∧ NoLog s t ∧ Keeps [Reg.GATH_BSTAT, Reg.GATH_ACT] s t) ∧
  (∀ (s : State) (b : Fin 3) (mean : Int), (gBank b s).stage = .shadow → (gBank b s).due ≤ s.clk.ns →
    mean.natAbs ≤ clampNat (s.get F.GATH_ROT_MATCHTOL) 1 63 * 16 → Does (.shadowComplete b (some mean)) s fun t =>
      (gBank b t).stage = .swap ∧ (gBank b t).cand = (gBank b s).cand ∧ NoLog s t ∧ Keeps [] s t) ∧
  (∀ (s : State) (b : Fin 3), (gBank b s).stage = .shadow → (gBank b s).due ≤ s.clk.ns → (gBank b s).count = 256 →
    (gBank b s).sum.natAbs ≤ clampNat (s.get F.GATH_ROT_MATCHTOL) 1 63 * 256 → Does (.shadowComplete b none) s fun t =>
      (gBank b t).stage = .swap ∧ (gBank b t).cand = (gBank b s).cand ∧ (gBank b t).second = false ∧ NoLog s t ∧ Keeps [] s t) ∧
  (∀ (s : State) (b : Fin 3) (mean : Int), (gBank b s).stage = .shadow → (gBank b s).due ≤ s.clk.ns →
    clampNat (s.get F.GATH_ROT_MATCHTOL) 1 63 * 16 < mean.natAbs → Does (.shadowComplete b (some mean)) s fun t =>
      (gBank b t).stage = .recalSpare ∧ t.bit F.GATH_FLT_MIS b = true ∧
      Logged 0x03 0x0002 ([b8 b, b8 (gBank b s).cand, b8 (gBank b s).spare, b8 ((gLaneOf b (gBank b s).cand s).getD 0)] ++ bytesOfNat 2 (ofSigned 16 mean)) s t ∧
      Keeps [Reg.GATH_FLT] s t) ∧
  (∀ (s : State) (b : Fin 3), (gBank b s).stage = .shadow → (gBank b s).due ≤ s.clk.ns → (gBank b s).count = 256 →
    clampNat (s.get F.GATH_ROT_MATCHTOL) 1 63 * 256 < (gBank b s).sum.natAbs → Does (.shadowComplete b none) s fun t =>
      (gBank b t).stage = .recalSpare ∧ (gBank b t).due = s.clk.ns + (if b = 2 then 1766400 else 87040) ∧ t.bit F.GATH_FLT_MIS b = true ∧
        Keeps [Reg.GATH_FLT] s t) ∧
  (∀ (s : State) (b : Fin 3) (lane : Nat), (gBank b s).stage = .swap → (gBank b s).due ≤ s.clk.ns → gLaneOf b (gBank b s).cand s = some lane →
    (gBank b s).spare < 16 → Does (.laneSwap b) s fun t =>
      (gBank b t).stage = .calibrate ∧ (gBank b t).due = s.clk.ns + (if b = 2 then 1766400 else 87040) ∧ (gBank b t).took = (gBank b s).spare ∧
        t.get (gLaneFld b lane) = (gBank b s).spare ∧ gSpare b t = 15 ∧ NoLog s t ∧
      Keeps [(gLaneFld b lane).addr, Reg.GATH_SPARE] s t) ∧
  (∀ (s : State) (b : Fin 3) (coefs : List Int), (gBank b s).stage = .recalSpare → (gBank b s).due ≤ s.clk.ns → (gBank b s).spare < gSlices b →
    calBad b coefs = none → Does (.calibrationComplete b (some coefs)) s fun t =>
      (gBank b t).stage = .shadowAgain ∧ gCald b (gBank b s).spare t = true ∧
      (∀ k : Fin 2, calGet b (gBank b s).spare k t = BitVec.ofNat 32 (ofSigned 16 (coefs.getD k 0))) ∧ NoLog s t ∧ Keeps [Reg.GATH_CALD] s t) ∧
  (∀ (s : State) (b : Fin 3) (i : Nat) (ticket : Byte) (arg : BitVec 16), Fresh Reg.GATH_ACT ticket s → gSliceArg arg = some (b, i) →
    gBusy b s = false → gSpare b s = i → Does (.calslice ticket arg) s fun t =>
      (gBank b t).stage = .calibrate ∧ (gBank b t).cand = i ∧ t.bit F.GATH_BSTAT_STEP b = true ∧
        t.rd Reg.GATH_ACT = ticket ++ (arg &&& 0x30f) ++ (3 : Byte) ∧ NoLog s t ∧
      Keeps [Reg.GATH_BSTAT, Reg.GATH_ACT] s t) ∧
  (∀ (s : State) (b : Fin 3) (i : Nat) (ticket : Byte) (arg : BitVec 16), Fresh Reg.GATH_ACT ticket s → gSliceArg arg = some (b, i) →
    gBusy b s = false → gSpare b s = i → Does (.retire ticket arg) s fun t =>
      gRetired b i t = true ∧ gSpare b t = 15 ∧ t.rd Reg.GATH_ACT = ticket ++ (arg &&& 0x30f) ++ (4 : Byte) ∧ NoLog s t ∧
      Keeps [Reg.GATH_POOL, Reg.GATH_SPARE, Reg.GATH_ACT] s t) ∧
  (∀ (s : State) (b : Fin 3) (i : Nat) (ticket : Byte) (arg : BitVec 16), Fresh Reg.GATH_ACT ticket s → gSliceArg arg = some (b, i) →
    gBusy b s = false → gRetired b i s = true → Does (.restore ticket arg) s fun t =>
      (gBank b t).stage = .calibrate ∧ (gBank b t).kind = .restore ∧ (gBank b t).cand = i ∧ t.bit F.GATH_BSTAT_STEP b = true ∧
      t.rd Reg.GATH_ACT = ticket ++ (arg &&& 0x30f) ++ (5 : Byte) ∧ NoLog s t ∧ Keeps [Reg.GATH_BSTAT, Reg.GATH_ACT] s t) ∧
  (∀ (s : State) (b : Fin 3) (ticket : Byte) (arg : BitVec 16), Fresh Reg.GATH_ACT ticket s → gBanks arg = [b] → gBusy b s = false →
    s.lop[(3 : Fin 5)].running = false → gPool b s ≠ [] → gHasSpare b s = true → Does (.fullcal (.action ticket arg)) s fun t =>
      t.bit F.GATH_BSTAT_FULL b = true ∧ t.bit F.GATH_BSTAT_STEP b = true ∧ t.lop[(3 : Fin 5)].running = true ∧ (gBank b t).kind = .calslice ∧
      t.rd Reg.GATH_ACT = ticket ++ (arg &&& 0x30f) ++ (2 : Byte) ∧ SameMem s t)

/-- Gather sequencers: triggers, entries, time-out and disable (R90, R95, R96, R97, R98, R99; tier 2, derived). A software trigger or a stamp crossing
starts an idle sequencer at entry 0, the end of an entry writes its result, a time-out abandons the run, a disable drops a pending start. The start of
a CONT sequencer, its pending start, the advance of a passed stamp and the settling time are the model's choice (log entries 14, 18, 48 and 54). -/
def Obligations.GatherSequencers : Prop :=
  (∀ (s : State) (ticket : Byte) (arg : BitVec 16), Fresh Reg.GATH_ACT ticket s → s.on (F.GSQn_CTL_EN (Fin.ofNat 16 arg.toNat)) = true →
    s.get (F.GSQn_CTL_TRIG (Fin.ofNat 16 arg.toNat)) = 0 → s.on (F.GSQn_STAT_BUSY (Fin.ofNat 16 arg.toNat)) = false →
    s.on (F.GSQn_STAT_PEND (Fin.ofNat 16 arg.toNat)) = false → Does (.start ticket arg) s fun t =>
      t.on (F.GSQn_STAT_BUSY (Fin.ofNat 16 arg.toNat)) = true ∧ t.gath.seq[Fin.ofNat 16 arg.toNat].entry = 0 ∧
      t.rd Reg.GATH_ACT = ticket ++ (arg &&& 0x30f) ++ (0x10 : Byte) ∧ NoLog s t ∧ Keeps [Reg.GATH_ACT, Reg.GSQn_STAT (Fin.ofNat 16 arg.toNat)] s t) ∧
  (∀ (s : State) (n : Fin 16), s.on (F.GSQn_CTL_EN n) = true → s.get (F.GSQn_CTL_TRIG n) = 2 → s.gath.seq[n].armable = true →
    s.get (F.GSQn_STEP_STEP n) = 0 → s.on (F.GSQn_STAT_BUSY n) = false → s.on (F.GSQn_STAT_PEND n) = false → Does (.sequencerStampCrossing n) s fun t =>
      t.on (F.GSQn_STAT_BUSY n) = true ∧ t.gath.seq[n].entry = 0 ∧ t.gath.seq[n].armable = false ∧ NoLog s t ∧ Keeps [Reg.GSQn_STAT n] s t) ∧
  (∀ (s : State) (n : Fin 16) (level : Option (BitVec 16)), s.on (F.GSQn_STAT_BUSY n) = true → s.on (F.GSQn_CTL_EN n) = true →
    s.gath.seq[n].stop = false → fldOf (F.GSQn_ENTe_LAST 0 0) (s.rd (Reg.GSQn_ENTe n s.gath.seq[n].entry)) = 0 → s.gath.seq[n].entry ≠ 31 →
    fldOf (F.GSQn_ENTe_KIND 0 0) (s.rd (Reg.GSQn_ENTe n s.gath.seq[n].entry)) = 1 →
    s.gath.seq[n].count = 2 ^ fldOf (F.GSQn_ENTe_AVG 0 0) (s.rd (Reg.GSQn_ENTe n s.gath.seq[n].entry)) → Does (.sequencerEntryEnd n level) s fun t =>
      t.get (F.GSQn_RESe_VALID n s.gath.seq[n].entry) = 1 ∧ t.get (F.GSQn_RESe_RANGE n s.gath.seq[n].entry) = 0 ∧
      t.get (F.GSQn_RESe_VALUE n s.gath.seq[n].entry) = ofSigned (F.GSQn_RESe_VALUE 0 0).width
      (entValue 1 (fldOf (F.GSQn_ENTe_AVG 0 0) (s.rd (Reg.GSQn_ENTe n s.gath.seq[n].entry))) s.gath.seq[n].sum) ∧
      t.gath.seq[n].entry = s.gath.seq[n].entry + 1 ∧ NoLog s t ∧ Keeps [Reg.GSQn_RESe n s.gath.seq[n].entry] s t) ∧
  (∀ (s : State) (n : Fin 16), s.on (F.GSQn_STAT_BUSY n) = true → Does (.sequencerTimeout n) s fun t =>
      t.get (F.GSQn_STAT_BUSY n) = 0 ∧ t.get (F.GSQn_STAT_TMO n) = 1 ∧ Logged 0x03 0x0008 [b8 n, b8 s.gath.seq[n].entry] s t ∧
      t.evm = ((s.put (F.GSQn_STAT_BUSY n) 0).fire (96 + n)).evm ∧ Keeps [Reg.GSQn_STAT n, Reg.EVM_FAST] s t) ∧
  (∀ (s : State) (n : Fin 16) (value : Word), Does (.sequencerDisable n value) s fun t =>
      t.on (F.GSQn_CTL_EN n) = false ∧ t.on (F.GSQn_STAT_PEND n) = false ∧ t.get (F.GSQn_STAT_BUSY n) = s.get (F.GSQn_STAT_BUSY n) ∧ NoLog s t ∧
      Keeps [Reg.GSQn_CTL n, Reg.GSQn_STAT n] s t)

/-- VSET requests by register, the slew step and the release of HOLD (R107, R108, R109, R110, R127, R128; tier 2, derived). A valid unmasked host or PMBus
request becomes the target and its source at once, an out-of-range one is counted and logged and leaves the target, a slew step moves S by one code,
clearing HOLD counts as the write of every pending value of the rail. -/
def Obligations.VoltageRequests : Prop :=
  (∀ (s : State) (r : Fin 4) (value : Word), (s.lv (F.MRVr_VSRC_MASK r)).testBit 2 = true → vsetOk r (fldOf (F.MRVr_VSHOST_VSET r) value) s = true →
    s.mrv[r].arrAt < s.clk.ns → Does (.vshostWrite r value) s fun t =>
      t.get (F.MRVr_VSNOW_T r) = fldOf (F.MRVr_VSHOST_VSET r) value ∧ t.get (F.MRVr_VSNOW_SRC r) = 2 ∧
        t.get (F.MRVr_VSNOW_S r) = s.get (F.MRVr_VSNOW_S r) ∧
      t.mrv[r].arrSrc = some 2 ∧ NoLog s t ∧ Keeps [Reg.MRVr_VSHOST r, Reg.MRVr_VSNOW r] s t) ∧
  (∀ (s : State) (r : Fin 4) (value : Word), (s.lv (F.MRVr_VSRC_MASK r)).testBit 3 = true → vsetOk r (fldOf (F.MRVr_VSPMB_VSET r) value) s = true →
    s.mrv[r].arrAt < s.clk.ns → Does (.vspmbWrite r value) s fun t =>
      t.get (F.MRVr_VSNOW_T r) = fldOf (F.MRVr_VSPMB_VSET r) value ∧ t.get (F.MRVr_VSNOW_SRC r) = 3 ∧
        t.get (F.MRVr_VSNOW_S r) = s.get (F.MRVr_VSNOW_S r) ∧
      t.mrv[r].arrSrc = some 3 ∧ NoLog s t ∧ Keeps [Reg.MRVr_VSPMB r, Reg.MRVr_VSNOW r] s t) ∧
  (∀ (s : State) (r : Fin 4) (value : Word), (s.lv (F.MRVr_VSRC_MASK r)).testBit 2 = true →
    vsetOk r (fldOf (F.MRVr_VSHOST_VSET r) value) s = false → Does (.vshostWrite r value) s fun t =>
      t.rd (Reg.MRVr_VSNOW r) = s.rd (Reg.MRVr_VSNOW r) ∧ t.mrv = s.mrv ∧
      Logged 0x04 0x0002 ([b8 r, 2] ++ bytesOfNat 2 (fldOf (F.MRVr_VSHOST_VSET r) value)) s t ∧ Keeps [Reg.MRVr_VSHOST r, Reg.MRVr_VSREJ r] s t) ∧
  (∀ (s : State) (r : Fin 4), mState r s = 3 → vS r s + 1 < vGoal r s → Does (.slewStep r) s fun t =>
      vS r t = vS r s + 1 ∧ vGoal r t = vGoal r s ∧ mState r t = 3 ∧ (s.clk.ns + slewDiv r s, .slewStep r) ∈ t.timers ∧ NoLog s t ∧
        Keeps [Reg.MRVr_VSNOW r] s t) ∧
  (∀ (s : State) (r : Fin 4) (value : Word), s.on (F.MRVr_UPD_HOLD r) = true → Does (.updHoldClear r value) s fun t =>
      t.on (F.MRVr_UPD_HOLD r) = false ∧ t.shadow = s.shadow.map (fun p => if shadowMine r p s then { p with at_ := s.clk.ns } else p) ∧
      t.live = s.live ∧ NoLog s t ∧ Keeps [Reg.MRVr_UPD r] s t)

/-- The setpoint DAC, the clears, feedforward and input voltage results (R106, R112, R115, R117, R130; tier 2, derived). The DAC takes S less the droop;
COMPENSATOR_CLEAR is remembered for the next sample and BALANCE_CLEAR clears the trims; a stale feedforward is flagged and logged once; a VIN result
is stored and refreshes every rail's VIN. That VIN_RESULT outside its slot sets the level of the channel is the model's choice (log entry 44). -/
def Obligations.RegulationLoop : Prop :=
  (∀ (s : State) (r : Fin 4), Does (.setpointDacLoad r) s fun t =>
      t.get (F.MRVr_ILF_VT r) = min 65535 (s.get (F.MRVr_VSNOW_S r) - ((max s.mrv[r].iF 0).toNat * min (s.lv (F.MRVr_LL_RLL r)) 200 + 40) / 80) ∧
      t.get (F.MRVr_ILF_IF r) = s.get (F.MRVr_ILF_IF r) ∧ NoLog s t ∧ Keeps [Reg.MRVr_ILF r] s t) ∧
  (∀ (s : State) (ticket : Byte) (arg : BitVec 16), Fresh Reg.MRV_ACT ticket s → Does (.compensatorClear ticket arg) s fun t =>
      t.mrv[Fin.ofNat 4 arg.toNat].clear = true ∧ t.rd Reg.MRV_ACT = ticket ++ (arg &&& 0x3) ++ (1 : Byte) ∧ NoLog s t ∧ Keeps [Reg.MRV_ACT] s t) ∧
  (∀ (s : State) (ticket : Byte) (arg : BitVec 16), Fresh Reg.MRV_ACT ticket s → Does (.balanceClear ticket arg) s fun t =>
      (railList (Fin.ofNat 4 arg.toNat) s).all (fun p => t.phase[p].bal == 0) = true ∧ t.rd Reg.MRV_ACT = ticket ++ (arg &&& 0x3) ++ (2 : Byte) ∧
        NoLog s t ∧
      Keeps (Reg.MRV_ACT :: (List.range 24).map (Reg.MRVr_BALTRIMk (Fin.ofNat 4 arg.toNat))) s t) ∧
  (∀ (s : State) (r : Fin 4), ffGuard r s = true → s.on (F.MRVr_STAT_FFSTALE r) = false → Does (.ffStale r) s fun t =>
      t.on (F.MRVr_STAT_FFSTALE r) = true ∧ Logged 0x04 0x0004 (b8 r :: bytesOfNat 2 s.mrv[r].vinLast) s t ∧ Keeps [Reg.MRVr_STAT r] s t) ∧
  (∀ (s : State) (code : BitVec 16), s.gath.ta[(0 : Fin 2)].ready = some 0 → s.gath.ta[(0 : Fin 2)].code = code →
    (∀ r : Fin 4, railEn r s = false) → Does (.vinResult code) s fun t =>
      t.get F.GATH_VINRES_VINRES = code.toNat ∧ t.gath.vinAt = s.clk.ns ∧
        (∀ r : Fin 4, t.mrv[r].vinLast = (code.toNat * s.mrv[r].vinscl + 32768) / 65536) ∧ NoLog s t ∧
      Keeps [Reg.GATH_VINRES, Reg.MRVr_STAT 0, Reg.MRVr_STAT 1, Reg.MRVr_STAT 2, Reg.MRVr_STAT 3] s t) ∧
  (∀ (s : State) (code : BitVec 16), s.gath.ta[(0 : Fin 2)].ready = none → Does (.vinResult code) s fun t =>
      t.gath.ain[(0 : Fin 32)] = some code ∧ t.mrv = s.mrv ∧ t.gath.vinAt = s.gath.vinAt ∧ NoLog s t ∧ Keeps [] s t)

/-- Rail protection: what each detector event declares (R132, R133, R135, R142, R148, R151, R158, R159; tier 2, derived). Each detector event of a rail
makes its condition present, sets the fault's flag and logs it where the response does not stop the rail; results below the thresholds are stored and
declare nothing; the blanking and the HICOK time end. -/
def Obligations.ProtectionDetectors : Prop :=
  (∀ (s : State) (r : Fin 4), s.prot[r].ovSince.isSome = true → s.on (F.GATH_CMPr_STAT_OVNOW r) = true → detAct r 0 s = true →
    condOn r 0 s = false → respOf r 0 s = 1 → Does (.ovPersistence r) s fun t =>
      condOn r 0 t = true ∧ t.bit (F.PROTr_FLAG_DECL r) 0 = true ∧ pState r t = pState r s ∧
      LastLog 0x05 0x0001 ([b8 r, 0, 1, 255] ++ bytesOfNat 2 (ofSigned 16 s.mrv[r].e)) s t ∧ SameMem s t) ∧
  (∀ (s : State) (r : Fin 4), s.prot[r].uvSince.isSome = true → detAct r 1 s = true → condOn r 1 s = false → respOf r 1 s = 1 → Does (.uvPersistence r) s fun t =>
      condOn r 1 t = true ∧ t.bit (F.PROTr_FLAG_DECL r) 1 = true ∧ pState r t = pState r s ∧
      LastLog 0x05 0x0001 ([b8 r, 1, 1, 255] ++ bytesOfNat 2 (ofSigned 16 s.mrv[r].e)) s t ∧ SameMem s t) ∧
  (∀ (s : State) (r : Fin 4), Does (.uvBlankExpiry r) s fun t =>
      t.prot[r].uvBlank = false ∧ NoLog s t ∧ Keeps [] s t) ∧
  (∀ (s : State) (r : Fin 4), railEn r s = true → condOn r 4 s = false → respOf r 4 s = 1 → Does (.sfFilterExpiry r true) s fun t =>
      condOn r 4 t = true ∧ t.bit (F.PROTr_FLAG_DECL r) 4 = true ∧ pState r t = pState r s ∧
      LastLog 0x05 0x0001 ([b8 r, 4, 1, 255] ++ bytesOfNat 2 (ofSigned 16 (tmonMv (s.get (F.GATH_TMONRESr_TMONRES r))))) s t ∧ SameMem s t) ∧
  (∀ (s : State) (r : Fin 4) (code : BitVec 16), s.gath.ta[(1 : Fin 2)].ready = some r.succ → s.gath.ta[(1 : Fin 2)].code = code →
    railEn r s = false → Does (.tmonResult r code) s fun t =>
      t.get (F.GATH_TMONRESr_TMONRES r) = code.toNat ∧ NoLog s t ∧ Keeps [Reg.GATH_TMONRESr r] s t) ∧
  (∀ (s : State) (r : Fin 4), railEn r s = true → condOn r 5 s = false → respOf r 5 s = 1 → Does (.tmonTimeout r) s fun t =>
      t.on (F.PROTr_STAT_TMLOW r) = true ∧ condOn r 5 t = true ∧ t.bit (F.PROTr_FLAG_DECL r) 5 = true ∧
      LastLog 0x05 0x0001 ([b8 r, 5, 1, 255] ++ bytesOfNat 2 (ofSigned 16 (tmonMv (s.get (F.GATH_TMONRESr_TMONRES r))))) s t ∧ SameMem s t) ∧
  (∀ (s : State) (r : Fin 4), railEn r s = true → condOn r 7 s = false → respOf r 7 s = 1 → (∀ q : Fin 4, q ≠ r → railEn q s = false) → Does .vinTimeout s fun t =>
      condOn r 7 t = true ∧ t.bit (F.PROTr_FLAG_DECL r) 7 = true ∧ t.prot[r].vin = true ∧
      LastLog 0x05 0x0001 ([b8 r, 7, 1, 255] ++ bytesOfNat 2 (ofSigned 16 s.mrv[r].vinLast)) s t ∧ SameMem s t) ∧
  (∀ (s : State) (r : Fin 4), mState r s = 3 → Does (.hicokExpiry r) s fun t =>
      t.get (F.PROTr_STAT_HCNT r) = 0 ∧ NoLog s t ∧ Keeps [Reg.PROTr_STAT r] s t)

/-- Protection actions: clearing a latch, aborting a hiccup, returning a phase, a latching stop (R144, R149, R151, R153, R154, R155, R157; tier 2,
derived). CLEAR takes a latched rail with nothing present to NORMAL and OFF and logs it, a refused CLEAR is flagged and logged; ABORT latches a rail
in HICWAIT; RESTOREPH returns a phase of an idle rail at once; an overvoltage whose response is LATCH_OFF, on a rail in NORMAL that is not INERT,
leaves the rail LATCHED, its edge generator in HALT, its engine STOPPED with N = 0 and the fault's flag set, with motors, angles and memory untouched. -/
def Obligations.ProtectionActions : Prop :=
  (∀ (s : State) (ticket : Byte) (arg : BitVec 16), Fresh Reg.PROT_ACT ticket s → pState (Fin.ofNat 4 arg.toNat) s = 3 →
    stopPresent (Fin.ofNat 4 arg.toNat) s = false → Does (.protClear ticket arg) s fun t =>
      pState (Fin.ofNat 4 arg.toNat) t = 0 ∧ railEn (Fin.ofNat 4 arg.toNat) t = false ∧ eState (Fin.ofNat 4 arg.toNat) t = 0 ∧
        mState (Fin.ofNat 4 arg.toNat) t = 0 ∧
      t.get (F.PROTr_STAT_HCNT (Fin.ofNat 4 arg.toNat)) = 0 ∧ t.rd Reg.PROT_ACT = ticket ++ (arg &&& 0x3) ++ (1 : Byte) ∧ SameMem s t) ∧
  (∀ (s : State) (ticket : Byte) (arg : BitVec 16), Fresh Reg.PROT_ACT ticket s → pState (Fin.ofNat 4 arg.toNat) s = 3 →
    stopPresent (Fin.ofNat 4 arg.toNat) s = true → Does (.protClear ticket arg) s fun t =>
      t.get F.PROT_FLT_CLRREF = 1 ∧ Logged 0x05 0x0006 ([b8 (Fin.ofNat 4 arg.toNat), 1] ++ bytesOfNat 2 (condMask (Fin.ofNat 4 arg.toNat) s)) s t ∧
      Keeps [Reg.PROT_FLT, Reg.PROT_ACT] s t) ∧
  (∀ (s : State) (ticket : Byte) (arg : BitVec 16), Fresh Reg.PROT_ACT ticket s → pState (Fin.ofNat 4 arg.toNat) s = 2 → Does (.abort ticket arg) s fun t =>
      pState (Fin.ofNat 4 arg.toNat) t = 3 ∧ t.get (F.PROTr_FLAG_LATF (Fin.ofNat 4 arg.toNat)) = 1 ∧
        t.rd Reg.PROT_ACT = ticket ++ (arg &&& 0x3) ++ (2 : Byte) ∧ NoLog s t ∧
      Keeps [Reg.PROTr_STAT (Fin.ofNat 4 arg.toNat), Reg.PROTr_FLAG (Fin.ofNat 4 arg.toNat), Reg.PROT_ACT, Reg.EVM_FAST] s t) ∧
  (∀ (s : State) (ticket : Byte) (arg : BitVec 16), Fresh Reg.PROT_ACT ticket s → phaseOos (Fin.ofNat 32 (arg.toNat / 256)) s = true →
    railOf (Fin.ofNat 32 (arg.toNat / 256)) s = none → s.bit F.GATH_IMFLT_IMFLT (arg.toNat / 256 % 32) = false → Does (.restoreph ticket arg) s fun t =>
      phaseOos (Fin.ofNat 32 (arg.toNat / 256)) t = false ∧ t.rd Reg.PROT_ACT = ticket ++ (arg &&& 0x1f00) ++ (3 : Byte) ∧ NoLog s t ∧
        Keeps [Reg.PROT_OOS, Reg.PROT_ACT] s t) ∧
  (∀ (s : State) (r : Fin 4), s.prot[r].ovSince.isSome = true → s.on (F.GATH_CMPr_STAT_OVNOW r) = true → detAct r 0 s = true →
    condOn r 0 s = false → respOf r 0 s = 4 → (pState r s = 0 ∨ pState r s = 1) → eState r s ≠ 4 → Does (.ovPersistence r) s fun t =>
      pState r t = 3 ∧ eState r t = 3 ∧ mState r t = 4 ∧ railN r t = 0 ∧ t.bit (F.PROTr_FLAG_DECL r) 0 = true ∧ t.get (F.PROTr_FLAG_LATF r) = 1 ∧
      t.get (F.PROTr_CNT_STOPS r) = satInc (F.PROTr_CNT_STOPS r).width (s.get (F.PROTr_CNT_STOPS r)) 1 ∧ t.dom = s.dom ∧ t.mot = s.mot ∧ SameMem s t)

/-- Slots, pulses and the off state of a phase (R144, R167, R170, R171, R172, R173, R174, R175, R176; tier 2, derived). An on-edge commit of a request of
at least MINON prepares a pulse, a slot crossing starts it at the slot's fine time, an off-edge takes the phase LOW with its minimum off-time running,
the ends of the minimum times and of a stop's hold follow. When a LIMIT hold ends and what a joining phase rests at are the model's reading (log entry
46). -/
def Obligations.Pulses : Prop :=
  (∀ (s : State) (p : Fin 32) (r : Fin 4), railOf p s = some r → mRunning r s = true → (active r s).contains p = true → tonUsed r p s ≠ 0 →
    64 * minOn r s ≤ tonUsed r p s + s.phase[p].carry → Does (.onEdgeCommit p) s fun t =>
      t.phase[p].quiet = false ∧ t.phase[p].commit = some s.phase[p].carry ∧ t.phase[p].out = s.phase[p].out ∧ NoLog s t ∧ Keeps [] s t) ∧
  (∀ (s : State) (p : Fin 32) (r : Fin 4), railOf p s = some r → mRunning r s = true → (active r s).contains p = true → tonUsed r p s ≠ 0 →
    tonUsed r p s + s.phase[p].carry < 64 * minOn r s → s.lv (F.EDGEr_CTL_SPM r) = 1 → Does (.onEdgeCommit p) s fun t =>
      t.phase[p].commit = none ∧ t.phase[p].carry = 0 ∧
        t.get (F.EDGEr_CNT_SHORT r) = satInc (F.EDGEr_CNT_SHORT r).width (s.get (F.EDGEr_CNT_SHORT r)) 1 ∧ NoLog s t ∧
      Keeps [Reg.EDGEr_CNT r] s t) ∧
  (∀ (s : State) (p : Fin 32) (r : Fin 4) (k c : Nat), railOf p s = some r → posOf r p s = some k → mRunning r s = true →
    (active r s).contains p = true → s.phase[p].limited = false → s.phase[p].quiet = false →
    slotBlocked r p (s.phase[p].slotT.getD (onEdgeTime r p k s)) s = false → s.phase[p].commit = some c → s.phase[p].commitStretch = false → Does (.slotCrossing p) s fun t =>
      t.phase[p].out = .high ∧ t.phase[p].onT = s.phase[p].slotT.getD (onEdgeTime r p k s) ∧ t.phase[p].carry = 0 ∧ t.phase[p].cUsed = c ∧
        t.phase[p].offT.isSome = true ∧
      t.mrv[r].lastPos = k ∧ NoLog s t ∧ Keeps [] s t) ∧
  (∀ (s : State) (p : Fin 32) (r : Fin 4), railOf p s = some r → s.phase[p].out = .high → s.phase[p].forced = false →
    (active r s).contains p = true → s.on (F.MRVr_STAT_OVBLK r) = false → Does (.offEdge p) s fun t =>
      t.phase[p].out = .low ∧ t.phase[p].minOff = true ∧ t.phase[p].offT = none ∧
        t.phase[p].minOffT = s.phase[p].offT.getD s.now64 + 64 * minOff r s ∧
        (s.clk.ns + ((s.phase[p].offT.getD s.now64 + 64 * minOff r s + 63) / 64 - s.clk.ns), .minOffTimeEnd p) ∈ t.timers ∧ NoLog s t ∧ Keeps [] s t) ∧
  (∀ (s : State) (p : Fin 32), s.phase[p].out = .low → s.phase[p].held = none → railOf p s = none → Does (.minOffTimeEnd p) s fun t =>
      t.phase[p].out = .mid ∧ t.phase[p].minOff = false ∧ NoLog s t ∧ Keeps [] s t) ∧
  (∀ (s : State) (p : Fin 32) (r : Fin 4), s.phase[p].out = .high → s.phase[p].offPending = true → s.phase[p].held = some r → Does (.minOnTimeEnd p) s fun t =>
      t.phase[p].out = .low ∧ t.phase[p].minOff = true ∧ t.phase[p].toMid = true ∧ t.phase[p].offPending = false ∧ NoLog s t ∧ Keeps [] s t) ∧
  (∀ (s : State) (r : Fin 4) (p : Fin 32), s.edge[r].lowHold = true → holdWaits r s = false → s.phase[p].held = some r → eState r s = 3 →
    s.edge[r].roseAt = none → mRunning r s = false → Does (.stopLowHoldEnd r) s fun t =>
      t.edge[r].lowHold = false ∧ t.phase[p].out = .mid ∧ t.phase[p].held = none ∧ t.get (F.EDGEr_STAT_ENOUT r) = 0 ∧ NoLog s t ∧
        Keeps [Reg.EDGEr_STAT r] s t)

/-- Enable, disable, restart, freeze, inert and release of a rail (R147, R164, R179, R180, R181, R182, R183, R184, R185; tier 2, derived). An enable that
nothing refuses takes the rail to ENWAIT, a refused one is flagged and logged; a disable takes it to OFF; a hiccup restart waits in ENWAIT with NORMAL
protection; freeze, its end, inert and release change the state, the counts and the log as the rules say. That a low hold with no phase to hold ends
at once is the model's reading (log entry 19). -/
def Obligations.RailStates : Prop :=
  (∀ (s : State) (r : Fin 4) (value : Word), slotOn (Reg.EDGEr_CTL r) s = true → eState r s = 0 → enableRefusal r s = none →
    s.clk.ns < s.gath.vinAt + 64000 → s.get F.GATH_IMFLT_IMFLT = 0 → Does (.edgeEnable r value) s fun t =>
      railEn r t = true ∧ eState r t = 1 ∧ t.edge[r].enAt = some s.clk.ns ∧ t.edge[r].keepT = false ∧
        t.get (F.EDGEr_STAT_ENOUT r) = s.get (F.EDGEr_STAT_ENOUT r) ∧ SameMem s t) ∧
  (∀ (s : State) (r : Fin 4) (value : Word), slotOn (Reg.EDGEr_CTL r) s = true → eState r s = 0 → enableRefusal r s = some (1, (railDom r s).val) → Does (.edgeEnable r value) s fun t =>
      railEn r t = false ∧ eState r t = 0 ∧ t.bit F.EDGE_FLT_ENREF r = true ∧ LastLog 0x06 0x0001 [b8 r, 1, b8 (railDom r s).val] s t ∧ SameMem s t) ∧
  (∀ (s : State) (r : Fin 4) (value : Word), slotOn (Reg.EDGEr_CTL r) s = true → eState r s = 2 → Does (.edgeDisable r value) s fun t =>
      railEn r t = false ∧ eState r t = 0 ∧ mState r t = 0 ∧ railN r t = 0 ∧ pState r t = 0 ∧ t.on (F.EDGEr_STAT_FRZ r) = false ∧ t.dom = s.dom ∧
        SameMem s t) ∧
  (∀ (s : State) (r : Fin 4), hicReady r s = true → 0 < s.lv (F.EDGEr_TIME_ENDLY r) → Does (.hiccupRestart r) s fun t =>
      eState r t = 1 ∧ pState r t = 0 ∧ t.get (F.EDGEr_STAT_ENOUT r) = 1 ∧ t.edge[r].roseAt = some s.clk.ns ∧ t.edge[r].keepT = true ∧
      Logged 0x05 0x0003 [b8 r, b8 (s.get (F.PROTr_STAT_HCNT r))] s t ∧ Keeps [Reg.PROTr_STAT r, Reg.EDGEr_STAT r] s t) ∧
  (∀ (s : State) (r : Fin 4) (ticket : Byte), Fresh Reg.EDGE_ACT ticket s → eState r s = 2 → s.on (F.EDGEr_STAT_FRZ r) = false → Does (.freeze r (some ticket)) s fun t =>
      t.on (F.EDGEr_STAT_FRZ r) = true ∧ t.get (F.EDGEr_STAT_FRZLEFT r) = s.get (F.EDGEr_FRZ_FRZTURNS r) ∧
      t.get (F.EDGEr_CNT_FRZ r) = satInc (F.EDGEr_CNT_FRZ r).width (s.get (F.EDGEr_CNT_FRZ r)) 1 ∧ eState r t = 2 ∧
      t.rd Reg.EDGE_ACT = ticket ++ (BitVec.ofNat 16 r) ++ (1 : Byte) ∧ SameMem s t) ∧
  (∀ (s : State) (ticket : Byte) (arg : BitVec 16), Fresh Reg.EDGE_ACT ticket s → s.on (F.EDGEr_STAT_FRZ (Fin.ofNat 4 arg.toNat)) = true → Does (.unfreeze ticket arg) s fun t =>
      t.on (F.EDGEr_STAT_FRZ (Fin.ofNat 4 arg.toNat)) = false ∧ t.get (F.EDGEr_STAT_FRZLEFT (Fin.ofNat 4 arg.toNat)) = 0 ∧
      t.rd Reg.EDGE_ACT = ticket ++ (arg &&& 0x3) ++ (2 : Byte) ∧ NoLog s t ∧ Keeps [Reg.EDGE_ACT, Reg.EDGEr_STAT (Fin.ofNat 4 arg.toNat)] s t) ∧
  (∀ (s : State) (r : Fin 4), s.on (F.EDGEr_STAT_FRZ r) = true → Does (.freezeEnd r) s fun t =>
      t.on (F.EDGEr_STAT_FRZ r) = false ∧ t.get (F.EDGEr_STAT_FRZLEFT r) = 0 ∧ NoLog s t ∧ Keeps [Reg.EDGEr_STAT r] s t) ∧
  (∀ (s : State) (r : Fin 4), eState r s = 2 → Does (.inert r none) s fun t =>
      eState r t = 4 ∧ mState r t = 4 ∧ railN r t = 0 ∧ t.on (F.EDGEr_STAT_FRZ r) = false ∧
        LastLog 0x06 0x0002 [b8 r, 2, b8 (pState r s), b8 (railN r s)] s t ∧ SameMem s t) ∧
  (∀ (s : State) (ticket : Byte) (arg : BitVec 16), Fresh Reg.EDGE_ACT ticket s → eState (Fin.ofNat 4 arg.toNat) s = 4 →
    pState (Fin.ofNat 4 arg.toNat) s = 0 → Does (.release ticket arg) s fun t =>
      eState (Fin.ofNat 4 arg.toNat) t = 1 ∧ t.edge[Fin.ofNat 4 arg.toNat].keepT = true ∧
        t.rd Reg.EDGE_ACT = ticket ++ (arg &&& 0x3) ++ (4 : Byte) ∧
      Logged 0x06 0x0003 [b8 (Fin.ofNat 4 arg.toNat : Fin 4), 1] s t ∧ Keeps [Reg.EDGE_ACT, Reg.EDGEr_STAT (Fin.ofNat 4 arg.toNat)] s t)

/-- Voltage and current samples and the input guards (R79, R80, R86, R89, R101, R103, R111, R112, R132; tier 2, derived). A conversion that the sample
grid places here, of a lane that a powered slice serves, is corrected by that slice's coefficients: a voltage sample is the rail's error and ends
PREBIAS when it is not positive, and a current sample scales to 1/16 A; a saturation, an open IMON and a motor input below range are flagged and
logged; a conversion of an unserved lane changes nothing. Raw conversions are operands of the commands, and those that the grid does not place have no
effect (log entries 39 and 44). -/
def Obligations.Samples : Prop :=
  (∀ (s : State) (r : Fin 4) (k : Fin 8) (raw : BitVec 12) (e : Int), vLaneNow r s = some k → gServed 0 k (s.clk.ns - 6) s = true →
    s.gath.vLast[r] ≠ s.clk.ns + 1 → sarCode 0 (gSliceAt 0 k (s.clk.ns - 6) s) raw s - 2048 = e → (gBank 0 s).stage = .idle →
    ((List.finRange 16).any (fun n => s.on (F.GSQn_STAT_BUSY n)) = false) → mState r s = 1 → -2048 < e → e ≤ 0 → condOn r 8 s = false →
    s.on (F.GATH_CMPr_STAT_UVNOW r) = false → Does (.mergedSample r ⟨raw, none⟩) s fun t =>
      mState r t = 2 ∧ t.mrv[r].e = e ∧ t.gath.vsat[r].run = 0 ∧ NoLog s t ∧ Keeps [Reg.MRVr_STAT r, Reg.SYS_SPEED] s t) ∧
  (∀ (s : State) (r : Fin 4) (k : Fin 8) (raw : BitVec 12) (e : Int), vLaneNow r s = some k → gServed 0 k (s.clk.ns - 6) s = true →
    s.gath.vLast[r] ≠ s.clk.ns + 1 → sarCode 0 (gSliceAt 0 k (s.clk.ns - 6) s) raw s - 2048 = e → (gBank 0 s).stage = .idle →
    ((List.finRange 16).any (fun n => s.on (F.GSQn_STAT_BUSY n)) = false) → mState r s = 3 → e < 2047 → -2048 < e → detAct r 1 s = false →
    condOn r 8 s = false → s.lop[(0 : Fin 5)].running = false → Does (.mergedSample r ⟨raw, none⟩) s fun t =>
      t.mrv[r].e = e ∧ t.mrv[r].e1 = -e ∧ (t.mrv[r].pipe.getLast?).map (·.1) = some (s.clk.ns + 8) ∧ t.gath.vsat[r].run = 0 ∧ mState r t = 3 ∧
        NoLog s t ∧ Keeps [] s t) ∧
  (∀ (s : State) (r : Fin 4) (k : Fin 8) (raw : BitVec 12) (shadow : Option (BitVec 12)), vLaneNow r s = some k →
    gServed 0 k (s.clk.ns - 6) s = false → Does (.mergedSample r ⟨raw, shadow⟩) s fun t =>
      t = s) ∧
  (∀ (s : State) (r : Fin 4), detAct r 8 s = false → Does (.vSaturation r true) s fun t =>
      t.bit F.GATH_FLT_VSAT r = true ∧ Logged 0x03 0x0007 [b8 r, 1] s t ∧ Keeps [Reg.GATH_FLT] s t) ∧
  (∀ (s : State) (p : Fin 32), (rails.find? (fun r => (railList r s).contains p) = none) → Does (.imonOpen p) s fun t =>
      t.bit F.GATH_IMFLT_IMFLT p = true ∧ t.get F.GATH_FLT_IMOPEN = 1 ∧ t.phase[p].bal = 0 ∧
      Logged 0x03 0x0006 (b8 p :: bytesOfNat 2 (ofSigned 16 ((s.gath.imon[p].lastValid).getD 0))) s t ∧ Keeps [Reg.GATH_IMFLT, Reg.GATH_FLT] s t) ∧
  (∀ (s : State) (p : Fin 32) (raw : BitVec 12) (code : Nat), iPhaseNow p s = true → gServed 1 (p.val / 4) (s.clk.ns - 5) s = true →
    s.gath.iLast[Fin.ofNat 8 (p.val / 4)] ≠ s.clk.ns + 1 → sarCode 1 (gSliceAt 1 (p.val / 4) (s.clk.ns - 5) s) raw s = code →
    (gBank 1 s).stage = .idle → ((List.finRange 16).any (fun n => s.on (F.GSQn_STAT_BUSY n)) = false) → railOf p s = none → imonLow code = false → Does (.iSample p ⟨raw, none⟩) s fun t =>
      t.phase[p].isamp = imonScale p code s ∧ t.gath.imon[p].lastValid = some (imonScale p code s) ∧ t.gath.imon[p].run = 0 ∧ NoLog s t ∧
        Keeps [] s t) ∧
  (∀ (s : State) (p : Fin 32) (raw : BitVec 12) (shadow : Option (BitVec 12)), iPhaseNow p s = false → Does (.iSample p ⟨raw, shadow⟩) s fun t =>
      t = s) ∧
  (∀ (s : State) (ch : Fin 8), (∀ m : Fin 4, motorEn m s = false) → Does (.motorInputFault ch) s fun t =>
      t.bit F.GATH_MFLT_MFLT ch = true ∧ t.get F.GATH_FLT_MFLT = 1 ∧ SameMem s t)

/-- Undershoot and overshoot: Glory and blanking (R92, R93, R121, R122, R123, R125, R132; tier 2, derived). An undershoot of an enabled rail, a sensed
voltage below the threshold for the filter's time, is shown, counted and starts an episode that forces a phase on; its release ends the episode; a
forced phase is released at GLMAX; an overshoot is counted and blanks, its release ends the blanking; a voltage within the threshold, or beyond it for
less than the filter's time, changes nothing. That the comparator's input comes with the command is the model's choice (log entry 44). -/
def Obligations.Glory : Prop :=
  (∀ (s : State) (r : Fin 4) (v : Int) (beyond : Nat), v < uvThr r s → cmpFilt (s.get (F.GATH_CMPr_CTL_UVFILT r)) ≤ beyond →
    s.on (F.GATH_CMPr_CTL_UVEN r) = true → railEn r s = true → s.on (F.GATH_CMPr_STAT_UVNOW r) = false → mRunning r s = false →
    s.mrv[r].glory.active = false → Does (.undershootAssert ⟨r, v, beyond⟩) s fun t =>
      t.on (F.GATH_CMPr_STAT_UVNOW r) = true ∧ t.on (F.GATH_CMPr_STAT_UVSEEN r) = true ∧
        t.get (F.GATH_CMPr_CNT_UVCNT r) = satInc (F.GATH_CMPr_CNT_UVCNT r).width (s.get (F.GATH_CMPr_CNT_UVCNT r)) 1 ∧
      t.mrv[r].glory.start = s.clk.ns ∧ NoLog s t ∧ Keeps [Reg.GATH_CMPr_STAT r, Reg.GATH_CMPr_CNT r] s t) ∧
  (∀ (s : State) (r : Fin 4) (v : Int) (beyond : Nat), v < uvThr r s → cmpFilt (s.get (F.GATH_CMPr_CTL_UVFILT r)) ≤ beyond →
    s.on (F.GATH_CMPr_CTL_UVEN r) = true → railEn r s = true → s.on (F.GATH_CMPr_STAT_UVNOW r) = false → gloryCond r s = true →
    s.mrv[r].glory.active = false → Does (.undershootAssert ⟨r, v, beyond⟩) s fun t =>
      t.mrv[r].glory.active = true ∧ t.on (F.MRVr_STAT_GLACT r) = true ∧ t.on (F.GATH_CMPr_STAT_UVNOW r) = true ∧ t.mrv[r].glory.start = s.clk.ns ∧
        SameMem s t) ∧
  (∀ (s : State) (r : Fin 4) (v : Int), uvThr r s + cmpHyst r s ≤ v → s.on (F.GATH_CMPr_STAT_UVNOW r) = true → s.mrv[r].glory.active = true → Does (.undershootRelease ⟨r, v⟩) s fun t =>
      t.on (F.GATH_CMPr_STAT_UVNOW r) = false ∧ t.mrv[r].glory.active = false ∧ t.get (F.MRVr_STAT_GLACT r) = 0 ∧
        t.mrv[r].glory.hold = s.lv (F.MRVr_GL_GLHOLD r) ∧
      t.get (F.MRVr_GLCNT_EP r) = satInc (F.MRVr_GLCNT_EP r).width (s.get (F.MRVr_GLCNT_EP r)) 1 ∧ SameMem s t) ∧
  (∀ (s : State) (r : Fin 4) (p : Fin 32), s.mrv[r].glory.active = true → gloryCond r s = true → s.on (F.GATH_CMPr_STAT_OVNOW r) = false →
    s.lv (F.MRVr_GL_GLALL r) = 0 → active r s = [p] → forcedCount r s = 0 → s.mrv[r].glory.pos = 0 → s.phase[p].wasForced = false →
    s.phase[p].held = none → s.phase[p].minOff = false → limitHolds r p s = false → s.lv (F.MRVr_GL_GLSTAG r) ≠ 0 → Does (.gloryWalkerStep r) s fun t =>
      t.phase[p].forced = true ∧ t.phase[p].out = .high ∧ t.mrv[r].glory.forced = s.mrv[r].glory.forced + 1 ∧
      (s.clk.ns + zeroAsOne (s.lv (F.MRVr_GL_GLMAX r)) * 2, .gloryGlmaxRelease p) ∈ t.timers ∧ NoLog s t ∧ Keeps [] s t) ∧
  (∀ (s : State) (p : Fin 32) (r : Fin 4), railOf p s = some r → s.phase[p].forced = true → s.phase[p].out = .high →
    (active r s).contains p = true → s.on (F.MRVr_STAT_OVBLK r) = false → Does (.gloryGlmaxRelease p) s fun t =>
      t.phase[p].forced = false ∧ t.phase[p].out = .low ∧ t.phase[p].minOff = true ∧ t.mrv[r].glory.glmax = s.mrv[r].glory.glmax + 1 ∧ NoLog s t ∧
        Keeps [] s t) ∧
  (∀ (s : State) (r : Fin 4) (v : Int) (beyond : Nat), ovThr r s < v → cmpFilt (s.get (F.GATH_CMPr_CTL_OVFILT r)) ≤ beyond →
    s.on (F.GATH_CMPr_CTL_OVEN r) = true → railEn r s = true → s.on (F.GATH_CMPr_STAT_OVNOW r) = false → ovAct r s ≠ 0 → Does (.overshootAssert ⟨r, v, beyond⟩) s fun t =>
      t.on (F.GATH_CMPr_STAT_OVNOW r) = true ∧ t.on (F.GATH_CMPr_STAT_OVSEEN r) = true ∧ t.on (F.MRVr_STAT_OVBLK r) = true ∧
      t.get (F.GATH_CMPr_CNT_OVCNT r) = satInc (F.GATH_CMPr_CNT_OVCNT r).width (s.get (F.GATH_CMPr_CNT_OVCNT r)) 1 ∧ NoLog s t ∧
      Keeps [Reg.GATH_CMPr_STAT r, Reg.GATH_CMPr_CNT r, Reg.MRVr_GLCNT r, Reg.MRVr_STAT r] s t) ∧
  (∀ (s : State) (r : Fin 4) (v : Int), v ≤ ovThr r s - cmpHyst r s → s.on (F.GATH_CMPr_STAT_OVNOW r) = true → s.edge[r].lowHold = false → Does (.overshootRelease ⟨r, v⟩) s fun t =>
      t.on (F.GATH_CMPr_STAT_OVNOW r) = false ∧ t.on (F.MRVr_STAT_OVBLK r) = false ∧ condOn r 0 t = false ∧ t.prot[r].ovSince = none ∧ NoLog s t ∧
      Keeps [Reg.GATH_CMPr_STAT r, Reg.MRVr_STAT r, Reg.PROTr_STAT r] s t) ∧
  (∀ (s : State) (r : Fin 4) (v : Int) (beyond : Nat), uvThr r s ≤ v → Does (.undershootAssert ⟨r, v, beyond⟩) s fun t =>
      t = s) ∧
  (∀ (s : State) (r : Fin 4) (v : Int) (beyond : Nat), beyond < cmpFilt (s.get (F.GATH_CMPr_CTL_OVFILT r)) → Does (.overshootAssert ⟨r, v, beyond⟩) s fun t =>
      t = s)

/-- Apram lanes: clock recovery, blocks, the link's states (R191, R192, R193, R194, R196, R197, R198, R199; tier 2, derived). The block's header and its
descrambled bytes say what it is. A recovered clock takes a lane to HUNT and an unlock takes it DOWN, the 64th good header locks it, an IDLE, a MSG
and a data block are buffered, a FRAME with a wrong number is counted, a first valid one starts the lane's numbers and a second one FLEN slots later
takes the lane to FRAMED, the link time-out of one framed lane degrades the link, RETRAIN takes everything DOWN. A block arrives as its 66 bits,
whatever the row is called (log entries 39 and 58). -/
def Obligations.LinkLanes : Prop :=
  (∀ (s : State) (ln : Fin 2), s.on F.APR_CTL_EN = true → laneState ln s = 0 → s.apr.holdRx = false → Does (.clockRecovered ln) s fun t =>
      laneState ln t = 1 ∧ t.apr.lane[ln].good = 0 ∧ NoLog s t ∧ Keeps [Reg.APR_STAT] s t) ∧
  (∀ (s : State) (ln : Fin 2), linkState s = 0 → s.apr.lane[ln].joined = false → Does (.clockRecoveryUnlock ln) s fun t =>
      laneState ln t = 0 ∧ t.apr.lane[ln].cr = false ∧ t.apr.lane[ln].buf = [] ∧ NoLog s t ∧ Keeps [Reg.APR_STAT] s t) ∧
  (∀ (s : State) (ln : Fin 2) (block : BitVec 66), (rxBits ln block s).extractLsb' 0 2 = 1 → ((rxPayload ln block s).getD 0 0).toNat = 0x33 →
    s.on F.APR_CTL_EN = true → laneState ln s = 1 → s.apr.lane[ln].good = 63 → Does (.idle ln block) s fun t =>
      laneState ln t = 2 ∧ t.apr.lane[ln].good = 0 ∧ NoLog s t ∧ Keeps [Reg.APR_STAT] s t) ∧
  (∀ (s : State) (ln : Fin 2) (block : BitVec 66), (rxBits ln block s).extractLsb' 0 2 = 1 → ((rxPayload ln block s).getD 0 0).toNat = 0x6C →
    s.on F.APR_CTL_EN = true → laneState ln s = 2 → s.apr.lane[ln].fresh = false → s.apr.lane[ln].half = none → s.apr.lane[ln].hist = [] →
    s.apr.lane[ln].buf = [] → Does (.msg ln block) s fun t =>
      t.apr.lane[ln].half = some (rxPayload ln block s) ∧ t.apr.lane[ln].buf = [.msg] ∧ laneState ln t = 2 ∧ NoLog s t ∧ Keeps [] s t) ∧
  (∀ (s : State) (ln : Fin 2) (header : BitVec 2) (lo hi : Word) (h : List Byte) (c : Instr), (rxBits ln (wireBlock header lo hi) s).extractLsb' 0 2 = 2 →
    s.on F.APR_CTL_EN = true → laneState ln s = 2 → s.apr.lane[ln].fresh = false → s.apr.lane[ln].half = some h → s.apr.lane[ln].hist = [] →
    s.apr.lane[ln].buf = [.msg] → aprMessage ln (h ++ rxPayload ln (wireBlock header lo hi) s) = some c → Does (.dataBlock ln header lo hi) s fun t =>
      t.apr.lane[ln].half = none ∧ t.apr.lane[ln].buf = [.msg, .data (some c)] ∧ (s.clk.ns + 48, c) ∈ t.timers ∧ NoLog s t ∧ Keeps [] s t) ∧
  (∀ (s : State) (ln : Fin 2) (header : BitVec 2) (b0 : Byte) (b1 : BitVec 24) (b4 : Word) (sub : Fin 64) (f : Nat), (rxBits ln (wireBlock header (b1 ++ b0) b4) s).extractLsb' 0 2 = 1 →
    ((rxPayload ln (wireBlock header (b1 ++ b0) b4) s).getD 0 0).toNat = 0x5A →
    ((rxPayload ln (wireBlock header (b1 ++ b0) b4) s).getD 1 0).toNat = ln.val → s.on F.APR_CTL_EN = true → laneState ln s = 2 →
    s.apr.lane[ln].fresh = false → s.apr.lane[ln].hist = [] → s.apr.lane[ln].buf = [] → s.apr.lane[ln].half = none → s.apr.lane[ln].fnum = some f →
    natOfBytes (((rxPayload ln (wireBlock header (b1 ++ b0) b4) s).drop 2).take 2) ≠ (f + 1) % 65536 →
    natOfBytes (((rxPayload ln (wireBlock header (b1 ++ b0) b4) s).drop 4).take 2) = s.apr.flen →
    ((rxPayload ln (wireBlock header (b1 ++ b0) b4) s).getD 6 0).getLsbD 3 = false → Does (.frame ln header b0 b1 b4 sub) s fun t =>
      t.get F.APR_CNT2_BADFRM = satInc F.APR_CNT2_BADFRM.width (s.get F.APR_CNT2_BADFRM) 1 ∧ t.apr.lane[ln].buf = [.frame] ∧ laneState ln t = 2 ∧
        NoLog s t ∧
      Keeps [Reg.APR_CNT2] s t) ∧
  (∀ (s : State) (ln : Fin 2) (header : BitVec 2) (b0 : Byte) (b1 : BitVec 24) (b4 : Word) (sub : Fin 64), (rxBits ln (wireBlock header (b1 ++ b0) b4) s).extractLsb' 0 2 = 1 →
    ((rxPayload ln (wireBlock header (b1 ++ b0) b4) s).getD 0 0).toNat = 0x5A →
    ((rxPayload ln (wireBlock header (b1 ++ b0) b4) s).getD 1 0).toNat = ln.val → s.on F.APR_CTL_EN = true → laneState ln s = 2 →
    s.apr.lane[ln].fresh = false → s.apr.lane[ln].hist = [] → s.apr.lane[ln].buf = [] → s.apr.lane[ln].half = none → s.apr.lane[ln].fnum = none →
    s.apr.lane[ln].pos = none → natOfBytes (((rxPayload ln (wireBlock header (b1 ++ b0) b4) s).drop 4).take 2) = s.apr.flen →
    ((rxPayload ln (wireBlock header (b1 ++ b0) b4) s).getD 6 0).getLsbD 3 = false → linkUp s = false → linkState s = 0 → Does (.frame ln header b0 b1 b4 sub) s fun t =>
      t.apr.lane[ln].fnum = some (natOfBytes (((rxPayload ln (wireBlock header (b1 ++ b0) b4) s).drop 2).take 2)) ∧ t.apr.lane[ln].pos = some 0 ∧
        t.apr.lane[ln].buf = [.frame] ∧
      laneState ln t = 2 ∧ NoLog s t ∧ Keeps [] s t) ∧
  (∀ (s : State) (ln : Fin 2) (header : BitVec 2) (b0 : Byte) (b1 : BitVec 24) (b4 : Word) (sub : Fin 64), (rxBits ln (wireBlock header (b1 ++ b0) b4) s).extractLsb' 0 2 = 1 →
    ((rxPayload ln (wireBlock header (b1 ++ b0) b4) s).getD 0 0).toNat = 0x5A →
    ((rxPayload ln (wireBlock header (b1 ++ b0) b4) s).getD 1 0).toNat = ln.val → s.on F.APR_CTL_EN = true → laneState ln s = 2 →
    s.apr.lane[ln].fresh = false → s.apr.lane[ln].hist = [] → s.apr.lane[ln].buf = [] → s.apr.lane[ln].half = none →
    s.apr.lane[ln].fnum = some ((natOfBytes (((rxPayload ln (wireBlock header (b1 ++ b0) b4) s).drop 2).take 2) + 65535) % 65536) →
    s.apr.lane[ln].pos = some (s.apr.flen - 1) → 1 ≤ s.apr.flen →
    natOfBytes (((rxPayload ln (wireBlock header (b1 ++ b0) b4) s).drop 4).take 2) = s.apr.flen →
    ((rxPayload ln (wireBlock header (b1 ++ b0) b4) s).getD 6 0).getLsbD 3 = false → linkState s = 1 → laneState (1 - ln) s < 3 →
    s.apr.lane[(0 : Fin 2)].joined = false → s.apr.lane[(1 : Fin 2)].joined = false → Does (.frame ln header b0 b1 b4 sub) s fun t =>
      laneState ln t = 3 ∧ t.apr.lane[ln].fnum = some (natOfBytes (((rxPayload ln (wireBlock header (b1 ++ b0) b4) s).drop 2).take 2)) ∧
        t.apr.lane[ln].pos = some 0 ∧
      linkState t = 1 ∧ NoLog s t ∧ Keeps [Reg.APR_STAT] s t) ∧
  (∀ (s : State) (ln : Fin 2), linkState s = 1 → laneState ln s = 3 → s.on F.APR_CTL_ONELANE = true → Does (.linkTimeout ln) s fun t =>
      linkState t = 3 ∧ t.apr.lane[ln].joined = true ∧ LastLog 0x07 0x0001 [0, 1, 3, b8 (laneState 0 s + 4 * laneState 1 s)] s t ∧
        Keeps [Reg.APR_STAT, Reg.EVM_FAST] s t) ∧
  (∀ (s : State) (ticket : Byte) (arg : BitVec 16), s.bit F.PWR_ON1_ON 26 = true → Fresh Reg.APR_ACT ticket s → s.on F.APR_CTL_EN = true →
    linkState s = 1 → Does (.retrain ticket arg) s fun t =>
      linkState t = 0 ∧ laneState 0 t = 0 ∧ laneState 1 t = 0 ∧ t.apr.holdRx = true ∧ t.apr.newFrame = true ∧
        t.apr.flen = clampNat (s.get F.APR_LINK_FLEN) 64 4096 ∧
      t.rd Reg.APR_ACT = ticket ++ (0 : BitVec 16) ++ (1 : Byte) ∧ Keeps [Reg.APR_ACT, Reg.APR_STAT] s t) ∧
  (∀ (s : State) (ticket : Byte) (arg : BitVec 16), s.bit F.PWR_ON1_ON 26 = true → Fresh Reg.APR_ACT ticket s → Does (.seqreset ticket arg) s fun t =>
      t.get F.APR_STAT_SYNCD = 0 ∧ t.apr = s.apr ∧ t.rd Reg.APR_ACT = ticket ++ (0 : BitVec 16) ++ (2 : Byte) ∧ NoLog s t ∧
        Keeps [Reg.APR_ACT, Reg.APR_STAT] s t) ∧
  (∀ (s : State) (value : Word), slotOn Reg.APR_CTL s = true → s.on F.APR_CTL_EN = false → Does (.aprEnable value) s fun t =>
      t.on F.APR_CTL_EN = true ∧ t.apr.flen = clampNat (s.get F.APR_LINK_FLEN) 64 4096 ∧ t.apr.newFrame = true ∧ t.apr.txPos = 0 ∧
        t.apr.scr = BitVec.allOnes 58 ∧
      (s.clk.ns, .txSlot) ∈ t.timers ∧ SameMem s t)

/-- Apram messages: sequence, VSET, forecasts, gaps, the transmit lane (R202, R203, R204, R206, R207, R209, R210, R211; tier 2, derived). On a lane that
carries messages a new sequence number advances H, a VSET reaches the arbiter, an unknown type is counted, a forecast of a rail whose Parison is
disabled is dropped with reason 1; a gap time-out moves H past the holes; the transmit lane sends its FRAME block first; TELEM queues a message. -/
def Obligations.LinkMessages : Prop :=
  (∀ (s : State) (ln : Fin 2) (seq : BitVec 16), linkUp s = true → s.apr.lane[ln].joined = true → s.on F.APR_STAT_SYNCD = true →
    s.get F.APR_BMAP_BM = 0 → seq.toNat = (s.get F.APR_SEQ_H + 1) % 65536 → Does (.unknownMessage ln seq) s fun t =>
      t.get F.APR_SEQ_H = seq.toNat ∧ t.get F.APR_CNT2_UNKTYPE = satInc F.APR_CNT2_UNKTYPE.width (s.get F.APR_CNT2_UNKTYPE) 1 ∧ t.apr.ack = true ∧
        NoLog s t ∧
      Keeps [Reg.APR_SEQ, Reg.APR_BMAP, Reg.APR_CNT2] s t) ∧
  (∀ (s : State) (ln : Fin 2) (seq : BitVec 16) (r : Fin 4) (x : BitVec 13), linkUp s = true → s.apr.lane[ln].joined = true →
    s.on F.APR_STAT_SYNCD = true → s.get F.APR_BMAP_BM = 0 → seq.toNat = (s.get F.APR_SEQ_H + 1) % 65536 →
    (s.lv (F.MRVr_VSRC_MASK r)).testBit 1 = true → vsetOk r x.toNat s = true → s.mrv[r].arrAt < s.clk.ns → Does (.vset ln seq r x) s fun t =>
      t.get F.APR_SEQ_H = seq.toNat ∧ t.get (F.MRVr_VSNOW_T r) = x.toNat ∧ t.get (F.MRVr_VSNOW_SRC r) = 1 ∧ NoLog s t ∧
        Keeps [Reg.APR_SEQ, Reg.APR_BMAP, Reg.MRVr_VSNOW r] s t) ∧
  (∀ (s : State) (ln : Fin 2) (seq : BitVec 16) (r : Fin 4) (delta : BitVec 16) (lead : BitVec 13) (ramp : BitVec 12) (conf : Byte), linkUp s = true →
    s.apr.lane[ln].joined = true → s.on F.APR_STAT_SYNCD = true → s.get F.APR_BMAP_BM = 0 → seq.toNat = (s.get F.APR_SEQ_H + 1) % 65536 →
    s.on (F.PARr_CTL_EN r) = false → Does (.forecast ln seq r delta lead ramp conf) s fun t =>
      t.get F.APR_SEQ_H = seq.toNat ∧ t.get (F.PARr_CNT_DROP r) = satInc (F.PARr_CNT_DROP r).width (s.get (F.PARr_CNT_DROP r)) 1 ∧
      Logged 0x07 0x0005 ([b8 r, 1] ++ bytesOfNat 2 seq.toNat) s t ∧ Keeps [Reg.APR_SEQ, Reg.APR_BMAP, Reg.PARr_CNT r] s t) ∧
  (∀ (s : State) (ln : Fin 2) (seq : BitVec 16) (r : Fin 4) (delta : BitVec 16) (lead : BitVec 13) (ramp : BitVec 12) (conf : Byte), linkUp s = true →
    s.apr.lane[ln].joined = true → s.on F.APR_STAT_SYNCD = true → s.get F.APR_BMAP_BM = 0 → seq.toNat = (s.get F.APR_SEQ_H + 1) % 65536 →
    parRefusal r delta.toInt conf.toNat lead.toNat s = 0 → parState r s = 0 → Does (.forecast ln seq r delta lead ramp conf) s fun t =>
      parState r t = 1 ∧ t.get (F.PARr_STAT_SEQ r) = seq.toNat ∧
        t.get (F.PARr_CNT_ARMED r) = satInc (F.PARr_CNT_ARMED r).width (s.get (F.PARr_CNT_ARMED r)) 1 ∧
      t.par[r].fc = some (parCompute r seq.toNat delta.toInt conf.toNat lead.toNat ramp.toNat s) ∧ NoLog s t ∧ SameMem s t) ∧
  (∀ (s : State) (k : Nat), ((List.range 32).find? (fun i => (s.get F.APR_BMAP_BM).testBit i) = some k) → 0 < k → seqHoles k s ≠ [] → Does .gapTimeout s fun t =>
      t.get F.APR_SEQ_H = (seqSlide 32 ((s.get F.APR_SEQ_H + k) % 65536) (s.get F.APR_BMAP_BM / 2 ^ k)).1 ∧ t.apr.gapid = (s.apr.gapid + 1) % 256 ∧
        t.apr.lost = min 65535 (s.apr.lost + (seqHoles k s).length) ∧
      t.get F.APR_CNT0_LOST = satInc F.APR_CNT0_LOST.width (s.get F.APR_CNT0_LOST) (seqHoles k s).length ∧
        Keeps [Reg.APR_SEQ, Reg.APR_BMAP, Reg.APR_CNT0, Reg.EVM_FAST] s t) ∧
  (∀ (s : State), s.on F.APR_CTL_EN = true → s.apr.second = none → s.apr.newFrame = true → s.apr.holdRx = false → s.apr.holdSent = false →
    laneState 0 s < 2 → laneState 1 s < 2 → Does .txSlot s fun t =>
      t.apr.newFrame = false ∧ t.apr.txPos = (if s.apr.flen = 1 then 0 else 1) ∧ t.apr.txFnum = (s.apr.txFnum + 1) % 65536 ∧ t.apr.ack = true ∧
        t.apr.txT = s.apr.txT + 528 ∧
      t.apr.tx = (txBlock true (payload ([0x5A, 0x10] ++ bytesOfNat 2 s.apr.txFnum ++ bytesOfNat 2 s.apr.flen ++ [b8 (linkState s), 0])) s).apr.tx ∧
        NoLog s t ∧ Keeps [] s t) ∧
  (∀ (s : State) (r : Fin 4), s.on F.APR_CTL_EN = true → telPer r s ≠ 0 → Does (.telem r) s fun t =>
      t.apr.telem[r] = some (telemBytes r s) ∧ (s.clk.ns + telPer r s * 500, .telem r) ∈ t.timers ∧ NoLog s t ∧ Keeps [] s t)

/-- Forecast shaping: pre-ramp, hold, hand-off and unwind (R213, R214, R215, R216; tier 2, derived). An armed episode enters RAMP at its stamp with its
target fixed and the reference one step on its way, unless the guard trips in that cycle, HOLD when the reference has reached the target, IDLE at the
hand-off with P moved into the integrator, UNWIND when the load is absent, IDLE at the end of the unwind. -/
def Obligations.Parison : Prop :=
  (∀ (s : State) (r : Fin 4) (f : Forecast), s.par[r].fc = some f → parState r s = 1 → 0 < f.de →
    sensed r s < s.get (F.MRVr_VSNOW_S r) + 20 * f.unwth → s.par[r].moved ≠ s.clk.ns + 1 → Does (.prerampStart r) s fun t =>
      parState r t = 2 ∧ t.par[r].i0 = s.mrv[r].iTot ∧ t.par[r].itgt = s.mrv[r].iTot + 2 * f.de ∧
        t.par[r].rstep = roundDiv (f.de.natAbs * 2 ^ 17) f.tr ∧
      t.par[r].iref = min (t.par[r].itgt * 65536) (s.mrv[r].iTot * 65536 + t.par[r].rstep) ∧ NoLog s t ∧
        Keeps [Reg.PARr_STAT r, Reg.PARr_P r, Reg.PARr_IREF r] s t) ∧
  (∀ (s : State) (r : Fin 4) (f : Forecast), s.par[r].fc = some f → parState r s = 1 → f.de < 0 → s.on (F.GATH_CMPr_STAT_UVNOW r) = true → Does (.prerampStart r) s fun t =>
      parState r t = 2 ∧ t.par[r].itgt = s.mrv[r].iTot + 2 * f.de ∧ t.par[r].iref = s.mrv[r].iTot * 65536 ∧ (s.clk.ns, .unwind r) ∈ t.timers ∧
        NoLog s t ∧
      Keeps [Reg.PARr_STAT r, Reg.PARr_P r, Reg.PARr_IREF r] s t) ∧
  (∀ (s : State) (r : Fin 4) (f : Forecast), s.par[r].fc = some f → parState r s = 2 → Does (.rampComplete r) s fun t =>
      parState r t = 3 ∧ t.par[r].iref = s.par[r].itgt * 65536 ∧ (s.clk.ns + (f.tLoad + f.tr + f.appwin - s.clk.ns), .handoff r) ∈ t.timers ∧
        NoLog s t ∧
      Keeps [Reg.PARr_STAT r, Reg.PARr_P r, Reg.PARr_IREF r] s t) ∧
  (∀ (s : State) (r : Fin 4), parState r s = 3 → s.par[r].pend = none → Does (.handoff r) s fun t =>
      parState r t = 0 ∧ t.par[r].fc = none ∧ t.par[r].p = 0 ∧ t.get (F.PARr_STAT_NPAR r) = 0 ∧
      t.mrv[r].u1 = clampInt (s.mrv[r].u1 + s.par[r].p * 4096) (-(zeroAsOne (s.lv (F.MRVr_LIM_DMAX r)) * 2 ^ 28)) (zeroAsOne (s.lv (F.MRVr_LIM_DMAX r)) * 2 ^ 28) ∧
        NoLog s t ∧
      Keeps [Reg.PARr_STAT r, Reg.PARr_P r] s t) ∧
  (∀ (s : State) (r : Fin 4) (f : Forecast), s.par[r].fc = some f → (parState r s = 2 ∨ parState r s = 3) → Does (.unwind r) s fun t =>
      parState r t = 4 ∧ t.get (F.PARr_CNT_UNW r) = satInc (F.PARr_CNT_UNW r).width (s.get (F.PARr_CNT_UNW r)) 1 ∧
      Logged 0x07 0x0004 ([b8 r] ++ bytesOfNat 2 f.seq ++ bytesOfNat 2 (ofSigned 16 (asr s.par[r].iref 16)) ++ bytesOfNat 2 (sensed r s)) s t ∧
      Keeps [Reg.PARr_STAT r, Reg.PARr_P r, Reg.PARr_IREF r, Reg.PARr_CNT r, Reg.EVM_FAST] s t) ∧
  (∀ (s : State) (r : Fin 4), parState r s = 4 → s.par[r].pend = none → Does (.unwindComplete r) s fun t =>
      parState r t = 0 ∧ t.par[r].fc = none ∧ t.par[r].p = 0 ∧ t.mrv[r].u1 = s.mrv[r].u1 ∧ t.get (F.PARr_STAT_NPAR r) = 0 ∧ NoLog s t ∧
        Keeps [Reg.PARr_STAT r, Reg.PARr_P r] s t)

/-- Counter units: counting, the wrap, start, reset, capture, period writes (R221, R223, R224, R227, R228, R230, R231, R232, R233, R246; tier 2, derived).
A running unit on the AO clock counts one tick per cycle and at its period raises PERIOD, clears COUNT and loads a pending period; START, RESET,
CAPTURE and a linked action reach their unit and take effect in the cycle's step, in the order of R223; a period write in both load modes and a
capture read have the stated effects and frames. What COUNT reads within an AO cycle is the model's reading (log entry 49). -/
def Obligations.CounterUnits : Prop :=
  (∀ (s : State) (n : Fin 24), s.on (F.CUn_STAT_RUN n) = true → s.cu[n] = {} → s.on (F.CUn_CTL_CLK n) = false →
    s.get (F.CUn_COUNT_COUNT n) < s.get (F.CUn_PERACT_PERACT n) → (s.rd (Reg.CUn_MATCHA n)).toNat ≠ s.get (F.CUn_COUNT_COUNT n) + 1 →
    (s.rd (Reg.CUn_MATCHB n)).toNat ≠ s.get (F.CUn_COUNT_COUNT n) + 1 → Does (.cuCountStep n) s fun t =>
      t.get (F.CUn_COUNT_COUNT n) = s.get (F.CUn_COUNT_COUNT n) + 1 ∧ t.evm = s.evm ∧ NoLog s t ∧ Keeps [Reg.CUn_COUNT n] s t) ∧
  (∀ (s : State) (n : Fin 24), s.on (F.CUn_STAT_RUN n) = true → s.cu[n] = {} → s.on (F.CUn_CTL_CLK n) = false → s.on (F.CUn_CTL_ONESHOT n) = false →
    s.get (F.CUn_COUNT_COUNT n) = s.get (F.CUn_PERACT_PERACT n) → s.rd (Reg.CUn_MATCHA n) ≠ 0 → s.rd (Reg.CUn_MATCHB n) ≠ 0 →
    s.get (F.CUn_LINK_PACT n) = 0 → NotFired (3 * n + 1) s → Does (.cuCountStep n) s fun t =>
      t.get (F.CUn_COUNT_COUNT n) = 0 ∧ t.get (F.CUn_STAT_PF n) = 1 ∧ t.get (F.CUn_STAT_PEND n) = 0 ∧ t.get (F.CUn_STAT_RUN n) = 1 ∧
      t.get (F.CUn_PERACT_PERACT n) = (if s.on (F.CUn_STAT_PEND n) then s.get (F.CUn_PERIOD_PERIOD n) else s.get (F.CUn_PERACT_PERACT n)) ∧
      Fires (3 * n + 1) s t ∧ NoLog s t ∧ Keeps [Reg.CUn_COUNT n, Reg.CUn_STAT n, Reg.CUn_PERACT n] s t) ∧
  (∀ (s : State) (n : Fin 24) (ticket : Byte) (arg : BitVec 16), Fresh Reg.CNT_ACT ticket s → arg.toNat % 32 = n.val → Does (.cuStart ticket arg) s fun t =>
      t.cu[n] = { s.cu[n] with go := true } ∧ t.rd Reg.CNT_ACT = ticket ++ (arg &&& 0x1f) ++ (1 : Byte) ∧ t.evm = s.evm ∧ NoLog s t ∧
        Keeps [Reg.CNT_ACT] s t) ∧
  (∀ (s : State) (n : Fin 24) (ticket : Byte) (arg : BitVec 16), Fresh Reg.CNT_ACT ticket s → arg.toNat % 32 = n.val → Does (.cuReset ticket arg) s fun t =>
      t.cu[n] = { s.cu[n] with reset := true } ∧ t.rd Reg.CNT_ACT = ticket ++ (arg &&& 0x1f) ++ (2 : Byte) ∧ t.evm = s.evm ∧ NoLog s t ∧
        Keeps [Reg.CNT_ACT] s t) ∧
  (∀ (s : State) (n : Fin 24) (ticket : Byte) (arg : BitVec 16), Fresh Reg.CNT_ACT ticket s → arg.toNat % 32 = n.val → Does (.startReset ticket arg) s fun t =>
      t.cu[n] = { s.cu[n] with reset := true, go := true } ∧ t.rd Reg.CNT_ACT = ticket ++ (arg &&& 0x1f) ++ (3 : Byte) ∧ t.evm = s.evm ∧
        NoLog s t ∧ Keeps [Reg.CNT_ACT] s t) ∧
  (∀ (s : State) (n : Fin 24) (ticket : Byte) (arg : BitVec 16), Fresh Reg.CNT_ACT ticket s → arg.toNat % 32 = n.val → Does (.capture ticket arg) s fun t =>
      t.cu[n] = { s.cu[n] with capt := true } ∧ t.rd Reg.CNT_ACT = ticket ++ (arg &&& 0x1f) ++ (4 : Byte) ∧ t.evm = s.evm ∧ NoLog s t ∧
        Keeps [Reg.CNT_ACT] s t) ∧
  (∀ (s : State) (n : Fin 24) (action : Fin 4), Does (.linkAction n action) s fun t =>
      t.cu[n] = { s.cu[n] with reset := s.cu[n].reset || action == 2 || action == 3, go := s.cu[n].go || action == 1 || action == 3 } ∧
        t.evm = s.evm ∧ NoLog s t ∧ Keeps [] s t) ∧
  (∀ (s : State) (n : Fin 24), s.cu[n] = { go := true } → s.on (F.CUn_CTL_EN n) = true → s.on (F.CUn_STAT_RUN n) = false → Does (.cuCountStep n) s fun t =>
      t.get (F.CUn_STAT_RUN n) = 1 ∧ t.get (F.CUn_STAT_PEND n) = 0 ∧ t.cu[n] = { first := true } ∧
        t.get (F.CUn_PERACT_PERACT n) = (if s.on (F.CUn_STAT_PEND n) then s.get (F.CUn_PERIOD_PERIOD n) else s.get (F.CUn_PERACT_PERACT n)) ∧
      t.get (F.CUn_COUNT_COUNT n) = s.get (F.CUn_COUNT_COUNT n) ∧ t.evm = s.evm ∧ NoLog s t ∧ Keeps [Reg.CUn_STAT n, Reg.CUn_PERACT n] s t) ∧
  (∀ (s : State) (n : Fin 24), s.cu[n].go = true → s.cu[n].capt = false → s.cu[n].reset = false → s.cu[n].immNow = none →
    s.on (F.CUn_STAT_RUN n) = false → s.on (F.CUn_CTL_EN n) = false → Does (.cuCountStep n) s fun t =>
      t.cu[n].go = false ∧ t.evm = s.evm ∧ NoLog s t ∧ Keeps [] s t) ∧
  (∀ (s : State) (n : Fin 24) (c : Cu), s.cu[n] = c → c.reset = true → c.go = false → c.capt = false → c.immNow = none → c.imm = none →
    c.pendNow = false → Does (.cuCountStep n) s fun t =>
      t.get (F.CUn_COUNT_COUNT n) = 0 ∧ t.get (F.CUn_STAT_RUN n) = s.get (F.CUn_STAT_RUN n) ∧ t.get (F.CUn_STAT_PEND n) = 0 ∧
        t.cu[n] = { first := c.first } ∧
        t.get (F.CUn_PERACT_PERACT n) = (if s.on (F.CUn_STAT_PEND n) then s.get (F.CUn_PERIOD_PERIOD n) else s.get (F.CUn_PERACT_PERACT n)) ∧
      t.evm = s.evm ∧ NoLog s t ∧ Keeps [Reg.CUn_COUNT n, Reg.CUn_STAT n, Reg.CUn_PERACT n] s t) ∧
  (∀ (s : State) (n : Fin 24), s.cu[n] = { capt := true } → s.on (F.CUn_CTL_EN n) = true → s.on (F.CUn_STAT_RUN n) = false →
    NotFired (3 * n + 2) s → Does (.cuCountStep n) s fun t =>
      t.get (F.CUn_CAP_CAP n) = s.get (F.CUn_COUNT_COUNT n) ∧ t.get (F.CUn_CAPPK_CAP n) = s.get (F.CUn_COUNT_COUNT n) ∧
        t.get (F.CUn_STAT_CAPF n) = 1 ∧
      t.get (F.CUn_STAT_OVF n) = (if s.on (F.CUn_STAT_CAPF n) then 1 else s.get (F.CUn_STAT_OVF n)) ∧
        t.cu[n] = { capWas := some (s.clk.ns / 10, s.rd (Reg.CUn_CAP n), s.on (F.CUn_STAT_OVF n)) } ∧
      Fires (3 * n + 2) s t ∧ NoLog s t ∧ Keeps [Reg.CUn_CAP n, Reg.CUn_CAPPK n, Reg.CUn_STAT n] s t) ∧
  (∀ (s : State) (n : Fin 24) (value : Word), s.on (F.CUn_CTL_LOADMODE n) = false → cuPast n s = false → Does (.periodWrite n value) s fun t =>
      t.rd (Reg.CUn_PERIOD n) = value ∧ t.get (F.CUn_STAT_PEND n) = 1 ∧ t.cu[n].pendNow = true ∧ NoLog s t ∧
      Keeps [Reg.CUn_PERIOD n, Reg.CUn_STAT n] s t) ∧
  (∀ (s : State) (n : Fin 24) (value : Word), s.on (F.CUn_CTL_LOADMODE n) = true → cuPast n s = false → Does (.periodWrite n value) s fun t =>
      t.rd (Reg.CUn_PERIOD n) = value ∧ t.cu[n].imm = some (value, false) ∧ NoLog s t ∧ Keeps [Reg.CUn_PERIOD n] s t) ∧
  (∀ (s : State) (n : Fin 24) (value : Word), cuPast n s = true → Does (.periodWrite n value) s fun t =>
      t.rd (Reg.CUn_PERIOD n) = value ∧ (s.on (F.CUn_CTL_LOADMODE n) = true → t.cu[n].immNow = some (value, false) ∧
        t.get (F.CUn_STAT_PEND n) = s.get (F.CUn_STAT_PEND n)) ∧
      (s.on (F.CUn_CTL_LOADMODE n) = false → t.get (F.CUn_STAT_PEND n) = 1 ∧ t.cu[n].pendNow = s.cu[n].pendNow) ∧ NoLog s t ∧
        Keeps [Reg.CUn_PERIOD n, Reg.CUn_STAT n] s t) ∧
  (∀ (s : State) (n : Fin 24), ((s.cu[n].capWas.all (fun x => decide (x.1 ≠ s.clk.ns / 10))) = true) → Does (.captureRead n) s fun t =>
      t.rdata = s.rd (Reg.CUn_CAP n) ∧ t.get (F.CUn_STAT_CAPF n) = 0 ∧ t.get (F.CUn_STAT_OVF n) = s.get (F.CUn_STAT_OVF n) ∧ NoLog s t ∧
        Keeps [Reg.CUn_STAT n] s t)

/-- Event matrix: delivery, refused configuration writes, outputs, software triggers (R236, R237, R238, R239, R240, R241, R244, R245; tier 2, derived). A
firing three AO cycles old counts on its channel and acts on its sink; a write that would enable a second sink of a SINGLE channel and a write from
FORK to SINGLE with two sinks are refused, flagged and logged, and any other write of the mode is stored for the next cycle; a pulse ends; a software
trigger is recorded for the next cycle. That a channel counts at the delivery is the model's reading (log entry 38). -/
def Obligations.EventMatrix : Prop :=
  (∀ (s : State) (c : Fin 32) (i : Fin 8) (f : Firing), s.evm.firings = [f] → f.cycle + 3 ≤ s.clk.time.toNat →
    f.chans = BitVec.ofNat 32 (2 ^ c.val) → f.sinks = BitVec.ofNat 128 (2 ^ (120 + i.val)) → s.evm.evo[i].toggle = true → Does .eventDelivery s fun t =>
      t.evm.firings = [] ∧ t.evm.evo[i].level = !s.evm.evo[i].level ∧
        t.get (F.EVM_CHc_CNT_CNT c) = satInc (F.EVM_CHc_CNT_CNT c).width (s.get (F.EVM_CHc_CNT_CNT c)) 1 ∧
      t.timers = s.timers ∧ NoLog s t ∧ Keeps [Reg.EVM_CHc_CNT c] s t) ∧
  (∀ (s : State) (c : Fin 32) (i : Fin 8) (f : Firing), s.evm.firings = [f] → f.cycle + 3 ≤ s.clk.time.toNat →
    f.chans = BitVec.ofNat 32 (2 ^ c.val) → f.sinks = BitVec.ofNat 128 (2 ^ (120 + i.val)) → s.evm.evo[i].toggle = false →
    s.get F.EVM_EVOCTL_WIDTH ≠ 0 → Does .eventDelivery s fun t =>
      t.evm.firings = [] ∧ t.evm.evo[i].level = true ∧ (s.clk.ns + 10 * s.get F.EVM_EVOCTL_WIDTH, .evoPulseEnd i) ∈ t.timers ∧ NoLog s t ∧
        Keeps [Reg.EVM_CHc_CNT c] s t) ∧
  (∀ (s : State) (c : Fin 32) (j : Fin 4) (value : Word), s.on (F.EVM_CHc_CTL_MODE c) = true → Does (.sinkEnableWrite c j value) s fun t =>
      t.rd (Reg.EVM_CHc_SNKj c j) = value ∧ t.evmCfg (Reg.EVM_CHc_SNKj c j) = s.evmCfg (Reg.EVM_CHc_SNKj c j) ∧ t.evm.firings = s.evm.firings ∧
        NoLog s t ∧
      Keeps [Reg.EVM_CHc_SNKj c j] s t) ∧
  (∀ (s : State) (c : Fin 32) (j : Fin 4) (i : Fin 32), s.on (F.EVM_CHc_CTL_MODE c) = false → chSinks c s = 0 → Does (.sinkEnableWrite c j (BitVec.ofNat 32 (2 ^ i.val))) s fun t =>
      t.rd (Reg.EVM_CHc_SNKj c j) = BitVec.ofNat 32 (2 ^ i.val) ∧ NoLog s t ∧ Keeps [Reg.EVM_CHc_SNKj c j] s t) ∧
  (∀ (s : State) (c : Fin 32) (j : Fin 4) (i k : Fin 32), s.on (F.EVM_CHc_CTL_MODE c) = false → i.val < k.val →
    chSinks c s = BitVec.ofNat 128 (2 ^ (32 * j.val + i.val)) → Does (.sinkEnableWrite c j (BitVec.ofNat 32 (2 ^ i.val + 2 ^ k.val))) s fun t =>
      t.rd (Reg.EVM_CHc_SNKj c j) = BitVec.ofNat 32 (2 ^ i.val) ∧ t.bit F.EVM_REF_REF c = true ∧ t.get F.EVM_FLT_SNKREF = 1 ∧
      Logged 0x09 0x0001 [b8 c, b8 (32 * j.val + i.val), b8 (32 * j.val + k.val), 1] s t ∧
        Keeps [Reg.EVM_CHc_SNKj c j, Reg.EVM_REF, Reg.EVM_FLT] s t) ∧
  (∀ (s : State) (c : Fin 32) (value : Word), s.on (F.EVM_CHc_CTL_MODE c) = true → value.getLsbD 1 = false → 1 < (bitsOf (chSinks c s)).length → Does (.modeWrite c value) s fun t =>
      t.get (F.EVM_CHc_CTL_MODE c) = 1 ∧ t.get (F.EVM_CHc_CTL_EN c) = value.toNat % 2 ∧ t.get F.EVM_FLT_MODEREF = 1 ∧
      Logged 0x09 0x0002 [b8 c, b8 (bitsOf (chSinks c s)).length] s t ∧ Keeps [Reg.EVM_CHc_CTL c, Reg.EVM_FLT] s t) ∧
  (∀ (s : State) (c : Fin 32) (value : Word), (s.on (F.EVM_CHc_CTL_MODE c) = false ∨ value.getLsbD 1 = true ∨ (bitsOf (chSinks c s)).length ≤ 1) → Does (.modeWrite c value) s fun t =>
      t.get (F.EVM_CHc_CTL_MODE c) = value.toNat / 2 % 2 ∧ t.get (F.EVM_CHc_CTL_EN c) = value.toNat % 2 ∧
        t.evmCfg (Reg.EVM_CHc_CTL c) = s.evmCfg (Reg.EVM_CHc_CTL c) ∧
      t.evm.firings = s.evm.firings ∧ NoLog s t ∧ Keeps [Reg.EVM_CHc_CTL c] s t) ∧
  (∀ (s : State) (i : Fin 8), s.evm.evo[i].toggle = false → Does (.evoPulseEnd i) s fun t =>
      t.evm.evo[i].level = false ∧ t.evm.firings = s.evm.firings ∧ t.regs = s.regs ∧ NoLog s t ∧ SameMem s t) ∧
  (∀ (s : State) (ticket : Byte) (arg : BitVec 16), Fresh Reg.EVM_ACT ticket s → Does (.swtrig ticket arg) s fun t =>
      t.evm.sw = s.evm.sw ++ [arg.extractLsb' 0 8] ∧ t.evm.firings = s.evm.firings ∧ t.rd Reg.EVM_ACT = ticket ++ (arg &&& 0xff) ++ (1 : Byte) ∧
        NoLog s t ∧ Keeps [Reg.EVM_ACT] s t)

/-- The log's writer, its drops, firmware entries, snapshots and the status word (R528, R530, R531, R532, R535, R536, R537, R538, R386, R587; tier 2,
derived). The writer writes the oldest queued entry at WIDX and advances WIDX, other bytes unchanged; in STOP mode with the SRAM full a request that
finds the queue full is dropped and counted; FWENTRY and SNAP request their entries; the status word of a running host operation is written to host
memory again. What a snapshot shows of mailbox registers is the model's reading (log entry 24). -/
def Obligations.EventLog : Prop :=
  (∀ (s : State) (e : LogEntry), s.log.queue = [e] → s.log.reqs = [] → s.log.drops = 0 → logBehind s ≠ 2048 → Does .logEntryWrite s fun t =>
      t.log.queue = [] ∧ t.get F.LOG_WIDX_WIDX = (s.get F.LOG_WIDX_WIDX + 1) % 2 ^ 32 ∧
        t.bytes (entryAddr (s.get F.LOG_WIDX_WIDX)) 32 = entryBytes e ∧ t.get F.LOG_STAT_QFILL = 0 ∧
      t.get F.LOG_QMAX_QMAX = s.get F.LOG_QMAX_QMAX ∧ Stores [Reg.LOG_WIDX, Reg.LOG_STAT, Reg.LOG_QMAX] (entryAddr (s.get F.LOG_WIDX_WIDX)) 32 s t) ∧
  (∀ (s : State) (e : LogEntry), s.log.queue.length = 64 → s.log.reqs = [e] → s.log.drops = 0 → logStopped s = true → Does .logEntryWrite s fun t =>
      t.log.queue = s.log.queue ∧ t.log.reqs = [] ∧ t.log.drops = 1 ∧ t.log.firstDrop = e.time ∧
        t.get F.LOG_CNT_DROP = satInc F.LOG_CNT_DROP.width (s.get F.LOG_CNT_DROP) 1 ∧
      t.get F.LOG_STAT_QFILL = 64 ∧ Keeps [Reg.LOG_STAT, Reg.LOG_QMAX, Reg.LOG_CNT] s t) ∧
  (∀ (s : State) (ticket : Byte) (arg : BitVec 16), Fresh Reg.LOG_ACT ticket s → Does (.fwentry ticket arg) s fun t =>
      Logged 0x15 (0x8000 + arg.toNat % 0x8000) (fwData s) s t ∧ t.rd Reg.LOG_ACT = ticket ++ (arg &&& 0x7fff) ++ (2 : Byte) ∧
        Keeps [Reg.LOG_ACT] s t) ∧
  (∀ (s : State) (ticket : Byte) (arg : BitVec 16) (j : Fin 4), Fresh Reg.LOG_ACT ticket s → arg.toNat % 4 = j.val →
    s.log.snapNow.contains j.val = false → Does (.snap ticket arg) s fun t =>
      Logged 0x15 (0x0010 + j.val) (bytesOfWord (snapRead (s.rd (Reg.LOG_SNAPj_Ai j 0)).toNat s) ++ bytesOfWord (snapRead (s.rd (Reg.LOG_SNAPj_Ai j 1)).toNat s) ++
      bytesOfWord (snapRead (s.rd (Reg.LOG_SNAPj_Ai j 2)).toNat s) ++ bytesOfWord (snapRead (s.rd (Reg.LOG_SNAPj_Ai j 3)).toNat s)) s t ∧
      t.log.snapNow = j.val :: s.log.snapNow ∧ t.rd Reg.LOG_ACT = ticket ++ (arg &&& 0x3) ++ (1 : Byte) ∧ Keeps [Reg.LOG_ACT] s t) ∧
  (∀ (s : State) (k : Fin 5) (h : LopHost), s.lop[k].running = true → s.lop[k].host = some h → (k.val = 0 ∨ k.val = 3) → Does (.statusWordWrite k) s fun t =>
      t.rd (Reg.HIF_LOPk_STATL k) = BitVec.ofNat 32 (s.lop[k].gen % 65536 + 65536 * (lopCount k s % 65536)) ∧
      t.rd (Reg.HIF_LOPk_STATH k) = BitVec.ofNat 32 (lopProgress k s + 65536 * (k.val + 1) + 16777216) ∧
      (s.out.d3hot = false →
        t.out.writes = s.out.writes ++ [(h.status, bytesOfWord (t.rd (Reg.HIF_LOPk_STATL k)) ++ bytesOfWord (t.rd (Reg.HIF_LOPk_STATH k)))]) ∧
        NoLog s t ∧
      Keeps [Reg.HIF_LOPk_STATL k, Reg.HIF_LOPk_STATH k] s t)

/-- Register ALU instructions: result, frame and next PC (R249, R258, R259, R269; tier 2, derived). At an ordinary boundary each register ALU instruction
completes: rd takes the stated function of rs1 and rs2 (or of the shift amount, or of the old rd), no other register changes, the loop levels that end
at its address are evaluated and beyond the fetch nothing outside the cores changes; it never traps. -/
def Obligations.RegisterAlu : Prop :=
  (∀ (s : State) (w : Word), Boundary s → Does (.add w) s fun t =>
      Completes (fun c => c.setReg (fRd w) (c.reg (fRs1 w) + c.reg (fRs2 w))) s t) ∧
  (∀ (s : State) (w : Word), Boundary s → Does (.sub w) s fun t =>
      Completes (fun c => c.setReg (fRd w) (c.reg (fRs1 w) - c.reg (fRs2 w))) s t) ∧
  (∀ (s : State) (w : Word), Boundary s → Does (.and_ w) s fun t =>
      Completes (fun c => c.setReg (fRd w) (c.reg (fRs1 w) &&& c.reg (fRs2 w))) s t) ∧
  (∀ (s : State) (w : Word), Boundary s → Does (.or_ w) s fun t =>
      Completes (fun c => c.setReg (fRd w) (c.reg (fRs1 w) ||| c.reg (fRs2 w))) s t) ∧
  (∀ (s : State) (w : Word), Boundary s → Does (.xor w) s fun t =>
      Completes (fun c => c.setReg (fRd w) (c.reg (fRs1 w) ^^^ c.reg (fRs2 w))) s t) ∧
  (∀ (s : State) (w : Word), Boundary s → Does (.sll w) s fun t =>
      Completes (fun c => c.setReg (fRd w) (c.reg (fRs1 w) <<< ((c.reg (fRs2 w)).toNat % 32))) s t) ∧
  (∀ (s : State) (w : Word), Boundary s → Does (.srl w) s fun t =>
      Completes (fun c => c.setReg (fRd w) (c.reg (fRs1 w) >>> ((c.reg (fRs2 w)).toNat % 32))) s t) ∧
  (∀ (s : State) (w : Word), Boundary s → Does (.sra w) s fun t =>
      Completes (fun c => c.setReg (fRd w) (BitVec.ofInt 32 ((c.reg (fRs1 w)).toInt.fdiv (2 ^ ((c.reg (fRs2 w)).toNat % 32))))) s t) ∧
  (∀ (s : State) (w : Word), Boundary s → Does (.slt w) s fun t =>
      Completes (fun c => c.setReg (fRd w) (if (c.reg (fRs1 w)).slt (c.reg (fRs2 w)) then 1 else 0)) s t) ∧
  (∀ (s : State) (w : Word), Boundary s → Does (.sltu w) s fun t =>
      Completes (fun c => c.setReg (fRd w) (if (c.reg (fRs1 w)).ult (c.reg (fRs2 w)) then 1 else 0)) s t) ∧
  (∀ (s : State) (w : Word), Boundary s → Does (.min w) s fun t =>
      Completes (fun c => c.setReg (fRd w) (BitVec.ofInt 32 (Min.min (c.reg (fRs1 w)).toInt (c.reg (fRs2 w)).toInt))) s t) ∧
  (∀ (s : State) (w : Word), Boundary s → Does (.max w) s fun t =>
      Completes (fun c => c.setReg (fRd w) (BitVec.ofInt 32 (Max.max (c.reg (fRs1 w)).toInt (c.reg (fRs2 w)).toInt))) s t) ∧
  (∀ (s : State) (w : Word), Boundary s → Does (.minu w) s fun t =>
      Completes (fun c => c.setReg (fRd w) (BitVec.ofNat 32 (Min.min (c.reg (fRs1 w)).toNat (c.reg (fRs2 w)).toNat))) s t) ∧
  (∀ (s : State) (w : Word), Boundary s → Does (.maxu w) s fun t =>
      Completes (fun c => c.setReg (fRd w) (BitVec.ofNat 32 (Max.max (c.reg (fRs1 w)).toNat (c.reg (fRs2 w)).toNat))) s t) ∧
  (∀ (s : State) (w : Word), Boundary s → Does (.slli w) s fun t =>
      Completes (fun c => c.setReg (fRd w) (c.reg (fRs1 w) <<< fRs2 w)) s t) ∧
  (∀ (s : State) (w : Word), Boundary s → Does (.srli w) s fun t =>
      Completes (fun c => c.setReg (fRd w) (c.reg (fRs1 w) >>> fRs2 w)) s t) ∧
  (∀ (s : State) (w : Word), Boundary s → Does (.srai w) s fun t =>
      Completes (fun c => c.setReg (fRd w) (BitVec.ofInt 32 ((c.reg (fRs1 w)).toInt.fdiv (2 ^ fRs2 w)))) s t) ∧
  (∀ (s : State) (w : Word), Boundary s → Does (.sati w) s fun t =>
      Completes (fun c => c.setReg (fRd w) (BitVec.ofInt 32 (if (c.reg (fRs1 w)).toInt < -(2 ^ fRs2 w) then -(2 ^ fRs2 w) else if 2 ^ fRs2 w - 1 < (c.reg (fRs1 w)).toInt then 2 ^ fRs2 w - 1 else (c.reg (fRs1 w)).toInt))) s t) ∧
  (∀ (s : State) (w : Word), Boundary s → Does (.mul w) s fun t =>
      Completes (fun c => c.setReg (fRd w) (BitVec.ofInt 32 ((c.reg (fRs1 w)).toInt * (c.reg (fRs2 w)).toInt))) s t) ∧
  (∀ (s : State) (w : Word), Boundary s → Does (.mulh w) s fun t =>
      Completes (fun c => c.setReg (fRd w) (((c.reg (fRs1 w)).signExtend 64 * (c.reg (fRs2 w)).signExtend 64).extractLsb' 32 32)) s t) ∧
  (∀ (s : State) (w : Word), Boundary s → Does (.mulhu w) s fun t =>
      Completes (fun c => c.setReg (fRd w) (((c.reg (fRs1 w)).zeroExtend 64 * (c.reg (fRs2 w)).zeroExtend 64).extractLsb' 32 32)) s t) ∧
  (∀ (s : State) (w : Word), Boundary s → Does (.madd w) s fun t =>
      Completes (fun c => c.setReg (fRd w) (c.reg (fRd w) + c.reg (fRs1 w) * c.reg (fRs2 w))) s t) ∧
  (∀ (s : State) (w : Word), Boundary s → Does (.msub w) s fun t =>
      Completes (fun c => c.setReg (fRd w) (c.reg (fRd w) - c.reg (fRs1 w) * c.reg (fRs2 w))) s t) ∧
  (∀ (s : State) (w : Word), Boundary s → Does (.div w) s fun t =>
      Completes (fun c => c.setReg (fRd w) (if c.reg (fRs2 w) = 0 then 0xFFFFFFFF else (c.reg (fRs1 w)).sdiv (c.reg (fRs2 w)))) s t) ∧
  (∀ (s : State) (w : Word), Boundary s → Does (.divu w) s fun t =>
      Completes (fun c => c.setReg (fRd w) (if c.reg (fRs2 w) = 0 then 0xFFFFFFFF else (c.reg (fRs1 w)).udiv (c.reg (fRs2 w)))) s t) ∧
  (∀ (s : State) (w : Word), Boundary s → Does (.rem w) s fun t =>
      Completes (fun c => c.setReg (fRd w) (if c.reg (fRs2 w) = 0 then c.reg (fRs1 w) else (c.reg (fRs1 w)).srem (c.reg (fRs2 w)))) s t) ∧
  (∀ (s : State) (w : Word), Boundary s → Does (.remu w) s fun t =>
      Completes (fun c => c.setReg (fRd w) (if c.reg (fRs2 w) = 0 then c.reg (fRs1 w) else (c.reg (fRs1 w)).umod (c.reg (fRs2 w)))) s t)

/-- Immediate instructions: result, frame and next PC (R249, R257, R260, R269; tier 2, derived). At an ordinary boundary each immediate instruction
completes: rd takes the stated function of rs1 and the sign-extended or zero-extended imm16, LUI takes imm16 as the upper half; no other register
changes, and beyond the fetch nothing outside the cores changes. -/
def Obligations.ImmediateAlu : Prop :=
  (∀ (s : State) (w : Word), Boundary s → Does (.addi w) s fun t =>
      Completes (fun c => c.setReg (fRd w) (c.reg (fRs1 w) + (w.extractLsb' 0 16).signExtend 32)) s t) ∧
  (∀ (s : State) (w : Word), Boundary s → Does (.andi w) s fun t =>
      Completes (fun c => c.setReg (fRd w) (c.reg (fRs1 w) &&& (w.extractLsb' 0 16).zeroExtend 32)) s t) ∧
  (∀ (s : State) (w : Word), Boundary s → Does (.ori w) s fun t =>
      Completes (fun c => c.setReg (fRd w) (c.reg (fRs1 w) ||| (w.extractLsb' 0 16).zeroExtend 32)) s t) ∧
  (∀ (s : State) (w : Word), Boundary s → Does (.xori w) s fun t =>
      Completes (fun c => c.setReg (fRd w) (c.reg (fRs1 w) ^^^ (w.extractLsb' 0 16).zeroExtend 32)) s t) ∧
  (∀ (s : State) (w : Word), Boundary s → Does (.slti w) s fun t =>
      Completes (fun c => c.setReg (fRd w) (if (c.reg (fRs1 w)).slt ((w.extractLsb' 0 16).signExtend 32) then 1 else 0)) s t) ∧
  (∀ (s : State) (w : Word), Boundary s → Does (.sltiu w) s fun t =>
      Completes (fun c => c.setReg (fRd w) (if (c.reg (fRs1 w)).ult ((w.extractLsb' 0 16).signExtend 32) then 1 else 0)) s t) ∧
  (∀ (s : State) (w : Word), Boundary s → Does (.lui w) s fun t =>
      Completes (fun c => c.setReg (fRd w) (w.extractLsb' 0 16 ++ (0 : BitVec 16))) s t)

/-- Loads: value, frame and next PC (R253, R261, R262, R263, R283, R284, R288, R290, R330; tier 2, derived). At an ordinary boundary a load whose
capability and alignment checks pass, from a serving bank without an uncorrectable error, completes: the register takes the bytes at rs1 + simm13,
extended as the instruction says, LDC also takes the granule's tag; nothing else changes. LDW of a match register of a counter unit reads it. -/
def Obligations.LoadInstructions : Prop :=
  (∀ (s : State) (w : Word), Boundary s → dataFault (fCN w) [pLOAD] (effAddr w s) 4 4 s = none → holdsTags (effAddr w s) = true →
    bankServes (effAddr w s) s = true → badIn (effAddr w s) 4 s = none → Does (.ldw w) s fun t =>
      Completes (fun c => c.setReg (fRd w) (s.memWord (effAddr w s))) s t) ∧
  (∀ (s : State) (w : Word), Boundary s → dataFault (fCN w) [pLOAD] (effAddr w s) 2 2 s = none → holdsTags (effAddr w s) = true →
    bankServes (effAddr w s) s = true → badIn (effAddr w s) 2 s = none → Does (.ldh w) s fun t =>
      Completes (fun c => c.setReg (fRd w) ((s.byte (effAddr w s + 1) ++ s.byte (effAddr w s)).signExtend 32)) s t) ∧
  (∀ (s : State) (w : Word), Boundary s → dataFault (fCN w) [pLOAD] (effAddr w s) 2 2 s = none → holdsTags (effAddr w s) = true →
    bankServes (effAddr w s) s = true → badIn (effAddr w s) 2 s = none → Does (.ldhu w) s fun t =>
      Completes (fun c => c.setReg (fRd w) ((s.byte (effAddr w s + 1) ++ s.byte (effAddr w s)).zeroExtend 32)) s t) ∧
  (∀ (s : State) (w : Word), Boundary s → dataFault (fCN w) [pLOAD] (effAddr w s) 1 1 s = none → holdsTags (effAddr w s) = true →
    bankServes (effAddr w s) s = true → badIn (effAddr w s) 1 s = none → Does (.ldb w) s fun t =>
      Completes (fun c => c.setReg (fRd w) ((s.byte (effAddr w s)).signExtend 32)) s t) ∧
  (∀ (s : State) (w : Word), Boundary s → dataFault (fCN w) [pLOAD] (effAddr w s) 1 1 s = none → holdsTags (effAddr w s) = true →
    bankServes (effAddr w s) s = true → badIn (effAddr w s) 1 s = none → Does (.ldbu w) s fun t =>
      Completes (fun c => c.setReg (fRd w) ((s.byte (effAddr w s)).zeroExtend 32)) s t) ∧
  (∀ (s : State) (w : Word), Boundary s → dataFault (fCN w) [pLOAD, pLOADCAP] (effAddr w s) 16 16 s = none → holdsTags (effAddr w s) = true →
    bankServes (effAddr w s) s = true → badIn (effAddr w s) 16 s = none → Does (.ldc w) s fun t =>
      Completes (fun c => c.setCap (fCd w) { bits := BitVec.ofNat 128 (natOfBytes (s.bytes (effAddr w s) 16)), tag := tagOf (effAddr w s) s }) s t) ∧
  (∀ (s : State) (w : Word) (n : Fin 24), Boundary s → effAddr w s = Reg.CUn_MATCHA n → dataFault (fCN w) [pLOAD] (effAddr w s) 4 4 s = none →
    domainOn 0 s = true → Does (.ldw w) s fun t =>
      t.trio.core = loopBack s.trio.core.pc 3 (s.trio.core.setReg (fRd w) (s.rd (Reg.CUn_MATCHA n))) ∧ NoLog s t ∧ Keeps [] s t)

/-- Stores: the stored bytes, tags, undo entries and frame (R253, R256, R261, R262, R285, R316; tier 2, derived). At an ordinary boundary a store whose
checks pass writes its bytes, little-endian, at rs1 + simm13, appends an undo entry for each word of DTCM or shared SRAM it changes, clears the tag of
the granule (STC writes its own tag), and completes; no other byte and no register but TRIO_STAT changes. STW to a match register of a counter unit
writes it. -/
def Obligations.StoreInstructions : Prop :=
  (∀ (s : State) (w : Word), Boundary s → dataFault (fCN w) [pSTORE] (effAddr w s) 4 4 s = none → holdsTags (effAddr w s) = true →
    bankServes (effAddr w s) s = true → badIn (effAddr w s) 4 s = none → Does (.stw w) s fun t =>
      Stores [Reg.TRIO_STAT] (effAddr w s) 4 s t ∧ t.bytes (effAddr w s) 4 = (bytesOfWord (s.trio.core.reg (fRd w))).take 4 ∧
        tagOf (effAddr w s) t = false ∧
      t.trio.core = loopBack s.trio.core.pc 3 s.trio.core ∧
        t.trio.undo.length = s.trio.undo.length + (if regionOf (effAddr w s) = some .itcm then 0 else 1) ∧ NoLog s t ∧
        (regionOf (effAddr w s) = some .sram →
        t.trio.undo = ⟨s.memWord (effAddr w s), (effAddr w s - 0x20000000) / 4, true, tagOf (effAddr w s) s, true⟩ :: s.trio.undo)) ∧
  (∀ (s : State) (w : Word), Boundary s → dataFault (fCN w) [pSTORE] (effAddr w s) 2 2 s = none → holdsTags (effAddr w s) = true →
    bankServes (effAddr w s) s = true → badIn (effAddr w s) 2 s = none → Does (.sth w) s fun t =>
      Stores [Reg.TRIO_STAT] (effAddr w s) 2 s t ∧ t.bytes (effAddr w s) 2 = (bytesOfWord (s.trio.core.reg (fRd w))).take 2 ∧
        tagOf (effAddr w s) t = false ∧
      t.trio.core = loopBack s.trio.core.pc 3 s.trio.core ∧
        t.trio.undo.length = s.trio.undo.length + (if regionOf (effAddr w s) = some .itcm then 0 else 1) ∧ NoLog s t) ∧
  (∀ (s : State) (w : Word), Boundary s → dataFault (fCN w) [pSTORE] (effAddr w s) 1 1 s = none → holdsTags (effAddr w s) = true →
    bankServes (effAddr w s) s = true → badIn (effAddr w s) 1 s = none → Does (.stb w) s fun t =>
      Stores [Reg.TRIO_STAT] (effAddr w s) 1 s t ∧ t.bytes (effAddr w s) 1 = (bytesOfWord (s.trio.core.reg (fRd w))).take 1 ∧
        tagOf (effAddr w s) t = false ∧
      t.trio.core = loopBack s.trio.core.pc 3 s.trio.core ∧
        t.trio.undo.length = s.trio.undo.length + (if regionOf (effAddr w s) = some .itcm then 0 else 1) ∧ NoLog s t) ∧
  (∀ (s : State) (w : Word), Boundary s → dataFault (fCN w) [pSTORE, pSTORECAP] (effAddr w s) 16 16 s = none → holdsTags (effAddr w s) = true →
    bankServes (effAddr w s) s = true → Does (.stc w) s fun t =>
      Stores [Reg.TRIO_STAT] (effAddr w s) 16 s t ∧ t.bytes (effAddr w s) 16 = bytesOfNat 16 (s.trio.core.cap (fCd w)).bits.toNat ∧
        tagOf (effAddr w s) t = (s.trio.core.cap (fCd w)).tag ∧
      t.trio.core = loopBack s.trio.core.pc 3 s.trio.core ∧
        t.trio.undo.length = s.trio.undo.length + (if regionOf (effAddr w s) = some .itcm then 0 else 4) ∧ NoLog s t) ∧
  (∀ (s : State) (w : Word) (n : Fin 24), Boundary s → effAddr w s = Reg.CUn_MATCHA n → dataFault (fCN w) [pSTORE] (effAddr w s) 4 4 s = none →
    domainOn 0 s = true → Does (.stw w) s fun t =>
      t.rd (Reg.CUn_MATCHA n) = s.trio.core.reg (fRd w) ∧ t.trio = { s.trio with core := loopBack s.trio.core.pc 3 s.trio.core } ∧ NoLog s t ∧
        Keeps [Reg.CUn_MATCHA n] s t)

/-- Checks of data accesses: causes in their order, and the frame of the trap (R255, R256, R261, R288, R289, R290, R298, R330; tier 2, derived). A data
access traps with 0x05 for an untagged capability, else 0x08 for a sealed one, else 0x07 for a missing permission, else 0x06 outside the bounds, else
0x09 off its alignment, else 0x0A where no memory answers; the trap saves PC and PCC, opens the trap window and changes nothing else. That a
misaligned access names its capability register is the model's reading (log entry 37). -/
def Obligations.AccessTraps : Prop :=
  (∀ (s : State) (w : Word), Boundary s → CanTrap s → (s.trio.core.cap (fCN w)).tag = false → Does (.ldw w) s fun t =>
      Trapped 0x05 (BitVec.ofNat 32 (effAddr w s)) (some (fCN w)) s t) ∧
  (∀ (s : State) (w : Word), Boundary s → CanTrap s → (s.trio.core.cap (fCN w)).tag = true → (s.trio.core.cap (fCN w)).isSealed = true → Does (.stw w) s fun t =>
      Trapped 0x08 (BitVec.ofNat 32 (effAddr w s)) (some (fCN w)) s t) ∧
  (∀ (s : State) (w : Word), Boundary s → CanTrap s → (s.trio.core.cap (fCN w)).tag = true → (s.trio.core.cap (fCN w)).isSealed = false →
    (s.trio.core.cap (fCN w)).has pSTORE = false → Does (.sth w) s fun t =>
      Trapped 0x07 (BitVec.ofNat 32 (effAddr w s)) (some (fCN w)) s t) ∧
  (∀ (s : State) (w : Word), Boundary s → CanTrap s → (s.trio.core.cap (fCN w)).tag = true → (s.trio.core.cap (fCN w)).isSealed = false →
    (s.trio.core.cap (fCN w)).has pLOAD = true → (s.trio.core.cap (fCN w)).has pLOADCAP = false → Does (.ldc w) s fun t =>
      Trapped 0x07 (BitVec.ofNat 32 (effAddr w s)) (some (fCN w)) s t) ∧
  (∀ (s : State) (w : Word), Boundary s → CanTrap s → (s.trio.core.cap (fCN w)).tag = true → (s.trio.core.cap (fCN w)).isSealed = false →
    (s.trio.core.cap (fCN w)).has pLOAD = true →
    ((s.trio.core.cap (fCN w)).base + (s.trio.core.cap (fCN w)).len < effAddr w s + 2 ∨ effAddr w s < (s.trio.core.cap (fCN w)).base) → Does (.ldhu w) s fun t =>
      Trapped 0x06 (BitVec.ofNat 32 (effAddr w s)) (some (fCN w)) s t) ∧
  (∀ (s : State) (w : Word), Boundary s → CanTrap s → (s.trio.core.cap (fCN w)).tag = true → (s.trio.core.cap (fCN w)).isSealed = false →
    (s.trio.core.cap (fCN w)).has pSTORE = true → (s.trio.core.cap (fCN w)).covers (effAddr w s) 4 = true → effAddr w s % 4 ≠ 0 → Does (.stw w) s fun t =>
      Trapped 0x09 (BitVec.ofNat 32 (effAddr w s)) (some (fCN w)) s t) ∧
  (∀ (s : State) (w : Word), Boundary s → CanTrap s → dataFault (fCN w) [pLOAD] (effAddr w s) 1 1 s = none → regionOf (effAddr w s) = none → Does (.ldb w) s fun t =>
      Trapped 0x0A (BitVec.ofNat 32 (effAddr w s)) none s t) ∧
  (∀ (s : State) (w : Word), Boundary s → CanTrap s → dataFault (fCN w) [pSTORE] (effAddr w s) 1 1 s = none → regionOf (effAddr w s) = some .rom → Does (.stb w) s fun t =>
      Trapped 0x0A (BitVec.ofNat 32 (effAddr w s)) none s t)

/-- Branches and jumps: condition, target, loop levels, link (R253, R255, R264, R269, R270; tier 2, derived). A conditional branch and J go to PC + 4 ×
offset where taken, ending the loop levels whose range the target leaves, and complete otherwise; CALL writes PC + 4 to o7, JMPL to rd, and JMPL to a
target off a word boundary traps with 0x09. -/
def Obligations.Branches : Prop :=
  (∀ (s : State) (w : Word), Boundary s → Does (.beq w) s fun t =>
      ((s.trio.core.reg (fRd w)) = (s.trio.core.reg (fRs1 w)) →
        Jumps (fun c => { endLevels (s.trio.core.pc + (w.extractLsb' 0 16).signExtend 32 * 4) 3 c with pc := (s.trio.core.pc + (w.extractLsb' 0 16).signExtend 32 * 4) }) s t) ∧
        (¬ ((s.trio.core.reg (fRd w)) = (s.trio.core.reg (fRs1 w))) → Completes id s t)) ∧
  (∀ (s : State) (w : Word), Boundary s → Does (.bne w) s fun t =>
      ((s.trio.core.reg (fRd w)) ≠ (s.trio.core.reg (fRs1 w)) →
        Jumps (fun c => { endLevels (s.trio.core.pc + (w.extractLsb' 0 16).signExtend 32 * 4) 3 c with pc := (s.trio.core.pc + (w.extractLsb' 0 16).signExtend 32 * 4) }) s t) ∧
        (¬ ((s.trio.core.reg (fRd w)) ≠ (s.trio.core.reg (fRs1 w))) → Completes id s t)) ∧
  (∀ (s : State) (w : Word), Boundary s → Does (.blt w) s fun t =>
      ((s.trio.core.reg (fRd w)).toInt < (s.trio.core.reg (fRs1 w)).toInt →
        Jumps (fun c => { endLevels (s.trio.core.pc + (w.extractLsb' 0 16).signExtend 32 * 4) 3 c with pc := (s.trio.core.pc + (w.extractLsb' 0 16).signExtend 32 * 4) }) s t) ∧
        (¬ ((s.trio.core.reg (fRd w)).toInt < (s.trio.core.reg (fRs1 w)).toInt) → Completes id s t)) ∧
  (∀ (s : State) (w : Word), Boundary s → Does (.bge w) s fun t =>
      ((s.trio.core.reg (fRs1 w)).toInt ≤ (s.trio.core.reg (fRd w)).toInt →
        Jumps (fun c => { endLevels (s.trio.core.pc + (w.extractLsb' 0 16).signExtend 32 * 4) 3 c with pc := (s.trio.core.pc + (w.extractLsb' 0 16).signExtend 32 * 4) }) s t) ∧
        (¬ ((s.trio.core.reg (fRs1 w)).toInt ≤ (s.trio.core.reg (fRd w)).toInt) → Completes id s t)) ∧
  (∀ (s : State) (w : Word), Boundary s → Does (.bltu w) s fun t =>
      ((s.trio.core.reg (fRd w)).toNat < (s.trio.core.reg (fRs1 w)).toNat →
        Jumps (fun c => { endLevels (s.trio.core.pc + (w.extractLsb' 0 16).signExtend 32 * 4) 3 c with pc := (s.trio.core.pc + (w.extractLsb' 0 16).signExtend 32 * 4) }) s t) ∧
        (¬ ((s.trio.core.reg (fRd w)).toNat < (s.trio.core.reg (fRs1 w)).toNat) → Completes id s t)) ∧
  (∀ (s : State) (w : Word), Boundary s → Does (.bgeu w) s fun t =>
      ((s.trio.core.reg (fRs1 w)).toNat ≤ (s.trio.core.reg (fRd w)).toNat →
        Jumps (fun c => { endLevels (s.trio.core.pc + (w.extractLsb' 0 16).signExtend 32 * 4) 3 c with pc := (s.trio.core.pc + (w.extractLsb' 0 16).signExtend 32 * 4) }) s t) ∧
        (¬ ((s.trio.core.reg (fRs1 w)).toNat ≤ (s.trio.core.reg (fRd w)).toNat) → Completes id s t)) ∧
  (∀ (s : State) (w : Word), Boundary s → Does (.j w) s fun t =>
      Jumps (fun c => { endLevels (s.trio.core.pc + (w.extractLsb' 0 26).signExtend 32 * 4) 3 c with pc := (s.trio.core.pc + (w.extractLsb' 0 26).signExtend 32 * 4) }) s t) ∧
  (∀ (s : State) (w : Word), Boundary s → Does (.call w) s fun t =>
      Jumps (fun c => { c.setReg 15 (c.pc + 4) with pc := (s.trio.core.pc + (w.extractLsb' 0 26).signExtend 32 * 4) }) s t) ∧
  (∀ (s : State) (w : Word), Boundary s → (s.trio.core.reg (fRs1 w) + (w.extractLsb' 0 16).signExtend 32).toNat % 4 = 0 → Does (.jmpl w) s fun t =>
      Jumps (fun c => { c.setReg (fRd w) (c.pc + 4) with pc := (s.trio.core.reg (fRs1 w) + (w.extractLsb' 0 16).signExtend 32) }) s t) ∧
  (∀ (s : State) (w : Word), Boundary s → CanTrap s → (s.trio.core.reg (fRs1 w) + (w.extractLsb' 0 16).signExtend 32).toNat % 4 ≠ 0 → Does (.jmpl w) s fun t =>
      Trapped 0x09 (s.trio.core.reg (fRs1 w) + (w.extractLsb' 0 16).signExtend 32) none s t)

/-- Hardware loops: entry, count zero, full stack, loop-back (R255, R268, R269, R271, R272; tier 2, derived). LOOP and LOOPI push a level with LSA, LEA
and LCT and go on at the body; a count of zero completes at the end of the body; a fourth level traps with 0x0C; an instruction that completes at LEA
of the innermost level counts down and goes back, and at the last iteration falls to the next level or out. -/
def Obligations.HardwareLoops : Prop :=
  (∀ (s : State) (w : Word), Boundary s → s.trio.core.depth ≠ 3 → BitVec.ofNat 32 (w.toNat / 65536 % 1024) ≠ 0 → Does (.loopi w) s fun t =>
      Jumps (fun c => { c with lsa := updAt c.lsa (Fin.ofNat 3 c.depth.toNat) (fun _ => c.pc + 4), lea := updAt c.lea (Fin.ofNat 3 c.depth.toNat) (fun _ => c.pc + (w.extractLsb' 0 16).zeroExtend 32 * 4), lct := updAt c.lct (Fin.ofNat 3 c.depth.toNat) (fun _ => BitVec.ofNat 32 (w.toNat / 65536 % 1024)), depth := c.depth + 1, pc := c.pc + 4 }) s t) ∧
  (∀ (s : State) (w : Word), Boundary s → s.trio.core.depth ≠ 3 → s.trio.core.reg (fRd w) ≠ 0 → Does (.loop w) s fun t =>
      Jumps (fun c => { c with lsa := updAt c.lsa (Fin.ofNat 3 c.depth.toNat) (fun _ => c.pc + 4), lea := updAt c.lea (Fin.ofNat 3 c.depth.toNat) (fun _ => c.pc + (w.extractLsb' 0 16).zeroExtend 32 * 4), lct := updAt c.lct (Fin.ofNat 3 c.depth.toNat) (fun _ => s.trio.core.reg (fRd w)), depth := c.depth + 1, pc := c.pc + 4 }) s t) ∧
  (∀ (s : State) (w : Word), Boundary s → s.trio.core.depth ≠ 3 → s.trio.core.reg (fRd w) = 0 → Does (.loop w) s fun t =>
      Jumps (fun c => loopBack (c.pc + (w.extractLsb' 0 16).zeroExtend 32 * 4) 3 c) s t) ∧
  (∀ (s : State) (w : Word), Boundary s → CanTrap s → s.trio.core.depth = 3 → Does (.loopi w) s fun t =>
      Trapped 0x0C (BitVec.ofNat 32 (w.toNat / 65536 % 1024)) none s t) ∧
  (∀ (s : State) (w : Word), Boundary s → s.trio.core.depth = 1 → s.trio.core.lea[(0 : Fin 3)] = s.trio.core.pc → s.trio.core.lct[(0 : Fin 3)] ≠ 1 → Does (.addi w) s fun t =>
      t.trio.core.pc = s.trio.core.lsa[(0 : Fin 3)] ∧ t.trio.core.lct[(0 : Fin 3)] = s.trio.core.lct[(0 : Fin 3)] - 1 ∧ t.trio.core.depth = 1 ∧
        t.trio.core.lsa = s.trio.core.lsa ∧ t.trio.core.lea = s.trio.core.lea) ∧
  (∀ (s : State) (w : Word), Boundary s → s.trio.core.depth = 1 → s.trio.core.lea[(0 : Fin 3)] = s.trio.core.pc → s.trio.core.lct[(0 : Fin 3)] = 1 → Does (.addi w) s fun t =>
      t.trio.core.pc = s.trio.core.pc + 4 ∧ t.trio.core.lct[(0 : Fin 3)] = 0 ∧ t.trio.core.depth = 0) ∧
  (∀ (s : State) (w : Word), Boundary s → s.trio.core.depth = 2 → s.trio.core.lea[(0 : Fin 3)] = s.trio.core.pc →
    s.trio.core.lea[(1 : Fin 3)] = s.trio.core.pc → s.trio.core.lct[(1 : Fin 3)] = 1 → s.trio.core.lct[(0 : Fin 3)] ≠ 1 → Does (.addi w) s fun t =>
      t.trio.core.pc = s.trio.core.lsa[(0 : Fin 3)] ∧ t.trio.core.lct[(0 : Fin 3)] = s.trio.core.lct[(0 : Fin 3)] - 1 ∧
        t.trio.core.lct[(1 : Fin 3)] = 0 ∧ t.trio.core.depth = 1)

/-- Register windows: WOPEN, WCLOSE, WSPILL, WFILL and their traps (R249, R250, R251, R265, R266, R267, R316; tier 2, derived). WOPEN and WCLOSE move CWP
and write rs1 of the old window plus simm16 to rd of the new one; a move onto the oldest window traps with 0x01, below the oldest with 0x02; WSPILL
stores the 16 own registers of a window below its o6 and WFILL loads them. The logged cause of a window instruction in the trap window is the model's
reading (log entry 37). -/
def Obligations.RegisterWindows : Prop :=
  (∀ (s : State) (w : Word), Boundary s → s.trio.core.intrap = false → (¬ (s.trio.core.wen = true ∧ s.trio.core.cwp + 2 = s.trio.core.old)) → Does (.wopen w) s fun t =>
      Completes (fun c => ({ c with cwp := c.cwp + 1 } : Core).setReg (fRd w) (c.reg (fRs1 w) + (w.extractLsb' 0 16).signExtend 32)) s t) ∧
  (∀ (s : State) (w : Word), Boundary s → s.trio.core.intrap = false → (¬ (s.trio.core.wen = true ∧ s.trio.core.cwp = s.trio.core.old)) → Does (.wclose w) s fun t =>
      Completes (fun c => ({ c with cwp := c.cwp - 1 } : Core).setReg (fRd w) (c.reg (fRs1 w) + (w.extractLsb' 0 16).signExtend 32)) s t) ∧
  (∀ (s : State) (w : Word), Boundary s → CanTrap s → s.trio.core.wen = true → s.trio.core.cwp + 2 = s.trio.core.old → Does (.wopen w) s fun t =>
      Trapped 0x01 ((s.trio.core.cwp + 2).zeroExtend 32) none s t) ∧
  (∀ (s : State) (w : Word), Boundary s → CanTrap s → s.trio.core.wen = true → s.trio.core.cwp = s.trio.core.old → Does (.wclose w) s fun t =>
      Trapped 0x02 ((s.trio.core.cwp - 1).zeroExtend 32) none s t) ∧
  (∀ (s : State) (w : Word), Boundary s → SysCap (fCSs w) s →
    dataFault (fCd w) [pSTORE] (saveArea ((s.trio.core.reg (fRs1 w)).toNat % 8) s) 64 4 s = none →
    regionOf (saveArea ((s.trio.core.reg (fRs1 w)).toNat % 8) s) = some .sram → saveArea ((s.trio.core.reg (fRs1 w)).toNat % 8) s % 64 = 0 →
    bankServes (saveArea ((s.trio.core.reg (fRs1 w)).toNat % 8) s) s = true → Does (.wspill w) s fun t =>
      Stores [Reg.TRIO_STAT] (saveArea ((s.trio.core.reg (fRs1 w)).toNat % 8) s) 64 s t ∧
        t.bytes (saveArea ((s.trio.core.reg (fRs1 w)).toNat % 8) s) 64 = ((ownRegs ((s.trio.core.reg (fRs1 w)).toNat % 8)).map (fun k => bytesOfWord s.trio.core.win[k])).flatten ∧
      t.trio.core = loopBack s.trio.core.pc 3 s.trio.core ∧ t.trio.undo.length = s.trio.undo.length + 16 ∧ NoLog s t) ∧
  (∀ (s : State) (w : Word), Boundary s → SysCap (fCSs w) s →
    dataFault (fCd w) [pLOAD] (saveArea ((s.trio.core.reg (fRs1 w)).toNat % 8) s) 64 4 s = none →
    regionOf (saveArea ((s.trio.core.reg (fRs1 w)).toNat % 8) s) = some .sram → saveArea ((s.trio.core.reg (fRs1 w)).toNat % 8) s % 64 = 0 →
    bankServes (saveArea ((s.trio.core.reg (fRs1 w)).toNat % 8) s) s = true → badIn (saveArea ((s.trio.core.reg (fRs1 w)).toNat % 8) s) 64 s = none → Does (.wfill w) s fun t =>
      (List.range 16).all (fun i => t.trio.core.win[(ownRegs ((s.trio.core.reg (fRs1 w)).toNat % 8)).getD i 0] == s.memWord (saveArea ((s.trio.core.reg (fRs1 w)).toNat % 8) s + 4 * i)) = true ∧
      (List.finRange 128).all (fun k => (ownRegs ((s.trio.core.reg (fRs1 w)).toNat % 8)).contains k || t.trio.core.win[k] == s.trio.core.win[k]) = true ∧
      t.trio.core.g = s.trio.core.g ∧ t.trio.core.pc = (loopBack s.trio.core.pc 3 s.trio.core).pc ∧ NoLog s t ∧ Keeps [] s t)

/-- System instructions: special registers, TRAP, BKPT, TRET, WFI, CKPT, privilege (R273, R274, R296, R298, R300, R301, R314, R315, R322; tier 2,
derived). RDSR reads and WRSR writes the special register named, in the fields it implements; TRAP and BKPT trap; TRET restores PC and PCC and leaves
the trap window; WFI sleeps after a checkpoint unless a wake is pending, CKPT takes one; a privileged instruction without SYS in cS traps with 0x04. -/
def Obligations.SystemInstructions : Prop :=
  (∀ (s : State) (w : Word), Boundary s → fSr w = 0 → Does (.rdsr w) s fun t =>
      Completes (fun c => c.setReg (fRd w) (c.cwp.zeroExtend 32)) s t) ∧
  (∀ (s : State) (w : Word), Boundary s → fSr w = 3 → SysCap (fCSs w) s → Does (.rdsr w) s fun t =>
      Completes (fun c => c.setReg (fRd w) c.tepc) s t) ∧
  (∀ (s : State) (w : Word) (l : Fin 3), Boundary s → fSr w = 8 + 4 * l.val → Does (.rdsr w) s fun t =>
      Completes (fun c => c.setReg (fRd w) c.lsa[l]) s t) ∧
  (∀ (s : State) (w : Word), Boundary s → CanTrap s → 1 ≤ fSr w → fSr w ≤ 5 → (s.trio.core.cap (fCSs w)).tag = false → Does (.rdsr w) s fun t =>
      Trapped 0x04 w (some (fCSs w)) s t) ∧
  (∀ (s : State) (w : Word), Boundary s → fSr w = 5 → SysCap (fCSs w) s → Does (.wrsr w) s fun t =>
      Completes (fun c => { c with ie := (c.reg (fRs1 w)).getLsbD 1 }) s t) ∧
  (∀ (s : State) (w : Word), Boundary s → fSr w = 1 → SysCap (fCSs w) s → Does (.wrsr w) s fun t =>
      Completes (fun c => { c with wen := (c.reg (fRs1 w)).getLsbD 8, old := (c.reg (fRs1 w)).extractLsb' 0 3 }) s t) ∧
  (∀ (s : State) (w : Word), Boundary s → fSr w = 0x14 → SysCap (fCSs w) s → Does (.wrsr w) s fun t =>
      Jumps (fun c => { loopBack c.pc 3 c with depth := (c.reg (fRs1 w)).extractLsb' 0 2 }) s t) ∧
  (∀ (s : State) (w : Word), Boundary s → CanTrap s → Does (.trap w) s fun t =>
      Trapped 0x0E (s.trio.core.reg (fRs1 w)) none s t) ∧
  (∀ (s : State) (w : Word), Boundary s → CanTrap s → Does (.bkpt w) s fun t =>
      Trapped 0x0D 0 none s t) ∧
  (∀ (s : State) (w : Word), Boundary s → SysCap (fCSs w) s → Does (.tret w) s fun t =>
      Jumps (fun c => { c with intrap := false, pcc := c.tepcc, pc := c.tepc }) s t) ∧
  (∀ (s : State) (w : Word), Boundary s → SysCap (fCSs w) s → irqVec s = 0 → s.trio.haltReq = false → Does (.wfi w) s fun t =>
      t.trio.ckpt = true ∧ t.trio.sleepAfter = true ∧ (s.clk.ns + 134, .checkpointComplete) ∈ t.timers ∧
        t.trio.core = loopBack s.trio.core.pc 3 s.trio.core ∧ NoLog s t ∧ Keeps [] s t) ∧
  (∀ (s : State) (w : Word), Boundary s → SysCap (fCSs w) s → irqVec s ≠ 0 → Does (.wfi w) s fun t =>
      Completes id s t) ∧
  (∀ (s : State) (w : Word), Boundary s → SysCap (fCSs w) s → Does (.ckpt w) s fun t =>
      t.trio.ckpt = true ∧ t.trio.sleepAfter = false ∧ (s.clk.ns + 134, .checkpointComplete) ∈ t.timers ∧
        t.trio.core = loopBack s.trio.core.pc 3 s.trio.core ∧ NoLog s t ∧ Keeps [] s t)

/-- Capability instructions: results and frames (R275, R280, R281, R282, R283, R291, R294, R295; tier 2, derived). At an ordinary boundary the capability
instructions read base, length, permissions, type, tag and seal, copy, trim, mask, untag, lock and unlock capabilities whose checks pass, compare two,
and read PCC; they complete and change nothing else. -/
def Obligations.CapabilityInstructions : Prop :=
  (∀ (s : State) (w : Word), Boundary s → Does (.acpy w) s fun t =>
      Completes (fun c => c.setCap (fCd w) (c.cap (fCs1 w))) s t) ∧
  (∀ (s : State) (w : Word), Boundary s → Does (.ardbase w) s fun t =>
      Completes (fun c => c.setReg (fRd w) ((s.trio.core.cap (fCs1 w)).bits.extractLsb' 0 32)) s t) ∧
  (∀ (s : State) (w : Word), Boundary s → Does (.ardlen w) s fun t =>
      Completes (fun c => c.setReg (fRd w) (if (s.trio.core.cap (fCs1 w)).len = 2 ^ 32 then 0xFFFFFFFF else (s.trio.core.cap (fCs1 w)).bits.extractLsb' 32 32)) s t) ∧
  (∀ (s : State) (w : Word), Boundary s → Does (.ardperm w) s fun t =>
      Completes (fun c => c.setReg (fRd w) (((s.trio.core.cap (fCs1 w)).bits.extractLsb' 72 8).zeroExtend 32)) s t) ∧
  (∀ (s : State) (w : Word), Boundary s → Does (.ardtype w) s fun t =>
      Completes (fun c => c.setReg (fRd w) (((s.trio.core.cap (fCs1 w)).bits.extractLsb' 80 16).zeroExtend 32)) s t) ∧
  (∀ (s : State) (w : Word), Boundary s → Does (.ardtag w) s fun t =>
      Completes (fun c => c.setReg (fRd w) (BitVec.ofNat 32 ((if (s.trio.core.cap (fCs1 w)).tag then 1 else 0) + (if (s.trio.core.cap (fCs1 w)).isSealed then 2 else 0)))) s t) ∧
  (∀ (s : State) (w : Word), Boundary s → (s.trio.core.cap (fCs1 w)).tag = true → (s.trio.core.cap (fCs1 w)).isSealed = false →
    (s.trio.core.reg (fRs1 w)).toNat ≤ (s.trio.core.cap (fCs1 w)).len → Does (.atrimlo w) s fun t =>
      Completes (fun c => c.setCap (fCd w) (t.trio.core.cap (fCd w))) s t ∧ (t.trio.core.cap (fCd w)).tag = true ∧
        (t.trio.core.cap (fCd w)).base = ((s.trio.core.cap (fCs1 w)).base + (s.trio.core.reg (fRs1 w)).toNat) % 2 ^ 32 ∧
        (t.trio.core.cap (fCd w)).len = (s.trio.core.cap (fCs1 w)).len - (s.trio.core.reg (fRs1 w)).toNat ∧
        (t.trio.core.cap (fCd w)).perm = (s.trio.core.cap (fCs1 w)).perm ∧ (t.trio.core.cap (fCd w)).isSealed = false ∧
        (t.trio.core.cap (fCd w)).otype = (s.trio.core.cap (fCs1 w)).otype) ∧
  (∀ (s : State) (w : Word), Boundary s → (s.trio.core.cap (fCs1 w)).tag = true → (s.trio.core.cap (fCs1 w)).isSealed = false →
    (s.trio.core.reg (fRs1 w)).toNat ≤ (s.trio.core.cap (fCs1 w)).len → Does (.atrimlen w) s fun t =>
      Completes (fun c => c.setCap (fCd w) (t.trio.core.cap (fCd w))) s t ∧ (t.trio.core.cap (fCd w)).tag = true ∧
        (t.trio.core.cap (fCd w)).base = (s.trio.core.cap (fCs1 w)).base ∧ (t.trio.core.cap (fCd w)).len = (s.trio.core.reg (fRs1 w)).toNat ∧
        (t.trio.core.cap (fCd w)).perm = (s.trio.core.cap (fCs1 w)).perm ∧ (t.trio.core.cap (fCd w)).isSealed = false ∧
        (t.trio.core.cap (fCd w)).otype = (s.trio.core.cap (fCs1 w)).otype) ∧
  (∀ (s : State) (w : Word), Boundary s → (s.trio.core.cap (fCs1 w)).tag = true → (s.trio.core.cap (fCs1 w)).isSealed = false → Does (.amask w) s fun t =>
      Completes (fun c => c.setCap (fCd w) (t.trio.core.cap (fCd w))) s t ∧ (t.trio.core.cap (fCd w)).tag = true ∧
        (t.trio.core.cap (fCd w)).base = (s.trio.core.cap (fCs1 w)).base ∧ (t.trio.core.cap (fCd w)).len = (s.trio.core.cap (fCs1 w)).len ∧
        (t.trio.core.cap (fCd w)).perm = (s.trio.core.cap (fCs1 w)).perm &&& (s.trio.core.reg (fRs1 w)).extractLsb' 0 8 ∧
        (t.trio.core.cap (fCd w)).isSealed = false ∧ (t.trio.core.cap (fCd w)).otype = (s.trio.core.cap (fCs1 w)).otype) ∧
  (∀ (s : State) (w : Word), Boundary s → Does (.avoid w) s fun t =>
      Completes (fun c => c.setCap (fCd w) { c.cap (fCs1 w) with tag := false }) s t) ∧
  (∀ (s : State) (w : Word), Boundary s → (s.trio.core.cap (fCs1 w)).tag = true → (s.trio.core.cap (fCs1 w)).isSealed = false →
    (s.trio.core.cap (fCs2 w)).tag = true → (s.trio.core.cap (fCs2 w)).isSealed = false → (s.trio.core.cap (fCs2 w)).has pSEAL = true →
    (s.trio.core.reg (fRs1 w)).toNat % 65536 ≠ 0 → (s.trio.core.cap (fCs2 w)).base ≤ (s.trio.core.reg (fRs1 w)).toNat % 65536 →
    (s.trio.core.reg (fRs1 w)).toNat % 65536 < (s.trio.core.cap (fCs2 w)).base + (s.trio.core.cap (fCs2 w)).len → Does (.alock w) s fun t =>
      Completes (fun c => c.setCap (fCd w) (t.trio.core.cap (fCd w))) s t ∧ (t.trio.core.cap (fCd w)).tag = true ∧
        (t.trio.core.cap (fCd w)).isSealed = true ∧ (t.trio.core.cap (fCd w)).otype = (s.trio.core.reg (fRs1 w)).toNat % 65536 ∧
        (t.trio.core.cap (fCd w)).base = (s.trio.core.cap (fCs1 w)).base ∧ (t.trio.core.cap (fCd w)).len = (s.trio.core.cap (fCs1 w)).len ∧
        (t.trio.core.cap (fCd w)).perm = (s.trio.core.cap (fCs1 w)).perm) ∧
  (∀ (s : State) (w : Word), Boundary s → (s.trio.core.cap (fCs1 w)).tag = true → (s.trio.core.cap (fCs1 w)).isSealed = true →
    (s.trio.core.cap (fCs2 w)).tag = true → (s.trio.core.cap (fCs2 w)).isSealed = false → (s.trio.core.cap (fCs2 w)).has pUNSEAL = true →
    (s.trio.core.cap (fCs2 w)).base ≤ (s.trio.core.cap (fCs1 w)).otype →
    (s.trio.core.cap (fCs1 w)).otype < (s.trio.core.cap (fCs2 w)).base + (s.trio.core.cap (fCs2 w)).len → Does (.aunlock w) s fun t =>
      Completes (fun c => c.setCap (fCd w) (t.trio.core.cap (fCd w))) s t ∧ (t.trio.core.cap (fCd w)).tag = true ∧
        (t.trio.core.cap (fCd w)).isSealed = false ∧ (t.trio.core.cap (fCd w)).otype = 0 ∧
        (t.trio.core.cap (fCd w)).base = (s.trio.core.cap (fCs1 w)).base ∧ (t.trio.core.cap (fCd w)).len = (s.trio.core.cap (fCs1 w)).len ∧
        (t.trio.core.cap (fCd w)).perm = (s.trio.core.cap (fCs1 w)).perm) ∧
  (∀ (s : State) (w : Word), Boundary s → Does (.awithin w) s fun t =>
      Completes (fun c => c.setReg (fRd w) (if (s.trio.core.cap (fCs1 w)).tag ∧ (s.trio.core.cap (fCs2 w)).tag ∧
        (s.trio.core.cap (fCs2 w)).base ≤ (s.trio.core.cap (fCs1 w)).base ∧
        (s.trio.core.cap (fCs1 w)).base + (s.trio.core.cap (fCs1 w)).len ≤ (s.trio.core.cap (fCs2 w)).base + (s.trio.core.cap (fCs2 w)).len ∧
        (s.trio.core.cap (fCs1 w)).perm &&& ~~~(s.trio.core.cap (fCs2 w)).perm = 0 then 1 else 0)) s t) ∧
  (∀ (s : State) (w : Word), Boundary s → Does (.ardpcc w) s fun t =>
      Completes (fun c => c.setCap (fCd w) c.pcc) s t)

/-- AJUMP, AENTER, the special capabilities and the traps of derivation (R275, R282, R291, R292, R293, R296, R299; tier 2, derived). AJUMP goes to rs1
under cs1, AENTER unseals a pair of types t even and t + 1 and goes to its base, ARDSPC and AWRSPC move PCC, TEPCC and TVEC with SYS; trimming beyond
the length, sealing a sealed capability and jumping through one without EXEC trap with their causes. The alignment of the target of AENTER is the
model's reading (log entry 37). -/
def Obligations.ProtectedTransfers : Prop :=
  (∀ (s : State) (w : Word), Boundary s → (s.trio.core.cap (fCs1 w)).tag = true → (s.trio.core.cap (fCs1 w)).isSealed = false →
    (s.trio.core.cap (fCs1 w)).has pEXEC = true → (s.trio.core.reg (fRs1 w)).toNat % 4 = 0 → Does (.ajump w) s fun t =>
      Jumps (fun c => { c with pcc := (s.trio.core.cap (fCs1 w)), pc := (s.trio.core.reg (fRs1 w)) }) s t) ∧
  (∀ (s : State) (w : Word), Boundary s → CanTrap s → (s.trio.core.cap (fCs1 w)).tag = true → (s.trio.core.cap (fCs1 w)).isSealed = false →
    (s.trio.core.cap (fCs1 w)).has pEXEC = false → Does (.ajump w) s fun t =>
      Trapped 0x07 0 (some (fCs1 w)) s t) ∧
  (∀ (s : State) (w : Word), Boundary s → (s.trio.core.cap (fCs1 w)).tag = true → (s.trio.core.cap (fCs2 w)).tag = true →
    (s.trio.core.cap (fCs1 w)).isSealed = true → (s.trio.core.cap (fCs2 w)).isSealed = true → (s.trio.core.cap (fCs1 w)).otype % 2 = 0 →
    (s.trio.core.cap (fCs2 w)).otype = (s.trio.core.cap (fCs1 w)).otype + 1 → (s.trio.core.cap (fCs1 w)).has pEXEC = true →
    (s.trio.core.cap (fCs2 w)).has pEXEC = false → Does (.aenter w) s fun t =>
      Jumps (fun c => { c.setCap (fCd w) (s.trio.core.cap (fCs2 w)).unsealed with pcc := (s.trio.core.cap (fCs1 w)).unsealed, pc := BitVec.ofNat 32 ((s.trio.core.cap (fCs1 w)).base / 4 * 4) }) s t) ∧
  (∀ (s : State) (w : Word), Boundary s → SysCap (fCSc w) s → (s.trio.core.reg (fRs1 w)) = 2 → Does (.ardspc w) s fun t =>
      Completes (fun c => c.setCap (fCd w) c.tvec) s t) ∧
  (∀ (s : State) (w : Word), Boundary s → SysCap (fCSc w) s → (s.trio.core.reg (fRs1 w)) = 1 → Does (.ardspc w) s fun t =>
      Completes (fun c => c.setCap (fCd w) c.tepcc) s t) ∧
  (∀ (s : State) (w : Word), Boundary s → SysCap (fCSc w) s → (s.trio.core.reg (fRs1 w)) = 2 → Does (.awrspc w) s fun t =>
      Completes (fun c => { c with tvec := (s.trio.core.cap (fCs1 w)) }) s t) ∧
  (∀ (s : State) (w : Word), Boundary s → SysCap (fCSc w) s → (s.trio.core.reg (fRs1 w)) = 1 → Does (.awrspc w) s fun t =>
      Completes (fun c => { c with tepcc := (s.trio.core.cap (fCs1 w)) }) s t) ∧
  (∀ (s : State) (w : Word), Boundary s → CanTrap s → (s.trio.core.cap (fCSc w)).has pSYS = false → Does (.awrspc w) s fun t =>
      Trapped 0x04 w (some (fCSc w)) s t) ∧
  (∀ (s : State) (w : Word), Boundary s → CanTrap s → (s.trio.core.cap (fCs1 w)).tag = true → (s.trio.core.cap (fCs1 w)).isSealed = false →
    (s.trio.core.cap (fCs1 w)).len < (s.trio.core.reg (fRs1 w)).toNat → Does (.atrimlo w) s fun t =>
      Trapped 0x06 (s.trio.core.reg (fRs1 w)) (some (fCs1 w)) s t) ∧
  (∀ (s : State) (w : Word), Boundary s → CanTrap s → (s.trio.core.cap (fCs1 w)).tag = true → (s.trio.core.cap (fCs2 w)).tag = true →
    (s.trio.core.cap (fCs1 w)).isSealed = true → Does (.alock w) s fun t =>
      Trapped 0x08 (BitVec.ofNat 32 ((s.trio.core.reg (fRs1 w)).toNat % 65536)) (some (fCs1 w)) s t)

/-- Illegal words, interrupts and double traps (R255, R276, R298, R299, R302, R303, R304, R305, R278; tier 2, derived). A defined-illegal word traps with
0x03; a due interrupt is taken in place of an instruction with the lowest pending enabled IRQ as its cause; a trap in the trap window changes nothing
of the cores, is logged and starts a rollback; a reserved encoding always ends in a next state. The effect of a reserved encoding is the model's form
of free values (log entry 6), an interrupt that is due is taken in place of the instruction (log entry 10), and the kind and agreement bytes of a
double trap's entry are the model's reading (log entry 33). -/
def Obligations.IllegalWords : Prop :=
  (∀ (s : State) (w : Word), Boundary s → CanTrap s → Does (.definedIllegal w) s fun t =>
      Trapped 0x03 w none s t) ∧
  (∀ (s : State) (n : Nat), trioActive s = true → CanTrap s → s.trio.core.ie = true → irqLowest s = some n → Does .interrupt s fun t =>
      t = coreUpd (fun c => { c with tcause := BitVec.ofNat 32 ((0x10 + n) % 256), tval := 0, tepc := c.pc, tepcc := c.pcc, intrap := true, pcc := c.tvec.unsealed, pc := BitVec.ofNat 32 c.tvec.base }) s) ∧
  (∀ (s : State) (w : Word) (n : Nat), trioActive s = true → CanTrap s → s.trio.core.ie = true → irqLowest s = some n → Does (.add w) s fun t =>
      t = coreUpd (fun c => { c with tcause := BitVec.ofNat 32 ((0x10 + n) % 256), tval := 0, tepc := c.pc, tepcc := c.pcc, intrap := true, pcc := c.tvec.unsealed, pc := BitVec.ofNat 32 c.tvec.base }) s) ∧
  (∀ (s : State) (w : Word), Boundary s → s.trio.core.intrap = true → s.get F.TRIO_STAT_RBSEQ < zeroAsOne (s.get F.TRIO_CKCFG_ROLLMAX) →
    regionOf s.trio.core.pc.toNat ≠ some .xspi → Does (.trap w) s fun t =>
      t.get F.SYS_SPEED_TRIO = 2 ∧ t.trio.core = s.trio.core ∧ t.trio.undo = s.trio.undo ∧
        t.get F.TRIO_CNT_ROLLS = satInc F.TRIO_CNT_ROLLS.width (s.get F.TRIO_CNT_ROLLS) 1 ∧
      t.log.reqs.map (fun e => e.code) = s.log.reqs.map (fun e => e.code) ++ [0x0020, 0x0001] ∧
      (s.clk.ns + ((192 + s.trio.undo.length) * 4 + 2) / 3, .rollbackComplete) ∈ t.timers ∧ Keeps [Reg.SYS_SPEED, Reg.TRIO_CNT, Reg.TRIO_LAST] s t) ∧
  (∀ (s : State) (w : Word), Boundary s → CanTrap s → ((List.range 8).all (fun n => !(s.trio.core.cap n).tag) = true) → Does (.reservedEncoding w) s fun t =>
      t.regs = s.regs ∧ t.mem = s.mem ∧ t.mst = s.mst ∧ t.timers = s.timers ∧ t.trio = { s.trio with core := t.trio.core } ∧
        t.trio.core.tvec = s.trio.core.tvec ∧ t.trio.core.c = s.trio.core.c ∧ t.trio.core.depth.toNat ≤ s.trio.core.depth.toNat ∧ NoLog s t ∧
        SameMem s t)

/-- Checkpoints, rollback, reset, sleep and the vote (R302, R307, R313, R314, R315, R317, R318, R319, R320, R321, R322, R323; tier 2, derived). A
checkpoint takes the agreed core into the other snapshot slot and empties the undo log; a mismatch starts a rollback, and one that comes with a core's
double trap logs that too, whose completion restores the core from the active slot and hands consumed IRQs back; at ROLLMAX it is a Trio-only reset;
the release starts the cores in the boot ROM; wake, halt and resume move the Trio between its states. The nanosecond of a wake out of power-down and
the bytes of a double trap's entry are the model's reading (log entries 33 and 34). -/
def Obligations.TrioControl : Prop :=
  (∀ (s : State), trioActive s = true → Does .periodicCheckpoint s fun t =>
      t.trio = { s.trio with ckpt := true, sleepAfter := false, wake := false } ∧ (s.clk.ns + 134, .checkpointComplete) ∈ t.timers ∧ NoLog s t ∧
        Keeps [] s t) ∧
  (∀ (s : State), trioActive s = true → 32192 < s.trio.undo.length → Does .highWaterCheckpoint s fun t =>
      t.trio = { s.trio with ckpt := true, sleepAfter := false, wake := false } ∧
        t.get F.TRIO_CNT_HWCKPT = satInc F.TRIO_CNT_HWCKPT.width (s.get F.TRIO_CNT_HWCKPT) 1 ∧
      (s.clk.ns + 134, .checkpointComplete) ∈ t.timers ∧ NoLog s t ∧ Keeps [Reg.TRIO_CNT] s t) ∧
  (∀ (s : State), s.trio.ckpt = true → s.trio.sleepAfter = false → s.trio.haltReq = false → s.get F.TRIO_STAT_SLOT < 2 → Does .checkpointComplete s fun t =>
      t.trio.snap[(Fin.ofNat 2 (1 - s.get F.TRIO_STAT_SLOT) : Fin 2)] = s.trio.core ∧
        t.trio.snap[(Fin.ofNat 2 (s.get F.TRIO_STAT_SLOT) : Fin 2)] = s.trio.snap[(Fin.ofNat 2 (s.get F.TRIO_STAT_SLOT) : Fin 2)] ∧
      t.trio.core = s.trio.core ∧ t.trio.undo = [] ∧ t.trio.ckpt = false ∧ t.get F.TRIO_STAT_SLOT = 1 - s.get F.TRIO_STAT_SLOT ∧
        t.get F.TRIO_STAT_RBSEQ = 0 ∧ t.get F.TRIO_STAT_LOGUSED = 0 ∧
      t.rd (Reg.TRIO_IRQCLRj 0) = 0 ∧ t.rd (Reg.TRIO_IRQCLRj 1) = 0 ∧ t.get F.SYS_SPEED_TRIO = 0 ∧ t.mbx.taken = [] ∧ NoLog s t ∧
      Keeps [Reg.TRIO_STAT, Reg.TRIO_IRQCLRj 0, Reg.TRIO_IRQCLRj 1, Reg.SYS_SPEED] s t) ∧
  (∀ (s : State), s.trio.ckpt = true → s.trio.sleepAfter = true → s.trio.wake = false → s.trio.haltReq = false → s.get F.SYS_SPEED_TRIO = 0 →
    irqVec s = 0 → Does .checkpointComplete s fun t =>
      t.trio.ckpt = false ∧ t.trio.undo = [] ∧ t.get F.SYS_SPEED_TRIO = 1 ∧ t.trio.group = (if s.on F.TRIO_SLP_PDOWN then false else s.trio.group) ∧
      (s.on F.TRIO_SLP_PDOWN = true → domainOn 1 t = false ∧ domainOn 2 t = false ∧ domainOn 3 t = false) ∧ (s.on F.TRIO_SLP_PDOWN = false →
        t.rd Reg.PWR_ON0 = s.rd Reg.PWR_ON0) ∧
      t.trio.core = s.trio.core ∧ NoLog s t ∧ Keeps [Reg.TRIO_STAT, Reg.TRIO_IRQCLRj 0, Reg.TRIO_IRQCLRj 1, Reg.SYS_SPEED, Reg.PWR_ON0] s t) ∧
  (∀ (s : State), s.trio.run = true → s.get F.SYS_SPEED_TRIO = 1 → s.trio.group = true → s.trio.upAt ≤ s.clk.ns → s.trio.haltReq = false → Does .wake s fun t =>
      t.get F.SYS_SPEED_TRIO = 0 ∧ t.trio.core = s.trio.core ∧ t.trio.undo = s.trio.undo ∧ NoLog s t ∧ Keeps [Reg.SYS_SPEED] s t) ∧
  (∀ (s : State), s.trio.run = true → s.get F.SYS_SPEED_TRIO = 1 → s.trio.group = false → Does .wake s fun t =>
      t.trio.group = true ∧ t.trio.upAt = s.clk.ns + 16928 ∧ t.get F.SYS_SPEED_TRIO = 1 ∧ (s.clk.ns + 16928, .wake) ∈ t.timers ∧ NoLog s t ∧
        Keeps [] s t) ∧
  (∀ (s : State), trioActive s = true → Does .debugHalt s fun t =>
      t.get F.SYS_SPEED_TRIO = 3 ∧ t.trio.core = s.trio.core ∧ t.trio.wdtFrom = none ∧ NoLog s t ∧ Keeps [Reg.SYS_SPEED] s t) ∧
  (∀ (s : State), s.trio.run = true → s.get F.SYS_SPEED_TRIO = 3 → Does .debugResume s fun t =>
      t.get F.SYS_SPEED_TRIO = 0 ∧ t.trio.core = s.trio.core ∧ t.trio.haltReq = false ∧ NoLog s t ∧ Keeps [Reg.SYS_SPEED] s t) ∧
  (∀ (s : State) (kind : Fin 5) (agree : BitVec 3), s.trio.run = true → s.get F.SYS_SPEED_TRIO = 0 → agree ∈ ([0, 1, 2, 4] : List (BitVec 3)) →
    s.get F.TRIO_STAT_RBSEQ < zeroAsOne (s.get F.TRIO_CKCFG_ROLLMAX) → Does (.mismatch kind agree ⟨none, none⟩) s fun t =>
      t.get F.SYS_SPEED_TRIO = 2 ∧ t.trio.core = s.trio.core ∧ t.trio.undo = s.trio.undo ∧ t.trio.rbN = s.trio.undo.length ∧
        t.get F.TRIO_LAST_AGREE = agree.toNat ∧
      t.get F.TRIO_CNT_ROLLS = satInc F.TRIO_CNT_ROLLS.width (s.get F.TRIO_CNT_ROLLS) 1 ∧
        (s.clk.ns + ((192 + s.trio.undo.length) * 4 + 2) / 3, .rollbackComplete) ∈ t.timers ∧
      Logged 0x0A 0x0001 ([0, b8 kind, b8 agree.toNat] ++ bytesOfNat 4 s.trio.core.pc.toNat ++ bytesOfNat 2 s.trio.undo.length ++
      bytesOfNat 3 (min ((s.clk.ns - s.trio.ckAt) / 1000) 0xFFFFFF) ++ [b8 (s.get F.TRIO_STAT_RBSEQ)]) s t ∧
      Keeps [Reg.SYS_SPEED, Reg.TRIO_CNT, Reg.TRIO_LAST] s t) ∧
  (∀ (s : State) (agree : BitVec 3) (trap : BitVec 120), s.trio.run = true → s.get F.SYS_SPEED_TRIO = 0 → agree ∈ ([0, 1, 2, 4] : List (BitVec 3)) →
    s.get F.TRIO_STAT_RBSEQ < zeroAsOne (s.get F.TRIO_CKCFG_ROLLMAX) → Does (.mismatch 3 agree ⟨none, some trap⟩) s fun t =>
      t.get F.SYS_SPEED_TRIO = 2 ∧ (⟨s.clk.time, s.logAngle, 0x0A, 0x0020, bytesOfNat 15 trap.toNat⟩ : LogEntry) ∈ t.log.reqs ∧
      LastLog 0x0A 0x0001 ([0, 3, b8 agree.toNat] ++ bytesOfNat 4 s.trio.core.pc.toNat ++ bytesOfNat 2 s.trio.undo.length ++
      bytesOfNat 3 (min ((s.clk.ns - s.trio.ckAt) / 1000) 0xFFFFFF) ++ [b8 (s.get F.TRIO_STAT_RBSEQ)]) s t ∧
      Keeps [Reg.SYS_SPEED, Reg.TRIO_CNT, Reg.TRIO_LAST] s t) ∧
  (∀ (s : State) (kind : Fin 5) (perform : Option (Nat × List Byte × Bool)) (trap : Option (BitVec 120)), Does (.mismatch kind 7 ⟨perform, trap⟩) s fun t =>
      t = s) ∧
  (∀ (s : State), s.trio.run = true → s.get F.SYS_SPEED_TRIO = 2 → s.trio.undo = [] → s.mst.bad = [] → s.trio.haltReq = false → s.mbx.taken = [] →
    s.trio.snap[(Fin.ofNat 2 (s.get F.TRIO_STAT_SLOT) : Fin 2)].pc.toNat ≥ 0x20000 → Does .rollbackComplete s fun t =>
      t.trio.core = s.trio.snap[(Fin.ofNat 2 (s.get F.TRIO_STAT_SLOT) : Fin 2)] ∧ t.get F.SYS_SPEED_TRIO = 0 ∧ t.trio.snap = s.trio.snap ∧
      t.get F.TRIO_STAT_RBSEQ = satInc F.TRIO_STAT_RBSEQ.width (s.get F.TRIO_STAT_RBSEQ) 1 ∧
        t.get F.TRIO_LAST_DUR = (192 + s.trio.rbN) % 2 ^ F.TRIO_LAST_DUR.width ∧
      (List.range 2).all (fun j => t.rd (Reg.TRIO_IRQPENDj j) == s.rd (Reg.TRIO_IRQPENDj j) ||| s.rd (Reg.TRIO_IRQCLRj j)) = true ∧
      Logged 0x0A 0x0002 (bytesOfNat 2 (192 + s.trio.rbN)) s t ∧
        Keeps [Reg.TRIO_STAT, Reg.TRIO_LAST, Reg.TRIO_IRQPENDj 0, Reg.TRIO_IRQPENDj 1, Reg.SYS_SPEED] s t) ∧
  (∀ (s : State) (e : Undo), s.trio.run = true → s.get F.SYS_SPEED_TRIO = 2 → s.trio.undo = [e] → e.valid = true → e.sram = true → s.mst.bad = [] →
    s.trio.haltReq = false → s.mbx.taken = [] → s.trio.snap[(Fin.ofNat 2 (s.get F.TRIO_STAT_SLOT) : Fin 2)].pc.toNat ≥ 0x20000 → Does .rollbackComplete s fun t =>
      t.trio.core = s.trio.snap[(Fin.ofNat 2 (s.get F.TRIO_STAT_SLOT) : Fin 2)] ∧ t.memWord (0x20000000 + 4 * e.word) = e.old ∧
        tagOf (0x20000000 + 4 * e.word) t = e.otag ∧ t.trio.undo = [] ∧
      Stores [Reg.TRIO_STAT, Reg.TRIO_LAST, Reg.TRIO_IRQPENDj 0, Reg.TRIO_IRQPENDj 1, Reg.SYS_SPEED] (0x20000000 + 4 * e.word) 4 s t)

/-- Trio-only resets, the release, the watchdog and the IRQ clears (R307, R314, R320, R321, R324, R325, R344, R352, R404, R517; tier 2, derived). The
reset action and the watchdog's count at its limit stop the cores, clear the undo log and wipe the TCM banks; the release starts them at reset values
with the boot ROM to follow; KICK restarts the watchdog; a W1C of the pending IRQs clears and records the bits it clears, and an event of the same
cycle wins. The watchdog's count after its own expiry is the model's choice (log entry 50). -/
def Obligations.TrioReset : Prop :=
  (∀ (s : State) (ticket : Byte) (arg : BitVec 16), Fresh Reg.TRIO_ACT ticket s → s.trio.run = true → Does (.trioResetAction ticket arg) s fun t =>
      t.trio.run = false ∧ t.trio.core = {} ∧ t.trio.undo = [] ∧ t.get F.SYS_SPEED_TRIO = 2 ∧ t.get F.TRIO_STAT_RBSEQ = 0 ∧ t.byte 0x10000000 = 0 ∧
        t.byte 0x1107FFFF = 0 ∧ t.byte 0x20000000 = s.byte 0x20000000 ∧
      t.mst.wiping = s.mst.wiping ++ [4, 5, 6, 7] ∧ t.armed .trioRelease = true ∧
        (⟨s.clk.time, s.logAngle, 0x0A, 0x0003, [4, 0, 0, 0, 0]⟩ : LogEntry) ∈ t.log.reqs ∧
      t.rd Reg.TRIO_ACT = ticket ++ (0 : BitVec 16) ++ (1 : Byte)) ∧
  (∀ (s : State), s.trio.run = true → s.get F.SYS_SPEED_TRIO = 0 → s.get F.TRIO_WDT_TO ≠ 0 →
    (s.get F.TRIO_WDT_TO * 1000000 ≤ s.trio.wdt + (s.trio.wdtFrom.elim 0 (fun t => s.clk.ns - t))) → Does .watchdogExpiry s fun t =>
      t.trio.run = false ∧ t.trio.core = {} ∧ t.trio.undo = [] ∧ t.get F.SYS_SPEED_TRIO = 2 ∧ t.get F.TRIO_STAT_RBSEQ = 0 ∧ t.byte 0x10000000 = 0 ∧
        t.byte 0x20000000 = s.byte 0x20000000 ∧
      t.mst.wiping = s.mst.wiping ++ [4, 5, 6, 7] ∧ t.armed .trioRelease = true ∧
        (⟨s.clk.time, s.logAngle, 0x0A, 0x0003, [3, 0, 0, 0, 0]⟩ : LogEntry) ∈ t.log.reqs) ∧
  (∀ (s : State), s.get F.TRIO_WDT_TO = 0 → Does .watchdogExpiry s fun t =>
      t = s) ∧
  (∀ (s : State), s.trio.run = false → s.trio.haltReq = false → s.get F.SYS_SPEED_TRIO = 2 → tcmOff s = [] → Does .trioRelease s fun t =>
      t.trio.run = true ∧ t.trio.core = {} ∧ t.trio.ckpt = true ∧ t.get F.SYS_SPEED_TRIO = 0 ∧ t.armed .secureBoot = true ∧
        (s.clk.ns + 134, .checkpointComplete) ∈ t.timers ∧ t.boot.started = false ∧ NoLog s t ∧
      Keeps [Reg.SYS_SPEED] s t) ∧
  (∀ (s : State) (ticket : Byte) (arg : BitVec 16), Fresh Reg.TRIO_ACT ticket s → s.trio.run = true → s.get F.SYS_SPEED_TRIO = 0 →
    s.get F.TRIO_WDT_TO ≠ 0 → Does (.kick ticket arg) s fun t =>
      t.trio.wdt = 0 ∧ t.trio.wdtFrom = some s.clk.ns ∧ (s.clk.ns + s.get F.TRIO_WDT_TO * 1000000, .watchdogExpiry) ∈ t.timers ∧
        t.trio.core = s.trio.core ∧
      t.rd Reg.TRIO_ACT = ticket ++ (0 : BitVec 16) ++ (2 : Byte) ∧ NoLog s t ∧ Keeps [Reg.TRIO_ACT] s t) ∧
  (∀ (s : State) (j : Fin 2) (value event : Word), Does (.irqPendClear j value event) s fun t =>
      t.rd (Reg.TRIO_IRQPENDj j) = (s.rd (Reg.TRIO_IRQPENDj j) &&& ~~~value) ||| event ∧
      t.rd (Reg.TRIO_IRQCLRj j) = s.rd (Reg.TRIO_IRQCLRj j) ||| (s.rd (Reg.TRIO_IRQPENDj j) &&& value &&& ~~~event) ∧ NoLog s t ∧
        Keeps [Reg.TRIO_IRQPENDj j, Reg.TRIO_IRQCLRj j] s t)

/-- Scrubbing, bank wipes, flash commands and image verification (R334, R336, R337, R338, R339, R340, R341, R343, R345, R356, R357; tier 2, derived). A
scrub read that finds a corrected or an uncorrectable error counts, latches and logs it; a bank starts serving when its wipe is complete; EXEC starts
an indirect command or is refused, whose completion puts the read bytes in XSPI_BUF; a time-out flags, logs and ends its access; VERIFY runs as a long
operation that ends with its record. That an upset comes with the scrub, and whose access a flash timeout ends, are the model's form of the commands
(log entries 20 and 40). -/
def Obligations.MemoryAndFlash : Prop :=
  (∀ (s : State) (bank : Fin 15), s.get F.LCS_CTL_SCRUBDIV ≠ 0 → domainOn (scrubBank bank).1 s = true → s.mst.wiping = [] → bank.val ≠ 13 →
    mapFind s.lim (0x0B00 + eccRegion ((scrubBank bank).2.1 + s.mst.scrub[bank])) = none → Does (.scrubRead bank 1) s fun t =>
      t.get F.LCS_ECC_CE = satInc F.LCS_ECC_CE.width (s.get F.LCS_ECC_CE) 1 ∧
        t.get F.LCS_ECCADDR_ADDR = ((scrubBank bank).2.1 + s.mst.scrub[bank]) / 4 * 4 % 2 ^ 32 ∧
      Logged 0x0B 0x0001 (b8 (eccRegion ((scrubBank bank).2.1 + s.mst.scrub[bank])) :: bytesOfNat 4 (((scrubBank bank).2.1 + s.mst.scrub[bank]) / 4 * 4)) s t ∧
      Keeps [Reg.LCS_ECC, Reg.LCS_ECCADDR] s t) ∧
  (∀ (s : State) (bank : Fin 15), s.get F.LCS_CTL_SCRUBDIV ≠ 0 → domainOn (scrubBank bank).1 s = true → s.mst.wiping = [] → Does (.scrubRead bank 2) s fun t =>
      t.get F.LCS_ECC_UE = satInc F.LCS_ECC_UE.width (s.get F.LCS_ECC_UE) 1 ∧ isBad ((scrubBank bank).2.1 + s.mst.scrub[bank]) t = true ∧
      Logged 0x0B 0x0002 ([b8 (eccRegion ((scrubBank bank).2.1 + s.mst.scrub[bank]))] ++ bytesOfNat 4 (((scrubBank bank).2.1 + s.mst.scrub[bank]) / 4 * 4) ++ [3]) s t ∧
      Keeps [Reg.LCS_ECC, Reg.LCS_ECCADDR] s t) ∧
  (∀ (s : State) (pd : Fin 64), (8 ≤ pd.val ∧ pd.val ≤ 15) → s.pwr.trans = [pd.val] → s.pwr.queue = [] → reqOn pd.val s = true → Does (.bankWipeComplete pd) s fun t =>
      domainOn pd.val t = true ∧ t.mst.wiping.contains pd.val = false ∧ t.pwr.trans = [] ∧ t.get F.PWR_BUSY_BUSY = 0 ∧ NoLog s t ∧
        Keeps [Reg.PWR_ON0, Reg.PWR_BUSY] s t) ∧
  (∀ (s : State) (ticket : Byte) (arg : BitVec 16), slotOn Reg.XSPI_ACT s = true → Fresh Reg.XSPI_ACT ticket s → s.on F.XSPI_STAT_BUSY = false →
    verifying s = false → Does (.exec ticket arg) s fun t =>
      t.get F.XSPI_STAT_BUSY = 1 ∧ t.boot = { s.boot with lines := [] } ∧ t.rd Reg.XSPI_ACT = ticket ++ (0 : BitVec 16) ++ (1 : Byte) ∧ NoLog s t ∧
        Keeps [Reg.XSPI_STAT, Reg.XSPI_ACT] s t) ∧
  (∀ (s : State) (ticket : Byte) (arg : BitVec 16), slotOn Reg.XSPI_ACT s = true → Fresh Reg.XSPI_ACT ticket s → verifying s = true → Does (.exec ticket arg) s fun t =>
      t.get F.XSPI_FLT_BUSYREF = 1 ∧ t.get F.XSPI_STAT_BUSY = s.get F.XSPI_STAT_BUSY ∧
        t.rd Reg.XSPI_ACT = ticket ++ (0 : BitVec 16) ++ (1 : Byte) ∧ NoLog s t ∧ Keeps [Reg.XSPI_FLT, Reg.XSPI_ACT] s t) ∧
  (∀ (s : State) (b0 b1 b2 b3 : Byte), s.on F.XSPI_STAT_BUSY = true → s.on F.XSPI_CMD_DATAEN = true → s.on F.XSPI_CMD_DIR = false →
    s.get F.XSPI_CMD_LEN = 3 → Does (.xspiCommandComplete [b0, b1, b2, b3]) s fun t =>
      t.get F.XSPI_STAT_BUSY = 0 ∧ t.rd (Reg.XSPI_BUFi 0) = b3 ++ b2 ++ b1 ++ b0 ∧ t.boot.epoch = s.boot.epoch + 1 ∧ NoLog s t ∧
        Keeps [Reg.XSPI_STAT, Reg.XSPI_BUFi 0] s t) ∧
  (∀ (s : State) (off : Word), s.on F.XSPI_STAT_BUSY = true → Does (.flashTimeout off 1) s fun t =>
      t.get F.XSPI_FLT_TMO = 1 ∧ t.get F.XSPI_STAT_BUSY = 0 ∧ Logged 0x16 0x0001 (bytesOfNat 4 off.toNat) s t ∧ t.boot = s.boot ∧
        Keeps [Reg.XSPI_FLT, Reg.XSPI_STAT] s t) ∧
  (∀ (s : State) (off : Word), trioActive s = true → CanTrap s → Does (.flashTimeout off 0) s fun t =>
      t.get F.XSPI_FLT_TMO = 1 ∧ t.trio.core.tcause = 0x0A ∧ t.trio.core.tval = 0x30000000 + off ∧ t.trio.core.tepc = s.trio.core.pc ∧
        t.trio.core.intrap = true ∧
      Logged 0x16 0x0001 (bytesOfNat 4 off.toNat) s t ∧ Keeps [Reg.XSPI_FLT] s t) ∧
  (∀ (s : State) (ticket : Byte) (arg : BitVec 16), slotOn Reg.CRYPTO_ACT s = true → Fresh Reg.CRYPTO_ACT ticket s →
    s.lop[(2 : Fin 5)].running = false → Does (.verify (.action ticket arg)) s fun t =>
      t.lop[(2 : Fin 5)].running = true ∧ t.lop[(2 : Fin 5)].host = none ∧
        t.lop[(2 : Fin 5)].gen = (if 65535 ≤ s.lop[(2 : Fin 5)].gen then 1 else s.lop[(2 : Fin 5)].gen + 1) ∧
      t.boot.vslot = Fin.ofNat 2 arg.toNat ∧ t.armed .verifyComplete = true ∧ t.rd Reg.CRYPTO_VSTATH = t.rd (Reg.HIF_LOPk_STATH 2) ∧
        t.rd Reg.CRYPTO_VSTATL = BitVec.ofNat 32 t.lop[(2 : Fin 5)].gen ∧
      t.rd Reg.CRYPTO_ACT = ticket ++ (arg &&& 0x1) ++ (1 : Byte) ∧ NoLog s t ∧
        Keeps [Reg.HIF_LOPk_STATL 2, Reg.HIF_LOPk_STATH 2, Reg.CRYPTO_VSTATL, Reg.CRYPTO_VSTATH, Reg.CRYPTO_ACT] s t) ∧
  (∀ (s : State), s.lop[(2 : Fin 5)].running = true → s.lop[(2 : Fin 5)].host = none → Does .verifyComplete s fun t =>
      t.lop[(2 : Fin 5)].running = false ∧ (t.rd (Reg.HIF_LOPk_STATH 2)).toNat / 2 ^ 16 = 0x0203 ∧
      Logged 0x0C 0x0003 ([3, 2] ++ bytesOfNat 2 s.lop[(2 : Fin 5)].gen ++ bytesOfNat 2 ((lopCount 2 s + 1) % 65536)) s t ∧
      Keeps [Reg.HIF_LOPk_STATL 2, Reg.HIF_LOPk_STATH 2, Reg.CRYPTO_VSTATL, Reg.CRYPTO_VSTATH] s t)

/-- Secure boot, OTP, life cycle and the runtime wipe (R343, R344, R346, R347, R348, R349, R351, R353, R354, R355, R518; tier 2, derived). In BLANK the
boot ROM waits for a recovery image; else both slots' checks decide which is loaded; a loaded slot with a valid signature starts, without one the
other or none; OTP words only gain ones; refused OTP actions are flagged and logged; a transition ends with a device reset; a wiped region reads zero
and is reported. The time of the signature check and the curve's constants are the model's choice (log entries 51 and 55). -/
def Obligations.BootAndOtp : Prop :=
  (∀ (s : State), s.trio.run = true → s.boot.started = false → s.boot.slot = none → s.get F.LCS_STAT_STATE = 0 → Does .secureBoot s fun t =>
      t.boot = { s.boot with recovery := true } ∧ t.regs = s.regs ∧ NoLog s t ∧ SameMem s t) ∧
  (∀ (s : State), s.trio.run = true → s.boot.started = false → s.boot.slot = none → s.get F.LCS_STAT_STATE = 1 → Does .secureBoot s fun t =>
      t.boot.reason[0] = (if s.boot.hdrTmo[0] then 6 else hdrReason (slotHdr 0 s) (slotRoom 0 s) s) ∧
        t.boot.reason[1] = (if s.boot.hdrTmo[1] then 6 else hdrReason (slotHdr 1 s) (slotRoom 1 s) s) ∧
      (t.boot.reason[0] ≠ 0 ∧ t.boot.reason[1] ≠ 0 → t.boot.recovery = true ∧ t.boot.slot = none ∧
        Logged 0x17 0x0003 [b8 t.boot.reason[0], b8 t.boot.reason[1]] s t) ∧
      (t.boot.reason[0] = 0 ∧ t.boot.reason[1] ≠ 0 → t.boot.slot = some 0 ∧ t.boot.next = none ∧ NoLog s t) ∧
      (t.boot.reason[0] ≠ 0 ∧ t.boot.reason[1] = 0 → t.boot.slot = some 1 ∧ t.boot.next = none ∧ NoLog s t) ∧
      (t.boot.reason[0] = 0 ∧ t.boot.reason[1] = 0 → t.boot.next.isSome = true ∧ NoLog s t ∧
      (t.boot.slot = some 1 ↔ hdrSecver (slotHdr 0 s) < hdrSecver (slotHdr 1 s))) ∧ t.regs = s.regs) ∧
  (∀ (s : State) (n : Fin 2), s.boot.slot = some n → s.boot.next = none → Does .signatureCheckComplete s fun t =>
      (sigReason (slotHdr n.val s) (slotImage n.val s) = 0 →
      t.boot.started = true ∧ t.boot.slot = none ∧ t.get F.LCS_BOOT_SLOT = n.val ∧
        t.trio.core.pc = BitVec.ofNat 32 (0x10000000 + hdrW (slotHdr n.val s) 12) ∧ t.trio.core.pcc.base = 0x20000 ∧ SameMem s t) ∧
      (sigReason (slotHdr n.val s) (slotImage n.val s) ≠ 0 →
      t.boot.slot = none ∧ t.boot.started = s.boot.started ∧ t.boot.recovery = true ∧ t.byte 0x10000000 = 0 ∧ t.byte 0x11000000 = 0 ∧
        t.regs = s.regs ∧ t.trio.core = s.trio.core ∧
      LastLog 0x17 0x0003 [b8 t.boot.reason[0], b8 t.boot.reason[1]] s t)) ∧
  (∀ (s : State) (ticket : Byte) (arg : BitVec 16), Fresh Reg.LCS_ACT ticket s → programmable (arg.toNat % 4096) (s.get F.LCS_STAT_STATE) = true →
    otpWord (arg.toNat % 4096) s = 0 → s.on F.LCS_STAT_OTPBUSY = false → Does (.program ticket arg) s fun t =>
      t.get F.LCS_STAT_OTPBUSY = 1 ∧ t.boot.prog = [(arg.toNat % 4096, s.rd Reg.LCS_OTPWD)] ∧ t.boot.otp = s.boot.otp ∧
        (s.clk.ns + 20000, .otpProgramComplete none) ∈ t.timers ∧
      t.rd Reg.LCS_ACT = ticket ++ (arg &&& 0xfff) ++ (1 : Byte) ∧ NoLog s t ∧ Keeps [Reg.LCS_STAT, Reg.LCS_ACT] s t) ∧
  (∀ (s : State) (ticket : Byte) (arg : BitVec 16), Fresh Reg.LCS_ACT ticket s → programmable (arg.toNat % 4096) (s.get F.LCS_STAT_STATE) = false → Does (.program ticket arg) s fun t =>
      t.get F.LCS_FLT_OTPREF = 1 ∧ t.boot = s.boot ∧ Logged 0x0B 0x0003 ([1] ++ bytesOfNat 2 (arg.toNat % 4096) ++ [1]) s t ∧
        t.rd Reg.LCS_ACT = ticket ++ (arg &&& 0xfff) ++ (1 : Byte) ∧ Keeps [Reg.LCS_FLT, Reg.LCS_ACT] s t) ∧
  (∀ (s : State) (w : Nat) (v : Word), s.boot.prog = [(w, v)] → s.boot.action = 1 → Does (.otpProgramComplete none) s fun t =>
      otpWord w t = otpWord w s ||| v ∧ t.boot.prog = [] ∧ t.get F.LCS_STAT_OTPBUSY = 0 ∧ NoLog s t ∧ Keeps [Reg.LCS_STAT] s t) ∧
  (∀ (s : State) (w : Nat) (v : Word), s.boot.prog = [(w, v)] → s.boot.action = 2 → Does (.otpProgramComplete none) s fun t =>
      otpWord w t = otpWord w s ||| v ∧ t.clk.held = true ∧ t.clk.ns = 0 ∧
        t.rd Reg.SYS_RSTCAUSE = (s.rd Reg.SYS_RSTCAUSE ||| 8) &&& implMask Reg.SYS_RSTCAUSE ∧ t.timers = [(0, .startup)] ∧ t.mem = [] ∧
        t.pending = s.pending ∧
      t.trio = {} ∧ t.get F.LCS_STAT_STATE = 0) ∧
  (∀ (s : State) (ticket : Byte) (arg : BitVec 16), Fresh Reg.LCS_ACT ticket s → s.on F.LCS_STAT_OTPBUSY = false →
    moveOk (s.get F.LCS_STAT_STATE) (arg.toNat % 8) s = true → Does (.transition ticket arg) s fun t =>
      t.get F.LCS_STAT_OTPBUSY = 1 ∧ t.boot.target = some (arg.toNat % 8) ∧ t.boot.otp = s.boot.otp ∧
        (s.clk.ns + 20000, .otpProgramComplete none) ∈ t.timers ∧
      Logged 0x0B 0x0004 [b8 (s.get F.LCS_STAT_STATE), b8 (arg.toNat % 8)] s t ∧ t.rd Reg.LCS_ACT = ticket ++ (arg &&& 0x7) ++ (2 : Byte) ∧
        Keeps [Reg.LCS_STAT, Reg.LCS_ACT] s t) ∧
  (∀ (s : State) (ticket : Byte) (arg : BitVec 16), Fresh Reg.LCS_ACT ticket s → s.on F.LCS_STAT_OTPBUSY = false →
    moveOk (s.get F.LCS_STAT_STATE) (arg.toNat % 8) s = false → Does (.transition ticket arg) s fun t =>
      t.get F.LCS_FLT_LCREF = 1 ∧ t.get F.LCS_FLT_OTPREF = 1 ∧ t.boot = s.boot ∧
        Logged 0x0B 0x0003 ([2] ++ bytesOfNat 2 (s.get F.LCS_STAT_STATE) ++ [1]) s t ∧ Keeps [Reg.LCS_FLT, Reg.LCS_ACT] s t) ∧
  (∀ (s : State) (ticket : Byte) (arg : BitVec 16), Fresh Reg.LCS_ACT ticket s → s.on F.LCS_STAT_OTPBUSY = false → s.get F.LCS_STAT_STATE = 1 →
    arbMin s ≤ arg.toNat % 64 → s.boot.started = true → arg.toNat % 64 ≤ s.get F.LCS_BOOT_SECVER → Does (.arver ticket arg) s fun t =>
      t.get F.LCS_STAT_OTPBUSY = 1 ∧
        t.boot.prog = [(0x3E, BitVec.ofNat 32 ((2 ^ (arg.toNat % 64) - 1) % 2 ^ 32)), (0x3F, BitVec.ofNat 32 ((2 ^ (arg.toNat % 64) - 1) / 2 ^ 32))] ∧
      t.boot.otp = s.boot.otp ∧ t.rd Reg.LCS_ACT = ticket ++ (arg &&& 0x3f) ++ (3 : Byte) ∧ NoLog s t ∧ Keeps [Reg.LCS_STAT, Reg.LCS_ACT] s t) ∧
  (∀ (s : State) (ticket : Byte) (arg : BitVec 16), Fresh Reg.LCS_ACT ticket s → s.on F.LCS_STAT_OTPBUSY = false → s.get F.LCS_STAT_STATE = 2 →
    arg.toNat % 4 ≠ 3 → s.boot.key ≠ some (arg.toNat % 4) → Does (.revoke ticket arg) s fun t =>
      t.get F.LCS_STAT_OTPBUSY = 1 ∧ t.boot.prog = [(0x3C, BitVec.ofNat 32 (2 ^ (arg.toNat % 4)))] ∧ t.boot.otp = s.boot.otp ∧
        t.rd Reg.LCS_ACT = ticket ++ (arg &&& 0x3) ++ (4 : Byte) ∧ NoLog s t ∧ Keeps [Reg.LCS_STAT, Reg.LCS_ACT] s t) ∧
  (∀ (s : State) (ticket : Byte) (arg : BitVec 16) (k : Fin 4), Fresh Reg.LCS_ACT ticket s → s.lop[(1 : Fin 5)].running = false →
    arg.toNat % 512 = 2 ^ k.val → domainOn (8 + k.val) s = true → Does (.wipe (.action ticket arg)) s fun t =>
      t.get F.LCS_STAT_WBUSY = 1 ∧ t.lop[(1 : Fin 5)].running = true ∧ t.lop[(1 : Fin 5)].planned = regionWords k.val ∧ t.mst.wipeLeft = [k.val] ∧
        t.mst.wiping = s.mst.wiping ++ [8 + k.val] ∧
      (s.clk.ns + wipeNs (8 + k.val), .wipeRegionComplete (Fin.ofNat 9 k.val) false) ∈ t.timers ∧
        bankServes (0x20000000 + 0x40000 * k.val) t = false ∧ NoLog s t ∧
      Keeps [Reg.LCS_STAT, Reg.LCS_ACT, Reg.LCS_WSTATL, Reg.LCS_WSTATH, Reg.HIF_LOPk_STATL 1, Reg.HIF_LOPk_STATH 1] s t) ∧
  (∀ (s : State) (k : Fin 8), s.mst.wipeLeft = [k.val] → s.mst.wipeSel = 2 ^ k.val → s.mst.wiping = [8 + k.val] → s.mst.wipeFail = false →
    s.lop[(1 : Fin 5)].host = none → s.lop[(1 : Fin 5)].abort = false → Does (.wipeRegionComplete (Fin.ofNat 9 k.val) false) s fun t =>
      t.byte (0x20000000 + 0x40000 * k.val) = 0 ∧ t.memWord (0x20000000 + 0x40000 * k.val + 0x3FFFC) = 0 ∧
        tagOf (0x20000000 + 0x40000 * k.val) t = false ∧ t.mst.wiping = [] ∧ t.mst.wipeLeft = [] ∧
      t.get F.LCS_STAT_WBUSY = 0 ∧ t.lop[(1 : Fin 5)].running = false ∧ LastLog 0x0B 0x0005 (bytesOfNat 2 (2 ^ k.val) ++ [2]) s t ∧
      Stores [Reg.LCS_STAT, Reg.LCS_WSTATL, Reg.LCS_WSTATH, Reg.HIF_LOPk_STATL 1, Reg.HIF_LOPk_STATH 1] (0x20000000 + 0x40000 * k.val) 0x40000 s t)

/-- Power domains: requests, refusals, the sequencer, readiness (R504, R505, R506, R508, R510, R512, R513; tier 2, derived). A power-down of a bank whose
domain is on is queued and its request bit clears; a domain that is required is refused, flagged, counted and logged; a slot takes the domain down
with its content lost, or starts it up; a ready domain shows ON. The reason byte for PD4 and PD6 is the model's reading (log entry 21). -/
def Obligations.PowerSequencer : Prop :=
  (∀ (s : State) (k : Fin 8), reqOn (8 + k.val) s = true → ((List.range 64).all (fun d => !fixedPd d || reqOn d s) = true) →
    domainOn (8 + k.val) s = true → s.mst.wipeLeft = [] → s.pwr.queue = [] → s.armed .domainSwitch = false →
    s.pwr.woke.contains (8 + k.val) = false → Does (.powerRequest (some (s.rd Reg.PWR_REQ0 &&& ~~~(BitVec.ofNat 32 (2 ^ (8 + k.val))))) none) s fun t =>
      t.rd Reg.PWR_REQ0 = s.rd Reg.PWR_REQ0 &&& ~~~(BitVec.ofNat 32 (2 ^ (8 + k.val))) ∧ t.pwr.queue = [(8 + k.val, false)] ∧
        t.get F.PWR_BUSY_BUSY = 1 ∧ t.armed .domainSwitch = true ∧
      domainOn (8 + k.val) t = true ∧ NoLog s t ∧ Keeps [Reg.PWR_REQ0, Reg.PWR_BUSY] s t) ∧
  (∀ (s : State), reqOn 4 s = true → ((List.range 64).all (fun d => !fixedPd d || reqOn d s) = true) → s.pwr.queue = [] →
    s.pwr.woke.contains 4 = false → Does (.powerRequest (some (s.rd Reg.PWR_REQ0 &&& ~~~16)) none) s fun t =>
      t.rd Reg.PWR_REQ0 = s.rd Reg.PWR_REQ0 ∧ t.pwr.queue = [] ∧ t.get F.PWR_FLT_REFUSED = 1 ∧
        t.get F.PWR_CNT_REFD = satInc F.PWR_CNT_REFD.width (s.get F.PWR_CNT_REFD) 1 ∧
      Logged 0x14 0x0001 [4, 1, 1] s t ∧ Keeps [Reg.PWR_FLT, Reg.PWR_CNT] s t) ∧
  (∀ (s : State) (k : Fin 8), s.pwr.queue = [(8 + k.val, false)] → s.pwr.trans = [] → domainOn (8 + k.val) s = true → reqOn (8 + k.val) s = false →
    s.trio.undo = [] → s.pwr.freeAt ≤ s.clk.ns → Does .domainSwitch s fun t =>
      domainOn (8 + k.val) t = false ∧ t.pwr.queue = [] ∧ t.rd Reg.PWR_BUSY = 0 ∧ t.byte (0x20000000 + 0x40000 * k.val) = 0 ∧
        t.pwr.freeAt = s.clk.ns + zeroAsOne (s.get F.PWR_CFG_SLOT) * 1000 ∧ NoLog s t ∧
      Stores [Reg.PWR_ON0, Reg.PWR_BUSY] (0x20000000 + 0x40000 * k.val) 0x40000 s t) ∧
  (∀ (s : State) (k : Fin 8), s.pwr.queue = [(8 + k.val, true)] → s.pwr.trans = [] → domainOn (8 + k.val) s = false → reqOn (8 + k.val) s = true →
    s.pwr.freeAt ≤ s.clk.ns → Does .domainSwitch s fun t =>
      domainOn (8 + k.val) t = false ∧ t.pwr.queue = [] ∧ t.pwr.trans = [8 + k.val] ∧ t.get F.PWR_BUSY_BUSY = 1 ∧ t.get F.PWR_BUSY_DOM = 8 + k.val ∧
      (s.clk.ns + powerUpNs (8 + k.val), .bankWipeComplete (Fin.ofNat 64 (8 + k.val))) ∈ t.timers ∧ NoLog s t ∧
        Stores [Reg.PWR_BUSY] (0x20000000 + 0x40000 * k.val) 0x40000 s t) ∧
  (∀ (s : State), s.pwr.trans = [16] → s.pwr.queue = [] → reqOn 16 s = true → Does (.domainReady 16) s fun t =>
      domainOn 16 t = true ∧ t.pwr.trans = [] ∧ t.get F.PWR_BUSY_BUSY = 0 ∧ NoLog s t ∧ Keeps [Reg.PWR_ON0, Reg.PWR_BUSY] s t)

/-- Device resets, start-up, the supplies, block resets and the discharge check (R515, R516, R517, R518, R519, R520, R521, R522, R523, R524; tier 2,
derived). A power-on reset, RESET_N and DEVRESET with its key put every register and unit at reset with the cause recorded, the OTP kept and time
held; a wrong key is flagged; STARTUP ends the held reset and starts time and the wipe, whose completion zeroes memory, records the reset and releases
the Trio; a drop and a return of VDD_PHY, a block reset and its refusal have their effects. What survives a device reset beside what R517 lists, the
instants of start-up and the cycle of a block reset are the model's reading (log entries 25, 29 and 30). -/
def Obligations.ResetAndStartup : Prop :=
  (∀ (s : State) (low : Supplies), Does (.powerOnReset low) s fun t =>
      t.rd Reg.SYS_RSTCAUSE = (if low.ao then 1 else (s.rd Reg.SYS_RSTCAUSE ||| 1) &&& implMask Reg.SYS_RSTCAUSE) ∧
        t.pwr.low = lowAlso s.pwr.low low ∧ t.clk = { held := true } ∧ t.mem = [] ∧ t.trio = {} ∧ (s.boot.prog = [] → t.boot.otp = s.boot.otp) ∧
        t.timers = [] ∧ t.log = {} ∧ t.pending = s.pending ∧ t.usb.vbus = s.usb.vbus ∧
      (∀ a, a ∉ [Reg.SYS_RSTCAUSE, Reg.SYS_SUPPLY] → t.rd a = State.reset.rd a) ∧
      (t.pwr.low.ao || t.pwr.low.ioB = true → (∀ p : Fin 32, phBall p t = none) ∧ (∀ r : Fin 4, enBall r t = none) ∧
        (∀ (m : Fin 4) (x : Fin 3) (b : Bool), motBall m x b t = none) ∧ (∀ p : Fin 2, usbPwrBall p t = none)) ∧
      (t.pwr.low.ao || t.pwr.low.ioA = true → (∀ i : Fin 8, evoBall i t = none) ∧ syncOutBall t = none)) ∧
  (∀ (s : State), Does .resetPin s fun t =>
      t.rd Reg.SYS_RSTCAUSE = (s.rd Reg.SYS_RSTCAUSE ||| 2) &&& implMask Reg.SYS_RSTCAUSE ∧ t.clk = { held := true } ∧ t.mem = [] ∧ t.trio = {} ∧
        (s.boot.prog = [] → t.boot.otp = s.boot.otp) ∧ t.timers = [] ∧ t.log = {} ∧ t.pending = s.pending ∧
      (∀ a, a ∉ [Reg.SYS_RSTCAUSE, Reg.SYS_SUPPLY] → t.rd a = State.reset.rd a)) ∧
  (∀ (s : State) (ticket : Byte), Fresh Reg.SYS_ACT ticket s → Does (.devreset ticket 0x5A5A) s fun t =>
      t.rd Reg.SYS_RSTCAUSE = (s.rd Reg.SYS_RSTCAUSE ||| 4) &&& implMask Reg.SYS_RSTCAUSE ∧ t.clk = { held := true } ∧ t.mem = [] ∧ t.trio = {} ∧
        (s.boot.prog = [] → t.boot.otp = s.boot.otp) ∧ t.timers = [(0, .startup)] ∧ t.pending = s.pending ∧
      (∀ a, a ∉ [Reg.SYS_RSTCAUSE, Reg.SYS_SUPPLY] → t.rd a = State.reset.rd a)) ∧
  (∀ (s : State) (ticket : Byte) (arg : BitVec 16), Fresh Reg.SYS_ACT ticket s → arg ≠ 0x5A5A → Does (.devreset ticket arg) s fun t =>
      t.get F.SYS_FLT_RSTKEY = 1 ∧ t.rd Reg.SYS_ACT = ticket ++ arg ++ (1 : Byte) ∧ t.clk = s.clk ∧ NoLog s t ∧ Keeps [Reg.SYS_FLT, Reg.SYS_ACT] s t) ∧
  (∀ (s : State), s.clk.held = true → Does .startup s fun t =>
      t.clk.held = false ∧ t.clk.timeFrom = s.clk.ns + 20000 ∧ t.get F.LCS_STAT_STATE = lcState s ∧
        t.get F.SYS_ID_GRADE = (otpWord 4 s).toNat % 2 ∧ t.boot = { s.boot with production := s.boot.testEn && lcState s == 0 } ∧
        t.armed .culletWipeComplete = true ∧ NoLog s t ∧
      Keeps [Reg.LCS_STAT, Reg.SYS_ID, Reg.XSPI_CTL, Reg.SYS_CLKSTAT] s t) ∧
  (∀ (s : State), s.clk.held = false → Does .startup s fun t =>
      t = s) ∧
  (∀ (s : State), s.pwr.recorded = false → s.get F.LCS_STAT_STATE = 1 → s.trio.run = false → s.boot.production = false → s.trio.haltReq = false →
    s.get F.SYS_SPEED_TRIO ≠ 2 → tcmOff s = [] → Does .culletWipeComplete s fun t =>
      t.mem = [] ∧ t.mst.tags = [] ∧ t.mst.bad = [] ∧ t.pwr.recorded = true ∧ t.trio.run = true ∧ t.trio.core = {} ∧ t.get F.SYS_SPEED_TRIO = 0 ∧
        t.armed .secureBoot = true ∧
      Logged 0x14 0x0002 [b8 ((s.rd Reg.SYS_RSTCAUSE).toNat % 16), 1, b8 (s.get F.SYS_ID_GRADE)] s t ∧ t.pending = s.pending) ∧
  (∀ (s : State), s.pwr.recorded = false → s.get F.LCS_STAT_STATE = 0 → s.trio.run = false → s.boot.production = true → Does .culletWipeComplete s fun t =>
      t.mem = [] ∧ t.trio.run = false ∧ t.pwr.recorded = true ∧ t.boot = s.boot ∧ t.regs = s.regs ∧
      Logged 0x14 0x0002 [b8 ((s.rd Reg.SYS_RSTCAUSE).toNat % 16), 0, b8 (s.get F.SYS_ID_GRADE)] s t) ∧
  (∀ (s : State), s.pwr.recorded = false → s.get F.LCS_STAT_STATE = 4 → s.trio.run = false → Does .culletWipeComplete s fun t =>
      t.mem = [] ∧ t.trio.run = false ∧ (List.range 64).all (fun i => otpWord (0x80 + i) t == 0xFFFFFFFF) = true ∧ t.regs = s.regs ∧
      Logged 0x14 0x0002 [b8 ((s.rd Reg.SYS_RSTCAUSE).toNat % 16), 4, b8 (s.get F.SYS_ID_GRADE)] s t) ∧
  (∀ (s : State), s.on F.SYS_SUPPLY_PHYLOW = false → s.on F.APR_CTL_EN = false → s.pwr.linkUp = false → fst s = 0 → Does .phySupplyDrop s fun t =>
      t.get F.SYS_SUPPLY_PHYLOW = 1 ∧ t.get F.SYS_SUPPLY_PHYDROP = 1 ∧ LastLog 0x14 0x0003 [] s t ∧ SameMem s t) ∧
  (∀ (s : State), s.on F.SYS_SUPPLY_PHYLOW = true → s.on F.USB_CTL_EN = false → Does .phySupplyReturn s fun t =>
      t.get F.SYS_SUPPLY_PHYLOW = 0 ∧ t.get F.SYS_SUPPLY_PHYDROP = s.get F.SYS_SUPPLY_PHYDROP ∧ NoLog s t ∧ SameMem s t) ∧
  (∀ (s : State) (ticket : Byte) (arg : BitVec 16), Fresh Reg.PWR_ACT ticket s → arg.toNat % 256 = 0x09 → domainOn 0 s = true → Does (.blockreset ticket arg) s fun t =>
      t.evm = {} ∧ t.rd Reg.EVM_CTL = resetWord Reg.EVM_CTL ∧ t.rd (Reg.EVM_CHc_CTL 3) = resetWord (Reg.EVM_CHc_CTL 3) ∧
        t.rd (Reg.CUn_CTL 3) = s.rd (Reg.CUn_CTL 3) ∧ t.cu = s.cu ∧
      t.rd Reg.PWR_ACT = ticket ++ (arg &&& 0xff) ++ (1 : Byte) ∧ NoLog s t ∧ SameMem s t) ∧
  (∀ (s : State) (ticket : Byte) (arg : BitVec 16), Fresh Reg.PWR_ACT ticket s → arg.toNat % 256 = 0x07 → s.on F.APR_CTL_EN = true → Does (.blockreset ticket arg) s fun t =>
      t.get F.PWR_FLT_BRREF = 1 ∧ t.apr = s.apr ∧ Logged 0x14 0x0004 [7] s t ∧ t.rd Reg.PWR_ACT = ticket ++ (arg &&& 0xff) ++ (1 : Byte) ∧
        Keeps [Reg.PWR_FLT, Reg.PWR_ACT] s t)

/-- USB function: states, requests, hub requests (R440, R443, R444, R445, R446, R447, R448, R451, R460; tier 2, derived). VBUS attaches and detaches the
function; a bus reset, a suspension, a resume and its end, an overcurrent, RECONNECT and its restore move it as stated; each standard request and the
hub class request is answered with ACK, STALL or its data while the function talks. The corners of detachment and SET_ADDRESS are the model's reading
(log entry 27), and that a restored pull-up sets C_PORT_CONNECTION is PRESUMED (log entry 71). -/
def Obligations.UsbFunction : Prop :=
  (∀ (s : State), s.on F.USB_CTL_EN = true → fst s = 0 → s.on F.SYS_SUPPLY_PHYLOW = false → Does .usbAttach s fun t =>
      t.get F.USB_STAT_FST = 1 ∧ t.usb.vbus = true ∧ NoLog s t ∧ Keeps [Reg.USB_STAT] s t) ∧
  (∀ (s : State), fst s ≠ 0 → fst s ≠ 6 → ((List.range 16).all (fun k => mbOwner k s != 3) = true) → Does .usbDetach s fun t =>
      t.get F.USB_STAT_FST = 0 ∧ t.get F.USB_STAT_ADDR = 0 ∧ t.get F.USB_STAT_CONF = 0 ∧ t.usb.vbus = false ∧ t.usb.used = 0 ∧ t.usb.rx = [] ∧
        Logged 0x10 0x0001 [b8 (fst s)] s t ∧ Keeps [Reg.USB_STAT] s t) ∧
  (∀ (s : State) (hs : Bool), (1 ≤ fst s ∧ fst s ≤ 4) → s.usb.dropped = false → s.usb.resumed = false → NotFired 176 s →
    ((List.range 16).all (fun k => mbOwner k s != 3) = true) → Does (.busReset hs) s fun t =>
      t.get F.USB_STAT_FST = 2 ∧ t.get F.USB_STAT_ADDR = 0 ∧ t.get F.USB_STAT_CONF = 0 ∧ t.get F.USB_STAT_HS = (if hs then 1 else 0) ∧
        t.usb.used = 0 ∧ t.usb.ep[(2 : Fin 7)].ctl = s.rd (Reg.USB_EPk_CTL 0) ∧
      t.usb.ep[(2 : Fin 7)].outq = [] ∧ t.usb.ep[(2 : Fin 7)].outHalt = false ∧ Fires 176 s t ∧ NoLog s t ∧ Keeps [Reg.USB_STAT] s t) ∧
  (∀ (s : State), (1 ≤ fst s ∧ fst s ≤ 4) → s.on F.USB_CTL_SUSPPD = false → NotFired 177 s → Does .suspend s fun t =>
      t.get F.USB_STAT_FST = 5 ∧ t.usb.prior = fst s ∧ t.get F.USB_STAT_ADDR = s.get F.USB_STAT_ADDR ∧ Fires 177 s t ∧ NoLog s t ∧
        Keeps [Reg.USB_STAT] s t) ∧
  (∀ (s : State), fst s = 5 → s.pwr.queue = [] → (domainOn 59 s = true ∧ domainOn 60 s = true) → Does .resume s fun t =>
      t.get F.USB_STAT_FST = 6 ∧ reqOn 59 t = true ∧ reqOn 60 t = true ∧ t.pwr = s.pwr ∧ NoLog s t ∧ Keeps [Reg.USB_STAT, Reg.PWR_REQ1] s t) ∧
  (∀ (s : State) (port : Fin 2), s.usb.hubPower.getLsbD (2 + port.val) = true → fst s = 5 → s.pwr.queue = [] → (domainOn 59 s = true ∧
    domainOn 60 s = true) → Does (.downstreamRemoteWakeup port) s fun t =>
      t.get F.USB_STAT_FST = 6 ∧ reqOn 59 t = true ∧ reqOn 60 t = true ∧ t.pwr = s.pwr ∧ NoLog s t ∧ Keeps [Reg.USB_STAT, Reg.PWR_REQ1] s t) ∧
  (∀ (s : State), fst s = 6 → s.usb.prior < 8 → NotFired 178 s → Does .resumeEnd s fun t =>
      t.get F.USB_STAT_FST = s.usb.prior ∧ t.usb.resumed = true ∧ t.usb.recoverAt = s.clk.ns ∧ Fires 178 s t ∧ NoLog s t ∧ Keeps [Reg.USB_STAT] s t) ∧
  (∀ (s : State) (port : Fin 2), s.on F.USB_CTL_EN = true → Does (.overcurrent port) s fun t =>
      t.usb.hubPower.getLsbD (2 + port.val) = false ∧ t.usb.hubOc.getLsbD (2 + port.val) = true ∧ t.bit F.USB_FLT_OC port.val = true ∧
        Logged 0x10 0x0003 [b8 (2 + port.val)] s t ∧ Keeps [Reg.USB_FLT] s t) ∧
  (∀ (s : State) (addr : BitVec 7), usbTalks s = true → addr ≠ 0 → Does (.setAddress false addr) s fun t =>
      t.usb.answer = 1 ∧ t.get F.USB_STAT_ADDR = addr.toNat ∧ t.get F.USB_STAT_FST = (if fst s = 2 then 3 else fst s) ∧ NoLog s t ∧
        Keeps [Reg.USB_STAT] s t) ∧
  (∀ (s : State), usbTalks s = true → fst s = 3 → Does (.setConfiguration false 1) s fun t =>
      t.usb.answer = 1 ∧ t.get F.USB_STAT_FST = 4 ∧ t.get F.USB_STAT_CONF = 1 ∧ NoLog s t ∧ Keeps [Reg.USB_STAT] s t) ∧
  (∀ (s : State) (hub : Bool) (value : Byte), usbTalks s = true → 1 < value.toNat → Does (.setConfiguration hub value) s fun t =>
      t.usb.answer = 3 ∧ t.regs = s.regs ∧ NoLog s t ∧ SameMem s t) ∧
  (∀ (s : State) (dirIn : Bool), usbTalks s = true → s.on F.USB_STAT_CONF = true →
    s.usb.ep[(2 : Fin 7)].ctl.getLsbD (if dirIn then 30 else 31) = true → Does (.getStatus false 2 (if dirIn then 0x82 else 0x02)) s fun t =>
      t.usb.answer = 4 ∧ t.usb.resp = [if (if dirIn then s.usb.ep[(2 : Fin 7)].inHalt else s.usb.ep[(2 : Fin 7)].outHalt) then 1 else 0, 0] ∧
        t.regs = s.regs ∧ NoLog s t ∧ SameMem s t) ∧
  (∀ (s : State), usbTalks s = true → s.on F.USB_STAT_CONF = true → s.usb.ep[(2 : Fin 7)].ctl.getLsbD 31 = true → Does (.setFeature false 2 0 2) s fun t =>
      t.usb.answer = 1 ∧ t.usb.ep[(2 : Fin 7)].outHalt = true ∧ t.usb.ep[(2 : Fin 7)].inHalt = s.usb.ep[(2 : Fin 7)].inHalt ∧ t.regs = s.regs ∧
        NoLog s t ∧ SameMem s t) ∧
  (∀ (s : State), usbTalks s = true → s.on F.USB_STAT_CONF = true → s.usb.ep[(2 : Fin 7)].ctl.getLsbD 31 = true → Does (.clearFeature false 2 0 2) s fun t =>
      t.usb.answer = 1 ∧ t.usb.ep[(2 : Fin 7)].outHalt = false ∧ t.usb.ep[(2 : Fin 7)].outTog = false ∧ t.regs = s.regs ∧ NoLog s t ∧ SameMem s t) ∧
  (∀ (s : State) (len : BitVec 16), usbTalks s = true → Does (.getDescriptor false 1 0 len) s fun t =>
      t.usb.answer = 4 ∧
        t.usb.resp = (([18, 1, 0x00, 0x02, 0, 0, 0, 64] : List Byte) ++ bytesOfNat 2 Config.vendorId.toNat ++ [0x40, 0x96, 0xB1, 0x00, 1, 2, 0, 1]).take len.toNat ∧
        t.regs = s.regs ∧ NoLog s t ∧ SameMem s t) ∧
  (∀ (s : State) (index : Byte) (len : BitVec 16), usbTalks s = true → 2 < index.toNat → Does (.getDescriptor true 3 index len) s fun t =>
      t.usb.answer = 3 ∧ t.regs = s.regs ∧ NoLog s t ∧ SameMem s t) ∧
  (∀ (s : State), usbTalks s = true → Does (.getConfiguration false) s fun t =>
      t.usb.answer = 4 ∧ t.usb.resp = [b8 (s.get F.USB_STAT_CONF)] ∧ t.regs = s.regs ∧ NoLog s t ∧ SameMem s t) ∧
  (∀ (s : State) (hub : Bool), usbTalks s = true → Does (.getInterface hub) s fun t =>
      t.usb.answer = 4 ∧ t.usb.resp = [0] ∧ t.regs = s.regs ∧ NoLog s t ∧ SameMem s t) ∧
  (∀ (s : State) (hub : Bool) (alt : Byte), usbTalks s = true → Does (.setInterface hub alt) s fun t =>
      t.usb.answer = (if alt = 0 then 1 else 3) ∧ t.regs = s.regs ∧ NoLog s t ∧ SameMem s t) ∧
  (∀ (s : State), usbTalks s = true → Does .unsupportedRequest s fun t =>
      t.usb.answer = 3 ∧ t.regs = s.regs ∧ NoLog s t ∧ SameMem s t) ∧
  (∀ (s : State) (len : BitVec 16) (p : Fin 4), usbTalks s = true → 2 ≤ p.val → Does (.hubClassRequest 0x23 3 8 (BitVec.ofNat 16 p.val) len) s fun t =>
      t.usb.answer = 1 ∧ t.usb.hubPower.getLsbD p.val = true ∧ t.usb.hubOc = s.usb.hubOc ∧ t.regs = s.regs ∧ NoLog s t ∧ SameMem s t) ∧
  (∀ (s : State) (frame : BitVec 11) (uf : Fin 8), slotOn Reg.USB_CTL s = true → s.on F.USB_CTL_EN = true → (fst s ≠ 0 ∧ fst s ≠ 5) →
    NotFired 179 s → Does (.sof frame uf) s fun t =>
      t.get F.USB_FRAME_FRAME = frame.toNat ∧ t.get F.USB_FRAME_UF = uf.val ∧ Fires 179 s t ∧ NoLog s t ∧ Keeps [Reg.USB_FRAME] s t) ∧
  (∀ (s : State) (ticket : Byte) (arg : BitVec 16), slotOn Reg.USB_ACT s = true → Fresh Reg.USB_ACT ticket s → fst s ≠ 0 → Does (.reconnect ticket arg) s fun t =>
      t.usb.dropped = true ∧ (s.clk.ns + 10000000, .reconnectRestore) ∈ t.timers ∧ t.rd Reg.USB_ACT = ticket ++ (0 : BitVec 16) ++ (1 : Byte) ∧
        NoLog s t ∧ Keeps [Reg.USB_ACT] s t) ∧
  (∀ (s : State), Does .reconnectRestore s fun t =>
      t = portConnect { s with usb := { s.usb with dropped := false } } ∧ t.usb.dropped = false ∧ hubBit 48 t = true ∧ t.regs = s.regs ∧
        NoLog s t ∧ SameMem s t)

/-- USB transfers: gobs, regions, tokens, the service engine (R449, R450, R451, R452, R453, R454, R456, R457, R458, R459; tier 2, derived). Allocation
gives the lowest free gob, a release and a push are taken back to the checkpoint for the Trio, a region configuration in use is refused and one that
overlaps nothing is stored; PING tells whether an allocation would succeed; OUT and IN transactions store, queue and send packets as stated; the
service engine answers each command frame, discards a late one and loads an accepted recovery image. Where a bulk transfer of the service endpoint
ends is the model's choice (log entry 74). -/
def Obligations.UsbTransfers : Prop :=
  (∀ (s : State) (j : Fin 8) (g : Nat) (l : List Nat), slotOn Reg.USB_CTL s = true → freeGobs j.val s = g :: l → Does (.gobAlloc .trio j) s fun t =>
      t.rdata = BitVec.ofNat 32 (2 ^ 31 + g) ∧ t.usb.used.getLsbD g = true ∧ t.usb.gets = s.usb.gets ++ [g] ∧ t.regs = s.regs ∧ NoLog s t ∧
        SameMem s t) ∧
  (∀ (s : State) (j : Fin 8) (gob : Byte), slotOn Reg.USB_CTL s = true → regEn j.val s = true → (regFirst j.val s ≤ gob.toNat ∧
    gob.toNat ≤ regLast j.val s) → s.usb.used.getLsbD gob.toNat = true → Does (.gobRelease .host j gob) s fun t =>
      t.usb.used.getLsbD gob.toNat = false ∧ t.usb.rels = s.usb.rels ∧ t.regs = s.regs ∧ NoLog s t ∧ SameMem s t) ∧
  (∀ (s : State) (k : Fin 5) (gob : Byte) (len : BitVec 10), slotOn Reg.USB_CTL s = true → (1 ≤ len.toNat ∧ len.toNat ≤ 64) →
    (regGobs (inRegion (Fin.ofNat 7 (k.val + 2)) s) s).contains gob.toNat = true → s.usb.used.getLsbD gob.toNat = true →
    s.usb.ep[(Fin.ofNat 7 (k.val + 2) : Fin 7)].inq = [] → Does (.inPush .trio k len gob) s fun t =>
      t.usb.ep[(Fin.ofNat 7 (k.val + 2) : Fin 7)].inq = [{ len := len.toNat, gobs := [gob.toNat], sure := false }] ∧ t.regs = s.regs ∧ NoLog s t ∧
        SameMem s t) ∧
  (∀ (s : State) (k : Fin 5) (pk : UsbPkt) (q : List UsbPkt), slotOn Reg.USB_CTL s = true →
    s.usb.ep[(Fin.ofNat 7 (k.val + 2) : Fin 7)].outq = pk :: q → Does (.outTake .trio k) s fun t =>
      t.rdata = BitVec.ofNat 32 (2 ^ 31 + pk.len * 65536 + pk.gobs.headD 0) ∧ t.usb.ep[(Fin.ofNat 7 (k.val + 2) : Fin 7)].outq = q ∧
      t.usb.ep[(Fin.ofNat 7 (k.val + 2) : Fin 7)].taken = s.usb.ep[(Fin.ofNat 7 (k.val + 2) : Fin 7)].taken ++ [pk] ∧ t.usb.used = s.usb.used ∧
        t.regs = s.regs ∧ NoLog s t ∧ SameMem s t) ∧
  (∀ (s : State) (j : Fin 8) (value : Word), slotOn Reg.USB_CTL s = true → regUsed j.val s = true → mapFind s.lim 0x100006 = none → Does (.regionConfig j value) s fun t =>
      t.get F.USB_FLT_CFGREF = 1 ∧ t.rd (Reg.USB_Rj_CFG j) = s.rd (Reg.USB_Rj_CFG j) ∧ Logged 0x10 0x0006 [1, b8 j.val] s t ∧
        Keeps [Reg.USB_FLT] s t) ∧
  (∀ (s : State) (j : Fin 8) (value : Word), slotOn Reg.USB_CTL s = true → (value.extractLsb' 0 8).toNat ≤ (value.extractLsb' 8 8).toNat →
    ((List.finRange 8).all (fun i => i == j || !regEn i s || decide ((value.extractLsb' 8 8).toNat < regFirst i s) || decide (regLast i s < (value.extractLsb' 0 8).toNat)) = true) →
    regUsed j.val s = false → Does (.regionConfig j value) s fun t =>
      regFirst j.val t = (value.extractLsb' 0 8).toNat ∧ regLast j.val t = (value.extractLsb' 8 8).toNat ∧ regEn j.val t = value.getLsbD 31 ∧
        t.get F.USB_FLT_CFGREF = s.get F.USB_FLT_CFGREF ∧
      t.usb.used = s.usb.used ∧ NoLog s t ∧ Keeps [Reg.USB_Rj_CFG j] s t) ∧
  (∀ (s : State) (k : Fin 7) (l : List Nat), usbTalks s = true → outActive k s = true → s.usb.ep[k].outHalt = false → s.usb.ep[k].outq.length < 8 →
    bufWiping s = false → (freeGobs (outRegion k s) s).take (mpsGobs s) = l → l.length = mpsGobs s → (∀ e ∈ s.usb.ep.toList, e.alloc = none) → Does (.outToken k) s fun t =>
      t.usb.ep[k].alloc = some l ∧ t.usb.answer = 0 ∧ t.usb.used = l.foldl (fun m g => m ||| BitVec.ofNat 256 (2 ^ g)) s.usb.used ∧
        t.regs = s.regs ∧ NoLog s t ∧ SameMem s t) ∧
  (∀ (s : State) (k : Fin 7) (tog crc : Bool) (data : List Byte) (g : Nat), usbTalks s = true → outActive k s = true → 2 ≤ k.val →
    s.usb.ep[k].alloc = some [g] → g < 256 → crc = true → tog = s.usb.ep[k].outTog → (1 ≤ data.length ∧ data.length ≤ 64) → data.length ≤ usbMps s →
    s.mst.bad = [] → s.mst.soft = [] → bufWiping s = false → Does (.outData k tog crc data) s fun t =>
      t.usb.answer = 1 ∧ t.usb.ep[k].outTog = !s.usb.ep[k].outTog ∧ t.usb.ep[k].outq = s.usb.ep[k].outq ++ [{ len := data.length, gobs := [g] }] ∧
        t.bytes (gobAddr g) data.length = data ∧
      t.rd (Reg.USB_LINKg g) = 0x100 ∧ NoLog s t ∧ Stores [Reg.USB_LINKg g, Reg.USB_EPk_CNT (k.val - 2)] (gobAddr g) data.length s t) ∧
  (∀ (s : State) (k : Fin 7), usbTalks s = true → outActive k s = true → s.usb.ep[k].outHalt = true → (∀ e ∈ s.usb.ep.toList, e.alloc = none) → Does (.ping k) s fun t =>
      t.usb.answer = 3 ∧ t.regs = s.regs ∧ NoLog s t ∧ SameMem s t) ∧
  (∀ (s : State) (k : Fin 7), usbTalks s = true → outActive k s = true → s.usb.ep[k].outHalt = false → (∀ e ∈ s.usb.ep.toList, e.alloc = none) → Does (.ping k) s fun t =>
      t.usb.answer = (if mpsGobs s ≤ (freeGobs (outRegion k s) s).length ∧ s.usb.ep[k].outq.length < 8 ∧ bufWiping s = false then 1 else 2) ∧
        t.usb.ep = s.usb.ep ∧ t.usb.used = s.usb.used ∧
      NoLog s t ∧ Keeps [Reg.USB_CNT] s t) ∧
  (∀ (s : State), usbTalks s = true → s.usb.hubConf = 1 → hubBit 2 s = false → (∀ e ∈ s.usb.ep.toList, e.alloc = none) → Does (.inToken 7) s fun t =>
      (hubChanges s ≠ 0 → t.usb.answer = 4 ∧ t.usb.resp = [b8 (hubChanges s)] ∧ t.regs = s.regs) ∧
      (hubChanges s = 0 → t.usb.answer = 2 ∧ t.get F.USB_CNT_NAK = satInc F.USB_CNT_NAK.width (s.get F.USB_CNT_NAK) 1) ∧ t.usb.ep = s.usb.ep ∧
        NoLog s t ∧ Keeps [Reg.USB_CNT] s t) ∧
  (∀ (s : State) (k : Fin 7) (pk : UsbPkt) (q : List UsbPkt), usbTalks s = true → inActive k s = true → s.usb.ep[k].inHalt = false →
    s.usb.ep[k].inq = pk :: q → pk.sure = true → bufWiping s = false → s.mst.bad = [] → s.mst.soft = [] → (∀ e ∈ s.usb.ep.toList, e.alloc = none) → Does (.inToken (k.castSucc)) s fun t =>
      t.usb.answer = 4 ∧ t.usb.resp = pktBytes pk s ∧ t.usb.ep[k].sent = true ∧ t.usb.ep[k].inq = s.usb.ep[k].inq ∧ t.regs = s.regs ∧ NoLog s t ∧
        SameMem s t) ∧
  (∀ (s : State) (k : Fin 7), usbTalks s = true → inActive k s = true → s.usb.ep[k].inHalt = false → s.usb.ep[k].inq = [] →
    (∀ e ∈ s.usb.ep.toList, e.alloc = none) → Does (.inToken (k.castSucc)) s fun t =>
      t.usb.answer = 2 ∧ t.get F.USB_CNT_NAK = satInc F.USB_CNT_NAK.width (s.get F.USB_CNT_NAK) 1 ∧ NoLog s t ∧ Keeps [Reg.USB_CNT] s t) ∧
  (∀ (s : State) (k : Fin 7) (pk : UsbPkt) (q : List UsbPkt), 2 ≤ k.val → s.usb.ep[k].inq = pk :: q → s.usb.ep[k].sent = true → pk.sure = true → Does (.inAck k) s fun t =>
      t.usb.ep[k].inq = q ∧ t.usb.ep[k].inTog = !s.usb.ep[k].inTog ∧
        t.usb.used = pk.gobs.foldl (fun m g => m &&& ~~~(BitVec.ofNat 256 (2 ^ g))) s.usb.used ∧ NoLog s t ∧
      Keeps [Reg.USB_EPk_CNT (k.val - 2)] s t) ∧
  (∀ (s : State) (seq : Byte) (len : BitVec 16) (g : Nat) (l : List Nat), usbTalks s = true → fst s = 4 → s.usb.ep[(1 : Fin 7)].inq = [] →
    freeGobs 0 s = g :: l → s.mst.bad = [] → len ≠ 0 → s.mst.soft = [] → bufWiping s = false → Does (.info seq len) s fun t =>
      t.usb.ep[(1 : Fin 7)].inq = [{ len := 8, gobs := [g], data := [0x81, seq, 0, 0, 3, 0, 0, 0] }] ∧ t.usb.used.getLsbD g = true ∧
        t.bytes (gobAddr g) 8 = [0x81, seq, 0, 0, 3, 0, 0, 0] ∧ NoLog s t ∧
      Stores [Reg.USB_LINKg g] (gobAddr g) 8 s t) ∧
  (∀ (s : State) (seq : Byte) (g : Nat) (l : List Nat), usbTalks s = true → fst s = 4 → s.usb.ep[(1 : Fin 7)].inq = [] → freeGobs 0 s = g :: l →
    s.mst.bad = [] → s.mst.soft = [] → bufWiping s = false → Does (.devtime seq 0) s fun t =>
      t.usb.ep[(1 : Fin 7)].inq = [{ len := 16, gobs := [g], data := [0x82, seq, 8, 0, 0, 0, 0, 0] ++ bytesOfNat 8 s.clk.time.toNat }] ∧
        NoLog s t ∧ Stores [Reg.USB_LINKg g] (gobAddr g) 16 s t) ∧
  (∀ (s : State) (seq : Byte) (g : Nat) (l : List Nat), usbTalks s = true → fst s = 4 → s.usb.ep[(1 : Fin 7)].inq = [] → freeGobs 0 s = g :: l →
    s.mst.bad = [] → s.mst.soft = [] → bufWiping s = false → Does (.info seq 0) s fun t =>
      t.usb.ep[(1 : Fin 7)].inq = [{ len := 24, gobs := [g], data := [0x81, seq, 16, 0, 0, 0, 0, 0] ++ bytesOfWord (s.rd Reg.SYS_ID) ++ bytesOfWord (s.rd Reg.LCS_STAT) ++ bytesOfWord (s.rd Reg.LCS_BOOT) ++ bytesOfWord (s.rd Reg.USB_STAT) }] ∧
      NoLog s t ∧ Stores [Reg.USB_LINKg g] (gobAddr g) 24 s t) ∧
  (∀ (s : State) (k : Fin 16) (seq : Byte) (g : Nat) (l : List Nat), usbTalks s = true → fst s = 4 → s.usb.ep[(1 : Fin 7)].inq = [] →
    freeGobs 0 s = g :: l → s.mst.bad = [] → k.val < 8 → mbOwner k s = 0 → s.mst.soft = [] → bufWiping s = false → mbFreed k s = 0 → Does (.mbxLock seq (BitVec.ofNat 32 k.val) 0) s fun t =>
      mbOwner k t = 3 ∧ t.usb.ep[(1 : Fin 7)].inq.length = 1 ∧ NoLog s t) ∧
  (∀ (s : State) (k : Fin 16) (seq : Byte) (g : Nat) (l : List Nat), usbTalks s = true → fst s = 4 → s.usb.ep[(1 : Fin 7)].inq = [] →
    freeGobs 0 s = g :: l → s.mst.bad = [] → 8 ≤ k.val → s.mst.soft = [] → bufWiping s = false → Does (.mbxLock seq (BitVec.ofNat 32 k.val) 0) s fun t =>
      t.usb.ep[(1 : Fin 7)].inq = [{ len := 9, gobs := [g], data := [0x83, seq, 1, 0, 0, 0, 0, 0, 0] }] ∧
        t.rd (Reg.MBk_STAT k) = s.rd (Reg.MBk_STAT k) ∧ t.mbx = s.mbx ∧ NoLog s t) ∧
  (∀ (s : State) (k : Fin 16) (seq : Byte) (g : Nat) (l : List Nat), usbTalks s = true → fst s = 4 → s.usb.ep[(1 : Fin 7)].inq = [] →
    freeGobs 0 s = g :: l → s.mst.bad = [] → k.val < 8 → mbOwner k s = 3 → s.mst.soft = [] → bufWiping s = false → Does (.mbxRelease seq (BitVec.ofNat 32 k.val) 0) s fun t =>
      mbOwner k t = 0 ∧ t.usb.ep[(1 : Fin 7)].inq = [{ len := 8, gobs := [g], data := [0x84, seq, 0, 0, 0, 0, 0, 0] }]) ∧
  (∀ (s : State) (k : Fin 16) (seq : Byte) (b0 b1 b2 b3 : Byte) (g : Nat) (l : List Nat), usbTalks s = true → fst s = 4 →
    s.usb.ep[(1 : Fin 7)].inq = [] → freeGobs 0 s = g :: l → s.mst.bad = [] → k.val < 8 → mbOwner k s = 3 → mbFull k s = false → s.mst.soft = [] →
    bufWiping s = false → Does (.mbxWrite seq (BitVec.ofNat 32 k.val) 4 [b0, b1, b2, b3]) s fun t =>
      t.rd (Reg.MBk_DATAi k 0) = b3 ++ b2 ++ b1 ++ b0 ∧
        t.usb.ep[(1 : Fin 7)].inq = [{ len := 9, gobs := [g], data := [0x85, seq, 1, 0, 0, 0, 0, 0, 1] }]) ∧
  (∀ (s : State) (seq : Byte) (arg : Word) (g : Nat) (l : List Nat), usbTalks s = true → fst s = 4 → s.usb.ep[(1 : Fin 7)].inq = [] →
    freeGobs 0 s = g :: l → svN arg = 0 → s.mst.bad = [] → s.mst.soft = [] → bufWiping s = false → Does (.mbxRead seq arg 0) s fun t =>
      t.usb.ep[(1 : Fin 7)].inq = [{ len := 8, gobs := [g], data := [0x86, seq, 0, 0, 2, 0, 0, 0] }] ∧ NoLog s t) ∧
  (∀ (s : State) (seq : Byte) (len : BitVec 16) (arg : Word) (g : Nat) (l : List Nat), usbTalks s = true → fst s = 4 →
    s.usb.ep[(1 : Fin 7)].inq = [] → freeGobs 0 s = g :: l → len ≠ 0 → s.mst.bad = [] → s.mst.soft = [] → bufWiping s = false → Does (.mbxSend seq arg len) s fun t =>
      t.usb.ep[(1 : Fin 7)].inq = [{ len := 8, gobs := [g], data := [0x87, seq, 0, 0, 3, 0, 0, 0] }] ∧ t.mbx = s.mbx ∧ NoLog s t) ∧
  (∀ (s : State) (seq : Byte) (len : BitVec 16) (arg : Word) (g : Nat) (l : List Nat), usbTalks s = true → fst s = 4 →
    s.usb.ep[(1 : Fin 7)].inq = [] → freeGobs 0 s = g :: l → len ≠ 0 → s.mst.bad = [] → s.mst.soft = [] → bufWiping s = false → Does (.mbxTake seq arg len) s fun t =>
      t.usb.ep[(1 : Fin 7)].inq = [{ len := 8, gobs := [g], data := [0x88, seq, 0, 0, 3, 0, 0, 0] }] ∧ t.mbx = s.mbx ∧ NoLog s t) ∧
  (∀ (s : State) (k : Fin 16) (seq : Byte) (g : Nat) (l : List Nat), usbTalks s = true → fst s = 4 → s.usb.ep[(1 : Fin 7)].inq = [] →
    freeGobs 0 s = g :: l → s.mst.bad = [] → mbRecv k s = 3 → s.mst.soft = [] → bufWiping s = false → Does (.mbxRead seq (BitVec.ofNat 32 (k.val + 256 * 2)) 0) s fun t =>
      t.usb.ep[(1 : Fin 7)].inq = [{ len := 16, gobs := [g], data := [0x86, seq, 8, 0, 0, 0, 0, 0] ++ bytesOfWord (s.rd (Reg.MBk_DATAi k 0)) ++ bytesOfWord (s.rd (Reg.MBk_DATAi k 1)) }] ∧
      t.mbx = s.mbx ∧ NoLog s t ∧ Stores [Reg.USB_LINKg g] (gobAddr g) 16 s t) ∧
  (∀ (s : State) (k : Fin 16) (seq tk : Byte) (n : Fin 17) (g : Nat) (l : List Nat), usbTalks s = true → fst s = 4 →
    s.usb.ep[(1 : Fin 7)].inq = [] → freeGobs 0 s = g :: l → s.mst.bad = [] → (tk ≠ 0 ∧
    tk ≠ ((mapFind s.mbx.send (8 * k.val + 3)).getD 0).extractLsb' 24 8) → sendReason .usb k n.val s = 0 → s.on (F.MBk_CFG_NOTIFY k) = false →
    (mbRecv k s ≠ 4 ∧ mbRecv k s ≠ 5) → NotFired (168 + k.val % 8) s → s.mst.soft = [] → bufWiping s = false → Does (.mbxSend seq (BitVec.ofNat 32 (k.val + 256 * n.val + 65536 * tk.toNat)) 0) s fun t =>
      mbFull k t = true ∧ t.get (F.MBk_STAT_LEN k) = n.val ∧ t.get (F.MBk_STAT_SENDER k) = 3 ∧ Fires (168 + k.val % 8) s t ∧
      mapFind t.mbx.send (8 * k.val + 3) = some (actWord tk (BitVec.ofNat 16 n.val) 1) ∧
      t.usb.ep[(1 : Fin 7)].inq = [{ len := 9, gobs := [g], data := [0x87, seq, 1, 0, 0, 0, 0, 0, 1] }] ∧ NoLog s t ∧
        Stores [Reg.MBk_STAT k, Reg.USB_LINKg g] (gobAddr g) 9 s t) ∧
  (∀ (s : State) (k : Fin 16) (seq : Byte) (g : Nat) (l : List Nat), usbTalks s = true → fst s = 4 → s.usb.ep[(1 : Fin 7)].inq = [] →
    freeGobs 0 s = g :: l → s.mst.bad = [] → mbRecv k s = 3 → mbFull k s = true → s.mst.soft = [] → bufWiping s = false → Does (.mbxTake seq (BitVec.ofNat 32 k.val) 0) s fun t =>
      mbFull k t = false ∧
        t.usb.ep[(1 : Fin 7)].inq = [{ len := 12, gobs := [g], data := [0x88, seq, 4, 0, 0, 0, 0, 0] ++ bytesOfWord (takeWord k s) }] ∧ NoLog s t ∧
      Stores [Reg.MBk_STAT k, Reg.USB_LINKg g] (gobAddr g) 12 s t) ∧
  (∀ (s : State) (seq : Byte) (n : Nat) (payload : List Byte) (g : Nat) (l : List Nat), usbTalks s = true → fst s = 4 →
    s.usb.ep[(1 : Fin 7)].inq = [] → freeGobs 0 s = g :: l → s.mst.bad = [] → svRecovery s = true → payload.length = 8 → n < 1000 →
    bankServes 0x20000000 s = true → s.mst.soft = [] → bufWiping s = false → Does (.recovWrite seq (BitVec.ofNat 32 (4 * n)) 8 payload) s fun t =>
      t.bytes (0x20000000 + 4 * n) 8 = payload ∧ t.byte (0x20000000 + 4 * n + 8) = s.byte (0x20000000 + 4 * n + 8) ∧
        t.usb.ep[(1 : Fin 7)].inq = [{ len := 8, gobs := [g], data := [0x90, seq, 0, 0, 0, 0, 0, 0] }] ∧ NoLog s t) ∧
  (∀ (s : State) (seq : Byte) (g : Nat) (l : List Nat), usbTalks s = true → fst s = 4 → s.usb.ep[(1 : Fin 7)].inq = [] → freeGobs 0 s = g :: l →
    svRecovery s = true → s.get F.LCS_STAT_STATE = 0 → s.mst.bad = [] → s.mst.soft = [] → bufWiping s = false → Does (.recovBoot seq 0) s fun t =>
      t.boot.staged = true ∧ (s.clk.ns + 10000000, .recoveryLoad) ∈ t.timers ∧
        t.usb.ep[(1 : Fin 7)].inq = [{ len := 9, gobs := [g], data := [0x91, seq, 1, 0, 0, 0, 0, 0, 0] }] ∧ NoLog s t) ∧
  (∀ (s : State), s.boot.recovery = true → s.boot.staged = true → s.mst.soft = [] → stagedTrap (stagedLen s) s = none →
    (hdrIlen (stagedHdr s) ≤ 0x80000 ∧ hdrDlen (stagedHdr s) ≤ 0x80000) → hdrW (stagedHdr s) 12 % 4 = 0 → Does .recoveryLoad s fun t =>
      t.boot.started = true ∧ t.boot.recovery = false ∧ t.boot.staged = false ∧ t.get F.LCS_BOOT_SLOT = 2 ∧
        t.trio.core.pc = BitVec.ofNat 32 (0x10000000 + hdrW (s.bytes 0x20000000 256) 12) ∧
      t.trio.core.pcc.base = 0x20000 ∧ Keeps [Reg.LCS_BOOT] { s with mem := t.mem } t) ∧
  (∀ (s : State) (op seq : Byte) (g : Nat) (l : List Nat), usbTalks s = true → fst s = 4 → s.usb.ep[(1 : Fin 7)].inq = [] → freeGobs 0 s = g :: l →
    s.mst.bad = [] → s.mst.soft = [] → bufWiping s = false → Does (.unknownServiceOp op seq) s fun t =>
      t.usb.ep[(1 : Fin 7)].inq = [{ len := 8, gobs := [g], data := [op ||| 0x80, seq, 0, 0, 1, 0, 0, 0] }] ∧ NoLog s t ∧
        Stores [Reg.USB_LINKg g] (gobAddr g) 8 s t) ∧
  (∀ (s : State) (b : Byte) (l : List Byte), s.usb.rx = b :: l → mapFind s.lim 0x100005 = none → Does .serviceFrameTimeout s fun t =>
      t.usb.rx = [] ∧ t.usb.skip = true ∧ Logged 0x10 0x0005 [1, b] s t ∧ Keeps [] s t)

/-- Host rings: enable, poll, fetch, hand-off, completion, telemetry, log copy, resets (R361, R363, R366, R367, R368, R369, R371, R372, R373, R375, R377,
R378; tier 2, derived). A ring's EN starts it and a disable stops it; polls and their results move PI or put the ring in ERROR; the arbiter fetches
into a free slot, an arrived descriptor is checked and handed to firmware, a take and a POST complete it with the written entry; a telemetry record
and a log entry go to host memory; a function reset clears the rings. The moment at which CI advances and the order of arrivals are the model's
reading (log entry 31). -/
def Obligations.HostRings : Prop :=
  (∀ (s : State) (agent : Agent) (n : Fin 8) (value : Word), slotOn Reg.HIF_CTL s = true → s.on F.HIF_CTL_LOCK = false →
    (s.rd (Reg.HIF_SQn_CTL n)).getLsbD 0 = false → Does (.ringEnable agent (Fin.ofNat 18 n.val) value) s fun t =>
      t.get (F.HIF_SQn_STAT_STATE n) = 1 ∧ t.get (F.HIF_SQn_STAT_CI n) = s.get (F.HIF_SQn_CI0_CI0 n) ∧
        t.hif.sq[n].pi = s.get (F.HIF_SQn_CI0_CI0 n) ∧ t.on (F.HIF_SQn_CTL_EN n) = true ∧
      t.armed (.doorbellPoll n false) = true ∧ NoLog s t ∧ Keeps [Reg.HIF_SQn_CTL n, Reg.HIF_SQn_STAT n] s t) ∧
  (∀ (s : State) (agent : Agent) (n : Fin 8) (value : Word), slotOn Reg.HIF_CTL s = true → s.on F.HIF_CTL_LOCK = false →
    (s.rd (Reg.HIF_SQn_CTL n)).getLsbD 0 = true → ((List.finRange 16).all (fun i => s.hif.slot[i].ring != n || s.hif.slot[i].st == .free) = true) → Does (.ringDisable agent (Fin.ofNat 18 n.val) value) s fun t =>
      t.get (F.HIF_SQn_STAT_STATE n) = 0 ∧ t.get (F.HIF_SQn_STAT_CI n) = s.get (F.HIF_SQn_CI0_CI0 n) ∧ t.on (F.HIF_SQn_CTL_EN n) = false ∧
        t.armed (.doorbellPoll n false) = false ∧ t.hif.slot = s.hif.slot ∧ NoLog s t ∧
      Keeps [Reg.HIF_SQn_CTL n, Reg.HIF_SQn_STAT n] s t) ∧
  (∀ (s : State) (n : Fin 8), sqRun n s = true → pollAngle n s = false → Does (.doorbellPoll n false) s fun t =>
      t.hif.sq[n].pollAt = some s.clk.ns ∧ (s.out.d3hot = false → t.out.reads = s.out.reads ++ [(sqBell n s, 8)]) ∧
        (s.clk.ns + clampNat (s.get (F.HIF_SQn_POLL_PERIOD n)) 1 4000 * 250, .doorbellPoll n false) ∈ t.timers ∧ NoLog s t ∧ Keeps [] s t) ∧
  (∀ (s : State) (n : Fin 8) (pi : BitVec 16), sqRun n s = true → s.out.d3hot = false → s.hif.sq[n].retry = false →
    idxDiff pi.toNat (s.get (F.HIF_SQn_STAT_CI n)) ≤ sqSize n s → Does (.doorbellPollComplete n (some pi)) s fun t =>
      t.hif.sq[n].pi = pi.toNat ∧ t.hif.sq[n].fails = 0 ∧ t.hif.slot = s.hif.slot ∧ NoLog s t ∧ Keeps [] s t) ∧
  (∀ (s : State) (n : Fin 8) (pi : BitVec 16), sqRun n s = true → s.out.d3hot = false →
    sqSize n s < idxDiff pi.toNat (s.get (F.HIF_SQn_STAT_CI n)) → s.out.msixOn = true → s.msixWord (4 * s.get F.HIF_CTL_ERRVEC + 3) = 1 → Does (.doorbellPollComplete n (some pi)) s fun t =>
      t.get (F.HIF_SQn_STAT_STATE n) = 2 ∧ t.get (F.HIF_SQn_STAT_CAUSE n) = 1 ∧ t.get F.HIF_FLT_RINGERR = 1 ∧
        Logged 0x0C 0x0002 ([b8 n.val, 1] ++ bytesOfNat 2 pi.toNat) s t ∧
      t.out.pba = s.out.pba ||| BitVec.ofNat 32 (2 ^ s.get F.HIF_CTL_ERRVEC) ∧ Keeps [Reg.HIF_SQn_STAT n, Reg.HIF_FLT] s t) ∧
  (∀ (s : State) (n : Fin 8), ((List.finRange 8).all (fun k => k == n || fetchable k s == 0) = true) → fetchable n s = 1 →
    ((List.finRange 16).all (fun i => s.hif.slot[i].st == .free) = true) → Does .descriptorFetch s fun t =>
      t.hif.slot[(0 : Fin 16)] = { st := .fetching, ring := n, ci := (s.get (F.HIF_SQn_STAT_CI n) + 1) % 65536 } ∧
        t.get (F.HIF_SQn_STAT_CI n) = (s.get (F.HIF_SQn_STAT_CI n) + 1) % 65536 ∧ t.hif.last = n ∧
        t.out.reads = s.out.reads ++ [(sqEntry n (s.get (F.HIF_SQn_STAT_CI n)) s, 64)] ∧
      NoLog s t ∧ Keeps [Reg.HIF_SQn_STAT n] s t) ∧
  (∀ (s : State) (slot : Fin 16) (n : Fin 8) (desc : BitVec 512), sqRun n s = true → s.hif.slot[slot].st = .fetching →
    ((List.finRange 16).all (fun i => i == slot || s.hif.slot[i].ring != n || !coming s.hif.slot[i]) = true) → s.hif.slot[slot].ring = n →
    (desc.extractLsb' 32 16).toNat = s.get (F.HIF_SQn_GEN_GEN n) → desc.extractLsb' 48 8 = 1 → desc.getLsbD 57 = false → s.hif.sq[n].tags = [] →
    s.bit (F.HIF_SQn_CTL_OPCLS n) 0 = true → Does (.descriptorArrival slot (some desc) none) s fun t =>
      t.hif.slot[slot].st = .handed ∧ t.hif.order = s.hif.order ++ [slot] ∧
        t.hif.sq[n].tags = [(desc.extractLsb' 0 32, (desc.extractLsb' 32 16).toNat, 0xFF)] ∧
      (List.range 16).all (fun k => t.rd (Reg.HIF_SLOTs_Di slot k) == desc.extractLsb' (32 * k) 32) = true ∧ NoLog s t ∧ SameMem s t) ∧
  (∀ (s : State) (agent : Agent) (i : Fin 16) (l : List (Fin 16)), slotOn Reg.HIF_TAKE s = true → s.hif.order = i :: l → Does (.hifTake agent) s fun t =>
      t.rdata = BitVec.ofNat 32 (2 ^ 31 + i.val * 65536 + s.hif.slot[i].ring.val * 256) ∧ t.hif.order = l ∧ t.hif.slot[i].st = .taken ∧
        t.hif.taken = (if agent = .trio then s.hif.taken ++ [i] else s.hif.taken) ∧ NoLog s t ∧ Keeps [] s t) ∧
  (∀ (s : State) (ticket : Byte) (arg : BitVec 16) (i : Fin 16) (m : Fin 8), slotOn Reg.HIF_ACT s = true → Fresh Reg.HIF_ACT ticket s →
    arg.toNat % 16 = i.val → s.hif.slot[i].st = .taken → s.hif.slot[i].orphan = false → s.hif.wait = [] →
    s.get (F.HIF_SQn_CTL_CQ s.hif.slot[i].ring) = m.val → cqRoom (Fin.ofNat 10 m.val) s = true → descOp i s = 0x08 → descIrq i s = false → Does (.post ticket arg) s fun t =>
      t.hif.slot[i] = {} ∧ t.get (F.HIF_CQm_STAT_PI m) = (s.get (F.HIF_CQm_STAT_PI m) + 1) % 65536 ∧
      t.out.writes = s.out.writes ++ [(cqBase (Fin.ofNat 10 m.val) s + s.get (F.HIF_CQm_STAT_PI m) % cqSize (Fin.ofNat 10 m.val) s * 16,
      bytesOfWord (descTag i s) ++ bytesOfNat 2 (descGen i s) ++ [b8 (s.get (F.HIF_SLOTs_ST_ST i)), b8 (s.get (F.HIF_CQm_STAT_PHASE m) + 2 * s.hif.slot[i].ring.val)] ++
      bytesOfNat 4 (s.get (F.HIF_SLOTs_RES_RES i)) ++ bytesOfNat 2 s.hif.slot[i].ci ++ [0, 0])] ∧
      t.rd Reg.HIF_ACT = ticket ++ (arg &&& 0xf) ++ (1 : Byte) ∧ NoLog s t ∧ Keeps [Reg.HIF_CQm_STAT m, Reg.HIF_ACT] s t) ∧
  (∀ (s : State) (m : Fin 10) (ci : BitVec 16), readDue m s = true → idxDiff (cqPi m s) ci.toNat ≤ cqSize m s → s.hif.wait = [] → Does (.consumerWordRead m (some ci)) s fun t =>
      t.hif.cq[m].ci = ci.toNat ∧ t.hif.cq[m].fails = 0 ∧
        t.hif.cq[m].readAt = (if idxDiff (cqPi m s) ci.toNat < cqSize m s then none else some s.clk.ns) ∧ NoLog s t ∧ Keeps [] s t) ∧
  (∀ (s : State) (m : Fin 10) (ci : Option (BitVec 16)), readDue m s = false → Does (.consumerWordRead m ci) s fun t =>
      t = s) ∧
  (∀ (s : State), cqState 8 s = 1 → telAngle s = false → s.get F.HIF_TEL_MODE_PERIOD ≠ 0 → cqRoom 8 s = false → Does (.telemetryRecord false) s fun t =>
      t.hif.telSeq = (s.hif.telSeq + 1) % 65536 ∧ t.hif.telDrop = min (s.hif.telDrop + 1) 255 ∧ t.hif.telAt = some s.clk.ns ∧ t.out = s.out ∧
        (s.clk.ns + s.get F.HIF_TEL_MODE_PERIOD * 1000, .telemetryRecord false) ∈ t.timers ∧ NoLog s t ∧ Keeps [] s t) ∧
  (∀ (s : State), cqState 8 s = 1 → telAngle s = false → s.get F.HIF_TEL_MODE_PERIOD ≠ 0 → cqRoom 8 s = true → s.get (F.HIF_OR_CTL_IRQSH 0) ≠ 0 →
    s.hif.irqCnt[0] = 0 → Does (.telemetryRecord false) s fun t =>
      t.hif.telSeq = (s.hif.telSeq + 1) % 65536 ∧ t.hif.telDrop = 0 ∧ t.get (F.HIF_OR_STAT_PI 0) = (s.get (F.HIF_OR_STAT_PI 0) + 1) % 65536 ∧
        t.out.writes.length = s.out.writes.length + 1 ∧
      t.out.writes.getLast?.map (fun x => (x.1, x.2.take 8)) = some (cqBase 8 s + s.get (F.HIF_OR_STAT_PI 0) % cqSize 8 s * 64, bytesOfNat 8 s.clk.time.toNat) ∧
        t.free = s.free + 1 ∧ NoLog s t ∧ Keeps [Reg.HIF_OR_STAT 0] s t) ∧
  (∀ (s : State), cqRoom 9 s = true → logBehind s ≠ 0 → s.log.copied = false → s.log.skips = 0 → s.mst.bad = [] → s.get (F.HIF_OR_CTL_IRQSH 1) ≠ 0 →
    s.hif.irqCnt[1] = 0 → Does (.logCopy false) s fun t =>
      t.get F.LOG_HIDX_HIDX = (s.get F.LOG_HIDX_HIDX + 1) % 2 ^ 32 ∧ t.log.copied = true ∧
        t.get (F.HIF_OR_STAT_PI 1) = (s.get (F.HIF_OR_STAT_PI 1) + 1) % 65536 ∧
      t.out.writes = s.out.writes ++ [(cqBase 9 s + s.get (F.HIF_OR_STAT_PI 1) % cqSize 9 s * 32, s.bytes (entryAddr (s.get F.LOG_HIDX_HIDX)) 32)] ∧
        NoLog s t ∧ Keeps [Reg.LOG_HIDX, Reg.HIF_OR_STAT 1] s t) ∧
  (∀ (s : State) (kind : Fin 3), kind ≠ 2 → ((List.range 8).all (fun k => mbOwner k s != 2) = true) → Does (.pcieFunctionReset kind) s fun t =>
      (List.range 8).all (fun n => t.get (F.HIF_SQn_STAT_STATE n) == 0 && !t.on (F.HIF_SQn_CTL_EN n) && t.get (F.HIF_CQm_STAT_STATE n) == 0 && t.get (F.HIF_SQn_STAT_CI n) == s.get (F.HIF_SQn_CI0_CI0 n) && t.get (F.HIF_CQm_STAT_PI n) == 0 && !t.on (F.HIF_CQm_CTL_EN n)) = true ∧
        t.hif.order = [] ∧ t.hif.wait = [] ∧
      Logged 0x0C 0x0001 [b8 (kind.val + 1), b8 ((List.finRange 16).filter (fun i => s.hif.slot[i].st == .taken)).length] s t ∧
        t.get F.HIF_CTL_LOCK = (if kind = 0 then 0 else s.get F.HIF_CTL_LOCK) ∧ SameMem s t) ∧
  (∀ (s : State) (speed : Fin 4) (width : Fin 16), (width = 1 ∨ width = 2) → s.pwr.recorded = true → domainOn 56 s = true →
    s.on F.SYS_SUPPLY_PHYLOW = false → Does (.pcieLinkUp speed width) s fun t =>
      t.get F.SYS_SPEED_PCIEUP = 1 ∧ t.get F.HIF_STAT_LINKUP = 1 ∧ t.get F.HIF_STAT_SPEED = (speed.val + 1) % 2 ^ F.HIF_STAT_SPEED.width ∧
        t.get F.HIF_STAT_WIDTH = width.val % 2 ^ F.HIF_STAT_WIDTH.width ∧ t.pwr.linkUp = true ∧ NoLog s t ∧
      Keeps [Reg.SYS_SPEED, Reg.HIF_STAT] s t)

/-- Opcodes of the command interpreter and the ring test (R380, R382, R383, R384, R385, R386, R387, R388; tier 2, derived). STATUS stages SYS_SPEED; the
reads and writes of registers stage OK or BADARG with the failing index; VSET, RAIL_ENABLE, RAIL_CLEAR, MOTOR_SPEED and TELEM_PERIOD reject arguments
out of range and act within it (a motor's derived PER and MINPULSE follow their inputs at a write of the block); a ring test starts or is refused, and
a LONGOP_ABORT of no running operation is refused. What counts as configured, and that an opcode acts on a slot that is not held, are the model's
reading (log entries 36 and 41). -/
def Obligations.HostOpcodes : Prop :=
  (∀ (s : State) (slot : Fin 16), descClean slot false false [] s = true → domainOn 0 s = true → Does (.status slot) s fun t =>
      t.get (F.HIF_SLOTs_ST_ST slot) = 0 ∧ t.rd (Reg.HIF_SLOTs_RES slot) = peek Reg.SYS_SPEED s ∧ NoLog s t ∧
        Keeps [Reg.HIF_SLOTs_ST slot, Reg.HIF_SLOTs_RES slot] s t) ∧
  (∀ (s : State) (slot : Fin 16) (n : Fin 24), descClean slot true true [] s = true → descLen slot s = 4 →
    dataWord slot 0 s = BitVec.ofNat 32 (Reg.CUn_MATCHA n) → domainOn 0 s = true → Does (.paramRead slot) s fun t =>
      t.get (F.HIF_SLOTs_ST_ST slot) = 0 ∧ t.get (F.HIF_SLOTs_RES_RES slot) = 1 ∧ t.rd (Reg.HIF_SLOTs_DATAi slot 0) = s.rd (Reg.CUn_MATCHA n) ∧
        NoLog s t ∧
      Keeps [Reg.HIF_SLOTs_ST slot, Reg.HIF_SLOTs_RES slot, Reg.HIF_SLOTs_DATAi slot 0] s t) ∧
  (∀ (s : State) (slot : Fin 16) (n : Fin 24), descClean slot true true [] s = true → descLen slot s = 8 →
    dataWord slot 0 s = BitVec.ofNat 32 (Reg.CUn_MATCHA n) → domainOn 0 s = true → Does (.paramWrite slot) s fun t =>
      t.get (F.HIF_SLOTs_ST_ST slot) = 0 ∧ t.get (F.HIF_SLOTs_RES_RES slot) = 0 ∧ t.rd (Reg.CUn_MATCHA n) = dataWord slot 1 s ∧ NoLog s t ∧
      Keeps [Reg.HIF_SLOTs_ST slot, Reg.HIF_SLOTs_RES slot, Reg.CUn_MATCHA n] s t) ∧
  (∀ (s : State) (slot : Fin 16), descClean slot true true [] s = true → descLen slot s = 16 → writable (dataWord slot 0 s).toNat = true →
    writable (dataWord slot 2 s).toNat = false → Does (.paramWrite slot) s fun t =>
      t.get (F.HIF_SLOTs_ST_ST slot) = 3 ∧ t.get (F.HIF_SLOTs_RES_RES slot) = 1 ∧ NoLog s t ∧
        Keeps [Reg.HIF_SLOTs_ST slot, Reg.HIF_SLOTs_RES slot] s t) ∧
  (∀ (s : State) (slot : Fin 16), 8192 ≤ descP slot 1 s → Does (.hostVset slot) s fun t =>
      t.get (F.HIF_SLOTs_ST_ST slot) = 3 ∧ t.get (F.HIF_SLOTs_RES_RES slot) = 0 ∧ t.mrv = s.mrv ∧ NoLog s t ∧
        Keeps [Reg.HIF_SLOTs_ST slot, Reg.HIF_SLOTs_RES slot] s t) ∧
  (∀ (s : State) (slot : Fin 16) (r : Fin 4), descClean slot false false [0, 1] s = true → descP slot 0 s = r.val → descP slot 1 s < 8192 →
    railConfigured r s = true → Does (.hostVset slot) s fun t =>
      (s.bit (F.MRVr_VSRC_MASK r) 0 = true →
        t.rd (Reg.MRVr_VSHOST r) = (s.rd (Reg.MRVr_VSHOST r) &&& ~~~0x1FFF) ||| BitVec.ofNat 32 (descP slot 1 s)) ∧
        t.get (F.HIF_SLOTs_ST_ST slot) = 0 ∧ t.rd (Reg.HIF_SLOTs_RES slot) = t.rd (Reg.MRVr_VSNOW r) ∧ SameMem s t) ∧
  (∀ (s : State) (slot : Fin 16) (r : Fin 4), descClean slot false false [0] s = true → descP slot 0 s = r.val → railConfigured r s = true →
    eState r s = 0 → s.on (F.EDGEr_CTL_EN r) = false → Does (.railEnable slot) s fun t =>
      t.get (F.HIF_SLOTs_ST_ST slot) = 0 ∧ t.rd (Reg.HIF_SLOTs_RES slot) = t.rd (Reg.EDGEr_STAT r) ∧ t.on (F.EDGEr_CTL_EN r) = false ∧ NoLog s t ∧
        SameMem s t) ∧
  (∀ (s : State) (slot : Fin 16) (r : Fin 4), descClean slot false false [0] s = true → descP slot 0 s = r.val → railConfigured r s = true →
    pState r s ≠ pLATCHED → Does (.railClear slot) s fun t =>
      t.get (F.HIF_SLOTs_ST_ST slot) = 0 ∧ t.rd (Reg.HIF_SLOTs_RES slot) = t.rd (Reg.PROTr_STAT r) ∧ SameMem s t) ∧
  (∀ (s : State) (slot : Fin 16) (r : Fin 4), descClean slot false false [0] s = true → descP slot 0 s = r.val → railConfigured r s = true →
    pState r s = 3 → stopPresent r s = false → Does (.railClear slot) s fun t =>
      pState r t = 0 ∧ railEn r t = false ∧ eState r t = 0 ∧ mState r t = 0 ∧ t.get (F.PROTr_STAT_HCNT r) = 0 ∧ t.get (F.HIF_SLOTs_ST_ST slot) = 0 ∧
      t.rd (Reg.HIF_SLOTs_RES slot) = t.rd (Reg.PROTr_STAT r) ∧ (⟨s.clk.time, s.logAngle, 0x05, 0x0005, [b8 r]⟩ : LogEntry) ∈ t.log.reqs ∧
        SameMem s t) ∧
  (∀ (s : State) (slot : Fin 16) (r : Fin 4), descClean slot false false [0] s = true → descP slot 0 s = r.val → railConfigured r s = true →
    pState r s = 3 → stopPresent r s = true → Does (.railClear slot) s fun t =>
      pState r t = 3 ∧ t.get (F.HIF_SLOTs_ST_ST slot) = 5 ∧ t.rd (Reg.HIF_SLOTs_RES slot) = s.rd (Reg.PROTr_STAT r) ∧ t.get F.PROT_FLT_CLRREF = 1 ∧
        SameMem s t) ∧
  (∀ (s : State) (slot : Fin 16), 4 ≤ descP slot 0 s → Does (.motorSpeed slot) s fun t =>
      t.get (F.HIF_SLOTs_ST_ST slot) = 3 ∧ t.get (F.HIF_SLOTs_RES_RES slot) = 0 ∧ t.mot = s.mot ∧ NoLog s t ∧
        Keeps [Reg.HIF_SLOTs_ST slot, Reg.HIF_SLOTs_RES slot] s t) ∧
  (∀ (s : State) (slot : Fin 16) (m : Fin 4), descClean slot false false [0, 1] s = true → descP slot 0 s = m.val →
    slotOn (Reg.MOTm_SPDREF m) s = true → Does (.motorSpeed slot) s fun t =>
      t.get (F.HIF_SLOTs_ST_ST slot) = 0 ∧ t.rd (Reg.MOTm_SPDREF m) = BitVec.ofNat 32 (descP slot 1 s) &&& implMask (Reg.MOTm_SPDREF m) ∧
        NoLog s t ∧
        Keeps ([Reg.MOTm_SPDREF m, Reg.HIF_SLOTs_ST slot, Reg.HIF_SLOTs_RES slot] ++ (List.range 4).flatMap (fun i => [Reg.MOTm_PWM i, Reg.MOTm_DT i])) s t) ∧
  (∀ (s : State) (slot : Fin 16), descClean slot false false [0] s = true → descP slot 0 s < 2 ^ 20 → slotOn Reg.HIF_CTL s = true →
    cqState 8 s = 0 → Does (.telemPeriod slot) s fun t =>
      t.get (F.HIF_SLOTs_ST_ST slot) = 0 ∧ t.get F.HIF_TEL_MODE_PERIOD = descP slot 0 s ∧ t.get F.HIF_TEL_MODE_PMODE = s.get F.HIF_TEL_MODE_PMODE ∧
        NoLog s t ∧ Keeps [Reg.HIF_TEL_MODE, Reg.HIF_SLOTs_ST slot, Reg.HIF_SLOTs_RES slot] s t) ∧
  (∀ (s : State) (slot : Fin 16) (k : Fin 5), descClean slot false false [0] s = true → descP slot 0 s = k.val + 1 → s.lop[k].running = false → Does (.longopAbort slot) s fun t =>
      t.get (F.HIF_SLOTs_ST_ST slot) = 5 ∧ t.get (F.HIF_SLOTs_RES_RES slot) = 0 ∧ t.lop = s.lop ∧ NoLog s t ∧
        Keeps [Reg.HIF_SLOTs_ST slot, Reg.HIF_SLOTs_RES slot] s t) ∧
  (∀ (s : State) (slot : Fin 16), descClean slot false false [0] s = true → descP slot 0 s = 3 → s.lop[(2 : Fin 5)].running = true →
    s.lop[(2 : Fin 5)].host = none → Does (.longopAbort slot) s fun t =>
      t.get (F.HIF_SLOTs_ST_ST slot) = 0 ∧ t.lop[(2 : Fin 5)].running = false ∧ (t.rd (Reg.HIF_LOPk_STATH 2)).toNat / 2 ^ 24 = 4 ∧
        Logged 0x0C 0x0003 ([3, 4] ++ bytesOfNat 2 s.lop[(2 : Fin 5)].gen ++ bytesOfNat 2 (lopCount 2 s)) s t ∧ SameMem s t) ∧
  (∀ (s : State) (slot : Fin 16), descP slot 0 s = 1 → s.lop[(0 : Fin 5)].running = false → ringArgsOk slot s = true → lopClean 0 slot s = true →
    lopFits (some (lopHostOf slot s)) (descP slot 7 s) 16 = true → descAddr slot s % 8 = 0 → mState (Fin.ofNat 4 (descP slot 4 s)) s = mREG →
    s.lv (F.PARr_CTL_EN (Fin.ofNat 4 (descP slot 4 s) : Fin 4)) = 0 → Does (.ringtest slot) s fun t =>
      t.lop[(0 : Fin 5)].running = true ∧ t.lop[(0 : Fin 5)].host = some (lopHostOf slot s) ∧ t.get (F.HIF_SLOTs_ST_ST slot) = 0 ∧
        t.get (F.HIF_SLOTs_RES_RES slot) = t.lop[(0 : Fin 5)].gen % 2 ^ 32 ∧
      t.ring.npts = descP slot 7 s ∧ t.ring.fstart = descP slot 5 s ∧ t.ring.point = 0 ∧ t.armed .ringtestPointComplete = true ∧
        (s.out.d3hot = false → t.out.writes.length = s.out.writes.length + 1) ∧ NoLog s t ∧
      Keeps [Reg.HIF_LOPk_STATL 0, Reg.HIF_LOPk_STATH 0, Reg.HIF_SLOTs_ST slot, Reg.HIF_SLOTs_RES slot] s t) ∧
  (∀ (s : State), s.lop[(0 : Fin 5)].running = true → s.lop[(0 : Fin 5)].abort = false → s.lop[(0 : Fin 5)].host = none →
    s.ring.npts ≤ s.ring.point + 1 → Does .ringtestPointComplete s fun t =>
      t.lop[(0 : Fin 5)].running = false ∧ t.ring.point = s.ring.point + 1 ∧ (t.rd (Reg.HIF_LOPk_STATH 0)).toNat / 2 ^ 24 = 2 ∧
        t.free = s.free + 2 ∧
      Logged 0x0C 0x0003 ([1, 2] ++ bytesOfNat 2 s.lop[(0 : Fin 5)].gen ++ bytesOfNat 2 ((lopCount 0 s + 1) % 65536)) s t ∧
        Keeps [Reg.HIF_LOPk_STATL 0, Reg.HIF_LOPk_STATH 0] s t)

/-- Mailboxes: locks, data writes, sends, takes, and the device's releases (R393, R394, R396, R397, R399, R400, R401, R403, R404, R405, R406, R408; tier
2, derived). A read of a free lock makes the reader its owner and returns 0, a held lock returns its owner; the owner's write of 0 releases it and
every other write is refused; LOCKTO and BREAK release a lock and log it; data and sends need the write right and an empty mailbox; the receiver's
take clears FULL, and a Trio take can be handed back. -/
def Obligations.MailboxTransfers : Prop :=
  (∀ (s : State) (agent : Agent) (k : Fin 16), (agent = .host → s.on F.HIF_CTL_LOCK = false) → k.val < 8 → mbFreed k s = 0 → mbOwner k s = 0 →
    (agent = .trio ∨ locktoNs s = 0) → (agent = .debug → debugOpen s = true) → Does (.lockRead [agent] k) s fun t =>
      t.rdata = 0 ∧ mbOwner k t = agent.id ∧ t.timers = s.timers ∧ NoLog s t ∧ Keeps [Reg.MBk_STAT k] s t) ∧
  (∀ (s : State) (agent : Agent) (k : Fin 16), (agent = .host → s.on F.HIF_CTL_LOCK = false) → k.val < 8 → mbFreed k s = 0 → mbOwner k s = 0 →
    agent ≠ .trio → locktoNs s ≠ 0 → (agent = .debug → debugOpen s = true) → Does (.lockRead [agent] k) s fun t =>
      t.rdata = 0 ∧ mbOwner k t = agent.id ∧ (s.clk.ns + locktoNs s, .lockTimeout (Fin.ofNat 8 k)) ∈ t.timers ∧ NoLog s t ∧
        Keeps [Reg.MBk_STAT k] s t) ∧
  (∀ (s : State) (agent : Agent) (k : Fin 16), (agent = .host → s.on F.HIF_CTL_LOCK = false) → k.val < 8 → mbFreed k s = 0 → mbOwner k s ≠ 0 →
    (agent = .debug → debugOpen s = true) → Does (.lockRead [agent] k) s fun t =>
      t.rdata = BitVec.ofNat 32 (mbOwner k s) ∧ t.timers = s.timers ∧ NoLog s t ∧ Keeps [] s t) ∧
  (∀ (s : State) (agent : Agent) (k : Fin 16), (agent = .host → s.on F.HIF_CTL_LOCK = false) → k.val < 8 → mbFreed k s ≠ 0 → (agent = .debug →
    debugOpen s = true) → Does (.lockRead [agent] k) s fun t =>
      t.rdata = BitVec.ofNat 32 (mbFreed k s) ∧ t.timers = s.timers ∧
        t.mbx = { s.mbx with answers := [(agent.id, BitVec.ofNat 32 (mbFreed k s))] } ∧ NoLog s t ∧ Keeps [] s t) ∧
  (∀ (s : State) (agent : Agent) (k : Fin 16), (agent = .host ∧ s.on F.HIF_CTL_LOCK = true ∨ 8 ≤ k.val) → (agent = .debug → debugOpen s = true) → Does (.lockRead [agent] k) s fun t =>
      t.rdata = 0 ∧ t.mbx = { s.mbx with answers := [(agent.id, 0)] } ∧ NoLog s t ∧ Keeps (if agent = .host ∧
        s.on F.HIF_CTL_LOCK = true then [Reg.MBX_CNT] else []) s t) ∧
  (∀ (s : State) (agent : Agent) (k : Fin 16), (agent = .host → s.on F.HIF_CTL_LOCK = false) → k.val < 8 → mbOwner k s = agent.id →
    (agent = .debug → debugOpen s = true) → Does (.lockRelease agent k 0) s fun t =>
      mbOwner k t = 0 ∧ t.armed (.lockTimeout (Fin.ofNat 8 k)) = false ∧ NoLog s t ∧ Keeps [Reg.MBk_STAT k] s t) ∧
  (∀ (s : State) (agent : Agent) (k : Fin 16) (value : Word), (agent = .host → s.on F.HIF_CTL_LOCK = false) → k.val < 8 →
    (mbOwner k s ≠ agent.id ∨ value ≠ 0) → (agent = .debug → debugOpen s = true) → Does (.lockRelease agent k value) s fun t =>
      t.get F.MBX_CNT_WREF = min 255 (s.get F.MBX_CNT_WREF + 1)
      ∧ t.timers = s.timers ∧ NoLog s t ∧ Keeps [Reg.MBX_CNT] s t) ∧
  (∀ (s : State) (k : Fin 8), 2 ≤ mbOwner k s → locktoNs s ≠ 0 → s.mbx.won[k] + locktoNs s ≤ s.clk.ns →
    (mapFind s.lim (0x0D0010 + k.val)).getD 0 = 0 → Does (.lockTimeout k) s fun t =>
      mbOwner k t = 0 ∧ t.armed (.lockTimeout k) = false ∧ Logged 0x0D 1 [b8 k.val, b8 (mbOwner k s), 1] s t ∧ Keeps [Reg.MBk_STAT k] s t) ∧
  (∀ (s : State) (k : Fin 8), (mbOwner k s = 1 ∨ mbOwner k s = 0 ∨ locktoNs s = 0 ∨ s.clk.ns < s.mbx.won[k] + locktoNs s) → Does (.lockTimeout k) s fun t =>
      NoLog s t ∧ Keeps [] s t) ∧
  (∀ (s : State) (ticket : Byte) (arg : BitVec 16) (k : Fin 8), Fresh Reg.MBX_ACT ticket s → arg.toNat % 8 = k.val → mbOwner k s ≠ 0 →
    (mapFind s.lim (0x0D0010 + k.val)).getD 0 = 0 → Does (.break ticket arg) s fun t =>
      mbOwner k t = 0 ∧ Logged 0x0D 1 [b8 k.val, b8 (mbOwner k s), 3] s t ∧ t.rd Reg.MBX_ACT = actWord ticket (arg &&& 0x7) 1 ∧
        Keeps [Reg.MBk_STAT k, Reg.MBX_ACT] s t) ∧
  (∀ (s : State) (agent : Agent) (k i : Fin 16) (value : Word), (agent = .host → s.on F.HIF_CTL_LOCK = false) → mbRight agent k s = true →
    mbFull k s = false → (agent = .debug → debugOpen s = true) → Does (.mailboxDataWrite agent k i value) s fun t =>
      t.rd (Reg.MBk_DATAi k i) = value ∧ k.val ∉ t.mbx.taken ∧ NoLog s t ∧ Keeps [Reg.MBk_DATAi k i] s t) ∧
  (∀ (s : State) (agent : Agent) (k i : Fin 16) (value : Word), (agent = .host → s.on F.HIF_CTL_LOCK = false) →
    (mbRight agent k s = false ∨ mbFull k s = true) → (agent = .debug → debugOpen s = true) → Does (.mailboxDataWrite agent k i value) s fun t =>
      t.get F.MBX_CNT_WREF = min 255 (s.get F.MBX_CNT_WREF + 1)
      ∧ t.mbx = s.mbx ∧ NoLog s t ∧ Keeps [Reg.MBX_CNT] s t) ∧
  (∀ (s : State) (agent : Agent) (k : Fin 16) (ticket : Byte) (arg : BitVec 16), (agent = .host → s.on F.HIF_CTL_LOCK = false) →
    (ticket = 0 ∨ ticket ≠ ((mapFind s.mbx.send (8 * k.val + agent.id)).getD 0).extractLsb' 24 8) → mbRight agent k s = true → mbFull k s = false →
    s.mbx.took.contains (k.val, aoNow s) = false → (arg.toNat % 32 ≠ 0 ∧ arg.toNat % 32 ≤ 16) → mbDisabled k s = false →
    s.on (F.MBk_CFG_NOTIFY k) = false → (mbRecv k s ≠ 4 ∧ mbRecv k s ≠ 5) → NotFired (168 + k.val % 8) s → (agent = .debug → debugOpen s = true) → Does (.mailboxSend agent k ticket arg) s fun t =>
      mbFull k t = true ∧ t.get (F.MBk_STAT_LEN k) = arg.toNat % 32 ∧ t.get (F.MBk_STAT_SENDER k) = agent.id ∧ mbOwner k t = mbOwner k s ∧
        Fires (168 + k.val % 8) s t ∧
      mapFind t.mbx.send (8 * k.val + agent.id) = some (actWord ticket (arg &&& 0x1f) 1) ∧ NoLog s t ∧ Keeps [Reg.MBk_STAT k] s t) ∧
  (∀ (s : State) (agent : Agent) (k : Fin 16) (ticket : Byte) (arg : BitVec 16), (agent = .host → s.on F.HIF_CTL_LOCK = false) →
    (ticket = 0 ∨ ticket ≠ ((mapFind s.mbx.send (8 * k.val + agent.id)).getD 0).extractLsb' 24 8) → sendReason agent k (arg.toNat % 32) s ≠ 0 →
    (mapFind s.lim (0x0D0020 + k.val)).getD 0 = 0 → (agent = .debug → debugOpen s = true) → Does (.mailboxSend agent k ticket arg) s fun t =>
      Logged 0x0D 2 [b8 k.val, b8 agent.id, b8 (if mbRight agent k s = false ∧
        s.mbx.lapsed.contains (k.val, agent.id, aoNow s) = false then 1 else if mbFull k s = true ∨ s.mbx.took.contains (k.val, aoNow s) = true then 2 else if arg.toNat % 32 = 0 ∨ 16 < arg.toNat % 32 then 3 else 4)] s t ∧
      mapFind t.mbx.send (8 * k.val + agent.id) = some (actWord ticket (arg &&& 0x1f) 1) ∧ Keeps [Reg.MBX_CNT] s t) ∧
  (∀ (s : State) (agent : Agent) (k : Fin 16) (ticket : Byte) (arg : BitVec 16), (agent = .host → s.on F.HIF_CTL_LOCK = false) → ticket ≠ 0 →
    ticket = ((mapFind s.mbx.send (8 * k.val + agent.id)).getD 0).extractLsb' 24 8 → (agent = .debug → debugOpen s = true) → Does (.mailboxSend agent k ticket arg) s fun t =>
      t = s) ∧
  (∀ (s : State) (agent : Agent) (k : Fin 16), (agent = .host → s.on F.HIF_CTL_LOCK = false) → agent.id = mbRecv k s → mbFull k s = true →
    (agent = .debug → debugOpen s = true) → Does (.mailboxTake agent k) s fun t =>
      t.rdata = BitVec.ofNat 32 (2 ^ 31 + s.get (F.MBk_STAT_LEN k) * 65536 + s.get (F.MBk_STAT_SENDER k) * 256) ∧ mbFull k t = false ∧
        t.mbx.taken = (if agent = .trio then s.mbx.taken ++ [k.val] else s.mbx.taken) ∧
      t.get (F.MBk_STAT_LEN k) = s.get (F.MBk_STAT_LEN k) ∧ NoLog s t ∧ Keeps [Reg.MBk_STAT k] s t) ∧
  (∀ (s : State) (agent : Agent) (k : Fin 16), (agent = .host → s.on F.HIF_CTL_LOCK = false) → (agent.id ≠ mbRecv k s ∨ mbFull k s = false) →
    (agent = .debug → debugOpen s = true) → Does (.mailboxTake agent k) s fun t =>
      t.rdata = takeWord k s ∧ t.mbx = s.mbx ∧ NoLog s t ∧ Keeps [] s t) ∧
  (∀ (s : State) (a b : Agent) (k : Fin 16), a.id < b.id → (b = .debug → debugOpen s = true) → (a = .host ∨ b = .host →
    s.on F.HIF_CTL_LOCK = false) → k.val < 8 → mbFreed k s = 0 → mbOwner k s = 0 → Does (.lockRead [b, a] k) s fun t =>
      mbOwner k t = a.id ∧ t.rdata = BitVec.ofNat 32 a.id ∧ t.mbx.answers = [(a.id, 0), (b.id, BitVec.ofNat 32 a.id)] ∧ NoLog s t ∧
        Keeps [Reg.MBk_STAT k] s t) ∧
  (∀ (s : State) (agent : Agent) (k : Fin 16), (agent = .debug ∧ debugOpen s = false) → Does (.mailboxTake agent k) s fun t =>
      t = { s with busErr := true })

/-- PMBus reads: the live mirror of TW0, the fixed answers, COEFFICIENTS, the response table and refused codes (R411, R413, R414, R415, R416, R417, R418,
R419; tier 2, derived). In the PMBus personality TW0 answers each mirrored read from live state with its PEC; a paged mirror read with PAGE = 0xFF
answers 0xFF bytes and sets TWn_CML[6]; fixed answers hold on both ports; TW1's mirrored reads, all SMBus reads and other codes come from the first
matching table entry or are invalid commands; a write to a read-only code is invalid data. The answer on both ports where PAGE is 0xFF is the model's
reading (log entry 52). -/
def Obligations.PmbusReads : Prop :=
  (∀ (s : State) (r : Fin 4), Target 0 2 s → twPage 0 s = r.val → Does (.operation 0 .read) s fun t =>
      Answered 0 0x01 ([if s.on (F.EDGEr_CTL_EN r) then 0x80 else 0x00]) s t ∧ NoLog s t ∧ Keeps [] s t) ∧
  (∀ (s : State) (r : Fin 4), Target 0 2 s → twPage 0 s = r.val → Does (.voutCommand 0 .read) s fun t =>
      Answered 0 0x21 (bytesOfNat 2 (s.get (F.MRVr_VSNOW_T r))) s t ∧ NoLog s t ∧ Keeps [] s t) ∧
  (∀ (s : State) (r : Fin 4), Target 0 2 s → twPage 0 s = r.val → Does (.voutMax 0 .read) s fun t =>
      Answered 0 0x24 (bytesOfNat 2 (s.get (F.MRVr_VLIM_VMAX r))) s t ∧ NoLog s t ∧ Keeps [] s t) ∧
  (∀ (s : State) (r : Fin 4), Target 0 2 s → twPage 0 s = r.val → Does (.voutMin 0 .read) s fun t =>
      Answered 0 0x2B (bytesOfNat 2 (s.get (F.MRVr_VLIM_VMIN r))) s t ∧ NoLog s t ∧ Keeps [] s t) ∧
  (∀ (s : State) (r : Fin 4), Target 0 2 s → twPage 0 s = r.val → Does (.statusVout 0 .read) s fun t =>
      Answered 0 0x7A ([b8 ((if (s.bit (F.PROTr_FLAG_DECL r) 0) then 128 else 0) + (if (s.bit (F.PROTr_FLAG_DECL r) 1) then 16 else 0))]) s t ∧
        NoLog s t ∧ Keeps [] s t) ∧
  (∀ (s : State) (r : Fin 4), Target 0 2 s → twPage 0 s = r.val → Does (.statusIout 0 .read) s fun t =>
      Answered 0 0x7B ([b8 ((if (s.bit (F.PROTr_FLAG_DECL r) 2 && decide (3 ≤ respOf r 2 s)) || (s.bit (F.PROTr_FLAG_DECL r) 3 && decide (3 ≤ respOf r 3 s)) then 128 else 0) + (if (s.bit (F.PROTr_FLAG_DECL r) 2 && decide (respOf r 2 s ≤ 2)) || (s.bit (F.PROTr_FLAG_DECL r) 3 && decide (respOf r 3 s ≤ 2)) then 32 else 0))]) s t ∧
        NoLog s t ∧ Keeps [] s t) ∧
  (∀ (s : State) (r : Fin 4), Target 0 2 s → twPage 0 s = r.val → Does (.statusInput 0 .read) s fun t =>
      Answered 0 0x7C ([b8 (if (s.bit (F.PROTr_FLAG_DECL r) 7) then 16 else 0)]) s t ∧ NoLog s t ∧ Keeps [] s t) ∧
  (∀ (s : State) (r : Fin 4), Target 0 2 s → twPage 0 s = r.val → Does (.statusTemperature 0 .read) s fun t =>
      Answered 0 0x7D ([b8 ((if (s.bit (F.PROTr_FLAG_DECL r) 5) then 128 else 0) + (if (s.bit (F.PROTr_FLAG_DECL r) 6) then 64 else 0))]) s t ∧
        NoLog s t ∧ Keeps [] s t) ∧
  (∀ (s : State) (r : Fin 4), Target 0 2 s → twPage 0 s = r.val → Does (.statusMfrSpecific 0 .read) s fun t =>
      Answered 0 0x80 ([b8 ((if (s.bit (F.PROTr_FLAG_DECL r) 4) then 1 else 0) + (if (s.bit (F.PROTr_FLAG_DECL r) 8) then 2 else 0) + (if (s.bit (F.PROTr_FLAG_DECL r) 9) then 4 else 0))]) s t ∧
        NoLog s t ∧ Keeps [] s t) ∧
  (∀ (s : State) (r : Fin 4), Target 0 2 s → twPage 0 s = r.val → Does (.readVout 0 .read) s fun t =>
      Answered 0 0x8B (bytesOfNat 2 ((sensed r s + 5) / 10)) s t ∧ NoLog s t ∧ Keeps [] s t) ∧
  (∀ (s : State) (r : Fin 4), Target 0 2 s → twPage 0 s = r.val → Does (.readIout 0 .read) s fun t =>
      Answered 0 0x8C (linearWord (-1) (roundInt s.mrv[r].iTot 8)) s t ∧ NoLog s t ∧ Keeps [] s t) ∧
  (∀ (s : State) (r : Fin 4), Target 0 2 s → twPage 0 s = r.val → Does (.statusWord 0 .read) s fun t =>
      let d := fun f => s.bit (F.PROTr_FLAG_DECL r) f;
      let pg := s.get (F.MRVr_STAT_STATE r) != mREG || s.bit (F.PROTr_STAT_COND r) 1;
      let w := ([(15, (d 0 || d 1)), (14, (d 2 || d 3)), (13, (d 7)), (12, (d 4 || d 8 || d 9)), (11, (pg)), (6, (s.get (F.EDGEr_STAT_ST r) != eRUN)), (5, (d 0)), (4, (d 2 || d 3)), (3, (d 7)), (2, (d 5 || d 6)), (1, (s.get (F.TWn_CML_CML 0) != 0)), (0, (d 0 || d 1 || d 4 || d 8 || d 9 || pg))].map (fun (x : Nat × Bool) => if x.2 then 2 ^ x.1 else 0)).sum;
      Answered 0 0x79 (bytesOfNat 2 w) s t ∧ NoLog s t ∧ Keeps [] s t) ∧
  (∀ (s : State) (r : Fin 4), Target 0 2 s → twPage 0 s = r.val → Does (.statusByte 0 .read) s fun t =>
      let d := fun f => s.bit (F.PROTr_FLAG_DECL r) f;
      let pg := s.get (F.MRVr_STAT_STATE r) != mREG || s.bit (F.PROTr_STAT_COND r) 1;
      let w := ([(15, (d 0 || d 1)), (14, (d 2 || d 3)), (13, (d 7)), (12, (d 4 || d 8 || d 9)), (11, (pg)), (6, (s.get (F.EDGEr_STAT_ST r) != eRUN)), (5, (d 0)), (4, (d 2 || d 3)), (3, (d 7)), (2, (d 5 || d 6)), (1, (s.get (F.TWn_CML_CML 0) != 0)), (0, (d 0 || d 1 || d 4 || d 8 || d 9 || pg))].map (fun (x : Nat × Bool) => if x.2 then 2 ^ x.1 else 0)).sum;
      Answered 0 0x78 (bytesOfNat 1 w) s t ∧ NoLog s t ∧ Keeps [] s t) ∧
  (∀ (s : State) (r : Fin 4), Target 0 2 s → twPage 0 s = r.val → s.get (F.PROTr_TSCL_SLOPE r) ≠ 0 → Does (.readTemperature1 0 .read) s fun t =>
      Answered 0 0x8D (linearWord (-2) (roundInt (((tmonMv (s.get (F.GATH_TMONRESr_TMONRES r)) : Int) - s.get (F.PROTr_TSCL_T0 r)) * 400) (s.get (F.PROTr_TSCL_SLOPE r) : Nat))) s t ∧
        NoLog s t ∧ Keeps [] s t) ∧
  (∀ (s : State), Target 0 2 s → Does (.statusCml 0 .read) s fun t =>
      Answered 0 0x7E [b8 (s.get (F.TWn_CML_CML 0))] s t ∧ NoLog s t ∧ Keeps [] s t) ∧
  (∀ (s : State), Target 0 2 s → Does (.readVin 0 .read) s fun t =>
      Answered 0 0x88 (linearWord (-5) (roundInt ((s.mrv[(0 : Fin 4)].vinLast : Int) * 32) 1000)) s t ∧ NoLog s t ∧ Keeps [] s t) ∧
  (∀ (s : State), Target 0 2 s → s.gath.ain[(5 : Fin 32)] = none → Does (.readTemperature2 0 .read) s fun t =>
      Answered 0 0x8E (linearWord (-2) s.freeWord.toInt) s t ∧ NoLog s t ∧ Keeps [] s t) ∧
  (∀ (s : State) (code : BitVec 16), Target 0 2 s → s.gath.ain[(5 : Fin 32)] = some code → Does (.readTemperature2 0 .read) s fun t =>
      Answered 0 0x8E (linearWord (-2) (roundInt ((code.toNat * 100 - 3496320 : Int) * 4) 12800)) s t ∧ NoLog s t ∧ Keeps [] s t) ∧
  (∀ (s : State) (c : Instr) (code len : Nat), Target 0 2 s → twPage 0 s = 0xFF →
    (c, code, len) ∈ [(Instr.operation 0 .read, 0x01, 1), (Instr.voutCommand 0 .read, 0x21, 2), (Instr.voutMax 0 .read, 0x24, 2), (Instr.voutMin 0 .read, 0x2B, 2), (Instr.statusVout 0 .read, 0x7A, 1), (Instr.statusIout 0 .read, 0x7B, 1), (Instr.statusInput 0 .read, 0x7C, 1), (Instr.statusTemperature 0 .read, 0x7D, 1), (Instr.statusMfrSpecific 0 .read, 0x80, 1), (Instr.readVout 0 .read, 0x8B, 2), (Instr.readIout 0 .read, 0x8C, 2), (Instr.statusWord 0 .read, 0x79, 2), (Instr.statusByte 0 .read, 0x78, 1), (Instr.readTemperature1 0 .read, 0x8D, 2)] → Does c s fun t =>
      t.tw[(0 : Fin 2)].resp = List.replicate len 0xFF ++ [pec ([b8 (2 * s.tw[(0 : Fin 2)].addr), b8 code, b8 (2 * s.tw[(0 : Fin 2)].addr + 1)] ++ List.replicate len 0xFF)] ∧
        t.get (F.TWn_CML_CML 0) = s.get (F.TWn_CML_CML 0) ||| 2 ^ 6 ∧ NoLog s t ∧ Keeps [Reg.TWn_CML 0] s t) ∧
  (∀ (s : State) (n : Fin 2) (c : Instr) (code : Nat) (d : List Byte), Target n 2 s →
    (c, code, d) ∈ [(Instr.page n .read, 0x00, [b8 (twPage n s)]), (Instr.capability n .read, 0x19, [0xC4]), (Instr.voutMode n .read, 0x20, [0x40]), (Instr.pmbusRevision n .read, 0x98, [0x33]), (Instr.mfrId n .read, 0x99, [4, 0x50, 0x4E, 0x54, 0x48]), (Instr.mfrModel n .read, 0x9A, [6, 0x4B, 0x54, 0x39, 0x36, 0x34, 0x30]), (Instr.mfrRevision n .read, 0x9B, [2, 0x42, 0x31])] → Does c s fun t =>
      Answered n code d s t ∧ NoLog s t ∧ Keeps [] s t) ∧
  (∀ (s : State) (n : Fin 2) (code : Byte), Target n 2 s → code ∈ [0x21, 0x24, 0x2B, 0x8B] → Does (.coefficients n (.call [2, code, 1])) s fun t =>
      t.tw[n].nack = false ∧
        t.tw[n].resp = [5, 2, 0, 0, 0, 3, pec [b8 (2 * s.tw[n].addr), 0x30, 2, code, 1, b8 (2 * s.tw[n].addr + 1), 5, 2, 0, 0, 0, 3]] ∧ NoLog s t ∧
        Keeps [] s t) ∧
  (∀ (s : State) (n : Fin 2) (code dir : Byte), Target n 2 s → (code ∉ ([0x21, 0x24, 0x2B, 0x8B] : List Byte) ∨ dir ≠ 1) → Does (.coefficients n (.call [2, code, dir])) s fun t =>
      Nacked n 6 s t ∧ NoLog s t ∧ Keeps [Reg.TWn_CML n] s t) ∧
  (∀ (s : State) (n : Fin 2) (c : Instr) (code : Nat) (i : Fin 32), Target n 2 s → n = 1 →
    (c, code) ∈ [(Instr.operation 1 .read, 0x01), (Instr.voutCommand 1 .read, 0x21), (Instr.voutMax 1 .read, 0x24), (Instr.voutMin 1 .read, 0x2B), (Instr.statusVout 1 .read, 0x7A), (Instr.statusIout 1 .read, 0x7B), (Instr.statusInput 1 .read, 0x7C), (Instr.statusTemperature 1 .read, 0x7D), (Instr.statusMfrSpecific 1 .read, 0x80), (Instr.readVout 1 .read, 0x8B), (Instr.readIout 1 .read, 0x8C), (Instr.statusWord 1 .read, 0x79), (Instr.statusByte 1 .read, 0x78), (Instr.readTemperature1 1 .read, 0x8D), (Instr.statusCml 1 .read, 0x7E), (Instr.readVin 1 .read, 0x88), (Instr.readTemperature2 1 .read, 0x8E)] →
    ((List.range i.val).all (fun j => !tableHit n code s j) = true) → tableHit n code s i.val = true → Does c s fun t =>
      let len := min 4 (max 1 (s.get (F.TWn_RSPCi_LEN n i.val)));
      let d := (bytesOfWord (rspData n i.val s)).take len;
      Answered n code (if s.on (F.TWn_RSPCi_BLOCK n i.val) then b8 len :: d else d) s t ∧ NoLog s t ∧ Keeps [] s t) ∧
  (∀ (s : State) (n : Fin 2) (c : Instr) (code : Nat) (i : Fin 32), Target n 1 s →
    (c, code) ∈ [(Instr.operation n .read, 0x01), (Instr.voutCommand n .read, 0x21), (Instr.voutMax n .read, 0x24), (Instr.voutMin n .read, 0x2B), (Instr.statusVout n .read, 0x7A), (Instr.statusIout n .read, 0x7B), (Instr.statusInput n .read, 0x7C), (Instr.statusTemperature n .read, 0x7D), (Instr.statusMfrSpecific n .read, 0x80), (Instr.readVout n .read, 0x8B), (Instr.readIout n .read, 0x8C), (Instr.statusWord n .read, 0x79), (Instr.statusByte n .read, 0x78), (Instr.readTemperature1 n .read, 0x8D), (Instr.statusCml n .read, 0x7E), (Instr.readVin n .read, 0x88), (Instr.readTemperature2 n .read, 0x8E), (Instr.page n .read, 0x00), (Instr.capability n .read, 0x19), (Instr.voutMode n .read, 0x20), (Instr.pmbusRevision n .read, 0x98), (Instr.mfrId n .read, 0x99), (Instr.mfrModel n .read, 0x9A), (Instr.mfrRevision n .read, 0x9B)] →
    ((List.range i.val).all (fun j => !tableHit n code s j) = true) → tableHit n code s i.val = true → Does c s fun t =>
      let len := min 4 (max 1 (s.get (F.TWn_RSPCi_LEN n i.val)));
      let d := (bytesOfWord (rspData n i.val s)).take len;
      Answered n code (if s.on (F.TWn_RSPCi_BLOCK n i.val) then b8 len :: d else d) s t ∧ NoLog s t ∧ Keeps [] s t) ∧
  (∀ (s : State) (n : Fin 2) (cmd : Byte) (code : Nat) (i : Fin 32), (Target n 1 s ∨ Target n 2 s) → cmd.toNat = code →
    ((List.range i.val).all (fun j => !tableHit n code s j) = true) → tableHit n code s i.val = true → Does (.responseTableRead n (some cmd)) s fun t =>
      let len := min 4 (max 1 (s.get (F.TWn_RSPCi_LEN n i.val)));
      let d := (bytesOfWord (rspData n i.val s)).take len;
      Answered n code (if s.on (F.TWn_RSPCi_BLOCK n i.val) then b8 len :: d else d) s t ∧ NoLog s t ∧ Keeps [] s t) ∧
  (∀ (s : State) (n : Fin 2) (i : Fin 32), (Target n 1 s ∨ Target n 2 s) → ((List.range i.val).all (fun j => !tableHit n s.tw[n].cmd s j) = true) →
    tableHit n s.tw[n].cmd s i.val = true → Does (.responseTableRead n none) s fun t =>
      let len := min 4 (max 1 (s.get (F.TWn_RSPCi_LEN n i.val)));
      let d := (bytesOfWord (rspData n i.val s)).take len;
      let e := if s.on (F.TWn_RSPCi_BLOCK n i.val) then b8 len :: d else d;
      t.tw[n].resp = e ++ [pec (b8 (2 * s.tw[n].addr + 1) :: e)] ∧ t.tw[n].nack = false ∧ NoLog s t ∧ Keeps [] s t) ∧
  (∀ (s : State) (n : Fin 2) (cmd : Byte), (Target n 1 s ∨ Target n 2 s) → ((List.range 32).all (fun j => !tableHit n cmd.toNat s j) = true) → Does (.responseTableRead n (some cmd)) s fun t =>
      Nacked n 7 s t ∧ NoLog s t ∧ Keeps [Reg.TWn_CML n] s t) ∧
  (∀ (s : State) (n : Fin 2) (cmd : Byte), (Target n 1 s ∨ Target n 2 s) → Does (.unsupportedCommand n cmd) s fun t =>
      Nacked n 7 s t ∧ NoLog s t ∧ Keeps [Reg.TWn_CML n] s t) ∧
  (∀ (s : State) (n : Fin 2) (c : Instr) (d : List Byte), Target n 2 s →
    c ∈ [.capability n (.write d), .voutMode n (.write d), .statusByte n (.write d), .statusWord n (.write d), .statusVout n (.write d), .statusIout n (.write d), .statusInput n (.write d), .statusTemperature n (.write d), .statusCml n (.write d), .statusMfrSpecific n (.write d), .readVin n (.write d), .readVout n (.write d), .readIout n (.write d), .readTemperature1 n (.write d), .readTemperature2 n (.write d), .pmbusRevision n (.write d), .mfrId n (.write d), .mfrModel n (.write d), .mfrRevision n (.write d)] → Does c s fun t =>
      Nacked n 6 s t ∧ NoLog s t ∧ Keeps [Reg.TWn_CML n] s t)

/-- PMBus and manufacturer writes: PAGE, the write queue, the refusals, the mailboxes by the bus (R411, R412, R413, R414, R415, R420, R421, R422, R428;
tier 2, derived). A write takes effect with the right byte count, valid data and, where it carries one or must, the right PEC, and is otherwise
discarded whole with its TWn_CML bit; queued writes append one entry with the PAGE in force and fire the port's source; a full queue refuses them; the
manufacturer commands reach the mailboxes as sender 4 or 5. -/
def Obligations.PmbusWrites : Prop :=
  (∀ (s : State) (n : Fin 2) (p : Byte), Target n 2 s → (p.toNat ≤ 3 ∨ p = 0xFF) → s.on (F.TWn_CTL_PECREQ n) = false → Does (.page n (.write [p])) s fun t =>
      t.get (F.TWn_PAGE_PAGE n) = p.toNat ∧ t.get (F.TWn_PAGE_MBXSEL n) = s.get (F.TWn_PAGE_MBXSEL n) ∧ t.tw[n].nack = false ∧ NoLog s t ∧
        Keeps [Reg.TWn_PAGE n] s t) ∧
  (∀ (s : State) (n : Fin 2) (p : Byte), Target n 2 s → (p.toNat ≤ 3 ∨ p = 0xFF) → Does (.page n (.write [p, pec [b8 (2 * s.tw[n].addr), 0, p]])) s fun t =>
      t.get (F.TWn_PAGE_PAGE n) = p.toNat ∧ t.tw[n].nack = false ∧ NoLog s t ∧ Keeps [Reg.TWn_PAGE n] s t) ∧
  (∀ (s : State) (n : Fin 2) (p : Byte), Target n 2 s → 3 < p.toNat → p ≠ 0xFF → Does (.page n (.write [p])) s fun t =>
      Nacked n 6 s t ∧ NoLog s t ∧ Keeps [Reg.TWn_CML n] s t) ∧
  (∀ (s : State) (n : Fin 2) (p e : Byte), Target n 2 s → (p.toNat ≤ 3 ∨ p = 0xFF) → e ≠ pec [b8 (2 * s.tw[n].addr), 0, p] →
    (mapFind s.lim (0x0E0020 + n.val)).getD 0 = 0 → Does (.page n (.write [p, e])) s fun t =>
      Nacked n 5 s t ∧ Logged 0x0E 2 [b8 n.val, 0, b8 (twPage n s)] s t ∧ t.get (F.TWn_CNT_PECERR n) = min 255 (s.get (F.TWn_CNT_PECERR n) + 1) ∧
        Keeps [Reg.TWn_CML n, Reg.TWn_CNT n] s t) ∧
  (∀ (s : State) (n : Fin 2) (b : Byte), Target n 2 s → (b = 0x80 ∨ b = 0) → s.tw[n].q.length + s.tw[n].popped.length < 16 →
    s.on (F.TWn_CTL_PECREQ n) = false → NotFired (180 + n.val) s → Does (.operation n (.write [b])) s fun t =>
      Queued n 1 0x01 b.toNat s t ∧ Fires (180 + n.val) s t ∧ NoLog s t ∧ Keeps [] s t) ∧
  (∀ (s : State) (n : Fin 2) (c : Instr) (code : Nat) (lo hi : Byte), Target n 2 s →
    (c, code) ∈ [(Instr.voutCommand n (.write [lo, hi]), 0x21), (.voutMax n (.write [lo, hi]), 0x24), (.voutMin n (.write [lo, hi]), 0x2B)] →
    500 ≤ lo.toNat + 256 * hi.toNat → lo.toNat + 256 * hi.toNat ≤ 5000 → s.tw[n].q.length + s.tw[n].popped.length < 16 →
    s.on (F.TWn_CTL_PECREQ n) = false → NotFired (180 + n.val) s → Does c s fun t =>
      Queued n 2 code (lo.toNat + 256 * hi.toNat) s t ∧ Fires (180 + n.val) s t ∧ NoLog s t ∧ Keeps [] s t) ∧
  (∀ (s : State) (n : Fin 2) (c : Instr) (code : Nat) (lo hi : Byte), Target n 2 s →
    (c, code) ∈ [(Instr.voutCommand n (.write [lo, hi, pec [b8 (2 * s.tw[n].addr), 0x21, lo, hi]]), 0x21), (.voutMax n (.write [lo, hi, pec [b8 (2 * s.tw[n].addr), 0x24, lo, hi]]), 0x24), (.voutMin n (.write [lo, hi, pec [b8 (2 * s.tw[n].addr), 0x2B, lo, hi]]), 0x2B)] →
    500 ≤ lo.toNat + 256 * hi.toNat → lo.toNat + 256 * hi.toNat ≤ 5000 → s.tw[n].q.length + s.tw[n].popped.length < 16 → NotFired (180 + n.val) s → Does c s fun t =>
      Queued n 2 code (lo.toNat + 256 * hi.toNat) s t ∧ Fires (180 + n.val) s t ∧ NoLog s t ∧ Keeps [] s t) ∧
  (∀ (s : State) (n : Fin 2) (c : Instr) (lo hi : Byte), Target n 2 s →
    c ∈ [.voutCommand n (.write [lo, hi]), .voutMax n (.write [lo, hi]), .voutMin n (.write [lo, hi])] →
    (lo.toNat + 256 * hi.toNat < 500 ∨ 5000 < lo.toNat + 256 * hi.toNat) → s.tw[n].q.length + s.tw[n].popped.length < 16 → Does c s fun t =>
      Nacked n 6 s t ∧ t.tw[n].q = s.tw[n].q ∧ NoLog s t ∧ Keeps [Reg.TWn_CML n] s t) ∧
  (∀ (s : State) (n : Fin 2), Target n 2 s → s.tw[n].q.length + s.tw[n].popped.length < 16 → s.on (F.TWn_CTL_PECREQ n) = false →
    NotFired (180 + n.val) s → Does (.clearFaults n (.write [])) s fun t =>
      Queued n 0 0x03 0 s t ∧ t.get (F.TWn_CML_CML n) = 0 ∧ Fires (180 + n.val) s t ∧ NoLog s t ∧ Keeps [Reg.TWn_CML n] s t) ∧
  (∀ (s : State) (n : Fin 2), Target n 2 s → s.tw[n].q.length + s.tw[n].popped.length < 16 → s.on (F.TWn_CTL_PECREQ n) = false →
    NotFired (180 + n.val) s → Does (.mfrClear n (.write [])) s fun t =>
      Queued n 0 0xD8 0 s t ∧ Fires (180 + n.val) s t ∧ NoLog s t ∧ Keeps [] s t) ∧
  (∀ (s : State) (n : Fin 2) (c : Instr) (code : Nat) (d : List Byte), Target n 2 s → 16 ≤ s.tw[n].q.length →
    (c, code) ∈ [(Instr.operation n (.write d), 0x01), (.clearFaults n (.write d), 0x03), (.voutCommand n (.write d), 0x21), (.voutMax n (.write d), 0x24), (.voutMin n (.write d), 0x2B), (.mfrClear n (.write d), 0xD8)] →
    (d.take 1 = [0x80] ∨ d.take 1 = [0] ∨ d ≠ [] ∧ code ≠ 0x01 ∨ code = 0x03 ∨ code = 0xD8) → (mapFind s.lim (0x0E0030 + n.val)).getD 0 = 0 → Does c s fun t =>
      Nacked n 1 s t ∧ t.tw[n].q = s.tw[n].q ∧ t.get (F.TWn_CNT_QFULL n) = min 255 (s.get (F.TWn_CNT_QFULL n) + 1) ∧
        Logged 0x0E 3 [b8 n.val, b8 code] s t ∧ Keeps [Reg.TWn_CML n, Reg.TWn_CNT n] s t) ∧
  (∀ (s : State) (n : Fin 2), (Target n 1 s ∨ Target n 2 s) → Does (.mfrMbxSel n .read) s fun t =>
      Answered n 0xD0 [b8 (s.get (F.TWn_PAGE_MBXSEL n))] s t ∧ NoLog s t ∧ Keeps [] s t) ∧
  (∀ (s : State) (n : Fin 2) (k : Byte), (Target n 1 s ∨ Target n 2 s) → s.on (F.TWn_CTL_PECREQ n) = false → k.toNat ≤ 15 → Does (.mfrMbxSel n (.write [k])) s fun t =>
      t.get (F.TWn_PAGE_MBXSEL n) = k.toNat ∧ t.get (F.TWn_PAGE_PAGE n) = s.get (F.TWn_PAGE_PAGE n) ∧ NoLog s t ∧ Keeps [Reg.TWn_PAGE n] s t) ∧
  (∀ (s : State) (n : Fin 2) (k : Byte), (Target n 1 s ∨ Target n 2 s) → 15 < k.toNat → Does (.mfrMbxSel n (.write [k])) s fun t =>
      Nacked n 6 s t ∧ NoLog s t ∧ Keeps [Reg.TWn_CML n] s t) ∧
  (∀ (s : State) (n : Fin 2), (Target n 1 s ∨ Target n 2 s) → twMbx n s < 8 → mbOwner (twMbx n s) s = 0 → mbFreed (twMbx n s) s = 0 →
    locktoNs s ≠ 0 → Does (.mfrMbxLock n .read) s fun t =>
      Answered n 0xD1 [0] s t ∧ mbOwner (twMbx n s) t = 4 + n.val ∧ (s.clk.ns + locktoNs s, .lockTimeout (Fin.ofNat 8 (twMbx n s))) ∈ t.timers ∧
        NoLog s t ∧ Keeps [Reg.MBk_STAT (twMbx n s)] s t) ∧
  (∀ (s : State) (n : Fin 2), (Target n 1 s ∨ Target n 2 s) → twMbx n s < 8 → mbOwner (twMbx n s) s ≠ 0 → mbFreed (twMbx n s) s = 0 → Does (.mfrMbxLock n .read) s fun t =>
      Answered n 0xD1 [b8 (mbOwner (twMbx n s) s)] s t ∧ NoLog s t ∧ Keeps [] s t) ∧
  (∀ (s : State) (n : Fin 2), (Target n 1 s ∨ Target n 2 s) → s.on (F.TWn_CTL_PECREQ n) = false → twMbx n s < 8 →
    mbOwner (twMbx n s) s = 4 + n.val → Does (.mfrMbxLock n (.write [0])) s fun t =>
      mbOwner (twMbx n s) t = 0 ∧ t.armed (.lockTimeout (Fin.ofNat 8 (twMbx n s))) = false ∧ NoLog s t ∧ Keeps [Reg.MBk_STAT (twMbx n s)] s t) ∧
  (∀ (s : State) (n : Fin 2) (a b c d : Byte), (Target n 1 s ∨ Target n 2 s) → s.on (F.TWn_CTL_PECREQ n) = false →
    mbRight (twAgent n) (twMbx n s) s = true → mbFull (twMbx n s) s = false → Does (.mfrMbxData n (.write [4, a, b, c, d])) s fun t =>
      t.rd (Reg.MBk_DATAi (twMbx n s) 0) = wordOfBytes [a, b, c, d] ∧ NoLog s t ∧ Keeps [Reg.MBk_DATAi (twMbx n s) 0] s t) ∧
  (∀ (s : State) (n : Fin 2) (m : Byte) (d : List Byte), (Target n 1 s ∨ Target n 2 s) → (m.toNat < 4 ∨ 64 < m.toNat ∨ m.toNat % 4 ≠ 0) → Does (.mfrMbxData n (.write (m :: d))) s fun t =>
      Nacked n 6 s t ∧ NoLog s t ∧ Keeps [Reg.TWn_CML n] s t) ∧
  (∀ (s : State) (n : Fin 2), (Target n 1 s ∨ Target n 2 s) → mbRecv (twMbx n s) s = 4 + n.val → 1 ≤ s.get (F.MBk_STAT_LEN (twMbx n s)) →
    s.get (F.MBk_STAT_LEN (twMbx n s)) ≤ 16 → Does (.mfrMbxData n .read) s fun t =>
      let len := s.get (F.MBk_STAT_LEN (twMbx n s));
      Answered n 0xD2 (b8 (4 * len) :: ((List.range len).map (fun i => bytesOfWord (s.rd (Reg.MBk_DATAi (twMbx n s) i)))).flatten) s t ∧
        NoLog s t ∧ Keeps [] s t) ∧
  (∀ (s : State) (n : Fin 2) (l k : Byte), (Target n 1 s ∨ Target n 2 s) → s.on (F.TWn_CTL_PECREQ n) = false →
    (k = 0 ∨ k ≠ ((mapFind s.mbx.send (8 * twMbx n s + (4 + n.val))).getD 0).extractLsb' 24 8) → mbRight (twAgent n) (twMbx n s) s = true →
    mbFull (twMbx n s) s = false → s.mbx.took.contains (twMbx n s, aoNow s) = false → (l.toNat % 32 ≠ 0 ∧ l.toNat % 32 ≤ 16) →
    mbRecv (twMbx n s) s = 1 → s.on (F.MBk_CFG_NOTIFY (twMbx n s)) = false → NotFired (168 + twMbx n s % 8) s → Does (.mfrMbxSend n (.write [l, k])) s fun t =>
      mbFull (twMbx n s) t = true ∧ t.get (F.MBk_STAT_LEN (twMbx n s)) = l.toNat % 32 ∧ t.get (F.MBk_STAT_SENDER (twMbx n s)) = 4 + n.val ∧
        Fires (168 + twMbx n s % 8) s t ∧ NoLog s t ∧ Keeps [Reg.MBk_STAT (twMbx n s)] s t) ∧
  (∀ (s : State) (n : Fin 2), (Target n 1 s ∨ Target n 2 s) → mbRecv (twMbx n s) s = 4 + n.val → mbFull (twMbx n s) s = true → Does (.mfrMbxTake n .read) s fun t =>
      Answered n 0xD4 (bytesOfNat 2 (2 ^ 15 + s.get (F.MBk_STAT_LEN (twMbx n s)) * 256 + s.get (F.MBk_STAT_SENDER (twMbx n s)))) s t ∧
        mbFull (twMbx n s) t = false ∧ NoLog s t ∧ Keeps [Reg.MBk_STAT (twMbx n s)] s t) ∧
  (∀ (s : State) (n : Fin 2), (Target n 1 s ∨ Target n 2 s) → s.touched (Reg.TWn_ATTN n) = none → Does (.mfrAttn n .read) s fun t =>
      Answered n 0xD5 (bytesOfNat 2 (s.get (F.TWn_ATTN_CAUSE n))) s t ∧ t.get (F.TWn_ATTN_CAUSE n) = 0 ∧ NoLog s t ∧ Keeps [Reg.TWn_ATTN n] s t) ∧
  (∀ (s : State) (n : Fin 2), (Target n 1 s ∨ Target n 2 s) → Does (.mfrDevtime n .read) s fun t =>
      Answered n 0xD6 (8 :: bytesOfNat 8 s.clk.time.toNat) s t ∧ NoLog s t ∧ Keeps [] s t)

/-- Two-wire ports: queue pops, the pointer personality, the controller role, self-reset and attention (R399, R409, R421, R422, R424, R425, R426, R427,
R428, R429, R430; tier 2, derived). A Trio pop takes the oldest entry; the pointer personality stores and reads bytes from its pointer; EXEC starts a
transfer that ends with one result and its source; a self-reset discards the transaction, counts, logs and releases the port's locks; a request, an
in-band request and a Host Notify follow the attention causes; a personality change takes effect. When the bus is idle, and that a popped entry keeps
its place until its pop is committed, are the model's reading (log entries 35 and 52). -/
def Obligations.TwoWirePorts : Prop :=
  (∀ (s : State) (n : Fin 2) (p : Byte), (twHears n s = false ∨ s.tw[n].pers ≠ 3) → Does (.pointerWrite n [p]) s fun t =>
      t.tw[n].nack = true ∧ t.tw[n].ptr = s.tw[n].ptr ∧ t.tw[n].q = s.tw[n].q ∧ t.tw[n].busAt = some s.clk.ns ∧ t.tw[n].deaf = s.tw[n].deaf ∧
        NoLog s t ∧ Keeps [] s t) ∧
  (∀ (s : State) (n : Fin 2) (w : Word) (l : List Word), twOn s = true → s.tw[n].q = w :: l → Does (.queuePop .trio n) s fun t =>
      t.rdata = w ∧ t.tw[n].q = l ∧ t.tw[n].popped = s.tw[n].popped ++ [w] ∧ NoLog s t ∧ Keeps [] s t) ∧
  (∀ (s : State) (n : Fin 2) (agent : Agent), twOn s = true → s.tw[n].q = [] → Does (.queuePop agent n) s fun t =>
      t.rdata = 0 ∧ t.tw = s.tw ∧ NoLog s t ∧ Keeps [] s t) ∧
  (∀ (s : State) (n : Fin 2) (p : Byte), Target n 3 s → Does (.pointerWrite n [p]) s fun t =>
      t.tw[n].ptr = p.toNat ∧ t.tw[n].q = s.tw[n].q ∧ t.tw[n].nack = false ∧ NoLog s t ∧ Keeps [] s t) ∧
  (∀ (s : State) (n : Fin 2) (p b : Byte), Target n 3 s → s.tw[n].q.length + s.tw[n].popped.length < 16 → NotFired (180 + n.val) s → Does (.pointerWrite n [p, b]) s fun t =>
      let blk := 2 ^ min (s.get (F.TWn_CTL_WRAPSH n)) 8;
      t.tw[n].ptr = p.toNat / blk * blk + (p.toNat + 1) % blk ∧ Queued n 3 0 (p.toNat * 256 + 1) s t ∧ Fires (180 + n.val) s t ∧
      regfByte n p.toNat t = (if s.bit (F.TWn_WPROT_PROT n) (p.toNat / 32) then regfByte n p.toNat s else b) ∧ (∀ q : Fin 256, q.val ≠ p.toNat →
        regfByte n q.val t = regfByte n q.val s) ∧
      NoLog s t ∧ Keeps [Reg.TWn_REGFi n (p.toNat / 4)] s t) ∧
  (∀ (s : State) (n : Fin 2), Target n 3 s → Does (.pointerRead n 1) s fun t =>
      let blk := 2 ^ min (s.get (F.TWn_CTL_WRAPSH n)) 8;
      let p := s.tw[n].ptr;
      t.tw[n].resp = [regfByte n p s] ∧ t.tw[n].ptr = p / blk * blk + (p + 1) % blk ∧ NoLog s t ∧ Keeps [] s t) ∧
  (∀ (s : State) (ticket : Byte) (arg : BitVec 16) (n : Fin 2), slotOn Reg.TW_ACT s = true → Fresh Reg.TW_ACT ticket s → arg.toNat % 2 = n.val →
    s.tw[n].pers = 4 → s.tw[n].busy = false → Does (.controllerExec ticket arg) s fun t =>
      t.tw[n].busy = true ∧ t.get (F.TWn_MSTAT_RESULT n) = 0 ∧ t.tw[n].mcmd = s.rd (Reg.TWn_MCMD n) ∧
      (let d := b8 (2 * s.get (F.TWn_MCMD_ADDR n)) :: (mbuf n s).take (min (s.get (F.TWn_MCMD_WLEN n)) 32);
        t.tw[n].sent = if s.get (F.TWn_MCMD_PEC n) = 1 then d ++ [pec d] else d) ∧ t.rd Reg.TW_ACT = actWord ticket (arg &&& 0x1) 1 ∧ NoLog s t ∧
        Keeps [Reg.TWn_MSTAT n, Reg.TW_ACT] s t) ∧
  (∀ (s : State) (ticket : Byte) (arg : BitVec 16) (n : Fin 2), slotOn Reg.TW_ACT s = true → Fresh Reg.TW_ACT ticket s → arg.toNat % 2 = n.val →
    s.tw[n].busy = true → Does (.controllerExec ticket arg) s fun t =>
      t.on (F.TWn_MSTAT_BUSYREF n) = true ∧ t.tw = s.tw ∧ NoLog s t ∧ Keeps [Reg.TWn_MSTAT n, Reg.TW_ACT] s t) ∧
  (∀ (s : State) (n : Fin 2) (outcome : Fin 3) (rx : List Byte), s.tw[n].busy = true → outcome ≠ 0 → NotFired (180 + n.val) s → Does (.controllerTransferEnd n outcome rx) s fun t =>
      t.tw[n].busy = false ∧ t.get (F.TWn_MSTAT_RESULT n) = (if outcome = 1 then 2 else 3) ∧ Fires (180 + n.val) s t ∧ NoLog s t ∧
        Keeps [Reg.TWn_MSTAT n] s t) ∧
  (∀ (s : State) (n : Fin 2) (rx : List Byte) (e : Byte), s.tw[n].busy = true → fldOf (F.TWn_MCMD_RLEN n) s.tw[n].mcmd = rx.length → 1 ≤ rx.length →
    rx.length ≤ 32 → fldOf (F.TWn_MCMD_PEC n) s.tw[n].mcmd = 1 → NotFired (180 + n.val) s → Does (.controllerTransferEnd n 0 (rx ++ [e])) s fun t =>
      t.tw[n].busy = false ∧
        t.get (F.TWn_MSTAT_RESULT n) = (if e = pec (s.tw[n].sent ++ [b8 (2 * fldOf (F.TWn_MCMD_ADDR n) s.tw[n].mcmd + 1)] ++ rx) then 1 else 4) ∧
      mbuf n t = rx ++ (mbuf n s).drop rx.length ∧ Fires (180 + n.val) s t ∧ NoLog s t ∧
        Keeps (Reg.TWn_MSTAT n :: (List.range 8).map (Reg.TWn_MBUFi n)) s t) ∧
  (∀ (s : State) (n : Fin 2), s.tw[n].busy = true → NotFired (180 + n.val) s → twStill n (strtoNs n s) s = true →
    (∀ k : Fin 8, mbOwner k.val s ≠ 4 + n.val) → Does (.controllerStretchTimeout n) s fun t =>
      t.tw[n].busy = false ∧ t.get (F.TWn_MSTAT_RESULT n) = 5 ∧ t.on (F.TWn_MSTAT_HNDROP n) = s.on (F.TWn_MSTAT_HNDROP n) ∧
        t.bit (F.TWn_CML_CML n) 1 = true ∧ t.get (F.TWn_CNT_SELFRST n) = min 255 (s.get (F.TWn_CNT_SELFRST n) + 1) ∧
      Fires (180 + n.val) s t ∧ Logged 0x0E 1 [b8 n.val, 2, b8 s.tw[n].cmd] s t ∧ Keeps [Reg.TWn_MSTAT n, Reg.TWn_CML n, Reg.TWn_CNT n] s t) ∧
  (∀ (s : State) (n : Fin 2) (p : Nat), twOn s = true → s.tw[n].pers = p → p ∈ [pSMBUS, pPMBUS, pPOINTER] → twStill n (ttmoNs n s) s = true →
    (∀ k : Fin 8, mbOwner k.val s ≠ 4 + n.val) → Does (.selfReset n) s fun t =>
      t.tw[n] = { s.tw[n] with resp := [], nack := false, busy := false, sdaUntil := min s.tw[n].sdaUntil s.clk.ns, busAt := some s.clk.ns, deaf := true } ∧
        t.get (F.TWn_CML_CML n) = s.get (F.TWn_CML_CML n) ||| 2 ^ 1 ∧ t.get (F.TWn_CNT_SELFRST n) = min 255 (s.get (F.TWn_CNT_SELFRST n) + 1) ∧
      Logged 0x0E 1 [b8 n.val, 1, b8 s.tw[n].cmd] s t ∧ Keeps [Reg.TWn_CML n, Reg.TWn_CNT n] s t) ∧
  (∀ (s : State) (n : Fin 2) (p : Nat) (k : Fin 8), twOn s = true → s.tw[n].pers = p → p ∈ [pSMBUS, pPMBUS, pPOINTER] →
    twStill n (ttmoNs n s) s = true → mbOwner k.val s = 4 + n.val → Does (.selfReset n) s fun t =>
      mbOwner k.val t = 0 ∧ (∀ j : Fin 8, mbOwner j.val s ≠ 4 + n.val → mbOwner j.val t = mbOwner j.val s) ∧ t.armed (.lockTimeout k) = false ∧
        SameMem s t) ∧
  (∀ (s : State) (ticket : Byte) (arg : BitVec 16) (n : Fin 2), slotOn Reg.TW_ACT s = true → Fresh Reg.TW_ACT ticket s → arg.toNat % 2 = n.val →
    s.tw[n].pers ∈ [pSMBUS, pPMBUS, pPOINTER, pCONTROLLER] → (∀ k : Fin 8, mbOwner k.val s ≠ 4 + n.val) → Does (.twReset ticket arg) s fun t =>
      t.tw[n] = { s.tw[n] with resp := [], nack := false, busy := false, sdaUntil := min s.tw[n].sdaUntil s.clk.ns, busAt := some s.clk.ns, deaf := true } ∧
        t.get (F.TWn_CML_CML n) = s.get (F.TWn_CML_CML n) ||| 2 ^ 1 ∧ t.get (F.TWn_CNT_SELFRST n) = min 255 (s.get (F.TWn_CNT_SELFRST n) + 1) ∧
      t.rd Reg.TW_ACT = actWord ticket (arg &&& 0x1) 3 ∧ Logged 0x0E 1 [b8 n.val, 3, b8 s.tw[n].cmd] s t ∧
        Keeps [Reg.TWn_CML n, Reg.TWn_CNT n, Reg.TW_ACT] s t) ∧
  (∀ (s : State) (ticket : Byte) (arg : BitVec 16) (n : Fin 2), slotOn Reg.TW_ACT s = true → Fresh Reg.TW_ACT ticket s → arg.toNat % 2 = n.val → Does (.request ticket arg) s fun t =>
      t.get (F.TWn_ATTN_CAUSE n) = s.get (F.TWn_ATTN_CAUSE n) ||| 2 ^ 4 ∧ t.rd Reg.TW_ACT = actWord ticket (arg &&& 0x1) 2 ∧
      (s.get (F.TWn_CTL_ATTNMODE n) = 2 ∧ s.bit (F.TWn_ATTN_CAUSE n) 4 = false ∧ s.bit (F.TWn_ATTNEN_EN n) 4 = true → t.tw[n].notify = true ∧
        t.tw[n].tries = 0) ∧ NoLog s t ∧ Keeps [Reg.TWn_ATTN n, Reg.TW_ACT] s t) ∧
  (∀ (s : State) (n : Fin 2), twOn s = true → (1 ≤ s.tw[n].pers ∧ s.tw[n].pers ≤ 3) → s.get (F.TWn_CTL_ATTNMODE n) = 1 →
    s.get (F.TWn_ATTN_CAUSE n) &&& s.get (F.TWn_ATTNEN_EN n) ≠ 0 → idleLeft n s = 0 → Does (.inbandRequest n false) s fun t =>
      t.tw[n].sdaUntil = s.clk.ns + min 100 (max 50 (s.get (F.TWn_TO_INBW n))) * 1000 ∧ NoLog s t ∧ Keeps [] s t) ∧
  (∀ (s : State) (n : Fin 2), s.clk.ns < s.tw[n].sdaUntil → Does (.inbandRequest n true) s fun t =>
      t.tw[n].sdaUntil = s.clk.ns ∧ t.get (F.TWn_CNT_ATTRETRY n) = min 255 (s.get (F.TWn_CNT_ATTRETRY n) + 1) ∧
        (s.clk.ns + 50000, .inbandRequest n false) ∈ t.timers ∧ NoLog s t ∧ Keeps [Reg.TWn_CNT n] s t) ∧
  (∀ (s : State) (n : Fin 2), twTarget n s = true → s.tw[n].notify = true → s.get (F.TWn_CTL_ATTNMODE n) = 2 → Does (.hostNotify n true) s fun t =>
      t.tw[n].resp = [0x10, b8 (2 * s.tw[n].addr), b8 (s.get (F.TWn_ATTN_CAUSE n)), 0] ∧ t.tw[n].notify = false ∧ t.tw[n].tries = 0 ∧ NoLog s t ∧
        Keeps [] s t) ∧
  (∀ (s : State) (n : Fin 2), twTarget n s = true → s.tw[n].notify = true → s.get (F.TWn_CTL_ATTNMODE n) = 2 →
    s.tw[n].tries < s.get (F.TWn_MCMD_HNRETRY n) → Does (.hostNotify n false) s fun t =>
      t.tw[n].resp = [0x10, b8 (2 * s.tw[n].addr), b8 (s.get (F.TWn_ATTN_CAUSE n)), 0] ∧ t.tw[n].notify = true ∧
        t.tw[n].tries = s.tw[n].tries + 1 ∧ NoLog s t ∧ Keeps [] s t) ∧
  (∀ (s : State) (n : Fin 2), twTarget n s = true → s.tw[n].notify = true → s.get (F.TWn_CTL_ATTNMODE n) = 2 →
    s.get (F.TWn_MCMD_HNRETRY n) ≤ s.tw[n].tries → Does (.hostNotify n false) s fun t =>
      t.tw[n].resp = [0x10, b8 (2 * s.tw[n].addr), b8 (s.get (F.TWn_ATTN_CAUSE n)), 0] ∧ t.tw[n].notify = false ∧
        t.on (F.TWn_MSTAT_HNDROP n) = true ∧ t.get (F.TWn_ATTN_CAUSE n) = s.get (F.TWn_ATTN_CAUSE n) ∧
        Logged 0x0E 4 [b8 n.val, b8 (s.get (F.TWn_ATTN_CAUSE n))] s t ∧ Keeps [Reg.TWn_MSTAT n] s t) ∧
  (∀ (s : State) (n : Fin 2) (ib : Bool) (addr : Byte) (data : BitVec 16), Target n 4 s → NotFired (180 + n.val) s → Does (.hostNotifyReceived n ib addr data) s fun t =>
      t.on (F.TWn_MSTAT_ATTNIN n) = true ∧ Fires (180 + n.val) s t ∧ (ib = false → t.get (F.TWn_HNRX_ADDR n) = addr.toNat ∧
        t.get (F.TWn_HNRX_WORD n) = data.toNat) ∧ NoLog s t ∧ Keeps (if ib then [Reg.TWn_MSTAT n] else [Reg.TWn_MSTAT n, Reg.TWn_HNRX n]) s t) ∧
  (∀ (s : State) (n : Fin 2), twOn s = true →
    (s.get (F.TWn_CTL_PERS n) ≠ s.tw[n].pers ∨ s.get (F.TWn_CTL_SPEED n) ≠ s.tw[n].speed ∨ s.get (F.TWn_ADDR_ADDR n) ≠ s.tw[n].addr) → Does (.personalityChange n) s fun t =>
      t.tw[n].pers = s.get (F.TWn_CTL_PERS n) ∧ t.tw[n].speed = s.get (F.TWn_CTL_SPEED n) ∧ t.tw[n].addr = s.get (F.TWn_ADDR_ADDR n) ∧
        t.tw[n].q = s.tw[n].q ∧ t.tw[n].resp = [] ∧ NoLog s t ∧ Keeps [] s t)

/-- AVSBus frames: the voltage held, committed and read, the other reads, the alert latch, the refusals and discards (R107, R108, R109, R432, R433, R434,
R435, R437; tier 2, derived). A valid frame on an enabled, unmasked rail is accepted: a hold keeps the value, a commit releases all held values, which
arrive 40 ns later; the reads give the sensed voltage, rate, current, temperature and status; a frame on no rail, an unlisted rail or a disabled one,
and an invalid voltage are answered with their codes; an unsupported type or direction is answered invalid; a bad CRC and a timeout are discarded and
counted. The bit places of a frame and its status response are PRESUMED (log entry 32); the rounding of the current and the reads of a disabled rail
are the model's reading (log entry 62), and what a commit of a reset voltage releases the model's choice (log entry 74). -/
def Obligations.AvsBusFrames : Prop :=
  (∀ (s : State) (n : Fin 2) (sel : Fin 16) (r : Fin 4) (mv : BitVec 16), twOn s = true → sel.val = r.val →
    s.bit (F.AVSn_CTL_RAILEN n) sel.val = true → s.on (F.EDGEr_CTL_EN r) = true → (s.lv (F.MRVr_VSRC_MASK r)).testBit 0 = true →
    vsetOk r (2 * mv.toNat) s = true → Does (.avsVoltageWrite n (⟨avsCrc (avsWord 0x20 sel mv), none⟩) sel false mv) s fun t =>
      t.avs[n].held = s.avs[n].held.set r (some mv.toNat) ∧ t.avs[n].commit = s.avs[n].commit ∧
        AvsAnswered n 0 0 (4 * (if s.get (F.MRVr_VSNOW_S r) = 10 * s.get (F.MRVr_VSNOW_T r) then 1 else 0) + 2 * (if s.on (F.AVSn_STAT_ALERT n) = true then 1 else 0) + (if (s.lv (F.MRVr_VSRC_MASK r)).testBit 0 = true then 1 else 0)) t ∧
      (∀ q : Fin 4, (t.get (F.AVSn_STAT_HELD n)).testBit q.val = ((t.avs[n].held[q]).isSome || (t.avs[n].heldBoot[q]).isSome)) ∧
        t.avs[n].heldBoot = s.avs[n].heldBoot.set r none ∧ t.timers = s.timers ∧ NoLog s t ∧ Keeps [Reg.AVSn_STAT n] s t) ∧
  (∀ (s : State) (n : Fin 2) (sel : Fin 16) (r : Fin 4) (mv : BitVec 16), twOn s = true → sel.val = r.val →
    s.bit (F.AVSn_CTL_RAILEN n) sel.val = true → s.on (F.EDGEr_CTL_EN r) = true → (s.lv (F.MRVr_VSRC_MASK r)).testBit 0 = true →
    vsetOk r (2 * mv.toNat) s = true → s.avs[n].heldBoot = Vector.replicate 4 none → Does (.avsVoltageWrite n (⟨avsCrc (avsWord 0x00 sel mv), none⟩) sel true mv) s fun t =>
      t.avs[n].commit = s.avs[n].held.set r (some mv.toNat) ∧ t.avs[n].held = Vector.replicate 4 none ∧ t.get (F.AVSn_STAT_HELD n) = 0 ∧
        AvsAnswered n 0 0 (4 * (if s.get (F.MRVr_VSNOW_S r) = 10 * s.get (F.MRVr_VSNOW_T r) then 1 else 0) + 2 * (if s.on (F.AVSn_STAT_ALERT n) = true then 1 else 0) + (if (s.lv (F.MRVr_VSRC_MASK r)).testBit 0 = true then 1 else 0)) t ∧
      (s.clk.ns + 40, .avsCommitArrival n) ∈ t.timers ∧ NoLog s t ∧ Keeps [Reg.AVSn_STAT n] s t) ∧
  (∀ (s : State) (n : Fin 2) (sel : Fin 16) (r : Fin 4) (mv : BitVec 16) (commit : Bool), twOn s = true → sel.val = r.val →
    s.bit (F.AVSn_CTL_RAILEN n) sel.val = true → s.on (F.EDGEr_CTL_EN r) = true → (s.lv (F.MRVr_VSRC_MASK r)).testBit 0 = true →
    vsetOk r (2 * mv.toNat) s = false → Does (.avsVoltageWrite n (⟨avsCrc (avsWord (if commit then 0x00 else 0x20) sel mv), none⟩) sel commit mv) s fun t =>
      t.avs[n].held = s.avs[n].held ∧ t.avs[n].commit = s.avs[n].commit ∧ t.avs[n].ack = 3 ∧
        Logged 0x04 2 ([b8 r.val, 0] ++ bytesOfNat 2 (2 * mv.toNat)) s t ∧ Keeps [Reg.MRVr_VSREJ r] s t) ∧
  (∀ (s : State) (n : Fin 2) (sel : Fin 16) (r : Fin 4) (mv : BitVec 16) (commit : Bool), twOn s = true → sel.val = r.val →
    s.bit (F.AVSn_CTL_RAILEN n) sel.val = true → (s.on (F.EDGEr_CTL_EN r) = false ∨ (s.lv (F.MRVr_VSRC_MASK r)).testBit 0 = false) → Does (.avsVoltageWrite n (⟨avsCrc (avsWord (if commit then 0x00 else 0x20) sel mv), none⟩) sel commit mv) s fun t =>
      t.avs[n].held = s.avs[n].held ∧ t.avs[n].ack = 1 ∧ NoLog s t ∧ Keeps (if s.on (F.EDGEr_CTL_EN r) = true then [Reg.MRVr_VSREJ r] else []) s t) ∧
  (∀ (s : State) (n : Fin 2) (sel : Fin 16) (r : Fin 4), twOn s = true → sel.val = r.val → s.bit (F.AVSn_CTL_RAILEN n) sel.val = true → Does (.avsVoltageRead n (⟨avsCrc (avsWord 0x60 sel 0xFFFF), none⟩) sel) s fun t =>
      AvsAnswered n 0 ((sensed r s + 10) / 20) (4 * (if s.get (F.MRVr_VSNOW_S r) = 10 * s.get (F.MRVr_VSNOW_T r) then 1 else 0) + 2 * (if s.on (F.AVSn_STAT_ALERT n) = true then 1 else 0) + (if (s.lv (F.MRVr_VSRC_MASK r)).testBit 0 = true then 1 else 0)) t ∧
        NoLog s t ∧ Keeps [] s t) ∧
  (∀ (s : State) (n : Fin 2) (sel : Fin 16) (r : Fin 4), twOn s = true → sel.val = r.val → s.bit (F.AVSn_CTL_RAILEN n) sel.val = true → Does (.avsTransitionRateRead n (⟨avsCrc (avsWord 0x61 sel 0xFFFF), none⟩) sel) s fun t =>
      let rate := min 255 ((2 * s.lv (F.MRVr_SLEW_SLEWRATE r) + 10) / 20);
      AvsAnswered n 0 (256 * rate + rate) (4 * (if s.get (F.MRVr_VSNOW_S r) = 10 * s.get (F.MRVr_VSNOW_T r) then 1 else 0) + 2 * (if s.on (F.AVSn_STAT_ALERT n) = true then 1 else 0) + (if (s.lv (F.MRVr_VSRC_MASK r)).testBit 0 = true then 1 else 0)) t ∧
        NoLog s t ∧ Keeps [] s t) ∧
  (∀ (s : State) (n : Fin 2) (sel : Fin 16) (r : Fin 4), twOn s = true → sel.val = r.val → s.bit (F.AVSn_CTL_RAILEN n) sel.val = true → Does (.avsCurrentRead n (⟨avsCrc (avsWord 0x62 sel 0xFFFF), none⟩) sel) s fun t =>
      AvsAnswered n 0 (if s.mrv[r].iTot < 0 then 0 else min 65535 (s.mrv[r].iTot.toNat * 100 / 16)) (4 * (if s.get (F.MRVr_VSNOW_S r) = 10 * s.get (F.MRVr_VSNOW_T r) then 1 else 0) + 2 * (if s.on (F.AVSn_STAT_ALERT n) = true then 1 else 0) + (if (s.lv (F.MRVr_VSRC_MASK r)).testBit 0 = true then 1 else 0)) t ∧
        NoLog s t ∧ Keeps [] s t) ∧
  (∀ (s : State) (n : Fin 2) (sel : Fin 16) (r : Fin 4), twOn s = true → sel.val = r.val → s.bit (F.AVSn_CTL_RAILEN n) sel.val = true →
    s.get (F.PROTr_TSCL_SLOPE r) ≠ 0 → Does (.avsTemperatureRead n (⟨avsCrc (avsWord 0x63 sel 0xFFFF), none⟩) sel) s fun t =>
      AvsAnswered n 0 (ofSigned 16 (roundInt (((tmonMv (s.get (F.GATH_TMONRESr_TMONRES r)) : Int) - s.get (F.PROTr_TSCL_T0 r)) * 1000) (s.get (F.PROTr_TSCL_SLOPE r) : Nat))) (4 * (if s.get (F.MRVr_VSNOW_S r) = 10 * s.get (F.MRVr_VSNOW_T r) then 1 else 0) + 2 * (if s.on (F.AVSn_STAT_ALERT n) = true then 1 else 0) + (if (s.lv (F.MRVr_VSRC_MASK r)).testBit 0 = true then 1 else 0)) t ∧
        NoLog s t ∧ Keeps [] s t) ∧
  (∀ (s : State) (n : Fin 2) (sel : Fin 16) (r : Fin 4), twOn s = true → sel.val = r.val → s.bit (F.AVSn_CTL_RAILEN n) sel.val = true → Does (.avsStatusRead n (⟨avsCrc (avsWord 0x6E sel 0xFFFF), none⟩) sel) s fun t =>
      AvsAnswered n 0 (8192 * (4 * (if s.get (F.MRVr_VSNOW_S r) = 10 * s.get (F.MRVr_VSNOW_T r) then 1 else 0) + 2 * (if s.on (F.AVSn_STAT_ALERT n) = true then 1 else 0) + (if (s.lv (F.MRVr_VSRC_MASK r)).testBit 0 = true then 1 else 0))) (4 * (if s.get (F.MRVr_VSNOW_S r) = 10 * s.get (F.MRVr_VSNOW_T r) then 1 else 0) + 2 * (if s.on (F.AVSn_STAT_ALERT n) = true then 1 else 0) + (if (s.lv (F.MRVr_VSRC_MASK r)).testBit 0 = true then 1 else 0)) t ∧
        NoLog s t ∧ Keeps [] s t) ∧
  (∀ (s : State) (n : Fin 2) (sel : Fin 16) (r : Fin 4) (bits : BitVec 16), twOn s = true → sel.val = r.val →
    s.bit (F.AVSn_CTL_RAILEN n) sel.val = true → bits ≠ 0 → s.avs[n].heldBoot = Vector.replicate 4 none → Does (.avsStatusWrite n (⟨avsCrc (avsWord 0x0E sel bits), none⟩) sel bits) s fun t =>
      t.on (F.AVSn_STAT_ALERT n) = false ∧ t.avs[n].ack = 0 ∧ t.get (F.AVSn_STAT_HELD n) = 0 ∧ t.avs[n].held = Vector.replicate 4 none ∧
        t.avs[n].commit = (if s.avs[n].held.toList.any (·.isSome) then s.avs[n].held else s.avs[n].commit) ∧ NoLog s t ∧ Keeps [Reg.AVSn_STAT n] s t) ∧
  (∀ (s : State) (n : Fin 2) (sel : Fin 16) (r : Fin 4) (mv : BitVec 16), twOn s = true → sel.val = r.val →
    s.bit (F.AVSn_CTL_RAILEN n) sel.val = true → s.on (F.EDGEr_CTL_EN r) = true → (s.lv (F.MRVr_VSRC_MASK r)).testBit 0 = true →
    vsetOk r (2 * mv.toNat) s = true → mv.toNat ≤ 2500 → s.avs[n].held = Vector.replicate 4 none → s.avs[n].heldBoot = Vector.replicate 4 none → Does (.avsResetVoltageWrite n (⟨avsCrc (avsWord 0x04 sel mv), none⟩) sel mv) s fun t =>
      AvsAnswered n 0 0 (4 * (if s.get (F.MRVr_VSNOW_S r) = 10 * s.get (F.MRVr_VSNOW_T r) then 1 else 0) + 2 * (if s.on (F.AVSn_STAT_ALERT n) = true then 1 else 0) + (if (s.lv (F.MRVr_VSRC_MASK r)).testBit 0 = true then 1 else 0)) t ∧
        t.get (F.MRVr_VSNOW_T r) = s.get (F.MRVr_VSNOW_T r) ∧ t.rd (Reg.MRVr_VBOOT r) = BitVec.ofNat 32 (2 * mv.toNat) ∧
        t.on (F.MRVr_UPD_PEND r) = true ∧ NoLog s t ∧ Keeps [Reg.MRVr_VBOOT r, Reg.MRVr_UPD r, Reg.AVSn_STAT n] s t) ∧
  (∀ (s : State) (n : Fin 2) (sel : Fin 16) (commit : Bool) (mv : BitVec 16) (c : Instr), twOn s = true → (sel.val < 4 →
    s.bit (F.AVSn_CTL_RAILEN n) sel.val = false) →
    c ∈ [.avsVoltageWrite n (⟨avsCrc (avsWord (if commit then 0x00 else 0x20) sel mv), none⟩) sel commit mv, .avsVoltageRead n (⟨avsCrc (avsWord 0x60 sel 0xFFFF), none⟩) sel, .avsTransitionRateRead n (⟨avsCrc (avsWord 0x61 sel 0xFFFF), none⟩) sel, .avsCurrentRead n (⟨avsCrc (avsWord 0x62 sel 0xFFFF), none⟩) sel, .avsTemperatureRead n (⟨avsCrc (avsWord 0x63 sel 0xFFFF), none⟩) sel, .avsResetVoltageWrite n (⟨avsCrc (avsWord 0x04 sel mv), none⟩) sel mv, .avsStatusRead n (⟨avsCrc (avsWord 0x6E sel 0xFFFF), none⟩) sel, .avsStatusWrite n (⟨avsCrc (avsWord 0x0E sel mv), none⟩) sel mv] → Does c s fun t =>
      t.avs[n].ack = (if sel.val < 4 then 1 else 3) ∧ t.avs[n].held = s.avs[n].held ∧ NoLog s t ∧ Keeps [] s t) ∧
  (∀ (s : State) (n : Fin 2) (sel : Fin 16) (commit : Bool) (mv : BitVec 16) (e : BitVec 3) (c : Instr), twOn s = true →
    (mapFind s.lim (0x0F0010 + n.val)).getD 0 = 0 → e ≠ 0 →
    c ∈ [.avsVoltageWrite n (⟨avsCrc (avsWord (if commit then 0x00 else 0x20) sel mv) + e, none⟩) sel commit mv, .avsVoltageRead n (⟨avsCrc (avsWord 0x60 sel 0xFFFF) + e, none⟩) sel, .avsTransitionRateRead n (⟨avsCrc (avsWord 0x61 sel 0xFFFF) + e, none⟩) sel, .avsCurrentRead n (⟨avsCrc (avsWord 0x62 sel 0xFFFF) + e, none⟩) sel, .avsTemperatureRead n (⟨avsCrc (avsWord 0x63 sel 0xFFFF) + e, none⟩) sel, .avsResetVoltageWrite n (⟨avsCrc (avsWord 0x04 sel mv) + e, none⟩) sel mv, .avsStatusRead n (⟨avsCrc (avsWord 0x6E sel 0xFFFF) + e, none⟩) sel, .avsStatusWrite n (⟨avsCrc (avsWord 0x0E sel mv) + e, none⟩) sel mv] → Does c s fun t =>
      t.avs[n].ack = 2 ∧ t.avs[n].held = s.avs[n].held ∧
        t.get (F.AVSn_CNT_CRC n) = min (2 ^ (F.AVSn_CNT_CRC n).width - 1) (s.get (F.AVSn_CNT_CRC n) + 1) ∧
        Logged 0x0F 1 ([b8 n.val, 1] ++ bytesOfNat 2 (min (s.avs[n].discards + 1) 65535)) s t ∧ Keeps [Reg.AVSn_CNT n] s t) ∧
  (∀ (s : State) (n : Fin 2) (sel : Fin 16) (mv : BitVec 16) (f : BitVec 7) (d : BitVec 16) (commit : Bool) (c : Instr), twOn s = true →
    avsKnown f = false →
    c ∈ [.avsVoltageWrite n (⟨avsCrc (avsWord f sel d), some (f, d)⟩) sel commit mv, .avsVoltageRead n (⟨avsCrc (avsWord f sel d), some (f, d)⟩) sel, .avsTransitionRateRead n (⟨avsCrc (avsWord f sel d), some (f, d)⟩) sel, .avsCurrentRead n (⟨avsCrc (avsWord f sel d), some (f, d)⟩) sel, .avsTemperatureRead n (⟨avsCrc (avsWord f sel d), some (f, d)⟩) sel, .avsResetVoltageWrite n (⟨avsCrc (avsWord f sel d), some (f, d)⟩) sel mv, .avsStatusRead n (⟨avsCrc (avsWord f sel d), some (f, d)⟩) sel, .avsStatusWrite n (⟨avsCrc (avsWord f sel d), some (f, d)⟩) sel mv] → Does c s fun t =>
      t.avs[n].ack = 3 ∧ t.avs[n].held = s.avs[n].held ∧ t.avs[n].heldBoot = s.avs[n].heldBoot ∧ t.avs[n].resp = avsReply 3 t.avs[n].status 0 ∧
        NoLog s t ∧ Keeps [] s t) ∧
  (∀ (s : State) (n : Fin 2) (sel : Fin 16) (r : Fin 4) (mv : BitVec 16), twOn s = true → sel.val = r.val →
    s.bit (F.AVSn_CTL_RAILEN n) sel.val = true → s.on (F.EDGEr_CTL_EN r) = true → (s.lv (F.MRVr_VSRC_MASK r)).testBit 0 = true →
    vsetOk r (2 * mv.toNat) s = true → Does (.avsResetVoltageWrite n (⟨avsCrc (avsWord 0x24 sel mv), some (0x24, mv)⟩) sel mv) s fun t =>
      t.avs[n].heldBoot = s.avs[n].heldBoot.set r (some mv.toNat) ∧ t.avs[n].held = s.avs[n].held.set r none ∧ t.avs[n].commit = s.avs[n].commit ∧
        t.rd (Reg.MRVr_VBOOT r) = s.rd (Reg.MRVr_VBOOT r) ∧ t.avs[n].ack = 0 ∧ NoLog s t ∧ Keeps [Reg.AVSn_STAT n] s t) ∧
  (∀ (s : State) (n : Fin 2), twOn s = true → s.avs[n].frameAt + avstoNs n s ≤ s.clk.ns → (mapFind s.lim (0x0F0010 + n.val)).getD 0 = 0 → Does (.avsFrameTimeout n) s fun t =>
      t.avs[n].ack = s.avs[n].ack ∧ t.avs[n].held = s.avs[n].held ∧
        t.get (F.AVSn_CNT_TMO n) = min (2 ^ (F.AVSn_CNT_TMO n).width - 1) (s.get (F.AVSn_CNT_TMO n) + 1) ∧
        Logged 0x0F 1 ([b8 n.val, 2] ++ bytesOfNat 2 (min (s.avs[n].discards + 1) 65535)) s t ∧ Keeps [Reg.AVSn_CNT n] s t) ∧
  (∀ (s : State) (n : Fin 2) (r : Fin 4) (mv : Nat), s.avs[n].commit = (Vector.replicate 4 none).set r (some mv) →
    (s.lv (F.MRVr_VSRC_MASK r)).testBit 0 = true → vsetOk r (2 * mv) s = true → s.mrv[r].arrAt < s.clk.ns → NotFired (182 + n.val) s → Does (.avsCommitArrival n) s fun t =>
      t.get (F.MRVr_VSNOW_T r) = 2 * mv ∧ t.get (F.MRVr_VSNOW_SRC r) = 0 ∧ t.avs[n].commit = Vector.replicate 4 none ∧ Fires (182 + n.val) s t ∧
        NoLog s t ∧ Keeps [Reg.MRVr_VSNOW r] s t) ∧
  (∀ (s : State) (n : Fin 2), s.avs[n].commit = Vector.replicate 4 none → Does (.avsCommitArrival n) s fun t =>
      t.avs = s.avs ∧ t.evm = s.evm ∧ NoLog s t ∧ Keeps [] s t)

/-- Motors: enable and its refusals, disable, inert, release, clear, alignment, driver fault and stall (R464, R465, R475, R476, R477, R478, R479, R480;
tier 2, derived). An accepted enable enters ALIGN or RUN and the first period starts in the next cycle; a refused one is flagged and logged and leaves
EN at 0; disable and inert put every output low; release waits for a period start; CLEAR leaves FAULT unless a latching condition is present; the end
of an alignment sets THOFS and THV; a driver fault and a stall latch the motor. -/
def Obligations.MotorStates : Prop :=
  (∀ (s : State) (m : Fin 4) (d : Fin 8) (f : Fin 4) (value : Word), slotOn (Reg.MOTm_CTL m) s = true → s.on (F.MOTm_CTL_EN m) = false →
    pdOn (26 + m.val) s = true → pdOn 48 s = true → s.get (gLaneFld 2 (m.val / 2)) ≠ 15 → fldOf (F.MOTm_CTL_DOM m) value = d.val →
    s.dom[d].src = 4 + f.val → s.on (F.ANGn_CTL_EN d) = true → pdOn (50 + f.val) s = true → s.on (F.FBf_CTL_EN f) = true → s.mot[m].fltLow = false →
    s.bit F.GATH_MFLT_MFLT (2 * m.val) = false → s.bit F.GATH_MFLT_MFLT (2 * m.val + 1) = false → s.get (F.ANGn_STAT_STATE d) ∈ [1, 2, 3] →
    (s.getI (F.MOTm_SPEED_SPEED m)).natAbs < s.get (F.MOTm_LIM_OVSPD m) * 16 → s.get (F.MOTm_STAT_COND m) = 0 → Does (.motorEnable m value) s fun t =>
      motorEn m t = true ∧ motSt m t = (if fldOf (F.MOTm_CTL_ALIGN m) value = 1 ∧ s.on (F.MOTm_STAT_THV m) = false then moALIGN else moRUN) ∧
      (s.clk.ns + (4 - s.clk.ns % 4), .pwmPeriodStart m) ∈ t.timers ∧ t.mot[m].first = true ∧ (∀ x : Fin 3, t.mot[m].phase[x].carry = 0) ∧
        NoLog s t ∧ SameMem s t) ∧
  (∀ (s : State) (m : Fin 4) (value : Word), slotOn (Reg.MOTm_CTL m) s = true → s.on (F.MOTm_CTL_EN m) = false → (pdOn (26 + m.val) s = true ∧
    pdOn 48 s = true ∧ s.get (gLaneFld 2 (m.val / 2)) ≠ 15) →
    (s.dom[Fin.ofNat 8 (fldOf (F.MOTm_CTL_DOM m) value)].src < 4 ∨ 7 < s.dom[Fin.ofNat 8 (fldOf (F.MOTm_CTL_DOM m) value)].src ∨ (s.on (F.ANGn_CTL_EN (fldOf (F.MOTm_CTL_DOM m) value)) = false ∧
    pdOn (46 + s.dom[Fin.ofNat 8 (fldOf (F.MOTm_CTL_DOM m) value)].src) s = true)) → Does (.motorEnable m value) s fun t =>
      motorEn m t = false ∧ t.mot = s.mot ∧ motSt m t = motSt m s ∧ t.bit F.MOT_FLT_ENREF m = true ∧ LastLog 0x11 2 [b8 m.val, 2] s t ∧ SameMem s t) ∧
  (∀ (s : State) (m : Fin 4) (d : Fin 8) (f : Fin 4) (value : Word), slotOn (Reg.MOTm_CTL m) s = true → s.on (F.MOTm_CTL_EN m) = false →
    fldOf (F.MOTm_CTL_DOM m) value = d.val → s.dom[d].src = 4 + f.val →
    (pdOn (26 + m.val) s = false ∨ pdOn 48 s = false ∨ s.get (gLaneFld 2 (m.val / 2)) = 15 ∨ pdOn (50 + f.val) s = false) → Does (.motorEnable m value) s fun t =>
      motorEn m t = false ∧ t.mot = s.mot ∧ t.bit F.MOT_FLT_ENREF m = true ∧ LastLog 0x11 2 [b8 m.val, 1] s t ∧ SameMem s t) ∧
  (∀ (s : State) (m : Fin 4) (d : Fin 8) (f : Fin 4) (value : Word), slotOn (Reg.MOTm_CTL m) s = true → s.on (F.MOTm_CTL_EN m) = false →
    pdOn (26 + m.val) s = true → pdOn 48 s = true → s.get (gLaneFld 2 (m.val / 2)) ≠ 15 → fldOf (F.MOTm_CTL_DOM m) value = d.val →
    s.dom[d].src = 4 + f.val → s.on (F.ANGn_CTL_EN d) = true → pdOn (50 + f.val) s = true →
    (s.on (F.FBf_CTL_EN f) = false ∨ s.mot[m].fltLow = true ∨ s.bit F.GATH_MFLT_MFLT (2 * m.val) = true ∨ s.bit F.GATH_MFLT_MFLT (2 * m.val + 1) = true) → Does (.motorEnable m value) s fun t =>
      motorEn m t = false ∧ t.mot = s.mot ∧ t.bit F.MOT_FLT_ENREF m = true ∧
        LastLog 0x11 2 [b8 m.val, if s.on (F.FBf_CTL_EN f) = false then 3 else 4] s t ∧ SameMem s t) ∧
  (∀ (s : State) (m : Fin 4) (value : Word), slotOn (Reg.MOTm_CTL m) s = true → Does (.motorDisable m value) s fun t =>
      motorEn m t = false ∧ motSt m t = moOFF ∧ t.get (F.MOTm_STAT_COND m) = 0 ∧ t.on (F.MOTm_STAT_THV m) = s.on (F.MOTm_STAT_THV m) ∧
        (∀ (x : Fin 3) (high : Bool), motPin m x high t = false) ∧ t.armed (.pwmPeriodStart m) = false ∧ NoLog s t ∧
      (∀ a, a ∉ Reg.MOTm_CTL m :: Reg.MOTm_STAT m :: Reg.SYS_IGNWR :: (List.range 4).flatMap (fun k => [Reg.MOTm_PWM k, Reg.MOTm_DT k]) →
        t.rd a = s.rd a) ∧ SameMem s t) ∧
  (∀ (s : State) (m : Fin 4), (motSt m s = moALIGN ∨ motSt m s = moRUN) → s.mot[m].fltLow = false → s.bit F.GATH_MFLT_MFLT (2 * m.val) = false →
    s.bit F.GATH_MFLT_MFLT (2 * m.val + 1) = false → s.get (F.ANGn_STAT_STATE (motorDom m s)) ∈ [1, 2, 3] → Does (.motorInert m none) s fun t =>
      motSt m t = moINERT ∧ motorEn m t = motorEn m s ∧ (∀ (x : Fin 3) (high : Bool), motPin m x high t = false) ∧
        (∀ x : Fin 3, t.mot[m].phase[x].carry = 0) ∧ NoLog s t ∧ Keeps [Reg.MOTm_STAT m] s t) ∧
  (∀ (s : State) (m : Fin 4) (ticket : Byte), Fresh Reg.MOT_ACT ticket s → (motSt m s = moALIGN ∨ motSt m s = moRUN) → s.mot[m].fltLow = false →
    s.bit F.GATH_MFLT_MFLT (2 * m.val) = false → s.bit F.GATH_MFLT_MFLT (2 * m.val + 1) = false →
    s.get (F.ANGn_STAT_STATE (motorDom m s)) ∈ [1, 2, 3] → Does (.motorInert m (some ticket)) s fun t =>
      motSt m t = moINERT ∧ motorEn m t = motorEn m s ∧ (∀ (x : Fin 3) (high : Bool), motPin m x high t = false) ∧
        (∀ x : Fin 3, t.mot[m].phase[x].carry = 0) ∧ t.rd Reg.MOT_ACT = actWord ticket (BitVec.ofNat 16 m.val) 2 ∧ NoLog s t ∧
        Keeps [Reg.MOTm_STAT m, Reg.MOT_ACT] s t) ∧
  (∀ (s : State) (m : Fin 4), motSt m s ≠ moALIGN → motSt m s ≠ moRUN → Does (.motorInert m none) s fun t =>
      t = s) ∧
  (∀ (s : State) (m : Fin 4) (ticket : Byte) (arg : BitVec 16), Fresh Reg.MOT_ACT ticket s → arg.toNat % 4 = m.val → Does (.motorRelease ticket arg) s fun t =>
      t.mot[m].release = (s.mot[m].release || decide (motSt m s = moINERT)) ∧ motSt m t = motSt m s ∧
        t.rd Reg.MOT_ACT = actWord ticket (arg &&& 0x3) 3 ∧ NoLog s t ∧ Keeps [Reg.MOT_ACT] s t) ∧
  (∀ (s : State) (m : Fin 4) (ticket : Byte) (arg : BitVec 16), Fresh Reg.MOT_ACT ticket s → arg.toNat % 4 = m.val → motSt m s = moFAULT →
    motConds m s = 0 → Does (.motorClear ticket arg) s fun t =>
      motSt m t = moOFF ∧ motorEn m t = false ∧ t.rd Reg.MOT_ACT = actWord ticket (arg &&& 0x3) 1 ∧ NoLog s t ∧
        Keeps [Reg.MOTm_STAT m, Reg.MOTm_CTL m, Reg.MOT_ACT] s t) ∧
  (∀ (s : State) (m : Fin 4) (ticket : Byte) (arg : BitVec 16), Fresh Reg.MOT_ACT ticket s → arg.toNat % 4 = m.val → motSt m s = moFAULT →
    motorEn m s = true → s.mot[m].fltLow = true → motResp m 1 s = 4 → Does (.motorClear ticket arg) s fun t =>
      motSt m t = moFAULT ∧ motorEn m t = true ∧ t.bit F.MOT_FLT_CLRREF m = true ∧ t.rd Reg.MOT_ACT = actWord ticket (arg &&& 0x3) 1 ∧
        t.mot = s.mot ∧ SameMem s t) ∧
  (∀ (s : State) (m : Fin 4), motSt m s = moALIGN → s.mot[m].alignAt + max 1 (s.get (F.MOTm_ALGN_ALIGNT m)) * 10000000 ≤ s.clk.ns → Does (.alignmentDone m) s fun t =>
      let th := (65536 - motAngle m 0 s) % 65536;
      t.get (F.MOTm_THOFS_THOFS m) = th ∧ t.on (F.MOTm_STAT_THV m) = true ∧ motSt m t = moRUN ∧ t.mot[m].accD = 0 ∧ t.mot[m].accQ = 0 ∧
        Logged 0x11 3 (b8 m.val :: bytesOfNat 2 th) s t ∧ Keeps [Reg.MOTm_THOFS m, Reg.MOTm_STAT m] s t) ∧
  (∀ (s : State) (m : Fin 4), motorEn m s = true → s.bit (F.MOTm_STAT_COND m) 1 = false → motResp m 1 s = 4 → motSt m s ≠ moFAULT →
    NotFired (137 + 2 * m.val) s → motConds m s &&& (0x7F ^^^ s.get (F.MOTm_STAT_COND m)) &&& 0x7D = 0 → motCleared m s = none → Does (.driverFault m true) s fun t =>
      t.mot[m].fltLow = true ∧ motSt m t = moFAULT ∧ motorEn m t = true ∧ (∀ (x : Fin 3) (high : Bool), motPin m x high t = false) ∧
        t.bit (F.MOTm_FLAG_DECL m) 1 = true ∧ Logged 0x11 1 [b8 m.val, 1, 4, 0, 0] s t ∧ Fires (137 + 2 * m.val) s t ∧
        Keeps [Reg.MOTm_STAT m, Reg.MOTm_FLAG m] s t) ∧
  (∀ (s : State) (m : Fin 4), motorEn m s = true → (motSt m s = moALIGN ∨ motSt m s = moRUN) →
    (s.mot[m].stallFrom.any (fun t => t + stallNs m s ≤ s.clk.ns) = true) → (motIqRef m s).natAbs = s.get (F.MOTm_IQMAX_IQMAX m) →
    (s.getI (F.MOTm_SPEED_SPEED m)).natAbs < s.get (F.MOTm_STALL_STALLSPD m) * 16 → s.bit (F.MOTm_STAT_COND m) 5 = false → motResp m 5 s = 4 →
    NotFired (137 + 2 * m.val) s → motConds m s &&& (0x7F ^^^ s.get (F.MOTm_STAT_COND m)) &&& 0x5F = 0 → motCleared m s = none → Does (.stall m) s fun t =>
      motSt m t = moFAULT ∧ motorEn m t = true ∧ (∀ (x : Fin 3) (high : Bool), motPin m x high t = false) ∧ t.bit (F.MOTm_FLAG_DECL m) 5 = true ∧
        Logged 0x11 1 ([b8 m.val, 5, 4] ++ bytesOfNat 2 (ofSigned 16 (Int.tdiv (s.getI (F.MOTm_SPEED_SPEED m)) 16))) s t ∧
        Fires (137 + 2 * m.val) s t ∧ Keeps [Reg.MOTm_STAT m, Reg.MOTm_FLAG m] s t) ∧
  (∀ (s : State) (m : Fin 4), ((motIqRef m s).natAbs ≠ s.get (F.MOTm_IQMAX_IQMAX m) ∨ s.get (F.MOTm_STALL_STALLSPD m) * 16 ≤ (s.getI (F.MOTm_SPEED_SPEED m)).natAbs ∨ s.mot[m].stallFrom.all (fun t => s.clk.ns < t + stallNs m s) = true) → Does (.stall m) s fun t =>
      t = s)

/-- The motor period: pulses from on-times, the carry, LATE, the sample request and the current loop (R465, R466, R467, R468, R469, R470, R471, R472,
R476, R477; tier 2, derived). A period start fires its source, loads PER and turns each waiting on-time plus carry into a pulse, a carry or a count;
without new on-times the period repeats and LATE is declared; a sample request latches the rotor angle in lane order; a completed pair yields both
currents, both voltages and the next on-times. In which states the carrier runs, and that a conversion is an operand, are the model's choice (log
entries 44 and 60). -/
def Obligations.MotorPeriod : Prop :=
  (∀ (s : State) (m : Fin 4) (x : Fin 3) (ons : Vector Nat 3), motorEn m s = true → motSt m s = moRUN → s.bit (F.MOTm_STAT_COND m) 6 = false →
    motConds m s &&& (0x7F ^^^ s.get (F.MOTm_STAT_COND m)) = 0 →
    (s.get (F.MOTm_CTL_SPM m) = 0 ∨ s.get (F.MOTm_CTL_SPM m) = 1 ∨ s.get (F.MOTm_CTL_SPM m) = 2) →
    s.mot[m].next = some (ons[(0 : Fin 3)], ons[(1 : Fin 3)], ons[(2 : Fin 3)]) → NotFired (136 + 2 * m.val) s → motCleared m s = none → Does (.pwmPeriodStart m) s fun t =>
      let per := motPer m s;
      let dt := min 500 (max 5 (s.get (F.MOTm_DT_DT m)));
      let minP := motMin m s;
      let spm := s.get (F.MOTm_CTL_SPM m);
      let w := ons[x] + s.mot[m].phase[x].carry;
      let p := t.mot[m].phase[x];
      t.mot[m].per = per ∧ t.mot[m].perAt = s.clk.ns ∧ t.mot[m].next = none ∧ p.on = ons[x] ∧
      (p.stop - p.start, p.carry) = (if ons[x] = 0 then (0, s.mot[m].phase[x].carry) else if w ≤ dt then (0, if spm = 0 then w else 0)
      else if w < minP then (if spm = 2 then minP else 0, if spm = 0 then w else 0) else (min w (motTonMax m per s), 0)) ∧
      (p.start ≠ p.stop → p.start = per / 2 - (p.stop - p.start) / 2) ∧
      Fires (136 + 2 * m.val) s t ∧ (s.clk.ns + 4 * per, .pwmPeriodStart m) ∈ t.timers ∧
        (s.clk.ns + 100 * s.get (F.MOTm_DT_SDLY m), .currentSampleRequest m) ∈ t.timers ∧ NoLog s t ∧
      Keeps [Reg.MOTm_CNT m, Reg.MOTm_STAT m] s t) ∧
  (∀ (s : State) (m : Fin 4), motorEn m s = true → motSt m s = moRUN → s.mot[m].first = false → s.mot[m].next = none →
    s.bit (F.MOTm_STAT_COND m) 6 = false → motResp m 6 s = 0 → NotFired (136 + 2 * m.val) s →
    motConds m s &&& (0x7F ^^^ s.get (F.MOTm_STAT_COND m)) = 0 → motCleared m s = none → Does (.pwmPeriodStart m) s fun t =>
      t.bit (F.MOTm_STAT_COND m) 6 = true ∧ t.bit (F.MOTm_FLAG_DECL m) 6 = true ∧ motSt m t = moRUN ∧
        (∀ x : Fin 3, t.mot[m].phase[x].on = s.mot[m].phase[x].on) ∧ t.get (F.MOTm_CNT_LATE m) = min 255 (s.get (F.MOTm_CNT_LATE m) + 1) ∧
      Logged 0x11 1 [b8 m.val, 6, 0, 0, 0] s t ∧ Fires (136 + 2 * m.val) s t ∧ Keeps [Reg.MOTm_CNT m, Reg.MOTm_STAT m, Reg.MOTm_FLAG m] s t) ∧
  (∀ (s : State) (m : Fin 4), motorEn m s = true → motSt m s = moINERT → s.mot[m].release = true → s.mot[m].first = true → s.mot[m].next = none →
    (s.on (F.MOTm_CTL_ALIGN m) = false ∨ s.on (F.MOTm_STAT_THV m) = true) → motConds m (s.put (F.MOTm_STAT_ST m) 2) = 0 →
    NotFired (136 + 2 * m.val) s → Does (.pwmPeriodStart m) s fun t =>
      t.mot[m].accD = 0 ∧ t.mot[m].accQ = 0 ∧ t.mot[m].release = false ∧ motSt m t = moRUN ∧ Fires (136 + 2 * m.val) s t ∧ NoLog s t ∧
        Keeps [Reg.MOTm_STAT m] s t) ∧
  (∀ (s : State) (m : Fin 4), motorEn m s = true → motSt m s = moALIGN → s.mot[m].next.isSome = true →
    s.mot[m].alignAt + max 1 (s.get (F.MOTm_ALGN_ALIGNT m)) * 10000000 ≤ s.clk.ns → motConds m s = 0 → s.get (F.MOTm_STAT_COND m) = 0 →
    NotFired (136 + 2 * m.val) s → motCleared m s = none → Does (.pwmPeriodStart m) s fun t =>
      t.get (F.MOTm_THOFS_THOFS m) = (65536 - motAngle m 0 s) % 65536 ∧ t.on (F.MOTm_STAT_THV m) = true ∧ motSt m t = moRUN ∧
        Logged 0x11 3 (b8 m.val :: bytesOfNat 2 ((65536 - motAngle m 0 s) % 65536)) s t ∧ Fires (136 + 2 * m.val) s t ∧
        Keeps [Reg.MOTm_STAT m, Reg.MOTm_THOFS m, Reg.MOTm_CNT m] s t) ∧
  (∀ (s : State) (m : Fin 4), motorEn m s = false → Does (.pwmPeriodStart m) s fun t =>
      t = s) ∧
  (∀ (s : State) (m : Fin 4), motSt m s = moRUN → Does (.currentSampleRequest m) s fun t =>
      let ln : Fin 2 := Fin.ofNat 2 (m.val / 2);
      let at_ := max s.clk.ns s.mlane[ln];
      t.mlane[ln] = at_ + 200 ∧ t.mot[m].pairAt = at_ + 200 ∧ t.mot[m].asked = true ∧ (s.mlane[ln] ≤ s.clk.ns →
        t.mot[m].theta = (motAngle m 0 s + s.get (F.MOTm_THOFS_THOFS m)) % 65536 ∧ t.mot[m].apAt = none) ∧
      (s.clk.ns < s.mlane[ln] → t.mot[m].apAt = some at_ ∧ t.mot[m].theta = s.mot[m].theta) ∧ NoLog s t ∧ Keeps [] s t) ∧
  (∀ (s : State) (m : Fin 4), motSt m s = moALIGN → Does (.currentSampleRequest m) s fun t =>
      (s.mlane[(Fin.ofNat 2 (m.val / 2) : Fin 2)] ≤ s.clk.ns → t.mot[m].theta = 0) ∧ t.mot[m].asked = true ∧ NoLog s t ∧ Keeps [] s t) ∧
  (∀ (s : State) (m : Fin 4) (rawA rawB : BitVec 12) (a b : Nat), motSt m s = moRUN → s.mot[m].asked = true → s.mot[m].pairAt ≤ s.clk.ns →
    gServed 2 (m.val / 2) (s.mot[m].pairAt - 100) s = true → (gBank 2 s).stage = .idle →
    sarCode 2 (gSliceAt 2 (m.val / 2) (s.mot[m].pairAt - 200) s) rawA s = a →
    sarCode 2 (gSliceAt 2 (m.val / 2) (s.mot[m].pairAt - 100) s) rawB s = b → 4096 ≤ a * 18 → 4096 ≤ b * 18 →
    motConds m s &&& (0x7E ^^^ s.get (F.MOTm_STAT_COND m) &&& 0x7E) = 0 →
    (let scale := fun (c : Nat) => clampInt (asr (((c : Int) - s.get (F.MOTm_ISCL_IZERO m)) * s.get (F.MOTm_ISCL_IGAIN m) + 128) 8) (-32768) 32767;
    (scale a).natAbs < s.get (F.MOTm_LIM_IOC m) ∧ (scale b).natAbs < s.get (F.MOTm_LIM_IOC m) ∧
    (scale a + scale b).natAbs < s.get (F.MOTm_LIM_IOC m)) → motCleared m s = none → Does (.currentPairComplete m ⟨rawA, none⟩ ⟨rawB, none⟩) s fun t =>
      let ia := clampInt (asr (((a : Int) - s.get (F.MOTm_ISCL_IZERO m)) * s.get (F.MOTm_ISCL_IGAIN m) + 128) 8) (-32768) 32767;
      let ib := clampInt (asr (((b : Int) - s.get (F.MOTm_ISCL_IZERO m)) * s.get (F.MOTm_ISCL_IGAIN m) + 128) 8) (-32768) 32767;
      let th := s.mot[m].theta;
      let ibeta := asr ((ia + 2 * ib) * 37837 + 32768) 16;
      let id := asr (ia * cos16 th + ibeta * sin16 th) 15;
      let iq := asr (-ia * sin16 th + ibeta * cos16 th) 15;
      let q : Int := s.get (F.MOTm_IQMAX_IQMAX m);
      let vlim : Nat := min (s.get (F.MOTm_VLIM_VLIM m)) 37837;
      let ed := clampInt (s.getI (F.MOTm_REF_IDREF m)) (-q) q - id;
      let kp : Int := s.get (F.MOTm_CUR_KP m);
      let acc := s.mot[m].accD + s.get (F.MOTm_CUR_KI m) * ed;
      let v := asr (kp * ed + acc) 12;
      let vd := clampInt v (-vlim) vlim;
      t.get (F.MOTm_IDQ_D m) = ofSigned 16 id ∧ t.get (F.MOTm_IDQ_Q m) = ofSigned 16 iq ∧ t.get (F.MOTm_VDQ_D m) = ofSigned 16 vd ∧
      t.mot[m].accD = clampInt (if (vlim < v ∧ 0 < ed) ∨ (v < -(vlim : Int) ∧ ed < 0) then s.mot[m].accD else acc) (-(vlim * 4096)) (vlim * 4096) ∧
      t.mot[m].next.isSome = true ∧ t.mot[m].asked = false ∧ t.mot[m].phase = s.mot[m].phase ∧ NoLog s t ∧ SameMem s t) ∧
  (∀ (s : State) (m : Fin 4) (a b : Conversion), (s.clk.ns < s.mot[m].pairAt ∨ gServed 2 (m.val / 2) (s.mot[m].pairAt - 100) s = false) → Does (.currentPairComplete m a b) s fun t =>
      t = s) ∧
  (∀ (s : State) (m : Fin 4) (rawA rawB : BitVec 12), s.mot[m].asked = false → (gBank 2 s).stage = .idle → Does (.currentPairComplete m ⟨rawA, none⟩ ⟨rawB, none⟩) s fun t =>
      t = s)

/-- Feedback channels: quadrature and sine/cosine samples, the index, wire faults, updates and SETPOS (R473, R476, R481, R482, R483, R484, R485, R486,
R487; tier 2, derived). A one-state Gray step moves both counts by one with DIR, a double step makes PHASE present, a close step RATE; a SINCOS sample
inside its window steps the counts by the change of the interpolated count; an accepted index latches POS and fires; a disagreeing pair, and every
feedback fault, is flagged, logged and fired once; an update is delivered every microsecond. The sense of the Gray sequence is PRESUMED (log entry
28), the grid of updates the model's choice (log entry 59). -/
def Obligations.FeedbackChannels : Prop :=
  (∀ (s : State) (f : Fin 4) (a b : Bool) (na nb : Nat), s.on (F.FBf_CTL_EN f) = true → pdOn (50 + f.val) s = true →
    s.on (F.FBf_CTL_TYPE f) = false → s.fb[f].seen = false → Does (.quadSample f ⟨a, na⟩ ⟨b, nb⟩) s fun t =>
      t.fb[f].a = a ∧ t.fb[f].b = b ∧ t.fb[f].seen = true ∧ NoLog s t ∧ Keeps [] s t) ∧
  (∀ (s : State) (f : Fin 4) (na nb : Nat), s.on (F.FBf_CTL_EN f) = true → pdOn (50 + f.val) s = true → s.on (F.FBf_CTL_TYPE f) = false →
    s.fb[f].seen = true → Does (.quadSample f ⟨s.fb[f].a, na⟩ ⟨s.fb[f].b, nb⟩) s fun t =>
      t.fb = s.fb ∧ NoLog s t ∧ Keeps [] s t) ∧
  (∀ (s : State) (f : Fin 4) (a b : Bool) (na nb : Nat), s.on (F.FBf_CTL_TYPE f) = false → s.fb[f].seen = true → na < s.get (F.FBf_CTL_FILT f) →
    nb < s.get (F.FBf_CTL_FILT f) → Does (.quadSample f ⟨a, na⟩ ⟨b, nb⟩) s fun t =>
      t.fb = s.fb ∧ NoLog s t ∧ Keeps [] s t) ∧
  (∀ (s : State) (f : Fin 4) (a b : Bool) (na nb : Nat), s.on (F.FBf_CTL_EN f) = true → pdOn (50 + f.val) s = true →
    s.on (F.FBf_CTL_TYPE f) = false → s.fb[f].seen = true → s.get (F.FBf_CTL_FILT f) ≤ na → s.get (F.FBf_CTL_FILT f) ≤ nb → (a = !s.fb[f].b ∧
    b = s.fb[f].a) → ((s.fb[f].stepAt.all (fun u => decide (u + 40 ≤ s.clk.ns))) = true) → Does (.quadSample f ⟨a, na⟩ ⟨b, nb⟩) s fun t =>
      t.rd (Reg.FBf_POS f) = s.rd (Reg.FBf_POS f) + (if s.on (F.FBf_CTL_DIR f) = true then -1 else 1) ∧
        t.rd (Reg.FBf_ACNT f) = s.rd (Reg.FBf_ACNT f) + (if s.on (F.FBf_CTL_DIR f) = true then -1 else 1) ∧ t.fb[f].a = a ∧ t.fb[f].b = b ∧
        t.fb[f].stepAt = some s.clk.ns ∧ NoLog s t ∧ Keeps [Reg.FBf_POS f, Reg.FBf_ACNT f] s t) ∧
  (∀ (s : State) (f : Fin 4) (a b : Bool) (na nb : Nat), s.on (F.FBf_CTL_EN f) = true → pdOn (50 + f.val) s = true →
    s.on (F.FBf_CTL_TYPE f) = false → s.fb[f].seen = true → s.get (F.FBf_CTL_FILT f) ≤ na → s.get (F.FBf_CTL_FILT f) ≤ nb → (a = s.fb[f].b ∧
    b = !s.fb[f].a) → ((s.fb[f].stepAt.all (fun u => decide (u + 40 ≤ s.clk.ns))) = true) → Does (.quadSample f ⟨a, na⟩ ⟨b, nb⟩) s fun t =>
      t.rd (Reg.FBf_POS f) = s.rd (Reg.FBf_POS f) + (if s.on (F.FBf_CTL_DIR f) = true then 1 else -1) ∧
        t.rd (Reg.FBf_ACNT f) = s.rd (Reg.FBf_ACNT f) + (if s.on (F.FBf_CTL_DIR f) = true then 1 else -1) ∧ t.fb[f].a = a ∧ t.fb[f].b = b ∧
        t.fb[f].stepAt = some s.clk.ns ∧ NoLog s t ∧ Keeps [Reg.FBf_POS f, Reg.FBf_ACNT f] s t) ∧
  (∀ (s : State) (f : Fin 4) (na nb : Nat), s.on (F.FBf_CTL_EN f) = true → pdOn (50 + f.val) s = true → s.on (F.FBf_CTL_TYPE f) = false →
    s.fb[f].seen = true → s.get (F.FBf_CTL_FILT f) ≤ na → s.get (F.FBf_CTL_FILT f) ≤ nb → s.fb[f].phase = false → NotFired (145 + 2 * f.val) s → Does (.quadSample f ⟨!s.fb[f].a, na⟩ ⟨!s.fb[f].b, nb⟩) s fun t =>
      t.rd (Reg.FBf_FLT f) = s.rd (Reg.FBf_FLT f) ||| BitVec.ofNat 32 (2 ^ 3) ∧ Fires (145 + 2 * f.val) s t ∧
        Logged 0x12 1 ([b8 f.val, 2, 0] ++ bytesOfWord (s.rd (Reg.FBf_ACNT f))) s t ∧ t.fb[f].phase = true ∧ (∀ m : Fin 4, motorFb m s = f.val →
        t.on (F.MOTm_STAT_THV m) = false) ∧ Keeps (Reg.FBf_FLT f :: (List.range 4).map Reg.MOTm_STAT) s t) ∧
  (∀ (s : State) (f : Fin 4) (u : Nat) (na nb : Nat), s.on (F.FBf_CTL_EN f) = true → pdOn (50 + f.val) s = true → s.on (F.FBf_CTL_TYPE f) = false →
    s.fb[f].seen = true → s.get (F.FBf_CTL_FILT f) ≤ na → s.get (F.FBf_CTL_FILT f) ≤ nb → s.fb[f].stepAt = some u → s.clk.ns < u + 40 →
    u ≤ s.clk.ns → s.fb[f].rate = false → NotFired (145 + 2 * f.val) s → Does (.quadSample f ⟨!s.fb[f].b, na⟩ ⟨s.fb[f].a, nb⟩) s fun t =>
      t.rd (Reg.FBf_POS f) = s.rd (Reg.FBf_POS f) + (if s.on (F.FBf_CTL_DIR f) = true then -1 else 1) ∧
        t.rd (Reg.FBf_ACNT f) = s.rd (Reg.FBf_ACNT f) + (if s.on (F.FBf_CTL_DIR f) = true then -1 else 1) ∧
        t.rd (Reg.FBf_FLT f) = s.rd (Reg.FBf_FLT f) ||| BitVec.ofNat 32 (2 ^ 4) ∧ Fires (145 + 2 * f.val) s t ∧
        Logged 0x12 1 ([b8 f.val, 3, 0] ++ bytesOfWord (t.rd (Reg.FBf_ACNT f))) s t ∧ t.fb[f].rate = true ∧
        Keeps ([Reg.FBf_POS f, Reg.FBf_ACNT f, Reg.FBf_FLT f] ++ (List.range 4).map Reg.MOTm_STAT) s t) ∧
  (∀ (s : State) (f : Fin 4) (rs rc : BitVec 14), s.on (F.FBf_CTL_EN f) = true → pdOn (50 + f.val) s = true → s.on (F.FBf_CTL_TYPE f) = true →
    s.fb[f].seen = true → s.fb[f].amp = false → s.fb[f].phi < 4096 →
    (let sn := asr ((rs.toInt - s.getI (F.FBf_SCOR_SOFS f)) * s.get (F.FBf_SGAIN_SGAIN f)) 15;
    let cs := asr ((rc.toInt - s.getI (F.FBf_SCOR_COFS f)) * s.get (F.FBf_SGAIN_CGAIN f)) 15;
    let sq := sn.natAbs * sn.natAbs + cs.natAbs * cs.natAbs; s.get (F.FBf_AWIN_AMIN f) * s.get (F.FBf_AWIN_AMIN f) ≤ sq ∧
    sq ≤ s.get (F.FBf_AWIN_AMAX f) * s.get (F.FBf_AWIN_AMAX f) ∧ 0 < sq) →
    (let p := phaseOf (asr ((rs.toInt - s.getI (F.FBf_SCOR_SOFS f)) * s.get (F.FBf_SGAIN_SGAIN f)) 15) (asr ((rc.toInt - s.getI (F.FBf_SCOR_COFS f)) * s.get (F.FBf_SGAIN_CGAIN f)) 15) 0;
    (max p s.fb[f].phi - min p s.fb[f].phi < 1024)) → Does (.sincosSample f rs rc) s fun t =>
      let sn := asr ((rs.toInt - s.getI (F.FBf_SCOR_SOFS f)) * s.get (F.FBf_SGAIN_SGAIN f)) 15;
      let cs := asr ((rc.toInt - s.getI (F.FBf_SCOR_COFS f)) * s.get (F.FBf_SGAIN_CGAIN f)) 15;
      let sq := sn.natAbs * sn.natAbs + cs.natAbs * cs.natAbs;
      let phi := phaseOf sn cs 0;
      let n := min 12 (max 2 (s.get (F.FBf_CTL_INTERP f)));
      let count : Int := s.fb[f].line * 2 ^ n + (phi / 2 ^ (12 - n) : Nat);
      t.get (F.FBf_AMP_AMP f) = isqrt sq ∧ t.fb[f].phi = phi ∧ t.fb[f].line = s.fb[f].line ∧ t.fb[f].count = count ∧ t.fb[f].amp = false ∧
      t.rd (Reg.FBf_POS f) = s.rd (Reg.FBf_POS f) + BitVec.ofInt 32 (if s.on (F.FBf_CTL_DIR f) = true then s.fb[f].count - count else count - s.fb[f].count) ∧
      t.rd (Reg.FBf_ACNT f) = s.rd (Reg.FBf_ACNT f) + BitVec.ofInt 32 (if s.on (F.FBf_CTL_DIR f) = true then s.fb[f].count - count else count - s.fb[f].count) ∧
        NoLog s t ∧ Keeps [Reg.FBf_POS f, Reg.FBf_ACNT f, Reg.FBf_AMP f] s t) ∧
  (∀ (s : State) (f : Fin 4) (rs rc : BitVec 14), s.on (F.FBf_CTL_EN f) = true → pdOn (50 + f.val) s = true → s.on (F.FBf_CTL_TYPE f) = true →
    s.fb[f].amp = false → s.fb[f].out = 3 → (let sn := asr ((rs.toInt - s.getI (F.FBf_SCOR_SOFS f)) * s.get (F.FBf_SGAIN_SGAIN f)) 15;
    let cs := asr ((rc.toInt - s.getI (F.FBf_SCOR_COFS f)) * s.get (F.FBf_SGAIN_CGAIN f)) 15;
    let sq := sn.natAbs * sn.natAbs + cs.natAbs * cs.natAbs; sq < s.get (F.FBf_AWIN_AMIN f) * s.get (F.FBf_AWIN_AMIN f)) →
    NotFired (145 + 2 * f.val) s → Does (.sincosSample f rs rc) s fun t =>
      let sn := asr ((rs.toInt - s.getI (F.FBf_SCOR_SOFS f)) * s.get (F.FBf_SGAIN_SGAIN f)) 15;
      let cs := asr ((rc.toInt - s.getI (F.FBf_SCOR_COFS f)) * s.get (F.FBf_SGAIN_CGAIN f)) 15;
      let sq := sn.natAbs * sn.natAbs + cs.natAbs * cs.natAbs;
      t.get (F.FBf_AMP_AMP f) = isqrt sq ∧ t.fb[f].amp = true ∧ t.rd (Reg.FBf_FLT f) = s.rd (Reg.FBf_FLT f) ||| BitVec.ofNat 32 (2 ^ 5) ∧
        Fires (145 + 2 * f.val) s t ∧ Logged 0x12 1 ([b8 f.val, 4, 0] ++ bytesOfWord (s.rd (Reg.FBf_ACNT f))) s t ∧
        Keeps ([Reg.FBf_FLT f, Reg.FBf_AMP f] ++ (List.range 4).map Reg.MOTm_STAT) s t) ∧
  (∀ (s : State) (f : Fin 4) (held : Nat), s.on (F.FBf_CTL_EN f) = true → s.get (F.FBf_CTL_FILT f) ≤ held → pdOn (50 + f.val) s = true →
    (s.get (F.FBf_CTL_ZMODE f) = 1 ∨ s.get (F.FBf_CTL_ZMODE f) = 2) → (s.on (F.FBf_CTL_ZGATE f) = true → s.on (F.FBf_CTL_TYPE f) = false →
    s.fb[f].a = true ∧ s.fb[f].b = true) → NotFired (144 + 2 * f.val) s → s.on (F.FBf_STAT_INDEXED f) = false → Does (.indexEdge ⟨f, held⟩) s fun t =>
      t.rd (Reg.FBf_ZCAP f) = s.rd (Reg.FBf_POS f) ∧ t.rd (Reg.FBf_POS f) = (if s.get (F.FBf_CTL_ZMODE f) = 2 then 0 else s.rd (Reg.FBf_POS f)) ∧
        t.on (F.FBf_STAT_INDEXED f) = true ∧ t.fb[f].zAcnt = s.rd (Reg.FBf_ACNT f) ∧ Fires (144 + 2 * f.val) s t ∧ NoLog s t ∧
        Keeps [Reg.FBf_ZCAP f, Reg.FBf_POS f, Reg.FBf_STAT f] s t) ∧
  (∀ (s : State) (f : Fin 4) (held : Nat), s.on (F.FBf_CTL_EN f) = true → s.get (F.FBf_CTL_FILT f) ≤ held → pdOn (50 + f.val) s = true →
    (s.get (F.FBf_CTL_ZMODE f) = 1 ∨ s.get (F.FBf_CTL_ZMODE f) = 2) → (s.on (F.FBf_CTL_ZGATE f) = true → s.on (F.FBf_CTL_TYPE f) = false →
    s.fb[f].a = true ∧ s.fb[f].b = true) → s.on (F.FBf_STAT_INDEXED f) = true → (let moved := (s.rd (Reg.FBf_ACNT f) - s.fb[f].zAcnt).toInt;
    s.get (F.FBf_CTL_ZTOL f) < (moved - fbCpr f s).natAbs ∧ s.get (F.FBf_CTL_ZTOL f) < (moved + fbCpr f s).natAbs) → Does (.indexEdge ⟨f, held⟩) s fun t =>
      t.rd (Reg.FBf_ZCAP f) = s.rd (Reg.FBf_POS f) ∧ t.rd (Reg.FBf_POS f) = (if s.get (F.FBf_CTL_ZMODE f) = 2 then 0 else s.rd (Reg.FBf_POS f)) ∧
        t.on (F.FBf_STAT_INDEXED f) = true ∧ t.fb[f].zAcnt = s.rd (Reg.FBf_ACNT f) ∧ t.rd (Reg.FBf_FLT f) = s.rd (Reg.FBf_FLT f) ||| 64 ∧
        Logged 0x12 1 ([b8 f.val, 5, 0] ++ bytesOfWord (s.rd (Reg.FBf_ACNT f))) s t ∧
        Keeps [Reg.FBf_ZCAP f, Reg.FBf_POS f, Reg.FBf_STAT f, Reg.FBf_FLT f] s t) ∧
  (∀ (s : State) (f : Fin 4) (held : Nat), s.get (F.FBf_CTL_ZMODE f) = 0 → Does (.indexEdge ⟨f, held⟩) s fun t =>
      t = s) ∧
  (∀ (s : State) (f : Fin 4) (pair : Fin 3) (n : Nat), s.on (F.FBf_CTL_EN f) = true → s.get (F.FBf_CTL_WTIME f) ≤ n → pdOn (50 + f.val) s = true →
    (s.on (F.FBf_CTL_TYPE f) = true → pair = 2) → s.fb[f].wire.getLsbD pair = false → NotFired (145 + 2 * f.val) s → Does (.wireDisagreement f pair (some n)) s fun t =>
      t.rd (Reg.FBf_FLT f) = s.rd (Reg.FBf_FLT f) ||| BitVec.ofNat 32 (2 ^ pair.val) ∧ Fires (145 + 2 * f.val) s t ∧
        Logged 0x12 1 ([b8 f.val, 1, b8 pair.val] ++ bytesOfWord (s.rd (Reg.FBf_ACNT f))) s t ∧ t.fb[f].wire.getLsbD pair = true ∧
        Keeps (Reg.FBf_FLT f :: (List.range 4).map Reg.MOTm_STAT) s t) ∧
  (∀ (s : State) (f : Fin 4) (held : Nat), held < s.get (F.FBf_CTL_FILT f) → Does (.indexEdge ⟨f, held⟩) s fun t =>
      t = s) ∧
  (∀ (s : State) (f : Fin 4) (pair : Fin 3) (n : Nat), n < s.get (F.FBf_CTL_WTIME f) → Does (.wireDisagreement f pair (some n)) s fun t =>
      t = s) ∧
  (∀ (s : State) (f : Fin 4) (pair : Fin 3), s.on (F.FBf_CTL_EN f) = true → pdOn (50 + f.val) s = true → (s.on (F.FBf_CTL_TYPE f) = true →
    pair = 2) → Does (.wireDisagreement f pair none) s fun t =>
      t.fb[f].wire.getLsbD pair = false ∧ (∀ q : Fin 3, q ≠ pair → t.fb[f].wire.getLsbD q = s.fb[f].wire.getLsbD q) ∧ NoLog s t ∧ Keeps [] s t) ∧
  (∀ (s : State) (f : Fin 4), (s.on (F.FBf_CTL_EN f) = false ∨ pdOn (50 + f.val) s = false) →
    ((List.finRange 8).all (fun d => s.dom[d].src != 4 + f.val) = true) → Does (.fbUpdate f) s fun t =>
      t = s) ∧
  (∀ (s : State) (f : Fin 4), s.on (F.FBf_CTL_EN f) = true → pdOn (50 + f.val) s = true →
    ((List.finRange 8).all (fun d => s.dom[d].src != 4 + f.val) = true) → Does (.fbUpdate f) s fun t =>
      t.fb[f].phase = false ∧ t.fb[f].rate = false ∧ t.fb[f].wire = s.fb[f].wire ∧ (s.clk.ns + 1000, .fbUpdate f) ∈ t.timers ∧ t.dom = s.dom ∧
        NoLog s t ∧ Keeps [] s t) ∧
  (∀ (s : State) (f : Fin 4) (d : Fin 8), s.on (F.FBf_CTL_EN f) = true → pdOn (50 + f.val) s = true → s.dom[d].src = 4 + f.val →
    ((List.finRange 8).all (fun e => e == d || s.dom[e].src != 4 + f.val) = true) → s.on (F.ANGn_CTL_EN d) = true → dState d s = dLOCKED →
    2 ≤ s.dom[d].acq → (s.fb[f].phase = false ∧ s.fb[f].rate = false ∧ s.fb[f].amp = false ∧ s.fb[f].wire = 0) → (let pos := fbPosition f s;
    (BitVec.ofInt 56 (pos * refTurns d s) - s.dom[d].acc).toInt.natAbs ≤ 2 ^ (48 - s.get (F.ANGn_TRACK_FBJUMP d))) → Does (.fbUpdate f) s fun t =>
      t.dom[d].fbPos = some (BitVec.ofInt 56 (fbPosition f s * refTurns d s), if s.clk.stage = 0 then s.clk.ns else s.clk.ns + 1) ∧
        t.dom[d].acc = s.dom[d].acc ∧ t.fb[f] = s.fb[f] ∧ (s.clk.ns + 1000, .fbUpdate f) ∈ t.timers ∧ SameMem s t) ∧
  (∀ (s : State) (ticket : Byte) (arg : BitVec 16) (f : Fin 4), Fresh Reg.FB_ACT ticket s → arg.toNat % 4 = f.val → s.fb[f].stepNow = none → Does (.setpos ticket arg) s fun t =>
      t.rd (Reg.FBf_POS f) = s.rd (Reg.FBf_PRESET f) ∧ t.rd (Reg.FBf_ACNT f) = s.rd (Reg.FBf_PRESET f) ∧ (∀ m : Fin 4, motorFb m s = f.val →
        t.on (F.MOTm_STAT_THV m) = false) ∧ t.rd Reg.FB_ACT = actWord ticket (arg &&& 0x3) 1 ∧ NoLog s t ∧
        Keeps ([Reg.FBf_POS f, Reg.FBf_ACNT f, Reg.FB_ACT] ++ (List.range 4).map Reg.MOTm_STAT) s t) ∧
  (∀ (s : State) (ticket : Byte) (arg : BitVec 16) (f : Fin 4) (d : Word), Fresh Reg.FB_ACT ticket s → arg.toNat % 4 = f.val →
    s.fb[f].stepNow = some (s.clk.ns / 4, d) → Does (.setpos ticket arg) s fun t =>
      t.rd (Reg.FBf_POS f) = s.rd (Reg.FBf_PRESET f) + d ∧ t.rd (Reg.FBf_ACNT f) = s.rd (Reg.FBf_PRESET f) + d ∧
        (∀ m : Fin 4, motorFb m s = f.val → t.on (F.MOTm_STAT_THV m) = false) ∧ t.rd Reg.FB_ACT = actWord ticket (arg &&& 0x3) 1 ∧ NoLog s t ∧
        Keeps ([Reg.FBf_POS f, Reg.FBf_ACNT f, Reg.FB_ACT] ++ (List.range 4).map Reg.MOTm_STAT) s t)

/-- Leak sensing: scans, measurements, baseline and decisions, electrode faults, RECAL and CAPLEARN (R491, R493, R494, R496, R497, R498, R499, R500; tier
2, derived). A scan due or requested starts with the lowest enabled electrode, or waits; a crossing ends a measurement and after 2^OSR of them gives
RAW; a first RAW sets the baseline, later ones are tracked and decided with debouncing; a second failure in a row is a fault, flagged, fired and
logged; RECAL marks electrodes; LEARN and its ABORT start and end the long operation. That a measurement keeps the settings of its start, and its
count as an operand, are the model's choice (log entries 44 and 53). -/
def Obligations.LeakSensing : Prop :=
  (∀ (s : State) (i : Fin 16) (l : List (Fin 16)), s.on F.CAP_CTL_EN = true → domainOn 54 s = true → s.cap.scan = none →
    ((List.finRange 16).filter (fun (i : Fin 16) => s.bit F.CAP_EN_MASK i) = i :: l) → s.lop[(4 : Fin 5)].running = false → Does .scanStart s fun t =>
      t.cap.scan = some (i :: l) ∧ t.cap.k = 0 ∧ t.cap.sum = 0 ∧ (s.clk.ns + max 1 (s.get F.CAP_SCAN_SCANPER) * 100000, .scanStart) ∈ t.timers ∧
        (s.clk.ns + (1000 + capMaxcnt s * capStep s), .measurementTimeout) ∈ t.timers ∧ NoLog s t ∧ Keeps [] s t) ∧
  (∀ (s : State), s.on F.CAP_CTL_EN = true → domainOn 54 s = true → s.cap.scan.isSome = true → Does .scanStart s fun t =>
      t.cap.scan = s.cap.scan ∧ t.cap.due = true ∧ t.get F.CAP_CNT_OVR = min 65535 (s.get F.CAP_CNT_OVR + 1) ∧
        (s.clk.ns + max 1 (s.get F.CAP_SCAN_SCANPER) * 100000, .scanStart) ∈ t.timers ∧ NoLog s t ∧ Keeps [Reg.CAP_CNT] s t) ∧
  (∀ (s : State) (i : Fin 16) (l : List (Fin 16)) (ticket : Byte) (arg : BitVec 16), slotOn Reg.CAP_ACT s = true → Fresh Reg.CAP_ACT ticket s →
    s.on F.CAP_CTL_EN = true → domainOn 54 s = true → s.cap.scan = none →
    ((List.finRange 16).filter (fun (i : Fin 16) => s.bit F.CAP_EN_MASK i) = i :: l) → s.lop[(4 : Fin 5)].running = false → Does (.scan ticket arg) s fun t =>
      t.cap.scan = some (i :: l) ∧ t.cap.k = 0 ∧ t.cap.sum = 0 ∧ (s.clk.ns + (1000 + capMaxcnt s * capStep s), .measurementTimeout) ∈ t.timers ∧
        t.rd Reg.CAP_ACT = actWord ticket 0 1 ∧ NoLog s t ∧ Keeps [Reg.CAP_ACT] s t) ∧
  (∀ (s : State) (ticket : Byte) (arg : BitVec 16), slotOn Reg.CAP_ACT s = true → Fresh Reg.CAP_ACT ticket s → s.on F.CAP_CTL_EN = true →
    domainOn 54 s = true → s.cap.scan.isSome = true → Does (.scan ticket arg) s fun t =>
      t.cap = { s.cap with pend := true } ∧ t.rd Reg.CAP_ACT = actWord ticket 0 1 ∧ NoLog s t ∧ Keeps [Reg.CAP_ACT] s t) ∧
  (∀ (s : State) (i : Fin 16) (l : List (Fin 16)) (count : BitVec 16), capNow s = some i → s.cap.scan = some (i :: l) → (1 ≤ count.toNat ∧
    count.toNat ≤ s.cap.limit ∧ capLasted count.toNat s = true) → s.cap.k + 1 < 2 ^ capOsr s → Does (.measurementEnd count) s fun t =>
      t.cap.scan = s.cap.scan ∧ t.cap.k = s.cap.k + 1 ∧ t.cap.sum = s.cap.sum + count.toNat ∧
        (s.clk.ns + (1000 + capMaxcnt s * capStep s), .measurementTimeout) ∈ t.timers ∧ NoLog s t ∧ Keeps [] s t) ∧
  (∀ (s : State) (i : Fin 16) (l : List (Fin 16)) (count : BitVec 16), capNow s = some i → s.cap.scan = some (i :: l) → (1 ≤ count.toNat ∧
    count.toNat ≤ s.cap.limit ∧ capLasted count.toNat s = true) → l ≠ [] → 2 ^ capOsr s ≤ s.cap.k + 1 →
    (let raw := (s.cap.sum + count.toNat + 2 ^ capOsr s / 2) / 2 ^ capOsr s; s.get (F.CAPi_LIM_CMIN i) ≤ raw ∧ raw ≤ s.get (F.CAPi_LIM_CMAX i)) →
    s.cap.el[i].fault = false → s.lop[(4 : Fin 5)].running = false → (s.cap.el[i].fresh = true ∨ s.cap.el[i].recal = true) → Does (.measurementEnd count) s fun t =>
      let raw := (s.cap.sum + count.toNat + 2 ^ capOsr s / 2) / 2 ^ capOsr s;
      t.get (F.CAPi_RAW_RAW i) = raw % 65536 ∧ t.get (F.CAPi_BL_BL i) = raw * 16 % 2 ^ 20 ∧ t.cap.el[i].fresh = false ∧ t.cap.el[i].recal = false ∧
        (s.cap.el[i].recal = true → t.on (F.CAPi_STAT_LEAK i) = false ∧ t.on (F.CAPi_STAT_COND i) = false) ∧ t.cap.scan = some l ∧ t.cap.k = 0 ∧
        t.cap.sum = 0 ∧ (s.clk.ns + (1000 + capMaxcnt s * capStep s), .measurementTimeout) ∈ t.timers ∧ NoLog s t ∧
      Keeps ([Reg.CAPi_RAW i, Reg.CAPi_BL i, Reg.CAPi_STAT i]) s t) ∧
  (∀ (s : State) (i : Fin 16) (l : List (Fin 16)) (count : BitVec 16), capNow s = some i → s.cap.scan = some (i :: l) → (1 ≤ count.toNat ∧
    count.toNat ≤ s.cap.limit ∧ capLasted count.toNat s = true) → l ≠ [] → 2 ^ capOsr s ≤ s.cap.k + 1 →
    (let raw := (s.cap.sum + count.toNat + 2 ^ capOsr s / 2) / 2 ^ capOsr s; s.get (F.CAPi_LIM_CMIN i) ≤ raw ∧ raw ≤ s.get (F.CAPi_LIM_CMAX i)) →
    s.cap.el[i].fault = false → s.lop[(4 : Fin 5)].running = false → (s.cap.el[i].fresh = false ∧ s.cap.el[i].recal = false) → s.cap.el[i].neg = 0 →
    2 ≤ capNegn s → (let raw := (s.cap.sum + count.toNat + 2 ^ capOsr s / 2) / 2 ^ capOsr s; let blc : Nat := s.get (F.CAPi_BL_BL i) / 16;
    (s.get (F.CAPi_CFG_LEAKTH i) * blc : Nat) ≤ ((blc : Int) - raw) * 1024 ∧ s.get F.CAP_DEC_TRKWIN * blc ≤ ((blc : Int) - raw).natAbs * 1024 ∧
    0 < ((blc : Int) - raw)) → s.on (F.CAPi_STAT_LEAK i) = false → capDebn s ≤ s.cap.el[i].leakOn + 1 → s.on (F.CAPi_STAT_DRYV i) = false →
    s.cap.el[i].leakOn ≤ 14 → NotFired (152 + i.val) s → Does (.measurementEnd count) s fun t =>
      let raw := (s.cap.sum + count.toNat + 2 ^ capOsr s / 2) / 2 ^ capOsr s;
      t.on (F.CAPi_STAT_LEAK i) = true ∧ t.on (F.CAPi_STAT_LEAKF i) = true ∧ t.on (F.CAPi_STAT_COND i) = false ∧
        t.rd (Reg.CAPi_BL i) = s.rd (Reg.CAPi_BL i) ∧ Fires (152 + i.val) s t ∧
      Logged 0x13 1 ([b8 i.val, 1] ++ bytesOfNat 2 raw ++ bytesOfNat 2 (s.get (F.CAPi_BL_BL i) / 16) ++ bytesOfNat 2 (s.get (F.CAPi_DRY_DRY i))) s t ∧
        t.cap.scan = some l ∧ t.cap.k = 0 ∧ t.cap.sum = 0 ∧ (s.clk.ns + (1000 + capMaxcnt s * capStep s), .measurementTimeout) ∈ t.timers ∧
        Keeps [Reg.CAPi_RAW i, Reg.CAPi_STAT i] s t) ∧
  (∀ (s : State) (i : Fin 16) (l : List (Fin 16)) (count : BitVec 16), capNow s = some i → s.cap.scan = some (i :: l) → (1 ≤ count.toNat ∧
    count.toNat ≤ s.cap.limit ∧ capLasted count.toNat s = true) → l ≠ [] → 2 ^ capOsr s ≤ s.cap.k + 1 →
    (let raw := (s.cap.sum + count.toNat + 2 ^ capOsr s / 2) / 2 ^ capOsr s; s.get (F.CAPi_LIM_CMIN i) ≤ raw ∧ raw ≤ s.get (F.CAPi_LIM_CMAX i)) →
    s.cap.el[i].fault = false → s.lop[(4 : Fin 5)].running = false → (s.cap.el[i].fresh = false ∧ s.cap.el[i].recal = false) →
    capNegn s ≤ s.cap.el[i].neg + 1 → (let raw := (s.cap.sum + count.toNat + 2 ^ capOsr s / 2) / 2 ^ capOsr s;
    let blc : Nat := s.get (F.CAPi_BL_BL i) / 16; ((blc : Int) - raw) * 1024 ≤ -((s.get F.CAP_DEC_NEGTH * blc : Nat) : Int)) → Does (.measurementEnd count) s fun t =>
      let raw := (s.cap.sum + count.toNat + 2 ^ capOsr s / 2) / 2 ^ capOsr s;
      t.get (F.CAPi_BL_BL i) = raw * 16 % 2 ^ 20 ∧ t.get F.CAP_CNT_RECAL = min 65535 (s.get F.CAP_CNT_RECAL + 1) ∧ t.cap.el[i].leakOn = 0 ∧
        t.cap.el[i].condOn = 0 ∧ t.rd (Reg.CAPi_STAT i) = s.rd (Reg.CAPi_STAT i) ∧
      Logged 0x13 3 ([b8 i.val, 0] ++ bytesOfNat 2 raw ++ bytesOfNat 2 (s.get (F.CAPi_BL_BL i) / 16)) s t ∧ t.cap.scan = some l ∧ t.cap.k = 0 ∧
        t.cap.sum = 0 ∧ (s.clk.ns + (1000 + capMaxcnt s * capStep s), .measurementTimeout) ∈ t.timers ∧
        Keeps [Reg.CAPi_RAW i, Reg.CAPi_BL i, Reg.CAP_CNT] s t) ∧
  (∀ (s : State) (i : Fin 16) (l : List (Fin 16)) (count : BitVec 16), capNow s = some i → s.cap.scan = some (i :: l) → (1 ≤ count.toNat ∧
    count.toNat ≤ s.cap.limit ∧ capLasted count.toNat s = true) → l ≠ [] → 2 ^ capOsr s ≤ s.cap.k + 1 →
    (let raw := (s.cap.sum + count.toNat + 2 ^ capOsr s / 2) / 2 ^ capOsr s; s.get (F.CAPi_LIM_CMIN i) ≤ raw ∧ raw ≤ s.get (F.CAPi_LIM_CMAX i)) →
    s.cap.el[i].fault = false → s.lop[(4 : Fin 5)].running = false → (s.cap.el[i].fresh = false ∧ s.cap.el[i].recal = false) →
    s.on (F.CAPi_STAT_LEAK i) = false → s.on (F.CAPi_STAT_DRYV i) = false → (let raw := (s.cap.sum + count.toNat + 2 ^ capOsr s / 2) / 2 ^ capOsr s;
    let blc : Nat := s.get (F.CAPi_BL_BL i) / 16; ((blc : Int) - raw).natAbs * 1024 < s.get F.CAP_DEC_TRKWIN * blc ∧
    ((blc : Int) - raw) * 1024 < (s.get (F.CAPi_CFG_LEAKTH i) * blc : Nat) ∧
    -((s.get F.CAP_DEC_NEGTH * blc : Nat) : Int) < ((blc : Int) - raw) * 1024) → Does (.measurementEnd count) s fun t =>
      let raw := (s.cap.sum + count.toNat + 2 ^ capOsr s / 2) / 2 ^ capOsr s;
      let bl : Nat := s.get (F.CAPi_BL_BL i);
      t.get (F.CAPi_BL_BL i) = ((bl : Int) + asr ((raw * 16 : Nat) - (bl : Int)) (capBlsh s)).toNat % 2 ^ 20 ∧ t.on (F.CAPi_STAT_LEAK i) = false ∧
        t.on (F.CAPi_STAT_COND i) = false ∧ NoLog s t ∧ t.cap.scan = some l ∧ t.cap.k = 0 ∧ t.cap.sum = 0 ∧
        (s.clk.ns + (1000 + capMaxcnt s * capStep s), .measurementTimeout) ∈ t.timers ∧ Keeps [Reg.CAPi_RAW i, Reg.CAPi_BL i, Reg.CAPi_STAT i] s t) ∧
  (∀ (s : State) (i : Fin 16) (l : List (Fin 16)), capNow s = some i → s.cap.scan = some (i :: l) → s.cap.sampled = false →
    s.cap.began + 996 ≤ s.clk.ns → l ≠ [] → s.cap.el[i].fails = 1 → s.cap.el[i].fault = false → NotFired (152 + i.val) s → Does (.dischargeCheck true) s fun t =>
      t.on (F.CAPi_STAT_SUP i) = true ∧ t.bit F.CAP_FLT_EF i = true ∧ t.cap.el[i].fault = true ∧ t.rd (Reg.CAPi_BL i) = s.rd (Reg.CAPi_BL i) ∧
        t.on (F.CAPi_STAT_LEAK i) = s.on (F.CAPi_STAT_LEAK i) ∧ t.on (F.CAPi_STAT_COND i) = s.on (F.CAPi_STAT_COND i) ∧ Fires (152 + i.val) s t ∧
        Logged 0x13 2 ([b8 i.val, 1] ++ bytesOfNat 2 (s.cap.el[i].last)) s t ∧ t.cap.scan = some l ∧ t.cap.k = 0 ∧ t.cap.sum = 0 ∧
        (s.clk.ns + (1000 + capMaxcnt s * capStep s), .measurementTimeout) ∈ t.timers ∧ Keeps [Reg.CAPi_STAT i, Reg.CAP_FLT] s t) ∧
  (∀ (s : State), (capNow s).isSome = true → s.cap.sampled = false → s.cap.began + 996 ≤ s.clk.ns → Does (.dischargeCheck false) s fun t =>
      t = { s with cap := { s.cap with sampled := true } }) ∧
  (∀ (s : State) (high : Bool), (capNow s = none ∨ s.cap.sampled = true ∨ s.clk.ns < s.cap.began + 996) → Does (.dischargeCheck high) s fun t =>
      t = s) ∧
  (∀ (s : State) (count : BitVec 16), (capNow s = none ∨ count = 0 ∨ s.cap.limit < count.toNat ∨ capLasted count.toNat s = false) → Does (.measurementEnd count) s fun t =>
      t = s) ∧
  (∀ (s : State), (capNow s = none ∨ capLasted s.cap.limit s = false) → Does .measurementTimeout s fun t =>
      t = s) ∧
  (∀ (s : State) (i : Fin 16) (l : List (Fin 16)), capNow s = some i → s.cap.scan = some (i :: l) → capLasted s.cap.limit s = true → l ≠ [] →
    s.cap.el[i].fails = 1 → s.cap.el[i].fault = false → NotFired (152 + i.val) s → Does .measurementTimeout s fun t =>
      t.on (F.CAPi_STAT_TMO i) = true ∧ t.bit F.CAP_FLT_EF i = true ∧ t.cap.el[i].fault = true ∧ t.rd (Reg.CAPi_BL i) = s.rd (Reg.CAPi_BL i) ∧
        t.on (F.CAPi_STAT_LEAK i) = s.on (F.CAPi_STAT_LEAK i) ∧ t.on (F.CAPi_STAT_COND i) = s.on (F.CAPi_STAT_COND i) ∧ Fires (152 + i.val) s t ∧
        Logged 0x13 2 ([b8 i.val, 2] ++ bytesOfNat 2 s.cap.limit) s t ∧ t.cap.scan = some l ∧ t.cap.k = 0 ∧ t.cap.sum = 0 ∧
        (s.clk.ns + (1000 + capMaxcnt s * capStep s), .measurementTimeout) ∈ t.timers ∧ Keeps [Reg.CAPi_STAT i, Reg.CAP_FLT] s t) ∧
  (∀ (s : State) (i : Fin 16) (l : List (Fin 16)) (count : BitVec 16), capNow s = some i → s.cap.scan = some (i :: l) → (1 ≤ count.toNat ∧
    count.toNat ≤ s.cap.limit ∧ capLasted count.toNat s = true) → l ≠ [] → s.cap.el[i].fails = 1 → s.cap.el[i].fault = false →
    NotFired (152 + i.val) s → 2 ^ capOsr s ≤ s.cap.k + 1 → (let raw := (s.cap.sum + count.toNat + 2 ^ capOsr s / 2) / 2 ^ capOsr s;
    raw < s.get (F.CAPi_LIM_CMIN i) ∨ s.get (F.CAPi_LIM_CMAX i) < raw) → Does (.measurementEnd count) s fun t =>
      t.on (F.CAPi_STAT_RANGE i) = true ∧ t.bit F.CAP_FLT_EF i = true ∧ t.cap.el[i].fault = true ∧ t.rd (Reg.CAPi_BL i) = s.rd (Reg.CAPi_BL i) ∧
        t.on (F.CAPi_STAT_LEAK i) = s.on (F.CAPi_STAT_LEAK i) ∧ t.on (F.CAPi_STAT_COND i) = s.on (F.CAPi_STAT_COND i) ∧ Fires (152 + i.val) s t ∧
        Logged 0x13 2 ([b8 i.val, 3] ++ bytesOfNat 2 (count.toNat)) s t ∧ t.cap.scan = some l ∧ t.cap.k = 0 ∧ t.cap.sum = 0 ∧
        (s.clk.ns + (1000 + capMaxcnt s * capStep s), .measurementTimeout) ∈ t.timers ∧ Keeps [Reg.CAPi_STAT i, Reg.CAP_FLT, Reg.CAPi_RAW i] s t) ∧
  (∀ (s : State) (ticket : Byte) (arg : BitVec 16), slotOn Reg.CAP_ACT s = true → Fresh Reg.CAP_ACT ticket s → Does (.recal ticket arg) s fun t =>
      (∀ i : Fin 16, t.cap.el[i].recal = (s.cap.el[i].recal || arg.getLsbD i.val)) ∧ t.cap.scan = s.cap.scan ∧
        t.rd Reg.CAP_ACT = actWord ticket arg 3 ∧ NoLog s t ∧ Keeps [Reg.CAP_ACT] s t) ∧
  (∀ (s : State) (ticket : Byte) (arg : BitVec 16), slotOn Reg.CAP_ACT s = true → Fresh Reg.CAP_ACT ticket s → s.lop[(4 : Fin 5)].running = false →
    10 ≤ s.get F.CAP_LEARNT_LEARNT → s.get F.CAP_LEARNT_LEARNT ≤ 60000 → arg.toNat &&& s.get F.CAP_EN_MASK ≠ 0 → Does (.caplearn (.action ticket arg)) s fun t =>
      t.lop[(4 : Fin 5)].running = true ∧ t.lop[(4 : Fin 5)].host = none ∧ t.cap.mask = arg.toNat ∧ t.cap.dur = s.get F.CAP_LEARNT_LEARNT ∧
        t.cap.from_ = none ∧ t.rd Reg.CAP_LSTATH = BitVec.ofNat 32 (65536 * 5 + 16777216 * lopRUNNING) ∧ t.rd Reg.CAP_ACT = actWord ticket arg 2 ∧
        NoLog s t ∧ Keeps [Reg.HIF_LOPk_STATL 4, Reg.HIF_LOPk_STATH 4, Reg.CAP_LSTATL, Reg.CAP_LSTATH, Reg.CAP_ACT] s t) ∧
  (∀ (s : State) (ticket : Byte) (arg : BitVec 16), slotOn Reg.CAP_ACT s = true → Fresh Reg.CAP_ACT ticket s → s.lop[(4 : Fin 5)].running = false →
    (arg.toNat &&& s.get F.CAP_EN_MASK = 0 ∨ s.get F.CAP_LEARNT_LEARNT < 10 ∨ 60000 < s.get F.CAP_LEARNT_LEARNT) → Does (.caplearn (.action ticket arg)) s fun t =>
      t.on F.CAP_FLT_LRNREF = true ∧ t.lop = s.lop ∧ t.rd Reg.CAP_ACT = actWord ticket arg 2 ∧ NoLog s t ∧ Keeps [Reg.CAP_FLT, Reg.CAP_ACT] s t) ∧
  (∀ (s : State) (ticket : Byte) (arg : BitVec 16), slotOn Reg.CAP_ACT s = true → Fresh Reg.CAP_ACT ticket s → s.lop[(4 : Fin 5)].running = true → Does (.caplearn (.action ticket arg)) s fun t =>
      t.on F.CAP_FLT_BUSY = true ∧ t.lop = s.lop ∧ t.cap = s.cap ∧ t.rd Reg.CAP_ACT = actWord ticket arg 2 ∧ NoLog s t ∧
        Keeps [Reg.CAP_FLT, Reg.CAP_ACT] s t) ∧
  (∀ (s : State) (slot : Fin 16), descP slot 0 s = 5 → s.lop[(4 : Fin 5)].running = true → Does (.caplearn (.host slot)) s fun t =>
      t.get (F.HIF_SLOTs_ST_ST slot) = stBUSY ∧ t.get (F.HIF_SLOTs_RES_RES slot) = 0 ∧ t.lop = s.lop ∧ t.cap = s.cap ∧ NoLog s t ∧
        Keeps [Reg.HIF_SLOTs_ST slot, Reg.HIF_SLOTs_RES slot] s t) ∧
  (∀ (s : State) (slot : Fin 16), descP slot 0 s = 5 → s.lop[(4 : Fin 5)].running = false → lopClean 4 slot s = true →
    (lopFits (some (lopHostOf slot s)) ((List.range 16).filter (fun i => (descP slot 4 s).testBit i)).length 16 = true) → descAddr slot s % 8 = 0 →
    descP slot 4 s < 65536 → (10 ≤ descP slot 5 s ∧ descP slot 5 s ≤ 60000) → descP slot 4 s &&& s.get F.CAP_EN_MASK ≠ 0 → Does (.caplearn (.host slot)) s fun t =>
      t.lop[(4 : Fin 5)].running = true ∧ t.lop[(4 : Fin 5)].host = some (lopHostOf slot s) ∧ t.cap.mask = descP slot 4 s ∧
        t.cap.dur = descP slot 5 s ∧ t.cap.from_ = none ∧ t.get (F.HIF_SLOTs_ST_ST slot) = stOK ∧
      t.get (F.HIF_SLOTs_RES_RES slot) = t.lop[(4 : Fin 5)].gen % 2 ^ 32 ∧ NoLog s t ∧
        Keeps ([Reg.HIF_LOPk_STATL 4, Reg.HIF_LOPk_STATH 4, Reg.CAP_LSTATL, Reg.CAP_LSTATH, Reg.CAP_ACT] ++ [Reg.HIF_SLOTs_ST slot, Reg.HIF_SLOTs_RES slot]) s t) ∧
  (∀ (s : State) (ticket : Byte) (arg : BitVec 16), slotOn Reg.CAP_ACT s = true → Fresh Reg.CAP_ACT ticket s → s.lop[(4 : Fin 5)].running = true →
    s.lop[(4 : Fin 5)].host = none → Does (.capAbort ticket arg) s fun t =>
      t.lop[(4 : Fin 5)].running = false ∧ t.cap.from_ = none ∧ t.cap.mask = 0 ∧ LastLog 0x13 4 ([0xFF, b8 lopABORTED] ++ bytesOfNat 2 0) s t ∧
        t.cap.el = s.cap.el ∧ t.rd Reg.CAP_ACT = actWord ticket 0 4 ∧
        Keeps [Reg.HIF_LOPk_STATL 4, Reg.HIF_LOPk_STATH 4, Reg.CAP_LSTATL, Reg.CAP_LSTATH, Reg.CAP_ACT] s t) ∧
  (∀ (s : State) (ticket : Byte) (arg : BitVec 16), slotOn Reg.CAP_ACT s = true → Fresh Reg.CAP_ACT ticket s → s.lop[(4 : Fin 5)].running = false → Does (.capAbort ticket arg) s fun t =>
      t.lop = s.lop ∧ t.cap = s.cap ∧ t.rd Reg.CAP_ACT = actWord ticket 0 4 ∧ NoLog s t ∧ Keeps [Reg.CAP_ACT] s t) ∧
  (∀ (s : State) (i : Fin 16), s.lop[(4 : Fin 5)].running = true → s.lop[(4 : Fin 5)].host = none → s.cap.mask = 2 ^ i.val → 4 ≤ s.cap.el[i].n →
    s.cap.el[i].leaked = false → (s.cap.el[i].max - s.cap.el[i].min) * 1024 ≤ s.get F.CAP_DEC_SPREAD * roundDiv s.cap.el[i].sum s.cap.el[i].n → Does .learnEnd s fun t =>
      let mean := roundDiv s.cap.el[i].sum s.cap.el[i].n;
      t.get (F.CAPi_DRY_DRY i) = mean % 65536 ∧ t.get (F.CAPi_BL_BL i) = mean * 16 % 2 ^ 20 ∧ t.on (F.CAPi_STAT_DRYV i) = true ∧
        t.lop[(4 : Fin 5)].running = false ∧ t.cap.from_ = none ∧ t.cap.mask = 0 ∧
        LastLog 0x13 4 ([0xFF, b8 lopDONE] ++ bytesOfNat 2 (2 ^ i.val)) s t ∧
        Keeps ([Reg.HIF_LOPk_STATL 4, Reg.HIF_LOPk_STATH 4, Reg.CAP_LSTATL, Reg.CAP_LSTATH, Reg.CAP_ACT] ++ [Reg.CAPi_DRY i, Reg.CAPi_BL i, Reg.CAPi_STAT i]) s t) ∧
  (∀ (s : State), s.lop[(4 : Fin 5)].running = false → Does .learnEnd s fun t =>
      t = s)

/-- The test access port and the authenticated debug port behind it (R324, R331, R350, R351, R556, R557, R558; tier 2, derived). Each instruction selects
its data register: the boundary register, IDCODE, bypass; EXTEST and CLAMP drive the balls from the boundary register and HIGHZ releases them, unless
a rail is outside OFF or a motor is enabled; a reset selects IDCODE; the debug port authenticates, reads and writes core registers while the Trio is
halted, and refuses otherwise; a session end releases its locks. The challenge's outcome as an operand and the form of written capabilities are the
model's reading (log entry 26). -/
def Obligations.TestAccessPort : Prop :=
  (∀ (s : State) (data pins : BitVec 250), ((List.finRange 4).all (fun r => eState r s == eOFF) = true) →
    ((List.finRange 4).all (fun m => !motorEn m s) = true) → s.pwr.low = {} → Does (.extest data pins) s fun t =>
      t.tap.instr = 0 ∧ t.tap.boundary = data ∧ t.tap.dr = pins ∧
        (∀ p : Fin 32, phBall p t = some (if t.tap.boundary.getLsbD (phCell p + 1) = true then (if t.tap.boundary.getLsbD (phCell p) = true then .high else .low) else .mid)) ∧
        (∀ r : Fin 4, enBall r t = (if t.tap.boundary.getLsbD (enCell r + 1) = true then some (t.tap.boundary.getLsbD (enCell r)) else none)) ∧
        NoLog s t ∧ Keeps [] s t) ∧
  (∀ (s : State) (data pins : BitVec 250), tapBlocked s = true → s.pwr.low = {} → Does (.extest data pins) s fun t =>
      t.tap.boundary = s.tap.boundary ∧ t.tap.dr = 0 ∧ (∀ p : Fin 32, phBall p t = some s.phase[p].out) ∧
        (∀ r : Fin 4, enBall r t = some (s.on (F.EDGEr_STAT_ENOUT r))) ∧ (∀ i : Fin 8, evoBall i t = some s.evm.evo[i].level) ∧
        syncOutBall t = some s.sync.out ∧ (∀ (m : Fin 4) (x : Fin 3) (b : Bool), motBall m x b t = some (motPin m x b s)) ∧
      (∀ p : Fin 2, usbPwrBall p t = some (s.usb.hubPower.getLsbD (2 + p.val))) ∧ NoLog s t ∧ Keeps [] s t) ∧
  (∀ (s : State) (data pins : BitVec 250), s.pwr.low = {} → Does (.samplePreload data pins) s fun t =>
      t.tap.instr = 2 ∧ t.tap.boundary = data ∧ t.tap.dr = pins ∧ (∀ p : Fin 32, phBall p t = some s.phase[p].out) ∧
        (∀ r : Fin 4, enBall r t = some (s.on (F.EDGEr_STAT_ENOUT r))) ∧ (∀ i : Fin 8, evoBall i t = some s.evm.evo[i].level) ∧
        syncOutBall t = some s.sync.out ∧ (∀ (m : Fin 4) (x : Fin 3) (b : Bool), motBall m x b t = some (motPin m x b s)) ∧
      (∀ p : Fin 2, usbPwrBall p t = some (s.usb.hubPower.getLsbD (2 + p.val))) ∧ NoLog s t ∧ Keeps [] s t) ∧
  (∀ (s : State), ((List.finRange 4).all (fun r => eState r s == eOFF) = true) → ((List.finRange 4).all (fun m => !motorEn m s) = true) →
    s.pwr.low = {} → Does .clamp s fun t =>
      t.tap.instr = 3 ∧ t.tap.boundary = s.tap.boundary ∧ t.tap.dr = 0 ∧
        (∀ p : Fin 32, phBall p t = some (if t.tap.boundary.getLsbD (phCell p + 1) = true then (if t.tap.boundary.getLsbD (phCell p) = true then .high else .low) else .mid)) ∧
        (∀ r : Fin 4, enBall r t = (if t.tap.boundary.getLsbD (enCell r + 1) = true then some (t.tap.boundary.getLsbD (enCell r)) else none)) ∧
        NoLog s t ∧ Keeps [] s t) ∧
  (∀ (s : State), ((List.finRange 4).all (fun r => eState r s == eOFF) = true) → ((List.finRange 4).all (fun m => !motorEn m s) = true) →
    s.pwr.low = {} → Does .highz s fun t =>
      t.tap.instr = 4 ∧ t.tap.boundary = s.tap.boundary ∧ t.tap.dr = 0 ∧ (∀ p : Fin 32, phBall p t = some .mid) ∧
        (∀ r : Fin 4, enBall r t = none) ∧ (∀ i : Fin 8, evoBall i t = none) ∧ syncOutBall t = none ∧
        (∀ (m : Fin 4) (x : Fin 3) (b : Bool), motBall m x b t = none) ∧ (∀ p : Fin 2, usbPwrBall p t = none) ∧ NoLog s t ∧ Keeps [] s t) ∧
  (∀ (s : State), tapBlocked s = true → s.pwr.low = {} → Does .clamp s fun t =>
      t.tap.dr = 0 ∧ (∀ p : Fin 32, phBall p t = some s.phase[p].out) ∧ (∀ r : Fin 4, enBall r t = some (s.on (F.EDGEr_STAT_ENOUT r))) ∧
        (∀ i : Fin 8, evoBall i t = some s.evm.evo[i].level) ∧ syncOutBall t = some s.sync.out ∧
        (∀ (m : Fin 4) (x : Fin 3) (b : Bool), motBall m x b t = some (motPin m x b s)) ∧
      (∀ p : Fin 2, usbPwrBall p t = some (s.usb.hubPower.getLsbD (2 + p.val))) ∧ NoLog s t ∧ Keeps [] s t) ∧
  (∀ (s : State), tapBlocked s = true → s.pwr.low = {} → Does .highz s fun t =>
      t.tap.dr = 0 ∧ (∀ p : Fin 32, phBall p t = some s.phase[p].out) ∧ (∀ r : Fin 4, enBall r t = some (s.on (F.EDGEr_STAT_ENOUT r))) ∧
        (∀ i : Fin 8, evoBall i t = some s.evm.evo[i].level) ∧ syncOutBall t = some s.sync.out ∧
        (∀ (m : Fin 4) (x : Fin 3) (b : Bool), motBall m x b t = some (motPin m x b s)) ∧
      (∀ p : Fin 2, usbPwrBall p t = some (s.usb.hubPower.getLsbD (2 + p.val))) ∧ NoLog s t ∧ Keeps [] s t) ∧
  (∀ (s : State), s.pwr.low = {} → Does .idcode s fun t =>
      t.tap.instr = 1 ∧ t.tap.captured = 0b00001 ∧ (t.tap.dr.extractLsb' 28 4 = 1 ∧ t.tap.dr.extractLsb' 12 16 = 0x9640 ∧
        t.tap.dr.extractLsb' 1 11 = Config.jedecId ∧ t.tap.dr.getLsbD 0 = true) ∧ (∀ p : Fin 32, phBall p t = some s.phase[p].out) ∧
        (∀ r : Fin 4, enBall r t = some (s.on (F.EDGEr_STAT_ENOUT r))) ∧ (∀ i : Fin 8, evoBall i t = some s.evm.evo[i].level) ∧
        syncOutBall t = some s.sync.out ∧ (∀ (m : Fin 4) (x : Fin 3) (b : Bool), motBall m x b t = some (motPin m x b s)) ∧
      (∀ p : Fin 2, usbPwrBall p t = some (s.usb.hubPower.getLsbD (2 + p.val))) ∧ NoLog s t ∧ Keeps [] s t) ∧
  (∀ (s : State) (code : BitVec 5), (code = 0x1F ∨ code = 0x0F ∨ (5 ≤ code.toNat ∧ code.toNat < 0x10)) → s.pwr.low = {} → Does (.bypass code) s fun t =>
      t.tap.instr = code ∧ t.tap.dr = 0 ∧ t.tap.boundary = s.tap.boundary ∧ (∀ p : Fin 32, phBall p t = some s.phase[p].out) ∧
        (∀ r : Fin 4, enBall r t = some (s.on (F.EDGEr_STAT_ENOUT r))) ∧ (∀ i : Fin 8, evoBall i t = some s.evm.evo[i].level) ∧
        syncOutBall t = some s.sync.out ∧ (∀ (m : Fin 4) (x : Fin 3) (b : Bool), motBall m x b t = some (motPin m x b s)) ∧
      (∀ p : Fin 2, usbPwrBall p t = some (s.usb.hubPower.getLsbD (2 + p.val))) ∧ NoLog s t ∧ Keeps [] s t) ∧
  (∀ (s : State), s.pwr.low = {} → Does .tapReset s fun t =>
      t.tap = { s.tap with instr := 1, dr := 0 } ∧ (∀ p : Fin 32, phBall p t = some s.phase[p].out) ∧
        (∀ r : Fin 4, enBall r t = some (s.on (F.EDGEr_STAT_ENOUT r))) ∧ (∀ i : Fin 8, evoBall i t = some s.evm.evo[i].level) ∧
        syncOutBall t = some s.sync.out ∧ (∀ (m : Fin 4) (x : Fin 3) (b : Bool), motBall m x b t = some (motPin m x b s)) ∧
      (∀ p : Fin 2, usbPwrBall p t = some (s.usb.hubPower.getLsbD (2 + p.val))) ∧ NoLog s t ∧ Keeps [] s t) ∧
  (∀ (s : State) (code : Fin 15), (s.get F.LCS_STAT_STATE = 1 ∨ s.get F.LCS_STAT_STATE = 2) → Does (.authenticatedDebugPort code (.authenticate false true)) s fun t =>
      t.tap.instr = BitVec.ofNat 5 (16 + code.val) ∧ t.tap.session = true ∧ NoLog s t ∧ Keeps [] s t) ∧
  (∀ (s : State) (code : Fin 15), s.get F.LCS_STAT_STATE = 2 → Does (.authenticatedDebugPort code (.authenticate true true)) s fun t =>
      t.tap.instr = BitVec.ofNat 5 (16 + code.val) ∧ t.on F.LCS_STAT_RETAUTH = true ∧ t.tap.session = s.tap.session ∧ NoLog s t ∧
        Keeps [Reg.LCS_STAT] s t) ∧
  (∀ (s : State) (code : Fin 15), s.get F.LCS_STAT_STATE = 3 → Does (.authenticatedDebugPort code (.authenticate true true)) s fun t =>
      t.tap.instr = BitVec.ofNat 5 (16 + code.val) ∧ t.tap.session = true ∧ NoLog s t ∧ Keeps [] s t) ∧
  (∀ (s : State) (code : Fin 15) (p : Bool), Does (.authenticatedDebugPort code (.authenticate p false)) s fun t =>
      t.tap.instr = BitVec.ofNat 5 (16 + code.val) ∧ t.tap.session = s.tap.session ∧ NoLog s t ∧ Keeps [] s t) ∧
  (∀ (s : State) (code : Fin 15) (a v : Word) (d : List Byte) (k : Fin 32) (q : BitVec 7) (n : Fin 8) (b : Bool) (u : BitVec 128) (op : DebugOp), debugOpen s = false →
    op ∈ ([.memRead a, .memWrite a d, .regRead k, .regWrite k v, .srRead q, .srWrite q v, .capRead n, .capWrite n b u, .pcRead, .pcWrite v] : List DebugOp) → Does (.authenticatedDebugPort code op) s fun t =>
      t.tap.instr = BitVec.ofNat 5 (16 + code.val) ∧ t.busErr = true ∧ t.trio = s.trio ∧ NoLog s t ∧ Keeps [] s t) ∧
  (∀ (s : State) (code : Fin 15) (k : Fin 32), debugOpen s = true → halted s = true → Does (.authenticatedDebugPort code (.regRead k)) s fun t =>
      t.tap.instr = BitVec.ofNat 5 (16 + code.val) ∧ t.busErr = false ∧ t.rdata = s.trio.core.reg k ∧ t.trio = s.trio ∧ NoLog s t ∧ Keeps [] s t) ∧
  (∀ (s : State) (code : Fin 15) (k : Fin 32) (v : Word), debugOpen s = true → halted s = true → Does (.authenticatedDebugPort code (.regWrite k v)) s fun t =>
      t.tap.instr = BitVec.ofNat 5 (16 + code.val) ∧ t.busErr = false ∧ t.trio = { s.trio with core := s.trio.core.setReg k v } ∧ NoLog s t ∧
        Keeps [] s t) ∧
  (∀ (s : State) (code : Fin 15) (q : BitVec 7), debugOpen s = true → halted s = true → Does (.authenticatedDebugPort code (.srRead q)) s fun t =>
      t.tap.instr = BitVec.ofNat 5 (16 + code.val) ∧ t.busErr = false ∧ t.rdata = s.trio.core.sr q.toNat ∧ t.trio = s.trio ∧ NoLog s t ∧
        Keeps [] s t) ∧
  (∀ (s : State) (code : Fin 15) (q : BitVec 7) (v : Word), debugOpen s = true → halted s = true → Does (.authenticatedDebugPort code (.srWrite q v)) s fun t =>
      t.tap.instr = BitVec.ofNat 5 (16 + code.val) ∧ t.busErr = false ∧ t.trio = { s.trio with core := s.trio.core.setSr q.toNat v } ∧ NoLog s t ∧
        Keeps [] s t) ∧
  (∀ (s : State) (code : Fin 15) (n : Fin 8), debugOpen s = true → halted s = true → Does (.authenticatedDebugPort code (.capRead n)) s fun t =>
      t.tap.instr = BitVec.ofNat 5 (16 + code.val) ∧ t.busErr = false ∧ t.tap.dr.extractLsb' 0 128 = (s.trio.core.cap n).bits ∧
        t.tap.dr.getLsbD 128 = (s.trio.core.cap n).tag ∧ t.trio = s.trio ∧ NoLog s t ∧ Keeps [] s t) ∧
  (∀ (s : State) (code : Fin 15) (n : Fin 8) (b : Bool) (u : BitVec 128), debugOpen s = true → halted s = true → Cap.wf ⟨b, u⟩ = true → Does (.authenticatedDebugPort code (.capWrite n b u)) s fun t =>
      t.tap.instr = BitVec.ofNat 5 (16 + code.val) ∧ t.busErr = false ∧ t.trio = { s.trio with core := s.trio.core.setCap n ⟨b, u⟩ } ∧ NoLog s t ∧
        Keeps [] s t) ∧
  (∀ (s : State) (code : Fin 15), debugOpen s = true → halted s = true → Does (.authenticatedDebugPort code .pcRead) s fun t =>
      t.tap.instr = BitVec.ofNat 5 (16 + code.val) ∧ t.busErr = false ∧ t.rdata = s.trio.core.pc ∧ t.trio = s.trio ∧ NoLog s t ∧ Keeps [] s t) ∧
  (∀ (s : State) (code : Fin 15) (v : Word), debugOpen s = true → halted s = true → Does (.authenticatedDebugPort code (.pcWrite v)) s fun t =>
      t.tap.instr = BitVec.ofNat 5 (16 + code.val) ∧ t.busErr = false ∧
        t.trio = { s.trio with core := { s.trio.core with pc := v &&& 0xFFFFFFFC } } ∧ NoLog s t ∧ Keeps [] s t) ∧
  (∀ (s : State) (code : Fin 15) (k : Fin 32) (v : Word) (op : DebugOp), debugOpen s = true → halted s = false →
    op ∈ ([.regRead k, .regWrite k v, .pcRead, .pcWrite v] : List DebugOp) → Does (.authenticatedDebugPort code op) s fun t =>
      t.busErr = true ∧ t.trio = s.trio ∧ NoLog s t ∧ Keeps [] s t) ∧
  (∀ (s : State) (code : Fin 15) (i : Nat), debugOpen s = true → i < 0x20000 → bankServes (0x20000000 + 4 * i) s = true →
    isBad (0x20000000 + 4 * i) s = false → Does (.authenticatedDebugPort code (.memRead (BitVec.ofNat 32 (0x20000000 + 4 * i)))) s fun t =>
      t.rdata = s.memWord (0x20000000 + 4 * i) ∧ t.busErr = false ∧ t.trio = s.trio ∧ NoLog s t ∧ Keeps [] s t) ∧
  (∀ (s : State) (code : Fin 15) (i : Nat) (w : Word), debugOpen s = true → i < 0x20000 → bankServes (0x20000000 + 4 * i) s = true →
    halted s = false → Does (.authenticatedDebugPort code (.memWrite (BitVec.ofNat 32 (0x20000000 + 4 * i)) (bytesOfWord w))) s fun t =>
      t.memWord (0x20000000 + 4 * i) = w ∧ tagOf (0x20000000 + 4 * i) t = false ∧ t.busErr = false ∧ t.trio = s.trio ∧ NoLog s t ∧
        Stores [] (0x20000000 + 4 * i) 4 s t) ∧
  (∀ (s : State), ((List.range 8).all (fun k => mbOwner k s != 6) = true) → Does .debugSessionEnd s fun t =>
      t.tap = { s.tap with session := false } ∧ NoLog s t ∧ Keeps [] s t) ∧
  (∀ (s : State) (k : Fin 8), mbOwner k.val s = 6 → ((List.range 8).all (fun j => j == k.val || mbOwner j s != 6) = true) →
    (mapFind s.lim (0x0D0010 + k.val)).getD 0 = 0 → Does .debugSessionEnd s fun t =>
      t.tap.session = false ∧ mbOwner k.val t = 0 ∧ Logged 0x0D 1 [b8 k.val, 6, 2] s t ∧ Keeps [Reg.MBk_STAT k.val] s t)

/-- Every ticketed action: a repeated nonzero ticket is ignored entirely, any other write is remembered (R20, R21, R22; tier 2, derived). For every action
command, a write whose ticket is not 0x00 and equals the register's remembered ticket leaves the whole state as it was; every other write, one with
ticket 0x00 among them, leaves its ticket, argument and action in the register. The ARG bits that an unlisted action keeps are the model's choice (log
entry 44). -/
def Obligations.RepeatedTickets : Prop :=
  (∀ (s : State) (ticket : Byte) (arg : BitVec 16) (c : Instr) (act : Nat), (c, act) ∈ [(Instr.devreset ticket arg, Reg.SYS_ACT), (Instr.clkactReturn ticket arg, Reg.SYS_CLKACT), (Instr.reacquire ticket arg, Reg.ANG_ACT), (Instr.compensatorClear ticket arg, Reg.MRV_ACT), (Instr.balanceClear ticket arg, Reg.MRV_ACT), (Instr.protClear ticket arg, Reg.PROT_ACT), (Instr.abort ticket arg, Reg.PROT_ACT), (Instr.restoreph ticket arg, Reg.PROT_ACT), (Instr.unfreeze ticket arg, Reg.EDGE_ACT), (Instr.release ticket arg, Reg.EDGE_ACT), (Instr.rotate ticket arg, Reg.GATH_ACT), (Instr.calslice ticket arg, Reg.GATH_ACT), (Instr.retire ticket arg, Reg.GATH_ACT), (Instr.restore ticket arg, Reg.GATH_ACT), (Instr.start ticket arg, Reg.GATH_ACT), (Instr.retrain ticket arg, Reg.APR_ACT), (Instr.seqreset ticket arg, Reg.APR_ACT), (Instr.cuStart ticket arg, Reg.CNT_ACT), (Instr.cuReset ticket arg, Reg.CNT_ACT), (Instr.startReset ticket arg, Reg.CNT_ACT), (Instr.capture ticket arg, Reg.CNT_ACT), (Instr.swtrig ticket arg, Reg.EVM_ACT), (Instr.trioResetAction ticket arg, Reg.TRIO_ACT), (Instr.kick ticket arg, Reg.TRIO_ACT), (Instr.exec ticket arg, Reg.XSPI_ACT), (Instr.program ticket arg, Reg.LCS_ACT), (Instr.transition ticket arg, Reg.LCS_ACT), (Instr.arver ticket arg, Reg.LCS_ACT), (Instr.revoke ticket arg, Reg.LCS_ACT), (Instr.post ticket arg, Reg.HIF_ACT), (Instr.break ticket arg, Reg.MBX_ACT), (Instr.controllerExec ticket arg, Reg.TW_ACT), (Instr.twReset ticket arg, Reg.TW_ACT), (Instr.request ticket arg, Reg.TW_ACT), (Instr.reconnect ticket arg, Reg.USB_ACT), (Instr.motorRelease ticket arg, Reg.MOT_ACT), (Instr.motorClear ticket arg, Reg.MOT_ACT), (Instr.setpos ticket arg, Reg.FB_ACT), (Instr.scan ticket arg, Reg.CAP_ACT), (Instr.recal ticket arg, Reg.CAP_ACT), (Instr.capAbort ticket arg, Reg.CAP_ACT), (Instr.blockreset ticket arg, Reg.PWR_ACT), (Instr.snap ticket arg, Reg.LOG_ACT), (Instr.fwentry ticket arg, Reg.LOG_ACT)] →
    slotOn act s = true → ticket ≠ 0 → ticket = (s.rd act).extractLsb' 24 8 → Does c s fun t =>
      t = s) ∧
  (∀ (s : State) (ticket : Byte) (arg : BitVec 16) (c : Instr) (act : Nat) (action : Byte), (c, act, action) ∈ [(Instr.clkactReturn ticket arg, Reg.SYS_CLKACT, 1), (Instr.reacquire ticket arg, Reg.ANG_ACT, 1), (Instr.compensatorClear ticket arg, Reg.MRV_ACT, 1), (Instr.balanceClear ticket arg, Reg.MRV_ACT, 2), (Instr.protClear ticket arg, Reg.PROT_ACT, 1), (Instr.abort ticket arg, Reg.PROT_ACT, 2), (Instr.restoreph ticket arg, Reg.PROT_ACT, 3), (Instr.unfreeze ticket arg, Reg.EDGE_ACT, 2), (Instr.release ticket arg, Reg.EDGE_ACT, 4), (Instr.rotate ticket arg, Reg.GATH_ACT, 1), (Instr.calslice ticket arg, Reg.GATH_ACT, 3), (Instr.retire ticket arg, Reg.GATH_ACT, 4), (Instr.restore ticket arg, Reg.GATH_ACT, 5), (Instr.start ticket arg, Reg.GATH_ACT, 16), (Instr.retrain ticket arg, Reg.APR_ACT, 1), (Instr.seqreset ticket arg, Reg.APR_ACT, 2), (Instr.cuStart ticket arg, Reg.CNT_ACT, 1), (Instr.cuReset ticket arg, Reg.CNT_ACT, 2), (Instr.startReset ticket arg, Reg.CNT_ACT, 3), (Instr.capture ticket arg, Reg.CNT_ACT, 4), (Instr.swtrig ticket arg, Reg.EVM_ACT, 1), (Instr.trioResetAction ticket arg, Reg.TRIO_ACT, 1), (Instr.kick ticket arg, Reg.TRIO_ACT, 2), (Instr.exec ticket arg, Reg.XSPI_ACT, 1), (Instr.program ticket arg, Reg.LCS_ACT, 1), (Instr.transition ticket arg, Reg.LCS_ACT, 2), (Instr.arver ticket arg, Reg.LCS_ACT, 3), (Instr.revoke ticket arg, Reg.LCS_ACT, 4), (Instr.post ticket arg, Reg.HIF_ACT, 1), (Instr.break ticket arg, Reg.MBX_ACT, 1), (Instr.controllerExec ticket arg, Reg.TW_ACT, 1), (Instr.twReset ticket arg, Reg.TW_ACT, 3), (Instr.request ticket arg, Reg.TW_ACT, 2), (Instr.reconnect ticket arg, Reg.USB_ACT, 1), (Instr.motorRelease ticket arg, Reg.MOT_ACT, 3), (Instr.motorClear ticket arg, Reg.MOT_ACT, 1), (Instr.setpos ticket arg, Reg.FB_ACT, 1), (Instr.scan ticket arg, Reg.CAP_ACT, 1), (Instr.recal ticket arg, Reg.CAP_ACT, 3), (Instr.capAbort ticket arg, Reg.CAP_ACT, 4), (Instr.blockreset ticket arg, Reg.PWR_ACT, 1), (Instr.snap ticket arg, Reg.LOG_ACT, 1), (Instr.fwentry ticket arg, Reg.LOG_ACT, 2)] →
    slotOn act s = true → Fresh act ticket s → Does c s fun t =>
      t.rd act = actWord ticket (arg &&& argMask act action) action)

/-- Division by zero and the overflowing division complete without a trap, with the results of R259 (R259; tier 2, stated). At an ordinary boundary DIV
and DIVU by 0 write 0xFFFF_FFFF, REM and REMU by 0 write rs1, DIV of 0x8000_0000 by -1 writes 0x8000_0000 and REM of the same writes 0; each completes
and changes nothing else. -/
def Obligations.DivisionByZero : Prop :=
  (∀ (s : State) (w : Word), Boundary s → s.trio.core.reg (fRs2 w) = 0 → Does (.div w) s fun t =>
      Completes (fun c => c.setReg (fRd w) 0xFFFFFFFF) s t) ∧
  (∀ (s : State) (w : Word), Boundary s → s.trio.core.reg (fRs2 w) = 0 → Does (.divu w) s fun t =>
      Completes (fun c => c.setReg (fRd w) 0xFFFFFFFF) s t) ∧
  (∀ (s : State) (w : Word), Boundary s → s.trio.core.reg (fRs2 w) = 0 → Does (.rem w) s fun t =>
      Completes (fun c => c.setReg (fRd w) (c.reg (fRs1 w))) s t) ∧
  (∀ (s : State) (w : Word), Boundary s → s.trio.core.reg (fRs2 w) = 0 → Does (.remu w) s fun t =>
      Completes (fun c => c.setReg (fRd w) (c.reg (fRs1 w))) s t) ∧
  (∀ (s : State) (w : Word), Boundary s → s.trio.core.reg (fRs1 w) = 0x80000000 → s.trio.core.reg (fRs2 w) = 0xFFFFFFFF → Does (.div w) s fun t =>
      Completes (fun c => c.setReg (fRd w) 0x80000000) s t) ∧
  (∀ (s : State) (w : Word), Boundary s → s.trio.core.reg (fRs1 w) = 0x80000000 → s.trio.core.reg (fRs2 w) = 0xFFFFFFFF → Does (.rem w) s fun t =>
      Completes (fun c => c.setReg (fRd w) 0) s t)

/-- No Trio instruction makes an ill-formed tagged capability (R249, R282, R291, R293, R294, R295, R298; tier 3, derived). From every state whose core
capabilities all meet the conditions of R282 and whose g0 is 0, every Trio instruction that accesses no memory, taken traps, interrupts and double-
trap resets included, completes in a state of which the same holds. -/
def Obligations.InstructionsKeepCapabilities : Prop :=
  (∀ (i : Instr) (s : State), noAccess i = true → CapsOk s → Does i s CapsOk)

/-- Every step keeps the registers, the values in force and memory in canonical form (R11, R330; tier 3, derived). From every state whose register map,
map of values in force and memory have strictly rising keys and list no entry equal to what an unlisted key reads as, each step, a command or a tick,
goes on in a state of which the same holds. The canonical form is the model's own (log entries 4 and 7). -/
def Obligations.CanonicalForm : Prop :=
  (∀ s : State, s.mapsOk = true → ∃ t, step s = .next t ∧ t.mapsOk = true)
end

