-- ==== Sys2Proof/Laws/Map.lean ====
section
/-!
SUPPORT. Laws/Map.lean: the laws of the finite maps that hold registers and memory: a read after a write, what a write leaves alone, and that
every map operation keeps the canonical form.
-/
namespace Sys2Proof.Machine

variable {β : Type}

theorem mapFind_erase (m : List (Nat × β)) (a b : Nat) : mapFind (mapErase m a) b = if b = a then none else mapFind m b := by
  induction m with
  | nil => simp [mapErase, mapFind]
  | cons p m ih =>
    obtain ⟨k, v⟩ := p
    have e : mapErase ((k, v) :: m) a = if k = a then mapErase m a else (k, v) :: mapErase m a := by
      by_cases h : k = a <;> simp [mapErase, h]
    rw [e]
    by_cases h : k = a
    · subst h
      rw [if_pos rfl, ih]
      by_cases hb : b = k
      · simp [hb]
      · simp [hb, mapFind, Ne.symm hb]
    · rw [if_neg h]
      by_cases hb : k = b
      · subst hb; simp [mapFind, h]
      · simp [mapFind, hb, ih]

theorem mapFind_insert (m : List (Nat × β)) (a b : Nat) (v : β) (h : mapFind m a = none) :
    mapFind (mapInsert m a v) b = if b = a then some v else mapFind m b := by
  induction m with
  | nil => by_cases hb : a = b <;> simp [mapInsert, mapFind, hb, eq_comm]
  | cons p m ih =>
    obtain ⟨k, w⟩ := p
    have hk : k ≠ a := by rintro rfl; simp [mapFind] at h
    have h' : mapFind m a = none := by simpa [mapFind, hk] using h
    by_cases hl : a < k
    · by_cases hb : b = a
      · subst hb; simp [mapInsert, hl, mapFind]
      · simp [mapInsert, hl, mapFind, hb, Ne.symm hb]
    · by_cases hb : k = b
      · subst hb; simp [mapInsert, hl, mapFind, hk]
      · simp [mapInsert, hl, mapFind, hb, ih h']

/-- A key just set reads as its value, by the default where the value is the default. -/
theorem mapFind_put [DecidableEq β] (d : β) (m : List (Nat × β)) (a b : Nat) (v : β) :
    mapFind (mapPut d m a v) b = if b = a then (if v = d then none else some v) else mapFind m b := by
  unfold mapPut
  by_cases hv : v = d
  · simp [hv, mapFind_erase]
  · rw [if_neg hv, mapFind_insert _ _ _ _ (by simp [mapFind_erase])]
    by_cases hb : b = a <;> simp [hb, hv, mapFind_erase]

/-! ## The canonical form -/

theorem mapSorted_cons (p : Nat × β) (m : List (Nat × β)) : mapSorted (p :: m) = true ↔ (∀ q ∈ m, p.1 < q.1) ∧ mapSorted m = true := by
  induction m generalizing p with
  | nil => obtain ⟨k, v⟩ := p; simp [mapSorted]
  | cons q m ih =>
    obtain ⟨k, v⟩ := p
    obtain ⟨k', v'⟩ := q
    simp only [mapSorted, Bool.and_eq_true, decide_eq_true_eq, List.mem_cons, forall_eq_or_imp]
    constructor
    · rintro ⟨h1, h2⟩
      exact ⟨⟨h1, fun q hq => Nat.lt_trans h1 (((ih (k', v')).mp h2).1 q hq)⟩, h2⟩
    · rintro ⟨⟨h1, _⟩, h2⟩
      exact ⟨h1, h2⟩

theorem mapSorted_filter (p : Nat × β → Bool) (m : List (Nat × β)) (h : mapSorted m = true) : mapSorted (m.filter p) = true := by
  induction m with
  | nil => rfl
  | cons q m ih =>
    rw [mapSorted_cons] at h
    by_cases hp : p q = true
    · rw [List.filter_cons_of_pos hp, mapSorted_cons]
      exact ⟨fun r hr => h.1 r (List.mem_filter.mp hr).1, ih h.2⟩
    · rw [List.filter_cons_of_neg hp]
      exact ih h.2

theorem mem_mapInsert (m : List (Nat × β)) (a : Nat) (v : β) (q : Nat × β) (h : q ∈ mapInsert m a v) : q = (a, v) ∨ q ∈ m := by
  induction m with
  | nil => simpa [mapInsert] using h
  | cons p m ih =>
    obtain ⟨k, w⟩ := p
    unfold mapInsert at h
    by_cases hl : a < k
    · rw [if_pos hl] at h; simpa using h
    · rw [if_neg hl] at h
      rcases List.mem_cons.mp h with h | h
      · exact Or.inr (by simp [h])
      · rcases ih h with h | h
        · exact Or.inl h
        · exact Or.inr (by simp [h])

theorem mapSorted_insert (m : List (Nat × β)) (a : Nat) (v : β) (h : mapSorted m = true) (hn : ∀ q ∈ m, q.1 ≠ a) :
    mapSorted (mapInsert m a v) = true := by
  induction m with
  | nil => rfl
  | cons p m ih =>
    obtain ⟨k, w⟩ := p
    rw [mapSorted_cons] at h
    have hk : k ≠ a := hn (k, w) (by simp)
    unfold mapInsert
    by_cases hl : a < k
    · rw [if_pos hl, mapSorted_cons]
      refine ⟨fun q hq => ?_, by rw [mapSorted_cons]; exact h⟩
      rcases List.mem_cons.mp hq with rfl | hq
      · exact hl
      · exact Nat.lt_trans hl (h.1 q hq)
    · rw [if_neg hl, mapSorted_cons]
      refine ⟨fun q hq => ?_, ih h.2 (fun q hq => hn q (by simp [hq]))⟩
      rcases mem_mapInsert m a v q hq with rfl | hq
      · show k < a
        omega
      · exact h.1 q hq

/-- Dropping entries keeps the canonical form. -/
theorem mapWf_filter [DecidableEq β] (d : Nat → β) (p : Nat × β → Bool) (m : List (Nat × β)) (h : mapWf d m = true) :
    mapWf d (m.filter p) = true := by
  simp only [mapWf, Bool.and_eq_true, List.all_eq_true] at h ⊢
  exact ⟨mapSorted_filter p m h.1, fun q hq => h.2 q (List.mem_filter.mp hq).1⟩

/-- Setting a key keeps the canonical form. -/
theorem mapWf_put [DecidableEq β] (d : Nat → β) (m : List (Nat × β)) (a : Nat) (v : β) (h : mapWf d m = true) :
    mapWf d (mapPut (d a) m a v) = true := by
  have he : mapWf d (mapErase m a) = true := mapWf_filter d _ m h
  unfold mapPut
  by_cases hv : v = d a
  · rw [if_pos hv]; exact he
  · rw [if_neg hv]
    simp only [mapWf, Bool.and_eq_true, List.all_eq_true] at he ⊢
    refine ⟨mapSorted_insert _ a v he.1 (fun q hq => ?_), fun q hq => ?_⟩
    · have := (List.mem_filter.mp hq).2
      simpa using this
    · rcases mem_mapInsert _ a v q hq with rfl | hq
      · simpa using hv
      · exact he.2 q hq

/-- Erasing a range keeps the canonical form. -/
theorem mapWf_eraseRange [DecidableEq β] (d : Nat → β) (m : List (Nat × β)) (lo hi : Nat) (h : mapWf d m = true) :
    mapWf d (mapEraseRange m lo hi) = true := mapWf_filter d _ m h

end Sys2Proof.Machine
end

