-- ==== Sys2Proof/Laws/State.lean ====
section
/-!
SUPPORT. Laws/State.lean: what each basic update of the state leaves alone, one lemma per field, true by unfolding; the derived field updates
reduce to `State.put`.
-/
namespace Sys2Proof.Machine

variable (s : State)

@[simp] theorem State.wr_live (a : Nat) (w : Word) : (s.wr a w).live = s.live := rfl
@[simp] theorem State.wr_shadow (a : Nat) (w : Word) : (s.wr a w).shadow = s.shadow := rfl
@[simp] theorem State.wr_touch (a : Nat) (w : Word) : (s.wr a w).touch = s.touch := rfl
@[simp] theorem State.wr_pending (a : Nat) (w : Word) : (s.wr a w).pending = s.pending := rfl
@[simp] theorem State.wr_timers (a : Nat) (w : Word) : (s.wr a w).timers = s.timers := rfl
@[simp] theorem State.wr_free (a : Nat) (w : Word) : (s.wr a w).free = s.free := rfl
@[simp] theorem State.wr_rdata (a : Nat) (w : Word) : (s.wr a w).rdata = s.rdata := rfl
@[simp] theorem State.wr_busErr (a : Nat) (w : Word) : (s.wr a w).busErr = s.busErr := rfl
@[simp] theorem State.wr_clk (a : Nat) (w : Word) : (s.wr a w).clk = s.clk := rfl
@[simp] theorem State.wr_dom (a : Nat) (w : Word) : (s.wr a w).dom = s.dom := rfl
@[simp] theorem State.wr_acu (a : Nat) (w : Word) : (s.wr a w).acu = s.acu := rfl
@[simp] theorem State.wr_sync (a : Nat) (w : Word) : (s.wr a w).sync = s.sync := rfl
@[simp] theorem State.wr_cu (a : Nat) (w : Word) : (s.wr a w).cu = s.cu := rfl
@[simp] theorem State.wr_evm (a : Nat) (w : Word) : (s.wr a w).evm = s.evm := rfl
@[simp] theorem State.wr_log (a : Nat) (w : Word) : (s.wr a w).log = s.log := rfl
@[simp] theorem State.wr_gath (a : Nat) (w : Word) : (s.wr a w).gath = s.gath := rfl
@[simp] theorem State.wr_mem (a : Nat) (w : Word) : (s.wr a w).mem = s.mem := rfl
@[simp] theorem State.wr_lop (a : Nat) (w : Word) : (s.wr a w).lop = s.lop := rfl
@[simp] theorem State.wr_out (a : Nat) (w : Word) : (s.wr a w).out = s.out := rfl
@[simp] theorem State.wr_phase (a : Nat) (w : Word) : (s.wr a w).phase = s.phase := rfl
@[simp] theorem State.wr_mrv (a : Nat) (w : Word) : (s.wr a w).mrv = s.mrv := rfl
@[simp] theorem State.wr_prot (a : Nat) (w : Word) : (s.wr a w).prot = s.prot := rfl
@[simp] theorem State.wr_edge (a : Nat) (w : Word) : (s.wr a w).edge = s.edge := rfl
@[simp] theorem State.wr_par (a : Nat) (w : Word) : (s.wr a w).par = s.par := rfl
@[simp] theorem State.wr_ring (a : Nat) (w : Word) : (s.wr a w).ring = s.ring := rfl
@[simp] theorem State.wr_apr (a : Nat) (w : Word) : (s.wr a w).apr = s.apr := rfl
@[simp] theorem State.wr_trio (a : Nat) (w : Word) : (s.wr a w).trio = s.trio := rfl
@[simp] theorem State.wr_mst (a : Nat) (w : Word) : (s.wr a w).mst = s.mst := rfl
@[simp] theorem State.wr_boot (a : Nat) (w : Word) : (s.wr a w).boot = s.boot := rfl
@[simp] theorem State.wr_lim (a : Nat) (w : Word) : (s.wr a w).lim = s.lim := rfl
@[simp] theorem State.wr_mbx (a : Nat) (w : Word) : (s.wr a w).mbx = s.mbx := rfl
@[simp] theorem State.wr_hif (a : Nat) (w : Word) : (s.wr a w).hif = s.hif := rfl
@[simp] theorem State.wr_tw (a : Nat) (w : Word) : (s.wr a w).tw = s.tw := rfl
@[simp] theorem State.wr_avs (a : Nat) (w : Word) : (s.wr a w).avs = s.avs := rfl
@[simp] theorem State.wr_usb (a : Nat) (w : Word) : (s.wr a w).usb = s.usb := rfl
@[simp] theorem State.wr_pwr (a : Nat) (w : Word) : (s.wr a w).pwr = s.pwr := rfl
@[simp] theorem State.wr_mot (a : Nat) (w : Word) : (s.wr a w).mot = s.mot := rfl
@[simp] theorem State.wr_mlane (a : Nat) (w : Word) : (s.wr a w).mlane = s.mlane := rfl
@[simp] theorem State.wr_fb (a : Nat) (w : Word) : (s.wr a w).fb = s.fb := rfl
@[simp] theorem State.wr_cap (a : Nat) (w : Word) : (s.wr a w).cap = s.cap := rfl
@[simp] theorem State.wr_tap (a : Nat) (w : Word) : (s.wr a w).tap = s.tap := rfl

@[simp] theorem State.hw_live (a : Nat) (f : Word → Word) : (s.hw a f).live = s.live := rfl
@[simp] theorem State.hw_shadow (a : Nat) (f : Word → Word) : (s.hw a f).shadow = s.shadow := rfl
@[simp] theorem State.hw_pending (a : Nat) (f : Word → Word) : (s.hw a f).pending = s.pending := rfl
@[simp] theorem State.hw_timers (a : Nat) (f : Word → Word) : (s.hw a f).timers = s.timers := rfl
@[simp] theorem State.hw_free (a : Nat) (f : Word → Word) : (s.hw a f).free = s.free := rfl
@[simp] theorem State.hw_rdata (a : Nat) (f : Word → Word) : (s.hw a f).rdata = s.rdata := rfl
@[simp] theorem State.hw_busErr (a : Nat) (f : Word → Word) : (s.hw a f).busErr = s.busErr := rfl
@[simp] theorem State.hw_clk (a : Nat) (f : Word → Word) : (s.hw a f).clk = s.clk := rfl
@[simp] theorem State.hw_dom (a : Nat) (f : Word → Word) : (s.hw a f).dom = s.dom := rfl
@[simp] theorem State.hw_acu (a : Nat) (f : Word → Word) : (s.hw a f).acu = s.acu := rfl
@[simp] theorem State.hw_sync (a : Nat) (f : Word → Word) : (s.hw a f).sync = s.sync := rfl
@[simp] theorem State.hw_cu (a : Nat) (f : Word → Word) : (s.hw a f).cu = s.cu := rfl
@[simp] theorem State.hw_evm (a : Nat) (f : Word → Word) : (s.hw a f).evm = s.evm := rfl
@[simp] theorem State.hw_log (a : Nat) (f : Word → Word) : (s.hw a f).log = s.log := rfl
@[simp] theorem State.hw_gath (a : Nat) (f : Word → Word) : (s.hw a f).gath = s.gath := rfl
@[simp] theorem State.hw_mem (a : Nat) (f : Word → Word) : (s.hw a f).mem = s.mem := rfl
@[simp] theorem State.hw_lop (a : Nat) (f : Word → Word) : (s.hw a f).lop = s.lop := rfl
@[simp] theorem State.hw_out (a : Nat) (f : Word → Word) : (s.hw a f).out = s.out := rfl
@[simp] theorem State.hw_phase (a : Nat) (f : Word → Word) : (s.hw a f).phase = s.phase := rfl
@[simp] theorem State.hw_mrv (a : Nat) (f : Word → Word) : (s.hw a f).mrv = s.mrv := rfl
@[simp] theorem State.hw_prot (a : Nat) (f : Word → Word) : (s.hw a f).prot = s.prot := rfl
@[simp] theorem State.hw_edge (a : Nat) (f : Word → Word) : (s.hw a f).edge = s.edge := rfl
@[simp] theorem State.hw_par (a : Nat) (f : Word → Word) : (s.hw a f).par = s.par := rfl
@[simp] theorem State.hw_ring (a : Nat) (f : Word → Word) : (s.hw a f).ring = s.ring := rfl
@[simp] theorem State.hw_apr (a : Nat) (f : Word → Word) : (s.hw a f).apr = s.apr := rfl
@[simp] theorem State.hw_trio (a : Nat) (f : Word → Word) : (s.hw a f).trio = s.trio := rfl
@[simp] theorem State.hw_mst (a : Nat) (f : Word → Word) : (s.hw a f).mst = s.mst := rfl
@[simp] theorem State.hw_boot (a : Nat) (f : Word → Word) : (s.hw a f).boot = s.boot := rfl
@[simp] theorem State.hw_lim (a : Nat) (f : Word → Word) : (s.hw a f).lim = s.lim := rfl
@[simp] theorem State.hw_mbx (a : Nat) (f : Word → Word) : (s.hw a f).mbx = s.mbx := rfl
@[simp] theorem State.hw_hif (a : Nat) (f : Word → Word) : (s.hw a f).hif = s.hif := rfl
@[simp] theorem State.hw_tw (a : Nat) (f : Word → Word) : (s.hw a f).tw = s.tw := rfl
@[simp] theorem State.hw_avs (a : Nat) (f : Word → Word) : (s.hw a f).avs = s.avs := rfl
@[simp] theorem State.hw_usb (a : Nat) (f : Word → Word) : (s.hw a f).usb = s.usb := rfl
@[simp] theorem State.hw_pwr (a : Nat) (f : Word → Word) : (s.hw a f).pwr = s.pwr := rfl
@[simp] theorem State.hw_mot (a : Nat) (f : Word → Word) : (s.hw a f).mot = s.mot := rfl
@[simp] theorem State.hw_mlane (a : Nat) (f : Word → Word) : (s.hw a f).mlane = s.mlane := rfl
@[simp] theorem State.hw_fb (a : Nat) (f : Word → Word) : (s.hw a f).fb = s.fb := rfl
@[simp] theorem State.hw_cap (a : Nat) (f : Word → Word) : (s.hw a f).cap = s.cap := rfl
@[simp] theorem State.hw_tap (a : Nat) (f : Word → Word) : (s.hw a f).tap = s.tap := rfl

@[simp] theorem State.put_live (x : Fld) (v : Nat) : (s.put x v).live = s.live := rfl
@[simp] theorem State.put_shadow (x : Fld) (v : Nat) : (s.put x v).shadow = s.shadow := rfl
@[simp] theorem State.put_pending (x : Fld) (v : Nat) : (s.put x v).pending = s.pending := rfl
@[simp] theorem State.put_timers (x : Fld) (v : Nat) : (s.put x v).timers = s.timers := rfl
@[simp] theorem State.put_free (x : Fld) (v : Nat) : (s.put x v).free = s.free := rfl
@[simp] theorem State.put_rdata (x : Fld) (v : Nat) : (s.put x v).rdata = s.rdata := rfl
@[simp] theorem State.put_busErr (x : Fld) (v : Nat) : (s.put x v).busErr = s.busErr := rfl
@[simp] theorem State.put_clk (x : Fld) (v : Nat) : (s.put x v).clk = s.clk := rfl
@[simp] theorem State.put_dom (x : Fld) (v : Nat) : (s.put x v).dom = s.dom := rfl
@[simp] theorem State.put_acu (x : Fld) (v : Nat) : (s.put x v).acu = s.acu := rfl
@[simp] theorem State.put_sync (x : Fld) (v : Nat) : (s.put x v).sync = s.sync := rfl
@[simp] theorem State.put_cu (x : Fld) (v : Nat) : (s.put x v).cu = s.cu := rfl
@[simp] theorem State.put_evm (x : Fld) (v : Nat) : (s.put x v).evm = s.evm := rfl
@[simp] theorem State.put_log (x : Fld) (v : Nat) : (s.put x v).log = s.log := rfl
@[simp] theorem State.put_gath (x : Fld) (v : Nat) : (s.put x v).gath = s.gath := rfl
@[simp] theorem State.put_mem (x : Fld) (v : Nat) : (s.put x v).mem = s.mem := rfl
@[simp] theorem State.put_lop (x : Fld) (v : Nat) : (s.put x v).lop = s.lop := rfl
@[simp] theorem State.put_out (x : Fld) (v : Nat) : (s.put x v).out = s.out := rfl
@[simp] theorem State.put_phase (x : Fld) (v : Nat) : (s.put x v).phase = s.phase := rfl
@[simp] theorem State.put_mrv (x : Fld) (v : Nat) : (s.put x v).mrv = s.mrv := rfl
@[simp] theorem State.put_prot (x : Fld) (v : Nat) : (s.put x v).prot = s.prot := rfl
@[simp] theorem State.put_edge (x : Fld) (v : Nat) : (s.put x v).edge = s.edge := rfl
@[simp] theorem State.put_par (x : Fld) (v : Nat) : (s.put x v).par = s.par := rfl
@[simp] theorem State.put_ring (x : Fld) (v : Nat) : (s.put x v).ring = s.ring := rfl
@[simp] theorem State.put_apr (x : Fld) (v : Nat) : (s.put x v).apr = s.apr := rfl
@[simp] theorem State.put_trio (x : Fld) (v : Nat) : (s.put x v).trio = s.trio := rfl
@[simp] theorem State.put_mst (x : Fld) (v : Nat) : (s.put x v).mst = s.mst := rfl
@[simp] theorem State.put_boot (x : Fld) (v : Nat) : (s.put x v).boot = s.boot := rfl
@[simp] theorem State.put_lim (x : Fld) (v : Nat) : (s.put x v).lim = s.lim := rfl
@[simp] theorem State.put_mbx (x : Fld) (v : Nat) : (s.put x v).mbx = s.mbx := rfl
@[simp] theorem State.put_hif (x : Fld) (v : Nat) : (s.put x v).hif = s.hif := rfl
@[simp] theorem State.put_tw (x : Fld) (v : Nat) : (s.put x v).tw = s.tw := rfl
@[simp] theorem State.put_avs (x : Fld) (v : Nat) : (s.put x v).avs = s.avs := rfl
@[simp] theorem State.put_usb (x : Fld) (v : Nat) : (s.put x v).usb = s.usb := rfl
@[simp] theorem State.put_pwr (x : Fld) (v : Nat) : (s.put x v).pwr = s.pwr := rfl
@[simp] theorem State.put_mot (x : Fld) (v : Nat) : (s.put x v).mot = s.mot := rfl
@[simp] theorem State.put_mlane (x : Fld) (v : Nat) : (s.put x v).mlane = s.mlane := rfl
@[simp] theorem State.put_fb (x : Fld) (v : Nat) : (s.put x v).fb = s.fb := rfl
@[simp] theorem State.put_cap (x : Fld) (v : Nat) : (s.put x v).cap = s.cap := rfl
@[simp] theorem State.put_tap (x : Fld) (v : Nat) : (s.put x v).tap = s.tap := rfl

@[simp] theorem State.setLive_regs (a : Nat) (w : Word) : (s.setLive a w).regs = s.regs := rfl
@[simp] theorem State.setLive_shadow (a : Nat) (w : Word) : (s.setLive a w).shadow = s.shadow := rfl
@[simp] theorem State.setLive_touch (a : Nat) (w : Word) : (s.setLive a w).touch = s.touch := rfl
@[simp] theorem State.setLive_pending (a : Nat) (w : Word) : (s.setLive a w).pending = s.pending := rfl
@[simp] theorem State.setLive_timers (a : Nat) (w : Word) : (s.setLive a w).timers = s.timers := rfl
@[simp] theorem State.setLive_free (a : Nat) (w : Word) : (s.setLive a w).free = s.free := rfl
@[simp] theorem State.setLive_rdata (a : Nat) (w : Word) : (s.setLive a w).rdata = s.rdata := rfl
@[simp] theorem State.setLive_busErr (a : Nat) (w : Word) : (s.setLive a w).busErr = s.busErr := rfl
@[simp] theorem State.setLive_clk (a : Nat) (w : Word) : (s.setLive a w).clk = s.clk := rfl
@[simp] theorem State.setLive_dom (a : Nat) (w : Word) : (s.setLive a w).dom = s.dom := rfl
@[simp] theorem State.setLive_acu (a : Nat) (w : Word) : (s.setLive a w).acu = s.acu := rfl
@[simp] theorem State.setLive_sync (a : Nat) (w : Word) : (s.setLive a w).sync = s.sync := rfl
@[simp] theorem State.setLive_cu (a : Nat) (w : Word) : (s.setLive a w).cu = s.cu := rfl
@[simp] theorem State.setLive_evm (a : Nat) (w : Word) : (s.setLive a w).evm = s.evm := rfl
@[simp] theorem State.setLive_log (a : Nat) (w : Word) : (s.setLive a w).log = s.log := rfl
@[simp] theorem State.setLive_gath (a : Nat) (w : Word) : (s.setLive a w).gath = s.gath := rfl
@[simp] theorem State.setLive_mem (a : Nat) (w : Word) : (s.setLive a w).mem = s.mem := rfl
@[simp] theorem State.setLive_lop (a : Nat) (w : Word) : (s.setLive a w).lop = s.lop := rfl
@[simp] theorem State.setLive_out (a : Nat) (w : Word) : (s.setLive a w).out = s.out := rfl
@[simp] theorem State.setLive_phase (a : Nat) (w : Word) : (s.setLive a w).phase = s.phase := rfl
@[simp] theorem State.setLive_mrv (a : Nat) (w : Word) : (s.setLive a w).mrv = s.mrv := rfl
@[simp] theorem State.setLive_prot (a : Nat) (w : Word) : (s.setLive a w).prot = s.prot := rfl
@[simp] theorem State.setLive_edge (a : Nat) (w : Word) : (s.setLive a w).edge = s.edge := rfl
@[simp] theorem State.setLive_par (a : Nat) (w : Word) : (s.setLive a w).par = s.par := rfl
@[simp] theorem State.setLive_ring (a : Nat) (w : Word) : (s.setLive a w).ring = s.ring := rfl
@[simp] theorem State.setLive_apr (a : Nat) (w : Word) : (s.setLive a w).apr = s.apr := rfl
@[simp] theorem State.setLive_trio (a : Nat) (w : Word) : (s.setLive a w).trio = s.trio := rfl
@[simp] theorem State.setLive_mst (a : Nat) (w : Word) : (s.setLive a w).mst = s.mst := rfl
@[simp] theorem State.setLive_boot (a : Nat) (w : Word) : (s.setLive a w).boot = s.boot := rfl
@[simp] theorem State.setLive_lim (a : Nat) (w : Word) : (s.setLive a w).lim = s.lim := rfl
@[simp] theorem State.setLive_mbx (a : Nat) (w : Word) : (s.setLive a w).mbx = s.mbx := rfl
@[simp] theorem State.setLive_hif (a : Nat) (w : Word) : (s.setLive a w).hif = s.hif := rfl
@[simp] theorem State.setLive_tw (a : Nat) (w : Word) : (s.setLive a w).tw = s.tw := rfl
@[simp] theorem State.setLive_avs (a : Nat) (w : Word) : (s.setLive a w).avs = s.avs := rfl
@[simp] theorem State.setLive_usb (a : Nat) (w : Word) : (s.setLive a w).usb = s.usb := rfl
@[simp] theorem State.setLive_pwr (a : Nat) (w : Word) : (s.setLive a w).pwr = s.pwr := rfl
@[simp] theorem State.setLive_mot (a : Nat) (w : Word) : (s.setLive a w).mot = s.mot := rfl
@[simp] theorem State.setLive_mlane (a : Nat) (w : Word) : (s.setLive a w).mlane = s.mlane := rfl
@[simp] theorem State.setLive_fb (a : Nat) (w : Word) : (s.setLive a w).fb = s.fb := rfl
@[simp] theorem State.setLive_cap (a : Nat) (w : Word) : (s.setLive a w).cap = s.cap := rfl
@[simp] theorem State.setLive_tap (a : Nat) (w : Word) : (s.setLive a w).tap = s.tap := rfl

@[simp] theorem State.after_regs (n : Nat) (c : Instr) : (s.after n c).regs = s.regs := rfl
@[simp] theorem State.after_live (n : Nat) (c : Instr) : (s.after n c).live = s.live := rfl
@[simp] theorem State.after_shadow (n : Nat) (c : Instr) : (s.after n c).shadow = s.shadow := rfl
@[simp] theorem State.after_touch (n : Nat) (c : Instr) : (s.after n c).touch = s.touch := rfl
@[simp] theorem State.after_pending (n : Nat) (c : Instr) : (s.after n c).pending = s.pending := rfl
@[simp] theorem State.after_free (n : Nat) (c : Instr) : (s.after n c).free = s.free := rfl
@[simp] theorem State.after_rdata (n : Nat) (c : Instr) : (s.after n c).rdata = s.rdata := rfl
@[simp] theorem State.after_busErr (n : Nat) (c : Instr) : (s.after n c).busErr = s.busErr := rfl
@[simp] theorem State.after_clk (n : Nat) (c : Instr) : (s.after n c).clk = s.clk := rfl
@[simp] theorem State.after_dom (n : Nat) (c : Instr) : (s.after n c).dom = s.dom := rfl
@[simp] theorem State.after_acu (n : Nat) (c : Instr) : (s.after n c).acu = s.acu := rfl
@[simp] theorem State.after_sync (n : Nat) (c : Instr) : (s.after n c).sync = s.sync := rfl
@[simp] theorem State.after_cu (n : Nat) (c : Instr) : (s.after n c).cu = s.cu := rfl
@[simp] theorem State.after_evm (n : Nat) (c : Instr) : (s.after n c).evm = s.evm := rfl
@[simp] theorem State.after_log (n : Nat) (c : Instr) : (s.after n c).log = s.log := rfl
@[simp] theorem State.after_gath (n : Nat) (c : Instr) : (s.after n c).gath = s.gath := rfl
@[simp] theorem State.after_mem (n : Nat) (c : Instr) : (s.after n c).mem = s.mem := rfl
@[simp] theorem State.after_lop (n : Nat) (c : Instr) : (s.after n c).lop = s.lop := rfl
@[simp] theorem State.after_out (n : Nat) (c : Instr) : (s.after n c).out = s.out := rfl
@[simp] theorem State.after_phase (n : Nat) (c : Instr) : (s.after n c).phase = s.phase := rfl
@[simp] theorem State.after_mrv (n : Nat) (c : Instr) : (s.after n c).mrv = s.mrv := rfl
@[simp] theorem State.after_prot (n : Nat) (c : Instr) : (s.after n c).prot = s.prot := rfl
@[simp] theorem State.after_edge (n : Nat) (c : Instr) : (s.after n c).edge = s.edge := rfl
@[simp] theorem State.after_par (n : Nat) (c : Instr) : (s.after n c).par = s.par := rfl
@[simp] theorem State.after_ring (n : Nat) (c : Instr) : (s.after n c).ring = s.ring := rfl
@[simp] theorem State.after_apr (n : Nat) (c : Instr) : (s.after n c).apr = s.apr := rfl
@[simp] theorem State.after_trio (n : Nat) (c : Instr) : (s.after n c).trio = s.trio := rfl
@[simp] theorem State.after_mst (n : Nat) (c : Instr) : (s.after n c).mst = s.mst := rfl
@[simp] theorem State.after_boot (n : Nat) (c : Instr) : (s.after n c).boot = s.boot := rfl
@[simp] theorem State.after_lim (n : Nat) (c : Instr) : (s.after n c).lim = s.lim := rfl
@[simp] theorem State.after_mbx (n : Nat) (c : Instr) : (s.after n c).mbx = s.mbx := rfl
@[simp] theorem State.after_hif (n : Nat) (c : Instr) : (s.after n c).hif = s.hif := rfl
@[simp] theorem State.after_tw (n : Nat) (c : Instr) : (s.after n c).tw = s.tw := rfl
@[simp] theorem State.after_avs (n : Nat) (c : Instr) : (s.after n c).avs = s.avs := rfl
@[simp] theorem State.after_usb (n : Nat) (c : Instr) : (s.after n c).usb = s.usb := rfl
@[simp] theorem State.after_pwr (n : Nat) (c : Instr) : (s.after n c).pwr = s.pwr := rfl
@[simp] theorem State.after_mot (n : Nat) (c : Instr) : (s.after n c).mot = s.mot := rfl
@[simp] theorem State.after_mlane (n : Nat) (c : Instr) : (s.after n c).mlane = s.mlane := rfl
@[simp] theorem State.after_fb (n : Nat) (c : Instr) : (s.after n c).fb = s.fb := rfl
@[simp] theorem State.after_cap (n : Nat) (c : Instr) : (s.after n c).cap = s.cap := rfl
@[simp] theorem State.after_tap (n : Nat) (c : Instr) : (s.after n c).tap = s.tap := rfl

@[simp] theorem State.cancel_regs (c : Instr) : (s.cancel c).regs = s.regs := rfl
@[simp] theorem State.cancel_live (c : Instr) : (s.cancel c).live = s.live := rfl
@[simp] theorem State.cancel_shadow (c : Instr) : (s.cancel c).shadow = s.shadow := rfl
@[simp] theorem State.cancel_touch (c : Instr) : (s.cancel c).touch = s.touch := rfl
@[simp] theorem State.cancel_pending (c : Instr) : (s.cancel c).pending = s.pending := rfl
@[simp] theorem State.cancel_free (c : Instr) : (s.cancel c).free = s.free := rfl
@[simp] theorem State.cancel_rdata (c : Instr) : (s.cancel c).rdata = s.rdata := rfl
@[simp] theorem State.cancel_busErr (c : Instr) : (s.cancel c).busErr = s.busErr := rfl
@[simp] theorem State.cancel_clk (c : Instr) : (s.cancel c).clk = s.clk := rfl
@[simp] theorem State.cancel_dom (c : Instr) : (s.cancel c).dom = s.dom := rfl
@[simp] theorem State.cancel_acu (c : Instr) : (s.cancel c).acu = s.acu := rfl
@[simp] theorem State.cancel_sync (c : Instr) : (s.cancel c).sync = s.sync := rfl
@[simp] theorem State.cancel_cu (c : Instr) : (s.cancel c).cu = s.cu := rfl
@[simp] theorem State.cancel_evm (c : Instr) : (s.cancel c).evm = s.evm := rfl
@[simp] theorem State.cancel_log (c : Instr) : (s.cancel c).log = s.log := rfl
@[simp] theorem State.cancel_gath (c : Instr) : (s.cancel c).gath = s.gath := rfl
@[simp] theorem State.cancel_mem (c : Instr) : (s.cancel c).mem = s.mem := rfl
@[simp] theorem State.cancel_lop (c : Instr) : (s.cancel c).lop = s.lop := rfl
@[simp] theorem State.cancel_out (c : Instr) : (s.cancel c).out = s.out := rfl
@[simp] theorem State.cancel_phase (c : Instr) : (s.cancel c).phase = s.phase := rfl
@[simp] theorem State.cancel_mrv (c : Instr) : (s.cancel c).mrv = s.mrv := rfl
@[simp] theorem State.cancel_prot (c : Instr) : (s.cancel c).prot = s.prot := rfl
@[simp] theorem State.cancel_edge (c : Instr) : (s.cancel c).edge = s.edge := rfl
@[simp] theorem State.cancel_par (c : Instr) : (s.cancel c).par = s.par := rfl
@[simp] theorem State.cancel_ring (c : Instr) : (s.cancel c).ring = s.ring := rfl
@[simp] theorem State.cancel_apr (c : Instr) : (s.cancel c).apr = s.apr := rfl
@[simp] theorem State.cancel_trio (c : Instr) : (s.cancel c).trio = s.trio := rfl
@[simp] theorem State.cancel_mst (c : Instr) : (s.cancel c).mst = s.mst := rfl
@[simp] theorem State.cancel_boot (c : Instr) : (s.cancel c).boot = s.boot := rfl
@[simp] theorem State.cancel_lim (c : Instr) : (s.cancel c).lim = s.lim := rfl
@[simp] theorem State.cancel_mbx (c : Instr) : (s.cancel c).mbx = s.mbx := rfl
@[simp] theorem State.cancel_hif (c : Instr) : (s.cancel c).hif = s.hif := rfl
@[simp] theorem State.cancel_tw (c : Instr) : (s.cancel c).tw = s.tw := rfl
@[simp] theorem State.cancel_avs (c : Instr) : (s.cancel c).avs = s.avs := rfl
@[simp] theorem State.cancel_usb (c : Instr) : (s.cancel c).usb = s.usb := rfl
@[simp] theorem State.cancel_pwr (c : Instr) : (s.cancel c).pwr = s.pwr := rfl
@[simp] theorem State.cancel_mot (c : Instr) : (s.cancel c).mot = s.mot := rfl
@[simp] theorem State.cancel_mlane (c : Instr) : (s.cancel c).mlane = s.mlane := rfl
@[simp] theorem State.cancel_fb (c : Instr) : (s.cancel c).fb = s.fb := rfl
@[simp] theorem State.cancel_cap (c : Instr) : (s.cancel c).cap = s.cap := rfl
@[simp] theorem State.cancel_tap (c : Instr) : (s.cancel c).tap = s.tap := rfl

@[simp] theorem State.draw_regs : (s.draw).regs = s.regs := rfl
@[simp] theorem State.draw_live : (s.draw).live = s.live := rfl
@[simp] theorem State.draw_shadow : (s.draw).shadow = s.shadow := rfl
@[simp] theorem State.draw_touch : (s.draw).touch = s.touch := rfl
@[simp] theorem State.draw_pending : (s.draw).pending = s.pending := rfl
@[simp] theorem State.draw_timers : (s.draw).timers = s.timers := rfl
@[simp] theorem State.draw_rdata : (s.draw).rdata = s.rdata := rfl
@[simp] theorem State.draw_busErr : (s.draw).busErr = s.busErr := rfl
@[simp] theorem State.draw_clk : (s.draw).clk = s.clk := rfl
@[simp] theorem State.draw_dom : (s.draw).dom = s.dom := rfl
@[simp] theorem State.draw_acu : (s.draw).acu = s.acu := rfl
@[simp] theorem State.draw_sync : (s.draw).sync = s.sync := rfl
@[simp] theorem State.draw_cu : (s.draw).cu = s.cu := rfl
@[simp] theorem State.draw_evm : (s.draw).evm = s.evm := rfl
@[simp] theorem State.draw_log : (s.draw).log = s.log := rfl
@[simp] theorem State.draw_gath : (s.draw).gath = s.gath := rfl
@[simp] theorem State.draw_mem : (s.draw).mem = s.mem := rfl
@[simp] theorem State.draw_lop : (s.draw).lop = s.lop := rfl
@[simp] theorem State.draw_out : (s.draw).out = s.out := rfl
@[simp] theorem State.draw_phase : (s.draw).phase = s.phase := rfl
@[simp] theorem State.draw_mrv : (s.draw).mrv = s.mrv := rfl
@[simp] theorem State.draw_prot : (s.draw).prot = s.prot := rfl
@[simp] theorem State.draw_edge : (s.draw).edge = s.edge := rfl
@[simp] theorem State.draw_par : (s.draw).par = s.par := rfl
@[simp] theorem State.draw_ring : (s.draw).ring = s.ring := rfl
@[simp] theorem State.draw_apr : (s.draw).apr = s.apr := rfl
@[simp] theorem State.draw_trio : (s.draw).trio = s.trio := rfl
@[simp] theorem State.draw_mst : (s.draw).mst = s.mst := rfl
@[simp] theorem State.draw_boot : (s.draw).boot = s.boot := rfl
@[simp] theorem State.draw_lim : (s.draw).lim = s.lim := rfl
@[simp] theorem State.draw_mbx : (s.draw).mbx = s.mbx := rfl
@[simp] theorem State.draw_hif : (s.draw).hif = s.hif := rfl
@[simp] theorem State.draw_tw : (s.draw).tw = s.tw := rfl
@[simp] theorem State.draw_avs : (s.draw).avs = s.avs := rfl
@[simp] theorem State.draw_usb : (s.draw).usb = s.usb := rfl
@[simp] theorem State.draw_pwr : (s.draw).pwr = s.pwr := rfl
@[simp] theorem State.draw_mot : (s.draw).mot = s.mot := rfl
@[simp] theorem State.draw_mlane : (s.draw).mlane = s.mlane := rfl
@[simp] theorem State.draw_fb : (s.draw).fb = s.fb := rfl
@[simp] theorem State.draw_cap : (s.draw).cap = s.cap := rfl
@[simp] theorem State.draw_tap : (s.draw).tap = s.tap := rfl

@[simp] theorem State.setByte_regs (a : Nat) (b : Byte) : (s.setByte a b).regs = s.regs := rfl
@[simp] theorem State.setByte_live (a : Nat) (b : Byte) : (s.setByte a b).live = s.live := rfl
@[simp] theorem State.setByte_shadow (a : Nat) (b : Byte) : (s.setByte a b).shadow = s.shadow := rfl
@[simp] theorem State.setByte_touch (a : Nat) (b : Byte) : (s.setByte a b).touch = s.touch := rfl
@[simp] theorem State.setByte_pending (a : Nat) (b : Byte) : (s.setByte a b).pending = s.pending := rfl
@[simp] theorem State.setByte_timers (a : Nat) (b : Byte) : (s.setByte a b).timers = s.timers := rfl
@[simp] theorem State.setByte_free (a : Nat) (b : Byte) : (s.setByte a b).free = s.free := rfl
@[simp] theorem State.setByte_rdata (a : Nat) (b : Byte) : (s.setByte a b).rdata = s.rdata := rfl
@[simp] theorem State.setByte_busErr (a : Nat) (b : Byte) : (s.setByte a b).busErr = s.busErr := rfl
@[simp] theorem State.setByte_clk (a : Nat) (b : Byte) : (s.setByte a b).clk = s.clk := rfl
@[simp] theorem State.setByte_dom (a : Nat) (b : Byte) : (s.setByte a b).dom = s.dom := rfl
@[simp] theorem State.setByte_acu (a : Nat) (b : Byte) : (s.setByte a b).acu = s.acu := rfl
@[simp] theorem State.setByte_sync (a : Nat) (b : Byte) : (s.setByte a b).sync = s.sync := rfl
@[simp] theorem State.setByte_cu (a : Nat) (b : Byte) : (s.setByte a b).cu = s.cu := rfl
@[simp] theorem State.setByte_evm (a : Nat) (b : Byte) : (s.setByte a b).evm = s.evm := rfl
@[simp] theorem State.setByte_log (a : Nat) (b : Byte) : (s.setByte a b).log = s.log := rfl
@[simp] theorem State.setByte_gath (a : Nat) (b : Byte) : (s.setByte a b).gath = s.gath := rfl
@[simp] theorem State.setByte_lop (a : Nat) (b : Byte) : (s.setByte a b).lop = s.lop := rfl
@[simp] theorem State.setByte_out (a : Nat) (b : Byte) : (s.setByte a b).out = s.out := rfl
@[simp] theorem State.setByte_phase (a : Nat) (b : Byte) : (s.setByte a b).phase = s.phase := rfl
@[simp] theorem State.setByte_mrv (a : Nat) (b : Byte) : (s.setByte a b).mrv = s.mrv := rfl
@[simp] theorem State.setByte_prot (a : Nat) (b : Byte) : (s.setByte a b).prot = s.prot := rfl
@[simp] theorem State.setByte_edge (a : Nat) (b : Byte) : (s.setByte a b).edge = s.edge := rfl
@[simp] theorem State.setByte_par (a : Nat) (b : Byte) : (s.setByte a b).par = s.par := rfl
@[simp] theorem State.setByte_ring (a : Nat) (b : Byte) : (s.setByte a b).ring = s.ring := rfl
@[simp] theorem State.setByte_apr (a : Nat) (b : Byte) : (s.setByte a b).apr = s.apr := rfl
@[simp] theorem State.setByte_trio (a : Nat) (b : Byte) : (s.setByte a b).trio = s.trio := rfl
@[simp] theorem State.setByte_mst (a : Nat) (b : Byte) : (s.setByte a b).mst = s.mst := rfl
@[simp] theorem State.setByte_boot (a : Nat) (b : Byte) : (s.setByte a b).boot = s.boot := rfl
@[simp] theorem State.setByte_lim (a : Nat) (b : Byte) : (s.setByte a b).lim = s.lim := rfl
@[simp] theorem State.setByte_mbx (a : Nat) (b : Byte) : (s.setByte a b).mbx = s.mbx := rfl
@[simp] theorem State.setByte_hif (a : Nat) (b : Byte) : (s.setByte a b).hif = s.hif := rfl
@[simp] theorem State.setByte_tw (a : Nat) (b : Byte) : (s.setByte a b).tw = s.tw := rfl
@[simp] theorem State.setByte_avs (a : Nat) (b : Byte) : (s.setByte a b).avs = s.avs := rfl
@[simp] theorem State.setByte_usb (a : Nat) (b : Byte) : (s.setByte a b).usb = s.usb := rfl
@[simp] theorem State.setByte_pwr (a : Nat) (b : Byte) : (s.setByte a b).pwr = s.pwr := rfl
@[simp] theorem State.setByte_mot (a : Nat) (b : Byte) : (s.setByte a b).mot = s.mot := rfl
@[simp] theorem State.setByte_mlane (a : Nat) (b : Byte) : (s.setByte a b).mlane = s.mlane := rfl
@[simp] theorem State.setByte_fb (a : Nat) (b : Byte) : (s.setByte a b).fb = s.fb := rfl
@[simp] theorem State.setByte_cap (a : Nat) (b : Byte) : (s.setByte a b).cap = s.cap := rfl
@[simp] theorem State.setByte_tap (a : Nat) (b : Byte) : (s.setByte a b).tap = s.tap := rfl

@[simp] theorem State.logReq_regs (b c : Nat) (d : List Byte) : (s.logReq b c d).regs = s.regs := rfl
@[simp] theorem State.logReq_live (b c : Nat) (d : List Byte) : (s.logReq b c d).live = s.live := rfl
@[simp] theorem State.logReq_shadow (b c : Nat) (d : List Byte) : (s.logReq b c d).shadow = s.shadow := rfl
@[simp] theorem State.logReq_touch (b c : Nat) (d : List Byte) : (s.logReq b c d).touch = s.touch := rfl
@[simp] theorem State.logReq_pending (b c : Nat) (d : List Byte) : (s.logReq b c d).pending = s.pending := rfl
@[simp] theorem State.logReq_timers (b c : Nat) (d : List Byte) : (s.logReq b c d).timers = s.timers := rfl
@[simp] theorem State.logReq_free (b c : Nat) (d : List Byte) : (s.logReq b c d).free = s.free := rfl
@[simp] theorem State.logReq_rdata (b c : Nat) (d : List Byte) : (s.logReq b c d).rdata = s.rdata := rfl
@[simp] theorem State.logReq_busErr (b c : Nat) (d : List Byte) : (s.logReq b c d).busErr = s.busErr := rfl
@[simp] theorem State.logReq_clk (b c : Nat) (d : List Byte) : (s.logReq b c d).clk = s.clk := rfl
@[simp] theorem State.logReq_dom (b c : Nat) (d : List Byte) : (s.logReq b c d).dom = s.dom := rfl
@[simp] theorem State.logReq_acu (b c : Nat) (d : List Byte) : (s.logReq b c d).acu = s.acu := rfl
@[simp] theorem State.logReq_sync (b c : Nat) (d : List Byte) : (s.logReq b c d).sync = s.sync := rfl
@[simp] theorem State.logReq_cu (b c : Nat) (d : List Byte) : (s.logReq b c d).cu = s.cu := rfl
@[simp] theorem State.logReq_evm (b c : Nat) (d : List Byte) : (s.logReq b c d).evm = s.evm := rfl
@[simp] theorem State.logReq_gath (b c : Nat) (d : List Byte) : (s.logReq b c d).gath = s.gath := rfl
@[simp] theorem State.logReq_mem (b c : Nat) (d : List Byte) : (s.logReq b c d).mem = s.mem := rfl
@[simp] theorem State.logReq_lop (b c : Nat) (d : List Byte) : (s.logReq b c d).lop = s.lop := rfl
@[simp] theorem State.logReq_out (b c : Nat) (d : List Byte) : (s.logReq b c d).out = s.out := rfl
@[simp] theorem State.logReq_phase (b c : Nat) (d : List Byte) : (s.logReq b c d).phase = s.phase := rfl
@[simp] theorem State.logReq_mrv (b c : Nat) (d : List Byte) : (s.logReq b c d).mrv = s.mrv := rfl
@[simp] theorem State.logReq_prot (b c : Nat) (d : List Byte) : (s.logReq b c d).prot = s.prot := rfl
@[simp] theorem State.logReq_edge (b c : Nat) (d : List Byte) : (s.logReq b c d).edge = s.edge := rfl
@[simp] theorem State.logReq_par (b c : Nat) (d : List Byte) : (s.logReq b c d).par = s.par := rfl
@[simp] theorem State.logReq_ring (b c : Nat) (d : List Byte) : (s.logReq b c d).ring = s.ring := rfl
@[simp] theorem State.logReq_apr (b c : Nat) (d : List Byte) : (s.logReq b c d).apr = s.apr := rfl
@[simp] theorem State.logReq_trio (b c : Nat) (d : List Byte) : (s.logReq b c d).trio = s.trio := rfl
@[simp] theorem State.logReq_mst (b c : Nat) (d : List Byte) : (s.logReq b c d).mst = s.mst := rfl
@[simp] theorem State.logReq_boot (b c : Nat) (d : List Byte) : (s.logReq b c d).boot = s.boot := rfl
@[simp] theorem State.logReq_lim (b c : Nat) (d : List Byte) : (s.logReq b c d).lim = s.lim := rfl
@[simp] theorem State.logReq_mbx (b c : Nat) (d : List Byte) : (s.logReq b c d).mbx = s.mbx := rfl
@[simp] theorem State.logReq_hif (b c : Nat) (d : List Byte) : (s.logReq b c d).hif = s.hif := rfl
@[simp] theorem State.logReq_tw (b c : Nat) (d : List Byte) : (s.logReq b c d).tw = s.tw := rfl
@[simp] theorem State.logReq_avs (b c : Nat) (d : List Byte) : (s.logReq b c d).avs = s.avs := rfl
@[simp] theorem State.logReq_usb (b c : Nat) (d : List Byte) : (s.logReq b c d).usb = s.usb := rfl
@[simp] theorem State.logReq_pwr (b c : Nat) (d : List Byte) : (s.logReq b c d).pwr = s.pwr := rfl
@[simp] theorem State.logReq_mot (b c : Nat) (d : List Byte) : (s.logReq b c d).mot = s.mot := rfl
@[simp] theorem State.logReq_mlane (b c : Nat) (d : List Byte) : (s.logReq b c d).mlane = s.mlane := rfl
@[simp] theorem State.logReq_fb (b c : Nat) (d : List Byte) : (s.logReq b c d).fb = s.fb := rfl
@[simp] theorem State.logReq_cap (b c : Nat) (d : List Byte) : (s.logReq b c d).cap = s.cap := rfl
@[simp] theorem State.logReq_tap (b c : Nat) (d : List Byte) : (s.logReq b c d).tap = s.tap := rfl

/-! ## Derived updates -/

theorem State.putI_eq (f : Fld) (v : Int) : s.putI f v = s.put f (ofSigned f.width v) := rfl
theorem State.putB_eq (f : Fld) (b : Bool) : s.putB f b = s.put f (if b then 1 else 0) := rfl
theorem State.inc_eq (f : Fld) (k : Nat) : s.inc f k = s.hw f.addr (fun w => fldInto f (satInc f.width (fldOf f w) k) w) := rfl
theorem State.setBit_eq (f : Fld) (i : Nat) : s.setBit f i = s.hw f.addr (fun w => fldInto f (fldOf f w ||| 2 ^ i) w) := rfl
theorem State.put_eq (f : Fld) (v : Nat) : s.put f v = s.hw f.addr (fldInto f v) := rfl
theorem State.rd_hw_wr (a b : Nat) (op : Word → Word) : (s.hw a op).rd b = (s.wr a (op (s.rd a))).rd b := rfl
theorem State.put_regs_wr (f : Fld) (v : Nat) : (s.put f v).regs = (s.wr f.addr (fldInto f v (s.rd f.addr))).regs := rfl
theorem State.inc_regs_put (f : Fld) (k : Nat) : (s.inc f k).regs = (s.put f (satInc f.width (s.get f) k)).regs := rfl
theorem State.setBit_regs_put (f : Fld) (i : Nat) : (s.setBit f i).regs = (s.put f (s.get f ||| 2 ^ i)).regs := rfl
@[simp] theorem State.when_true (f : State → State) : s.when true f = f s := rfl
@[simp] theorem State.when_false (f : State → State) : s.when false f = s := rfl
@[simp] theorem State.each_nil {α : Type} (f : α → State → State) : s.each [] f = s := rfl
@[simp] theorem State.each_cons {α : Type} (x : α) (l : List α) (f : α → State → State) : s.each (x :: l) f = (f x s).each l f := rfl

end Sys2Proof.Machine
end

