-- ==== Sys2Proof/Laws/Regs.lean ====
section
/-!
SUPPORT. Laws/Regs.lean: reads and writes of registers and fields: a field just set reads as its value, other fields read as before, registers
and memory keep their canonical form.
-/
namespace Sys2Proof.Machine

variable (s : State)

/-! ## Registers -/

/-- A register just set reads as its value in the bits it implements. -/
@[simp] theorem State.rd_wr_same (a : Nat) (w : Word) : (s.wr a w).rd a = w &&& implMask a := by
  unfold State.rd State.wr
  simp only [mapFind_put]
  by_cases h : w &&& implMask a = resetWord a <;> simp [h]

/-- Other registers read as before. -/
theorem State.rd_wr_ne (a b : Nat) (w : Word) (h : b ≠ a) : (s.wr a w).rd b = s.rd b := by
  unfold State.rd State.wr
  simp [mapFind_put, h]

theorem State.rd_wr (a b : Nat) (w : Word) : (s.wr a w).rd b = if b = a then w &&& implMask a else s.rd b := by
  by_cases h : b = a
  · subst h; simp
  · rw [if_neg h, State.rd_wr_ne s a b w h]

/-- What a hardware event leaves in the register that it changes. -/
theorem State.rd_hw_same (a : Nat) (op : Word → Word) : (s.hw a op).rd a = op (s.rd a) &&& implMask a := s.rd_wr_same a _

/-- Other registers read as before a hardware event. -/
theorem State.rd_hw_ne (a b : Nat) (op : Word → Word) (h : b ≠ a) : (s.hw a op).rd b = s.rd b := s.rd_wr_ne a b _ h

@[simp] theorem State.rd_setLive (a b : Nat) (w : Word) : (s.setLive a w).rd b = s.rd b := rfl
@[simp] theorem State.rd_after (n : Nat) (c : Instr) (b : Nat) : (s.after n c).rd b = s.rd b := rfl
@[simp] theorem State.rd_cancel (c : Instr) (b : Nat) : (s.cancel c).rd b = s.rd b := rfl
@[simp] theorem State.rd_restart (n : Nat) (c : Instr) (b : Nat) : (s.restart n c).rd b = s.rd b := rfl
@[simp] theorem State.rd_draw (b : Nat) : s.draw.rd b = s.rd b := rfl
@[simp] theorem State.rd_setByte (a : Nat) (v : Byte) (b : Nat) : (s.setByte a v).rd b = s.rd b := rfl
@[simp] theorem State.rd_logReq (k c : Nat) (d : List Byte) (b : Nat) : (s.logReq k c d).rd b = s.rd b := rfl
@[simp] theorem State.get_setLive (a : Nat) (w : Word) (f : Fld) : (s.setLive a w).get f = s.get f := rfl
@[simp] theorem State.get_after (n : Nat) (c : Instr) (f : Fld) : (s.after n c).get f = s.get f := rfl
@[simp] theorem State.get_cancel (c : Instr) (f : Fld) : (s.cancel c).get f = s.get f := rfl
@[simp] theorem State.get_restart (n : Nat) (c : Instr) (f : Fld) : (s.restart n c).get f = s.get f := rfl
@[simp] theorem State.get_draw (f : Fld) : s.draw.get f = s.get f := rfl
@[simp] theorem State.get_logReq (k c : Nat) (d : List Byte) (f : Fld) : (s.logReq k c d).get f = s.get f := rfl

/-! ## Fields -/

/-- A field lies in its word and in the bits that its register implements. -/
def fldOk (f : Fld) : Prop := f.lo + f.width ≤ 32 ∧ fldMask f &&& implMask f.addr = fldMask f

theorem fldMask_bit (f : Fld) (h : f.lo + f.width ≤ 32) (i : Nat) : (fldMask f).getLsbD i = (decide (f.lo ≤ i) && decide (i < f.lo + f.width)) := by
  unfold fldMask
  rw [BitVec.getLsbD_ofNat, Nat.testBit_mul_two_pow, Nat.testBit_two_pow_sub_one]
  by_cases h1 : f.lo ≤ i <;> by_cases h2 : i < f.lo + f.width <;> simp [h1, h2] <;> omega

theorem fldInto_bit (f : Fld) (h : f.lo + f.width ≤ 32) (v : Nat) (w : Word) (i : Nat) :
    (fldInto f v w).getLsbD i = if f.lo ≤ i ∧ i < f.lo + f.width then v.testBit (i - f.lo) else w.getLsbD i := by
  unfold fldInto
  simp only [BitVec.getLsbD_or, BitVec.getLsbD_and, BitVec.getLsbD_not, BitVec.getLsbD_ofNat, fldMask_bit f h, Nat.testBit_mul_two_pow,
    Nat.testBit_mod_two_pow]
  by_cases hi : i < 32
  · by_cases h1 : f.lo ≤ i <;> by_cases h2 : i < f.lo + f.width
    · have h3 : i - f.lo < f.width := by omega
      simp [h1, h2, h3, hi]
    · have h3 : ¬ i - f.lo < f.width := by omega
      simp [h1, h2, h3, hi]
    · simp [h1, hi]
    · simp [h1, hi]
  · have : ¬ (f.lo ≤ i ∧ i < f.lo + f.width) := by omega
    simp [this, hi, BitVec.getLsbD_of_ge w i (by omega)]

/-- A field's value bit by bit. -/
theorem fldOf_bit (f : Fld) (w : Word) (i : Nat) : (fldOf f w).testBit i = (decide (i < f.width) && w.getLsbD (f.lo + i)) := by
  unfold fldOf
  rw [Nat.testBit_mod_two_pow, Nat.testBit_div_two_pow, BitVec.getLsbD, Nat.add_comm]

/-- A field just set reads as its value narrowed to its width. -/
theorem State.get_put_same (f : Fld) (v : Nat) (h : fldOk f) : (s.put f v).get f = v % 2 ^ f.width := by
  unfold State.get State.put
  rw [State.rd_hw_same]
  apply Nat.eq_of_testBit_eq
  intro i
  rw [fldOf_bit, BitVec.getLsbD_and, fldInto_bit f h.1, Nat.testBit_mod_two_pow]
  by_cases hi : i < f.width
  · have hm : (fldMask f &&& implMask f.addr).getLsbD (f.lo + i) = (fldMask f).getLsbD (f.lo + i) := by rw [h.2]
    rw [BitVec.getLsbD_and, fldMask_bit f h.1] at hm
    have h1 : f.lo + i < f.lo + f.width := by omega
    simp [h1] at hm
    simp [hi, hm]
  · simp [hi]

/-- A field of another register reads as before. -/
theorem State.get_put_ne (f g : Fld) (v : Nat) (h : g.addr ≠ f.addr) : (s.put f v).get g = s.get g := by
  unfold State.get State.put
  rw [State.rd_hw_ne _ _ _ _ h]

/-- A field of the same register that does not overlap reads as before, in a state whose register holds only bits it implements. -/
theorem State.get_put_disj (f g : Fld) (v : Nat) (ha : g.addr = f.addr) (hf : fldOk f) (hg : fldOk g) (hd : g.lo + g.width ≤ f.lo ∨ f.lo + f.width ≤ g.lo) :
    (s.put f v).get g = s.get g := by
  unfold State.get State.put
  rw [ha, State.rd_hw_same]
  apply Nat.eq_of_testBit_eq
  intro i
  rw [fldOf_bit, fldOf_bit, BitVec.getLsbD_and, fldInto_bit f hf.1]
  by_cases hi : i < g.width
  · have hm : (fldMask g &&& implMask g.addr).getLsbD (g.lo + i) = (fldMask g).getLsbD (g.lo + i) := by rw [hg.2]
    rw [BitVec.getLsbD_and, fldMask_bit g hg.1, ha] at hm
    have h1 : g.lo + i < g.lo + g.width := by omega
    simp [h1] at hm
    have h2 : ¬ (f.lo ≤ g.lo + i ∧ g.lo + i < f.lo + f.width) := by omega
    simp [hi, hm, h2]
  · simp [hi]

/-! ## Canonical form -/

theorem State.hw_regs_wf (a : Nat) (op : Word → Word) (h : mapWf resetWord s.regs = true) : mapWf resetWord (s.hw a op).regs = true :=
  mapWf_put resetWord s.regs a _ h

theorem State.wr_regs_wf (a : Nat) (w : Word) (h : mapWf resetWord s.regs = true) : mapWf resetWord (s.wr a w).regs = true :=
  mapWf_put resetWord s.regs a _ h

theorem State.setLive_live_wf (a : Nat) (w : Word) (h : mapWf resetWord s.live = true) : mapWf resetWord (s.setLive a w).live = true :=
  mapWf_put resetWord s.live a _ h

theorem State.setByte_mem_wf (a : Nat) (b : Byte) (h : mapWf (fun _ => (0 : Byte)) s.mem = true) :
    mapWf (fun _ => (0 : Byte)) (s.setByte a b).mem = true := mapWf_put (fun _ => 0) s.mem a b h

theorem State.setBytes_mem_wf (a : Nat) (l : List Byte) (h : mapWf (fun _ => (0 : Byte)) s.mem = true) :
    mapWf (fun _ => (0 : Byte)) (s.setBytes a l).mem = true := by
  induction l generalizing s a with
  | nil => exact h
  | cons b l ih => exact ih _ _ (State.setByte_mem_wf s a b h)

/-! ## Memory -/

/-- A byte just stored reads back; other bytes read as before. -/
theorem State.byte_setByte (a b : Nat) (v : Byte) : (s.setByte a v).byte b = if b = a then v else s.byte b := by
  unfold State.byte State.setByte
  simp only [mapFind_put]
  by_cases h : b = a
  · by_cases hv : v = 0#8
    · simp [h, hv]
    · simp only [h, if_pos]
      exact (congrArg (fun o : Option Byte => o.getD 0#8) (if_neg hv)).trans rfl
  · simp [h]

/-- Stored bytes leave every byte outside them alone. -/
theorem State.byte_setBytes_ne (a b : Nat) (l : List Byte) (h : b < a ∨ a + l.length ≤ b) : (s.setBytes a l).byte b = s.byte b := by
  induction l generalizing s a with
  | nil => rfl
  | cons x l ih =>
    have h' : b < a + 1 ∨ a + 1 + l.length ≤ b := by simp at h; omega
    have : b ≠ a := by simp at h; omega
    simp [State.setBytes, ih _ _ h', State.byte_setByte, this]

/-- A stored byte reads back. -/
theorem State.byte_setBytes (a i : Nat) (l : List Byte) (h : i < l.length) : (s.setBytes a l).byte (a + i) = l[i] := by
  induction l generalizing s a i with
  | nil => simp at h
  | cons x l ih =>
    cases i with
    | zero => simp [State.setBytes, State.byte_setBytes_ne _ (a + 1) a l (Or.inl (by omega)), State.byte_setByte]
    | succ i =>
      have := ih (s.setByte a x) (a + 1) i (by simpa using h)
      simpa [State.setBytes, Nat.add_assoc, Nat.add_comm 1 i] using this

end Sys2Proof.Machine
end

