-- ==== Sys2Proof/Laws/Fields.lean ====
section
/-!
SUPPORT. Laws/Fields.lean: registers and fields read from and put into the register map itself, so that one rewriting set decides what a
chain of updates leaves in a field: `State.get_regs` and its companions lead from a state to its map, `regGet_put` and `regRd_put` through a put.
-/
namespace Sys2Proof.Machine

/-- The word of a register in a register map. -/
def regRd (m : RegMap) (a : Nat) : Word := (mapFind m a).getD (resetWord a)

/-- A register map with a register set. -/
def regWr (m : RegMap) (a : Nat) (w : Word) : RegMap := mapPut (resetWord a) m a (w &&& implMask a)

/-- A field in a register map. -/
def regGet (m : RegMap) (f : Fld) : Nat := fldOf f (regRd m f.addr)

/-- A register map with a field set. -/
def regPut (m : RegMap) (f : Fld) (v : Nat) : RegMap := regWr m f.addr (fldInto f v (regRd m f.addr))

/-- A byte in a memory map. -/
def memByte (m : List Host.Cell) (a : Nat) : Byte := (mapFind m a).getD 0

theorem State.rd_regs (s : State) (a : Nat) : s.rd a = regRd s.regs a := rfl
theorem State.get_regs (s : State) (f : Fld) : s.get f = regGet s.regs f := rfl
theorem State.wr_regs (s : State) (a : Nat) (w : Word) : (s.wr a w).regs = regWr s.regs a w := rfl
theorem State.put_regs (s : State) (f : Fld) (v : Nat) : (s.put f v).regs = regPut s.regs f v := rfl
theorem State.byte_mem (s : State) (a : Nat) : s.byte a = memByte s.mem a := rfl

/-- The field lies in its word and in the bits that its register implements, as a test. -/
def fldFits (f : Fld) : Bool := decide (f.lo + f.width ≤ 32) && (fldMask f &&& implMask f.addr == fldMask f)

/-- Two fields share no bit, as a test. -/
def fldApart (f g : Fld) : Bool := g.addr != f.addr || (fldFits f && fldFits g && (decide (g.lo + g.width ≤ f.lo) || decide (f.lo + f.width ≤ g.lo)))

theorem fldOk_of_fits (f : Fld) (h : fldFits f = true) : fldOk f := by
  simp [fldFits] at h
  exact h

/-- A field just put reads as the value narrowed to its width. -/
theorem regGet_put (m : RegMap) (f : Fld) (v : Nat) (h : fldFits f = true) : regGet (regPut m f v) f = v % 2 ^ f.width :=
  State.get_put_same { regs := m } f v (fldOk_of_fits f h)

/-- A field apart from the one put reads as before. -/
theorem regGet_put_apart (m : RegMap) (f g : Fld) (v : Nat) (h : fldApart f g = true) : regGet (regPut m f v) g = regGet m g := by
  by_cases ha : g.addr = f.addr
  · simp [fldApart, ha] at h
    exact State.get_put_disj { regs := m } f g v ha (fldOk_of_fits f h.1.1) (fldOk_of_fits g h.1.2) h.2
  · exact State.get_put_ne { regs := m } f g v ha

/-- A field of another register reads as before a register write. -/
theorem regGet_wr_apart (m : RegMap) (a : Nat) (w : Word) (g : Fld) (h : g.addr ≠ a) : regGet (regWr m a w) g = regGet m g := by
  unfold regGet
  exact congrArg (fldOf g) (State.rd_wr_ne { regs := m } a g.addr w h)

/-- A register just written reads as the word's implemented bits. -/
theorem regRd_wr (m : RegMap) (a : Nat) (w : Word) : regRd (regWr m a w) a = w &&& implMask a := State.rd_wr_same { regs := m } a w

/-- Another register reads as before. -/
theorem regRd_wr_ne (m : RegMap) (a b : Nat) (w : Word) (h : b ≠ a) : regRd (regWr m a w) b = regRd m b := State.rd_wr_ne { regs := m } a b w h

/-- A register other than the field's reads as before. -/
theorem regRd_put_ne (m : RegMap) (f : Fld) (v b : Nat) (h : b ≠ f.addr) : regRd (regPut m f v) b = regRd m b :=
  regRd_wr_ne m f.addr b _ h

/-! ## Ticketed actions -/

/-- A write that is performed: the action's effect, then the register holds the ticket, argument and action (R20). -/
theorem State.act_fresh (s : State) (a : Nat) (ticket : Byte) (arg : BitVec 16) (action : Byte) (f : State → State) (h : Fresh a ticket s) :
    s.act a ticket arg action f = (f s).wr a (actWord ticket (arg &&& argMask a action) action) := by
  unfold State.act Fresh at *
  rw [if_neg]
  rintro ⟨h1, h2⟩
  exact h.elim h1 (fun h3 => h3 h2)

/-- A repeated ticket: the write is ignored entirely (R20). -/
theorem State.act_repeated (s : State) (a : Nat) (ticket : Byte) (arg : BitVec 16) (action : Byte) (f : State → State) (h : ¬ Fresh a ticket s) :
    s.act a ticket arg action f = s := by
  unfold State.act Fresh at *
  rw [if_pos]
  exact ⟨fun h1 => h (Or.inl h1), Classical.byContradiction (fun h2 => h (Or.inr h2))⟩

/-- The log requests after one more. -/
theorem State.logReq_log (s : State) (b c : Nat) (d : List Byte) :
    (s.logReq b c d).log = { s.log with reqs := s.log.reqs ++ [⟨s.clk.time, s.logAngle, b, c, d⟩] } := rfl

end Sys2Proof.Machine
end

