-- ==== Sys2Proof/Laws/Frames.lean ====
section
/-!
SUPPORT. Laws/Frames.lean: what the shared operations leave alone: event firings, log requests, the angle compare units' status firings and the
motors' condition watch.
-/
namespace Sys2Proof.Machine

/-- A reflexive and transitive relation that every application keeps holds across a fold over states. -/
theorem State.each_rel {α : Type} (R : State → State → Prop) (hr : ∀ s, R s s) (ht : ∀ s t u, R s t → R t u → R s u)
    (l : List α) (f : α → State → State) (h : ∀ x s, R s (f x s)) (s : State) : R s (s.each l f) := by
  induction l generalizing s with
  | nil => exact hr s
  | cons x l ih => exact ht _ _ _ (h x s) (ih (f x s))

/-- The registers outside a set read as before, and so does everything else but timers, event firings, log requests, motors and angle
compare units; the log requests only grow. -/
structure Quiet (A : Nat → Prop) (s t : State) : Prop where
  rd : ∀ a, ¬ A a → t.rd a = s.rd a
  dom : t.dom = s.dom
  sync : t.sync = s.sync
  clk : t.clk = s.clk
  mem : t.mem = s.mem
  pending : t.pending = s.pending
  live : t.live = s.live
  shadow : t.shadow = s.shadow
  log : ∃ l, t.log.reqs = s.log.reqs ++ l

theorem Quiet.refl (A : Nat → Prop) (s : State) : Quiet A s s := ⟨fun _ _ => rfl, rfl, rfl, rfl, rfl, rfl, rfl, rfl, [], by simp⟩

theorem Quiet.trans {A : Nat → Prop} {s t u : State} (h : Quiet A s t) (k : Quiet A t u) : Quiet A s u := by
  obtain ⟨l, hl⟩ := h.log
  obtain ⟨m, hm⟩ := k.log
  exact ⟨fun a ha => (k.rd a ha).trans (h.rd a ha), k.dom.trans h.dom, k.sync.trans h.sync, k.clk.trans h.clk, k.mem.trans h.mem,
    k.pending.trans h.pending, k.live.trans h.live, k.shadow.trans h.shadow, l ++ m, by rw [hm, hl, List.append_assoc]⟩

theorem Quiet.mono {A B : Nat → Prop} {s t : State} (h : Quiet A s t) (hab : ∀ a, A a → B a) : Quiet B s t :=
  ⟨fun a ha => h.rd a (fun x => ha (hab a x)), h.dom, h.sync, h.clk, h.mem, h.pending, h.live, h.shadow, h.log⟩

theorem Quiet.hw {A : Nat → Prop} {s t : State} (h : Quiet A s t) (a : Nat) (op : Word → Word) (hf : A a) : Quiet A s (t.hw a op) :=
  h.trans ⟨fun b hb => State.rd_hw_ne t a b op (fun e => hb (e ▸ hf)), rfl, rfl, rfl, rfl, rfl, rfl, rfl, [], by simp⟩

theorem Quiet.put {A : Nat → Prop} {s t : State} (h : Quiet A s t) (f : Fld) (v : Nat) (hf : A f.addr) : Quiet A s (t.put f v) := h.hw _ _ hf

theorem Quiet.logReq {A : Nat → Prop} {s t : State} (h : Quiet A s t) (b c : Nat) (d : List Byte) : Quiet A s (t.logReq b c d) :=
  h.trans ⟨fun _ _ => rfl, rfl, rfl, rfl, rfl, rfl, rfl, rfl, [⟨t.clk.time, t.logAngle, b, c, d⟩], rfl⟩

theorem Quiet.cancel {A : Nat → Prop} {s t : State} (h : Quiet A s t) (c : Instr) : Quiet A s (t.cancel c) :=
  h.trans ⟨fun _ _ => rfl, rfl, rfl, rfl, rfl, rfl, rfl, rfl, [], by simp⟩

theorem Quiet.after {A : Nat → Prop} {s t : State} (h : Quiet A s t) (n : Nat) (c : Instr) : Quiet A s (t.after n c) :=
  h.trans ⟨fun _ _ => rfl, rfl, rfl, rfl, rfl, rfl, rfl, rfl, [], by simp⟩

theorem Quiet.acuUpd {A : Nat → Prop} {s t : State} (h : Quiet A s t) (k : Fin 16) (f : Acu → Acu) : Quiet A s (acuUpd k f t) :=
  h.trans ⟨fun _ _ => rfl, rfl, rfl, rfl, rfl, rfl, rfl, rfl, [], by simp [Sys2Proof.Machine.acuUpd]⟩

theorem Quiet.motUpd {A : Nat → Prop} {s t : State} (h : Quiet A s t) (m : Fin 4) (f : Motor → Motor) : Quiet A s (motUpd m f t) :=
  h.trans ⟨fun _ _ => rfl, rfl, rfl, rfl, rfl, rfl, rfl, rfl, [], by simp [Sys2Proof.Machine.motUpd]⟩

theorem Quiet.fire {A : Nat → Prop} {s t : State} (h : Quiet A s t) (src : Nat) (ha : A Reg.EVM_FAST) : Quiet A s (t.fire src) := by
  unfold State.fire
  split
  · exact h.hw _ _ ha
  · exact h.trans ⟨fun _ _ => rfl, rfl, rfl, rfl, rfl, rfl, rfl, rfl, [], by simp⟩

theorem Quiet.each {α : Type} {A : Nat → Prop} {s t : State} (h : Quiet A s t) (l : List α) (f : α → State → State)
    (hf : ∀ x u, Quiet A u (f x u)) : Quiet A s (t.each l f) :=
  h.trans (State.each_rel (Quiet A) (Quiet.refl A) (fun _ _ _ => Quiet.trans) l f hf t)

theorem Quiet.when {A : Nat → Prop} {s t : State} (h : Quiet A s t) (c : Bool) (f : State → State) (hf : Quiet A t (f t)) : Quiet A s (t.when c f) := by
  cases c
  · exact h
  · exact h.trans hf

/-- The registers of the MOT block, and the count of merged firings. -/
def MotRegs (a : Nat) : Prop := 0x40110000 ≤ a ∧ a < 0x40120000 ∨ a = Reg.EVM_FAST

theorem motRegs_flag (m : Fin 4) : MotRegs (F.MOTm_FLAG_DECL m).addr := by revert m; simp only [MotRegs]; decide
theorem motRegs_cond (m : Fin 4) : MotRegs (F.MOTm_STAT_COND m).addr := by revert m; simp only [MotRegs]; decide
theorem motRegs_st (m : Fin 4) : MotRegs (F.MOTm_STAT_ST m).addr := by revert m; simp only [MotRegs]; decide

/-- A declaration of motor faults touches the MOT registers only, and fires and logs (R479). -/
theorem motDeclare_quiet (m : Fin 4) (fs : List Nat) (cur : Int) (s : State) : Quiet MotRegs s (motDeclare m fs cur s) := by
  unfold motDeclare
  have h1 := (Quiet.refl MotRegs s).each fs (fun f t => (t.setBit (F.MOTm_FLAG_DECL m) f).logReq 0x11 0x0001
    ([b8 m, b8 f, b8 (motResp m f s)] ++ bytesOfNat 2 (ofSigned 16 (motValue m f cur s))))
    (fun f u => ((Quiet.refl MotRegs u).hw _ _ (motRegs_flag m)).logReq _ _ _)
  have h2 := h1.when (fs.any (fun f => decide (1 ≤ motResp m f s))) (fun t => t.fire (137 + 2 * m.val)) ((Quiet.refl MotRegs _).fire _ (Or.inr rfl))
  simp only []
  split
  · refine Quiet.put (Quiet.trans h2 ?_) _ _ (motRegs_cond m)
    unfold motCarrierOff motEnter
    exact (((((Quiet.refl MotRegs _).put _ _ (motRegs_st m)).motUpd m _).cancel _).cancel _).cancel _ |>.motUpd m _
  · exact h2

/-- Forming a motor's conditions afresh touches the MOT registers only, and fires and logs (R478). -/
theorem motCheck_quiet (m : Fin 4) (s : State) : Quiet MotRegs s (motCheck m s) := by
  unfold motCheck motWatch
  exact Quiet.trans ((Quiet.refl MotRegs s).put _ _ (motRegs_cond m)) (motDeclare_quiet m _ _ _)

/-- The watch over every motor touches the MOT registers only, and fires and logs (R478). -/
theorem motWatchAll_quiet (s : State) : Quiet MotRegs s (motWatchAll s) := by
  unfold motWatchAll
  simp only []
  split
  · refine (Quiet.refl MotRegs s).each _ _ (fun m u => ?_)
    split
    · exact motCheck_quiet m u
    · exact Quiet.refl MotRegs u
  · exact Quiet.refl MotRegs s

/-- The registers of the angle compare units. -/
def AcuRegs (a : Nat) : Prop := 0x40020400 ≤ a ∧ a < 0x40020500

theorem acuRegs_fired (k : Fin 16) : AcuRegs (F.ACUk_STAT_FIRED k).addr := by revert k; simp only [AcuRegs]; decide

/-- The STATUS-mode firings touch the ACU registers only (R66). -/
theorem acuStatus_quiet (d : Fin 8) (bit : Nat) (s : State) : Quiet AcuRegs s (acuStatus d bit s) := by
  unfold acuStatus
  refine (Quiet.refl AcuRegs s).each _ _ (fun k u => ?_)
  split
  · exact ((Quiet.refl AcuRegs u).put _ _ (acuRegs_fired k)).acuUpd k _
  · exact Quiet.refl AcuRegs u

/-- The STATUS-mode firings make no log request. -/
theorem acuStatus_log (d : Fin 8) (bit : Nat) (s : State) : (acuStatus d bit s).log = s.log := by
  unfold acuStatus
  refine State.each_rel (fun s t => t.log = s.log) (fun _ => rfl) (fun _ _ _ h k => k.trans h) _ _ (fun k u => ?_) s
  split <;> rfl

end Sys2Proof.Machine
end

