-- ==== Sys2Proof/Laws/Bus.lean ====
section
/-!
SUPPORT. Laws/Bus.lean: what a bus write does to a register of a row of the map that holds no flags and no action: the writable bits of the written
word, then the effect of the write.
-/
namespace Sys2Proof.Machine

/-- A write that is answered, outside the slots with rules of their own, stores fields, and an interrupt that it leaves pending wakes the Trio (R11, R323). -/
theorem busWrite_fields (agent : Agent) (a : Nat) (v event : Word) (s : State) (r : RegRow)
    (hans : answered agent a { s with busErr := false } = true) (hhost : agent ≠ .host) (hmbx : a / 65536 ≠ 0x400D) (husb : a / 65536 ≠ 0x4010)
    (hrow : rowFor a = some r) (hact : r.act = false) :
    busWrite agent a v event s = irqSeen a (fieldWrite agent a v event { s with busErr := false }) := by
  have hb : barAddr agent a = a := by simp [barAddr, hhost]
  have hc : cfgAccess agent a = false := by simp [cfgAccess, hhost]
  have hshut : hifShut agent a { s with busErr := false } = false := by simp [hifShut, hhost]
  unfold busWrite
  simp [hb, hc, hans, hshut, hhost, hmbx, husb, hrow, hact]

/-- The word that a write leaves to the register's effect: the bits that the writer may write from `v`, the others as they stand (R11, R15). -/
def writtenWord (r : RegRow) (level : Bool) (v old : Word) : Word :=
  let may := (r.rw ||| r.rwl) &&& ~~~(if level then 0 else r.expert)
  (v &&& may) ||| (old &&& ~~~may)

/-- A write of a row with no flags, other than the block's CTL: an attempt on bits that the level shuts is counted, then the effect of the
write, then what Basic level derives (R11, R15). -/
theorem fieldWrite_plain (agent : Agent) (a : Nat) (v : Word) (s : State) (r : RegRow) (hrow : rowFor a = some r) (hw : r.w1c = 0)
    (hctl : a ≠ ctlOf a) (hmay : (r.rw ||| r.rwl) &&& ~~~(if s.expertAt a then 0 else r.expert) ≠ 0) :
    ∃ s2 : State, (s2 = s ∨ s2 = s.inc F.SYS_IGNWR_COUNT) ∧
      fieldWrite agent a v 0 s =
        (let t := writeEffect agent a (writtenWord r (s.expertAt a) v (s.rd a)) s2
         if t.expertAt a then t else deriveBlock (a / 65536 % 256) t) := by
  refine ⟨if (v ^^^ s.rd a) &&& (if s.expertAt a then 0 else r.expert) = 0 then s else s.inc F.SYS_IGNWR_COUNT, ?_, ?_⟩
  · by_cases h : (v ^^^ s.rd a) &&& (if s.expertAt a then 0 else r.expert) = 0
    · exact Or.inl (if_pos h)
    · exact Or.inr (if_neg h)
  · unfold fieldWrite flagClear
    simp only [hrow, hw, if_true, hctl, if_false, false_and]
    rw [if_neg hmay]
    rfl

end Sys2Proof.Machine
end

