-- ==== Sys2Proof/WellFormed.lean ====
section
/-!
DEFINITION. WellFormed.lean: which commands are well formed: the operands that a type does not bound lie in the range of what they stand for,
and an instruction of the Trio carries a word of its own encoding (R257, R277).
-/
namespace Sys2Proof

/-- A byte list of at most `n` bytes, where there is one. -/
def bytesOk (n : Nat) (l : Option (List Byte)) : Bool := match l with | some d => decide (d.length ≤ n) | none => true

/-- An address of the device, of 32 bits, or for the host one of its 4 KiB configuration space, which the model puts above them (R359)
(PRESUMED, log entry 72). -/
def addrOk (agent : Agent) (addr : Nat) : Bool := decide (addr < 2 ^ 32) || (agent == .host && decide (addr < 0x100001000))

/-- A bus transfer of at most 255 bytes with its PEC (R412). -/
def xferOk (x : Xfer) : Bool :=
  match x with
  | .write d => decide (d.length ≤ 256)
  | .read => true
  | .call d => decide (d.length ≤ 256)
  | .short n => decide (n ≤ 256)

/-- The request of a vote: a peripheral load, or a store of 1, 2, 4 or 16 aligned bytes (R261, R311, R312). -/
def votedOk (p : Option (Nat × List Byte × Bool)) : Bool :=
  match p with
  | none => true
  | some (a, d, _) => decide (a < 2 ^ 32) && (d.isEmpty || (([1, 2, 4, 16] : List Nat).contains d.length && a % d.length == 0))

/-- The command is well formed. -/
def Instr.wellFormed (i : Instr) : Bool :=
  match i with
  | .xinWindowEnd _ _ => true
  | .xinLoss _ => true
  | .xinFirstSelection => true
  | .xinReturn => true
  | .turnBoundary _ => true
  | .freezeEnd _ => true
  | .syncPulse _ width => decide (0 < width)
  | .syncPulseOverwidth => true
  | .ringOpen => true
  | .referenceMissing _ => true
  | .holdoverTimeout _ => true
  | .acuFire _ => true
  | .setpointDacLoad _ => true
  | .gloryWalkerStep _ => true
  | .gloryGlmaxRelease _ => true
  | .slewStep _ => true
  | .ffStale _ => true
  | .vinResult _ => true
  | .tmonResult _ _ => true
  | .ovPersistence _ => true
  | .uvPersistence _ => true
  | .uvBlankExpiry _ => true
  | .sfFilterExpiry _ _ => true
  | .tmonTimeout _ => true
  | .vinTimeout => true
  | .stopLowHoldEnd _ => true
  | .hiccupRestart _ => true
  | .hicokExpiry _ => true
  | .onEdgeCommit _ => true
  | .slotCrossing _ => true
  | .offEdge _ => true
  | .minOffTimeEnd _ => true
  | .rotationStepStart _ => true
  | .shadowComplete _ _ => true
  | .laneSwap _ => true
  | .calibrationComplete _ coefs => (coefs.getD (List.replicate 14 0)).length == 14
  | .sequencerStampCrossing _ => true
  | .sequencerEntryEnd _ _ => true
  | .sequencerTimeout _ => true
  | .linkTimeout _ => true
  | .forecast _ _ _ _ _ _ _ => true
  | .vset _ _ _ _ => true
  | .unknownMessage _ _ => true
  | .gapTimeout => true
  | .txSlot => true
  | .telem _ => true
  | .prerampStart _ => true
  | .rampComplete _ => true
  | .handoff _ => true
  | .unwind _ => true
  | .unwindComplete _ => true
  | .cuCountStep _ => true
  | .linkAction _ _ => true
  | .eventDelivery => true
  | .evoPulseEnd _ => true
  | .add w => decide (shaucDecode w = .add w)
  | .sub w => decide (shaucDecode w = .sub w)
  | .and_ w => decide (shaucDecode w = .and_ w)
  | .or_ w => decide (shaucDecode w = .or_ w)
  | .xor w => decide (shaucDecode w = .xor w)
  | .sll w => decide (shaucDecode w = .sll w)
  | .srl w => decide (shaucDecode w = .srl w)
  | .sra w => decide (shaucDecode w = .sra w)
  | .slt w => decide (shaucDecode w = .slt w)
  | .sltu w => decide (shaucDecode w = .sltu w)
  | .min w => decide (shaucDecode w = .min w)
  | .max w => decide (shaucDecode w = .max w)
  | .minu w => decide (shaucDecode w = .minu w)
  | .maxu w => decide (shaucDecode w = .maxu w)
  | .slli w => decide (shaucDecode w = .slli w)
  | .srli w => decide (shaucDecode w = .srli w)
  | .srai w => decide (shaucDecode w = .srai w)
  | .sati w => decide (shaucDecode w = .sati w)
  | .mul w => decide (shaucDecode w = .mul w)
  | .mulh w => decide (shaucDecode w = .mulh w)
  | .mulhu w => decide (shaucDecode w = .mulhu w)
  | .madd w => decide (shaucDecode w = .madd w)
  | .msub w => decide (shaucDecode w = .msub w)
  | .div w => decide (shaucDecode w = .div w)
  | .divu w => decide (shaucDecode w = .divu w)
  | .rem w => decide (shaucDecode w = .rem w)
  | .remu w => decide (shaucDecode w = .remu w)
  | .addi w => decide (shaucDecode w = .addi w)
  | .andi w => decide (shaucDecode w = .andi w)
  | .ori w => decide (shaucDecode w = .ori w)
  | .xori w => decide (shaucDecode w = .xori w)
  | .slti w => decide (shaucDecode w = .slti w)
  | .sltiu w => decide (shaucDecode w = .sltiu w)
  | .lui w => decide (shaucDecode w = .lui w)
  | .ldw w => decide (shaucDecode w = .ldw w)
  | .ldh w => decide (shaucDecode w = .ldh w)
  | .ldhu w => decide (shaucDecode w = .ldhu w)
  | .ldb w => decide (shaucDecode w = .ldb w)
  | .ldbu w => decide (shaucDecode w = .ldbu w)
  | .stw w => decide (shaucDecode w = .stw w)
  | .sth w => decide (shaucDecode w = .sth w)
  | .stb w => decide (shaucDecode w = .stb w)
  | .ldc w => decide (shaucDecode w = .ldc w)
  | .stc w => decide (shaucDecode w = .stc w)
  | .beq w => decide (shaucDecode w = .beq w)
  | .bne w => decide (shaucDecode w = .bne w)
  | .blt w => decide (shaucDecode w = .blt w)
  | .bge w => decide (shaucDecode w = .bge w)
  | .bltu w => decide (shaucDecode w = .bltu w)
  | .bgeu w => decide (shaucDecode w = .bgeu w)
  | .j w => decide (shaucDecode w = .j w)
  | .call w => decide (shaucDecode w = .call w)
  | .jmpl w => decide (shaucDecode w = .jmpl w)
  | .wopen w => decide (shaucDecode w = .wopen w)
  | .wclose w => decide (shaucDecode w = .wclose w)
  | .loop w => decide (shaucDecode w = .loop w)
  | .loopi w => decide (shaucDecode w = .loopi w)
  | .rdsr w => decide (shaucDecode w = .rdsr w)
  | .wrsr w => decide (shaucDecode w = .wrsr w)
  | .trap w => decide (shaucDecode w = .trap w)
  | .bkpt w => decide (shaucDecode w = .bkpt w)
  | .tret w => decide (shaucDecode w = .tret w)
  | .wfi w => decide (shaucDecode w = .wfi w)
  | .ckpt w => decide (shaucDecode w = .ckpt w)
  | .wspill w => decide (shaucDecode w = .wspill w)
  | .wfill w => decide (shaucDecode w = .wfill w)
  | .acpy w => decide (shaucDecode w = .acpy w)
  | .ardbase w => decide (shaucDecode w = .ardbase w)
  | .ardlen w => decide (shaucDecode w = .ardlen w)
  | .ardperm w => decide (shaucDecode w = .ardperm w)
  | .ardtype w => decide (shaucDecode w = .ardtype w)
  | .ardtag w => decide (shaucDecode w = .ardtag w)
  | .atrimlo w => decide (shaucDecode w = .atrimlo w)
  | .atrimlen w => decide (shaucDecode w = .atrimlen w)
  | .amask w => decide (shaucDecode w = .amask w)
  | .avoid w => decide (shaucDecode w = .avoid w)
  | .alock w => decide (shaucDecode w = .alock w)
  | .aunlock w => decide (shaucDecode w = .aunlock w)
  | .awithin w => decide (shaucDecode w = .awithin w)
  | .ajump w => decide (shaucDecode w = .ajump w)
  | .aenter w => decide (shaucDecode w = .aenter w)
  | .ardpcc w => decide (shaucDecode w = .ardpcc w)
  | .ardspc w => decide (shaucDecode w = .ardspc w)
  | .awrspc w => decide (shaucDecode w = .awrspc w)
  | .definedIllegal w => decide (shaucDecode w = .definedIllegal w)
  | .reservedEncoding w => decide (shaucDecode w = .reservedEncoding w)
  | .interrupt => true
  | .rollbackComplete => true
  | .trioRelease => true
  | .periodicCheckpoint => true
  | .highWaterCheckpoint => true
  | .checkpointComplete => true
  | .wake => true
  | .watchdogExpiry => true
  | .scrubRead _ _ => true
  | .bankWipeComplete _ => true
  | .xspiCommandComplete data => decide (data.length ≤ 256)
  | .flashTimeout _ _ => true
  | .secureBoot => true
  | .signatureCheckComplete => true
  | .verifyComplete => true
  | .otpProgramComplete _ => true
  | .wipeRegionComplete _ _ => true
  | .doorbellPoll _ _ => true
  | .doorbellPollComplete _ _ => true
  | .descriptorFetch => true
  | .consumerWordRead _ _ => true
  | .telemetryRecord _ => true
  | .ringtestPointComplete => true
  | .statusWordWrite _ => true
  | .lockTimeout _ => true
  | .controllerStretchTimeout _ => true
  | .selfReset _ => true
  | .inbandRequest _ _ => true
  | .hostNotify _ _ => true
  | .avsCommitArrival _ => true
  | .avsFrameTimeout _ => true
  | .suspend => true
  | .resumeEnd => true
  | .overcurrent _ => true
  | .reconnectRestore => true
  | .info _ _ => true
  | .devtime _ _ => true
  | .mbxLock _ _ _ => true
  | .mbxRelease _ _ _ => true
  | .mbxWrite _ _ len payload => decide (payload.length = len.toNat)
  | .mbxRead _ _ _ => true
  | .mbxSend _ _ _ => true
  | .mbxTake _ _ _ => true
  | .recovWrite _ _ len payload => decide (payload.length = len.toNat)
  | .recovBoot _ _ => true
  | .recoveryLoad => true
  | .unknownServiceOp _ _ => true
  | .serviceFrameTimeout => true
  | .pwmPeriodStart _ => true
  | .currentSampleRequest _ => true
  | .alignmentDone _ => true
  | .driverFault _ _ => true
  | .stall _ => true
  | .wireDisagreement _ _ _ => true
  | .fbUpdate _ => true
  | .scanStart => true
  | .measurementTimeout => true
  | .learnEnd => true
  | .powerRequest _ _ => true
  | .domainSwitch => true
  | .domainReady _ => true
  | .devreset _ _ => true
  | .startup => true
  | .culletWipeComplete => true
  | .logEntryWrite => true
  | .logCopy _ => true
  | .minOnTimeEnd _ => true
  | .syncInEdge _ => true
  | .dischargeCheck _ => true
  | .registerWrite agent addr _ => addrOk agent addr
  | .readClear agent addr _ => addrOk agent addr
  | .w1cWrite agent addr _ _ => addrOk agent addr
  | .expertSet _ addr _ => decide (addr < 2 ^ 32)
  | .expertClear _ addr _ => decide (addr < 2 ^ 32)
  | .unlistedAction _ addr _ _ _ => decide (addr < 2 ^ 32)
  | .clkactReturn _ _ => true
  | .reacquire _ _ => true
  | .domainEnable _ _ => true
  | .domainDisable _ _ => true
  | .srcChange _ _ => true
  | .freqWrite _ _ => true
  | .ratehWrite _ _ => true
  | .railmapWrite _ => true
  | .roleChange _ => true
  | .acuArm _ _ _ => true
  | .mergedSample _ _ => true
  | .vSaturation _ _ => true
  | .iSample _ _ => true
  | .imonOpen _ => true
  | .motorInputFault _ => true
  | .undershootAssert _ => true
  | .undershootRelease _ => true
  | .overshootAssert _ => true
  | .overshootRelease _ => true
  | .vshostWrite _ _ => true
  | .vspmbWrite _ _ => true
  | .updHoldClear _ _ => true
  | .compensatorClear _ _ => true
  | .balanceClear _ _ => true
  | .protClear _ _ => true
  | .abort _ _ => true
  | .restoreph _ _ => true
  | .edgeEnable _ _ => true
  | .edgeDisable _ _ => true
  | .freeze _ _ => true
  | .unfreeze _ _ => true
  | .inert _ _ => true
  | .release _ _ => true
  | .rotate _ _ => true
  | .fullcal _ => true
  | .calslice _ _ => true
  | .retire _ _ => true
  | .restore _ _ => true
  | .start _ _ => true
  | .sequencerDisable _ _ => true
  | .idle _ _ => true
  | .frame _ _ _ _ _ _ => true
  | .msg _ _ => true
  | .dataBlock _ _ _ _ => true
  | .clockRecovered _ => true
  | .clockRecoveryUnlock _ => true
  | .aprEnable _ => true
  | .retrain _ _ => true
  | .seqreset _ _ => true
  | .cuStart _ _ => true
  | .cuReset _ _ => true
  | .startReset _ _ => true
  | .capture _ _ => true
  | .periodWrite _ _ => true
  | .captureRead _ => true
  | .sinkEnableWrite _ _ _ => true
  | .modeWrite _ _ => true
  | .swtrig _ _ => true
  | .mismatch _ agree x => ([0, 1, 2, 4] : List (BitVec 3)).contains agree && votedOk x.perform
  | .debugHalt => true
  | .debugResume => true
  | .trioResetAction _ _ => true
  | .kick _ _ => true
  | .irqPendClear _ _ _ => true
  | .exec _ _ => true
  | .verify _ => true
  | .program _ _ => true
  | .transition _ _ => true
  | .arver _ _ => true
  | .revoke _ _ => true
  | .wipe _ => true
  | .pcieFunctionReset _ => true
  | .ringEnable _ _ _ => true
  | .ringDisable _ _ _ => true
  | .descriptorArrival _ _ buf => bytesOk 512 buf
  | .hifTake _ => true
  | .post _ _ => true
  | .status _ => true
  | .paramRead _ => true
  | .paramWrite _ => true
  | .hostVset _ => true
  | .railEnable _ => true
  | .railClear _ => true
  | .motorSpeed _ => true
  | .telemPeriod _ => true
  | .ringtest _ => true
  | .longopAbort _ => true
  | .lockRead _ _ => true
  | .lockRelease _ _ _ => true
  | .break _ _ => true
  | .mailboxDataWrite _ _ _ _ => true
  | .mailboxSend _ _ _ _ => true
  | .mailboxTake _ _ => true
  | .page _ x => xferOk x
  | .operation _ x => xferOk x
  | .clearFaults _ x => xferOk x
  | .capability _ x => xferOk x
  | .voutMode _ x => xferOk x
  | .voutCommand _ x => xferOk x
  | .voutMax _ x => xferOk x
  | .voutMin _ x => xferOk x
  | .coefficients _ x => xferOk x
  | .statusByte _ x => xferOk x
  | .statusWord _ x => xferOk x
  | .statusVout _ x => xferOk x
  | .statusIout _ x => xferOk x
  | .statusInput _ x => xferOk x
  | .statusTemperature _ x => xferOk x
  | .statusCml _ x => xferOk x
  | .statusMfrSpecific _ x => xferOk x
  | .readVin _ x => xferOk x
  | .readVout _ x => xferOk x
  | .readIout _ x => xferOk x
  | .readTemperature1 _ x => xferOk x
  | .readTemperature2 _ x => xferOk x
  | .pmbusRevision _ x => xferOk x
  | .mfrId _ x => xferOk x
  | .mfrModel _ x => xferOk x
  | .mfrRevision _ x => xferOk x
  | .mfrMbxSel _ x => xferOk x
  | .mfrMbxLock _ x => xferOk x
  | .mfrMbxData _ x => xferOk x
  | .mfrMbxSend _ x => xferOk x
  | .mfrMbxTake _ x => xferOk x
  | .mfrAttn _ x => xferOk x
  | .mfrDevtime _ x => xferOk x
  | .mfrClear _ x => xferOk x
  | .responseTableRead _ _ => true
  | .unsupportedCommand _ _ => true
  | .queuePop _ _ => true
  | .pointerWrite _ data => decide (data.length ≤ 256)
  | .pointerRead _ _ => true
  | .personalityChange _ => true
  | .controllerExec _ _ => true
  | .controllerTransferEnd _ _ rx => decide (rx.length ≤ 255)
  | .twReset _ _ => true
  | .request _ _ => true
  | .hostNotifyReceived _ _ _ _ => true
  | .avsVoltageWrite _ _ _ _ _ => true
  | .avsVoltageRead _ _ _ => true
  | .avsTransitionRateRead _ _ _ => true
  | .avsCurrentRead _ _ _ => true
  | .avsTemperatureRead _ _ _ => true
  | .avsResetVoltageWrite _ _ _ _ => true
  | .avsStatusRead _ _ _ => true
  | .avsStatusWrite _ _ _ _ => true
  | .usbAttach => true
  | .usbDetach => true
  | .busReset _ => true
  | .resume => true
  | .setAddress _ _ => true
  | .setConfiguration _ _ => true
  | .getStatus _ _ _ => true
  | .clearFeature _ _ _ _ => true
  | .setFeature _ _ _ _ => true
  | .getDescriptor _ _ _ _ => true
  | .getConfiguration _ => true
  | .getInterface _ => true
  | .setInterface _ _ => true
  | .unsupportedRequest => true
  | .hubClassRequest _ _ _ _ _ => true
  | .outToken _ => true
  | .outData _ _ _ data => decide (data.length ≤ 512)
  | .ping _ => true
  | .inToken _ => true
  | .inAck _ => true
  | .sof _ _ => true
  | .gobAlloc _ _ => true
  | .gobRelease _ _ _ => true
  | .inPush _ _ _ _ => true
  | .outTake _ _ => true
  | .regionConfig _ _ => true
  | .reconnect _ _ => true
  | .motorEnable _ _ => true
  | .motorDisable _ _ => true
  | .motorInert _ _ => true
  | .motorRelease _ _ => true
  | .motorClear _ _ => true
  | .currentPairComplete _ _ _ => true
  | .quadSample _ _ _ => true
  | .sincosSample _ _ _ => true
  | .indexEdge _ => true
  | .setpos _ _ => true
  | .measurementEnd _ => true
  | .scan _ _ => true
  | .caplearn _ => true
  | .recal _ _ => true
  | .capAbort _ _ => true
  | .blockreset _ _ => true
  | .powerOnReset _ => true
  | .resetPin => true
  | .phySupplyDrop => true
  | .snap _ _ => true
  | .fwentry _ _ => true
  | .extest _ _ => true
  | .idcode => true
  | .samplePreload _ _ => true
  | .clamp => true
  | .highz => true
  | .bypass _ => true
  | .authenticatedDebugPort _ _ => true
  | .tapReset => true
  | .phySupplyReturn => true
  | .pcieLinkUp _ _ => true
  | .debugSessionEnd => true
  | .downstreamRemoteWakeup _ => true

end Sys2Proof
end

