-- ==== Sys2Proof/Tests/Slice0.lean ====
section
/-!
SUPPORT. Tests/Slice0.lean: the states that tests and witnesses use, the decoder's words from the spec's encoding, an ill-formed command for
each check of WellFormed, single steps with results worked out from the spec, and for every statement states and operands that meet its
hypotheses.
-/
namespace Sys2Proof.Tests

open Sys2Proof Sys2Proof.Machine

set_option Elab.async false
set_option linter.unusedVariables false

/-! ## States -/

/-- Rail 1 in RUN and REG with phase 5 alone on its list, one phase active. -/
def railUp : State :=
  ((((((State.reset.put (F.EDGEr_CTL_EN 1) 1).put (F.EDGEr_STAT_ST 1) 2).put (F.MRVr_STAT_STATE 1) 3).put (F.MRVr_STAT_N 1) 1).put (F.EDGEr_MAP_M 1) 1).wr
    (Reg.EDGEr_LISTj 1 0) 5)

/-- Every power domain on. -/
def powered : State := (State.reset.put F.PWR_ON0_ON 0xffffffff).put F.PWR_ON1_ON 0xffffffff

/-- The Apram link ACTIVE on both lanes and synchronised at H = 100. -/
def linked : State :=
  aprUpd (fun a => { a with lane := Vector.replicate 2 { joined := true, hist := [false], fresh := false, pos := some 1 } })
    ((((((State.reset.put F.APR_CTL_EN 1).put F.APR_STAT_LANE0 3).put F.APR_STAT_LANE1 3).put F.APR_STAT_LINK 2).put F.APR_STAT_SYNCD 1).put F.APR_SEQ_H 100)

/-- A forecast of 10 A. -/
def fcast : Forecast := ⟨7, 40, 100, 100, 50, 0, false, 1, 1, 100, 1⟩

/-- Rail 1 regulating with its domain's forecasts enabled and a running episode. -/
def shaping (st : Nat) (f : Forecast) : State :=
  parUpd 1 (fun q => { q with fc := some f }) (railUp.put (F.PARr_STAT_STATE 1) st)

/-- A power-up state in which the Trio executes ROM code at 0x100 in window 2, with a count in every register of the window file. -/
def booted : State :=
  { (powered.put F.SYS_SPEED_TRIO 0) with
    trio := { run := true, core := { pc := 0x100, cwp := 2, g := #v[0, 3, 5, 7, 9, 11, 13, 15], win := Vector.ofFn (fun i => BitVec.ofNat 32 (1000 + i.val)) } } }

/-- The same with register k of the window set. -/
def bootedWith (k : Nat) (v : Word) : State := coreUpd (fun c => c.setReg k v) booted

/-- The USB function configured at high speed, with bulk endpoint 2 enabled in both directions on region 1 of four gobs. -/
def usbUp : State :=
  epUpd 2 (fun e => { e with ctl := 0xC0000101 })
    (((((((powered.put F.USB_CTL_EN 1).put F.USB_STAT_FST 4).put F.USB_STAT_CONF 1).put F.USB_STAT_ADDR 9).put F.USB_STAT_HS 1).wr (Reg.USB_Rj_CFG 1) 0x80001708).wr (Reg.USB_Rj_CFG 0) 0x80000700)

/-- Command ring 2 with its completion ring 3, of 16 entries each, running. -/
def ringsUp : State :=
  ((((((((powered.put (F.HIF_SQn_CTL_EN 2) 1).put (F.HIF_SQn_CTL_CQ 2) 3).put (F.HIF_SQn_CTL_LOG2SIZE 2) 4).put (F.HIF_SQn_CTL_OPCLS 2) 0x7F).put (F.HIF_SQn_STAT_STATE 2) 1).put (F.HIF_CQm_CTL_EN 3) 1).put
    (F.HIF_CQm_STAT_STATE 3) 1).wr (Reg.HIF_CQm_BASEL 3) 0x4000).put (F.HIF_CQm_CTL_LOG2SIZE 3) 4

/-- A descriptor's words in hand-off slot 5. -/
def withDesc (l : List (Nat × Word)) (s : State) : State := l.foldl (fun t x => t.wr (Reg.HIF_SLOTs_Di 5 x.1) x.2) s

/-- Domain 2 tracking feedback channel 1, both enabled, for motor 3, which is off. -/
def motorReady : State :=
  domUpd 2 (fun d => { d with src := 5, rate := 1000000 }) ((((((powered.put (F.ANGn_CTL_EN 2) 1).put (F.ANGn_STAT_STATE 2) 2).put (F.FBf_CTL_EN 1) 1).put (F.MOTm_CTL_DOM 3) 2).put (F.MOTm_LIM_OVSPD 3) 9000).put
    (F.MOTm_IQMAX_IQMAX 3) 20000)

/-- The same with motor 3 enabled in a state, its first period over. -/
def motorIn (st : Nat) : State :=
  motUpd 3 (fun x => { x with first := false, theta := 0x2000 }) (((motorReady.put (F.MOTm_CTL_EN 3) 1).put (F.MOTm_STAT_ST 3) st).put (F.MOTm_CUR_KP 3) 4096 |>.put (F.MOTm_LIM_IOC 3) 30000)

/-- Feedback channel 1 counting in quadrature mode from 10, the last sample read as A high, B low. -/
def quadUp : State :=
  fbUpd 1 (fun x => { x with a := true, seen := true }) (((powered.put (F.FBf_CTL_EN 1) 1).wr (Reg.FBf_POS 1) 10).wr (Reg.FBf_ACNT 1) 10)

/-- Sensing enabled on electrodes 3 and 7, a scan measuring electrode 3, both past their first measurement, with a baseline of 400 counts. -/
def sensing : State :=
  capUpd (fun c => { c with scan := some [3, 7], step := 64, limit := 65535, el := c.el.map (fun e => { e with fresh := false }) })
    { (((((powered.put F.CAP_CTL_EN 1).put F.CAP_EN_MASK 0x88).put (F.CAPi_BL_BL 3) 6400).put (F.CAPi_DRY_DRY 3) 500).put (F.CAPi_STAT_DRYV 3) 1).put F.CAP_MEAS_OSR 0 with clk := { ns := 10000000 } }

/-- A power-up state halted for debug in life-cycle state BLANK, with a count in every register. -/
def haltedDbg : State := booted.put F.SYS_SPEED_TRIO 3

/-- Rail 1 regulating with every slice on and a gain of 1 in slice V2, a grid edge 6 ns ago. -/
def sampling : State :=
  let s := (railUp.put F.PWR_ON0_ON 0xffffffff).put F.PWR_ON1_ON 0xffffffff
  calPut 0 2 1 32768 { s with clk := { s.clk with ns := 1006, gridT := some 1000 } }

/-- Every slice on with a gain of 1 in slice I2, the fifth grid edge, of the second phase of each I-lane, 5 ns ago. -/
def iSampling : State := calPut 1 2 1 32768 { powered with clk := { powered.clk with ns := 1005, gridT := some 980 } }

/-- A block as a lane whose descrambler is at its reset state receives it: its header and its eight scrambled bytes (R191, R192). -/
def received (header : BitVec 2) (l : List Byte) : BitVec 66 := (scramble 64 (payload l) State.reset.apr.lane[(0 : Fin 2)].scr 0).1 ++ header

/-! ## Decoding: words written out from R257, R258, R260, R261, R264, R265, R268, R273, R275 -/

/-- The words of the worked case of spec/09_shauc_isa.md. -/
theorem test_decode_worked_case :
    ∀ p ∈ ([(0xB1CEFF80, .wopen 0xB1CEFF80),
    (0x06000000, .add 0x06000000),
    (0xC4030006, .loopi 0xC4030006),
    (0x4238C000, .ldw 0x4238C000),
    (0x0B180004, .addi 0x0B180004),
    (0xC2200003, .loop 0xC2200003),
    (0x4258C000, .ldw 0x4258C000),
    (0x06109000, .add 0x06109000),
    (0x07100000, .add 0x07100000),
    (0xB4000000, .wclose 0xB4000000),
    (0xA80F0000, .jmpl 0xA80F0000)] : List (Word × Instr)), shaucDecode p.1 = p.2 := by decide +kernel

/-- op 0x01, rd = 9, rs1 = 20, rs2 or sh = 12, and each fn of R258. -/
theorem test_decode_alu :
    ∀ p ∈ ([(0x05346000, .add 0x05346000),
    (0x05346001, .sub 0x05346001),
    (0x05346002, .and_ 0x05346002),
    (0x05346003, .or_ 0x05346003),
    (0x05346004, .xor 0x05346004),
    (0x05346005, .sll 0x05346005),
    (0x05346006, .srl 0x05346006),
    (0x05346007, .sra 0x05346007),
    (0x05346008, .slt 0x05346008),
    (0x05346009, .sltu 0x05346009),
    (0x0534600A, .min 0x0534600A),
    (0x0534600B, .max 0x0534600B),
    (0x0534600C, .minu 0x0534600C),
    (0x0534600D, .maxu 0x0534600D),
    (0x05346010, .slli 0x05346010),
    (0x05346011, .srli 0x05346011),
    (0x05346012, .srai 0x05346012),
    (0x05346013, .sati 0x05346013),
    (0x05346020, .mul 0x05346020),
    (0x05346021, .mulh 0x05346021),
    (0x05346022, .mulhu 0x05346022),
    (0x05346023, .madd 0x05346023),
    (0x05346024, .msub 0x05346024),
    (0x05346028, .div 0x05346028),
    (0x05346029, .divu 0x05346029),
    (0x0534602A, .rem 0x0534602A),
    (0x0534602B, .remu 0x0534602B)] : List (Word × Instr)), shaucDecode p.1 = p.2 := by decide +kernel

/-- ops 0x02 to 0x08 with rd = 9, rs1 = 20 (0 for LUI), imm16 = 0x8001 (R260). -/
theorem test_decode_immediate :
    ∀ p ∈ ([(0x09348001, .addi 0x09348001),
    (0x0D348001, .andi 0x0D348001),
    (0x11348001, .ori 0x11348001),
    (0x15348001, .xori 0x15348001),
    (0x19348001, .slti 0x19348001),
    (0x1D348001, .sltiu 0x1D348001),
    (0x21208001, .lui 0x21208001)] : List (Word × Instr)), shaucDecode p.1 = p.2 := by decide +kernel

/-- ops 0x10 to 0x19 with rs1 = 20, c6, simm13 = -16 (R261). -/
theorem test_decode_memory :
    ∀ p ∈ ([(0x4134DFF0, .ldw 0x4134DFF0),
    (0x4534DFF0, .ldh 0x4534DFF0),
    (0x4934DFF0, .ldhu 0x4934DFF0),
    (0x4D34DFF0, .ldb 0x4D34DFF0),
    (0x5134DFF0, .ldbu 0x5134DFF0),
    (0x5534DFF0, .stw 0x5534DFF0),
    (0x5934DFF0, .sth 0x5934DFF0),
    (0x5D34DFF0, .stb 0x5D34DFF0),
    (0x60B4DFF0, .ldc 0x60B4DFF0),
    (0x64B4DFF0, .stc 0x64B4DFF0)] : List (Word × Instr)), shaucDecode p.1 = p.2 := by decide +kernel

/-- Branches, J, CALL, JMPL, windows and loops (R264, R265, R268). -/
theorem test_decode_control :
    ∀ p ∈ ([(0x8134FFFE, .beq 0x8134FFFE),
    (0x8534FFFE, .bne 0x8534FFFE),
    (0x8934FFFE, .blt 0x8934FFFE),
    (0x8D34FFFE, .bge 0x8D34FFFE),
    (0x9134FFFE, .bltu 0x9134FFFE),
    (0x9534FFFE, .bgeu 0x9534FFFE),
    (0xA3FFFFFF, .j 0xA3FFFFFF),
    (0xA4000005, .call 0xA4000005),
    (0xA9E90008, .jmpl 0xA9E90008),
    (0xB1CEFFC0, .wopen 0xB1CEFFC0),
    (0xB5CE0040, .wclose 0xB5CE0040),
    (0xC1200003, .loop 0xC1200003),
    (0xC7FF0007, .loopi 0xC7FF0007)] : List (Word × Instr)), shaucDecode p.1 = p.2 := by decide +kernel

/-- op 0x38 with each fn of R273; RDSR and WRSR name SR 0. -/
theorem test_decode_system :
    ∀ p ∈ ([(0xE1200000, .rdsr 0xE1200000),
    (0xE0140001, .wrsr 0xE0140001),
    (0xE0000002, .trap 0xE0000002),
    (0xE0000003, .bkpt 0xE0000003),
    (0xE0000004, .tret 0xE0000004),
    (0xE0000005, .wfi 0xE0000005),
    (0xE0000006, .ckpt 0xE0000006),
    (0xE0000007, .wspill 0xE0000007),
    (0xE0000008, .wfill 0xE0000008)] : List (Word × Instr)), shaucDecode p.1 = p.2 := by decide +kernel

/-- op 0x3A with each fn of R275. -/
theorem test_decode_capability :
    ∀ p ∈ ([(0xE8745480, .acpy 0xE8745480),
    (0xE8745481, .ardbase 0xE8745481),
    (0xE8745482, .ardlen 0xE8745482),
    (0xE8745483, .ardperm 0xE8745483),
    (0xE8745484, .ardtype 0xE8745484),
    (0xE8745485, .ardtag 0xE8745485),
    (0xE8745488, .atrimlo 0xE8745488),
    (0xE8745489, .atrimlen 0xE8745489),
    (0xE874548A, .amask 0xE874548A),
    (0xE874548B, .avoid 0xE874548B),
    (0xE874548C, .alock 0xE874548C),
    (0xE874548D, .aunlock 0xE874548D),
    (0xE874548E, .awithin 0xE874548E),
    (0xE8745490, .ajump 0xE8745490),
    (0xE8745491, .aenter 0xE8745491),
    (0xE8745492, .ardpcc 0xE8745492),
    (0xE8745498, .ardspc 0xE8745498),
    (0xE8745499, .awrspc 0xE8745499)] : List (Word × Instr)), shaucDecode p.1 = p.2 := by decide +kernel

/-- The two defined-illegal words, and reserved encodings: a reserved op, an unlisted fn, a field that must hold 0, off16 = 0 (R276, R277). -/
theorem test_decode_refused :
    ∀ p ∈ ([(0x00000000, .definedIllegal 0x00000000),
    (0xFFFFFFFF, .definedIllegal 0xFFFFFFFF),
    (0xFC000000, .reservedEncoding 0xFC000000),
    (0x24000000, .reservedEncoding 0x24000000),
    (0x0534600E, .reservedEncoding 0x0534600E),
    (0x21210005, .reservedEncoding 0x21210005),
    (0xC1210003, .reservedEncoding 0xC1210003),
    (0xC1200000, .reservedEncoding 0xC1200000),
    (0xC4030000, .reservedEncoding 0xC4030000),
    (0xE0000009, .reservedEncoding 0xE0000009),
    (0xE87454C0, .reservedEncoding 0xE87454C0),
    (0x6134C000, .reservedEncoding 0x6134C000)] : List (Word × Instr)), shaucDecode p.1 = p.2 := by decide +kernel

/-- The table's rows carry no bits: no word spells a command by them. -/
theorem test_decode_table_word : decodeTableWord 32 0x06109000 = none := by decide

/-! ## Well-formedness -/

/-- A word of another encoding in every instruction, and a transfer that is too long in every two-wire command, are ill formed. -/
theorem test_wellFormed_words :
    ∀ i ∈ ([.add 0, .sub 0, .and_ 0, .or_ 0, .xor 0, .sll 0,
    .srl 0, .sra 0, .slt 0, .sltu 0, .min 0, .max 0,
    .minu 0, .maxu 0, .slli 0, .srli 0, .srai 0, .sati 0,
    .mul 0, .mulh 0, .mulhu 0, .madd 0, .msub 0, .div 0,
    .divu 0, .rem 0, .remu 0, .addi 0, .andi 0, .ori 0,
    .xori 0, .slti 0, .sltiu 0, .lui 0, .ldw 0, .ldh 0,
    .ldhu 0, .ldb 0, .ldbu 0, .stw 0, .sth 0, .stb 0,
    .ldc 0, .stc 0, .beq 0, .bne 0, .blt 0, .bge 0,
    .bltu 0, .bgeu 0, .j 0, .call 0, .jmpl 0, .wopen 0,
    .wclose 0, .loop 0, .loopi 0, .rdsr 0, .wrsr 0, .trap 0,
    .bkpt 0, .tret 0, .wfi 0, .ckpt 0, .wspill 0, .wfill 0,
    .acpy 0, .ardbase 0, .ardlen 0, .ardperm 0, .ardtype 0, .ardtag 0,
    .atrimlo 0, .atrimlen 0, .amask 0, .avoid 0, .alock 0, .aunlock 0,
    .awithin 0, .ajump 0, .aenter 0, .ardpcc 0, .ardspc 0, .awrspc 0,
    .definedIllegal 0x04000000, .reservedEncoding 0, .page 0 (.write (List.replicate 257 0)), .operation 0 (.write (List.replicate 257 0)), .clearFaults 0 (.write (List.replicate 257 0)), .capability 0 (.write (List.replicate 257 0)),
    .voutMode 0 (.write (List.replicate 257 0)), .voutCommand 0 (.write (List.replicate 257 0)), .voutMax 0 (.write (List.replicate 257 0)), .voutMin 0 (.write (List.replicate 257 0)), .coefficients 0 (.write (List.replicate 257 0)), .statusByte 0 (.write (List.replicate 257 0)),
    .statusWord 0 (.write (List.replicate 257 0)), .statusVout 0 (.write (List.replicate 257 0)), .statusIout 0 (.write (List.replicate 257 0)), .statusInput 0 (.write (List.replicate 257 0)), .statusTemperature 0 (.write (List.replicate 257 0)), .statusCml 0 (.write (List.replicate 257 0)),
    .statusMfrSpecific 0 (.write (List.replicate 257 0)), .readVin 0 (.write (List.replicate 257 0)), .readVout 0 (.write (List.replicate 257 0)), .readIout 0 (.write (List.replicate 257 0)), .readTemperature1 0 (.write (List.replicate 257 0)), .readTemperature2 0 (.write (List.replicate 257 0)),
    .pmbusRevision 0 (.write (List.replicate 257 0)), .mfrId 0 (.write (List.replicate 257 0)), .mfrModel 0 (.write (List.replicate 257 0)), .mfrRevision 0 (.write (List.replicate 257 0)), .mfrMbxSel 0 (.write (List.replicate 257 0)), .mfrMbxLock 0 (.write (List.replicate 257 0)),
    .mfrMbxData 0 (.write (List.replicate 257 0)), .mfrMbxSend 0 (.write (List.replicate 257 0)), .mfrMbxTake 0 (.write (List.replicate 257 0)), .mfrAttn 0 (.write (List.replicate 257 0)), .mfrDevtime 0 (.write (List.replicate 257 0)), .mfrClear 0 (.write (List.replicate 257 0))] : List Instr), i.wellFormed = false := by decide +kernel

/-- An operand out of its range in every other command that has one. -/
theorem test_wellFormed_operands :
    ∀ i ∈ ([.syncPulse 0 0,
    .xspiCommandComplete (List.replicate 257 0),
    .mbxWrite 1 0 2 [5],
    .recovWrite 1 0 2 [5, 6, 7],
    .registerWrite .trio 0x100000000 0,
    .readClear .host 0x100001000 0,
    .w1cWrite .host 0x100001000 0 0,
    .expertSet .trio 0x100000000 0,
    .expertClear .trio 0x100000000 0,
    .unlistedAction .trio 0x100000000 1 2 3,
    .calibrationComplete 0 (some [1, 2]),
    .mismatch 0 3 ⟨none, none⟩,
    .mismatch 0 1 ⟨some (0x100000000, [], false), none⟩,
    .mismatch 0 1 ⟨some (0x40010002, [1, 2, 3, 4], false), none⟩,
    .mismatch 0 1 ⟨some (0x40010000, [1, 2, 3], false), none⟩,
    .descriptorArrival 0 none (some (List.replicate 513 0)),
    .coefficients 0 (.call (List.replicate 257 0)),
    .pointerWrite 0 (List.replicate 257 0),
    .controllerTransferEnd 0 0 (List.replicate 256 0),
    .outData 0 false true (List.replicate 513 0),
    .mfrAttn 0 (.short 257)] : List Instr), i.wellFormed = false := by decide +kernel

/-- Well-formed commands are accepted: an ADD, a write, a command of no operands. -/
theorem test_wellFormed_accepts :
    ∀ i ∈ ([.add 0x06109000, .registerWrite .trio 0x40010000 0x80000000, .eventDelivery, .page 0 (.write [3])] : List Instr), i.wellFormed = true := by
  decide +kernel

/-! ## Single steps -/

/-- The state after an outcome. -/
def after (o : Out) : State := match o with | .next t => t | _ => State.reset

/-- The worked case of spec/14_mailboxes.md, step 1: USB reads MB0_LOCK first and reads 0, TW0 then reads 3 (R397, R398). -/
theorem test_lock_worked_case :
    let t := after (exec (.lockRead [.usb] 0) State.reset)
    t.rdata = 0 ∧ (after (exec (.lockRead [.tw0] 0) t)).rdata = 3 := by decide +kernel

/-- Step 3 of the same case: MB0_SEND = 0x0000_0401 is ticket 0, LEN 4, action 0x01: FULL sets with LEN 4 and sender 3 (R401). -/
theorem test_send_worked_case :
    let t := after (exec (.mailboxSend .usb 0 0 4) ((State.reset.put (F.MBk_STAT_OWNER 0) 3).put (F.MBk_CFG_RECV 0) 1))
    takeWord 0 t = 0x80040300 := by decide +kernel

/-- The packet error code of the nine bytes "123456789" is 0xF4, the check value of CRC-8 with polynomial x^8 + x^2 + x + 1 (R411). -/
theorem test_pec_check : pec [0x31, 0x32, 0x33, 0x34, 0x35, 0x36, 0x37, 0x38, 0x39] = 0xF4 := by decide +kernel

/-- LOOPI of the worked case of spec/09_shauc_isa.md: LSA0, LEA0, LCT0 and DEPTH after the word at 0x1000_0108. -/
theorem test_loopi_worked_case :
    let c := (after (exec (.loopi 0xC4030006) (coreUpd (fun c => { c with pc := 0x10000108 }) booted))).trio.core
    c.lsa[(0 : Fin 3)] = 0x1000010C ∧ c.lea[(0 : Fin 3)] = 0x10000120 ∧ c.lct[(0 : Fin 3)] = 3 ∧ c.depth = 1 := by decide +kernel

/-- Its LOOP with a count of 0 skips the body and performs the loop-back of the level that ends there: LCT0 falls from 2 to 1 and the next PC
is LSA0 (R268). -/
theorem test_loop_skip_worked_case :
    let c := (after (exec (.loop 0xC2200003) (coreUpd (fun c =>
      { (c.setReg 17 0) with pc := 0x10000114, depth := 1, lsa := c.lsa.set 0 0x1000010C, lea := c.lea.set 0 0x10000120, lct := c.lct.set 0 2 }) booted))).trio.core
    c.pc = 0x1000010C ∧ c.lct[(0 : Fin 3)] = 1 ∧ c.depth = 1 := by decide +kernel

/-- A division by zero and the overflowing division (R259), rd = o1, rs1 = l4, rs2 = o4. -/
theorem test_div_zero : (after (exec (.div 0x05346028) (bootedWith 12 0))).trio.core.reg 9 = 0xFFFFFFFF := by decide +kernel
theorem test_rem_zero : (after (exec (.rem 0x0534602A) (bootedWith 12 0))).trio.core.reg 9 = booted.trio.core.reg 20 := by decide +kernel
theorem test_div_overflow :
    (after (exec (.div 0x05346028) (coreUpd (fun c => c.setReg 20 0x80000000) (bootedWith 12 0xFFFFFFFF)))).trio.core.reg 9 = 0x80000000 := by
  decide +kernel

/-- A write to g0 is discarded (R249). -/
theorem test_g0 : (booted.trio.core.setReg 0 5).reg 0 = 0 := by decide +kernel

/-- The outs of window 2 are the ins of window 3 (R250). -/
theorem test_windows : ({ (booted.trio.core.setReg 10 77) with cwp := 3 } : Core).reg 26 = 77 := by decide +kernel

/-- Executing 0x0000_0000 raises TCAUSE 0x03 at its PC, and the cores go on at the boot trap entry (R276, R287). -/
theorem test_illegal_word :
    let c := (after (exec (.definedIllegal 0) booted)).trio.core
    c.tcause.extractLsb' 0 8 = 0x03 ∧ c.tepc = 0x100 ∧ c.pc = 0x40 ∧ c.intrap = true := by decide +kernel

/-- A repeated ticket is ignored entirely; ticket 0x00 never is (R20). -/
theorem test_ticket :
    let t := after (exec (.snap 7 0) State.reset)
    after (exec (.snap 7 1) t) = t ∧ (after (exec (.snap 0 1) t)).rd Reg.LOG_ACT = actWord 0 1 1 := by decide +kernel

/-- CAPABILITY answers 0xC4 and its packet error code (R414). -/
theorem test_capability : ((after (exec (.capability 0 .read) (twUpd 0 (fun p => { p with pers := 2, addr := 0x5A }) powered))).tw[(0 : Fin 2)].resp).head? = some 0xC4 := by
  decide +kernel

/-- COEFFICIENTS of VOUT_COMMAND answers m = 2, b = 0, R = 3 as a block of five bytes (R417). -/
theorem test_coefficients :
    ((after (exec (.coefficients 0 (.call [2, 0x21, 1])) (twUpd 0 (fun p => { p with pers := 2, addr := 0x5A }) powered))).tw[(0 : Fin 2)].resp).take 6 = [5, 2, 0, 0, 0, 3] := by
  decide +kernel

/-- A one-state Gray step forward from (A, B) = (1, 0) to (1, 1) counts +1 (R482). -/
theorem test_quadrature : (after (exec (.quadSample 1 ⟨true, 40⟩ ⟨true, 40⟩) quadUp)).rd (Reg.FBf_POS 1) = 11 := by decide +kernel

/-- The IDCODE instruction shows version 1 and part 0x9640 above the manufacturer's identity (R556). -/
theorem test_idcode : (after (exec .idcode State.reset)).tap.instr = 1 ∧ idcode.extractLsb' 12 20 = 0x19640 := by
  refine ⟨by decide +kernel, ?_⟩
  unfold idcode
  generalize Config.jedecId = x
  revert x
  decide +kernel


/-! ## Witnesses: the hypotheses of every clause are met together -/

/-- States and operands that meet the hypotheses of each clause of StepRunsFrontCommand. -/
theorem witness_StepRunsFrontCommand :
    (State.reset.pending = []) :=
  by decide +kernel

/-- States and operands that meet the hypotheses of each clause of CapabilityReset. -/
theorem witness_CapabilityReset :
    (∃ (s : State) (ticket : Byte), Fresh Reg.SYS_ACT ticket s) ∧
    (∃ (s : State) (ticket : Byte) (arg : BitVec 16), Fresh Reg.TRIO_ACT ticket s ∧ s.trio.run = true) :=
  ⟨⟨booted, 0, by decide +kernel⟩,
   ⟨booted, 0, 0, by decide +kernel⟩⟩

/-- States and operands that meet the hypotheses of each clause of RegisterAccess. -/
theorem witness_RegisterAccess :
    (∃ (s : State) (addr : Nat) (value : Word) (r : RegRow), answered .trio addr { s with busErr := false } = true ∧ rowFor addr = some r ∧
      r.act = false ∧ r.w1c = 0 ∧ addr ≠ ctlOf addr ∧ (addr / 65536 = 0x400B ∨ addr / 65536 = 0x4015 ∨ addr / 65536 = 0x4017)) ∧
    (∃ (s : State) (addr : Nat) (event : Word) (r : RegRow), answered .trio addr { s with busErr := false } = true ∧ rowFor addr = some r ∧
      r.rc ≠ 0 ∧ addr / 65536 ≠ 0x400D) ∧
    (∃ (s : State) (addr : Nat) (value event : Word) (r : RegRow), answered .trio addr { s with busErr := false } = true ∧ rowFor addr = some r ∧
      r.act = false ∧ r.w1c ≠ 0 ∧ r.rw ||| r.rwl = 0 ∧ addr ≠ ctlOf addr ∧ addr / 65536 ≠ 0x400D ∧ addr / 65536 ≠ 0x4010 ∧ addr / 65536 ≠ 0x400A ∧
      addr / 65536 ≠ 0x4003) ∧
    (∃ (s : State) (addr : Nat) (value : Word), answered .trio (ctlOf addr) { s with busErr := false } = true ∧
      (addr / 65536 = 0x4002 ∨ addr / 65536 = 0x4003 ∨ addr / 65536 = 0x4008 ∨ addr / 65536 = 0x4015)) ∧
    (∃ (s : State) (addr : Nat) (value : Word), answered .trio (ctlOf addr) { s with busErr := false } = true ∧
      (addr / 65536 = 0x4003 ∨ addr / 65536 = 0x4008 ∨ addr / 65536 = 0x4015) ∧ s.expertAt addr = true) ∧
    (∃ (s : State) (addr : Nat) (ticket : Byte) (arg : BitVec 16) (action : Byte) (r : RegRow), answered .trio addr { s with busErr := false } = true ∧
      addr / 65536 ≠ 0x400D ∧ rowFor addr = some r ∧ addr / 65536 ≠ 0x4003 ∧ r.act = true ∧ Fresh addr ticket s ∧ 0x40 ≤ action.toNat) :=
  ⟨⟨(State.reset.put F.PWR_ON0_ON 0xffffffff).put F.PWR_ON1_ON 0xffffffff, ((Reg.LOG_FWDATAi 2)), 0x55, ((rowFor ((Reg.LOG_FWDATAi 2))).getD ⟨0,0,0,0,0,0,0,0,0,0,0,0,false,false⟩), by decide +kernel⟩,
   ⟨(State.reset.put F.PWR_ON0_ON 0xffffffff).wr (Reg.MRVr_GLCNT 2) 0x12345, (Reg.MRVr_GLCNT 2), 0x10000, ((rowFor ((Reg.MRVr_GLCNT 2))).getD ⟨0,0,0,0,0,0,0,0,0,0,0,0,false,false⟩), by decide +kernel⟩,
   ⟨(State.reset.put F.PWR_ON0_ON 0xffffffff).wr Reg.ANG_FLT 0x30003, Reg.ANG_FLT, 0x10001, 1, ((rowFor (Reg.ANG_FLT)).getD ⟨0,0,0,0,0,0,0,0,0,0,0,0,false,false⟩), by decide +kernel⟩,
   ⟨State.reset.put F.PWR_ON0_ON 0xffffffff, 0x40020104, 0, by decide +kernel⟩,
   ⟨((State.reset.put F.PWR_ON0_ON 0xffffffff).wr Reg.GATH_CTL 0x80000000).wr Reg.GATH_ROT 0xffffffff, 0x40030104, 0xffffffff, by decide +kernel⟩,
   ⟨(State.reset.put F.PWR_ON0_ON 0xffffffff).put F.PWR_ON1_ON 0xffffffff, Reg.MRV_ACT, 3, 4, 0x77, ((rowFor (Reg.MRV_ACT)).getD ⟨0,0,0,0,0,0,0,0,0,0,0,0,false,false⟩), by decide +kernel⟩⟩

/-- States and operands that meet the hypotheses of each clause of ClockSelection. -/
theorem witness_ClockSelection :
    (∃ (s : State) (since : Nat), s.on F.SYS_CLKSTAT_XINOK = true) ∧
    (∃ (s : State) (count : Nat) (gap : Bool), s.on F.SYS_CLKSTAT_XINOK = true ∧ xinInRange count s = false) ∧
    (∃ (s : State) (count : Nat), s.on F.SYS_CLKSTAT_XINOK = false ∧ xinInRange count s = true) ∧
    (∃ (s : State), s.clk.qualStart.isSome = true ∧ s.clk.firstSel = false) ∧
    (∃ (s : State), s.on F.SYS_CLKSTAT_XINOK = true ∧ s.clk.firstSel = true ∧ s.on F.SYS_CLKSTAT_AOSRC = true ∧ s.on F.SYS_CLKCFG_AUTORET = true) ∧
    (∃ (s : State) (ticket : Byte) (arg : BitVec 16), Fresh Reg.SYS_CLKACT ticket s ∧ s.on F.SYS_CLKSTAT_XINOK = true ∧ s.clk.firstSel = true ∧
      s.on F.SYS_CLKSTAT_AOSRC = true) :=
  ⟨⟨State.reset.put F.SYS_CLKSTAT_XINOK 1, 200, by decide +kernel⟩,
   ⟨State.reset.put F.SYS_CLKSTAT_XINOK 1, 1200, true, by decide +kernel⟩,
   ⟨State.reset.put F.SYS_CLKSTAT_XINOK 0, 1024, by decide +kernel⟩,
   ⟨{ State.reset with clk := { qualStart := some 0 } }, by decide +kernel⟩,
   ⟨(((({ State.reset with clk := { firstSel := true } } : State).put F.SYS_CLKSTAT_XINOK 1).put F.SYS_CLKSTAT_AOSRC 1).put F.SYS_CLKCFG_AUTORET 1), by decide +kernel⟩,
   ⟨((({ State.reset with clk := { firstSel := true } } : State).put F.SYS_CLKSTAT_XINOK 1).put F.SYS_CLKSTAT_AOSRC 1), 5, 0, by decide +kernel⟩⟩

/-- States and operands that meet the hypotheses of each clause of AngleTracking. -/
theorem witness_AngleTracking :
    (∃ (s : State) (d : Fin 8), (dState d s = 2 ∨ dState d s = 3)) ∧
    (∃ (s : State) (d : Fin 8), dState d s = 4) ∧
    (∃ (s : State) (ticket : Byte) (arg : BitVec 16), Fresh Reg.ANG_ACT ticket s ∧ dState (Fin.ofNat 8 arg.toNat) s = 5 ∧
      s.dom[Fin.ofNat 8 arg.toNat].src ≠ 0) ∧
    (∃ (s : State) (ticket : Byte) (arg : BitVec 16), Fresh Reg.ANG_ACT ticket s ∧
      (dState (Fin.ofNat 8 arg.toNat) s = 3 ∨ dState (Fin.ofNat 8 arg.toNat) s = 4) ∧
      (s.dom[Fin.ofNat 8 arg.toNat].src = 1 ∨ s.dom[Fin.ofNat 8 arg.toNat].src = 2)) ∧
    (∃ (s : State), s.sync.reported = false) ∧
    (∃ (s : State) (d : Fin 8), s.sync.wait = false ∧ s.sync.role ≠ 1 ∧ syncDoms s = [d]) ∧
    (∃ (s : State) (d : Fin 8) (lead width : Nat), s.sync.role ≠ 1 ∧ 6 ≤ width ∧ width < 28 ∧ syncDoms s = [d] ∧ dState d s = 2 ∧ s.dom[d].acq = 0) ∧
    (∃ (s : State), s.sync.wait = false ∧ s.sync.inLevel = true) ∧
    (∃ (s : State) (level : Bool) (frac : Fin 64), level ≠ s.sync.ball ∧ s.sync.detect = none) :=
  ⟨⟨State.reset.put (F.ANGn_STAT_STATE 5) 3, 5, by decide +kernel⟩,
   ⟨State.reset.put (F.ANGn_STAT_STATE 5) 4, 5, by decide +kernel⟩,
   ⟨(domUpd 2 (fun x => { x with src := 1 }) (State.reset.put (F.ANGn_STAT_STATE 2) 5)), 9, 2, by decide +kernel⟩,
   ⟨(domUpd 2 (fun x => { x with src := 1 }) (State.reset.put (F.ANGn_STAT_STATE 2) 3)), 9, 2, by decide +kernel⟩,
   ⟨State.reset, by decide +kernel⟩,
   ⟨(domUpd 5 (fun x => { x with src := 1 }) (State.reset.put (F.ANGn_CTL_EN 5) 1)), 5, by decide +kernel⟩,
   ⟨(domUpd 5 (fun x => { x with src := 1 }) ((State.reset.put (F.ANGn_CTL_EN 5) 1).put (F.ANGn_STAT_STATE 5) 2)), 5, 1000, 16, by decide +kernel⟩,
   ⟨{ State.reset with clk := { ns := 40 }, sync := { inLevel := true, leadT := 20, role := 2 } }, by decide +kernel⟩,
   ⟨State.reset, true, 5, by decide +kernel⟩⟩

/-- States and operands that meet the hypotheses of each clause of AngleSettings. -/
theorem witness_AngleSettings :
    (∃ (s : State) (d : Fin 8) (value : Word), slotOn (Reg.ANGn_CTL d) s = true ∧ s.on (F.ANGn_CTL_EN d) = false ∧ domInUse d s = false ∧
      fldOf (F.ANGn_CTL_SRC d) value ≤ 2) ∧
    (∃ (s : State) (d : Fin 8) (value : Word), slotOn (Reg.ANGn_CTL d) s = true ∧ s.on (F.ANGn_CTL_EN d) = true ∧ domInUse d s = false) ∧
    (∃ (s : State) (d : Fin 8) (value : Word), slotOn (Reg.ANGn_CTL d) s = true ∧ s.on (F.ANGn_CTL_EN d) = true ∧
      fldOf (F.ANGn_CTL_EN d) value = 1 ∧ fldOf (F.ANGn_CTL_SRC d) value ≤ 2) ∧
    (∃ (s : State) (d : Fin 8) (value : Word), rateBad d value.toNat 16 s = false ∧ s.on (F.ANGn_CTL_EN d) = true ∧ s.dom[d].src ≤ 2 ∧
      ringFollower d s = false) ∧
    (∃ (s : State) (d : Fin 8) (value : Word), rateBad d value.toNat 16 s = true) ∧
    (∃ (s : State) (d : Fin 8) (value : Word), slotOn (Reg.ANGn_RATEH d) s = true ∧ s.on F.ANG_CTL_EXPERT = true ∧
      rateRangeBad d (value.toNat % 2 ^ 16 * 2 ^ 32 + s.get (F.ANGn_RATEL_RATEL d)) s = false) ∧
    (∃ (s : State) (value : Word), (∀ r : Fin 4, s.get (F.ANGn_CTL_SRC (fldOf (railmapFld r) value)) < 4 ∧
      s.dom[Fin.ofNat 8 (fldOf (railmapFld r) value)].src < 4 ∧ (railEn r s = true → Fin.ofNat 8 (fldOf (railmapFld r) value) = railDom r s))) ∧
    (∃ (s : State) (value : Word), slotOn Reg.ANG_SYNCCTL s = true ∧ s.sync.out = false ∧ s.sync.edges = []) ∧
    (∃ (s : State) (d : Fin 8) (v t0 : Nat), s.on (F.ANGn_CTL_EN d) = true ∧ domRails d s = [] ∧ s.get (F.ANGn_CTL_SRC d) = s.dom[d].src ∧
      ringMaster d s = false ∧ s.dom[d].relabel = false ∧ s.dom[d].chgIn ≠ 1 ∧ s.dom[d].pendRate = [(v, t0)] ∧ t0 < s.clk.ns) :=
  ⟨⟨State.reset.put F.PWR_ON0_ON 0xffffffff, 3, 0x10, by decide +kernel⟩,
   ⟨(State.reset.put F.PWR_ON0_ON 0xffffffff).put (F.ANGn_CTL_EN 3) 1, 3, 0x11, by decide +kernel⟩,
   ⟨(State.reset.put F.PWR_ON0_ON 0xffffffff).put (F.ANGn_CTL_EN 3) 1, 3, 0x11, by decide +kernel⟩,
   ⟨State.reset.put (F.ANGn_CTL_EN 3) 1, 3, 16000000, by decide +kernel⟩,
   ⟨State.reset, 3, 0xf0000000, by decide +kernel⟩,
   ⟨(State.reset.put F.PWR_ON0_ON 0xffffffff).put F.ANG_CTL_EXPERT 1, 3, 0x30, by decide +kernel⟩,
   ⟨State.reset, 0x7654, by decide +kernel⟩,
   ⟨State.reset.put F.PWR_ON0_ON 0xffffffff, 2, by decide +kernel⟩,
   ⟨(domUpd 5 (fun x => { x with pendRate := [(225179981369, 3)] }) ({ State.reset with clk := { ns := 9 } } : State)).put (F.ANGn_CTL_EN 5) 1, 5, 225179981369, 3, by decide +kernel⟩⟩

/-- States and operands that meet the hypotheses of each clause of AngleCompare. -/
theorem witness_AngleCompare :
    (∃ (s : State) (k : Fin 16) (v : Word), slotOn (Reg.ACUk_STAMP k) s = true ∧ s.on (F.ACUk_CTL_EN k) = true ∧ s.get (F.ACUk_CTL_MODE k) ≤ 1 ∧
      stampD (domAngle (Fin.ofNat 8 (s.get (F.ACUk_CTL_DOM k))) s) v ≤ 0) ∧
    (∃ (s : State) (k : Fin 16) (v : Word), slotOn (Reg.ACUk_CTL k) s = true ∧ s.on (F.ACUk_CTL_EN k) = true ∧ fldOf (F.ACUk_CTL_EN k) v = 0) ∧
    (∃ (s : State) (k : Fin 16), s.on (F.ACUk_CTL_EN k) = true ∧ s.get (F.ACUk_CTL_MODE k) = 0 ∧ s.acu[k].old = none ∧ s.acu[k].armable = true) ∧
    (∃ (s : State) (k : Fin 16), s.on (F.ACUk_CTL_EN k) = true ∧ s.get (F.ACUk_CTL_MODE k) = 1 ∧ s.rd (Reg.ACUk_STEP k) ≠ 0 ∧ s.acu[k].old = none ∧
      s.acu[k].armable = true) :=
  ⟨⟨(State.reset.put F.PWR_ON0_ON 0xffffffff).put (F.ACUk_CTL_EN 7) 1, 7, 0x1000, by decide +kernel⟩,
   ⟨(State.reset.put F.PWR_ON0_ON 0xffffffff).put (F.ACUk_CTL_EN 7) 1, 7, 0x10, by decide +kernel⟩,
   ⟨(acuUpd 7 (fun x => { x with armable := true }) (State.reset.put (F.ACUk_CTL_EN 7) 1)), 7, by decide +kernel⟩,
   ⟨(acuUpd 7 (fun x => { x with armable := true }) (((State.reset.put (F.ACUk_CTL_EN 7) 1).put (F.ACUk_CTL_MODE 7) 1).wr (Reg.ACUk_STEP 7) 5)), 7, by decide +kernel⟩⟩

/-- States and operands that meet the hypotheses of each clause of GatherRotation. -/
theorem witness_GatherRotation :
    (∃ (s : State) (b : Fin 3) (c : Nat), s.on F.GATH_ROT_ROTEN = true ∧ gBusy b s = false ∧ gHasSpare b s = true ∧ gCandidate b s = some c ∧
      s.get F.GATH_ROT_ROTINT ≠ 0 ∧ gStepDue b s = true) ∧
    (∃ (s : State) (b : Fin 3) (c : Nat) (ticket : Byte) (arg : BitVec 16), Fresh Reg.GATH_ACT ticket s ∧ gBanks arg = [b] ∧ gBusy b s = false ∧
      gHasSpare b s = true ∧ gCandidate b s = some c) ∧
    (∃ (s : State) (b : Fin 3) (mean : Int), (gBank b s).stage = .shadow ∧ (gBank b s).due ≤ s.clk.ns ∧
      mean.natAbs ≤ clampNat (s.get F.GATH_ROT_MATCHTOL) 1 63 * 16) ∧
    (∃ (s : State) (b : Fin 3), (gBank b s).stage = .shadow ∧ (gBank b s).due ≤ s.clk.ns ∧ (gBank b s).count = 256 ∧
      (gBank b s).sum.natAbs ≤ clampNat (s.get F.GATH_ROT_MATCHTOL) 1 63 * 256) ∧
    (∃ (s : State) (b : Fin 3) (mean : Int), (gBank b s).stage = .shadow ∧ (gBank b s).due ≤ s.clk.ns ∧
      clampNat (s.get F.GATH_ROT_MATCHTOL) 1 63 * 16 < mean.natAbs) ∧
    (∃ (s : State) (b : Fin 3), (gBank b s).stage = .shadow ∧ (gBank b s).due ≤ s.clk.ns ∧ (gBank b s).count = 256 ∧
      clampNat (s.get F.GATH_ROT_MATCHTOL) 1 63 * 256 < (gBank b s).sum.natAbs) ∧
    (∃ (s : State) (b : Fin 3) (lane : Nat), (gBank b s).stage = .swap ∧ (gBank b s).due ≤ s.clk.ns ∧ gLaneOf b (gBank b s).cand s = some lane ∧
      (gBank b s).spare < 16) ∧
    (∃ (s : State) (b : Fin 3) (coefs : List Int), (gBank b s).stage = .recalSpare ∧ (gBank b s).due ≤ s.clk.ns ∧ (gBank b s).spare < gSlices b ∧
      calBad b coefs = none) ∧
    (∃ (s : State) (b : Fin 3) (i : Nat) (ticket : Byte) (arg : BitVec 16), Fresh Reg.GATH_ACT ticket s ∧ gSliceArg arg = some (b, i) ∧
      gBusy b s = false ∧ gSpare b s = i) ∧
    (∃ (s : State) (b : Fin 3) (i : Nat) (ticket : Byte) (arg : BitVec 16), Fresh Reg.GATH_ACT ticket s ∧ gSliceArg arg = some (b, i) ∧
      gBusy b s = false ∧ gSpare b s = i) ∧
    (∃ (s : State) (b : Fin 3) (i : Nat) (ticket : Byte) (arg : BitVec 16), Fresh Reg.GATH_ACT ticket s ∧ gSliceArg arg = some (b, i) ∧
      gBusy b s = false ∧ gRetired b i s = true) ∧
    (∃ (s : State) (b : Fin 3) (ticket : Byte) (arg : BitVec 16), Fresh Reg.GATH_ACT ticket s ∧ gBanks arg = [b] ∧ gBusy b s = false ∧
      s.lop[(3 : Fin 5)].running = false ∧ gPool b s ≠ [] ∧ gHasSpare b s = true) :=
  ⟨⟨(((State.reset.put F.PWR_ON0_ON 0xffffffff).put F.PWR_ON1_ON 0xffffffff).put F.GATH_ROT_ROTEN 1).put F.GATH_ROT_ROTINT 5, 0, 0, by decide +kernel⟩,
   ⟨((State.reset.put F.PWR_ON0_ON 0xffffffff).put F.PWR_ON1_ON 0xffffffff), 1, 0, 3, 0x100, by decide +kernel⟩,
   ⟨gUpd 1 (fun k => { k with stage := .shadow, cand := 3, spare := 8 }) State.reset, 1, -16, by decide +kernel⟩,
   ⟨gUpd 1 (fun k => { k with stage := .shadow, cand := 3, spare := 8, count := 256, sum := -256 }) State.reset, 1, by decide +kernel⟩,
   ⟨gUpd 1 (fun k => { k with stage := .shadow, cand := 3, spare := 8 }) State.reset, 1, -1600, by decide +kernel⟩,
   ⟨gUpd 1 (fun k => { k with stage := .shadow, cand := 3, spare := 8, count := 256, sum := 25600 }) State.reset, 1, by decide +kernel⟩,
   ⟨gUpd 1 (fun k => { k with stage := .swap, cand := 3, spare := 8 }) State.reset, 1, 3, by decide +kernel⟩,
   ⟨gUpd 1 (fun k => { k with stage := .recalSpare, cand := 3, spare := 8 }) State.reset, 1, ([5, 32768, 1, 0, -5]), by decide +kernel⟩,
   ⟨State.reset, 1, 8, 3, 0x108, by decide +kernel⟩,
   ⟨State.reset, 1, 8, 3, 0x108, by decide +kernel⟩,
   ⟨gMark Reg.GATH_POOL 1 4 true State.reset, 1, 4, 3, 0x104, by decide +kernel⟩,
   ⟨((State.reset.put F.PWR_ON0_ON 0xffffffff).put F.PWR_ON1_ON 0xffffffff), 1, 3, 0x100, by decide +kernel⟩⟩

/-- States and operands that meet the hypotheses of each clause of GatherSequencers. -/
theorem witness_GatherSequencers :
    (∃ (s : State) (ticket : Byte) (arg : BitVec 16), Fresh Reg.GATH_ACT ticket s ∧ s.on (F.GSQn_CTL_EN (Fin.ofNat 16 arg.toNat)) = true ∧
      s.get (F.GSQn_CTL_TRIG (Fin.ofNat 16 arg.toNat)) = 0 ∧ s.on (F.GSQn_STAT_BUSY (Fin.ofNat 16 arg.toNat)) = false ∧
      s.on (F.GSQn_STAT_PEND (Fin.ofNat 16 arg.toNat)) = false) ∧
    (∃ (s : State) (n : Fin 16), s.on (F.GSQn_CTL_EN n) = true ∧ s.get (F.GSQn_CTL_TRIG n) = 2 ∧ s.gath.seq[n].armable = true ∧
      s.get (F.GSQn_STEP_STEP n) = 0 ∧ s.on (F.GSQn_STAT_BUSY n) = false ∧ s.on (F.GSQn_STAT_PEND n) = false) ∧
    (∃ (s : State) (n : Fin 16) (level : Option (BitVec 16)), s.on (F.GSQn_STAT_BUSY n) = true ∧ s.on (F.GSQn_CTL_EN n) = true ∧
      s.gath.seq[n].stop = false ∧ fldOf (F.GSQn_ENTe_LAST 0 0) (s.rd (Reg.GSQn_ENTe n s.gath.seq[n].entry)) = 0 ∧ s.gath.seq[n].entry ≠ 31 ∧
      fldOf (F.GSQn_ENTe_KIND 0 0) (s.rd (Reg.GSQn_ENTe n s.gath.seq[n].entry)) = 1 ∧
      s.gath.seq[n].count = 2 ^ fldOf (F.GSQn_ENTe_AVG 0 0) (s.rd (Reg.GSQn_ENTe n s.gath.seq[n].entry))) ∧
    (∃ (s : State) (n : Fin 16), s.on (F.GSQn_STAT_BUSY n) = true) :=
  ⟨⟨State.reset.put (F.GSQn_CTL_EN 9) 1, 1, 9, by decide +kernel⟩,
   ⟨(seqUpd 9 (fun q => { q with armable := true }) State.reset).put (F.GSQn_CTL_EN 9) 1 |>.put (F.GSQn_CTL_TRIG 9) 2, 9, by decide +kernel⟩,
   ⟨(seqUpd 9 (fun q => { q with sum := -3, count := 1 }) ((State.reset.put (F.GSQn_CTL_EN 9) 1).put (F.GSQn_STAT_BUSY 9) 1 |>.wr (Reg.GSQn_ENTe 9 0) (fldInto (F.GSQn_ENTe_KIND 0 0) 1 0))), 9, (some 7), by decide +kernel⟩,
   ⟨State.reset.put (F.GSQn_STAT_BUSY 9) 1, 9, by decide +kernel⟩⟩

/-- States and operands that meet the hypotheses of each clause of VoltageRequests. -/
theorem witness_VoltageRequests :
    (∃ (s : State) (r : Fin 4) (value : Word), (s.lv (F.MRVr_VSRC_MASK r)).testBit 2 = true ∧
      vsetOk r (fldOf (F.MRVr_VSHOST_VSET r) value) s = true ∧ s.mrv[r].arrAt < s.clk.ns) ∧
    (∃ (s : State) (r : Fin 4) (value : Word), (s.lv (F.MRVr_VSRC_MASK r)).testBit 3 = true ∧
      vsetOk r (fldOf (F.MRVr_VSPMB_VSET r) value) s = true ∧ s.mrv[r].arrAt < s.clk.ns) ∧
    (∃ (s : State) (r : Fin 4) (value : Word), (s.lv (F.MRVr_VSRC_MASK r)).testBit 2 = true ∧
      vsetOk r (fldOf (F.MRVr_VSHOST_VSET r) value) s = false) ∧
    (∃ (s : State) (r : Fin 4), mState r s = 3 ∧ vS r s + 1 < vGoal r s) ∧
    (∃ (s : State) (r : Fin 4) (value : Word), s.on (F.MRVr_UPD_HOLD r) = true) :=
  ⟨⟨{ (State.reset.setLive (Reg.MRVr_VSRC 1) 0xf) with clk := { ns := 5 } }, 1, 2000, by decide +kernel⟩,
   ⟨{ (State.reset.setLive (Reg.MRVr_VSRC 1) 0xf) with clk := { ns := 5 } }, 1, 2000, by decide +kernel⟩,
   ⟨(State.reset.setLive (Reg.MRVr_VSRC 1) 0xf), 1, 100, by decide +kernel⟩,
   ⟨((State.reset.put (F.MRVr_STAT_STATE 1) 3).put (F.MRVr_VSNOW_T 1) 2000).put (F.MRVr_VSNOW_S 1) 5, 1, by decide +kernel⟩,
   ⟨{ (State.reset.put (F.MRVr_UPD_HOLD 1) 1) with shadow := [⟨Reg.MRVr_KP 1, 5, 1, 3⟩], clk := { ns := 9 } }, 1, 0, by decide +kernel⟩⟩

/-- States and operands that meet the hypotheses of each clause of RegulationLoop. -/
theorem witness_RegulationLoop :
    (∃ (s : State) (ticket : Byte) (arg : BitVec 16), Fresh Reg.MRV_ACT ticket s) ∧
    (∃ (s : State) (ticket : Byte) (arg : BitVec 16), Fresh Reg.MRV_ACT ticket s) ∧
    (∃ (s : State) (r : Fin 4), ffGuard r s = true ∧ s.on (F.MRVr_STAT_FFSTALE r) = false) ∧
    (∃ (s : State) (code : BitVec 16), s.gath.ta[(0 : Fin 2)].ready = some 0 ∧ s.gath.ta[(0 : Fin 2)].code = code ∧
      (∀ r : Fin 4, railEn r s = false)) ∧
    (∃ (s : State) (code : BitVec 16), s.gath.ta[(0 : Fin 2)].ready = none) :=
  ⟨⟨State.reset, 4, 2, by decide +kernel⟩,
   ⟨phUpd 0 (fun h => { h with bal := 77 }) State.reset, 4, 2, by decide +kernel⟩,
   ⟨(State.reset.put (F.EDGEr_CTL_EN 1) 1).setLive (Reg.MRVr_CFG 1) 0xffffffff, 1, by decide +kernel⟩,
   ⟨taUpd 0 (fun x => { x with ready := some 0, code := 0x4000 }) State.reset, 0x4000, by decide +kernel⟩,
   ⟨State.reset, 0x4000, by decide +kernel⟩⟩

/-- States and operands that meet the hypotheses of each clause of ProtectionDetectors. -/
theorem witness_ProtectionDetectors :
    (∃ (s : State) (r : Fin 4), s.prot[r].ovSince.isSome = true ∧ s.on (F.GATH_CMPr_STAT_OVNOW r) = true ∧ detAct r 0 s = true ∧
      condOn r 0 s = false ∧ respOf r 0 s = 1) ∧
    (∃ (s : State) (r : Fin 4), s.prot[r].uvSince.isSome = true ∧ detAct r 1 s = true ∧ condOn r 1 s = false ∧ respOf r 1 s = 1) ∧
    (∃ (s : State) (r : Fin 4), railEn r s = true ∧ condOn r 4 s = false ∧ respOf r 4 s = 1) ∧
    (∃ (s : State) (r : Fin 4) (code : BitVec 16), s.gath.ta[(1 : Fin 2)].ready = some r.succ ∧ s.gath.ta[(1 : Fin 2)].code = code ∧
      railEn r s = false) ∧
    (∃ (s : State) (r : Fin 4), railEn r s = true ∧ condOn r 5 s = false ∧ respOf r 5 s = 1) ∧
    (∃ (s : State) (r : Fin 4), railEn r s = true ∧ condOn r 7 s = false ∧ respOf r 7 s = 1 ∧ (∀ q : Fin 4, q ≠ r → railEn q s = false)) ∧
    (∃ (s : State) (r : Fin 4), mState r s = 3) :=
  ⟨⟨protUpd 1 (fun q => { q with ovSince := some 0 }) (((State.reset.put (F.GATH_CMPr_STAT_OVNOW 1) 1).put (F.MRVr_STAT_STATE 1) 3).wr (Reg.PROTr_RESP 1) 0x9), 1, by decide +kernel⟩,
   ⟨protUpd 1 (fun q => { q with uvSince := some 0 }) ((State.reset.put (F.MRVr_STAT_STATE 1) 3).wr (Reg.PROTr_RESP 1) 0x9), 1, by decide +kernel⟩,
   ⟨(State.reset.put (F.EDGEr_CTL_EN 1) 1).wr (Reg.PROTr_RESP 1) 0x1000, 1, by decide +kernel⟩,
   ⟨taUpd 1 (fun x => { x with ready := some 2, code := 500 }) State.reset, 1, 500, by decide +kernel⟩,
   ⟨(State.reset.put (F.EDGEr_CTL_EN 1) 1).wr (Reg.PROTr_RESP 1) 0x8000, 1, by decide +kernel⟩,
   ⟨(State.reset.put (F.EDGEr_CTL_EN 1) 1).wr (Reg.PROTr_RESP 1) 0x200000, 1, by decide +kernel⟩,
   ⟨State.reset.put (F.MRVr_STAT_STATE 1) 3, 1, by decide +kernel⟩⟩

/-- States and operands that meet the hypotheses of each clause of ProtectionActions. -/
theorem witness_ProtectionActions :
    (∃ (s : State) (ticket : Byte) (arg : BitVec 16), Fresh Reg.PROT_ACT ticket s ∧ pState (Fin.ofNat 4 arg.toNat) s = 3 ∧
      stopPresent (Fin.ofNat 4 arg.toNat) s = false) ∧
    (∃ (s : State) (ticket : Byte) (arg : BitVec 16), Fresh Reg.PROT_ACT ticket s ∧ pState (Fin.ofNat 4 arg.toNat) s = 3 ∧
      stopPresent (Fin.ofNat 4 arg.toNat) s = true) ∧
    (∃ (s : State) (ticket : Byte) (arg : BitVec 16), Fresh Reg.PROT_ACT ticket s ∧ pState (Fin.ofNat 4 arg.toNat) s = 2) ∧
    (∃ (s : State) (ticket : Byte) (arg : BitVec 16), Fresh Reg.PROT_ACT ticket s ∧ phaseOos (Fin.ofNat 32 (arg.toNat / 256)) s = true ∧
      railOf (Fin.ofNat 32 (arg.toNat / 256)) s = none ∧ s.bit F.GATH_IMFLT_IMFLT (arg.toNat / 256 % 32) = false) ∧
    (∃ (s : State) (r : Fin 4), s.prot[r].ovSince.isSome = true ∧ s.on (F.GATH_CMPr_STAT_OVNOW r) = true ∧ detAct r 0 s = true ∧
      condOn r 0 s = false ∧ respOf r 0 s = 4 ∧ (pState r s = 0 ∨ pState r s = 1) ∧ eState r s ≠ 4) :=
  ⟨⟨(State.reset.put (F.PROTr_STAT_PSTATE 1) 3).put (F.EDGEr_CTL_EN 1) 1, 1, 1, by decide +kernel⟩,
   ⟨((State.reset.put (F.PROTr_STAT_PSTATE 1) 3).put (F.PROTr_STAT_COND 1) 1).wr (Reg.PROTr_RESP 1) 4, 1, 1, by decide +kernel⟩,
   ⟨State.reset.put (F.PROTr_STAT_PSTATE 1) 2, 1, 1, by decide +kernel⟩,
   ⟨State.reset.put F.PROT_OOS_OOS 0x30, 1, 0x400, by decide +kernel⟩,
   ⟨protUpd 1 (fun q => { q with ovSince := some 0 }) (((State.reset.put (F.GATH_CMPr_STAT_OVNOW 1) 1).put (F.MRVr_STAT_STATE 1) 3).wr (Reg.PROTr_RESP 1) 0x4), 1, by decide +kernel⟩⟩

/-- States and operands that meet the hypotheses of each clause of Pulses. -/
theorem witness_Pulses :
    (∃ (s : State) (p : Fin 32) (r : Fin 4), railOf p s = some r ∧ mRunning r s = true ∧ (active r s).contains p = true ∧ tonUsed r p s ≠ 0 ∧
      64 * minOn r s ≤ tonUsed r p s + s.phase[p].carry) ∧
    (∃ (s : State) (p : Fin 32) (r : Fin 4), railOf p s = some r ∧ mRunning r s = true ∧ (active r s).contains p = true ∧ tonUsed r p s ≠ 0 ∧
      tonUsed r p s + s.phase[p].carry < 64 * minOn r s ∧ s.lv (F.EDGEr_CTL_SPM r) = 1) ∧
    (∃ (s : State) (p : Fin 32) (r : Fin 4) (k c : Nat), railOf p s = some r ∧ posOf r p s = some k ∧ mRunning r s = true ∧
      (active r s).contains p = true ∧ s.phase[p].limited = false ∧ s.phase[p].quiet = false ∧
      slotBlocked r p (s.phase[p].slotT.getD (onEdgeTime r p k s)) s = false ∧ s.phase[p].commit = some c ∧ s.phase[p].commitStretch = false) ∧
    (∃ (s : State) (p : Fin 32) (r : Fin 4), railOf p s = some r ∧ s.phase[p].out = .high ∧ s.phase[p].forced = false ∧
      (active r s).contains p = true ∧ s.on (F.MRVr_STAT_OVBLK r) = false) ∧
    (∃ (s : State) (p : Fin 32), s.phase[p].out = .low ∧ s.phase[p].held = none ∧ railOf p s = none) ∧
    (∃ (s : State) (p : Fin 32) (r : Fin 4), s.phase[p].out = .high ∧ s.phase[p].offPending = true ∧ s.phase[p].held = some r) ∧
    (∃ (s : State) (r : Fin 4) (p : Fin 32), s.edge[r].lowHold = true ∧ holdWaits r s = false ∧ s.phase[p].held = some r ∧ eState r s = 3 ∧
      s.edge[r].roseAt = none ∧ mRunning r s = false) :=
  ⟨⟨phUpd 5 (fun h => { h with ton := 100000 }) railUp, 5, 1, by decide +kernel⟩,
   ⟨(phUpd 5 (fun h => { h with ton := 10 }) railUp).setLive (Reg.EDGEr_CTL 1) (fldInto (F.EDGEr_CTL_SPM 1) 1 0), 5, 1, by decide +kernel⟩,
   ⟨phUpd 5 (fun h => { h with commit := some 7, ton := 100000 }) railUp, 5, 1, 0, 7, by decide +kernel⟩,
   ⟨phUpd 5 (fun h => { h with out := .high }) railUp, 5, 1, by decide +kernel⟩,
   ⟨phUpd 5 (fun h => { h with out := .low, minOff := true }) State.reset, 5, by decide +kernel⟩,
   ⟨phUpd 5 (fun h => { h with out := .high, offPending := true, held := some 1 }) State.reset, 5, 1, by decide +kernel⟩,
   ⟨edgeUpd 1 (fun e => { e with lowHold := true }) (phUpd 5 (fun h => { h with held := some 1, out := .low }) (State.reset.put (F.EDGEr_STAT_ST 1) 3)), 1, 5, by decide +kernel⟩⟩

/-- States and operands that meet the hypotheses of each clause of RailStates. -/
theorem witness_RailStates :
    (∃ (s : State) (r : Fin 4) (value : Word), slotOn (Reg.EDGEr_CTL r) s = true ∧ eState r s = 0 ∧ enableRefusal r s = none ∧
      s.clk.ns < s.gath.vinAt + 64000 ∧ s.get F.GATH_IMFLT_IMFLT = 0) ∧
    (∃ (s : State) (r : Fin 4) (value : Word), slotOn (Reg.EDGEr_CTL r) s = true ∧ eState r s = 0 ∧ enableRefusal r s = some (1, (railDom r s).val)) ∧
    (∃ (s : State) (r : Fin 4) (value : Word), slotOn (Reg.EDGEr_CTL r) s = true ∧ eState r s = 2) ∧
    (∃ (s : State) (r : Fin 4), hicReady r s = true ∧ 0 < s.lv (F.EDGEr_TIME_ENDLY r)) ∧
    (∃ (s : State) (r : Fin 4) (ticket : Byte), Fresh Reg.EDGE_ACT ticket s ∧ eState r s = 2 ∧ s.on (F.EDGEr_STAT_FRZ r) = false) ∧
    (∃ (s : State) (ticket : Byte) (arg : BitVec 16), Fresh Reg.EDGE_ACT ticket s ∧ s.on (F.EDGEr_STAT_FRZ (Fin.ofNat 4 arg.toNat)) = true) ∧
    (∃ (s : State) (r : Fin 4), s.on (F.EDGEr_STAT_FRZ r) = true) ∧
    (∃ (s : State) (r : Fin 4), eState r s = 2) ∧
    (∃ (s : State) (ticket : Byte) (arg : BitVec 16), Fresh Reg.EDGE_ACT ticket s ∧ eState (Fin.ofNat 4 arg.toNat) s = 4 ∧
      pState (Fin.ofNat 4 arg.toNat) s = 0) :=
  ⟨⟨(((powered.put (F.ANGn_CTL_EN 1) 1).put (F.EDGEr_MAP_M 1) 1).wr (Reg.EDGEr_LISTj 1 0) 5), 1, 0, by decide +kernel⟩,
   ⟨powered, 1, 0, by decide +kernel⟩,
   ⟨{ railUp with regs := (({ railUp with pending := [] } : State).put F.PWR_ON0_ON 0xffffffff).regs }, 1, 0, by decide +kernel⟩,
   ⟨(({ ((State.reset.put (F.EDGEr_STAT_ST 1) 3).put (F.PROTr_STAT_PSTATE 1) 2) with clk := { ns := 99999999999 } } : State).setLive (Reg.EDGEr_TIME 1) (fldInto (F.EDGEr_TIME_ENDLY 1) 5 0)), 1, by decide +kernel⟩,
   ⟨railUp, 1, 7, by decide +kernel⟩,
   ⟨railUp.put (F.EDGEr_STAT_FRZ 1) 1, 7, 1, by decide +kernel⟩,
   ⟨railUp.put (F.EDGEr_STAT_FRZ 1) 1, 1, by decide +kernel⟩,
   ⟨railUp, 1, by decide +kernel⟩,
   ⟨State.reset.put (F.EDGEr_STAT_ST 1) 4, 7, 1, by decide +kernel⟩⟩

/-- States and operands that meet the hypotheses of each clause of Samples. -/
theorem witness_Samples :
    (∃ (s : State) (r : Fin 4) (k : Fin 8) (raw : BitVec 12) (e : Int), vLaneNow r s = some k ∧ gServed 0 k (s.clk.ns - 6) s = true ∧
      s.gath.vLast[r] ≠ s.clk.ns + 1 ∧ sarCode 0 (gSliceAt 0 k (s.clk.ns - 6) s) raw s - 2048 = e ∧ (gBank 0 s).stage = .idle ∧
      ((List.finRange 16).any (fun n => s.on (F.GSQn_STAT_BUSY n)) = false) ∧ mState r s = 1 ∧ -2048 < e ∧ e ≤ 0 ∧ condOn r 8 s = false ∧
      s.on (F.GATH_CMPr_STAT_UVNOW r) = false) ∧
    (∃ (s : State) (r : Fin 4) (k : Fin 8) (raw : BitVec 12) (e : Int), vLaneNow r s = some k ∧ gServed 0 k (s.clk.ns - 6) s = true ∧
      s.gath.vLast[r] ≠ s.clk.ns + 1 ∧ sarCode 0 (gSliceAt 0 k (s.clk.ns - 6) s) raw s - 2048 = e ∧ (gBank 0 s).stage = .idle ∧
      ((List.finRange 16).any (fun n => s.on (F.GSQn_STAT_BUSY n)) = false) ∧ mState r s = 3 ∧ e < 2047 ∧ -2048 < e ∧ detAct r 1 s = false ∧
      condOn r 8 s = false ∧ s.lop[(0 : Fin 5)].running = false) ∧
    (∃ (s : State) (r : Fin 4) (k : Fin 8) (raw : BitVec 12) (shadow : Option (BitVec 12)), vLaneNow r s = some k ∧
      gServed 0 k (s.clk.ns - 6) s = false) ∧
    (∃ (s : State) (r : Fin 4), detAct r 8 s = false) ∧
    (∃ (s : State) (p : Fin 32), (rails.find? (fun r => (railList r s).contains p) = none)) ∧
    (∃ (s : State) (p : Fin 32) (raw : BitVec 12) (code : Nat), iPhaseNow p s = true ∧ gServed 1 (p.val / 4) (s.clk.ns - 5) s = true ∧
      s.gath.iLast[Fin.ofNat 8 (p.val / 4)] ≠ s.clk.ns + 1 ∧ sarCode 1 (gSliceAt 1 (p.val / 4) (s.clk.ns - 5) s) raw s = code ∧
      (gBank 1 s).stage = .idle ∧ ((List.finRange 16).any (fun n => s.on (F.GSQn_STAT_BUSY n)) = false) ∧ railOf p s = none ∧ imonLow code = false) ∧
    (∃ (s : State) (p : Fin 32) (raw : BitVec 12) (shadow : Option (BitVec 12)), iPhaseNow p s = false) ∧
    (∃ (s : State) (ch : Fin 8), (∀ m : Fin 4, motorEn m s = false)) :=
  ⟨⟨sampling.put (F.MRVr_STAT_STATE 1) 1, 1, 2, 2043, -5, by decide +kernel⟩,
   ⟨protUpd 1 (fun q => { q with uvBlank := true }) sampling, 1, 2, 2043, -5, by decide +kernel⟩,
   ⟨sampling.put ⟨Reg.GATH_VMAP, 8, 4⟩ 15, 1, 2, 2043, none, by decide +kernel⟩,
   ⟨State.reset, 1, by decide +kernel⟩,
   ⟨State.reset, 9, by decide +kernel⟩,
   ⟨iSampling, 9, 2000, 2000, by decide +kernel⟩,
   ⟨State.reset, 9, 2000, none, by decide +kernel⟩,
   ⟨State.reset, 3, by decide +kernel⟩⟩

/-- States and operands that meet the hypotheses of each clause of Glory. -/
theorem witness_Glory :
    (∃ (s : State) (r : Fin 4) (v : Int) (beyond : Nat), v < uvThr r s ∧ cmpFilt (s.get (F.GATH_CMPr_CTL_UVFILT r)) ≤ beyond ∧
      s.on (F.GATH_CMPr_CTL_UVEN r) = true ∧ railEn r s = true ∧ s.on (F.GATH_CMPr_STAT_UVNOW r) = false ∧ mRunning r s = false ∧
      s.mrv[r].glory.active = false) ∧
    (∃ (s : State) (r : Fin 4) (v : Int) (beyond : Nat), v < uvThr r s ∧ cmpFilt (s.get (F.GATH_CMPr_CTL_UVFILT r)) ≤ beyond ∧
      s.on (F.GATH_CMPr_CTL_UVEN r) = true ∧ railEn r s = true ∧ s.on (F.GATH_CMPr_STAT_UVNOW r) = false ∧ gloryCond r s = true ∧
      s.mrv[r].glory.active = false) ∧
    (∃ (s : State) (r : Fin 4) (v : Int), uvThr r s + cmpHyst r s ≤ v ∧ s.on (F.GATH_CMPr_STAT_UVNOW r) = true ∧ s.mrv[r].glory.active = true) ∧
    (∃ (s : State) (r : Fin 4) (p : Fin 32), s.mrv[r].glory.active = true ∧ gloryCond r s = true ∧ s.on (F.GATH_CMPr_STAT_OVNOW r) = false ∧
      s.lv (F.MRVr_GL_GLALL r) = 0 ∧ active r s = [p] ∧ forcedCount r s = 0 ∧ s.mrv[r].glory.pos = 0 ∧ s.phase[p].wasForced = false ∧
      s.phase[p].held = none ∧ s.phase[p].minOff = false ∧ limitHolds r p s = false ∧ s.lv (F.MRVr_GL_GLSTAG r) ≠ 0) ∧
    (∃ (s : State) (p : Fin 32) (r : Fin 4), railOf p s = some r ∧ s.phase[p].forced = true ∧ s.phase[p].out = .high ∧
      (active r s).contains p = true ∧ s.on (F.MRVr_STAT_OVBLK r) = false) ∧
    (∃ (s : State) (r : Fin 4) (v : Int) (beyond : Nat), ovThr r s < v ∧ cmpFilt (s.get (F.GATH_CMPr_CTL_OVFILT r)) ≤ beyond ∧
      s.on (F.GATH_CMPr_CTL_OVEN r) = true ∧ railEn r s = true ∧ s.on (F.GATH_CMPr_STAT_OVNOW r) = false ∧ ovAct r s ≠ 0) ∧
    (∃ (s : State) (r : Fin 4) (v : Int), v ≤ ovThr r s - cmpHyst r s ∧ s.on (F.GATH_CMPr_STAT_OVNOW r) = true ∧ s.edge[r].lowHold = false) ∧
    (∃ (s : State) (r : Fin 4) (v : Int) (beyond : Nat), uvThr r s ≤ v) ∧
    (∃ (s : State) (r : Fin 4) (v : Int) (beyond : Nat), beyond < cmpFilt (s.get (F.GATH_CMPr_CTL_OVFILT r))) :=
  ⟨⟨(State.reset.put (F.GATH_CMPr_CTL_UVEN 1) 1).put (F.EDGEr_CTL_EN 1) 1, 1, -1, 99, by decide +kernel⟩,
   ⟨railUp.put (F.GATH_CMPr_CTL_UVEN 1) 1, 1, -1, 99, by decide +kernel⟩,
   ⟨mrvUpd 1 (fun m => { m with glory := { m.glory with active := true } }) (railUp.put (F.GATH_CMPr_STAT_UVNOW 1) 1), 1, 99999, by decide +kernel⟩,
   ⟨mrvUpd 1 (fun m => { m with glory := { m.glory with active := true } }) (railUp.setLive (Reg.MRVr_GL 1) (fldInto (F.MRVr_GL_GLALL 1) 0 0xffffffff)), 1, 5, by decide +kernel⟩,
   ⟨phUpd 5 (fun h => { h with out := .high, forced := true }) railUp, 5, 1, by decide +kernel⟩,
   ⟨(railUp.put (F.GATH_CMPr_CTL_OVEN 1) 1).setLive (Reg.MRVr_CFG 1) (fldInto (F.MRVr_CFG_OVACT 1) 1 0), 1, 99999, 99, by decide +kernel⟩,
   ⟨(railUp.put (F.MRVr_STAT_OVBLK 1) 1).put (F.GATH_CMPr_STAT_OVNOW 1) 1, 1, -99999, by decide +kernel⟩,
   ⟨railUp, 1, 99999, 99, by decide +kernel⟩,
   ⟨railUp, 1, 99999, 0, by decide +kernel⟩⟩

/-- States and operands that meet the hypotheses of each clause of LinkLanes. -/
theorem witness_LinkLanes :
    (∃ (s : State) (ln : Fin 2), s.on F.APR_CTL_EN = true ∧ laneState ln s = 0 ∧ s.apr.holdRx = false) ∧
    (∃ (s : State) (ln : Fin 2), linkState s = 0 ∧ s.apr.lane[ln].joined = false) ∧
    (∃ (s : State) (ln : Fin 2) (block : BitVec 66), (rxBits ln block s).extractLsb' 0 2 = 1 ∧ ((rxPayload ln block s).getD 0 0).toNat = 0x33 ∧
      s.on F.APR_CTL_EN = true ∧ laneState ln s = 1 ∧ s.apr.lane[ln].good = 63) ∧
    (∃ (s : State) (ln : Fin 2) (block : BitVec 66), (rxBits ln block s).extractLsb' 0 2 = 1 ∧ ((rxPayload ln block s).getD 0 0).toNat = 0x6C ∧
      s.on F.APR_CTL_EN = true ∧ laneState ln s = 2 ∧ s.apr.lane[ln].fresh = false ∧ s.apr.lane[ln].half = none ∧ s.apr.lane[ln].hist = [] ∧
      s.apr.lane[ln].buf = []) ∧
    (∃ (s : State) (ln : Fin 2) (header : BitVec 2) (lo hi : Word) (h : List Byte) (c : Instr), (rxBits ln (wireBlock header lo hi) s).extractLsb' 0 2 = 2 ∧
      s.on F.APR_CTL_EN = true ∧ laneState ln s = 2 ∧ s.apr.lane[ln].fresh = false ∧ s.apr.lane[ln].half = some h ∧ s.apr.lane[ln].hist = [] ∧
      s.apr.lane[ln].buf = [.msg] ∧ aprMessage ln (h ++ rxPayload ln (wireBlock header lo hi) s) = some c) ∧
    (∃ (s : State) (ln : Fin 2) (header : BitVec 2) (b0 : Byte) (b1 : BitVec 24) (b4 : Word) (sub : Fin 64) (f : Nat), (rxBits ln (wireBlock header (b1 ++ b0) b4) s).extractLsb' 0 2 = 1 ∧
      ((rxPayload ln (wireBlock header (b1 ++ b0) b4) s).getD 0 0).toNat = 0x5A ∧
      ((rxPayload ln (wireBlock header (b1 ++ b0) b4) s).getD 1 0).toNat = ln.val ∧ s.on F.APR_CTL_EN = true ∧ laneState ln s = 2 ∧
      s.apr.lane[ln].fresh = false ∧ s.apr.lane[ln].hist = [] ∧ s.apr.lane[ln].buf = [] ∧ s.apr.lane[ln].half = none ∧ s.apr.lane[ln].fnum = some f ∧
      natOfBytes (((rxPayload ln (wireBlock header (b1 ++ b0) b4) s).drop 2).take 2) ≠ (f + 1) % 65536 ∧
      natOfBytes (((rxPayload ln (wireBlock header (b1 ++ b0) b4) s).drop 4).take 2) = s.apr.flen ∧
      ((rxPayload ln (wireBlock header (b1 ++ b0) b4) s).getD 6 0).getLsbD 3 = false) ∧
    (∃ (s : State) (ln : Fin 2) (header : BitVec 2) (b0 : Byte) (b1 : BitVec 24) (b4 : Word) (sub : Fin 64), (rxBits ln (wireBlock header (b1 ++ b0) b4) s).extractLsb' 0 2 = 1 ∧
      ((rxPayload ln (wireBlock header (b1 ++ b0) b4) s).getD 0 0).toNat = 0x5A ∧
      ((rxPayload ln (wireBlock header (b1 ++ b0) b4) s).getD 1 0).toNat = ln.val ∧ s.on F.APR_CTL_EN = true ∧ laneState ln s = 2 ∧
      s.apr.lane[ln].fresh = false ∧ s.apr.lane[ln].hist = [] ∧ s.apr.lane[ln].buf = [] ∧ s.apr.lane[ln].half = none ∧ s.apr.lane[ln].fnum = none ∧
      s.apr.lane[ln].pos = none ∧ natOfBytes (((rxPayload ln (wireBlock header (b1 ++ b0) b4) s).drop 4).take 2) = s.apr.flen ∧
      ((rxPayload ln (wireBlock header (b1 ++ b0) b4) s).getD 6 0).getLsbD 3 = false ∧ linkUp s = false ∧ linkState s = 0) ∧
    (∃ (s : State) (ln : Fin 2) (header : BitVec 2) (b0 : Byte) (b1 : BitVec 24) (b4 : Word) (sub : Fin 64), (rxBits ln (wireBlock header (b1 ++ b0) b4) s).extractLsb' 0 2 = 1 ∧
      ((rxPayload ln (wireBlock header (b1 ++ b0) b4) s).getD 0 0).toNat = 0x5A ∧
      ((rxPayload ln (wireBlock header (b1 ++ b0) b4) s).getD 1 0).toNat = ln.val ∧ s.on F.APR_CTL_EN = true ∧ laneState ln s = 2 ∧
      s.apr.lane[ln].fresh = false ∧ s.apr.lane[ln].hist = [] ∧ s.apr.lane[ln].buf = [] ∧ s.apr.lane[ln].half = none ∧
      s.apr.lane[ln].fnum = some ((natOfBytes (((rxPayload ln (wireBlock header (b1 ++ b0) b4) s).drop 2).take 2) + 65535) % 65536) ∧
      s.apr.lane[ln].pos = some (s.apr.flen - 1) ∧ 1 ≤ s.apr.flen ∧
      natOfBytes (((rxPayload ln (wireBlock header (b1 ++ b0) b4) s).drop 4).take 2) = s.apr.flen ∧
      ((rxPayload ln (wireBlock header (b1 ++ b0) b4) s).getD 6 0).getLsbD 3 = false ∧ linkState s = 1 ∧ laneState (1 - ln) s < 3 ∧
      s.apr.lane[(0 : Fin 2)].joined = false ∧ s.apr.lane[(1 : Fin 2)].joined = false) ∧
    (∃ (s : State) (ln : Fin 2), linkState s = 1 ∧ laneState ln s = 3 ∧ s.on F.APR_CTL_ONELANE = true) ∧
    (∃ (s : State) (ticket : Byte) (arg : BitVec 16), s.bit F.PWR_ON1_ON 26 = true ∧ Fresh Reg.APR_ACT ticket s ∧ s.on F.APR_CTL_EN = true ∧
      linkState s = 1) ∧
    (∃ (s : State) (ticket : Byte) (arg : BitVec 16), s.bit F.PWR_ON1_ON 26 = true ∧ Fresh Reg.APR_ACT ticket s) ∧
    (∃ (s : State) (value : Word), slotOn Reg.APR_CTL s = true ∧ s.on F.APR_CTL_EN = false) :=
  ⟨⟨State.reset.put F.APR_CTL_EN 1, 1, by decide +kernel⟩,
   ⟨(State.reset.put F.APR_CTL_EN 1).put F.APR_STAT_LANE1 2, 1, by decide +kernel⟩,
   ⟨laneUpd 1 (fun l => { l with good := 63 }) ((State.reset.put F.APR_CTL_EN 1).put F.APR_STAT_LANE1 1), 1, (received 1 [0x33]), by decide +kernel⟩,
   ⟨laneUpd 1 (fun l => { l with fresh := false }) ((State.reset.put F.APR_CTL_EN 1).put F.APR_STAT_LANE1 2), 1, (received 1 [0x6C, 2, 5, 0, 1, 0xD0, 7, 0]), by decide +kernel⟩,
   ⟨laneUpd 1 (fun l => { l with fresh := false, half := some [0x6C, 2, 5, 0, 1, 0xD0, 7, 0], buf := [.msg] }) ((State.reset.put F.APR_CTL_EN 1).put F.APR_STAT_LANE1 2), 1, ((received 2 [0, 0, 0, 0, 0, 0, b8 ((crc16 [2, 5, 0, 1, 0xD0, 7, 0, 0, 0, 0, 0, 0, 0]).toNat % 256), b8 ((crc16 [2, 5, 0, 1, 0xD0, 7, 0, 0, 0, 0, 0, 0, 0]).toNat / 256)]).extractLsb' 0 2), ((received 2 [0, 0, 0, 0, 0, 0, b8 ((crc16 [2, 5, 0, 1, 0xD0, 7, 0, 0, 0, 0, 0, 0, 0]).toNat % 256), b8 ((crc16 [2, 5, 0, 1, 0xD0, 7, 0, 0, 0, 0, 0, 0, 0]).toNat / 256)]).extractLsb' 2 32), ((received 2 [0, 0, 0, 0, 0, 0, b8 ((crc16 [2, 5, 0, 1, 0xD0, 7, 0, 0, 0, 0, 0, 0, 0]).toNat % 256), b8 ((crc16 [2, 5, 0, 1, 0xD0, 7, 0, 0, 0, 0, 0, 0, 0]).toNat / 256)]).extractLsb' 34 32), ([0x6C, 2, 5, 0, 1, 0xD0, 7, 0]), (.vset 1 5 1 0x7D0), by decide +kernel⟩,
   ⟨laneUpd 1 (fun l => { l with fresh := false, fnum := some 7 }) ((State.reset.put F.APR_CTL_EN 1).put F.APR_STAT_LANE1 2), 1, ((received 1 [0x5A, 1, 9, 0, 0, 1]).extractLsb' 0 2), ((received 1 [0x5A, 1, 9, 0, 0, 1]).extractLsb' 2 8), ((received 1 [0x5A, 1, 9, 0, 0, 1]).extractLsb' 10 24), ((received 1 [0x5A, 1, 9, 0, 0, 1]).extractLsb' 34 32), 0, 7, by decide +kernel⟩,
   ⟨laneUpd 1 (fun l => { l with fresh := false }) ((State.reset.put F.APR_CTL_EN 1).put F.APR_STAT_LANE1 2), 1, ((received 1 [0x5A, 1, 9, 0, 0, 1]).extractLsb' 0 2), ((received 1 [0x5A, 1, 9, 0, 0, 1]).extractLsb' 2 8), ((received 1 [0x5A, 1, 9, 0, 0, 1]).extractLsb' 10 24), ((received 1 [0x5A, 1, 9, 0, 0, 1]).extractLsb' 34 32), 0, by decide +kernel⟩,
   ⟨laneUpd 1 (fun l => { l with fresh := false, fnum := some 8, pos := some 255 }) (((State.reset.put F.APR_CTL_EN 1).put F.APR_STAT_LANE1 2).put F.APR_STAT_LINK 1), 1, ((received 1 [0x5A, 1, 9, 0, 0, 1]).extractLsb' 0 2), ((received 1 [0x5A, 1, 9, 0, 0, 1]).extractLsb' 2 8), ((received 1 [0x5A, 1, 9, 0, 0, 1]).extractLsb' 10 24), ((received 1 [0x5A, 1, 9, 0, 0, 1]).extractLsb' 34 32), 0, by decide +kernel⟩,
   ⟨((State.reset.put F.APR_STAT_LINK 1).put F.APR_STAT_LANE0 3).put F.APR_CTL_ONELANE 1, 0, by decide +kernel⟩,
   ⟨(((powered.put F.APR_STAT_LINK 1).put F.APR_STAT_LANE0 3).put F.APR_CTL_EN 1), 3, 0, by decide +kernel⟩,
   ⟨powered.put F.APR_STAT_SYNCD 1, 3, 0, by decide +kernel⟩,
   ⟨powered, 0x33, by decide +kernel⟩⟩

/-- States and operands that meet the hypotheses of each clause of LinkMessages. -/
theorem witness_LinkMessages :
    (∃ (s : State) (ln : Fin 2) (seq : BitVec 16), linkUp s = true ∧ s.apr.lane[ln].joined = true ∧ s.on F.APR_STAT_SYNCD = true ∧
      s.get F.APR_BMAP_BM = 0 ∧ seq.toNat = (s.get F.APR_SEQ_H + 1) % 65536) ∧
    (∃ (s : State) (ln : Fin 2) (seq : BitVec 16) (r : Fin 4) (x : BitVec 13), linkUp s = true ∧ s.apr.lane[ln].joined = true ∧
      s.on F.APR_STAT_SYNCD = true ∧ s.get F.APR_BMAP_BM = 0 ∧ seq.toNat = (s.get F.APR_SEQ_H + 1) % 65536 ∧
      (s.lv (F.MRVr_VSRC_MASK r)).testBit 1 = true ∧ vsetOk r x.toNat s = true ∧ s.mrv[r].arrAt < s.clk.ns) ∧
    (∃ (s : State) (ln : Fin 2) (seq : BitVec 16) (r : Fin 4) (delta : BitVec 16) (lead : BitVec 13) (ramp : BitVec 12) (conf : Byte), linkUp s = true ∧
      s.apr.lane[ln].joined = true ∧ s.on F.APR_STAT_SYNCD = true ∧ s.get F.APR_BMAP_BM = 0 ∧ seq.toNat = (s.get F.APR_SEQ_H + 1) % 65536 ∧
      s.on (F.PARr_CTL_EN r) = false) ∧
    (∃ (s : State) (ln : Fin 2) (seq : BitVec 16) (r : Fin 4) (delta : BitVec 16) (lead : BitVec 13) (ramp : BitVec 12) (conf : Byte), linkUp s = true ∧
      s.apr.lane[ln].joined = true ∧ s.on F.APR_STAT_SYNCD = true ∧ s.get F.APR_BMAP_BM = 0 ∧ seq.toNat = (s.get F.APR_SEQ_H + 1) % 65536 ∧
      parRefusal r delta.toInt conf.toNat lead.toNat s = 0 ∧ parState r s = 0) ∧
    (∃ (s : State) (k : Nat), ((List.range 32).find? (fun i => (s.get F.APR_BMAP_BM).testBit i) = some k) ∧ 0 < k ∧ seqHoles k s ≠ []) ∧
    (∃ (s : State), s.on F.APR_CTL_EN = true ∧ s.apr.second = none ∧ s.apr.newFrame = true ∧ s.apr.holdRx = false ∧ s.apr.holdSent = false ∧
      laneState 0 s < 2 ∧ laneState 1 s < 2) ∧
    (∃ (s : State) (r : Fin 4), s.on F.APR_CTL_EN = true ∧ telPer r s ≠ 0) :=
  ⟨⟨linked, 1, 101, by decide +kernel⟩,
   ⟨{ (linked.setLive (Reg.MRVr_VSRC 1) 0xf) with clk := { ns := 5 } }, 1, 101, 1, 2000, by decide +kernel⟩,
   ⟨linked, 1, 101, 1, 50, 100, 5, 200, by decide +kernel⟩,
   ⟨mrvUpd 1 (fun m => { m with vin := some 12000 }) ((((((linked.put (F.MRVr_STAT_STATE 1) 3).put (F.PARr_CTL_EN 1) 1).put (F.PARr_PLANT_PDMAX 1) 100).setLive (Reg.PARr_CTL 1) (fldInto (F.PARr_CTL_EN 1) 1 0)).setLive (Reg.PARr_PLANT 1) 0xffffffff)), 1, 101, 1, 50, 100, 5, 200, by decide +kernel⟩,
   ⟨linked.put F.APR_BMAP_BM 4, 2, by decide +kernel⟩,
   ⟨State.reset.put F.APR_CTL_EN 1, by decide +kernel⟩,
   ⟨(State.reset.put F.APR_CTL_EN 1).wr Reg.APR_TEL 0x01010101, 2, by decide +kernel⟩⟩

/-- States and operands that meet the hypotheses of each clause of Parison. -/
theorem witness_Parison :
    (∃ (s : State) (r : Fin 4) (f : Forecast), s.par[r].fc = some f ∧ parState r s = 1 ∧ 0 < f.de ∧
      sensed r s < s.get (F.MRVr_VSNOW_S r) + 20 * f.unwth ∧ s.par[r].moved ≠ s.clk.ns + 1) ∧
    (∃ (s : State) (r : Fin 4) (f : Forecast), s.par[r].fc = some f ∧ parState r s = 1 ∧ f.de < 0 ∧ s.on (F.GATH_CMPr_STAT_UVNOW r) = true) ∧
    (∃ (s : State) (r : Fin 4) (f : Forecast), s.par[r].fc = some f ∧ parState r s = 2) ∧
    (∃ (s : State) (r : Fin 4), parState r s = 3 ∧ s.par[r].pend = none) ∧
    (∃ (s : State) (r : Fin 4) (f : Forecast), s.par[r].fc = some f ∧ (parState r s = 2 ∨ parState r s = 3)) ∧
    (∃ (s : State) (r : Fin 4), parState r s = 4 ∧ s.par[r].pend = none) :=
  ⟨⟨shaping 1 fcast, 1, fcast, by decide +kernel⟩,
   ⟨(shaping 1 { fcast with de := -40 }).put (F.GATH_CMPr_STAT_UVNOW 1) 1, 1, ({ fcast with de := -40 }), by decide +kernel⟩,
   ⟨shaping 2 fcast, 1, fcast, by decide +kernel⟩,
   ⟨parUpd 1 (fun q => { q with p := 9 }) (shaping 3 fcast), 1, by decide +kernel⟩,
   ⟨shaping 2 fcast, 1, fcast, by decide +kernel⟩,
   ⟨shaping 4 fcast, 1, by decide +kernel⟩⟩

/-- States and operands that meet the hypotheses of each clause of CounterUnits. -/
theorem witness_CounterUnits :
    (∃ (s : State) (n : Fin 24), s.on (F.CUn_STAT_RUN n) = true ∧ s.cu[n] = {} ∧ s.on (F.CUn_CTL_CLK n) = false ∧
      s.get (F.CUn_COUNT_COUNT n) < s.get (F.CUn_PERACT_PERACT n) ∧ (s.rd (Reg.CUn_MATCHA n)).toNat ≠ s.get (F.CUn_COUNT_COUNT n) + 1 ∧
      (s.rd (Reg.CUn_MATCHB n)).toNat ≠ s.get (F.CUn_COUNT_COUNT n) + 1) ∧
    (∃ (s : State) (n : Fin 24), s.on (F.CUn_STAT_RUN n) = true ∧ s.cu[n] = {} ∧ s.on (F.CUn_CTL_CLK n) = false ∧
      s.on (F.CUn_CTL_ONESHOT n) = false ∧ s.get (F.CUn_COUNT_COUNT n) = s.get (F.CUn_PERACT_PERACT n) ∧ s.rd (Reg.CUn_MATCHA n) ≠ 0 ∧
      s.rd (Reg.CUn_MATCHB n) ≠ 0 ∧ s.get (F.CUn_LINK_PACT n) = 0 ∧ NotFired (3 * n + 1) s) ∧
    (∃ (s : State) (n : Fin 24) (ticket : Byte) (arg : BitVec 16), Fresh Reg.CNT_ACT ticket s ∧ arg.toNat % 32 = n.val) ∧
    (∃ (s : State) (n : Fin 24) (ticket : Byte) (arg : BitVec 16), Fresh Reg.CNT_ACT ticket s ∧ arg.toNat % 32 = n.val) ∧
    (∃ (s : State) (n : Fin 24) (ticket : Byte) (arg : BitVec 16), Fresh Reg.CNT_ACT ticket s ∧ arg.toNat % 32 = n.val) ∧
    (∃ (s : State) (n : Fin 24) (ticket : Byte) (arg : BitVec 16), Fresh Reg.CNT_ACT ticket s ∧ arg.toNat % 32 = n.val) ∧
    (∃ (s : State) (n : Fin 24), s.cu[n] = { go := true } ∧ s.on (F.CUn_CTL_EN n) = true ∧ s.on (F.CUn_STAT_RUN n) = false) ∧
    (∃ (s : State) (n : Fin 24), s.cu[n].go = true ∧ s.cu[n].capt = false ∧ s.cu[n].reset = false ∧ s.cu[n].immNow = none ∧
      s.on (F.CUn_STAT_RUN n) = false ∧ s.on (F.CUn_CTL_EN n) = false) ∧
    (∃ (s : State) (n : Fin 24) (c : Cu), s.cu[n] = c ∧ c.reset = true ∧ c.go = false ∧ c.capt = false ∧ c.immNow = none ∧ c.imm = none ∧
      c.pendNow = false) ∧
    (∃ (s : State) (n : Fin 24), s.cu[n] = { capt := true } ∧ s.on (F.CUn_CTL_EN n) = true ∧ s.on (F.CUn_STAT_RUN n) = false ∧
      NotFired (3 * n + 2) s) ∧
    (∃ (s : State) (n : Fin 24) (value : Word), s.on (F.CUn_CTL_LOADMODE n) = false ∧ cuPast n s = false) ∧
    (∃ (s : State) (n : Fin 24) (value : Word), s.on (F.CUn_CTL_LOADMODE n) = true ∧ cuPast n s = false) ∧
    (∃ (s : State) (n : Fin 24) (value : Word), cuPast n s = true) ∧
    (∃ (s : State) (n : Fin 24), ((s.cu[n].capWas.all (fun x => decide (x.1 ≠ s.clk.ns / 10))) = true)) :=
  ⟨⟨(State.reset.put (F.CUn_STAT_RUN 3) 1).put (F.CUn_COUNT_COUNT 3) 41, 3, by decide +kernel⟩,
   ⟨((((State.reset.put (F.CUn_STAT_RUN 3) 1).put (F.CUn_PERACT_PERACT 3) 41).put (F.CUn_COUNT_COUNT 3) 41).put (F.CUn_PERIOD_PERIOD 3) 99).put (F.CUn_STAT_PEND 3) 1, 3, by decide +kernel⟩,
   ⟨State.reset, 3, 9, 3, by decide +kernel⟩,
   ⟨State.reset, 3, 9, 3, by decide +kernel⟩,
   ⟨State.reset, 3, 9, 3, by decide +kernel⟩,
   ⟨State.reset, 3, 9, 3, by decide +kernel⟩,
   ⟨((((State.reset.put (F.CUn_CTL_EN 3) 1).put (F.CUn_PERIOD_PERIOD 3) 99).put (F.CUn_STAT_PEND 3) 1)).cuUpd 3 (fun c => { c with go := true }), 3, by decide +kernel⟩,
   ⟨(State.reset).cuUpd 3 (fun c => { c with go := true }), 3, by decide +kernel⟩,
   ⟨((((State.reset.put (F.CUn_COUNT_COUNT 3) 7).put (F.CUn_PERIOD_PERIOD 3) 99).put (F.CUn_STAT_PEND 3) 1)).cuUpd 3 (fun c => { c with reset := true }), 3, ({ reset := true }), by decide +kernel⟩,
   ⟨((((State.reset.put (F.CUn_CTL_EN 3) 1).put (F.CUn_COUNT_COUNT 3) 7).put (F.CUn_STAT_CAPF 3) 1)).cuUpd 3 (fun c => { c with capt := true }), 3, by decide +kernel⟩,
   ⟨State.reset.put (F.CUn_CTL_LOADMODE 3) 0, 3, 77, by decide +kernel⟩,
   ⟨State.reset.put (F.CUn_CTL_LOADMODE 3) 1, 3, 77, by decide +kernel⟩,
   ⟨{ State.reset with clk := { State.reset.clk with ns := 19, stage := 3 } }, 3, 77, by decide +kernel⟩,
   ⟨(State.reset.put (F.CUn_CAP_CAP 3) 0x55).put (F.CUn_STAT_CAPF 3) 1, 3, by decide +kernel⟩⟩

/-- States and operands that meet the hypotheses of each clause of EventMatrix. -/
theorem witness_EventMatrix :
    (∃ (s : State) (c : Fin 32) (i : Fin 8) (f : Firing), s.evm.firings = [f] ∧ f.cycle + 3 ≤ s.clk.time.toNat ∧
      f.chans = BitVec.ofNat 32 (2 ^ c.val) ∧ f.sinks = BitVec.ofNat 128 (2 ^ (120 + i.val)) ∧ s.evm.evo[i].toggle = true) ∧
    (∃ (s : State) (c : Fin 32) (i : Fin 8) (f : Firing), s.evm.firings = [f] ∧ f.cycle + 3 ≤ s.clk.time.toNat ∧
      f.chans = BitVec.ofNat 32 (2 ^ c.val) ∧ f.sinks = BitVec.ofNat 128 (2 ^ (120 + i.val)) ∧ s.evm.evo[i].toggle = false ∧
      s.get F.EVM_EVOCTL_WIDTH ≠ 0) ∧
    (∃ (s : State) (c : Fin 32) (j : Fin 4) (value : Word), s.on (F.EVM_CHc_CTL_MODE c) = true) ∧
    (∃ (s : State) (c : Fin 32) (j : Fin 4) (i : Fin 32), s.on (F.EVM_CHc_CTL_MODE c) = false ∧ chSinks c s = 0) ∧
    (∃ (s : State) (c : Fin 32) (j : Fin 4) (i k : Fin 32), s.on (F.EVM_CHc_CTL_MODE c) = false ∧ i.val < k.val ∧
      chSinks c s = BitVec.ofNat 128 (2 ^ (32 * j.val + i.val))) ∧
    (∃ (s : State) (c : Fin 32) (value : Word), s.on (F.EVM_CHc_CTL_MODE c) = true ∧ value.getLsbD 1 = false ∧ 1 < (bitsOf (chSinks c s)).length) ∧
    (∃ (s : State) (c : Fin 32) (value : Word), (s.on (F.EVM_CHc_CTL_MODE c) = false ∨ value.getLsbD 1 = true ∨ (bitsOf (chSinks c s)).length ≤ 1)) ∧
    (∃ (s : State) (i : Fin 8), s.evm.evo[i].toggle = false) ∧
    (∃ (s : State) (ticket : Byte) (arg : BitVec 16), Fresh Reg.EVM_ACT ticket s) :=
  ⟨⟨{ State.reset with clk := { State.reset.clk with ns := 100, time := 10 }, evm := { firings := [⟨4, 9, 32, BitVec.ofNat 128 (2 ^ 122)⟩], evo := Vector.replicate 8 { toggle := true } } }, 5, 2, (⟨4, 9, 32, BitVec.ofNat 128 (2 ^ 122)⟩), by decide +kernel⟩,
   ⟨{ State.reset.put F.EVM_EVOCTL_WIDTH 30 with clk := { State.reset.clk with ns := 100, time := 10 }, evm := { firings := [⟨4, 9, 32, BitVec.ofNat 128 (2 ^ 122)⟩] } }, 5, 2, (⟨4, 9, 32, BitVec.ofNat 128 (2 ^ 122)⟩), by decide +kernel⟩,
   ⟨State.reset.put (F.EVM_CHc_CTL_MODE 5) 1, 5, 2, 0x30, by decide +kernel⟩,
   ⟨State.reset, 5, 2, 7, by decide +kernel⟩,
   ⟨State.reset.wr (Reg.EVM_CHc_SNKj 5 2) 0x80, 5, 2, 7, 9, by decide +kernel⟩,
   ⟨(State.reset.put (F.EVM_CHc_CTL_MODE 5) 1).wr (Reg.EVM_CHc_SNKj 5 2) 0x88, 5, 1, by decide +kernel⟩,
   ⟨(State.reset.put (F.EVM_CHc_CTL_MODE 5) 1).wr (Reg.EVM_CHc_SNKj 5 2) 0x80, 5, 1, by decide +kernel⟩,
   ⟨{ State.reset with evm := { evo := Vector.replicate 8 { level := true } } }, 2, by decide +kernel⟩,
   ⟨State.reset, 4, 0x81, by decide +kernel⟩⟩

/-- States and operands that meet the hypotheses of each clause of EventLog. -/
theorem witness_EventLog :
    (∃ (s : State) (e : LogEntry), s.log.queue = [e] ∧ s.log.reqs = [] ∧ s.log.drops = 0 ∧ logBehind s ≠ 2048) ∧
    (∃ (s : State) (e : LogEntry), s.log.queue.length = 64 ∧ s.log.reqs = [e] ∧ s.log.drops = 0 ∧ logStopped s = true) ∧
    (∃ (s : State) (ticket : Byte) (arg : BitVec 16), Fresh Reg.LOG_ACT ticket s) ∧
    (∃ (s : State) (ticket : Byte) (arg : BitVec 16) (j : Fin 4), Fresh Reg.LOG_ACT ticket s ∧ arg.toNat % 4 = j.val ∧
      s.log.snapNow.contains j.val = false) ∧
    (∃ (s : State) (k : Fin 5) (h : LopHost), s.lop[k].running = true ∧ s.lop[k].host = some h ∧ (k.val = 0 ∨ k.val = 3)) :=
  ⟨⟨{ State.reset with log := { queue := [⟨5, 0xABCD1234, 3, 2, [1, 2, 3]⟩] } }, (⟨5, 0xABCD1234, 3, 2, [1, 2, 3]⟩), by decide +kernel⟩,
   ⟨{ ((State.reset.put F.LOG_CTL_FULLMODE 1).put (F.HIF_OR_STAT_STATE 1) 1).put F.LOG_WIDX_WIDX 2048 with log := { queue := List.replicate 64 ⟨5, 0, 3, 2, []⟩, reqs := [⟨6, 0, 1, 2, []⟩] } }, (⟨6, 0, 1, 2, []⟩), by decide +kernel⟩,
   ⟨State.reset.wr (Reg.LOG_FWDATAi 2) 0x11223344, 4, 0x8123, by decide +kernel⟩,
   ⟨State.reset.wr (Reg.LOG_SNAPj_Ai 2 0) (BitVec.ofNat 32 (Reg.CUn_MATCHA 3)), 4, 2, 2, by decide +kernel⟩,
   ⟨{ State.reset with lop := Vector.replicate 5 { running := true, host := some ⟨0x1000, 0x2000, 64, none⟩, planned := 10, done := 3, gen := 4 } }, 3, (⟨0x1000, 0x2000, 64, none⟩), by decide +kernel⟩⟩

/-- States and operands that meet the hypotheses of each clause of RegisterAlu. -/
theorem witness_RegisterAlu :
    (∃ (s : State) (w : Word), Boundary s) ∧
    (∃ (s : State) (w : Word), Boundary s) ∧
    (∃ (s : State) (w : Word), Boundary s) ∧
    (∃ (s : State) (w : Word), Boundary s) ∧
    (∃ (s : State) (w : Word), Boundary s) ∧
    (∃ (s : State) (w : Word), Boundary s) ∧
    (∃ (s : State) (w : Word), Boundary s) ∧
    (∃ (s : State) (w : Word), Boundary s) ∧
    (∃ (s : State) (w : Word), Boundary s) ∧
    (∃ (s : State) (w : Word), Boundary s) ∧
    (∃ (s : State) (w : Word), Boundary s) ∧
    (∃ (s : State) (w : Word), Boundary s) ∧
    (∃ (s : State) (w : Word), Boundary s) ∧
    (∃ (s : State) (w : Word), Boundary s) ∧
    (∃ (s : State) (w : Word), Boundary s) ∧
    (∃ (s : State) (w : Word), Boundary s) ∧
    (∃ (s : State) (w : Word), Boundary s) ∧
    (∃ (s : State) (w : Word), Boundary s) ∧
    (∃ (s : State) (w : Word), Boundary s) ∧
    (∃ (s : State) (w : Word), Boundary s) ∧
    (∃ (s : State) (w : Word), Boundary s) ∧
    (∃ (s : State) (w : Word), Boundary s) ∧
    (∃ (s : State) (w : Word), Boundary s) ∧
    (∃ (s : State) (w : Word), Boundary s) ∧
    (∃ (s : State) (w : Word), Boundary s) ∧
    (∃ (s : State) (w : Word), Boundary s) ∧
    (∃ (s : State) (w : Word), Boundary s) :=
  ⟨⟨booted, 0x05319000#32, by decide +kernel⟩,
   ⟨booted, 0x05319001#32, by decide +kernel⟩,
   ⟨booted, 0x05319002#32, by decide +kernel⟩,
   ⟨booted, 0x05319003#32, by decide +kernel⟩,
   ⟨booted, 0x05319004#32, by decide +kernel⟩,
   ⟨booted, 0x05319005#32, by decide +kernel⟩,
   ⟨booted, 0x05319006#32, by decide +kernel⟩,
   ⟨booted, 0x05319007#32, by decide +kernel⟩,
   ⟨booted, 0x05319008#32, by decide +kernel⟩,
   ⟨booted, 0x05319009#32, by decide +kernel⟩,
   ⟨booted, 0x0531900A#32, by decide +kernel⟩,
   ⟨booted, 0x0531900B#32, by decide +kernel⟩,
   ⟨booted, 0x0531900C#32, by decide +kernel⟩,
   ⟨booted, 0x0531900D#32, by decide +kernel⟩,
   ⟨booted, 0x05319010#32, by decide +kernel⟩,
   ⟨booted, 0x05319011#32, by decide +kernel⟩,
   ⟨booted, 0x05319012#32, by decide +kernel⟩,
   ⟨booted, 0x05319013#32, by decide +kernel⟩,
   ⟨booted, 0x05319020#32, by decide +kernel⟩,
   ⟨booted, 0x05319021#32, by decide +kernel⟩,
   ⟨booted, 0x05319022#32, by decide +kernel⟩,
   ⟨booted, 0x05319023#32, by decide +kernel⟩,
   ⟨booted, 0x05319024#32, by decide +kernel⟩,
   ⟨booted, 0x05319028#32, by decide +kernel⟩,
   ⟨booted, 0x05319029#32, by decide +kernel⟩,
   ⟨booted, 0x0531902A#32, by decide +kernel⟩,
   ⟨booted, 0x0531902B#32, by decide +kernel⟩⟩

/-- States and operands that meet the hypotheses of each clause of ImmediateAlu. -/
theorem witness_ImmediateAlu :
    (∃ (s : State) (w : Word), Boundary s) ∧
    (∃ (s : State) (w : Word), Boundary s) ∧
    (∃ (s : State) (w : Word), Boundary s) ∧
    (∃ (s : State) (w : Word), Boundary s) ∧
    (∃ (s : State) (w : Word), Boundary s) ∧
    (∃ (s : State) (w : Word), Boundary s) ∧
    (∃ (s : State) (w : Word), Boundary s) :=
  ⟨⟨booted, 0x0931FFF0#32, by decide +kernel⟩,
   ⟨booted, 0x0D31FFF0#32, by decide +kernel⟩,
   ⟨booted, 0x1131FFF0#32, by decide +kernel⟩,
   ⟨booted, 0x1531FFF0#32, by decide +kernel⟩,
   ⟨booted, 0x1931FFF0#32, by decide +kernel⟩,
   ⟨booted, 0x1D31FFF0#32, by decide +kernel⟩,
   ⟨booted, 0x2131FFF0#32, by decide +kernel⟩⟩

/-- States and operands that meet the hypotheses of each clause of LoadInstructions. -/
theorem witness_LoadInstructions :
    (∃ (s : State) (w : Word), Boundary s ∧ dataFault (fCN w) [pLOAD] (effAddr w s) 4 4 s = none ∧ holdsTags (effAddr w s) = true ∧
      bankServes (effAddr w s) s = true ∧ badIn (effAddr w s) 4 s = none) ∧
    (∃ (s : State) (w : Word), Boundary s ∧ dataFault (fCN w) [pLOAD] (effAddr w s) 2 2 s = none ∧ holdsTags (effAddr w s) = true ∧
      bankServes (effAddr w s) s = true ∧ badIn (effAddr w s) 2 s = none) ∧
    (∃ (s : State) (w : Word), Boundary s ∧ dataFault (fCN w) [pLOAD] (effAddr w s) 2 2 s = none ∧ holdsTags (effAddr w s) = true ∧
      bankServes (effAddr w s) s = true ∧ badIn (effAddr w s) 2 s = none) ∧
    (∃ (s : State) (w : Word), Boundary s ∧ dataFault (fCN w) [pLOAD] (effAddr w s) 1 1 s = none ∧ holdsTags (effAddr w s) = true ∧
      bankServes (effAddr w s) s = true ∧ badIn (effAddr w s) 1 s = none) ∧
    (∃ (s : State) (w : Word), Boundary s ∧ dataFault (fCN w) [pLOAD] (effAddr w s) 1 1 s = none ∧ holdsTags (effAddr w s) = true ∧
      bankServes (effAddr w s) s = true ∧ badIn (effAddr w s) 1 s = none) ∧
    (∃ (s : State) (w : Word), Boundary s ∧ dataFault (fCN w) [pLOAD, pLOADCAP] (effAddr w s) 16 16 s = none ∧ holdsTags (effAddr w s) = true ∧
      bankServes (effAddr w s) s = true ∧ badIn (effAddr w s) 16 s = none) ∧
    (∃ (s : State) (w : Word) (n : Fin 24), Boundary s ∧ effAddr w s = Reg.CUn_MATCHA n ∧ dataFault (fCN w) [pLOAD] (effAddr w s) 4 4 s = none ∧
      domainOn 0 s = true) :=
  ⟨⟨(bootedWith 17 0x20000100).setBytes 0x20000100 [0x81, 0x92, 3, 4, 5, 6, 7, 8], 0x4131E000#32, by decide +kernel⟩,
   ⟨(bootedWith 17 0x20000100).setBytes 0x20000100 [0x81, 0x92, 3, 4, 5, 6, 7, 8], 0x4531E000#32, by decide +kernel⟩,
   ⟨(bootedWith 17 0x20000100).setBytes 0x20000100 [0x81, 0x92, 3, 4, 5, 6, 7, 8], 0x4931E000#32, by decide +kernel⟩,
   ⟨(bootedWith 17 0x20000100).setBytes 0x20000100 [0x81, 0x92, 3, 4, 5, 6, 7, 8], 0x4D31E000#32, by decide +kernel⟩,
   ⟨(bootedWith 17 0x20000100).setBytes 0x20000100 [0x81, 0x92, 3, 4, 5, 6, 7, 8], 0x5131E000#32, by decide +kernel⟩,
   ⟨setTag 0x20000100 true ((bootedWith 17 0x20000100).setBytes 0x20000100 [0x81, 0x92, 3, 4, 5, 6, 7, 8]), 0x60B1E000#32, by decide +kernel⟩,
   ⟨(bootedWith 17 0x40080108).wr (Reg.CUn_MATCHA 0) 0x1234, 0x4131E000#32, 0, by decide +kernel⟩⟩

/-- States and operands that meet the hypotheses of each clause of StoreInstructions. -/
theorem witness_StoreInstructions :
    (∃ (s : State) (w : Word), Boundary s ∧ dataFault (fCN w) [pSTORE] (effAddr w s) 4 4 s = none ∧ holdsTags (effAddr w s) = true ∧
      bankServes (effAddr w s) s = true ∧ badIn (effAddr w s) 4 s = none) ∧
    (∃ (s : State) (w : Word), Boundary s ∧ dataFault (fCN w) [pSTORE] (effAddr w s) 2 2 s = none ∧ holdsTags (effAddr w s) = true ∧
      bankServes (effAddr w s) s = true ∧ badIn (effAddr w s) 2 s = none) ∧
    (∃ (s : State) (w : Word), Boundary s ∧ dataFault (fCN w) [pSTORE] (effAddr w s) 1 1 s = none ∧ holdsTags (effAddr w s) = true ∧
      bankServes (effAddr w s) s = true ∧ badIn (effAddr w s) 1 s = none) ∧
    (∃ (s : State) (w : Word), Boundary s ∧ dataFault (fCN w) [pSTORE, pSTORECAP] (effAddr w s) 16 16 s = none ∧ holdsTags (effAddr w s) = true ∧
      bankServes (effAddr w s) s = true) ∧
    (∃ (s : State) (w : Word) (n : Fin 24), Boundary s ∧ effAddr w s = Reg.CUn_MATCHA n ∧ dataFault (fCN w) [pSTORE] (effAddr w s) 4 4 s = none ∧
      domainOn 0 s = true) :=
  ⟨⟨setTag 0x20000100 true ((bootedWith 17 0x20000100).setBytes 0x20000100 [0x81, 0x92, 3, 4, 5, 6, 7, 8]), 0x5651E000#32, by decide +kernel⟩,
   ⟨setTag 0x20000100 true ((bootedWith 17 0x20000100).setBytes 0x20000100 [0x81, 0x92, 3, 4, 5, 6, 7, 8]), 0x5A51E000#32, by decide +kernel⟩,
   ⟨setTag 0x20000100 true ((bootedWith 17 0x20000100).setBytes 0x20000100 [0x81, 0x92, 3, 4, 5, 6, 7, 8]), 0x5E51E000#32, by decide +kernel⟩,
   ⟨setTag 0x20000100 true ((bootedWith 17 0x20000100).setBytes 0x20000100 [0x81, 0x92, 3, 4, 5, 6, 7, 8]), 0x64F1E000#32, by decide +kernel⟩,
   ⟨(bootedWith 17 0x40080108).wr (Reg.CUn_MATCHA 0) 0x1234, 0x5651E000#32, 0, by decide +kernel⟩⟩

/-- States and operands that meet the hypotheses of each clause of AccessTraps. -/
theorem witness_AccessTraps :
    (∃ (s : State) (w : Word), Boundary s ∧ CanTrap s ∧ (s.trio.core.cap (fCN w)).tag = false) ∧
    (∃ (s : State) (w : Word), Boundary s ∧ CanTrap s ∧ (s.trio.core.cap (fCN w)).tag = true ∧ (s.trio.core.cap (fCN w)).isSealed = true) ∧
    (∃ (s : State) (w : Word), Boundary s ∧ CanTrap s ∧ (s.trio.core.cap (fCN w)).tag = true ∧ (s.trio.core.cap (fCN w)).isSealed = false ∧
      (s.trio.core.cap (fCN w)).has pSTORE = false) ∧
    (∃ (s : State) (w : Word), Boundary s ∧ CanTrap s ∧ (s.trio.core.cap (fCN w)).tag = true ∧ (s.trio.core.cap (fCN w)).isSealed = false ∧
      (s.trio.core.cap (fCN w)).has pLOAD = true ∧ (s.trio.core.cap (fCN w)).has pLOADCAP = false) ∧
    (∃ (s : State) (w : Word), Boundary s ∧ CanTrap s ∧ (s.trio.core.cap (fCN w)).tag = true ∧ (s.trio.core.cap (fCN w)).isSealed = false ∧
      (s.trio.core.cap (fCN w)).has pLOAD = true ∧
      ((s.trio.core.cap (fCN w)).base + (s.trio.core.cap (fCN w)).len < effAddr w s + 2 ∨ effAddr w s < (s.trio.core.cap (fCN w)).base)) ∧
    (∃ (s : State) (w : Word), Boundary s ∧ CanTrap s ∧ (s.trio.core.cap (fCN w)).tag = true ∧ (s.trio.core.cap (fCN w)).isSealed = false ∧
      (s.trio.core.cap (fCN w)).has pSTORE = true ∧ (s.trio.core.cap (fCN w)).covers (effAddr w s) 4 = true ∧ effAddr w s % 4 ≠ 0) ∧
    (∃ (s : State) (w : Word), Boundary s ∧ CanTrap s ∧ dataFault (fCN w) [pLOAD] (effAddr w s) 1 1 s = none ∧ regionOf (effAddr w s) = none) ∧
    (∃ (s : State) (w : Word), Boundary s ∧ CanTrap s ∧ dataFault (fCN w) [pSTORE] (effAddr w s) 1 1 s = none ∧ regionOf (effAddr w s) = some .rom) :=
  ⟨⟨(coreUpd (fun c => c.setCap 7 ({ capRoot with tag := false })) (bootedWith 17 0x20000100)), 0x4131E000#32, by decide +kernel⟩,
   ⟨(coreUpd (fun c => c.setCap 7 (capRoot.sealed 5)) (bootedWith 17 0x20000100)), 0x5531E000#32, by decide +kernel⟩,
   ⟨(coreUpd (fun c => c.setCap 7 (capRoot.setPerm 1)) (bootedWith 17 0x20000100)), 0x5931E000#32, by decide +kernel⟩,
   ⟨(coreUpd (fun c => c.setCap 7 (capRoot.setPerm 1)) (bootedWith 17 0x20000100)), 0x60B1E000#32, by decide +kernel⟩,
   ⟨(coreUpd (fun c => c.setCap 7 (capRoot.setLen 0x20000101)) (bootedWith 17 0x20000100)), 0x4931E000#32, by decide +kernel⟩,
   ⟨bootedWith 17 0x20000102, 0x5531E000#32, by decide +kernel⟩,
   ⟨bootedWith 17 0x50000102, 0x4D31E000#32, by decide +kernel⟩,
   ⟨bootedWith 17 0x00000102, 0x5D31E000#32, by decide +kernel⟩⟩

/-- States and operands that meet the hypotheses of each clause of Branches. -/
theorem witness_Branches :
    (∃ (s : State) (w : Word), Boundary s) ∧
    (∃ (s : State) (w : Word), Boundary s) ∧
    (∃ (s : State) (w : Word), Boundary s) ∧
    (∃ (s : State) (w : Word), Boundary s) ∧
    (∃ (s : State) (w : Word), Boundary s) ∧
    (∃ (s : State) (w : Word), Boundary s) ∧
    (∃ (s : State) (w : Word), Boundary s) ∧
    (∃ (s : State) (w : Word), Boundary s) ∧
    (∃ (s : State) (w : Word), Boundary s ∧ (s.trio.core.reg (fRs1 w) + (w.extractLsb' 0 16).signExtend 32).toNat % 4 = 0) ∧
    (∃ (s : State) (w : Word), Boundary s ∧ CanTrap s ∧ (s.trio.core.reg (fRs1 w) + (w.extractLsb' 0 16).signExtend 32).toNat % 4 ≠ 0) :=
  ⟨⟨booted, 0x8131FFF0#32, by decide +kernel⟩,
   ⟨booted, 0x8531FFF0#32, by decide +kernel⟩,
   ⟨booted, 0x8931FFF0#32, by decide +kernel⟩,
   ⟨booted, 0x8D31FFF0#32, by decide +kernel⟩,
   ⟨booted, 0x9131FFF0#32, by decide +kernel⟩,
   ⟨booted, 0x9531FFF0#32, by decide +kernel⟩,
   ⟨booted, 0xA3FFFFF0#32, by decide +kernel⟩,
   ⟨booted, 0xA4000040#32, by decide +kernel⟩,
   ⟨bootedWith 17 0x200, 0xA9310008#32, by decide +kernel⟩,
   ⟨bootedWith 17 0x200, 0xA9310009#32, by decide +kernel⟩⟩

/-- States and operands that meet the hypotheses of each clause of HardwareLoops. -/
theorem witness_HardwareLoops :
    (∃ (s : State) (w : Word), Boundary s ∧ s.trio.core.depth ≠ 3 ∧ BitVec.ofNat 32 (w.toNat / 65536 % 1024) ≠ 0) ∧
    (∃ (s : State) (w : Word), Boundary s ∧ s.trio.core.depth ≠ 3 ∧ s.trio.core.reg (fRd w) ≠ 0) ∧
    (∃ (s : State) (w : Word), Boundary s ∧ s.trio.core.depth ≠ 3 ∧ s.trio.core.reg (fRd w) = 0) ∧
    (∃ (s : State) (w : Word), Boundary s ∧ CanTrap s ∧ s.trio.core.depth = 3) ∧
    (∃ (s : State) (w : Word), Boundary s ∧ s.trio.core.depth = 1 ∧ s.trio.core.lea[(0 : Fin 3)] = s.trio.core.pc ∧
      s.trio.core.lct[(0 : Fin 3)] ≠ 1) ∧
    (∃ (s : State) (w : Word), Boundary s ∧ s.trio.core.depth = 1 ∧ s.trio.core.lea[(0 : Fin 3)] = s.trio.core.pc ∧
      s.trio.core.lct[(0 : Fin 3)] = 1) ∧
    (∃ (s : State) (w : Word), Boundary s ∧ s.trio.core.depth = 2 ∧ s.trio.core.lea[(0 : Fin 3)] = s.trio.core.pc ∧
      s.trio.core.lea[(1 : Fin 3)] = s.trio.core.pc ∧ s.trio.core.lct[(1 : Fin 3)] = 1 ∧ s.trio.core.lct[(0 : Fin 3)] ≠ 1) :=
  ⟨⟨booted, 0xC4030006#32, by decide +kernel⟩,
   ⟨booted, 0xC1200006#32, by decide +kernel⟩,
   ⟨booted, 0xC0000006#32, by decide +kernel⟩,
   ⟨coreUpd (fun c => { c with depth := 3 }) booted, 0xC4030006#32, by decide +kernel⟩,
   ⟨coreUpd (fun c => { c with depth := 1, lsa := #v[0x80, 0x90, 0], lea := #v[0x100, 0x100, 0], lct := #v[5, 0, 0] }) booted, 0x09310001#32, by decide +kernel⟩,
   ⟨coreUpd (fun c => { c with depth := 1, lsa := #v[0x80, 0x90, 0], lea := #v[0x100, 0x100, 0], lct := #v[1, 0, 0] }) booted, 0x09310001#32, by decide +kernel⟩,
   ⟨coreUpd (fun c => { c with depth := 2, lsa := #v[0x80, 0x90, 0], lea := #v[0x100, 0x100, 0], lct := #v[5, 1, 0] }) booted, 0x09310001#32, by decide +kernel⟩⟩

/-- States and operands that meet the hypotheses of each clause of RegisterWindows. -/
theorem witness_RegisterWindows :
    (∃ (s : State) (w : Word), Boundary s ∧ s.trio.core.intrap = false ∧ (¬ (s.trio.core.wen = true ∧ s.trio.core.cwp + 2 = s.trio.core.old))) ∧
    (∃ (s : State) (w : Word), Boundary s ∧ s.trio.core.intrap = false ∧ (¬ (s.trio.core.wen = true ∧ s.trio.core.cwp = s.trio.core.old))) ∧
    (∃ (s : State) (w : Word), Boundary s ∧ CanTrap s ∧ s.trio.core.wen = true ∧ s.trio.core.cwp + 2 = s.trio.core.old) ∧
    (∃ (s : State) (w : Word), Boundary s ∧ CanTrap s ∧ s.trio.core.wen = true ∧ s.trio.core.cwp = s.trio.core.old) ∧
    (∃ (s : State) (w : Word), Boundary s ∧ SysCap (fCSs w) s ∧
      dataFault (fCd w) [pSTORE] (saveArea ((s.trio.core.reg (fRs1 w)).toNat % 8) s) 64 4 s = none ∧
      regionOf (saveArea ((s.trio.core.reg (fRs1 w)).toNat % 8) s) = some .sram ∧ saveArea ((s.trio.core.reg (fRs1 w)).toNat % 8) s % 64 = 0 ∧
      bankServes (saveArea ((s.trio.core.reg (fRs1 w)).toNat % 8) s) s = true) ∧
    (∃ (s : State) (w : Word), Boundary s ∧ SysCap (fCSs w) s ∧
      dataFault (fCd w) [pLOAD] (saveArea ((s.trio.core.reg (fRs1 w)).toNat % 8) s) 64 4 s = none ∧
      regionOf (saveArea ((s.trio.core.reg (fRs1 w)).toNat % 8) s) = some .sram ∧ saveArea ((s.trio.core.reg (fRs1 w)).toNat % 8) s % 64 = 0 ∧
      bankServes (saveArea ((s.trio.core.reg (fRs1 w)).toNat % 8) s) s = true ∧ badIn (saveArea ((s.trio.core.reg (fRs1 w)).toNat % 8) s) 64 s = none) :=
  ⟨⟨booted, 0xB1CEFF80#32, by decide +kernel⟩,
   ⟨booted, 0xB5CE0080#32, by decide +kernel⟩,
   ⟨coreUpd (fun c => { c with old := 4 }) booted, 0xB1CEFF80#32, by decide +kernel⟩,
   ⟨coreUpd (fun c => { c with old := 2 }) booted, 0xB5CE0080#32, by decide +kernel⟩,
   ⟨coreUpd (fun c => { c with win := updAt c.win (winIn 5 6) (fun _ => 0x20000240) }) (bootedWith 17 4), 0xE0F1E007#32, by decide +kernel⟩,
   ⟨(coreUpd (fun c => { c with win := updAt c.win (winIn 5 6) (fun _ => 0x20000240) }) (bootedWith 17 4)).setBytes 0x20000200 ((List.range 64).map b8), 0xE0F1E008#32, by decide +kernel⟩⟩

/-- States and operands that meet the hypotheses of each clause of SystemInstructions. -/
theorem witness_SystemInstructions :
    (∃ (s : State) (w : Word), Boundary s ∧ fSr w = 0) ∧
    (∃ (s : State) (w : Word), Boundary s ∧ fSr w = 3 ∧ SysCap (fCSs w) s) ∧
    (∃ (s : State) (w : Word) (l : Fin 3), Boundary s ∧ fSr w = 8 + 4 * l.val) ∧
    (∃ (s : State) (w : Word), Boundary s ∧ CanTrap s ∧ 1 ≤ fSr w ∧ fSr w ≤ 5 ∧ (s.trio.core.cap (fCSs w)).tag = false) ∧
    (∃ (s : State) (w : Word), Boundary s ∧ fSr w = 5 ∧ SysCap (fCSs w) s) ∧
    (∃ (s : State) (w : Word), Boundary s ∧ fSr w = 1 ∧ SysCap (fCSs w) s) ∧
    (∃ (s : State) (w : Word), Boundary s ∧ fSr w = 0x14 ∧ SysCap (fCSs w) s) ∧
    (∃ (s : State) (w : Word), Boundary s ∧ CanTrap s) ∧
    (∃ (s : State) (w : Word), Boundary s ∧ CanTrap s) ∧
    (∃ (s : State) (w : Word), Boundary s ∧ SysCap (fCSs w) s) ∧
    (∃ (s : State) (w : Word), Boundary s ∧ SysCap (fCSs w) s ∧ irqVec s = 0 ∧ s.trio.haltReq = false) ∧
    (∃ (s : State) (w : Word), Boundary s ∧ SysCap (fCSs w) s ∧ irqVec s ≠ 0) ∧
    (∃ (s : State) (w : Word), Boundary s ∧ SysCap (fCSs w) s) :=
  ⟨⟨booted, 0xE1206000#32, by decide +kernel⟩,
   ⟨coreUpd (fun c => { c with tepc := 0x4444 }) booted, 0xE120E0C0#32, by decide +kernel⟩,
   ⟨coreUpd (fun c => { c with lsa := #v[4, 8, 12] }) booted, 0xE1206300#32, 1, by decide +kernel⟩,
   ⟨booted, 0xE12040C0#32, by decide +kernel⟩,
   ⟨bootedWith 17 0xFFFFFFFF, 0xE011E141#32, by decide +kernel⟩,
   ⟨bootedWith 17 0x105, 0xE011E041#32, by decide +kernel⟩,
   ⟨bootedWith 17 2, 0xE011E501#32, by decide +kernel⟩,
   ⟨booted, 0xE0110002#32, by decide +kernel⟩,
   ⟨booted, 0xE0000003#32, by decide +kernel⟩,
   ⟨coreUpd (fun c => { c with intrap := true, tepc := 0x2000 }) booted, 0xE000E004#32, by decide +kernel⟩,
   ⟨booted, 0xE000E005#32, by decide +kernel⟩,
   ⟨((booted.wr (Reg.TRIO_IRQPENDj 1) 8).wr (Reg.TRIO_IRQENj 1) 8), 0xE000E005#32, by decide +kernel⟩,
   ⟨booted, 0xE000E006#32, by decide +kernel⟩⟩

/-- States and operands that meet the hypotheses of each clause of CapabilityInstructions. -/
theorem witness_CapabilityInstructions :
    (∃ (s : State) (w : Word), Boundary s) ∧
    (∃ (s : State) (w : Word), Boundary s) ∧
    (∃ (s : State) (w : Word), Boundary s) ∧
    (∃ (s : State) (w : Word), Boundary s) ∧
    (∃ (s : State) (w : Word), Boundary s) ∧
    (∃ (s : State) (w : Word), Boundary s) ∧
    (∃ (s : State) (w : Word), Boundary s ∧ (s.trio.core.cap (fCs1 w)).tag = true ∧ (s.trio.core.cap (fCs1 w)).isSealed = false ∧
      (s.trio.core.reg (fRs1 w)).toNat ≤ (s.trio.core.cap (fCs1 w)).len) ∧
    (∃ (s : State) (w : Word), Boundary s ∧ (s.trio.core.cap (fCs1 w)).tag = true ∧ (s.trio.core.cap (fCs1 w)).isSealed = false ∧
      (s.trio.core.reg (fRs1 w)).toNat ≤ (s.trio.core.cap (fCs1 w)).len) ∧
    (∃ (s : State) (w : Word), Boundary s ∧ (s.trio.core.cap (fCs1 w)).tag = true ∧ (s.trio.core.cap (fCs1 w)).isSealed = false) ∧
    (∃ (s : State) (w : Word), Boundary s) ∧
    (∃ (s : State) (w : Word), Boundary s ∧ (s.trio.core.cap (fCs1 w)).tag = true ∧ (s.trio.core.cap (fCs1 w)).isSealed = false ∧
      (s.trio.core.cap (fCs2 w)).tag = true ∧ (s.trio.core.cap (fCs2 w)).isSealed = false ∧ (s.trio.core.cap (fCs2 w)).has pSEAL = true ∧
      (s.trio.core.reg (fRs1 w)).toNat % 65536 ≠ 0 ∧ (s.trio.core.cap (fCs2 w)).base ≤ (s.trio.core.reg (fRs1 w)).toNat % 65536 ∧
      (s.trio.core.reg (fRs1 w)).toNat % 65536 < (s.trio.core.cap (fCs2 w)).base + (s.trio.core.cap (fCs2 w)).len) ∧
    (∃ (s : State) (w : Word), Boundary s ∧ (s.trio.core.cap (fCs1 w)).tag = true ∧ (s.trio.core.cap (fCs1 w)).isSealed = true ∧
      (s.trio.core.cap (fCs2 w)).tag = true ∧ (s.trio.core.cap (fCs2 w)).isSealed = false ∧ (s.trio.core.cap (fCs2 w)).has pUNSEAL = true ∧
      (s.trio.core.cap (fCs2 w)).base ≤ (s.trio.core.cap (fCs1 w)).otype ∧
      (s.trio.core.cap (fCs1 w)).otype < (s.trio.core.cap (fCs2 w)).base + (s.trio.core.cap (fCs2 w)).len) ∧
    (∃ (s : State) (w : Word), Boundary s) ∧
    (∃ (s : State) (w : Word), Boundary s) :=
  ⟨⟨booted, 0xE860E000#32, by decide +kernel⟩,
   ⟨booted, 0xE920E001#32, by decide +kernel⟩,
   ⟨booted, 0xE920E002#32, by decide +kernel⟩,
   ⟨booted, 0xE920E003#32, by decide +kernel⟩,
   ⟨booted, 0xE920E004#32, by decide +kernel⟩,
   ⟨booted, 0xE920E005#32, by decide +kernel⟩,
   ⟨bootedWith 17 0x1000, 0xE871E008#32, by decide +kernel⟩,
   ⟨bootedWith 17 0x1000, 0xE871E009#32, by decide +kernel⟩,
   ⟨bootedWith 17 0x0F, 0xE871E00A#32, by decide +kernel⟩,
   ⟨booted, 0xE860E00B#32, by decide +kernel⟩,
   ⟨bootedWith 17 0x34, 0xE871FC0C#32, by decide +kernel⟩,
   ⟨coreUpd (fun c => c.setCap 3 (capRoot.sealed 0x34)) booted, 0xE8717C0D#32, by decide +kernel⟩,
   ⟨booted, 0xE9201C0E#32, by decide +kernel⟩,
   ⟨booted, 0xE8600012#32, by decide +kernel⟩⟩

/-- States and operands that meet the hypotheses of each clause of ProtectedTransfers. -/
theorem witness_ProtectedTransfers :
    (∃ (s : State) (w : Word), Boundary s ∧ (s.trio.core.cap (fCs1 w)).tag = true ∧ (s.trio.core.cap (fCs1 w)).isSealed = false ∧
      (s.trio.core.cap (fCs1 w)).has pEXEC = true ∧ (s.trio.core.reg (fRs1 w)).toNat % 4 = 0) ∧
    (∃ (s : State) (w : Word), Boundary s ∧ CanTrap s ∧ (s.trio.core.cap (fCs1 w)).tag = true ∧ (s.trio.core.cap (fCs1 w)).isSealed = false ∧
      (s.trio.core.cap (fCs1 w)).has pEXEC = false) ∧
    (∃ (s : State) (w : Word), Boundary s ∧ (s.trio.core.cap (fCs1 w)).tag = true ∧ (s.trio.core.cap (fCs2 w)).tag = true ∧
      (s.trio.core.cap (fCs1 w)).isSealed = true ∧ (s.trio.core.cap (fCs2 w)).isSealed = true ∧ (s.trio.core.cap (fCs1 w)).otype % 2 = 0 ∧
      (s.trio.core.cap (fCs2 w)).otype = (s.trio.core.cap (fCs1 w)).otype + 1 ∧ (s.trio.core.cap (fCs1 w)).has pEXEC = true ∧
      (s.trio.core.cap (fCs2 w)).has pEXEC = false) ∧
    (∃ (s : State) (w : Word), Boundary s ∧ SysCap (fCSc w) s ∧ (s.trio.core.reg (fRs1 w)) = 2) ∧
    (∃ (s : State) (w : Word), Boundary s ∧ SysCap (fCSc w) s ∧ (s.trio.core.reg (fRs1 w)) = 1) ∧
    (∃ (s : State) (w : Word), Boundary s ∧ SysCap (fCSc w) s ∧ (s.trio.core.reg (fRs1 w)) = 2) ∧
    (∃ (s : State) (w : Word), Boundary s ∧ SysCap (fCSc w) s ∧ (s.trio.core.reg (fRs1 w)) = 1) ∧
    (∃ (s : State) (w : Word), Boundary s ∧ CanTrap s ∧ (s.trio.core.cap (fCSc w)).has pSYS = false) ∧
    (∃ (s : State) (w : Word), Boundary s ∧ CanTrap s ∧ (s.trio.core.cap (fCs1 w)).tag = true ∧ (s.trio.core.cap (fCs1 w)).isSealed = false ∧
      (s.trio.core.cap (fCs1 w)).len < (s.trio.core.reg (fRs1 w)).toNat) ∧
    (∃ (s : State) (w : Word), Boundary s ∧ CanTrap s ∧ (s.trio.core.cap (fCs1 w)).tag = true ∧ (s.trio.core.cap (fCs2 w)).tag = true ∧
      (s.trio.core.cap (fCs1 w)).isSealed = true) :=
  ⟨⟨bootedWith 17 0x200, 0xE871E010#32, by decide +kernel⟩,
   ⟨coreUpd (fun c => c.setCap 3 (capRoot.setPerm 1)) booted, 0xE8716010#32, by decide +kernel⟩,
   ⟨coreUpd (fun c => (c.setCap 3 ((capRoot.setBase 0x400).setLen 64 |>.sealed 0x34)).setCap 4 (((capRoot.setPerm 3).setLen 64).sealed 0x35)) booted, 0xE8B17011#32, by decide +kernel⟩,
   ⟨bootedWith 17 2, 0xE8710398#32, by decide +kernel⟩,
   ⟨bootedWith 17 1, 0xE8710398#32, by decide +kernel⟩,
   ⟨bootedWith 17 2, 0xE811E399#32, by decide +kernel⟩,
   ⟨bootedWith 17 1, 0xE811E399#32, by decide +kernel⟩,
   ⟨booted, 0xE811E119#32, by decide +kernel⟩,
   ⟨coreUpd (fun c => c.setCap 3 (capRoot.setLen 16)) (bootedWith 17 17), 0xE8716008#32, by decide +kernel⟩,
   ⟨coreUpd (fun c => c.setCap 3 (capRoot.sealed 9)) booted, 0xE8717C0C#32, by decide +kernel⟩⟩

/-- States and operands that meet the hypotheses of each clause of IllegalWords. -/
theorem witness_IllegalWords :
    (∃ (s : State) (w : Word), Boundary s ∧ CanTrap s) ∧
    (∃ (s : State) (n : Nat), trioActive s = true ∧ CanTrap s ∧ s.trio.core.ie = true ∧ irqLowest s = some n) ∧
    (∃ (s : State) (w : Word) (n : Nat), trioActive s = true ∧ CanTrap s ∧ s.trio.core.ie = true ∧ irqLowest s = some n) ∧
    (∃ (s : State) (w : Word), Boundary s ∧ s.trio.core.intrap = true ∧ s.get F.TRIO_STAT_RBSEQ < zeroAsOne (s.get F.TRIO_CKCFG_ROLLMAX) ∧
      regionOf s.trio.core.pc.toNat ≠ some .xspi) ∧
    (∃ (s : State) (w : Word), Boundary s ∧ CanTrap s ∧ ((List.range 8).all (fun n => !(s.trio.core.cap n).tag) = true)) :=
  ⟨⟨booted, 0x00000000#32, by decide +kernel⟩,
   ⟨coreUpd (fun c => { c with ie := true }) ((booted.wr (Reg.TRIO_IRQPENDj 1) 24).wr (Reg.TRIO_IRQENj 1) 0xFFFFFFFF), 35, by decide +kernel⟩,
   ⟨coreUpd (fun c => { c with ie := true }) ((booted.wr (Reg.TRIO_IRQPENDj 1) 24).wr (Reg.TRIO_IRQENj 1) 0xFFFFFFFF), 0, 35, by decide +kernel⟩,
   ⟨coreUpd (fun c => { c with intrap := true }) booted, 0xE0110002#32, by decide +kernel⟩,
   ⟨coreUpd (fun c => { c with c := Vector.replicate 8 {} }) booted, 0x1234, by decide +kernel⟩⟩

/-- States and operands that meet the hypotheses of each clause of TrioControl. -/
theorem witness_TrioControl :
    (∃ (s : State), trioActive s = true) ∧
    (∃ (s : State), trioActive s = true ∧ 32192 < s.trio.undo.length) ∧
    (∃ (s : State), s.trio.ckpt = true ∧ s.trio.sleepAfter = false ∧ s.trio.haltReq = false ∧ s.get F.TRIO_STAT_SLOT < 2) ∧
    (∃ (s : State), s.trio.ckpt = true ∧ s.trio.sleepAfter = true ∧ s.trio.wake = false ∧ s.trio.haltReq = false ∧ s.get F.SYS_SPEED_TRIO = 0 ∧
      irqVec s = 0) ∧
    (∃ (s : State), s.trio.run = true ∧ s.get F.SYS_SPEED_TRIO = 1 ∧ s.trio.group = true ∧ s.trio.upAt ≤ s.clk.ns ∧ s.trio.haltReq = false) ∧
    (∃ (s : State), s.trio.run = true ∧ s.get F.SYS_SPEED_TRIO = 1 ∧ s.trio.group = false) ∧
    (∃ (s : State), trioActive s = true) ∧
    (∃ (s : State), s.trio.run = true ∧ s.get F.SYS_SPEED_TRIO = 3) ∧
    (∃ (s : State) (kind : Fin 5) (agree : BitVec 3), s.trio.run = true ∧ s.get F.SYS_SPEED_TRIO = 0 ∧ agree ∈ ([0, 1, 2, 4] : List (BitVec 3)) ∧
      s.get F.TRIO_STAT_RBSEQ < zeroAsOne (s.get F.TRIO_CKCFG_ROLLMAX)) ∧
    (∃ (s : State) (agree : BitVec 3) (trap : BitVec 120), s.trio.run = true ∧ s.get F.SYS_SPEED_TRIO = 0 ∧
      agree ∈ ([0, 1, 2, 4] : List (BitVec 3)) ∧ s.get F.TRIO_STAT_RBSEQ < zeroAsOne (s.get F.TRIO_CKCFG_ROLLMAX)) ∧
    (∃ (s : State), s.trio.run = true ∧ s.get F.SYS_SPEED_TRIO = 2 ∧ s.trio.undo = [] ∧ s.mst.bad = [] ∧ s.trio.haltReq = false ∧
      s.mbx.taken = [] ∧ s.trio.snap[(Fin.ofNat 2 (s.get F.TRIO_STAT_SLOT) : Fin 2)].pc.toNat ≥ 0x20000) ∧
    (∃ (s : State) (e : Undo), s.trio.run = true ∧ s.get F.SYS_SPEED_TRIO = 2 ∧ s.trio.undo = [e] ∧ e.valid = true ∧ e.sram = true ∧
      s.mst.bad = [] ∧ s.trio.haltReq = false ∧ s.mbx.taken = [] ∧ s.trio.snap[(Fin.ofNat 2 (s.get F.TRIO_STAT_SLOT) : Fin 2)].pc.toNat ≥ 0x20000) :=
  ⟨⟨booted, by decide +kernel⟩,
   ⟨trioUpd (fun x => { x with undo := List.replicate 32193 ⟨0, 0, true, false, true⟩ }) booted, by decide +kernel⟩,
   ⟨trioUpd (fun x => { x with ckpt := true, undo := [⟨0, 0, true, false, true⟩] }) booted, by decide +kernel⟩,
   ⟨trioUpd (fun x => { x with ckpt := true, sleepAfter := true }) booted, by decide +kernel⟩,
   ⟨booted.put F.SYS_SPEED_TRIO 1, by decide +kernel⟩,
   ⟨trioUpd (fun x => { x with group := false }) (booted.put F.SYS_SPEED_TRIO 1), by decide +kernel⟩,
   ⟨booted, by decide +kernel⟩,
   ⟨booted.put F.SYS_SPEED_TRIO 3, by decide +kernel⟩,
   ⟨trioUpd (fun x => { x with undo := [⟨0, 0, true, false, true⟩] }) booted, 1, 2, by decide +kernel⟩,
   ⟨booted, 2, 0x55, by decide +kernel⟩,
   ⟨trioUpd (fun x => { x with snap := Vector.replicate 2 { pc := 0x10000000 } }) ((booted.put F.SYS_SPEED_TRIO 2).wr (Reg.TRIO_IRQCLRj 0) 8), by decide +kernel⟩,
   ⟨trioUpd (fun x => { x with undo := [⟨0x1234, 17, true, true, true⟩], snap := Vector.replicate 2 { pc := 0x10000000 } }) (booted.put F.SYS_SPEED_TRIO 2), (⟨0x1234, 17, true, true, true⟩), by decide +kernel⟩⟩

/-- States and operands that meet the hypotheses of each clause of TrioReset. -/
theorem witness_TrioReset :
    (∃ (s : State) (ticket : Byte) (arg : BitVec 16), Fresh Reg.TRIO_ACT ticket s ∧ s.trio.run = true) ∧
    (∃ (s : State), s.trio.run = true ∧ s.get F.SYS_SPEED_TRIO = 0 ∧ s.get F.TRIO_WDT_TO ≠ 0 ∧
      (s.get F.TRIO_WDT_TO * 1000000 ≤ s.trio.wdt + (s.trio.wdtFrom.elim 0 (fun t => s.clk.ns - t)))) ∧
    (∃ (s : State), s.get F.TRIO_WDT_TO = 0) ∧
    (∃ (s : State), s.trio.run = false ∧ s.trio.haltReq = false ∧ s.get F.SYS_SPEED_TRIO = 2 ∧ tcmOff s = []) ∧
    (∃ (s : State) (ticket : Byte) (arg : BitVec 16), Fresh Reg.TRIO_ACT ticket s ∧ s.trio.run = true ∧ s.get F.SYS_SPEED_TRIO = 0 ∧
      s.get F.TRIO_WDT_TO ≠ 0) :=
  ⟨⟨booted.setBytes 0x10000000 [5], 7, 0, by decide +kernel⟩,
   ⟨trioUpd (fun x => { x with wdt := 5000000 }) ((booted.put F.TRIO_WDT_TO 5).setBytes 0x10000000 [5]), by decide +kernel⟩,
   ⟨booted, by decide +kernel⟩,
   ⟨trioUpd (fun x => { x with run := false }) (booted.put F.SYS_SPEED_TRIO 2), by decide +kernel⟩,
   ⟨booted.put F.TRIO_WDT_TO 5, 3, 0, by decide +kernel⟩⟩

/-- States and operands that meet the hypotheses of each clause of MemoryAndFlash. -/
theorem witness_MemoryAndFlash :
    (∃ (s : State) (bank : Fin 15), s.get F.LCS_CTL_SCRUBDIV ≠ 0 ∧ domainOn (scrubBank bank).1 s = true ∧ s.mst.wiping = [] ∧ bank.val ≠ 13 ∧
      mapFind s.lim (0x0B00 + eccRegion ((scrubBank bank).2.1 + s.mst.scrub[bank])) = none) ∧
    (∃ (s : State) (bank : Fin 15), s.get F.LCS_CTL_SCRUBDIV ≠ 0 ∧ domainOn (scrubBank bank).1 s = true ∧ s.mst.wiping = []) ∧
    (∃ (s : State) (pd : Fin 64), (8 ≤ pd.val ∧ pd.val ≤ 15) ∧ s.pwr.trans = [pd.val] ∧ s.pwr.queue = [] ∧ reqOn pd.val s = true) ∧
    (∃ (s : State) (ticket : Byte) (arg : BitVec 16), slotOn Reg.XSPI_ACT s = true ∧ Fresh Reg.XSPI_ACT ticket s ∧ s.on F.XSPI_STAT_BUSY = false ∧
      verifying s = false) ∧
    (∃ (s : State) (ticket : Byte) (arg : BitVec 16), slotOn Reg.XSPI_ACT s = true ∧ Fresh Reg.XSPI_ACT ticket s ∧ verifying s = true) ∧
    (∃ (s : State) (b0 b1 b2 b3 : Byte), s.on F.XSPI_STAT_BUSY = true ∧ s.on F.XSPI_CMD_DATAEN = true ∧ s.on F.XSPI_CMD_DIR = false ∧
      s.get F.XSPI_CMD_LEN = 3) ∧
    (∃ (s : State) (off : Word), s.on F.XSPI_STAT_BUSY = true) ∧
    (∃ (s : State) (off : Word), trioActive s = true ∧ CanTrap s) ∧
    (∃ (s : State) (ticket : Byte) (arg : BitVec 16), slotOn Reg.CRYPTO_ACT s = true ∧ Fresh Reg.CRYPTO_ACT ticket s ∧
      s.lop[(2 : Fin 5)].running = false) ∧
    (∃ (s : State), s.lop[(2 : Fin 5)].running = true ∧ s.lop[(2 : Fin 5)].host = none) :=
  ⟨⟨(powered.put F.LCS_CTL_SCRUBDIV 5), 3, by decide +kernel⟩,
   ⟨(powered.put F.LCS_CTL_SCRUBDIV 5), 13, by decide +kernel⟩,
   ⟨pwrUpd (fun p => { p with trans := [9] }) ((State.reset.put F.PWR_REQ0_REQ 0xFFFFFFFF).putBit F.PWR_ON0_ON 9 false), 9, by decide +kernel⟩,
   ⟨powered, 5, 0, by decide +kernel⟩,
   ⟨bootUpd (fun b => { b with slot := some 1 }) powered, 5, 0, by decide +kernel⟩,
   ⟨(((powered.put F.XSPI_STAT_BUSY 1).put F.XSPI_CMD_DATAEN 1).put F.XSPI_CMD_LEN 3), 1, 2, 3, 4, by decide +kernel⟩,
   ⟨powered.put F.XSPI_STAT_BUSY 1, 0x1234, by decide +kernel⟩,
   ⟨booted, 0x1234, by decide +kernel⟩,
   ⟨powered, 5, 1, by decide +kernel⟩,
   ⟨{ powered with lop := Vector.replicate 5 { running := true, planned := 1, gen := 7 } }, by decide +kernel⟩⟩

/-- States and operands that meet the hypotheses of each clause of BootAndOtp. -/
theorem witness_BootAndOtp :
    (∃ (s : State), s.trio.run = true ∧ s.boot.started = false ∧ s.boot.slot = none ∧ s.get F.LCS_STAT_STATE = 0) ∧
    (∃ (s : State), s.trio.run = true ∧ s.boot.started = false ∧ s.boot.slot = none ∧ s.get F.LCS_STAT_STATE = 1) ∧
    (∃ (s : State) (n : Fin 2), s.boot.slot = some n ∧ s.boot.next = none) ∧
    (∃ (s : State) (ticket : Byte) (arg : BitVec 16), Fresh Reg.LCS_ACT ticket s ∧
      programmable (arg.toNat % 4096) (s.get F.LCS_STAT_STATE) = true ∧ otpWord (arg.toNat % 4096) s = 0 ∧ s.on F.LCS_STAT_OTPBUSY = false) ∧
    (∃ (s : State) (ticket : Byte) (arg : BitVec 16), Fresh Reg.LCS_ACT ticket s ∧ programmable (arg.toNat % 4096) (s.get F.LCS_STAT_STATE) = false) ∧
    (∃ (s : State) (w : Nat) (v : Word), s.boot.prog = [(w, v)] ∧ s.boot.action = 1) ∧
    (∃ (s : State) (w : Nat) (v : Word), s.boot.prog = [(w, v)] ∧ s.boot.action = 2) ∧
    (∃ (s : State) (ticket : Byte) (arg : BitVec 16), Fresh Reg.LCS_ACT ticket s ∧ s.on F.LCS_STAT_OTPBUSY = false ∧
      moveOk (s.get F.LCS_STAT_STATE) (arg.toNat % 8) s = true) ∧
    (∃ (s : State) (ticket : Byte) (arg : BitVec 16), Fresh Reg.LCS_ACT ticket s ∧ s.on F.LCS_STAT_OTPBUSY = false ∧
      moveOk (s.get F.LCS_STAT_STATE) (arg.toNat % 8) s = false) ∧
    (∃ (s : State) (ticket : Byte) (arg : BitVec 16), Fresh Reg.LCS_ACT ticket s ∧ s.on F.LCS_STAT_OTPBUSY = false ∧ s.get F.LCS_STAT_STATE = 1 ∧
      arbMin s ≤ arg.toNat % 64 ∧ s.boot.started = true ∧ arg.toNat % 64 ≤ s.get F.LCS_BOOT_SECVER) ∧
    (∃ (s : State) (ticket : Byte) (arg : BitVec 16), Fresh Reg.LCS_ACT ticket s ∧ s.on F.LCS_STAT_OTPBUSY = false ∧ s.get F.LCS_STAT_STATE = 2 ∧
      arg.toNat % 4 ≠ 3 ∧ s.boot.key ≠ some (arg.toNat % 4)) ∧
    (∃ (s : State) (ticket : Byte) (arg : BitVec 16) (k : Fin 4), Fresh Reg.LCS_ACT ticket s ∧ s.lop[(1 : Fin 5)].running = false ∧
      arg.toNat % 512 = 2 ^ k.val ∧ domainOn (8 + k.val) s = true) ∧
    (∃ (s : State) (k : Fin 8), s.mst.wipeLeft = [k.val] ∧ s.mst.wipeSel = 2 ^ k.val ∧ s.mst.wiping = [8 + k.val] ∧ s.mst.wipeFail = false ∧
      s.lop[(1 : Fin 5)].host = none ∧ s.lop[(1 : Fin 5)].abort = false) :=
  ⟨⟨booted, by decide +kernel⟩,
   ⟨booted.put F.LCS_STAT_STATE 1, by decide +kernel⟩,
   ⟨bootUpd (fun b => { b with slot := some 1 }) booted, 1, by decide +kernel⟩,
   ⟨powered.wr Reg.LCS_OTPWD 0x55, 5, 0x200, by decide +kernel⟩,
   ⟨powered, 5, 0x05, by decide +kernel⟩,
   ⟨bootUpd (fun b => { b with prog := [(0x200, 0x55)], action := 1, otp := [(0x200, 2)] }) (powered.put F.LCS_STAT_OTPBUSY 1), 0x200, 0x55, by decide +kernel⟩,
   ⟨bootUpd (fun b => { b with prog := [(0, 0xFFFFFFFF)], action := 2 }) (powered.put F.LCS_STAT_OTPBUSY 1), 0, 0xFFFFFFFF, by decide +kernel⟩,
   ⟨powered, 5, 1, by decide +kernel⟩,
   ⟨powered, 5, 2, by decide +kernel⟩,
   ⟨bootUpd (fun b => { b with started := true }) ((powered.put F.LCS_STAT_STATE 1).put F.LCS_BOOT_SECVER 40), 5, 34, by decide +kernel⟩,
   ⟨powered.put F.LCS_STAT_STATE 2, 5, 1, by decide +kernel⟩,
   ⟨powered, 5, 4, 2, by decide +kernel⟩,
   ⟨{ (powered.setByte 0x20080010 5) with mst := { wipeLeft := [2], wipeSel := 4, wiping := [10] }, lop := Vector.replicate 5 { running := true, planned := 65536, gen := 7 } }, 2, by decide +kernel⟩⟩

/-- States and operands that meet the hypotheses of each clause of PowerSequencer. -/
theorem witness_PowerSequencer :
    (∃ (s : State) (k : Fin 8), reqOn (8 + k.val) s = true ∧ ((List.range 64).all (fun d => !fixedPd d || reqOn d s) = true) ∧
      domainOn (8 + k.val) s = true ∧ s.mst.wipeLeft = [] ∧ s.pwr.queue = [] ∧ s.armed .domainSwitch = false ∧
      s.pwr.woke.contains (8 + k.val) = false) ∧
    (∃ (s : State), reqOn 4 s = true ∧ ((List.range 64).all (fun d => !fixedPd d || reqOn d s) = true) ∧ s.pwr.queue = [] ∧
      s.pwr.woke.contains 4 = false) ∧
    (∃ (s : State) (k : Fin 8), s.pwr.queue = [(8 + k.val, false)] ∧ s.pwr.trans = [] ∧ domainOn (8 + k.val) s = true ∧
      reqOn (8 + k.val) s = false ∧ s.trio.undo = [] ∧ s.pwr.freeAt ≤ s.clk.ns) ∧
    (∃ (s : State) (k : Fin 8), s.pwr.queue = [(8 + k.val, true)] ∧ s.pwr.trans = [] ∧ domainOn (8 + k.val) s = false ∧
      reqOn (8 + k.val) s = true ∧ s.pwr.freeAt ≤ s.clk.ns) ∧
    (∃ (s : State), s.pwr.trans = [16] ∧ s.pwr.queue = [] ∧ reqOn 16 s = true) :=
  ⟨⟨powered.put F.PWR_REQ0_REQ 0xFFFFFFFF, 2, by decide +kernel⟩,
   ⟨powered.put F.PWR_REQ0_REQ 0xFFFFFFFF, by decide +kernel⟩,
   ⟨pwrUpd (fun p => { p with queue := [(10, false)] }) ((powered.setByte 0x20080000 5).putBit F.PWR_REQ0_REQ 10 false), 2, by decide +kernel⟩,
   ⟨pwrUpd (fun p => { p with queue := [(10, true)] }) ((State.reset.put F.PWR_REQ0_REQ 0xFFFFFFFF).putBit F.PWR_ON0_ON 10 false), 2, by decide +kernel⟩,
   ⟨pwrUpd (fun p => { p with trans := [16] }) ((State.reset.put F.PWR_REQ0_REQ 0xFFFFFFFF).putBit F.PWR_ON0_ON 16 false), by decide +kernel⟩⟩

/-- States and operands that meet the hypotheses of each clause of ResetAndStartup. -/
theorem witness_ResetAndStartup :
    (∃ (s : State) (ticket : Byte), Fresh Reg.SYS_ACT ticket s) ∧
    (∃ (s : State) (ticket : Byte) (arg : BitVec 16), Fresh Reg.SYS_ACT ticket s ∧ arg ≠ 0x5A5A) ∧
    (∃ (s : State), s.clk.held = true) ∧
    (∃ (s : State), s.clk.held = false) ∧
    (∃ (s : State), s.pwr.recorded = false ∧ s.get F.LCS_STAT_STATE = 1 ∧ s.trio.run = false ∧ s.boot.production = false ∧ s.trio.haltReq = false ∧
      s.get F.SYS_SPEED_TRIO ≠ 2 ∧ tcmOff s = []) ∧
    (∃ (s : State), s.pwr.recorded = false ∧ s.get F.LCS_STAT_STATE = 0 ∧ s.trio.run = false ∧ s.boot.production = true) ∧
    (∃ (s : State), s.pwr.recorded = false ∧ s.get F.LCS_STAT_STATE = 4 ∧ s.trio.run = false) ∧
    (∃ (s : State), s.on F.SYS_SUPPLY_PHYLOW = false ∧ s.on F.APR_CTL_EN = false ∧ s.pwr.linkUp = false ∧ fst s = 0) ∧
    (∃ (s : State), s.on F.SYS_SUPPLY_PHYLOW = true ∧ s.on F.USB_CTL_EN = false) ∧
    (∃ (s : State) (ticket : Byte) (arg : BitVec 16), Fresh Reg.PWR_ACT ticket s ∧ arg.toNat % 256 = 0x09 ∧ domainOn 0 s = true) ∧
    (∃ (s : State) (ticket : Byte) (arg : BitVec 16), Fresh Reg.PWR_ACT ticket s ∧ arg.toNat % 256 = 0x07 ∧ s.on F.APR_CTL_EN = true) :=
  ⟨⟨State.reset.wr Reg.SYS_RSTCAUSE 1, 7, by decide +kernel⟩,
   ⟨State.reset, 7, 0x5A5B, by decide +kernel⟩,
   ⟨{ State.reset with clk := { State.reset.clk with held := true } }, by decide +kernel⟩,
   ⟨{ State.reset with clk := {} }, by decide +kernel⟩,
   ⟨(powered.setByte 0x10000000 7).put F.LCS_STAT_STATE 1, by decide +kernel⟩,
   ⟨{ State.reset with boot := { production := true, testEn := true } }, by decide +kernel⟩,
   ⟨powered.put F.LCS_STAT_STATE 4, by decide +kernel⟩,
   ⟨powered, by decide +kernel⟩,
   ⟨powered.put F.SYS_SUPPLY_PHYLOW 1, by decide +kernel⟩,
   ⟨(powered.wr Reg.EVM_CTL 0xFFFFFFFF).wr (Reg.EVM_CHc_CTL 3) 1, 7, 9, by decide +kernel⟩,
   ⟨powered.put F.APR_CTL_EN 1, 7, 7, by decide +kernel⟩⟩

/-- States and operands that meet the hypotheses of each clause of UsbFunction. -/
theorem witness_UsbFunction :
    (∃ (s : State), s.on F.USB_CTL_EN = true ∧ fst s = 0 ∧ s.on F.SYS_SUPPLY_PHYLOW = false) ∧
    (∃ (s : State), fst s ≠ 0 ∧ fst s ≠ 6 ∧ ((List.range 16).all (fun k => mbOwner k s != 3) = true)) ∧
    (∃ (s : State) (hs : Bool), (1 ≤ fst s ∧ fst s ≤ 4) ∧ s.usb.dropped = false ∧ s.usb.resumed = false ∧ NotFired 176 s ∧
      ((List.range 16).all (fun k => mbOwner k s != 3) = true)) ∧
    (∃ (s : State), (1 ≤ fst s ∧ fst s ≤ 4) ∧ s.on F.USB_CTL_SUSPPD = false ∧ NotFired 177 s) ∧
    (∃ (s : State), fst s = 5 ∧ s.pwr.queue = [] ∧ (domainOn 59 s = true ∧ domainOn 60 s = true)) ∧
    (∃ (s : State) (port : Fin 2), s.usb.hubPower.getLsbD (2 + port.val) = true ∧ fst s = 5 ∧ s.pwr.queue = [] ∧ (domainOn 59 s = true ∧
      domainOn 60 s = true)) ∧
    (∃ (s : State), fst s = 6 ∧ s.usb.prior < 8 ∧ NotFired 178 s) ∧
    (∃ (s : State) (port : Fin 2), s.on F.USB_CTL_EN = true) ∧
    (∃ (s : State) (addr : BitVec 7), usbTalks s = true ∧ addr ≠ 0) ∧
    (∃ (s : State), usbTalks s = true ∧ fst s = 3) ∧
    (∃ (s : State) (hub : Bool) (value : Byte), usbTalks s = true ∧ 1 < value.toNat) ∧
    (∃ (s : State) (dirIn : Bool), usbTalks s = true ∧ s.on F.USB_STAT_CONF = true ∧
      s.usb.ep[(2 : Fin 7)].ctl.getLsbD (if dirIn then 30 else 31) = true) ∧
    (∃ (s : State), usbTalks s = true ∧ s.on F.USB_STAT_CONF = true ∧ s.usb.ep[(2 : Fin 7)].ctl.getLsbD 31 = true) ∧
    (∃ (s : State), usbTalks s = true ∧ s.on F.USB_STAT_CONF = true ∧ s.usb.ep[(2 : Fin 7)].ctl.getLsbD 31 = true) ∧
    (∃ (s : State) (len : BitVec 16), usbTalks s = true) ∧
    (∃ (s : State) (index : Byte) (len : BitVec 16), usbTalks s = true ∧ 2 < index.toNat) ∧
    (∃ (s : State), usbTalks s = true) ∧
    (∃ (s : State) (hub : Bool), usbTalks s = true) ∧
    (∃ (s : State) (hub : Bool) (alt : Byte), usbTalks s = true) ∧
    (∃ (s : State), usbTalks s = true) ∧
    (∃ (s : State) (len : BitVec 16) (p : Fin 4), usbTalks s = true ∧ 2 ≤ p.val) ∧
    (∃ (s : State) (frame : BitVec 11) (uf : Fin 8), slotOn Reg.USB_CTL s = true ∧ s.on F.USB_CTL_EN = true ∧ (fst s ≠ 0 ∧ fst s ≠ 5) ∧
      NotFired 179 s) ∧
    (∃ (s : State) (ticket : Byte) (arg : BitVec 16), slotOn Reg.USB_ACT s = true ∧ Fresh Reg.USB_ACT ticket s ∧ fst s ≠ 0) :=
  ⟨⟨powered.put F.USB_CTL_EN 1, by decide +kernel⟩,
   ⟨usbUp, by decide +kernel⟩,
   ⟨usbUp, true, by decide +kernel⟩,
   ⟨usbUp.put F.USB_CTL_SUSPPD 0, by decide +kernel⟩,
   ⟨usbUp.put F.USB_STAT_FST 5, by decide +kernel⟩,
   ⟨usbUpd (fun u => { u with hubPower := 8 }) (usbUp.put F.USB_STAT_FST 5), 1, by decide +kernel⟩,
   ⟨usbUpd (fun u => { u with prior := 4 }) (usbUp.put F.USB_STAT_FST 6), by decide +kernel⟩,
   ⟨usbUpd (fun u => { u with hubPower := 15 }) usbUp, 1, by decide +kernel⟩,
   ⟨usbUp.put F.USB_STAT_FST 2, 17, by decide +kernel⟩,
   ⟨usbUp.put F.USB_STAT_FST 3, by decide +kernel⟩,
   ⟨usbUp, true, 2, by decide +kernel⟩,
   ⟨usbUp, true, by decide +kernel⟩,
   ⟨usbUp, by decide +kernel⟩,
   ⟨epUpd 2 (fun e => { e with outHalt := true, outTog := true }) usbUp, by decide +kernel⟩,
   ⟨usbUp, 18, by decide +kernel⟩,
   ⟨usbUp, 3, 18, by decide +kernel⟩,
   ⟨usbUp, by decide +kernel⟩,
   ⟨usbUp, true, by decide +kernel⟩,
   ⟨usbUp, true, 0, by decide +kernel⟩,
   ⟨usbUp, by decide +kernel⟩,
   ⟨usbUp, 0, 3, by decide +kernel⟩,
   ⟨usbUp, 0x345, 5, by decide +kernel⟩,
   ⟨usbUp, 4, 0, by decide +kernel⟩⟩

/-- States and operands that meet the hypotheses of each clause of UsbTransfers. -/
theorem witness_UsbTransfers :
    (∃ (s : State) (j : Fin 8) (g : Nat) (l : List Nat), slotOn Reg.USB_CTL s = true ∧ freeGobs j.val s = g :: l) ∧
    (∃ (s : State) (j : Fin 8) (gob : Byte), slotOn Reg.USB_CTL s = true ∧ regEn j.val s = true ∧ (regFirst j.val s ≤ gob.toNat ∧
      gob.toNat ≤ regLast j.val s) ∧ s.usb.used.getLsbD gob.toNat = true) ∧
    (∃ (s : State) (k : Fin 5) (gob : Byte) (len : BitVec 10), slotOn Reg.USB_CTL s = true ∧ (1 ≤ len.toNat ∧ len.toNat ≤ 64) ∧
      (regGobs (inRegion (Fin.ofNat 7 (k.val + 2)) s) s).contains gob.toNat = true ∧ s.usb.used.getLsbD gob.toNat = true ∧
      s.usb.ep[(Fin.ofNat 7 (k.val + 2) : Fin 7)].inq = []) ∧
    (∃ (s : State) (k : Fin 5) (pk : UsbPkt) (q : List UsbPkt), slotOn Reg.USB_CTL s = true ∧
      s.usb.ep[(Fin.ofNat 7 (k.val + 2) : Fin 7)].outq = pk :: q) ∧
    (∃ (s : State) (j : Fin 8) (value : Word), slotOn Reg.USB_CTL s = true ∧ regUsed j.val s = true ∧ mapFind s.lim 0x100006 = none) ∧
    (∃ (s : State) (j : Fin 8) (value : Word), slotOn Reg.USB_CTL s = true ∧ (value.extractLsb' 0 8).toNat ≤ (value.extractLsb' 8 8).toNat ∧
      ((List.finRange 8).all (fun i => i == j || !regEn i s || decide ((value.extractLsb' 8 8).toNat < regFirst i s) || decide (regLast i s < (value.extractLsb' 0 8).toNat)) = true) ∧
      regUsed j.val s = false) ∧
    (∃ (s : State) (k : Fin 7) (l : List Nat), usbTalks s = true ∧ outActive k s = true ∧ s.usb.ep[k].outHalt = false ∧
      s.usb.ep[k].outq.length < 8 ∧ bufWiping s = false ∧ (freeGobs (outRegion k s) s).take (mpsGobs s) = l ∧ l.length = mpsGobs s ∧
      (∀ e ∈ s.usb.ep.toList, e.alloc = none)) ∧
    (∃ (s : State) (k : Fin 7) (tog crc : Bool) (data : List Byte) (g : Nat), usbTalks s = true ∧ outActive k s = true ∧ 2 ≤ k.val ∧
      s.usb.ep[k].alloc = some [g] ∧ g < 256 ∧ crc = true ∧ tog = s.usb.ep[k].outTog ∧ (1 ≤ data.length ∧ data.length ≤ 64) ∧
      data.length ≤ usbMps s ∧ s.mst.bad = [] ∧ s.mst.soft = [] ∧ bufWiping s = false) ∧
    (∃ (s : State) (k : Fin 7), usbTalks s = true ∧ outActive k s = true ∧ s.usb.ep[k].outHalt = true ∧ (∀ e ∈ s.usb.ep.toList, e.alloc = none)) ∧
    (∃ (s : State) (k : Fin 7), usbTalks s = true ∧ outActive k s = true ∧ s.usb.ep[k].outHalt = false ∧ (∀ e ∈ s.usb.ep.toList, e.alloc = none)) ∧
    (∃ (s : State), usbTalks s = true ∧ s.usb.hubConf = 1 ∧ hubBit 2 s = false ∧ (∀ e ∈ s.usb.ep.toList, e.alloc = none)) ∧
    (∃ (s : State) (k : Fin 7) (pk : UsbPkt) (q : List UsbPkt), usbTalks s = true ∧ inActive k s = true ∧ s.usb.ep[k].inHalt = false ∧
      s.usb.ep[k].inq = pk :: q ∧ pk.sure = true ∧ bufWiping s = false ∧ s.mst.bad = [] ∧ s.mst.soft = [] ∧ (∀ e ∈ s.usb.ep.toList, e.alloc = none)) ∧
    (∃ (s : State) (k : Fin 7), usbTalks s = true ∧ inActive k s = true ∧ s.usb.ep[k].inHalt = false ∧ s.usb.ep[k].inq = [] ∧
      (∀ e ∈ s.usb.ep.toList, e.alloc = none)) ∧
    (∃ (s : State) (k : Fin 7) (pk : UsbPkt) (q : List UsbPkt), 2 ≤ k.val ∧ s.usb.ep[k].inq = pk :: q ∧ s.usb.ep[k].sent = true ∧ pk.sure = true) ∧
    (∃ (s : State) (seq : Byte) (len : BitVec 16) (g : Nat) (l : List Nat), usbTalks s = true ∧ fst s = 4 ∧ s.usb.ep[(1 : Fin 7)].inq = [] ∧
      freeGobs 0 s = g :: l ∧ s.mst.bad = [] ∧ len ≠ 0 ∧ s.mst.soft = [] ∧ bufWiping s = false) ∧
    (∃ (s : State) (seq : Byte) (g : Nat) (l : List Nat), usbTalks s = true ∧ fst s = 4 ∧ s.usb.ep[(1 : Fin 7)].inq = [] ∧ freeGobs 0 s = g :: l ∧
      s.mst.bad = [] ∧ s.mst.soft = [] ∧ bufWiping s = false) ∧
    (∃ (s : State) (seq : Byte) (g : Nat) (l : List Nat), usbTalks s = true ∧ fst s = 4 ∧ s.usb.ep[(1 : Fin 7)].inq = [] ∧ freeGobs 0 s = g :: l ∧
      s.mst.bad = [] ∧ s.mst.soft = [] ∧ bufWiping s = false) ∧
    (∃ (s : State) (k : Fin 16) (seq : Byte) (g : Nat) (l : List Nat), usbTalks s = true ∧ fst s = 4 ∧ s.usb.ep[(1 : Fin 7)].inq = [] ∧
      freeGobs 0 s = g :: l ∧ s.mst.bad = [] ∧ k.val < 8 ∧ mbOwner k s = 0 ∧ s.mst.soft = [] ∧ bufWiping s = false ∧ mbFreed k s = 0) ∧
    (∃ (s : State) (k : Fin 16) (seq : Byte) (g : Nat) (l : List Nat), usbTalks s = true ∧ fst s = 4 ∧ s.usb.ep[(1 : Fin 7)].inq = [] ∧
      freeGobs 0 s = g :: l ∧ s.mst.bad = [] ∧ 8 ≤ k.val ∧ s.mst.soft = [] ∧ bufWiping s = false) ∧
    (∃ (s : State) (k : Fin 16) (seq : Byte) (g : Nat) (l : List Nat), usbTalks s = true ∧ fst s = 4 ∧ s.usb.ep[(1 : Fin 7)].inq = [] ∧
      freeGobs 0 s = g :: l ∧ s.mst.bad = [] ∧ k.val < 8 ∧ mbOwner k s = 3 ∧ s.mst.soft = [] ∧ bufWiping s = false) ∧
    (∃ (s : State) (k : Fin 16) (seq : Byte) (b0 b1 b2 b3 : Byte) (g : Nat) (l : List Nat), usbTalks s = true ∧ fst s = 4 ∧
      s.usb.ep[(1 : Fin 7)].inq = [] ∧ freeGobs 0 s = g :: l ∧ s.mst.bad = [] ∧ k.val < 8 ∧ mbOwner k s = 3 ∧ mbFull k s = false ∧ s.mst.soft = [] ∧
      bufWiping s = false) ∧
    (∃ (s : State) (seq : Byte) (arg : Word) (g : Nat) (l : List Nat), usbTalks s = true ∧ fst s = 4 ∧ s.usb.ep[(1 : Fin 7)].inq = [] ∧
      freeGobs 0 s = g :: l ∧ svN arg = 0 ∧ s.mst.bad = [] ∧ s.mst.soft = [] ∧ bufWiping s = false) ∧
    (∃ (s : State) (seq : Byte) (len : BitVec 16) (arg : Word) (g : Nat) (l : List Nat), usbTalks s = true ∧ fst s = 4 ∧
      s.usb.ep[(1 : Fin 7)].inq = [] ∧ freeGobs 0 s = g :: l ∧ len ≠ 0 ∧ s.mst.bad = [] ∧ s.mst.soft = [] ∧ bufWiping s = false) ∧
    (∃ (s : State) (seq : Byte) (len : BitVec 16) (arg : Word) (g : Nat) (l : List Nat), usbTalks s = true ∧ fst s = 4 ∧
      s.usb.ep[(1 : Fin 7)].inq = [] ∧ freeGobs 0 s = g :: l ∧ len ≠ 0 ∧ s.mst.bad = [] ∧ s.mst.soft = [] ∧ bufWiping s = false) ∧
    (∃ (s : State) (k : Fin 16) (seq : Byte) (g : Nat) (l : List Nat), usbTalks s = true ∧ fst s = 4 ∧ s.usb.ep[(1 : Fin 7)].inq = [] ∧
      freeGobs 0 s = g :: l ∧ s.mst.bad = [] ∧ mbRecv k s = 3 ∧ s.mst.soft = [] ∧ bufWiping s = false) ∧
    (∃ (s : State) (k : Fin 16) (seq tk : Byte) (n : Fin 17) (g : Nat) (l : List Nat), usbTalks s = true ∧ fst s = 4 ∧
      s.usb.ep[(1 : Fin 7)].inq = [] ∧ freeGobs 0 s = g :: l ∧ s.mst.bad = [] ∧ (tk ≠ 0 ∧
      tk ≠ ((mapFind s.mbx.send (8 * k.val + 3)).getD 0).extractLsb' 24 8) ∧ sendReason .usb k n.val s = 0 ∧ s.on (F.MBk_CFG_NOTIFY k) = false ∧
      (mbRecv k s ≠ 4 ∧ mbRecv k s ≠ 5) ∧ NotFired (168 + k.val % 8) s ∧ s.mst.soft = [] ∧ bufWiping s = false) ∧
    (∃ (s : State) (k : Fin 16) (seq : Byte) (g : Nat) (l : List Nat), usbTalks s = true ∧ fst s = 4 ∧ s.usb.ep[(1 : Fin 7)].inq = [] ∧
      freeGobs 0 s = g :: l ∧ s.mst.bad = [] ∧ mbRecv k s = 3 ∧ mbFull k s = true ∧ s.mst.soft = [] ∧ bufWiping s = false) ∧
    (∃ (s : State) (seq : Byte) (n : Nat) (payload : List Byte) (g : Nat) (l : List Nat), usbTalks s = true ∧ fst s = 4 ∧
      s.usb.ep[(1 : Fin 7)].inq = [] ∧ freeGobs 0 s = g :: l ∧ s.mst.bad = [] ∧ svRecovery s = true ∧ payload.length = 8 ∧ n < 1000 ∧
      bankServes 0x20000000 s = true ∧ s.mst.soft = [] ∧ bufWiping s = false) ∧
    (∃ (s : State) (seq : Byte) (g : Nat) (l : List Nat), usbTalks s = true ∧ fst s = 4 ∧ s.usb.ep[(1 : Fin 7)].inq = [] ∧ freeGobs 0 s = g :: l ∧
      svRecovery s = true ∧ s.get F.LCS_STAT_STATE = 0 ∧ s.mst.bad = [] ∧ s.mst.soft = [] ∧ bufWiping s = false) ∧
    (∃ (s : State), s.boot.recovery = true ∧ s.boot.staged = true ∧ s.mst.soft = [] ∧ stagedTrap (stagedLen s) s = none ∧
      (hdrIlen (stagedHdr s) ≤ 0x80000 ∧ hdrDlen (stagedHdr s) ≤ 0x80000) ∧ hdrW (stagedHdr s) 12 % 4 = 0) ∧
    (∃ (s : State) (op seq : Byte) (g : Nat) (l : List Nat), usbTalks s = true ∧ fst s = 4 ∧ s.usb.ep[(1 : Fin 7)].inq = [] ∧
      freeGobs 0 s = g :: l ∧ s.mst.bad = [] ∧ s.mst.soft = [] ∧ bufWiping s = false) ∧
    (∃ (s : State) (b : Byte) (l : List Byte), s.usb.rx = b :: l ∧ mapFind s.lim 0x100005 = none) :=
  ⟨⟨usbUp, 1, 8, ((List.range 15).map (· + 9)), by decide +kernel⟩,
   ⟨usbUpd (fun u => { u with used := 0x300 }) usbUp, 1, 9, by decide +kernel⟩,
   ⟨usbUpd (fun u => { u with used := 0x300 }) usbUp, 0, 9, 40, by decide +kernel⟩,
   ⟨epUpd 2 (fun e => { e with outq := [{ len := 12, gobs := [9] }] }) usbUp, 0, ({ len := 12, gobs := [9] }), [], by decide +kernel⟩,
   ⟨usbUp, 1, 0, by decide +kernel⟩,
   ⟨powered, 3, 0x80004F40, by decide +kernel⟩,
   ⟨usbUp, 2, ([8, 9, 10, 11, 12, 13, 14, 15]), by decide +kernel⟩,
   ⟨epUpd 2 (fun e => { e with alloc := some [9] }) (usbUpd (fun u => { u with used := 0x200 }) usbUp), 2, false, true, ([1, 2, 3]), 9, by decide +kernel⟩,
   ⟨epUpd 2 (fun e => { e with outHalt := true }) usbUp, 2, by decide +kernel⟩,
   ⟨usbUp, 2, by decide +kernel⟩,
   ⟨setHubBit 48 true (usbUpd (fun u => { u with hubConf := 1 }) usbUp), by decide +kernel⟩,
   ⟨epUpd 2 (fun e => { e with inq := [{ len := 12, gobs := [9] }] }) usbUp, 2, ({ len := 12, gobs := [9] }), [], by decide +kernel⟩,
   ⟨usbUp, 2, by decide +kernel⟩,
   ⟨epUpd 2 (fun e => { e with inq := [{ len := 12, gobs := [9] }], sent := true }) (usbUpd (fun u => { u with used := 0x200 }) usbUp), 2, ({ len := 12, gobs := [9] }), [], by decide +kernel⟩,
   ⟨usbUp, 7, 4, 0, ([1, 2, 3, 4, 5, 6, 7]), by decide +kernel⟩,
   ⟨usbUp, 7, 0, ([1, 2, 3, 4, 5, 6, 7]), by decide +kernel⟩,
   ⟨usbUp, 7, 0, ([1, 2, 3, 4, 5, 6, 7]), by decide +kernel⟩,
   ⟨usbUp, 5, 7, 0, ([1, 2, 3, 4, 5, 6, 7]), by decide +kernel⟩,
   ⟨usbUp, 11, 7, 0, ([1, 2, 3, 4, 5, 6, 7]), by decide +kernel⟩,
   ⟨lockRead .usb 5 usbUp, 5, 7, 0, ([1, 2, 3, 4, 5, 6, 7]), by decide +kernel⟩,
   ⟨lockRead .usb 5 usbUp, 5, 7, 1, 2, 3, 4, 0, ([1, 2, 3, 4, 5, 6, 7]), by decide +kernel⟩,
   ⟨usbUp, 7, 5, 0, ([1, 2, 3, 4, 5, 6, 7]), by decide +kernel⟩,
   ⟨usbUp, 7, 1, 5, 0, ([1, 2, 3, 4, 5, 6, 7]), by decide +kernel⟩,
   ⟨usbUp, 7, 1, 5, 0, ([1, 2, 3, 4, 5, 6, 7]), by decide +kernel⟩,
   ⟨(usbUp.put (F.MBk_CFG_RECV 5) 3).wr (Reg.MBk_DATAi 5 1) 0x11223344, 5, 7, 0, ([1, 2, 3, 4, 5, 6, 7]), by decide +kernel⟩,
   ⟨(usbUp.put (F.MBk_STAT_OWNER 5) 3).put (F.MBk_CFG_RECV 5) 1, 5, 7, 9, 4, 0, ([1, 2, 3, 4, 5, 6, 7]), by decide +kernel⟩,
   ⟨((usbUp.put (F.MBk_STAT_FULL 5) 1).put (F.MBk_STAT_LEN 5) 4).put (F.MBk_CFG_RECV 5) 3, 5, 7, 0, ([1, 2, 3, 4, 5, 6, 7]), by decide +kernel⟩,
   ⟨bootUpd (fun b => { b with recovery := true }) usbUp, 7, 12, ([1, 2, 3, 4, 5, 6, 7, 8]), 0, ([1, 2, 3, 4, 5, 6, 7]), by decide +kernel⟩,
   ⟨bootUpd (fun b => { b with recovery := true }) usbUp, 7, 0, ([1, 2, 3, 4, 5, 6, 7]), by decide +kernel⟩,
   ⟨bootUpd (fun b => { b with recovery := true, staged := true }) usbUp, by decide +kernel⟩,
   ⟨usbUp, 0x55, 7, 0, ([1, 2, 3, 4, 5, 6, 7]), by decide +kernel⟩,
   ⟨usbUpd (fun u => { u with rx := [5, 6] }) usbUp, 5, [6], by decide +kernel⟩⟩

/-- States and operands that meet the hypotheses of each clause of HostRings. -/
theorem witness_HostRings :
    (∃ (s : State) (agent : Agent) (n : Fin 8) (value : Word), slotOn Reg.HIF_CTL s = true ∧ s.on F.HIF_CTL_LOCK = false ∧
      (s.rd (Reg.HIF_SQn_CTL n)).getLsbD 0 = false) ∧
    (∃ (s : State) (agent : Agent) (n : Fin 8) (value : Word), slotOn Reg.HIF_CTL s = true ∧ s.on F.HIF_CTL_LOCK = false ∧
      (s.rd (Reg.HIF_SQn_CTL n)).getLsbD 0 = true ∧ ((List.finRange 16).all (fun i => s.hif.slot[i].ring != n || s.hif.slot[i].st == .free) = true)) ∧
    (∃ (s : State) (n : Fin 8), sqRun n s = true ∧ pollAngle n s = false) ∧
    (∃ (s : State) (n : Fin 8) (pi : BitVec 16), sqRun n s = true ∧ s.out.d3hot = false ∧ s.hif.sq[n].retry = false ∧
      idxDiff pi.toNat (s.get (F.HIF_SQn_STAT_CI n)) ≤ sqSize n s) ∧
    (∃ (s : State) (n : Fin 8) (pi : BitVec 16), sqRun n s = true ∧ s.out.d3hot = false ∧
      sqSize n s < idxDiff pi.toNat (s.get (F.HIF_SQn_STAT_CI n)) ∧ s.out.msixOn = true ∧ s.msixWord (4 * s.get F.HIF_CTL_ERRVEC + 3) = 1) ∧
    (∃ (s : State) (n : Fin 8), ((List.finRange 8).all (fun k => k == n || fetchable k s == 0) = true) ∧ fetchable n s = 1 ∧
      ((List.finRange 16).all (fun i => s.hif.slot[i].st == .free) = true)) ∧
    (∃ (s : State) (slot : Fin 16) (n : Fin 8) (desc : BitVec 512), sqRun n s = true ∧ s.hif.slot[slot].st = .fetching ∧
      ((List.finRange 16).all (fun i => i == slot || s.hif.slot[i].ring != n || !coming s.hif.slot[i]) = true) ∧ s.hif.slot[slot].ring = n ∧
      (desc.extractLsb' 32 16).toNat = s.get (F.HIF_SQn_GEN_GEN n) ∧ desc.extractLsb' 48 8 = 1 ∧ desc.getLsbD 57 = false ∧ s.hif.sq[n].tags = [] ∧
      s.bit (F.HIF_SQn_CTL_OPCLS n) 0 = true) ∧
    (∃ (s : State) (agent : Agent) (i : Fin 16) (l : List (Fin 16)), slotOn Reg.HIF_TAKE s = true ∧ s.hif.order = i :: l) ∧
    (∃ (s : State) (ticket : Byte) (arg : BitVec 16) (i : Fin 16) (m : Fin 8), slotOn Reg.HIF_ACT s = true ∧ Fresh Reg.HIF_ACT ticket s ∧
      arg.toNat % 16 = i.val ∧ s.hif.slot[i].st = .taken ∧ s.hif.slot[i].orphan = false ∧ s.hif.wait = [] ∧
      s.get (F.HIF_SQn_CTL_CQ s.hif.slot[i].ring) = m.val ∧ cqRoom (Fin.ofNat 10 m.val) s = true ∧ descOp i s = 0x08 ∧ descIrq i s = false) ∧
    (∃ (s : State) (m : Fin 10) (ci : BitVec 16), readDue m s = true ∧ idxDiff (cqPi m s) ci.toNat ≤ cqSize m s ∧ s.hif.wait = []) ∧
    (∃ (s : State) (m : Fin 10) (ci : Option (BitVec 16)), readDue m s = false) ∧
    (∃ (s : State), cqState 8 s = 1 ∧ telAngle s = false ∧ s.get F.HIF_TEL_MODE_PERIOD ≠ 0 ∧ cqRoom 8 s = false) ∧
    (∃ (s : State), cqState 8 s = 1 ∧ telAngle s = false ∧ s.get F.HIF_TEL_MODE_PERIOD ≠ 0 ∧ cqRoom 8 s = true ∧ s.get (F.HIF_OR_CTL_IRQSH 0) ≠ 0 ∧
      s.hif.irqCnt[0] = 0) ∧
    (∃ (s : State), cqRoom 9 s = true ∧ logBehind s ≠ 0 ∧ s.log.copied = false ∧ s.log.skips = 0 ∧ s.mst.bad = [] ∧
      s.get (F.HIF_OR_CTL_IRQSH 1) ≠ 0 ∧ s.hif.irqCnt[1] = 0) ∧
    (∃ (s : State) (kind : Fin 3), kind ≠ 2 ∧ ((List.range 8).all (fun k => mbOwner k s != 2) = true)) ∧
    (∃ (s : State) (speed : Fin 4) (width : Fin 16), (width = 1 ∨ width = 2) ∧ s.pwr.recorded = true ∧ domainOn 56 s = true ∧
      s.on F.SYS_SUPPLY_PHYLOW = false) :=
  ⟨⟨powered.put (F.HIF_SQn_CI0_CI0 2) 7, .host, 2, 0x7F0011, by decide +kernel⟩,
   ⟨ringsUp, .host, 2, 0, by decide +kernel⟩,
   ⟨ringsUp.put (F.HIF_SQn_CTL_PMODE 2) 0, 2, by decide +kernel⟩,
   ⟨ringsUp, 2, 3, by decide +kernel⟩,
   ⟨{ ringsUp with out := { ringsUp.out with msixOn := true } }, 2, 300, by decide +kernel⟩,
   ⟨sqUpd 2 (fun q => { q with pi := 1 }) ringsUp, 2, by decide +kernel⟩,
   ⟨slotUpd 5 (fun x => { x with st := .fetching, ring := 2, ci := 1 }) ringsUp, 5, 2, 0x0001000000001234, by decide +kernel⟩,
   ⟨hifUpd (fun h => { h with order := [5] }) (slotUpd 5 (fun x => { x with st := .handed, ring := 2, ci := 1 }) ringsUp), .trio, 5, [], by decide +kernel⟩,
   ⟨slotUpd 5 (fun x => { x with st := .taken, ring := 2, ci := 1 }) (withDesc [(0, 0x1234), (1, 0x00080000)] (ringsUp.put (F.HIF_SLOTs_RES_RES 5) 99)), 3, 5, 5, 3, by decide +kernel⟩,
   ⟨hifUpd (fun h => { h with cq := updAt h.cq 3 (fun q => { q with readAt := some 0 }) }) { ringsUp.put (F.HIF_CQm_STAT_PI 3) 16 with clk := { ringsUp.clk with ns := 1000 } }, 3, 2, by decide +kernel⟩,
   ⟨ringsUp, 3, (some 2), by decide +kernel⟩,
   ⟨((ringsUp.put (F.HIF_OR_STAT_STATE 0) 1).put F.HIF_TEL_MODE_PERIOD 5).put (F.HIF_OR_STAT_PI 0) 0x8000, by decide +kernel⟩,
   ⟨((ringsUp.put (F.HIF_OR_STAT_STATE 0) 1).put F.HIF_TEL_MODE_PERIOD 5).put (F.HIF_OR_CTL_IRQSH 0) 3, by decide +kernel⟩,
   ⟨((ringsUp.put (F.HIF_OR_STAT_STATE 1) 1).put F.LOG_WIDX_WIDX 5).put (F.HIF_OR_CTL_IRQSH 1) 3, by decide +kernel⟩,
   ⟨ringsUp, 0, by decide +kernel⟩,
   ⟨{ powered with pwr := { powered.pwr with recorded := true } }, 2, 2, by decide +kernel⟩⟩

/-- States and operands that meet the hypotheses of each clause of HostOpcodes. -/
theorem witness_HostOpcodes :
    (∃ (s : State) (slot : Fin 16), descClean slot false false [] s = true ∧ domainOn 0 s = true) ∧
    (∃ (s : State) (slot : Fin 16) (n : Fin 24), descClean slot true true [] s = true ∧ descLen slot s = 4 ∧
      dataWord slot 0 s = BitVec.ofNat 32 (Reg.CUn_MATCHA n) ∧ domainOn 0 s = true) ∧
    (∃ (s : State) (slot : Fin 16) (n : Fin 24), descClean slot true true [] s = true ∧ descLen slot s = 8 ∧
      dataWord slot 0 s = BitVec.ofNat 32 (Reg.CUn_MATCHA n) ∧ domainOn 0 s = true) ∧
    (∃ (s : State) (slot : Fin 16), descClean slot true true [] s = true ∧ descLen slot s = 16 ∧ writable (dataWord slot 0 s).toNat = true ∧
      writable (dataWord slot 2 s).toNat = false) ∧
    (∃ (s : State) (slot : Fin 16), 8192 ≤ descP slot 1 s) ∧
    (∃ (s : State) (slot : Fin 16) (r : Fin 4), descClean slot false false [0, 1] s = true ∧ descP slot 0 s = r.val ∧ descP slot 1 s < 8192 ∧
      railConfigured r s = true) ∧
    (∃ (s : State) (slot : Fin 16) (r : Fin 4), descClean slot false false [0] s = true ∧ descP slot 0 s = r.val ∧ railConfigured r s = true ∧
      eState r s = 0 ∧ s.on (F.EDGEr_CTL_EN r) = false) ∧
    (∃ (s : State) (slot : Fin 16) (r : Fin 4), descClean slot false false [0] s = true ∧ descP slot 0 s = r.val ∧ railConfigured r s = true ∧
      pState r s ≠ pLATCHED) ∧
    (∃ (s : State) (slot : Fin 16) (r : Fin 4), descClean slot false false [0] s = true ∧ descP slot 0 s = r.val ∧ railConfigured r s = true ∧
      pState r s = 3 ∧ stopPresent r s = false) ∧
    (∃ (s : State) (slot : Fin 16) (r : Fin 4), descClean slot false false [0] s = true ∧ descP slot 0 s = r.val ∧ railConfigured r s = true ∧
      pState r s = 3 ∧ stopPresent r s = true) ∧
    (∃ (s : State) (slot : Fin 16), 4 ≤ descP slot 0 s) ∧
    (∃ (s : State) (slot : Fin 16) (m : Fin 4), descClean slot false false [0, 1] s = true ∧ descP slot 0 s = m.val ∧
      slotOn (Reg.MOTm_SPDREF m) s = true) ∧
    (∃ (s : State) (slot : Fin 16), descClean slot false false [0] s = true ∧ descP slot 0 s < 2 ^ 20 ∧ slotOn Reg.HIF_CTL s = true ∧
      cqState 8 s = 0) ∧
    (∃ (s : State) (slot : Fin 16) (k : Fin 5), descClean slot false false [0] s = true ∧ descP slot 0 s = k.val + 1 ∧ s.lop[k].running = false) ∧
    (∃ (s : State) (slot : Fin 16), descClean slot false false [0] s = true ∧ descP slot 0 s = 3 ∧ s.lop[(2 : Fin 5)].running = true ∧
      s.lop[(2 : Fin 5)].host = none) ∧
    (∃ (s : State) (slot : Fin 16), descP slot 0 s = 1 ∧ s.lop[(0 : Fin 5)].running = false ∧ ringArgsOk slot s = true ∧ lopClean 0 slot s = true ∧
      lopFits (some (lopHostOf slot s)) (descP slot 7 s) 16 = true ∧ descAddr slot s % 8 = 0 ∧ mState (Fin.ofNat 4 (descP slot 4 s)) s = mREG ∧
      s.lv (F.PARr_CTL_EN (Fin.ofNat 4 (descP slot 4 s) : Fin 4)) = 0) ∧
    (∃ (s : State), s.lop[(0 : Fin 5)].running = true ∧ s.lop[(0 : Fin 5)].abort = false ∧ s.lop[(0 : Fin 5)].host = none ∧
      s.ring.npts ≤ s.ring.point + 1) :=
  ⟨⟨withDesc [(1, 0x10000)] powered, 5, by decide +kernel⟩,
   ⟨(withDesc [(1, 0x20000), (4, 4)] powered).wr (Reg.HIF_SLOTs_DATAi 5 0) (BitVec.ofNat 32 (Reg.CUn_MATCHA 3)), 5, 3, by decide +kernel⟩,
   ⟨((withDesc [(1, 0x30000), (4, 8)] powered).wr (Reg.HIF_SLOTs_DATAi 5 0) (BitVec.ofNat 32 (Reg.CUn_MATCHA 3))).wr (Reg.HIF_SLOTs_DATAi 5 1) 0x77, 5, 3, by decide +kernel⟩,
   ⟨((withDesc [(1, 0x30000), (4, 16)] powered).wr (Reg.HIF_SLOTs_DATAi 5 0) (BitVec.ofNat 32 (Reg.CUn_MATCHA 3))).wr (Reg.HIF_SLOTs_DATAi 5 1) 0x77, 5, by decide +kernel⟩,
   ⟨withDesc [(1, 0x40000), (6, 8192)] powered, 5, by decide +kernel⟩,
   ⟨withDesc [(1, 0x40000), (5, 1), (6, 1000)] (railUp.put F.PWR_ON0_ON 0xffffffff), 5, 1, by decide +kernel⟩,
   ⟨withDesc [(1, 0x50000), (5, 1)] ((railUp.put (F.EDGEr_CTL_EN 1) 0).put (F.EDGEr_STAT_ST 1) 0), 5, 1, by decide +kernel⟩,
   ⟨withDesc [(1, 0x60000), (5, 1)] railUp, 5, 1, by decide +kernel⟩,
   ⟨withDesc [(1, 0x60000), (5, 1)] (railUp.put (F.PROTr_STAT_PSTATE 1) 3), 5, 1, by decide +kernel⟩,
   ⟨withDesc [(1, 0x60000), (5, 1)] (((railUp.put (F.PROTr_STAT_PSTATE 1) 3).put (F.PROTr_STAT_COND 1) 1).wr (Reg.PROTr_RESP 1) 4), 5, 1, by decide +kernel⟩,
   ⟨withDesc [(1, 0x70000), (5, 4)] powered, 5, by decide +kernel⟩,
   ⟨withDesc [(1, 0x70000), (5, 1), (6, 0x320)] powered, 5, 1, by decide +kernel⟩,
   ⟨withDesc [(1, 0x80000), (5, 100)] powered, 5, by decide +kernel⟩,
   ⟨withDesc [(1, 0x110000), (5, 3)] powered, 5, 2, by decide +kernel⟩,
   ⟨withDesc [(1, 0x110000), (5, 3)] { powered with lop := Vector.replicate 5 { running := true, planned := 4, gen := 7 } }, 5, by decide +kernel⟩,
   ⟨withDesc [(1, 0x100000), (2, 0x1000), (5, 1), (6, 0x2000), (8, 64), (9, 1), (10, 1000), (11, 2000), (12, 2), (13, 100), (14, 0x50001)] (railUp.put F.PWR_ON0_ON 0xffffffff |>.put F.PWR_ON1_ON 0xffffffff), 5, by decide +kernel⟩,
   ⟨{ powered with lop := Vector.replicate 5 { running := true, planned := 4, gen := 7 }, ring := { powered.ring with npts := 3, point := 2 } }, by decide +kernel⟩⟩

/-- States and operands that meet the hypotheses of each clause of MailboxTransfers. -/
theorem witness_MailboxTransfers :
    (∃ (s : State) (agent : Agent) (k : Fin 16), (agent = .host → s.on F.HIF_CTL_LOCK = false) ∧ k.val < 8 ∧ mbFreed k s = 0 ∧ mbOwner k s = 0 ∧
      (agent = .trio ∨ locktoNs s = 0) ∧ (agent = .debug → debugOpen s = true)) ∧
    (∃ (s : State) (agent : Agent) (k : Fin 16), (agent = .host → s.on F.HIF_CTL_LOCK = false) ∧ k.val < 8 ∧ mbFreed k s = 0 ∧ mbOwner k s = 0 ∧
      agent ≠ .trio ∧ locktoNs s ≠ 0 ∧ (agent = .debug → debugOpen s = true)) ∧
    (∃ (s : State) (agent : Agent) (k : Fin 16), (agent = .host → s.on F.HIF_CTL_LOCK = false) ∧ k.val < 8 ∧ mbFreed k s = 0 ∧ mbOwner k s ≠ 0 ∧
      (agent = .debug → debugOpen s = true)) ∧
    (∃ (s : State) (agent : Agent) (k : Fin 16), (agent = .host → s.on F.HIF_CTL_LOCK = false) ∧ k.val < 8 ∧ mbFreed k s ≠ 0 ∧ (agent = .debug →
      debugOpen s = true)) ∧
    (∃ (s : State) (agent : Agent) (k : Fin 16), (agent = .host ∧ s.on F.HIF_CTL_LOCK = true ∨ 8 ≤ k.val) ∧ (agent = .debug → debugOpen s = true)) ∧
    (∃ (s : State) (agent : Agent) (k : Fin 16), (agent = .host → s.on F.HIF_CTL_LOCK = false) ∧ k.val < 8 ∧ mbOwner k s = agent.id ∧
      (agent = .debug → debugOpen s = true)) ∧
    (∃ (s : State) (agent : Agent) (k : Fin 16) (value : Word), (agent = .host → s.on F.HIF_CTL_LOCK = false) ∧ k.val < 8 ∧
      (mbOwner k s ≠ agent.id ∨ value ≠ 0) ∧ (agent = .debug → debugOpen s = true)) ∧
    (∃ (s : State) (k : Fin 8), 2 ≤ mbOwner k s ∧ locktoNs s ≠ 0 ∧ s.mbx.won[k] + locktoNs s ≤ s.clk.ns ∧
      (mapFind s.lim (0x0D0010 + k.val)).getD 0 = 0) ∧
    (∃ (s : State) (k : Fin 8), (mbOwner k s = 1 ∨ mbOwner k s = 0 ∨ locktoNs s = 0 ∨ s.clk.ns < s.mbx.won[k] + locktoNs s)) ∧
    (∃ (s : State) (ticket : Byte) (arg : BitVec 16) (k : Fin 8), Fresh Reg.MBX_ACT ticket s ∧ arg.toNat % 8 = k.val ∧ mbOwner k s ≠ 0 ∧
      (mapFind s.lim (0x0D0010 + k.val)).getD 0 = 0) ∧
    (∃ (s : State) (agent : Agent) (k i : Fin 16) (value : Word), (agent = .host → s.on F.HIF_CTL_LOCK = false) ∧ mbRight agent k s = true ∧
      mbFull k s = false ∧ (agent = .debug → debugOpen s = true)) ∧
    (∃ (s : State) (agent : Agent) (k i : Fin 16) (value : Word), (agent = .host → s.on F.HIF_CTL_LOCK = false) ∧
      (mbRight agent k s = false ∨ mbFull k s = true) ∧ (agent = .debug → debugOpen s = true)) ∧
    (∃ (s : State) (agent : Agent) (k : Fin 16) (ticket : Byte) (arg : BitVec 16), (agent = .host → s.on F.HIF_CTL_LOCK = false) ∧
      (ticket = 0 ∨ ticket ≠ ((mapFind s.mbx.send (8 * k.val + agent.id)).getD 0).extractLsb' 24 8) ∧ mbRight agent k s = true ∧ mbFull k s = false ∧
      s.mbx.took.contains (k.val, aoNow s) = false ∧ (arg.toNat % 32 ≠ 0 ∧ arg.toNat % 32 ≤ 16) ∧ mbDisabled k s = false ∧
      s.on (F.MBk_CFG_NOTIFY k) = false ∧ (mbRecv k s ≠ 4 ∧ mbRecv k s ≠ 5) ∧ NotFired (168 + k.val % 8) s ∧ (agent = .debug → debugOpen s = true)) ∧
    (∃ (s : State) (agent : Agent) (k : Fin 16) (ticket : Byte) (arg : BitVec 16), (agent = .host → s.on F.HIF_CTL_LOCK = false) ∧
      (ticket = 0 ∨ ticket ≠ ((mapFind s.mbx.send (8 * k.val + agent.id)).getD 0).extractLsb' 24 8) ∧ sendReason agent k (arg.toNat % 32) s ≠ 0 ∧
      (mapFind s.lim (0x0D0020 + k.val)).getD 0 = 0 ∧ (agent = .debug → debugOpen s = true)) ∧
    (∃ (s : State) (agent : Agent) (k : Fin 16) (ticket : Byte) (arg : BitVec 16), (agent = .host → s.on F.HIF_CTL_LOCK = false) ∧ ticket ≠ 0 ∧
      ticket = ((mapFind s.mbx.send (8 * k.val + agent.id)).getD 0).extractLsb' 24 8 ∧ (agent = .debug → debugOpen s = true)) ∧
    (∃ (s : State) (agent : Agent) (k : Fin 16), (agent = .host → s.on F.HIF_CTL_LOCK = false) ∧ agent.id = mbRecv k s ∧ mbFull k s = true ∧
      (agent = .debug → debugOpen s = true)) ∧
    (∃ (s : State) (agent : Agent) (k : Fin 16), (agent = .host → s.on F.HIF_CTL_LOCK = false) ∧ (agent.id ≠ mbRecv k s ∨ mbFull k s = false) ∧
      (agent = .debug → debugOpen s = true)) ∧
    (∃ (s : State) (a b : Agent) (k : Fin 16), a.id < b.id ∧ (b = .debug → debugOpen s = true) ∧ (a = .host ∨ b = .host →
      s.on F.HIF_CTL_LOCK = false) ∧ k.val < 8 ∧ mbFreed k s = 0 ∧ mbOwner k s = 0) ∧
    (∃ (s : State) (agent : Agent) (k : Fin 16), (agent = .debug ∧ debugOpen s = false)) :=
  ⟨⟨State.reset, .trio, 3, by decide +kernel⟩,
   ⟨State.reset, .usb, 3, by decide +kernel⟩,
   ⟨State.reset.put (F.MBk_STAT_OWNER 3) 4, .usb, 3, by decide +kernel⟩,
   ⟨{ State.reset with mbx := { State.reset.mbx with freed := [(3, 4, 0)] } }, .usb, 3, by decide +kernel⟩,
   ⟨State.reset.put F.HIF_CTL_LOCK 1, .host, 3, by decide +kernel⟩,
   ⟨State.reset.put (F.MBk_STAT_OWNER 3) 4, .tw0, 3, by decide +kernel⟩,
   ⟨State.reset.put (F.MBk_STAT_OWNER 3) 4, .usb, 3, 0, by decide +kernel⟩,
   ⟨{ State.reset.put (F.MBk_STAT_OWNER 3) 4 with clk := { State.reset.clk with ns := 10000000 } }, 3, by decide +kernel⟩,
   ⟨State.reset.put (F.MBk_STAT_OWNER 3) 1, 3, by decide +kernel⟩,
   ⟨State.reset.put (F.MBk_STAT_OWNER 3) 4, 5, 0x13, 3, by decide +kernel⟩,
   ⟨State.reset.put (F.MBk_STAT_OWNER 3) 4, .tw0, 3, 15, 0x12345678, by decide +kernel⟩,
   ⟨State.reset.put (F.MBk_STAT_OWNER 3) 4, .usb, 3, 15, 0x12345678, by decide +kernel⟩,
   ⟨(State.reset.put (F.MBk_STAT_OWNER 3) 4).put (F.MBk_CFG_RECV 3) 1, .tw0, 3, 9, 0x2704, by decide +kernel⟩,
   ⟨(State.reset.put (F.MBk_STAT_OWNER 3) 4).put (F.MBk_CFG_RECV 3) 1, .tw0, 3, 9, 0x2711, by decide +kernel⟩,
   ⟨{ State.reset with mbx := { State.reset.mbx with send := [(28, 0x09270401)] } }, .tw0, 3, 9, 0x2704, by decide +kernel⟩,
   ⟨(((State.reset.put (F.MBk_STAT_FULL 3) 1).put (F.MBk_STAT_LEN 3) 16).put (F.MBk_STAT_SENDER 3) 4).put (F.MBk_CFG_RECV 3) 1, .trio, 3, by decide +kernel⟩,
   ⟨(State.reset.put (F.MBk_STAT_FULL 3) 1).put (F.MBk_CFG_RECV 3) 1, .usb, 3, by decide +kernel⟩,
   ⟨State.reset, .host, .usb, 3, by decide +kernel⟩,
   ⟨State.reset.put F.LCS_STAT_STATE 4, .debug, 3, by decide +kernel⟩⟩

/-- States and operands that meet the hypotheses of each clause of PmbusReads. -/
theorem witness_PmbusReads :
    (∃ (s : State) (r : Fin 4), Target 0 2 s ∧ twPage 0 s = r.val) ∧
    (∃ (s : State) (r : Fin 4), Target 0 2 s ∧ twPage 0 s = r.val) ∧
    (∃ (s : State) (r : Fin 4), Target 0 2 s ∧ twPage 0 s = r.val) ∧
    (∃ (s : State) (r : Fin 4), Target 0 2 s ∧ twPage 0 s = r.val) ∧
    (∃ (s : State) (r : Fin 4), Target 0 2 s ∧ twPage 0 s = r.val) ∧
    (∃ (s : State) (r : Fin 4), Target 0 2 s ∧ twPage 0 s = r.val) ∧
    (∃ (s : State) (r : Fin 4), Target 0 2 s ∧ twPage 0 s = r.val) ∧
    (∃ (s : State) (r : Fin 4), Target 0 2 s ∧ twPage 0 s = r.val) ∧
    (∃ (s : State) (r : Fin 4), Target 0 2 s ∧ twPage 0 s = r.val) ∧
    (∃ (s : State) (r : Fin 4), Target 0 2 s ∧ twPage 0 s = r.val) ∧
    (∃ (s : State) (r : Fin 4), Target 0 2 s ∧ twPage 0 s = r.val) ∧
    (∃ (s : State) (r : Fin 4), Target 0 2 s ∧ twPage 0 s = r.val) ∧
    (∃ (s : State) (r : Fin 4), Target 0 2 s ∧ twPage 0 s = r.val) ∧
    (∃ (s : State) (r : Fin 4), Target 0 2 s ∧ twPage 0 s = r.val ∧ s.get (F.PROTr_TSCL_SLOPE r) ≠ 0) ∧
    (∃ (s : State), Target 0 2 s) ∧
    (∃ (s : State), Target 0 2 s) ∧
    (∃ (s : State), Target 0 2 s ∧ s.gath.ain[(5 : Fin 32)] = none) ∧
    (∃ (s : State) (code : BitVec 16), Target 0 2 s ∧ s.gath.ain[(5 : Fin 32)] = some code) ∧
    (∃ (s : State) (c : Instr) (code len : Nat), Target 0 2 s ∧ twPage 0 s = 0xFF ∧
      (c, code, len) ∈ [(Instr.operation 0 .read, 0x01, 1), (Instr.voutCommand 0 .read, 0x21, 2), (Instr.voutMax 0 .read, 0x24, 2), (Instr.voutMin 0 .read, 0x2B, 2), (Instr.statusVout 0 .read, 0x7A, 1), (Instr.statusIout 0 .read, 0x7B, 1), (Instr.statusInput 0 .read, 0x7C, 1), (Instr.statusTemperature 0 .read, 0x7D, 1), (Instr.statusMfrSpecific 0 .read, 0x80, 1), (Instr.readVout 0 .read, 0x8B, 2), (Instr.readIout 0 .read, 0x8C, 2), (Instr.statusWord 0 .read, 0x79, 2), (Instr.statusByte 0 .read, 0x78, 1), (Instr.readTemperature1 0 .read, 0x8D, 2)]) ∧
    (∃ (s : State) (n : Fin 2) (c : Instr) (code : Nat) (d : List Byte), Target n 2 s ∧
      (c, code, d) ∈ [(Instr.page n .read, 0x00, [b8 (twPage n s)]), (Instr.capability n .read, 0x19, [0xC4]), (Instr.voutMode n .read, 0x20, [0x40]), (Instr.pmbusRevision n .read, 0x98, [0x33]), (Instr.mfrId n .read, 0x99, [4, 0x50, 0x4E, 0x54, 0x48]), (Instr.mfrModel n .read, 0x9A, [6, 0x4B, 0x54, 0x39, 0x36, 0x34, 0x30]), (Instr.mfrRevision n .read, 0x9B, [2, 0x42, 0x31])]) ∧
    (∃ (s : State) (n : Fin 2) (code : Byte), Target n 2 s ∧ code ∈ [0x21, 0x24, 0x2B, 0x8B]) ∧
    (∃ (s : State) (n : Fin 2) (code dir : Byte), Target n 2 s ∧ (code ∉ ([0x21, 0x24, 0x2B, 0x8B] : List Byte) ∨ dir ≠ 1)) ∧
    (∃ (s : State) (n : Fin 2) (c : Instr) (code : Nat) (i : Fin 32), Target n 2 s ∧ n = 1 ∧
      (c, code) ∈ [(Instr.operation 1 .read, 0x01), (Instr.voutCommand 1 .read, 0x21), (Instr.voutMax 1 .read, 0x24), (Instr.voutMin 1 .read, 0x2B), (Instr.statusVout 1 .read, 0x7A), (Instr.statusIout 1 .read, 0x7B), (Instr.statusInput 1 .read, 0x7C), (Instr.statusTemperature 1 .read, 0x7D), (Instr.statusMfrSpecific 1 .read, 0x80), (Instr.readVout 1 .read, 0x8B), (Instr.readIout 1 .read, 0x8C), (Instr.statusWord 1 .read, 0x79), (Instr.statusByte 1 .read, 0x78), (Instr.readTemperature1 1 .read, 0x8D), (Instr.statusCml 1 .read, 0x7E), (Instr.readVin 1 .read, 0x88), (Instr.readTemperature2 1 .read, 0x8E)] ∧
      ((List.range i.val).all (fun j => !tableHit n code s j) = true) ∧ tableHit n code s i.val = true) ∧
    (∃ (s : State) (n : Fin 2) (c : Instr) (code : Nat) (i : Fin 32), Target n 1 s ∧
      (c, code) ∈ [(Instr.operation n .read, 0x01), (Instr.voutCommand n .read, 0x21), (Instr.voutMax n .read, 0x24), (Instr.voutMin n .read, 0x2B), (Instr.statusVout n .read, 0x7A), (Instr.statusIout n .read, 0x7B), (Instr.statusInput n .read, 0x7C), (Instr.statusTemperature n .read, 0x7D), (Instr.statusMfrSpecific n .read, 0x80), (Instr.readVout n .read, 0x8B), (Instr.readIout n .read, 0x8C), (Instr.statusWord n .read, 0x79), (Instr.statusByte n .read, 0x78), (Instr.readTemperature1 n .read, 0x8D), (Instr.statusCml n .read, 0x7E), (Instr.readVin n .read, 0x88), (Instr.readTemperature2 n .read, 0x8E), (Instr.page n .read, 0x00), (Instr.capability n .read, 0x19), (Instr.voutMode n .read, 0x20), (Instr.pmbusRevision n .read, 0x98), (Instr.mfrId n .read, 0x99), (Instr.mfrModel n .read, 0x9A), (Instr.mfrRevision n .read, 0x9B)] ∧
      ((List.range i.val).all (fun j => !tableHit n code s j) = true) ∧ tableHit n code s i.val = true) ∧
    (∃ (s : State) (n : Fin 2) (cmd : Byte) (code : Nat) (i : Fin 32), (Target n 1 s ∨ Target n 2 s) ∧ cmd.toNat = code ∧
      ((List.range i.val).all (fun j => !tableHit n code s j) = true) ∧ tableHit n code s i.val = true) ∧
    (∃ (s : State) (n : Fin 2) (i : Fin 32), (Target n 1 s ∨ Target n 2 s) ∧
      ((List.range i.val).all (fun j => !tableHit n s.tw[n].cmd s j) = true) ∧ tableHit n s.tw[n].cmd s i.val = true) ∧
    (∃ (s : State) (n : Fin 2) (cmd : Byte), (Target n 1 s ∨ Target n 2 s) ∧ ((List.range 32).all (fun j => !tableHit n cmd.toNat s j) = true)) ∧
    (∃ (s : State) (n : Fin 2) (cmd : Byte), (Target n 1 s ∨ Target n 2 s)) ∧
    (∃ (s : State) (n : Fin 2) (c : Instr) (d : List Byte), Target n 2 s ∧
      c ∈ [.capability n (.write d), .voutMode n (.write d), .statusByte n (.write d), .statusWord n (.write d), .statusVout n (.write d), .statusIout n (.write d), .statusInput n (.write d), .statusTemperature n (.write d), .statusCml n (.write d), .statusMfrSpecific n (.write d), .readVin n (.write d), .readVout n (.write d), .readIout n (.write d), .readTemperature1 n (.write d), .readTemperature2 n (.write d), .pmbusRevision n (.write d), .mfrId n (.write d), .mfrModel n (.write d), .mfrRevision n (.write d)]) :=
  ⟨⟨((twUpd 0 (fun p => { p with pers := 2, addr := 0x5A }) powered).put (F.TWn_PAGE_PAGE 0) 2).put (F.PROTr_FLAG_DECL 2) 0x3FF, 2, by decide +kernel⟩,
   ⟨((twUpd 0 (fun p => { p with pers := 2, addr := 0x5A }) powered).put (F.TWn_PAGE_PAGE 0) 2).put (F.PROTr_FLAG_DECL 2) 0x3FF, 2, by decide +kernel⟩,
   ⟨((twUpd 0 (fun p => { p with pers := 2, addr := 0x5A }) powered).put (F.TWn_PAGE_PAGE 0) 2).put (F.PROTr_FLAG_DECL 2) 0x3FF, 2, by decide +kernel⟩,
   ⟨((twUpd 0 (fun p => { p with pers := 2, addr := 0x5A }) powered).put (F.TWn_PAGE_PAGE 0) 2).put (F.PROTr_FLAG_DECL 2) 0x3FF, 2, by decide +kernel⟩,
   ⟨((twUpd 0 (fun p => { p with pers := 2, addr := 0x5A }) powered).put (F.TWn_PAGE_PAGE 0) 2).put (F.PROTr_FLAG_DECL 2) 0x3FF, 2, by decide +kernel⟩,
   ⟨((twUpd 0 (fun p => { p with pers := 2, addr := 0x5A }) powered).put (F.TWn_PAGE_PAGE 0) 2).put (F.PROTr_FLAG_DECL 2) 0x3FF, 2, by decide +kernel⟩,
   ⟨((twUpd 0 (fun p => { p with pers := 2, addr := 0x5A }) powered).put (F.TWn_PAGE_PAGE 0) 2).put (F.PROTr_FLAG_DECL 2) 0x3FF, 2, by decide +kernel⟩,
   ⟨((twUpd 0 (fun p => { p with pers := 2, addr := 0x5A }) powered).put (F.TWn_PAGE_PAGE 0) 2).put (F.PROTr_FLAG_DECL 2) 0x3FF, 2, by decide +kernel⟩,
   ⟨((twUpd 0 (fun p => { p with pers := 2, addr := 0x5A }) powered).put (F.TWn_PAGE_PAGE 0) 2).put (F.PROTr_FLAG_DECL 2) 0x3FF, 2, by decide +kernel⟩,
   ⟨((twUpd 0 (fun p => { p with pers := 2, addr := 0x5A }) powered).put (F.TWn_PAGE_PAGE 0) 2).put (F.PROTr_FLAG_DECL 2) 0x3FF, 2, by decide +kernel⟩,
   ⟨((twUpd 0 (fun p => { p with pers := 2, addr := 0x5A }) powered).put (F.TWn_PAGE_PAGE 0) 2).put (F.PROTr_FLAG_DECL 2) 0x3FF, 2, by decide +kernel⟩,
   ⟨((twUpd 0 (fun p => { p with pers := 2, addr := 0x5A }) powered).put (F.TWn_PAGE_PAGE 0) 2).put (F.PROTr_FLAG_DECL 2) 0x12, 2, by decide +kernel⟩,
   ⟨((twUpd 0 (fun p => { p with pers := 2, addr := 0x5A }) powered).put (F.TWn_PAGE_PAGE 0) 2).put (F.PROTr_FLAG_DECL 2) 0x12, 2, by decide +kernel⟩,
   ⟨((twUpd 0 (fun p => { p with pers := 2, addr := 0x5A }) powered).put (F.TWn_PAGE_PAGE 0) 2), 2, by decide +kernel⟩,
   ⟨(twUpd 0 (fun p => { p with pers := 2, addr := 0x5A }) powered).put (F.TWn_CML_CML 0) 0xA2, by decide +kernel⟩,
   ⟨twUpd 0 (fun p => { p with pers := 2, addr := 0x5A }) powered, by decide +kernel⟩,
   ⟨twUpd 0 (fun p => { p with pers := 2, addr := 0x5A }) powered, by decide +kernel⟩,
   ⟨(let p := twUpd 0 (fun p => { p with pers := 2, addr := 0x5A }) powered; { p with gath := { p.gath with ain := p.gath.ain.set 5 (some 38163) } }), 38163, by decide +kernel⟩,
   ⟨(twUpd 0 (fun p => { p with pers := 2, addr := 0x5A }) powered).put (F.TWn_PAGE_PAGE 0) 0xFF, (.readVout 0 .read), 0x8B, 2, by decide +kernel⟩,
   ⟨twUpd 1 (fun p => { p with pers := 2, addr := 0x5A }) powered, 1, (.mfrId 1 .read), 0x99, ([4, 0x50, 0x4E, 0x54, 0x48]), by decide +kernel⟩,
   ⟨twUpd 0 (fun p => { p with pers := 2, addr := 0x5A }) powered, 0, 0x2B, by decide +kernel⟩,
   ⟨twUpd 0 (fun p => { p with pers := 2, addr := 0x5A }) powered, 0, 0x8C, 1, by decide +kernel⟩,
   ⟨(((twUpd 1 (fun p => { p with pers := 2, addr := 0x5A }) powered).wr (Reg.TWn_RSPCi 1 2) 0xE0030079).wr (Reg.TWn_RSPDi 1 2) 0x44332211), 1, (.statusWord 1 .read), 0x79, 2, by decide +kernel⟩,
   ⟨(((twUpd 1 (fun p => { p with pers := 1, addr := 0x5A }) powered).wr (Reg.TWn_RSPCi 1 2) 0xE0030099).wr (Reg.TWn_RSPDi 1 2) 0x44332211), 1, (.mfrId 1 .read), 0x99, 2, by decide +kernel⟩,
   ⟨(((twUpd 1 (fun p => { p with pers := 1, addr := 0x5A }) powered).wr (Reg.TWn_RSPCi 1 2) 0xA0030055).wr (Reg.TWn_RSPDi 1 2) 0x44332211), 1, 0x55, 0x55, 2, by decide +kernel⟩,
   ⟨(((twUpd 1 (fun p => { p with pers := 1, addr := 0x5A, cmd := 0x55 }) powered).wr (Reg.TWn_RSPCi 1 2) 0xA0030055).wr (Reg.TWn_RSPDi 1 2) 0x44332211), 1, 2, by decide +kernel⟩,
   ⟨twUpd 1 (fun p => { p with pers := 1, addr := 0x5A }) powered, 1, 0x55, by decide +kernel⟩,
   ⟨twUpd 1 (fun p => { p with pers := 2, addr := 0x5A }) powered, 1, 0x55, by decide +kernel⟩,
   ⟨twUpd 1 (fun p => { p with pers := 2, addr := 0x5A }) powered, 1, (.readVin 1 (.write [3])), [3], by decide +kernel⟩⟩

/-- States and operands that meet the hypotheses of each clause of PmbusWrites. -/
theorem witness_PmbusWrites :
    (∃ (s : State) (n : Fin 2) (p : Byte), Target n 2 s ∧ (p.toNat ≤ 3 ∨ p = 0xFF) ∧ s.on (F.TWn_CTL_PECREQ n) = false) ∧
    (∃ (s : State) (n : Fin 2) (p : Byte), Target n 2 s ∧ (p.toNat ≤ 3 ∨ p = 0xFF)) ∧
    (∃ (s : State) (n : Fin 2) (p : Byte), Target n 2 s ∧ 3 < p.toNat ∧ p ≠ 0xFF) ∧
    (∃ (s : State) (n : Fin 2) (p e : Byte), Target n 2 s ∧ (p.toNat ≤ 3 ∨ p = 0xFF) ∧ e ≠ pec [b8 (2 * s.tw[n].addr), 0, p] ∧
      (mapFind s.lim (0x0E0020 + n.val)).getD 0 = 0) ∧
    (∃ (s : State) (n : Fin 2) (b : Byte), Target n 2 s ∧ (b = 0x80 ∨ b = 0) ∧ s.tw[n].q.length + s.tw[n].popped.length < 16 ∧
      s.on (F.TWn_CTL_PECREQ n) = false ∧ NotFired (180 + n.val) s) ∧
    (∃ (s : State) (n : Fin 2) (c : Instr) (code : Nat) (lo hi : Byte), Target n 2 s ∧
      (c, code) ∈ [(Instr.voutCommand n (.write [lo, hi]), 0x21), (.voutMax n (.write [lo, hi]), 0x24), (.voutMin n (.write [lo, hi]), 0x2B)] ∧
      500 ≤ lo.toNat + 256 * hi.toNat ∧ lo.toNat + 256 * hi.toNat ≤ 5000 ∧ s.tw[n].q.length + s.tw[n].popped.length < 16 ∧
      s.on (F.TWn_CTL_PECREQ n) = false ∧ NotFired (180 + n.val) s) ∧
    (∃ (s : State) (n : Fin 2) (c : Instr) (code : Nat) (lo hi : Byte), Target n 2 s ∧
      (c, code) ∈ [(Instr.voutCommand n (.write [lo, hi, pec [b8 (2 * s.tw[n].addr), 0x21, lo, hi]]), 0x21), (.voutMax n (.write [lo, hi, pec [b8 (2 * s.tw[n].addr), 0x24, lo, hi]]), 0x24), (.voutMin n (.write [lo, hi, pec [b8 (2 * s.tw[n].addr), 0x2B, lo, hi]]), 0x2B)] ∧
      500 ≤ lo.toNat + 256 * hi.toNat ∧ lo.toNat + 256 * hi.toNat ≤ 5000 ∧ s.tw[n].q.length + s.tw[n].popped.length < 16 ∧ NotFired (180 + n.val) s) ∧
    (∃ (s : State) (n : Fin 2) (c : Instr) (lo hi : Byte), Target n 2 s ∧
      c ∈ [.voutCommand n (.write [lo, hi]), .voutMax n (.write [lo, hi]), .voutMin n (.write [lo, hi])] ∧
      (lo.toNat + 256 * hi.toNat < 500 ∨ 5000 < lo.toNat + 256 * hi.toNat) ∧ s.tw[n].q.length + s.tw[n].popped.length < 16) ∧
    (∃ (s : State) (n : Fin 2), Target n 2 s ∧ s.tw[n].q.length + s.tw[n].popped.length < 16 ∧ s.on (F.TWn_CTL_PECREQ n) = false ∧
      NotFired (180 + n.val) s) ∧
    (∃ (s : State) (n : Fin 2), Target n 2 s ∧ s.tw[n].q.length + s.tw[n].popped.length < 16 ∧ s.on (F.TWn_CTL_PECREQ n) = false ∧
      NotFired (180 + n.val) s) ∧
    (∃ (s : State) (n : Fin 2) (c : Instr) (code : Nat) (d : List Byte), Target n 2 s ∧ 16 ≤ s.tw[n].q.length ∧
      (c, code) ∈ [(Instr.operation n (.write d), 0x01), (.clearFaults n (.write d), 0x03), (.voutCommand n (.write d), 0x21), (.voutMax n (.write d), 0x24), (.voutMin n (.write d), 0x2B), (.mfrClear n (.write d), 0xD8)] ∧
      (d.take 1 = [0x80] ∨ d.take 1 = [0] ∨ d ≠ [] ∧ code ≠ 0x01 ∨ code = 0x03 ∨ code = 0xD8) ∧ (mapFind s.lim (0x0E0030 + n.val)).getD 0 = 0) ∧
    (∃ (s : State) (n : Fin 2), (Target n 1 s ∨ Target n 2 s)) ∧
    (∃ (s : State) (n : Fin 2) (k : Byte), (Target n 1 s ∨ Target n 2 s) ∧ s.on (F.TWn_CTL_PECREQ n) = false ∧ k.toNat ≤ 15) ∧
    (∃ (s : State) (n : Fin 2) (k : Byte), (Target n 1 s ∨ Target n 2 s) ∧ 15 < k.toNat) ∧
    (∃ (s : State) (n : Fin 2), (Target n 1 s ∨ Target n 2 s) ∧ twMbx n s < 8 ∧ mbOwner (twMbx n s) s = 0 ∧ mbFreed (twMbx n s) s = 0 ∧
      locktoNs s ≠ 0) ∧
    (∃ (s : State) (n : Fin 2), (Target n 1 s ∨ Target n 2 s) ∧ twMbx n s < 8 ∧ mbOwner (twMbx n s) s ≠ 0 ∧ mbFreed (twMbx n s) s = 0) ∧
    (∃ (s : State) (n : Fin 2), (Target n 1 s ∨ Target n 2 s) ∧ s.on (F.TWn_CTL_PECREQ n) = false ∧ twMbx n s < 8 ∧
      mbOwner (twMbx n s) s = 4 + n.val) ∧
    (∃ (s : State) (n : Fin 2) (a b c d : Byte), (Target n 1 s ∨ Target n 2 s) ∧ s.on (F.TWn_CTL_PECREQ n) = false ∧
      mbRight (twAgent n) (twMbx n s) s = true ∧ mbFull (twMbx n s) s = false) ∧
    (∃ (s : State) (n : Fin 2) (m : Byte) (d : List Byte), (Target n 1 s ∨ Target n 2 s) ∧ (m.toNat < 4 ∨ 64 < m.toNat ∨ m.toNat % 4 ≠ 0)) ∧
    (∃ (s : State) (n : Fin 2), (Target n 1 s ∨ Target n 2 s) ∧ mbRecv (twMbx n s) s = 4 + n.val ∧ 1 ≤ s.get (F.MBk_STAT_LEN (twMbx n s)) ∧
      s.get (F.MBk_STAT_LEN (twMbx n s)) ≤ 16) ∧
    (∃ (s : State) (n : Fin 2) (l k : Byte), (Target n 1 s ∨ Target n 2 s) ∧ s.on (F.TWn_CTL_PECREQ n) = false ∧
      (k = 0 ∨ k ≠ ((mapFind s.mbx.send (8 * twMbx n s + (4 + n.val))).getD 0).extractLsb' 24 8) ∧ mbRight (twAgent n) (twMbx n s) s = true ∧
      mbFull (twMbx n s) s = false ∧ s.mbx.took.contains (twMbx n s, aoNow s) = false ∧ (l.toNat % 32 ≠ 0 ∧ l.toNat % 32 ≤ 16) ∧
      mbRecv (twMbx n s) s = 1 ∧ s.on (F.MBk_CFG_NOTIFY (twMbx n s)) = false ∧ NotFired (168 + twMbx n s % 8) s) ∧
    (∃ (s : State) (n : Fin 2), (Target n 1 s ∨ Target n 2 s) ∧ mbRecv (twMbx n s) s = 4 + n.val ∧ mbFull (twMbx n s) s = true) ∧
    (∃ (s : State) (n : Fin 2), (Target n 1 s ∨ Target n 2 s) ∧ s.touched (Reg.TWn_ATTN n) = none) ∧
    (∃ (s : State) (n : Fin 2), (Target n 1 s ∨ Target n 2 s)) :=
  ⟨⟨twUpd 1 (fun p => { p with pers := 2, addr := 0x5A }) powered, 1, 0xFF, by decide +kernel⟩,
   ⟨twUpd 1 (fun p => { p with pers := 2, addr := 0x5A }) powered, 1, 3, by decide +kernel⟩,
   ⟨twUpd 1 (fun p => { p with pers := 2, addr := 0x5A }) powered, 1, 4, by decide +kernel⟩,
   ⟨twUpd 1 (fun p => { p with pers := 2, addr := 0x5A }) powered, 1, 2, 0, by decide +kernel⟩,
   ⟨twUpd 1 (fun p => { p with pers := 2, addr := 0x5A }) powered, 1, 0x80, by decide +kernel⟩,
   ⟨(twUpd 1 (fun p => { p with pers := 2, addr := 0x5A }) powered).put (F.TWn_PAGE_PAGE 1) 3, 1, (.voutMax 1 (.write [0x88, 0x13])), 0x24, 0x88, 0x13, by decide +kernel⟩,
   ⟨(twUpd 1 (fun p => { p with pers := 2, addr := 0x5A }) powered).put (F.TWn_PAGE_PAGE 1) 0xFF, 1, (.voutMin 1 (.write [0xF4, 0x01, pec [0xB4, 0x2B, 0xF4, 0x01]])), 0x2B, 0xF4, 0x01, by decide +kernel⟩,
   ⟨twUpd 1 (fun p => { p with pers := 2, addr := 0x5A }) powered, 1, (.voutCommand 1 (.write [0x89, 0x13])), 0x89, 0x13, by decide +kernel⟩,
   ⟨(twUpd 1 (fun p => { p with pers := 2, addr := 0x5A }) powered).put (F.TWn_CML_CML 1) 0xA2, 1, by decide +kernel⟩,
   ⟨twUpd 1 (fun p => { p with pers := 2, addr := 0x5A }) powered, 1, by decide +kernel⟩,
   ⟨twUpd 1 (fun p => { p with q := List.replicate 16 5 }) (twUpd 1 (fun p => { p with pers := 2, addr := 0x5A }) powered), 1, (.operation 1 (.write [0x80])), 1, [0x80], by decide +kernel⟩,
   ⟨(twUpd 1 (fun p => { p with pers := 2, addr := 0x5A }) powered).put (F.TWn_PAGE_MBXSEL 1) 9, 1, by decide +kernel⟩,
   ⟨twUpd 1 (fun p => { p with pers := 1, addr := 0x5A }) powered, 1, 15, by decide +kernel⟩,
   ⟨twUpd 1 (fun p => { p with pers := 1, addr := 0x5A }) powered, 1, 16, by decide +kernel⟩,
   ⟨(twUpd 1 (fun p => { p with pers := 2, addr := 0x5A }) powered).put (F.TWn_PAGE_MBXSEL 1) 7, 1, by decide +kernel⟩,
   ⟨((twUpd 1 (fun p => { p with pers := 2, addr := 0x5A }) powered).put (F.TWn_PAGE_MBXSEL 1) 7).put (F.MBk_STAT_OWNER 7) 5, 1, by decide +kernel⟩,
   ⟨((twUpd 1 (fun p => { p with pers := 2, addr := 0x5A }) powered).put (F.TWn_PAGE_MBXSEL 1) 7).put (F.MBk_STAT_OWNER 7) 5, 1, by decide +kernel⟩,
   ⟨((twUpd 1 (fun p => { p with pers := 2, addr := 0x5A }) powered).put (F.TWn_PAGE_MBXSEL 1) 7).put (F.MBk_STAT_OWNER 7) 5, 1, 1, 2, 3, 4, by decide +kernel⟩,
   ⟨twUpd 0 (fun p => { p with pers := 2, addr := 0x5A }) powered, 0, 68, [1], by decide +kernel⟩,
   ⟨((twUpd 1 (fun p => { p with pers := 2, addr := 0x5A }) powered).put (F.TWn_PAGE_MBXSEL 1) 11).put (F.MBk_STAT_LEN 11) 16 |>.put (F.MBk_CFG_RECV 11) 5, 1, by decide +kernel⟩,
   ⟨(((twUpd 1 (fun p => { p with pers := 2, addr := 0x5A }) powered).put (F.TWn_PAGE_MBXSEL 1) 7).put (F.MBk_STAT_OWNER 7) 5).put (F.MBk_CFG_RECV 7) 1, 1, 16, 9, by decide +kernel⟩,
   ⟨(((twUpd 1 (fun p => { p with pers := 2, addr := 0x5A }) powered).put (F.TWn_PAGE_MBXSEL 1) 11).put (F.MBk_STAT_FULL 11) 1 |>.put (F.MBk_STAT_LEN 11) 16).put (F.MBk_CFG_RECV 11) 5, 1, by decide +kernel⟩,
   ⟨(twUpd 1 (fun p => { p with pers := 2, addr := 0x5A }) powered).wr (Reg.TWn_ATTN 1) 0x31, 1, by decide +kernel⟩,
   ⟨twUpd 1 (fun p => { p with pers := 2, addr := 0x5A }) powered, 1, by decide +kernel⟩⟩

/-- States and operands that meet the hypotheses of each clause of TwoWirePorts. -/
theorem witness_TwoWirePorts :
    (∃ (s : State) (n : Fin 2) (p : Byte), (twHears n s = false ∨ s.tw[n].pers ≠ 3)) ∧
    (∃ (s : State) (n : Fin 2) (w : Word) (l : List Word), twOn s = true ∧ s.tw[n].q = w :: l) ∧
    (∃ (s : State) (n : Fin 2) (agent : Agent), twOn s = true ∧ s.tw[n].q = []) ∧
    (∃ (s : State) (n : Fin 2) (p : Byte), Target n 3 s) ∧
    (∃ (s : State) (n : Fin 2) (p b : Byte), Target n 3 s ∧ s.tw[n].q.length + s.tw[n].popped.length < 16 ∧ NotFired (180 + n.val) s) ∧
    (∃ (s : State) (n : Fin 2), Target n 3 s) ∧
    (∃ (s : State) (ticket : Byte) (arg : BitVec 16) (n : Fin 2), slotOn Reg.TW_ACT s = true ∧ Fresh Reg.TW_ACT ticket s ∧ arg.toNat % 2 = n.val ∧
      s.tw[n].pers = 4 ∧ s.tw[n].busy = false) ∧
    (∃ (s : State) (ticket : Byte) (arg : BitVec 16) (n : Fin 2), slotOn Reg.TW_ACT s = true ∧ Fresh Reg.TW_ACT ticket s ∧ arg.toNat % 2 = n.val ∧
      s.tw[n].busy = true) ∧
    (∃ (s : State) (n : Fin 2) (outcome : Fin 3) (rx : List Byte), s.tw[n].busy = true ∧ outcome ≠ 0 ∧ NotFired (180 + n.val) s) ∧
    (∃ (s : State) (n : Fin 2) (rx : List Byte) (e : Byte), s.tw[n].busy = true ∧ fldOf (F.TWn_MCMD_RLEN n) s.tw[n].mcmd = rx.length ∧
      1 ≤ rx.length ∧ rx.length ≤ 32 ∧ fldOf (F.TWn_MCMD_PEC n) s.tw[n].mcmd = 1 ∧ NotFired (180 + n.val) s) ∧
    (∃ (s : State) (n : Fin 2), s.tw[n].busy = true ∧ NotFired (180 + n.val) s ∧ twStill n (strtoNs n s) s = true ∧
      (∀ k : Fin 8, mbOwner k.val s ≠ 4 + n.val)) ∧
    (∃ (s : State) (n : Fin 2) (p : Nat), twOn s = true ∧ s.tw[n].pers = p ∧ p ∈ [pSMBUS, pPMBUS, pPOINTER] ∧ twStill n (ttmoNs n s) s = true ∧
      (∀ k : Fin 8, mbOwner k.val s ≠ 4 + n.val)) ∧
    (∃ (s : State) (n : Fin 2) (p : Nat) (k : Fin 8), twOn s = true ∧ s.tw[n].pers = p ∧ p ∈ [pSMBUS, pPMBUS, pPOINTER] ∧
      twStill n (ttmoNs n s) s = true ∧ mbOwner k.val s = 4 + n.val) ∧
    (∃ (s : State) (ticket : Byte) (arg : BitVec 16) (n : Fin 2), slotOn Reg.TW_ACT s = true ∧ Fresh Reg.TW_ACT ticket s ∧ arg.toNat % 2 = n.val ∧
      s.tw[n].pers ∈ [pSMBUS, pPMBUS, pPOINTER, pCONTROLLER] ∧ (∀ k : Fin 8, mbOwner k.val s ≠ 4 + n.val)) ∧
    (∃ (s : State) (ticket : Byte) (arg : BitVec 16) (n : Fin 2), slotOn Reg.TW_ACT s = true ∧ Fresh Reg.TW_ACT ticket s ∧ arg.toNat % 2 = n.val) ∧
    (∃ (s : State) (n : Fin 2), twOn s = true ∧ (1 ≤ s.tw[n].pers ∧ s.tw[n].pers ≤ 3) ∧ s.get (F.TWn_CTL_ATTNMODE n) = 1 ∧
      s.get (F.TWn_ATTN_CAUSE n) &&& s.get (F.TWn_ATTNEN_EN n) ≠ 0 ∧ idleLeft n s = 0) ∧
    (∃ (s : State) (n : Fin 2), s.clk.ns < s.tw[n].sdaUntil) ∧
    (∃ (s : State) (n : Fin 2), twTarget n s = true ∧ s.tw[n].notify = true ∧ s.get (F.TWn_CTL_ATTNMODE n) = 2) ∧
    (∃ (s : State) (n : Fin 2), twTarget n s = true ∧ s.tw[n].notify = true ∧ s.get (F.TWn_CTL_ATTNMODE n) = 2 ∧
      s.tw[n].tries < s.get (F.TWn_MCMD_HNRETRY n)) ∧
    (∃ (s : State) (n : Fin 2), twTarget n s = true ∧ s.tw[n].notify = true ∧ s.get (F.TWn_CTL_ATTNMODE n) = 2 ∧
      s.get (F.TWn_MCMD_HNRETRY n) ≤ s.tw[n].tries) ∧
    (∃ (s : State) (n : Fin 2) (ib : Bool) (addr : Byte) (data : BitVec 16), Target n 4 s ∧ NotFired (180 + n.val) s) ∧
    (∃ (s : State) (n : Fin 2), twOn s = true ∧
      (s.get (F.TWn_CTL_PERS n) ≠ s.tw[n].pers ∨ s.get (F.TWn_CTL_SPEED n) ≠ s.tw[n].speed ∨ s.get (F.TWn_ADDR_ADDR n) ≠ s.tw[n].addr)) :=
  ⟨⟨twUpd 1 (fun p => { p with pers := 3, addr := 0x5A, deaf := true, busAt := some 0 }) powered, 1, 0x80, by decide +kernel⟩,
   ⟨twUpd 1 (fun p => { p with q := [7, 8] }) powered, 1, 7, [8], by decide +kernel⟩,
   ⟨powered, 1, .debug, by decide +kernel⟩,
   ⟨twUpd 1 (fun p => { p with pers := 3, addr := 0x5A }) powered, 1, 0x80, by decide +kernel⟩,
   ⟨twUpd 1 (fun p => { p with pers := 3, addr := 0x5A }) powered, 1, 0xFF, 0x5C, by decide +kernel⟩,
   ⟨twUpd 1 (fun p => { p with ptr := 0x3F }) (((twUpd 1 (fun p => { p with pers := 3, addr := 0x5A }) powered).put (F.TWn_CTL_WRAPSH 1) 4).wr (Reg.TWn_REGFi 1 15) 0x44332211), 1, by decide +kernel⟩,
   ⟨twUpd 1 (fun p => { p with pers := 4, addr := 0x5A }) powered, 3, 0xF1, 1, by decide +kernel⟩,
   ⟨twUpd 1 (fun p => { p with busy := true }) (twUpd 1 (fun p => { p with pers := 4, addr := 0x5A }) powered), 3, 0xF1, 1, by decide +kernel⟩,
   ⟨twUpd 1 (fun p => { p with busy := true }) (twUpd 1 (fun p => { p with pers := 4, addr := 0x5A }) powered), 1, 2, [], by decide +kernel⟩,
   ⟨let s := (((twUpd 1 (fun p => { p with pers := 4, addr := 0x5A }) powered).put (F.TWn_MCMD_RLEN 1) 3).put (F.TWn_MCMD_WLEN 1) 1).put (F.TWn_MCMD_PEC 1) 1; twUpd 1 (fun p => { p with busy := true, mcmd := s.rd (Reg.TWn_MCMD 1), sent := [8, 0x11] }) s, 1, ([9, 8, 7]), 5, by decide +kernel⟩,
   ⟨{ (twUpd 1 (fun p => { p with busy := true }) (twUpd 1 (fun p => { p with pers := 4, addr := 0x5A }) powered)) with clk := { State.reset.clk with ns := 100000000 } }, 1, by decide +kernel⟩,
   ⟨{ (twUpd 1 (fun p => { p with pers := 3, addr := 0x5A }) powered) with clk := { State.reset.clk with ns := 100000000 } }, 1, 3, by decide +kernel⟩,
   ⟨{ (((twUpd 1 (fun p => { p with pers := 3, addr := 0x5A }) powered).put (F.MBk_STAT_OWNER 6) 5).put (F.MBk_STAT_OWNER 2) 4) with clk := { State.reset.clk with ns := 100000000 } }, 1, 3, 6, by decide +kernel⟩,
   ⟨twUpd 1 (fun p => { p with pers := 4, addr := 0x5A }) powered, 3, 1, 1, by decide +kernel⟩,
   ⟨((twUpd 1 (fun p => { p with pers := 2, addr := 0x5A }) powered).put (F.TWn_CTL_ATTNMODE 1) 2).put (F.TWn_ATTNEN_EN 1) 63, 3, 1, 1, by decide +kernel⟩,
   ⟨(((twUpd 1 (fun p => { p with pers := 2, addr := 0x5A }) powered).put (F.TWn_CTL_ATTNMODE 1) 1).put (F.TWn_ATTNEN_EN 1) 63).put (F.TWn_ATTN_CAUSE 1) 4, 1, by decide +kernel⟩,
   ⟨twUpd 1 (fun p => { p with pers := 2, addr := 0x5A, sdaUntil := 100 }) powered, 1, by decide +kernel⟩,
   ⟨(twUpd 1 (fun p => { p with notify := true, tries := 1 }) ((twUpd 1 (fun p => { p with pers := 2, addr := 0x5A }) powered).put (F.TWn_ATTN_CAUSE 1) 4)).put (F.TWn_CTL_ATTNMODE 1) 2, 1, by decide +kernel⟩,
   ⟨(twUpd 1 (fun p => { p with notify := true, tries := 1 }) ((twUpd 1 (fun p => { p with pers := 2, addr := 0x5A }) powered).put (F.TWn_ATTN_CAUSE 1) 4)).put (F.TWn_CTL_ATTNMODE 1) 2, 1, by decide +kernel⟩,
   ⟨(twUpd 1 (fun p => { p with notify := true, tries := 3 }) ((twUpd 1 (fun p => { p with pers := 2, addr := 0x5A }) powered).put (F.TWn_ATTN_CAUSE 1) 4)).put (F.TWn_CTL_ATTNMODE 1) 2, 1, by decide +kernel⟩,
   ⟨twUpd 1 (fun p => { p with pers := 4, addr := 0x5A }) powered, 1, false, 0x42, 0x1234, by decide +kernel⟩,
   ⟨(powered.put (F.TWn_CTL_PERS 1) 2).put (F.TWn_ADDR_ADDR 1) 0x5A, 1, by decide +kernel⟩⟩

/-- States and operands that meet the hypotheses of each clause of AvsBusFrames. -/
theorem witness_AvsBusFrames :
    (∃ (s : State) (n : Fin 2) (sel : Fin 16) (r : Fin 4) (mv : BitVec 16), twOn s = true ∧ sel.val = r.val ∧
      s.bit (F.AVSn_CTL_RAILEN n) sel.val = true ∧ s.on (F.EDGEr_CTL_EN r) = true ∧ (s.lv (F.MRVr_VSRC_MASK r)).testBit 0 = true ∧
      vsetOk r (2 * mv.toNat) s = true) ∧
    (∃ (s : State) (n : Fin 2) (sel : Fin 16) (r : Fin 4) (mv : BitVec 16), twOn s = true ∧ sel.val = r.val ∧
      s.bit (F.AVSn_CTL_RAILEN n) sel.val = true ∧ s.on (F.EDGEr_CTL_EN r) = true ∧ (s.lv (F.MRVr_VSRC_MASK r)).testBit 0 = true ∧
      vsetOk r (2 * mv.toNat) s = true ∧ s.avs[n].heldBoot = Vector.replicate 4 none) ∧
    (∃ (s : State) (n : Fin 2) (sel : Fin 16) (r : Fin 4) (mv : BitVec 16) (commit : Bool), twOn s = true ∧ sel.val = r.val ∧
      s.bit (F.AVSn_CTL_RAILEN n) sel.val = true ∧ s.on (F.EDGEr_CTL_EN r) = true ∧ (s.lv (F.MRVr_VSRC_MASK r)).testBit 0 = true ∧
      vsetOk r (2 * mv.toNat) s = false) ∧
    (∃ (s : State) (n : Fin 2) (sel : Fin 16) (r : Fin 4) (mv : BitVec 16) (commit : Bool), twOn s = true ∧ sel.val = r.val ∧
      s.bit (F.AVSn_CTL_RAILEN n) sel.val = true ∧ (s.on (F.EDGEr_CTL_EN r) = false ∨ (s.lv (F.MRVr_VSRC_MASK r)).testBit 0 = false)) ∧
    (∃ (s : State) (n : Fin 2) (sel : Fin 16) (r : Fin 4), twOn s = true ∧ sel.val = r.val ∧ s.bit (F.AVSn_CTL_RAILEN n) sel.val = true) ∧
    (∃ (s : State) (n : Fin 2) (sel : Fin 16) (r : Fin 4), twOn s = true ∧ sel.val = r.val ∧ s.bit (F.AVSn_CTL_RAILEN n) sel.val = true) ∧
    (∃ (s : State) (n : Fin 2) (sel : Fin 16) (r : Fin 4), twOn s = true ∧ sel.val = r.val ∧ s.bit (F.AVSn_CTL_RAILEN n) sel.val = true) ∧
    (∃ (s : State) (n : Fin 2) (sel : Fin 16) (r : Fin 4), twOn s = true ∧ sel.val = r.val ∧ s.bit (F.AVSn_CTL_RAILEN n) sel.val = true ∧
      s.get (F.PROTr_TSCL_SLOPE r) ≠ 0) ∧
    (∃ (s : State) (n : Fin 2) (sel : Fin 16) (r : Fin 4), twOn s = true ∧ sel.val = r.val ∧ s.bit (F.AVSn_CTL_RAILEN n) sel.val = true) ∧
    (∃ (s : State) (n : Fin 2) (sel : Fin 16) (r : Fin 4) (bits : BitVec 16), twOn s = true ∧ sel.val = r.val ∧
      s.bit (F.AVSn_CTL_RAILEN n) sel.val = true ∧ bits ≠ 0 ∧ s.avs[n].heldBoot = Vector.replicate 4 none) ∧
    (∃ (s : State) (n : Fin 2) (sel : Fin 16) (r : Fin 4) (mv : BitVec 16), twOn s = true ∧ sel.val = r.val ∧
      s.bit (F.AVSn_CTL_RAILEN n) sel.val = true ∧ s.on (F.EDGEr_CTL_EN r) = true ∧ (s.lv (F.MRVr_VSRC_MASK r)).testBit 0 = true ∧
      vsetOk r (2 * mv.toNat) s = true ∧ mv.toNat ≤ 2500 ∧ s.avs[n].held = Vector.replicate 4 none ∧ s.avs[n].heldBoot = Vector.replicate 4 none) ∧
    (∃ (s : State) (n : Fin 2) (sel : Fin 16) (commit : Bool) (mv : BitVec 16) (c : Instr), twOn s = true ∧ (sel.val < 4 →
      s.bit (F.AVSn_CTL_RAILEN n) sel.val = false) ∧
      c ∈ [.avsVoltageWrite n (⟨avsCrc (avsWord (if commit then 0x00 else 0x20) sel mv), none⟩) sel commit mv, .avsVoltageRead n (⟨avsCrc (avsWord 0x60 sel 0xFFFF), none⟩) sel, .avsTransitionRateRead n (⟨avsCrc (avsWord 0x61 sel 0xFFFF), none⟩) sel, .avsCurrentRead n (⟨avsCrc (avsWord 0x62 sel 0xFFFF), none⟩) sel, .avsTemperatureRead n (⟨avsCrc (avsWord 0x63 sel 0xFFFF), none⟩) sel, .avsResetVoltageWrite n (⟨avsCrc (avsWord 0x04 sel mv), none⟩) sel mv, .avsStatusRead n (⟨avsCrc (avsWord 0x6E sel 0xFFFF), none⟩) sel, .avsStatusWrite n (⟨avsCrc (avsWord 0x0E sel mv), none⟩) sel mv]) ∧
    (∃ (s : State) (n : Fin 2) (sel : Fin 16) (commit : Bool) (mv : BitVec 16) (e : BitVec 3) (c : Instr), twOn s = true ∧
      (mapFind s.lim (0x0F0010 + n.val)).getD 0 = 0 ∧ e ≠ 0 ∧
      c ∈ [.avsVoltageWrite n (⟨avsCrc (avsWord (if commit then 0x00 else 0x20) sel mv) + e, none⟩) sel commit mv, .avsVoltageRead n (⟨avsCrc (avsWord 0x60 sel 0xFFFF) + e, none⟩) sel, .avsTransitionRateRead n (⟨avsCrc (avsWord 0x61 sel 0xFFFF) + e, none⟩) sel, .avsCurrentRead n (⟨avsCrc (avsWord 0x62 sel 0xFFFF) + e, none⟩) sel, .avsTemperatureRead n (⟨avsCrc (avsWord 0x63 sel 0xFFFF) + e, none⟩) sel, .avsResetVoltageWrite n (⟨avsCrc (avsWord 0x04 sel mv) + e, none⟩) sel mv, .avsStatusRead n (⟨avsCrc (avsWord 0x6E sel 0xFFFF) + e, none⟩) sel, .avsStatusWrite n (⟨avsCrc (avsWord 0x0E sel mv) + e, none⟩) sel mv]) ∧
    (∃ (s : State) (n : Fin 2) (sel : Fin 16) (mv : BitVec 16) (f : BitVec 7) (d : BitVec 16) (commit : Bool) (c : Instr), twOn s = true ∧
      avsKnown f = false ∧
      c ∈ [.avsVoltageWrite n (⟨avsCrc (avsWord f sel d), some (f, d)⟩) sel commit mv, .avsVoltageRead n (⟨avsCrc (avsWord f sel d), some (f, d)⟩) sel, .avsTransitionRateRead n (⟨avsCrc (avsWord f sel d), some (f, d)⟩) sel, .avsCurrentRead n (⟨avsCrc (avsWord f sel d), some (f, d)⟩) sel, .avsTemperatureRead n (⟨avsCrc (avsWord f sel d), some (f, d)⟩) sel, .avsResetVoltageWrite n (⟨avsCrc (avsWord f sel d), some (f, d)⟩) sel mv, .avsStatusRead n (⟨avsCrc (avsWord f sel d), some (f, d)⟩) sel, .avsStatusWrite n (⟨avsCrc (avsWord f sel d), some (f, d)⟩) sel mv]) ∧
    (∃ (s : State) (n : Fin 2) (sel : Fin 16) (r : Fin 4) (mv : BitVec 16), twOn s = true ∧ sel.val = r.val ∧
      s.bit (F.AVSn_CTL_RAILEN n) sel.val = true ∧ s.on (F.EDGEr_CTL_EN r) = true ∧ (s.lv (F.MRVr_VSRC_MASK r)).testBit 0 = true ∧
      vsetOk r (2 * mv.toNat) s = true) ∧
    (∃ (s : State) (n : Fin 2), twOn s = true ∧ s.avs[n].frameAt + avstoNs n s ≤ s.clk.ns ∧ (mapFind s.lim (0x0F0010 + n.val)).getD 0 = 0) ∧
    (∃ (s : State) (n : Fin 2) (r : Fin 4) (mv : Nat), s.avs[n].commit = (Vector.replicate 4 none).set r (some mv) ∧
      (s.lv (F.MRVr_VSRC_MASK r)).testBit 0 = true ∧ vsetOk r (2 * mv) s = true ∧ s.mrv[r].arrAt < s.clk.ns ∧ NotFired (182 + n.val) s) ∧
    (∃ (s : State) (n : Fin 2), s.avs[n].commit = Vector.replicate 4 none) :=
  ⟨⟨((((powered.put (F.AVSn_CTL_RAILEN 1) 0xF).put (F.EDGEr_CTL_EN 2) 1).setLive (Reg.MRVr_VSRC 2) 0xF).setLive (Reg.MRVr_SLEW 2) 100).put (F.MRVr_VSNOW_T 2) 2000 |>.put (F.MRVr_VSNOW_S 2) 20000, 1, 2, 2, 1100, by decide +kernel⟩,
   ⟨((((powered.put (F.AVSn_CTL_RAILEN 1) 0xF).put (F.EDGEr_CTL_EN 2) 1).setLive (Reg.MRVr_VSRC 2) 0xF).setLive (Reg.MRVr_SLEW 2) 100).put (F.MRVr_VSNOW_T 2) 2000 |>.put (F.MRVr_VSNOW_S 2) 20000, 1, 2, 2, 1100, by decide +kernel⟩,
   ⟨((((powered.put (F.AVSn_CTL_RAILEN 1) 0xF).put (F.EDGEr_CTL_EN 2) 1).setLive (Reg.MRVr_VSRC 2) 0xF).setLive (Reg.MRVr_SLEW 2) 100).put (F.MRVr_VSNOW_T 2) 2000 |>.put (F.MRVr_VSNOW_S 2) 20000, 1, 2, 2, 3000, true, by decide +kernel⟩,
   ⟨(((((powered.put (F.AVSn_CTL_RAILEN 1) 0xF).put (F.EDGEr_CTL_EN 2) 1).setLive (Reg.MRVr_VSRC 2) 0xF).setLive (Reg.MRVr_SLEW 2) 100).put (F.MRVr_VSNOW_T 2) 2000 |>.put (F.MRVr_VSNOW_S 2) 20000).setLive (Reg.MRVr_VSRC 2) 0xE, 1, 2, 2, 1100, true, by decide +kernel⟩,
   ⟨((((powered.put (F.AVSn_CTL_RAILEN 1) 0xF).put (F.EDGEr_CTL_EN 2) 1).setLive (Reg.MRVr_VSRC 2) 0xF).setLive (Reg.MRVr_SLEW 2) 100).put (F.MRVr_VSNOW_T 2) 2000 |>.put (F.MRVr_VSNOW_S 2) 20000, 1, 2, 2, by decide +kernel⟩,
   ⟨((((powered.put (F.AVSn_CTL_RAILEN 1) 0xF).put (F.EDGEr_CTL_EN 2) 1).setLive (Reg.MRVr_VSRC 2) 0xF).setLive (Reg.MRVr_SLEW 2) 100).put (F.MRVr_VSNOW_T 2) 2000 |>.put (F.MRVr_VSNOW_S 2) 20000, 1, 2, 2, by decide +kernel⟩,
   ⟨mrvUpd 2 (fun m => { m with iTot := -5 }) (((((powered.put (F.AVSn_CTL_RAILEN 1) 0xF).put (F.EDGEr_CTL_EN 2) 1).setLive (Reg.MRVr_VSRC 2) 0xF).setLive (Reg.MRVr_SLEW 2) 100).put (F.MRVr_VSNOW_T 2) 2000 |>.put (F.MRVr_VSNOW_S 2) 20000), 1, 2, 2, by decide +kernel⟩,
   ⟨((((powered.put (F.AVSn_CTL_RAILEN 1) 0xF).put (F.EDGEr_CTL_EN 2) 1).setLive (Reg.MRVr_VSRC 2) 0xF).setLive (Reg.MRVr_SLEW 2) 100).put (F.MRVr_VSNOW_T 2) 2000 |>.put (F.MRVr_VSNOW_S 2) 20000, 1, 2, 2, by decide +kernel⟩,
   ⟨((((powered.put (F.AVSn_CTL_RAILEN 1) 0xF).put (F.EDGEr_CTL_EN 2) 1).setLive (Reg.MRVr_VSRC 2) 0xF).setLive (Reg.MRVr_SLEW 2) 100).put (F.MRVr_VSNOW_T 2) 2000 |>.put (F.MRVr_VSNOW_S 2) 20000, 1, 2, 2, by decide +kernel⟩,
   ⟨(((((powered.put (F.AVSn_CTL_RAILEN 1) 0xF).put (F.EDGEr_CTL_EN 2) 1).setLive (Reg.MRVr_VSRC 2) 0xF).setLive (Reg.MRVr_SLEW 2) 100).put (F.MRVr_VSNOW_T 2) 2000 |>.put (F.MRVr_VSNOW_S 2) 20000).put (F.AVSn_STAT_ALERT 1) 1, 1, 2, 2, 2, by decide +kernel⟩,
   ⟨((((powered.put (F.AVSn_CTL_RAILEN 1) 0xF).put (F.EDGEr_CTL_EN 2) 1).setLive (Reg.MRVr_VSRC 2) 0xF).setLive (Reg.MRVr_SLEW 2) 100).put (F.MRVr_VSNOW_T 2) 2000 |>.put (F.MRVr_VSNOW_S 2) 20000, 1, 2, 2, 1100, by decide +kernel⟩,
   ⟨((((powered.put (F.AVSn_CTL_RAILEN 1) 0xF).put (F.EDGEr_CTL_EN 2) 1).setLive (Reg.MRVr_VSRC 2) 0xF).setLive (Reg.MRVr_SLEW 2) 100).put (F.MRVr_VSNOW_T 2) 2000 |>.put (F.MRVr_VSNOW_S 2) 20000, 1, 4, true, 1000, (.avsStatusRead 1 (⟨avsCrc (avsWord 0x6E 4 0xFFFF), none⟩) 4), by decide +kernel⟩,
   ⟨((((powered.put (F.AVSn_CTL_RAILEN 1) 0xF).put (F.EDGEr_CTL_EN 2) 1).setLive (Reg.MRVr_VSRC 2) 0xF).setLive (Reg.MRVr_SLEW 2) 100).put (F.MRVr_VSNOW_T 2) 2000 |>.put (F.MRVr_VSNOW_S 2) 20000, 1, 4, true, 1000, 3, (.avsStatusRead 1 (⟨avsCrc (avsWord 0x6E 4 0xFFFF) + 3, none⟩) 4), by decide +kernel⟩,
   ⟨((((powered.put (F.AVSn_CTL_RAILEN 1) 0xF).put (F.EDGEr_CTL_EN 2) 1).setLive (Reg.MRVr_VSRC 2) 0xF).setLive (Reg.MRVr_SLEW 2) 100).put (F.MRVr_VSNOW_T 2) 2000 |>.put (F.MRVr_VSNOW_S 2) 20000, 1, 2, 1000, 0x21, 5, false, (.avsVoltageRead 1 (⟨avsCrc (avsWord 0x21 2 5), some (0x21, 5)⟩) 2), by decide +kernel⟩,
   ⟨((((powered.put (F.AVSn_CTL_RAILEN 1) 0xF).put (F.EDGEr_CTL_EN 2) 1).setLive (Reg.MRVr_VSRC 2) 0xF).setLive (Reg.MRVr_SLEW 2) 100).put (F.MRVr_VSNOW_T 2) 2000 |>.put (F.MRVr_VSNOW_S 2) 20000, 1, 2, 2, 1100, by decide +kernel⟩,
   ⟨{ (((((powered.put (F.AVSn_CTL_RAILEN 1) 0xF).put (F.EDGEr_CTL_EN 2) 1).setLive (Reg.MRVr_VSRC 2) 0xF).setLive (Reg.MRVr_SLEW 2) 100).put (F.MRVr_VSNOW_T 2) 2000 |>.put (F.MRVr_VSNOW_S 2) 20000) with clk := { ns := 1000000 } }, 1, by decide +kernel⟩,
   ⟨{ (avsUpd 1 (fun p => { p with commit := (Vector.replicate 4 none).set 2 (some 1100) }) (((((powered.put (F.AVSn_CTL_RAILEN 1) 0xF).put (F.EDGEr_CTL_EN 2) 1).setLive (Reg.MRVr_VSRC 2) 0xF).setLive (Reg.MRVr_SLEW 2) 100).put (F.MRVr_VSNOW_T 2) 2000 |>.put (F.MRVr_VSNOW_S 2) 20000)) with clk := { ns := 5 } }, 1, 2, 1100, by decide +kernel⟩,
   ⟨((((powered.put (F.AVSn_CTL_RAILEN 1) 0xF).put (F.EDGEr_CTL_EN 2) 1).setLive (Reg.MRVr_VSRC 2) 0xF).setLive (Reg.MRVr_SLEW 2) 100).put (F.MRVr_VSNOW_T 2) 2000 |>.put (F.MRVr_VSNOW_S 2) 20000, 1, by decide +kernel⟩⟩

/-- States and operands that meet the hypotheses of each clause of MotorStates. -/
theorem witness_MotorStates :
    (∃ (s : State) (m : Fin 4) (d : Fin 8) (f : Fin 4) (value : Word), slotOn (Reg.MOTm_CTL m) s = true ∧ s.on (F.MOTm_CTL_EN m) = false ∧
      pdOn (26 + m.val) s = true ∧ pdOn 48 s = true ∧ s.get (gLaneFld 2 (m.val / 2)) ≠ 15 ∧ fldOf (F.MOTm_CTL_DOM m) value = d.val ∧
      s.dom[d].src = 4 + f.val ∧ s.on (F.ANGn_CTL_EN d) = true ∧ pdOn (50 + f.val) s = true ∧ s.on (F.FBf_CTL_EN f) = true ∧
      s.mot[m].fltLow = false ∧ s.bit F.GATH_MFLT_MFLT (2 * m.val) = false ∧ s.bit F.GATH_MFLT_MFLT (2 * m.val + 1) = false ∧
      s.get (F.ANGn_STAT_STATE d) ∈ [1, 2, 3] ∧ (s.getI (F.MOTm_SPEED_SPEED m)).natAbs < s.get (F.MOTm_LIM_OVSPD m) * 16 ∧
      s.get (F.MOTm_STAT_COND m) = 0) ∧
    (∃ (s : State) (m : Fin 4) (value : Word), slotOn (Reg.MOTm_CTL m) s = true ∧ s.on (F.MOTm_CTL_EN m) = false ∧ (pdOn (26 + m.val) s = true ∧
      pdOn 48 s = true ∧ s.get (gLaneFld 2 (m.val / 2)) ≠ 15) ∧
      (s.dom[Fin.ofNat 8 (fldOf (F.MOTm_CTL_DOM m) value)].src < 4 ∨ 7 < s.dom[Fin.ofNat 8 (fldOf (F.MOTm_CTL_DOM m) value)].src ∨ (s.on (F.ANGn_CTL_EN (fldOf (F.MOTm_CTL_DOM m) value)) = false ∧
      pdOn (46 + s.dom[Fin.ofNat 8 (fldOf (F.MOTm_CTL_DOM m) value)].src) s = true))) ∧
    (∃ (s : State) (m : Fin 4) (d : Fin 8) (f : Fin 4) (value : Word), slotOn (Reg.MOTm_CTL m) s = true ∧ s.on (F.MOTm_CTL_EN m) = false ∧
      fldOf (F.MOTm_CTL_DOM m) value = d.val ∧ s.dom[d].src = 4 + f.val ∧
      (pdOn (26 + m.val) s = false ∨ pdOn 48 s = false ∨ s.get (gLaneFld 2 (m.val / 2)) = 15 ∨ pdOn (50 + f.val) s = false)) ∧
    (∃ (s : State) (m : Fin 4) (d : Fin 8) (f : Fin 4) (value : Word), slotOn (Reg.MOTm_CTL m) s = true ∧ s.on (F.MOTm_CTL_EN m) = false ∧
      pdOn (26 + m.val) s = true ∧ pdOn 48 s = true ∧ s.get (gLaneFld 2 (m.val / 2)) ≠ 15 ∧ fldOf (F.MOTm_CTL_DOM m) value = d.val ∧
      s.dom[d].src = 4 + f.val ∧ s.on (F.ANGn_CTL_EN d) = true ∧ pdOn (50 + f.val) s = true ∧
      (s.on (F.FBf_CTL_EN f) = false ∨ s.mot[m].fltLow = true ∨ s.bit F.GATH_MFLT_MFLT (2 * m.val) = true ∨ s.bit F.GATH_MFLT_MFLT (2 * m.val + 1) = true)) ∧
    (∃ (s : State) (m : Fin 4) (value : Word), slotOn (Reg.MOTm_CTL m) s = true) ∧
    (∃ (s : State) (m : Fin 4), (motSt m s = moALIGN ∨ motSt m s = moRUN) ∧ s.mot[m].fltLow = false ∧ s.bit F.GATH_MFLT_MFLT (2 * m.val) = false ∧
      s.bit F.GATH_MFLT_MFLT (2 * m.val + 1) = false ∧ s.get (F.ANGn_STAT_STATE (motorDom m s)) ∈ [1, 2, 3]) ∧
    (∃ (s : State) (m : Fin 4) (ticket : Byte), Fresh Reg.MOT_ACT ticket s ∧ (motSt m s = moALIGN ∨ motSt m s = moRUN) ∧ s.mot[m].fltLow = false ∧
      s.bit F.GATH_MFLT_MFLT (2 * m.val) = false ∧ s.bit F.GATH_MFLT_MFLT (2 * m.val + 1) = false ∧
      s.get (F.ANGn_STAT_STATE (motorDom m s)) ∈ [1, 2, 3]) ∧
    (∃ (s : State) (m : Fin 4), motSt m s ≠ moALIGN ∧ motSt m s ≠ moRUN) ∧
    (∃ (s : State) (m : Fin 4) (ticket : Byte) (arg : BitVec 16), Fresh Reg.MOT_ACT ticket s ∧ arg.toNat % 4 = m.val) ∧
    (∃ (s : State) (m : Fin 4) (ticket : Byte) (arg : BitVec 16), Fresh Reg.MOT_ACT ticket s ∧ arg.toNat % 4 = m.val ∧ motSt m s = moFAULT ∧
      motConds m s = 0) ∧
    (∃ (s : State) (m : Fin 4) (ticket : Byte) (arg : BitVec 16), Fresh Reg.MOT_ACT ticket s ∧ arg.toNat % 4 = m.val ∧ motSt m s = moFAULT ∧
      motorEn m s = true ∧ s.mot[m].fltLow = true ∧ motResp m 1 s = 4) ∧
    (∃ (s : State) (m : Fin 4), motSt m s = moALIGN ∧ s.mot[m].alignAt + max 1 (s.get (F.MOTm_ALGN_ALIGNT m)) * 10000000 ≤ s.clk.ns) ∧
    (∃ (s : State) (m : Fin 4), motorEn m s = true ∧ s.bit (F.MOTm_STAT_COND m) 1 = false ∧ motResp m 1 s = 4 ∧ motSt m s ≠ moFAULT ∧
      NotFired (137 + 2 * m.val) s ∧ motConds m s &&& (0x7F ^^^ s.get (F.MOTm_STAT_COND m)) &&& 0x7D = 0 ∧ motCleared m s = none) ∧
    (∃ (s : State) (m : Fin 4), motorEn m s = true ∧ (motSt m s = moALIGN ∨ motSt m s = moRUN) ∧
      (s.mot[m].stallFrom.any (fun t => t + stallNs m s ≤ s.clk.ns) = true) ∧ (motIqRef m s).natAbs = s.get (F.MOTm_IQMAX_IQMAX m) ∧
      (s.getI (F.MOTm_SPEED_SPEED m)).natAbs < s.get (F.MOTm_STALL_STALLSPD m) * 16 ∧ s.bit (F.MOTm_STAT_COND m) 5 = false ∧ motResp m 5 s = 4 ∧
      NotFired (137 + 2 * m.val) s ∧ motConds m s &&& (0x7F ^^^ s.get (F.MOTm_STAT_COND m)) &&& 0x5F = 0 ∧ motCleared m s = none) ∧
    (∃ (s : State) (m : Fin 4), ((motIqRef m s).natAbs ≠ s.get (F.MOTm_IQMAX_IQMAX m) ∨ s.get (F.MOTm_STALL_STALLSPD m) * 16 ≤ (s.getI (F.MOTm_SPEED_SPEED m)).natAbs ∨ s.mot[m].stallFrom.all (fun t => s.clk.ns < t + stallNs m s) = true)) :=
  ⟨⟨motorReady, 3, 2, 1, 0x1020, by decide +kernel⟩,
   ⟨motorReady, 3, 0x1030, by decide +kernel⟩,
   ⟨motorReady.put F.PWR_ON1_ON 0xFFFAFFFF, 3, 2, 1, 0x1020, by decide +kernel⟩,
   ⟨motUpd 3 (fun x => { x with fltLow := true }) motorReady, 3, 2, 1, 0x1020, by decide +kernel⟩,
   ⟨motorIn 2, 3, 0x1020, by decide +kernel⟩,
   ⟨motorIn 2, 3, by decide +kernel⟩,
   ⟨motorIn 2, 3, 9, by decide +kernel⟩,
   ⟨motorIn 4, 3, by decide +kernel⟩,
   ⟨motorIn 3, 3, 9, 7, by decide +kernel⟩,
   ⟨motorIn 4, 3, 9, 7, by decide +kernel⟩,
   ⟨motUpd 3 (fun x => { x with fltLow := true }) (motorIn 4), 3, 9, 7, by decide +kernel⟩,
   ⟨let s := domUpd 2 (fun d => { d with acc := 0x12345678ABC }) (motorIn 1); { s with clk := { s.clk with ns := 20000000000 } }, 3, by decide +kernel⟩,
   ⟨motorIn 2, 3, by decide +kernel⟩,
   ⟨motUpd 3 (fun x => { x with stallFrom := some 0 }) { (((motorIn 2).putI (F.MOTm_REF_IQREF 3) (-20000)).put (F.MOTm_STALL_STALLSPD 3) 10).putI (F.MOTm_SPEED_SPEED 3) (-33) with clk := { ns := 99999999999 } }, 3, by decide +kernel⟩,
   ⟨motorIn 2, 3, by decide +kernel⟩⟩

/-- States and operands that meet the hypotheses of each clause of MotorPeriod. -/
theorem witness_MotorPeriod :
    (∃ (s : State) (m : Fin 4) (x : Fin 3) (ons : Vector Nat 3), motorEn m s = true ∧ motSt m s = moRUN ∧ s.bit (F.MOTm_STAT_COND m) 6 = false ∧
      motConds m s &&& (0x7F ^^^ s.get (F.MOTm_STAT_COND m)) = 0 ∧
      (s.get (F.MOTm_CTL_SPM m) = 0 ∨ s.get (F.MOTm_CTL_SPM m) = 1 ∨ s.get (F.MOTm_CTL_SPM m) = 2) ∧
      s.mot[m].next = some (ons[(0 : Fin 3)], ons[(1 : Fin 3)], ons[(2 : Fin 3)]) ∧ NotFired (136 + 2 * m.val) s ∧ motCleared m s = none) ∧
    (∃ (s : State) (m : Fin 4), motorEn m s = true ∧ motSt m s = moRUN ∧ s.mot[m].first = false ∧ s.mot[m].next = none ∧
      s.bit (F.MOTm_STAT_COND m) 6 = false ∧ motResp m 6 s = 0 ∧ NotFired (136 + 2 * m.val) s ∧
      motConds m s &&& (0x7F ^^^ s.get (F.MOTm_STAT_COND m)) = 0 ∧ motCleared m s = none) ∧
    (∃ (s : State) (m : Fin 4), motorEn m s = true ∧ motSt m s = moINERT ∧ s.mot[m].release = true ∧ s.mot[m].first = true ∧ s.mot[m].next = none ∧
      (s.on (F.MOTm_CTL_ALIGN m) = false ∨ s.on (F.MOTm_STAT_THV m) = true) ∧ motConds m (s.put (F.MOTm_STAT_ST m) 2) = 0 ∧
      NotFired (136 + 2 * m.val) s) ∧
    (∃ (s : State) (m : Fin 4), motorEn m s = true ∧ motSt m s = moALIGN ∧ s.mot[m].next.isSome = true ∧
      s.mot[m].alignAt + max 1 (s.get (F.MOTm_ALGN_ALIGNT m)) * 10000000 ≤ s.clk.ns ∧ motConds m s = 0 ∧ s.get (F.MOTm_STAT_COND m) = 0 ∧
      NotFired (136 + 2 * m.val) s ∧ motCleared m s = none) ∧
    (∃ (s : State) (m : Fin 4), motorEn m s = false) ∧
    (∃ (s : State) (m : Fin 4), motSt m s = moRUN) ∧
    (∃ (s : State) (m : Fin 4), motSt m s = moALIGN) ∧
    (∃ (s : State) (m : Fin 4) (rawA rawB : BitVec 12) (a b : Nat), motSt m s = moRUN ∧ s.mot[m].asked = true ∧ s.mot[m].pairAt ≤ s.clk.ns ∧
      gServed 2 (m.val / 2) (s.mot[m].pairAt - 100) s = true ∧ (gBank 2 s).stage = .idle ∧
      sarCode 2 (gSliceAt 2 (m.val / 2) (s.mot[m].pairAt - 200) s) rawA s = a ∧
      sarCode 2 (gSliceAt 2 (m.val / 2) (s.mot[m].pairAt - 100) s) rawB s = b ∧ 4096 ≤ a * 18 ∧ 4096 ≤ b * 18 ∧
      motConds m s &&& (0x7E ^^^ s.get (F.MOTm_STAT_COND m) &&& 0x7E) = 0 ∧
      (let scale := fun (c : Nat) => clampInt (asr (((c : Int) - s.get (F.MOTm_ISCL_IZERO m)) * s.get (F.MOTm_ISCL_IGAIN m) + 128) 8) (-32768) 32767;
      (scale a).natAbs < s.get (F.MOTm_LIM_IOC m) ∧ (scale b).natAbs < s.get (F.MOTm_LIM_IOC m) ∧
      (scale a + scale b).natAbs < s.get (F.MOTm_LIM_IOC m)) ∧ motCleared m s = none) ∧
    (∃ (s : State) (m : Fin 4) (a b : Conversion), (s.clk.ns < s.mot[m].pairAt ∨ gServed 2 (m.val / 2) (s.mot[m].pairAt - 100) s = false)) ∧
    (∃ (s : State) (m : Fin 4) (rawA rawB : BitVec 12), s.mot[m].asked = false ∧ (gBank 2 s).stage = .idle) :=
  ⟨⟨motUpd 3 (fun x => { x with next := some (5000, 30, 5) }) (motorIn 2), 3, 1, (#v[5000, 30, 5]), by decide +kernel⟩,
   ⟨(motorIn 2).put (F.MOTm_RESP_RESP 3) 0x24924, 3, by decide +kernel⟩,
   ⟨motUpd 3 (fun x => { x with release := true, first := true }) ((motorIn 3).put (F.MOTm_STAT_THV 3) 1), 3, by decide +kernel⟩,
   ⟨{ (motUpd 3 (fun x => { x with next := some (1, 2, 3000) }) (motorIn 1)) with clk := { ns := 10000000 } }, 3, by decide +kernel⟩,
   ⟨motorReady, 3, by decide +kernel⟩,
   ⟨domUpd 2 (fun d => { d with acc := 0x12345678ABC }) (motorIn 2), 3, by decide +kernel⟩,
   ⟨motorIn 1, 3, by decide +kernel⟩,
   ⟨calPut 2 1 1 32768 (motUpd 3 (fun x => { x with asked := true, pairAt := 300 }) { (motorIn 2).put (F.MOTm_CUR_KI 3) 7 with clk := { ns := 300 } }), 3, 2100, 1900, 2100, 1900, by decide +kernel⟩,
   ⟨(motorIn 2).put F.GATH_SPARE_ML1 15, 3, (⟨2100, none⟩), (⟨1900, none⟩), by decide +kernel⟩,
   ⟨motorIn 2, 3, 2100, 1900, by decide +kernel⟩⟩

/-- States and operands that meet the hypotheses of each clause of FeedbackChannels. -/
theorem witness_FeedbackChannels :
    (∃ (s : State) (f : Fin 4) (a b : Bool) (na nb : Nat), s.on (F.FBf_CTL_EN f) = true ∧ pdOn (50 + f.val) s = true ∧
      s.on (F.FBf_CTL_TYPE f) = false ∧ s.fb[f].seen = false) ∧
    (∃ (s : State) (f : Fin 4) (na nb : Nat), s.on (F.FBf_CTL_EN f) = true ∧ pdOn (50 + f.val) s = true ∧ s.on (F.FBf_CTL_TYPE f) = false ∧
      s.fb[f].seen = true) ∧
    (∃ (s : State) (f : Fin 4) (a b : Bool) (na nb : Nat), s.on (F.FBf_CTL_TYPE f) = false ∧ s.fb[f].seen = true ∧ na < s.get (F.FBf_CTL_FILT f) ∧
      nb < s.get (F.FBf_CTL_FILT f)) ∧
    (∃ (s : State) (f : Fin 4) (a b : Bool) (na nb : Nat), s.on (F.FBf_CTL_EN f) = true ∧ pdOn (50 + f.val) s = true ∧
      s.on (F.FBf_CTL_TYPE f) = false ∧ s.fb[f].seen = true ∧ s.get (F.FBf_CTL_FILT f) ≤ na ∧ s.get (F.FBf_CTL_FILT f) ≤ nb ∧ (a = !s.fb[f].b ∧
      b = s.fb[f].a) ∧ ((s.fb[f].stepAt.all (fun u => decide (u + 40 ≤ s.clk.ns))) = true)) ∧
    (∃ (s : State) (f : Fin 4) (a b : Bool) (na nb : Nat), s.on (F.FBf_CTL_EN f) = true ∧ pdOn (50 + f.val) s = true ∧
      s.on (F.FBf_CTL_TYPE f) = false ∧ s.fb[f].seen = true ∧ s.get (F.FBf_CTL_FILT f) ≤ na ∧ s.get (F.FBf_CTL_FILT f) ≤ nb ∧ (a = s.fb[f].b ∧
      b = !s.fb[f].a) ∧ ((s.fb[f].stepAt.all (fun u => decide (u + 40 ≤ s.clk.ns))) = true)) ∧
    (∃ (s : State) (f : Fin 4) (na nb : Nat), s.on (F.FBf_CTL_EN f) = true ∧ pdOn (50 + f.val) s = true ∧ s.on (F.FBf_CTL_TYPE f) = false ∧
      s.fb[f].seen = true ∧ s.get (F.FBf_CTL_FILT f) ≤ na ∧ s.get (F.FBf_CTL_FILT f) ≤ nb ∧ s.fb[f].phase = false ∧ NotFired (145 + 2 * f.val) s) ∧
    (∃ (s : State) (f : Fin 4) (u : Nat) (na nb : Nat), s.on (F.FBf_CTL_EN f) = true ∧ pdOn (50 + f.val) s = true ∧
      s.on (F.FBf_CTL_TYPE f) = false ∧ s.fb[f].seen = true ∧ s.get (F.FBf_CTL_FILT f) ≤ na ∧ s.get (F.FBf_CTL_FILT f) ≤ nb ∧
      s.fb[f].stepAt = some u ∧ s.clk.ns < u + 40 ∧ u ≤ s.clk.ns ∧ s.fb[f].rate = false ∧ NotFired (145 + 2 * f.val) s) ∧
    (∃ (s : State) (f : Fin 4) (rs rc : BitVec 14), s.on (F.FBf_CTL_EN f) = true ∧ pdOn (50 + f.val) s = true ∧ s.on (F.FBf_CTL_TYPE f) = true ∧
      s.fb[f].seen = true ∧ s.fb[f].amp = false ∧ s.fb[f].phi < 4096 ∧
      (let sn := asr ((rs.toInt - s.getI (F.FBf_SCOR_SOFS f)) * s.get (F.FBf_SGAIN_SGAIN f)) 15;
      let cs := asr ((rc.toInt - s.getI (F.FBf_SCOR_COFS f)) * s.get (F.FBf_SGAIN_CGAIN f)) 15;
      let sq := sn.natAbs * sn.natAbs + cs.natAbs * cs.natAbs; s.get (F.FBf_AWIN_AMIN f) * s.get (F.FBf_AWIN_AMIN f) ≤ sq ∧
      sq ≤ s.get (F.FBf_AWIN_AMAX f) * s.get (F.FBf_AWIN_AMAX f) ∧ 0 < sq) ∧
      (let p := phaseOf (asr ((rs.toInt - s.getI (F.FBf_SCOR_SOFS f)) * s.get (F.FBf_SGAIN_SGAIN f)) 15) (asr ((rc.toInt - s.getI (F.FBf_SCOR_COFS f)) * s.get (F.FBf_SGAIN_CGAIN f)) 15) 0;
      (max p s.fb[f].phi - min p s.fb[f].phi < 1024))) ∧
    (∃ (s : State) (f : Fin 4) (rs rc : BitVec 14), s.on (F.FBf_CTL_EN f) = true ∧ pdOn (50 + f.val) s = true ∧ s.on (F.FBf_CTL_TYPE f) = true ∧
      s.fb[f].amp = false ∧ s.fb[f].out = 3 ∧ (let sn := asr ((rs.toInt - s.getI (F.FBf_SCOR_SOFS f)) * s.get (F.FBf_SGAIN_SGAIN f)) 15;
      let cs := asr ((rc.toInt - s.getI (F.FBf_SCOR_COFS f)) * s.get (F.FBf_SGAIN_CGAIN f)) 15;
      let sq := sn.natAbs * sn.natAbs + cs.natAbs * cs.natAbs; sq < s.get (F.FBf_AWIN_AMIN f) * s.get (F.FBf_AWIN_AMIN f)) ∧
      NotFired (145 + 2 * f.val) s) ∧
    (∃ (s : State) (f : Fin 4) (held : Nat), s.on (F.FBf_CTL_EN f) = true ∧ s.get (F.FBf_CTL_FILT f) ≤ held ∧ pdOn (50 + f.val) s = true ∧
      (s.get (F.FBf_CTL_ZMODE f) = 1 ∨ s.get (F.FBf_CTL_ZMODE f) = 2) ∧ (s.on (F.FBf_CTL_ZGATE f) = true → s.on (F.FBf_CTL_TYPE f) = false →
      s.fb[f].a = true ∧ s.fb[f].b = true) ∧ NotFired (144 + 2 * f.val) s ∧ s.on (F.FBf_STAT_INDEXED f) = false) ∧
    (∃ (s : State) (f : Fin 4) (held : Nat), s.on (F.FBf_CTL_EN f) = true ∧ s.get (F.FBf_CTL_FILT f) ≤ held ∧ pdOn (50 + f.val) s = true ∧
      (s.get (F.FBf_CTL_ZMODE f) = 1 ∨ s.get (F.FBf_CTL_ZMODE f) = 2) ∧ (s.on (F.FBf_CTL_ZGATE f) = true → s.on (F.FBf_CTL_TYPE f) = false →
      s.fb[f].a = true ∧ s.fb[f].b = true) ∧ s.on (F.FBf_STAT_INDEXED f) = true ∧ (let moved := (s.rd (Reg.FBf_ACNT f) - s.fb[f].zAcnt).toInt;
      s.get (F.FBf_CTL_ZTOL f) < (moved - fbCpr f s).natAbs ∧ s.get (F.FBf_CTL_ZTOL f) < (moved + fbCpr f s).natAbs)) ∧
    (∃ (s : State) (f : Fin 4) (held : Nat), s.get (F.FBf_CTL_ZMODE f) = 0) ∧
    (∃ (s : State) (f : Fin 4) (pair : Fin 3) (n : Nat), s.on (F.FBf_CTL_EN f) = true ∧ s.get (F.FBf_CTL_WTIME f) ≤ n ∧
      pdOn (50 + f.val) s = true ∧ (s.on (F.FBf_CTL_TYPE f) = true → pair = 2) ∧ s.fb[f].wire.getLsbD pair = false ∧ NotFired (145 + 2 * f.val) s) ∧
    (∃ (s : State) (f : Fin 4) (held : Nat), held < s.get (F.FBf_CTL_FILT f)) ∧
    (∃ (s : State) (f : Fin 4) (pair : Fin 3) (n : Nat), n < s.get (F.FBf_CTL_WTIME f)) ∧
    (∃ (s : State) (f : Fin 4) (pair : Fin 3), s.on (F.FBf_CTL_EN f) = true ∧ pdOn (50 + f.val) s = true ∧ (s.on (F.FBf_CTL_TYPE f) = true →
      pair = 2)) ∧
    (∃ (s : State) (f : Fin 4), (s.on (F.FBf_CTL_EN f) = false ∨ pdOn (50 + f.val) s = false) ∧
      ((List.finRange 8).all (fun d => s.dom[d].src != 4 + f.val) = true)) ∧
    (∃ (s : State) (f : Fin 4), s.on (F.FBf_CTL_EN f) = true ∧ pdOn (50 + f.val) s = true ∧
      ((List.finRange 8).all (fun d => s.dom[d].src != 4 + f.val) = true)) ∧
    (∃ (s : State) (f : Fin 4) (d : Fin 8), s.on (F.FBf_CTL_EN f) = true ∧ pdOn (50 + f.val) s = true ∧ s.dom[d].src = 4 + f.val ∧
      ((List.finRange 8).all (fun e => e == d || s.dom[e].src != 4 + f.val) = true) ∧ s.on (F.ANGn_CTL_EN d) = true ∧ dState d s = dLOCKED ∧
      2 ≤ s.dom[d].acq ∧ (s.fb[f].phase = false ∧ s.fb[f].rate = false ∧ s.fb[f].amp = false ∧ s.fb[f].wire = 0) ∧ (let pos := fbPosition f s;
      (BitVec.ofInt 56 (pos * refTurns d s) - s.dom[d].acc).toInt.natAbs ≤ 2 ^ (48 - s.get (F.ANGn_TRACK_FBJUMP d)))) ∧
    (∃ (s : State) (ticket : Byte) (arg : BitVec 16) (f : Fin 4), Fresh Reg.FB_ACT ticket s ∧ arg.toNat % 4 = f.val ∧ s.fb[f].stepNow = none) ∧
    (∃ (s : State) (ticket : Byte) (arg : BitVec 16) (f : Fin 4) (d : Word), Fresh Reg.FB_ACT ticket s ∧ arg.toNat % 4 = f.val ∧
      s.fb[f].stepNow = some (s.clk.ns / 4, d)) :=
  ⟨⟨powered.put (F.FBf_CTL_EN 1) 1, 1, true, false, 9999, 9999, by decide +kernel⟩,
   ⟨quadUp, 1, 9999, 9999, by decide +kernel⟩,
   ⟨quadUp.put (F.FBf_CTL_FILT 1) 5, 1, false, true, 4, 4, by decide +kernel⟩,
   ⟨quadUp, 1, true, true, 9999, 9999, by decide +kernel⟩,
   ⟨quadUp, 1, false, false, 9999, 9999, by decide +kernel⟩,
   ⟨quadUp, 1, 9999, 9999, by decide +kernel⟩,
   ⟨fbUpd 1 (fun x => { x with stepAt := some 0 }) quadUp, 1, 0, 9999, 9999, by decide +kernel⟩,
   ⟨fbUpd 1 (fun x => { x with seen := true, phi := 40 }) ((powered.put (F.FBf_CTL_EN 1) 1).put (F.FBf_CTL_TYPE 1) 1), 1, 300, 4000, by
    refine ⟨by decide +kernel, by decide +kernel, by decide +kernel, by decide +kernel, by decide +kernel, by decide +kernel, by decide +kernel, ?_⟩
    unfold phaseOf
    generalize Config.atanErr _ _ = e
    revert e
    decide +kernel⟩,
   ⟨fbUpd 1 (fun x => { x with seen := true, out := 3 }) ((powered.put (F.FBf_CTL_EN 1) 1).put (F.FBf_CTL_TYPE 1) 1), 1, 30, 40, by decide +kernel⟩,
   ⟨quadUp.put (F.FBf_CTL_ZMODE 1) 2, 1, 9999, by decide +kernel⟩,
   ⟨(quadUp.put (F.FBf_CTL_ZMODE 1) 1).put (F.FBf_STAT_INDEXED 1) 1, 1, 9999, by decide +kernel⟩,
   ⟨quadUp, 1, 9999, by decide +kernel⟩,
   ⟨quadUp, 1, 2, 9999, by decide +kernel⟩,
   ⟨quadUp.put (F.FBf_CTL_FILT 1) 5, 1, 4, by decide +kernel⟩,
   ⟨quadUp.put (F.FBf_CTL_WTIME 1) 5, 1, 2, 4, by decide +kernel⟩,
   ⟨fbUpd 1 (fun x => { x with wire := 7 }) quadUp, 1, 2, by decide +kernel⟩,
   ⟨State.reset, 1, by decide +kernel⟩,
   ⟨fbUpd 1 (fun x => { x with phase := true }) quadUp, 1, by decide +kernel⟩,
   ⟨domUpd 2 (fun d => { d with acq := 2 }) ((motorIn 2).put (F.ANGn_STAT_STATE 2) dLOCKED |>.wr (Reg.FBf_ACNT 1) 1), 1, 2, by decide +kernel⟩,
   ⟨(motorIn 2).wr (Reg.FBf_PRESET 1) 77 |>.put (F.MOTm_STAT_THV 3) 1, 5, 0xF1, 1, by decide +kernel⟩,
   ⟨fbUpd 1 (fun x => { x with stepNow := some (0, 1) }) ((motorIn 2).wr (Reg.FBf_PRESET 1) 77), 5, 0xF1, 1, 1, by decide +kernel⟩⟩

/-- States and operands that meet the hypotheses of each clause of LeakSensing. -/
theorem witness_LeakSensing :
    (∃ (s : State) (i : Fin 16) (l : List (Fin 16)), s.on F.CAP_CTL_EN = true ∧ domainOn 54 s = true ∧ s.cap.scan = none ∧
      ((List.finRange 16).filter (fun (i : Fin 16) => s.bit F.CAP_EN_MASK i) = i :: l) ∧ s.lop[(4 : Fin 5)].running = false) ∧
    (∃ (s : State), s.on F.CAP_CTL_EN = true ∧ domainOn 54 s = true ∧ s.cap.scan.isSome = true) ∧
    (∃ (s : State) (i : Fin 16) (l : List (Fin 16)) (ticket : Byte) (arg : BitVec 16), slotOn Reg.CAP_ACT s = true ∧ Fresh Reg.CAP_ACT ticket s ∧
      s.on F.CAP_CTL_EN = true ∧ domainOn 54 s = true ∧ s.cap.scan = none ∧
      ((List.finRange 16).filter (fun (i : Fin 16) => s.bit F.CAP_EN_MASK i) = i :: l) ∧ s.lop[(4 : Fin 5)].running = false) ∧
    (∃ (s : State) (ticket : Byte) (arg : BitVec 16), slotOn Reg.CAP_ACT s = true ∧ Fresh Reg.CAP_ACT ticket s ∧ s.on F.CAP_CTL_EN = true ∧
      domainOn 54 s = true ∧ s.cap.scan.isSome = true) ∧
    (∃ (s : State) (i : Fin 16) (l : List (Fin 16)) (count : BitVec 16), capNow s = some i ∧ s.cap.scan = some (i :: l) ∧ (1 ≤ count.toNat ∧
      count.toNat ≤ s.cap.limit ∧ capLasted count.toNat s = true) ∧ s.cap.k + 1 < 2 ^ capOsr s) ∧
    (∃ (s : State) (i : Fin 16) (l : List (Fin 16)) (count : BitVec 16), capNow s = some i ∧ s.cap.scan = some (i :: l) ∧ (1 ≤ count.toNat ∧
      count.toNat ≤ s.cap.limit ∧ capLasted count.toNat s = true) ∧ l ≠ [] ∧ 2 ^ capOsr s ≤ s.cap.k + 1 ∧
      (let raw := (s.cap.sum + count.toNat + 2 ^ capOsr s / 2) / 2 ^ capOsr s; s.get (F.CAPi_LIM_CMIN i) ≤ raw ∧ raw ≤ s.get (F.CAPi_LIM_CMAX i)) ∧
      s.cap.el[i].fault = false ∧ s.lop[(4 : Fin 5)].running = false ∧ (s.cap.el[i].fresh = true ∨ s.cap.el[i].recal = true)) ∧
    (∃ (s : State) (i : Fin 16) (l : List (Fin 16)) (count : BitVec 16), capNow s = some i ∧ s.cap.scan = some (i :: l) ∧ (1 ≤ count.toNat ∧
      count.toNat ≤ s.cap.limit ∧ capLasted count.toNat s = true) ∧ l ≠ [] ∧ 2 ^ capOsr s ≤ s.cap.k + 1 ∧
      (let raw := (s.cap.sum + count.toNat + 2 ^ capOsr s / 2) / 2 ^ capOsr s; s.get (F.CAPi_LIM_CMIN i) ≤ raw ∧ raw ≤ s.get (F.CAPi_LIM_CMAX i)) ∧
      s.cap.el[i].fault = false ∧ s.lop[(4 : Fin 5)].running = false ∧ (s.cap.el[i].fresh = false ∧ s.cap.el[i].recal = false) ∧
      s.cap.el[i].neg = 0 ∧ 2 ≤ capNegn s ∧ (let raw := (s.cap.sum + count.toNat + 2 ^ capOsr s / 2) / 2 ^ capOsr s;
      let blc : Nat := s.get (F.CAPi_BL_BL i) / 16; (s.get (F.CAPi_CFG_LEAKTH i) * blc : Nat) ≤ ((blc : Int) - raw) * 1024 ∧
      s.get F.CAP_DEC_TRKWIN * blc ≤ ((blc : Int) - raw).natAbs * 1024 ∧ 0 < ((blc : Int) - raw)) ∧ s.on (F.CAPi_STAT_LEAK i) = false ∧
      capDebn s ≤ s.cap.el[i].leakOn + 1 ∧ s.on (F.CAPi_STAT_DRYV i) = false ∧ s.cap.el[i].leakOn ≤ 14 ∧ NotFired (152 + i.val) s) ∧
    (∃ (s : State) (i : Fin 16) (l : List (Fin 16)) (count : BitVec 16), capNow s = some i ∧ s.cap.scan = some (i :: l) ∧ (1 ≤ count.toNat ∧
      count.toNat ≤ s.cap.limit ∧ capLasted count.toNat s = true) ∧ l ≠ [] ∧ 2 ^ capOsr s ≤ s.cap.k + 1 ∧
      (let raw := (s.cap.sum + count.toNat + 2 ^ capOsr s / 2) / 2 ^ capOsr s; s.get (F.CAPi_LIM_CMIN i) ≤ raw ∧ raw ≤ s.get (F.CAPi_LIM_CMAX i)) ∧
      s.cap.el[i].fault = false ∧ s.lop[(4 : Fin 5)].running = false ∧ (s.cap.el[i].fresh = false ∧ s.cap.el[i].recal = false) ∧
      capNegn s ≤ s.cap.el[i].neg + 1 ∧ (let raw := (s.cap.sum + count.toNat + 2 ^ capOsr s / 2) / 2 ^ capOsr s;
      let blc : Nat := s.get (F.CAPi_BL_BL i) / 16; ((blc : Int) - raw) * 1024 ≤ -((s.get F.CAP_DEC_NEGTH * blc : Nat) : Int))) ∧
    (∃ (s : State) (i : Fin 16) (l : List (Fin 16)) (count : BitVec 16), capNow s = some i ∧ s.cap.scan = some (i :: l) ∧ (1 ≤ count.toNat ∧
      count.toNat ≤ s.cap.limit ∧ capLasted count.toNat s = true) ∧ l ≠ [] ∧ 2 ^ capOsr s ≤ s.cap.k + 1 ∧
      (let raw := (s.cap.sum + count.toNat + 2 ^ capOsr s / 2) / 2 ^ capOsr s; s.get (F.CAPi_LIM_CMIN i) ≤ raw ∧ raw ≤ s.get (F.CAPi_LIM_CMAX i)) ∧
      s.cap.el[i].fault = false ∧ s.lop[(4 : Fin 5)].running = false ∧ (s.cap.el[i].fresh = false ∧ s.cap.el[i].recal = false) ∧
      s.on (F.CAPi_STAT_LEAK i) = false ∧ s.on (F.CAPi_STAT_DRYV i) = false ∧
      (let raw := (s.cap.sum + count.toNat + 2 ^ capOsr s / 2) / 2 ^ capOsr s; let blc : Nat := s.get (F.CAPi_BL_BL i) / 16;
      ((blc : Int) - raw).natAbs * 1024 < s.get F.CAP_DEC_TRKWIN * blc ∧ ((blc : Int) - raw) * 1024 < (s.get (F.CAPi_CFG_LEAKTH i) * blc : Nat) ∧
      -((s.get F.CAP_DEC_NEGTH * blc : Nat) : Int) < ((blc : Int) - raw) * 1024)) ∧
    (∃ (s : State) (i : Fin 16) (l : List (Fin 16)), capNow s = some i ∧ s.cap.scan = some (i :: l) ∧ s.cap.sampled = false ∧
      s.cap.began + 996 ≤ s.clk.ns ∧ l ≠ [] ∧ s.cap.el[i].fails = 1 ∧ s.cap.el[i].fault = false ∧ NotFired (152 + i.val) s) ∧
    (∃ (s : State), (capNow s).isSome = true ∧ s.cap.sampled = false ∧ s.cap.began + 996 ≤ s.clk.ns) ∧
    (∃ (s : State) (high : Bool), (capNow s = none ∨ s.cap.sampled = true ∨ s.clk.ns < s.cap.began + 996)) ∧
    (∃ (s : State) (count : BitVec 16), (capNow s = none ∨ count = 0 ∨ s.cap.limit < count.toNat ∨ capLasted count.toNat s = false)) ∧
    (∃ (s : State), (capNow s = none ∨ capLasted s.cap.limit s = false)) ∧
    (∃ (s : State) (i : Fin 16) (l : List (Fin 16)), capNow s = some i ∧ s.cap.scan = some (i :: l) ∧ capLasted s.cap.limit s = true ∧ l ≠ [] ∧
      s.cap.el[i].fails = 1 ∧ s.cap.el[i].fault = false ∧ NotFired (152 + i.val) s) ∧
    (∃ (s : State) (i : Fin 16) (l : List (Fin 16)) (count : BitVec 16), capNow s = some i ∧ s.cap.scan = some (i :: l) ∧ (1 ≤ count.toNat ∧
      count.toNat ≤ s.cap.limit ∧ capLasted count.toNat s = true) ∧ l ≠ [] ∧ s.cap.el[i].fails = 1 ∧ s.cap.el[i].fault = false ∧
      NotFired (152 + i.val) s ∧ 2 ^ capOsr s ≤ s.cap.k + 1 ∧ (let raw := (s.cap.sum + count.toNat + 2 ^ capOsr s / 2) / 2 ^ capOsr s;
      raw < s.get (F.CAPi_LIM_CMIN i) ∨ s.get (F.CAPi_LIM_CMAX i) < raw)) ∧
    (∃ (s : State) (ticket : Byte) (arg : BitVec 16), slotOn Reg.CAP_ACT s = true ∧ Fresh Reg.CAP_ACT ticket s) ∧
    (∃ (s : State) (ticket : Byte) (arg : BitVec 16), slotOn Reg.CAP_ACT s = true ∧ Fresh Reg.CAP_ACT ticket s ∧
      s.lop[(4 : Fin 5)].running = false ∧ 10 ≤ s.get F.CAP_LEARNT_LEARNT ∧ s.get F.CAP_LEARNT_LEARNT ≤ 60000 ∧ arg.toNat &&& s.get F.CAP_EN_MASK ≠ 0) ∧
    (∃ (s : State) (ticket : Byte) (arg : BitVec 16), slotOn Reg.CAP_ACT s = true ∧ Fresh Reg.CAP_ACT ticket s ∧
      s.lop[(4 : Fin 5)].running = false ∧
      (arg.toNat &&& s.get F.CAP_EN_MASK = 0 ∨ s.get F.CAP_LEARNT_LEARNT < 10 ∨ 60000 < s.get F.CAP_LEARNT_LEARNT)) ∧
    (∃ (s : State) (ticket : Byte) (arg : BitVec 16), slotOn Reg.CAP_ACT s = true ∧ Fresh Reg.CAP_ACT ticket s ∧ s.lop[(4 : Fin 5)].running = true) ∧
    (∃ (s : State) (slot : Fin 16), descP slot 0 s = 5 ∧ s.lop[(4 : Fin 5)].running = true) ∧
    (∃ (s : State) (slot : Fin 16), descP slot 0 s = 5 ∧ s.lop[(4 : Fin 5)].running = false ∧ lopClean 4 slot s = true ∧
      (lopFits (some (lopHostOf slot s)) ((List.range 16).filter (fun i => (descP slot 4 s).testBit i)).length 16 = true) ∧ descAddr slot s % 8 = 0 ∧
      descP slot 4 s < 65536 ∧ (10 ≤ descP slot 5 s ∧ descP slot 5 s ≤ 60000) ∧ descP slot 4 s &&& s.get F.CAP_EN_MASK ≠ 0) ∧
    (∃ (s : State) (ticket : Byte) (arg : BitVec 16), slotOn Reg.CAP_ACT s = true ∧ Fresh Reg.CAP_ACT ticket s ∧
      s.lop[(4 : Fin 5)].running = true ∧ s.lop[(4 : Fin 5)].host = none) ∧
    (∃ (s : State) (ticket : Byte) (arg : BitVec 16), slotOn Reg.CAP_ACT s = true ∧ Fresh Reg.CAP_ACT ticket s ∧ s.lop[(4 : Fin 5)].running = false) ∧
    (∃ (s : State) (i : Fin 16), s.lop[(4 : Fin 5)].running = true ∧ s.lop[(4 : Fin 5)].host = none ∧ s.cap.mask = 2 ^ i.val ∧ 4 ≤ s.cap.el[i].n ∧
      s.cap.el[i].leaked = false ∧ (s.cap.el[i].max - s.cap.el[i].min) * 1024 ≤ s.get F.CAP_DEC_SPREAD * roundDiv s.cap.el[i].sum s.cap.el[i].n) ∧
    (∃ (s : State), s.lop[(4 : Fin 5)].running = false) :=
  ⟨⟨capUpd (fun c => { c with scan := none }) sensing, 3, [7], by decide +kernel⟩,
   ⟨sensing, by decide +kernel⟩,
   ⟨capUpd (fun c => { c with scan := none }) sensing, 3, [7], 5, 0, by decide +kernel⟩,
   ⟨sensing, 5, 0, by decide +kernel⟩,
   ⟨sensing.put F.CAP_MEAS_OSR 1, 3, [7], 400, by decide +kernel⟩,
   ⟨elUpd 3 (fun e => { e with recal := true }) sensing, 3, [7], 300, by decide +kernel⟩,
   ⟨elUpd 3 (fun e => { e with leakOn := 2 }) (sensing.put (F.CAPi_STAT_DRYV 3) 0), 3, [7], 300, by decide +kernel⟩,
   ⟨elUpd 3 (fun e => { e with neg := 3 }) sensing, 3, [7], 500, by decide +kernel⟩,
   ⟨sensing.put (F.CAPi_STAT_DRYV 3) 0, 3, [7], 398, by decide +kernel⟩,
   ⟨elUpd 3 (fun e => { e with fails := 1, last := 400 }) sensing, 3, [7], by decide +kernel⟩,
   ⟨sensing, by decide +kernel⟩,
   ⟨State.reset, true, by decide +kernel⟩,
   ⟨State.reset, 5, by decide +kernel⟩,
   ⟨State.reset, by decide +kernel⟩,
   ⟨elUpd 3 (fun e => { e with fails := 1, last := 400 }) sensing, 3, [7], by decide +kernel⟩,
   ⟨elUpd 3 (fun e => { e with fails := 1, last := 400 }) sensing, 3, [7], 20000, by decide +kernel⟩,
   ⟨sensing, 5, 0x88, by decide +kernel⟩,
   ⟨sensing, 5, 0x88, by decide +kernel⟩,
   ⟨sensing, 5, 0x70, by decide +kernel⟩,
   ⟨sensing.lopUpd 4 (fun l => { l with running := true }), 5, 0x70, by decide +kernel⟩,
   ⟨withDesc [(5, 5)] (sensing.lopUpd 4 (fun l => { l with running := true })), 5, by decide +kernel⟩,
   ⟨withDesc [(2, 0x1000), (5, 5), (6, 0x2000), (8, 64), (9, 0x88), (10, 500)] sensing, 5, by decide +kernel⟩,
   ⟨(capUpd (fun c => { c with mask := 0x88, dur := 10, from_ := some 0 }) sensing).lopUpd 4 (fun l => { l with running := true, planned := 10 }), 5, 0, by decide +kernel⟩,
   ⟨sensing, 5, 0, by decide +kernel⟩,
   ⟨(capUpd (fun c => { c with mask := 8 }) (elUpd 3 (fun e => { e with n := 4, sum := 1600, min := 399, max := 401 }) sensing)).lopUpd 4 (fun l => { l with running := true, planned := 10 }), 3, by decide +kernel⟩,
   ⟨sensing, by decide +kernel⟩⟩

/-- States and operands that meet the hypotheses of each clause of TestAccessPort. -/
theorem witness_TestAccessPort :
    (∃ (s : State) (data pins : BitVec 250), ((List.finRange 4).all (fun r => eState r s == eOFF) = true) ∧
      ((List.finRange 4).all (fun m => !motorEn m s) = true) ∧ s.pwr.low = {}) ∧
    (∃ (s : State) (data pins : BitVec 250), tapBlocked s = true ∧ s.pwr.low = {}) ∧
    (∃ (s : State) (data pins : BitVec 250), s.pwr.low = {}) ∧
    (∃ (s : State), ((List.finRange 4).all (fun r => eState r s == eOFF) = true) ∧ ((List.finRange 4).all (fun m => !motorEn m s) = true) ∧
      s.pwr.low = {}) ∧
    (∃ (s : State), ((List.finRange 4).all (fun r => eState r s == eOFF) = true) ∧ ((List.finRange 4).all (fun m => !motorEn m s) = true) ∧
      s.pwr.low = {}) ∧
    (∃ (s : State), tapBlocked s = true ∧ s.pwr.low = {}) ∧
    (∃ (s : State), tapBlocked s = true ∧ s.pwr.low = {}) ∧
    (∃ (s : State), s.pwr.low = {}) ∧
    (∃ (s : State) (code : BitVec 5), (code = 0x1F ∨ code = 0x0F ∨ (5 ≤ code.toNat ∧ code.toNat < 0x10)) ∧ s.pwr.low = {}) ∧
    (∃ (s : State), s.pwr.low = {}) ∧
    (∃ (s : State) (code : Fin 15), (s.get F.LCS_STAT_STATE = 1 ∨ s.get F.LCS_STAT_STATE = 2)) ∧
    (∃ (s : State) (code : Fin 15), s.get F.LCS_STAT_STATE = 2) ∧
    (∃ (s : State) (code : Fin 15), s.get F.LCS_STAT_STATE = 3) ∧
    (∃ (s : State) (code : Fin 15) (a v : Word) (d : List Byte) (k : Fin 32) (q : BitVec 7) (n : Fin 8) (b : Bool) (u : BitVec 128) (op : DebugOp), debugOpen s = false ∧
      op ∈ ([.memRead a, .memWrite a d, .regRead k, .regWrite k v, .srRead q, .srWrite q v, .capRead n, .capWrite n b u, .pcRead, .pcWrite v] : List DebugOp)) ∧
    (∃ (s : State) (code : Fin 15) (k : Fin 32), debugOpen s = true ∧ halted s = true) ∧
    (∃ (s : State) (code : Fin 15) (k : Fin 32) (v : Word), debugOpen s = true ∧ halted s = true) ∧
    (∃ (s : State) (code : Fin 15) (q : BitVec 7), debugOpen s = true ∧ halted s = true) ∧
    (∃ (s : State) (code : Fin 15) (q : BitVec 7) (v : Word), debugOpen s = true ∧ halted s = true) ∧
    (∃ (s : State) (code : Fin 15) (n : Fin 8), debugOpen s = true ∧ halted s = true) ∧
    (∃ (s : State) (code : Fin 15) (n : Fin 8) (b : Bool) (u : BitVec 128), debugOpen s = true ∧ halted s = true ∧ Cap.wf ⟨b, u⟩ = true) ∧
    (∃ (s : State) (code : Fin 15), debugOpen s = true ∧ halted s = true) ∧
    (∃ (s : State) (code : Fin 15) (v : Word), debugOpen s = true ∧ halted s = true) ∧
    (∃ (s : State) (code : Fin 15) (k : Fin 32) (v : Word) (op : DebugOp), debugOpen s = true ∧ halted s = false ∧
      op ∈ ([.regRead k, .regWrite k v, .pcRead, .pcWrite v] : List DebugOp)) ∧
    (∃ (s : State) (code : Fin 15) (i : Nat), debugOpen s = true ∧ i < 0x20000 ∧ bankServes (0x20000000 + 4 * i) s = true ∧
      isBad (0x20000000 + 4 * i) s = false) ∧
    (∃ (s : State) (code : Fin 15) (i : Nat) (w : Word), debugOpen s = true ∧ i < 0x20000 ∧ bankServes (0x20000000 + 4 * i) s = true ∧
      halted s = false) ∧
    (∃ (s : State), ((List.range 8).all (fun k => mbOwner k s != 6) = true)) ∧
    (∃ (s : State) (k : Fin 8), mbOwner k.val s = 6 ∧ ((List.range 8).all (fun j => j == k.val || mbOwner j s != 6) = true) ∧
      (mapFind s.lim (0x0D0010 + k.val)).getD 0 = 0) :=
  ⟨⟨tapUpd (fun t => { t with boundary := 0x155555555AAAAAAA3333 }) State.reset, 0xF0F0F0F0F0F0F0F0F0F0F0F0F0F0F0F0F0F, 77, by decide +kernel⟩,
   ⟨railUp, 0xF0F0F0F0F0F0F0F0F0F0F0F0F0F0F0F0F0F, 77, by decide +kernel⟩,
   ⟨railUp, 0xF0F0F0F0F0F0F0F0F0F0F0F0F0F0F0F0F0F, 77, by decide +kernel⟩,
   ⟨tapUpd (fun t => { t with boundary := 0x155555555AAAAAAA3333 }) State.reset, by decide +kernel⟩,
   ⟨tapUpd (fun t => { t with boundary := 0x155555555AAAAAAA3333 }) State.reset, by decide +kernel⟩,
   ⟨railUp, by decide +kernel⟩,
   ⟨motorIn 2, by decide +kernel⟩,
   ⟨railUp, by decide +kernel⟩,
   ⟨tapUpd (fun t => { t with instr := 4 }) State.reset, 0x1F, by decide +kernel⟩,
   ⟨tapUpd (fun t => { t with instr := 4 }) State.reset, by decide +kernel⟩,
   ⟨State.reset.put F.LCS_STAT_STATE 2, 3, by decide +kernel⟩,
   ⟨State.reset.put F.LCS_STAT_STATE 2, 3, by decide +kernel⟩,
   ⟨State.reset.put F.LCS_STAT_STATE 3, 3, by decide +kernel⟩,
   ⟨State.reset.put F.LCS_STAT_STATE 2, 3, 4, 5, [], 3, 0, 2, true, 7, .pcRead, by decide +kernel⟩,
   ⟨haltedDbg, 3, 20, by decide +kernel⟩,
   ⟨haltedDbg, 3, 20, 99, by decide +kernel⟩,
   ⟨haltedDbg, 3, 4, by decide +kernel⟩,
   ⟨haltedDbg, 3, 4, 0x100, by decide +kernel⟩,
   ⟨haltedDbg, 3, 0, by decide +kernel⟩,
   ⟨haltedDbg, 3, 2, true, capRoot.bits, by decide +kernel⟩,
   ⟨haltedDbg, 3, by decide +kernel⟩,
   ⟨haltedDbg, 3, 0x107, by decide +kernel⟩,
   ⟨booted, 3, 4, 5, .pcRead, by decide +kernel⟩,
   ⟨powered.setMemWord 0x20000010 0x12345678, 3, 4, by decide +kernel⟩,
   ⟨powered, 3, 4, 0x12345678, by decide +kernel⟩,
   ⟨tapUpd (fun t => { t with session := true }) State.reset, by decide +kernel⟩,
   ⟨tapUpd (fun t => { t with session := true }) (State.reset.put (F.MBk_STAT_OWNER 3) 6), 3, by decide +kernel⟩⟩

/-- States and operands that meet the hypotheses of each clause of RepeatedTickets. -/
theorem witness_RepeatedTickets :
    (∃ (s : State) (ticket : Byte) (arg : BitVec 16) (c : Instr) (act : Nat), (c, act) ∈ [(Instr.devreset ticket arg, Reg.SYS_ACT), (Instr.clkactReturn ticket arg, Reg.SYS_CLKACT), (Instr.reacquire ticket arg, Reg.ANG_ACT), (Instr.compensatorClear ticket arg, Reg.MRV_ACT), (Instr.balanceClear ticket arg, Reg.MRV_ACT), (Instr.protClear ticket arg, Reg.PROT_ACT), (Instr.abort ticket arg, Reg.PROT_ACT), (Instr.restoreph ticket arg, Reg.PROT_ACT), (Instr.unfreeze ticket arg, Reg.EDGE_ACT), (Instr.release ticket arg, Reg.EDGE_ACT), (Instr.rotate ticket arg, Reg.GATH_ACT), (Instr.calslice ticket arg, Reg.GATH_ACT), (Instr.retire ticket arg, Reg.GATH_ACT), (Instr.restore ticket arg, Reg.GATH_ACT), (Instr.start ticket arg, Reg.GATH_ACT), (Instr.retrain ticket arg, Reg.APR_ACT), (Instr.seqreset ticket arg, Reg.APR_ACT), (Instr.cuStart ticket arg, Reg.CNT_ACT), (Instr.cuReset ticket arg, Reg.CNT_ACT), (Instr.startReset ticket arg, Reg.CNT_ACT), (Instr.capture ticket arg, Reg.CNT_ACT), (Instr.swtrig ticket arg, Reg.EVM_ACT), (Instr.trioResetAction ticket arg, Reg.TRIO_ACT), (Instr.kick ticket arg, Reg.TRIO_ACT), (Instr.exec ticket arg, Reg.XSPI_ACT), (Instr.program ticket arg, Reg.LCS_ACT), (Instr.transition ticket arg, Reg.LCS_ACT), (Instr.arver ticket arg, Reg.LCS_ACT), (Instr.revoke ticket arg, Reg.LCS_ACT), (Instr.post ticket arg, Reg.HIF_ACT), (Instr.break ticket arg, Reg.MBX_ACT), (Instr.controllerExec ticket arg, Reg.TW_ACT), (Instr.twReset ticket arg, Reg.TW_ACT), (Instr.request ticket arg, Reg.TW_ACT), (Instr.reconnect ticket arg, Reg.USB_ACT), (Instr.motorRelease ticket arg, Reg.MOT_ACT), (Instr.motorClear ticket arg, Reg.MOT_ACT), (Instr.setpos ticket arg, Reg.FB_ACT), (Instr.scan ticket arg, Reg.CAP_ACT), (Instr.recal ticket arg, Reg.CAP_ACT), (Instr.capAbort ticket arg, Reg.CAP_ACT), (Instr.blockreset ticket arg, Reg.PWR_ACT), (Instr.snap ticket arg, Reg.LOG_ACT), (Instr.fwentry ticket arg, Reg.LOG_ACT)] ∧
      slotOn act s = true ∧ ticket ≠ 0 ∧ ticket = (s.rd act).extractLsb' 24 8) ∧
    (∃ (s : State) (ticket : Byte) (arg : BitVec 16) (c : Instr) (act : Nat) (action : Byte), (c, act, action) ∈ [(Instr.clkactReturn ticket arg, Reg.SYS_CLKACT, 1), (Instr.reacquire ticket arg, Reg.ANG_ACT, 1), (Instr.compensatorClear ticket arg, Reg.MRV_ACT, 1), (Instr.balanceClear ticket arg, Reg.MRV_ACT, 2), (Instr.protClear ticket arg, Reg.PROT_ACT, 1), (Instr.abort ticket arg, Reg.PROT_ACT, 2), (Instr.restoreph ticket arg, Reg.PROT_ACT, 3), (Instr.unfreeze ticket arg, Reg.EDGE_ACT, 2), (Instr.release ticket arg, Reg.EDGE_ACT, 4), (Instr.rotate ticket arg, Reg.GATH_ACT, 1), (Instr.calslice ticket arg, Reg.GATH_ACT, 3), (Instr.retire ticket arg, Reg.GATH_ACT, 4), (Instr.restore ticket arg, Reg.GATH_ACT, 5), (Instr.start ticket arg, Reg.GATH_ACT, 16), (Instr.retrain ticket arg, Reg.APR_ACT, 1), (Instr.seqreset ticket arg, Reg.APR_ACT, 2), (Instr.cuStart ticket arg, Reg.CNT_ACT, 1), (Instr.cuReset ticket arg, Reg.CNT_ACT, 2), (Instr.startReset ticket arg, Reg.CNT_ACT, 3), (Instr.capture ticket arg, Reg.CNT_ACT, 4), (Instr.swtrig ticket arg, Reg.EVM_ACT, 1), (Instr.trioResetAction ticket arg, Reg.TRIO_ACT, 1), (Instr.kick ticket arg, Reg.TRIO_ACT, 2), (Instr.exec ticket arg, Reg.XSPI_ACT, 1), (Instr.program ticket arg, Reg.LCS_ACT, 1), (Instr.transition ticket arg, Reg.LCS_ACT, 2), (Instr.arver ticket arg, Reg.LCS_ACT, 3), (Instr.revoke ticket arg, Reg.LCS_ACT, 4), (Instr.post ticket arg, Reg.HIF_ACT, 1), (Instr.break ticket arg, Reg.MBX_ACT, 1), (Instr.controllerExec ticket arg, Reg.TW_ACT, 1), (Instr.twReset ticket arg, Reg.TW_ACT, 3), (Instr.request ticket arg, Reg.TW_ACT, 2), (Instr.reconnect ticket arg, Reg.USB_ACT, 1), (Instr.motorRelease ticket arg, Reg.MOT_ACT, 3), (Instr.motorClear ticket arg, Reg.MOT_ACT, 1), (Instr.setpos ticket arg, Reg.FB_ACT, 1), (Instr.scan ticket arg, Reg.CAP_ACT, 1), (Instr.recal ticket arg, Reg.CAP_ACT, 3), (Instr.capAbort ticket arg, Reg.CAP_ACT, 4), (Instr.blockreset ticket arg, Reg.PWR_ACT, 1), (Instr.snap ticket arg, Reg.LOG_ACT, 1), (Instr.fwentry ticket arg, Reg.LOG_ACT, 2)] ∧
      slotOn act s = true ∧ Fresh act ticket s) :=
  ⟨⟨powered.wr Reg.LOG_ACT 0x55000001, 0x55, 0x1234, (.snap 0x55 0x1234), Reg.LOG_ACT, by decide +kernel⟩,
   ⟨powered.wr Reg.LOG_ACT 0x55000001, 0x56, 0x1234, (.snap 0x56 0x1234), Reg.LOG_ACT, 1, by decide +kernel⟩⟩

/-- States and operands that meet the hypotheses of each clause of DivisionByZero. -/
theorem witness_DivisionByZero :
    (∃ (s : State) (w : Word), Boundary s ∧ s.trio.core.reg (fRs2 w) = 0) ∧
    (∃ (s : State) (w : Word), Boundary s ∧ s.trio.core.reg (fRs2 w) = 0) ∧
    (∃ (s : State) (w : Word), Boundary s ∧ s.trio.core.reg (fRs2 w) = 0) ∧
    (∃ (s : State) (w : Word), Boundary s ∧ s.trio.core.reg (fRs2 w) = 0) ∧
    (∃ (s : State) (w : Word), Boundary s ∧ s.trio.core.reg (fRs1 w) = 0x80000000 ∧ s.trio.core.reg (fRs2 w) = 0xFFFFFFFF) ∧
    (∃ (s : State) (w : Word), Boundary s ∧ s.trio.core.reg (fRs1 w) = 0x80000000 ∧ s.trio.core.reg (fRs2 w) = 0xFFFFFFFF) :=
  ⟨⟨bootedWith 12 0, 0x05346028, by decide +kernel⟩,
   ⟨bootedWith 12 0, 0x05346029, by decide +kernel⟩,
   ⟨bootedWith 12 0, 0x0534602A, by decide +kernel⟩,
   ⟨bootedWith 12 0, 0x0534602B, by decide +kernel⟩,
   ⟨coreUpd (fun c => c.setReg 20 0x80000000) (bootedWith 12 0xFFFFFFFF), 0x05346028, by decide +kernel⟩,
   ⟨coreUpd (fun c => c.setReg 20 0x80000000) (bootedWith 12 0xFFFFFFFF), 0x0534602A, by decide +kernel⟩⟩

/-- States and operands that meet the hypotheses of each clause of InstructionsKeepCapabilities. -/
theorem witness_InstructionsKeepCapabilities :
    (noAccess (.add 0) = true ∧ CapsOk booted) :=
  by decide +kernel

/-- States and operands that meet the hypotheses of each clause of CanonicalForm. -/
theorem witness_CanonicalForm :
    ((powered.setByte 0x20000000 1).mapsOk = true ∧ (powered.setByte 0x20000000 1).mem ≠ []) :=
  by decide +kernel

end Sys2Proof.Tests
end

section
/-!
PROOFS. A step and the command at the front of the queue (R11, R20, R26).
-/
namespace Sys2Proof.Machine

/-- Every meaning is a next state as it stands, but that of CURRENT_PAIR_COMPLETE, which chooses between two. -/
theorem exec_completes (c : Instr) (s : State) : ∃ t, exec c s = .next t := by
  cases c
  case currentPairComplete m a b =>
    dsimp only [exec, execCurrentPairComplete]
    split <;> exact ⟨_, rfl⟩
  all_goals exact ⟨_, rfl⟩

/-- Settles O1: a step unfolds to the front command's meaning, or to a tick. -/
theorem stepRunsFrontCommand : Obligations.StepRunsFrontCommand :=
  ⟨fun _ _ _ => rfl, exec_completes, fun s h => by simp only [step, h]⟩

end Sys2Proof.Machine
end


section
/-!
PROOFS. Every step keeps the canonical form of the finite maps (R11, R330). `Canon s` says that the three maps of `s` are in canonical form. The
maps change only through `mapPut` and `mapEraseRange`, so each operation of the model takes a canonical state to a canonical one: one lemma
`Canon.f` per operation `f`, composed as `f` composes the operations it calls.
-/
namespace Sys2Proof.Machine

/-- The registers, the values in force and memory are in canonical form. -/
structure Canon (s : State) : Prop where
  regs : mapWf resetWord s.regs = true
  live : mapWf resetWord s.live = true
  mem : mapWf (fun _ => (0 : Byte)) s.mem = true

theorem mapsOk_iff_canon (s : State) : s.mapsOk = true ↔ Canon s := by
  simp only [State.mapsOk, Bool.and_eq_true]
  exact ⟨fun ⟨⟨hr, hl⟩, hm⟩ => ⟨hr, hl, hm⟩, fun ⟨hr, hl, hm⟩ => ⟨⟨hr, hl⟩, hm⟩⟩

/-- What an instruction of the Trio answers is canonical, and what takes effect after it keeps the form. -/
def Res.Canon : Res → Prop
  | .done s f => Machine.Canon s ∧ ∀ {t}, Machine.Canon t → Machine.Canon (f t)
  | .goto _ s | .branch _ s | .skip _ s | .trap _ _ _ s => Machine.Canon s

/-- A meaning answers a next state, in canonical form. -/
def CanonOut (o : Out) : Prop := ∃ t, o = .next t ∧ Canon t

theorem Res.Canon.ite {c : Prop} {_ : Decidable c} {r q : Res} (h : r.Canon) (k : q.Canon) : (if c then r else q).Canon := by
  split <;> assumption

theorem Res.Canon.iteApply {c : Prop} {_ : Decidable c} {f g : State → Res} {t : State} (h : (f t).Canon) (k : (g t).Canon) :
    ((if c then f else g) t).Canon := by
  split <;> assumption

theorem CanonOut.ite {c : Prop} {_ : Decidable c} {o p : Out} (h : CanonOut o) (k : CanonOut p) : CanonOut (if c then o else p) := by
  split <;> assumption

namespace Canon

variable {s : State}

/-! ### Control flow and updates of other fields -/

theorem ite {c : Prop} {_ : Decidable c} {t : State} (h : Canon s) (k : Canon t) : Canon (if c then s else t) := by
  split <;> assumption

theorem dite {c : Prop} {_ : Decidable c} {f : c → State} {g : ¬c → State} (h : ∀ {x}, Canon (f x)) (k : ∀ {x}, Canon (g x)) :
    Canon (if x : c then f x else g x) := by
  split
  · exact h
  · exact k

theorem iteApply {c : Prop} {_ : Decidable c} {f g : State → State} (h : Canon (f s)) (k : Canon (g s)) : Canon ((if c then f else g) s) := by
  split <;> assumption

theorem iteFst {α : Type} {c : Prop} {_ : Decidable c} {p q : State × α} (h : Canon p.1) (k : Canon q.1) : Canon (if c then p else q).1 := by
  split <;> assumption

theorem iteSnd {α : Type} {c : Prop} {_ : Decidable c} {p q : α × State} (h : Canon p.2) (k : Canon q.2) : Canon (if c then p else q).2 := by
  split <;> assumption

theorem foldl {α : Type} {l : List α} {f : State → α → State} (h : Canon s) (hf : ∀ {t x}, Canon t → Canon (f t x)) :
    Canon (l.foldl f s) := by
  induction l generalizing s with
  | nil => exact h
  | cons x l ih => exact ih (hf h)

theorem foldlFst {α β : Type} {l : List α} {p : State × β} {f : State × β → α → State × β} (h : Canon p.1)
    (hf : ∀ {q x}, Canon q.1 → Canon (f q x).1) : Canon (l.foldl f p).1 := by
  induction l generalizing p with
  | nil => exact h
  | cons x l ih => exact ih (hf h)

theorem eqFst {α : Type} {p : State × α} {t : State} {x : α} (h : Canon p.1) (e : p = (t, x)) : Canon t := by
  subst e; exact h

theorem eqSnd {α : Type} {p : α × State} {t : State} {x : α} (h : Canon p.2) (e : p = (x, t)) : Canon t := by
  subst e; exact h

theorem done {f : State → State} (h : Canon s) (hf : ∀ {t}, Canon t → Canon (f t)) : (Res.done s f).Canon := ⟨h, hf⟩
theorem goto {pc : Word} (h : Canon s) : (Res.goto pc s).Canon := h
theorem branch {pc : Word} (h : Canon s) : (Res.branch pc s).Canon := h
theorem skip {last : Word} (h : Canon s) : (Res.skip last s).Canon := h
theorem trap {cause : Nat} {tval : Word} {cap : Option Nat} (h : Canon s) : (Res.trap cause tval cap s).Canon := h
theorem next (h : Canon s) : CanonOut (.next s) := ⟨s, rfl, h⟩

/-- An update of anything but the three maps keeps the canonical form. -/
theorem upd {shadow touch pending timers free rdata busErr clk dom acu sync cu evm log gath lop out phase mrv prot edge par ring apr trio mst boot}
    {lim mbx hif tw avs usb pwr mot mlane fb cap tap} (h : Canon s) :
    Canon ⟨s.regs, s.live, shadow, touch, pending, timers, free, rdata, busErr, clk, dom, acu, sync, cu, evm, log, gath, s.mem, lop, out, phase,
      mrv, prot, edge, par, ring, apr, trio, mst, boot, lim, mbx, hif, tw, avs, usb, pwr, mot, mlane, fb, cap, tap⟩ :=
  ⟨h.regs, h.live, h.mem⟩

/-! ### Machine/State.lean -/

theorem reset : Canon State.reset := ⟨rfl, rfl, rfl⟩

/-! ### Machine/Ops.lean -/

theorem wr {a : Nat} {w : Word} (h : Canon s) : Canon (s.wr a w) := ⟨mapWf_put resetWord _ _ _ h.regs, h.live, h.mem⟩
theorem hw {a : Nat} {op : Word → Word} (h : Canon s) : Canon (s.hw a op) := h.wr.upd
theorem put {f : Fld} {v : Nat} (h : Canon s) : Canon (s.put f v) := h.hw
theorem putI {f : Fld} {v : Int} (h : Canon s) : Canon (s.putI f v) := h.put
theorem putB {f : Fld} {b : Bool} (h : Canon s) : Canon (s.putB f b) := h.put
theorem inc {f : Fld} {k : Nat} (h : Canon s) : Canon (s.inc f k) := h.hw
theorem setBit {f : Fld} {i : Nat} (h : Canon s) : Canon (s.setBit f i) := h.hw
theorem putBit {f : Fld} {i : Nat} {b : Bool} (h : Canon s) : Canon (s.putBit f i b) := .ite h.setBit h.hw
theorem setLive {a : Nat} {w : Word} (h : Canon s) : Canon (s.setLive a w) := ⟨h.regs, mapWf_put resetWord _ _ _ h.live, h.mem⟩
theorem putLive {f : Fld} {v : Nat} (h : Canon s) : Canon (s.putLive f v) := h.put.setLive
theorem showPend {r : Nat} (h : Canon s) : Canon (s.showPend r) := h.putB
theorem store {a : Nat} {w : Word} (h : Canon s) : Canon (s.store a w) := h.wr.foldl fun h => h.upd.showPend
theorem act {a : Nat} {ticket : Byte} {arg : BitVec 16} {action : Byte} {perform : State → State} (h : Canon s)
    (hperform : ∀ {t}, Canon t → Canon (perform t)) : Canon (s.act a ticket arg action perform) :=
  .ite h (hperform h).wr
theorem after {ns : Nat} {c : Instr} (h : Canon s) : Canon (s.after ns c) := h.upd
theorem cancel {c : Instr} (h : Canon s) : Canon (s.cancel c) := h.upd
theorem restart {ns : Nat} {c : Instr} (h : Canon s) : Canon (s.restart ns c) := h.cancel.after
theorem logReq {block code : Nat} {data : List Byte} (h : Canon s) : Canon (s.logReq block code data) := h.upd
theorem fire {src : Nat} (h : Canon s) : Canon (s.fire src) := .ite h.inc h.upd
theorem draw (h : Canon s) : Canon s.draw := h.upd
theorem each {α : Type} {l : List α} {f : α → State → State} (h : Canon s) (hf : ∀ {x t}, Canon t → Canon (f x t)) :
    Canon (s.each l f) :=
  h.foldl hf
theorem when {c : Bool} {f : State → State} (h : Canon s) (hf : ∀ {t}, Canon t → Canon (f t)) : Canon (s.when c f) := .ite (hf h) h
theorem setByte {a : Nat} {b : Byte} (h : Canon s) : Canon (s.setByte a b) := ⟨h.regs, h.live, mapWf_put (fun _ => 0) _ _ _ h.mem⟩
theorem setBytes {a : Nat} {l : List Byte} (h : Canon s) : Canon (s.setBytes a l) := by
  induction l generalizing s a with
  | nil => exact h
  | cons b l ih => exact ih h.setByte
theorem setMemWord {a : Nat} {w : Word} (h : Canon s) : Canon (s.setMemWord a w) := h.setBytes

/-! ### Machine/Attn.lean -/

theorem twUpd {n : Fin 2} {f : TwPort → TwPort} (h : Canon s) : Canon (twUpd n f s) := h.upd
theorem attnKick {n : Fin 2} (h : Canon s) : Canon (attnKick n s) := by
  dsimp only [Machine.attnKick]
  split
  · exact .ite h.restart h
  · exact h.twUpd
  · exact h
theorem twCause {n : Fin 2} {bit : Nat} (h : Canon s) : Canon (twCause n bit s) := .ite h (.ite h.setBit h.setBit.attnKick)
theorem railAttn {r : Fin 4} (h : Canon s) : Canon (railAttn r s) := h.twCause.twCause.each fun h => .ite h.put h

/-! ### Machine/LongOp.lean -/

theorem postWrite {a : Nat} {d : List Byte} (h : Canon s) : Canon (s.postWrite a d) := .ite h h.upd
theorem postRead {a n : Nat} (h : Canon s) : Canon (s.postRead a n) := .ite h h.upd
theorem msixSend {v : Nat} (h : Canon s) : Canon (s.msixSend v) := h.postWrite.upd
theorem sendVector {v : Nat} (h : Canon s) : Canon (s.sendVector v) := .ite h (.ite h.upd h.msixSend)
theorem msixLate {v : Nat} (h : Canon s) : Canon (s.msixLate v) := .ite h.upd.msixSend h
theorem msixWrite {i : Nat} {w : Word} (h : Canon s) : Canon (s.msixWrite i w) := h.upd.msixLate
theorem lopUpd {k : Fin 5} {f : LongOp → LongOp} (h : Canon s) : Canon (s.lopUpd k f) := h.upd
theorem lopMirror {k : Fin 5} {lo hi : Word} (h : Canon s) : Canon (lopMirror k lo hi s) := .ite h.wr.wr (.ite h.wr.wr (.ite h.wr.wr h))
theorem lopWord {k : Fin 5} {state count progress : Nat} (h : Canon s) : Canon (lopWord k state count progress s) := by
  dsimp only [Machine.lopWord]
  split
  · exact h.wr.wr.lopMirror.postWrite
  · exact h.wr.wr.lopMirror
theorem lopStatus {k : Fin 5} {state count : Nat} (h : Canon s) : Canon (lopStatus k state count s) := h.lopWord
theorem lopStart {k : Fin 5} {host : Option LopHost} {planned : Nat} (h : Canon s) : Canon (lopStart k host planned s) :=
  (h.when fun h => h.restart).lopUpd.lopWord
theorem lopRecord {k : Fin 5} {size : Nat} {d : List Byte} (h : Canon s) : Canon (lopRecord k size d s) := by
  dsimp only [Machine.lopRecord]
  refine .lopStatus ?_
  split
  · exact h.postWrite
  · exact h
theorem lopAdvance {k : Fin 5} {by_ : Nat} (h : Canon s) : Canon (lopAdvance k by_ s) := h.lopUpd.lopStatus
theorem lopEnd {k : Fin 5} {state : Nat} (h : Canon s) : Canon (lopEnd k state s) := by
  dsimp only [Machine.lopEnd]
  refine .lopUpd (.cancel ?_)
  split
  · split
    · exact h.lopStatus.logReq.sendVector
    · exact h.lopStatus.logReq
  · exact h.lopStatus.logReq
theorem stageResult {slot : Fin 16} {status result : Nat} (h : Canon s) : Canon (stageResult slot status result s) := h.put.put
theorem lopHostStart {k : Fin 5} {slot : Fin 16} {records size : Nat} {argsOk : Bool} {planned : Nat} {begin_ : State → State} (h : Canon s)
    (hbegin_ : ∀ {t}, Canon t → Canon (begin_ t)) : Canon (lopHostStart k slot records size argsOk planned begin_ s) :=
  .ite h.stageResult (.ite h.stageResult (.ite h.stageResult (hbegin_ h.lopStart.stageResult)))

/-! ### Machine/Mem.lean -/

theorem logLimited {key block code : Nat} {data : List Byte} (h : Canon s) : Canon (s.logLimited key block code data) := by
  dsimp only [State.logLimited]
  split
  · exact h.upd.logReq
  · exact .ite h.upd.logReq h
theorem setTag {a : Nat} {t : Bool} (h : Canon s) : Canon (setTag a t s) := h.upd
theorem setBad {a : Nat} {b : Bool} (h : Canon s) : Canon (setBad a b s) := h.upd
theorem setSoft {a : Nat} {b : Bool} (h : Canon s) : Canon (setSoft a b s) := h.upd
theorem eccClear {lo hi : Nat} (h : Canon s) : Canon (eccClear lo hi s) := h.upd
theorem eccGood {w : Nat} (h : Canon s) : Canon (eccGood w s) := h.eccClear
theorem eccUe {a reader : Nat} (h : Canon s) : Canon (eccUe a reader s) := h.inc.put.logReq
theorem eccCe {a : Nat} (h : Canon s) : Canon (eccCe a s) := h.inc.put.logLimited
theorem eccFix {a n : Nat} (h : Canon s) : Canon (eccFix a n s) := h.each fun h => h.eccCe.setSoft
theorem pokeBytes {a : Nat} {l : List Byte} (h : Canon s) : Canon (pokeBytes a l s) := (h.setBytes.each fun h => h.setTag).each fun h => h.eccGood
theorem partWrite {reader w : Nat} (h : Canon s) : Canon (partWrite reader w s) := .ite h.eccUe.setMemWord.eccGood h.eccFix
theorem agentWrite {reader a : Nat} {l : List Byte} (h : Canon s) : Canon (agentWrite reader a l s) := (h.each fun h => h.partWrite).pokeBytes
theorem undoPush {reader w : Nat} (h : Canon s) : Canon (undoPush reader w s) := (Canon.ite h.eccUe h.eccFix).eccClear.upd.put
theorem undoStore {reader a n : Nat} (h : Canon s) : Canon (undoStore reader a n s) := .ite (h.each fun h => h.undoPush) h
theorem undoVoid {pd : Nat} (h : Canon s) : Canon (undoVoid pd s) := h.upd
theorem wipeBank {pd : Nat} (h : Canon s) : Canon (wipeBank pd s) := ⟨h.regs, h.live, mapWf_eraseRange _ _ _ _ h.mem⟩
theorem windowTouch {off : Nat} (h : Canon s) : Canon (windowTouch off s) := h.upd
theorem memRead {n a : Nat} (h : Canon s) : Canon (memRead n a s).1 := by
  dsimp only [Machine.memRead]
  split
  · exact h
  · exact .iteFst h h.windowTouch
  · exact h
  · exact h
  · refine .iteFst h ?_
    split
    · exact h.eccFix.eccUe
    · exact h.eccFix
theorem memWrite {a : Nat} {l : List Byte} (h : Canon s) : Canon (memWrite a l s).1 := by
  dsimp only [Machine.memWrite]
  split
  · refine .iteFst h ?_
    split
    · exact (Canon.ite h.eccFix h).eccUe
    · exact (Canon.ite h.eccFix h).undoStore.pokeBytes
  · refine .iteFst h ?_
    split
    · exact (Canon.ite h.eccFix h).eccUe
    · exact (Canon.ite h.eccFix h).undoStore.pokeBytes
  · refine .iteFst h ?_
    split
    · exact (Canon.ite h.eccFix h).eccUe
    · exact (Canon.ite h.eccFix h).undoStore.pokeBytes
  · refine .iteFst h ?_
    split
    · exact (Canon.ite h.eccFix h).eccUe
    · exact (Canon.ite h.eccFix h).undoStore.pokeBytes
  · exact h

/-! ### Machine/Gather.lean -/

theorem gUpd {b : Fin 3} {f : Bank → Bank} (h : Canon s) : Canon (gUpd b f s) := by
  dsimp only [Machine.gUpd]
  split <;> exact h.upd
theorem gMark {a : Nat} {b : Fin 3} {i : Nat} {v : Bool} (h : Canon s) : Canon (gMark a b i v s) := by
  dsimp only [Machine.gMark]
  exact h.hw
theorem gSpareBack {b : Fin 3} (h : Canon s) : Canon (gSpareBack b s) := h.when fun h => h.gUpd
theorem gSetSpare {b : Fin 3} {i : Nat} (h : Canon s) : Canon (gSetSpare b i s) := by
  dsimp only [Machine.gSetSpare]
  refine .gSpareBack ?_
  split <;> exact h.put
theorem calPut {b : Fin 3} {i item : Nat} {v : Int} (h : Canon s) : Canon (calPut b i item v s) := h.eccGood.upd
theorem gCompare {b : Fin 3} {k : Nat} {code : Int} {shadow : Option (BitVec 12)} (h : Canon s) : Canon (gCompare b k code shadow s) :=
  .ite h.draw.gUpd h
theorem gTake {b : Fin 3} {k t : Nat} {raw : BitVec 12} {shadow : Option (BitVec 12)} (h : Canon s) : Canon (gTake b k t raw shadow s).1 := h.gCompare
theorem gNoSpare {b : Fin 3} (h : Canon s) : Canon (gNoSpare b s) := .ite h h.put.logReq.gUpd
theorem gShadow {b : Fin 3} {again : Bool} (h : Canon s) : Canon (gShadow b again s) := h.gUpd.restart
theorem gCalibrate {b : Fin 3} {stage : StepStage} (h : Canon s) : Canon (gCalibrate b stage s) := h.gUpd.restart
theorem gStep {b : Fin 3} {kind : StepKind} {c : Nat} (h : Canon s) : Canon (gStep b kind c s) := h.setBit.gUpd.gShadow
theorem gInPlace {b : Fin 3} {kind : StepKind} {c : Nat} (h : Canon s) : Canon (gInPlace b kind c s) := h.setBit.gUpd.gCalibrate
theorem gRotate {b : Fin 3} (h : Canon s) : Canon (gRotate b s) := by
  dsimp only [Machine.gRotate]
  refine .ite ?_ h.gNoSpare
  split
  · exact h.gStep
  · exact h
theorem gNext {b : Fin 3} (h : Canon s) : Canon (gNext b s) := .ite h (Canon.ite h.gRotate h).restart
theorem gFullNext {b : Fin 3} (h : Canon s) : Canon (gFullNext b s) := by
  dsimp only [Machine.gFullNext]
  split
  · exact .ite h.gUpd.gInPlace (.ite h.gUpd.gStep h.gUpd.gNoSpare.putBit)
  · exact h.gUpd.putBit
theorem gFullEnd {state : Nat} (h : Canon s) : Canon (gFullEnd state s) := .ite h.lopEnd h
theorem gFullAbort (h : Canon s) : Canon (gFullAbort s) :=
  .ite (Canon.ite (Canon.ite (Canon.ite h.gUpd h.gUpd.putBit).gUpd (Canon.ite h.gUpd h.gUpd.putBit).gUpd.putBit).gUpd
    (Canon.ite (Canon.ite h.gUpd h.gUpd.putBit).gUpd (Canon.ite h.gUpd h.gUpd.putBit).gUpd.putBit).gUpd.putBit).gFullEnd h
theorem gStepEnd {b : Fin 3} {c took result : Nat} (h : Canon s) : Canon (gStepEnd b c took result s) :=
  have h1 := Canon.ite h.putBit.gUpd h.putBit.gUpd.gNoSpare
  have h2 := h1.when fun h => h.lopRecord.lopAdvance
  .ite (Canon.ite h2.gFullAbort h2.gFullNext).gFullEnd.gNext h1.gNext
theorem gStepDrop {b : Fin 3} (h : Canon s) : Canon (gStepDrop b s) :=
  have h1 := h.putBit.gUpd.cancel.cancel
  have h2 := Canon.ite h1.cancel h1.cancel.gNoSpare
  (Canon.ite h2.gFullNext.gFullEnd h2).gNext
theorem gSliceDown {b : Fin 3} {i : Nat} (h : Canon s) : Canon (gSliceDown b i s) := .ite h.gStepDrop h
theorem gPeriodic {b : Fin 3} (h : Canon s) : Canon (gPeriodic b s) := h.gNext
theorem gToSwap {b : Fin 3} {second : Bool} (h : Canon s) : Canon (gToSwap b second s) := h.gUpd.restart
theorem gShadowComplete {b : Fin 3} {mean : Option Int} (h : Canon s) : Canon (gShadowComplete b mean s) := by
  dsimp only [Machine.gShadowComplete]
  refine .ite h ?_
  split
  · exact .ite h.draw.cancel.gToSwap h.draw.cancel.setBit.logReq.gCalibrate
  · exact .ite h.draw.cancel.gToSwap h.draw.cancel.logReq.gToSwap
  · exact h
theorem gLaneSwap {b : Fin 3} (h : Canon s) : Canon (gLaneSwap b s) := by
  dsimp only [Machine.gLaneSwap]
  refine .ite (.gCalibrate ?_) h
  split
  · exact h.cancel.put.gSetSpare.gUpd
  · exact h.cancel
theorem gRetire {b : Fin 3} {i item : Nat} {v : Int} (h : Canon s) : Canon (gRetire b i item v s) :=
  have h1 := h.gMark.put.logReq
  .ite h1.gSetSpare h1
theorem gStoreCal {b : Fin 3} {i : Nat} {co : List Int} (h : Canon s) : Canon (gStoreCal b i co s) := (h.foldl fun h => .ite h h.calPut).gMark
theorem gCalComplete {b : Fin 3} {coefs : Option (List Int)} (h : Canon s) : Canon (gCalComplete b coefs s) := by
  dsimp only [Machine.gCalComplete]
  refine .ite h ?_
  split
  · split
    · exact h.cancel.upd.gStoreCal.gShadow
    · exact h.cancel.upd.gRetire.gStepEnd
  · split
    · exact h.cancel.upd.gRetire.gStepEnd
    · refine .gStepEnd ?_
      split
      · exact h.cancel.upd.gStoreCal.gMark
      · exact .ite h.cancel.upd.gStoreCal.gMark h.cancel.upd.gStoreCal.gMark.gSetSpare
      · exact .ite h.cancel.upd.gStoreCal h.cancel.upd.gStoreCal.gSetSpare
      · exact .ite h.cancel.upd.gStoreCal h.cancel.upd.gStoreCal.gSetSpare
  · exact h
theorem gLoadFactory {b : Fin 3} {i : Nat} {items : List Nat} (h : Canon s) : Canon (gLoadFactory b i items s) := h.foldl fun h => h.calPut
theorem gRefuse (h : Canon s) : Canon (gRefuse s) := h.put
theorem gathRotate {arg : BitVec 16} (h : Canon s) : Canon (gathRotate arg s) := h.each fun h => .ite h.gRefuse h.gRotate
theorem gFullCal {bs : List (Fin 3)} (h : Canon s) : Canon (gFullCal bs s) := .ite h.gRefuse (h.each fun h => h.gUpd.setBit.gFullNext).gFullEnd
theorem gathFullcal {arg : BitVec 16} (h : Canon s) : Canon (gathFullcal arg s) := .ite h.gRefuse h.lopStart.gFullCal
theorem gSliceAction {arg : BitVec 16} {onSpare onLane onOther : Fin 3 → Nat → State → State} (h : Canon s)
    (honSpare : ∀ {x x1 t}, Canon t → Canon (onSpare x x1 t)) (honLane : ∀ {x x1 t}, Canon t → Canon (onLane x x1 t))
    (honOther : ∀ {x x1 t}, Canon t → Canon (onOther x x1 t)) : Canon (gSliceAction arg onSpare onLane onOther s) := by
  dsimp only [Machine.gSliceAction]
  split
  · exact h.gRefuse
  · exact .ite h.gRefuse (.ite (honSpare h) (.ite (.ite (honLane h) h.gRefuse) (honOther h)))
theorem gathCalslice {arg : BitVec 16} (h : Canon s) : Canon (gathCalslice arg s) :=
  h.gSliceAction (fun h => h.gInPlace) (fun h => h.gStep) (fun h => h)
theorem gathRetire {arg : BitVec 16} (h : Canon s) : Canon (gathRetire arg s) :=
  h.gSliceAction (fun h => h.gMark.gSetSpare) (fun h => h.gStep) (fun h => h.gMark)
theorem gathRestore {arg : BitVec 16} (h : Canon s) : Canon (gathRestore arg s) := by
  dsimp only [Machine.gathRestore]
  split
  · exact h.gRefuse
  · exact .ite h.gRefuse (.ite h.gInPlace h)
theorem seqUpd {n : Fin 16} {f : Seqr → Seqr} (h : Canon s) : Canon (seqUpd n f s) := h.upd
theorem seqGot {n : Fin 16} {v : Int} (h : Canon s) : Canon (seqGot n v s) := .ite h (h.seqUpd.when fun h => h.after)
theorem seqFeed {kind ch : Nat} {v : Int} (h : Canon s) : Canon (seqFeed kind ch v s) := h.each fun h => .ite h.seqGot h
theorem seqRun {n : Fin 16} (h : Canon s) : Canon (seqRun n s) := have h1 := h.seqUpd.put.put; .ite h1 h1.restart
theorem seqTrigger {n : Fin 16} (h : Canon s) : Canon (seqTrigger n s) := .ite h.put h.seqRun
theorem seqTrigKind {n : Fin 16} {kind : Nat} (h : Canon s) : Canon (seqTrigKind n kind s) := .ite h.seqTrigger h
theorem seqSink {j : Nat} (h : Canon s) : Canon (seqSink j s) := h.each fun h => .ite h.seqTrigKind h
theorem gathStart {arg : BitVec 16} (h : Canon s) : Canon (gathStart arg s) := h.seqTrigKind
theorem gathAct {arg : BitVec 16} {action : Byte} (h : Canon s) : Canon (gathAct arg action s) := by
  dsimp only [Machine.gathAct]
  split
  · exact h.gathRotate
  · exact h.gathFullcal
  · exact h.gathCalslice
  · exact h.gathRetire
  · exact h.gathRestore
  · exact h.gathStart
  · exact h.gRefuse
theorem seqCrossing {n : Fin 16} (h : Canon s) : Canon (seqCrossing n s) := .ite (.ite h.seqTrigger.seqUpd h.seqTrigger.wr) h
theorem seqStampWrite {n : Fin 16} {v : Word} (h : Canon s) : Canon (seqStampWrite n v s) := .ite h.wr.seqUpd.put.after h.wr.seqUpd
theorem seqCtlWrite {n : Fin 16} {v : Word} (h : Canon s) : Canon (seqCtlWrite n v s) := have h1 := h.wr; .ite h1.put.seqUpd (.ite h1.seqRun h1)
theorem seqEntWrite {n : Fin 16} {e : Fin 32} {v : Word} (h : Canon s) : Canon (seqEntWrite n e v s) := .ite h.put h.wr
theorem seqDone {n : Fin 16} (h : Canon s) : Canon (seqDone n s) := have h1 := h.put.put.cancel.fire; .ite h1.put h1
theorem seqLevel {n : Fin 16} {level : Option (BitVec 16)} (h : Canon s) : Canon (seqLevel n level s) := .ite h.upd h
theorem seqEntryEnd {n : Fin 16} (h : Canon s) : Canon (seqEntryEnd n s) :=
  have h1 := h.draw.put.putB.put.putI.when fun h => h.setBit
  .ite (.ite h1.put.cancel.putB (.ite h1.seqDone h1.seqUpd)) h
theorem seqTimeout {n : Fin 16} (h : Canon s) : Canon (seqTimeout n s) := .ite h.put.put.fire.logReq h
theorem seqPended {n : Fin 16} (h : Canon s) : Canon (seqPended n s) := .ite h.seqRun h
theorem taUpd {c : Fin 2} {f : Ta → Ta} (h : Canon s) : Canon (taUpd c f s) := h.upd
theorem seqSlot {c : Fin 2} {n : Fin 16} (h : Canon s) : Canon (seqSlot c n s) := (Canon.ite h h.seqUpd).taUpd
theorem taSlotStart {c : Fin 2} (h : Canon s) : Canon (taSlotStart c s) := by
  dsimp only [Machine.taSlotStart]
  refine .ite h.taUpd ?_
  split
  · exact .ite h.taUpd.upd h.taUpd
  · split
    · exact h.seqSlot
    · exact h.taUpd
theorem taSample {c : Fin 2} (h : Canon s) : Canon (taSample c s) := .ite h h.draw.taUpd
theorem taSlotEnd {c : Fin 2} (h : Canon s) : Canon (taSlotEnd c s) := by
  dsimp only [Machine.taSlotEnd]
  split
  · exact h.taUpd
  · exact .dite h.taUpd.after h.taUpd.after
  · exact .ite h.taUpd.seqGot h.taUpd
theorem setLevel {ch : Fin 32} {code : BitVec 16} (h : Canon s) : Canon (setLevel ch code s) := h.upd
theorem totFeed {r : Fin 4} (h : Canon s) : Canon (totFeed r s) := h.seqFeed
theorem motorInputFault {ch : Fin 8} (h : Canon s) : Canon (motorInputFault ch s) := h.setBit.put
theorem execFullcal {via : Via} (h : Canon s) : CanonOut (execFullcal via s) := by
  dsimp only [Machine.execFullcal]
  refine Canon.next ?_
  split
  · exact h.act fun h => h.gathFullcal
  · exact .ite h.gRefuse.stageResult (h.lopHostStart fun h => h.gFullCal)

/-! ### Machine/Rail.lean -/

theorem showRun (h : Canon s) : Canon (showRun s) := h.put
theorem setM {r : Fin 4} {st : Nat} (h : Canon s) : Canon (setM r st s) := h.put.showRun
theorem setE {r : Fin 4} {st : Nat} (h : Canon s) : Canon (setE r st s) := h.put
theorem phUpd {p : Fin 32} {f : Phase → Phase} (h : Canon s) : Canon (phUpd p f s) := h.upd
theorem mrvUpd {r : Fin 4} {f : Mrv → Mrv} (h : Canon s) : Canon (mrvUpd r f s) := h.upd
theorem protUpd {r : Fin 4} {f : Prot → Prot} (h : Canon s) : Canon (protUpd r f s) := h.upd
theorem edgeUpd {r : Fin 4} {f : EdgeSt → EdgeSt} (h : Canon s) : Canon (edgeUpd r f s) := h.upd
theorem parUpd {r : Fin 4} {f : Par → Par} (h : Canon s) : Canon (parUpd r f s) := h.upd
theorem phaseOffAt {r : Fin 4} {p : Fin 32} {t64 : Nat} (h : Canon s) : Canon (phaseOffAt r p t64 s) :=
  .ite h.cancel.cancel.phUpd.restart h.cancel.cancel.phUpd
theorem phaseOff {r : Fin 4} {p : Fin 32} (h : Canon s) : Canon (phaseOff r p s) := h.phaseOffAt
theorem phaseOffMinOn {r : Fin 4} {p : Fin 32} (h : Canon s) : Canon (phaseOffMinOn r p s) := .ite h.cancel.phUpd.restart h.phaseOff
theorem settle {r : Fin 4} {p : Fin 32} (h : Canon s) : Canon (settle r p s) := .ite h h.phUpd
theorem fallAt {r : Fin 4} {p : Fin 32} {t64 : Nat} (h : Canon s) : Canon (fallAt r p t64 s) := .ite h.phaseOffAt.settle.phUpd h.phaseOffAt.settle
theorem fall {r : Fin 4} {p : Fin 32} (h : Canon s) : Canon (fall r p s) := h.fallAt
theorem holdPhase {r : Fin 4} {p : Fin 32} (h : Canon s) : Canon (holdPhase r p s) := h.phUpd.restart
theorem holdEnd {r : Fin 4} (h : Canon s) : Canon (holdEnd r s) := have h1 := h.each fun h => .ite h.phUpd.cancel h; .ite h1.edgeUpd h1.edgeUpd.put
theorem lowHold {r : Fin 4} {obeyMinOn : Bool} (h : Canon s) : Canon (lowHold r obeyMinOn s) :=
  have h1 := (h.each fun h => (Canon.ite h.phaseOffMinOn h.phaseOff).holdPhase).edgeUpd
  .ite h1.restart (.ite h1.edgeUpd h1.holdEnd.put)
theorem showPends (h : Canon s) : Canon (showPends s) := h.each fun h => h.putB
theorem setN {r : Fin 4} {n : Nat} (h : Canon s) : Canon (setN r n s) := h.put.mrvUpd
theorem gloryStop {r : Fin 4} (h : Canon s) : Canon (gloryStop r s) := h.put.mrvUpd
theorem gloryEnd {r : Fin 4} (h : Canon s) : Canon (gloryEnd r s) := .ite h.inc.logReq.cancel.mrvUpd.gloryStop h
theorem mLeave {r : Fin 4} {st : Nat} (h : Canon s) : Canon (mLeave r st s) := h.gloryEnd.cancel.setN.setM.mrvUpd
theorem parAbort {r : Fin 4} {cause : Nat} (h : Canon s) : Canon (parAbort r cause s) := .ite h.logReq.put.put.put.put.cancel.parUpd h
theorem freezeEnd {r : Fin 4} (h : Canon s) : Canon (freezeEnd r s) := h.put.put
theorem ringtestFail {r : Fin 4} (h : Canon s) : Canon (ringtestFail r s) := .ite h.lopEnd h

/-! ### Machine/Prot.lean -/

theorem condPut {r : Fin 4} {f : Nat} {b : Bool} (h : Canon s) : Canon (condPut r f b s) := h.putBit
theorem idleFast {r : Fin 4} (h : Canon s) : Canon (idleFast r s) :=
  ((h.condPut.condPut.condPut.condPut.condPut.when fun h => h.cancel).when fun h => h.cancel).cancel.protUpd.each fun h => h.phUpd
theorem idleAll {r : Fin 4} (h : Canon s) : Canon (idleAll r s) := h.idleFast.put.cancel.cancel.cancel.protUpd.put.each fun h => h.phUpd
theorem protFire {r : Fin 4} {i : Nat} (h : Canon s) : Canon (protFire r i s) := .ite h h.fire.protUpd
theorem setP {r : Fin 4} {p : Nat} (h : Canon s) : Canon (setP r p s) := h.put
theorem limEnd {r : Fin 4} (h : Canon s) : Canon (limEnd r s) := h.put.protUpd.each fun h => h.phUpd
theorem railStop {r : Fin 4} {byOv : Bool} (h : Canon s) : Canon (railStop r byOv s) :=
  have h1 := h.limEnd.inc.cancel
  .ite h1.protFire.protUpd h1.protFire.protUpd.lowHold.mLeave.idleFast.ringtestFail.parAbort.freezeEnd.setE
theorem railLatch {r : Fin 4} (h : Canon s) : Canon (railLatch r s) := h.setP.put.protFire
theorem hiccup {r : Fin 4} {onlyVin : Bool} (h : Canon s) : Canon (hiccup r onlyVin s) := .ite h.setP (.ite h.logReq.railLatch h.put.setP)
theorem respond {r : Fin 4} {code : Nat} {onlyVin byOv : Bool} (h : Canon s) : Canon (respond r code onlyVin byOv s) :=
  have h1 := h.when fun h => h.protUpd
  .ite h1 (.ite (.ite (h1.when fun h => h.put).railLatch (.ite h1.protUpd.hiccup h1.protUpd)) (.ite h1.railStop.railLatch h1.railStop.hiccup.protUpd))
theorem declOne {r : Fin 4} {d : Decl} (h : Canon s) : Canon (declOne r d s) := by
  dsimp only [Machine.declOne]
  refine .protUpd ?_
  split
  · exact h.setBit.railAttn.logReq.upd
  · exact h.setBit.railAttn.logReq
theorem declare {r : Fin 4} {ds : List Decl} (h : Canon s) : Canon (declare r ds s) :=
  have h1 := ((h.each fun h => h.declOne).when fun h => h.protFire).when fun h => h.protFire
  .ite h1.respond h1
theorem setCond {r : Fin 4} {f : Nat} {present : Bool} {val : Int} (h : Canon s) : Canon (setCond r f present val s) :=
  .ite h.declare (.ite h (.ite h.condPut.declare h.condPut))
theorem engage {r : Fin 4} {d : Decl} (h : Canon s) : Canon (engage r d s) :=
  have h1 := h.inc.when fun h => h.setP
  .ite h1.protUpd.declare h1.protUpd
theorem gloryKick {r : Fin 4} (h : Canon s) : Canon (gloryKick r s) := .ite h.after h
theorem protOff {r : Fin 4} {p : Fin 32} (h : Canon s) : Canon (protOff r p s) := h.fall.when fun h => h.gloryKick
theorem ovStart {r : Fin 4} (h : Canon s) : Canon (ovStart r s) := .ite h.protUpd.restart h
theorem ovEnd {r : Fin 4} (h : Canon s) : Canon (ovEnd r s) := h.protUpd.cancel.condPut
theorem ovDue {r : Fin 4} (h : Canon s) : Canon (ovDue r s) := have h1 := Canon.ite h.setCond h; .ite h1 h1.protUpd
theorem uvSample {r : Fin 4} {e : Int} (h : Canon s) : Canon (uvSample r e s) := .ite h (.ite (.ite h h.protUpd.restart) h.protUpd.cancel.setCond)
theorem uvDue {r : Fin 4} (h : Canon s) : Canon (uvDue r s) := have h1 := Canon.ite h.setCond h; .ite h1 h1.protUpd
theorem retimed {since len : Nat} {c : Instr} (h : Canon s) : Canon (retimed since len c s) := h.restart
theorem vthWritten {r : Fin 4} (h : Canon s) : Canon (vthWritten r s) := by
  dsimp only [Machine.vthWritten]
  refine .ite (.retimed ?_) ?_
  · split
    · refine .ite ?_ (.retimed ?_)
      · split
        · exact .ite h h.retimed
        · exact h
      · split
        · exact .ite h h.retimed
        · exact h
    · split
      · exact .ite h h.retimed
      · exact h
  · split
    · refine .ite ?_ (.retimed ?_)
      · split
        · exact .ite h h.retimed
        · exact h
      · split
        · exact .ite h h.retimed
        · exact h
    · split
      · exact .ite h h.retimed
      · exact h
theorem hicWritten {r : Fin 4} (h : Canon s) : Canon (hicWritten r s) := .ite h.retimed h
theorem regEntered {r : Fin 4} (h : Canon s) : Canon (regEntered r s) := .ite h.protUpd.restart.restart h.protUpd.restart
theorem phocSample {r : Fin 4} {p : Fin 32} {i : Int} (h : Canon s) : Canon (phocSample r p i s) :=
  have h1 := (h.when fun h => h.protOff.phUpd).phUpd.condPut
  .ite (.ite (h.when fun h => h.inc).declare h) (.ite h (.ite h1.engage (.ite h1.declare h1)))
theorem tocEngage {r : Fin 4} {i : Int} (h : Canon s) : Canon (tocEngage r i s) := (h.protUpd.each fun h => .ite h.protOff h).engage
theorem tocSample {r : Fin 4} (h : Canon s) : Canon (tocSample r s) :=
  .ite (.ite (h.when fun h => h.inc).declare h) (.ite h (.ite (.ite h (.ite h.condPut.tocEngage h.condPut.declare))
    (.ite h.condPut.protUpd.gloryKick (.ite h.tocEngage h))))
theorem limitFollow {r : Fin 4} (h : Canon s) : Canon (limitFollow r s) := by
  dsimp only [Machine.limitFollow]
  split
  · exact h
  · exact .ite h (h.protUpd.each fun h => h.protOff.phUpd.engage).tocSample
theorem limitWritten {r : Fin 4} (h : Canon s) : Canon (limitWritten r s) := h.protUpd
theorem setOt {r : Fin 4} {c5 c6 : Bool} {mv : Nat} (h : Canon s) : Canon (setOt r c5 c6 mv s) := .ite h.condPut.condPut h.condPut.condPut.declare
theorem tmonSample {r : Fin 4} {code : Nat} (h : Canon s) : Canon (tmonSample r code s) := .ite h.put h.put.protUpd.putB.restart.setOt
theorem tmonMissing {r : Fin 4} (h : Canon s) : Canon (tmonMissing r s) := .ite h.put.protUpd.setCond h
theorem sfResult {r : Fin 4} {present : Bool} (h : Canon s) : Canon (sfResult r present s) := h.setCond
theorem vinSample {r : Fin 4} {mv : Nat} (h : Canon s) : Canon (vinSample r mv s) := .ite h h.protUpd.setCond
theorem vinMissing {r : Fin 4} (h : Canon s) : Canon (vinMissing r s) := .ite h.protUpd.setCond h
theorem satSignal {r : Fin 4} {positive : Bool} (h : Canon s) : Canon (satSignal r positive s) := .ite h.ovEnd.protUpd.setCond h
theorem satEnd {r : Fin 4} (h : Canon s) : Canon (satEnd r s) := .ite h.protUpd.setCond.ovStart h
theorem imoRefresh {r : Fin 4} {p : Fin 32} (h : Canon s) : Canon (imoRefresh r p s) := .ite (.ite h.phUpd.condPut.declare h.phUpd.condPut) h
theorem imoAll (h : Canon s) : Canon (imoAll s) := h.each fun h => h.each fun h => h.imoRefresh
theorem oosBoundary {r : Fin 4} (h : Canon s) : Canon (oosBoundary r s) :=
  have h1 := (h.each fun h => .ite h.phUpd.putBit h).each fun h => h.logReq
  (Canon.ite h1 h1.respond).each fun h => h.putBit
theorem limitBoundary {r : Fin 4} (h : Canon s) : Canon (limitBoundary r s) :=
  have h1 := h.put.protUpd.when fun h => h.setP
  .ite h1.put.logReq.respond h1
theorem hicCancel {r : Fin 4} (h : Canon s) : Canon (hicCancel r s) := h.inc.protFire.protUpd.hiccup
theorem hicok {r : Fin 4} (h : Canon s) : Canon (hicok r s) := .ite h.put h
theorem protOffRail {r : Fin 4} (h : Canon s) : Canon (protOffRail r s) := h.idleAll.limEnd.setP.put.cancel
theorem protOnRail {r : Fin 4} (h : Canon s) : Canon (protOnRail r s) :=
  (Canon.ite h.protUpd.restart.vinMissing h.protUpd.restart.restart).each fun h => h.imoRefresh
theorem respWrite {r : Fin 4} {v : Word} (h : Canon s) : Canon (respWrite r v s) := h.limitWritten.each fun h => .ite h.put h.put.logReq

/-! ### Machine/Marver.lean -/

theorem slewKick {r : Fin 4} {rested : Bool} (h : Canon s) : Canon (slewKick r rested s) := .ite h (.ite (.ite h.cancel h.restart) (.ite h h.restart))
theorem vsetApply {r : Fin 4} {src v : Nat} (h : Canon s) : Canon (vsetApply r src v s) := h.put.put.mrvUpd.slewKick
theorem vsetUndo {r : Fin 4} (h : Canon s) : Canon (vsetUndo r s) := by
  dsimp only [Machine.vsetUndo]
  split
  · exact h.put.put.put.cancel.after
  · exact h.put.put.put.cancel
theorem vsetArrive {r : Fin 4} {src v : Nat} (h : Canon s) : Canon (vsetArrive r src v s) := by
  dsimp only [Machine.vsetArrive]
  refine .ite h.inc (.ite h.inc.logReq ?_)
  split
  · exact .ite (.ite h.inc.vsetUndo.vsetApply h.inc) h.vsetApply
  · exact h.vsetApply
theorem gloryStart {r : Fin 4} (h : Canon s) : Canon (gloryStart r s) := .ite (h.mrvUpd.each fun h => h.phUpd).put.restart h
theorem enterRamp {r : Fin 4} (h : Canon s) : Canon (enterRamp r s) := h.mrvUpd.setM.slewKick.gloryStart
theorem enterReg {r : Fin 4} (h : Canon s) : Canon (enterReg r s) := h.setM.regEntered.gloryStart
theorem showBal {r : Fin 4} (h : Canon s) : Canon (showBal r s) := h.each fun h => h.putI
theorem enterPrebias {r : Fin 4} {keepT : Bool} (h : Canon s) : Canon (enterPrebias r keepT s) :=
  (h.mrvUpd.each fun h => h.phUpd).showBal.put.put.put.put.setM.setN.cancel.slewKick.ovStart
theorem regAfterPrebias {r : Fin 4} (h : Canon s) : Canon (regAfterPrebias r s) := .ite h.mrvUpd.enterReg h.mrvUpd.enterReg.restart
theorem slewStep {r : Fin 4} (h : Canon s) : Canon (slewStep r s) :=
  have h1 := h.put
  .ite h (.ite (.ite h.regAfterPrebias h) (.ite (.ite h.mrvUpd.setM.gloryStart.restart (.ite h.enterReg h))
    (.ite (.ite h1.mrvUpd.setM.gloryStart.restart (.ite h1.enterReg h1)) h1.restart)))
theorem dacLoad {r : Fin 4} (h : Canon s) : Canon (dacLoad r s) := h.put
theorem ffMark {r : Fin 4} (h : Canon s) : Canon (ffMark r s) := .ite h.put.logReq h
theorem ffGuardChange {r : Fin 4} {before : Bool} (h : Canon s) : Canon (ffGuardChange r before s) := .ite h.restart (.ite h.put.cancel h)
theorem vinRail {r : Fin 4} {code : Nat} (h : Canon s) : Canon (vinRail r code s) :=
  have h1 := Canon.ite h.mrvUpd.put h.mrvUpd.ffMark
  (Canon.ite h1.restart h1).vinSample
theorem vinResult {code : Nat} (h : Canon s) : Canon (vinResult code s) := h.put.upd.restart.each fun h => h.vinRail
theorem compensate {r : Fin 4} {e add : Int} (h : Canon s) : Canon (compensate r e add s) := h.mrvUpd
theorem ringInject {r : Fin 4} (h : Canon s) : Canon (ringInject r s) := .ite h.upd h
theorem ringCorrelate {r : Fin 4} (h : Canon s) : Canon (ringCorrelate r s) := by
  dsimp only [Machine.ringCorrelate]
  refine .ite ?_ h
  split
  · exact h
  · exact h.upd
theorem clearBal {r : Fin 4} {ps : List (Fin 32)} (h : Canon s) : Canon (clearBal r ps s) := (h.each fun h => h.phUpd).showBal
theorem balanceSample {r : Fin 4} {p : Fin 32} {i : Int} (h : Canon s) : Canon (balanceSample r p i s) := h.phUpd.mrvUpd.putI.phUpd.showBal.tocSample
theorem mrvClear {arg : BitVec 16} (h : Canon s) : Canon (mrvClear arg s) := h.mrvUpd
theorem mrvBalClear {arg : BitVec 16} (h : Canon s) : Canon (mrvBalClear arg s) := h.clearBal
theorem mrvAct {arg : BitVec 16} {action : Byte} (h : Canon s) : Canon (mrvAct arg action s) := by
  dsimp only [Machine.mrvAct]
  split
  · exact h.mrvClear
  · exact h.mrvBalClear
  · exact h
theorem vshostWrite {r : Fin 4} {v : Word} (h : Canon s) : Canon (vshostWrite r v s) := h.wr.vsetArrive
theorem vspmbWrite {r : Fin 4} {v : Word} (h : Canon s) : Canon (vspmbWrite r v s) := h.wr.vsetArrive
theorem updWrite {r : Fin 4} {v : Word} (h : Canon s) : Canon (updWrite r v s) := .ite h.put.upd h.put
theorem updDiscard {r : Fin 4} (h : Canon s) : Canon (updDiscard r s) := (h.foldl fun h => h.wr).put.upd.put.when fun h => h.logReq

/-! ### Machine/Edge.lean -/

theorem setOff {p : Fin 32} {t : Nat} (h : Canon s) : Canon (setOff p t s) := h.phUpd.restart
theorem requestTons {r : Fin 4} {dmax tsw : Nat} (h : Canon s) : Canon (requestTons r dmax tsw s) := h.each fun h => h.phUpd
theorem moveOff {r : Fin 4} {p : Fin 32} (h : Canon s) : Canon (moveOff r p s) := by
  dsimp only [Machine.moveOff]
  split
  · exact .ite (.ite h h.setOff) h
  · exact h
theorem moveOffs {r : Fin 4} (h : Canon s) : Canon (moveOffs r s) := .ite h (h.each fun h => h.moveOff)
theorem pipeCommit {r : Fin 4} (h : Canon s) : Canon (pipeCommit r s) := by
  dsimp only [Machine.pipeCommit]
  split
  · exact .ite h.mrvUpd.put.requestTons.moveOffs h
  · exact h
theorem issue {r : Fin 4} {p : Fin 32} {k on c : Nat} {stretch : Bool} (h : Canon s) : Canon (issue r p k on c stretch s) := h.phUpd.cancel.setOff
theorem aimSlot {r : Fin 4} {p : Fin 32} (h : Canon s) : Canon (aimSlot r p s) := by
  dsimp only [Machine.aimSlot]
  split
  · exact h.phUpd
  · exact h
theorem onEdgeCommit {p : Fin 32} (h : Canon s) : Canon (onEdgeCommit p s) := by
  dsimp only [Machine.onEdgeCommit]
  split
  · exact h
  · refine .ite h (.ite h.aimSlot.phUpd (.ite h.aimSlot.phUpd ?_))
    split <;> exact h.aimSlot.inc.phUpd
theorem slotCrossing {p : Fin 32} (h : Canon s) : Canon (slotCrossing p s) := by
  dsimp only [Machine.slotCrossing]
  split
  · exact h
  · split
    · exact h
    · refine .ite h (.ite h.mrvUpd.phUpd (.ite h.mrvUpd.phUpd.inc ?_))
      split
      · exact h.mrvUpd.phUpd.issue
      · exact h.mrvUpd.phUpd
theorem offEdge {p : Fin 32} (h : Canon s) : Canon (offEdge p s) := by
  dsimp only [Machine.offEdge]
  refine .ite ?_ h
  split
  · exact h.fallAt
  · exact h.phaseOffAt.phUpd
theorem minOffEnd {p : Fin 32} (h : Canon s) : Canon (minOffEnd p s) := by
  dsimp only [Machine.minOffEnd]
  refine .ite h.phUpd ?_
  split
  · exact .ite h.phUpd h.phUpd.phUpd
  · split
    · exact h.phUpd.phUpd
    · exact (Canon.ite h.phUpd.phUpd (.ite h.phUpd.phUpd h.phUpd)).gloryKick
theorem minOnEnd {p : Fin 32} (h : Canon s) : Canon (minOnEnd p s) := by
  dsimp only [Machine.minOnEnd]
  refine .ite ?_ h
  split
  · exact h.phaseOff.phUpd
  · exact h.fall
  · exact h.phaseOff.phUpd
theorem forceEnd {r : Fin 4} {p : Fin 32} (h : Canon s) : Canon (forceEnd r p s) := .ite h.fall h
theorem forceEndAll {r : Fin 4} (h : Canon s) : Canon (forceEndAll r s) := h.each fun h => h.forceEnd
theorem forceOn {r : Fin 4} {p : Fin 32} (h : Canon s) : Canon (forceOn r p s) := h.phUpd.cancel.restart.mrvUpd
theorem gloryWalk {r : Fin 4} {elig : List (Fin 32)} {n left : Nat} (h : Canon s) : Canon (gloryWalk r elig n left s) := by
  induction n generalizing s left with
  | zero => exact h
  | succ n ih =>
    cases left with
    | zero => exact h
    | succ left =>
      dsimp only [Machine.gloryWalk]
      refine .ite h ?_
      split
      · exact h
      · exact .ite (ih h.mrvUpd) (.ite (ih h.mrvUpd.mrvUpd) (.ite (ih h.mrvUpd.forceOn) h.mrvUpd.forceOn.restart))
theorem gloryStep {r : Fin 4} (h : Canon s) : Canon (gloryStep r s) := .ite h (.ite h h.gloryWalk)
theorem glmaxRelease {p : Fin 32} (h : Canon s) : Canon (glmaxRelease p s) := by
  dsimp only [Machine.glmaxRelease]
  split
  · exact h
  · exact .ite h.mrvUpd.fall.gloryKick h
theorem uvAssert {r : Fin 4} (h : Canon s) : Canon (uvAssert r s) := .ite h h.put.put.inc.mrvUpd.gloryStart.cancel.gloryStep
theorem uvRelease {r : Fin 4} (h : Canon s) : Canon (uvRelease r s) := h.put.forceEndAll.gloryEnd
theorem restOne {r : Fin 4} {p : Fin 32} (h : Canon s) : Canon (restOne r p s) := .ite h (.ite h.phUpd (.ite h h.phUpd))
theorem restAll {r : Fin 4} (h : Canon s) : Canon (restAll r s) := h.when fun h => h.each fun h => h.restOne
theorem blankOne {r : Fin 4} {p : Fin 32} (h : Canon s) : Canon (blankOne r p s) := .ite h (.ite (.ite h.phaseOffMinOn h.fall) (.ite h.restOne h))
theorem unblankOne {r : Fin 4} {p : Fin 32} (h : Canon s) : Canon (unblankOne r p s) := .ite h h.phUpd
theorem blankFollow {r : Fin 4} (h : Canon s) : Canon (blankFollow r s) :=
  .ite h (.ite (h.put.each fun h => h.blankOne) (h.put.each fun h => h.unblankOne))
theorem ovAssert {r : Fin 4} (h : Canon s) : Canon (ovAssert r s) :=
  have h1 := h.put.put.inc.inc
  .ite h (Canon.ite h1.forceEndAll h1.blankFollow).ovStart
theorem ovHoldEnd {r : Fin 4} (h : Canon s) : Canon (ovHoldEnd r s) := .ite h (.ite h.holdEnd (h.each fun h => .ite h.phUpd h))
theorem ovQuiet {r : Fin 4} (h : Canon s) : Canon (ovQuiet r s) := h.put.ovEnd.blankFollow.protUpd.ovHoldEnd
theorem ovRelease {r : Fin 4} (h : Canon s) : Canon (ovRelease r s) := h.ovQuiet.gloryKick
theorem cmpOff {r : Fin 4} (h : Canon s) : Canon (cmpOff r s) := h.put.ovQuiet
theorem lowHoldEnd {r : Fin 4} (h : Canon s) : Canon (lowHoldEnd r s) := .ite h.holdEnd.gloryStart h
theorem freeze {r : Fin 4} (h : Canon s) : Canon (freeze r s) :=
  .ite h (.ite h.put.edgeUpd (h.put.edgeUpd.put.inc.each fun h => h.phUpd).ringtestFail.parAbort)
theorem unfreeze {r : Fin 4} (h : Canon s) : Canon (unfreeze r s) := .ite h.freezeEnd h
theorem othersOff {r : Fin 4} {obeyMinOn : Bool} (h : Canon s) : Canon (othersOff r obeyMinOn s) :=
  h.each fun h => .ite (Canon.ite h.phaseOffMinOn h.phaseOff).phUpd h.phUpd
theorem heldOff {r : Fin 4} (h : Canon s) : Canon (heldOff r s) := .ite h (h.each fun h => h.phaseOff.cancel.holdPhase).edgeUpd.restart
theorem inert {r : Fin 4} (h : Canon s) : Canon (inert r s) :=
  .ite h (Canon.ite h h.heldOff.protUpd.lowHold.mLeave.idleFast.ringtestFail.parAbort.freezeEnd).othersOff.edgeUpd.setE.logReq
theorem release {r : Fin 4} (h : Canon s) : Canon (release r s) := .ite h (Canon.ite h.setE h.edgeUpd.setE).logReq
theorem edgeAct {arg : BitVec 16} {action : Byte} (h : Canon s) : Canon (edgeAct arg action s) := by
  dsimp only [Machine.edgeAct]
  split
  · exact h.freeze
  · exact h.unfreeze
  · exact h.inert
  · exact h.release
  · exact h
theorem railEnable {r : Fin 4} (h : Canon s) : Canon (railEnable r s) := by
  dsimp only [Machine.railEnable]
  refine .ite h ?_
  split
  · exact (h.put.setBit.when fun h => h.setBit).logReq
  · exact h.put.edgeUpd.setE.protOnRail.ffGuardChange
theorem railDisable {r : Fin 4} (h : Canon s) : Canon (railDisable r s) :=
  .ite h.put (Canon.ite h h.protUpd.lowHold).protOffRail.mLeave.ringtestFail.parAbort.freezeEnd.othersOff.put.edgeUpd.setE.cmpOff.ffGuardChange
theorem edgeCtlWrite {r : Fin 4} {v : Word} (h : Canon s) : Canon (edgeCtlWrite r v s) :=
  have h1 := Canon.ite h h.store.showPends
  .ite h1.railEnable h1.railDisable
theorem edgeMapWrite {r : Fin 4} {a : Nat} {v : Word} (h : Canon s) : Canon (edgeMapWrite r a v s) := .ite h.put.logReq h.wr
theorem prebiasEntry {r : Fin 4} (h : Canon s) : Canon (prebiasEntry r s) := by
  dsimp only [Machine.prebiasEntry]
  split
  · exact .ite h.edgeUpd.setE.enterPrebias h
  · exact h
theorem enrBoundary {r : Fin 4} (h : Canon s) : Canon (enrBoundary r s) := by
  dsimp only [Machine.enrBoundary]
  split
  · exact .ite h.put.edgeUpd.prebiasEntry h.prebiasEntry
  · exact h.prebiasEntry
theorem hicRestart {r : Fin 4} (h : Canon s) : Canon (hicRestart r s) :=
  have h1 := h.protUpd
  .ite h1.hicCancel (.ite h1.setP.logReq.put.edgeUpd.setE.prebiasEntry h1)
theorem midNow {r : Fin 4} {p : Fin 32} (h : Canon s) : Canon (midNow r p s) := .ite h h.phaseOff.phUpd
theorem protClear {arg : BitVec 16} (h : Canon s) : Canon (protClear arg s) :=
  have h1 := (h.logReq.put.each fun h => h.midNow).mLeave.protOffRail.setE
  .ite h (.ite h.put.logReq (.ite h1.cmpOff.ffGuardChange h1.cmpOff.ffGuardChange.put))
theorem protAbort {arg : BitVec 16} (h : Canon s) : Canon (protAbort arg s) := .ite h.railLatch h
theorem protRestore {arg : BitVec 16} (h : Canon s) : Canon (protRestore arg s) := by
  dsimp only [Machine.protRestore]
  refine .ite h ?_
  split
  · exact .ite h.put.logReq h.phUpd
  · exact .ite h.put.logReq h.putBit
theorem protAct {arg : BitVec 16} {action : Byte} (h : Canon s) : Canon (protAct arg action s) := by
  dsimp only [Machine.protAct]
  split
  · exact h.protClear
  · exact h.protAbort
  · exact h.protRestore
  · exact h
theorem satRun {r : Fin 4} {e : Int} (h : Canon s) : Canon (satRun r e s) := .ite h.upd.mrvUpd.satEnd h.upd.mrvUpd
theorem vSaturation {r : Fin 4} {positive : Bool} (h : Canon s) : Canon (vSaturation r positive s) := h.setBit.logReq.satSignal
theorem mergedSample {r : Fin 4} {e0 : Int} (h : Canon s) : Canon (mergedSample r e0 s) :=
  have h1 := h.mrvUpd.satRun
  have h2 := Canon.ite h1.vSaturation (.ite h1.satSignal h1)
  have h3 := h2.uvSample
  .ite h2 (.ite (.ite h3.enterRamp h3) (.ite h3.ringInject.compensate.ringCorrelate h3))
theorem imonOpen {p : Fin 32} (h : Canon s) : Canon (imonOpen p s) := h.setBit.put.logReq.phUpd.each fun h => h.imoRefresh.showBal
theorem imonRun {p : Fin 32} {code : Nat} {i : Int} (h : Canon s) : Canon (imonRun p code i s) := .ite h.upd.imonOpen h.upd
theorem iSample {p : Fin 32} {code : Nat} (h : Canon s) : Canon (iSample p code s) := by
  dsimp only [Machine.iSample]
  split
  · exact h.imonRun.phUpd.phUpd
  · exact
      have h1 := h.imonRun.phUpd.phocSample.when fun h => h.phUpd.balanceSample
      .ite h1.phUpd h1
theorem vSample {r : Fin 4} {k : Fin 8} {raw : BitVec 12} {shadow : Option (BitVec 12)} (h : Canon s) : Canon (vSample r k raw shadow s) :=
  h.gTake.upd.draw.seqFeed.seqFeed.mergedSample
theorem pSample {p : Fin 32} {raw : BitVec 12} {shadow : Option (BitVec 12)} (h : Canon s) : Canon (pSample p raw shadow s) :=
  h.gTake.upd.seqFeed.iSample
theorem execMergedSample {r : Fin 4} {x : Conversion} (h : Canon s) : CanonOut (execMergedSample r x s) := by
  dsimp only [Machine.execMergedSample]
  refine Canon.next ?_
  split
  · exact .ite h.vSample h
  · exact h
theorem execFreeze {r : Fin 4} {ticket : Option Byte} (h : Canon s) : CanonOut (execFreeze r ticket s) := by
  dsimp only [Machine.execFreeze]
  refine Canon.next ?_
  split
  · exact h.act fun h => h.freeze
  · exact h.freeze
theorem execInert {r : Fin 4} {ticket : Option Byte} (h : Canon s) : CanonOut (execInert r ticket s) := by
  dsimp only [Machine.execInert]
  refine Canon.next ?_
  split
  · exact h.act fun h => h.inert
  · exact h.inert

/-! ### Machine/MotFault.lean -/

theorem motUpd {m : Fin 4} {f : Motor → Motor} (h : Canon s) : Canon (motUpd m f s) := h.upd
theorem motEnter {m : Fin 4} {st : Nat} (h : Canon s) : Canon (motEnter m st s) := h.put.motUpd
theorem motCarrierOff {m : Fin 4} (h : Canon s) : Canon (motCarrierOff m s) := h.cancel.cancel.cancel.motUpd
theorem motDeclare {m : Fin 4} {fs : List Nat} {cur : Int} (h : Canon s) : Canon (motDeclare m fs cur s) :=
  have h1 := (h.each fun h => h.setBit.logReq).when fun h => h.fire
  .ite h1.motEnter.motCarrierOff.put h1
theorem motWatch {m : Fin 4} {cur : Int} {old : Nat} (h : Canon s) : Canon (motWatch m cur old s) := h.put.motDeclare
theorem motCheck {m : Fin 4} (h : Canon s) : Canon (motCheck m s) := h.motWatch
theorem motSetCond {m : Fin 4} {f : Nat} {present : Bool} {cur : Int} (h : Canon s) : Canon (motSetCond m f present cur s) := h.putBit.motWatch
theorem motWatchAll (h : Canon s) : Canon (motWatchAll s) := .ite (h.each fun h => .ite h.motCheck h) h

/-! ### Machine/Parison.lean -/

theorem parDrop {r : Fin 4} {reason seq : Nat} (h : Canon s) : Canon (parDrop r reason seq s) := h.inc.logReq
theorem parArm {r : Fin 4} {f : Forecast} (h : Canon s) : Canon (parArm r f s) := h.put.put.put.inc.parUpd
theorem parTake {r : Fin 4} {seq : Nat} {delta : Int} {conf lead ramp : Nat} (h : Canon s) : Canon (parTake r seq delta conf lead ramp s) :=
  have h1 := (h.when fun h => h.putLive.parUpd).fire
  .ite h.parDrop (.ite h1.parArm (.ite h1.inc.parArm (h1.when fun h => h.inc).parUpd.put))
theorem parBoundary {r : Fin 4} (h : Canon s) : Canon (parBoundary r s) := by
  dsimp only [Machine.parBoundary]
  split
  · exact .ite h (.ite h.parUpd.put h)
  · exact h
theorem parShow {r : Fin 4} {f : Forecast} (h : Canon s) : Canon (parShow r f s) := h.putI.putI.parUpd
theorem parAdvance {r : Fin 4} {f : Forecast} (h : Canon s) : Canon (parAdvance r f s) :=
  .ite h (.ite (h.parUpd.parShow.when fun h => h.after) h.parShow)
theorem parCycle {r : Fin 4} (h : Canon s) : Canon (parCycle r s).1 := by
  dsimp only [Machine.parCycle]
  split
  · exact h
  · exact .iteFst h h.parAdvance
theorem parRampStart {r : Fin 4} (h : Canon s) : Canon (parRampStart r s) := by
  dsimp only [Machine.parRampStart]
  split
  · exact
      have h1 := Canon.ite h.parUpd.put h.parUpd.put.parUpd.put
      .ite (.ite h1.parShow.after h1.parAdvance) h
  · exact h
theorem parRampComplete {r : Fin 4} (h : Canon s) : Canon (parRampComplete r s) := by
  dsimp only [Machine.parRampComplete]
  split
  · exact .ite h.parUpd.put.parShow.restart h
  · exact h
theorem parIdle {r : Fin 4} (h : Canon s) : Canon (parIdle r s) := by
  dsimp only [Machine.parIdle]
  split
  · exact h.put.put.put.put.parUpd
  · exact .ite h.put.put.put.put.parUpd.parDrop (.ite h.put.put.put.put.parUpd.parArm.parRampStart h.put.put.put.put.parUpd.parArm)
theorem parHandoff {r : Fin 4} (h : Canon s) : Canon (parHandoff r s) := .ite h.mrvUpd.parIdle h
theorem parUnwind {r : Fin 4} (h : Canon s) : Canon (parUnwind r s) := by
  dsimp only [Machine.parUnwind]
  split
  · exact .ite h.put.fire.inc.logReq.cancel.parAdvance h
  · exact h
theorem parUnwindComplete {r : Fin 4} (h : Canon s) : Canon (parUnwindComplete r s) := .ite h.parUpd.parIdle h

/-! ### Machine/Angle.lean -/

theorem domUpd {d : Fin 8} {f : Domain → Domain} (h : Canon s) : Canon (domUpd d f s) := h.upd
theorem angRefuse {idx a : Nat} {flag : Fld} (h : Canon s) : Canon (angRefuse idx a flag s) := h.put.logReq
theorem acuUpd {k : Fin 16} {f : Acu → Acu} (h : Canon s) : Canon (acuUpd k f s) := h.upd
theorem acuShow {k : Fin 16} (h : Canon s) : Canon (acuShow k s) := h.putB
theorem acuRaise {k : Fin 16} (h : Canon s) : Canon (acuRaise k s) := h.put.acuUpd
theorem acuDisarm {k : Fin 16} (h : Canon s) : Canon (acuDisarm k s) := h.acuUpd.acuShow
theorem acuAdvance {k : Fin 16} (h : Canon s) : Canon (acuAdvance k s) := h.wr.when fun h => h.put
theorem acuAfter {k : Fin 16} (h : Canon s) : Canon (acuAfter k s) := .ite h.acuAdvance h.acuDisarm
theorem acuFire {k : Fin 16} (h : Canon s) : Canon (acuFire k s) := .ite h (.ite h.acuRaise.acuUpd (.ite h.acuRaise.acuAfter h))
theorem acuArmed {k : Fin 16} (h : Canon s) : Canon (acuArmed k s) :=
  have h1 := h.acuShow
  .ite h1 (.ite (.ite h1.put.after h1.put.acuAfter) (.ite h1.after h1))
theorem acuStampWrite {k : Fin 16} {v : Word} (h : Canon s) : Canon (acuStampWrite k v s) := .ite h.acuUpd.wr.acuShow h.acuUpd.wr.acuArmed
theorem acuCtlWrite {k : Fin 16} {v : Word} (h : Canon s) : Canon (acuCtlWrite k v s) := .ite h.wr.acuArmed h.wr.acuShow
theorem acuStatus {d : Fin 8} {bit : Nat} (h : Canon s) : Canon (acuStatus d bit s) := h.each fun h => .ite h.acuRaise h
theorem holdoverEnter {d : Fin 8} (h : Canon s) : Canon (holdoverEnter d s) := h.put.setBit.motWatchAll.logReq.domUpd.acuStatus
theorem refMissing {d : Fin 8} (h : Canon s) : Canon (refMissing d s) := .ite h.holdoverEnter h
theorem lostEnter {d : Fin 8} (h : Canon s) : Canon (lostEnter d s) := .ite h.put.setBit.logReq.domUpd.acuStatus h
theorem lockedEnter {d : Fin 8} (h : Canon s) : Canon (lockedEnter d s) := h.put.logReq.domUpd.acuStatus
theorem acquireAfresh {d : Fin 8} (h : Canon s) : Canon (acquireAfresh d s) := h.put.motWatchAll.domUpd
theorem refReject {d : Fin 8} (h : Canon s) : Canon (refReject d s) := h.inc.acuStatus
theorem chgFault {d : Fin 8} {code : Nat} (h : Canon s) : Canon (chgFault d code s) := h.put.logReq
theorem reacquire {arg : BitVec 16} (h : Canon s) : Canon (reacquire arg s) := .ite h.domUpd (.ite h.domUpd.acquireAfresh h)
theorem railLoad {r : Fin 4} (h : Canon s) : Canon (railLoad r s) :=
  (h.upd.foldl fun h => .ite h.mrvUpd h.setLive).setLive.showPends.ffGuardChange.slewKick.edgeUpd
theorem changeN {r : Fin 4} {old : List (Fin 32)} {n : Nat} (h : Canon s) : Canon (changeN r old n s) :=
  ((h.setN.each fun h => h.phUpd.settle).each fun h => h.phUpd).showBal.tocSample
theorem countBoundary {r : Fin 4} {old : List (Fin 32)} {iphase nmin shedhys : Nat} (h : Canon s) :
    Canon (countBoundary r old iphase nmin shedhys s) :=
  .ite h.mrvUpd h.mrvUpd.mrvUpd.put.changeN
theorem freezeBoundary {r : Fin 4} (h : Canon s) : Canon (freezeBoundary r s) := .ite (.ite h.put.edgeUpd.restart h.put.edgeUpd) h
theorem slotBoundary {r : Fin 4} {old : List (Fin 32 × Nat)} (h : Canon s) : Canon (slotBoundary r old s) :=
  h.each fun h => .ite h.phUpd (.ite h.phUpd h.phUpd)
theorem railBoundary {r : Fin 4} {rateChanged : Bool} (h : Canon s) : Canon (railBoundary r rateChanged s) :=
  ((((h.railLoad.blankFollow.mrvUpd.limitBoundary.oosBoundary.parBoundary.countBoundary.when fun h => h.each fun h =>
    h.phUpd).freezeBoundary.enrBoundary.when fun h => h.protUpd).each fun h => h.phUpd).when fun h => h.gloryKick).slotBoundary.restAll
theorem showRate {d : Fin 8} (h : Canon s) : Canon (showRate d s) := h.putI
theorem setRate {d : Fin 8} {rate : Int} (h : Canon s) : Canon (setRate d rate s) := h.domUpd.showRate
theorem rateLoad {d : Fin 8} {mark : BitVec 56} (h : Canon s) : Canon (rateLoad d mark s).1 := by
  dsimp only [Machine.rateLoad]
  refine .iteFst (.domUpd (.domUpd ?_)) (.iteFst (.showRate (.domUpd (.putB (.domUpd ?_)))) (.domUpd (.domUpd ?_)))
  · split
    · exact h.setRate
    · exact h
  · split
    · exact h.setRate
    · exact h
  · split
    · exact h.setRate
    · exact h
theorem srcLoad {d : Fin 8} (h : Canon s) : Canon (srcLoad d s) := .ite h h.put.put.motWatchAll.domUpd.showRate
theorem shiftTurns {d : Fin 8} {k : Int} (h : Canon s) : Canon (shiftTurns d k s) := h.domUpd
theorem ringOpen (h : Canon s) : Canon (ringOpen s) := .ite h h.upd.put.logReq
theorem masterPulse {d : Fin 8} {change wrap : Bool} (h : Canon s) : Canon (masterPulse d change wrap s) := .ite h (.ite h.upd.restart h.upd)
theorem boundaryLoads {d : Fin 8} {mark : BitVec 56} {wrap : Bool} (h : Canon s) : Canon (boundaryLoads d mark wrap s) :=
  h.rateLoad.srcLoad.masterPulse.domUpd.each fun h => h.railBoundary
theorem relabelled {d : Fin 8} {turn : Nat} (h : Canon s) : Canon (relabelled d turn s) := h.when fun h => h.shiftTurns
theorem turnBoundary {d : Fin 8} (h : Canon s) : Canon (turnBoundary d s) := .ite h.fire.relabelled.boundaryLoads h
theorem skipSlots {d : Fin 8} {a b : Word} (h : Canon s) : Canon (skipSlots d a b s) :=
  h.each fun h => h.each fun h => .ite (h.when fun h => h.inc).phUpd h
theorem reaim {d : Fin 8} {back : Bool} (h : Canon s) : Canon (reaim d back s) := h.each fun h => h.each fun h => .ite h.aimSlot h.phUpd
theorem angleJump {d : Fin 8} {new : BitVec 56} {hif : List Instr} (h : Canon s) : Canon (angleJump d new hif s) :=
  .ite h.domUpd.reaim ((h.skipSlots.domUpd.reaim.foldl fun h => h.after).when fun h => h.fire).relabelled.domUpd.boundaryLoads
theorem track {d : Fin 8} {e : Int} (h : Canon s) : Canon (track d e s) := h.domUpd.showRate
theorem lockStep {d : Fin 8} {e : Int} (h : Canon s) : Canon (lockStep d e s) :=
  .ite (.ite h.acquireAfresh h.domUpd) (.ite (.ite h.lockedEnter h.domUpd) h)
theorem rememberEvent {d : Fin 8} {t : Nat} {mark : BitVec 56} {e : Int} (h : Canon s) : Canon (rememberEvent d t mark e s) := h.putI.domUpd
theorem acquireSecond {d : Fin 8} {t : Nat} {a : BitVec 56} (h : Canon s) : Canon (acquireSecond d t a s).1 :=
  .iteFst h.refReject.domUpd (Canon.ite h.rememberEvent.domUpd.showRate.domUpd h.rememberEvent.domUpd.showRate.track).lockStep
theorem refEvent {d : Fin 8} {t : Nat} (h : Canon s) : Canon (refEvent d t s).1 :=
  .iteFst h (.iteFst h (.iteFst (Canon.ite h.acquireAfresh.domUpd h).rememberEvent.domUpd
    (.iteFst (Canon.ite h.acquireAfresh.domUpd h).acquireSecond (.iteFst (.ite (Canon.ite h.acquireAfresh.domUpd h).refReject.chgFault.acquireAfresh
    (Canon.ite h.acquireAfresh.domUpd h).refReject) (Canon.ite h.acquireAfresh.domUpd h).rememberEvent.domUpd.track.lockStep))))
theorem syncReject (h : Canon s) : Canon (syncReject s) := .ite h (h.each fun h => h.refReject)
theorem wrapRelabel {d : Fin 8} {mark : BitVec 56} (h : Canon s) : Canon (wrapRelabel d mark s) := .ite h.domUpd h.shiftTurns
theorem ringChange {d : Fin 8} {ahead : Int} (h : Canon s) : Canon (ringChange d ahead s) :=
  .ite h.chgFault.acquireAfresh (.ite h.chgFault.domUpd h.domUpd)
theorem syncPulse {lead width : Nat} (h : Canon s) : Canon (syncPulse lead width s) :=
  .ite h (.ite h.syncReject (h.each fun h => .ite ((h.refEvent.when fun h => h.wrapRelabel).when fun h => h.ringChange) h.refEvent))
theorem syncOverwidth (h : Canon s) : Canon (syncOverwidth s) := .ite h h.upd.syncReject
theorem ringReturn (h : Canon s) : Canon (ringReturn s) := by
  dsimp only [Machine.ringReturn]
  refine .ite ?_ h
  split
  · exact h.put.put.upd
  · exact h
theorem syncBall {level : Bool} {at_ : Nat} (h : Canon s) : Canon (syncBall level at_ s) := by
  dsimp only [Machine.syncBall]
  refine .ite h ?_
  split
  · exact .ite h.upd h.upd.after
  · exact h.upd.after
theorem syncInEdge {level : Bool} (h : Canon s) : Canon (syncInEdge level s) :=
  have h1 := h.when fun h => h.upd
  .ite h1.upd.restart.ringReturn (.ite h1.upd.cancel h1.upd.cancel.after)
theorem roleLoad (h : Canon s) : Canon (roleLoad s) := .ite h.upd h
theorem syncCtlWrite {v : Word} (h : Canon s) : Canon (syncCtlWrite v s) := h.wr.roleLoad
theorem syncOutCycle (h : Canon s) : Canon (syncOutCycle s) := .ite h h.upd.roleLoad
theorem domEnable {d : Fin 8} (h : Canon s) : Canon (domEnable d s) := h.domUpd.showRate.put.put.motWatchAll
theorem domDisable {d : Fin 8} (h : Canon s) : Canon (domDisable d s) := h.put.put.motWatchAll.domUpd
theorem holdToDerive {d : Fin 8} (h : Canon s) : Canon (holdToDerive d s) := .ite h h.put
theorem angCtlWrite {d : Fin 8} {v : Word} (h : Canon s) : Canon (angCtlWrite d v s) :=
  have h1 := (h.wr.when fun h => h.put).holdToDerive
  .ite h.angRefuse (.ite h1.domEnable (.ite h1.domDisable h1))
theorem commitRate {d : Fin 8} {rate : Nat} (h : Canon s) : Canon (commitRate d rate s) := have h1 := h.domUpd; .ite h1 (.ite h1.domUpd.put h1.domUpd)
theorem freqWrite {d : Fin 8} {v : Word} (h : Canon s) : Canon (freqWrite d v s) := .ite h.angRefuse (Canon.ite h.wr h.wr.put.put).commitRate
theorem ratehWrite {d : Fin 8} {v : Word} (h : Canon s) : Canon (ratehWrite d v s) := .ite h.angRefuse h.wr.commitRate
theorem railmapWrite {v : Word} (h : Canon s) : Canon (railmapWrite v s) := by
  dsimp only [Machine.railmapWrite]
  split
  · exact h.angRefuse
  · exact h.wr
theorem angAct {arg : BitVec 16} {action : Byte} (h : Canon s) : Canon (angAct arg action s) := .ite h.reacquire h
theorem fbMissing {d : Fin 8} (h : Canon s) : Canon (fbMissing d s) := h.refMissing
theorem fbDomain {d : Fin 8} {pos : Int} (h : Canon s) : Canon (fbDomain d pos s) :=
  have h1 := Canon.ite h.acquireAfresh.domUpd h
  .ite h (.ite h (.ite h1.refReject.refMissing (.ite h1.refReject.refMissing (.ite h1.domUpd.putI.putI h1.domUpd.putI.putI.lockStep))))
theorem execSyncInEdge {x : SyncEdge} (h : Canon s) : CanonOut (execSyncInEdge x s) := by
  dsimp only [Machine.execSyncInEdge]
  refine Canon.next ?_
  split
  · exact h.syncBall
  · exact h.syncInEdge

/-! ### Machine/Pwr.lean -/

theorem pwrUpd {f : PwrSt → PwrSt} (h : Canon s) : Canon (pwrUpd f s) := h.upd
theorem setReq {d : Nat} {v : Bool} (h : Canon s) : Canon (setReq d v s) := .ite h.putBit h.putBit
theorem setOn {d : Nat} {v : Bool} (h : Canon s) : Canon (setOn d v s) := .ite h.putBit h.putBit
theorem pwrKick (h : Canon s) : Canon (pwrKick s) := .ite h (.ite h h.put.after)
theorem upRequests {l : List Nat} (h : Canon s) : Canon (upRequests l s) := (h.each fun h => h.setReq).pwrUpd.pwrKick
theorem wakeRequests {l : List Nat} (h : Canon s) : Canon (wakeRequests l s) := h.upRequests.pwrUpd
theorem powerRequest {r0 r1 : Option Word} (h : Canon s) : Canon (powerRequest r0 r1 s) := by
  dsimp only [Machine.powerRequest]
  refine .pwrKick (.upRequests ?_)
  split
  · exact (h.each fun h => h.setReq).pwrUpd.put.inc.logReq
  · exact (h.each fun h => h.setReq).pwrUpd
theorem retainSlot {base : Nat} (h : Canon s) : Canon (retainSlot base s) := h.foldl fun h => h.wr
theorem usbEmpty (h : Canon s) : Canon (usbEmpty s) := h.upd
theorem usbLose {why n : Nat} (h : Canon s) : Canon (usbLose why n s) := h.put.usbEmpty.logReq
theorem usbPowered (h : Canon s) : Canon (usbPowered s) := .ite h.retainSlot.wr.usbLose.upd h.retainSlot.wr.usbEmpty
theorem usbDown (h : Canon s) : Canon (usbDown s) := .ite h.usbEmpty.upd h.usbEmpty
theorem capPowered (h : Canon s) : Canon (capPowered s) := ((Canon.ite h.lopEnd h).retainSlot.upd.each fun h => h.put).when fun h => h.restart
theorem dataReset {d : Nat} (h : Canon s) : Canon (dataReset d s) :=
  .ite h.protUpd.mrvUpd (.ite h.edgeUpd (.ite h.motUpd (.ite (h.upd.when fun h => h.restart)
    (.ite h.retainSlot.upd (.ite h.retainSlot.upd (.ite h.retainSlot.retainSlot.upd
    (.ite h.retainSlot.upd (.ite h.retainSlot (.ite h.usbPowered (.ite h.capPowered h))))))))))
theorem groupReady {d : Nat} (h : Canon s) : Canon (groupReady d s) := .ite h.setOn h
theorem groupUp (h : Canon s) : Canon (groupUp s) := .ite h (h.upd.each fun h => h.after)
theorem groupDown (h : Canon s) : Canon (groupDown s) := h.upd.each fun h => h.cancel.setOn
theorem bufferWipe (h : Canon s) : Canon (bufferWipe s) := h.wipeBank.upd.restart
theorem bufferWiped (h : Canon s) : Canon (bufferWiped s) := .ite h h.upd
theorem domainReady {d : Nat} (h : Canon s) : Canon (domainReady d s) :=
  have h1 := h.setOn.pwrUpd.dataReset.each fun h => h.gLoadFactory.gSpareBack.gNext
  have h2 := Canon.ite h1.bufferWipe h1.upd
  .ite h.groupReady (.ite ((Canon.ite h2 h2.pwrUpd).put.when fun h => h.wr).pwrKick h)
theorem edgeDown {r : Fin 4} (h : Canon s) : Canon (edgeDown r s) := (h.each fun h => .ite h.cancel.cancel.cancel.phUpd h).edgeUpd.cancel.put
theorem domainDown {d : Nat} (h : Canon s) : Canon (domainDown d s) :=
  have h1 := (h.setOn.each fun h => h.gSliceDown).when fun h => h.edgeDown
  .ite h1.wipeBank.undoVoid (.ite h1.wipeBank.bufferWiped.usbDown.cancel h1)
theorem domainUp {d : Nat} (h : Canon s) : Canon (domainUp d s) := have h1 := h.put.put.pwrUpd; .ite h1.wipeBank.after h1.after
theorem domainSwitch (h : Canon s) : Canon (domainSwitch s) := by
  dsimp only [Machine.domainSwitch]
  refine .ite h.pwrKick ?_
  split
  · exact
      have h1 := Canon.ite h.pwrUpd.pwrUpd.domainUp h.pwrUpd.pwrUpd.put.domainDown
      .ite (h1.when fun h => h.wr) h1.restart
  · exact .ite (h.pwrUpd.when fun h => h.wr) h.pwrUpd.restart

/-! ### Machine/Mbx.lean -/

theorem mbReached {agent : Agent} {f : State → State} (h : Canon s) (hf : ∀ {t}, Canon t → Canon (f t)) : Canon (mbReached agent f s) :=
  .ite h.upd (hf h)
theorem mbDeny (h : Canon s) : Canon (mbDeny s) := h.inc.upd
theorem mbWref (h : Canon s) : Canon (mbWref s) := h.inc
theorem mbLog {k code : Nat} {data : List Byte} (h : Canon s) : Canon (mbLog k code data s) := h.logLimited
theorem mbTouch {k : Nat} (h : Canon s) : Canon (mbTouch k s) := h.upd
theorem lockBreak {k cause : Nat} (h : Canon s) : Canon (lockBreak k cause s) := .ite h h.put.cancel.mbLog
theorem locksOf {id : Nat} (h : Canon s) : Canon (locksOf id s) := h.each fun h => .ite h.lockBreak h
theorem locktoChanged (h : Canon s) : Canon (locktoChanged s) := h.each fun h => .ite h.cancel.after h.cancel
theorem lockFree {k : Nat} (h : Canon s) : Canon (lockFree k s) := h.upd.put.cancel
theorem lockRead {agent : Agent} {k : Nat} (h : Canon s) : Canon (lockRead agent k s) :=
  .ite h.mbDeny (.ite h.upd (.ite h.upd (.ite (.ite h.put.upd.restart h.put.upd) h.upd)))
theorem lockReads {readers : List Agent} {k : Nat} (h : Canon s) : Canon (lockReads readers k s) := by
  dsimp only [Machine.lockReads]
  split
  · exact h.upd.each fun h => h.mbReached fun h => h.lockRead.upd
  · exact (h.upd.each fun h => h.mbReached fun h => h.lockRead.upd).upd
theorem lockWrite {agent : Agent} {k : Nat} {value : Word} (h : Canon s) : Canon (lockWrite agent k value s) :=
  .ite h.mbDeny (.ite h (.ite h.lockFree h.mbWref))
theorem dataWrite {agent : Agent} {k i : Nat} {value : Word} (h : Canon s) : Canon (dataWrite agent k i value s) :=
  .ite h.mbDeny (.ite h.wr.mbTouch h.mbWref)
theorem mbNotify {k : Nat} (h : Canon s) : Canon (mbNotify k s) := by
  dsimp only [Machine.mbNotify]
  refine .ite ?_ h
  split
  · exact h.after
  · exact h.wakeRequests
  · exact h.wakeRequests
  · exact h.wakeRequests
  · exact h.wakeRequests
  · exact h
theorem sendDo {agent : Agent} {k : Nat} {arg : BitVec 16} (h : Canon s) : Canon (sendDo agent k arg s) := by
  dsimp only [Machine.sendDo]
  split
  · exact
      have h1 := h.put.put.put.mbTouch.fire
      (Canon.ite h1.twCause (.ite h1.twCause h1)).mbNotify
  · exact h.inc.mbLog
theorem sendWrite {agent : Agent} {k : Nat} {ticket : Byte} {arg0 : BitVec 16} {action : Byte} (h : Canon s) :
    Canon (sendWrite agent k ticket arg0 action s) :=
  .ite h.mbDeny (.ite h (Canon.ite h.sendDo h).upd)
theorem takeRead {agent : Agent} {k : Nat} (h : Canon s) : Canon (takeRead agent k s) :=
  have h1 := h.upd
  .ite h.mbDeny (.ite (.ite h1.put.upd.upd h1.put.upd) h1)
theorem mbxRead {agent : Agent} {a : Nat} (h : Canon s) : Canon (mbxRead agent a s) :=
  .ite h.mbDeny (.ite h.upd (.ite h.upd (.ite h.lockRead (.ite h.upd (.ite h.takeRead (.ite h.upd h.upd))))))
theorem lockLapse {k : Nat} (h : Canon s) : Canon (lockLapse k s) := h.upd.lockBreak

/-! ### Machine/TrioCtl.lean -/

theorem trioUpd {f : TrioSt → TrioSt} (h : Canon s) : Canon (trioUpd f s) := h.upd
theorem coreUpd {f : Core → Core} (h : Canon s) : Canon (coreUpd f s) := h.trioUpd
theorem setSpeed {v : Nat} (h : Canon s) : Canon (setSpeed v s) := h.put
theorem wdtPause (h : Canon s) : Canon (wdtPause s) := by
  dsimp only [Machine.wdtPause]
  split
  · exact h.cancel.trioUpd
  · exact h
theorem wdtResume (h : Canon s) : Canon (wdtResume s) := .ite h.wdtPause.trioUpd.after h.wdtPause
theorem wdtKick (h : Canon s) : Canon (wdtKick s) := h.wdtPause.trioUpd.wdtResume
theorem commitTaken (h : Canon s) : Canon (commitTaken s) := h.upd
theorem handBack (h : Canon s) : Canon (handBack s) := ((h.each fun h => h.hw).each fun h => h.put).upd
theorem periodicArm (h : Canon s) : Canon (periodicArm s) := .ite h.cancel h.cancel.after
theorem ckptStart {sleep : Bool} (h : Canon s) : Canon (ckptStart sleep s) := h.cancel.trioUpd.after
theorem highWater (h : Canon s) : Canon (highWater s) := .ite h.inc.ckptStart h
theorem enterRun (h : Canon s) : Canon (enterRun s) := .ite h.setSpeed.trioUpd.wdtPause h.setSpeed.wdtResume.periodicArm
theorem sleepEnter (h : Canon s) : Canon (sleepEnter s) := .ite h.setSpeed.wdtPause.groupDown h.setSpeed.wdtPause
theorem checkpointComplete (h : Canon s) : Canon (checkpointComplete s) :=
  have h1 := h.trioUpd.eccClear.put.put.put.wr.wr.commitTaken
  .ite h (.ite h1 (.ite h1.sleepEnter h1.enterRun))
theorem wakeUp (h : Canon s) : Canon (wakeUp s) := .ite (.ite h.groupUp.after (.ite h.enterRun h)) (.ite h.trioUpd h)
theorem irqRaise {n : Nat} (h : Canon s) : Canon (irqRaise n s) := .ite h.setBit.wakeUp h.setBit
theorem bootRom (h : Canon s) : Canon (bootRom s) := h.upd.restart
theorem trioReset {cause offset : Nat} (h : Canon s) : Canon (trioReset cause offset s) :=
  .ite h (((h.logReq.cancel.cancel.cancel.setSpeed.wdtPause.handBack.groupUp.upd.put.put.put.wr.wr.each fun h => h.setReq).each fun h =>
    h.wipeBank).each fun h => h.updDiscard).locksOf.restart
theorem trioRelease (h : Canon s) : Canon (trioRelease s) :=
  have h1 := h.each fun h => h.setOn
  .ite h (Canon.ite h1.upd.trioUpd.enterRun.ckptStart h1.upd.trioUpd.enterRun).bootRom
theorem rollbackStart {cause kind agree : Nat} (h : Canon s) : Canon (rollbackStart cause kind agree s) :=
  .ite h.trioReset h.cancel.cancel.setSpeed.wdtPause.logReq.inc.put.trioUpd.after
theorem undoReplay {l : List Undo} (h : Canon s) : Canon (undoReplay l s).1 := by
  induction l generalizing s with
  | nil => exact h
  | cons e l ih =>
    dsimp only [Machine.undoReplay]
    split
    · exact h.eccFix
    · exact ih (.ite h.eccFix.setMemWord.eccGood.setTag h.eccFix)
theorem rollbackComplete (h : Canon s) : Canon (rollbackComplete s) := by
  dsimp only [Machine.rollbackComplete]
  refine .ite h ?_
  split
  · exact h.undoReplay.eccUe.trioReset
  · exact
      have h1 := h.undoReplay.trioUpd.handBack.put.inc.put
      .ite h1.logReq.enterRun.bootRom h1.logReq.enterRun
theorem doubleTrap {why cause2 : Nat} {tval : Word} (h : Canon s) : Canon (doubleTrap why cause2 tval s) := h.logReq.rollbackStart
theorem takeTrap {cause : Nat} {tval : Word} {cap : Option Nat} (h : Canon s) : Canon (takeTrap cause tval cap s) :=
  .ite h.doubleTrap (.ite h.doubleTrap h.coreUpd)
theorem execInterrupt (h : Canon s) : CanonOut (execInterrupt s) := by
  dsimp only [Machine.execInterrupt]
  refine Canon.next (.ite ?_ h)
  split
  · exact h.takeTrap
  · exact h

/-! ### Machine/Reset.lean -/

theorem otpSet {w : Nat} {v : Word} (h : Canon s) : Canon (otpSet w v s) := h.upd
theorem otpCut (h : Canon s) : Canon (otpCut s) := by
  dsimp only [Machine.otpCut]
  split
  · exact h
  · exact h.draw.otpSet
theorem deviceReset {bit : Nat} : Canon (deviceReset bit s) := reset.upd.wr.put
theorem startup (h : Canon s) : Canon (startup s) := h.upd.put.put.put.put.upd.upd.restart
theorem culletComplete (h : Canon s) : Canon (culletComplete s) :=
  have h1 : Canon { s with mem := [], mst := {}, pwr := { s.pwr with recorded := true } } := ⟨h.regs, h.live, rfl⟩
  .ite h (.ite (h1.logReq.each fun h => h.otpSet) (.ite h1.logReq h1.logReq.trioRelease))

/-! ### Machine/Boot.lean -/

theorem bootUpd {f : BootSt → BootSt} (h : Canon s) : Canon (bootUpd f s) := h.upd
theorem actAt {a : Nat} {ticket : Byte} {arg : BitVec 16} {action : Byte} {perform : State → State} (h : Canon s)
    (hperform : ∀ {t}, Canon t → Canon (perform t)) : Canon (s.actAt a ticket arg action perform) :=
  .ite (h.act fun h => hperform h) h.upd
theorem xspiExec (h : Canon s) : Canon (xspiExec s) := .ite h.put.bootUpd h.put.bootUpd
theorem xspiDone {data : List Byte} (h : Canon s) : Canon (xspiDone data s) := .ite h (.ite (h.put.bootUpd.each fun h => h.wr) h.put.bootUpd)
theorem loadBlock {a : Nat} {l : List Byte} (h : Canon s) : Canon (loadBlock a l s) := h.setBytes.eccClear.upd
theorem loadImage {host image : List Byte} (h : Canon s) : Canon (loadImage host image s) := h.loadBlock.loadBlock
theorem startImage {which : Nat} {host : List Byte} (h : Canon s) : Canon (startImage which host s) :=
  have h1 := h.put.put.put.put
  .ite h1.logReq.bootUpd.takeTrap h1.logReq.bootUpd.coreUpd
theorem noImage (h : Canon s) : Canon (noImage s) := h.logReq.bootUpd
theorem loadSlot {after : Nat} {n : Fin 2} {next : Option (Fin 2)} (h : Canon s) : Canon (loadSlot after n next s) := h.loadImage.bootUpd.restart
theorem secureBoot (h : Canon s) : Canon (secureBoot s) :=
  have h1 := h.bootUpd
  .ite h (.ite h.bootUpd (.ite (h.each fun h => h.otpSet).restart (.ite (.ite h1.loadSlot h1.loadSlot)
    (.ite h1.loadSlot (.ite h1.loadSlot h1.noImage)))))
theorem rejectSlot {reason : Nat} (h : Canon s) : Canon (rejectSlot reason s) := by
  dsimp only [Machine.rejectSlot]
  split
  · exact h
  · split
    · exact (h.foldl fun h => h.wipeBank).logReq.bootUpd.loadSlot
    · exact (h.foldl fun h => h.wipeBank).logReq.bootUpd.noImage
theorem sigCheck (h : Canon s) : Canon (sigCheck s) := by
  dsimp only [Machine.sigCheck]
  split
  · exact h
  · split
    · exact h.startImage
    · exact h.rejectSlot
theorem stagedRead {image : State → Bool} {go : State → State} (h : Canon s) (hgo : ∀ {t}, Canon t → Canon (go t)) :
    Canon (stagedRead image go s) :=
    by
  dsimp only [Machine.stagedRead]
  split
  · exact (h.eccFix.when fun h => h.eccUe).takeTrap
  · refine .ite (hgo h.eccFix) ?_
    split
    · exact (h.eccFix.eccFix.when fun h => h.eccUe).takeTrap
    · exact hgo h.eccFix.eccFix
theorem recoveryLoad (h : Canon s) : Canon (recoveryLoad s) := .ite (h.stagedRead fun h => .ite h.takeTrap (.ite h.takeTrap h.loadImage.startImage)) h
theorem verifyBegin {n : Fin 2} (h : Canon s) : Canon (verifyBegin n s) := h.bootUpd.restart
theorem verifyEnd {reason : Nat} (h : Canon s) : Canon (verifyEnd reason s) := h.lopAdvance.lopRecord.cancel.lopEnd
theorem otpRefuse {action word : Nat} (h : Canon s) : Canon (otpRefuse action word s) := h.put.logReq
theorem otpBegin {action : Nat} {l : List (Nat × Word)} (h : Canon s) : Canon (otpBegin action l s) := h.put.bootUpd.restart
theorem otpProgram {arg : BitVec 16} (h : Canon s) : Canon (otpProgram arg s) := .ite h.otpRefuse h.otpBegin
theorem otpArver {arg : BitVec 16} (h : Canon s) : Canon (otpArver arg s) := .ite h.otpRefuse h.otpBegin
theorem otpRevoke {arg : BitVec 16} (h : Canon s) : Canon (otpRevoke arg s) := .ite h.otpRefuse h.otpBegin
theorem otpTransition {arg : BitVec 16} (h : Canon s) : Canon (otpTransition arg s) :=
  .ite h.otpRefuse (.ite h.otpRefuse.put h.logReq.bootUpd.otpBegin)
theorem otpComplete {got : Option Word} (h : Canon s) : Canon (otpComplete got s) := by
  dsimp only [Machine.otpComplete]
  split
  · exact h
  · refine .ite (.ite Canon.deviceReset.after (.put (.ite (.bootUpd ?_) (.logReq (.put (.bootUpd ?_))))))
      (.after (.ite (.bootUpd ?_) (.logReq (.put (.bootUpd ?_)))))
    · split <;> exact h.cancel.otpSet
    · split <;> exact h.cancel.otpSet
    · split <;> exact h.cancel.otpSet
    · split <;> exact h.cancel.otpSet
theorem wipeFinish {state : Nat} (h : Canon s) : Canon (wipeFinish state s) := h.lopEnd.logReq.put.upd
theorem wipeBegin {mask : Nat} (h : Canon s) : Canon (wipeBegin mask s) :=
  have h1 := (h.put.each fun h => h.undoVoid).upd.each fun h => h.after
  .ite h1.wipeFinish h1
theorem wipePartial {i : Nat} (h : Canon s) : Canon (wipePartial i s) := ⟨h.regs, h.live, mapWf_eraseRange _ _ _ _ h.mem⟩
theorem wipeRegion {i : Nat} {ue : Bool} (h : Canon s) : Canon (wipeRegion i ue s) :=
  have h1 := Canon.ite h (h.wipeBank.when fun h => h.usbLose)
  have h2 := (Canon.ite h1.eccUe.upd h1).upd.lopAdvance.lopRecord
  .ite h (.ite h2.wipeFinish (.ite (h2.each fun h => h.wipePartial).wipeFinish h2))
theorem wipeStart {arg : BitVec 16} (h : Canon s) : Canon (wipeStart arg s) := .ite h.put h.lopStart.wipeBegin
theorem verifyStart {arg : BitVec 16} (h : Canon s) : Canon (verifyStart arg s) := .ite h.put h.lopStart.verifyBegin
theorem lcsAct {arg : BitVec 16} {action : Byte} (h : Canon s) : Canon (lcsAct arg action s) :=
  .ite h.otpProgram (.ite h.otpTransition (.ite h.otpArver (.ite h.otpRevoke (.ite h.wipeStart h))))
theorem execFlashTimeout {off : Word} {who : Fin 4} (h : Canon s) : CanonOut (execFlashTimeout off who s) := by
  dsimp only [Machine.execFlashTimeout]
  refine Canon.next ?_
  split
  · exact .ite h.put.logReq.takeTrap h.put.logReq
  · exact h.put.logReq.put
  · exact .ite h.put.logReq.rejectSlot (.ite h.put.logReq.verifyEnd (.ite h.put.logReq.bootUpd h.put.logReq))
  · exact h.put.logReq.upd
theorem execVerify {via : Via} (h : Canon s) : CanonOut (execVerify via s) := by
  dsimp only [Machine.execVerify]
  refine Canon.next ?_
  split
  · exact h.actAt fun h => h.verifyStart
  · exact h.lopHostStart fun h => h.verifyBegin
theorem execWipe {via : Via} (h : Canon s) : CanonOut (execWipe via s) := by
  dsimp only [Machine.execWipe]
  refine Canon.next ?_
  split
  · exact h.act fun h => h.wipeStart
  · exact h.lopHostStart fun h => h.wipeBegin

/-! ### Machine/Tw.lean -/

theorem twLog {n : Fin 2} {code : Nat} {data : List Byte} (h : Canon s) : Canon (twLog n code data s) := .ite h.logLimited h.logReq
theorem twNack {n : Fin 2} {bit : Nat} (h : Canon s) : Canon (twNack n bit s) := h.setBit.twUpd
theorem badCommand {n : Fin 2} (h : Canon s) : Canon (badCommand n s) := h.twNack
theorem badData {n : Fin 2} (h : Canon s) : Canon (badData n s) := h.twNack
theorem twSilent {n : Fin 2} (h : Canon s) : Canon (twSilent n s) := h.twUpd
theorem twBegin {n : Fin 2} {cmd : Nat} (h : Canon s) : Canon (twBegin n cmd s) := h.twUpd
theorem twReply {n : Fin 2} {sent d : List Byte} (h : Canon s) : Canon (twReply n sent d s) := h.twUpd
theorem twAnswer {n : Fin 2} {d : List Byte} (h : Canon s) : Canon (twAnswer n d s) := h.twReply
theorem twCut {n : Fin 2} {k : Nat} (h : Canon s) : Canon (twCut n k s) := h.twUpd
theorem pecFail {n : Fin 2} (h : Canon s) : Canon (pecFail n s) := h.twNack.inc.twLog
theorem twWrite {n : Fin 2} {need : Nat} {valid : Bool} {data : List Byte} {effect : State → State} (h : Canon s)
    (heffect : ∀ {t}, Canon t → Canon (effect t)) : Canon (twWrite n need valid data effect s) :=
  .ite h.badData (.ite (.ite h.badData (heffect h)) (.ite (heffect h) h.pecFail))
theorem rspdWrite {n : Fin 2} {i : Nat} {v : Word} (h : Canon s) : Canon (rspdWrite n i v s) := h.twUpd.wr
theorem rspcWrite {n : Fin 2} {i : Nat} {v : Word} (h : Canon s) : Canon (rspcWrite n i v s) := h.twUpd.wr
theorem tableReply {n : Fin 2} {cmd : Nat} {sent : List Byte} (h : Canon s) : Canon (tableReply n cmd sent s) := by
  dsimp only [Machine.tableReply]
  split
  · exact h.badCommand
  · exact h.twReply
theorem tableRead {n : Fin 2} {cmd : Nat} (h : Canon s) : Canon (tableRead n cmd s) := h.tableReply
theorem queueRefuse {n : Fin 2} (h : Canon s) : Canon (queueRefuse n s) := h.twNack.inc.twLog
theorem queueAppend {n : Fin 2} {kind cmd data : Nat} (h : Canon s) : Canon (queueAppend n kind cmd data s) := h.twUpd.fire
theorem queueWrite {n : Fin 2} {kind cmd : Nat} {valid : Nat → Bool} {data : List Byte} {also_ : State → State} (h : Canon s)
    (halso_ : ∀ {t}, Canon t → Canon (also_ t)) : Canon (queueWrite n kind cmd valid data also_ s) :=
  .ite h.queueRefuse (h.twWrite fun h => (halso_ h).queueAppend)
theorem queuePop {agent : Agent} {n : Fin 2} (h : Canon s) : Canon (queuePop agent n s) := by
  dsimp only [Machine.queuePop]
  split
  · exact h.upd
  · exact .ite h.twUpd.upd h.upd
theorem mirrorRead {n : Fin 2} {cmd : Nat} {paged : Bool} {len : Nat} {f : Fin 4 → State → List Byte} (h : Canon s) :
    Canon (mirrorRead n cmd paged len f s) :=
  .ite h.setBit.twAnswer (.ite h.tableRead h.draw.twAnswer)
theorem pmbus {n : Fin 2} {cmd : Nat} {x : Xfer} {read : State → State} {write : List Byte → State → State} (h : Canon s)
    (hread : ∀ {t}, Canon t → Canon (read t)) (hwrite : ∀ {x t}, Canon t → Canon (write x t)) : Canon (pmbus n cmd x read write s) := by
  dsimp only [Machine.pmbus]
  refine .ite h.twSilent (.ite ?_ (.ite ?_ h.twSilent))
  · split
    · exact hread h.twBegin
    · exact hwrite h.twBegin
    · exact h.twBegin.badData
    · exact (hread h.twBegin).twCut
  · split
    · exact h.twBegin.tableRead
    · exact h.twBegin.badCommand
    · exact h.twBegin.tableReply
    · exact h.twBegin.tableRead.twCut
theorem readOnly {n : Fin 2} {x : List Byte} (h : Canon s) : Canon (readOnly n x s) := h.badData
theorem mfr {n : Fin 2} {cmd : Nat} {x : Xfer} {read : State → State} {write : List Byte → State → State} (h : Canon s)
    (hread : ∀ {t}, Canon t → Canon (read t)) (hwrite : ∀ {x t}, Canon t → Canon (write x t)) : Canon (mfr n cmd x read write s) := by
  dsimp only [Machine.mfr]
  refine .ite h.twSilent ?_
  split
  · exact hread h.twBegin
  · exact hwrite h.twBegin
  · exact h.twBegin.badData
  · exact (hread h.twBegin).twCut
theorem ptrStore {n : Fin 2} {l : List Byte} (h : Canon s) : Canon (ptrStore n l s) := by
  induction l generalizing s with
  | nil => exact h
  | cons b l ih => exact ih (Canon.ite h h.wr).twUpd
theorem ptrRead {n : Fin 2} {k : Nat} (h : Canon s) : Canon (ptrRead n k s).2 := by
  induction k generalizing s with
  | zero => exact h
  | succ k ih => exact ih h.twUpd
theorem pointerWrite {n : Fin 2} {data : List Byte} (h : Canon s) : Canon (pointerWrite n data s) := by
  dsimp only [Machine.pointerWrite]
  refine .ite h.twSilent ?_
  split
  · exact h.twBegin
  · exact
      have h1 := h.twBegin
      .ite h1.twUpd (.ite h1.queueRefuse h1.twUpd.ptrStore.queueAppend)
theorem pointerRead {n : Fin 2} {len : Nat} (h : Canon s) : Canon (pointerRead n len s) := .ite h.twSilent h.twBegin.ptrRead.twUpd
theorem twEnd {n : Fin 2} {result : Nat} (h : Canon s) : Canon (twEnd n result s) := h.put.twUpd.fire
theorem twExec {arg : BitVec 16} (h : Canon s) : Canon (twExec arg s) := .ite h.put (.ite h.put.twUpd h)
theorem mbufStore {n : Fin 2} {d : List Byte} (h : Canon s) : Canon (mbufStore n d s) := h.each fun h => h.wr
theorem transferEnd {n : Fin 2} {outcome : Fin 3} {rx : List Byte} (h : Canon s) : Canon (transferEnd n outcome rx s) := by
  dsimp only [Machine.transferEnd]
  refine .ite h ?_
  split
  · exact h.twEnd
  · exact h.twEnd
  · exact h.mbufStore.twEnd
theorem selfReset {n : Fin 2} {cause : Nat} (h : Canon s) : Canon (selfReset n cause s) := h.setBit.inc.twLog.twUpd.locksOf
theorem twReset {arg : BitVec 16} (h : Canon s) : Canon (twReset arg s) := .ite h h.selfReset
theorem twRequest {arg : BitVec 16} (h : Canon s) : Canon (twRequest arg s) := h.twCause
theorem twAct {arg : BitVec 16} {action : Byte} (h : Canon s) : Canon (twAct arg action s) := .ite h.twExec (.ite h.twRequest (.ite h.twReset h))
theorem inband {n : Fin 2} {collision : Bool} (h : Canon s) : Canon (inband n collision s) :=
  .ite (.ite h.inc.twUpd.restart h) (.ite h (.ite h.restart h.twUpd.restart))
theorem hostNotify {n : Fin 2} {accepted : Bool} (h : Canon s) : Canon (hostNotify n accepted s) :=
  have h1 := h.twUpd
  .ite h (.ite h1.twUpd (.ite h1.twUpd h1.put.twUpd.twLog))
theorem notifyReceived {n : Fin 2} {inband : Bool} {addr : Byte} {data : BitVec 16} (h : Canon s) : Canon (notifyReceived n inband addr data s) :=
  .ite h (.ite h.put.fire h.put.fire.put.put)
theorem personality {n : Fin 2} (h : Canon s) : Canon (personality n s) := .ite h (.ite h.twUpd.attnKick h.twUpd)
theorem execCoefficients {n : Fin 2} {x : Xfer} (h : Canon s) : CanonOut (execCoefficients n x s) := by
  dsimp only [Machine.execCoefficients]
  refine Canon.next (.ite (h.pmbus (fun h => h) (fun h => h)) ?_)
  split
  · exact .ite h.twBegin.twUpd h.twBegin.badData
  · exact h.twBegin.badData
theorem attnRead {n : Fin 2} (h : Canon s) : Canon (attnRead n s) := by
  dsimp only [Machine.attnRead]
  split
  · exact h.twAnswer.wr.upd
  · exact h.twAnswer.wr
theorem execResponseTableRead {n : Fin 2} {cmd : Option Byte} (h : Canon s) : CanonOut (execResponseTableRead n cmd s) := by
  dsimp only [Machine.execResponseTableRead]
  refine Canon.next (.ite h.twSilent ?_)
  split
  · exact h.twBegin.tableRead
  · exact h.twBegin.tableReply

/-! ### Machine/Avs.lean -/

theorem avsUpd {n : Fin 2} {f : AvsPort → AvsPort} (h : Canon s) : Canon (avsUpd n f s) := h.upd
theorem avsShow {n : Fin 2} (h : Canon s) : Canon (avsShow n s) := h.put
theorem avsDiscard {n : Fin 2} {why : Nat} (h : Canon s) : Canon (avsDiscard n why s) :=
  have h1 := (Canon.ite h.inc h.inc).avsUpd
  have h2 := Canon.ite h1.avsUpd h1
  .ite h2.logLimited h2.logLimited.avsUpd
theorem avsAnswer {n : Fin 2} {sel : Fin 16} {ack data : Nat} (h : Canon s) : Canon (avsAnswer n sel ack data s) := h.avsUpd
theorem avsCheck {r : Fin 4} {v : Nat} (h : Canon s) : Canon (avsCheck r v s).2 := .iteSnd h (.iteSnd h.vsetArrive (.iteSnd h.vsetArrive h))
theorem avsRelease {n : Fin 2} (h : Canon s) : Canon (avsRelease n s) := by
  dsimp only [Machine.avsRelease]
  refine .ite (.restart (.avsUpd (h.avsUpd.avsShow.each fun h => ?_))) (h.avsUpd.avsShow.each fun h => ?_)
  · split
    · exact h.store
    · exact h
  · split
    · exact h.store
    · exact h
theorem avsRequest {n : Fin 2} {sel : Fin 16} {boot commit : Bool} {mv : Nat} {r : Fin 4} (h : Canon s) :
    Canon (avsRequest n sel boot commit mv r s) := by
  dsimp only [Machine.avsRequest]
  split
  next e => exact .ite (h.avsCheck.eqSnd e).avsUpd.avsAnswer.avsRelease (h.avsCheck.eqSnd e).avsUpd.avsAnswer.avsShow
  next e => exact (h.avsCheck.eqSnd e).avsAnswer
theorem avsStatusWrite {n : Fin 2} {sel : Fin 16} {commit : Bool} {clear : Nat} (h : Canon s) : Canon (avsStatusWrite n sel commit clear s) :=
  have h1 := Canon.ite h h.put
  .ite h1.avsAnswer.avsRelease h1.avsAnswer
theorem avsDo {n : Fin 2} {sel : Fin 16} {field : BitVec 7} {data : Nat} {r : Fin 4} (h : Canon s) : Canon (avsDo n sel field data r s) := by
  dsimp only [Machine.avsDo]
  split
  · exact .ite h.avsAnswer h.avsRequest
  · exact h.avsAnswer
  · exact h.avsAnswer
  · exact h.draw.avsAnswer
  · exact h.avsRequest
  · exact .ite h.avsAnswer h.avsStatusWrite
theorem avsFrame {n : Fin 2} {bits : AvsBits} {own : BitVec 7} {sel : Fin 16} {ownData : BitVec 16} (h : Canon s) :
    Canon (avsFrame n bits own sel ownData s) :=
  have h1 := h.avsUpd
  .ite h (.ite h1.avsDiscard (.ite h1.avsAnswer (.ite h1.avsAnswer h1.avsDo)))
theorem avsArrive {n : Fin 2} (h : Canon s) : Canon (avsArrive n s) := have h1 := h.each fun h => h.vsetArrive; (Canon.ite h1.fire h1).avsUpd
theorem avsCtlWrite {n : Fin 2} {v : Word} (h : Canon s) : Canon (avsCtlWrite n v s) := .ite h.wr h.put.logReq

/-! ### Machine/Cap.lean -/

theorem capUpd {f : CapSt → CapSt} (h : Canon s) : Canon (capUpd f s) := h.upd
theorem elUpd {i : Fin 16} {f : Electrode → Electrode} (h : Canon s) : Canon (elUpd i f s) := h.capUpd
theorem capMeasure (h : Canon s) : Canon (capMeasure s) := h.capUpd.restart
theorem capScan (h : Canon s) : Canon (capScan s) := have h1 := Canon.ite h.capUpd.after h; .ite h1 h1.capUpd.capMeasure
theorem capProgress (h : Canon s) : Canon (capProgress s) := by
  dsimp only [Machine.capProgress]
  split
  · exact .ite h.lopUpd.lopStatus h
  · exact h
theorem capNext (h : Canon s) : Canon (capNext s) := by
  dsimp only [Machine.capNext]
  split
  · exact h.capUpd.capMeasure
  · exact
      have h1 := h.cancel.capUpd.capProgress
      .ite h1.capUpd.capScan (.ite h1.capUpd.capScan h1)
theorem scanStart (h : Canon s) : Canon (scanStart s) := .ite h (.ite h.restart.capUpd.inc h.restart.capScan)
theorem scanRequest (h : Canon s) : Canon (scanRequest s) := .ite h (.ite h.capUpd h.capScan)
theorem capCtlWrite {value : Word} (h : Canon s) : Canon (capCtlWrite value s) :=
  have h1 := h.wr
  .ite h1.capUpd.restart (.ite h1.cancel.cancel.capUpd h1)
theorem capDeclare {i : Fin 16} {leak cond : Bool} {raw blc : Nat} (h : Canon s) : Canon (capDeclare i leak cond raw blc s) :=
  ((h.putB.putB.when fun h => h.put.elUpd.logReq).when fun h => h.put.logReq).when fun h => h.fire
theorem baseline {i : Fin 16} {raw : Nat} (h : Canon s) : Canon (baseline i raw s) :=
  .ite (.ite h.put.elUpd.put.put h.put.elUpd) (.ite h.put.inc.elUpd.logReq (Canon.ite h.put h).elUpd.capDeclare)
theorem capFail {i : Fin 16} {cause : Nat} (h : Canon s) : Canon (capFail i cause s) := .ite h.elUpd.put.setBit.fire.logReq h.elUpd
theorem capPass {i : Fin 16} {raw : Nat} (h : Canon s) : Canon (capPass i raw s) :=
  have h1 := Canon.ite h.elUpd.put.put.put h.elUpd
  have h2 := Canon.ite h1.elUpd h1
  .ite h2 h2.baseline
theorem capRaw {i : Fin 16} {raw : Nat} (h : Canon s) : Canon (capRaw i raw s) := .ite h.put.capPass h.put.capFail
theorem measureFail {cause : Nat} (h : Canon s) : Canon (measureFail cause s) := by
  dsimp only [Machine.measureFail]
  split
  · exact h
  · exact h.capFail.capNext
theorem measureEnd {count : Nat} (h : Canon s) : Canon (measureEnd count s) := by
  dsimp only [Machine.measureEnd]
  split
  · exact h
  · exact .ite h (.ite h.elUpd.capUpd.capMeasure h.elUpd.capRaw.capNext)
theorem learnBegin {mask dur : Nat} (h : Canon s) : Canon (learnBegin mask dur s) := h.capUpd
theorem learnStart {mask : Nat} (h : Canon s) : Canon (learnStart mask s) := .ite h.put (.ite h.lopStart.learnBegin h.put)
theorem learnOne {i : Fin 16} (h : Canon s) : Canon (learnOne i s) := (Canon.ite h.put.put.put h).lopRecord
theorem learnFinish {state mask : Nat} (h : Canon s) : Canon (learnFinish state mask s) := h.cancel.lopEnd.capUpd.logReq
theorem learnDone (h : Canon s) : Canon (learnDone s) := .ite h (h.lopUpd.each fun h => h.learnOne).learnFinish
theorem learnAbort (h : Canon s) : Canon (learnAbort s) := .ite h.learnFinish h
theorem capRecal {mask : Nat} (h : Canon s) : Canon (capRecal mask s) := h.each fun h => h.elUpd
theorem dryWrite {i : Fin 16} {value : Word} (h : Canon s) : Canon (dryWrite i value s) := h.wr.put
theorem execMeasurementTimeout (h : Canon s) : CanonOut (execMeasurementTimeout s) := by
  dsimp only [Machine.execMeasurementTimeout]
  refine Canon.next ?_
  split
  · exact h
  · exact .ite h.elUpd.measureFail h
theorem execCaplearn {via : Via} (h : Canon s) : CanonOut (execCaplearn via s) := by
  dsimp only [Machine.execCaplearn]
  refine Canon.next ?_
  split
  · exact h.actAt fun h => h.learnStart
  · exact h.lopHostStart fun h => h.learnBegin

/-! ### Machine/Cnt.lean -/

theorem cuUpd {n : Fin 24} {f : Cu → Cu} (h : Canon s) : Canon (s.cuUpd n f) := h.upd
theorem cuLoadPeriod {n : Fin 24} (h : Canon s) : Canon (cuLoadPeriod n s) := .ite h.put.put h
theorem cuKeepStart {n : Fin 24} (h : Canon s) : Canon (cuKeepStart n s) := .ite h h.cuUpd
theorem cuReset {n : Fin 24} (h : Canon s) : Canon (cuReset n s) := h.put.cuLoadPeriod
theorem cuStart {n : Fin 24} (h : Canon s) : Canon (cuStart n s) := .ite h.put.cuLoadPeriod.cuUpd h
theorem cuCapture {n : Fin 24} (h : Canon s) : Canon (cuCapture n s) := .ite (h.cuUpd.put.put.when fun h => h.put).put.fire h
theorem cuAction {n : Fin 24} {code : Nat} (h : Canon s) : Canon (cuAction n code s) := h.cuUpd
theorem cuSink {n : Fin 24} (h : Canon s) : Canon (cuSink n s) := h.cuAction
theorem cuLink {n : Fin 24} {toTgt : Bool} {act : Nat} (h : Canon s) : Canon (cuLink n toTgt act s) := .dite (.ite h h.after) h
theorem cuPeriodEvent {n : Fin 24} (h : Canon s) : Canon (cuPeriodEvent n s) := h.put.fire.cuLoadPeriod.cuLink
theorem cuMatches {n : Fin 24} {taken : Nat → Bool} (h : Canon s) : Canon (cuMatches n taken s) :=
  ((h.when fun h => h.put.cuLink).when fun h => h.put.cuLink).when fun h => h.fire
theorem cuShrink {n : Fin 24} (h : Canon s) : Canon (cuShrink n s) := h.put.cuPeriodEvent.when fun h => h.put
theorem cuUp {n : Fin 24} {k p : Nat} (h : Canon s) : Canon (cuUp n k p s) :=
  .ite h.put.cuMatches (.ite h.cuMatches.cuPeriodEvent.put.put (h.cuMatches.put.cuPeriodEvent.when fun h => h.put))
theorem cuDown {n : Fin 24} {k p : Nat} (h : Canon s) : Canon (cuDown n k p s) :=
  .ite h.put.cuMatches (.ite h.cuMatches.cuPeriodEvent.put.put.put (h.cuMatches.put.cuPeriodEvent.put.when fun h => h.put))
theorem cuCount {n : Fin 24} {checked : Bool} (h : Canon s) : Canon (cuCount n checked s) := .ite h (.ite h.cuShrink (.ite h.cuUp (.ite h.cuDown h)))
theorem cuImmediate {n : Fin 24} (h : Canon s) : Canon (cuImmediate n s) := by
  dsimp only [Machine.cuImmediate]
  split
  · exact h.put.when fun h => h.put
  · exact h
theorem cuCountStep {n : Fin 24} (h : Canon s) : Canon (cuCountStep n s) :=
  have h1 := h.cuUpd.cuImmediate.when fun h => h.cuCapture
  ((Canon.ite h1.cuReset h1.cuCount.cuUpd).when fun h => h.cuStart).upd.cuUpd
theorem cuRunWrite {n : Fin 24} {off : Nat} (h : Canon s) : Canon (cuRunWrite n off s) := h.put.logReq
theorem cuCtlWrite {n : Fin 24} {old new : Word} (h : Canon s) : Canon (cuCtlWrite n old new s) :=
  (Canon.ite h.wr.cuRunWrite h.wr).when fun h => h.put
theorem cuCountWrite {n : Fin 24} {v : Word} (h : Canon s) : Canon (cuCountWrite n v s) := .ite h.cuRunWrite h.cuKeepStart.put
theorem cuMatchWrite {n : Fin 24} {isB : Bool} {v : Word} (h : Canon s) : Canon (cuMatchWrite n isB v s) := .ite h.wr (.ite h.cuUpd.wr h.cuUpd.wr)
theorem cuPeriodWrite {n : Fin 24} {v : Word} (h : Canon s) : Canon (cuPeriodWrite n v s) := .ite h.wr.cuUpd h.wr.put.cuUpd
theorem cuCaptureRead {n : Fin 24} (h : Canon s) : Canon (cuCaptureRead n s) := by
  dsimp only [Machine.cuCaptureRead]
  split
  · exact .ite h.upd.putB h.upd.put
  · exact h.upd.put
theorem cuCountRead {n : Fin 24} (h : Canon s) : Canon (cuCountRead n s) := h.cuUpd.upd
theorem cntAct {arg : BitVec 16} {action : Byte} (h : Canon s) : Canon (cntAct arg action s) := .dite (.ite h.cuAction h) h

/-! ### Machine/Mot.lean -/

theorem motPhase {m : Fin 4} {x : Fin 3} {per on : Nat} (h : Canon s) : Canon (motPhase m x per on s) :=
  have h1 := h.motUpd
  .ite h1.inc (.ite h1.inc h1)
theorem stallWatch {m : Fin 4} (h : Canon s) : Canon (stallWatch m s) := by
  dsimp only [Machine.stallWatch]
  refine .ite ?_ h.motUpd.cancel.motSetCond
  split
  · exact h.motUpd.restart
  · exact .ite h h.restart
theorem motEnable {m : Fin 4} {value : Word} (h : Canon s) : Canon (motEnable m value s) := by
  dsimp only [Machine.motEnable]
  refine .ite h.wr.motCheck.stallWatch ?_
  split
  · exact h.wr.put.setBit.logReq
  · exact h.wr.put.put.motEnter.restart.motWatch.stallWatch
theorem motDisable {m : Fin 4} {value : Word} (h : Canon s) : Canon (motDisable m value s) := h.wr.put.motEnter.motCarrierOff.put
theorem motInert {m : Fin 4} (h : Canon s) : Canon (motInert m s) := .ite h.motEnter.motCheck.stallWatch h
theorem motRelease {m : Fin 4} (h : Canon s) : Canon (motRelease m s) := .ite h.motUpd h
theorem motClear {m : Fin 4} (h : Canon s) : Canon (motClear m s) := .ite h (.ite h.motCheck.setBit.logReq h.motCheck.motDisable.motUpd)
theorem motRespWrite {m : Fin 4} {value : Word} (h : Canon s) : Canon (motRespWrite m value s) := h.put.when fun h => h.put
theorem motLimWrite {m : Fin 4} {value : Word} (h : Canon s) : Canon (motLimWrite m value s) := h.wr.motCheck
theorem motThofsWrite {m : Fin 4} {value : Word} (h : Canon s) : Canon (motThofsWrite m value s) := h.wr.put
theorem motAligned {m : Fin 4} (h : Canon s) : Canon (motAligned m s) := .ite h h.put.put.motUpd.logReq.motEnter
theorem motTurn {m : Fin 4} (h : Canon s) : Canon (motTurn m s) := .ite h.motEnter.motUpd (.ite h.motAligned h)
theorem periodStart {m : Fin 4} (h : Canon s) : Canon (periodStart m s) :=
  have h1 := h.fire.restart.motUpd.motTurn.motUpd.motPhase.motPhase.motPhase
  .ite h (.ite h.fire.restart.motUpd.motTurn (Canon.ite h1.restart.inc.motSetCond h1.restart.motSetCond).stallWatch)
theorem motLatch {m : Fin 4} (h : Canon s) : Canon (motLatch m s) := by
  dsimp only [Machine.motLatch]
  split
  · exact .ite h.motUpd h
  · exact h
theorem sampleRequest {m : Fin 4} (h : Canon s) : Canon (sampleRequest m s) := .ite h h.upd.motUpd.motLatch
theorem mcurGuard {ch : Fin 8} {code : Nat} (h : Canon s) : Canon (mcurGuard ch code s).1 := .iteFst (.ite h.upd.motorInputFault h.upd) h.upd
theorem currentPair {m : Fin 4} {codeA codeB : Nat} (h : Canon s) : Canon (currentPair m codeA codeB s) :=
  .ite h h.mcurGuard.mcurGuard.seqFeed.seqFeed.motUpd.putI.putI.putI.putI.motSetCond
theorem execMotorInert {m : Fin 4} {ticket : Option Byte} (h : Canon s) : CanonOut (execMotorInert m ticket s) := by
  dsimp only [Machine.execMotorInert]
  refine Canon.next ?_
  split
  · exact h.act fun h => h.motInert
  · exact h.motInert

/-! ### Machine/Fb.lean -/

theorem fbUpd {f : Fin 4} {g : Fb → Fb} (h : Canon s) : Canon (fbUpd f g s) := h.upd
theorem fbStep {f : Fin 4} {k : Int} (h : Canon s) : Canon (fbStep f k s) := h.fbUpd.wr.wr
theorem fbThv {f : Fin 4} (h : Canon s) : Canon (fbThv f s) := h.each fun h => .ite h.put h
theorem fbFault {f : Fin 4} {kind pair : Nat} (h : Canon s) : Canon (fbFault f kind pair s) := .ite h.hw.fire.logReq h.hw.fire.logReq.fbThv
theorem fbPhase {f : Fin 4} (h : Canon s) : Canon (fbPhase f s) := .ite h h.fbUpd.fbFault
theorem fbRate {f : Fin 4} (h : Canon s) : Canon (fbRate f s) := .ite h h.fbUpd.fbFault
theorem quadSample {f : Fin 4} {ra rb : Bool} {na nb : Nat} (h : Canon s) : Canon (quadSample f ra rb na nb s) := by
  dsimp only [Machine.quadSample]
  refine .ite h (.ite h.fbUpd ?_)
  split
  · exact h.fbUpd
  · exact h.fbUpd.fbPhase
  · exact .ite h.fbUpd.fbUpd.fbStep.fbRate h.fbUpd.fbUpd.fbStep
theorem ampWatch {f : Fin 4} {outside : Bool} (h : Canon s) : Canon (ampWatch f outside s) := .ite h.fbUpd.fbFault h.fbUpd
theorem sinCosSample {f : Fin 4} {rawS rawC : Int} (h : Canon s) : Canon (sinCosSample f rawS rawC s) :=
  have h1 := h.put.ampWatch
  have h2 := Canon.ite h1.draw h1
  have h3 := Canon.ite h2.fbUpd.fbStep h2.fbUpd
  .ite h (.ite h1 (.ite h3.fbRate h3))
theorem indexEdge {f : Fin 4} {held : Nat} (h : Canon s) : Canon (indexEdge f held s) :=
  have h1 := (Canon.ite h.wr.fire.wr h.wr.fire).put
  .ite h (.ite h1.fbUpd.fbFault h1.fbUpd)
theorem wireSet {f : Fin 4} {pair : Fin 3} {same : Option Nat} (h : Canon s) : Canon (wireSet f pair same s) := .ite h (.ite h.fbUpd.fbFault h.fbUpd)
theorem setPos {f : Fin 4} (h : Canon s) : Canon (setPos f s) := h.wr.wr.fbThv
theorem fbCtlWrite {f : Fin 4} {value : Word} (h : Canon s) : Canon (fbCtlWrite f value s) :=
  have h1 := h.wr
  .ite h1.fbUpd.restart (.ite h1.fbUpd (.ite h1.fbUpd h1))
theorem motSpeed {m : Fin 4} (h : Canon s) : Canon (motSpeed m s) := h.putI.motCheck.stallWatch
theorem fbUpdateNow {f : Fin 4} (h : Canon s) : Canon (fbUpdateNow f s) :=
  .ite (h.each fun h => h.fbMissing) ((h.each fun h => .ite h.fbMissing h.fbDomain).each fun h => .ite h.motSpeed h).fbUpd.restart

/-! ### Machine/Lehr.lean -/

theorem logEnter {e : LogEntry} (h : Canon s) : Canon (logEnter e s) := .ite h.upd (h.inc.when fun h => h.upd)
theorem logDropRecord (h : Canon s) : Canon (logDropRecord s) := .ite h.upd h
theorem logTake (h : Canon s) : Canon (logTake s) := by
  dsimp only [Machine.logTake]
  split
  · exact h
  · exact .ite h (Canon.ite h.put.inc.upd h).setBytes.put.upd
theorem logCycle (h : Canon s) : Canon (logCycle s) := (h.logTake.logDropRecord.each fun h => h.logEnter).upd.put.put
theorem logFwEntry {arg : BitVec 16} (h : Canon s) : Canon (logFwEntry arg s) := h.logReq

/-! ### Machine/Hif.lean -/

theorem hifUpd {f : HifSt → HifSt} (h : Canon s) : Canon (hifUpd f s) := h.upd
theorem sqUpd {n : Fin 8} {f : HSq → HSq} (h : Canon s) : Canon (sqUpd n f s) := h.hifUpd
theorem cqUpd {m : Fin 10} {f : HCq → HCq} (h : Canon s) : Canon (cqUpd m f s) := h.hifUpd
theorem slotUpd {i : Fin 16} {f : HSlot → HSlot} (h : Canon s) : Canon (slotUpd i f s) := h.hifUpd
theorem cqSetPi {m : Fin 10} {v : Nat} (h : Canon s) : Canon (cqSetPi m v s) := .ite h.put h.put
theorem cqSetState {m : Fin 10} {v : Nat} (h : Canon s) : Canon (cqSetState m v s) := .ite h.put h.put
theorem ringReport {ring cause idx : Nat} (h : Canon s) : Canon (ringReport ring cause idx s) := h.put.logReq.sendVector
theorem sqError {n : Fin 8} {cause idx : Nat} (h : Canon s) : Canon (sqError n cause idx s) := h.cancel.put.put.ringReport
theorem cqError {m : Fin 10} {cause idx : Nat} (h : Canon s) : Canon (cqError m cause idx s) := h.cqSetState.ringReport.each fun h => h.sqError
theorem aerNote (h : Canon s) : Canon (aerNote s) := h.draw.upd
theorem sqFail {n : Fin 8} (h : Canon s) : Canon (sqFail n s) := .ite h.sqUpd.sqError h.sqUpd
theorem tagAdd {n : Fin 8} {tag : Word} {gen : Nat} (h : Canon s) : Canon (tagAdd n tag gen s) := h.sqUpd
theorem tagDone {n : Fin 8} {tag : Word} {gen st : Nat} (h : Canon s) : Canon (tagDone n tag gen st s) := h.sqUpd
theorem completionWrite {i : Fin 16} (h : Canon s) : Canon (completionWrite i s) :=
  have h1 := Canon.ite h.postWrite.cqSetPi.putB h.postWrite.cqSetPi
  have h2 := Canon.ite h1.tagDone h1
  (Canon.ite h2.sendVector h2).slotUpd
theorem complete {i : Fin 16} {st result orig : Nat} (h : Canon s) : Canon (complete i st result orig s) :=
  .ite h.slotUpd.completionWrite h.slotUpd.hifUpd
theorem drainWait {m : Fin 10} (h : Canon s) : Canon (drainWait m s) := h.each fun h => .ite h.hifUpd.completionWrite h
theorem fetchKick (h : Canon s) : Canon (fetchKick s) := .ite h.restart h
theorem fetchBatch (h : Canon s) : Canon (fetchBatch s) := by
  dsimp only [Machine.fetchBatch]
  refine .ite h ?_
  split
  · exact h
  · exact (h.foldlFst fun h => h.slotUpd).put.postRead.hifUpd.fetchKick
theorem fetchUndo {i : Fin 16} (h : Canon s) : Canon (fetchUndo i s) := (h.each fun h => .ite h.slotUpd h).put
theorem arrivalCheck {i : Fin 16} (h : Canon s) : Canon (arrivalCheck i s) := by
  dsimp only [Machine.arrivalCheck]
  refine .ite h.complete ?_
  split
  · exact h.inc.complete
  · split
    · exact h.tagAdd.slotUpd.complete
    · refine .ite h.tagAdd.slotUpd.complete (.ite h.tagAdd.slotUpd.complete (.ite ?_ h.tagAdd.slotUpd.hifUpd.slotUpd))
      split
      · exact h.tagAdd.slotUpd.postRead.complete
      · exact h.tagAdd.slotUpd.hifUpd.slotUpd.postRead.foldl fun h => h.wr
theorem arrivedTurn {i : Fin 16} (h : Canon s) : Canon (arrivedTurn i s) := .ite h.fetchUndo.sqUpd h.sqUpd.arrivalCheck.fetchKick
theorem arrivedTurns {n : Fin 8} (h : Canon s) : Canon (arrivedTurns n s) := by
  dsimp only [Machine.arrivedTurns]
  refine h.each fun h => ?_
  split
  · exact h.arrivedTurn
  · exact h
theorem descStore {i : Fin 16} {d : BitVec 512} (h : Canon s) : Canon (descStore i d s) := h.each fun h => h.wr
theorem arrival {i : Fin 16} {desc : Option (BitVec 512)} {buf : Option (List Byte)} (h : Canon s) : Canon (arrival i desc buf s) := by
  dsimp only [Machine.arrival]
  generalize s.hif.slot[i].st = st
  cases st <;> cases desc
  case fetching.some => exact h.descStore.slotUpd.arrivedTurns
  case fetching.none => exact .ite h.aerNote.fetchUndo.sqUpd.sqFail h.aerNote.slotUpd
  case dropping.some => exact h.descStore.complete.fetchKick
  case dropping.none => exact h.aerNote.slotUpd.fetchKick
  all_goals exact h
theorem takeSlot {agent : Agent} (h : Canon s) : Canon (takeSlot agent s) := by
  dsimp only [Machine.takeSlot]
  split
  · exact h.upd
  · exact (Canon.ite h.hifUpd.slotUpd.hifUpd h.hifUpd.slotUpd).upd
theorem postDo {arg : BitVec 16} (h : Canon s) : Canon (postDo arg s) :=
  have h1 := h.hifUpd
  .ite h.put (.ite h1.slotUpd.fetchKick (Canon.ite h1.postWrite h1).complete.fetchKick)
theorem hifAct {arg : BitVec 16} {action : Byte} (h : Canon s) : Canon (hifAct arg action s) := .ite h.postDo h
theorem pollIssue {n : Fin 8} (h : Canon s) : Canon (pollIssue n s) := h.postRead.sqUpd.restart
theorem doorbellPoll {n : Fin 8} {crossing : Bool} (h : Canon s) : Canon (doorbellPoll n crossing s) := by
  dsimp only [Machine.doorbellPoll]
  refine .ite h (.ite (.ite h ?_) (Canon.ite h.inc h).pollIssue)
  split
  · exact (Canon.ite h.sqUpd h.wr).sqUpd.restart
  · exact (Canon.ite h.sqUpd h.wr).pollIssue
theorem pollComplete {n : Fin 8} {pi : Option (BitVec 16)} (h : Canon s) : Canon (pollComplete n pi s) := by
  dsimp only [Machine.pollComplete]
  refine .ite h ?_
  split
  · exact h.aerNote.sqFail
  · exact .ite h.sqError h.sqUpd.fetchKick
theorem consumerRead {m : Fin 10} {ci : Option (BitVec 16)} (h : Canon s) : Canon (consumerRead m ci s) := by
  dsimp only [Machine.consumerRead]
  refine .ite h ?_
  split
  · exact .ite h.postRead.cqUpd.aerNote.cqUpd.cqError h.postRead.cqUpd.aerNote.cqUpd
  · exact .ite h.postRead.cqUpd.cqError (Canon.ite h.postRead.cqUpd.cqUpd.cqUpd h.postRead.cqUpd.cqUpd).drainWait.fetchKick
theorem orWrite {m : Fin 10} {size : Nat} {d : List Byte} (h : Canon s) : Canon (orWrite m size d s) :=
  .ite h.postWrite.cqSetPi.hifUpd.sendVector h.postWrite.cqSetPi.hifUpd
theorem telProduce (h : Canon s) : Canon (telProduce s) :=
  have h1 := Canon.ite h.hifUpd.orWrite.draw.hifUpd h.hifUpd.hifUpd
  .ite h1.restart (.ite h1.cancel h1.restart)
theorem telemetry {crossing : Bool} (h : Canon s) : Canon (telemetry crossing s) := by
  dsimp only [Machine.telemetry]
  refine .ite h (.ite (.ite h ?_) (.ite h h.telProduce))
  split
  · exact (Canon.ite h.hifUpd h.wr).hifUpd.restart
  · exact (Canon.ite h.hifUpd h.wr).telProduce
theorem logCopy {ue : Bool} (h : Canon s) : Canon (logCopy ue s) := by
  dsimp only [Machine.logCopy]
  refine .ite h (.upd (.ite (.orWrite (.put ?_)) (.logReq (.orWrite (.put ?_)))))
  · split
    · exact h.eccFix.eccUe
    · exact h.eccFix
  · split
    · exact h.eccFix.eccUe
    · exact h.eccFix
theorem ringStart {ring : Fin 18} (h : Canon s) : Canon (ringStart ring s) :=
  have h1 := h.cqSetState.cqSetPi.cqUpd
  .ite h.put.put.put.sqUpd.restart (.ite h1.put.drainWait.fetchKick (.ite h1.hifUpd.restart h1.hifUpd))
theorem ringStop {ring : Fin 18} (h : Canon s) : Canon (ringStop ring s) := by
  dsimp only [Machine.ringStop]
  refine .ite (.sqUpd (.put (.put (.put (h.cancel.each fun h => .ite h ?_))))) (.ite h.cqSetState.cqSetPi
    (.ite h.cqSetState.cqSetPi.cancel h.cqSetState.cqSetPi))
  split
  · exact h.hifUpd.complete
  · exact h.complete
  · exact h.slotUpd
  · exact h
theorem hifWrite {agent : Agent} {a : Nat} {value : Word} (h : Canon s) : Canon (hifWrite agent a value s) := by
  dsimp only [Machine.hifWrite]
  refine .ite h.put ?_
  split
  · exact
      have h1 := h.wr
      .ite (.ite h.wr.ringStop h.put) (.ite h1.ringStart (.ite (.ite h1.sqUpd (.ite h1.sqUpd h1)) (.ite h1.hifUpd h1)))
  · exact
      have h1 := h.wr
      .ite (.ite h.wr.locksOf h.wr) (.ite (.ite h1 (.ite h1.restart (.ite h1.cancel (.ite h1 h1.restart)))) h.wr)
theorem functionReset {kind : Fin 3} (h : Canon s) : Canon (functionReset kind s) :=
  have h1 := (h.each fun h => .ite h.wr.cancel.put.put.put.sqUpd h.wr.cqSetState.cqSetPi).cancel.cancel.hifUpd
  have h2 := Canon.ite h1.upd.logReq.locksOf.put h1.upd.logReq.locksOf
  .ite h2.put.put.put.put.upd h2
theorem dmaResume (h : Canon s) : Canon (dmaResume s) := (h.each fun h => h.drainWait).fetchKick.each fun h => h.msixLate
theorem cfgWrite {o : Nat} {v : Word} (h : Canon s) : Canon (cfgWrite o v s) := by
  dsimp only [Machine.cfgWrite]
  split
  · exact h.upd
  · exact h.upd
  · exact .ite h.upd (.ite h.upd.dmaResume h)
  · exact h.upd.dmaResume
  · exact .ite h.functionReset h
  · exact h.upd
  · exact h.upd
  · exact h
theorem linkTrained {speed : Fin 4} {width : Fin 16} (h : Canon s) : Canon (linkTrained speed width s) := h.put.put.put.put.upd

/-! ### Machine/Link.lean -/

theorem aprUpd {f : Apr → Apr} (h : Canon s) : Canon (aprUpd f s) := h.upd
theorem laneUpd {ln : Fin 2} {f : AprLane → AprLane} (h : Canon s) : Canon (laneUpd ln f s) := h.aprUpd
theorem setLink {new : Nat} {joined : Fin 2 → Bool} (h : Canon s) : Canon (setLink new joined s) :=
  have h1 := h.each fun h => h.laneUpd
  .ite h1 (((h1.put.logReq.when fun h => h.put).when fun h => h.aprUpd).when fun h => h.fire)
theorem laneLoss {ln : Fin 2} {cause : Nat} (h : Canon s) : Canon (laneLoss ln cause s) := h.fire.put.logReq.each fun h => .ite h.refMissing h
theorem laneFresh {ln : Fin 2} (h : Canon s) : Canon (laneFresh ln s) := h.cancel.laneUpd
theorem halfLost {ln : Fin 2} (h : Canon s) : Canon (halfLost ln s) := h.laneUpd.when fun h => h.inc
theorem laneUnlock {ln : Fin 2} (h : Canon s) : Canon (laneUnlock ln s) := h.laneFresh.laneUpd
theorem linkFollow (h : Canon s) : Canon (linkFollow s) := .ite (.ite h.setLink h.setLink) (.ite h.setLink h)
theorem laneTo {ln : Fin 2} {st cause : Nat} (h : Canon s) : Canon (laneTo ln st cause s) :=
  .ite h (((Canon.ite h.laneFresh h.halfLost.laneUnlock).put.when fun h => h.aprUpd).when fun h => h.laneLoss).linkFollow
theorem aprDown {cause : Nat} (h : Canon s) : Canon (aprDown cause s) :=
  ((h.each fun h => h.halfLost.put.laneUnlock.when fun h => h.laneLoss).each fun h => h.laneUpd).setLink
theorem deskew {fnum : Nat} (h : Canon s) : Canon (deskew fnum s) := by
  dsimp only [Machine.deskew]
  split
  · exact
      have h1 := h.putI
      .ite (.ite h1.put (.ite h1.setLink (.ite h1.aprUpd h1))) h
  · exact h
theorem aprCycle (h : Canon s) : Canon (aprCycle s) := by
  dsimp only [Machine.aprCycle]
  refine .ite ?_ h
  split
  · exact (h.setLink.each fun h => h.restart).deskew
  · exact h.setLink.each fun h => h.restart
theorem linkTimeout {ln : Fin 2} (h : Canon s) : Canon (linkTimeout ln s) := .ite (.ite h.setLink h.laneUpd) h
theorem recentre {ln : Fin 2} {fill : Nat} (h : Canon s) : Canon (recentre ln fill s) := by
  dsimp only [Machine.recentre]
  refine .laneUpd (.when (h.inc.put.logReq.each fun h => ?_) fun h => h.inc)
  split
  · exact h.cancel
  · exact h
theorem bufIn {ln : Fin 2} {b : AprBlk} (h : Canon s) : Canon (bufIn ln b s) := have h1 := h.laneUpd; .ite h1.laneUpd (.ite h1.recentre h1)
theorem bufOut {ln : Fin 2} (h : Canon s) : Canon (bufOut ln s) := by
  dsimp only [Machine.bufOut]
  refine .ite h (.ite h.laneUpd ?_)
  split
  · exact h.recentre
  · exact .ite h.laneUpd.recentre h.laneUpd
theorem hdrErr (h : Canon s) : Canon (hdrErr s) := h.inc
theorem laneBlock {ln : Fin 2} {headerOk errored : Bool} (h : Canon s) : Canon (laneBlock ln headerOk errored s).1 :=
  .iteFst h (.iteFst (.iteFst (h.when fun h => h.hdrErr).put.laneUnlock.laneUpd (h.when fun h => h.hdrErr).laneUpd)
    (.iteFst (h.when fun h => h.hdrErr).laneTo (h.when fun h => h.hdrErr).laneUpd))
theorem frameSlot {ln : Fin 2} {valid : Bool} (h : Canon s) : Canon (frameSlot ln valid s) := .ite (.ite h.laneUpd (.ite h.laneTo h.laneUpd)) h
theorem aprIdle {ln : Fin 2} {clean : Bool} (h : Canon s) : Canon (aprIdle ln clean s) :=
  .ite (h.laneBlock.halfLost.when fun h => h.hdrErr).frameSlot.bufIn h.laneBlock.frameSlot
theorem frameValid {ln : Fin 2} {fnum : Nat} {seqrst : Bool} {sub : Nat} (h : Canon s) : Canon (frameValid ln fnum seqrst sub s) :=
  have h1 := h.laneUpd.when fun h => h.put
  have h2 := (Canon.ite (h1.when fun h => h.put.laneUpd).laneUpd h1.frameSlot).when fun h => h.restart
  have h3 := Canon.ite h2.deskew.aprUpd.setLink h2.deskew
  .ite (h3.each fun h => .ite h.refEvent h) h3
theorem aprFrame {ln : Fin 2} {lane fnum flen : Nat} {seqrst : Bool} {sub : Nat} (h : Canon s) : Canon (aprFrame ln lane fnum flen seqrst sub s) :=
  have h1 := h.laneBlock.halfLost.bufIn.when fun h => h.put
  .ite h.laneBlock.frameSlot (.ite h1.frameValid h1.inc.frameSlot)
theorem aprMsg {ln : Fin 2} {d : BitVec 64} (h : Canon s) : Canon (aprMsg ln d s) :=
  .ite h.laneBlock.halfLost.laneUpd.bufIn.frameSlot h.laneBlock.frameSlot
theorem aprData {ln : Fin 2} {headerOk ok : Bool} {d : BitVec 64} (h : Canon s) : Canon (aprData ln headerOk ok d s) := by
  dsimp only [Machine.aprData]
  refine .ite h.laneBlock.frameSlot (.ite h.laneBlock.halfLost.bufIn.frameSlot ?_)
  split
  · exact h.laneBlock.laneUpd.bufIn.frameSlot
  · split
    · exact (h.laneBlock.laneUpd.when fun h => h.inc).bufIn.frameSlot
    · exact h.laneBlock.laneUpd.upd.bufIn.frameSlot
theorem rxBlock {ln : Fin 2} {w : BitVec 66} {sub : Nat} (h : Canon s) : Canon (rxBlock ln w sub s) := by
  dsimp only [Machine.rxBlock]
  split
  · exact h.laneUpd.aprData
  · split
    · exact h.laneUpd.aprIdle
    · exact h.laneUpd.aprFrame
    · exact h.laneUpd.aprMsg
    · exact h.laneUpd.aprData
  · exact h.laneUpd.aprData
theorem clockRecovered {ln : Fin 2} (h : Canon s) : Canon (clockRecovered ln s) := .ite h (.ite h.laneUpd h.put.laneUnlock)
theorem clockUnlock {ln : Fin 2} (h : Canon s) : Canon (clockUnlock ln s) := h.laneTo.laneUpd
theorem seqSet {host bm : Nat} (h : Canon s) : Canon (seqSet host bm s) :=
  have h1 := h.put.put.when fun h => h.aprUpd
  .ite h1.cancel (.ite h1.restart h1)
theorem seqLost {lost : List Nat} (h : Canon s) : Canon (seqLost lost s) := by
  dsimp only [Machine.seqLost]
  split
  · exact h.inc.fire.logReq.aprUpd
  · exact h
theorem seqMark {seq : Nat} (h : Canon s) : Canon (seqMark seq s).1 :=
  .iteFst (Canon.ite h h.seqSet.put).inc (.iteFst (Canon.ite h h.seqSet.put).seqSet (Canon.ite h h.seqSet.put).seqSet.seqLost)
theorem gapTimeout (h : Canon s) : Canon (gapTimeout s) := by
  dsimp only [Machine.gapTimeout]
  split
  · exact h.seqSet.seqLost
  · exact h
theorem aprAccept {ln : Fin 2} {seq : Nat} {act : State → State} (h : Canon s) (hact : ∀ {t}, Canon t → Canon (act t)) :
    Canon (aprAccept ln seq act s) :=
  .ite (.ite (hact h.seqMark) h.seqMark) h
theorem txBlock {control : Bool} {d : BitVec 64} (h : Canon s) : Canon (txBlock control d s) := by
  dsimp only [Machine.txBlock]
  exact h.aprUpd
theorem txMessage {type : Nat} {body : List Byte} (h : Canon s) : Canon (txMessage type body s) := by
  dsimp only [Machine.txMessage]
  exact h.txBlock.aprUpd
theorem txSlotContent (h : Canon s) : Canon (txSlotContent s) := by
  dsimp only [Machine.txSlotContent]
  split
  · exact h.txBlock.aprUpd
  · refine .ite h.txBlock.aprUpd (.ite h.txBlock.aprUpd ?_)
    split
    · exact h.txMessage.put.aprUpd
    · refine .ite h.txMessage.aprUpd ?_
      split
      · exact h.txMessage.aprUpd
      · exact h.txBlock.aprUpd
theorem rxRelease (h : Canon s) : Canon (rxRelease s) := h.aprUpd.each fun h => .ite h.laneUpd.clockRecovered h
theorem txSlot (h : Canon s) : Canon (txSlot s) := .ite h ((h.when fun h => h.rxRelease).txSlotContent.aprUpd.aprUpd.each fun h => h.bufOut).restart
theorem telTimer {r : Fin 4} (h : Canon s) : Canon (telTimer r s) := .ite h.restart h.cancel
theorem aprTelem {r : Fin 4} (h : Canon s) : Canon (aprTelem r s) := .ite h.aprUpd.telTimer h
theorem aprCtlWrite {v : Word} (h : Canon s) : Canon (aprCtlWrite v s) :=
  have h1 := h.wr
  .ite (h1.aprUpd.restart.each fun h => h.telTimer) (.ite (h1.aprDown.aprUpd.cancel.each fun h => h.telTimer) (h1.each fun h => .ite h.linkTimeout h))
theorem aprTelWrite {v : Word} (h : Canon s) : Canon (aprTelWrite v s) := h.wr.each fun h => h.telTimer
theorem aprRetrain (h : Canon s) : Canon (aprRetrain s) := .ite h.aprUpd.aprDown.aprUpd h.aprUpd
theorem aprAct {action : Byte} (h : Canon s) : Canon (aprAct action s) := by
  dsimp only [Machine.aprAct]
  split
  · exact h.aprRetrain
  · exact h.put
  · exact h

/-! ### Machine/Usb.lean -/

theorem usbUpd {f : UsbSt → UsbSt} (h : Canon s) : Canon (usbUpd f s) := h.upd
theorem epUpd {k : Fin 7} {f : UsbEp → UsbEp} (h : Canon s) : Canon (epUpd k f s) := h.usbUpd
theorem setFst {v : Nat} (h : Canon s) : Canon (setFst v s) := h.put
theorem usbAnswer {a : Nat} {d : List Byte} (h : Canon s) : Canon (usbAnswer a d s) := h.usbUpd
theorem usbAck (h : Canon s) : Canon (usbAck s) := h.usbAnswer
theorem usbStall (h : Canon s) : Canon (usbStall s) := h.usbAnswer
theorem usbQuiet (h : Canon s) : Canon (usbQuiet s) := h.usbAnswer
theorem usbNak (h : Canon s) : Canon (usbNak s) := h.inc.usbAnswer
theorem gobTake {l : List Nat} (h : Canon s) : Canon (gobTake l s) := h.usbUpd
theorem gobFree {l : List Nat} (h : Canon s) : Canon (gobFree l s) := h.usbUpd
theorem gobStore {gobs : List Nat} {d : List Byte} (h : Canon s) : Canon (gobStore gobs d s) := by
  induction gobs generalizing s d with
  | nil => exact h
  | cons g l ih => exact ih h.agentWrite.wr
theorem regionWrite {j : Nat} {value : Word} (h : Canon s) : Canon (regionWrite j value s) := .ite h.put.logLimited h.store
theorem gobAlloc {agent : Agent} {j : Nat} (h : Canon s) : Canon (gobAlloc agent j s) := by
  dsimp only [Machine.gobAlloc]
  split
  · exact h.upd
  · exact .ite h.gobTake.upd.usbUpd h.gobTake.upd
theorem gobRelease {agent : Agent} {j g : Nat} (h : Canon s) : Canon (gobRelease agent j g s) := .ite h (.ite h.usbUpd h.gobFree)
theorem inPush {agent : Agent} {k : Fin 7} {len g : Nat} (h : Canon s) : Canon (inPush agent k len g s) := .ite h.put.logLimited h.epUpd
theorem outTake {agent : Agent} {k : Fin 7} (h : Canon s) : Canon (outTake agent k s) := by
  dsimp only [Machine.outTake]
  refine .ite ?_ h.upd
  split
  · exact h.upd
  · exact h.upd.epUpd
theorem rxDrop (h : Canon s) : Canon (rxDrop s) := h.usbUpd.cancel
theorem usbFlush (h : Canon s) : Canon (usbFlush s) := h.usbEmpty.rxDrop
theorem setHubBit {i : Nat} {b : Bool} (h : Canon s) : Canon (setHubBit i b s) := h.usbUpd
theorem portConnect (h : Canon s) : Canon (portConnect s) := h.setHubBit
theorem usbReconnect (h : Canon s) : Canon (usbReconnect s) := .ite h h.usbUpd.portConnect.setHubBit.restart
theorem usbDetach (h : Canon s) : Canon (usbDetach s) := h.setFst.put.put.put.cancel.usbUpd.usbFlush.locksOf
theorem usbAttach (h : Canon s) : Canon (usbAttach s) := .ite h.setFst.portConnect h
theorem usbCtlWrite {w : Word} (h : Canon s) : Canon (usbCtlWrite w s) := have h1 := h.store; .ite h1.usbAttach (.ite h1.usbUpd h1.usbUpd.usbDetach)
theorem usbLost (h : Canon s) : Canon (usbLost s) := .ite h (h.when fun h => h.logReq).logReq.usbDetach
theorem usbWake (h : Canon s) : Canon (usbWake s) := h.upRequests
theorem busReset {hs : Bool} (h : Canon s) : Canon (busReset hs s) :=
  .ite h (((h.when fun h => h.logReq).when fun h => h.usbWake).setFst.put.put.putB.usbFlush.each fun h => h.epUpd).usbUpd.fire.locksOf
theorem usbSuspend (h : Canon s) : Canon (usbSuspend s) := have h1 := h.setFst.usbUpd.fire; .ite (.ite h1.setReq.setReq.pwrUpd.pwrKick h1) h
theorem usbResume (h : Canon s) : Canon (usbResume s) := .ite h.setFst.usbWake h
theorem usbResumeEnd (h : Canon s) : Canon (usbResumeEnd s) := .ite h.setFst.usbUpd.fire h
theorem allocDrop (h : Canon s) : Canon (allocDrop s) := h.each fun h => h.epUpd.gobFree
theorem usbRequest {f : State → State} (h : Canon s) (hf : ∀ {t}, Canon t → Canon (f t)) : Canon (usbRequest f s) :=
  .ite (hf h.allocDrop) h.allocDrop.usbQuiet
theorem setAddress {hub : Bool} {addr : Nat} (h : Canon s) : Canon (setAddress hub addr s) :=
  .ite h.usbUpd.usbAck (.ite h.usbAck (.ite h.put.usbAck.setFst h.put.usbAck))
theorem setConfiguration {hub : Bool} {v : Nat} (h : Canon s) : Canon (setConfiguration hub v s) :=
  .ite h.usbStall (.ite h.usbUpd.usbAck (.ite h.put.setFst.usbAck (.ite h.put.setFst.usbFlush.usbAck h.usbAck)))
theorem usbStatus {hub : Bool} {rcpt : Fin 3} {index : BitVec 16} (h : Canon s) : Canon (usbStatus hub rcpt index s) := by
  dsimp only [Machine.usbStatus]
  refine .ite h.usbAnswer (.ite h.usbAnswer (.ite (.ite h.usbAnswer h.usbStall) ?_))
  split
  · exact h.usbStall
  · exact h.usbAnswer
theorem setHalt {k : Fin 7} {dirIn halt : Bool} (h : Canon s) : Canon (setHalt k dirIn halt s) := h.epUpd
theorem clearFeature {hub : Bool} {rcpt : Fin 3} {feature index : BitVec 16} (h : Canon s) : Canon (clearFeature hub rcpt feature index s) := by
  dsimp only [Machine.clearFeature]
  refine .ite (.ite (.ite h.setHubBit.usbAck h.usbStall) ?_) (.ite h.usbUpd.usbAck (.ite h.setHubBit.usbAck h.usbStall))
  split
  · exact h.usbStall
  · exact h.setHalt.usbAck
theorem setFeature {hub : Bool} {rcpt : Fin 3} {feature index : BitVec 16} (h : Canon s) : Canon (setFeature hub rcpt feature index s) := by
  dsimp only [Machine.setFeature]
  refine .ite (.ite (.ite h.setHubBit.usbAck h.usbStall) ?_) (.ite (.ite h.usbUpd.usbAck h.usbStall) (.ite h.setHubBit.usbAck h.usbStall))
  split
  · exact h.usbStall
  · exact .ite h.usbStall h.setHalt.usbAck
theorem getDescriptor {hub : Bool} {kind index : Byte} {len : BitVec 16} (h : Canon s) : Canon (getDescriptor hub kind index len s) := by
  dsimp only [Machine.getDescriptor]
  split
  · exact h.usbStall
  · exact h.usbAnswer.draw
theorem setPortFeature {feature p test : Nat} (h : Canon s) : Canon (setPortFeature feature p test s) :=
  .ite h.usbStall (.ite (Canon.ite h h.usbUpd).usbAck (.ite (Canon.ite h.setHubBit h).usbAck
    (.ite (Canon.ite h.setHubBit.setHubBit h).usbAck (.ite (.ite h.setHubBit.usbUpd.usbAck h.usbStall) h.usbStall))))
theorem clearPortFeature {feature p : Nat} (h : Canon s) : Canon (clearPortFeature feature p s) :=
  .ite h.usbStall (.ite h.setHubBit.usbAck (.ite (Canon.ite h.setHubBit.setHubBit h).usbAck
    (.ite (Canon.ite h h.usbUpd).usbAck (.ite h.usbUpd.usbAck (.ite h.setHubBit.usbAck h.usbStall)))))
theorem hubRequest {reqType req : Byte} {value index len : BitVec 16} (h : Canon s) : Canon (hubRequest reqType req value index len s) :=
  .ite h.usbAnswer (.ite (.ite h.usbStall h.usbAnswer) (.ite h.usbAnswer (.ite h.usbAck
    (.ite h.clearPortFeature (.ite h.setPortFeature (.ite h.usbAck (.ite h.usbAnswer.draw h.usbStall)))))))
theorem usbOvercurrent {p : Nat} (h : Canon s) : Canon (usbOvercurrent p s) := .ite h.usbUpd.setBit.logReq h
theorem outToken {k : Fin 7} (h : Canon s) : Canon (outToken k s) :=
  have h1 := h.allocDrop
  .ite h1.usbQuiet (.ite h1.usbStall (.ite h1.gobTake.epUpd.usbQuiet h1.usbNak))
theorem usbPing {k : Fin 7} (h : Canon s) : Canon (usbPing k s) :=
  have h1 := h.allocDrop
  .ite h1.usbQuiet (.ite h1.usbStall (.ite h1.usbAck h1.usbNak))
theorem svPacket {d : List Byte} (h : Canon s) : Canon (svPacket d s) := h.gobTake.gobStore.epUpd
theorem svRespond {op seq : Byte} {status : Nat} {payload : List Byte} (h : Canon s) : Canon (svRespond op seq status payload s) :=
  h.each fun h => h.svPacket
theorem svRun {f : State → State} (h : Canon s) (hf : ∀ {t}, Canon t → Canon (f t)) : Canon (svRun f s) := .ite (hf h) h
theorem svPlain {op seq : Byte} {len : BitVec 16} {f : State → State} (h : Canon s) (hf : ∀ {t}, Canon t → Canon (f t)) :
    Canon (svPlain op seq len f s) :=
  h.svRun fun h => .ite h.svRespond (hf h)
theorem svWords {k i : Nat} {l : List Word} (h : Canon s) : Canon (svWords k i l s).1 := by
  induction l generalizing s i with
  | nil => exact h
  | cons w l ih => exact ih h.dataWrite
theorem svReads {k i n : Nat} (h : Canon s) : Canon (svReads k i n s).1 := by
  induction n generalizing s i with
  | zero => exact h
  | succ n ih =>
    rw [Machine.svReads]
    exact ih h.mbxRead
theorem svSend {seq : Byte} {arg : Word} (h : Canon s) : Canon (svSend seq arg s) := h.sendWrite.svRespond
theorem recovWrite {seq : Byte} {arg : Word} {len : BitVec 16} {payload : List Byte} (h : Canon s) : Canon (recovWrite seq arg len payload s) :=
  .ite h.svRespond (.ite h.svRespond (.ite h.svRespond (.ite h.agentWrite.svRespond h.svRespond)))
theorem recovBoot {seq : Byte} {len : BitVec 16} (h : Canon s) : Canon (recovBoot seq len s) := by
  dsimp only [Machine.recovBoot]
  refine .ite h.svRespond (.ite h.svRespond (.ite ?_ (h.stagedRead fun h => ?_)))
  · split
    · exact h.bootUpd.svRespond.usbUpd.restart
    · exact h.svRespond
  · split
    · exact h.bootUpd.svRespond.usbUpd.restart
    · exact h.svRespond
theorem svDiscard {why : Nat} {op : Byte} (h : Canon s) : Canon (svDiscard why op s) := h.logLimited.rxDrop
theorem svReceive {d : List Byte} (h : Canon s) : Canon (svReceive d s) :=
  have h1 := Canon.ite h.restart h
  .ite h.usbUpd (.ite h (.ite (.ite h1.svDiscard h1.usbUpd) (.ite h1.svDiscard.usbUpd (.ite (.ite h1.svDiscard h1.usbUpd) h1.rxDrop.usbUpd.after))))
theorem outData {k : Fin 7} {tog crc : Bool} {data : List Byte} (h : Canon s) : Canon (outData k tog crc data s) := by
  dsimp only [Machine.outData]
  split
  · exact h
  · exact
      have h1 := h.epUpd
      .ite h1.gobFree.usbQuiet (.ite h1.inc.gobFree.usbQuiet (.ite h1.gobFree.usbQuiet
        (.ite h1.gobFree.usbAck (.ite h1.gobFree.usbNak (.ite h1.gobFree.gobStore.epUpd.usbAck.gobFree.svReceive
        h1.gobFree.gobStore.epUpd.usbAck.epUpd.inc)))))
theorem inToken {k : Fin 7} (h : Canon s) : Canon (inToken k s) := by
  dsimp only [Machine.inToken]
  refine .ite h.allocDrop.epUpd.usbQuiet (.ite h.allocDrop.epUpd.usbStall ?_)
  split
  · exact h.allocDrop.epUpd.usbNak
  · refine .ite h.allocDrop.epUpd.usbNak ?_
    split
    · exact (h.allocDrop.epUpd.each fun h => h.eccFix).eccUe.usbQuiet
    · exact (h.allocDrop.epUpd.each fun h => h.eccFix).epUpd.usbAnswer
theorem hubInToken (h : Canon s) : Canon (hubInToken s) := have h1 := h.allocDrop; .ite h1.usbQuiet (.ite h1.usbStall (.ite h1.usbNak h1.usbAnswer))
theorem inAck {k : Fin 7} (h : Canon s) : Canon (inAck k s) := by
  dsimp only [Machine.inAck]
  split
  · exact h
  · exact
      have h1 := h.epUpd.gobFree
      .ite h (.ite (.ite h1.usbUpd.restart h1.usbUpd) h1.inc)
theorem usbAccess {f : State → State} (h : Canon s) (hf : ∀ {t}, Canon t → Canon (f t)) : Canon (usbAccess f s) := .ite (hf h) h.upd

/-! ### Machine/View.lean -/

theorem snapshot {j : Nat} (h : Canon s) : Canon (snapshot j s) := .ite h h.upd.logReq
theorem logAct {arg : BitVec 16} {action : Byte} (h : Canon s) : Canon (logAct arg action s) := by
  dsimp only [Machine.logAct]
  split
  · exact h.snapshot
  · exact h.logFwEntry
  · exact h

/-! ### Machine/Evm.lean -/

theorem evmStore {a : Nat} {v : Word} (h : Canon s) : Canon (evmStore a v s) := (Canon.ite h h.upd).wr
theorem sinkWrite {c : Fin 32} {j : Fin 4} {v : Word} (h : Canon s) : Canon (sinkWrite c j v s) := by
  dsimp only [Machine.sinkWrite]
  refine .ite h.evmStore ?_
  split
  · exact h.evmStore
  · exact h.evmStore.setBit.put.logReq
theorem modeWrite {c : Fin 32} {v : Word} (h : Canon s) : Canon (modeWrite c v s) := .ite h.evmStore.put.logReq h.evmStore
theorem evoUpd {i : Fin 8} {f : Evo → Evo} (h : Canon s) : Canon (evoUpd i f s) := h.upd
theorem evoSink {i : Fin 8} (h : Canon s) : Canon (evoSink i s) := .ite h.evoUpd h.evoUpd.restart
theorem evoEnd {i : Fin 8} (h : Canon s) : Canon (evoEnd i s) := .ite h h.evoUpd
theorem evoModes (h : Canon s) : Canon (evoModes s) := h.each fun h => .ite h h.evoUpd
theorem sinkAct {k : Nat} (h : Canon s) : Canon (sinkAct k s) :=
  .ite h.irqRaise (.ite h.cuSink (.ite h.seqSink (.ite (.ite h.freeze h.inert) (.ite h.motInert
    (.ite h.snapshot (.ite (.ite h.sendVector h) h.evoSink))))))
theorem eventDelivery (h : Canon s) : Canon (eventDelivery s) := by
  dsimp only [Machine.eventDelivery]
  split
  · exact h
  · exact .ite h ((h.upd.each fun h => h.inc).each fun h => h.sinkAct)
theorem swTrig {arg : BitVec 16} (h : Canon s) : Canon (swTrig arg s) := h.upd
theorem evmAct {arg : BitVec 16} {action : Byte} (h : Canon s) : Canon (evmAct arg action s) := .ite h.swTrig h

/-! ### Machine/Block.lean -/

theorem blockHidden {id : Nat} {s0 : State} (h : Canon s) : Canon (blockHidden id s0 s) := by
  dsimp only [Machine.blockHidden]
  split
  · exact h.upd
  · exact
      have h1 := h.upd.each fun h => .iteApply h.gLoadFactory (.iteApply h.gLoadFactory h.gLoadFactory)
      .ite h1.lopEnd h1
  · exact h.upd
  · exact h.upd
  · exact h.upd
  · exact h.upd
  · exact h.upd
  · exact h.upd
  · exact h.upd
  · exact h.upd
  · exact h.upd
  · exact h.upd
  · exact h.upd
  · exact h.upd
  · exact (Canon.ite h.lopEnd h).upd.each fun h => h.wr.put
  · exact h.upd.put.put
  · exact h
theorem blockReset {id : Nat} (h : Canon s) : Canon (blockReset id s) :=
  have h1 : Canon { s with
      regs := mapEraseRange s.regs (0x40000000 + id * 65536) (0x40000000 + id * 65536 + 65536)
      live := mapEraseRange s.live (0x40000000 + id * 65536) (0x40000000 + id * 65536 + 65536) } :=
    ⟨mapWf_eraseRange _ _ _ _ h.regs, mapWf_eraseRange _ _ _ _ h.live, h.mem⟩
  h1.upd.blockHidden.each fun h => h.showPend
theorem blockResetAct {arg : BitVec 16} (h : Canon s) : Canon (blockResetAct arg s) := .ite h.blockReset h.put.logReq
theorem pwrAct {arg : BitVec 16} {action : Byte} (h : Canon s) : Canon (pwrAct arg action s) := .ite h.blockResetAct h
theorem phyDrop (h : Canon s) : Canon (phyDrop s) :=
  have h1 := h.put.put.logReq
  .ite h (Canon.ite h1.functionReset h1).usbLost.clockUnlock.clockUnlock
theorem phyReturn (h : Canon s) : Canon (phyReturn s) := .ite h.put.usbAttach h

/-! ### Machine/Clock.lean -/

theorem xinSchedule (h : Canon s) : Canon (xinSchedule s) := by
  dsimp only [Machine.xinSchedule]
  split
  · exact h.cancel.cancel
  · exact .ite h.cancel.cancel.after (.ite h.cancel.cancel.after h.cancel.cancel)
theorem xinDrop (h : Canon s) : Canon (xinDrop s) := h.put.put.put.upd.xinSchedule
theorem xinSelect (h : Canon s) : Canon (xinSelect s) := h.put.put
theorem xinWindow {count : Nat} {gap : Bool} (h : Canon s) : Canon (xinWindow count gap s) :=
  .ite (.ite h h.put.logReq.xinDrop) (.ite h.put.upd.xinSchedule h)
theorem xinLoss {since : Nat} (h : Canon s) : Canon (xinLoss since s) := .ite h.put.logReq.xinDrop h
theorem xinFirst (h : Canon s) : Canon (xinFirst s) := .ite h.xinSelect.upd h
theorem xinReturnTo {by_ : Nat} (h : Canon s) : Canon (xinReturnTo by_ s) := .ite h.xinSelect.put.logReq.cancel h
theorem clkCfgWrite {v : Word} (h : Canon s) : Canon (clkCfgWrite v s) := h.wr.xinSchedule

/-! ### Machine/Derive.lean -/

theorem storeIf {a : Nat} {w : Word} (h : Canon s) : Canon (s.storeIf a w) := .ite h h.store
theorem deriveFld {f : Fld} {v : Nat} (h : Canon s) : Canon (s.deriveFld f v) := h.storeIf
theorem mrvDerive {r : Fin 4} (h : Canon s) : Canon (mrvDerive r s) :=
  h.storeIf.storeIf.storeIf.storeIf.deriveFld.deriveFld.deriveFld.deriveFld.deriveFld
theorem motDerive {m : Fin 4} (h : Canon s) : Canon (motDerive m s) := h.deriveFld.deriveFld
theorem capDerive (h : Canon s) : Canon (capDerive s) := h.deriveFld.each fun h => h.deriveFld.deriveFld
theorem twDerive {n : Fin 2} (h : Canon s) : Canon (twDerive n s) := h.deriveFld.deriveFld.deriveFld.deriveFld
theorem xspiDerive (h : Canon s) : Canon (xspiDerive s) := h.deriveFld.deriveFld
theorem rateDerive {d : Fin 8} (h : Canon s) : Canon (rateDerive d s) := .ite h.put.put h.put.put.commitRate
theorem deriveBlock {id : Nat} (h : Canon s) : Canon (deriveBlock id s) := by
  dsimp only [Machine.deriveBlock]
  split
  · exact h.each fun h => h.mrvDerive
  · exact h.twDerive.twDerive
  · exact h.each fun h => h.motDerive
  · exact h.capDerive
  · exact h.xspiDerive
  · exact h
theorem expertLoad {id : Nat} (h : Canon s) : Canon (expertLoad id s) := by
  dsimp only [Machine.expertLoad]
  split
  · exact (h.each fun h => h.each fun h => h.storeIf).deriveBlock.xinSchedule
  · exact (h.each fun h => h.each fun h => h.storeIf).deriveBlock.each fun h => h.rateDerive.holdToDerive
  · exact (h.each fun h => h.each fun h => h.storeIf).deriveBlock.gNext.gNext.gNext
  · exact (h.each fun h => h.each fun h => h.storeIf).deriveBlock.each fun h => h.vthWritten.hicWritten.limitWritten
  · exact (h.each fun h => h.each fun h => h.storeIf).deriveBlock.showPends
  · exact (h.each fun h => h.each fun h => h.storeIf).deriveBlock.each fun h => h.deriveFld
  · exact (h.each fun h => h.each fun h => h.storeIf).deriveBlock.periodicArm
  · exact (h.each fun h => h.each fun h => h.storeIf).deriveBlock.each fun h => h.stallWatch
  · exact (h.each fun h => h.each fun h => h.storeIf).deriveBlock

/-! ### Machine/Bus.lean -/

theorem busFail (h : Canon s) : Canon (busFail s) := h.upd
theorem unanswered {agent : Agent} (h : Canon s) : Canon (unanswered agent s) := (Canon.ite h.upd h).busFail
theorem cfgAnswer {f : State → State} (h : Canon s) (hf : ∀ {t}, Canon t → Canon (f t)) : Canon (cfgAnswer f s) := .ite (hf h) h.busFail
theorem readClear {a : Nat} {event : Word} (h : Canon s) : Canon (readClear a event s) := by
  dsimp only [Machine.readClear]
  split
  · exact h
  · exact .ite h h.wr.upd
theorem calRead {agent : Agent} {w : Nat} (h : Canon s) : Canon (calRead agent w s) := .ite h.eccFix.eccUe.draw.upd h.eccFix.upd
theorem readHard {agent : Agent} {a : Nat} {t : State} (h : Canon s) (e : readHard agent a s = some t) : Canon t := by
  dsimp only [Machine.readHard] at e
  split at e
  · obtain ⟨w, -, rfl⟩ := Option.map_eq_some_iff.mp e
    exact h.calRead
  · split at e
    · exact Option.some.inj e ▸ h.upd.pwrUpd
    · split at e
      · exact Option.some.inj e ▸ h.upd.wr
      · exact Option.some.inj e ▸ h.cuCaptureRead
      · obtain ⟨n, -, rfl⟩ := Option.map_eq_some_iff.mp e
        exact h.cuCountRead
theorem readIo {agent : Agent} {a : Nat} {t : State} (h : Canon s) (e : readIo agent a s = some t) : Canon t := by
  dsimp only [Machine.readIo] at e
  split at e
  · exact Option.some.inj e ▸ h.takeSlot
  · split at e
    · exact Option.some.inj e ▸ h.queuePop
    · exact Option.some.inj e ▸ h.gobAlloc
    · exact Option.some.inj e ▸ h.outTake
    · cases e
theorem busRead {agent : Agent} {a0 : Nat} {event : Word} (h : Canon s) : Canon (busRead agent a0 event s) := by
  dsimp only [Machine.busRead]
  refine .ite (h.upd.cfgAnswer fun h => h.upd) (.ite h.upd.unanswered (.ite h.upd.upd (.ite (.ite h.upd.mbDeny h.upd.mbxRead.readClear) ?_)))
  split
  next e => exact h.upd.readHard e
  · split
    next e1 => exact h.upd.readIo e1
    · exact h.upd.upd.readClear
theorem actionOf {a : Nat} {arg : BitVec 16} {action : Byte} (h : Canon s) : Canon (actionOf a arg action s) := by
  dsimp only [Machine.actionOf]
  split
  · exact .ite (.ite h h.put) h
  · exact .ite h.xinReturnTo h
  · exact h.angAct
  · exact h.gathAct
  · exact h.mrvAct
  · exact h.protAct
  · exact h.edgeAct
  · exact h.aprAct
  · exact h.cntAct
  · exact h.evmAct
  · exact .ite h.trioReset (.ite h.wdtKick h)
  · exact h.lcsAct
  · exact h.hifAct
  · exact .ite h.lockBreak h
  · exact h.twAct
  · exact .ite h.usbReconnect h
  · exact .ite h.motClear (.ite h.motInert (.ite h.motRelease h))
  · exact .ite h.setPos h
  · exact .ite h.scanRequest (.ite h.learnStart (.ite h.capRecal (.ite h.learnAbort h)))
  · exact h.pwrAct
  · exact h.logAct
  · exact .ite h.xspiExec h
  · exact .ite h.verifyStart h
  · exact h
theorem actWrite {a : Nat} {ticket : Byte} {arg : BitVec 16} {action : Byte} (h : Canon s) : Canon (actWrite a ticket arg action s) :=
  .ite (.ite h Canon.deviceReset.after) (h.act fun h => h.actionOf)
theorem onAt {a base n stride : Nat} {f : Nat → State} (h : Canon s) (hf : ∀ {x}, Canon (f x)) : Canon (onAt a base n stride f s) := by
  dsimp only [Machine.onAt]
  split
  · exact hf
  · exact h
theorem cmpCtlWrite {r : Fin 4} {v : Word} (h : Canon s) : Canon (cmpCtlWrite r v s) := have h1 := Canon.ite h.wr.uvRelease h.wr; .ite h1.ovRelease h1
theorem rotWrite {v : Word} (h : Canon s) : Canon (rotWrite v s) := h.wr.gNext.gNext.gNext
theorem writeAngle {a : Nat} {v : Word} (h : Canon s) : Canon (writeAngle a v s) :=
  .ite h.clkCfgWrite (.ite h.syncCtlWrite (.ite h.railmapWrite (.ite h.rotWrite (((((((((Canon.ite h.seqEntWrite h.store).onAt h.seqStampWrite).onAt
    h.seqCtlWrite).onAt h.cmpCtlWrite).onAt h.acuStampWrite).onAt h.acuCtlWrite).onAt h.ratehWrite).onAt h.freqWrite).onAt h.angCtlWrite))))
theorem writeRail {a : Nat} {v : Word} (h : Canon s) : Canon (writeRail a v s) :=
  .ite h.aprCtlWrite (.ite h.aprTelWrite (((((((((((Canon.ite h.store.showPends (.ite h.edgeMapWrite h.store)).onAt
    (h.store.when fun h => h.parAbort)).onAt h.edgeMapWrite).onAt h.edgeCtlWrite).onAt h.respWrite).onAt h.wr.limitWritten).onAt
    h.wr.hicWritten).onAt h.wr.vthWritten).onAt h.updWrite).onAt h.vspmbWrite).onAt h.vshostWrite))
theorem writeCore {agent : Agent} {a : Nat} {v : Word} (h : Canon s) : Canon (writeCore agent a v s) := by
  dsimp only [Machine.writeCore]
  split
  · exact ((((h.store.onAt h.cuPeriodWrite).onAt h.cuMatchWrite).onAt h.cuMatchWrite).onAt h.cuCountWrite).onAt h.cuCtlWrite
  · exact ((Canon.ite h.sinkWrite h.store).onAt h.modeWrite).onAt h.evmStore
  · exact .ite h.wr.wdtResume (.ite h.wr.periodicArm (.ite (.ite h.wr.wakeUp h.wr) h.store))
  · exact h.hifWrite
theorem attnenWrite {n : Fin 2} {v : Word} (h : Canon s) : Canon (attnenWrite n v s) := .ite h.wr h.wr.attnKick
theorem twCtlWrite {n : Fin 2} {v : Word} (h : Canon s) : Canon (twCtlWrite n v s) := have h1 := Canon.ite h.wr h.wr.twUpd; .ite h1.attnKick h1
theorem writeIo {a : Nat} {v : Word} (h : Canon s) : Canon (writeIo a v s) :=
  .ite h.usbCtlWrite ((Canon.iteApply (.iteApply h.rspcWrite h.rspdWrite) (((h.store.onAt h.regionWrite).onAt h.avsCtlWrite).onAt
    h.attnenWrite)).onAt h.twCtlWrite)
theorem writeMotor {agent : Agent} {a : Nat} {v : Word} (h : Canon s) : Canon (writeMotor agent a v s) :=
  .ite h.capCtlWrite (.ite (.ite h.pwrUpd h) (.ite (.ite h.pwrUpd h) (((((((((h.store.onAt h.dryWrite).onAt h.fbCtlWrite).onAt h.wr.stallWatch).onAt
    h.wr.stallWatch).onAt h.wr.stallWatch).onAt h.motLimWrite).onAt h.motThofsWrite).onAt h.motRespWrite).onAt (.ite h.motEnable h.motDisable))))
theorem writeEffect {agent : Agent} {a : Nat} {v : Word} (h : Canon s) : Canon (writeEffect agent a v s) := by
  dsimp only [Machine.writeEffect]
  split
  · exact h.writeAngle
  · exact h.writeAngle
  · exact h.writeAngle
  · exact h.writeRail
  · exact h.writeRail
  · exact h.writeRail
  · exact h.writeRail
  · exact h.writeCore
  · exact h.writeCore
  · exact h.writeCore
  · exact h.writeCore
  · exact h.writeIo
  · exact h.writeIo
  · exact h.writeIo
  · exact h.writeMotor
  · exact h.writeMotor
  · exact h.writeMotor
  · exact h.writeMotor
  · exact h.store
theorem flagClear {agent : Agent} {a : Nat} {v event : Word} (h : Canon s) : Canon (flagClear agent a v event s) := by
  dsimp only [Machine.flagClear]
  split
  · exact h
  · exact
      have h1 := h.wr
      .ite h (.ite (.ite h1.wr h1) (.ite h1.imoAll (.ite h1.motWatchAll h1)))
theorem fieldWrite {agent : Agent} {a : Nat} {v event : Word} (h : Canon s) : Canon (fieldWrite agent a v event s) := by
  dsimp only [Machine.fieldWrite]
  split
  · exact h
  · exact
      have h1 := Canon.ite h.flagClear.wr.expertLoad h.flagClear
      have h2 := Canon.ite h1 h1.inc
      .ite h2 (.ite h2.writeEffect h2.writeEffect.deriveBlock)
theorem mbxWriteReg {agent : Agent} {a : Nat} {v : Word} (h : Canon s) : Canon (mbxWriteReg agent a v s) :=
  .ite h.inc (.ite (.ite h (.ite h.inc (.ite h.actWrite (.ite h (.ite h.fieldWrite h.fieldWrite.locktoChanged)))))
    (.ite h (.ite h.lockWrite (.ite h.sendWrite (.ite h.dataWrite h)))))
theorem gobWrite {agent : Agent} {a : Nat} {v : Word} {other : State} (h : Canon s) (k : Canon other) : Canon (gobWrite agent a v other s) :=
  (k.onAt h.inPush).onAt h.gobRelease
theorem irqSeen {a : Nat} (h : Canon s) : Canon (irqSeen a s) := .ite h.wakeUp h
theorem busWrite {agent : Agent} {a0 : Nat} {v event : Word} (h : Canon s) : Canon (busWrite agent a0 v event s) := by
  dsimp only [Machine.busWrite]
  refine .ite (h.upd.cfgAnswer fun h => h.cfgWrite) (.ite h.upd.unanswered (.ite h.upd.put
    (.ite (.ite h.upd.msixWrite h.upd) (.ite h.upd.mbxWriteReg ?_))))
  split
  · exact h.upd
  · exact .ite h.upd.actWrite (.ite (h.upd.gobWrite h.upd.fieldWrite) h.upd.fieldWrite.irqSeen)
theorem execAcuArm {k : Fin 16} {stamp ctl : Option Word} (h : Canon s) : CanonOut (execAcuArm k stamp ctl s) := by
  dsimp only [Machine.execAcuArm]
  refine Canon.next ?_
  split
  · refine .busWrite ?_
    split
    · exact h.busWrite
    · exact h
  · split
    · exact h.busWrite
    · exact h

/-! ### Machine/HostOps.lean -/

theorem opStatus {slot : Fin 16} (h : Canon s) : Canon (opStatus slot s) := .ite h.stageResult h.busRead.stageResult
theorem paramReads {slot : Fin 16} {i n : Nat} (h : Canon s) : Canon (paramReads slot i n s) := by
  induction n generalizing s i with
  | zero => exact h
  | succ n ih => exact ih h.busRead.wr
theorem opParamRead {slot : Fin 16} (h : Canon s) : Canon (opParamRead slot s) := .ite h.stageResult h.paramReads.stageResult
theorem paramWrites {slot : Fin 16} {i n : Nat} (h : Canon s) : Canon (paramWrites slot i n s) := by
  induction n generalizing s i with
  | zero => exact h
  | succ n ih => exact ih h.busWrite
theorem opParamWrite {slot : Fin 16} (h : Canon s) : Canon (opParamWrite slot s) := by
  dsimp only [Machine.opParamWrite]
  refine .ite h.stageResult ?_
  split
  · exact h.stageResult
  · exact ((h.each fun h => h.busWrite).paramWrites.each fun h => h.busWrite).stageResult
theorem opVset {slot : Fin 16} (h : Canon s) : Canon (opVset slot s) := .ite h.stageResult h.busWrite.stageResult
theorem writeEn {r : Fin 4} {en : Bool} (h : Canon s) : Canon (writeEn r en s) := h.busWrite
theorem opRailEnable {slot : Fin 16} (h : Canon s) : Canon (opRailEnable slot s) := .ite h.stageResult h.writeEn.stageResult
theorem opRailClear {slot : Fin 16} (h : Canon s) : Canon (opRailClear slot s) :=
  .ite h.stageResult (Canon.ite h.busWrite.writeEn h.busWrite).stageResult
theorem opMotorSpeed {slot : Fin 16} (h : Canon s) : Canon (opMotorSpeed slot s) := .ite h.stageResult h.busWrite.stageResult
theorem opTelemPeriod {slot : Fin 16} (h : Canon s) : Canon (opTelemPeriod slot s) := .ite h.stageResult h.busWrite.stageResult
theorem lopAbort {k : Fin 5} (h : Canon s) : Canon (lopAbort k s) := .ite h.cancel.lopEnd (.ite h.learnAbort (.ite h.lopUpd.gFullAbort h.lopUpd))
theorem opAbort {slot : Fin 16} (h : Canon s) : Canon (opAbort slot s) := .ite h.stageResult (.ite h.stageResult h.lopAbort.stageResult)
theorem ringPointBegin (h : Canon s) : Canon (ringPointBegin s) := h.upd.restart
theorem ringTestBegin {slot : Fin 16} (h : Canon s) : Canon (ringTestBegin slot s) := h.upd.ringPointBegin
theorem ringTestStart {slot : Fin 16} (h : Canon s) : Canon (ringTestStart slot s) :=
  .ite h.draw.stageResult (h.lopHostStart fun h => h.ringTestBegin)
theorem ringRecord (h : Canon s) : Canon (ringRecord s) := h.draw.draw.lopUpd.lopRecord
theorem ringPoint (h : Canon s) : Canon (ringPoint s) :=
  .ite h (.ite h.cancel.lopEnd (.ite h.ringRecord.upd.cancel.lopEnd h.ringRecord.upd.ringPointBegin))

/-! ### Machine/Shauc.lean -/

theorem fetchFault (h : Canon s) : Canon (fetchFault s).1 := by
  dsimp only [Machine.fetchFault]
  split
  · exact h
  · refine .iteFst h ?_
    split <;> next e => exact h.memRead.eqFst e
theorem settleRes {r : Res} (h : r.Canon) : Canon (settleRes r) := by
  cases r with
  | done s f => exact .ite (h.2 h.1.coreUpd) h.1
  | goto pc s => exact .ite (coreUpd h) h
  | branch pc s => exact .ite (coreUpd h) h
  | skip last s => exact .ite (coreUpd h) h
  | trap cause tval cap s => exact takeTrap h
theorem instr {body : State → Res} (h : Canon s) (hbody : ∀ {t}, Canon t → (body t).Canon) : CanonOut (instr body s) := by
  refine Canon.next (.ite h ?_)
  split
  · exact h.takeTrap
  · split
    next e => exact (h.fetchFault.eqFst e).takeTrap
    next e => exact (settleRes (hbody (h.fetchFault.eqFst e))).highWater
theorem writeReg {k : Nat} {v : Word} (h : Canon s) : (writeReg k v s).Canon := h.coreUpd.done id
theorem aluR {f : Word → Word → Word} {w : Word} (h : Canon s) : (aluR f w s).Canon := h.writeReg
theorem aluN {f : Word → Nat → Word} {n : Nat} {w : Word} (h : Canon s) : (aluN f n w s).Canon := h.writeReg
theorem aluI {f : Word → Word → Word} {imm w : Word} (h : Canon s) : (aluI f imm w s).Canon := h.writeReg
theorem condBranch {f : Word → Word → Bool} {w : Word} (h : Canon s) : (condBranch f w s).Canon := .ite h.branch (h.done id)
theorem priv {cS : Nat} {w : Word} {body : State → Res} (h : Canon s) (hbody : ∀ {t}, Canon t → (body t).Canon) : (priv cS w body s).Canon :=
  .ite (hbody h) h.trap
theorem loadBytes {n a : Nat} (h : Canon s) : Canon (loadBytes n a s).1 := by
  unfold Machine.loadBytes
  split
  · exact .iteFst h (show Canon (Machine.busRead .trio a 0 s) from h.busRead)
  · exact h.memRead
theorem storeBytes {a : Nat} {l : List Byte} (h : Canon s) : Canon (storeBytes a l s).1 := by
  unfold Machine.storeBytes
  split
  · exact .iteFst h (show Canon (Machine.busWrite .trio a (wordOfBytes l) 0 s) from h.busWrite)
  · exact h.memWrite
theorem load {n : Nat} {conv : Nat → Word} {w : Word} (h : Canon s) : (load n conv w s).Canon := by
  dsimp only [Machine.load]
  split
  · exact h.trap
  · split
    next e => exact (h.loadBytes.eqFst e).trap
    next e => exact (h.loadBytes.eqFst e).writeReg
theorem storeReg {n : Nat} {w : Word} (h : Canon s) : (storeReg n w s).Canon := by
  dsimp only [Machine.storeReg]
  split
  · exact h.trap
  · split
    next e => exact (h.storeBytes.eqFst e).trap
    next e => exact (h.storeBytes.eqFst e).done id
theorem loadCap {w : Word} (h : Canon s) : (loadCap w s).Canon := by
  dsimp only [Machine.loadCap]
  split
  · exact h.trap
  · split
    next e => exact (h.loadBytes.eqFst e).trap
    next e => exact (h.loadBytes.eqFst e).coreUpd.done id
theorem storeTagged {a : Nat} {l : List Byte} {tag : Bool} (h : Canon s) : Canon (storeTagged a l tag s).1 := by
  dsimp only [Machine.storeTagged]
  split
  next e => exact .ite (h.storeBytes.eqFst e).setTag (h.storeBytes.eqFst e)
  · exact h.storeBytes
theorem storeCap {w : Word} (h : Canon s) : (storeCap w s).Canon := by
  dsimp only [Machine.storeCap]
  split
  · exact h.trap
  · split
    next e => exact (h.storeTagged.eqFst e).trap
    next e => exact (h.storeTagged.eqFst e).done id
theorem windowMove {new : BitVec 3} {w : Word} (h : Canon s) : (windowMove new w s).Canon := h.coreUpd.done id
theorem spillWords {l : List (Fin 128)} {a : Nat} (h : Canon s) : Canon (spillWords l a s).1 := by
  induction l generalizing s a with
  | nil => exact h
  | cons k l ih =>
    dsimp only [Machine.spillWords]
    split
    next e => exact h.storeBytes.eqFst e
    next e => exact ih (h.storeBytes.eqFst e)
theorem fillWords {l : List (Fin 128)} {a : Nat} (h : Canon s) : Canon (fillWords l a s).1 := by
  induction l generalizing s a with
  | nil => exact h
  | cons k l ih =>
    dsimp only [Machine.fillWords]
    split
    next e => exact h.loadBytes.eqFst e
    next e => exact ih (h.loadBytes.eqFst e).coreUpd
theorem windowTransfer {perm : Nat} {move : List (Fin 128) → Nat → State → State × Option (Nat × Nat)} {w : Word} (h : Canon s)
    (hmove : ∀ {l a t}, Canon t → Canon (move l a t).1) : (windowTransfer perm move w s).Canon := by
  dsimp only [Machine.windowTransfer]
  split
  · exact h.trap
  · split
    next e => exact ((hmove h).eqFst e).trap
    next e => exact ((hmove h).eqFst e).done id
theorem loopStart {count w : Word} (h : Canon s) : (loopStart count w s).Canon := .ite h.trap (.ite h.skip h.coreUpd.goto)
theorem writeCap {w : Word} {v : Cap} (h : Canon s) : (writeCap w v s).Canon := h.coreUpd.done id
theorem checked {l : List (Bool × Nat × Nat)} {tval : Word} {body : State → Res} (h : Canon s) (hbody : ∀ {t}, Canon t → (body t).Canon) :
    (checked l tval body s).Canon := by
  dsimp only [Machine.checked]
  split
  · exact h.trap
  · exact hbody h
theorem trim {f : Cap → Nat → Cap} {w : Word} (h : Canon s) : (trim f w s).Canon := h.checked fun h => h.writeCap
theorem reservedWord {w : Word} (h : Canon s) : Canon (reservedWord w s).2 := h.draw
theorem reservedRegs {w : Word} (h : Canon s) : Canon (reservedRegs w s) := h.each fun h => h.draw.coreUpd
theorem reservedAccess {w : Word} (h : Canon s) : Canon (reservedAccess w s).1 := by
  have h1 := h.draw.draw.draw
  dsimp only [Machine.reservedAccess]
  split
  · exact h1
  · split
    next e => exact (Canon.iteFst h1.loadBytes (.iteFst h1.storeTagged h1.storeBytes)).eqFst e
    next e => exact (Canon.iteFst h1.loadBytes (.iteFst h1.storeTagged h1.storeBytes)).eqFst e
theorem reservedAccesses {w : Word} {n : Nat} (h : Canon s) : Canon (reservedAccesses w n s).1 := by
  induction n generalizing s with
  | zero => exact h
  | succ n ih =>
    dsimp only [Machine.reservedAccesses]
    split
    next e =>
      split
      · exact ih (h.reservedAccess.eqFst e)
      · exact h.reservedAccess.eqFst e
    · exact h.reservedAccess
theorem reservedTrap {w : Word} (h : Canon s) : (reservedTrap w s).Canon := (Canon.ite h.draw.draw.coreUpd h.draw.draw).trap
theorem reserved {w : Word} (h : Canon s) : (reserved w s).Canon := by
  dsimp only [Machine.reserved]
  split
  next e => exact (h.reservedWord.reservedAccesses.eqFst e).trap
  next e => exact .ite ((h.reservedWord.reservedAccesses.eqFst e).done id) (.ite (h.reservedWord.reservedAccesses.eqFst
      e).draw.reservedRegs.reservedTrap (h.reservedWord.reservedAccesses.eqFst e).draw.reservedRegs.goto)
theorem performVoted {p : Option (Nat × List Byte × Bool)} (h : Canon s) : Canon (performVoted p s) := by
  dsimp only [Machine.performVoted]
  split
  · exact h
  · exact .ite h.loadBytes h
  · exact .ite h.storeTagged h.storeBytes
theorem execArdspc {w : Word} (h : Canon s) : CanonOut (execArdspc w s) := by
  dsimp only [Machine.execArdspc]
  refine h.instr fun h => h.priv fun h => ?_
  split
  · exact h.writeCap
  · exact h.writeCap
  · exact h.writeCap
  · exact h.reserved
theorem execAwrspc {w : Word} (h : Canon s) : CanonOut (execAwrspc w s) := by
  dsimp only [Machine.execAwrspc]
  refine h.instr fun h => h.priv fun h => ?_
  split
  · exact h.coreUpd.done id
  · exact h.coreUpd.done id
  · exact h.reserved
theorem execMismatch {kind : Fin 5} {agree : BitVec 3} {x : Voted} (h : Canon s) : CanonOut (execMismatch kind agree x s) := by
  dsimp only [Machine.execMismatch]
  refine Canon.next (.ite (.ite (.rollbackStart (.ite ?_ (.performVoted ?_))) (.ite ?_ (.performVoted ?_))) h)
  · split
    · exact h.logReq
    · exact h
  · split
    · exact h.logReq
    · exact h
  · split
    · exact h.logReq
    · exact h
  · split
    · exact h.logReq
    · exact h

/-! ### Machine/Tap.lean -/

theorem tapUpd {f : Tap → Tap} (h : Canon s) : Canon (tapUpd f s) := h.upd
theorem tapLoad {code : BitVec 5} (h : Canon s) : Canon (tapLoad code s) := h.tapUpd
theorem tapBoundary {code : BitVec 5} {data pins : BitVec 250} (h : Canon s) : Canon (tapBoundary code data pins s) :=
  .ite h.tapLoad.tapUpd h.tapLoad.tapUpd
theorem tapSelect {code : BitVec 5} (h : Canon s) : Canon (tapSelect code s) := h.tapLoad.tapUpd
theorem dbgData {w : BitVec 250} (h : Canon s) : Canon (dbgData w s) := h.tapUpd.upd
theorem dbgRead {a : Nat} (h : Canon s) : Canon (dbgRead a s) := by
  dsimp only [Machine.dbgRead]
  refine .ite (.ite h.busRead h.busRead.tapUpd) ?_
  split
  · split
    next e => exact (h.memRead.eqFst e).dbgData
    next e => exact (h.memRead.eqFst e).busFail
  · split
    next e => exact (h.memRead.eqFst e).dbgData
    next e => exact (h.memRead.eqFst e).busFail
  · split
    next e => exact (h.memRead.eqFst e).dbgData
    next e => exact (h.memRead.eqFst e).busFail
  · refine .ite h.busFail ?_
    split
    · exact h.eccFix.eccUe.busFail
    · exact h.eccFix.dbgData
theorem dbgWrite {a : Nat} {l : List Byte} (h : Canon s) : Canon (dbgWrite a l s) :=
  have h1 := Canon.ite h.undoStore h
  .ite h.busWrite (.ite h.upd (.ite h.busFail (.ite h1.agentWrite.upd.highWater h1.agentWrite.upd)))
theorem dbgAuth {penuthal valid : Bool} (h : Canon s) : Canon (dbgAuth penuthal valid s) :=
  .ite h (.ite (.ite h.put (.ite h.tapUpd h)) (.ite h.tapUpd h))
theorem dbgCore {f : Core → Core} {out : Option (Core → BitVec 250)} (h : Canon s) : Canon (dbgCore f out s) := by
  dsimp only [Machine.dbgCore]
  refine .ite h.busFail (.coreUpd ?_)
  split
  · exact h.dbgData
  · exact h.upd
theorem dbgOp {op : DebugOp} (h : Canon s) : Canon (dbgOp op s) := by
  dsimp only [Machine.dbgOp]
  split
  · exact h.dbgAuth
  · exact h.dbgRead
  · exact h.dbgWrite
  · exact h.dbgCore
  · exact h.dbgCore
  · exact h.dbgCore
  · exact h.dbgCore
  · exact h.dbgCore
  · exact h.dbgCore
  · exact h.dbgCore
  · exact h.dbgCore
  · exact h.dbgCore
  · exact h.dbgCore
theorem debugPort {op : DebugOp} (h : Canon s) : Canon (debugPort op s) := by
  dsimp only [Machine.debugPort]
  split
  · exact .ite h h.dbgAuth
  · exact .ite h.dbgOp h.busFail

/-! ### Machine/Tick.lean -/

theorem enqueue {l : List Instr} (h : Canon s) : Canon (s.enqueue l) := h.upd
theorem toStage {n : Nat} (h : Canon s) : Canon (toStage n s) := h.upd
theorem pllLocks (h : Canon s) : Canon (pllLocks s) := (h.each fun h => h.put).upd
theorem scanSamples (h : Canon s) : Canon (scanSamples s) := .ite h.taSample.taSample (.ite h.taSlotEnd.taSlotEnd h)
theorem stage0 (h : Canon s) : Canon (stage0 s) :=
  ((h.pllLocks.scanSamples.foldl fun h => h.limitFollow).each fun h => h.motLatch).syncOutCycle.aprCycle.enqueue.toStage
theorem shapers (h : Canon s) : Canon (shapers s).1 := h.foldlFst fun h => h.parCycle
theorem stage1 (h : Canon s) : Canon (stage1 s) := by
  dsimp only [Machine.stage1]
  exact have h1 := h.each fun h => (h.when fun h => h.dacLoad).pipeCommit.totFeed; (Canon.ite h1.taSlotStart.taSlotStart h1).shapers.enqueue.toStage
theorem stage2 (h : Canon s) : Canon (stage2 s) := h.enqueue.toStage
theorem domAdvance {d : Fin 8} (h : Canon s) : Canon (domAdvance d s) := h.domUpd
theorem acuCycle {k : Fin 16} (h : Canon s) : Canon (acuCycle k s) := (h.when fun h => h.fire).acuUpd.when fun h => h.acuArmed
theorem domJump {d : Fin 8} (h : Canon s) : Canon (domJump d s) := by
  dsimp only [Machine.domJump]
  split
  · exact h.angleJump
  · exact h
theorem aoStart (h : Canon s) : Canon (aoStart s) := h.upd.each fun h => h.each fun h => h.fire
theorem stage3 (h : Canon s) : Canon (stage3 s) :=
  (((((h.each fun h => h.domAdvance).upd.when fun h => h.aoStart).each fun h => h.seqPended).each fun h => h.acuCycle).each fun h =>
    h.domJump).evoModes
theorem tick (h : Canon s) : Canon (tick s) := by
  dsimp only [Machine.tick]
  refine .ite h.upd (.ite h.upd ?_)
  split
  · exact h.stage0
  · exact h.stage1
  · exact h.stage2
  · exact h.stage3

/-! ### The step -/

/-- Every command keeps the canonical form. -/
theorem exec (h : Canon s) (c : Instr) : CanonOut (exec c s) := by
  cases c with
  | xinWindowEnd _ _ => exact h.xinWindow.next
  | xinLoss _ => exact h.xinLoss.next
  | xinFirstSelection => exact h.xinFirst.next
  | xinReturn => exact (Canon.ite h.xinReturnTo h).next
  | turnBoundary _ => exact h.turnBoundary.next
  | freezeEnd _ => exact h.unfreeze.next
  | syncPulse _ _ => exact h.syncPulse.next
  | syncPulseOverwidth => exact h.syncOverwidth.next
  | ringOpen => exact h.ringOpen.next
  | referenceMissing _ => exact h.refMissing.next
  | holdoverTimeout _ => exact h.lostEnter.next
  | acuFire _ => exact h.acuFire.next
  | setpointDacLoad _ => exact h.dacLoad.next
  | gloryWalkerStep _ => exact h.gloryStep.next
  | gloryGlmaxRelease _ => exact h.glmaxRelease.next
  | slewStep _ => exact h.slewStep.next
  | ffStale _ => exact h.ffMark.next
  | vinResult _ => exact (Canon.ite h.taUpd.vinResult h.setLevel).next
  | tmonResult _ _ => exact (Canon.ite h.taUpd.tmonSample h.setLevel).next
  | ovPersistence _ => exact h.ovDue.next
  | uvPersistence _ => exact h.uvDue.next
  | uvBlankExpiry _ => exact h.protUpd.next
  | sfFilterExpiry _ _ => exact h.sfResult.next
  | tmonTimeout _ => exact h.tmonMissing.next
  | vinTimeout => exact (h.each fun h => h.vinMissing).next
  | stopLowHoldEnd _ => exact h.lowHoldEnd.next
  | hiccupRestart _ => exact h.hicRestart.next
  | hicokExpiry _ => exact h.hicok.next
  | onEdgeCommit _ => exact h.onEdgeCommit.next
  | slotCrossing _ => exact h.slotCrossing.next
  | offEdge _ => exact h.offEdge.next
  | minOffTimeEnd _ => exact h.minOffEnd.next
  | rotationStepStart _ => exact h.gPeriodic.next
  | shadowComplete _ _ => exact h.gShadowComplete.next
  | laneSwap _ => exact h.gLaneSwap.next
  | calibrationComplete _ _ => exact h.gCalComplete.next
  | sequencerStampCrossing _ => exact h.seqCrossing.next
  | sequencerEntryEnd _ _ => exact h.seqLevel.seqEntryEnd.next
  | sequencerTimeout _ => exact h.seqTimeout.next
  | linkTimeout _ => exact h.linkTimeout.next
  | forecast _ _ _ _ _ _ _ => exact (h.aprAccept fun h => h.parTake).next
  | vset _ _ _ _ => exact (h.aprAccept fun h => h.vsetArrive).next
  | unknownMessage _ _ => exact (h.aprAccept fun h => h.inc).next
  | gapTimeout => exact h.gapTimeout.next
  | txSlot => exact h.txSlot.next
  | telem _ => exact h.aprTelem.next
  | prerampStart _ => exact h.parRampStart.next
  | rampComplete _ => exact h.parRampComplete.next
  | handoff _ => exact h.parHandoff.next
  | unwind _ => exact h.parUnwind.next
  | unwindComplete _ => exact h.parUnwindComplete.next
  | cuCountStep _ => exact h.cuCountStep.next
  | linkAction _ _ => exact h.cuAction.next
  | eventDelivery => exact h.eventDelivery.next
  | evoPulseEnd _ => exact h.evoEnd.next
  | add _ => exact h.instr fun h => h.aluR
  | sub _ => exact h.instr fun h => h.aluR
  | and_ _ => exact h.instr fun h => h.aluR
  | or_ _ => exact h.instr fun h => h.aluR
  | xor _ => exact h.instr fun h => h.aluR
  | sll _ => exact h.instr fun h => h.aluN
  | srl _ => exact h.instr fun h => h.aluN
  | sra _ => exact h.instr fun h => h.aluN
  | slt _ => exact h.instr fun h => h.aluR
  | sltu _ => exact h.instr fun h => h.aluR
  | min _ => exact h.instr fun h => h.aluR
  | max _ => exact h.instr fun h => h.aluR
  | minu _ => exact h.instr fun h => h.aluR
  | maxu _ => exact h.instr fun h => h.aluR
  | slli _ => exact h.instr fun h => h.aluN
  | srli _ => exact h.instr fun h => h.aluN
  | srai _ => exact h.instr fun h => h.aluN
  | sati _ => exact h.instr fun h => h.aluN
  | mul _ => exact h.instr fun h => h.aluR
  | mulh _ => exact h.instr fun h => h.aluR
  | mulhu _ => exact h.instr fun h => h.aluR
  | madd _ => exact h.instr fun h => h.aluR
  | msub _ => exact h.instr fun h => h.aluR
  | div _ => exact h.instr fun h => h.aluR
  | divu _ => exact h.instr fun h => h.aluR
  | rem _ => exact h.instr fun h => h.aluR
  | remu _ => exact h.instr fun h => h.aluR
  | addi _ => exact h.instr fun h => h.aluI
  | andi _ => exact h.instr fun h => h.aluI
  | ori _ => exact h.instr fun h => h.aluI
  | xori _ => exact h.instr fun h => h.aluI
  | slti _ => exact h.instr fun h => h.aluI
  | sltiu _ => exact h.instr fun h => h.aluI
  | lui _ => exact h.instr fun h => h.writeReg
  | ldw _ => exact h.instr fun h => h.load
  | ldh _ => exact h.instr fun h => h.load
  | ldhu _ => exact h.instr fun h => h.load
  | ldb _ => exact h.instr fun h => h.load
  | ldbu _ => exact h.instr fun h => h.load
  | stw _ => exact h.instr fun h => h.storeReg
  | sth _ => exact h.instr fun h => h.storeReg
  | stb _ => exact h.instr fun h => h.storeReg
  | ldc _ => exact h.instr fun h => h.loadCap
  | stc _ => exact h.instr fun h => h.storeCap
  | beq _ => exact h.instr fun h => h.condBranch
  | bne _ => exact h.instr fun h => h.condBranch
  | blt _ => exact h.instr fun h => h.condBranch
  | bge _ => exact h.instr fun h => h.condBranch
  | bltu _ => exact h.instr fun h => h.condBranch
  | bgeu _ => exact h.instr fun h => h.condBranch
  | j _ => exact h.instr fun h => h.branch
  | call _ => exact h.instr fun h => h.coreUpd.goto
  | jmpl _ => exact h.instr fun h => .ite h.trap h.coreUpd.goto
  | wopen _ => exact h.instr fun h => .ite h.trap h.windowMove
  | wclose _ => exact h.instr fun h => .ite h.trap h.windowMove
  | loop _ => exact h.instr fun h => h.loopStart
  | loopi _ => exact h.instr fun h => h.loopStart
  | rdsr _ => exact h.instr fun h => .iteApply (h.priv fun h => h.writeReg) h.writeReg
  | wrsr _ => exact h.instr fun h => h.priv fun h => h.done fun h => h.coreUpd
  | trap _ => exact h.instr fun h => h.trap
  | bkpt _ => exact h.instr fun h => h.trap
  | tret _ => exact h.instr fun h => h.priv fun h => h.coreUpd.goto
  | wfi _ => exact h.instr fun h => h.priv fun h => h.done fun h => .iteApply h h.ckptStart
  | ckpt _ => exact h.instr fun h => h.priv fun h => h.done fun h => h.ckptStart
  | wspill _ => exact h.instr fun h => h.priv fun h => h.windowTransfer fun h => h.spillWords
  | wfill _ => exact h.instr fun h => h.priv fun h => h.windowTransfer fun h => h.fillWords
  | acpy _ => exact h.instr fun h => h.writeCap
  | ardbase _ => exact h.instr fun h => h.writeReg
  | ardlen _ => exact h.instr fun h => h.writeReg
  | ardperm _ => exact h.instr fun h => h.writeReg
  | ardtype _ => exact h.instr fun h => h.writeReg
  | ardtag _ => exact h.instr fun h => h.writeReg
  | atrimlo _ => exact h.instr fun h => h.trim
  | atrimlen _ => exact h.instr fun h => h.trim
  | amask _ => exact h.instr fun h => h.checked fun h => h.writeCap
  | avoid _ => exact h.instr fun h => h.writeCap
  | alock _ => exact h.instr fun h => h.checked fun h => h.writeCap
  | aunlock _ => exact h.instr fun h => h.checked fun h => h.writeCap
  | awithin _ => exact h.instr fun h => h.writeReg
  | ajump _ => exact h.instr fun h => h.checked fun h => .ite h.trap h.coreUpd.goto
  | aenter _ => exact h.instr fun h => h.checked fun h => h.coreUpd.goto
  | ardpcc _ => exact h.instr fun h => h.writeCap
  | ardspc _ => exact h.execArdspc
  | awrspc _ => exact h.execAwrspc
  | definedIllegal _ => exact h.instr fun h => h.trap
  | reservedEncoding _ => exact h.instr fun h => h.reserved
  | interrupt => exact h.execInterrupt
  | rollbackComplete => exact h.rollbackComplete.next
  | trioRelease => exact h.trioRelease.next
  | periodicCheckpoint => exact (Canon.ite h.ckptStart h).next
  | highWaterCheckpoint => exact h.highWater.next
  | checkpointComplete => exact h.checkpointComplete.next
  | wake => exact h.wakeUp.next
  | watchdogExpiry => exact (Canon.ite h.trioReset h).next
  | scrubRead _ _ => exact have h1 := h.upd; (Canon.ite h (.ite h1.eccCe.setSoft (.ite h1.eccUe.setBad h1))).next
  | bankWipeComplete _ => exact (Canon.ite h.bufferWiped h.domainReady).next
  | xspiCommandComplete _ => exact h.xspiDone.next
  | flashTimeout _ _ => exact h.execFlashTimeout
  | secureBoot => exact h.secureBoot.next
  | signatureCheckComplete => exact h.sigCheck.next
  | verifyComplete => exact (Canon.ite h.verifyEnd h).next
  | otpProgramComplete _ => exact h.otpComplete.next
  | wipeRegionComplete _ _ => exact h.wipeRegion.next
  | doorbellPoll _ _ => exact h.doorbellPoll.next
  | doorbellPollComplete _ _ => exact h.pollComplete.next
  | descriptorFetch => exact h.fetchBatch.next
  | consumerWordRead _ _ => exact h.consumerRead.next
  | telemetryRecord _ => exact h.telemetry.next
  | ringtestPointComplete => exact h.ringPoint.next
  | statusWordWrite _ => exact (h.when fun h => h.lopStatus.restart).next
  | lockTimeout _ => exact (Canon.ite h.lockLapse h).next
  | controllerStretchTimeout _ => exact (Canon.ite h.twEnd.selfReset h).next
  | selfReset _ => exact (Canon.ite h.selfReset h).next
  | inbandRequest _ _ => exact h.inband.next
  | hostNotify _ _ => exact h.hostNotify.next
  | avsCommitArrival _ => exact h.avsArrive.next
  | avsFrameTimeout _ => exact (Canon.ite h.avsUpd.avsDiscard h).next
  | suspend => exact h.usbSuspend.next
  | resumeEnd => exact h.usbResumeEnd.next
  | overcurrent _ => exact h.usbOvercurrent.next
  | reconnectRestore => exact h.usbUpd.portConnect.next
  | info _ _ => exact (h.svPlain fun h => h.svRespond).next
  | devtime _ _ => exact (h.svPlain fun h => h.svRespond).next
  | mbxLock _ _ _ => exact (h.svPlain fun h => h.lockRead.svRespond).next
  | mbxRelease _ _ _ => exact (h.svPlain fun h => h.lockWrite.svRespond).next
  | mbxWrite _ _ _ _ => exact (h.svRun fun h => .ite h.svRespond h.svWords.svRespond).next
  | mbxRead _ _ _ => exact (h.svRun fun h => .ite h.svRespond (.ite h.svRespond h.svReads.svRespond)).next
  | mbxSend _ _ _ => exact (h.svPlain fun h => h.svSend).next
  | mbxTake _ _ _ => exact (h.svPlain fun h => h.takeRead.svRespond).next
  | recovWrite _ _ _ _ => exact (h.svRun fun h => h.recovWrite).next
  | recovBoot _ _ => exact (h.svRun fun h => h.recovBoot).next
  | recoveryLoad => exact h.cancel.recoveryLoad.next
  | unknownServiceOp _ _ => exact (h.svRun fun h => h.svRespond).next
  | serviceFrameTimeout => exact (Canon.ite h h.svDiscard.usbUpd).next
  | pwmPeriodStart _ => exact h.periodStart.next
  | currentSampleRequest _ => exact h.sampleRequest.next
  | alignmentDone _ => exact (Canon.ite h.motAligned h).next
  | driverFault _ _ => exact h.motUpd.motCheck.next
  | stall _ => exact (Canon.ite h.motSetCond h).next
  | wireDisagreement _ _ _ => exact h.wireSet.next
  | fbUpdate _ => exact h.fbUpdateNow.next
  | scanStart => exact h.scanStart.next
  | measurementTimeout => exact h.execMeasurementTimeout
  | learnEnd => exact h.learnDone.next
  | powerRequest _ _ => exact h.pwrUpd.powerRequest.next
  | domainSwitch => exact h.domainSwitch.next
  | domainReady _ => exact h.domainReady.next
  | devreset _ _ => exact (Canon.ite h (.ite Canon.deviceReset.after (h.act fun h => h.put))).next
  | startup => exact (Canon.ite h.startup h).next
  | culletWipeComplete => exact h.culletComplete.next
  | logEntryWrite => exact h.logCycle.next
  | logCopy _ => exact h.logCopy.next
  | minOnTimeEnd _ => exact h.minOnEnd.next
  | syncInEdge _ => exact h.execSyncInEdge
  | dischargeCheck _ => exact (Canon.ite h (h.capUpd.when fun h => h.measureFail)).next
  | registerWrite _ _ _ => exact h.busWrite.next
  | readClear _ _ _ => exact h.busRead.next
  | w1cWrite _ _ _ _ => exact h.busWrite.next
  | expertSet _ _ _ => exact h.busWrite.next
  | expertClear _ _ _ => exact h.busWrite.next
  | unlistedAction _ _ _ _ _ => exact h.busWrite.next
  | clkactReturn _ _ => exact (h.act fun h => h.xinReturnTo).next
  | reacquire _ _ => exact (h.act fun h => h.reacquire).next
  | domainEnable _ _ => exact h.busWrite.next
  | domainDisable _ _ => exact h.busWrite.next
  | srcChange _ _ => exact h.busWrite.next
  | freqWrite _ _ => exact h.freqWrite.next
  | ratehWrite _ _ => exact h.busWrite.next
  | railmapWrite _ => exact h.railmapWrite.next
  | roleChange _ => exact h.busWrite.next
  | acuArm _ _ _ => exact h.execAcuArm
  | mergedSample _ _ => exact h.execMergedSample
  | vSaturation _ _ => exact h.vSaturation.next
  | iSample _ _ => exact (Canon.ite h.pSample h).next
  | imonOpen _ => exact h.imonOpen.next
  | motorInputFault _ => exact h.motorInputFault.motWatchAll.next
  | undershootAssert _ => exact (Canon.ite h.uvAssert h).next
  | undershootRelease _ => exact (Canon.ite h.uvRelease h).next
  | overshootAssert _ => exact (Canon.ite h.ovAssert h).next
  | overshootRelease _ => exact (Canon.ite h.ovRelease h).next
  | vshostWrite _ _ => exact h.vshostWrite.next
  | vspmbWrite _ _ => exact h.vspmbWrite.next
  | updHoldClear _ _ => exact h.updWrite.next
  | compensatorClear _ _ => exact (h.act fun h => h.mrvClear).next
  | balanceClear _ _ => exact (h.act fun h => h.mrvBalClear).next
  | protClear _ _ => exact (h.act fun h => h.protClear).next
  | abort _ _ => exact (h.act fun h => h.protAbort).next
  | restoreph _ _ => exact (h.act fun h => h.protRestore).next
  | edgeEnable _ _ => exact h.busWrite.next
  | edgeDisable _ _ => exact h.busWrite.next
  | freeze _ _ => exact h.execFreeze
  | unfreeze _ _ => exact (h.act fun h => h.unfreeze).next
  | inert _ _ => exact h.execInert
  | release _ _ => exact (h.act fun h => h.release).next
  | rotate _ _ => exact (h.act fun h => h.gathRotate).next
  | fullcal _ => exact h.execFullcal
  | calslice _ _ => exact (h.act fun h => h.gathCalslice).next
  | retire _ _ => exact (h.act fun h => h.gathRetire).next
  | restore _ _ => exact (h.act fun h => h.gathRestore).next
  | start _ _ => exact (h.act fun h => h.gathStart).next
  | sequencerDisable _ _ => exact h.seqCtlWrite.next
  | idle _ _ => exact h.rxBlock.next
  | frame _ _ _ _ _ _ => exact h.rxBlock.next
  | msg _ _ => exact h.rxBlock.next
  | dataBlock _ _ _ _ => exact h.rxBlock.next
  | clockRecovered _ => exact h.clockRecovered.next
  | clockRecoveryUnlock _ => exact h.clockUnlock.next
  | aprEnable _ => exact h.busWrite.next
  | retrain _ _ => exact (Canon.ite (h.act fun h => h.aprAct) h.upd).next
  | seqreset _ _ => exact (Canon.ite (h.act fun h => h.aprAct) h.upd).next
  | cuStart _ _ => exact (h.act fun h => h.cntAct).next
  | cuReset _ _ => exact (h.act fun h => h.cntAct).next
  | startReset _ _ => exact (h.act fun h => h.cntAct).next
  | capture _ _ => exact (h.act fun h => h.cntAct).next
  | periodWrite _ _ => exact h.cuPeriodWrite.next
  | captureRead _ => exact h.cuCaptureRead.next
  | sinkEnableWrite _ _ _ => exact h.sinkWrite.next
  | modeWrite _ _ => exact h.modeWrite.next
  | swtrig _ _ => exact (h.act fun h => h.swTrig).next
  | mismatch _ _ _ => exact h.execMismatch
  | debugHalt => exact (Canon.ite h (.ite h.setSpeed.wdtPause.cancel (.ite h h.trioUpd.wakeUp))).next
  | debugResume => exact (Canon.ite h (.ite h.trioUpd.enterRun h.trioUpd)).next
  | trioResetAction _ _ => exact (h.act fun h => h.trioReset).next
  | kick _ _ => exact (h.act fun h => h.wdtKick).next
  | irqPendClear _ _ _ => exact h.wr.wr.next
  | exec _ _ => exact (h.actAt fun h => h.xspiExec).next
  | verify _ => exact h.execVerify
  | program _ _ => exact (h.act fun h => h.otpProgram).next
  | transition _ _ => exact (h.act fun h => h.otpTransition).next
  | arver _ _ => exact (h.act fun h => h.otpArver).next
  | revoke _ _ => exact (h.act fun h => h.otpRevoke).next
  | wipe _ => exact h.execWipe
  | pcieFunctionReset _ => exact h.functionReset.next
  | ringEnable _ _ _ => exact (Canon.ite h.hifWrite h.upd).next
  | ringDisable _ _ _ => exact (Canon.ite h.hifWrite h.upd).next
  | descriptorArrival _ _ _ => exact h.arrival.next
  | hifTake _ => exact (Canon.ite h.takeSlot h.upd).next
  | post _ _ => exact (h.actAt fun h => h.postDo).next
  | status _ => exact h.opStatus.next
  | paramRead _ => exact h.opParamRead.next
  | paramWrite _ => exact h.opParamWrite.next
  | hostVset _ => exact h.opVset.next
  | railEnable _ => exact h.opRailEnable.next
  | railClear _ => exact h.opRailClear.next
  | motorSpeed _ => exact h.opMotorSpeed.next
  | telemPeriod _ => exact h.opTelemPeriod.next
  | ringtest _ => exact h.ringTestStart.next
  | longopAbort _ => exact h.opAbort.next
  | lockRead _ _ => exact h.lockReads.next
  | lockRelease _ _ _ => exact (h.mbReached fun h => h.lockWrite).next
  | mailboxDataWrite _ _ _ _ => exact (h.mbReached fun h => h.dataWrite).next
  | mailboxSend _ _ _ _ => exact (h.mbReached fun h => h.sendWrite).next
  | mailboxTake _ _ => exact (h.mbReached fun h => h.takeRead).next
  | page _ _ => exact (h.pmbus (fun h => h.twAnswer) (fun h => h.twWrite fun h => h.put)).next
  | operation _ _ => exact (h.pmbus (fun h => h.mirrorRead) (fun h => h.queueWrite fun h => h)).next
  | clearFaults _ _ => exact (h.pmbus (fun h => h.tableRead) (fun h => h.queueWrite fun h => h.put)).next
  | capability _ _ => exact (h.pmbus (fun h => h.twAnswer) (fun h => h.readOnly)).next
  | voutMode _ _ => exact (h.pmbus (fun h => h.twAnswer) (fun h => h.readOnly)).next
  | voutCommand _ _ => exact (h.pmbus (fun h => h.mirrorRead) (fun h => h.queueWrite fun h => h)).next
  | voutMax _ _ => exact (h.pmbus (fun h => h.mirrorRead) (fun h => h.queueWrite fun h => h)).next
  | voutMin _ _ => exact (h.pmbus (fun h => h.mirrorRead) (fun h => h.queueWrite fun h => h)).next
  | coefficients _ _ => exact h.execCoefficients
  | statusByte _ _ => exact (h.pmbus (fun h => h.mirrorRead) (fun h => h.readOnly)).next
  | statusWord _ _ => exact (h.pmbus (fun h => h.mirrorRead) (fun h => h.readOnly)).next
  | statusVout _ _ => exact (h.pmbus (fun h => h.mirrorRead) (fun h => h.readOnly)).next
  | statusIout _ _ => exact (h.pmbus (fun h => h.mirrorRead) (fun h => h.readOnly)).next
  | statusInput _ _ => exact (h.pmbus (fun h => h.mirrorRead) (fun h => h.readOnly)).next
  | statusTemperature _ _ => exact (h.pmbus (fun h => h.mirrorRead) (fun h => h.readOnly)).next
  | statusCml _ _ => exact (h.pmbus (fun h => h.mirrorRead) (fun h => h.readOnly)).next
  | statusMfrSpecific _ _ => exact (h.pmbus (fun h => h.mirrorRead) (fun h => h.readOnly)).next
  | readVin _ _ => exact (h.pmbus (fun h => h.mirrorRead) (fun h => h.readOnly)).next
  | readVout _ _ => exact (h.pmbus (fun h => h.mirrorRead) (fun h => h.readOnly)).next
  | readIout _ _ => exact (h.pmbus (fun h => h.mirrorRead) (fun h => h.readOnly)).next
  | readTemperature1 _ _ => exact (h.pmbus (fun h => h.mirrorRead) (fun h => h.readOnly)).next
  | readTemperature2 _ _ => exact (h.pmbus (fun h => h.mirrorRead) (fun h => h.readOnly)).next
  | pmbusRevision _ _ => exact (h.pmbus (fun h => h.twAnswer) (fun h => h.readOnly)).next
  | mfrId _ _ => exact (h.pmbus (fun h => h.twAnswer) (fun h => h.readOnly)).next
  | mfrModel _ _ => exact (h.pmbus (fun h => h.twAnswer) (fun h => h.readOnly)).next
  | mfrRevision _ _ => exact (h.pmbus (fun h => h.twAnswer) (fun h => h.readOnly)).next
  | mfrMbxSel _ _ => exact (h.mfr (fun h => h.twAnswer) (fun h => h.twWrite fun h => h.put)).next
  | mfrMbxLock _ _ => exact (h.mfr (fun h => h.lockRead.twAnswer) (fun h => h.twWrite fun h => h.lockWrite)).next
  | mfrMbxData _ _ => exact (h.mfr (fun h => h.twAnswer) (fun h => h.twWrite fun h => h.foldl fun h => h.dataWrite)).next
  | mfrMbxSend _ _ => exact (h.mfr (fun h => h.tableRead) (fun h => h.twWrite fun h => h.sendWrite)).next
  | mfrMbxTake _ _ => exact (h.mfr (fun h => h.takeRead.twAnswer) (fun h => h.readOnly)).next
  | mfrAttn _ _ => exact (h.mfr (fun h => .ite h.twAnswer h.attnRead) (fun h => h.readOnly)).next
  | mfrDevtime _ _ => exact (h.mfr (fun h => h.twAnswer) (fun h => h.readOnly)).next
  | mfrClear _ _ => exact (h.pmbus (fun h => h.tableRead) (fun h => h.queueWrite fun h => h)).next
  | responseTableRead _ _ => exact h.execResponseTableRead
  | unsupportedCommand _ _ => exact (Canon.ite h.twSilent h.twBegin.badCommand).next
  | queuePop _ _ => exact (Canon.ite h.queuePop h.upd).next
  | pointerWrite _ _ => exact h.pointerWrite.next
  | pointerRead _ _ => exact h.pointerRead.next
  | personalityChange _ => exact h.personality.next
  | controllerExec _ _ => exact (h.actAt fun h => h.twExec).next
  | controllerTransferEnd _ _ _ => exact h.transferEnd.next
  | twReset _ _ => exact (h.actAt fun h => h.twReset).next
  | request _ _ => exact (h.actAt fun h => h.twRequest).next
  | hostNotifyReceived _ _ _ _ => exact h.notifyReceived.next
  | avsVoltageWrite _ _ _ _ _ => exact h.avsFrame.next
  | avsVoltageRead _ _ _ => exact h.avsFrame.next
  | avsTransitionRateRead _ _ _ => exact h.avsFrame.next
  | avsCurrentRead _ _ _ => exact h.avsFrame.next
  | avsTemperatureRead _ _ _ => exact h.avsFrame.next
  | avsResetVoltageWrite _ _ _ _ => exact h.avsFrame.next
  | avsStatusRead _ _ _ => exact h.avsFrame.next
  | avsStatusWrite _ _ _ _ => exact h.avsFrame.next
  | usbAttach => exact h.usbUpd.usbAttach.next
  | usbDetach => exact h.usbUpd.usbLost.next
  | busReset _ => exact h.busReset.next
  | resume => exact h.usbResume.next
  | setAddress _ _ => exact (h.usbRequest fun h => h.setAddress).next
  | setConfiguration _ _ => exact (h.usbRequest fun h => h.setConfiguration).next
  | getStatus _ _ _ => exact (h.usbRequest fun h => h.usbStatus).next
  | clearFeature _ _ _ _ => exact (h.usbRequest fun h => h.clearFeature).next
  | setFeature _ _ _ _ => exact (h.usbRequest fun h => h.setFeature).next
  | getDescriptor _ _ _ _ => exact (h.usbRequest fun h => h.getDescriptor).next
  | getConfiguration _ => exact (h.usbRequest fun h => h.usbAnswer).next
  | getInterface _ => exact (h.usbRequest fun h => .iteApply h.usbAnswer h.usbAnswer).next
  | setInterface _ _ => exact (h.usbRequest fun h => .iteApply h.usbAck (.iteApply h.usbStall h.usbStall)).next
  | unsupportedRequest => exact (h.usbRequest fun h => h.usbStall).next
  | hubClassRequest _ _ _ _ _ => exact (h.usbRequest fun h => h.hubRequest).next
  | outToken _ => exact h.outToken.next
  | outData _ _ _ _ => exact h.outData.next
  | ping _ => exact h.usbPing.next
  | inToken _ => exact (Canon.dite h.inToken h.hubInToken).next
  | inAck _ => exact h.inAck.next
  | sof _ _ => exact (Canon.ite h.allocDrop.put.put.fire h).next
  | gobAlloc _ _ => exact (h.usbAccess fun h => h.gobAlloc).next
  | gobRelease _ _ _ => exact (h.usbAccess fun h => h.gobRelease).next
  | inPush _ _ _ _ => exact (h.usbAccess fun h => h.inPush).next
  | outTake _ _ => exact (h.usbAccess fun h => h.outTake).next
  | regionConfig _ _ => exact (h.usbAccess fun h => h.regionWrite).next
  | reconnect _ _ => exact (h.actAt fun h => h.usbReconnect).next
  | motorEnable _ _ => exact h.busWrite.next
  | motorDisable _ _ => exact h.busWrite.next
  | motorInert _ _ => exact h.execMotorInert
  | motorRelease _ _ => exact (h.act fun h => h.motRelease).next
  | motorClear _ _ => exact (h.act fun h => h.motClear).next
  | currentPairComplete _ _ _ => exact .ite h.next h.gTake.gTake.currentPair.next
  | quadSample _ _ _ => exact h.quadSample.next
  | sincosSample _ _ _ => exact h.sinCosSample.next
  | indexEdge _ => exact h.indexEdge.next
  | setpos _ _ => exact (h.act fun h => h.setPos).next
  | measurementEnd _ => exact h.measureEnd.next
  | scan _ _ => exact (h.actAt fun h => h.scanRequest).next
  | caplearn _ => exact h.execCaplearn
  | recal _ _ => exact (h.actAt fun h => h.capRecal).next
  | capAbort _ _ => exact (h.actAt fun h => h.learnAbort).next
  | blockreset _ _ => exact (h.act fun h => h.blockResetAct).next
  | powerOnReset _ => exact (Canon.ite Canon.deviceReset.wr .deviceReset).next
  | resetPin => exact Canon.deviceReset.next
  | phySupplyDrop => exact h.phyDrop.next
  | snap _ _ => exact (h.act fun h => h.logAct).next
  | fwentry _ _ => exact (h.act fun h => h.logFwEntry).next
  | extest _ _ => exact h.tapBoundary.next
  | idcode => exact h.tapLoad.tapUpd.next
  | samplePreload _ _ => exact h.tapBoundary.next
  | clamp => exact h.tapSelect.next
  | highz => exact h.tapSelect.next
  | bypass _ => exact h.tapSelect.next
  | authenticatedDebugPort _ _ => exact h.tapLoad.debugPort.next
  | tapReset => exact h.tapUpd.next
  | phySupplyReturn => exact h.phyReturn.next
  | pcieLinkUp _ _ => exact (Canon.ite h.linkTrained h).next
  | debugSessionEnd => exact h.tapUpd.locksOf.next
  | downstreamRemoteWakeup _ => exact (Canon.ite h.usbResume h).next
  -- BREAK, whose name is a keyword.
  | _ => exact (h.act fun h => h.lockBreak).next

theorem step (h : Canon s) : CanonOut (step s) := by
  dsimp only [Machine.step]
  split
  · exact h.upd.exec _
  · exact h.tick.next

end Canon

/-- Settles O60: the canonical form holds in the state after each command and each tick, by the lemma of each operation. -/
theorem canonicalForm : Obligations.CanonicalForm := by
  intro s h
  obtain ⟨t, ht, hc⟩ := ((mapsOk_iff_canon s).mp h).step
  exact ⟨t, ht, (mapsOk_iff_canon t).mpr hc⟩

end Sys2Proof.Machine
end

section
/-!
PROOFS. Ticketed actions: a repeated ticket and a fresh one (R20 to R22).
-/
namespace Sys2Proof.Machine

/-- A command is the write of an action to an ACT register, where the register's slot answers. -/
def IsAction (ticket : Byte) (arg : BitVec 16) (c : Instr) (act : Nat) (action : Byte) : Prop :=
  ∃ f, ∀ s, slotOn act s = true → exec c s = .next (s.act act ticket arg action f)

section
variable {ticket : Byte} {arg : BitVec 16} {c : Instr} {act : Nat} {action : Byte}

/-- An action whose meaning does not ask whether the slot answers. -/
theorem IsAction.plain {f : State → State} (h : ∀ s, exec c s = .next (s.act act ticket arg action f)) : IsAction ticket arg c act action :=
  ⟨f, fun s _ => h s⟩

/-- An action that ends with a bus error where the slot does not answer. -/
theorem IsAction.gated {f g : State → State} (hrun : ∀ s, exec c s = .next (g s))
    (hact : ∀ s, slotOn act s = true → g s = s.act act ticket arg action f) : IsAction ticket arg c act action :=
  ⟨f, fun s hon => by rw [hrun, hact s hon]⟩

/-- A repeated ticket: the write is ignored entirely. -/
theorem IsAction.repeated (h : IsAction ticket arg c act action) {s : State} (hon : slotOn act s = true) (hne : ticket ≠ 0)
    (heq : ticket = (s.rd act).extractLsb' 24 8) : Does c s fun t => t = s := by
  obtain ⟨f, hrun⟩ := h
  exact ⟨_, hrun s hon, s.act_repeated act ticket arg action f (fun hf => hf.elim hne (fun h => h heq))⟩

/-- A fresh ticket: a register that implements every bit holds the write's ticket, argument and action. -/
theorem IsAction.fresh (h : IsAction ticket arg c act action) (hfull : implMask act = BitVec.allOnes 32) {s : State} (hon : slotOn act s = true)
    (hf : Fresh act ticket s) : Does c s fun t => t.rd act = actWord ticket (arg &&& argMask act action) action := by
  obtain ⟨f, hrun⟩ := h
  refine ⟨_, hrun s hon, ?_⟩
  dsimp only
  rw [State.act_fresh s act ticket arg action f hf, State.rd_wr_same, hfull, BitVec.and_allOnes]

end

/-- The action commands of R20, DEVRESET aside, each with its ACT register and action (`noncomputable`: `Instr` has too many tags for the runtime). -/
noncomputable def ticketedActions (ticket : Byte) (arg : BitVec 16) : List (Instr × Nat × Byte) :=
  [(.clkactReturn ticket arg, Reg.SYS_CLKACT, 1), (.reacquire ticket arg, Reg.ANG_ACT, 1), (.compensatorClear ticket arg, Reg.MRV_ACT, 1),
    (.balanceClear ticket arg, Reg.MRV_ACT, 2), (.protClear ticket arg, Reg.PROT_ACT, 1), (.abort ticket arg, Reg.PROT_ACT, 2),
    (.restoreph ticket arg, Reg.PROT_ACT, 3), (.unfreeze ticket arg, Reg.EDGE_ACT, 2), (.release ticket arg, Reg.EDGE_ACT, 4),
    (.rotate ticket arg, Reg.GATH_ACT, 1), (.calslice ticket arg, Reg.GATH_ACT, 3), (.retire ticket arg, Reg.GATH_ACT, 4),
    (.restore ticket arg, Reg.GATH_ACT, 5), (.start ticket arg, Reg.GATH_ACT, 16), (.retrain ticket arg, Reg.APR_ACT, 1),
    (.seqreset ticket arg, Reg.APR_ACT, 2), (.cuStart ticket arg, Reg.CNT_ACT, 1), (.cuReset ticket arg, Reg.CNT_ACT, 2),
    (.startReset ticket arg, Reg.CNT_ACT, 3), (.capture ticket arg, Reg.CNT_ACT, 4), (.swtrig ticket arg, Reg.EVM_ACT, 1),
    (.trioResetAction ticket arg, Reg.TRIO_ACT, 1), (.kick ticket arg, Reg.TRIO_ACT, 2), (.exec ticket arg, Reg.XSPI_ACT, 1),
    (.program ticket arg, Reg.LCS_ACT, 1), (.transition ticket arg, Reg.LCS_ACT, 2), (.arver ticket arg, Reg.LCS_ACT, 3),
    (.revoke ticket arg, Reg.LCS_ACT, 4), (.post ticket arg, Reg.HIF_ACT, 1), (.break ticket arg, Reg.MBX_ACT, 1),
    (.controllerExec ticket arg, Reg.TW_ACT, 1), (.twReset ticket arg, Reg.TW_ACT, 3), (.request ticket arg, Reg.TW_ACT, 2),
    (.reconnect ticket arg, Reg.USB_ACT, 1), (.motorRelease ticket arg, Reg.MOT_ACT, 3), (.motorClear ticket arg, Reg.MOT_ACT, 1),
    (.setpos ticket arg, Reg.FB_ACT, 1), (.scan ticket arg, Reg.CAP_ACT, 1), (.recal ticket arg, Reg.CAP_ACT, 3),
    (.capAbort ticket arg, Reg.CAP_ACT, 4), (.blockreset ticket arg, Reg.PWR_ACT, 1), (.snap ticket arg, Reg.LOG_ACT, 1),
    (.fwentry ticket arg, Reg.LOG_ACT, 2)]

theorem implMask_of_ticketed (ticket : Byte) (arg : BitVec 16) {p : Instr × Nat × Byte} (h : p ∈ ticketedActions ticket arg) :
    implMask p.2.1 = BitVec.allOnes 32 := by
  have hregs : ∀ a ∈ (ticketedActions 0 0).map (·.2.1), implMask a = BitVec.allOnes 32 := by decide +kernel
  exact hregs _ (List.mem_map_of_mem (f := fun p => p.2.1) h)

/-- Most actions ask for no power; the slots of XSPI, HIF, TW, USB, CAP and APR do not answer while their domain is off. -/
theorem isAction_of_ticketed (ticket : Byte) (arg : BitVec 16) :
    ∀ p ∈ ticketedActions ticket arg, IsAction ticket arg p.1 p.2.1 p.2.2 := by
  unfold ticketedActions
  simp only [List.forall_mem_cons]
  exact ⟨.plain (fun _ => rfl), .plain (fun _ => rfl), .plain (fun _ => rfl), .plain (fun _ => rfl), .plain (fun _ => rfl), .plain (fun _ => rfl),
    .plain (fun _ => rfl), .plain (fun _ => rfl), .plain (fun _ => rfl), .plain (fun _ => rfl), .plain (fun _ => rfl), .plain (fun _ => rfl),
    .plain (fun _ => rfl), .plain (fun _ => rfl), .gated (fun _ => rfl) (fun _ hon => if_pos hon), .gated (fun _ => rfl) (fun _ hon => if_pos hon),
    .plain (fun _ => rfl), .plain (fun _ => rfl), .plain (fun _ => rfl), .plain (fun _ => rfl), .plain (fun _ => rfl), .plain (fun _ => rfl),
    .plain (fun _ => rfl), .gated (fun _ => rfl) (fun _ hon => if_pos hon), .plain (fun _ => rfl), .plain (fun _ => rfl), .plain (fun _ => rfl),
    .plain (fun _ => rfl), .gated (fun _ => rfl) (fun _ hon => if_pos hon), .plain (fun _ => rfl), .gated (fun _ => rfl) (fun _ hon => if_pos hon),
    .gated (fun _ => rfl) (fun _ hon => if_pos hon), .gated (fun _ => rfl) (fun _ hon => if_pos hon),
    .gated (fun _ => rfl) (fun _ hon => if_pos hon), .plain (fun _ => rfl), .plain (fun _ => rfl), .plain (fun _ => rfl),
    .gated (fun _ => rfl) (fun _ hon => if_pos hon), .gated (fun _ => rfl) (fun _ hon => if_pos hon),
    .gated (fun _ => rfl) (fun _ hon => if_pos hon), .plain (fun _ => rfl), .plain (fun _ => rfl), .plain (fun _ => rfl), List.forall_mem_nil _⟩

/-- DEVRESET looks at the remembered ticket itself, before its key. -/
theorem devreset_repeated {ticket : Byte} {s : State} (arg : BitVec 16) (hne : ticket ≠ 0) (heq : ticket = (s.rd Reg.SYS_ACT).extractLsb' 24 8) :
    Does (.devreset ticket arg) s fun t => t = s :=
  ⟨_, rfl, if_pos ⟨hne, heq⟩⟩

/-- Settles O57: every listed command is an ACT register's write, DEVRESET aside, which looks at the ticket itself. -/
theorem repeatedTickets : Obligations.RepeatedTickets := by
  unfold Obligations.RepeatedTickets
  constructor
  · intro s ticket arg c act hmem hon hne heq
    have hcases : (c, act) = (.devreset ticket arg, Reg.SYS_ACT) ∨ (c, act) ∈ (ticketedActions ticket arg).map (fun p => (p.1, p.2.1)) :=
      List.mem_cons.mp hmem
    rcases hcases with hdev | hact
    · obtain ⟨rfl, rfl⟩ := Prod.mk.inj hdev
      exact devreset_repeated arg hne heq
    · obtain ⟨p, hp, hpair⟩ := List.mem_map.mp hact
      obtain ⟨rfl, rfl⟩ := Prod.mk.inj hpair
      exact (isAction_of_ticketed ticket arg p hp).repeated hon hne heq
  · intro s ticket arg c act action hmem hon hf
    have hact : (c, act, action) ∈ ticketedActions ticket arg := hmem
    exact (isAction_of_ticketed ticket arg _ hact).fresh (implMask_of_ticketed ticket arg hact) hon hf

end Sys2Proof.Machine
end

section
/-!
PROOFS. An RC register that is read in the cycle of an event that it counts (R13, R16).
-/
namespace Sys2Proof.Machine

/-- The reset state after a Basic-level write of expert-only SYS_CLKCFG: SYS_IGNWR counts the attempt in the present cycle (R15). -/
def attemptCounted : State := busWrite .trio Reg.SYS_CLKCFG 0xFFFFFFFF 0 State.reset

/-- SYS_IGNWR as READ_CLEAR finds it. -/
theorem peek_ignwr_attemptCounted : peek Reg.SYS_IGNWR { attemptCounted with busErr := false } = 1 := by decide +kernel

/-- The read in the cycle of the count returns the word from before it (R13). -/
theorem rdata_busRead_attemptCounted : (busRead .trio Reg.SYS_IGNWR 0 attemptCounted).rdata = 0 := by decide +kernel

/-- SYS_IGNWR is an RC register. -/
theorem ignwr_isRC : ∃ r, rowFor Reg.SYS_IGNWR = some r ∧ r.rc ≠ 0 := by
  have hany : (rowFor Reg.SYS_IGNWR).any (fun r => r.rc != 0) = true := by decide +kernel
  obtain ⟨r, hrow, hrc⟩ := (Option.any_eq_true _ _).mp hany
  exact ⟨r, hrow, bne_iff_ne.mp hrc⟩

/-- Refutes O4: an RC read in the cycle of an event that it counts returns the value from before the event, which is not what the register holds
(R13). Right after a write attempt on an expert-only field, SYS_IGNWR holds 1 and READ_CLEAR answers 0. -/
theorem not_registerAccess : ¬ Obligations.RegisterAccess := by
  unfold Obligations.RegisterAccess
  rintro ⟨-, hread, -⟩
  obtain ⟨r, hrow, hrc⟩ := ignwr_isRC
  have hans : answered .trio Reg.SYS_IGNWR { attemptCounted with busErr := false } = true := by decide +kernel
  obtain ⟨t, hrun, hdata, -⟩ := hread attemptCounted Reg.SYS_IGNWR 0 r hans hrow hrc (by decide)
  obtain rfl : busRead .trio Reg.SYS_IGNWR 0 attemptCounted = t := Host.Outcome.next.inj hrun
  rw [rdata_busRead_attemptCounted, peek_ignwr_attemptCounted] at hdata
  exact absurd hdata (by decide)

end Sys2Proof.Machine
end

section
/-!
PROOFS. The frame `Keeps` through the basic updates of the state.
-/
namespace Sys2Proof.Machine

variable {l : List Nat} {s t : State}

theorem Keeps.refl (l : List Nat) (s : State) : Keeps l s s := ⟨fun _ _ => rfl, fun _ => rfl, rfl⟩

/-- The frame speaks of registers, memory and the queue alone. -/
theorem Keeps.congr {u : State} (h : Keeps l s t) (hregs : u.regs = t.regs) (hmem : u.mem = t.mem) (hpend : u.pending = t.pending) : Keeps l s u := by
  obtain ⟨hrd, hbyte, hq⟩ := h
  refine ⟨fun a ha => ?_, fun a => ?_, hpend.trans hq⟩
  · rw [State.rd_regs, hregs]
    exact hrd a ha
  · rw [State.byte_mem, hmem]
    exact hbyte a

theorem Keeps.mono {m : List Nat} (h : Keeps l s t) (hlm : l ⊆ m) : Keeps m s t :=
  ⟨fun a ha => h.left a (fun hl => ha (hlm hl)), h.right⟩

theorem Keeps.wr (h : Keeps l s t) {a : Nat} (w : Word) (ha : a ∈ l) : Keeps l s (t.wr a w) :=
  ⟨fun b hb => (t.rd_wr_ne a b w (fun e => hb (e ▸ ha))).trans (h.left b hb), h.right⟩

theorem Keeps.put (h : Keeps l s t) {f : Fld} (v : Nat) (hf : f.addr ∈ l) : Keeps l s (t.put f v) :=
  (h.wr (fldInto f v (t.rd f.addr)) hf).congr rfl rfl rfl

theorem Keeps.logReq (h : Keeps l s t) (b c : Nat) (d : List Byte) : Keeps l s (t.logReq b c d) := h.congr rfl rfl rfl

theorem Keeps.cancel (h : Keeps l s t) (c : Instr) : Keeps l s (t.cancel c) := h.congr rfl rfl rfl

end Sys2Proof.Machine
end

section
/-!
PROOFS. Supervision of XIN: violations, qualification and returns (R31, R33, R41).
-/
namespace Sys2Proof.Machine

variable (s : State)

/-! ## Scheduling -/

/-- Scheduling what the qualification leads to changes the timers alone. -/
theorem xinSchedule_timers : ∃ q, xinSchedule s = { s with timers := q } := by
  unfold xinSchedule
  dsimp only
  split
  · exact ⟨_, rfl⟩
  · split
    · exact ⟨_, rfl⟩
    · split <;> exact ⟨_, rfl⟩

@[simp] theorem xinSchedule_regs : (xinSchedule s).regs = s.regs := by obtain ⟨q, h⟩ := xinSchedule_timers s; rw [h]
@[simp] theorem xinSchedule_mem : (xinSchedule s).mem = s.mem := by obtain ⟨q, h⟩ := xinSchedule_timers s; rw [h]
@[simp] theorem xinSchedule_pending : (xinSchedule s).pending = s.pending := by obtain ⟨q, h⟩ := xinSchedule_timers s; rw [h]
@[simp] theorem xinSchedule_clk : (xinSchedule s).clk = s.clk := by obtain ⟨q, h⟩ := xinSchedule_timers s; rw [h]
@[simp] theorem xinSchedule_log : (xinSchedule s).log = s.log := by obtain ⟨q, h⟩ := xinSchedule_timers s; rw [h]

/-! ## A violation -/

theorem xinDrop_regs : (xinDrop s).regs =
    regPut (regPut (regPut s.regs F.SYS_CLKSTAT_XINOK 0) F.SYS_CLKSTAT_AOSRC 1) F.SYS_CLKSTAT_PLLREF 1 := xinSchedule_regs _

@[simp] theorem xinDrop_log : (xinDrop s).log = s.log := xinSchedule_log _

@[simp] theorem xinDrop_qualStart : (xinDrop s).clk.qualStart = none := congrArg Clk.qualStart (xinSchedule_clk _)

/-- XIN leaves its guard, and AO and the PLLs run from the RC. -/
theorem xinDrop_flags : (xinDrop s).get F.SYS_CLKSTAT_XINOK = 0 ∧ (xinDrop s).get F.SYS_CLKSTAT_AOSRC = 1 ∧
    (xinDrop s).get F.SYS_CLKSTAT_PLLREF = 1 := by
  simp (disch := decide +kernel) only [State.get_regs, xinDrop_regs, regGet_put, regGet_put_apart]
  decide

theorem xinDrop_keeps {t : State} (h : Keeps [Reg.SYS_CLKSTAT] s t) : Keeps [Reg.SYS_CLKSTAT] s (xinDrop t) :=
  (((h.put 0 (f := F.SYS_CLKSTAT_XINOK) (.head _)).put 1 (f := F.SYS_CLKSTAT_AOSRC) (.head _)).put 1 (f := F.SYS_CLKSTAT_PLLREF) (.head _)).congr
    (xinSchedule_regs _) (xinSchedule_mem _) (xinSchedule_pending _)

/-- The flag of a violation, set before XIN leaves its guard, still stands afterwards. -/
theorem xinDrop_put_flag {flag : Fld} (hf : flag = F.SYS_CLKSTAT_XINLOSS ∨ flag = F.SYS_CLKSTAT_XINRANGE) (block code : Nat) (data : List Byte) :
    (xinDrop ((s.put flag 1).logReq block code data)).get flag = 1 := by
  obtain rfl | rfl := hf <;>
    simp (disch := decide +kernel) only [State.get_regs, xinDrop_regs, State.logReq_regs, State.put_regs, regGet_put, regGet_put_apart] <;> rfl

/-- What a violation of either form does: its flag, the switch to the RC, the end of the qualification, its log entry (R31, R33). -/
theorem xinDrop_violation {flag : Fld} (hf : flag = F.SYS_CLKSTAT_XINLOSS ∨ flag = F.SYS_CLKSTAT_XINRANGE) (block code : Nat) (data : List Byte)
    {t : State} (ht : t = xinDrop ((s.put flag 1).logReq block code data)) :
    t.get F.SYS_CLKSTAT_XINOK = 0 ∧ t.get flag = 1 ∧ t.get F.SYS_CLKSTAT_AOSRC = 1 ∧ t.get F.SYS_CLKSTAT_PLLREF = 1 ∧
      t.clk.qualStart = none ∧ Logged block code data s t ∧ Keeps [Reg.SYS_CLKSTAT] s t := by
  subst ht
  obtain ⟨hok, hsrc, href⟩ := xinDrop_flags ((s.put flag 1).logReq block code data)
  have haddr : flag.addr ∈ [Reg.SYS_CLKSTAT] := by obtain rfl | rfl := hf <;> exact .head _
  have hlog : Logged block code data s (xinDrop ((s.put flag 1).logReq block code data)) := congrArg LogSt.reqs (xinDrop_log _)
  exact ⟨hok, xinDrop_put_flag s hf block code data, hsrc, href, xinDrop_qualStart _, hlog,
    xinDrop_keeps s (((Keeps.refl _ s).put 1 haddr).logReq block code data)⟩

variable {s}

theorem xinLoss_of_ok (hok : s.on F.SYS_CLKSTAT_XINOK = true) (since : Nat) :
    xinLoss since s = xinDrop ((s.put F.SYS_CLKSTAT_XINLOSS 1).logReq 0x01 0x0001 (bytesOfNat 2 (min since 65535))) := if_pos hok

theorem xinWindow_of_violation (hok : s.on F.SYS_CLKSTAT_XINOK = true) {count : Nat} (hout : xinInRange count s = false) (gap : Bool) :
    xinWindow count gap s = xinDrop ((s.put F.SYS_CLKSTAT_XINRANGE 1).logReq 0x01 0x0002 (bytesOfNat 4 (xinHz count))) := by
  simp [xinWindow, hok, hout]

/-! ## The qualification and the first selection -/

theorem xinWindow_of_pass (hoff : s.on F.SYS_CLKSTAT_XINOK = false) {count : Nat} (hin : xinInRange count s = true) :
    xinWindow count false s =
      xinSchedule { s.put F.SYS_CLKSTAT_XINOK 1 with clk := { s.clk with qualStart := some (s.clk.ns - 20480) } } := by
  simp [xinWindow, hoff, hin]

/-- The first passing window starts the qualification at its own start (R33). -/
theorem xinWindow_qualifies (hoff : s.on F.SYS_CLKSTAT_XINOK = false) {count : Nat} (hin : xinInRange count s = true) {t : State}
    (ht : t = xinWindow count false s) :
    t.get F.SYS_CLKSTAT_XINOK = 1 ∧ t.clk.qualStart = some (s.clk.ns - 20480) ∧ NoLog s t ∧ Keeps [Reg.SYS_CLKSTAT] s t := by
  rw [xinWindow_of_pass hoff hin] at ht
  subst ht
  refine ⟨?_, congrArg Clk.qualStart (xinSchedule_clk _), congrArg LogSt.reqs (xinSchedule_log _), ?_⟩
  · rw [State.get_regs, xinSchedule_regs]
    exact regGet_put s.regs F.SYS_CLKSTAT_XINOK 1 (by decide +kernel)
  · exact ((Keeps.refl _ s).put 1 (f := F.SYS_CLKSTAT_XINOK) (.head _)).congr (xinSchedule_regs _) (xinSchedule_mem _) (xinSchedule_pending _)

/-- AO and the PLL reference run from XIN; the flag of a return stays as it is. -/
theorem xinSelect_flags : (xinSelect s).get F.SYS_CLKSTAT_AOSRC = 0 ∧ (xinSelect s).get F.SYS_CLKSTAT_PLLREF = 0 ∧
    (xinSelect s).get F.SYS_CLKSTAT_XINRET = s.get F.SYS_CLKSTAT_XINRET := by
  simp (disch := decide +kernel) only [State.get_regs, xinSelect, State.put_regs, regGet_put, regGet_put_apart]
  exact ⟨rfl, rfl, trivial⟩

theorem xinSelect_keeps : Keeps [Reg.SYS_CLKSTAT] s (xinSelect s) :=
  ((Keeps.refl _ s).put 0 (f := F.SYS_CLKSTAT_AOSRC) (.head _)).put 0 (f := F.SYS_CLKSTAT_PLLREF) (.head _)

/-- The first selection of XIN raises no flag and makes no entry (R33). -/
theorem xinFirst_selects (hqual : s.clk.qualStart.isSome = true) (hfirst : s.clk.firstSel = false) {t : State} (ht : t = xinFirst s) :
    t.get F.SYS_CLKSTAT_AOSRC = 0 ∧ t.get F.SYS_CLKSTAT_PLLREF = 0 ∧ t.clk.firstSel = true ∧ NoLog s t ∧
      t.get F.SYS_CLKSTAT_XINRET = s.get F.SYS_CLKSTAT_XINRET ∧ Keeps [Reg.SYS_CLKSTAT] s t := by
  have hrun : xinFirst s = { xinSelect s with clk := { s.clk with firstSel := true } } := if_pos ⟨hqual, by rw [hfirst]; rfl⟩
  rw [hrun] at ht
  subst ht
  obtain ⟨hsrc, href, hret⟩ := xinSelect_flags (s := s)
  exact ⟨hsrc, href, rfl, rfl, hret, xinSelect_keeps.congr rfl rfl rfl⟩

/-! ## The returns -/

theorem xinReturnTo_of_ready (hok : s.on F.SYS_CLKSTAT_XINOK = true) (hfirst : s.clk.firstSel = true) (hrc : s.on F.SYS_CLKSTAT_AOSRC = true)
    (by_ : Nat) : xinReturnTo by_ s = (((xinSelect s).put F.SYS_CLKSTAT_XINRET 1).logReq 0x01 0x0003 [b8 by_]).cancel .xinReturn :=
  if_pos ⟨hok, hfirst, hrc⟩

/-- A return selects XIN, flags it and logs what brought it about (R33, R41). -/
theorem xinReturnTo_returns (hok : s.on F.SYS_CLKSTAT_XINOK = true) (hfirst : s.clk.firstSel = true) (hrc : s.on F.SYS_CLKSTAT_AOSRC = true)
    (by_ : Nat) {t : State} (ht : t = xinReturnTo by_ s) :
    t.get F.SYS_CLKSTAT_AOSRC = 0 ∧ t.get F.SYS_CLKSTAT_PLLREF = 0 ∧ t.get F.SYS_CLKSTAT_XINRET = 1 ∧ Logged 0x01 0x0003 [b8 by_] s t ∧
      Keeps [Reg.SYS_CLKSTAT] s t := by
  rw [xinReturnTo_of_ready hok hfirst hrc] at ht
  subst ht
  obtain ⟨hsrc, href, -⟩ := xinSelect_flags (s := s)
  simp (disch := decide +kernel) only [State.get_regs, State.cancel_regs, State.logReq_regs, State.put_regs, regGet_put,
    regGet_put_apart] at hsrc href ⊢
  exact ⟨hsrc, href, rfl, rfl, ((xinSelect_keeps.put 1 (f := F.SYS_CLKSTAT_XINRET) (.head _)).logReq _ _ _).cancel _⟩

/-- The return by action: a return, after which SYS_CLKACT holds the write with its reserved ARG clear (R11, R20, R41). -/
theorem clkactReturn_returns {ticket : Byte} (arg : BitVec 16) (hfresh : Fresh Reg.SYS_CLKACT ticket s) (hok : s.on F.SYS_CLKSTAT_XINOK = true)
    (hfirst : s.clk.firstSel = true) (hrc : s.on F.SYS_CLKSTAT_AOSRC = true) {t : State} (ht : t = s.act Reg.SYS_CLKACT ticket arg 1 (xinReturnTo 1)) :
    t.get F.SYS_CLKSTAT_AOSRC = 0 ∧ t.get F.SYS_CLKSTAT_PLLREF = 0 ∧ t.get F.SYS_CLKSTAT_XINRET = 1 ∧ Logged 0x01 0x0003 [1] s t ∧
      t.rd Reg.SYS_CLKACT = ticket ++ (0 : BitVec 16) ++ (1 : Byte) ∧ Keeps [Reg.SYS_CLKSTAT, Reg.SYS_CLKACT] s t := by
  have hfull : implMask Reg.SYS_CLKACT = BitVec.allOnes 32 := by decide +kernel
  have harg : arg &&& argMask Reg.SYS_CLKACT 1 = 0 := BitVec.and_zero
  have hget : ∀ f : Fld, f.addr ≠ Reg.SYS_CLKACT → t.get f = (xinReturnTo 1 s).get f := fun f hf => by
    rw [ht, State.act_fresh _ _ _ _ _ _ hfresh]
    exact regGet_wr_apart _ _ _ f hf
  obtain ⟨hsrc, href, hret, hlog, hkeeps⟩ := xinReturnTo_returns hok hfirst hrc 1 rfl
  refine ⟨(hget _ (by decide)).trans hsrc, (hget _ (by decide)).trans href, (hget _ (by decide)).trans hret, ?_, ?_, ?_⟩ <;>
    rw [ht, State.act_fresh _ _ _ _ _ _ hfresh]
  · exact hlog
  · rw [State.rd_wr_same, hfull, BitVec.and_allOnes, harg]
    rfl
  · exact (hkeeps.mono (List.cons_subset_cons _ (List.nil_subset _))).wr _ (.tail _ (.head _))

/-- Settles O5, one clause for each event of XIN's supervision; both violations are one lemma, and so are both returns. -/
theorem clockSelection : Obligations.ClockSelection := by
  unfold Obligations.ClockSelection
  refine ⟨fun s since hok => ⟨_, rfl, ?loss⟩, fun s count gap hok hout => ⟨_, rfl, ?range⟩,
    fun s count hoff hin => ⟨_, rfl, xinWindow_qualifies hoff hin rfl⟩, fun s hqual hfirst => ⟨_, rfl, xinFirst_selects hqual hfirst rfl⟩,
    fun s hok hfirst hrc hauto => ⟨_, rfl, ?ret⟩,
    fun s ticket arg hfresh hok hfirst hrc => ⟨_, rfl, clkactReturn_returns arg hfresh hok hfirst hrc rfl⟩⟩
  case loss => exact xinDrop_violation s (.inl rfl) _ _ _ (xinLoss_of_ok hok since)
  case range =>
    obtain ⟨hgone, hflag, hsrc, href, -, hlog, hkeeps⟩ := xinDrop_violation s (.inr rfl) _ _ _ (xinWindow_of_violation hok hout gap)
    exact ⟨hgone, hflag, hsrc, href, hlog, hkeeps⟩
  case ret => exact xinReturnTo_returns hok hfirst hrc 0 (if_pos hauto)

end Sys2Proof.Machine
end

section
/-!
PROOFS. Rules for domains and compare units: their updates, the frame through every basic update, and the fields of a word that is written (R11, R15).
-/
namespace Sys2Proof.Machine

/-! ## Updates of one domain and of one compare unit -/

theorem updAt_same {α : Type} {n : Nat} (v : Vector α n) (i : Fin n) (f : α → α) : (updAt v i f)[i] = f v[i] := by
  simp [updAt]

section
variable (s : State) (d : Fin 8) (f : Domain → Domain)

@[simp] theorem domUpd_same : (domUpd d f s).dom[d] = f s.dom[d] := updAt_same _ _ _
@[simp] theorem domUpd_rd (a : Nat) : (domUpd d f s).rd a = s.rd a := rfl
@[simp] theorem domUpd_get (x : Fld) : (domUpd d f s).get x = s.get x := rfl
@[simp] theorem domUpd_log : (domUpd d f s).log = s.log := rfl

end

section
variable (s : State) (k : Fin 16) (f : Acu → Acu)

@[simp] theorem acuUpd_same : (acuUpd k f s).acu[k] = f s.acu[k] := updAt_same _ _ _
@[simp] theorem acuUpd_get (x : Fld) : (acuUpd k f s).get x = s.get x := rfl

end

/-! ## Frames -/

section
variable {l : List Nat} {s t u : State}

theorem SameMem.trans (h : SameMem s t) (k : SameMem t u) : SameMem s u :=
  ⟨fun a => (k.left a).trans (h.left a), k.right.trans h.right⟩

theorem SameMem.of_eq (hmem : t.mem = s.mem) (hpend : t.pending = s.pending) : SameMem s t :=
  ⟨fun a => by rw [State.byte_mem, State.byte_mem, hmem], hpend⟩

theorem Quiet.sameMem {A : Nat → Prop} (h : Quiet A s t) : SameMem s t := .of_eq h.mem h.pending

theorem Keeps.trans (h : Keeps l s t) (k : Keeps l t u) : Keeps l s u :=
  ⟨fun a ha => (k.left a ha).trans (h.left a ha), SameMem.trans h.right k.right⟩

theorem Keeps.sameMem (h : Keeps l s t) : SameMem s t := h.right

theorem Keeps.rd (h : Keeps l s t) {a : Nat} (ha : a ∉ l) : t.rd a = s.rd a := h.left a ha

theorem Keeps.get (h : Keeps l s t) {f : Fld} (hf : f.addr ∉ l) : t.get f = s.get f := congrArg (fldOf f) (h.left _ hf)

theorem Keeps.on (h : Keeps l s t) {f : Fld} (hf : f.addr ∉ l) : t.on f = s.on f := congrArg (· != 0) (h.get hf)

theorem Keeps.hw (h : Keeps l s t) {a : Nat} (op : Word → Word) (ha : a ∈ l) : Keeps l s (t.hw a op) := (h.wr (op (t.rd a)) ha).congr rfl rfl rfl

theorem Keeps.domUpd (h : Keeps l s t) (d : Fin 8) (f : Domain → Domain) : Keeps l s (domUpd d f t) := h.congr rfl rfl rfl

theorem Keeps.acuUpd (h : Keeps l s t) (k : Fin 16) (f : Acu → Acu) : Keeps l s (acuUpd k f t) := h.congr rfl rfl rfl

theorem Keeps.when (h : Keeps l s t) (c : Bool) {f : State → State} (hf : Keeps l s (f t)) : Keeps l s (t.when c f) := by
  cases c
  · exact h
  · exact hf

theorem Keeps.fire (h : Keeps l s t) (src : Nat) (ha : Reg.EVM_FAST ∈ l) : Keeps l s (t.fire src) := by
  unfold State.fire
  split
  · exact h.hw _ ha
  · exact h.congr rfl rfl rfl

end

/-! ## Fields of a written word -/

/-- A field is among the bits of a word that a mask holds. -/
def fldWithin (f : Fld) (m : Word) : Bool := decide (f.lo + f.width ≤ 32) && (fldMask f &&& m == fldMask f)

theorem getLsbD_of_fldWithin {f : Fld} {m : Word} (h : fldWithin f m = true) {i : Nat} (hi : i < f.width) : m.getLsbD (f.lo + i) = true := by
  simp only [fldWithin, Bool.and_eq_true, decide_eq_true_eq, beq_iff_eq] at h
  obtain ⟨hlen, hmask⟩ := h
  have hbit : (fldMask f &&& m).getLsbD (f.lo + i) = (fldMask f).getLsbD (f.lo + i) := by rw [hmask]
  rw [BitVec.getLsbD_and, fldMask_bit f hlen] at hbit
  simpa [hi] using hbit

/-- Narrowing a word to a mask that holds a field leaves the field. -/
theorem fldOf_and_of_within {f : Fld} {m : Word} (h : fldWithin f m = true) (w : Word) : fldOf f (w &&& m) = fldOf f w := by
  refine Nat.eq_of_testBit_eq fun i => ?_
  rw [fldOf_bit, fldOf_bit, BitVec.getLsbD_and]
  by_cases hi : i < f.width
  · rw [getLsbD_of_fldWithin h hi, Bool.and_true]
  · simp [hi]

/-- A field that the level lets pass is written (R15). -/
theorem fldOf_writtenWord {f : Fld} {r : RegRow} {level : Bool} (hrw : fldWithin f (r.rw ||| r.rwl) = true)
    (hbasic : level = false → fldWithin f (~~~r.expert) = true) (v old : Word) : fldOf f (writtenWord r level v old) = fldOf f v := by
  refine Nat.eq_of_testBit_eq fun i => ?_
  rw [fldOf_bit, fldOf_bit]
  by_cases hi : i < f.width
  · have hlen : f.lo + i < 32 := BitVec.lt_of_getLsbD (getLsbD_of_fldWithin hrw hi)
    have hopen : (~~~(if level then 0 else r.expert)).getLsbD (f.lo + i) = true := by
      cases level
      · exact getLsbD_of_fldWithin (hbasic rfl) hi
      · rw [if_pos rfl, BitVec.getLsbD_not, decide_eq_true hlen, BitVec.ofNat_eq_ofNat, BitVec.getLsbD_zero]
        rfl
    simp only [writtenWord, BitVec.getLsbD_or, BitVec.getLsbD_and, BitVec.getLsbD_not (x := _ &&& _), getLsbD_of_fldWithin hrw hi, hopen]
    simp
  · simp [hi]

/-- A field that firmware writes at either level, as a test (R15). -/
def basicField (f : Fld) (r : RegRow) : Bool := fldWithin f (r.rw ||| r.rwl) && fldWithin f (~~~r.expert)

theorem fldOf_writtenWord_basic {f : Fld} {r : RegRow} (h : basicField f r = true) (level : Bool) (v old : Word) :
    fldOf f (writtenWord r level v old) = fldOf f v := by
  rw [basicField, Bool.and_eq_true] at h
  exact fldOf_writtenWord h.left (fun _ => h.right) v old

/-- Setting a field leaves a field of the word that shares no bit with it. -/
theorem fldOf_fldInto_apart {f g : Fld} (hf : f.lo + f.width ≤ 32) (hd : g.lo + g.width ≤ f.lo ∨ f.lo + f.width ≤ g.lo) (v : Nat) (w : Word) :
    fldOf g (fldInto f v w) = fldOf g w := by
  refine Nat.eq_of_testBit_eq fun i => ?_
  rw [fldOf_bit, fldOf_bit, fldInto_bit f hf]
  by_cases hi : i < g.width
  · rw [if_neg (by omega)]
  · simp [hi]

/-- A field just written with its register reads as the word's. -/
theorem State.get_wr_same {f : Fld} {a : Nat} (h : fldFits f = true) (ha : f.addr = a) (s : State) (w : Word) : (s.wr a w).get f = fldOf f w := by
  subst ha
  unfold State.get
  rw [State.rd_wr_same, fldOf_and_of_within (m := implMask f.addr) h]

end Sys2Proof.Machine
end

section
/-!
PROOFS. Writes of the ANGLE slot by the Trio: from the bus to the effect on the register's own block (R11, R15, R333).
-/
namespace Sys2Proof.Machine

/-! ## From the bus to the register -/

/-- A row of the ANGLE slot that holds a register of fields alone, as a test: no flags, no action, not the block's CTL. -/
def angFields (a : Nat) (r : RegRow) : Bool :=
  rowFor a == some r && a / 65536 == 0x4002 && a % 4 == 0 && !r.act && r.w1c == 0 && a != Reg.ANG_CTL

/-- The bits of a row that the level of the block shuts (R15). -/
def shutBits (r : RegRow) (level : Bool) : Word := if level then 0 else r.expert

/-- An attempt to write another value to bits that the level shuts is counted (R15). -/
def countAttempt (r : RegRow) (a : Nat) (v : Word) (s : State) : State :=
  s.when ((v ^^^ s.rd a) &&& shutBits r (s.expertAt a) != 0) (fun t => t.inc F.SYS_IGNWR_COUNT)

section
variable {r : RegRow} {a : Nat} {v : Word} {s : State}

/-- A state in which the effect of a write by the bus begins: the bus error is clear, and an attempt at most has been counted (R15, R333). -/
structure WriteBegins (s u : State) : Prop where
  dom : u.dom = s.dom
  acu : u.acu = s.acu
  sync : u.sync = s.sync
  log : u.log = s.log
  keeps : Keeps [Reg.SYS_IGNWR] s u

theorem countAttempt_begins (r : RegRow) (a : Nat) (v : Word) (s : State) : WriteBegins s (countAttempt r a v { s with busErr := false }) := by
  have hclear : WriteBegins s { s with busErr := false } := ⟨rfl, rfl, rfl, rfl, (Keeps.refl _ s).congr rfl rfl rfl⟩
  unfold countAttempt
  cases ((v ^^^ _) &&& _ != 0 : Bool)
  · exact hclear
  · exact ⟨rfl, rfl, rfl, rfl, hclear.keeps.hw _ (.head _)⟩

/-- Where the level shuts nothing, no attempt is counted. -/
theorem countAttempt_of_open (h : shutBits r (s.expertAt a) = 0) : countAttempt r a v s = s := by
  unfold countAttempt
  rw [h, BitVec.ofNat_eq_ofNat, BitVec.and_zero]
  rfl

/-- A write of a register of fields in the ANGLE slot, which derives nothing at Basic level: the attempt, then the register's own effect on the bits
that the level lets pass (R11, R15). -/
theorem fieldWrite_angle (hreg : angFields a r = true) (hmay : (r.rw ||| r.rwl) &&& ~~~shutBits r (s.expertAt a) ≠ 0) :
    fieldWrite .trio a v 0 s = writeAngle a (writtenWord r (s.expertAt a) v (s.rd a)) (countAttempt r a v s) := by
  simp only [angFields, Bool.and_eq_true, beq_iff_eq, Bool.not_eq_true', bne_iff_ne] at hreg
  obtain ⟨⟨⟨⟨⟨hrow, hslot⟩, -⟩, -⟩, hw1c⟩, hctl⟩ := hreg
  have hderive : ∀ t : State, deriveBlock (a / 65536 % 256) t = t := fun t => by rw [hslot]; rfl
  have heffect : ∀ (w : Word) (t : State), writeEffect .trio a w t = writeAngle a w t := fun w t => by simp only [writeEffect, hslot]
  have hctl' : a ≠ ctlOf a := by unfold ctlOf slotBase; rwa [hslot]
  have hcount : (if (v ^^^ s.rd a) &&& shutBits r (s.expertAt a) = 0 then s else s.inc F.SYS_IGNWR_COUNT) = countAttempt r a v s := by
    unfold countAttempt State.when
    simp
  unfold shutBits at hmay hcount
  unfold fieldWrite flagClear
  simp only [hrow, hw1c, hctl', if_true, if_false, false_and, hcount, hderive, heffect, ite_self]
  exact if_neg hmay

/-- The Trio's write of such a register (R11, R15, R333). -/
theorem busWrite_angle (hreg : angFields a r = true) (hon : slotOn a s = true)
    (hmay : (r.rw ||| r.rwl) &&& ~~~shutBits r (s.expertAt a) ≠ 0) :
    busWrite .trio a v 0 s = writeAngle a (writtenWord r (s.expertAt a) v (s.rd a)) (countAttempt r a v { s with busErr := false }) := by
  have hfields := hreg
  simp only [angFields, Bool.and_eq_true, beq_iff_eq, Bool.not_eq_true', bne_iff_ne] at hfields
  obtain ⟨⟨⟨⟨⟨hrow, hslot⟩, hword⟩, hact⟩, -⟩, -⟩ := hfields
  have hans : answered .trio a { s with busErr := false } = true := by
    have howned : ownedSlot a = true := by unfold ownedSlot; simp only [Bool.and_eq_true, decide_eq_true_eq]; omega
    have hslotOn : slotOn a { s with busErr := false } = true := hon
    simp [answered, howned, hword, hslotOn, reaches]
  have hirq : ∀ t : State, irqSeen a t = t := fun t => if_neg (fun h => by omega)
  rw [busWrite_fields .trio a v 0 s r hans (by decide) (by omega) (by omega) hrow hact, hirq]
  exact fieldWrite_angle hreg hmay

end

/-! ## The registers of domains and compare units -/

theorem onAt_of_some {a base n stride i : Nat} {f : Nat → State} {t : State} (h : at1 a base n stride = some i) : onAt a base n stride f t = f i := by
  simp [onAt, h]

theorem onAt_of_none {a base n stride : Nat} {f : Nat → State} {t : State} (h : at1 a base n stride = none) : onAt a base n stride f t = t := by
  simp [onAt, h]

/-- The rows of ANGn_CTL, ANGn_RATEH, ACUk_CTL, ACUk_STAMP and ANG_SYNCCTL. -/
def angCtlRow : RegRow := rowsANGLE1[8]
def ratehRow : RegRow := rowsANGLE1[11]
def acuCtlRow : RegRow := rowsANGLE1[20]
def acuStampRow : RegRow := rowsANGLE1[21]
def syncCtlRow : RegRow := rowsANGLE1[1]

theorem angFields_angCtl : ∀ d : Fin 8, angFields (Reg.ANGn_CTL d) angCtlRow = true := by decide +kernel
theorem angFields_rateh : ∀ d : Fin 8, angFields (Reg.ANGn_RATEH d) ratehRow = true := by decide +kernel
theorem angFields_acuCtl : ∀ k : Fin 16, angFields (Reg.ACUk_CTL k) acuCtlRow = true := by decide +kernel
theorem angFields_acuStamp : ∀ k : Fin 16, angFields (Reg.ACUk_STAMP k) acuStampRow = true := by decide +kernel
theorem angFields_syncCtl : angFields Reg.ANG_SYNCCTL syncCtlRow = true := by decide +kernel

section
variable (v : Word) (s : State)

theorem writeAngle_angCtl (d : Fin 8) : writeAngle (Reg.ANGn_CTL d) v s = angCtlWrite d v s := by
  have hat : ∀ d : Fin 8, at1 (Reg.ANGn_CTL d) (Reg.ANGn_CTL 0) 8 0x40 = some d.val := by decide
  unfold writeAngle
  iterate 4 rw [if_neg (by revert d; decide)]
  rw [onAt_of_some (hat d), Fin.ofNat_val_eq_self]

theorem writeAngle_rateh (d : Fin 8) : writeAngle (Reg.ANGn_RATEH d) v s = ratehWrite d v s := by
  have hat : ∀ d : Fin 8, at1 (Reg.ANGn_RATEH d) (Reg.ANGn_RATEH 0) 8 0x40 = some d.val := by decide
  unfold writeAngle
  iterate 4 rw [if_neg (by revert d; decide)]
  iterate 2 rw [onAt_of_none (by revert d; decide)]
  rw [onAt_of_some (hat d), Fin.ofNat_val_eq_self]

theorem writeAngle_acuCtl (k : Fin 16) : writeAngle (Reg.ACUk_CTL k) v s = acuCtlWrite k v s := by
  have hat : ∀ k : Fin 16, at1 (Reg.ACUk_CTL k) (Reg.ACUk_CTL 0) 16 0x10 = some k.val := by decide
  unfold writeAngle
  iterate 4 rw [if_neg (by revert k; decide)]
  iterate 3 rw [onAt_of_none (by revert k; decide)]
  rw [onAt_of_some (hat k), Fin.ofNat_val_eq_self]

theorem writeAngle_acuStamp (k : Fin 16) : writeAngle (Reg.ACUk_STAMP k) v s = acuStampWrite k v s := by
  have hat : ∀ k : Fin 16, at1 (Reg.ACUk_STAMP k) (Reg.ACUk_STAMP 0) 16 0x10 = some k.val := by decide
  unfold writeAngle
  iterate 4 rw [if_neg (by revert k; decide)]
  iterate 4 rw [onAt_of_none (by revert k; decide)]
  rw [onAt_of_some (hat k), Fin.ofNat_val_eq_self]

theorem writeAngle_syncCtl : writeAngle Reg.ANG_SYNCCTL v s = syncCtlWrite v s := rfl

end

/-- A row with a field that is no expert's may be written at either level. -/
theorem mayWrite_of_basic {r : RegRow} (h : (r.rw ||| r.rwl) &&& ~~~r.expert ≠ 0) (level : Bool) :
    (r.rw ||| r.rwl) &&& ~~~shutBits r level ≠ 0 := by
  cases level
  · exact h
  · intro hnone
    rw [shutBits, if_pos rfl, BitVec.ofNat_eq_ofNat, BitVec.not_zero, BitVec.and_allOnes] at hnone
    rw [hnone, BitVec.ofNat_eq_ofNat, BitVec.zero_and] at h
    exact h rfl

end Sys2Proof.Machine
end

section
/-!
PROOFS. Angle compare units: arming, disarming and firing (R64, R65, R67).
-/
namespace Sys2Proof.Machine

variable {k : Fin 16} {v : Word} {s : State}

/-! ## The fields of a unit -/

theorem acuArmed_fits : ∀ k : Fin 16, fldFits (F.ACUk_STAT_ARMED k) = true := by decide +kernel
theorem acuFired_fits : ∀ k : Fin 16, fldFits (F.ACUk_STAT_FIRED k) = true := by decide +kernel
theorem acuEn_fits : ∀ k : Fin 16, fldFits (F.ACUk_CTL_EN k) = true := by decide +kernel
theorem acuArmed_apart_fired : ∀ k : Fin 16, fldApart (F.ACUk_STAT_ARMED k) (F.ACUk_STAT_FIRED k) = true := by decide +kernel
theorem acuMiss_apart_fired : ∀ k : Fin 16, fldApart (F.ACUk_STAT_MISS k) (F.ACUk_STAT_FIRED k) = true := by decide +kernel

/-! ## What ACUk_STAT shows -/

theorem acuShow_armed : (acuShow k s).get (F.ACUk_STAT_ARMED k) =
    if s.on (F.ACUk_CTL_EN k) && (s.get (F.ACUk_CTL_MODE k) == 2 || s.acu[k].armable) then 1 else 0 := by
  unfold acuShow
  rw [State.putB_eq, State.get_regs, State.put_regs, regGet_put _ _ _ (acuArmed_fits k)]
  split <;> rfl

theorem acuShow_fired : (acuShow k s).get (F.ACUk_STAT_FIRED k) = s.get (F.ACUk_STAT_FIRED k) :=
  regGet_put_apart s.regs _ _ _ (acuArmed_apart_fired k)


theorem Keeps.acuShow {l : List Nat} {t : State} (h : Keeps l s t) (hk : Reg.ACUk_STAT k ∈ l) : Keeps l s (acuShow k t) := h.hw _ hk

theorem acuRaise_fired : (acuRaise k s).get (F.ACUk_STAT_FIRED k) = 1 := by
  unfold acuRaise
  rw [acuUpd_get, State.get_regs, State.put_regs, regGet_put _ _ _ (acuFired_fits k)]
  rfl

theorem acuRaise_acu : (acuRaise k s).acu[k] = { s.acu[k] with raise := true } := acuUpd_same _ _ _

theorem acuRaise_keeps : Keeps [Reg.ACUk_STAT k] s (acuRaise k s) := ((Keeps.refl _ s).hw _ (.head _)).acuUpd _ _

/-! ## Arming -/

/-- The unit with the stamp that a write gives it, before ACUk_STAT follows (R64, R67). -/
def acuStamped (k : Fin 16) (v : Word) (s : State) : State :=
  let d : Fin 8 := Fin.ofNat 8 (s.get (F.ACUk_CTL_DOM k))
  let due := decide (s.clk.stage < 2) && acuCrossed k (domAngle d s) (domNextAngle d s) s
  (acuUpd k (fun c => { c with
    armable := true, old := if due then some ((c.old).getD (s.rd (Reg.ACUk_STAMP k))) else none, armNext := due || c.raise }) s).wr (Reg.ACUk_STAMP k) v

theorem acuStamped_rd : (acuStamped k v s).rd (Reg.ACUk_STAMP k) = v := by
  have hfull : ∀ k : Fin 16, implMask (Reg.ACUk_STAMP k) = BitVec.allOnes 32 := by decide +kernel
  unfold acuStamped
  rw [State.rd_wr_same, hfull, BitVec.and_allOnes]

theorem acuStamped_armable : (acuStamped k v s).acu[k].armable = true := congrArg Acu.armable (acuUpd_same s k _)

theorem acuStamped_keeps : Keeps [Reg.ACUk_STAMP k] s (acuStamped k v s) := ((Keeps.refl _ s).acuUpd _ _).wr _ (.head _)

/-- A unit that becomes armed with its stamp still ahead only shows it and schedules, at most, a firing in this very cycle (R64). -/
theorem acuArmed_of_ahead (hahead : stampD (domAngle (Fin.ofNat 8 (s.get (F.ACUk_CTL_DOM k))) s) (s.rd (Reg.ACUk_STAMP k)) ≤ 0) :
    ∃ q, acuArmed k s = { acuShow k s with timers := q } := by
  have hshow : Keeps [Reg.ACUk_STAT k] s (acuShow k s) := (Keeps.refl _ s).acuShow (.head _)
  have hdom : (acuShow k s).get (F.ACUk_CTL_DOM k) = s.get (F.ACUk_CTL_DOM k) :=
    hshow.get (by simp [F.ACUk_CTL_DOM, Reg.ACUk_CTL, Reg.ACUk_STAT])
  have hstamp : (acuShow k s).rd (Reg.ACUk_STAMP k) = s.rd (Reg.ACUk_STAMP k) := hshow.rd (by simp [Reg.ACUk_STAMP, Reg.ACUk_STAT])
  have hlate : ¬ 0 < stampD (domAngle (Fin.ofNat 8 ((acuShow k s).get (F.ACUk_CTL_DOM k))) (acuShow k s)) ((acuShow k s).rd (Reg.ACUk_STAMP k)) := by
    rw [hdom, hstamp]
    exact Int.not_lt.mpr hahead
  unfold acuArmed
  dsimp only
  split
  · exact ⟨_, rfl⟩
  · split <;> exact ⟨_, rfl⟩

/-- After a write of a stamp that lies ahead the unit is as stamped, but for ACUk_STAT.ARMED and the timers (R64, R67). -/
theorem acuStampWrite_of_ahead (hahead : stampD (domAngle (Fin.ofNat 8 (s.get (F.ACUk_CTL_DOM k))) s) v ≤ 0) :
    ∃ q, acuStampWrite k v s = { acuShow k (acuStamped k v s) with timers := q } := by
  have hdom : (acuStamped k v s).get (F.ACUk_CTL_DOM k) = s.get (F.ACUk_CTL_DOM k) :=
    acuStamped_keeps.get (by simp [F.ACUk_CTL_DOM, Reg.ACUk_CTL, Reg.ACUk_STAMP])
  have hrun : acuStampWrite k v s = if (decide (s.clk.stage < 2) && acuCrossed k (domAngle (Fin.ofNat 8 (s.get (F.ACUk_CTL_DOM k))) s)
      (domNextAngle (Fin.ofNat 8 (s.get (F.ACUk_CTL_DOM k))) s) s || s.acu[k].raise) then acuShow k (acuStamped k v s)
      else acuArmed k (acuStamped k v s) := rfl
  rw [hrun]
  split
  · exact ⟨_, rfl⟩
  · refine acuArmed_of_ahead ?_
    rw [hdom, acuStamped_rd]
    exact hahead

/-- A stamp that lies ahead arms an enabled unit (R64). -/
theorem acuStampWrite_arms (hen : s.on (F.ACUk_CTL_EN k) = true)
    (hahead : stampD (domAngle (Fin.ofNat 8 (s.get (F.ACUk_CTL_DOM k))) s) v ≤ 0) {t : State} (ht : t = acuStampWrite k v s) :
    t.rd (Reg.ACUk_STAMP k) = v ∧ t.acu[k].armable = true ∧ t.get (F.ACUk_STAT_ARMED k) = 1 ∧ NoLog s t ∧
      Keeps [Reg.ACUk_STAMP k, Reg.ACUk_STAT k] s t := by
  obtain ⟨q, hq⟩ := acuStampWrite_of_ahead (k := k) (v := v) hahead
  rw [hq] at ht
  subst ht
  have hshow : Keeps [Reg.ACUk_STAT k] (acuStamped k v s) (acuShow k (acuStamped k v s)) := (Keeps.refl _ _).acuShow (.head _)
  have hon : (acuStamped k v s).on (F.ACUk_CTL_EN k) = true :=
    (acuStamped_keeps.on (by simp [F.ACUk_CTL_EN, Reg.ACUk_CTL, Reg.ACUk_STAMP])).trans hen
  have hstamp : (acuShow k (acuStamped k v s)).rd (Reg.ACUk_STAMP k) = v :=
    (hshow.rd (by simp [Reg.ACUk_STAMP, Reg.ACUk_STAT])).trans acuStamped_rd
  have harmed : (acuShow k (acuStamped k v s)).get (F.ACUk_STAT_ARMED k) = 1 := by
    rw [acuShow_armed, hon, acuStamped_armable, Bool.or_true]
    rfl
  have hkeeps : Keeps [Reg.ACUk_STAMP k, Reg.ACUk_STAT k] s (acuShow k (acuStamped k v s)) :=
    (acuStamped_keeps.mono (List.cons_subset_cons _ (List.nil_subset _))).acuShow (.tail _ (.head _))
  exact ⟨hstamp, acuStamped_armable (v := v), harmed, rfl, hkeeps.congr rfl rfl rfl⟩

/-- A write of ACUk_CTL with EN = 0 disarms the unit and leaves its stamp armable (R64). -/
theorem acuCtlWrite_disarms (hoff : fldOf (F.ACUk_CTL_EN k) v = 0) {t : State} (ht : t = acuCtlWrite k v s) :
    t.on (F.ACUk_CTL_EN k) = false ∧ t.acu = s.acu ∧ t.get (F.ACUk_STAT_ARMED k) = 0 ∧ t.rd (Reg.ACUk_STAMP k) = s.rd (Reg.ACUk_STAMP k) ∧
      NoLog s t ∧ Keeps [Reg.ACUk_CTL k, Reg.ACUk_STAT k] s t := by
  have hrun : ∃ w, fldOf (F.ACUk_CTL_EN k) w = 0 ∧ acuCtlWrite k v s =
      if (s.wr (Reg.ACUk_CTL k) w).on (F.ACUk_CTL_EN k) && !s.on (F.ACUk_CTL_EN k) then acuArmed k (s.wr (Reg.ACUk_CTL k) w)
      else acuShow k (s.wr (Reg.ACUk_CTL k) w) := by
    refine ⟨_, ?_, rfl⟩
    split
    · rw [fldOf_fldInto_apart (by simp [F.ACUk_CTL_MODE]) (by simp [F.ACUk_CTL_MODE, F.ACUk_CTL_EN]), hoff]
    · exact hoff
  obtain ⟨w, hw, hrun⟩ := hrun
  have hshut : (s.wr (Reg.ACUk_CTL k) w).on (F.ACUk_CTL_EN k) = false := by
    unfold State.on
    rw [State.get_wr_same (a := Reg.ACUk_CTL k) (acuEn_fits k) rfl, hw]
    rfl
  rw [hrun, hshut, Bool.false_and, if_neg Bool.false_ne_true] at ht
  subst ht
  have hctl : Keeps [Reg.ACUk_CTL k] s (s.wr (Reg.ACUk_CTL k) w) := (Keeps.refl _ s).wr _ (.head _)
  have hkeeps : Keeps [Reg.ACUk_CTL k, Reg.ACUk_STAT k] s (acuShow k (s.wr (Reg.ACUk_CTL k) w)) :=
    (hctl.mono (List.cons_subset_cons _ (List.nil_subset _))).acuShow (.tail _ (.head _))
  have hshow : Keeps [Reg.ACUk_STAT k] (s.wr (Reg.ACUk_CTL k) w) (acuShow k (s.wr (Reg.ACUk_CTL k) w)) := (Keeps.refl _ _).acuShow (.head _)
  refine ⟨?_, rfl, ?_, hkeeps.rd (by simp [Reg.ACUk_STAMP, Reg.ACUk_CTL, Reg.ACUk_STAT]), rfl, hkeeps⟩
  · exact (hshow.on (by simp [F.ACUk_CTL_EN, Reg.ACUk_CTL, Reg.ACUk_STAT])).trans hshut
  · rw [acuShow_armed, hshut]
    rfl

/-! ## Firing -/

theorem acuDisarm_acu : (acuDisarm k s).acu[k] = { s.acu[k] with armable := false } := acuUpd_same _ _ _

theorem acuFire_of_armed (hen : s.on (F.ACUk_CTL_EN k) = true) (hmode : s.get (F.ACUk_CTL_MODE k) ≠ 2) (hold : s.acu[k].old = none)
    (harm : s.acu[k].armable = true) : acuFire k s = acuAfter k (acuRaise k s) := by
  unfold acuFire
  rw [if_neg (by simp [hen, hmode]), if_neg (by rw [hold]; simp), if_pos harm]

/-- An armed one-shot unit fires and disarms (R65). -/
theorem acuFire_oneshot (hen : s.on (F.ACUk_CTL_EN k) = true) (hmode : s.get (F.ACUk_CTL_MODE k) = 0) (hold : s.acu[k].old = none)
    (harm : s.acu[k].armable = true) {t : State} (ht : t = acuFire k s) :
    t.get (F.ACUk_STAT_FIRED k) = 1 ∧ t.get (F.ACUk_STAT_ARMED k) = 0 ∧ t.acu[k].raise = true ∧ t.acu[k].armable = false ∧ NoLog s t ∧
      Keeps [Reg.ACUk_STAT k] s t := by
  have hmode' : (acuRaise k s).get (F.ACUk_CTL_MODE k) = 0 :=
    (acuRaise_keeps.get (by simp [F.ACUk_CTL_MODE, Reg.ACUk_CTL, Reg.ACUk_STAT])).trans hmode
  have hrun : acuFire k s = acuDisarm k (acuRaise k s) := by
    rw [acuFire_of_armed hen (by omega) hold harm]
    exact if_neg (fun h => by omega)
  rw [hrun] at ht
  subst ht
  have hacu : (acuDisarm k (acuRaise k s)).acu[k] = { s.acu[k] with raise := true, armable := false } := by
    rw [acuDisarm_acu, acuRaise_acu]
  refine ⟨?_, ?_, by rw [hacu], by rw [hacu], rfl, (acuRaise_keeps.acuUpd _ _).acuShow (.head _)⟩
  · exact acuShow_fired.trans acuRaise_fired
  · unfold acuDisarm
    rw [acuShow_armed, acuUpd_get, hmode', acuUpd_same]
    simp

/-- The advance of a stamp writes ACUk_STAMP and, where it skips a step, ACUk_STAT.MISS (R65). -/
theorem acuAdvance_eq (k : Fin 16) (s : State) : ∃ skips w, acuAdvance k s =
    (s.wr (Reg.ACUk_STAMP k) w).when skips (fun t => t.put (F.ACUk_STAT_MISS k) 1) := ⟨_, _, rfl⟩

theorem Keeps.acuAdvance {l : List Nat} {t : State} (h : Keeps l s t) (hstamp : Reg.ACUk_STAMP k ∈ l) (hstat : Reg.ACUk_STAT k ∈ l) :
    Keeps l s (acuAdvance k t) := by
  obtain ⟨skips, w, hrun⟩ := acuAdvance_eq k t
  rw [hrun]
  exact (h.wr w hstamp).when _ ((h.wr w hstamp).hw _ hstat)

theorem acuAdvance_fired : (acuAdvance k s).get (F.ACUk_STAT_FIRED k) = s.get (F.ACUk_STAT_FIRED k) := by
  obtain ⟨skips, w, hrun⟩ := acuAdvance_eq k s
  have hwr : (s.wr (Reg.ACUk_STAMP k) w).get (F.ACUk_STAT_FIRED k) = s.get (F.ACUk_STAT_FIRED k) :=
    regGet_wr_apart s.regs _ w _ (by simp [F.ACUk_STAT_FIRED, Reg.ACUk_STAT, Reg.ACUk_STAMP])
  rw [hrun]
  cases skips
  · exact hwr
  · exact (regGet_put_apart _ _ _ _ (acuMiss_apart_fired k)).trans hwr

@[simp] theorem acuAdvance_acu : (acuAdvance k s).acu = s.acu := by
  obtain ⟨skips, w, hrun⟩ := acuAdvance_eq k s
  rw [hrun]
  cases skips <;> rfl

@[simp] theorem acuAdvance_log : (acuAdvance k s).log = s.log := by
  obtain ⟨skips, w, hrun⟩ := acuAdvance_eq k s
  rw [hrun]
  cases skips <;> rfl

/-- An armed periodic unit with a STEP fires and stays armed for its next stamp (R65). -/
theorem acuFire_periodic (hen : s.on (F.ACUk_CTL_EN k) = true) (hmode : s.get (F.ACUk_CTL_MODE k) = 1) (hstep : s.rd (Reg.ACUk_STEP k) ≠ 0)
    (hold : s.acu[k].old = none) (harm : s.acu[k].armable = true) {t : State} (ht : t = acuFire k s) :
    t.get (F.ACUk_STAT_FIRED k) = 1 ∧ t.acu[k].raise = true ∧ t.acu[k].armable = true ∧ NoLog s t ∧
      Keeps [Reg.ACUk_STAT k, Reg.ACUk_STAMP k] s t := by
  have hmode' : (acuRaise k s).get (F.ACUk_CTL_MODE k) = 1 :=
    (acuRaise_keeps.get (by simp [F.ACUk_CTL_MODE, Reg.ACUk_CTL, Reg.ACUk_STAT])).trans hmode
  have hstep' : (acuRaise k s).rd (Reg.ACUk_STEP k) ≠ 0 := by
    rwa [acuRaise_keeps.rd (by simp [Reg.ACUk_STEP, Reg.ACUk_STAT])]
  have hrun : acuFire k s = acuAdvance k (acuRaise k s) := by
    rw [acuFire_of_armed hen (by omega) hold harm]
    exact if_pos ⟨hmode', hstep'⟩
  rw [hrun] at ht
  subst ht
  have hacu : (acuAdvance k (acuRaise k s)).acu[k] = { s.acu[k] with raise := true } := by
    rw [acuAdvance_acu, acuRaise_acu]
  refine ⟨acuAdvance_fired.trans acuRaise_fired, by rw [hacu], by rw [hacu, harm], congrArg LogSt.reqs acuAdvance_log, ?_⟩
  exact (acuRaise_keeps.mono (List.cons_subset_cons _ (List.nil_subset _))).acuAdvance (.tail _ (.head _)) (.head _)

/-! ## The commands -/

/-- ACU_ARM with a stamp is the unit's stamp write: ACUk_STAMP is open at either level (R11, R64). -/
theorem busWrite_acuStamp (hon : slotOn (Reg.ACUk_STAMP k) s = true) :
    busWrite .trio (Reg.ACUk_STAMP k) v 0 s = acuStampWrite k v { s with busErr := false } := by
  have hopen : ∀ level, shutBits acuStampRow level = 0 := by decide
  have hall : ∀ level : Bool, (acuStampRow.rw ||| acuStampRow.rwl) &&& ~~~(if level then 0 else acuStampRow.expert) = BitVec.allOnes 32 := by decide
  have hword : ∀ level old, writtenWord acuStampRow level v old = v := fun level old => by
    simp only [writtenWord, hall, BitVec.and_allOnes, BitVec.not_allOnes, BitVec.and_zero, BitVec.or_zero]
  rw [busWrite_angle (angFields_acuStamp k) hon (mayWrite_of_basic (by decide) _), writeAngle_acuStamp, countAttempt_of_open (hopen _), hword]

/-- ACU_ARM with a control word is the unit's control write; EN is open at either level (R11, R64). -/
theorem busWrite_acuCtl (hon : slotOn (Reg.ACUk_CTL k) s = true) : ∃ w u, WriteBegins s u ∧
    fldOf (F.ACUk_CTL_EN k) w = fldOf (F.ACUk_CTL_EN k) v ∧ busWrite .trio (Reg.ACUk_CTL k) v 0 s = acuCtlWrite k w u := by
  have hbasic : ∀ k : Fin 16, basicField (F.ACUk_CTL_EN k) acuCtlRow = true := by decide
  refine ⟨_, _, countAttempt_begins acuCtlRow (Reg.ACUk_CTL k) v s, fldOf_writtenWord_basic (hbasic k) (s.expertAt (Reg.ACUk_CTL k)) v (s.rd (Reg.ACUk_CTL k)), ?_⟩
  rw [busWrite_angle (angFields_acuCtl k) hon (mayWrite_of_basic (by decide) _), writeAngle_acuCtl]

/-- Settles O8, one clause for each event of a unit: a stamp write, a control write and the two firings. -/
theorem angleCompare : Obligations.AngleCompare := by
  unfold Obligations.AngleCompare
  refine ⟨fun s k v hon hen _ hahead => ⟨_, rfl, ?arm⟩, fun s k v hon _ hoff => ⟨_, rfl, ?disarm⟩,
    fun s k hen hmode hold harm => ⟨_, rfl, acuFire_oneshot hen hmode hold harm rfl⟩,
    fun s k hen hmode hstep hold harm => ⟨_, rfl, acuFire_periodic hen hmode hstep hold harm rfl⟩⟩
  case arm => exact acuStampWrite_arms (s := { s with busErr := false }) hen hahead (busWrite_acuStamp hon)
  case disarm =>
    obtain ⟨w, u, hbegin, hw, hrun⟩ := busWrite_acuCtl (v := v) hon
    obtain ⟨hshut, hacu, harmed, hstamp, hlog, hkeeps⟩ := acuCtlWrite_disarms (hw.trans hoff) hrun
    refine ⟨hshut, hacu.trans hbegin.acu, harmed, ?_, hlog.trans (congrArg LogSt.reqs hbegin.log), ?_⟩
    · exact hstamp.trans (hbegin.keeps.rd (by simp [Reg.ACUk_STAMP, Reg.SYS_IGNWR]; omega))
    · exact (hbegin.keeps.mono (by simp)).trans (hkeeps.mono (by simp))

end Sys2Proof.Machine
end

section
/-!
PROOFS. Tracking of a reference: holdover, loss, acquisition, the pulses of the SYNC ring (R53 to R58, R69, R70, R75).
-/
namespace Sys2Proof.Machine

variable {d : Fin 8} {s t u : State}

/-! ## The registers of the domains -/

/-- The registers of ANGLE below those of the compare units. -/
def DomReg (a : Nat) : Prop := 0x40020000 ≤ a ∧ a < 0x40020400

theorem DomReg.not_mot {a : Nat} (h : DomReg a) : ¬ MotRegs a := by
  unfold DomReg at h
  unfold MotRegs Reg.EVM_FAST
  omega

theorem DomReg.not_acu {a : Nat} (h : DomReg a) : ¬ AcuRegs a := by
  unfold DomReg at h
  unfold AcuRegs
  omega

theorem domReg_flt : DomReg Reg.ANG_FLT := ⟨by decide, by decide⟩
theorem domReg_ctl (d : Fin 8) : DomReg (Reg.ANGn_CTL d) := by unfold DomReg Reg.ANGn_CTL; omega
theorem domReg_stat (d : Fin 8) : DomReg (Reg.ANGn_STAT d) := by unfold DomReg Reg.ANGn_STAT; omega

/-- The registers of the domains, memory and the queue read as before. -/
structure SameDomRegs (s t : State) : Prop where
  rd : ∀ a, DomReg a → t.rd a = s.rd a
  mem : SameMem s t

theorem SameDomRegs.trans (h : SameDomRegs s t) (k : SameDomRegs t u) : SameDomRegs s u :=
  ⟨fun a ha => (k.rd a ha).trans (h.rd a ha), h.mem.trans k.mem⟩

theorem SameDomRegs.get (h : SameDomRegs s t) {f : Fld} (hf : DomReg f.addr) : t.get f = s.get f := congrArg (fldOf f) (h.rd _ hf)

theorem SameDomRegs.bit (h : SameDomRegs s t) {f : Fld} (hf : DomReg f.addr) (i : Nat) : t.bit f i = s.bit f i :=
  congrArg (fun n => n.testBit i) (h.get hf)

theorem domUpd_same_regs (d : Fin 8) (f : Domain → Domain) (s : State) : SameDomRegs s (domUpd d f s) :=
  ⟨fun _ _ => rfl, fun _ => rfl, rfl⟩

theorem logReq_same_regs (b c : Nat) (l : List Byte) (s : State) : SameDomRegs s (s.logReq b c l) := ⟨fun _ _ => rfl, fun _ => rfl, rfl⟩

theorem motWatchAll_same_regs (s : State) : SameDomRegs s (motWatchAll s) :=
  have hq := motWatchAll_quiet s
  ⟨fun a ha => hq.rd a ha.not_mot, hq.sameMem⟩

theorem acuStatus_same_regs (d : Fin 8) (bit : Nat) (s : State) : SameDomRegs s (acuStatus d bit s) :=
  have hq := acuStatus_quiet d bit s
  ⟨fun a ha => hq.rd a ha.not_acu, hq.sameMem⟩

/-! ## Fields of the domains -/

theorem state_fits : ∀ d : Fin 8, fldFits (F.ANGn_STAT_STATE d) = true := by decide +kernel
theorem hold_fits : fldFits F.ANG_FLT_HOLD = true := by decide +kernel
theorem lost_fits : fldFits F.ANG_FLT_LOST = true := by decide +kernel
theorem rej_fits : ∀ d : Fin 8, fldFits (F.ANGn_REJ_REJ d) = true := by decide +kernel

/-- A field just put reads as a value that fits it. -/
theorem State.get_put_of_lt {f : Fld} (hf : fldFits f = true) {v : Nat} (hv : v < 2 ^ f.width) (s : State) : (s.put f v).get f = v := by
  rw [State.get_regs, State.put_regs, regGet_put _ _ _ hf, Nat.mod_eq_of_lt hv]

theorem get_put_state (d : Fin 8) {n : Nat} (hn : n < 2 ^ 3) (s : State) : (s.put (F.ANGn_STAT_STATE d) n).get (F.ANGn_STAT_STATE d) = n :=
  State.get_put_of_lt (state_fits d) hn s

/-- A field of another register reads as before a bit is set. -/
theorem State.get_setBit_ne {f g : Fld} (h : g.addr ≠ f.addr) (s : State) (i : Nat) : (s.setBit f i).get g = s.get g :=
  congrArg (fldOf g) (s.rd_hw_ne _ _ _ h)

/-- A bit just set reads as set. -/
theorem State.bit_setBit_same {f : Fld} (hf : fldFits f = true) {i : Nat} (hi : i < f.width) (s : State) : (s.setBit f i).bit f i = true := by
  unfold State.bit
  rw [State.get_regs, State.setBit_regs_put, State.put_regs, regGet_put _ _ _ hf, Nat.testBit_mod_two_pow, Nat.testBit_or,
    Nat.testBit_two_pow_self, Bool.or_true, Bool.and_true, decide_eq_true hi]

/-- A count just raised reads as the saturated sum. -/
theorem State.get_inc_same {f : Fld} (hf : fldFits f = true) (s : State) (k : Nat) : (s.inc f k).get f = satInc f.width (s.get f) k := by
  have hlt : satInc f.width (s.get f) k < 2 ^ f.width := by
    have hpos := Nat.two_pow_pos f.width
    unfold satInc
    omega
  rw [State.get_regs, State.inc_regs_put, State.put_regs, regGet_put _ _ _ hf, Nat.mod_eq_of_lt hlt]

/-! ## The watch over the motors and the log -/

theorem fire_log (src : Nat) : (s.fire src).log = s.log := by
  unfold State.fire
  split <;> rfl

/-- A declaration of motor faults leaves the domain whose angle the log carries. -/
theorem motDeclare_adom (m : Fin 4) (fs : List Nat) (cur : Int) (s : State) : (motDeclare m fs cur s).log.adom = s.log.adom := by
  have hrefl : ∀ v : State, v.log.adom = v.log.adom := fun _ => rfl
  have heach : ∀ g : Nat → State → State, (∀ f v, (g f v).log.adom = v.log.adom) → (s.each fs g).log.adom = s.log.adom := fun g hg =>
    State.each_rel (fun v w => w.log.adom = v.log.adom) hrefl (fun _ _ _ h k => k.trans h) fs g hg s
  have hwhen : ∀ (c : Bool) (v : State), (v.when c (fun w => w.fire (137 + 2 * m.val))).log.adom = v.log.adom := fun c v => by
    cases c
    · rfl
    · exact congrArg LogSt.adom (fire_log _)
  unfold motDeclare
  dsimp only
  split
  · exact (hwhen _ _).trans (heach _ fun _ _ => rfl)
  · exact (hwhen _ _).trans (heach _ fun _ _ => rfl)

theorem motWatchAll_adom (s : State) : (motWatchAll s).log.adom = s.log.adom := by
  unfold motWatchAll
  dsimp only
  split
  · refine State.each_rel (fun v w => w.log.adom = v.log.adom) (fun _ => rfl) (fun _ _ _ h k => k.trans h) _ _ (fun m v => ?_) s
    split
    · exact motDeclare_adom m _ 0 _
    · rfl
  · rfl

/-- The angle that a log entry carries is not the watch's to change. -/
theorem motWatchAll_logAngle (s : State) : (motWatchAll s).logAngle = s.logAngle := by
  unfold State.logAngle
  rw [(motWatchAll_quiet s).dom, motWatchAll_adom]

/-! ## Holdover and loss -/

theorem stat_ne_flt (d : Fin 8) : (F.ANGn_STAT_STATE d).addr ≠ Reg.ANG_FLT := by
  simp only [F.ANGn_STAT_STATE, Reg.ANGn_STAT, Reg.ANG_FLT]
  omega

theorem holdoverEnter_same_regs : SameDomRegs ((s.put (F.ANGn_STAT_STATE d) dHOLDOVER).setBit F.ANG_FLT_HOLD d) (holdoverEnter d s) :=
  ((motWatchAll_same_regs _).trans (logReq_same_regs _ _ _ _)).trans ((domUpd_same_regs _ _ _).trans (acuStatus_same_regs _ _ _))

theorem holdoverEnter_dom : (holdoverEnter d s).dom[d] = { s.dom[d] with
    nextRate := if s.dom[d].src ≤ 2 then some s.dom[d].rateI else none, fixAt := s.clk.ns, acq := 0, small := 0, large := 0, awaited := false,
    hold := 0, chgIn := 0, chgRate := none, chgMark := none } := by
  unfold holdoverEnter
  dsimp only
  rw [(acuStatus_quiet _ _ _).dom, domUpd_same, State.logReq_dom, (motWatchAll_quiet _).dom]
  rfl

/-- A missing reference: HOLDOVER, its flag, the end of the present tracking and the log entry, which is the last one made (R56). -/
theorem holdoverEnter_enters (ht : t = holdoverEnter d s) :
    dState d t = 4 ∧ t.bit F.ANG_FLT_HOLD d = true ∧ t.dom[d].hold = 0 ∧ t.dom[d].awaited = false ∧ t.dom[d].acc = s.dom[d].acc ∧
      LastLog 0x02 0x0001 ([b8 d] ++ bytesOfNat 6 s.dom[d].rateI ++ bytesOfNat 4 (s.get (F.ANGn_PERR_PERR d))) s t ∧ SameMem s t := by
  subst ht
  have hregs := holdoverEnter_same_regs (d := d) (s := s)
  refine ⟨?_, ?_, by rw [holdoverEnter_dom], by rw [holdoverEnter_dom], by rw [holdoverEnter_dom], ?_, ?_⟩
  · unfold dState
    rw [hregs.get (domReg_stat d), State.get_setBit_ne (stat_ne_flt d)]
    exact get_put_state d (by decide) s
  · exact (hregs.bit domReg_flt d).trans (State.bit_setBit_same hold_fits d.isLt _)
  · unfold LastLog holdoverEnter
    dsimp only
    rw [acuStatus_log, domUpd_log, State.logReq_log, List.getLast?_concat, motWatchAll_logAngle, (motWatchAll_quiet _).clk]
    rfl
  · exact SameMem.trans ⟨fun _ => rfl, rfl⟩ hregs.mem

theorem refMissing_of_tracking (h : dState d s = 2 ∨ dState d s = 3) : refMissing d s = holdoverEnter d s := if_pos h

theorem lostEnter_of_holdover (h : dState d s = 4) : lostEnter d s = acuStatus d 1 (domUpd d (fun x => { x with allow := false })
    (((s.put (F.ANGn_STAT_STATE d) dLOST).setBit F.ANG_FLT_LOST d).logReq 0x02 0x0002
      ([b8 d] ++ rateIBytes d s ++ bytesOfNat 2 (holdTo d s)))) := if_pos h

/-- The time-out of a holdover: LOST, its flag, its log entry (R57). -/
theorem lostEnter_enters (hstate : dState d s = 4) (ht : t = lostEnter d s) :
    dState d t = 5 ∧ t.bit F.ANG_FLT_LOST d = true ∧ t.dom[d].allow = false ∧ t.dom[d].acc = s.dom[d].acc ∧
      Logged 0x02 0x0002 ([b8 d] ++ bytesOfNat 6 s.dom[d].rateI ++ bytesOfNat 2 (s.get (F.ANGn_WIN_HOLDTO d))) s t ∧ SameMem s t := by
  rw [lostEnter_of_holdover hstate] at ht
  subst ht
  have hregs : SameDomRegs ((s.put (F.ANGn_STAT_STATE d) dLOST).setBit F.ANG_FLT_LOST d) _ :=
    (logReq_same_regs 0x02 0x0002 ([b8 d] ++ rateIBytes d s ++ bytesOfNat 2 (holdTo d s)) _).trans
      ((domUpd_same_regs d (fun x => { x with allow := false }) _).trans (acuStatus_same_regs d 1 _))
  refine ⟨?_, ?_, ?_, ?_, ?_, ?_⟩
  · unfold dState
    rw [hregs.get (domReg_stat d), State.get_setBit_ne (stat_ne_flt d)]
    exact get_put_state d (by decide) s
  · exact (hregs.bit domReg_flt d).trans (State.bit_setBit_same lost_fits d.isLt _)
  · rw [(acuStatus_quiet _ _ _).dom, domUpd_same]
  · rw [(acuStatus_quiet _ _ _).dom, domUpd_same]
    rfl
  · exact congrArg LogSt.reqs (acuStatus_log d 1 _)
  · exact SameMem.trans ⟨fun _ => rfl, rfl⟩ hregs.mem

/-! ## REACQUIRE -/

theorem angAct_word {ticket : Byte} {arg : BitVec 16} {f : State → State} (hfresh : Fresh Reg.ANG_ACT ticket s) :
    (s.act Reg.ANG_ACT ticket arg 1 f).rd Reg.ANG_ACT = ticket ++ (arg &&& 0x7) ++ (1 : Byte) := by
  have hfull : implMask Reg.ANG_ACT = BitVec.allOnes 32 := by decide +kernel
  rw [State.act_fresh _ _ _ _ _ _ hfresh, State.rd_wr_same, hfull, BitVec.and_allOnes]
  rfl

theorem reacquire_of_lost {arg : BitVec 16} (hstate : dState (Fin.ofNat 8 arg.toNat) s = 5) (hsrc : s.dom[Fin.ofNat 8 arg.toNat].src ≠ 0) :
    reacquire arg s = domUpd (Fin.ofNat 8 arg.toNat) (fun x => { x with allow := true, acq := 0 }) s := if_pos ⟨hstate, hsrc⟩

theorem reacquire_of_tracking {arg : BitVec 16} (hstate : dState (Fin.ofNat 8 arg.toNat) s = 3 ∨ dState (Fin.ofNat 8 arg.toNat) s = 4)
    (hsrc : s.dom[Fin.ofNat 8 arg.toNat].src = 1 ∨ s.dom[Fin.ofNat 8 arg.toNat].src = 2) :
    reacquire arg s = acquireAfresh (Fin.ofNat 8 arg.toNat) (domUpd (Fin.ofNat 8 arg.toNat) (fun x => { x with nextRate := none, jump := none }) s) := by
  unfold reacquire
  dsimp only
  rw [if_neg (fun h => by obtain ⟨h5, -⟩ := h; unfold dLOST at h5; omega), if_pos ⟨.inr hstate, hsrc⟩]

theorem acquireAfresh_same_regs : SameDomRegs (s.put (F.ANGn_STAT_STATE d) dACQUIRE) (acquireAfresh d s) :=
  (motWatchAll_same_regs _).trans (domUpd_same_regs _ _ _)

theorem acquireAfresh_state : dState d (acquireAfresh d s) = 2 :=
  (acquireAfresh_same_regs.get (domReg_stat d)).trans (get_put_state d (by decide) s)

theorem acquireAfresh_dom : (acquireAfresh d s).dom[d] = { s.dom[d] with acq := 0, small := 0, large := 0, chgMark := none } := by
  unfold acquireAfresh
  rw [domUpd_same, (motWatchAll_quiet _).dom]
  rfl

/-- REACQUIRE of a LOST domain lets it take its returning reference (R58). -/
theorem reacquire_allows {ticket : Byte} {arg : BitVec 16} (hfresh : Fresh Reg.ANG_ACT ticket s) (hstate : dState (Fin.ofNat 8 arg.toNat) s = 5)
    (hsrc : s.dom[Fin.ofNat 8 arg.toNat].src ≠ 0) (ht : t = s.act Reg.ANG_ACT ticket arg 1 (reacquire arg)) :
    t.dom[Fin.ofNat 8 arg.toNat].allow = true ∧ t.dom[Fin.ofNat 8 arg.toNat].acq = 0 ∧
      t.rd Reg.ANG_ACT = ticket ++ (arg &&& 0x7) ++ (1 : Byte) ∧ Keeps [Reg.ANG_ACT] s t := by
  refine ⟨?_, ?_, by rw [ht, angAct_word hfresh], ?_⟩ <;>
    rw [ht, State.act_fresh _ _ _ _ _ _ hfresh, reacquire_of_lost hstate hsrc]
  · rw [State.wr_dom, domUpd_same]
  · rw [State.wr_dom, domUpd_same]
  · exact ((Keeps.refl _ s).domUpd _ _).wr _ (.head _)

/-- REACQUIRE of a tracking domain or of one in HOLDOVER begins an acquisition (R58). -/
theorem reacquire_acquires {ticket : Byte} {arg : BitVec 16} (hfresh : Fresh Reg.ANG_ACT ticket s)
    (hstate : dState (Fin.ofNat 8 arg.toNat) s = 3 ∨ dState (Fin.ofNat 8 arg.toNat) s = 4)
    (hsrc : s.dom[Fin.ofNat 8 arg.toNat].src = 1 ∨ s.dom[Fin.ofNat 8 arg.toNat].src = 2)
    (ht : t = s.act Reg.ANG_ACT ticket arg 1 (reacquire arg)) :
    dState (Fin.ofNat 8 arg.toNat) t = 2 ∧ t.dom[Fin.ofNat 8 arg.toNat].acq = 0 ∧
      t.rd Reg.ANG_ACT = ticket ++ (arg &&& 0x7) ++ (1 : Byte) ∧ SameMem s t := by
  refine ⟨?_, ?_, by rw [ht, angAct_word hfresh], ?_⟩ <;>
    rw [ht, State.act_fresh _ _ _ _ _ _ hfresh, reacquire_of_tracking hstate hsrc]
  · refine (regGet_wr_apart _ _ _ _ ?_).trans acquireAfresh_state
    simp only [F.ANGn_STAT_STATE, Reg.ANGn_STAT, Reg.ANG_ACT]
    omega
  · rw [State.wr_dom, acquireAfresh_dom]
  · exact acquireAfresh_same_regs.mem

/-! ## The SYNC ring -/

/-- RING_OPEN, once per occurrence (R75). -/
theorem ringOpen_reports (hnew : s.sync.reported = false) (ht : t = ringOpen s) :
    t.get F.ANG_FLT_RINGOPEN = 1 ∧ t.sync.reported = true ∧
      Logged 0x02 0x0006 (b8 (s.get F.ANG_SYNCCTL_MDOM) :: bytesOfNat 2 (s.get F.ANG_RINGDLY_DLY)) s t ∧ Keeps [Reg.ANG_FLT] s t := by
  have hrun : ringOpen s = (({ s with sync := { s.sync with reported := true } } : State).put F.ANG_FLT_RINGOPEN 1).logReq 0x02 0x0006
      (b8 (s.get F.ANG_SYNCCTL_MDOM) :: bytesOfNat 2 (s.get F.ANG_RINGDLY_DLY)) := if_neg (by rw [hnew]; decide)
  have hfits : fldFits F.ANG_FLT_RINGOPEN = true := by decide +kernel
  rw [hrun] at ht
  subst ht
  refine ⟨State.get_put_of_lt hfits (by decide) _, rfl, rfl, ?_⟩
  have hflag : Keeps [Reg.ANG_FLT] s { s with sync := { s.sync with reported := true } } := (Keeps.refl _ s).congr rfl rfl rfl
  exact (hflag.put 1 (f := F.ANG_FLT_RINGOPEN) (.head _)).congr rfl rfl rfl

theorem mem_syncDoms : d ∈ syncDoms s ↔ s.on (F.ANGn_CTL_EN d) = true ∧ s.dom[d].src = 1 := by
  simp [syncDoms]

/-- A rejected event is counted and leaves the domains as they are (R55). -/
theorem refReject_rej : (refReject d s).get (F.ANGn_REJ_REJ d) = satInc (F.ANGn_REJ_REJ d).width (s.get (F.ANGn_REJ_REJ d)) 1 := by
  have hreg : DomReg (F.ANGn_REJ_REJ d).addr := by
    simp only [DomReg, F.ANGn_REJ_REJ, Reg.ANGn_REJ]
    omega
  exact ((acuStatus_same_regs d 3 _).get hreg).trans (State.get_inc_same (rej_fits d) s 1)

theorem refReject_dom : (refReject d s).dom = s.dom := (acuStatus_quiet d 3 _).dom

theorem refReject_sync : (refReject d s).sync = s.sync := (acuStatus_quiet d 3 _).sync

theorem refReject_mem (h : SameMem s u) : SameMem s (refReject d u) := h.trans (acuStatus_quiet d 3 _).sameMem

/-- A pulse that is too wide is rejected once; the port then waits for the low level (R70). -/
theorem syncOverwidth_rejects (hnew : s.sync.wait = false) (hrole : s.sync.role ≠ 1) (hdoms : syncDoms s = [d]) (ht : t = syncOverwidth s) :
    t.sync.wait = true ∧ t.get (F.ANGn_REJ_REJ d) = satInc (F.ANGn_REJ_REJ d).width (s.get (F.ANGn_REJ_REJ d)) 1 ∧ t.dom = s.dom ∧ SameMem s t := by
  have hdoms' : syncDoms { s with sync := { s.sync with wait := true } } = [d] := hdoms
  have hrun : syncOverwidth s = refReject d { s with sync := { s.sync with wait := true } } := by
    unfold syncOverwidth syncReject
    rw [if_neg (by rw [hnew]; decide), if_neg hrole, hdoms', State.each_cons, State.each_nil]
  rw [hrun] at ht
  subst ht
  exact ⟨congrArg SyncPort.wait refReject_sync, refReject_rej, refReject_dom, refReject_mem ⟨fun _ => rfl, rfl⟩⟩

/-- An accepted event is remembered in the domain and in ANGn_PERR (R55). -/
theorem rememberEvent_dom (d : Fin 8) (time : Nat) (mark : BitVec 56) (e : Int) (s : State) : ∃ rates,
    (rememberEvent d time mark e s).dom[d] = { s.dom[d] with evT := time, evMark := mark, awaited := true, turnRates := rates } :=
  ⟨_, domUpd_same _ _ _⟩

theorem rememberEvent_keeps (d : Fin 8) (time : Nat) (mark : BitVec 56) (e : Int) (s : State) :
    Keeps [Reg.ANGn_PERR d] s (rememberEvent d time mark e s) := ((Keeps.refl _ s).hw _ (.head _)).domUpd _ _

/-- The first event of an acquisition is accepted with no check and remembered (R53). -/
theorem refEvent_first (time : Nat) (hen : s.on (F.ANGn_CTL_EN d) = true) (hsrc : s.dom[d].src = 1) (hstate : dState d s = 2)
    (hacq : s.dom[d].acq = 0) : refEvent d time s =
      (domUpd d (fun y => { y with acq := 1 }) (rememberEvent d time (markOf (domAt d time s)) (phaseError (domAt d time s)) s), true) := by
  unfold refEvent
  dsimp only
  rw [hstate, if_neg (by rw [hen, hsrc]; decide), if_neg (fun h => absurd h.1 (by decide)), if_neg (show ¬ dHOLDOVER ≤ 2 by decide), if_pos hacq]

/-- A pulse that is neither WRAP nor CHANGE is the event of the domains that follow the ring, and no more (R69, R70). -/
theorem syncPulse_of_normal {lead width : Nat} (hrole : s.sync.role ≠ 1) (hmin : 6 ≤ width) (hmax : width < 28) (hdoms : syncDoms s = [d]) :
    syncPulse lead width s = (refEvent d ((lead * 64 : Nat) - s.getI F.ANG_SYNCCOMP_COMP).toNat s).1 := by
  have hwrap : (decide (28 ≤ width ∧ width ≤ 51) || decide (84 ≤ width)) = false := by simp; omega
  have hchange : decide (52 ≤ width) = false := by simp; omega
  unfold syncPulse
  dsimp only
  rw [if_neg hrole, if_neg (by omega), hdoms, hwrap, hchange]
  exact ite_id _

/-- The first valid pulse of an acquisition is remembered; the rate and the angle stay (R53, R70). -/
theorem syncPulse_first {lead width : Nat} (hrole : s.sync.role ≠ 1) (hmin : 6 ≤ width) (hmax : width < 28) (hdoms : syncDoms s = [d])
    (hstate : dState d s = 2) (hacq : s.dom[d].acq = 0) (ht : t = syncPulse lead width s) :
    t.dom[d].acq = 1 ∧ t.dom[d].evT = ((lead * 64 : Nat) - s.getI F.ANG_SYNCCOMP_COMP).toNat ∧ t.dom[d].awaited = true ∧
      t.dom[d].rate = s.dom[d].rate ∧ t.dom[d].acc = s.dom[d].acc ∧ NoLog s t ∧ Keeps [Reg.ANGn_PERR d] s t := by
  obtain ⟨hen, hsrc⟩ := mem_syncDoms.mp (hdoms ▸ List.mem_singleton_self d)
  rw [syncPulse_of_normal hrole hmin hmax hdoms, refEvent_first _ hen hsrc hstate hacq] at ht
  subst ht
  obtain ⟨rates, hdom⟩ := rememberEvent_dom d ((lead * 64 : Nat) - s.getI F.ANG_SYNCCOMP_COMP).toNat
    (markOf (domAt d ((lead * 64 : Nat) - s.getI F.ANG_SYNCCOMP_COMP).toNat s))
    (phaseError (domAt d ((lead * 64 : Nat) - s.getI F.ANG_SYNCCOMP_COMP).toNat s)) s
  dsimp only
  rw [domUpd_same, hdom]
  exact ⟨rfl, rfl, rfl, rfl, rfl, rfl, (rememberEvent_keeps _ _ _ _ _).domUpd _ _⟩

/-! ## Edges on SYNC_IN -/

/-- An event just scheduled is among the timers, at the cycle it falls due. -/
theorem State.mem_timers_after {n m : Nat} (c : Instr) (s : State) (h : s.clk.ns + n = m) : (m, c) ∈ (s.after n c).timers :=
  h ▸ List.mem_append_right _ (List.mem_singleton_self _)

/-- A follower repeats an accepted edge 2 ns later (R69). -/
def repeatEdge (level : Bool) (s : State) : State :=
  s.when (s.sync.role == 2) (fun t => { t with sync := { t.sync with edges := t.sync.edges ++ [(t.clk.ns + 2, level)] } })

theorem repeatEdge_dom {level : Bool} : (repeatEdge level s).dom = s.dom := by
  unfold repeatEdge
  cases s.sync.role == 2 <;> rfl

theorem repeatEdge_clk {level : Bool} : (repeatEdge level s).clk = s.clk := by
  unfold repeatEdge
  cases s.sync.role == 2 <;> rfl

theorem repeatEdge_keeps {l : List Nat} {level : Bool} : Keeps l s (repeatEdge level s) :=
  (Keeps.refl l s).when _ ((Keeps.refl l s).congr rfl rfl rfl)

theorem repeatEdge_of_follower {level : Bool} (hrole : s.sync.role = 2) :
    (repeatEdge level s).sync.edges = s.sync.edges ++ [(s.clk.ns + 2, level)] := by
  unfold repeatEdge
  rw [hrole]
  rfl

/-- A MASTER's own pulse writes ANG_RINGDLY and the ring check alone (R75). -/
theorem ringReturn_frame (s : State) : Keeps [Reg.ANG_RINGDLY] s (ringReturn s) ∧ (ringReturn s).dom = s.dom ∧
    (ringReturn s).sync.inLevel = s.sync.inLevel ∧ (ringReturn s).sync.leadT = s.sync.leadT ∧ (ringReturn s).sync.wait = s.sync.wait := by
  have hsame : Keeps [Reg.ANG_RINGDLY] s s ∧ s.dom = s.dom ∧ s.sync.inLevel = s.sync.inLevel ∧ s.sync.leadT = s.sync.leadT ∧
    s.sync.wait = s.sync.wait := ⟨.refl _ s, rfl, rfl, rfl, rfl⟩
  unfold ringReturn
  split
  · split
    · have hput := ((Keeps.refl [Reg.ANG_RINGDLY] s).put (min (s.clk.ns - ‹_›) 65535) (f := F.ANG_RINGDLY_DLY) (.head _)).put 1
        (f := F.ANG_RINGDLY_VALID) (.head _)
      exact ⟨hput.congr rfl rfl rfl, rfl, rfl, rfl, rfl⟩
    · exact hsame
  · exact hsame

/-- A rising edge begins a pulse: its cycle is kept, an overwide pulse before it is over (R70). -/
theorem syncInEdge_rise (ht : t = syncInEdge true s) :
    t.sync.inLevel = true ∧ t.sync.leadT = s.clk.ns ∧ t.sync.wait = false ∧ t.dom = s.dom ∧ Keeps [Reg.ANG_RINGDLY] s t := by
  have hrun : ∃ u : State, u.dom = s.dom ∧ Keeps [Reg.ANG_RINGDLY] s u ∧ u.sync.inLevel = true ∧ u.sync.leadT = s.clk.ns ∧
      u.sync.wait = false ∧ syncInEdge true s = ringReturn u := by
    refine ⟨({ repeatEdge true s with sync := { (repeatEdge true s).sync with inLevel := true, leadT := s.clk.ns, wait := false } } : State).restart
      121 .syncPulseOverwidth, ?_, ?_, rfl, rfl, rfl, rfl⟩
    · exact repeatEdge_dom
    · exact repeatEdge_keeps.congr rfl rfl rfl
  obtain ⟨u, hdom, hkeeps, hlevel, hlead, hwait, hrun⟩ := hrun
  obtain ⟨hframe, hdom', hlevel', hlead', hwait'⟩ := ringReturn_frame u
  rw [hrun] at ht
  subst ht
  exact ⟨hlevel'.trans hlevel, hlead'.trans hlead, hwait'.trans hwait, hdom'.trans hdom, hkeeps.trans hframe⟩

/-- The falling edge of a pulse leads to its decision (R70). -/
theorem syncInEdge_fall (hwait : s.sync.wait = false) (hlevel : s.sync.inLevel = true) (ht : t = syncInEdge false s) :
    t.sync.inLevel = false ∧ (s.clk.ns, .syncPulse s.sync.leadT (s.clk.ns - s.sync.leadT)) ∈ t.timers ∧
      (s.sync.role = 2 → t.sync.edges = s.sync.edges ++ [(s.clk.ns + 2, false)]) ∧ Keeps [] s t := by
  have hrun : syncInEdge false s = (({ repeatEdge false s with sync := { (repeatEdge false s).sync with inLevel := false } } : State).cancel
      .syncPulseOverwidth).after 0 (.syncPulse s.sync.leadT (s.clk.ns - s.sync.leadT)) := if_neg (by rw [hwait, hlevel]; decide)
  rw [hrun] at ht
  subst ht
  refine ⟨rfl, ?_, fun hrole => ?_, repeatEdge_keeps.congr rfl rfl rfl⟩
  · exact State.mem_timers_after _ _ (congrArg Clk.ns repeatEdge_clk)
  · exact repeatEdge_of_follower hrole

/-- The cycle in which an edge at the ball, at `frac` / 64 ns of the present cycle, is detected once its level has held (R70). -/
def detectCycle (frac : Nat) (s : State) : Nat := (s.now64 + frac + s.get F.ANG_SYNCCTL_FILT * 64 + 128 + 63) / 64

theorem le_detectCycle (frac : Nat) (s : State) : s.clk.ns ≤ detectCycle frac s := by
  unfold detectCycle State.now64
  omega

/-- An edge at the ball with no detection under way waits for its own (R70). -/
theorem syncBall_edge {level : Bool} {frac : Nat} (hlevel : level ≠ s.sync.ball) (hidle : s.sync.detect = none) (ht : t = syncBall level frac s) :
    t.sync.ball = level ∧ t.sync.detect = some (detectCycle frac s) ∧ (detectCycle frac s, .syncInEdge ⟨level, none⟩) ∈ t.timers ∧
      t.sync.inLevel = s.sync.inLevel ∧ t.dom = s.dom ∧ NoLog s t ∧ Keeps [] s t := by
  have hrun : syncBall level frac s = ({ s with sync := { s.sync with
      ball := level, ballT := s.now64 + frac, detect := some (detectCycle frac s) } } : State).after
        (detectCycle frac s - s.clk.ns) (.syncInEdge ⟨level, none⟩) := by
    unfold syncBall
    dsimp only
    rw [if_neg hlevel, hidle]
    rfl
  rw [hrun] at ht
  subst ht
  exact ⟨rfl, rfl, State.mem_timers_after _ _ (Nat.add_sub_of_le (le_detectCycle frac s)), rfl, rfl, rfl, (Keeps.refl _ s).congr rfl rfl rfl⟩

/-- Settles O6, one clause for each event of the tracking and of the SYNC ring. -/
theorem angleTracking : Obligations.AngleTracking := by
  unfold Obligations.AngleTracking
  exact ⟨fun s d hstate => ⟨_, rfl, holdoverEnter_enters (refMissing_of_tracking hstate)⟩,
    fun s d hstate => ⟨_, rfl, lostEnter_enters hstate rfl⟩,
    fun s ticket arg hfresh hstate hsrc => ⟨_, rfl, reacquire_allows hfresh hstate hsrc rfl⟩,
    fun s ticket arg hfresh hstate hsrc => ⟨_, rfl, reacquire_acquires hfresh hstate hsrc rfl⟩,
    fun s hnew => ⟨_, rfl, ringOpen_reports hnew rfl⟩,
    fun s d hnew hrole hdoms => ⟨_, rfl, syncOverwidth_rejects hnew hrole hdoms rfl⟩,
    fun s d lead width hrole hmin hmax hdoms hstate hacq => ⟨_, rfl, syncPulse_first hrole hmin hmax hdoms hstate hacq rfl⟩,
    fun s => ⟨_, rfl, syncInEdge_rise rfl⟩,
    fun s hwait hlevel => ⟨_, rfl, syncInEdge_fall hwait hlevel rfl⟩,
    fun s level frac hlevel hidle => ⟨_, rfl, syncBall_edge hlevel hidle rfl⟩⟩

end Sys2Proof.Machine
end

section
/-!
PROOFS. Settings of a domain: enable, disable, source, rate, rail map, role of the ring, and the turn boundary that loads a rate (R42 to R50, R69).
-/
namespace Sys2Proof.Machine

variable {d : Fin 8} {v : Word} {s t : State}

/-! ## Fields of the settings -/

theorem fldOf_or (f : Fld) (v w : Word) : fldOf f (v ||| w) = fldOf f v ||| fldOf f w := by
  simp [fldOf, BitVec.toNat_or, Nat.or_div_two_pow, Nat.or_mod_two_pow]

theorem fldOf_and (f : Fld) (v w : Word) : fldOf f (v &&& w) = fldOf f v &&& fldOf f w := by
  simp [fldOf, BitVec.toNat_and, Nat.and_div_two_pow, Nat.and_mod_two_pow]

theorem angEn_fits : ∀ d : Fin 8, fldFits (F.ANGn_CTL_EN d) = true := by decide +kernel
theorem angSrc_fits : ∀ d : Fin 8, fldFits (F.ANGn_CTL_SRC d) = true := by decide +kernel
theorem rateh_fits : ∀ d : Fin 8, fldFits (F.ANGn_RATEH_RATEH d) = true := by decide +kernel
theorem meas_fits : ∀ d : Fin 8, fldFits (F.ANGn_MEAS_MEAS d) = true := by decide +kernel
theorem railmap_fits : ∀ r : Fin 4, fldFits (railmapFld r) = true := by decide +kernel
theorem state_apart_armed : ∀ d : Fin 8, fldApart (F.ANGn_STAT_ARMED d) (F.ANGn_STAT_STATE d) = true := by decide +kernel

/-- A write with EN set. -/
theorem angEn_or_one (d : Fin 8) (v : Word) : fldOf (F.ANGn_CTL_EN d) (v ||| 1) = 1 ∧ fldOf (F.ANGn_CTL_SRC d) (v ||| 1) = fldOf (F.ANGn_CTL_SRC d) v := by
  have hone : ∀ d : Fin 8, fldOf (F.ANGn_CTL_EN d) 1 = 1 ∧ fldOf (F.ANGn_CTL_SRC d) 1 = 0 := by decide
  obtain ⟨hen, hsrc⟩ := hone d
  have hbit : fldOf (F.ANGn_CTL_EN d) v < 2 := Nat.mod_lt _ (Nat.two_pow_pos _)
  rw [fldOf_or, fldOf_or, hen, hsrc, Nat.or_zero]
  refine ⟨?_, rfl⟩
  interval_cases fldOf (F.ANGn_CTL_EN d) v <;> rfl

/-- A write with EN clear. -/
theorem angEn_and_not_one (d : Fin 8) (v : Word) : fldOf (F.ANGn_CTL_EN d) (v &&& ~~~1) = 0 := by
  have hone : ∀ d : Fin 8, fldOf (F.ANGn_CTL_EN d) (~~~1) = 0 := by decide
  rw [fldOf_and, hone, Nat.and_zero]

/-! ## Rails of a domain -/

theorem railDom_eq (r : Fin 4) (s : State) : railDom r s = Fin.ofNat 8 (s.get (railmapFld r)) := by
  fin_cases r <;> rfl

/-- The rails of a domain follow from ANG_RAILMAP. -/
theorem Keeps.domRails {l : List Nat} (h : Keeps l s t) (hmap : Reg.ANG_RAILMAP ∉ l) (d : Fin 8) : domRails d t = domRails d s := by
  have hdom : ∀ r, railDom r t = railDom r s := fun r => by rw [railDom_eq, railDom_eq, h.get hmap]
  unfold Machine.domRails
  simp only [hdom]

/-- Whether a domain is in use follows from ANG_RAILMAP and the rails' EN. -/
theorem Keeps.domInUse {l : List Nat} (h : Keeps l s t) (hmap : Reg.ANG_RAILMAP ∉ l) (hctl : ∀ r : Fin 4, Reg.EDGEr_CTL r ∉ l) (d : Fin 8) :
    domInUse d t = domInUse d s := by
  have hen : ∀ r, railEn r t = railEn r s := fun r => h.on (hctl r)
  unfold Machine.domInUse
  rw [h.domRails hmap]
  simp only [hen]

/-! ## Enable and disable -/

@[simp] theorem showRate_dom : (showRate d s).dom = s.dom := rfl

theorem Keeps.showRate {l : List Nat} {u : State} (h : Keeps l s u) (hd : Reg.ANGn_MEAS d ∈ l) : Keeps l s (showRate d u) := h.hw _ hd

theorem get_state_put_armed (d : Fin 8) (n : Nat) (s : State) : (s.put (F.ANGn_STAT_ARMED d) n).get (F.ANGn_STAT_STATE d) = s.get (F.ANGn_STAT_STATE d) :=
  regGet_put_apart s.regs _ _ _ (state_apart_armed d)

/-- An enable writes ANGn_MEAS and ANGn_STAT, then the motors are watched (R48, R58). -/
theorem domEnable_eq (d : Fin 8) (s : State) : ∃ u, domEnable d s = motWatchAll u ∧ Keeps [Reg.ANGn_MEAS d, Reg.ANGn_STAT d] s u ∧
    dState d u = if s.get (F.ANGn_CTL_SRC d) = 0 then 1 else 2 := by
  refine ⟨_, rfl, ?_, ?_⟩
  · exact ((((Keeps.refl _ s).domUpd _ _).showRate (.head _)).put _ (f := F.ANGn_STAT_STATE d) (.tail _ (.head _))).put 0
      (f := F.ANGn_STAT_ARMED d) (.tail _ (.head _))
  · unfold dState
    rw [get_state_put_armed]
    refine (get_put_state d ?_ _).trans ?_ <;> split <;> decide

/-- The last committed rate is in force at once; the angle holds (R43, R48). -/
theorem domEnable_dom : (domEnable d s).dom[d].src = s.get (F.ANGn_CTL_SRC d) ∧
    (domEnable d s).dom[d].rate = (if s.get (F.ANGn_CTL_SRC d) ≤ 2 then (s.dom[d].committed : Int) else 0) ∧
    (domEnable d s).dom[d].acc = s.dom[d].acc := by
  unfold domEnable
  dsimp only
  rw [(motWatchAll_quiet _).dom, State.put_dom, State.put_dom, showRate_dom, domUpd_same]
  exact ⟨rfl, rfl, rfl⟩

/-- A disable writes ANGn_STAT, the motors are watched, and the domain drops what it waited for (R43, R58). -/
theorem domDisable_eq (d : Fin 8) (s : State) : ∃ u f, domDisable d s = domUpd d f (motWatchAll u) ∧ Keeps [Reg.ANGn_STAT d] s u ∧
    dState d u = 0 := by
  refine ⟨_, _, rfl, ?_, ?_⟩
  · exact ((Keeps.refl _ s).put 0 (f := F.ANGn_STAT_STATE d) (.head _)).put 0 (f := F.ANGn_STAT_ARMED d) (.head _)
  · exact (get_state_put_armed d 0 _).trans (get_put_state d (by decide) s)

theorem domDisable_dom : (domDisable d s).dom[d].armed = none ∧ (domDisable d s).dom[d].acc = s.dom[d].acc := by
  unfold domDisable
  rw [domUpd_same, (motWatchAll_quiet _).dom]
  exact ⟨rfl, rfl⟩

/-! ## ANGn_CTL -/

/-- What a write of ANGn_CTL stores where it is not refused, HOLDTO following SRC (R44, R57). -/
def angCtlStored (d : Fin 8) (v : Word) (s : State) : State :=
  let src := fldOf (F.ANGn_CTL_SRC d) v
  let w := if srcOk src then v else fldInto (F.ANGn_CTL_SRC d) (s.get (F.ANGn_CTL_SRC d)) v
  holdToDerive d ((s.wr (Reg.ANGn_CTL d) w).when (!srcOk src) (fun t => t.put F.ANG_FLT_BADSRC 1))

theorem angCtlWrite_of_taken (h : ¬ (domInUse d s = true ∧ (fldOf (F.ANGn_CTL_EN d) v = 0 ∨ (4 ≤ fldOf (F.ANGn_CTL_SRC d) v ∧
    srcOk (fldOf (F.ANGn_CTL_SRC d) v) = true)))) : angCtlWrite d v s =
      if fldOf (F.ANGn_CTL_EN d) v = 1 ∧ (!s.on (F.ANGn_CTL_EN d)) = true then domEnable d (angCtlStored d v s)
      else if fldOf (F.ANGn_CTL_EN d) v = 0 ∧ s.on (F.ANGn_CTL_EN d) = true then domDisable d (angCtlStored d v s) else angCtlStored d v s :=
  if_neg h

theorem Keeps.holdToDerive {l : List Nat} {u : State} (h : Keeps l s u) (hd : Reg.ANGn_WIN d ∈ l) : Keeps l s (holdToDerive d u) := by
  unfold Machine.holdToDerive
  split
  · exact h
  · exact h.hw _ hd

@[simp] theorem holdToDerive_dom : (holdToDerive d s).dom = s.dom := by
  unfold holdToDerive
  split <;> rfl

@[simp] theorem holdToDerive_log : (holdToDerive d s).log = s.log := by
  unfold holdToDerive
  split <;> rfl

/-- Whatever the write stores lies in ANGn_CTL, ANGn_WIN and ANG_FLT; EN is the written one (R44). -/
theorem angCtlStored_frame (d : Fin 8) (v : Word) (s : State) : Keeps [Reg.ANGn_CTL d, Reg.ANGn_WIN d, Reg.ANG_FLT] s (angCtlStored d v s) ∧
    (angCtlStored d v s).dom = s.dom ∧ (angCtlStored d v s).get (F.ANGn_CTL_EN d) = fldOf (F.ANGn_CTL_EN d) v := by
  have hrun : ∃ w bad, fldOf (F.ANGn_CTL_EN d) w = fldOf (F.ANGn_CTL_EN d) v ∧
      angCtlStored d v s = holdToDerive d ((s.wr (Reg.ANGn_CTL d) w).when bad (fun t => t.put F.ANG_FLT_BADSRC 1)) := by
    refine ⟨_, _, ?_, rfl⟩
    split
    · rfl
    · exact fldOf_fldInto_apart (by simp [F.ANGn_CTL_SRC]) (by simp [F.ANGn_CTL_SRC, F.ANGn_CTL_EN]) _ _
  obtain ⟨w, bad, hw, hrun⟩ := hrun
  have hafter : ∀ {l : List Nat} {u : State}, Keeps l u (s.wr (Reg.ANGn_CTL d) w) → Reg.ANGn_WIN d ∈ l → Reg.ANG_FLT ∈ l →
      Keeps l u (angCtlStored d v s) := fun h hwin hflt => hrun ▸ (h.when bad (h.put 1 (f := F.ANG_FLT_BADSRC) hflt)).holdToDerive hwin
  refine ⟨hafter ((Keeps.refl _ s).wr w (.head _)) (.tail _ (.head _)) (.tail _ (.tail _ (.head _))), ?_, ?_⟩
  · rw [hrun, holdToDerive_dom]
    cases bad <;> rfl
  · rw [(hafter (Keeps.refl [Reg.ANGn_WIN d, Reg.ANG_FLT] _) (.head _) (.tail _ (.head _))).get
      (by simp [F.ANGn_CTL_EN, Reg.ANGn_CTL, Reg.ANGn_WIN, Reg.ANG_FLT]; omega)]
    exact (State.get_wr_same (angEn_fits d) rfl s w).trans hw

/-- A listed SRC code is stored with the rest of the word (R44). -/
theorem angCtlStored_of_listed (h : fldOf (F.ANGn_CTL_SRC d) v ≤ 2) : angCtlStored d v s = holdToDerive d (s.wr (Reg.ANGn_CTL d) v) := by
  have hok : srcOk (fldOf (F.ANGn_CTL_SRC d) v) = true := by simp [srcOk, h]
  unfold angCtlStored
  dsimp only
  rw [hok]
  rfl

theorem angCtlStored_src (h : fldOf (F.ANGn_CTL_SRC d) v ≤ 2) :
    (angCtlStored d v s).get (F.ANGn_CTL_SRC d) = fldOf (F.ANGn_CTL_SRC d) v := by
  have hhold : Keeps [Reg.ANGn_WIN d] (s.wr (Reg.ANGn_CTL d) v) (holdToDerive d (s.wr (Reg.ANGn_CTL d) v)) :=
    (Keeps.refl _ _).holdToDerive (.head _)
  rw [angCtlStored_of_listed h, hhold.get (by simp [F.ANGn_CTL_SRC, Reg.ANGn_CTL, Reg.ANGn_WIN])]
  exact State.get_wr_same (angSrc_fits d) rfl s v

/-- A write that enables a domain with SRC INT, SYNC or APRAM (R44, R48, R58). -/
theorem angCtlWrite_enables (hoff : s.on (F.ANGn_CTL_EN d) = false) (hfree : domInUse d s = false) (hen : fldOf (F.ANGn_CTL_EN d) v = 1)
    (hsrc : fldOf (F.ANGn_CTL_SRC d) v ≤ 2) (ht : t = angCtlWrite d v s) :
    t.on (F.ANGn_CTL_EN d) = true ∧ t.get (F.ANGn_CTL_SRC d) = fldOf (F.ANGn_CTL_SRC d) v ∧ t.dom[d].src = fldOf (F.ANGn_CTL_SRC d) v ∧
      t.dom[d].rate = s.dom[d].committed ∧ t.dom[d].acc = s.dom[d].acc ∧ dState d t = (if fldOf (F.ANGn_CTL_SRC d) v = 0 then 1 else 2) ∧
        SameMem s t := by
  rw [angCtlWrite_of_taken (fun h => by rw [hfree] at h; exact absurd h.1 (by decide)), if_pos ⟨hen, by rw [hoff]; rfl⟩] at ht
  subst ht
  obtain ⟨hstored, hdom, hstoredEn⟩ := angCtlStored_frame d v s
  have hstoredSrc := angCtlStored_src (s := s) hsrc
  obtain ⟨u, hrun, hu, hstate⟩ := domEnable_eq d (angCtlStored d v s)
  obtain ⟨hdsrc, hdrate, hdacc⟩ := domEnable_dom (d := d) (s := angCtlStored d v s)
  have hwatch : SameDomRegs u (domEnable d (angCtlStored d v s)) := hrun ▸ motWatchAll_same_regs u
  have hctl : ∀ f : Fld, f.addr = Reg.ANGn_CTL d → (domEnable d (angCtlStored d v s)).get f = (angCtlStored d v s).get f := fun f hf => by
    rw [hwatch.get (hf ▸ domReg_ctl d), hu.get (by rw [hf]; simp [Reg.ANGn_CTL, Reg.ANGn_MEAS, Reg.ANGn_STAT])]
  rw [hstoredSrc] at hstate hdsrc hdrate
  rw [hdom] at hdrate hdacc
  rw [if_pos hsrc] at hdrate
  refine ⟨?_, (hctl _ rfl).trans hstoredSrc, hdsrc, hdrate, hdacc, (hwatch.get (domReg_stat d)).trans hstate,
    hstored.sameMem.trans (hu.sameMem.trans hwatch.mem)⟩
  unfold State.on
  rw [hctl _ rfl, hstoredEn, hen]
  rfl

/-- A write that disables a domain that no enabled rail uses (R43, R50, R58). -/
theorem angCtlWrite_disables (hon : s.on (F.ANGn_CTL_EN d) = true) (hfree : domInUse d s = false) (hen : fldOf (F.ANGn_CTL_EN d) v = 0)
    (ht : t = angCtlWrite d v s) :
    t.on (F.ANGn_CTL_EN d) = false ∧ dState d t = 0 ∧ t.dom[d].acc = s.dom[d].acc ∧ t.dom[d].armed = none ∧ SameMem s t := by
  rw [angCtlWrite_of_taken (fun h => by rw [hfree] at h; exact absurd h.1 (by decide)), if_neg (fun h => by omega), if_pos ⟨hen, hon⟩] at ht
  subst ht
  obtain ⟨hstored, hdom, hstoredEn⟩ := angCtlStored_frame d v s
  obtain ⟨u, f, hrun, hu, hstate⟩ := domDisable_eq d (angCtlStored d v s)
  obtain ⟨harmed, hdacc⟩ := domDisable_dom (d := d) (s := angCtlStored d v s)
  have hwatch : SameDomRegs u (domDisable d (angCtlStored d v s)) := hrun ▸ (motWatchAll_same_regs u).trans (domUpd_same_regs _ _ _)
  rw [hdom] at hdacc
  refine ⟨?_, (hwatch.get (domReg_stat d)).trans hstate, hdacc, harmed, hstored.sameMem.trans (hu.sameMem.trans hwatch.mem)⟩
  unfold State.on
  rw [hwatch.get (domReg_ctl d), hu.get (by simp [F.ANGn_CTL_EN, Reg.ANGn_CTL, Reg.ANGn_STAT]), hstoredEn, hen]
  rfl

/-- A write that leaves a domain enabled stores its SRC, which waits for the boundary (R44). -/
theorem angCtlWrite_waits (hon : s.on (F.ANGn_CTL_EN d) = true) (hen : fldOf (F.ANGn_CTL_EN d) v = 1)
    (hsrc : fldOf (F.ANGn_CTL_SRC d) v ≤ 2) (ht : t = angCtlWrite d v s) :
    t.get (F.ANGn_CTL_SRC d) = fldOf (F.ANGn_CTL_SRC d) v ∧ t.dom = s.dom ∧ NoLog s t ∧ Keeps [Reg.ANGn_CTL d, Reg.ANGn_WIN d] s t := by
  rw [angCtlWrite_of_taken (fun h => by omega), if_neg (fun h => by rw [hon] at h; exact absurd h.2 (by decide)), if_neg (fun h => by omega)] at ht
  subst ht
  refine ⟨angCtlStored_src hsrc, ?_, ?_, ?_⟩ <;> rw [angCtlStored_of_listed hsrc]
  · exact holdToDerive_dom
  · exact congrArg LogSt.reqs holdToDerive_log
  · exact ((Keeps.refl _ s).wr v (.head _)).holdToDerive (.tail _ (.head _))

/-- The Trio's write of ANGn_CTL is the domain's control write; EN and SRC are open at either level (R11, R44). -/
theorem busWrite_angCtl (hon : slotOn (Reg.ANGn_CTL d) s = true) (v : Word) : ∃ w u, WriteBegins s u ∧
    fldOf (F.ANGn_CTL_EN d) w = fldOf (F.ANGn_CTL_EN d) v ∧ fldOf (F.ANGn_CTL_SRC d) w = fldOf (F.ANGn_CTL_SRC d) v ∧
      busWrite .trio (Reg.ANGn_CTL d) v 0 s = angCtlWrite d w u := by
  have hbasic : ∀ d : Fin 8, basicField (F.ANGn_CTL_EN d) angCtlRow = true ∧ basicField (F.ANGn_CTL_SRC d) angCtlRow = true := by decide
  obtain ⟨hen, hsrc⟩ := hbasic d
  refine ⟨_, _, countAttempt_begins angCtlRow (Reg.ANGn_CTL d) v s, fldOf_writtenWord_basic hen (s.expertAt (Reg.ANGn_CTL d)) v (s.rd (Reg.ANGn_CTL d)),
    fldOf_writtenWord_basic hsrc _ v _, ?_⟩
  rw [busWrite_angle (angFields_angCtl d) hon (mayWrite_of_basic (by decide) _), writeAngle_angCtl]

theorem WriteBegins.angEn {u : State} (h : WriteBegins s u) (d : Fin 8) : u.on (F.ANGn_CTL_EN d) = s.on (F.ANGn_CTL_EN d) :=
  h.keeps.on (by simp [F.ANGn_CTL_EN, Reg.ANGn_CTL, Reg.SYS_IGNWR]; omega)

theorem WriteBegins.domInUse {u : State} (h : WriteBegins s u) (d : Fin 8) : domInUse d u = domInUse d s :=
  h.keeps.domInUse (by decide) (fun r => by simp [Reg.EDGEr_CTL, Reg.SYS_IGNWR]; omega) d

/-! ## Rates -/

/-- What a rate write that is in range stores: FREQ, and at Basic level the rate derived from it (R46). -/
def freqStored (d : Fin 8) (v : Word) (s : State) : State :=
  let s1 := s.wr (Reg.ANGn_FREQ d) v
  if s.on F.ANG_CTL_EXPERT then s1
  else (s1.put (F.ANGn_RATEL_RATEL d) (rateOfFreq v.toNat)).put (F.ANGn_RATEH_RATEH d) (rateOfFreq v.toNat / 2 ^ 32)

theorem freqWrite_of_good (h : rateBad d v.toNat 16 s = false) : freqWrite d v s = commitRate d (rateOfFreq v.toNat) (freqStored d v s) := by
  unfold freqWrite
  rw [if_neg (by rw [h]; decide)]
  rfl

theorem freqStored_after {l : List Nat} {u : State} (h : Keeps l u (s.wr (Reg.ANGn_FREQ d) v)) (hl : Reg.ANGn_RATEL d ∈ l)
    (hh : Reg.ANGn_RATEH d ∈ l) : Keeps l u (freqStored d v s) := by
  unfold freqStored
  dsimp only
  split
  · exact h
  · exact (h.put _ (f := F.ANGn_RATEL_RATEL d) hl).put _ (f := F.ANGn_RATEH_RATEH d) hh

@[simp] theorem freqStored_dom : (freqStored d v s).dom = s.dom := by
  unfold freqStored
  dsimp only
  split <;> rfl

@[simp] theorem freqStored_sync : (freqStored d v s).sync = s.sync := by
  unfold freqStored
  dsimp only
  split <;> rfl

@[simp] theorem freqStored_log : (freqStored d v s).log = s.log := by
  unfold freqStored
  dsimp only
  split <;> rfl

@[simp] theorem freqStored_clk : (freqStored d v s).clk = s.clk := by
  unfold freqStored
  dsimp only
  split <;> rfl

/-- A rate committed to an enabled domain that does not follow the ring waits for its turn boundary (R27, R48). -/
theorem commitRate_of_enabled (hen : s.on (F.ANGn_CTL_EN d) = true) (hsrc : s.dom[d].src ≤ 2) (hring : ringFollower d s = false) (rate : Nat) :
    commitRate d rate s = domUpd d (fun x => { x with
      pendRate := (rate, s.clk.ns) :: (x.pendRate.filter (fun p => p.2 < s.clk.ns)).take 1, fixAt := s.clk.ns })
        (domUpd d (fun x => { x with committed := rate }) s) := by
  have hangle : ¬ 4 ≤ s.dom[d].src := by omega
  unfold commitRate
  dsimp only
  rw [if_neg (by rw [hen, decide_eq_false hangle]; decide), if_neg (by rw [hring]; decide)]

/-- A rate is committed: it shows in ANGn_STAT at most and leaves the working rate (R48, R72). -/
structure Commits (d : Fin 8) (rate : Nat) (s t : State) : Prop where
  committed : t.dom[d].committed = rate
  rate : t.dom[d].rate = s.dom[d].rate
  log : t.log = s.log
  keeps : Keeps [Reg.ANGn_STAT d] s t

theorem commitRate_commits (d : Fin 8) (rate : Nat) (s : State) : Commits d rate s (commitRate d rate s) := by
  have hcommit : Commits d rate s (domUpd d (fun x => { x with committed := rate }) s) :=
    ⟨by rw [domUpd_same], by rw [domUpd_same], rfl, (Keeps.refl _ s).domUpd _ _⟩
  unfold commitRate
  dsimp only
  split
  · exact hcommit
  · split
    · exact ⟨by rw [State.put_dom, domUpd_same, domUpd_same], by rw [State.put_dom, domUpd_same, domUpd_same], rfl,
        (hcommit.keeps.domUpd _ _).put 1 (f := F.ANGn_STAT_ARMED d) (.head _)⟩
    · exact ⟨by rw [domUpd_same, domUpd_same], by rw [domUpd_same, domUpd_same], rfl, hcommit.keeps.domUpd _ _⟩

/-- A FREQ in range is stored and committed; the rate waits for the turn boundary (R46, R48). -/
theorem freqWrite_commits (hgood : rateBad d v.toNat 16 s = false) (hen : s.on (F.ANGn_CTL_EN d) = true) (hsrc : s.dom[d].src ≤ 2)
    (hring : ringFollower d s = false) (ht : t = freqWrite d v s) :
    t.rd (Reg.ANGn_FREQ d) = v ∧ t.dom[d].committed = rateOfFreq v.toNat ∧ t.dom[d].pendRate.head? = some (rateOfFreq v.toNat, s.clk.ns) ∧
      t.dom[d].rate = s.dom[d].rate ∧ NoLog s t ∧ Keeps [Reg.ANGn_FREQ d, Reg.ANGn_RATEL d, Reg.ANGn_RATEH d] s t := by
  have hfull : ∀ d : Fin 8, implMask (Reg.ANGn_FREQ d) = BitVec.allOnes 32 := by decide +kernel
  have hstored : Keeps [Reg.ANGn_FREQ d, Reg.ANGn_RATEL d, Reg.ANGn_RATEH d] s (freqStored d v s) :=
    freqStored_after ((Keeps.refl _ s).wr v (.head _)) (.tail _ (.head _)) (.tail _ (.tail _ (.head _)))
  have hshown : Keeps [Reg.ANGn_RATEL d, Reg.ANGn_RATEH d] (s.wr (Reg.ANGn_FREQ d) v) (freqStored d v s) :=
    freqStored_after (.refl _ _) (.head _) (.tail _ (.head _))
  have hen' : (freqStored d v s).on (F.ANGn_CTL_EN d) = true :=
    (hstored.on (by simp [F.ANGn_CTL_EN, Reg.ANGn_CTL, Reg.ANGn_FREQ, Reg.ANGn_RATEL, Reg.ANGn_RATEH])).trans hen
  have hring' : ringFollower d (freqStored d v s) = false := by
    unfold ringFollower at hring ⊢
    rwa [freqStored_dom, freqStored_sync]
  rw [freqWrite_of_good hgood, commitRate_of_enabled hen' (by rwa [freqStored_dom]) hring'] at ht
  subst ht
  rw [domUpd_same, domUpd_same, freqStored_dom, freqStored_clk]
  refine ⟨?_, rfl, rfl, rfl, congrArg LogSt.reqs freqStored_log, (hstored.domUpd _ _).domUpd _ _⟩
  rw [domUpd_rd, domUpd_rd, hshown.rd (by simp [Reg.ANGn_FREQ, Reg.ANGn_RATEL, Reg.ANGn_RATEH]), State.rd_wr_same, hfull, BitVec.and_allOnes]

/-- A FREQ out of range is refused, flagged and logged (R47, R76). -/
theorem freqWrite_refuses (hbad : rateBad d v.toNat 16 s = true) (ht : t = freqWrite d v s) :
    t.get F.ANG_FLT_FRANGE = 1 ∧ t.dom = s.dom ∧ Logged 0x02 0x0004 (b8 d :: bytesOfNat 2 (Reg.ANGn_FREQ d % 65536)) s t ∧ Keeps [Reg.ANG_FLT] s t := by
  have hrun : freqWrite d v s = angRefuse d (Reg.ANGn_FREQ d) F.ANG_FLT_FRANGE s := if_pos hbad
  have hfits : fldFits F.ANG_FLT_FRANGE = true := by decide +kernel
  rw [hrun] at ht
  subst ht
  exact ⟨State.get_put_of_lt hfits (by decide) s, rfl, rfl, ((Keeps.refl _ s).put 1 (f := F.ANG_FLT_FRANGE) (.head _)).logReq _ _ _⟩

/-- The level of an address in the ANGLE slot is ANG_CTL.EXPERT (R14). -/
theorem expertAt_angle {a : Nat} (ha : a / 65536 = 0x4002) (s : State) : s.expertAt a = s.on F.ANG_CTL_EXPERT := by
  have hbase : slotBase a = Reg.ANG_CTL := by unfold slotBase; rw [ha]; rfl
  have hbit : (s.rd Reg.ANG_CTL).getLsbD 31 = (s.get F.ANG_CTL_EXPERT).testBit 0 := by
    unfold State.get
    rw [fldOf_bit]
    rfl
  have hlt : s.get F.ANG_CTL_EXPERT < 2 := Nat.mod_lt _ (by decide)
  unfold State.expertAt State.on
  rw [hbase, if_neg (by decide), hbit]
  interval_cases s.get F.ANG_CTL_EXPERT <;> rfl

/-- A RATEH in range is stored and commits the pair of which it is the upper half (R48). -/
theorem ratehWrite_commits {n : Nat} (hv : fldOf (F.ANGn_RATEH_RATEH d) v = n)
    (hgood : rateRangeBad d (n * 2 ^ 32 + s.get (F.ANGn_RATEL_RATEL d)) s = false) (ht : t = ratehWrite d v s) :
    t.get (F.ANGn_RATEH_RATEH d) = n ∧ t.dom[d].committed = n * 2 ^ 32 + s.get (F.ANGn_RATEL_RATEL d) ∧ t.dom[d].rate = s.dom[d].rate ∧
      NoLog s t ∧ Keeps [Reg.ANGn_RATEH d, Reg.ANGn_STAT d] s t := by
  subst hv
  have hrun : ratehWrite d v s = commitRate d (fldOf (F.ANGn_RATEH_RATEH d) v * 2 ^ 32 + s.get (F.ANGn_RATEL_RATEL d)) (s.wr (Reg.ANGn_RATEH d) v) :=
    if_neg (by rw [hgood]; decide)
  rw [hrun] at ht
  subst ht
  obtain ⟨hcommitted, hrate, hlog, hkeeps⟩ := commitRate_commits d
    (fldOf (F.ANGn_RATEH_RATEH d) v * 2 ^ 32 + s.get (F.ANGn_RATEL_RATEL d)) (s.wr (Reg.ANGn_RATEH d) v)
  refine ⟨?_, hcommitted, hrate, congrArg LogSt.reqs hlog, ?_⟩
  · rw [hkeeps.get (by simp [F.ANGn_RATEH_RATEH, Reg.ANGn_RATEH, Reg.ANGn_STAT])]
    exact State.get_wr_same (rateh_fits d) rfl s v
  · exact ((Keeps.refl _ s).wr v (.head _)).trans (hkeeps.mono (List.subset_cons_self _ _))

/-- In Expert mode the Trio's write of ANGn_RATEH is open and no attempt (R15, R48). -/
theorem busWrite_rateh (hon : slotOn (Reg.ANGn_RATEH d) s = true) (hexpert : s.on F.ANG_CTL_EXPERT = true) (v : Word) :
    ∃ w, fldOf (F.ANGn_RATEH_RATEH d) w = v.toNat % 2 ^ 16 ∧
      busWrite .trio (Reg.ANGn_RATEH d) v 0 s = ratehWrite d w { s with busErr := false } := by
  have hwritable : ∀ d : Fin 8, fldWithin (F.ANGn_RATEH_RATEH d) (ratehRow.rw ||| ratehRow.rwl) = true := by decide
  have hslot : Reg.ANGn_RATEH d / 65536 = 0x4002 := by unfold Reg.ANGn_RATEH; omega
  have hlevel : s.expertAt (Reg.ANGn_RATEH d) = true := (expertAt_angle hslot s).trans hexpert
  have hopen : shutBits ratehRow (s.expertAt (Reg.ANGn_RATEH d)) = 0 := by rw [hlevel]; rfl
  have hlow : fldOf (F.ANGn_RATEH_RATEH d) v = v.toNat % 2 ^ 16 := by simp [fldOf, F.ANGn_RATEH_RATEH]
  refine ⟨_, (fldOf_writtenWord (level := true) (hwritable d) (fun h => absurd h (by decide)) v (s.rd (Reg.ANGn_RATEH d))).trans hlow, ?_⟩
  rw [busWrite_angle (angFields_rateh d) hon (by rw [hopen]; decide), writeAngle_rateh,
    countAttempt_of_open (s := { s with busErr := false }) hopen, hlevel]

/-! ## ANG_RAILMAP and ANG_SYNCCTL -/

/-- A rail map that binds every rail to a domain that may take it is stored (R49). -/
theorem railmapWrite_binds (hgood : ∀ r : Fin 4, s.get (F.ANGn_CTL_SRC (fldOf (railmapFld r) v)) < 4 ∧
      s.dom[Fin.ofNat 8 (fldOf (railmapFld r) v)].src < 4 ∧ (railEn r s = true → Fin.ofNat 8 (fldOf (railmapFld r) v) = railDom r s))
    (ht : t = railmapWrite v s) :
    t.rd Reg.ANG_RAILMAP = v &&& 0x7777 ∧ (∀ r : Fin 4, railDom r t = Fin.ofNat 8 (fldOf (railmapFld r) v)) ∧ NoLog s t ∧
      Keeps [Reg.ANG_RAILMAP] s t := by
  have hrun : railmapWrite v s = s.wr Reg.ANG_RAILMAP v := by
    unfold railmapWrite
    dsimp only
    split
    · rename_i r hfault
      obtain ⟨hsrc, hforce, hbound⟩ := hgood r
      have hlt : fldOf (railmapFld r) v < 8 := Nat.mod_lt _ (Nat.two_pow_pos 3)
      have hval : (Fin.ofNat 8 (fldOf (railmapFld r) v)).val = fldOf (railmapFld r) v := Nat.mod_eq_of_lt hlt
      have hbad := List.find?_some hfault
      rw [hval, decide_eq_false (Nat.not_le.mpr hsrc), decide_eq_false (Nat.not_le.mpr hforce)] at hbad
      simp only [Bool.and_false, Bool.or_false, Bool.false_or, Bool.and_eq_true, decide_eq_true_eq] at hbad
      exact absurd (hbound hbad.left) hbad.right
    · rfl
  have hmask : implMask Reg.ANG_RAILMAP = 0x7777 := by decide +kernel
  rw [hrun] at ht
  subst ht
  refine ⟨by rw [State.rd_wr_same, hmask], fun r => ?_, rfl, (Keeps.refl _ s).wr v (.head _)⟩
  rw [railDom_eq, State.get_wr_same (a := Reg.ANG_RAILMAP) (railmap_fits r) rfl]

/-- A role written while SYNC_OUT is low and has no edge to make is in force at once (R69). -/
theorem syncCtlWrite_loads (hlow : s.sync.out = false) (hidle : s.sync.edges = []) (ht : t = syncCtlWrite v s) :
    t.get F.ANG_SYNCCTL_ROLE = fldOf F.ANG_SYNCCTL_ROLE v ∧ t.sync.role = fldOf F.ANG_SYNCCTL_ROLE v ∧ t.dom = s.dom ∧ NoLog s t ∧
      Keeps [Reg.ANG_SYNCCTL] s t := by
  have hfits : fldFits F.ANG_SYNCCTL_ROLE = true := by decide +kernel
  have hrole : (s.wr Reg.ANG_SYNCCTL v).get F.ANG_SYNCCTL_ROLE = fldOf F.ANG_SYNCCTL_ROLE v := State.get_wr_same hfits rfl s v
  have hrun : syncCtlWrite v s = { s.wr Reg.ANG_SYNCCTL v with sync := { s.sync with role := (s.wr Reg.ANG_SYNCCTL v).get F.ANG_SYNCCTL_ROLE } } :=
    if_pos (by rw [State.wr_sync, hlow, hidle]; rfl)
  rw [hrun] at ht
  subst ht
  exact ⟨hrole, hrole, rfl, rfl, ((Keeps.refl _ s).wr v (.head _)).congr rfl rfl rfl⟩

/-- The Trio's write of ANG_SYNCCTL is the ring's control write; ROLE is open at either level (R11, R69). -/
theorem busWrite_syncCtl (hon : slotOn Reg.ANG_SYNCCTL s = true) (v : Word) : ∃ w u, WriteBegins s u ∧
    fldOf F.ANG_SYNCCTL_ROLE w = fldOf F.ANG_SYNCCTL_ROLE v ∧ busWrite .trio Reg.ANG_SYNCCTL v 0 s = syncCtlWrite w u := by
  refine ⟨_, _, countAttempt_begins syncCtlRow Reg.ANG_SYNCCTL v s,
    fldOf_writtenWord_basic (r := syncCtlRow) (by decide) (s.expertAt Reg.ANG_SYNCCTL) v (s.rd Reg.ANG_SYNCCTL), ?_⟩
  rw [busWrite_angle angFields_syncCtl hon (mayWrite_of_basic (by decide) _), writeAngle_syncCtl]

/-! ## The turn boundary -/


/-- A rate that takes force is the working rate; nothing else that firmware sees but ANGn_MEAS changes (R48). -/
theorem setRate_dom (d : Fin 8) (rate : Int) (s : State) : (setRate d rate s).dom[d].rate = rate ∧
    (setRate d rate s).dom[d].src = s.dom[d].src ∧ (setRate d rate s).dom[d].acc = s.dom[d].acc := by
  unfold setRate
  rw [showRate_dom, domUpd_same]
  exact ⟨rfl, rfl, rfl⟩

theorem Keeps.setRate {l : List Nat} {u : State} (h : Keeps l s u) (rate : Int) (hd : Reg.ANGn_MEAS d ∈ l) : Keeps l s (setRate d rate u) :=
  (h.domUpd _ _).showRate hd

/-- What ANGn_MEAS shows after a rate has taken force: RATE_I of a tracking domain, else the rate (log entry 43). -/
theorem setRate_meas (d : Fin 8) (rate : Int) (s : State) : (setRate d rate s).get (F.ANGn_MEAS_MEAS d) =
    ofSigned 32 (freqOfRate (if s.dom[d].src = 1 ∨ s.dom[d].src = 2 then s.dom[d].rateI else rate)) := by
  unfold setRate showRate
  rw [State.putI_eq, domUpd_same]
  exact State.get_put_of_lt (meas_fits d) (BitVec.isLt _) _

/-- A committed rate whose write completed before the boundary loads there (R27, R48). -/
theorem rateLoad_of_ready {rate t0 : Nat} (hmaster : ringMaster d s = false) (hchg : s.dom[d].chgIn ≠ 1) (hpend : s.dom[d].pendRate = [(rate, t0)])
    (hpast : t0 < s.clk.ns) (mark : BitVec 56) : rateLoad d mark s =
      (domUpd d (fun y => { y with chgIn := y.chgIn - 1, pendRate := [] }) (domUpd d (fun y => { y with nextRate := none }) (setRate d rate s)), false) := by
  have hready : readyRate d s.clk.ns s = some rate := by
    unfold readyRate
    rw [hpend, List.find?_cons_of_pos (by simpa using hpast)]
    rfl
  have hdue : dueRate d s.clk.ns s = some rate := by
    unfold dueRate
    dsimp only
    rw [hmaster, if_neg Bool.false_ne_true, if_neg hchg, hready]
    rfl
  have hlate : s.dom[d].pendRate.filter (fun p => decide (s.clk.ns ≤ p.2)) = [] := by
    rw [hpend, List.filter_cons_of_neg (by simpa using hpast)]
    rfl
  unfold rateLoad
  dsimp only
  rw [hdue, hmaster, if_neg Bool.false_ne_true, if_neg (fun h => hchg h.1), hlate]

theorem srcLoad_of_same (h : s.get (F.ANGn_CTL_SRC d) = s.dom[d].src) : srcLoad d s = s := if_pos h

theorem masterPulse_of_follower (h : ringMaster d s = false) (change wrap : Bool) : masterPulse d change wrap s = s := if_pos (by rw [h]; rfl)

/-- The rates of the turns begun, once the present rate's turn is among them (R55). -/
def nextTurnRates (x : Domain) : List Nat :=
  if x.awaited then (x.turnRates ++ [x.rate.toNat]).take 17 else (x.turnRates ++ [x.rate.toNat]).drop (x.turnRates.length - 1)

/-- Where no source and no pulse is due and no rail is bound, a boundary loads the rate alone, and the turn that begins is recorded (R48, R55). -/
theorem boundaryLoads_of_rate {w : State} {change : Bool} {mark : BitVec 56} (hload : rateLoad d mark s = (w, change))
    (hsrc : w.get (F.ANGn_CTL_SRC d) = w.dom[d].src) (hmaster : ringMaster d w = false) (hrails : domRails d w = []) (wrap : Bool) :
    boundaryLoads d mark wrap s = domUpd d (fun x => { x with turnRates := nextTurnRates x }) w := by
  have hrails' : ∀ f, domRails d (domUpd d f w) = [] := fun _ => hrails
  unfold boundaryLoads
  dsimp only
  rw [hload]
  dsimp only
  rw [srcLoad_of_same hsrc, masterPulse_of_follower hmaster, hrails', State.each_nil]
  rfl

/-- The loads of a boundary at which nothing but a committed rate is due, in a domain with no rail (R48). -/
theorem boundaryLoads_of_ready {rate t0 : Nat} (hrails : domRails d s = []) (hsrc : s.get (F.ANGn_CTL_SRC d) = s.dom[d].src)
    (hmaster : ringMaster d s = false) (hchg : s.dom[d].chgIn ≠ 1) (hpend : s.dom[d].pendRate = [(rate, t0)]) (hpast : t0 < s.clk.ns)
    {mark : BitVec 56} {wrap : Bool} (ht : t = boundaryLoads d mark wrap s) :
    t.dom[d].rate = rate ∧ t.dom[d].pendRate = [] ∧ t.dom[d].acc = s.dom[d].acc ∧ t.evm = s.evm ∧
      t.get (F.ANGn_MEAS_MEAS d) = ofSigned 32 (freqOfRate (if s.dom[d].src = 1 ∨ s.dom[d].src = 2 then s.dom[d].rateI else rate)) ∧ NoLog s t ∧
      Keeps [Reg.ANGn_MEAS d] s t := by
  obtain ⟨hrate, hdsrc, hacc⟩ := setRate_dom d rate s
  have hset : Keeps [Reg.ANGn_MEAS d] s (setRate d rate s) := (Keeps.refl _ s).setRate _ (.head _)
  have hctl : (setRate d rate s).get (F.ANGn_CTL_SRC d) = (setRate d rate s).dom[d].src := by
    rw [hset.get (by simp [F.ANGn_CTL_SRC, Reg.ANGn_CTL, Reg.ANGn_MEAS]), hdsrc, hsrc]
  have hring : ringMaster d (setRate d rate s) = false := by
    have hmdom : (setRate d rate s).get F.ANG_SYNCCTL_MDOM = s.get F.ANG_SYNCCTL_MDOM :=
      hset.get (by simp [F.ANG_SYNCCTL_MDOM, Reg.ANG_SYNCCTL, Reg.ANGn_MEAS]; omega)
    unfold ringMaster at hmaster ⊢
    rw [hmdom]
    exact hmaster
  have hbound : domRails d (setRate d rate s) = [] :=
    (hset.domRails (by simp [Reg.ANG_RAILMAP, Reg.ANGn_MEAS]; omega) d).trans hrails
  have hrun := boundaryLoads_of_rate (rateLoad_of_ready hmaster hchg hpend hpast mark)
    (by rw [domUpd_get, domUpd_get, hctl, domUpd_same, domUpd_same]) hring hbound wrap
  rw [hrun] at ht
  subst ht
  rw [domUpd_same, domUpd_same, domUpd_same]
  exact ⟨hrate, rfl, hacc, rfl, setRate_meas d rate s, rfl, ((hset.domUpd _ _).domUpd _ _).domUpd _ _⟩

/-- A turn boundary fires the domain's turn-start source and loads a rate that is due (R42, R48, R61). -/
theorem turnBoundary_loads {rate t0 : Nat} (hen : s.on (F.ANGn_CTL_EN d) = true) (hrails : domRails d s = [])
    (hsrc : s.get (F.ANGn_CTL_SRC d) = s.dom[d].src) (hmaster : ringMaster d s = false) (hlabel : s.dom[d].relabel = false)
    (hchg : s.dom[d].chgIn ≠ 1) (hpend : s.dom[d].pendRate = [(rate, t0)]) (hpast : t0 < s.clk.ns) (ht : t = turnBoundary d s) :
    t.dom[d].rate = rate ∧ t.dom[d].pendRate = [] ∧ t.dom[d].acc = s.dom[d].acc ∧ t.evm = (s.fire (72 + d.val)).evm ∧
      t.get (F.ANGn_MEAS_MEAS d) = ofSigned 32 (freqOfRate (if s.dom[d].src = 1 ∨ s.dom[d].src = 2 then s.dom[d].rateI else rate)) ∧ NoLog s t ∧
      Keeps [Reg.EVM_FAST, Reg.ANGn_MEAS d] s t := by
  have hquiet : Quiet (fun a => a = Reg.EVM_FAST) s (s.fire (72 + d.val)) := (Quiet.refl _ s).fire _ rfl
  have hfire : Keeps [Reg.EVM_FAST] s (s.fire (72 + d.val)) := (Keeps.refl _ s).fire _ (.head _)
  have hget : ∀ f : Fld, f.addr ≠ Reg.EVM_FAST → (s.fire (72 + d.val)).get f = s.get f := fun f hf => hfire.get (by simpa using hf)
  have hkeep : ∀ n, relabelled d n (s.fire (72 + d.val)) = s.fire (72 + d.val) := fun n => by
    unfold relabelled
    rw [hquiet.dom, hlabel, State.when_false]
  have hrun : turnBoundary d s = boundaryLoads d (turnMark (newTurn d (s.fire (72 + d.val)))) (newTurn d (s.fire (72 + d.val)) == 0)
      (s.fire (72 + d.val)) := by
    unfold turnBoundary
    rw [if_pos hen]
    dsimp only
    rw [hkeep]
  rw [hrun] at ht
  have hmaster' : ringMaster d (s.fire (72 + d.val)) = false := by
    unfold ringMaster at hmaster ⊢
    rwa [hquiet.sync, hget _ (by decide)]
  obtain ⟨hrate, hdone, hacc, hevm, hmeas, hlog, hkeeps⟩ := boundaryLoads_of_ready ((hfire.domRails (by decide) d).trans hrails)
    (by rw [hget _ (by simp [F.ANGn_CTL_SRC, Reg.ANGn_CTL, Reg.EVM_FAST]; omega), hquiet.dom, hsrc]) hmaster' (by rwa [hquiet.dom])
    (by rwa [hquiet.dom]) (by rwa [hquiet.clk]) ht
  rw [hquiet.dom] at hacc hmeas
  exact ⟨hrate, hdone, hacc, hevm, hmeas, hlog.trans (congrArg LogSt.reqs (fire_log _)),
    (hfire.mono (by simp)).trans (hkeeps.mono (by simp))⟩

/-- Settles O7, one clause for each setting of a domain; the three control writes are cases of one write of ANGn_CTL. -/
theorem angleSettings : Obligations.AngleSettings := by
  unfold Obligations.AngleSettings
  refine ⟨fun s d v hon hoff hfree hsrc => ⟨_, rfl, ?enable⟩, fun s d v hon hen hfree => ⟨_, rfl, ?disable⟩,
    fun s d v hon hen hv hsrc => ⟨_, rfl, ?source⟩, fun s d v hgood hen hsrc hring => ⟨_, rfl, freqWrite_commits hgood hen hsrc hring rfl⟩,
    fun s d v hbad => ⟨_, rfl, freqWrite_refuses hbad rfl⟩, fun s d v hon hexpert hgood => ⟨_, rfl, ?rateh⟩,
    fun s v hgood => ⟨_, rfl, railmapWrite_binds hgood rfl⟩, fun s v hon hlow hidle => ⟨_, rfl, ?role⟩,
    fun s d v t0 hen hrails hsrc hmaster hlabel hchg hpend hpast =>
      ⟨_, rfl, turnBoundary_loads hen hrails hsrc hmaster hlabel hchg hpend hpast rfl⟩⟩
  case enable =>
    obtain ⟨w, u, hbegin, hwen, hwsrc, hrun⟩ := busWrite_angCtl hon (v ||| 1)
    obtain ⟨hone, hkept⟩ := angEn_or_one d v
    obtain ⟨hen, hstored, hdsrc, hrate, hacc, hstate, hmem⟩ := angCtlWrite_enables ((hbegin.angEn d).trans hoff) ((hbegin.domInUse d).trans hfree)
      (hwen.trans hone) (by rwa [hwsrc, hkept]) hrun
    rw [hwsrc, hkept] at hstored hdsrc hstate
    rw [hbegin.dom] at hrate hacc
    exact ⟨hen, hstored, hdsrc, hrate, hacc, hstate, hbegin.keeps.sameMem.trans hmem⟩
  case disable =>
    obtain ⟨w, u, hbegin, hwen, -, hrun⟩ := busWrite_angCtl hon (v &&& ~~~1)
    obtain ⟨hoff, hstate, hacc, harmed, hmem⟩ := angCtlWrite_disables ((hbegin.angEn d).trans hen) ((hbegin.domInUse d).trans hfree)
      (hwen.trans (angEn_and_not_one d v)) hrun
    rw [hbegin.dom] at hacc
    exact ⟨hoff, hstate, hacc, harmed, hbegin.keeps.sameMem.trans hmem⟩
  case source =>
    obtain ⟨w, u, hbegin, hwen, hwsrc, hrun⟩ := busWrite_angCtl hon v
    obtain ⟨hstored, hdom, hlog, hkeeps⟩ := angCtlWrite_waits ((hbegin.angEn d).trans hen) (hwen.trans hv) (by rwa [hwsrc]) hrun
    exact ⟨hstored.trans hwsrc, hdom.trans hbegin.dom, hlog.trans (congrArg LogSt.reqs hbegin.log),
      (hbegin.keeps.mono (by simp)).trans (hkeeps.mono (by simp))⟩
  case rateh =>
    obtain ⟨w, hw, hrun⟩ := busWrite_rateh hon hexpert v
    exact ratehWrite_commits (s := { s with busErr := false }) hw hgood hrun
  case role =>
    obtain ⟨w, u, hbegin, hwrole, hrun⟩ := busWrite_syncCtl hon v
    obtain ⟨hrole, hforce, hdom, hlog, hkeeps⟩ := syncCtlWrite_loads (hbegin.sync ▸ hlow) (hbegin.sync ▸ hidle) hrun
    have hcode : fldOf F.ANG_SYNCCTL_ROLE w = v.toNat % 4 := hwrole.trans (by simp [fldOf, F.ANG_SYNCCTL_ROLE])
    exact ⟨hrole.trans hcode, hforce.trans hcode, hdom.trans hbegin.dom, hlog.trans (congrArg LogSt.reqs hbegin.log),
      (hbegin.keeps.mono (by simp)).trans (hkeeps.mono (by simp))⟩

end Sys2Proof.Machine
end

section
/-!
PROOFS. The rotation of slices: a lane swap in a bank that has noted no spare (R78, R82, R83).
-/
namespace Sys2Proof.Machine

/-- The M-bank at a lane swap with no spare noted: slice 0, the candidate, serves M-lane 0, and index 15 stands for none (R82, R83). -/
def swapWithoutSpare : State :=
  let s := State.reset
  { s with gath := { s.gath with mbank := { prevC := 2, stage := .swap, cand := 0, spare := 15 } } }

/-- A lane of the M-bank holds two bits, so that the swap maps it to slice 3, which the bank does not have (R78). -/
theorem lane_gLaneSwap_swapWithoutSpare : (gLaneSwap 2 swapWithoutSpare).get (gLaneFld 2 0) = 3 := by decide +kernel

/-- Refutes O9: LANE_SWAP gives an M-lane the two low bits of the spare's index, and an index below 16 need not be one of the bank's three slices.
In a bank that has noted no spare (15) the lane then shows slice 3. -/
theorem not_gatherRotation : ¬ Obligations.GatherRotation := by
  unfold Obligations.GatherRotation
  rintro ⟨-, -, -, -, -, -, hswap, -⟩
  have hserved : gLaneOf 2 (gBank 2 swapWithoutSpare).cand swapWithoutSpare = some 0 := by decide +kernel
  obtain ⟨t, hrun, -, -, -, hlane, -⟩ := hswap swapWithoutSpare 2 0 rfl (Nat.le_refl 0) hserved (by decide)
  obtain rfl : gLaneSwap 2 swapWithoutSpare = t := Host.Outcome.next.inj hrun
  rw [lane_gLaneSwap_swapWithoutSpare] at hlane
  exact absurd hlane (by decide)

end Sys2Proof.Machine
end

section
/-!
PROOFS. The sequencers of the Gather array: the end of an entry past the list (R96, R97).
-/
namespace Sys2Proof.Machine

/-- Sequencer 0 runs at entry 32, which its list of 32 entries does not have: the word there is GSQ0_RES[0], whose bits 30 to 28 are read as KIND 1,
with the one sample that AVG 0 asks for (R96). -/
def entryPastList : State :=
  let s := ((State.reset.put (F.GSQn_CTL_EN 0) 1).put (F.GSQn_STAT_BUSY 0) 1).wr (Reg.GSQn_RESe 0 0) 0x10000000
  { s with gath := { s.gath with seq := updAt s.gath.seq 0 fun q => { q with entry := 32, count := 1 } } }

/-- The result of entry 32 falls on GSQ1_CTL, which has no VALID bit (R97). -/
theorem valid_seqEntryEnd_entryPastList : (seqEntryEnd 0 (seqLevel 0 none entryPastList)).get (F.GSQn_RESe_VALID 0 32) = 0 := by decide +kernel

/-- Refutes O10: the clause on the end of an entry excludes entry 31 alone, and a sequencer at entry 32 has no result register to show VALID in. -/
theorem not_gatherSequencers : ¬ Obligations.GatherSequencers := by
  unfold Obligations.GatherSequencers
  rintro ⟨-, -, hend, -⟩
  have hbusy : entryPastList.on (F.GSQn_STAT_BUSY 0) = true := by decide +kernel
  have hen : entryPastList.on (F.GSQn_CTL_EN 0) = true := by decide +kernel
  have hlast : fldOf (F.GSQn_ENTe_LAST 0 0) (entryPastList.rd (Reg.GSQn_ENTe 0 32)) = 0 := by decide +kernel
  have hkind : fldOf (F.GSQn_ENTe_KIND 0 0) (entryPastList.rd (Reg.GSQn_ENTe 0 32)) = 1 := by decide +kernel
  have hcount : 1 = 2 ^ fldOf (F.GSQn_ENTe_AVG 0 0) (entryPastList.rd (Reg.GSQn_ENTe 0 32)) := by decide +kernel
  obtain ⟨t, hrun, hvalid, -⟩ := hend entryPastList 0 none hbusy hen rfl hlast (by decide) hkind hcount
  obtain rfl : seqEntryEnd 0 (seqLevel 0 none entryPastList) = t := Host.Outcome.next.inj hrun
  exact absurd (hvalid.symm.trans valid_seqEntryEnd_entryPastList) (by decide)

end Sys2Proof.Machine
end

section
/-!
PROOFS. The input guards: a saturation in the cycle of a stop (R101, R132, R151).
-/
namespace Sys2Proof.Machine

/-- Rail 0 has been stopped in the present cycle, out of PREBIAS: its detectors are idle, and a fault found in this cycle is still declared
(R135, R151). -/
def stoppedThisCycle : State :=
  let s := State.reset.put (F.MRVr_STAT_STATE 0) mSTOPPED
  { s with prot := updAt s.prot 0 fun q => { q with stopIn := some s.clk.ns, stopM := mPREBIAS } }

/-- The saturation's own entry is followed by the declaration of fault 8 (R101, R132). -/
theorem log_vSaturation_stoppedThisCycle : (vSaturation 0 true stoppedThisCycle).log.reqs.length = 2 := by decide +kernel

/-- Refutes O17: with detector 8 idle a saturation is still declared as fault 8 where the rail was stopped in the same cycle, so that V_SATURATION
makes two log entries and not one. -/
theorem not_samples : ¬ Obligations.Samples := by
  unfold Obligations.Samples
  rintro ⟨-, -, -, hsat, -⟩
  have hidle : detAct 0 8 stoppedThisCycle = false := by decide +kernel
  obtain ⟨t, hrun, -, hlog, -⟩ := hsat stoppedThisCycle 0 hidle
  obtain rfl : vSaturation 0 true stoppedThisCycle = t := Host.Outcome.next.inj hrun
  have hone := congrArg List.length hlog
  rw [log_vSaturation_stoppedThisCycle] at hone
  exact absurd hone (by decide)

end Sys2Proof.Machine
end

section
/-!
PROOFS. The outputs of the phases: turning a phase on and off, resting and blanking touch the phases and their timers alone (R122, R125, R170 to R176).
-/
namespace Sys2Proof.Machine

variable {s t u : State}

/-! ## Updates of one phase and of one rail -/

theorem phUpd_same (s : State) (p : Fin 32) (f : Phase → Phase) : (phUpd p f s).phase[p] = f s.phase[p] := updAt_same _ _ _
theorem mrvUpd_same (s : State) (r : Fin 4) (f : Mrv → Mrv) : (mrvUpd r f s).mrv[r] = f s.mrv[r] := updAt_same _ _ _
theorem protUpd_same (s : State) (r : Fin 4) (f : Prot → Prot) : (protUpd r f s).prot[r] = f s.prot[r] := updAt_same _ _ _

/-! ## The frame -/

/-- Nothing but the phases and the timers differs. -/
def PhasesOnly (s t : State) : Prop := ∃ ph q, t = { s with phase := ph, timers := q }

theorem PhasesOnly.refl (s : State) : PhasesOnly s s := ⟨s.phase, s.timers, rfl⟩

theorem PhasesOnly.trans (h : PhasesOnly s t) (k : PhasesOnly t u) : PhasesOnly s u := by
  obtain ⟨ph, q, rfl⟩ := h
  obtain ⟨ph', q', rfl⟩ := k
  exact ⟨ph', q', rfl⟩

theorem PhasesOnly.phUpd (h : PhasesOnly s t) (p : Fin 32) (f : Phase → Phase) : PhasesOnly s (phUpd p f t) := h.trans ⟨_, t.timers, rfl⟩
theorem PhasesOnly.cancel (h : PhasesOnly s t) (c : Instr) : PhasesOnly s (t.cancel c) := h.trans ⟨t.phase, _, rfl⟩
theorem PhasesOnly.after (h : PhasesOnly s t) (n : Nat) (c : Instr) : PhasesOnly s (t.after n c) := h.trans ⟨t.phase, _, rfl⟩
theorem PhasesOnly.restart (h : PhasesOnly s t) (n : Nat) (c : Instr) : PhasesOnly s (t.restart n c) := (h.cancel c).after n c

theorem PhasesOnly.ite {c : Prop} [Decidable c] (h : PhasesOnly s t) (k : PhasesOnly s u) : PhasesOnly s (if c then t else u) := by
  split
  · exact h
  · exact k

theorem PhasesOnly.each {α : Type} (h : PhasesOnly s t) (l : List α) {f : α → State → State} (hf : ∀ x v, PhasesOnly v (f x v)) :
    PhasesOnly s (t.each l f) :=
  h.trans (State.each_rel PhasesOnly .refl (fun _ _ _ => .trans) l f hf t)

section
variable (h : PhasesOnly s t)
include h

theorem PhasesOnly.get (f : Fld) : t.get f = s.get f := by obtain ⟨ph, q, rfl⟩ := h; rfl
theorem PhasesOnly.on (f : Fld) : t.on f = s.on f := congrArg (· != 0) (h.get f)
theorem PhasesOnly.lv (f : Fld) : t.lv f = s.lv f := by obtain ⟨ph, q, rfl⟩ := h; rfl
theorem PhasesOnly.log : t.log = s.log := by obtain ⟨ph, q, rfl⟩ := h; rfl
theorem PhasesOnly.mrv : t.mrv = s.mrv := by obtain ⟨ph, q, rfl⟩ := h; rfl
theorem PhasesOnly.prot : t.prot = s.prot := by obtain ⟨ph, q, rfl⟩ := h; rfl
theorem PhasesOnly.edge : t.edge = s.edge := by obtain ⟨ph, q, rfl⟩ := h; rfl
theorem PhasesOnly.active (r : Fin 4) : active r t = active r s := by obtain ⟨ph, q, rfl⟩ := h; rfl
theorem PhasesOnly.keeps (l : List Nat) : Keeps l s t := by obtain ⟨ph, q, rfl⟩ := h; exact (Keeps.refl l s).congr rfl rfl rfl

end

/-! ## Operations on a phase -/

variable (r : Fin 4) (p : Fin 32) (t64 : Nat) (s)

theorem phaseOffAt_phasesOnly : PhasesOnly s (phaseOffAt r p t64 s) :=
  have hoff := ((PhasesOnly.refl s).cancel (.offEdge p)).cancel (.gloryGlmaxRelease p)
  .ite ((hoff.phUpd _ _).restart _ _) (hoff.phUpd _ _)

theorem phaseOffMinOn_phasesOnly : PhasesOnly s (phaseOffMinOn r p s) :=
  .ite ((((PhasesOnly.refl s).cancel _).phUpd _ _).restart _ _) (phaseOffAt_phasesOnly s r p _)

theorem settle_phasesOnly : PhasesOnly s (settle r p s) := .ite (.refl s) ((PhasesOnly.refl s).phUpd _ _)

theorem fallAt_phasesOnly : PhasesOnly s (fallAt r p t64 s) :=
  have hrest := (phaseOffAt_phasesOnly s r p t64).trans (settle_phasesOnly _ r p)
  .ite (hrest.phUpd _ _) hrest

theorem fall_phasesOnly : PhasesOnly s (fall r p s) := fallAt_phasesOnly s r p _

theorem restOne_phasesOnly : PhasesOnly s (restOne r p s) :=
  have hrefl := PhasesOnly.refl s
  .ite hrefl (.ite (hrefl.phUpd _ _) (.ite hrefl (hrefl.phUpd _ _)))

theorem blankOne_phasesOnly : PhasesOnly s (blankOne r p s) :=
  .ite (.refl s) (.ite (.ite (phaseOffMinOn_phasesOnly s r p) (fall_phasesOnly s r p)) (.ite (restOne_phasesOnly s r p) (.refl s)))

theorem unblankOne_phasesOnly : PhasesOnly s (unblankOne r p s) := .ite (.refl s) ((PhasesOnly.refl s).phUpd _ _)

theorem forceEnd_phasesOnly : PhasesOnly s (forceEnd r p s) := .ite (fall_phasesOnly s r p) (.refl s)

theorem forceEndAll_phasesOnly : PhasesOnly s (forceEndAll r s) := (PhasesOnly.refl s).each _ fun p v => forceEnd_phasesOnly v r p

theorem gloryKick_phasesOnly : PhasesOnly s (gloryKick r s) := .ite ((PhasesOnly.refl s).after _ _) (.refl s)

variable {r p s}

/-- A HIGH phase that turns off at an instant: LOW, and its minimum off-time from there on (R172). -/
theorem phaseOffAt_phase_of_high (hhigh : s.phase[p].out = .high) : (phaseOffAt r p t64 s).phase[p] = { s.phase[p] with
    out := .low, offT := none, stretch := false, offPending := false, minOff := true, minOffT := t64 + 64 * minOff r s, forced := false } := by
  unfold phaseOffAt
  dsimp only
  rw [if_pos hhigh]
  exact phUpd_same _ _ _

/-- The fall of an active phase, with no blanking, is its turning off and no more (R176). -/
theorem fall_of_active (hact : (active r s).contains p = true) (hblank : s.on (F.MRVr_STAT_OVBLK r) = false) :
    fall r p s = phaseOffAt r p s.now64 s := by
  have hsettle : settle r p (phaseOffAt r p s.now64 s) = phaseOffAt r p s.now64 s :=
    if_pos (.inl (by rw [(phaseOffAt_phasesOnly s r p s.now64).active]; exact hact))
  unfold fall fallAt
  dsimp only
  rw [hsettle, if_neg (fun h => by rw [hblank] at h; exact absurd h.1 (by decide))]

end Sys2Proof.Machine
end

section
/-!
PROOFS. Glory's episodes and overshoot blanking: the window comparators, the walker, the releases (R92, R93, R121, R122, R123, R125).
-/
namespace Sys2Proof.Machine

variable {r : Fin 4} {p : Fin 32} {s t u : State}

/-! ## Fields after a put and a count -/

theorem State.on_put_one {f : Fld} (hf : fldFits f = true) (hw : f.width = 1) (s : State) : (s.put f 1).on f = true := by
  unfold State.on
  rw [State.get_put_of_lt hf (by rw [hw]; decide)]
  rfl

theorem State.on_put_zero {f : Fld} (hf : fldFits f = true) (s : State) : (s.put f 0).on f = false := by
  unfold State.on
  rw [State.get_put_of_lt hf (Nat.two_pow_pos _)]
  rfl

theorem State.get_put_apart {f g : Fld} (h : fldApart f g = true) (v : Nat) (s : State) : (s.put f v).get g = s.get g := regGet_put_apart _ _ _ _ h

theorem State.on_put_apart {f g : Fld} (h : fldApart f g = true) (v : Nat) (s : State) : (s.put f v).on g = s.on g :=
  congrArg (· != 0) (State.get_put_apart h v s)

theorem State.get_inc_ne {f g : Fld} (h : g.addr ≠ f.addr) (k : Nat) (s : State) : (s.inc f k).get g = s.get g :=
  congrArg (fldOf g) (s.rd_hw_ne _ _ _ h)

theorem State.on_inc_ne {f g : Fld} (h : g.addr ≠ f.addr) (k : Nat) (s : State) : (s.inc f k).on g = s.on g :=
  congrArg (· != 0) (State.get_inc_ne h k s)

/-- A bit just cleared reads as clear. -/
theorem State.bit_putBit_false {f : Fld} (hf : fldFits f = true) (i : Nat) (s : State) : (s.putBit f i false).bit f i = false := by
  have hget : (s.putBit f i false).get f = (s.get f - (if (s.get f).testBit i then 2 ^ i else 0)) % 2 ^ f.width := s.get_put_same f _ (fldOk_of_fits f hf)
  unfold State.bit
  rw [hget, Nat.testBit_mod_two_pow, Bool.and_eq_false_iff]
  right
  split
  next hset =>
    have hdiv : (s.get f - 2 ^ i) / 2 ^ i = s.get f / 2 ^ i - 1 := by simpa using Nat.sub_mul_div (s.get f) (2 ^ i) 1
    rw [Nat.testBit_eq_decide_div_mod_eq, decide_eq_true_eq] at hset
    rw [Nat.testBit_eq_decide_div_mod_eq, hdiv, decide_eq_false_iff_not]
    omega
  next hclear => rwa [Nat.sub_zero, ← Bool.not_eq_true]

theorem Keeps.inc {l : List Nat} (h : Keeps l s t) {f : Fld} (k : Nat) (hf : f.addr ∈ l) : Keeps l s (t.inc f k) := h.hw _ hf

theorem Keeps.mrvUpd {l : List Nat} (h : Keeps l s t) (r : Fin 4) (f : Mrv → Mrv) : Keeps l s (mrvUpd r f t) := h.congr rfl rfl rfl

theorem Keeps.protUpd {l : List Nat} (h : Keeps l s t) (r : Fin 4) (f : Prot → Prot) : Keeps l s (protUpd r f t) := h.congr rfl rfl rfl

theorem Keeps.restart {l : List Nat} (h : Keeps l s t) (n : Nat) (c : Instr) : Keeps l s (t.restart n c) := h.congr rfl rfl rfl

theorem Keeps.phases {l : List Nat} (h : Keeps l s t) (k : PhasesOnly t u) : Keeps l s u := h.trans (k.keeps l)

theorem mrvUpd_get (r : Fin 4) (f : Mrv → Mrv) (s : State) (x : Fld) : (mrvUpd r f s).get x = s.get x := rfl
theorem mrvUpd_on (r : Fin 4) (f : Mrv → Mrv) (s : State) (x : Fld) : (mrvUpd r f s).on x = s.on x := rfl

/-! ## The comparators' registers (R93) -/

/-- The fields that show and count a comparator's output: its level and its flag are bits of one register, its count has one of its own. -/
def cmpFields (now seen cnt : Fld) : Bool :=
  fldFits now && fldFits seen && fldFits cnt && fldApart seen now && now.width == 1 && seen.width == 1 && cnt.addr != now.addr && seen.addr == now.addr

theorem cmpFields_uv : ∀ r : Fin 4, cmpFields (F.GATH_CMPr_STAT_UVNOW r) (F.GATH_CMPr_STAT_UVSEEN r) (F.GATH_CMPr_CNT_UVCNT r) = true := by
  decide +kernel
theorem cmpFields_ov : ∀ r : Fin 4, cmpFields (F.GATH_CMPr_STAT_OVNOW r) (F.GATH_CMPr_STAT_OVSEEN r) (F.GATH_CMPr_CNT_OVCNT r) = true := by
  decide +kernel
theorem uvNow_fits : ∀ r : Fin 4, fldFits (F.GATH_CMPr_STAT_UVNOW r) = true := by decide +kernel
theorem ovNow_fits : ∀ r : Fin 4, fldFits (F.GATH_CMPr_STAT_OVNOW r) = true := by decide +kernel
theorem glact_fits : ∀ r : Fin 4, fldFits (F.MRVr_STAT_GLACT r) = true := by decide +kernel
theorem ovblk_fits : ∀ r : Fin 4, fldFits (F.MRVr_STAT_OVBLK r) = true := by decide +kernel
theorem glcntEp_fits : ∀ r : Fin 4, fldFits (F.MRVr_GLCNT_EP r) = true := by decide +kernel
theorem protCond_fits : ∀ r : Fin 4, fldFits (F.PROTr_STAT_COND r) = true := by decide +kernel

theorem cmpStat_notMem_mrvStat (r : Fin 4) : Reg.GATH_CMPr_STAT r ∉ [Reg.MRVr_STAT r] := by revert r; decide
theorem mrvStat_notMem_cmp (r : Fin 4) : Reg.MRVr_STAT r ∉ [Reg.GATH_CMPr_STAT r, Reg.GATH_CMPr_CNT r] := by revert r; decide

/-- A comparator's output is shown, flagged and counted (R93). -/
def cmpShown (now seen cnt : Fld) (s : State) : State := ((s.put now 1).put seen 1).inc cnt

theorem cmpShown_shows {now seen cnt : Fld} (h : cmpFields now seen cnt = true) (s : State) :
    (cmpShown now seen cnt s).on now = true ∧ (cmpShown now seen cnt s).on seen = true ∧
      (cmpShown now seen cnt s).get cnt = satInc cnt.width (s.get cnt) 1 := by
  simp only [cmpFields, Bool.and_eq_true, beq_iff_eq, bne_iff_ne] at h
  obtain ⟨⟨⟨⟨⟨⟨⟨hnow, hseen⟩, hcnt⟩, hapart⟩, hnow1⟩, hseen1⟩, hne⟩, hsame⟩ := h
  refine ⟨?_, ?_, ?_⟩
  · exact (State.on_inc_ne hne.symm 1 _).trans ((State.on_put_apart hapart 1 _).trans (State.on_put_one hnow hnow1 s))
  · exact (State.on_inc_ne (hsame ▸ hne.symm) 1 _).trans (State.on_put_one hseen hseen1 _)
  · refine (State.get_inc_same hcnt _ 1).trans ?_
    rw [State.get_put_ne _ _ _ _ (hsame ▸ hne), State.get_put_ne _ _ _ _ hne]

/-! ## Episodes (R121, R123) -/

/-- Whether an episode can exist follows from MRVr_STAT.STATE and the low hold (R121). -/
theorem gloryCond_congr (hstat : t.get (F.MRVr_STAT_STATE r) = s.get (F.MRVr_STAT_STATE r)) (hedge : t.edge = s.edge) :
    gloryCond r t = gloryCond r s := by
  unfold gloryCond mRunning mState
  rw [hstat, hedge]

theorem gloryStart_of_barred (h : gloryCond r s = false) : gloryStart r s = s := by
  unfold gloryStart
  rw [h]
  rfl

theorem gloryStep_of_idle (h : s.mrv[r].glory.active = false) : gloryStep r s = s := by
  unfold gloryStep
  rw [h]
  rfl

/-- An episode starts: it is shown, and keeps the cycle of its undershoot (R121). -/
theorem gloryStart_starts (hcond : gloryCond r s = true) (hnow : s.on (F.GATH_CMPr_STAT_UVNOW r) = true) (hidle : s.mrv[r].glory.active = false) :
    (gloryStart r s).mrv[r].glory.active = true ∧ (gloryStart r s).mrv[r].glory.start = s.mrv[r].glory.start ∧
      (gloryStart r s).on (F.MRVr_STAT_GLACT r) = true ∧ Keeps [Reg.MRVr_STAT r] s (gloryStart r s) := by
  have hrun : ∃ f v, (∀ m : Mrv, (f m).glory.active = true ∧ (f m).glory.start = m.glory.start) ∧ PhasesOnly (mrvUpd r f s) v ∧
      gloryStart r s = (v.put (F.MRVr_STAT_GLACT r) 1).restart 0 (.gloryWalkerStep r) := by
    refine ⟨_, _, fun m => ?_, (PhasesOnly.refl _).each (railList r _) fun p w => (PhasesOnly.refl w).phUpd p fun h => { h with wasForced := false },
      if_pos (by rw [hcond, hnow, hidle]; rfl)⟩
    exact ⟨rfl, rfl⟩
  obtain ⟨f, v, hf, hv, hrun⟩ := hrun
  have hglory : (gloryStart r s).mrv[r] = f s.mrv[r] := by
    rw [hrun]
    exact (congrArg (·[r]) hv.mrv).trans (mrvUpd_same s r f)
  refine ⟨by rw [hglory]; exact (hf _).1, by rw [hglory]; exact (hf _).2, ?_, ?_⟩ <;> rw [hrun]
  · exact State.on_put_one (glact_fits r) rfl v
  · exact ((((Keeps.refl _ s).mrvUpd r f).phases hv).put 1 (f := F.MRVr_STAT_GLACT r) (.head _)).restart _ _

/-- The end of an episode: the hold starts and EP counts (R123). -/
theorem gloryEnd_ends (hact : s.mrv[r].glory.active = true) (ht : t = gloryEnd r s) :
    t.mrv[r].glory.active = false ∧ t.get (F.MRVr_STAT_GLACT r) = 0 ∧ t.mrv[r].glory.hold = s.lv (F.MRVr_GL_GLHOLD r) ∧
      t.get (F.MRVr_GLCNT_EP r) = satInc (F.MRVr_GLCNT_EP r).width (s.get (F.MRVr_GLCNT_EP r)) 1 ∧
        Keeps [Reg.MRVr_GLCNT r, Reg.MRVr_STAT r] s t := by
  unfold gloryEnd at ht
  rw [if_pos hact] at ht
  subst ht
  have hcount : ∀ r : Fin 4, (F.MRVr_GLCNT_EP r).addr ≠ (F.MRVr_STAT_GLACT r).addr := by decide
  have hcounted : Keeps [Reg.MRVr_GLCNT r, Reg.MRVr_STAT r] s (s.inc (F.MRVr_GLCNT_EP r)) := (Keeps.refl _ s).inc 1 (.head _)
  unfold gloryStop
  rw [mrvUpd_same]
  refine ⟨rfl, State.get_put_of_lt (glact_fits r) (Nat.two_pow_pos _) _, ?_, ?_, ?_⟩
  · exact congrArg (·.glory.hold) (mrvUpd_same _ r _)
  · exact (State.get_put_ne _ _ _ _ (hcount r)).trans (State.get_inc_same (glcntEp_fits r) s 1)
  · exact ((((hcounted.logReq _ _ _).cancel _).mrvUpd r _).put 0 (f := F.MRVr_STAT_GLACT r) (.tail _ (.head _))).mrvUpd r _

/-! ## The walker (R121) -/

/-- What every step of the walker leaves: the episode and its start, the registers, memory and the queue. -/
structure SameEpisode (r : Fin 4) (s t : State) : Prop where
  active : t.mrv[r].glory.active = s.mrv[r].glory.active
  start : t.mrv[r].glory.start = s.mrv[r].glory.start
  keeps : Keeps [] s t

theorem SameEpisode.refl (r : Fin 4) (s : State) : SameEpisode r s s := ⟨rfl, rfl, .refl _ s⟩

theorem SameEpisode.trans (h : SameEpisode r s t) (k : SameEpisode r t u) : SameEpisode r s u :=
  ⟨k.active.trans h.active, k.start.trans h.start, h.keeps.trans k.keeps⟩

theorem SameEpisode.phases (h : SameEpisode r s t) (k : PhasesOnly t u) : SameEpisode r s u :=
  h.trans ⟨by rw [k.mrv], by rw [k.mrv], k.keeps _⟩

theorem SameEpisode.mrvUpd (h : SameEpisode r s t) {f : Mrv → Mrv} (hact : ∀ m, (f m).glory.active = m.glory.active)
    (hstart : ∀ m, (f m).glory.start = m.glory.start) : SameEpisode r s (mrvUpd r f t) :=
  h.trans ⟨by rw [mrvUpd_same, hact], by rw [mrvUpd_same, hstart], (Keeps.refl _ t).mrvUpd r f⟩

/-- The phases and timers of a phase that the walker forces, before the engine counts it (R121). -/
theorem forceOn_eq (r : Fin 4) (p : Fin 32) (s : State) : ∃ v, forceOn r p s =
    mrvUpd r (fun m => { m with glory := { m.glory with forced := m.glory.forced + 1 } }) v ∧ PhasesOnly s v ∧
      v.phase[p].forced = true ∧ v.phase[p].out = .high ∧
        (s.clk.ns + zeroAsOne (s.lv (F.MRVr_GL_GLMAX r)) * 2, .gloryGlmaxRelease p) ∈ v.timers := by
  refine ⟨_, rfl, (((PhasesOnly.refl s).phUpd p _).cancel _).restart _ _, ?_, ?_, ?_⟩
  · exact congrArg Phase.forced (phUpd_same s p _)
  · exact congrArg Phase.out (phUpd_same s p _)
  · exact State.mem_timers_after _ _ rfl

theorem forceOn_sameEpisode (r : Fin 4) (p : Fin 32) (s : State) : SameEpisode r s (forceOn r p s) := by
  obtain ⟨v, hrun, hv, -⟩ := forceOn_eq r p s
  rw [hrun]
  exact ((SameEpisode.refl r s).phases hv).mrvUpd (fun _ => rfl) (fun _ => rfl)

theorem gloryWalk_sameEpisode (elig : List (Fin 32)) (n left : Nat) (s : State) : SameEpisode r s (gloryWalk r elig n left s) := by
  induction n generalizing left s with
  | zero => cases left <;> exact .refl r s
  | succ n ih =>
    cases left with
    | zero => exact .refl r s
    | succ left =>
      have hpos : SameEpisode r s (mrvUpd r (fun m => { m with glory := { m.glory with pos := s.mrv[r].glory.pos % elig.length + 1 } }) s) :=
        (SameEpisode.refl r s).mrvUpd (fun _ => rfl) (fun _ => rfl)
      unfold gloryWalk
      dsimp only
      split
      · exact .refl r s
      · split
        · exact .refl r s
        · split
          · exact hpos.trans (ih _ _)
          · split
            · refine .trans (hpos.mrvUpd ?_ ?_) (ih _ _) <;> exact fun _ => rfl
            · split
              · exact (hpos.trans (forceOn_sameEpisode r _ _)).trans (ih _ _)
              · exact (hpos.trans (forceOn_sameEpisode r _ _)).phases ((PhasesOnly.refl _).restart _ _)

theorem gloryStep_sameEpisode (r : Fin 4) (s : State) : SameEpisode r s (gloryStep r s) := by
  have hwalk : ∀ elig : List (Fin 32), SameEpisode r s
      (if elig.isEmpty then s else gloryWalk r elig (elig.length * (elig.length + 1)) elig.length s) := fun elig => by
    split
    · exact .refl r s
    · exact gloryWalk_sameEpisode elig _ _ s
  unfold gloryStep
  split
  · exact .refl r s
  · exact hwalk _

/-- A walker that stands at a phase it can force, with a stagger, forces it and waits (R121). -/
theorem gloryWalk_forces {elig : List (Fin 32)} {n left : Nat}
    (hroom : forcedCount r s < clampNat (s.lv (F.MRVr_GL_GLN r)) 1 24) (hpos : elig[s.mrv[r].glory.pos % elig.length]? = some p)
    (hnew : s.phase[p].wasForced = false) (hheld : s.phase[p].held = none) (hready : s.phase[p].minOff = false) (hfree : limitHolds r p s = false)
    (hstag : s.lv (F.MRVr_GL_GLSTAG r) ≠ 0) : gloryWalk r elig (n + 1) (left + 1) s =
      (forceOn r p (mrvUpd r (fun m => { m with glory := { m.glory with pos := s.mrv[r].glory.pos % elig.length + 1 } }) s)).restart
        (s.lv (F.MRVr_GL_GLSTAG r)) (.gloryWalkerStep r) := by
  unfold gloryWalk
  dsimp only
  rw [if_neg (Nat.not_le.mpr hroom), hpos]
  dsimp only
  rw [hnew, hheld, hready, hfree]
  exact if_neg hstag

end Sys2Proof.Machine
end

section
/-!
PROOFS. Undershoot and overshoot of a rail: the comparators' commands, the walker's and the end of a forced phase (R92, R93, R121 to R125, R132).
-/
namespace Sys2Proof.Machine

variable {r : Fin 4} {p : Fin 32} {s t : State}

/-! ## Undershoot -/

/-- An undershoot is shown, counted and timed (R93, R121). -/
def uvShown (r : Fin 4) (s : State) : State :=
  mrvUpd r (fun m => { m with glory := { m.glory with start := s.clk.ns } })
    (cmpShown (F.GATH_CMPr_STAT_UVNOW r) (F.GATH_CMPr_STAT_UVSEEN r) (F.GATH_CMPr_CNT_UVCNT r) s)

theorem uvShown_mrv (r : Fin 4) (s : State) : (uvShown r s).mrv[r] = { s.mrv[r] with glory := { s.mrv[r].glory with start := s.clk.ns } } :=
  mrvUpd_same _ _ _

/-- The comparator's registers show the undershoot. -/
theorem uvShown_shows (r : Fin 4) (s : State) : (uvShown r s).on (F.GATH_CMPr_STAT_UVNOW r) = true ∧
    (uvShown r s).on (F.GATH_CMPr_STAT_UVSEEN r) = true ∧
      (uvShown r s).get (F.GATH_CMPr_CNT_UVCNT r) = satInc (F.GATH_CMPr_CNT_UVCNT r).width (s.get (F.GATH_CMPr_CNT_UVCNT r)) 1 := by
  unfold uvShown
  rw [mrvUpd_on, mrvUpd_on, mrvUpd_get]
  exact cmpShown_shows (cmpFields_uv r) s

theorem uvShown_log (r : Fin 4) (s : State) : (uvShown r s).log = s.log := rfl

theorem uvShown_edge (r : Fin 4) (s : State) : (uvShown r s).edge = s.edge := rfl

theorem uvShown_keeps (r : Fin 4) (s : State) : Keeps [Reg.GATH_CMPr_STAT r, Reg.GATH_CMPr_CNT r] s (uvShown r s) :=
  ((((Keeps.refl _ s).put 1 (f := F.GATH_CMPr_STAT_UVNOW r) (.head _)).put 1 (f := F.GATH_CMPr_STAT_UVSEEN r) (.head _)).inc 1
    (f := F.GATH_CMPr_CNT_UVCNT r) (.tail _ (.head _))).mrvUpd r _

theorem uvShown_gloryCond (r : Fin 4) (s : State) : gloryCond r (uvShown r s) = gloryCond r s :=
  gloryCond_congr ((uvShown_keeps r s).get (mrvStat_notMem_cmp r)) (uvShown_edge r s)

/-- An undershoot that is new on an enabled rail starts an episode where it may, and its walker steps at once (R93, R121). -/
theorem uvAssert_of_new (hen : s.on (F.GATH_CMPr_CTL_UVEN r) = true) (hrail : railEn r s = true) (hnew : s.on (F.GATH_CMPr_STAT_UVNOW r) = false) :
    uvAssert r s = gloryStep r ((gloryStart r (uvShown r s)).cancel (.gloryWalkerStep r)) :=
  if_neg (by rw [hen, hrail, hnew]; decide)

/-- An undershoot outside RAMP and REG, or in a low hold, is shown and counted, and no more (R93, R121). -/
theorem uvAssert_shows (hen : s.on (F.GATH_CMPr_CTL_UVEN r) = true) (hrail : railEn r s = true) (hnew : s.on (F.GATH_CMPr_STAT_UVNOW r) = false)
    (hbarred : gloryCond r s = false) (hidle : s.mrv[r].glory.active = false) (ht : t = uvAssert r s) :
    t.on (F.GATH_CMPr_STAT_UVNOW r) = true ∧ t.on (F.GATH_CMPr_STAT_UVSEEN r) = true ∧
      t.get (F.GATH_CMPr_CNT_UVCNT r) = satInc (F.GATH_CMPr_CNT_UVCNT r).width (s.get (F.GATH_CMPr_CNT_UVCNT r)) 1 ∧
        t.mrv[r].glory.start = s.clk.ns ∧ NoLog s t ∧ Keeps [Reg.GATH_CMPr_STAT r, Reg.GATH_CMPr_CNT r] s t := by
  have hcancel := (PhasesOnly.refl (uvShown r s)).cancel (.gloryWalkerStep r)
  have hidle' : ((uvShown r s).cancel (.gloryWalkerStep r)).mrv[r].glory.active = false := by rw [hcancel.mrv, uvShown_mrv, hidle]
  rw [uvAssert_of_new hen hrail hnew, gloryStart_of_barred ((uvShown_gloryCond r s).trans hbarred), gloryStep_of_idle hidle'] at ht
  subst ht
  obtain ⟨hnow, hseen, hcnt⟩ := uvShown_shows r s
  refine ⟨(hcancel.on _).trans hnow, (hcancel.on _).trans hseen, (hcancel.get _).trans hcnt, by rw [hcancel.mrv, uvShown_mrv], ?_,
    (uvShown_keeps r s).phases hcancel⟩
  exact congrArg LogSt.reqs (hcancel.log.trans (uvShown_log r s))

/-- An undershoot under Glory's conditions starts an episode (R121). -/
theorem uvAssert_starts (hen : s.on (F.GATH_CMPr_CTL_UVEN r) = true) (hrail : railEn r s = true) (hnew : s.on (F.GATH_CMPr_STAT_UVNOW r) = false)
    (hcond : gloryCond r s = true) (hidle : s.mrv[r].glory.active = false) (ht : t = uvAssert r s) :
    t.mrv[r].glory.active = true ∧ t.on (F.MRVr_STAT_GLACT r) = true ∧ t.on (F.GATH_CMPr_STAT_UVNOW r) = true ∧
      t.mrv[r].glory.start = s.clk.ns ∧ SameMem s t := by
  have hidle' : (uvShown r s).mrv[r].glory.active = false := by rw [uvShown_mrv, hidle]
  obtain ⟨hnow, -, -⟩ := uvShown_shows r s
  obtain ⟨hact, hstart, hglact, hkeeps⟩ := gloryStart_starts ((uvShown_gloryCond r s).trans hcond) hnow hidle'
  have hwalk := ((SameEpisode.refl r _).phases ((PhasesOnly.refl (gloryStart r (uvShown r s))).cancel (.gloryWalkerStep r))).trans
    (gloryStep_sameEpisode r _)
  rw [← uvAssert_of_new hen hrail hnew, ← ht] at hwalk
  rw [uvShown_mrv] at hstart
  refine ⟨hwalk.active.trans hact, (hwalk.keeps.on (by simp)).trans hglact, ?_, hwalk.start.trans hstart, ?_⟩
  · exact (hwalk.keeps.on (by simp)).trans ((hkeeps.on (cmpStat_notMem_mrvStat r)).trans hnow)
  · exact (uvShown_keeps r s).sameMem.trans (hkeeps.sameMem.trans hwalk.keeps.sameMem)

/-- The release of an undershoot ends its episode (R122, R123). -/
theorem uvRelease_ends (hact : s.mrv[r].glory.active = true) (ht : t = uvRelease r s) :
    t.on (F.GATH_CMPr_STAT_UVNOW r) = false ∧ t.mrv[r].glory.active = false ∧ t.get (F.MRVr_STAT_GLACT r) = 0 ∧
      t.mrv[r].glory.hold = s.lv (F.MRVr_GL_GLHOLD r) ∧
        t.get (F.MRVr_GLCNT_EP r) = satInc (F.MRVr_GLCNT_EP r).width (s.get (F.MRVr_GLCNT_EP r)) 1 ∧ SameMem s t := by
  have hforce := forceEndAll_phasesOnly (s.put (F.GATH_CMPr_STAT_UVNOW r) 0) r
  have hkeeps := ((Keeps.refl _ s).put 0 (f := F.GATH_CMPr_STAT_UVNOW r) (.head [])).phases hforce
  have hnow : (forceEndAll r (s.put (F.GATH_CMPr_STAT_UVNOW r) 0)).on (F.GATH_CMPr_STAT_UVNOW r) = false :=
    (hforce.on _).trans (State.on_put_zero (uvNow_fits r) s)
  have hcnt : ∀ r : Fin 4, Reg.GATH_CMPr_STAT r ∉ [Reg.MRVr_GLCNT r, Reg.MRVr_STAT r] := by decide
  have hep : ∀ r : Fin 4, Reg.MRVr_GLCNT r ∉ [Reg.GATH_CMPr_STAT r] := by decide
  obtain ⟨hidle, hglact, hhold, hcount, hend⟩ := gloryEnd_ends (s := forceEndAll r (s.put (F.GATH_CMPr_STAT_UVNOW r) 0))
    (by rw [hforce.mrv]; exact hact) ht
  refine ⟨(hend.on (hcnt r)).trans hnow, hidle, hglact, ?_, ?_, hkeeps.sameMem.trans hend.sameMem⟩
  · exact hhold.trans (hforce.lv _)
  · rw [hcount, hkeeps.get (f := F.MRVr_GLCNT_EP r) (hep r)]

/-! ## The walker's step and the end of a forced phase -/

/-- The walker's step at the one active phase, which is free, forces it (R121). -/
theorem gloryStep_forces (hact : s.mrv[r].glory.active = true) (hcond : gloryCond r s = true) (hover : s.on (F.GATH_CMPr_STAT_OVNOW r) = false)
    (hall : s.lv (F.MRVr_GL_GLALL r) = 0) (hone : active r s = [p]) (hnone : forcedCount r s = 0) (hnew : s.phase[p].wasForced = false)
    (hheld : s.phase[p].held = none) (hready : s.phase[p].minOff = false) (hfree : limitHolds r p s = false)
    (hstag : s.lv (F.MRVr_GL_GLSTAG r) ≠ 0) (ht : t = gloryStep r s) :
    t.phase[p].forced = true ∧ t.phase[p].out = .high ∧ t.mrv[r].glory.forced = s.mrv[r].glory.forced + 1 ∧
      (s.clk.ns + zeroAsOne (s.lv (F.MRVr_GL_GLMAX r)) * 2, .gloryGlmaxRelease p) ∈ t.timers ∧ NoLog s t ∧ Keeps [] s t := by
  have hroom : forcedCount r s < clampNat (s.lv (F.MRVr_GL_GLN r)) 1 24 := by
    rw [hnone]
    exact Nat.lt_of_lt_of_le Nat.one_pos (Nat.le_max_left _ _)
  have hpos : [p][s.mrv[r].glory.pos % [p].length]? = some p := by simp [Nat.mod_one]
  have hwalk : gloryStep r s = gloryWalk r [p] 2 1 s := by
    unfold gloryStep
    dsimp only
    rw [hact, hcond, hover, hall, hone]
    rfl
  rw [hwalk, gloryWalk_forces hroom hpos hnew hheld hready hfree hstag] at ht
  obtain ⟨v, hrun, hv, hforced, hhigh, htimer⟩ := forceOn_eq r p
    (mrvUpd r (fun m => { m with glory := { m.glory with pos := s.mrv[r].glory.pos % [p].length + 1 } }) s)
  rw [hrun] at ht
  subst ht
  have hcount : v.mrv[r].glory.forced = s.mrv[r].glory.forced := by rw [hv.mrv, mrvUpd_same]
  refine ⟨hforced, hhigh, ?_, ?_, congrArg LogSt.reqs hv.log, ?_⟩
  · exact (congrArg (·.glory.forced) (mrvUpd_same v r _)).trans (congrArg (· + 1) hcount)
  · exact List.mem_append_left _ (List.mem_filter.mpr ⟨htimer, bne_iff_ne.mpr nofun⟩)
  · exact ((((Keeps.refl _ s).mrvUpd r _).phases hv).mrvUpd r _).restart _ _

/-- A phase that has been forced for GLMAX turns off (R122). -/
theorem glmaxRelease_releases (hrail : railOf p s = some r) (hforced : s.phase[p].forced = true) (hhigh : s.phase[p].out = .high)
    (hact : (active r s).contains p = true) (hblank : s.on (F.MRVr_STAT_OVBLK r) = false) (ht : t = glmaxRelease p s) :
    t.phase[p].forced = false ∧ t.phase[p].out = .low ∧ t.phase[p].minOff = true ∧ t.mrv[r].glory.glmax = s.mrv[r].glory.glmax + 1 ∧
      NoLog s t ∧ Keeps [] s t := by
  have hrun : ∃ u : State, (∃ f, u = mrvUpd r f s ∧ ∀ m, (f m).glory.glmax = m.glory.glmax + 1) ∧ glmaxRelease p s = gloryKick r (fall r p u) := by
    unfold glmaxRelease
    rw [hrail]
    exact ⟨_, ⟨_, rfl, fun _ => rfl⟩, if_pos hforced⟩
  obtain ⟨u, ⟨f, rfl, hglmax⟩, hrun⟩ := hrun
  rw [hrun, fall_of_active (s := mrvUpd r f s) hact hblank] at ht
  have hphases := (phaseOffAt_phasesOnly (mrvUpd r f s) r p (mrvUpd r f s).now64).trans (gloryKick_phasesOnly _ r)
  rw [← ht] at hphases
  have hphase : t.phase = (phaseOffAt r p (mrvUpd r f s).now64 (mrvUpd r f s)).phase := by
    rw [ht]
    unfold gloryKick
    split <;> rfl
  rw [hphase, phaseOffAt_phase_of_high _ (s := mrvUpd r f s) hhigh, hphases.mrv, mrvUpd_same, hglmax]
  exact ⟨rfl, rfl, rfl, rfl, congrArg LogSt.reqs hphases.log, ((Keeps.refl _ s).mrvUpd r f).phases hphases⟩

/-! ## Overshoot -/

/-- Blanking follows the comparator and OVACT; beyond MRVr_STAT it acts on the phases alone (R125). -/
theorem blankFollow_eq (r : Fin 4) (s : State) : ∃ u, (u = s ∨ ∃ v, u = s.put (F.MRVr_STAT_OVBLK r) v) ∧ PhasesOnly u (blankFollow r s) ∧
    u.on (F.MRVr_STAT_OVBLK r) = (s.on (F.GATH_CMPr_STAT_OVNOW r) && ovAct r s != 0) := by
  unfold blankFollow
  dsimp only
  split
  next hsame => exact ⟨s, .inl rfl, .refl s, (beq_iff_eq.mp hsame).symm⟩
  next =>
    split
    next hwant =>
      refine ⟨_, .inr ⟨1, rfl⟩, (PhasesOnly.refl _).each _ fun p v => blankOne_phasesOnly v r p, ?_⟩
      rw [hwant]
      exact State.on_put_one (ovblk_fits r) rfl s
    next hwant =>
      refine ⟨_, .inr ⟨0, rfl⟩, (PhasesOnly.refl _).each _ fun p v => unblankOne_phasesOnly v r p, ?_⟩
      rw [Bool.eq_false_iff.mpr hwant]
      exact State.on_put_zero (ovblk_fits r) s

theorem blankFollow_blanks (r : Fin 4) (s : State) : (blankFollow r s).on (F.MRVr_STAT_OVBLK r) = (s.on (F.GATH_CMPr_STAT_OVNOW r) && ovAct r s != 0) := by
  obtain ⟨u, -, hphases, hon⟩ := blankFollow_eq r s
  exact (hphases.on _).trans hon

/-- The parts of the state that blanking leaves. -/
theorem blankFollow_frame (r : Fin 4) (s : State) : Keeps [Reg.MRVr_STAT r] s (blankFollow r s) ∧ (blankFollow r s).log = s.log ∧
    (blankFollow r s).prot = s.prot ∧ (blankFollow r s).edge = s.edge := by
  obtain ⟨u, rfl | ⟨v, rfl⟩, hphases, -⟩ := blankFollow_eq r s
  · exact ⟨hphases.keeps _, hphases.log, hphases.prot, hphases.edge⟩
  · exact ⟨((Keeps.refl _ s).put v (f := F.MRVr_STAT_OVBLK r) (.head _)).phases hphases, hphases.log, hphases.prot, hphases.edge⟩

theorem ovStart_frame (r : Fin 4) (s : State) : Keeps [] s (ovStart r s) ∧ (ovStart r s).log = s.log := by
  unfold ovStart
  split
  · exact ⟨((Keeps.refl _ s).protUpd r _).restart _ _, rfl⟩
  · exact ⟨.refl _ s, rfl⟩

/-- An overshoot is shown and counted, on the comparator and on the engine (R93, R123). -/
def ovShown (r : Fin 4) (s : State) : State :=
  (cmpShown (F.GATH_CMPr_STAT_OVNOW r) (F.GATH_CMPr_STAT_OVSEEN r) (F.GATH_CMPr_CNT_OVCNT r) s).inc (F.MRVr_GLCNT_OV r)

theorem ovAssert_of_new (hen : s.on (F.GATH_CMPr_CTL_OVEN r) = true) (hrail : railEn r s = true) (hnew : s.on (F.GATH_CMPr_STAT_OVNOW r) = false)
    (hact : ovAct r s ≠ 0) : ovAssert r s = ovStart r (blankFollow r (ovShown r s)) := by
  unfold ovAssert
  rw [if_neg (by rw [hen, hrail, hnew]; decide)]
  dsimp only
  rw [if_neg hact]
  rfl

/-- An overshoot blanks the rail, where OVACT is not 0 (R93, R125). -/
theorem ovAssert_blanks (hen : s.on (F.GATH_CMPr_CTL_OVEN r) = true) (hrail : railEn r s = true) (hnew : s.on (F.GATH_CMPr_STAT_OVNOW r) = false)
    (hact : ovAct r s ≠ 0) (ht : t = ovAssert r s) :
    t.on (F.GATH_CMPr_STAT_OVNOW r) = true ∧ t.on (F.GATH_CMPr_STAT_OVSEEN r) = true ∧ t.on (F.MRVr_STAT_OVBLK r) = true ∧
      t.get (F.GATH_CMPr_CNT_OVCNT r) = satInc (F.GATH_CMPr_CNT_OVCNT r).width (s.get (F.GATH_CMPr_CNT_OVCNT r)) 1 ∧ NoLog s t ∧
        Keeps [Reg.GATH_CMPr_STAT r, Reg.GATH_CMPr_CNT r, Reg.MRVr_GLCNT r, Reg.MRVr_STAT r] s t := by
  rw [ovAssert_of_new hen hrail hnew hact] at ht
  subst ht
  obtain ⟨hblank, hlog, -, -⟩ := blankFollow_frame r (ovShown r s)
  obtain ⟨hstart, hlog'⟩ := ovStart_frame r (blankFollow r (ovShown r s))
  obtain ⟨hnow, hseen, hcnt⟩ := cmpShown_shows (cmpFields_ov r) s
  have hstat : ∀ r : Fin 4, Reg.GATH_CMPr_STAT r ≠ Reg.MRVr_GLCNT r := by decide
  have hcount : ∀ r : Fin 4, Reg.GATH_CMPr_CNT r ∉ [Reg.MRVr_STAT r] ∧ Reg.GATH_CMPr_CNT r ≠ Reg.MRVr_GLCNT r := by decide
  have hshown : (ovShown r s).on (F.GATH_CMPr_STAT_OVNOW r) = true := (State.on_inc_ne (hstat r) 1 _).trans hnow
  have hkeeps : Keeps [Reg.GATH_CMPr_STAT r, Reg.GATH_CMPr_CNT r, Reg.MRVr_GLCNT r, Reg.MRVr_STAT r] s (ovShown r s) :=
    ((((Keeps.refl _ s).put 1 (f := F.GATH_CMPr_STAT_OVNOW r) (.head _)).put 1 (f := F.GATH_CMPr_STAT_OVSEEN r) (.head _)).inc 1
      (f := F.GATH_CMPr_CNT_OVCNT r) (.tail _ (.head _))).inc 1 (f := F.MRVr_GLCNT_OV r) (.tail _ (.tail _ (.head _)))
  refine ⟨?_, ?_, ?_, ?_, congrArg LogSt.reqs (hlog'.trans hlog), (hkeeps.trans (hblank.mono (by simp))).trans (hstart.mono (by simp))⟩
  · exact (hstart.on (by simp)).trans ((hblank.on (cmpStat_notMem_mrvStat r)).trans hshown)
  · exact (hstart.on (by simp)).trans ((hblank.on (cmpStat_notMem_mrvStat r)).trans ((State.on_inc_ne (hstat r) 1 _).trans hseen))
  · rw [hstart.on (by simp), blankFollow_blanks, hshown, Bool.true_and]
    exact bne_iff_ne.mpr hact
  · exact (hstart.get (by simp)).trans ((hblank.get (hcount r).1).trans ((State.get_inc_ne (hcount r).2 1 _).trans hcnt))

/-- The OVERSHOOT output falls: the comparator's level and fault 0 clear, and the persistence of the overshoot ends (R93, R132). -/
def ovFallen (r : Fin 4) (s : State) : State := ovEnd r (s.put (F.GATH_CMPr_STAT_OVNOW r) 0)

theorem ovFallen_clears (r : Fin 4) (s : State) : (ovFallen r s).on (F.GATH_CMPr_STAT_OVNOW r) = false ∧ condOn r 0 (ovFallen r s) = false ∧
    (ovFallen r s).prot[r].ovSince = none ∧ Keeps [Reg.GATH_CMPr_STAT r, Reg.PROTr_STAT r] s (ovFallen r s) := by
  have hput : ∀ u : State, Keeps [Reg.PROTr_STAT r] u (ovEnd r u) := fun u =>
    (((Keeps.refl _ u).protUpd r _).cancel _).hw _ (a := Reg.PROTr_STAT r) (.head _)
  have hstat : ∀ r : Fin 4, Reg.GATH_CMPr_STAT r ∉ [Reg.PROTr_STAT r] := by decide
  refine ⟨?_, State.bit_putBit_false (protCond_fits r) 0 _, ?_, ?_⟩
  · exact ((hput _).on (hstat r)).trans (State.on_put_zero (ovNow_fits r) s)
  · exact congrArg Prot.ovSince (protUpd_same (s.put (F.GATH_CMPr_STAT_OVNOW r) 0) r _)
  · exact ((Keeps.refl _ s).put 0 (f := F.GATH_CMPr_STAT_OVNOW r) (.head _)).trans ((hput _).mono (List.subset_cons_self _ _))

/-- With no low hold to end, the release of an overshoot is the comparator's fall and the end of the blanking (R121, R125, R144). -/
theorem ovRelease_of_unheld (hhold : s.edge[r].lowHold = false) :
    ovRelease r s = gloryKick r (protUpd r (fun q => { q with stopOv := false }) (blankFollow r (ovFallen r s))) := by
  obtain ⟨-, -, -, hedge⟩ := blankFollow_frame r (ovFallen r s)
  have hhold' : (protUpd r (fun q => { q with stopOv := false }) (blankFollow r (ovFallen r s))).edge[r].lowHold = false :=
    (congrArg (fun e => e[r].lowHold) hedge).trans hhold
  unfold ovRelease ovQuiet ovHoldEnd
  rw [if_pos (by rw [← ovFallen, hhold']; rfl)]
  rfl

/-- The release of an overshoot ends the blanking and fault 0 (R125, R132). -/
theorem ovRelease_ends (hhold : s.edge[r].lowHold = false) (ht : t = ovRelease r s) :
    t.on (F.GATH_CMPr_STAT_OVNOW r) = false ∧ t.on (F.MRVr_STAT_OVBLK r) = false ∧ condOn r 0 t = false ∧ t.prot[r].ovSince = none ∧ NoLog s t ∧
      Keeps [Reg.GATH_CMPr_STAT r, Reg.MRVr_STAT r, Reg.PROTr_STAT r] s t := by
  obtain ⟨hnow, hcond, hsince, hfallen⟩ := ovFallen_clears r s
  obtain ⟨hblank, hlog, hprot, -⟩ := blankFollow_frame r (ovFallen r s)
  have hkick := gloryKick_phasesOnly (protUpd r (fun q => { q with stopOv := false }) (blankFollow r (ovFallen r s))) r
  rw [← ovRelease_of_unheld hhold, ← ht] at hkick
  have hend : Keeps [] (blankFollow r (ovFallen r s)) t := ((Keeps.refl _ _).protUpd r _).phases hkick
  have hfault : ∀ r : Fin 4, Reg.PROTr_STAT r ∉ [Reg.MRVr_STAT r] := by decide
  refine ⟨?_, ?_, ?_, ?_, congrArg LogSt.reqs (hkick.log.trans hlog), ?_⟩
  · exact (hend.on (by simp)).trans ((hblank.on (cmpStat_notMem_mrvStat r)).trans hnow)
  · rw [hend.on (by simp), blankFollow_blanks, hnow, Bool.false_and]
  · have hget : t.get (F.PROTr_STAT_COND r) = (ovFallen r s).get (F.PROTr_STAT_COND r) := (hend.get (by simp)).trans (hblank.get (hfault r))
    exact (congrArg (fun n => n.testBit 0) hget).trans hcond
  · rw [hkick.prot, protUpd_same, hprot]
    exact hsince
  · exact (hfallen.mono (by simp)).trans ((hblank.mono (by simp)).trans (hend.mono (by simp)))

/-- Settles O18, one clause for each event of the comparators and of the walker; a voltage within the threshold or the filter's time is no event. -/
theorem glory : Obligations.Glory := by
  unfold Obligations.Glory
  refine ⟨fun s r v beyond hv hfilt hen hrail hnew hstopped hidle => ⟨_, rfl, ?shown⟩,
    fun s r v beyond hv hfilt hen hrail hnew hcond hidle => ⟨_, rfl, uvAssert_starts hen hrail hnew hcond hidle (if_pos ⟨hv, hfilt⟩)⟩,
    fun s r v hv hnow hact => ⟨_, rfl, uvRelease_ends hact (if_pos ⟨hv, hnow⟩)⟩,
    fun s r p hact hcond hover hall hone hnone _ hnew hheld hready hfree hstag =>
      ⟨_, rfl, gloryStep_forces hact hcond hover hall hone hnone hnew hheld hready hfree hstag rfl⟩,
    fun s p r hrail hforced hhigh hact hblank => ⟨_, rfl, glmaxRelease_releases hrail hforced hhigh hact hblank rfl⟩,
    fun s r v beyond hv hfilt hen hrail hnew hact => ⟨_, rfl, ovAssert_blanks hen hrail hnew hact (if_pos ⟨hv, hfilt⟩)⟩,
    fun s r v hv hnow hhold => ⟨_, rfl, ovRelease_ends hhold (if_pos ⟨hv, hnow⟩)⟩,
    fun s r v beyond hv => ⟨_, rfl, if_neg fun h => absurd h.1 (Int.not_lt.mpr hv)⟩,
    fun s r v beyond hshort => ⟨_, rfl, if_neg fun h => absurd h.2 (Nat.not_le.mpr hshort)⟩⟩
  case shown =>
    have hbarred : gloryCond r s = false := by
      unfold gloryCond
      rw [hstopped, Bool.false_and]
    exact uvAssert_shows hen hrail hnew hbarred hidle (if_pos ⟨hv, hfilt⟩)

end Sys2Proof.Machine
end

section
/-!
PROOFS. VSET requests at a turn boundary that loads the source mask (R27, R108, R109).
-/
namespace Sys2Proof.Machine

/-- Rail 0 in a cycle that holds a turn boundary of its domain: every source is in the mask in force, and the boundary loads a mask of 0 that was
written five cycles ago (R27, R42). -/
def maskClosing : State :=
  let s := ((State.reset.setLive (Reg.MRVr_VSRC 0) 0xF).store (Reg.MRVr_VSRC 0) 0).put (F.ANGn_CTL_EN 0) 1
  { domUpd 0 (fun d => { d with rate := 2 ^ 40 }) s with clk := { ns := 5 } }

/-- The arbiter's mask of an arrival in this cycle is the one that the boundary loads (R109). -/
theorem mask_maskClosing : maskClosing.lv (F.MRVr_VSRC_MASK 0) = 0xF ∧ lvIn 0 (F.MRVr_VSRC_MASK 0) maskClosing = 0 := by decide +kernel

/-- The masked host request leaves the target at 0. -/
theorem target_vshostWrite_maskClosing : (vshostWrite 0 2000 maskClosing).get (F.MRVr_VSNOW_T 0) = 0 := by decide +kernel

/-- Refutes O11: the clauses on accepted requests ask for the source in the mask in force, and R109 judges an arrival by the mask with the load of a
turn boundary that falls in its cycle. A boundary that takes the host out of the mask discards the request of that cycle. -/
theorem not_voltageRequests : ¬ Obligations.VoltageRequests := by
  unfold Obligations.VoltageRequests
  rintro ⟨hhost, -⟩
  have hmask : (maskClosing.lv (F.MRVr_VSRC_MASK 0)).testBit 2 = true := by rw [mask_maskClosing.left]; decide
  have hrange : vsetOk 0 (fldOf (F.MRVr_VSHOST_VSET 0) 2000) maskClosing = true := by decide +kernel
  have hlater : maskClosing.mrv[(0 : Fin 4)].arrAt < maskClosing.clk.ns := by decide +kernel
  obtain ⟨t, hrun, htarget, -⟩ := hhost maskClosing 0 2000 hmask hrange hlater
  obtain rfl : vshostWrite 0 2000 maskClosing = t := Host.Outcome.next.inj hrun
  exact absurd (target_vshostWrite_maskClosing.symm.trans htarget) (by decide)

/-- Port 0 with 1.000 V for rail 0 released, in the cycle in which it arrives (R434). -/
def commitAtMaskClosing : State := avsUpd 0 (fun p => { p with commit := (Vector.replicate 4 none).set 0 (some 1000) }) maskClosing

/-- The masked arrival leaves the target at 0. -/
theorem target_avsArrive_commitAtMaskClosing : (avsArrive 0 commitAtMaskClosing).get (F.MRVr_VSNOW_T 0) = 0 := by decide +kernel

/-- Refutes O51: as for O11, a released value that arrives in the cycle of a turn boundary which takes AVSBus out of the mask does not become the
target, though the mask in force until then has its bit (R109, R434). -/
theorem not_avsBusFrames : ¬ Obligations.AvsBusFrames := by
  unfold Obligations.AvsBusFrames
  rintro ⟨-, -, -, -, -, -, -, -, -, -, -, -, -, -, -, -, harrive, -⟩
  have hmask : (commitAtMaskClosing.lv (F.MRVr_VSRC_MASK 0)).testBit 0 = true := by decide +kernel
  have hrange : vsetOk 0 (2 * 1000) commitAtMaskClosing = true := by decide +kernel
  have hlater : commitAtMaskClosing.mrv[(0 : Fin 4)].arrAt < commitAtMaskClosing.clk.ns := by decide +kernel
  have hfired : NotFired (182 + (0 : Fin 2).val) commitAtMaskClosing := by decide +kernel
  obtain ⟨t, hrun, htarget, -⟩ := harrive commitAtMaskClosing 0 0 1000 rfl hmask hrange hlater hfired
  obtain rfl : avsArrive 0 commitAtMaskClosing = t := Host.Outcome.next.inj hrun
  exact absurd (target_avsArrive_commitAtMaskClosing.symm.trans htarget) (by decide)

end Sys2Proof.Machine
end

section
/-!
PROOFS. The regulation loop: setpoint DAC, clears, feedforward and input voltage results (R106, R112, R115, R117, R130).
-/
namespace Sys2Proof.Machine

variable {r : Fin 4} {s t u : State}

/-! ## Updates of one element, operations over a list -/

theorem updAt_get {α : Type} {n : Nat} (v : Vector α n) (i j : Fin n) (f : α → α) : (updAt v i f)[j] = if j = i then f v[j] else v[j] := by
  by_cases h : j = i
  · subst h
    rw [if_pos rfl, updAt_same]
  · rw [if_neg h]
    exact Vector.getElem_set_ne i.isLt j.isLt fun hij => h (Fin.ext hij.symm)

/-- A frame that every application to an element of a list keeps holds of the whole pass. -/
theorem Keeps.each {α : Type} {l : List Nat} (h : Keeps l s t) (xs : List α) {f : α → State → State} (hf : ∀ x ∈ xs, ∀ v, Keeps l v (f x v)) :
    Keeps l s (t.each xs f) := by
  induction xs generalizing t with
  | nil => exact h
  | cons x xs ih => exact ih (h.trans (hf x (.head _) t)) fun y hy => hf y (.tail _ hy)

/-! ## Fields -/

theorem vt_fits : ∀ r : Fin 4, fldFits (F.MRVr_ILF_VT r) = true := by decide +kernel
theorem vt_apart_if : ∀ r : Fin 4, fldApart (F.MRVr_ILF_VT r) (F.MRVr_ILF_IF r) = true := by decide +kernel
theorem ffstale_fits : ∀ r : Fin 4, fldFits (F.MRVr_STAT_FFSTALE r) = true := by decide +kernel
theorem vinres_fits : fldFits F.GATH_VINRES_VINRES = true := by decide +kernel

/-! ## The setpoint DAC -/

theorem vtOf_lt (r : Fin 4) (s : State) : vtOf r s < 2 ^ 16 := Nat.lt_of_le_of_lt (Nat.min_le_left _ _) (by decide)

theorem dacLoad_loads (ht : t = dacLoad r s) :
    t.get (F.MRVr_ILF_VT r) = vtOf r s ∧ t.get (F.MRVr_ILF_IF r) = s.get (F.MRVr_ILF_IF r) ∧ NoLog s t ∧ Keeps [Reg.MRVr_ILF r] s t := by
  subst ht
  exact ⟨State.get_put_of_lt (vt_fits r) (vtOf_lt r s) s, State.get_put_apart (vt_apart_if r) _ s, rfl,
    (Keeps.refl _ s).put _ (f := F.MRVr_ILF_VT r) (.head _)⟩

/-! ## MRV_ACT -/

/-- A performed write of MRV_ACT: the register holds it, with the two ARG bits that name a rail, and nothing else differs from the action's effect
(R11, R20). -/
theorem act_mrv {ticket : Byte} (arg : BitVec 16) (action : Byte) {f : State → State} (hfresh : Fresh Reg.MRV_ACT ticket s) :
    ∃ w, s.act Reg.MRV_ACT ticket arg action f = (f s).wr Reg.MRV_ACT w ∧
      ((f s).wr Reg.MRV_ACT w).rd Reg.MRV_ACT = ticket ++ (arg &&& 0x3) ++ action := by
  have hfull : implMask Reg.MRV_ACT = BitVec.allOnes 32 := by decide +kernel
  refine ⟨_, State.act_fresh _ _ _ _ _ _ hfresh, ?_⟩
  rw [State.rd_wr_same, hfull, BitVec.and_allOnes]
  rfl

theorem compensatorClear_marks {ticket : Byte} (arg : BitVec 16) (hfresh : Fresh Reg.MRV_ACT ticket s)
    (ht : t = s.act Reg.MRV_ACT ticket arg 1 (mrvClear arg)) :
    t.mrv[Fin.ofNat 4 arg.toNat].clear = true ∧ t.rd Reg.MRV_ACT = ticket ++ (arg &&& 0x3) ++ (1 : Byte) ∧ NoLog s t ∧ Keeps [Reg.MRV_ACT] s t := by
  obtain ⟨w, hrun, hword⟩ := act_mrv (f := mrvClear arg) arg 1 hfresh
  rw [hrun] at ht
  subst ht
  exact ⟨congrArg Mrv.clear (mrvUpd_same s (Fin.ofNat 4 arg.toNat) _), hword, rfl, ((Keeps.refl _ s).mrvUpd _ _).wr w (.head _)⟩

/-- The registers that show the trims of a rail (R117). -/
abbrev balTrims (r : Fin 4) : List Nat := (List.range 24).map (Reg.MRVr_BALTRIMk r)

theorem showBal_keeps (r : Fin 4) (s : State) : Keeps (balTrims r) s (showBal r s) :=
  (Keeps.refl _ s).each _ fun k hk v =>
    (Keeps.refl _ v).put (f := F.MRVr_BALTRIMk_BAL r k) _ (List.mem_map_of_mem (f := Reg.MRVr_BALTRIMk r) hk)

theorem showBal_frame (r : Fin 4) (s : State) : (showBal r s).phase = s.phase ∧ (showBal r s).log = s.log :=
  State.each_rel (fun s t => t.phase = s.phase ∧ t.log = s.log) (fun _ => ⟨rfl, rfl⟩)
    (fun _ _ _ h k => ⟨k.left.trans h.left, k.right.trans h.right⟩) (List.range 24) _ (fun _ _ => ⟨rfl, rfl⟩) s

/-- The trim of a phase cleared. -/
def balZero (p : Fin 32) (s : State) : State := phUpd p (fun h => { h with bal := 0 }) s

theorem clearBal_eq (r : Fin 4) (ps : List (Fin 32)) (s : State) : clearBal r ps s = showBal r (s.each ps balZero) := rfl

theorem each_balZero_bal (ps : List (Fin 32)) (p : Fin 32) (s : State) :
    (s.each ps balZero).phase[p].bal = if p ∈ ps then 0 else s.phase[p].bal := by
  induction ps generalizing s with
  | nil => rfl
  | cons q ps ih =>
    have hone : (balZero q s).phase[p].bal = if p = q then 0 else s.phase[p].bal := by
      rw [show (balZero q s).phase[p] = _ from updAt_get s.phase q p _]
      split <;> rfl
    rw [State.each_cons, ih, hone]
    by_cases hps : p ∈ ps <;> by_cases hq : p = q <;> simp [hps, hq]

theorem each_balZero_phasesOnly (ps : List (Fin 32)) (s : State) : PhasesOnly s (s.each ps balZero) :=
  (PhasesOnly.refl s).each ps fun p v => (PhasesOnly.refl v).phUpd p _

theorem balanceClear_clears {ticket : Byte} (arg : BitVec 16) (hr : Fin.ofNat 4 arg.toNat = r) (hfresh : Fresh Reg.MRV_ACT ticket s)
    (ht : t = s.act Reg.MRV_ACT ticket arg 2 (mrvBalClear arg)) :
    (railList r s).all (fun p => t.phase[p].bal == 0) = true ∧ t.rd Reg.MRV_ACT = ticket ++ (arg &&& 0x3) ++ (2 : Byte) ∧ NoLog s t ∧
      Keeps (Reg.MRV_ACT :: balTrims r) s t := by
  obtain ⟨w, hrun, hword⟩ := act_mrv (f := mrvBalClear arg) arg 2 hfresh
  have heffect : mrvBalClear arg s = showBal r (s.each (railList r s) balZero) := by
    rw [← hr]
    exact clearBal_eq _ _ s
  rw [heffect] at hrun hword
  rw [hrun] at ht
  subst ht
  have hphases := each_balZero_phasesOnly (railList r s) s
  obtain ⟨hphase, hlog⟩ := showBal_frame r (s.each (railList r s) balZero)
  refine ⟨?_, hword, congrArg LogSt.reqs (hlog.trans hphases.log), ?_⟩
  · rw [List.all_eq_true]
    intro p hp
    rw [State.wr_phase, hphase, each_balZero_bal, if_pos hp]
    rfl
  · exact (((hphases.keeps _).trans (showBal_keeps r _)).mono (List.subset_cons_self _ _)).wr w (.head _)

/-! ## Feedforward -/

/-- A stale feedforward that is not flagged yet is flagged and logged (R130). -/
theorem ffMark_marks (hguard : ffGuard r s = true) (hnew : s.on (F.MRVr_STAT_FFSTALE r) = false) (ht : t = ffMark r s) :
    t.on (F.MRVr_STAT_FFSTALE r) = true ∧ Logged 0x04 0x0004 (b8 r :: bytesOfNat 2 s.mrv[r].vinLast) s t ∧ Keeps [Reg.MRVr_STAT r] s t := by
  have hrun : ffMark r s = (s.put (F.MRVr_STAT_FFSTALE r) 1).logReq 0x04 0x0004 (b8 r :: bytesOfNat 2 s.mrv[r].vinLast) :=
    if_pos (by rw [hguard, hnew]; rfl)
  rw [hrun] at ht
  subst ht
  exact ⟨State.on_put_one (ffstale_fits r) rfl s, rfl, ((Keeps.refl _ s).put 1 (f := F.MRVr_STAT_FFSTALE r) (.head _)).logReq _ _ _⟩

/-! ## Input voltage results -/

theorem ffGuard_of_disabled (hoff : railEn r s = false) : ffGuard r s = false := by
  unfold ffGuard
  rw [hoff, Bool.false_and]

theorem vinSample_of_disabled (hoff : railEn r s = false) (mv : Nat) : vinSample r mv s = s := if_pos (by rw [hoff]; rfl)

theorem ffMark_of_disabled (hoff : railEn r s = false) : ffMark r s = s := if_neg (by rw [ffGuard_of_disabled hoff, Bool.false_and]; decide)

theorem railEn_put_ffstale (r q : Fin 4) (v : Nat) (s : State) : railEn q (s.put (F.MRVr_STAT_FFSTALE r) v) = railEn q s :=
  have hctl : ∀ r q : Fin 4, Reg.EDGEr_CTL q ≠ Reg.MRVr_STAT r := by decide
  congrArg (· != 0) (State.get_put_ne s _ _ v (hctl r q))

/-- The result lies in the range that the feedforward uses (R115). -/
def vinValid (r : Fin 4) (code : Nat) (s : State) : Bool := decide (4000 ≤ vinMv r code s ∧ vinMv r code s ≤ 20000)

/-- The result noted on a rail: VIN_mV, and its use by the feedforward where it is valid (R115). -/
def vinNoted (r : Fin 4) (code : Nat) (s : State) : State :=
  mrvUpd r (fun m => { m with vinLast := vinMv r code s, vin := if vinValid r code s then some (vinMv r code s) else m.vin }) s

/-- On a disabled rail a result is noted, and a valid one ends FFSTALE; neither the guard nor detector 7 runs (R115, R130, R135). -/
theorem vinRail_of_disabled (hoff : railEn r s = false) (code : Nat) :
    vinRail r code s = (vinNoted r code s).when (vinValid r code s) (·.put (F.MRVr_STAT_FFSTALE r) 0) := by
  have hstale : (if vinValid r code s then (vinNoted r code s).put (F.MRVr_STAT_FFSTALE r) 0 else ffMark r (vinNoted r code s)) =
      (vinNoted r code s).when (vinValid r code s) (·.put (F.MRVr_STAT_FFSTALE r) 0) := by
    cases vinValid r code s
    · exact ffMark_of_disabled (s := vinNoted r code s) hoff
    · rfl
  have hrest : ∀ u, railEn r u = false → vinSample r (vinMv r code s) (if ffGuard r u then u.restart 64000 (.ffStale r) else u) = u := by
    intro u hu
    rw [ffGuard_of_disabled hu]
    exact vinSample_of_disabled hu _
  refine (congrArg (fun u => vinSample r (vinMv r code s) (if ffGuard r u then u.restart 64000 (.ffStale r) else u)) hstale).trans (hrest _ ?_)
  cases vinValid r code s
  · exact hoff
  · exact (railEn_put_ffstale r r 0 _).trans hoff

/-- What a VIN result leaves where it has reached the rails of a list, all of them disabled. -/
structure VinStored (code : Nat) (l : List (Fin 4)) (s t : State) : Prop where
  gath : t.gath = s.gath
  log : t.log = s.log
  keeps : Keeps (l.map (Reg.MRVr_STAT ·)) s t
  scale : ∀ q : Fin 4, t.mrv[q].vinscl = s.mrv[q].vinscl
  last : ∀ q : Fin 4, t.mrv[q].vinLast = if q ∈ l then (code * s.mrv[q].vinscl + 32768) / 65536 else s.mrv[q].vinLast


/-- A result that reaches one rail more. -/
theorem VinStored.cons {code : Nat} {l : List (Fin 4)} (h : VinStored code [r] s t) (k : VinStored code l t u) : VinStored code (r :: l) s u where
  gath := k.gath.trans h.gath
  log := k.log.trans h.log
  keeps := (h.keeps.mono (by simp)).trans (k.keeps.mono (by simp))
  scale q := (k.scale q).trans (h.scale q)
  last q := by
    rw [k.last, h.last, h.scale]
    by_cases hl : q ∈ l <;> by_cases hq : q = r <;> simp [hl, hq]

/-- A result on one disabled rail touches its VIN_mV and, of the registers, its MRVr_STAT (R115). -/
theorem vinRail_stores (hoff : railEn r s = false) (code : Nat) : VinStored code [r] s (vinRail r code s) := by
  have hnoted : VinStored code [r] s (vinNoted r code s) := {
    gath := rfl
    log := rfl
    keeps := (Keeps.refl _ s).mrvUpd r _
    scale := fun q => by
      rw [show (vinNoted r code s).mrv[q] = _ from updAt_get s.mrv r q _]
      split <;> rfl
    last := fun q => by
      rw [show (vinNoted r code s).mrv[q] = _ from updAt_get s.mrv r q _]
      by_cases hq : q = r
      · subst hq
        simp [vinMv]
      · simp [hq] }
  rw [vinRail_of_disabled hoff]
  cases vinValid r code s
  · exact hnoted
  · exact ⟨hnoted.gath, hnoted.log, hnoted.keeps.put 0 (f := F.MRVr_STAT_FFSTALE r) (.head _), hnoted.scale, hnoted.last⟩

theorem edgeCtl_notMem_mrvStat (q : Fin 4) (l : List (Fin 4)) : Reg.EDGEr_CTL q ∉ l.map (Reg.MRVr_STAT ·) := by
  have hne : ∀ q r : Fin 4, Reg.MRVr_STAT r ≠ Reg.EDGEr_CTL q := by decide
  simp [hne]

/-- A result reaches disabled rails one after another (R115). -/
theorem each_vinRail_stores (l : List (Fin 4)) (code : Nat) (hoff : ∀ q, railEn q s = false) :
    VinStored code l s (s.each l (fun q => vinRail q code)) := by
  induction l generalizing s with
  | nil => exact ⟨rfl, rfl, .refl _ s, fun _ => rfl, fun _ => rfl⟩
  | cons q l ih =>
    have hone := vinRail_stores (hoff q) code
    exact hone.cons (ih fun p => (hone.keeps.on (f := F.EDGEr_CTL_EN p) (edgeCtl_notMem_mrvStat p [q])).trans (hoff p))

/-- The device has taken a VIN result, before it reaches the rails (R94, R159). -/
def vinTaken (code : Nat) (s : State) : State :=
  let s1 := (taUpd 0 (fun x => { x with ready := none }) s).put F.GATH_VINRES_VINRES code
  ({ s1 with gath := { s1.gath with vinAt := s1.clk.ns } } : State).restart 64000 .vinTimeout

theorem vinResult_eq (code : Nat) (s : State) :
    vinResult code (taUpd 0 (fun x => { x with ready := none }) s) = (vinTaken code s).each rails (fun r => vinRail r code) := rfl

theorem mem_rails : ∀ q : Fin 4, q ∈ rails := by decide

/-- A VIN result that arrives in its slot, with every rail disabled (R94, R115). -/
theorem vinResult_stores {code : BitVec 16} (hoff : ∀ q : Fin 4, railEn q s = false)
    (ht : t = vinResult code.toNat (taUpd 0 (fun x => { x with ready := none }) s)) :
    t.get F.GATH_VINRES_VINRES = code.toNat ∧ t.gath.vinAt = s.clk.ns ∧
      (∀ q : Fin 4, t.mrv[q].vinLast = (code.toNat * s.mrv[q].vinscl + 32768) / 65536) ∧ NoLog s t ∧
      Keeps [Reg.GATH_VINRES, Reg.MRVr_STAT 0, Reg.MRVr_STAT 1, Reg.MRVr_STAT 2, Reg.MRVr_STAT 3] s t := by
  have htake : Keeps [Reg.GATH_VINRES] s (vinTaken code.toNat s) :=
    (((Keeps.refl _ s).congr rfl rfl rfl).put code.toNat (f := F.GATH_VINRES_VINRES) (.head _)).congr rfl rfl rfl
  have hctl : ∀ q : Fin 4, Reg.EDGEr_CTL q ∉ [Reg.GATH_VINRES] := by decide
  have hreach := each_vinRail_stores rails code.toNat fun q => (htake.on (f := F.EDGEr_CTL_EN q) (hctl q)).trans (hoff q)
  rw [vinResult_eq] at ht
  rw [← ht] at hreach
  refine ⟨?_, congrArg (·.vinAt) hreach.gath, fun q => ?_, congrArg LogSt.reqs hreach.log, ?_⟩
  · exact (hreach.keeps.get (f := F.GATH_VINRES_VINRES) (by decide)).trans (State.get_put_of_lt vinres_fits code.isLt _)
  · exact (hreach.last q).trans (if_pos (mem_rails q))
  · exact (htake.mono (by simp)).trans (hreach.keeps.mono (List.subset_cons_self _ _))

/-- Settles O12, one clause for each event of the loop; with every rail disabled a VIN result starts no guard and reaches no detector. -/
theorem regulationLoop : Obligations.RegulationLoop := by
  unfold Obligations.RegulationLoop
  refine ⟨fun s r => ⟨_, rfl, dacLoad_loads rfl⟩, fun s ticket arg hfresh => ⟨_, rfl, compensatorClear_marks arg hfresh rfl⟩,
    fun s ticket arg hfresh => ⟨_, rfl, balanceClear_clears arg rfl hfresh rfl⟩, fun s r hguard hnew => ⟨_, rfl, ffMark_marks hguard hnew rfl⟩,
    fun s code hready hcode hoff => ?result, fun s code hready => ?level⟩
  case result =>
    have hscan : scanReady 0 0 code s = true := by
      unfold scanReady
      rw [hready, hcode]
      simp
    exact ⟨_, congrArg Host.Outcome.next (if_pos hscan), vinResult_stores hoff rfl⟩
  case level =>
    have hscan : scanReady 0 0 code s ≠ true := by
      unfold scanReady
      rw [hready]
      simp
    exact ⟨_, congrArg Host.Outcome.next (if_neg hscan), updAt_same _ _ _, rfl, rfl, rfl, (Keeps.refl _ s).congr rfl rfl rfl⟩

end Sys2Proof.Machine
end

section
/-!
PROOFS. The order of one cycle's declarations: an entry that is not the last of the log (R151, R158).
-/
namespace Sys2Proof.Machine

/-- Rail 0 regulates with OVERSHOOT asserted since its persistence timer started; faults 0 and 4 warn (R132, R137). -/
def overshooting : State :=
  protUpd 0 (fun q => { q with ovSince := some 0 })
    ((((State.reset.put (F.EDGEr_CTL_EN 0) 1).put (F.MRVr_STAT_STATE 0) mREG).put (F.GATH_CMPr_STAT_OVNOW 0) 1).wr (Reg.PROTr_RESP 0) 0x1001)

/-- Fault 4 has been declared on the rail in the present cycle. -/
def stageDeclared : State := sfResult 0 true overshooting

/-- The declaration of fault 0 in the same cycle is put before that of fault 4, whose entry stays the last (R151). -/
theorem lastLog_ovDue_stageDeclared : ((ovDue 0 stageDeclared).log.reqs.getLast?.map fun e => e.data.take 2) = some [0, 4] := by decide +kernel

/-- Refutes O13: the clauses on declarations ask for the declaration's entry as the last of the log, and the entries of one cycle stand in ascending
order of their faults (R151). An overvoltage declared after fault 4, in its cycle, has its entry before that of fault 4. -/
theorem not_protectionDetectors : ¬ Obligations.ProtectionDetectors := by
  unfold Obligations.ProtectionDetectors
  rintro ⟨hov, -⟩
  have hsince : stageDeclared.prot[(0 : Fin 4)].ovSince.isSome = true := by decide +kernel
  have hnow : stageDeclared.on (F.GATH_CMPr_STAT_OVNOW 0) = true := by decide +kernel
  have hacts : detAct 0 0 stageDeclared = true := by decide +kernel
  have habsent : condOn 0 0 stageDeclared = false := by decide +kernel
  have hwarns : respOf 0 0 stageDeclared = 1 := by decide +kernel
  obtain ⟨t, hrun, -, -, -, hlast, -⟩ := hov stageDeclared 0 hsince hnow hacts habsent hwarns
  obtain rfl : ovDue 0 stageDeclared = t := Host.Outcome.next.inj hrun
  have hfault := lastLog_ovDue_stageDeclared
  rw [hlast] at hfault
  exact absurd (Option.some.inj hfault) (by decide)

end Sys2Proof.Machine
end

section
/-!
PROOFS. Slots and pulses: the on-edge commit, the slot crossing, the off-edge, the ends of the minimum times and of a stop's low hold (R144, R167,
R170 to R176).
-/
namespace Sys2Proof.Machine

variable {r : Fin 4} {p : Fin 32} {s t : State}

/-! ## The on-edge commit (R167, R173) -/

theorem short_fits : ∀ r : Fin 4, fldFits (F.EDGEr_CNT_SHORT r) = true := by decide +kernel

theorem aimSlot_phasesOnly (r : Fin 4) (p : Fin 32) (s : State) : PhasesOnly s (aimSlot r p s) := by
  unfold aimSlot
  split
  · exact (PhasesOnly.refl s).phUpd _ _
  · exact .refl s

/-- Fixing a slot's instant changes that instant and the marks of the slot's turn alone. -/
theorem aimSlot_phase (r : Fin 4) (p : Fin 32) (s : State) : ∃ instant done next,
    (aimSlot r p s).phase[p] = { s.phase[p] with slotT := instant, slotDone := done, slotNext := next } := by
  unfold aimSlot
  split
  · exact ⟨_, _, _, phUpd_same _ _ _⟩
  · exact ⟨_, _, _, rfl⟩

/-- The request W and the minimum on-time do not depend on the slot's instant. -/
theorem aimSlot_request (r : Fin 4) (p : Fin 32) (s : State) : tonUsed r p (aimSlot r p s) = tonUsed r p s ∧
    (aimSlot r p s).phase[p].carry = s.phase[p].carry ∧ minOn r (aimSlot r p s) = minOn r s := by
  obtain ⟨instant, done, next, hphase⟩ := aimSlot_phase r p s
  have hframe := aimSlot_phasesOnly r p s
  unfold tonUsed minOn
  rw [hframe.on, hframe.lv, hphase]
  exact ⟨rfl, rfl, rfl⟩

/-- The request of a slot that is not short commits its pulse, with the carry it uses (R173). -/
theorem onEdgeCommit_of_long (hrail : railOf p s = some r) (hrun : mRunning r s = true) (hact : (active r s).contains p = true)
    (hton : tonUsed r p s ≠ 0) (hlong : 64 * minOn r s ≤ tonUsed r p s + s.phase[p].carry) :
    onEdgeCommit p s = phUpd p (fun h => { h with quiet := false, commit := some h.carry, commitStretch := false }) (aimSlot r p s) := by
  obtain ⟨hused, hcarry, hmin⟩ := aimSlot_request r p s
  unfold onEdgeCommit
  rw [hrail]
  dsimp only
  rw [hused, hcarry, hmin, if_neg (by rw [hrun, hact]; decide), if_neg hton, if_pos hlong]

/-- A short request under SPM = 1 is counted and dropped (R173). -/
theorem onEdgeCommit_of_short (hrail : railOf p s = some r) (hrun : mRunning r s = true) (hact : (active r s).contains p = true)
    (hton : tonUsed r p s ≠ 0) (hshort : tonUsed r p s + s.phase[p].carry < 64 * minOn r s) (hmode : s.lv (F.EDGEr_CTL_SPM r) = 1) :
    onEdgeCommit p s =
      phUpd p (fun h => { h with quiet := false, commit := none, carry := 0 }) ((aimSlot r p s).inc (F.EDGEr_CNT_SHORT r)) := by
  obtain ⟨hused, hcarry, hmin⟩ := aimSlot_request r p s
  unfold onEdgeCommit
  rw [hrail]
  dsimp only
  rw [hused, hcarry, hmin, if_neg (by rw [hrun, hact]; decide), if_neg hton, if_neg (Nat.not_le.mpr hshort),
    (aimSlot_phasesOnly r p s).lv, hmode]
  rfl

theorem onEdgeCommit_commits (hrail : railOf p s = some r) (hrun : mRunning r s = true) (hact : (active r s).contains p = true)
    (hton : tonUsed r p s ≠ 0) (hlong : 64 * minOn r s ≤ tonUsed r p s + s.phase[p].carry) (ht : t = onEdgeCommit p s) :
    t.phase[p].quiet = false ∧ t.phase[p].commit = some s.phase[p].carry ∧ t.phase[p].out = s.phase[p].out ∧ NoLog s t ∧ Keeps [] s t := by
  rw [onEdgeCommit_of_long hrail hrun hact hton hlong] at ht
  subst ht
  obtain ⟨instant, done, next, hphase⟩ := aimSlot_phase r p s
  have hframe := (aimSlot_phasesOnly r p s).phUpd p fun h => { h with quiet := false, commit := some h.carry, commitStretch := false }
  rw [phUpd_same, hphase]
  exact ⟨rfl, rfl, rfl, congrArg LogSt.reqs hframe.log, hframe.keeps _⟩

theorem onEdgeCommit_drops (hrail : railOf p s = some r) (hrun : mRunning r s = true) (hact : (active r s).contains p = true)
    (hton : tonUsed r p s ≠ 0) (hshort : tonUsed r p s + s.phase[p].carry < 64 * minOn r s) (hmode : s.lv (F.EDGEr_CTL_SPM r) = 1)
    (ht : t = onEdgeCommit p s) :
    t.phase[p].commit = none ∧ t.phase[p].carry = 0 ∧
      t.get (F.EDGEr_CNT_SHORT r) = satInc (F.EDGEr_CNT_SHORT r).width (s.get (F.EDGEr_CNT_SHORT r)) 1 ∧ NoLog s t ∧ Keeps [Reg.EDGEr_CNT r] s t := by
  rw [onEdgeCommit_of_short hrail hrun hact hton hshort hmode] at ht
  subst ht
  have haim := aimSlot_phasesOnly r p s
  rw [phUpd_same]
  refine ⟨rfl, rfl, ?_, congrArg LogSt.reqs haim.log, ?_⟩
  · exact (State.get_inc_same (short_fits r) _ 1).trans (by rw [haim.get])
  · exact ((haim.keeps [Reg.EDGEr_CNT r]).inc 1 (f := F.EDGEr_CNT_SHORT r) (.head _)).phases ((PhasesOnly.refl _).phUpd p _)

/-! ## The slot crossing (R167, R173) -/

/-- A pulse that begins touches its phase and its timers alone (R170). -/
theorem issue_phasesOnly (r : Fin 4) (p : Fin 32) (k on c : Nat) (stretch : Bool) (s : State) : PhasesOnly s (issue r p k on c stretch s) :=
  ((((PhasesOnly.refl s).phUpd _ _).cancel _).phUpd _ _).restart _ _

/-- A pulse that begins is HIGH from its instant on, with its off-edge and its midpoint ahead (R80, R170, R173). -/
theorem issue_phase (r : Fin 4) (p : Fin 32) (k on c : Nat) (s : State) : ∃ off mid, (issue r p k on c false s).phase[p] = { s.phase[p] with
    out := .high, onT := on, rail := r, minOff := false, carry := 0, cUsed := c, stretch := false, commit := none, quiet := false, midT := some mid
    offT := some off } := by
  have hcancel : ∀ u : State, (u.cancel (.minOffTimeEnd p)).phase[p] = u.phase[p] := fun _ => rfl
  have hoff : ∀ (u : State) (off : Nat), (setOff p off u).phase[p] = { u.phase[p] with offT := some off } := fun u off => phUpd_same u p _
  unfold issue
  dsimp only
  rw [hoff, hcancel, phUpd_same]
  exact ⟨_, _, rfl⟩

/-- A crossing of an active phase notes its position and takes the slot's commit (R121, R173). -/
def slotTaken (r : Fin 4) (p : Fin 32) (k : Nat) (s : State) : State :=
  phUpd p (fun h => { h with quiet := false, commit := none, slotT := none }) (mrvUpd r (fun m => { m with lastPos := k }) s)

/-- A committed pulse that nothing blocks begins at the slot's instant (R167, R173). -/
theorem slotCrossing_of_committed {k c : Nat} (hrail : railOf p s = some r) (hpos : posOf r p s = some k) (hrun : mRunning r s = true)
    (hact : (active r s).contains p = true) (hloud : s.phase[p].quiet = false)
    (hfree : slotBlocked r p (s.phase[p].slotT.getD (onEdgeTime r p k s)) s = false) (hcommit : s.phase[p].commit = some c)
    (hplain : s.phase[p].commitStretch = false) :
    slotCrossing p s = issue r p k (s.phase[p].slotT.getD (onEdgeTime r p k s)) c false (slotTaken r p k s) := by
  have hblock : slotBlocked r p (s.phase[p].slotT.getD (onEdgeTime r p k s)) (mrvUpd r (fun m => { m with lastPos := k }) s) = false := hfree
  have hphase : ∀ f, (mrvUpd r f s).phase = s.phase := fun _ => rfl
  unfold slotCrossing
  rw [hrail]
  dsimp only
  rw [hpos]
  dsimp only
  rw [if_neg (by rw [hrun, hact]; decide), hphase, hloud, if_neg Bool.false_ne_true, hblock, if_neg Bool.false_ne_true, hcommit, hplain]
  rfl

theorem slotCrossing_pulses {k c : Nat} (hrail : railOf p s = some r) (hpos : posOf r p s = some k) (hrun : mRunning r s = true)
    (hact : (active r s).contains p = true) (hloud : s.phase[p].quiet = false)
    (hfree : slotBlocked r p (s.phase[p].slotT.getD (onEdgeTime r p k s)) s = false) (hcommit : s.phase[p].commit = some c)
    (hplain : s.phase[p].commitStretch = false) (ht : t = slotCrossing p s) :
    t.phase[p].out = .high ∧ t.phase[p].onT = s.phase[p].slotT.getD (onEdgeTime r p k s) ∧ t.phase[p].carry = 0 ∧ t.phase[p].cUsed = c ∧
      t.phase[p].offT.isSome = true ∧ t.mrv[r].lastPos = k ∧ NoLog s t ∧ Keeps [] s t := by
  rw [slotCrossing_of_committed hrail hpos hrun hact hloud hfree hcommit hplain] at ht
  subst ht
  have htaken := (PhasesOnly.refl (mrvUpd r (fun m => { m with lastPos := k }) s)).phUpd p fun h => { h with quiet := false, commit := none, slotT := none }
  have hframe := htaken.trans (issue_phasesOnly r p k (s.phase[p].slotT.getD (onEdgeTime r p k s)) c false _)
  obtain ⟨off, mid, hphase⟩ := issue_phase r p k (s.phase[p].slotT.getD (onEdgeTime r p k s)) c (slotTaken r p k s)
  rw [hphase]
  refine ⟨rfl, rfl, rfl, rfl, rfl, ?_, congrArg LogSt.reqs hframe.log, ((Keeps.refl _ s).mrvUpd r _).phases hframe⟩
  exact (congrArg (·[r].lastPos) hframe.mrv).trans (congrArg Mrv.lastPos (mrvUpd_same s r _))

/-! ## The off-edge (R170, R172, R176) -/

/-- The fall of an active phase at an instant, with no blanking, is its turning off and no more (R176). -/
theorem fallAt_of_active (t64 : Nat) (hact : (active r s).contains p = true) (hblank : s.on (F.MRVr_STAT_OVBLK r) = false) :
    fallAt r p t64 s = phaseOffAt r p t64 s := by
  have hsettle : settle r p (phaseOffAt r p t64 s) = phaseOffAt r p t64 s :=
    if_pos (.inl (by rw [(phaseOffAt_phasesOnly s r p t64).active]; exact hact))
  unfold fallAt
  dsimp only
  rw [hsettle, if_neg (fun h => by rw [hblank] at h; exact absurd h.1 (by decide))]

/-- The end of the minimum off-time that a turn-off begins is scheduled (R172). -/
theorem mem_timers_phaseOffAt (t64 : Nat) (hhigh : s.phase[p].out = .high) :
    (s.clk.ns + ((t64 + 64 * minOff r s + 63) / 64 - s.clk.ns), .minOffTimeEnd p) ∈ (phaseOffAt r p t64 s).timers := by
  unfold phaseOffAt
  dsimp only
  rw [if_pos hhigh]
  exact State.mem_timers_after _ _ rfl

theorem offEdge_falls (hrail : railOf p s = some r) (hhigh : s.phase[p].out = .high) (hfree : s.phase[p].forced = false)
    (hact : (active r s).contains p = true) (hblank : s.on (F.MRVr_STAT_OVBLK r) = false) (ht : t = offEdge p s) :
    t.phase[p].out = .low ∧ t.phase[p].minOff = true ∧ t.phase[p].offT = none ∧
      t.phase[p].minOffT = s.phase[p].offT.getD s.now64 + 64 * minOff r s ∧
      (s.clk.ns + ((s.phase[p].offT.getD s.now64 + 64 * minOff r s + 63) / 64 - s.clk.ns), .minOffTimeEnd p) ∈ t.timers ∧ NoLog s t ∧
        Keeps [] s t := by
  have hrun : offEdge p s = phaseOffAt r p (s.phase[p].offT.getD s.now64) s := by
    unfold offEdge
    dsimp only
    rw [if_pos ⟨hhigh, by rw [hfree]; rfl⟩, hrail]
    exact fallAt_of_active _ hact hblank
  rw [hrun] at ht
  subst ht
  have hframe := phaseOffAt_phasesOnly s r p (s.phase[p].offT.getD s.now64)
  have htimer := mem_timers_phaseOffAt (r := r) (s.phase[p].offT.getD s.now64) hhigh
  rw [phaseOffAt_phase_of_high _ hhigh]
  exact ⟨rfl, rfl, rfl, rfl, htimer, congrArg LogSt.reqs hframe.log, hframe.keeps _⟩

/-! ## The ends of the minimum times (R125, R172, R181) -/

/-- A phase of no rail that nothing holds goes to MID as its minimum off-time ends (R172). -/
theorem minOffEnd_rests (hlow : s.phase[p].out = .low) (hfree : s.phase[p].held = none) (hrail : railOf p s = none) (ht : t = minOffEnd p s) :
    t.phase[p].out = .mid ∧ t.phase[p].minOff = false ∧ NoLog s t ∧ Keeps [] s t := by
  have hrun : minOffEnd p s = phUpd p (fun h => { h with out := .mid, toMid := false }) (phUpd p (fun h => { h with minOff := false }) s) := by
    unfold minOffEnd
    rw [hlow, if_neg (by decide), hfree]
    dsimp only
    rw [hrail]
  rw [hrun] at ht
  subst ht
  have hframe := ((PhasesOnly.refl s).phUpd p fun h => { h with minOff := false }).phUpd p fun h => { h with out := .mid, toMid := false }
  rw [phUpd_same, phUpd_same]
  exact ⟨rfl, rfl, congrArg LogSt.reqs hframe.log, hframe.keeps _⟩

/-- A held phase whose turn-off waited for its minimum on-time turns off (R181). -/
theorem minOnEnd_turnsOff (hhigh : s.phase[p].out = .high) (hwait : s.phase[p].offPending = true) (hheld : s.phase[p].held = some r)
    (ht : t = minOnEnd p s) :
    t.phase[p].out = .low ∧ t.phase[p].minOff = true ∧ t.phase[p].toMid = true ∧ t.phase[p].offPending = false ∧ NoLog s t ∧ Keeps [] s t := by
  have hrun : minOnEnd p s = phUpd p (fun h => { h with toMid := true }) (phaseOffAt r p s.now64 s) := by
    unfold minOnEnd
    rw [if_pos ⟨hhigh, hwait⟩, hheld]
    rfl
  rw [hrun] at ht
  subst ht
  have hframe := (phaseOffAt_phasesOnly s r p s.now64).phUpd p fun h => { h with toMid := true }
  rw [phUpd_same, phaseOffAt_phase_of_high _ hhigh]
  exact ⟨rfl, rfl, rfl, rfl, congrArg LogSt.reqs hframe.log, hframe.keeps _⟩

/-! ## The end of a low hold (R144) -/

theorem enout_fits : ∀ r : Fin 4, fldFits (F.EDGEr_STAT_ENOUT r) = true := by decide +kernel

/-- A phase held by a rail goes to MID as the hold ends (R144). -/
def endHeld (r : Fin 4) (p : Fin 32) (s : State) : State :=
  if s.phase[p].held = some r then
    (phUpd p (fun h => { h with out := .mid, held := none, toMid := false, minOff := false }) s).cancel (.minOffTimeEnd p)
  else s

/-- The low hold of a rail has ended for its phases and for its edge generator (R144). -/
def holdEnded (r : Fin 4) (s : State) : State := edgeUpd r (fun e => { e with lowHold := false }) (s.each (List.finRange 32) (endHeld r))

theorem holdEnd_eq (r : Fin 4) (s : State) : holdEnd r s =
    if s.edge[r].roseAt.isSome ∨ eState r s = eRUN then holdEnded r s else (holdEnded r s).put (F.EDGEr_STAT_ENOUT r) 0 := rfl

theorem each_endHeld_phasesOnly (r : Fin 4) (ps : List (Fin 32)) (s : State) : PhasesOnly s (s.each ps (endHeld r)) :=
  (PhasesOnly.refl s).each ps fun p v => .ite (((PhasesOnly.refl v).phUpd p _).cancel _) (.refl v)

theorem endHeld_phase_self (hheld : s.phase[p].held = some r) :
    (endHeld r p s).phase[p] = { s.phase[p] with out := .mid, held := none, toMid := false, minOff := false } := by
  unfold endHeld
  rw [if_pos hheld]
  exact phUpd_same s p _

theorem endHeld_phase_ne {q : Fin 32} (hq : p ≠ q) : (endHeld r q s).phase[p] = s.phase[p] := by
  unfold endHeld
  split
  · exact (updAt_get s.phase q p _).trans (if_neg hq)
  · rfl

/-- A phase that is not held stays as it is while the others are released. -/
theorem each_endHeld_phase_of_free (ps : List (Fin 32)) (hfree : s.phase[p].held = none) : (s.each ps (endHeld r)).phase[p] = s.phase[p] := by
  induction ps generalizing s with
  | nil => rfl
  | cons q ps ih =>
    have hone : (endHeld r q s).phase[p] = s.phase[p] := by
      by_cases hq : p = q
      · subst hq
        unfold endHeld
        rw [if_neg (by rw [hfree]; nofun)]
      · exact endHeld_phase_ne hq
    rw [State.each_cons, ih (by rw [hone, hfree]), hone]

/-- A held phase among those released goes to MID. -/
theorem each_endHeld_phase {ps : List (Fin 32)} (hmem : p ∈ ps) (hheld : s.phase[p].held = some r) :
    (s.each ps (endHeld r)).phase[p] = { s.phase[p] with out := .mid, held := none, toMid := false, minOff := false } := by
  induction ps generalizing s with
  | nil => exact absurd hmem List.not_mem_nil
  | cons q ps ih =>
    rw [State.each_cons]
    by_cases hq : p = q
    · subst hq
      rw [each_endHeld_phase_of_free _ (by rw [endHeld_phase_self hheld]), endHeld_phase_self hheld]
    · have hone := endHeld_phase_ne (r := r) (s := s) hq
      rw [ih ((List.mem_cons.mp hmem).resolve_left hq) (by rw [hone, hheld]), hone]

theorem Keeps.edgeUpd {l : List Nat} (h : Keeps l s t) (r : Fin 4) (f : EdgeSt → EdgeSt) : Keeps l s (edgeUpd r f t) := h.congr rfl rfl rfl

theorem edgeUpd_log (r : Fin 4) (f : EdgeSt → EdgeSt) (s : State) : (edgeUpd r f s).log = s.log := rfl

theorem holdEnded_log (r : Fin 4) (s : State) : (holdEnded r s).log = s.log :=
  (edgeUpd_log r _ _).trans (each_endHeld_phasesOnly r _ s).log

theorem edgeUpd_phase (r : Fin 4) (f : EdgeSt → EdgeSt) (s : State) : (edgeUpd r f s).phase = s.phase := rfl

theorem holdEnded_phase (hheld : s.phase[p].held = some r) :
    (holdEnded r s).phase[p] = { s.phase[p] with out := .mid, held := none, toMid := false, minOff := false } := by
  unfold holdEnded
  rw [edgeUpd_phase]
  exact each_endHeld_phase (List.mem_finRange p) hheld

theorem edgeUpd_same (s : State) (r : Fin 4) (f : EdgeSt → EdgeSt) : (edgeUpd r f s).edge[r] = f s.edge[r] := updAt_same _ _ _

theorem holdEnded_lowHold (r : Fin 4) (s : State) : (holdEnded r s).edge[r].lowHold = false := congrArg EdgeSt.lowHold (edgeUpd_same _ r _)

theorem holdEnded_keeps (r : Fin 4) (s : State) : Keeps [] s (holdEnded r s) := ((each_endHeld_phasesOnly r _ s).keeps _).edgeUpd r _

/-- The hold of a stopped rail ends: its phases go to MID and ENr goes low; a rail that does not run begins no episode (R121, R144). -/
theorem lowHoldEnd_ends (hlow : s.edge[r].lowHold = true) (hdone : holdWaits r s = false) (hheld : s.phase[p].held = some r) (hhalt : eState r s = 3)
    (hrose : s.edge[r].roseAt = none) (hstopped : mRunning r s = false) (ht : t = lowHoldEnd r s) :
    t.edge[r].lowHold = false ∧ t.phase[p].out = .mid ∧ t.phase[p].held = none ∧ t.get (F.EDGEr_STAT_ENOUT r) = 0 ∧ NoLog s t ∧
      Keeps [Reg.EDGEr_STAT r] s t := by
  have hkeeps : Keeps [Reg.EDGEr_STAT r] s ((holdEnded r s).put (F.EDGEr_STAT_ENOUT r) 0) :=
    ((holdEnded_keeps r s).mono (List.nil_subset _)).put 0 (f := F.EDGEr_STAT_ENOUT r) (.head _)
  have hend : holdEnd r s = (holdEnded r s).put (F.EDGEr_STAT_ENOUT r) 0 := by
    rw [holdEnd_eq, if_neg (by rw [hrose, hhalt]; decide)]
  have hbarred : gloryCond r (holdEnd r s) = false := by
    have hstat : ∀ r : Fin 4, Reg.MRVr_STAT r ∉ [Reg.EDGEr_STAT r] := by decide
    have hstate : mState r ((holdEnded r s).put (F.EDGEr_STAT_ENOUT r) 0) = mState r s := hkeeps.get (f := F.MRVr_STAT_STATE r) (hstat r)
    unfold gloryCond mRunning
    rw [hend, hstate]
    exact Bool.and_eq_false_imp.mpr fun h => absurd (hstopped.symm.trans h) Bool.false_ne_true
  have hrun : lowHoldEnd r s = (holdEnded r s).put (F.EDGEr_STAT_ENOUT r) 0 := by
    unfold lowHoldEnd
    rw [if_pos (by rw [hlow, hdone]; rfl), gloryStart_of_barred hbarred, hend]
  rw [hrun] at ht
  subst ht
  rw [State.put_phase, State.put_edge, holdEnded_phase hheld]
  exact ⟨holdEnded_lowHold r s, rfl, rfl, State.get_put_of_lt (enout_fits r) (Nat.two_pow_pos _) _,
    congrArg LogSt.reqs ((State.put_log _ _ _).trans (holdEnded_log r s)), hkeeps⟩

/-- Settles O15, one clause for each event of a pulse: each touches its phase and timers, beyond the count of short requests and ENr. -/
theorem pulses : Obligations.Pulses := by
  unfold Obligations.Pulses
  exact ⟨fun s p r hrail hrun hact hton hlong => ⟨_, rfl, onEdgeCommit_commits hrail hrun hact hton hlong rfl⟩,
    fun s p r hrail hrun hact hton hshort hmode => ⟨_, rfl, onEdgeCommit_drops hrail hrun hact hton hshort hmode rfl⟩,
    fun s p r k c hrail hpos hrun hact _ hloud hfree hcommit hplain =>
      ⟨_, rfl, slotCrossing_pulses hrail hpos hrun hact hloud hfree hcommit hplain rfl⟩,
    fun s p r hrail hhigh hfree hact hblank => ⟨_, rfl, offEdge_falls hrail hhigh hfree hact hblank rfl⟩,
    fun s p hlow hfree hrail => ⟨_, rfl, minOffEnd_rests hlow hfree hrail rfl⟩,
    fun s p r hhigh hwait hheld => ⟨_, rfl, minOnEnd_turnsOff hhigh hwait hheld rfl⟩,
    fun s r p hlow hdone hheld hhalt hrose hstopped => ⟨_, rfl, lowHoldEnd_ends hlow hdone hheld hhalt hrose hstopped rfl⟩⟩

end Sys2Proof.Machine
end

section
/-!
PROOFS. The frame of a stop and of a disable, field by field: which fields of the registers the operations of a rail set, while domains, motors, memory
and the queue stay (R144 to R157).
-/
namespace Sys2Proof.Machine

variable {l m : List Fld} {s t u : State}

/-! ## The frame -/

/-- A field shares no bit with any field of a list, as a test. -/
def apartAll (l : List Fld) (g : Fld) : Bool := l.all fun f => fldApart f g

/-- Of the registers nothing differs but the listed fields; the domains, the motors, memory and the queue are as before. -/
structure Alters (l : List Fld) (s t : State) : Prop where
  get : ∀ g, apartAll l g = true → t.get g = s.get g
  dom : t.dom = s.dom
  mot : t.mot = s.mot
  mem : t.mem = s.mem
  pending : t.pending = s.pending

theorem Alters.refl (l : List Fld) (s : State) : Alters l s s := ⟨fun _ _ => rfl, rfl, rfl, rfl, rfl⟩

theorem Alters.trans (h : Alters l s t) (k : Alters l t u) : Alters l s u :=
  ⟨fun g hg => (k.get g hg).trans (h.get g hg), k.dom.trans h.dom, k.mot.trans h.mot, k.mem.trans h.mem, k.pending.trans h.pending⟩

theorem Alters.mono (h : Alters l s t) (hlm : l ⊆ m) : Alters m s t :=
  ⟨fun g hg => h.get g (List.all_eq_true.mpr fun f hf => List.all_eq_true.mp hg f (hlm hf)), h.dom, h.mot, h.mem, h.pending⟩

/-- One operation after another: the fields of both. -/
theorem Alters.andThen (h : Alters l s t) (k : Alters m t u) : Alters (l ++ m) s u :=
  (h.mono (List.subset_append_left l m)).trans (k.mono (List.subset_append_right l m))

/-- Registers, domains, motors, memory and the queue are all that the frame speaks of. -/
theorem Alters.congr (h : Alters l s t) (hregs : u.regs = t.regs) (hdom : u.dom = t.dom) (hmot : u.mot = t.mot) (hmem : u.mem = t.mem)
    (hpend : u.pending = t.pending) : Alters l s u :=
  h.trans ⟨fun g _ => by rw [State.get_regs, hregs, ← State.get_regs], hdom, hmot, hmem, hpend⟩

theorem Alters.on (h : Alters l s t) {g : Fld} (hg : apartAll l g = true) : t.on g = s.on g := congrArg (· != 0) (h.get g hg)

theorem Alters.bit (h : Alters l s t) {g : Fld} (hg : apartAll l g = true) (i : Nat) : t.bit g i = s.bit g i :=
  congrArg (fun n => n.testBit i) (h.get g hg)

theorem Alters.sameMem (h : Alters l s t) : SameMem s t := .of_eq h.mem h.pending

/-! ## Through the basic updates -/

theorem Alters.put (h : Alters l s t) {f : Fld} (v : Nat) (hf : f ∈ l) : Alters l s (t.put f v) :=
  h.trans ⟨fun _ hg => State.get_put_apart (List.all_eq_true.mp hg f hf) v t, rfl, rfl, rfl, rfl⟩

theorem Alters.inc (h : Alters l s t) {f : Fld} (k : Nat) (hf : f ∈ l) : Alters l s (t.inc f k) :=
  (h.put _ hf).congr (State.inc_regs_put t f k) rfl rfl rfl rfl

theorem Alters.setBit (h : Alters l s t) {f : Fld} (i : Nat) (hf : f ∈ l) : Alters l s (t.setBit f i) :=
  (h.put _ hf).congr (State.setBit_regs_put t f i) rfl rfl rfl rfl

theorem Alters.putBit (h : Alters l s t) {f : Fld} (i : Nat) (b : Bool) (hf : f ∈ l) : Alters l s (t.putBit f i b) := by
  cases b
  · exact (h.put (t.get f - (if (t.get f).testBit i then 2 ^ i else 0)) hf).congr rfl rfl rfl rfl rfl
  · exact h.setBit i hf

/-- A register taken whole. -/
def wholeReg (a : Nat) : Fld := ⟨a, 0, 32⟩

theorem fldInto_wholeReg (a : Nat) (w old : Word) : fldInto (wholeReg a) w.toNat old = w := by
  have hmask : fldMask (wholeReg a) = BitVec.allOnes 32 := show BitVec.ofNat 32 ((2 ^ 32 - 1) * 2 ^ 0) = _ by decide
  unfold fldInto
  rw [hmask, BitVec.not_allOnes, BitVec.and_zero, BitVec.zero_or, show (wholeReg a).width = 32 from rfl, show (wholeReg a).lo = 0 from rfl,
    Nat.mod_eq_of_lt w.isLt, Nat.pow_zero, Nat.mul_one, BitVec.ofNat_toNat, BitVec.setWidth_eq]

theorem Alters.wr (h : Alters l s t) {a : Nat} (w : Word) (ha : wholeReg a ∈ l) : Alters l s (t.wr a w) := by
  refine (h.put w.toNat ha).congr ?_ rfl rfl rfl rfl
  rw [State.put_regs_wr, fldInto_wholeReg]
  rfl

theorem Alters.ite {c : Prop} [Decidable c] (h : Alters l s t) (k : Alters l s u) : Alters l s (if c then t else u) := by
  split
  · exact h
  · exact k

theorem Alters.when (h : Alters l s t) (c : Bool) {f : State → State} (hf : Alters l s (f t)) : Alters l s (t.when c f) := by
  cases c
  · exact h
  · exact hf

theorem Alters.each {α : Type} (h : Alters l s t) (xs : List α) {f : α → State → State} (hf : ∀ x v, Alters l v (f x v)) :
    Alters l s (t.each xs f) :=
  h.trans (State.each_rel (Alters l) (.refl l) (fun _ _ _ => .trans) xs f hf t)

theorem PhasesOnly.alters (h : PhasesOnly s t) (l : List Fld) : Alters l s t := by
  obtain ⟨ph, q, rfl⟩ := h
  exact (Alters.refl l s).congr rfl rfl rfl rfl rfl

theorem Alters.phases (h : Alters l s t) (k : PhasesOnly t u) : Alters l s u := h.trans (k.alters l)
theorem Alters.cancel (h : Alters l s t) (c : Instr) : Alters l s (t.cancel c) := h.congr rfl rfl rfl rfl rfl
theorem Alters.restart (h : Alters l s t) (n : Nat) (c : Instr) : Alters l s (t.restart n c) := h.congr rfl rfl rfl rfl rfl
theorem Alters.logReq (h : Alters l s t) (b c : Nat) (d : List Byte) : Alters l s (t.logReq b c d) := h.congr rfl rfl rfl rfl rfl
theorem Alters.phUpd (h : Alters l s t) (p : Fin 32) (f : Phase → Phase) : Alters l s (phUpd p f t) := h.congr rfl rfl rfl rfl rfl
theorem Alters.mrvUpd (h : Alters l s t) (r : Fin 4) (f : Mrv → Mrv) : Alters l s (mrvUpd r f t) := h.congr rfl rfl rfl rfl rfl
theorem Alters.protUpd (h : Alters l s t) (r : Fin 4) (f : Prot → Prot) : Alters l s (protUpd r f t) := h.congr rfl rfl rfl rfl rfl
theorem Alters.edgeUpd (h : Alters l s t) (r : Fin 4) (f : EdgeSt → EdgeSt) : Alters l s (edgeUpd r f t) := h.congr rfl rfl rfl rfl rfl
theorem Alters.parUpd (h : Alters l s t) (r : Fin 4) (f : Par → Par) : Alters l s (parUpd r f t) := h.congr rfl rfl rfl rfl rfl

theorem Alters.fire (h : Alters l s t) (src : Nat) (ha : F.EVM_FAST_FAST ∈ l) : Alters l s (t.fire src) :=
  .ite (h.inc 1 ha) (h.congr rfl rfl rfl rfl rfl)

/-! ## Attention and events (R151, R157, R428, R435) -/

/-- The attention causes of the two-wire ports and the alerts of the AVSBus ports. -/
def attnFields : List Fld := [F.TWn_ATTN_CAUSE 0, F.TWn_ATTN_CAUSE 1, F.AVSn_STAT_ALERT 0, F.AVSn_STAT_ALERT 1]

theorem attnKick_alters (n : Fin 2) (l : List Fld) (s : State) : Alters l s (attnKick n s) := by
  unfold attnKick
  split
  · exact .ite ((Alters.refl l s).restart _ _) (.refl l s)
  · exact (Alters.refl l s).congr rfl rfl rfl rfl rfl
  · exact .refl l s

theorem twCause_alters (n : Fin 2) (bit : Nat) (s : State) : Alters attnFields s (twCause n bit s) := by
  have hmem : ∀ n : Fin 2, F.TWn_ATTN_CAUSE n ∈ attnFields := by decide
  have hset := (Alters.refl attnFields s).setBit bit (hmem n)
  exact .ite (.refl _ s) (.ite hset (hset.trans (attnKick_alters n _ _)))

theorem railAttn_alters (r : Fin 4) (s : State) : Alters attnFields s (railAttn r s) := by
  have hone : ∀ (n : Nat) (v : State), F.AVSn_STAT_ALERT n ∈ attnFields →
      Alters attnFields v (if twOn v && v.bit (F.AVSn_CTL_RAILEN n) r then v.put (F.AVSn_STAT_ALERT n) 1 else v) :=
    fun n v hn => .ite ((Alters.refl _ v).put 1 hn) (.refl _ v)
  have hcauses := (twCause_alters 0 r s).trans (twCause_alters 1 r _)
  exact (hcauses.trans (hone 0 _ (by decide))).trans (hone 1 _ (by decide))

theorem protFire_alters (r : Fin 4) (i : Nat) (s : State) : Alters [F.EVM_FAST_FAST] s (protFire r i s) :=
  .ite (.refl _ s) (((Alters.refl _ s).fire _ (.head _)).protUpd r _)

/-! ## The low hold (R144, R163, R181) -/

theorem holdPhase_phasesOnly (r : Fin 4) (p : Fin 32) (s : State) : PhasesOnly s (holdPhase r p s) := ((PhasesOnly.refl s).phUpd _ _).restart _ _

theorem holdEnd_alters (r : Fin 4) (s : State) : Alters [F.EDGEr_STAT_ENOUT r] s (holdEnd r s) :=
  have hended : Alters [F.EDGEr_STAT_ENOUT r] s (holdEnded r s) := ((each_endHeld_phasesOnly r _ s).alters _).edgeUpd r _
  holdEnd_eq r s ▸ .ite hended (hended.put 0 (.head _))

theorem lowHold_alters (r : Fin 4) (obeyMinOn : Bool) (s : State) : Alters [F.EDGEr_STAT_ENOUT r] s (lowHold r obeyMinOn s) := by
  have hoff : PhasesOnly s (s.each (stopPhases r s) fun p t => holdPhase r p (if obeyMinOn then phaseOffMinOn r p t else phaseOff r p t)) :=
    (PhasesOnly.refl s).each _ fun p v =>
      (PhasesOnly.ite (phaseOffMinOn_phasesOnly v r p) (phaseOffAt_phasesOnly v r p _)).trans (holdPhase_phasesOnly r p _)
  have hheld : ∀ f, Alters [F.EDGEr_STAT_ENOUT r] s (edgeUpd r f _) := fun f => (hoff.alters _).edgeUpd r f
  exact .ite ((hheld _).restart _ _) (.ite ((hheld _).edgeUpd r _) (((hheld _).trans (holdEnd_alters r _)).put 0 (.head _)))

/-! ## The engine's stop (R103, R111, R123) -/

/-- The fields that an engine leaving its running states sets: Glory's count and state, N, STATE and SYS_SPEED.HLRUN. -/
def leaveFields (r : Fin 4) : List Fld := [F.MRVr_GLCNT_EP r, F.MRVr_STAT_GLACT r, F.MRVr_STAT_N r, F.MRVr_STAT_STATE r, F.SYS_SPEED_HLRUN]

theorem gloryEnd_alters (r : Fin 4) (s : State) : Alters (leaveFields r) s (gloryEnd r s) := by
  unfold gloryEnd gloryStop leaveFields
  exact .ite (((((((Alters.refl _ s).inc 1 (f := F.MRVr_GLCNT_EP r) (by simp)).logReq _ _ _).cancel _).mrvUpd r _).put 0
    (f := F.MRVr_STAT_GLACT r) (by simp)).mrvUpd r _) (.refl _ s)

theorem mstate_fits : ∀ r : Fin 4, fldFits (F.MRVr_STAT_STATE r) = true := by decide +kernel
theorem railN_fits : ∀ r : Fin 4, fldFits (F.MRVr_STAT_N r) = true := by decide +kernel

theorem setN_alters (r : Fin 4) (n : Nat) (s : State) : Alters [F.MRVr_STAT_N r] s (setN r n s) := ((Alters.refl _ s).put n (.head _)).mrvUpd r _

theorem setM_alters (r : Fin 4) (st : Nat) (s : State) : Alters [F.MRVr_STAT_STATE r, F.SYS_SPEED_HLRUN] s (setM r st s) :=
  ((Alters.refl _ s).put st (.head _)).put _ (f := F.SYS_SPEED_HLRUN) (.tail _ (.head _))

theorem setM_state (r : Fin 4) {st : Nat} (hst : st < 8) (s : State) : mState r (setM r st s) = st := by
  have hapart : ∀ r : Fin 4, fldApart F.SYS_SPEED_HLRUN (F.MRVr_STAT_STATE r) = true := by decide +kernel
  exact (State.get_put_apart (hapart r) _ _).trans (State.get_put_of_lt (mstate_fits r) hst s)

/-- An engine that leaves its running states shows the new state and N = 0 (R111). -/
theorem mLeave_leaves (r : Fin 4) {st : Nat} (hst : st < 8) (s : State) : mState r (mLeave r st s) = st ∧ railN r (mLeave r st s) = 0 ∧
    Alters (leaveFields r) s (mLeave r st s) := by
  have hapart : ∀ r : Fin 4, apartAll [F.MRVr_STAT_STATE r, F.SYS_SPEED_HLRUN] (F.MRVr_STAT_N r) = true := by decide +kernel
  unfold mState railN mLeave
  rw [mrvUpd_get, mrvUpd_get]
  refine ⟨setM_state r hst _, ?_, ?_⟩
  · exact ((setM_alters r st _).get _ (hapart r)).trans (State.get_put_of_lt (railN_fits r) (Nat.two_pow_pos _) _)
  · have hn : Alters (leaveFields r) s (setN r 0 ((gloryEnd r s).cancel (.slewStep r))) :=
      ((gloryEnd_alters r s).cancel _).trans ((setN_alters r 0 _).mono (by simp [leaveFields]))
    exact (hn.trans ((setM_alters r st _).mono (by simp [leaveFields]))).mrvUpd r _

/-! ## Detectors, freeze, Parison, RINGTEST (R135, R183, R217, R387) -/

theorem idleFast_alters (r : Fin 4) (s : State) : Alters [F.PROTr_STAT_COND r] s (idleFast r s) := by
  have hclear : ∀ (f : Nat) {v : State}, Alters [F.PROTr_STAT_COND r] s v → Alters [F.PROTr_STAT_COND r] s (condPut r f false v) :=
    fun f _ h => h.putBit f false (.head _)
  have hconds := hclear 8 (hclear 3 (hclear 2 (hclear 1 (hclear 0 (.refl _ s)))))
  have hwhen : ∀ (c : Bool) (i : Instr) {v : State}, Alters [F.PROTr_STAT_COND r] s v →
      Alters [F.PROTr_STAT_COND r] s (v.when c fun w => w.cancel i) := fun c i _ h => h.when c (h.cancel i)
  exact (((hwhen _ _ (hwhen _ _ hconds)).cancel _).protUpd r _).each _ fun p v => (Alters.refl _ v).phUpd p _

theorem limEnd_alters (r : Fin 4) (s : State) : Alters [F.PROTr_STAT_LCNT r] s (limEnd r s) :=
  (((Alters.refl _ s).put 0 (.head _)).protUpd r _).each _ fun p v => (Alters.refl _ v).phUpd p _

theorem freezeEnd_alters (r : Fin 4) (s : State) : Alters [F.EDGEr_STAT_FRZ r, F.EDGEr_STAT_FRZLEFT r] s (freezeEnd r s) :=
  ((Alters.refl _ s).put 0 (.head _)).put 0 (.tail _ (.head _))

/-- The fields that Parison's abort sets. -/
def parFields (r : Fin 4) : List Fld := [F.PARr_STAT_STATE r, F.PARr_STAT_PEND r, F.PARr_STAT_NPAR r, F.PARr_P_P r]

theorem parAbort_alters (r : Fin 4) (cause : Nat) (s : State) : Alters (parFields r) s (parAbort r cause s) := by
  unfold parAbort parFields
  exact .ite (((((((Alters.refl _ s).logReq _ _ _).put 0 (f := F.PARr_STAT_STATE r) (by simp)).put 0 (f := F.PARr_STAT_PEND r) (by simp)).put 0
    (f := F.PARr_STAT_NPAR r) (by simp)).put 0 (f := F.PARr_P_P r) (by simp)).cancel _ |>.parUpd r _) (.refl _ s)

/-- The status words of RINGTEST, long operation 0. -/
def ringtestFields : List Fld := [wholeReg (Reg.HIF_LOPk_STATL 0), wholeReg (Reg.HIF_LOPk_STATH 0)]

theorem postWrite_alters (l : List Fld) (a : Nat) (d : List Byte) (s : State) : Alters l s (s.postWrite a d) :=
  .ite (.refl l s) ((Alters.refl l s).congr rfl rfl rfl rfl rfl)

theorem sendVector_alters (l : List Fld) (v : Nat) (s : State) : Alters l s (s.sendVector v) := by
  have hsent : Alters l s (s.msixSend v) := (postWrite_alters l _ _ s).congr rfl rfl rfl rfl rfl
  exact .ite (.refl l s) (.ite ((Alters.refl l s).congr rfl rfl rfl rfl rfl) hsent)

theorem lopWord_alters (state count progress : Nat) (s : State) : Alters ringtestFields s (lopWord 0 state count progress s) := by
  have hwords : ∀ lo hi, Alters ringtestFields s (lopMirror 0 lo hi ((s.wr (Reg.HIF_LOPk_STATL 0) lo).wr (Reg.HIF_LOPk_STATH 0) hi)) :=
    fun lo hi => ((Alters.refl _ s).wr lo (.head _)).wr hi (.tail _ (.head _))
  unfold lopWord
  dsimp only
  split
  · exact (hwords _ _).trans (postWrite_alters _ _ _ _)
  · exact hwords _ _

theorem lopEnd_alters (state : Nat) (s : State) : Alters ringtestFields s (lopEnd 0 state s) := by
  have hlogged := fun d => (lopWord_alters state (lopCount 0 s) (lopProgress 0 s) s).logReq 0x0C 0x0003 d
  have hdone : ∀ {v : State}, Alters ringtestFields s v → Alters ringtestFields s ((v.cancel (.statusWordWrite 0)).lopUpd 0 fun x =>
    { x with running := false, host := none, abort := false }) := fun h => h.congr rfl rfl rfl rfl rfl
  unfold lopEnd
  dsimp only
  refine hdone ?_
  split
  · split
    · exact (hlogged _).trans (sendVector_alters _ _ _)
    · exact hlogged _
  · exact hlogged _

theorem ringtestFail_alters (r : Fin 4) (s : State) : Alters ringtestFields s (ringtestFail r s) := .ite (lopEnd_alters _ s) (.refl _ s)

end Sys2Proof.Machine
end

section
/-!
PROOFS. Protection actions: CLEAR, ABORT, RESTOREPH and a stop whose response latches the rail (R136, R144, R149 to R157).
-/
namespace Sys2Proof.Machine

variable {r : Fin 4} {s t : State}

/-! ## Fields -/

theorem pstate_fits : ∀ r : Fin 4, fldFits (F.PROTr_STAT_PSTATE r) = true := by decide +kernel
theorem hcnt_fits : ∀ r : Fin 4, fldFits (F.PROTr_STAT_HCNT r) = true := by decide +kernel
theorem latf_fits : ∀ r : Fin 4, fldFits (F.PROTr_FLAG_LATF r) = true := by decide +kernel
theorem decl_fits : ∀ r : Fin 4, fldFits (F.PROTr_FLAG_DECL r) = true := by decide +kernel
theorem stops_fits : ∀ r : Fin 4, fldFits (F.PROTr_CNT_STOPS r) = true := by decide +kernel
theorem edgeSt_fits : ∀ r : Fin 4, fldFits (F.EDGEr_STAT_ST r) = true := by decide +kernel
theorem edgeEn_fits : ∀ r : Fin 4, fldFits (F.EDGEr_CTL_EN r) = true := by decide +kernel
theorem clrref_fits : fldFits F.PROT_FLT_CLRREF = true := by decide +kernel
theorem oos_fits : fldFits F.PROT_OOS_OOS = true := by decide +kernel

theorem setE_state (r : Fin 4) {st : Nat} (hst : st < 8) (s : State) : eState r (setE r st s) = st := State.get_put_of_lt (edgeSt_fits r) hst s

theorem setE_alters (r : Fin 4) (st : Nat) (s : State) : Alters [F.EDGEr_STAT_ST r] s (setE r st s) := (Alters.refl _ s).put st (.head _)

theorem fldOf_wholeReg (a : Nat) (w : Word) : fldOf (wholeReg a) w = w.toNat :=
  (congrArg (· % 2 ^ 32) (Nat.div_one w.toNat)).trans (Nat.mod_eq_of_lt w.isLt)

theorem Alters.rd {l : List Fld} (h : Alters l s t) {a : Nat} (ha : apartAll l (wholeReg a) = true) : t.rd a = s.rd a := by
  have hget : fldOf (wholeReg a) (t.rd a) = fldOf (wholeReg a) (s.rd a) := h.get (wholeReg a) ha
  rw [fldOf_wholeReg, fldOf_wholeReg] at hget
  exact BitVec.eq_of_toNat_eq hget

/-- The registers of the listed fields hold every change. -/
theorem Alters.keeps {l : List Fld} {m : List Nat} (h : Alters l s t) (hl : ∀ f ∈ l, f.addr ∈ m) : Keeps m s t := by
  refine ⟨fun a ha => h.rd (List.all_eq_true.mpr fun f hf => ?_), h.sameMem⟩
  have hne : a ≠ f.addr := fun e => ha (e ▸ hl f hf)
  simp [fldApart, wholeReg, hne]

/-! ## PROT_ACT (R20, R154) -/

/-- A performed write of PROT_ACT: the register holds it, with the ARG bits that the action defines, and nothing else differs from the action's
effect (R11, R20). -/
theorem act_prot {ticket : Byte} (arg mask : BitVec 16) (action : Byte) {f : State → State} (hmask : argMask Reg.PROT_ACT action = mask)
    (hfresh : Fresh Reg.PROT_ACT ticket s) :
    ∃ w, s.act Reg.PROT_ACT ticket arg action f = (f s).wr Reg.PROT_ACT w ∧
      ((f s).wr Reg.PROT_ACT w).rd Reg.PROT_ACT = ticket ++ (arg &&& mask) ++ action := by
  have hfull : implMask Reg.PROT_ACT = BitVec.allOnes 32 := by decide +kernel
  refine ⟨_, State.act_fresh _ _ _ _ _ _ hfresh, ?_⟩
  rw [State.rd_wr_same, hfull, BitVec.and_allOnes, hmask]
  rfl

/-! ## ABORT (R149, R154) -/

/-- The fields that a latch sets. -/
def latchFields (r : Fin 4) : List Fld := [F.PROTr_STAT_PSTATE r, F.PROTr_FLAG_LATF r, F.EVM_FAST_FAST]

theorem protFire_log (r : Fin 4) (i : Nat) (s : State) : (protFire r i s).log = s.log := by
  unfold protFire
  dsimp only
  generalize (if s.prot[r].evAt = s.clk.ns then s.prot[r].evSet else 0) = seen
  split
  · rfl
  · exact fire_log _

/-- A latch shows LATCHED and its flag, fires its source and logs nothing of its own (R149, R157). -/
theorem railLatch_latches (r : Fin 4) (s : State) : pState r (railLatch r s) = 3 ∧ (railLatch r s).get (F.PROTr_FLAG_LATF r) = 1 ∧
    (railLatch r s).log = s.log ∧ Alters (latchFields r) s (railLatch r s) := by
  have hfire := protFire_alters r 3 ((setP r pLATCHED s).put (F.PROTr_FLAG_LATF r) 1)
  have hstate : ∀ r : Fin 4, apartAll [F.EVM_FAST_FAST] (F.PROTr_STAT_PSTATE r) = true ∧ apartAll [F.EVM_FAST_FAST] (F.PROTr_FLAG_LATF r) = true ∧
    fldApart (F.PROTr_FLAG_LATF r) (F.PROTr_STAT_PSTATE r) = true := by decide +kernel
  obtain ⟨hpstate, hlatf, hapart⟩ := hstate r
  refine ⟨?_, ?_, protFire_log r 3 _, ?_⟩
  · exact (hfire.get _ hpstate).trans ((State.get_put_apart hapart 1 _).trans (State.get_put_of_lt (pstate_fits r) (v := pLATCHED) (by decide : 3 < 2 ^ 2) s))
  · exact (hfire.get _ hlatf).trans (State.get_put_of_lt (latf_fits r) (by decide : 1 < 2 ^ 1) _)
  · have hput : Alters (latchFields r) s ((setP r pLATCHED s).put (F.PROTr_FLAG_LATF r) 1) :=
      ((Alters.refl _ s).put pLATCHED (f := F.PROTr_STAT_PSTATE r) (.head _)).put 1 (.tail _ (.head _))
    exact hput.trans (hfire.mono (by simp [latchFields]))

/-- ABORT latches a rail in HICWAIT (R154). -/
theorem abort_latches {ticket : Byte} (arg : BitVec 16) (hr : Fin.ofNat 4 arg.toNat = r) (hfresh : Fresh Reg.PROT_ACT ticket s)
    (hwait : pState r s = 2) (ht : t = s.act Reg.PROT_ACT ticket arg 2 (protAbort arg)) :
    pState r t = 3 ∧ t.get (F.PROTr_FLAG_LATF r) = 1 ∧ t.rd Reg.PROT_ACT = ticket ++ (arg &&& 0x3) ++ (2 : Byte) ∧ NoLog s t ∧
      Keeps [Reg.PROTr_STAT r, Reg.PROTr_FLAG r, Reg.PROT_ACT, Reg.EVM_FAST] s t := by
  subst hr
  obtain ⟨w, hrun, hword⟩ := act_prot (f := protAbort arg) arg 0x3 2 rfl hfresh
  have heffect : protAbort arg s = railLatch (Fin.ofNat 4 arg.toNat) s := if_pos hwait
  rw [heffect] at hrun hword
  rw [hrun] at ht
  subst ht
  obtain ⟨hstate, hflag, hlog, hlatch⟩ := railLatch_latches (Fin.ofNat 4 arg.toNat) s
  have hne : ∀ r : Fin 4, Reg.PROTr_STAT r ≠ Reg.PROT_ACT ∧ Reg.PROTr_FLAG r ≠ Reg.PROT_ACT := by decide
  obtain ⟨hstat, hflagReg⟩ := hne (Fin.ofNat 4 arg.toNat)
  refine ⟨(regGet_wr_apart _ _ _ _ hstat).trans hstate, (regGet_wr_apart _ _ _ _ hflagReg).trans hflag, hword, congrArg LogSt.reqs hlog, ?_⟩
  refine (hlatch.keeps fun f hf => ?_).wr w (by simp)
  obtain rfl | rfl | rfl : f = F.PROTr_STAT_PSTATE (Fin.ofNat 4 arg.toNat) ∨ f = F.PROTr_FLAG_LATF (Fin.ofNat 4 arg.toNat) ∨ f = F.EVM_FAST_FAST := by
    simpa [latchFields] using hf
  · exact .head _
  · exact .tail _ (.head _)
  · exact .tail _ (.tail _ (.tail _ (.head _)))

/-! ## RESTOREPH (R154) -/

/-- RESTOREPH returns a phase of no rail that is off at once (R154). -/
theorem restoreph_returns {ticket : Byte} (arg : BitVec 16) (hfresh : Fresh Reg.PROT_ACT ticket s)
    (hout : phaseOos (Fin.ofNat 32 (arg.toNat / 256)) s = true) (hrail : railOf (Fin.ofNat 32 (arg.toNat / 256)) s = none)
    (hclosed : s.bit F.GATH_IMFLT_IMFLT (arg.toNat / 256 % 32) = false) (ht : t = s.act Reg.PROT_ACT ticket arg 3 (protRestore arg)) :
    phaseOos (Fin.ofNat 32 (arg.toNat / 256)) t = false ∧ t.rd Reg.PROT_ACT = ticket ++ (arg &&& 0x1f00) ++ (3 : Byte) ∧ NoLog s t ∧
      Keeps [Reg.PROT_OOS, Reg.PROT_ACT] s t := by
  obtain ⟨w, hrun, hword⟩ := act_prot (f := protRestore arg) arg 0x1f00 3 rfl hfresh
  have heffect : protRestore arg s = s.putBit F.PROT_OOS_OOS (Fin.ofNat 32 (arg.toNat / 256)) false := by
    unfold protRestore
    dsimp only
    rw [if_neg (by rw [hout]; decide), hrail]
    exact if_neg fun h => absurd (hclosed.symm.trans h) Bool.false_ne_true
  rw [heffect] at hrun hword
  rw [hrun] at ht
  subst ht
  refine ⟨?_, hword, rfl, ((Keeps.refl _ s).hw _ (.head _)).wr w (.tail _ (.head _))⟩
  have hoos : ((s.putBit F.PROT_OOS_OOS (Fin.ofNat 32 (arg.toNat / 256)) false).wr Reg.PROT_ACT w).get F.PROT_OOS_OOS = _ :=
    regGet_wr_apart _ Reg.PROT_ACT w F.PROT_OOS_OOS (by decide)
  exact (congrArg (fun n => n.testBit (Fin.ofNat 32 (arg.toNat / 256)).val) hoos).trans
    (State.bit_putBit_false oos_fits (Fin.ofNat 32 (arg.toNat / 256)).val s)

/-! ## CLEAR (R154, R155) -/

/-- A CLEAR of a latched rail on which a fault that stops is present is flagged and logged (R155). -/
theorem protClear_refused {ticket : Byte} (arg : BitVec 16) (hr : Fin.ofNat 4 arg.toNat = r) (hfresh : Fresh Reg.PROT_ACT ticket s)
    (hlatched : pState r s = 3) (hstop : stopPresent r s = true) (ht : t = s.act Reg.PROT_ACT ticket arg 1 (protClear arg)) :
    t.get F.PROT_FLT_CLRREF = 1 ∧ Logged 0x05 0x0006 ([b8 r, 1] ++ bytesOfNat 2 (condMask r s)) s t ∧ Keeps [Reg.PROT_FLT, Reg.PROT_ACT] s t := by
  subst hr
  obtain ⟨w, hrun, -⟩ := act_prot (f := protClear arg) arg 0x3 1 rfl hfresh
  have heffect : protClear arg s = (s.put F.PROT_FLT_CLRREF 1).logReq 0x05 0x0006
      ([b8 (Fin.ofNat 4 arg.toNat : Fin 4), 1] ++ bytesOfNat 2 (condMask (Fin.ofNat 4 arg.toNat) s)) := by
    unfold protClear
    dsimp only
    rw [if_neg (show ¬ pState _ s ≠ pLATCHED from not_not_intro hlatched), if_pos hstop]
  rw [heffect] at hrun
  rw [hrun] at ht
  subst ht
  refine ⟨?_, rfl, (((Keeps.refl _ s).put 1 (f := F.PROT_FLT_CLRREF) (.head _)).logReq _ _ _).wr w (.tail _ (.head _))⟩
  exact (regGet_wr_apart _ _ _ _ (by decide)).trans (State.get_put_of_lt clrref_fits (by decide) s)

theorem midNow_phasesOnly (r : Fin 4) (p : Fin 32) (s : State) : PhasesOnly s (midNow r p s) :=
  .ite (.refl s) ((phaseOffAt_phasesOnly s r p _).phUpd _ _)

theorem idleAll_alters (r : Fin 4) (s : State) : Alters [F.PROTr_STAT_COND r, F.PROTr_STAT_TMLOW r] s (idleAll r s) := by
  have hidle := ((idleFast_alters r s).mono (m := [F.PROTr_STAT_COND r, F.PROTr_STAT_TMLOW r]) (by simp)).put 0 (f := F.PROTr_STAT_COND r) (.head _)
  exact ((((((hidle.cancel _).cancel _).cancel _).protUpd r _).put 0 (.tail _ (.head _))).each _ fun p v => (Alters.refl _ v).phUpd p _)

/-- The fields that protection sets as its rail is switched off. -/
def protOffFields (r : Fin 4) : List Fld :=
  [F.PROTr_STAT_COND r, F.PROTr_STAT_TMLOW r, F.PROTr_STAT_LCNT r, F.PROTr_STAT_PSTATE r, F.PROTr_STAT_HCNT r]

/-- Protection of a rail that is switched off is NORMAL, with no retry counted (R148, R153). -/
theorem protOffRail_resets (r : Fin 4) (s : State) : pState r (protOffRail r s) = 0 ∧ (protOffRail r s).get (F.PROTr_STAT_HCNT r) = 0 ∧
    Alters (protOffFields r) s (protOffRail r s) := by
  have hapart : ∀ r : Fin 4, fldApart (F.PROTr_STAT_HCNT r) (F.PROTr_STAT_PSTATE r) = true := by decide +kernel
  refine ⟨?_, State.get_put_of_lt (hcnt_fits r) (Nat.two_pow_pos _) _, ?_⟩
  · exact (State.get_put_apart (hapart r) 0 _).trans (State.get_put_of_lt (pstate_fits r) (Nat.two_pow_pos _) _)
  · have hidle : Alters (protOffFields r) s (limEnd r (idleAll r s)) :=
      ((idleAll_alters r s).mono (by simp [protOffFields])).trans ((limEnd_alters r _).mono (by simp [protOffFields]))
    exact ((hidle.put pNORMAL (f := F.PROTr_STAT_PSTATE r) (by simp [protOffFields])).put 0 (f := F.PROTr_STAT_HCNT r)
      (by simp [protOffFields])).cancel _

/-- A rail that CLEAR has taken to OFF, its comparators and its feedforward guard aside. -/
def clearedRail (r : Fin 4) (s : State) : State :=
  let s1 := (s.logReq 0x05 0x0005 [b8 r]).put (F.EDGEr_CTL_EN r) 0
  setE r eOFF (protOffRail r (mLeave r mOFF (s1.each (railList r s1) fun p => midNow r p)))

/-- CLEAR disables the rail, its engine and edge generator are OFF and its protection NORMAL (R154). -/
theorem clearedRail_clears (r : Fin 4) (s : State) : pState r (clearedRail r s) = 0 ∧ railEn r (clearedRail r s) = false ∧
    eState r (clearedRail r s) = 0 ∧ mState r (clearedRail r s) = 0 ∧ (clearedRail r s).get (F.PROTr_STAT_HCNT r) = 0 ∧
      SameMem s (clearedRail r s) := by
  have hapart : ∀ r : Fin 4, apartAll [F.EDGEr_STAT_ST r] (F.PROTr_STAT_PSTATE r) = true ∧
      apartAll [F.EDGEr_STAT_ST r] (F.PROTr_STAT_HCNT r) = true ∧
      apartAll (protOffFields r ++ [F.EDGEr_STAT_ST r]) (F.MRVr_STAT_STATE r) = true ∧
      apartAll (leaveFields r ++ (protOffFields r ++ [F.EDGEr_STAT_ST r])) (F.EDGEr_CTL_EN r) = true := by decide +kernel
  obtain ⟨hpstate, hhcnt, hmstate, hen⟩ := hapart r
  unfold clearedRail
  dsimp only
  generalize hs1 : (s.logReq 0x05 0x0005 [b8 r]).put (F.EDGEr_CTL_EN r) 0 = s1
  generalize hu : (s1.each (railList r s1) fun p => midNow r p) = u
  have hphases : PhasesOnly s1 u := hu ▸ (PhasesOnly.refl s1).each _ fun p v => midNow_phasesOnly r p v
  have hdisabled : railEn r u = false := (hphases.on _).trans (hs1 ▸ State.on_put_zero (edgeEn_fits r) _)
  obtain ⟨hoff, -, hleave⟩ := mLeave_leaves r (st := mOFF) (by decide) u
  obtain ⟨hnormal, hretries, hprot⟩ := protOffRail_resets r (mLeave r mOFF u)
  have hedge := setE_alters r eOFF (protOffRail r (mLeave r mOFF u))
  have hrest := hprot.andThen hedge
  refine ⟨(hedge.get _ hpstate).trans hnormal, ((hleave.andThen hrest).on hen).trans hdisabled, setE_state r (by decide) _,
    (hrest.get _ hmstate).trans hoff, (hedge.get _ hhcnt).trans hretries, ?_⟩
  have hstart : SameMem s s1 := hs1 ▸ ⟨fun _ => rfl, rfl⟩
  exact hstart.trans ((hphases.alters []).sameMem.trans (hleave.andThen hrest).sameMem)

/-- The fields that the comparators of a disabled rail set, with the feedforward guard and ENr. -/
def quietFields (r : Fin 4) : List Fld :=
  [F.GATH_CMPr_STAT_UVNOW r, F.GATH_CMPr_STAT_OVNOW r, F.PROTr_STAT_COND r, F.MRVr_STAT_OVBLK r, F.EDGEr_STAT_ENOUT r, F.MRVr_STAT_FFSTALE r]

theorem blankFollow_alters (r : Fin 4) (s : State) : Alters [F.MRVr_STAT_OVBLK r] s (blankFollow r s) := by
  obtain ⟨u, rfl | ⟨v, rfl⟩, hphases, -⟩ := blankFollow_eq r s
  · exact hphases.alters _
  · exact ((Alters.refl _ s).put v (.head _)).phases hphases

theorem ovHoldEnd_alters (r : Fin 4) (s : State) : Alters [F.EDGEr_STAT_ENOUT r] s (ovHoldEnd r s) :=
  .ite (.refl _ s) (.ite (holdEnd_alters r s) ((Alters.refl _ s).each _ fun p v => .ite ((Alters.refl _ v).phUpd p _) (.refl _ v)))

theorem ovFallen_alters (r : Fin 4) (s : State) : Alters [F.GATH_CMPr_STAT_OVNOW r, F.PROTr_STAT_COND r] s (ovFallen r s) :=
  ((((Alters.refl _ s).put 0 (.head _)).protUpd r _).cancel _).putBit 0 false (.tail _ (.head _))

theorem cmpOff_alters (r : Fin 4) (s : State) : Alters (quietFields r) s (cmpOff r s) := by
  have hfallen : Alters (quietFields r) s (ovFallen r (s.put (F.GATH_CMPr_STAT_UVNOW r) 0)) :=
    ((Alters.refl _ s).put 0 (.head _)).trans ((ovFallen_alters r _).mono (by simp))
  have hblank := (hfallen.trans ((blankFollow_alters r _).mono (by simp [quietFields]))).protUpd r fun q => { q with stopOv := false }
  exact hblank.trans ((ovHoldEnd_alters r _).mono (by simp [quietFields]))

theorem ffGuardChange_alters (r : Fin 4) (before : Bool) (s : State) : Alters (quietFields r) s (ffGuardChange r before s) := by
  unfold ffGuardChange quietFields
  exact .ite ((Alters.refl _ s).restart _ _) (.ite (((Alters.refl _ s).put 0 (f := F.MRVr_STAT_FFSTALE r) (by simp)).cancel _) (.refl _ s))

/-- An accepted CLEAR takes the rail to OFF; then its comparators fall and, unless a low hold runs, ENr (R93, R154). -/
theorem protClear_alters {arg : BitVec 16} (hr : Fin.ofNat 4 arg.toNat = r) (hlatched : pState r s = 3) (hnone : stopPresent r s = false) :
    Alters (quietFields r) (clearedRail r s) (protClear arg s) := by
  subst hr
  have hquiet := (cmpOff_alters _ (clearedRail (Fin.ofNat 4 arg.toNat) s)).trans
    (ffGuardChange_alters (Fin.ofNat 4 arg.toNat) (ffGuard (Fin.ofNat 4 arg.toNat) s) _)
  unfold protClear
  dsimp only
  rw [if_neg (show ¬ pState _ s ≠ pLATCHED from not_not_intro hlatched), if_neg (fun h => absurd (hnone.symm.trans h) Bool.false_ne_true)]
  exact .ite hquiet (hquiet.put 0 (f := F.EDGEr_STAT_ENOUT _) (by simp [quietFields]))

theorem protClear_clears {ticket : Byte} (arg : BitVec 16) (hr : Fin.ofNat 4 arg.toNat = r) (hfresh : Fresh Reg.PROT_ACT ticket s)
    (hlatched : pState r s = 3) (hnone : stopPresent r s = false) (ht : t = s.act Reg.PROT_ACT ticket arg 1 (protClear arg)) :
    pState r t = 0 ∧ railEn r t = false ∧ eState r t = 0 ∧ mState r t = 0 ∧ t.get (F.PROTr_STAT_HCNT r) = 0 ∧
      t.rd Reg.PROT_ACT = ticket ++ (arg &&& 0x3) ++ (1 : Byte) ∧ SameMem s t := by
  obtain ⟨w, hrun, hword⟩ := act_prot (f := protClear arg) arg 0x3 1 rfl hfresh
  have happly : ∀ r : Fin 4, apartAll (wholeReg Reg.PROT_ACT :: quietFields r) (F.PROTr_STAT_PSTATE r) = true ∧
      apartAll (wholeReg Reg.PROT_ACT :: quietFields r) (F.EDGEr_CTL_EN r) = true ∧
      apartAll (wholeReg Reg.PROT_ACT :: quietFields r) (F.EDGEr_STAT_ST r) = true ∧
      apartAll (wholeReg Reg.PROT_ACT :: quietFields r) (F.MRVr_STAT_STATE r) = true ∧
      apartAll (wholeReg Reg.PROT_ACT :: quietFields r) (F.PROTr_STAT_HCNT r) = true := by decide +kernel
  obtain ⟨hpstate, hen, hest, hmst, hhcnt⟩ := happly r
  have halters : Alters (wholeReg Reg.PROT_ACT :: quietFields r) (clearedRail r s) t :=
    ht.trans hrun ▸ ((protClear_alters hr hlatched hnone).mono (by simp)).wr w (.head _)
  obtain ⟨hnormal, hdisabled, hoff, hengine, hretries, hmem⟩ := clearedRail_clears r s
  exact ⟨(halters.get _ hpstate).trans hnormal, (halters.on hen).trans hdisabled, (halters.get _ hest).trans hoff,
    (halters.get _ hmst).trans hengine, (halters.get _ hhcnt).trans hretries, ht.trans hrun ▸ hword, hmem.trans halters.sameMem⟩

/-! ## A stop that latches (R144, R149, R151) -/

/-- The fields that a stop sets. -/
def stopFields (r : Fin 4) : List Fld :=
  [F.PROTr_STAT_LCNT r, F.PROTr_CNT_STOPS r, F.EVM_FAST_FAST, F.EDGEr_STAT_ENOUT r] ++ leaveFields r ++ [F.PROTr_STAT_COND r] ++ ringtestFields ++
    parFields r ++ [F.EDGEr_STAT_FRZ r, F.EDGEr_STAT_FRZLEFT r, F.EDGEr_STAT_ST r]

/-- The engine of a stop: from the low hold to the generator's HALT. -/
def stopEngine (r : Fin 4) (s : State) : State :=
  setE r eHALT (freezeEnd r (parAbort r 1 (ringtestFail r (idleFast r (mLeave r mSTOPPED (lowHold r false s))))))

/-- The fields that `stopEngine` sets once the engine has left its running states. -/
def haltFields (r : Fin 4) : List Fld :=
  [F.PROTr_STAT_COND r] ++ ringtestFields ++ parFields r ++ [F.EDGEr_STAT_FRZ r, F.EDGEr_STAT_FRZLEFT r, F.EDGEr_STAT_ST r]

/-- A stop leaves the generator in HALT and the engine STOPPED with N = 0 (R111, R144). -/
theorem stopEngine_stops (r : Fin 4) (s : State) : eState r (stopEngine r s) = 3 ∧ mState r (stopEngine r s) = 4 ∧ railN r (stopEngine r s) = 0 ∧
    Alters ([F.EDGEr_STAT_ENOUT r] ++ leaveFields r ++ haltFields r) s (stopEngine r s) := by
  have hapart : ∀ r : Fin 4, apartAll (haltFields r) (F.MRVr_STAT_STATE r) = true ∧ apartAll (haltFields r) (F.MRVr_STAT_N r) = true := by
    decide +kernel
  obtain ⟨hstate, hn⟩ := hapart r
  obtain ⟨hstopped, hzero, hleave⟩ := mLeave_leaves r (st := mSTOPPED) (by decide) (lowHold r false s)
  have hhalt : Alters (haltFields r) (mLeave r mSTOPPED (lowHold r false s)) (stopEngine r s) :=
    (((((idleFast_alters r _).andThen (ringtestFail_alters r _)).andThen (parAbort_alters r 1 _)).andThen (freezeEnd_alters r _)).andThen
      (setE_alters r eHALT _)).mono (by simp [haltFields])
  exact ⟨setE_state r (by decide) _, (hhalt.get _ hstate).trans hstopped, (hhalt.get _ hn).trans hzero,
    ((lowHold_alters r false s).andThen hleave).andThen hhalt⟩

/-- A stop of a rail that is not INERT counts itself and stops the rail's engine and edge generator (R144). -/
theorem railStop_stops (r : Fin 4) (byOv : Bool) (hinert : eState r s ≠ 4) : eState r (railStop r byOv s) = 3 ∧ mState r (railStop r byOv s) = 4 ∧
    railN r (railStop r byOv s) = 0 ∧
      (railStop r byOv s).get (F.PROTr_CNT_STOPS r) = satInc (F.PROTr_CNT_STOPS r).width (s.get (F.PROTr_CNT_STOPS r)) 1 ∧
        Alters (stopFields r) s (railStop r byOv s) := by
  have hapart : ∀ r : Fin 4, apartAll [F.PROTr_STAT_LCNT r] (F.PROTr_CNT_STOPS r) = true ∧ apartAll [F.EVM_FAST_FAST] (F.PROTr_CNT_STOPS r) = true ∧
      apartAll ([F.EDGEr_STAT_ENOUT r] ++ leaveFields r ++ haltFields r) (F.PROTr_CNT_STOPS r) = true := by decide +kernel
  obtain ⟨hlimit, hevent, hengine⟩ := hapart r
  unfold railStop
  dsimp only
  rw [if_neg (show ¬ eState r s = eINERT from hinert)]
  generalize hcounted : ((limEnd r s).inc (F.PROTr_CNT_STOPS r)).cancel (.hicokExpiry r) = counted
  have hcount : counted.get (F.PROTr_CNT_STOPS r) = satInc (F.PROTr_CNT_STOPS r).width (s.get (F.PROTr_CNT_STOPS r)) 1 :=
    hcounted ▸ (State.get_inc_same (stops_fits r) (limEnd r s) 1).trans (congrArg (satInc _ · 1) ((limEnd_alters r s).get _ hlimit))
  have hstart : Alters ([F.PROTr_STAT_LCNT r] ++ [F.PROTr_CNT_STOPS r]) s counted :=
    hcounted ▸ ((limEnd_alters r s).andThen ((Alters.refl _ _).inc 1 (.head _))).cancel _
  have hfire := fun f => (protFire_alters r 2 counted).protUpd r f
  obtain ⟨hhalt, hstopped, hzero, hstop⟩ := stopEngine_stops r (protUpd r _ (protFire r 2 counted))
  refine ⟨hhalt, hstopped, hzero, (hstop.get _ hengine).trans (((hfire _).get _ hevent).trans hcount), ?_⟩
  exact ((hstart.andThen (hfire _)).andThen hstop).mono (by simp [stopFields, haltFields])

/-- A stop that latches. -/
def latchedStop (r : Fin 4) (byOv : Bool) (s : State) : State := railLatch r (railStop r byOv s)

/-- The response LATCH_OFF stops and latches a rail that is neither LATCHED nor in HICWAIT (R151). -/
theorem respond_latchOff (r : Fin 4) (onlyVin byOv : Bool) (hstate : pState r s = 0 ∨ pState r s = 1) :
    ∃ u, Alters [] s u ∧ respond r 4 onlyVin byOv s = latchedStop r byOv u := by
  have hlatched : pState r s ≠ pLATCHED := by unfold pLATCHED; omega
  have hwait : pState r s ≠ pHICWAIT := by unfold pHICWAIT; omega
  generalize hmerged : (s.when (s.prot[r].stopIn == some s.clk.ns && byOv) fun t =>
    protUpd r (fun q => { q with stopOv := q.stopOv || t.on (F.GATH_CMPr_STAT_OVNOW r) }) t) = u
  have hsame : Alters [] s u := hmerged ▸ (Alters.refl [] s).when _ ((Alters.refl [] s).protUpd r _)
  have hpstate : pState r u = pState r s := hsame.get _ rfl
  refine ⟨u, hsame, ?_⟩
  unfold respond
  dsimp only
  rw [hmerged, hpstate, if_neg hlatched, if_neg hwait]
  rfl

/-- A declaration sets its flag; attention follows (R151, R158). -/
theorem declOne_declares (r : Fin 4) {d : Decl} (hd : d.id < 10) (s : State) : (declOne r d s).bit (F.PROTr_FLAG_DECL r) d.id = true ∧
    Alters (F.PROTr_FLAG_DECL r :: attnFields) s (declOne r d s) := by
  have hapart : ∀ r : Fin 4, apartAll attnFields (F.PROTr_FLAG_DECL r) = true := by decide +kernel
  have hlogged := (railAttn_alters r (s.setBit (F.PROTr_FLAG_DECL r) d.id)).logReq 0x05 0x0001
    ([b8 r, b8 d.id, b8 (respOf r d.id s), b8 d.ph] ++ bytesOfNat 2 (ofSigned 16 d.val))
  have hrest : Alters attnFields (s.setBit (F.PROTr_FLAG_DECL r) d.id) (declOne r d s) := by
    unfold declOne
    dsimp only
    refine Alters.protUpd ?_ r _
    split
    · exact hlogged.congr rfl rfl rfl rfl rfl
    · exact hlogged
  refine ⟨(hrest.bit (hapart r) _).trans (State.bit_setBit_same (decl_fits r) hd s), ?_⟩
  exact ((Alters.refl _ s).setBit d.id (.head _)).trans (hrest.mono (by simp))

/-- A single declaration whose response is LATCH_OFF (R151, R157). -/
theorem declare_latchOff (r : Fin 4) (d : Decl) (hresp : respOf r d.id s = 4) :
    declare r [d] s = respond r 4 (d.id == 7) (d.id == 0) (protFire r 0 (declOne r d s)) := by
  unfold declare
  simp [hresp, State.when, State.each]

/-- A detector that acts declares a condition that was not present (R132, R151). -/
theorem setCond_declares (r : Fin 4) (f : Nat) (val : Int) (hact : detAct r f s = true) (hfresh : condOn r f s = false) :
    ∃ u, Alters [F.PROTr_STAT_COND r] s u ∧ setCond r f true val s = declare r [⟨f, 255, val⟩] u := by
  unfold setCond
  split
  · exact ⟨s, .refl _ s, rfl⟩
  · refine ⟨condPut r f true s, (Alters.refl _ s).putBit f true (.head _), ?_⟩
    rw [hact, hfresh]
    rfl

/-- The fields that a declaration sets. -/
def declFields (r : Fin 4) : List Fld := [F.PROTr_STAT_COND r, F.PROTr_FLAG_DECL r] ++ attnFields ++ [F.EVM_FAST_FAST]

/-- An overvoltage whose response is LATCH_OFF is declared, and then stops and latches the rail (R132, R151). -/
theorem setCond_latches (r : Fin 4) (val : Int) (hact : detAct r 0 s = true) (hfresh : condOn r 0 s = false) (hresp : respOf r 0 s = 4)
    (hstate : pState r s = 0 ∨ pState r s = 1) : ∃ u, u.bit (F.PROTr_FLAG_DECL r) 0 = true ∧ Alters (declFields r) s u ∧
      setCond r 0 true val s = latchedStop r true u := by
  have hapart : ∀ r : Fin 4, apartAll [F.PROTr_STAT_COND r] (wholeReg (Reg.PROTr_RESP r)) = true ∧ apartAll [F.EVM_FAST_FAST] (F.PROTr_FLAG_DECL r) = true ∧
      apartAll (declFields r) (F.PROTr_STAT_PSTATE r) = true := by decide +kernel
  obtain ⟨hrespApart, hdecl, hpstate⟩ := hapart r
  obtain ⟨u, hcond, hset⟩ := setCond_declares r 0 val hact hfresh
  have hresp' : respOf r 0 u = 4 := (congrArg (fun w : Word => w.toNat / 8 ^ 0 % 8) (hcond.rd hrespApart)).trans hresp
  obtain ⟨hflag, hone⟩ := declOne_declares r (d := ⟨0, 255, val⟩) (Nat.zero_lt_succ 9) u
  have hfire := protFire_alters r 0 (declOne r ⟨0, 255, val⟩ u)
  have hall : Alters (declFields r) s (protFire r 0 (declOne r ⟨0, 255, val⟩ u)) := ((hcond.andThen hone).andThen hfire).mono (by simp [declFields])
  have hpstates : pState r (protFire r 0 (declOne r ⟨0, 255, val⟩ u)) = pState r s := hall.get _ hpstate
  obtain ⟨v, hsame, hrespond⟩ := respond_latchOff r false true (hpstates.symm ▸ hstate)
  refine ⟨v, (hsame.bit rfl _).trans ((hfire.bit hdecl _).trans hflag), hall.trans (hsame.mono (List.nil_subset _)), ?_⟩
  rw [hset, declare_latchOff r ⟨0, 255, val⟩ hresp']
  exact hrespond

/-- An overvoltage that persists, with the response LATCH_OFF, leaves the rail LATCHED, its generator in HALT and its engine STOPPED (R132, R144, R149). -/
theorem ovDue_latches (hsince : s.prot[r].ovSince.isSome = true) (habove : s.on (F.GATH_CMPr_STAT_OVNOW r) = true) (hact : detAct r 0 s = true)
    (hfresh : condOn r 0 s = false) (hresp : respOf r 0 s = 4) (hstate : pState r s = 0 ∨ pState r s = 1) (hinert : eState r s ≠ 4)
    (ht : t = ovDue r s) :
    pState r t = 3 ∧ eState r t = 3 ∧ mState r t = 4 ∧ railN r t = 0 ∧ t.bit (F.PROTr_FLAG_DECL r) 0 = true ∧ t.get (F.PROTr_FLAG_LATF r) = 1 ∧
      t.get (F.PROTr_CNT_STOPS r) = satInc (F.PROTr_CNT_STOPS r).width (s.get (F.PROTr_CNT_STOPS r)) 1 ∧ t.dom = s.dom ∧ t.mot = s.mot ∧
        SameMem s t := by
  have hapart : ∀ r : Fin 4, apartAll (declFields r) (F.EDGEr_STAT_ST r) = true ∧ apartAll (declFields r) (F.PROTr_CNT_STOPS r) = true ∧
      apartAll (latchFields r) (F.EDGEr_STAT_ST r) = true ∧ apartAll (latchFields r) (F.MRVr_STAT_STATE r) = true ∧
      apartAll (latchFields r) (F.MRVr_STAT_N r) = true ∧ apartAll (latchFields r) (F.PROTr_CNT_STOPS r) = true ∧
      apartAll (stopFields r ++ latchFields r) (F.PROTr_FLAG_DECL r) = true := by decide +kernel
  obtain ⟨hdeclSt, hdeclStops, hlatchSt, hlatchState, hlatchN, hlatchStops, hstopDecl⟩ := hapart r
  obtain ⟨u, hflag, hdecl, hset⟩ := setCond_latches r s.mrv[r].e hact hfresh hresp hstate
  have hpersisted : ((s.prot[r].ovSince).isSome && s.on (F.GATH_CMPr_STAT_OVNOW r)) = true := by rw [hsince, habove]; rfl
  have hend : Alters [] (latchedStop r true u) t := by
    rw [ht, ovDue, if_pos hpersisted, hset]
    exact .ite (.refl _ _) ((Alters.refl _ _).protUpd r _)
  have hedge : eState r u ≠ 4 := fun h => hinert ((hdecl.get _ hdeclSt).symm.trans h)
  obtain ⟨hhalt, hstopped, hzero, hstops, hstop⟩ := railStop_stops r true hedge
  obtain ⟨hlatched, hlatf, -, hlatch⟩ := railLatch_latches r (railStop r true u)
  have hafter := hlatch.trans (hend.mono (List.nil_subset _))
  have hwhole := hstop.andThen hafter
  have hall := hdecl.andThen hwhole
  exact ⟨(hend.get _ rfl).trans hlatched, (hafter.get _ hlatchSt).trans hhalt, (hafter.get _ hlatchState).trans hstopped,
    (hafter.get _ hlatchN).trans hzero, (hwhole.bit hstopDecl _).trans hflag, (hend.get _ rfl).trans hlatf,
    (hafter.get _ hlatchStops).trans (hstops.trans (congrArg (satInc _ · 1) (hdecl.get _ hdeclStops))), hall.dom, hall.mot, hall.sameMem⟩

/-- Settles O14, action by action: each performs one operation on the rail and writes PROT_ACT, and a stop that latches is a declaration, a stop and a
latch whose fields are apart. -/
theorem protectionActions : Obligations.ProtectionActions := by
  unfold Obligations.ProtectionActions
  exact ⟨fun s ticket arg hfresh hlatched hnone => ⟨_, rfl, protClear_clears arg rfl hfresh hlatched hnone rfl⟩,
    fun s ticket arg hfresh hlatched hstop => ⟨_, rfl, protClear_refused arg rfl hfresh hlatched hstop rfl⟩,
    fun s ticket arg hfresh hwait => ⟨_, rfl, abort_latches arg rfl hfresh hwait rfl⟩,
    fun s ticket arg hfresh hout hrail hclosed => ⟨_, rfl, restoreph_returns arg hfresh hout hrail hclosed rfl⟩,
    fun s r hsince habove hact hfresh hresp hstate hinert => ⟨_, rfl, ovDue_latches hsince habove hact hfresh hresp hstate hinert rfl⟩⟩

end Sys2Proof.Machine
end

section
/-!
PROOFS. A hiccup restart in the cycle of a declaration (R147, R152).
-/
namespace Sys2Proof.Machine

/-- Rail 0 waits in HICWAIT with HICDLY elapsed, ENDLY in force at 5 and fault 4 answered by HICCUP, in the cycle of a turn boundary at which it is due
to restart (R137, R147, R180). -/
def restartDue : State :=
  let s := (((State.reset.put (F.EDGEr_CTL_EN 0) 1).put (F.EDGEr_STAT_ST 0) eHALT).put (F.PROTr_STAT_PSTATE 0) pHICWAIT).wr (Reg.PROTr_RESP 0) 0x3000
  let s1 := ({ s with clk := { ns := 99999999999 } } : State).setLive (Reg.EDGEr_TIME 0) (fldInto (F.EDGEr_TIME_ENDLY 0) 5 0)
  protUpd 0 (fun q => { q with restartAt := some s1.clk.ns }) s1

/-- Fault 4 has been declared in that cycle, and its condition has gone again. -/
def faultPassed : State := sfResult 0 false (sfResult 0 true restartDue)

/-- The declaration cancels the restart: the rail stays in HALT (R152). -/
theorem state_hicRestart_faultPassed : eState 0 (hicRestart 0 faultPassed) = 3 := by decide +kernel

/-- Refutes O16: a rail with HICDLY elapsed and nothing present need not restart, since a fault declared with response HICCUP in the cycle of the
restart cancels it (R152), also where its condition has gone again within that cycle. -/
theorem not_railStates : ¬ Obligations.RailStates := by
  unfold Obligations.RailStates
  rintro ⟨-, -, -, hrestart, -⟩
  have hready : hicReady 0 faultPassed = true := by decide +kernel
  have hdelay : 0 < faultPassed.lv (F.EDGEr_TIME_ENDLY 0) := by decide +kernel
  obtain ⟨t, hrun, hwaits, -⟩ := hrestart faultPassed 0 hready hdelay
  obtain rfl : hicRestart 0 faultPassed = t := Host.Outcome.next.inj hrun
  exact absurd (state_hicRestart_faultPassed.symm.trans hwaits) (by decide)

end Sys2Proof.Machine
end

section
/-!
PROOFS. The lanes of the Apram link: what each operation does to its lane and what it leaves alone (R191 to R198).
-/
namespace Sys2Proof.Machine

variable {ln : Fin 2} {s t u w : State}

/-! ## Updates of one lane -/

@[simp] theorem laneUpd_same (s : State) (ln : Fin 2) (f : AprLane → AprLane) : (laneUpd ln f s).apr.lane[ln] = f s.apr.lane[ln] := updAt_same _ _ _

theorem laneUpd_ne {k : Fin 2} (h : k ≠ ln) (s : State) (f : AprLane → AprLane) : (laneUpd ln f s).apr.lane[k] = s.apr.lane[k] :=
  (updAt_get _ _ _ _).trans (if_neg h)

theorem fin2_cases : ∀ ln : Fin 2, ln = 0 ∨ ln = 1 := by decide

/-! ## The frame -/

/-- Nothing but the link's hidden state and the timers differs. -/
def LinkOnly (s t : State) : Prop := ∃ a q, t = { s with apr := a, timers := q }

theorem LinkOnly.refl (s : State) : LinkOnly s s := ⟨s.apr, s.timers, rfl⟩

theorem LinkOnly.trans (h : LinkOnly s t) (k : LinkOnly t u) : LinkOnly s u := by
  obtain ⟨a, q, rfl⟩ := h
  obtain ⟨a', q', rfl⟩ := k
  exact ⟨a', q', rfl⟩

theorem LinkOnly.aprUpd (h : LinkOnly s t) (f : Apr → Apr) : LinkOnly s (aprUpd f t) := h.trans ⟨_, t.timers, rfl⟩
theorem LinkOnly.laneUpd (h : LinkOnly s t) (ln : Fin 2) (f : AprLane → AprLane) : LinkOnly s (laneUpd ln f t) := h.aprUpd _
theorem LinkOnly.cancel (h : LinkOnly s t) (c : Instr) : LinkOnly s (t.cancel c) := h.trans ⟨t.apr, _, rfl⟩
theorem LinkOnly.restart (h : LinkOnly s t) (n : Nat) (c : Instr) : LinkOnly s (t.restart n c) := h.trans ⟨t.apr, _, rfl⟩
theorem LinkOnly.timers (h : LinkOnly s t) (q : List (Nat × Instr)) : LinkOnly s { t with timers := q } := h.trans ⟨t.apr, q, rfl⟩

theorem LinkOnly.ite {c : Prop} [Decidable c] (h : LinkOnly s t) (k : LinkOnly s u) : LinkOnly s (if c then t else u) := by
  split
  · exact h
  · exact k

section
variable (h : LinkOnly s t)
include h

theorem LinkOnly.get (f : Fld) : t.get f = s.get f := by obtain ⟨a, q, rfl⟩ := h; rfl
theorem LinkOnly.on (f : Fld) : t.on f = s.on f := congrArg (· != 0) (h.get f)
theorem LinkOnly.clk : t.clk = s.clk := by obtain ⟨a, q, rfl⟩ := h; rfl
theorem LinkOnly.log : t.log = s.log := by obtain ⟨a, q, rfl⟩ := h; rfl
theorem LinkOnly.noLog : NoLog s t := congrArg LogSt.reqs h.log
theorem LinkOnly.keeps (l : List Nat) : Keeps l s t := by obtain ⟨a, q, rfl⟩ := h; exact (Keeps.refl l s).congr rfl rfl rfl
theorem LinkOnly.alters (l : List Fld) : Alters l s t := by obtain ⟨a, q, rfl⟩ := h; exact (Alters.refl l s).congr rfl rfl rfl rfl rfl
theorem LinkOnly.laneState (ln : Fin 2) : laneState ln t = Machine.laneState ln s := h.get _
theorem LinkOnly.linkState : linkState t = Machine.linkState s := h.get _
theorem LinkOnly.linkUp : linkUp t = Machine.linkUp s := congrArg (fun n => decide (2 ≤ n)) h.linkState

end

/-! ## The fields of APR_STAT -/

theorem laneFld_fits : ∀ ln : Fin 2, fldFits (laneFld ln) = true := by decide +kernel
theorem laneFld_apart_link : ∀ ln : Fin 2, fldApart (laneFld ln) F.APR_STAT_LINK = true := by decide +kernel
theorem laneFld_apart : ∀ ln k : Fin 2, k ≠ ln → fldApart (laneFld ln) (laneFld k) = true := by decide +kernel
theorem laneFld_addr : ∀ ln : Fin 2, (laneFld ln).addr = Reg.APR_STAT := by decide

theorem laneState_put {n : Nat} (hn : n < 4) (ln : Fin 2) (s : State) : laneState ln (s.put (laneFld ln) n) = n := by
  have hwidth : ∀ ln : Fin 2, (laneFld ln).width = 2 := by decide
  exact State.get_put_of_lt (laneFld_fits ln) (by rw [hwidth]; exact hn) s

theorem linkState_put_lane (ln : Fin 2) (n : Nat) (s : State) : linkState (s.put (laneFld ln) n) = linkState s :=
  State.get_put_apart (laneFld_apart_link ln) n s

theorem Keeps.putLane {l : List Nat} (h : Keeps l s t) (ln : Fin 2) (n : Nat) (hl : Reg.APR_STAT ∈ l) : Keeps l s (t.put (laneFld ln) n) :=
  h.put n (laneFld_addr ln ▸ hl)

/-! ## The place in the frame (R194, R197) -/

theorem laneFresh_linkOnly (ln : Fin 2) (s : State) : LinkOnly s (laneFresh ln s) := ((LinkOnly.refl s).cancel _).laneUpd ln _

theorem laneUnlock_linkOnly (ln : Fin 2) (s : State) : LinkOnly s (laneUnlock ln s) := (laneFresh_linkOnly ln s).laneUpd ln _

theorem laneUnlock_good (ln : Fin 2) (s : State) : (laneUnlock ln s).apr.lane[ln].good = 0 := congrArg AprLane.good (laneUpd_same _ ln _)

theorem frameSlot_of_unframed (h : laneState ln s ≠ 3) (valid : Bool) : frameSlot ln valid s = s := if_neg fun hs => h hs.left

/-- A message cut short is counted only on a lane that carries messages. -/
theorem halfLost_of_none (h : s.apr.lane[ln].half = none) : halfLost ln s = laneUpd ln (fun l => { l with half := none, cut := false }) s := by
  unfold halfLost
  rw [h]
  rfl

theorem halfLost_of_unlinked (h : linkUp s = false) : halfLost ln s = laneUpd ln (fun l => { l with half := none, cut := false }) s := by
  unfold halfLost
  rw [h, Bool.and_false, Bool.false_and]
  rfl

/-- A buffer that stays short takes the block (R196). -/
theorem bufIn_of_short (h : s.apr.lane[ln].buf.length < 5) (b : AprBlk) :
    bufIn ln b s = laneUpd ln (fun l => { l with buf := l.buf ++ [b], refill := l.refill - 1 }) s := by
  have hbuf : (laneUpd ln (fun l => { l with buf := l.buf ++ [b], refill := l.refill - 1 }) s).apr.lane[ln].buf = s.apr.lane[ln].buf ++ [b] :=
    congrArg AprLane.buf (laneUpd_same s ln _)
  unfold bufIn
  simp only [hbuf, List.length_append, List.length_singleton]
  rw [if_neg (by omega), if_neg (by omega)]

/-! ## Bytes of a payload (R191, R201) -/

theorem natOfBytes_bytesOfNat (n x : Nat) : natOfBytes (bytesOfNat n x) = x % 256 ^ n := by
  induction n generalizing x with
  | zero => exact (Nat.mod_one x).symm
  | succ n ih =>
    have hbyte : (BitVec.ofNat 8 x).toNat = x % 256 := rfl
    rw [bytesOfNat, natOfBytes, ih, hbyte, pow_succ', Nat.mod_mul]

theorem length_bytesOfNat (n x : Nat) : (bytesOfNat n x).length = n := by
  induction n generalizing x with
  | zero => rfl
  | succ n ih => exact congrArg (· + 1) (ih _)

theorem natOfBytes_lt (l : List Byte) : natOfBytes l < 256 ^ l.length := by
  induction l with
  | nil => exact Nat.one_pos
  | cons b l ih =>
    have hb := b.isLt
    rw [natOfBytes, List.length_cons, pow_succ']
    omega

theorem payload_bytesOfNat (x : BitVec 64) : payload (bytesOfNat 8 x.toNat) = x := by
  have htake : (bytesOfNat 8 x.toNat).take 8 = bytesOfNat 8 x.toNat := List.take_of_length_le (length_bytesOfNat 8 _).le
  have hmod : x.toNat % 256 ^ 8 = x.toNat := Nat.mod_eq_of_lt x.isLt
  rw [payload, htake, natOfBytes_bytesOfNat, hmod, BitVec.ofNat_toNat, BitVec.setWidth_eq]

/-- The eight bytes of a received block, read again from its payload. -/
theorem bytesOfNat_payload_rxPayload (ln : Fin 2) (w : BitVec 66) (s : State) : bytesOfNat 8 (payload (rxPayload ln w s)).toNat = rxPayload ln w s := by
  unfold rxPayload
  rw [payload_bytesOfNat]

/-! ## What a block is (R191 to R193) -/

/-- A lane's descrambler has taken a block's payload (R192). -/
def descrambled (ln : Fin 2) (w : BitVec 66) (s : State) : State :=
  laneUpd ln (fun l => { l with scr := (descramble 64 ((rxBits ln w s).extractLsb' 2 64) l.scr 0).2 }) s

theorem descrambled_linkOnly (ln : Fin 2) (w : BitVec 66) (s : State) : LinkOnly s (descrambled ln w s) := (LinkOnly.refl s).laneUpd ln _

theorem descrambled_lane (ln : Fin 2) (w : BitVec 66) (s : State) : ∃ scr, (descrambled ln w s).apr.lane[ln] = { s.apr.lane[ln] with scr := scr } :=
  ⟨_, laneUpd_same s ln _⟩

section
variable {w : BitVec 66} (sub : Nat)

theorem rxBlock_idle (hcontrol : (rxBits ln w s).extractLsb' 0 2 = 1) (htype : ((rxPayload ln w s).getD 0 0).toNat = 0x33) :
    ∃ clean, rxBlock ln w sub s = aprIdle ln clean (descrambled ln w s) := by
  unfold rxBlock
  simp only [hcontrol, htype]
  exact ⟨_, rfl⟩

theorem rxBlock_frame (hcontrol : (rxBits ln w s).extractLsb' 0 2 = 1) (htype : ((rxPayload ln w s).getD 0 0).toNat = 0x5A) :
    rxBlock ln w sub s = aprFrame ln ((rxPayload ln w s).getD 1 0).toNat (natOfBytes (((rxPayload ln w s).drop 2).take 2))
      (natOfBytes (((rxPayload ln w s).drop 4).take 2)) (((rxPayload ln w s).getD 6 0).getLsbD 3) sub (descrambled ln w s) := by
  unfold rxBlock
  simp only [hcontrol, htype]
  rfl

theorem rxBlock_msg (hcontrol : (rxBits ln w s).extractLsb' 0 2 = 1) (htype : ((rxPayload ln w s).getD 0 0).toNat = 0x6C) :
    rxBlock ln w sub s = aprMsg ln (payload (rxPayload ln w s)) (descrambled ln w s) := by
  unfold rxBlock
  simp only [hcontrol, htype]
  rfl

theorem rxBlock_data (hdata : (rxBits ln w s).extractLsb' 0 2 = 2) :
    rxBlock ln w sub s = aprData ln true true (payload (rxPayload ln w s)) (descrambled ln w s) := by
  unfold rxBlock
  simp only [hdata]
  rfl

end

/-! ## A block's effect on its lane (R192, R197) -/

/-- The 64th good header in a row locks the lane. -/
theorem laneBlock_locks (hen : s.on F.APR_CTL_EN = true) (hhunt : laneState ln s = 1) (hgood : s.apr.lane[ln].good = 63) (errored : Bool) :
    laneBlock ln true errored s =
      (laneUpd ln (fun l => { l with buf := [], refill := 4, insertOk := false }) (laneUnlock ln (s.put (laneFld ln) 2)), false) := by
  unfold laneBlock
  simp only [hen, hhunt, hgood]
  rfl

/-- A lane with block lock and no errored block noted, past the first block after the lock. -/
structure InBlock (ln : Fin 2) (s : State) : Prop where
  enabled : s.on F.APR_CTL_EN = true
  state : laneState ln s = 2
  fresh : s.apr.lane[ln].fresh = false
  hist : s.apr.lane[ln].hist = []

theorem InBlock.descrambled (h : InBlock ln s) (w : BitVec 66) : InBlock ln (descrambled ln w s) := by
  have honly := descrambled_linkOnly ln w s
  obtain ⟨scr, hlane⟩ := descrambled_lane ln w s
  exact ⟨(honly.on _).trans h.enabled, (honly.laneState ln).trans h.state, by rw [hlane]; exact h.fresh, by rw [hlane]; exact h.hist⟩

/-- A block noted on its lane as the first since the lock, and as good, one slot further in the frame. -/
def laneUsed (ln : Fin 2) (s : State) : State := laneUpd ln (fun l => { l with hist := [false], fresh := false, pos := l.pos.map (· + 1) }) s

theorem laneUsed_linkOnly (ln : Fin 2) (s : State) : LinkOnly s (laneUsed ln s) := (LinkOnly.refl s).laneUpd ln _

theorem laneBlock_used (h : InBlock ln s) (headerOk : Bool) : laneBlock ln headerOk false s = (laneUsed ln s, true) := by
  unfold laneBlock
  simp only [h.enabled, h.state, h.hist, h.fresh]
  rfl

/-! ## Blocks -/

theorem aprIdle_locks (hen : s.on F.APR_CTL_EN = true) (hhunt : laneState ln s = 1) (hgood : s.apr.lane[ln].good = 63) (clean : Bool)
    (ht : t = aprIdle ln clean s) : laneState ln t = 2 ∧ t.apr.lane[ln].good = 0 ∧ NoLog s t ∧ Keeps [Reg.APR_STAT] s t := by
  obtain ⟨u, hu⟩ : ∃ u, u = laneUpd ln (fun l => { l with buf := [], refill := 4, insertOk := false }) (laneUnlock ln (s.put (laneFld ln) 2)) :=
    ⟨_, rfl⟩
  have hafter : LinkOnly (s.put (laneFld ln) 2) u := by rw [hu]; exact (laneUnlock_linkOnly ln _).laneUpd ln _
  have hstate : laneState ln u = 2 := (hafter.laneState ln).trans (laneState_put (by decide) ln s)
  have heq : t = u := by
    rw [ht, aprIdle, laneBlock_locks hen hhunt hgood, ← hu]
    exact frameSlot_of_unframed (by rw [hstate]; decide) false
  rw [heq]
  refine ⟨hstate, ?_, hafter.noLog, ((Keeps.refl _ s).putLane ln 2 (.head _)).trans (hafter.keeps _)⟩
  rw [hu, laneUpd_same]
  exact laneUnlock_good ln _

theorem aprMsg_buffers (h : InBlock ln s) (hhalf : s.apr.lane[ln].half = none) (hbuf : s.apr.lane[ln].buf = []) (d : BitVec 64)
    (ht : t = aprMsg ln d s) : LinkOnly s t ∧ t.apr.lane[ln].half = some (bytesOfNat 8 d.toNat) ∧ t.apr.lane[ln].buf = [.msg] := by
  have hused : (laneUsed ln s).apr.lane[ln].half = none := by rw [laneUsed, laneUpd_same]; exact hhalf
  obtain ⟨u, hu⟩ : ∃ u, u = laneUpd ln (fun l => { l with half := some (bytesOfNat 8 d.toNat), cut := false }) (halfLost ln (laneUsed ln s)) :=
    ⟨_, rfl⟩
  have honly : LinkOnly s u := by rw [hu, halfLost_of_none hused]; exact ((laneUsed_linkOnly ln s).laneUpd ln _).laneUpd ln _
  have hlane : u.apr.lane[ln].half = some (bytesOfNat 8 d.toNat) ∧ u.apr.lane[ln].buf = [] := by
    rw [hu, halfLost_of_none hused, laneUsed]
    simp only [laneUpd_same]
    exact ⟨trivial, hbuf⟩
  obtain ⟨hset, hempty⟩ := hlane
  have hshort : u.apr.lane[ln].buf.length < 5 := by rw [hempty]; decide
  have hall : LinkOnly s (bufIn ln .msg u) := by rw [bufIn_of_short hshort]; exact honly.laneUpd ln _
  have heq : t = bufIn ln .msg u := by
    rw [ht, aprMsg, laneBlock_used h, if_pos rfl, ← hu]
    exact frameSlot_of_unframed (by rw [hall.laneState, h.state]; decide) false
  rw [heq]
  refine ⟨hall, ?_, ?_⟩ <;> rw [bufIn_of_short hshort, laneUpd_same]
  · exact hset
  · rw [hempty]
    rfl

theorem aprData_accepts {h : List Byte} {c : Instr} (hb : InBlock ln s) (hhalf : s.apr.lane[ln].half = some h) (hbuf : s.apr.lane[ln].buf = [.msg])
    {d : BitVec 64} (hmsg : aprMessage ln (h ++ bytesOfNat 8 d.toNat) = some c) (ht : t = aprData ln true true d s) :
    LinkOnly s t ∧ t.apr.lane[ln].half = none ∧ t.apr.lane[ln].buf = [.msg, .data (some c)] ∧ (s.clk.ns + 48, c) ∈ t.timers := by
  obtain ⟨u, hu⟩ : ∃ u, u = laneUpd ln (fun l => { l with half := none, cut := false }) (laneUsed ln s) := ⟨_, rfl⟩
  obtain ⟨v, hv⟩ : ∃ v : State, v = { u with timers := if ln = 0 then (u.clk.ns + 48, c) :: u.timers else u.timers ++ [(u.clk.ns + 48, c)] } :=
    ⟨_, rfl⟩
  have honly : LinkOnly s u := by rw [hu]; exact (laneUsed_linkOnly ln s).laneUpd ln _
  have hboth : LinkOnly s v := by rw [hv]; exact honly.timers _
  have hlane : v.apr.lane[ln].half = none ∧ v.apr.lane[ln].buf = [.msg] := by
    rw [hv, hu, laneUsed]
    simp only [laneUpd_same]
    exact ⟨trivial, hbuf⟩
  obtain ⟨hnone, hheld⟩ := hlane
  have hsched : (s.clk.ns + 48, c) ∈ v.timers := by
    rw [hv, ← honly.clk]
    split
    · exact .head _
    · exact List.mem_append_right _ (.head _)
  have hshort : v.apr.lane[ln].buf.length < 5 := by rw [hheld]; decide
  have hbufIn := bufIn_of_short hshort (.data (some c))
  have hall : LinkOnly s (bufIn ln (.data (some c)) v) := by rw [hbufIn]; exact hboth.laneUpd ln _
  have heq : t = bufIn ln (.data (some c)) v := by
    rw [ht]
    unfold aprData
    simp only [hhalf, Bool.not_true, Bool.false_or, Option.isNone_some, Bool.false_and, laneBlock_used hb, hmsg, ← hu, ← hv]
    exact frameSlot_of_unframed (by rw [hall.laneState, hb.state]; decide) false
  rw [heq]
  refine ⟨hall, ?_, ?_, ?_⟩ <;> rw [hbufIn]
  · rw [laneUpd_same]
    exact hnone
  · rw [laneUpd_same, hheld]
    rfl
  · exact hsched

/-! ## FRAME blocks (R194, R197, R198) -/

/-- A FRAME block taken into the buffer, before its fields are judged. -/
def frameTaken (ln : Fin 2) (s : State) : State := bufIn ln .frame (halfLost ln (laneUsed ln s))

theorem frameTaken_takes (hhalf : s.apr.lane[ln].half = none) (hbuf : s.apr.lane[ln].buf = []) :
    LinkOnly s (frameTaken ln s) ∧ (frameTaken ln s).apr.lane[ln].buf = [.frame] ∧ (frameTaken ln s).apr.lane[ln].fnum = s.apr.lane[ln].fnum ∧
      (frameTaken ln s).apr.lane[ln].pos = s.apr.lane[ln].pos.map (· + 1) ∧ (frameTaken ln s).apr.flen = s.apr.flen := by
  have hused : (laneUsed ln s).apr.lane[ln].half = none := by rw [laneUsed, laneUpd_same]; exact hhalf
  have hempty : (halfLost ln (laneUsed ln s)).apr.lane[ln].buf = [] := by
    rw [halfLost_of_none hused, laneUsed]
    simp only [laneUpd_same]
    exact hbuf
  have hshort : (halfLost ln (laneUsed ln s)).apr.lane[ln].buf.length < 5 := by rw [hempty]; decide
  rw [frameTaken, bufIn_of_short hshort, halfLost_of_none hused, laneUsed]
  refine ⟨(((LinkOnly.refl s).laneUpd ln _).laneUpd ln _).laneUpd ln _, ?_, ?_, ?_, rfl⟩ <;> simp only [laneUpd_same]
  rw [hbuf]
  rfl

/-- A FRAME block of the right lane and length follows the lane's last number, or the lane has none (R194). -/
def numberFollows (ln : Fin 2) (fnum : Nat) (s : State) : Bool :=
  match s.apr.lane[ln].fnum with
  | some f => fnum == (f + 1) % 65536
  | none => true

theorem aprFrame_of_length {lane fnum flen sub : Nat} {seqrst : Bool} (hb : InBlock ln s) (hlane : lane = ln.val)
    (hflen : flen = (frameTaken ln s).apr.flen) : aprFrame ln lane fnum flen seqrst sub s =
      if numberFollows ln fnum (frameTaken ln s) then frameValid ln fnum seqrst sub (frameTaken ln s)
      else frameSlot ln false ((frameTaken ln s).inc F.APR_CNT2_BADFRM) := by
  have hgood : (flen != (bufIn ln .frame (halfLost ln (laneUsed ln s))).apr.flen) = false := bne_eq_false_iff_eq.mpr hflen
  have hsame : (flen == (bufIn ln .frame (halfLost ln (laneUsed ln s))).apr.flen) = true := beq_iff_eq.mpr hflen
  unfold aprFrame
  simp only [laneBlock_used hb, hgood, State.when_false, hlane, beq_self_eq_true, Bool.true_and, hsame]
  rfl

/-! ### A valid one -/

theorem deskew_of_unframed (h : laneState 0 s ≠ 3 ∨ laneState 1 s ≠ 3) (fnum : Nat) : deskew fnum s = s := by
  unfold deskew
  split
  · exact if_neg (by omega)
  · rfl

/-- FNUM, the arrival and the place noted on a lane in BLOCK; FRAMED where the block came in its slot. -/
def frameNoted (ln : Fin 2) (newly : Bool) (fnum sub : Nat) (u : State) : State :=
  laneUpd ln (fun l => { l with pos := some 0, missed := 0 })
    ((laneUpd ln (fun l => { l with fnum := some fnum, frames := ((fnum, u.clk.ns * 64 + sub) :: l.frames).take 8 }) u).when newly
      (fun t => laneUpd ln (fun l => { l with framedAt := some t.clk.ns }) (t.put (laneFld ln) 3)))

theorem frameNoted_lane (newly : Bool) (fnum sub : Nat) (u : State) : (frameNoted ln newly fnum sub u).apr.lane[ln].fnum = some fnum ∧
    (frameNoted ln newly fnum sub u).apr.lane[ln].pos = some 0 ∧ (frameNoted ln newly fnum sub u).apr.lane[ln].buf = u.apr.lane[ln].buf := by
  unfold frameNoted
  cases newly <;> simp only [State.when_true, State.when_false, laneUpd_same, State.put_apr, and_self]

theorem frameNoted_linkOnly (fnum sub : Nat) (u : State) : LinkOnly u (frameNoted ln false fnum sub u) := ((LinkOnly.refl u).laneUpd ln _).laneUpd ln _

theorem frameNoted_framed (fnum sub : Nat) (u : State) : LinkOnly (u.put (laneFld ln) 3) (frameNoted ln true fnum sub u) := ⟨_, _, rfl⟩

/-- A valid FRAME block, where the link is not up and not both lanes are FRAMED: it is noted, and LINKTO starts where the lane is newly FRAMED in
ALIGN. -/
theorem frameValid_of_down {fnum sub : Nat} {newly : Bool} (hstate : laneState ln u = 2) (hnewly : (u.apr.lane[ln].pos == some u.apr.flen) = newly)
    (hw : w = frameNoted ln newly fnum sub u) (hframed : laneState 0 w ≠ 3 ∨ laneState 1 w ≠ 3) (hdown : linkUp w = false) :
    frameValid ln fnum false sub u = w.when (newly && linkState w == 1) (fun t => t.restart (linkTo t) (.linkTimeout ln)) := by
  obtain ⟨z, hz⟩ : ∃ z, z = w.when (newly && linkState w == 1) (fun t => t.restart (linkTo t) (.linkTimeout ln)) := ⟨_, rfl⟩
  have honly : LinkOnly w z := by rw [hz]; exact .ite ((LinkOnly.refl w).restart _ _) (.refl w)
  have hdeskew : deskew fnum z = z := deskew_of_unframed (by rw [honly.laneState, honly.laneState]; exact hframed) fnum
  have hdown' : linkUp z = false := honly.linkUp.trans hdown
  unfold frameNoted at hw
  unfold frameValid
  simp only [State.when_false, hstate, hnewly, beq_self_eq_true, Bool.true_and, if_true, ← hw, ← hz, hdeskew, hdown', Bool.false_and,
    Bool.false_eq_true, false_and, if_false]

/-- The first valid one after the entry to BLOCK starts the lane's numbers. -/
theorem frameValid_starts {fnum sub : Nat} (hstate : laneState ln u = 2) (hpos : u.apr.lane[ln].pos = none) (hdown : linkUp u = false)
    (ht : t = frameValid ln fnum false sub u) : LinkOnly u t ∧ t.apr.lane[ln].fnum = some fnum ∧ t.apr.lane[ln].pos = some 0 ∧
      t.apr.lane[ln].buf = u.apr.lane[ln].buf := by
  have honly := frameNoted_linkOnly (ln := ln) fnum sub u
  have hself : laneState ln (frameNoted ln false fnum sub u) ≠ 3 := by rw [honly.laneState, hstate]; decide
  have hframed : laneState 0 (frameNoted ln false fnum sub u) ≠ 3 ∨ laneState 1 (frameNoted ln false fnum sub u) ≠ 3 := by
    obtain rfl | rfl := fin2_cases ln
    · exact .inl hself
    · exact .inr hself
  have heq := frameValid_of_down hstate (newly := false) (by rw [hpos]; rfl) rfl hframed (honly.linkUp.trans hdown)
  rw [Bool.false_and, State.when_false, ← ht] at heq
  rw [heq]
  exact ⟨honly, frameNoted_lane false fnum sub u⟩

/-- A second one FLEN slots later takes the lane to FRAMED; alone it leaves the link in ALIGN. -/
theorem frameValid_frames {fnum sub : Nat} (hstate : laneState ln u = 2) (hpos : u.apr.lane[ln].pos = some u.apr.flen) (halign : linkState u = 1)
    (hother : laneState (1 - ln) u < 3) (ht : t = frameValid ln fnum false sub u) :
    LinkOnly (u.put (laneFld ln) 3) t ∧ laneState ln t = 3 ∧ linkState t = 1 ∧ t.apr.lane[ln].fnum = some fnum ∧
      t.apr.lane[ln].pos = some 0 := by
  obtain ⟨w, hw⟩ : ∃ w, w = frameNoted ln true fnum sub u := ⟨_, rfl⟩
  have honly : LinkOnly (u.put (laneFld ln) 3) w := by rw [hw]; exact frameNoted_framed fnum sub u
  have hlink : linkState w = 1 := honly.linkState.trans ((linkState_put_lane ln 3 u).trans halign)
  have hother' : laneState (1 - ln) w ≠ 3 := by
    have hne : ∀ ln : Fin 2, 1 - ln ≠ ln := by decide
    rw [honly.laneState]
    exact ((State.get_put_apart (laneFld_apart ln _ (hne ln)) 3 u).trans_lt hother).ne
  have hframed : laneState 0 w ≠ 3 ∨ laneState 1 w ≠ 3 := by
    obtain rfl | rfl := fin2_cases ln
    · exact .inr hother'
    · exact .inl hother'
  have heq := frameValid_of_down hstate (newly := true) (beq_iff_eq.mpr hpos) hw hframed (by rw [linkUp, hlink]; rfl)
  rw [hlink, ← ht] at heq
  replace heq : t = w.restart (linkTo w) (.linkTimeout ln) := heq
  have hall : LinkOnly (u.put (laneFld ln) 3) t := by rw [heq]; exact honly.restart _ _
  obtain ⟨hfnum, hplace, -⟩ := frameNoted_lane (ln := ln) true fnum sub u
  rw [← hw] at hfnum hplace
  refine ⟨hall, (hall.laneState ln).trans (laneState_put (by decide) ln u), hall.linkState.trans ((linkState_put_lane ln 3 u).trans halign), ?_, ?_⟩
  · rw [heq]
    exact hfnum
  · rw [heq]
    exact hplace

end Sys2Proof.Machine
end

section
/-!
PROOFS. The lanes and the link of Apram: clock recovery, blocks, the link's states, RETRAIN, SEQRESET and the enable (R191 to R199, R208).
-/
namespace Sys2Proof.Machine

variable {ln : Fin 2} {s t u : State}

/-! ## Clock recovery (R197, R199) -/

theorem clockRecovered_hunts (hen : s.on F.APR_CTL_EN = true) (hdown : laneState ln s = 0) (hfree : s.apr.holdRx = false)
    (ht : t = clockRecovered ln s) : laneState ln t = 1 ∧ t.apr.lane[ln].good = 0 ∧ NoLog s t ∧ Keeps [Reg.APR_STAT] s t := by
  have heq : clockRecovered ln s = laneUnlock ln (s.put (laneFld ln) 1) := by
    unfold clockRecovered
    rw [hen, hfree]
    exact if_neg (by simp [hdown])
  have honly : LinkOnly (s.put (laneFld ln) 1) t := by rw [ht, heq]; exact laneUnlock_linkOnly ln _
  refine ⟨(honly.laneState ln).trans (laneState_put (by decide) ln s), ?_, honly.noLog,
    ((Keeps.refl _ s).putLane ln 1 (.head _)).trans (honly.keeps _)⟩
  rw [ht, heq]
  exact laneUnlock_good ln _

/-- A link that is DOWN follows no lane. -/
theorem linkFollow_of_down (h : linkState s = 0) : linkFollow s = s := by
  have hup : linkUp s = false := by rw [linkUp, h]; rfl
  unfold linkFollow
  simp [hup, h]

/-- A lane of a link that is DOWN goes to a lower state with no loss. -/
theorem laneTo_down (hlink : linkState s = 0) (cause : Nat) : ∃ u, (u = s ∨ u = s.put (laneFld ln) 0) ∧ laneState ln u = 0 ∧
    LinkOnly u (laneTo ln 0 cause s) := by
  by_cases hstate : laneState ln s = 0
  · exact ⟨s, .inl rfl, hstate, by rw [laneTo, if_pos hstate]; exact .refl s⟩
  · have hup : linkUp s = false := by rw [linkUp, hlink]; rfl
    have honly : LinkOnly s (laneUnlock ln (halfLost ln s)) := by
      rw [halfLost_of_unlinked hup]
      exact ((LinkOnly.refl s).laneUpd ln _).trans (laneUnlock_linkOnly ln _)
    have hput : LinkOnly (s.put (laneFld ln) 0) ((laneUnlock ln (halfLost ln s)).put (laneFld ln) 0) := by
      obtain ⟨a, q, heq⟩ := honly
      exact ⟨a, q, by rw [heq]; rfl⟩
    have hwhen : ∀ c : Bool, LinkOnly (s.put (laneFld ln) 0)
        (((laneUnlock ln (halfLost ln s)).put (laneFld ln) 0).when c (aprUpd fun a => { a with join := false })) :=
      fun c => .ite (hput.aprUpd _) hput
    refine ⟨_, .inr rfl, laneState_put (by decide) ln s, ?_⟩
    unfold laneTo
    simp only [hstate, hup, Bool.and_false, Bool.false_and, State.when_false, if_false, OfNat.zero_ne_ofNat]
    rw [linkFollow_of_down ((hwhen _).linkState.trans ((linkState_put_lane ln 0 s).trans hlink))]
    exact hwhen _

theorem clockUnlock_downs (hlink : linkState s = 0) (ht : t = clockUnlock ln s) :
    laneState ln t = 0 ∧ t.apr.lane[ln].cr = false ∧ t.apr.lane[ln].buf = [] ∧ NoLog s t ∧ Keeps [Reg.APR_STAT] s t := by
  obtain ⟨u, hu, hstate, honly⟩ := laneTo_down (ln := ln) hlink 3
  have hlast : LinkOnly u t := by rw [ht]; exact honly.laneUpd ln _
  have hfirst : NoLog s u ∧ Keeps [Reg.APR_STAT] s u := by
    obtain rfl | rfl := hu
    · exact ⟨rfl, .refl _ _⟩
    · exact ⟨rfl, (Keeps.refl _ s).putLane ln 0 (.head _)⟩
  have hlane : t.apr.lane[ln].cr = false ∧ t.apr.lane[ln].buf = [] := by
    rw [ht, clockUnlock, laneUpd_same]
    exact ⟨rfl, rfl⟩
  exact ⟨(hlast.laneState ln).trans hstate, hlane.left, hlane.right, hlast.noLog.trans hfirst.left, hfirst.right.trans (hlast.keeps _)⟩

/-! ## Blocks (R191 to R197) -/

section
variable {w : BitVec 66} {sub : Nat}

theorem idle_locks (hcontrol : (rxBits ln w s).extractLsb' 0 2 = 1) (htype : ((rxPayload ln w s).getD 0 0).toNat = 0x33)
    (hen : s.on F.APR_CTL_EN = true) (hhunt : laneState ln s = 1) (hgood : s.apr.lane[ln].good = 63) (ht : t = rxBlock ln w sub s) :
    laneState ln t = 2 ∧ t.apr.lane[ln].good = 0 ∧ NoLog s t ∧ Keeps [Reg.APR_STAT] s t := by
  obtain ⟨clean, heq⟩ := rxBlock_idle sub hcontrol htype
  have honly := descrambled_linkOnly ln w s
  obtain ⟨scr, hlane⟩ := descrambled_lane ln w s
  obtain ⟨hstate, hzero, hlog, hkeeps⟩ := aprIdle_locks ((honly.on _).trans hen) ((honly.laneState ln).trans hhunt)
    (by rw [hlane]; exact hgood) clean (ht.trans heq)
  exact ⟨hstate, hzero, hlog.trans honly.noLog, (honly.keeps _).trans hkeeps⟩

theorem msg_buffers (hcontrol : (rxBits ln w s).extractLsb' 0 2 = 1) (htype : ((rxPayload ln w s).getD 0 0).toNat = 0x6C) (hb : InBlock ln s)
    (hhalf : s.apr.lane[ln].half = none) (hbuf : s.apr.lane[ln].buf = []) (ht : t = rxBlock ln w sub s) :
    t.apr.lane[ln].half = some (rxPayload ln w s) ∧ t.apr.lane[ln].buf = [.msg] ∧ laneState ln t = 2 ∧ NoLog s t ∧ Keeps [] s t := by
  have honly := descrambled_linkOnly ln w s
  obtain ⟨scr, hlane⟩ := descrambled_lane ln w s
  obtain ⟨hmsg, hset, hheld⟩ := aprMsg_buffers (hb.descrambled w) (by rw [hlane]; exact hhalf) (by rw [hlane]; exact hbuf) _
    (ht.trans (rxBlock_msg sub hcontrol htype))
  have hall := honly.trans hmsg
  exact ⟨hset.trans (congrArg some (bytesOfNat_payload_rxPayload ln w s)), hheld, (hall.laneState ln).trans hb.state, hall.noLog, hall.keeps _⟩

theorem dataBlock_accepts {h : List Byte} {c : Instr} (hdata : (rxBits ln w s).extractLsb' 0 2 = 2) (hb : InBlock ln s)
    (hhalf : s.apr.lane[ln].half = some h) (hbuf : s.apr.lane[ln].buf = [.msg]) (hmsg : aprMessage ln (h ++ rxPayload ln w s) = some c)
    (ht : t = rxBlock ln w sub s) : t.apr.lane[ln].half = none ∧ t.apr.lane[ln].buf = [.msg, .data (some c)] ∧ (s.clk.ns + 48, c) ∈ t.timers ∧
      NoLog s t ∧ Keeps [] s t := by
  have honly := descrambled_linkOnly ln w s
  obtain ⟨scr, hlane⟩ := descrambled_lane ln w s
  obtain ⟨hthen, hnone, hheld, hsched⟩ := aprData_accepts (hb.descrambled w) (by rw [hlane]; exact hhalf) (by rw [hlane]; exact hbuf)
    (by rw [bytesOfNat_payload_rxPayload]; exact hmsg) (ht.trans (rxBlock_data sub hdata))
  have hall := honly.trans hthen
  exact ⟨hnone, hheld, honly.clk ▸ hsched, hall.noLog, hall.keeps _⟩

/-- What the clauses on FRAME blocks ask of a block: it is one, of this lane and of the frame length in force, without SEQRST (R193, R194). -/
structure FrameFor (ln : Fin 2) (w : BitVec 66) (s : State) : Prop where
  control : (rxBits ln w s).extractLsb' 0 2 = 1
  type : ((rxPayload ln w s).getD 0 0).toNat = 0x5A
  lane : ((rxPayload ln w s).getD 1 0).toNat = ln.val
  flen : natOfBytes (((rxPayload ln w s).drop 4).take 2) = s.apr.flen
  noReset : ((rxPayload ln w s).getD 6 0).getLsbD 3 = false

/-- A lane in BLOCK with an empty buffer and no message begun. -/
structure EmptyBlock (ln : Fin 2) (s : State) : Prop extends InBlock ln s where
  half : s.apr.lane[ln].half = none
  buf : s.apr.lane[ln].buf = []

/-- The number of a FRAME block (R194). -/
abbrev frameNumber (ln : Fin 2) (w : BitVec 66) (s : State) : Nat := natOfBytes (((rxPayload ln w s).drop 2).take 2)

theorem frameNumber_lt (ln : Fin 2) (w : BitVec 66) (s : State) : frameNumber ln w s < 65536 :=
  (natOfBytes_lt _).trans_le (Nat.pow_le_pow_right (by decide) (List.length_take_le 2 _))

/-- A FRAME block of this lane is judged by its number, on a lane that has taken it. -/
theorem rxBlock_of_frame (hf : FrameFor ln w s) (he : EmptyBlock ln s) : ∃ u, LinkOnly s u ∧ u.apr.lane[ln].buf = [.frame] ∧
    u.apr.lane[ln].fnum = s.apr.lane[ln].fnum ∧ u.apr.lane[ln].pos = s.apr.lane[ln].pos.map (· + 1) ∧ u.apr.flen = s.apr.flen ∧
    rxBlock ln w sub s = if numberFollows ln (frameNumber ln w s) u then frameValid ln (frameNumber ln w s) false sub u
      else frameSlot ln false (u.inc F.APR_CNT2_BADFRM) := by
  obtain ⟨scr, hlane⟩ := descrambled_lane ln w s
  obtain ⟨honly, hbuf, hfnum, hpos, hflen⟩ :=
    frameTaken_takes (s := descrambled ln w s) (by rw [hlane]; exact he.half) (by rw [hlane]; exact he.buf)
  rw [hlane] at hfnum hpos
  refine ⟨_, (descrambled_linkOnly ln w s).trans honly, hbuf, hfnum, hpos, hflen, ?_⟩
  rw [rxBlock_frame sub hf.control hf.type, aprFrame_of_length (he.toInBlock.descrambled w) hf.lane (hf.flen.trans hflen.symm), hf.noReset]

theorem frame_counted {n : Nat} (hf : FrameFor ln w s) (he : EmptyBlock ln s) (hfnum : s.apr.lane[ln].fnum = some n)
    (hwrong : frameNumber ln w s ≠ (n + 1) % 65536) (ht : t = rxBlock ln w sub s) :
    t.get F.APR_CNT2_BADFRM = satInc F.APR_CNT2_BADFRM.width (s.get F.APR_CNT2_BADFRM) 1 ∧ t.apr.lane[ln].buf = [.frame] ∧ laneState ln t = 2 ∧
      NoLog s t ∧ Keeps [Reg.APR_CNT2] s t := by
  have hfits : fldFits F.APR_CNT2_BADFRM = true := by decide +kernel
  have haddr : ∀ ln : Fin 2, (laneFld ln).addr ≠ F.APR_CNT2_BADFRM.addr := by decide
  obtain ⟨u, honly, hbuf, hsame, -, -, heq⟩ := rxBlock_of_frame (sub := sub) hf he
  have hnot : numberFollows ln (frameNumber ln w s) u = false := by
    unfold numberFollows
    rw [hsame, hfnum]
    exact beq_false_of_ne hwrong
  have hstate : laneState ln (u.inc F.APR_CNT2_BADFRM) = 2 :=
    (State.get_inc_ne (haddr ln) 1 u).trans ((honly.laneState ln).trans he.state)
  replace heq : t = u.inc F.APR_CNT2_BADFRM := by
    rw [ht, heq, hnot, if_neg Bool.false_ne_true]
    exact frameSlot_of_unframed (by rw [hstate]; decide) false
  rw [heq]
  exact ⟨(State.get_inc_same hfits u 1).trans (congrArg (satInc _ · 1) (honly.get _)), hbuf, hstate, honly.noLog, (honly.keeps _).inc 1 (.head _)⟩

theorem frame_starts (hf : FrameFor ln w s) (he : EmptyBlock ln s) (hfnum : s.apr.lane[ln].fnum = none) (hpos : s.apr.lane[ln].pos = none)
    (hdown : linkUp s = false) (ht : t = rxBlock ln w sub s) :
    t.apr.lane[ln].fnum = some (frameNumber ln w s) ∧ t.apr.lane[ln].pos = some 0 ∧ t.apr.lane[ln].buf = [.frame] ∧ laneState ln t = 2 ∧
      NoLog s t ∧ Keeps [] s t := by
  obtain ⟨u, honly, hbuf, hsame, hplace, -, heq⟩ := rxBlock_of_frame (sub := sub) hf he
  have hfollows : numberFollows ln (frameNumber ln w s) u = true := by
    unfold numberFollows
    rw [hsame, hfnum]
  rw [hfollows, if_pos rfl] at heq
  obtain ⟨hnoted, hnumber, hzero, hheld⟩ := frameValid_starts ((honly.laneState ln).trans he.state) (by rw [hplace, hpos]; rfl)
    (honly.linkUp.trans hdown) (ht.trans heq)
  have hall := honly.trans hnoted
  exact ⟨hnumber, hzero, hheld.trans hbuf, (hall.laneState ln).trans he.state, hall.noLog, hall.keeps _⟩

theorem frame_frames (hf : FrameFor ln w s) (he : EmptyBlock ln s) (hfnum : s.apr.lane[ln].fnum = some ((frameNumber ln w s + 65535) % 65536))
    (hpos : s.apr.lane[ln].pos = some (s.apr.flen - 1)) (hlen : 1 ≤ s.apr.flen) (halign : linkState s = 1) (hother : laneState (1 - ln) s < 3)
    (ht : t = rxBlock ln w sub s) :
    laneState ln t = 3 ∧ t.apr.lane[ln].fnum = some (frameNumber ln w s) ∧ t.apr.lane[ln].pos = some 0 ∧ linkState t = 1 ∧ NoLog s t ∧
      Keeps [Reg.APR_STAT] s t := by
  have hlt := frameNumber_lt ln w s
  obtain ⟨u, honly, hbuf, hsame, hplace, hflen, heq⟩ := rxBlock_of_frame (sub := sub) hf he
  have hfollows : numberFollows ln (frameNumber ln w s) u = true := by
    unfold numberFollows
    rw [hsame, hfnum]
    exact beq_iff_eq.mpr (by omega)
  have hnext : u.apr.lane[ln].pos = some u.apr.flen := by
    rw [hplace, hpos, hflen]
    exact congrArg some (Nat.sub_add_cancel hlen)
  rw [hfollows, if_pos rfl] at heq
  obtain ⟨hnoted, hstate, hlink, hnumber, hzero⟩ := frameValid_frames ((honly.laneState ln).trans he.state) hnext (honly.linkState.trans halign)
    (by rw [honly.laneState]; exact hother) (ht.trans heq)
  have hput : NoLog s (u.put (laneFld ln) 3) := honly.noLog
  exact ⟨hstate, hnumber, hzero, hlink, hnoted.noLog.trans hput, ((honly.keeps _).putLane ln 3 (.head _)).trans (hnoted.keeps _)⟩

end

end Sys2Proof.Machine
end

section
/-!
PROOFS. The link's states: what a change of LINK does, RETRAIN and SEQRESET (R198, R199, R208).
-/
namespace Sys2Proof.Machine

variable {ln : Fin 2} {s t u : State}

/-! ## A change of LINK (R198, R199) -/

theorem link_fits : fldFits F.APR_STAT_LINK = true := by decide +kernel
theorem syncd_fits : fldFits F.APR_STAT_SYNCD = true := by decide +kernel
theorem syncd_apart_link : fldApart F.APR_STAT_SYNCD F.APR_STAT_LINK = true := by decide +kernel

/-- The lanes joined or not, as a function says. -/
def lanesJoined (joined : Fin 2 → Bool) (s : State) : State := s.each lanes fun ln => laneUpd ln fun l => { l with joined := joined ln }

theorem lanesJoined_linkOnly (joined : Fin 2 → Bool) (s : State) : LinkOnly s (lanesJoined joined s) :=
  ((LinkOnly.refl s).laneUpd 0 _).laneUpd 1 _

theorem lanesJoined_joined (joined : Fin 2 → Bool) (s : State) (ln : Fin 2) : (lanesJoined joined s).apr.lane[ln].joined = joined ln := by
  obtain rfl | rfl := fin2_cases ln
  · exact (congrArg AprLane.joined (laneUpd_ne (by decide) _ _)).trans (congrArg AprLane.joined (laneUpd_same s 0 _))
  · exact congrArg AprLane.joined (laneUpd_same _ 1 _)

/-- A change of LINK up to its event: the fields LINK and, from DOWN to ALIGN, SYNCD, the entry in the log, the lanes that are joined. -/
structure LinkMoved (new : Nat) (joined : Fin 2 → Bool) (s u : State) : Prop where
  alters : Alters [F.APR_STAT_LINK, F.APR_STAT_SYNCD] s u
  link : linkState u = new
  joined : ∀ ln : Fin 2, u.apr.lane[ln].joined = joined ln
  log : u.log.reqs = s.log.reqs ++
    [⟨s.clk.time, s.logAngle, 0x07, 0x0001, [0, b8 (linkState s), b8 new, b8 (laneState 0 s + 4 * laneState 1 s)]⟩]
  flen : u.apr.flen = s.apr.flen

theorem setLink_moves {new : Nat} (joined : Fin 2 → Bool) (hnew : new ≠ linkState s) (hlt : new < 8) :
    ∃ u, LinkMoved new joined s u ∧ setLink new joined s = u.when (decide (2 ≤ new) && decide (linkState s < 2)) fun t => t.fire 134 := by
  obtain ⟨v, hv⟩ : ∃ v, v = ((lanesJoined joined s).put F.APR_STAT_LINK new).logReq 0x07 0x0001
    [0, b8 (linkState s), b8 new, b8 (laneState 0 s + 4 * laneState 1 s)] := ⟨_, rfl⟩
  have hmoved : LinkMoved new joined s v := by
    rw [hv]
    exact ⟨(((lanesJoined_linkOnly joined s).alters _).put new (.head _)).logReq _ _ _,
      State.get_put_of_lt link_fits hlt _, lanesJoined_joined joined s, rfl, rfl⟩
  have hsync : ∀ c : Bool, LinkMoved new joined s (v.when c fun t => t.put F.APR_STAT_SYNCD 0) := fun c => by
    cases c
    · exact hmoved
    · exact ⟨hmoved.alters.put 0 (.tail _ (.head _)), (State.get_put_apart syncd_apart_link 0 v).trans hmoved.link,
        hmoved.joined, hmoved.log, hmoved.flen⟩
  have hdown : ∀ (c : Bool) (at_ : Apr → Option Nat) (z : State), LinkMoved new joined s z →
      LinkMoved new joined s (z.when c (aprUpd fun a => { a with join := false, downAt := at_ a })) := fun c _ z hz => by
    cases c
    · exact hz
    · exact ⟨hz.alters.congr rfl rfl rfl rfl rfl, hz.link, hz.joined, hz.log, hz.flen⟩
  unfold setLink
  rw [if_neg hnew]
  refine ⟨_, ?_, rfl⟩
  change LinkMoved new joined s (((((lanesJoined joined s).put F.APR_STAT_LINK new).logReq _ _ _).when _ _).when _ _)
  rw [← hv]
  exact hdown _ _ _ (hsync _)

/-- LINK_TIMEOUT in ALIGN with one lane FRAMED and ONELANE = 1: DEGRADED on that lane. -/
theorem linkTimeout_degrades (halign : linkState s = 1) (hframed : laneState ln s = 3) (hone : s.on F.APR_CTL_ONELANE = true)
    (ht : t = linkTimeout ln s) : linkState t = 3 ∧ t.apr.lane[ln].joined = true ∧
      LastLog 0x07 0x0001 [0, 1, 3, b8 (laneState 0 s + 4 * laneState 1 s)] s t ∧ Keeps [Reg.APR_STAT, Reg.EVM_FAST] s t := by
  obtain ⟨u, hmoved, heq⟩ := setLink_moves (s := s) (new := 3) (fun x => x == ln) (by rw [halign]; decide) (by decide)
  have hfire : t = u.fire 134 := by
    rw [ht, linkTimeout, if_pos ⟨halign, hframed⟩, if_pos hone, heq, halign]
    rfl
  have hfast : Alters [F.EVM_FAST_FAST] u t := by rw [hfire]; exact (Alters.refl _ u).fire 134 (.head _)
  have hlog : t.log = u.log := by rw [hfire]; exact fire_log 134 (s := u)
  have hapr : t.apr = u.apr := by rw [hfire]; unfold State.fire; split <;> rfl
  refine ⟨(hfast.get _ (by decide +kernel)).trans hmoved.link, ?_, ?_, ?_⟩
  · rw [hapr, hmoved.joined]
    exact beq_self_eq_true ln
  · unfold LastLog
    rw [hlog, hmoved.log, halign, List.getLast?_append]
    rfl
  · exact (hmoved.alters.andThen hfast).keeps (by simp [F.APR_STAT_LINK, F.APR_STAT_SYNCD, F.EVM_FAST_FAST])

/-! ## Both lanes DOWN (R199) -/

/-- One lane DOWN, where its link is not up: no message and no lane is lost. -/
def laneDown (ln : Fin 2) (s : State) : State := laneUnlock ln ((halfLost ln s).put (laneFld ln) 0)

theorem laneDown_downs (hup : linkUp s = false) : Alters [laneFld ln] s (laneDown ln s) ∧ laneState ln (laneDown ln s) = 0 ∧
    linkState (laneDown ln s) = linkState s ∧ (laneDown ln s).apr.flen = s.apr.flen := by
  have hhalf : LinkOnly s (halfLost ln s) := by rw [halfLost_of_unlinked hup]; exact (LinkOnly.refl s).laneUpd ln _
  have hafter := laneUnlock_linkOnly ln ((halfLost ln s).put (laneFld ln) 0)
  refine ⟨((hhalf.alters _).put 0 (.head _)).trans (hafter.alters _), (hafter.laneState ln).trans (laneState_put (by decide) ln _),
    hafter.linkState.trans ((linkState_put_lane ln 0 _).trans hhalf.linkState), ?_⟩
  rw [laneDown, halfLost_of_unlinked hup]
  rfl

/-- Clock recovery of the lanes reset, with their buffers. -/
def lanesReset (s : State) : State :=
  s.each lanes fun ln => laneUpd ln fun l => { l with cr := false, buf := [], refill := 4, insertOk := false }

theorem lanesReset_linkOnly (s : State) : LinkOnly s (lanesReset s) := ((LinkOnly.refl s).laneUpd 0 _).laneUpd 1 _

theorem aprDown_of_align (halign : linkState s = 1) (cause : Nat) :
    aprDown cause s = setLink 0 (fun _ => false) (lanesReset (laneDown 1 (laneDown 0 s))) := by
  have hup : linkUp s = false := by rw [linkUp, halign]; rfl
  unfold aprDown
  simp only [hup, Bool.and_false, Bool.false_and, State.when_false]
  rfl

theorem aprDown_downs (halign : linkState s = 1) (cause : Nat) (ht : t = aprDown cause s) :
    linkState t = 0 ∧ laneState 0 t = 0 ∧ laneState 1 t = 0 ∧ t.apr.flen = s.apr.flen ∧ Keeps [Reg.APR_STAT] s t := by
  have hup : linkUp s = false := by rw [linkUp, halign]; rfl
  obtain ⟨halters0, hstate0, hlink0, hflen0⟩ := laneDown_downs (ln := 0) hup
  have hup0 : linkUp (laneDown 0 s) = false := by rw [linkUp, hlink0, halign]; rfl
  obtain ⟨halters1, hstate1, hlink1, hflen1⟩ := laneDown_downs (ln := 1) hup0
  have hreset := lanesReset_linkOnly (laneDown 1 (laneDown 0 s))
  have hlink : linkState (lanesReset (laneDown 1 (laneDown 0 s))) = 1 := hreset.linkState.trans (hlink1.trans (hlink0.trans halign))
  obtain ⟨u, hmoved, heq⟩ := setLink_moves (new := 0) (fun _ => false) (by rw [hlink]; decide) (by decide)
  have hu : t = u := by rw [ht, aprDown_of_align halign, heq]; rfl
  have hlane : ∀ k : Fin 2, laneState k u = laneState k (laneDown 1 (laneDown 0 s)) := fun k =>
    (hmoved.alters.get _ (by revert k; decide +kernel)).trans (hreset.laneState k)
  rw [hu]
  refine ⟨hmoved.link, (hlane 0).trans ((halters1.get _ (by decide +kernel)).trans hstate0), (hlane 1).trans hstate1,
    hmoved.flen.trans (hflen1.trans hflen0), ?_⟩
  exact ((halters0.andThen halters1).trans (hreset.alters _)).andThen hmoved.alters |>.keeps
    (by simp [laneFld_addr, F.APR_STAT_LINK, F.APR_STAT_SYNCD])

/-! ## APR_ACT (R20, R199, R208) -/

/-- A performed write of APR_ACT: the register holds it, with no ARG bit, and nothing else differs from the action's effect (R11, R20). -/
theorem act_apr {ticket : Byte} (arg : BitVec 16) (action : Byte) {f : State → State} (hfresh : Fresh Reg.APR_ACT ticket s) :
    ∃ w, s.act Reg.APR_ACT ticket arg action f = (f s).wr Reg.APR_ACT w ∧
      ((f s).wr Reg.APR_ACT w).rd Reg.APR_ACT = ticket ++ (0 : BitVec 16) ++ action := by
  have hfull : implMask Reg.APR_ACT = BitVec.allOnes 32 := by decide +kernel
  have hmask : arg &&& argMask Reg.APR_ACT action = 0 := BitVec.and_zero
  refine ⟨_, State.act_fresh _ _ _ _ _ _ hfresh, ?_⟩
  rw [State.rd_wr_same, hfull, BitVec.and_allOnes, hmask]
  rfl

theorem State.get_wr_ne {f : Fld} {a : Nat} (h : f.addr ≠ a) (s : State) (w : Word) : (s.wr a w).get f = s.get f :=
  congrArg (fldOf f) (s.rd_wr_ne a f.addr w h)

/-- The slot's domain PD58 is on: the actions reach APR_ACT (R511). -/
theorem exec_retrain_of_on (hpower : s.bit F.PWR_ON1_ON 26 = true) (ticket : Byte) (arg : BitVec 16) :
    exec (.retrain ticket arg) s = .next (s.act Reg.APR_ACT ticket arg 1 (aprAct 1)) := congrArg Host.Outcome.next (if_pos hpower)

theorem exec_seqreset_of_on (hpower : s.bit F.PWR_ON1_ON 26 = true) (ticket : Byte) (arg : BitVec 16) :
    exec (.seqreset ticket arg) s = .next (s.act Reg.APR_ACT ticket arg 2 (aprAct 2)) := congrArg Host.Outcome.next (if_pos hpower)

theorem retrain_downs {ticket : Byte} (arg : BitVec 16) (hfresh : Fresh Reg.APR_ACT ticket s) (hen : s.on F.APR_CTL_EN = true)
    (halign : linkState s = 1) (ht : t = s.act Reg.APR_ACT ticket arg 1 (aprAct 1)) :
    linkState t = 0 ∧ laneState 0 t = 0 ∧ laneState 1 t = 0 ∧ t.apr.holdRx = true ∧ t.apr.newFrame = true ∧
      t.apr.flen = clampNat (s.get F.APR_LINK_FLEN) 64 4096 ∧ t.rd Reg.APR_ACT = ticket ++ (0 : BitVec 16) ++ (1 : Byte) ∧
      Keeps [Reg.APR_ACT, Reg.APR_STAT] s t := by
  obtain ⟨w, hact, hword⟩ := act_apr arg 1 (f := aprAct 1) hfresh
  obtain ⟨v, hv⟩ : ∃ v, v = aprDown 4 (aprUpd (fun a => { a with flen := flenOf s }) s) := ⟨_, rfl⟩
  obtain ⟨hlink, hlane0, hlane1, hflen, hkeeps⟩ := aprDown_downs (s := aprUpd (fun a => { a with flen := flenOf s }) s) halign 4 hv
  have heq : aprAct 1 s = aprUpd (fun a => { a with newFrame := true, second := none, holdRx := true, holdSent := false }) v := by
    rw [hv]
    exact if_pos hen
  rw [hact, heq] at ht
  rw [heq, ← ht] at hword
  have hget : ∀ f : Fld, f.addr ≠ Reg.APR_ACT → t.get f = v.get f := fun f hf => by rw [ht]; exact State.get_wr_ne hf _ w
  refine ⟨(hget _ (by decide)).trans hlink, (hget _ (by decide)).trans hlane0, (hget _ (by decide)).trans hlane1, by rw [ht]; rfl,
    by rw [ht]; rfl, ?_, hword, ?_⟩
  · rw [ht]
    exact hflen
  · rw [ht]
    exact (((Keeps.refl _ s).congr rfl rfl rfl).trans (hkeeps.mono (by simp))).congr rfl rfl rfl |>.wr w (.head _)

theorem seqreset_unsyncs {ticket : Byte} (arg : BitVec 16) (hfresh : Fresh Reg.APR_ACT ticket s)
    (ht : t = s.act Reg.APR_ACT ticket arg 2 (aprAct 2)) :
    t.get F.APR_STAT_SYNCD = 0 ∧ t.apr = s.apr ∧ t.rd Reg.APR_ACT = ticket ++ (0 : BitVec 16) ++ (2 : Byte) ∧ NoLog s t ∧
      Keeps [Reg.APR_ACT, Reg.APR_STAT] s t := by
  obtain ⟨w, hact, hword⟩ := act_apr arg 2 (f := aprAct 2) hfresh
  rw [← hact, ← ht] at hword
  replace ht : t = (s.put F.APR_STAT_SYNCD 0).wr Reg.APR_ACT w := ht.trans hact
  refine ⟨?_, by rw [ht]; rfl, hword, by rw [ht]; rfl, ?_⟩
  · rw [ht, State.get_wr_ne (by decide)]
    exact State.get_put_of_lt syncd_fits (by decide) s
  · rw [ht]
    exact ((Keeps.refl _ s).put (f := F.APR_STAT_SYNCD) 0 (.tail _ (.head _))).wr w (.head _)

end Sys2Proof.Machine
end

section
/-!
PROOFS. The enable of the link: a write of APR_CTL by the Trio, the fall to Basic level that it may bring, the start of the transmit lane
(R11, R15, R19, R192, R194, R209).
-/
namespace Sys2Proof.Machine

variable {s t u : State}

/-! ## The fall to Basic level (R19) -/

/-- What the fall of APRAM to Basic level leaves as it was: the link, its FLEN and EN, the cycle, memory and the queue. -/
structure LevelKeeps (s t : State) : Prop where
  apr : t.apr = s.apr
  clk : t.clk = s.clk
  mem : t.mem = s.mem
  pending : t.pending = s.pending
  flen : t.get F.APR_LINK_FLEN = s.get F.APR_LINK_FLEN
  en : t.on F.APR_CTL_EN = s.on F.APR_CTL_EN

theorem LevelKeeps.refl (s : State) : LevelKeeps s s := ⟨rfl, rfl, rfl, rfl, rfl, rfl⟩

theorem LevelKeeps.trans (h : LevelKeeps s t) (k : LevelKeeps t u) : LevelKeeps s u :=
  ⟨k.apr.trans h.apr, k.clk.trans h.clk, k.mem.trans h.mem, k.pending.trans h.pending, k.flen.trans h.flen, k.en.trans h.en⟩

theorem LevelKeeps.each {α : Type} (xs : List α) {f : α → State → State} (hf : ∀ x ∈ xs, ∀ v, LevelKeeps v (f x v)) (s : State) :
    LevelKeeps s (s.each xs f) := by
  induction xs generalizing s with
  | nil => exact .refl s
  | cons x xs ih => exact (hf x (.head _) s).trans (ih (fun y hy => hf y (.tail _ hy)) _)

/-- A pending value shown for a rail (R127). -/
theorem showPend_levelKeeps (r : Nat) (s : State) : LevelKeeps s (s.showPend r) := by
  have hctl : Reg.APR_CTL ≠ Reg.MRVr_UPD r := by unfold Reg.APR_CTL Reg.MRVr_UPD; omega
  have hlink : Reg.APR_LINK ≠ Reg.MRVr_UPD r := by unfold Reg.APR_LINK Reg.MRVr_UPD; omega
  exact ⟨rfl, rfl, rfl, rfl, s.get_put_ne _ F.APR_LINK_FLEN _ hlink, congrArg (· != 0) (s.get_put_ne _ F.APR_CTL_EN _ hctl)⟩

/-- A store that leaves APR_CTL and FLEN. -/
theorem store_levelKeeps {a : Nat} {w : Word} (hctl : a ≠ Reg.APR_CTL)
    (hlink : a = Reg.APR_LINK → fldOf F.APR_LINK_FLEN w = s.get F.APR_LINK_FLEN) : LevelKeeps s (s.store a w) := by
  have hfits : fldFits F.APR_LINK_FLEN = true := by decide +kernel
  have hwr : LevelKeeps s (s.wr a w) := by
    refine ⟨rfl, rfl, rfl, rfl, ?_, congrArg (· != 0) (State.get_wr_ne hctl.symm s w)⟩
    by_cases ha : Reg.APR_LINK = a
    · exact (State.get_wr_same hfits ha s w).trans (hlink ha.symm)
    · exact State.get_wr_ne ha s w
  have hnote : ∀ (v : State) (q : List Shadow), LevelKeeps v { v with shadow := q } := fun _ _ => ⟨rfl, rfl, rfl, rfl, rfl, rfl⟩
  have hfold : ∀ (rs : List Nat) (v : State), LevelKeeps v (rs.foldl
      (fun t r => ({ t with shadow := t.shadow ++ [⟨a, w &&& implMask a, r, t.clk.ns⟩] } : State).showPend r) v) := fun rs => by
    induction rs with
    | nil => exact .refl
    | cons r rs ih => exact fun v => ((hnote v _).trans (showPend_levelKeeps r _)).trans (ih _)
  exact hwr.trans (hfold _ _)

theorem storeIf_levelKeeps {a : Nat} {w : Word} (hctl : a ≠ Reg.APR_CTL)
    (hlink : a = Reg.APR_LINK → fldOf F.APR_LINK_FLEN w = s.get F.APR_LINK_FLEN) : LevelKeeps s (s.storeIf a w) := by
  unfold State.storeIf
  split
  · exact .refl s
  · exact store_levelKeeps hctl hlink

/-- The rows of APRAM with bits of the Expert level; of them APR_LINK alone is no shaper's, and its FLEN is of the Basic level. -/
def aprExpertRows : List RegRow := ((mapFind regRows 0x4007).getD []).filter fun r => r.expert != 0

theorem aprExpertRows_spare : ∀ r ∈ aprExpertRows, ∀ a ∈ rowAddrs r, a ≠ Reg.APR_CTL ∧ (a = Reg.APR_LINK → r.expert = 0xFFFF0000#32) := by
  decide +kernel

/-- The Expert bits of APR_LINK replaced leave its FLEN. -/
theorem flen_of_expert_replaced (w x : Word) :
    fldOf F.APR_LINK_FLEN ((w &&& ~~~0xFFFF0000#32) ||| (x &&& 0xFFFF0000#32)) = fldOf F.APR_LINK_FLEN w := by
  have hin : fldWithin F.APR_LINK_FLEN (~~~0xFFFF0000#32) = true := by decide
  have hout : fldOf F.APR_LINK_FLEN (0xFFFF0000#32) = 0 := by decide
  rw [fldOf_or, fldOf_and_of_within hin, fldOf_and, hout, Nat.and_zero, Nat.or_zero]

theorem expertLoad_levelKeeps (s : State) : LevelKeeps s (expertLoad 0x07 s) := by
  have hrows : ∀ v : State, LevelKeeps v (v.each aprExpertRows fun r t =>
      t.each (rowAddrs r) fun a u => u.storeIf a ((u.rd a &&& ~~~r.expert) ||| (r.reset &&& r.expert))) :=
    LevelKeeps.each _ fun r hr => LevelKeeps.each _ fun a ha v => by
      obtain ⟨hctl, hlink⟩ := aprExpertRows_spare r hr a ha
      refine storeIf_levelKeeps hctl fun heq => ?_
      rw [hlink heq, flen_of_expert_replaced, heq]
      rfl
  have hpmaxr : ∀ v : State, LevelKeeps v (v.each rails fun r t => t.deriveFld (F.PARr_GUARD_PMAXR r) t.par[r].pmaxr) :=
    LevelKeeps.each _ fun r _ v => storeIf_levelKeeps (by revert r; decide) fun heq => absurd heq (by revert r; decide)
  exact (hrows s).trans (hpmaxr _)

/-! ## EN rising (R192, R194, R209) -/

/-- The timers differ at most, and every slot of the transmit lane that was scheduled still is. -/
structure KeepsSlots (s t : State) : Prop where
  apr : t.apr = s.apr
  mem : t.mem = s.mem
  pending : t.pending = s.pending
  regs : t.regs = s.regs
  slots : ∀ n, (n, Instr.txSlot) ∈ s.timers → (n, Instr.txSlot) ∈ t.timers

theorem KeepsSlots.refl (s : State) : KeepsSlots s s := ⟨rfl, rfl, rfl, rfl, fun _ h => h⟩

theorem KeepsSlots.trans (h : KeepsSlots s t) (k : KeepsSlots t u) : KeepsSlots s u :=
  ⟨k.apr.trans h.apr, k.mem.trans h.mem, k.pending.trans h.pending, k.regs.trans h.regs, fun n hn => k.slots n (h.slots n hn)⟩

theorem telTimer_keepsSlots (r : Fin 4) (s : State) : KeepsSlots s (telTimer r s) := by
  have hcancel : ∀ n, (n, Instr.txSlot) ∈ s.timers → (n, Instr.txSlot) ∈ (s.cancel (.telem r)).timers := fun n h =>
    List.mem_filter.mpr ⟨h, by simp⟩
  unfold telTimer
  split
  · exact ⟨rfl, rfl, rfl, rfl, fun n h => List.mem_append_left _ (hcancel n h)⟩
  · exact ⟨rfl, rfl, rfl, rfl, hcancel⟩

/-- The transmit lane as EN = 1 starts it. -/
def txStarted (s : State) : State :=
  (aprUpd (fun a => { a with
    flen := flenOf s, newFrame := true, txPos := 0, idles := 0, second := none, scr := BitVec.allOnes 58, txT := s.clk.ns * 100, holdRx := false,
    holdSent := false }) s).restart 0 .txSlot

theorem aprCtlWrite_rises {v : Word} (hoff : s.on F.APR_CTL_EN = false) (hen : fldOf F.APR_CTL_EN v = 1) :
    aprCtlWrite v s = (txStarted (s.wr Reg.APR_CTL v)).each rails telTimer ∧ (s.wr Reg.APR_CTL v).on F.APR_CTL_EN = true := by
  have hfits : fldFits F.APR_CTL_EN = true := by decide +kernel
  have hon : (s.wr Reg.APR_CTL v).on F.APR_CTL_EN = true := by
    rw [State.on, (State.get_wr_same (a := Reg.APR_CTL) hfits rfl s v).trans hen]
    rfl
  refine ⟨?_, hon⟩
  unfold aprCtlWrite
  simp only [hon, hoff]
  rfl

/-- What the enable leads to, from the state in which the write takes effect. -/
theorem aprCtlWrite_enables {v : Word} (hoff : s.on F.APR_CTL_EN = false) (hen : fldOf F.APR_CTL_EN v = 1) (ht : t = aprCtlWrite v s) :
    t.on F.APR_CTL_EN = true ∧ t.apr.flen = clampNat (s.get F.APR_LINK_FLEN) 64 4096 ∧ t.apr.newFrame = true ∧ t.apr.txPos = 0 ∧
      t.apr.scr = BitVec.allOnes 58 ∧ (s.clk.ns, .txSlot) ∈ t.timers ∧ SameMem s t := by
  obtain ⟨heq, hon⟩ := aprCtlWrite_rises hoff hen
  obtain ⟨u, hu⟩ : ∃ u, u = txStarted (s.wr Reg.APR_CTL v) := ⟨_, rfl⟩
  have htimers : KeepsSlots u t := by
    rw [ht, heq, ← hu]
    exact State.each_rel KeepsSlots .refl (fun _ _ _ => .trans) rails telTimer telTimer_keepsSlots u
  obtain ⟨hapr, hmem, hpend, hregs, htx⟩ := htimers
  have hflen : flenOf (s.wr Reg.APR_CTL v) = clampNat (s.get F.APR_LINK_FLEN) 64 4096 :=
    congrArg (clampNat · 64 4096) (State.get_wr_ne (by decide) s v)
  rw [hu] at hapr hmem hpend hregs htx
  refine ⟨?_, by rw [hapr]; exact hflen, by rw [hapr]; rfl, by rw [hapr]; rfl, by rw [hapr]; rfl, htx _ ?_, .of_eq hmem hpend⟩
  · unfold State.on
    rw [State.get_regs, hregs]
    exact hon
  · exact State.mem_timers_after _ _ rfl

/-! ## The write by the Trio (R11, R15) -/

/-- The row of APR_CTL. -/
def aprCtlRow : RegRow := rowsAPRAM1[0]

theorem rowFor_aprCtl : rowFor Reg.APR_CTL = some aprCtlRow := by decide +kernel

/-- EXPERT cleared leaves EN. -/
theorem basicLevel_levelKeeps (s : State) : LevelKeeps s (s.wr Reg.APR_CTL (s.rd Reg.APR_CTL &&& 0x7FFFFFFF)) := by
  have hfits : fldFits F.APR_CTL_EN = true := by decide +kernel
  have hin : fldWithin F.APR_CTL_EN 0x7FFFFFFF = true := by decide
  exact ⟨rfl, rfl, rfl, rfl, State.get_wr_ne (by decide) s _,
    congrArg (· != 0) ((State.get_wr_same hfits rfl s _).trans (fldOf_and_of_within hin _))⟩

/-- A word with EN = 1 written to APR_CTL is stored with EN = 1. -/
theorem aprEn_written (value old : Word) : fldOf F.APR_CTL_EN (((value ||| 1) &&& aprCtlRow.rw) ||| (old &&& ~~~aprCtlRow.rw)) = 1 := by
  have hin : fldWithin F.APR_CTL_EN aprCtlRow.rw = true := by decide
  have hout : fldOf F.APR_CTL_EN (~~~aprCtlRow.rw) = 0 := by decide
  have hone : fldOf F.APR_CTL_EN 1 = 1 := by decide
  have hbit : fldOf F.APR_CTL_EN value = 0 ∨ fldOf F.APR_CTL_EN value = 1 :=
    Nat.le_one_iff_eq_zero_or_eq_one.mp (Nat.le_of_lt_succ (Nat.mod_lt _ (by decide)))
  rw [fldOf_or, fldOf_and_of_within hin, fldOf_and, hout, Nat.and_zero, Nat.or_zero, fldOf_or, hone]
  obtain h | h := hbit <;> rw [h] <;> rfl

/-- A write of APR_CTL, which has no flags and no bits of the Expert level: a fall to Basic level at most, then its effect. -/
theorem fieldWrite_aprCtl (v : Word) (s : State) : ∃ u old, LevelKeeps s u ∧
    fieldWrite .trio Reg.APR_CTL v 0 s = aprCtlWrite ((v &&& aprCtlRow.rw) ||| (old &&& ~~~aprCtlRow.rw)) u := by
  have hctl : Reg.APR_CTL = ctlOf Reg.APR_CTL := by decide
  have hw1c : aprCtlRow.w1c = 0 := rfl
  have hexpert : aprCtlRow.expert = 0 := rfl
  have hrwl : aprCtlRow.rwl = 0 := rfl
  have hmay : (aprCtlRow.rw ||| 0) &&& ~~~(0 : Word) = aprCtlRow.rw := by decide
  have hopen : aprCtlRow.rw ≠ 0 := by decide
  have hshut : ∀ x : Word, x &&& 0 = 0 := fun _ => BitVec.and_zero
  have heffect : ∀ (w : Word) (z : State), writeEffect .trio Reg.APR_CTL w z = aprCtlWrite w z := fun _ _ => rfl
  have hderive : ∀ z : State, deriveBlock (Reg.APR_CTL / 65536 % 256) z = z := fun _ => rfl
  obtain ⟨u, hu⟩ : ∃ u, u = if Reg.APR_CTL = ctlOf Reg.APR_CTL ∧ s.expertAt Reg.APR_CTL ∧ !v.getLsbD 31 then
      expertLoad (Reg.APR_CTL / 65536 % 256) (s.wr Reg.APR_CTL (s.rd Reg.APR_CTL &&& 0x7FFFFFFF)) else s := ⟨_, rfl⟩
  have hlevel : LevelKeeps s u := by
    rw [hu]
    split
    · exact (basicLevel_levelKeeps s).trans (expertLoad_levelKeeps _)
    · exact .refl s
  refine ⟨u, u.rd Reg.APR_CTL, hlevel, ?_⟩
  unfold fieldWrite flagClear
  simp only [rowFor_aprCtl, hw1c, if_true, if_pos hctl, ← hu, hexpert, hrwl, ite_self, hmay, hshut, if_neg hopen, heffect, hderive]

theorem aprEnable_enables {value : Word} (hslot : slotOn Reg.APR_CTL s = true) (hoff : s.on F.APR_CTL_EN = false)
    (ht : t = busWrite .trio Reg.APR_CTL (value ||| 1) 0 s) :
    t.on F.APR_CTL_EN = true ∧ t.apr.flen = clampNat (s.get F.APR_LINK_FLEN) 64 4096 ∧ t.apr.newFrame = true ∧ t.apr.txPos = 0 ∧
      t.apr.scr = BitVec.allOnes 58 ∧ (s.clk.ns, .txSlot) ∈ t.timers ∧ SameMem s t := by
  have hans : answered .trio Reg.APR_CTL { s with busErr := false } = true := by
    have hon : slotOn Reg.APR_CTL { s with busErr := false } = true := hslot
    have howned : ownedSlot Reg.APR_CTL = true := by decide
    rw [answered, howned, hon]
    rfl
  obtain ⟨u, old, hlevel, hwrite⟩ := fieldWrite_aprCtl (value ||| 1) { s with busErr := false }
  have hirq : ∀ v : State, irqSeen Reg.APR_CTL v = v := fun v => if_neg (fun h => absurd h.left (by decide))
  rw [busWrite_fields .trio Reg.APR_CTL _ _ s aprCtlRow hans (by decide) (by decide) (by decide) rowFor_aprCtl rfl, hirq, hwrite] at ht
  obtain ⟨hon, hflen, hframe, hpos, hscr, htx, hmem⟩ := aprCtlWrite_enables (hlevel.en.trans hoff) (aprEn_written value old) ht
  rw [hlevel.flen] at hflen
  rw [hlevel.clk] at htx
  exact ⟨hon, hflen, hframe, hpos, hscr, htx, SameMem.trans (.of_eq hlevel.mem hlevel.pending) hmem⟩

/-! ## The obligation -/

/-- Settles O19, command by command: a block is read from its bits and changes its lane alone, and LINK changes by `setLink`. -/
theorem linkLanes : Obligations.LinkLanes := by
  unfold Obligations.LinkLanes
  refine ⟨fun s ln hen hdown hfree => ⟨_, rfl, clockRecovered_hunts hen hdown hfree rfl⟩,
    fun s ln hlink _ => ⟨_, rfl, clockUnlock_downs hlink rfl⟩,
    fun s ln block hcontrol htype hen hhunt hgood => ⟨_, rfl, idle_locks hcontrol htype hen hhunt hgood rfl⟩,
    fun s ln block hcontrol htype hen hstate hfresh hhalf hhist hbuf =>
      ⟨_, rfl, msg_buffers hcontrol htype ⟨hen, hstate, hfresh, hhist⟩ hhalf hbuf rfl⟩,
    fun s ln header lo hi h c hdata hen hstate hfresh hhalf hhist hbuf hmsg =>
      ⟨_, rfl, dataBlock_accepts hdata ⟨hen, hstate, hfresh, hhist⟩ hhalf hbuf hmsg rfl⟩,
    fun s ln header b0 b1 b4 sub f hcontrol htype hlane hen hstate hfresh hhist hbuf hhalf hfnum hwrong hflen hreset =>
      ⟨_, rfl, frame_counted ⟨hcontrol, htype, hlane, hflen, hreset⟩ ⟨⟨hen, hstate, hfresh, hhist⟩, hhalf, hbuf⟩ hfnum hwrong rfl⟩,
    fun s ln header b0 b1 b4 sub hcontrol htype hlane hen hstate hfresh hhist hbuf hhalf hfnum hpos hflen hreset hdown _ =>
      ⟨_, rfl, frame_starts ⟨hcontrol, htype, hlane, hflen, hreset⟩ ⟨⟨hen, hstate, hfresh, hhist⟩, hhalf, hbuf⟩ hfnum hpos hdown rfl⟩,
    fun s ln header b0 b1 b4 sub hcontrol htype hlane hen hstate hfresh hhist hbuf hhalf hfnum hpos hlen hflen hreset halign hother _ _ =>
      ⟨_, rfl, frame_frames ⟨hcontrol, htype, hlane, hflen, hreset⟩ ⟨⟨hen, hstate, hfresh, hhist⟩, hhalf, hbuf⟩
        hfnum hpos hlen halign hother rfl⟩,
    fun s ln halign hframed hone => ⟨_, rfl, linkTimeout_degrades halign hframed hone rfl⟩,
    fun s ticket arg hpower hfresh hen halign => ⟨_, exec_retrain_of_on hpower ticket arg, retrain_downs arg hfresh hen halign rfl⟩,
    fun s ticket arg hpower hfresh => ⟨_, exec_seqreset_of_on hpower ticket arg, seqreset_unsyncs arg hfresh rfl⟩,
    fun s value hslot hoff => ⟨_, rfl, aprEnable_enables hslot hoff rfl⟩⟩

end Sys2Proof.Machine
end

section
/-!
PROOFS. Messages of the Apram link at a turn boundary that loads the source mask (R27, R109, R204).
-/
namespace Sys2Proof.Machine

/-- The link is ACTIVE on both lanes and synchronised at H = 100, in the cycle whose turn boundary closes rail 0's mask. -/
def linkedAtMaskClosing : State :=
  aprUpd (fun a => { a with lane := Vector.replicate 2 { joined := true } })
    (((maskClosing.put F.APR_STAT_LINK 2).put F.APR_STAT_SYNCD 1).put F.APR_SEQ_H 100)

/-- The VSET message of sequence 101. -/
def maskedVset : State := aprAccept 0 101 (vsetArrive 0 1 2000) linkedAtMaskClosing

/-- The masked message leaves the target at 0, and is counted as masked. -/
theorem target_maskedVset : maskedVset.get (F.MRVr_VSNOW_T 0) = 0 ∧ maskedVset.get (F.MRVr_VSREJ_MASKED 0) = 1 := by decide +kernel

/-- Refutes O20: as for O11, a VSET message accepted in the cycle of a turn boundary that takes Apram out of the mask does not become the target,
though the mask in force until then has its bit (R109, R204). -/
theorem not_linkMessages : ¬ Obligations.LinkMessages := by
  unfold Obligations.LinkMessages
  rintro ⟨-, hvset, -⟩
  have hup : linkUp linkedAtMaskClosing = true := by decide +kernel
  have hjoined : linkedAtMaskClosing.apr.lane[(0 : Fin 2)].joined = true := by decide +kernel
  have hsynced : linkedAtMaskClosing.on F.APR_STAT_SYNCD = true := by decide +kernel
  have hmap : linkedAtMaskClosing.get F.APR_BMAP_BM = 0 := by decide +kernel
  have hnext : (101 : BitVec 16).toNat = (linkedAtMaskClosing.get F.APR_SEQ_H + 1) % 65536 := by decide +kernel
  have hmask : (linkedAtMaskClosing.lv (F.MRVr_VSRC_MASK 0)).testBit 1 = true := by decide +kernel
  have hrange : vsetOk 0 (2000 : BitVec 13).toNat linkedAtMaskClosing = true := by decide +kernel
  have hlater : linkedAtMaskClosing.mrv[(0 : Fin 4)].arrAt < linkedAtMaskClosing.clk.ns := by decide +kernel
  obtain ⟨t, hrun, -, htarget, -⟩ := hvset linkedAtMaskClosing 0 101 0 2000 hup hjoined hsynced hmap hnext hmask hrange hlater
  obtain rfl : maskedVset = t := Host.Outcome.next.inj hrun
  exact absurd (target_maskedVset.left.symm.trans htarget) (by decide)

end Sys2Proof.Machine
end

section
/-!
PROOFS. Forecast shaping: the pre-ramp, the end of the ramp, the hand-off and the unwind of an episode (R213 to R216).
-/
namespace Sys2Proof.Machine

variable {r : Fin 4} {f : Forecast} {s t u : State} {l m : List Fld}

/-! ## The shaper's fields -/

theorem parState_fits : ∀ r : Fin 4, fldFits (F.PARr_STAT_STATE r) = true := by decide +kernel
theorem npar_fits : ∀ r : Fin 4, fldFits (F.PARr_STAT_NPAR r) = true := by decide +kernel
theorem unw_fits : ∀ r : Fin 4, fldFits (F.PARr_CNT_UNW r) = true := by decide +kernel

/-- The fields that show P and IREF. -/
def showFields (r : Fin 4) : List Fld := [F.PARr_P_P r, F.PARr_IREF_IREF r]

/-- The fields that the entry to RAMP sets. -/
def rampFields (r : Fin 4) : List Fld := [F.PARr_STAT_STATE r, F.PARr_STAT_NPAR r]

/-- The fields that the return to IDLE sets. -/
def idleFields (r : Fin 4) : List Fld := [F.PARr_STAT_STATE r, F.PARr_STAT_NPAR r, F.PARr_STAT_PEND r, F.PARr_P_P r]

theorem showFields_apart_state : ∀ r : Fin 4, apartAll (showFields r) (F.PARr_STAT_STATE r) = true := by decide +kernel
theorem showFields_apart_unw : ∀ r : Fin 4, apartAll (showFields r) (F.PARr_CNT_UNW r) = true := by decide +kernel
theorem rampFields_apart_guard : ∀ r : Fin 4, apartAll (rampFields r) (F.MRVr_VSNOW_S r) = true ∧
    apartAll (rampFields r) (F.MRVr_ILF_VT r) = true ∧ apartAll (rampFields r) (F.GATH_CMPr_STAT_UVNOW r) = true := by decide +kernel

theorem parUpd_same (s : State) (r : Fin 4) (g : Par → Par) : (parUpd r g s).par[r] = g s.par[r] := updAt_same _ _ _

theorem parState_put {n : Nat} (hn : n < 8) (s : State) : parState r (s.put (F.PARr_STAT_STATE r) n) = n :=
  State.get_put_of_lt (parState_fits r) hn s

/-! ## The frame -/

/-- A step of the shaper: of the registers the listed fields alone differ, and the cycle, the log and the engines are as before. -/
structure Shapes (l : List Fld) (s t : State) : Prop where
  alters : Alters l s t
  log : t.log = s.log
  clk : t.clk = s.clk
  mrv : t.mrv = s.mrv

theorem Shapes.refl (l : List Fld) (s : State) : Shapes l s s := ⟨.refl l s, rfl, rfl, rfl⟩

theorem Shapes.trans (h : Shapes l s t) (k : Shapes l t u) : Shapes l s u :=
  ⟨h.alters.trans k.alters, k.log.trans h.log, k.clk.trans h.clk, k.mrv.trans h.mrv⟩

/-- One step after another: the fields of both. -/
theorem Shapes.andThen (h : Shapes l s t) (k : Shapes m t u) : Shapes (l ++ m) s u :=
  ⟨h.alters.andThen k.alters, k.log.trans h.log, k.clk.trans h.clk, k.mrv.trans h.mrv⟩

theorem Shapes.noLog (h : Shapes l s t) : NoLog s t := congrArg LogSt.reqs h.log

theorem Shapes.put (h : Shapes l s t) {x : Fld} (v : Nat) (hx : x ∈ l) : Shapes l s (t.put x v) := ⟨h.alters.put v hx, h.log, h.clk, h.mrv⟩

theorem Shapes.parUpd (h : Shapes l s t) (r : Fin 4) (g : Par → Par) : Shapes l s (parUpd r g t) := ⟨h.alters.parUpd r g, h.log, h.clk, h.mrv⟩

theorem Shapes.after (h : Shapes l s t) (n : Nat) (c : Instr) : Shapes l s (t.after n c) :=
  ⟨h.alters.congr rfl rfl rfl rfl rfl, h.log, h.clk, h.mrv⟩

theorem Shapes.restart (h : Shapes l s t) (n : Nat) (c : Instr) : Shapes l s (t.restart n c) := ⟨h.alters.restart n c, h.log, h.clk, h.mrv⟩

theorem Shapes.ite {c : Prop} [Decidable c] (h : Shapes l s t) (k : Shapes l s u) : Shapes l s (if c then t else u) := by
  split
  · exact h
  · exact k

/-! ## P and IREF of a cycle (R213) -/

theorem parShow_shapes (r : Fin 4) (f : Forecast) (s : State) : Shapes (showFields r) s (parShow r f s) :=
  (((Shapes.refl _ s).put _ (.head _)).put _ (.tail _ (.head _))).parUpd r _

theorem parShow_par (r : Fin 4) (f : Forecast) (s : State) : (parShow r f s).par[r] = { s.par[r] with p := parP r f s } := parUpd_same _ r _

theorem parShow_state (r : Fin 4) (f : Forecast) (s : State) : parState r (parShow r f s) = parState r s :=
  (parShow_shapes r f s).alters.get _ (showFields_apart_state r)

/-- IREF moves at most, the registers show it and P, and the end of the move is scheduled at most. -/
theorem parAdvance_shapes (r : Fin 4) (f : Forecast) (s : State) : Shapes (showFields r) s (parAdvance r f s) :=
  have hmoved := ((Shapes.refl (showFields r) s).parUpd r _).trans (parShow_shapes r f _)
  .ite (.refl _ s) (.ite (.ite (hmoved.after _ _) hmoved) (parShow_shapes r f s))

theorem parAdvance_state (r : Fin 4) (f : Forecast) (s : State) : parState r (parAdvance r f s) = parState r s :=
  (parAdvance_shapes r f s).alters.get _ (showFields_apart_state r)

/-- In RAMP the reference takes one step to its target, in a cycle in which it has not moved. -/
theorem parAdvance_moves (hstate : parState r s = 2) (hfirst : s.par[r].moved ≠ s.clk.ns + 1) :
    ∃ p, (parAdvance r f s).par[r] = { s.par[r] with
      iref := parMove s.par[r].iref (s.par[r].itgt * 65536) s.par[r].rstep, moved := s.clk.ns + 1, p := p } := by
  have hpar : ∀ (c : Bool) (n : Nat) (i : Instr) (v : State), (v.when c (fun t => t.after n i)).par = v.par := fun c n i v => by cases c <;> rfl
  have hstays : ¬ (s.par[r].moved = s.clk.ns + 1 ∨ parState r s = 0 ∨ parState r s = 1) := by omega
  have hmoves : parState r s = 2 ∨ parState r s = 4 := .inl hstate
  have hramp : ¬ parState r s = 4 := by omega
  unfold parAdvance
  rw [if_neg hstays, if_pos hmoves, if_neg hramp, hpar, parShow_par, parUpd_same]
  exact ⟨_, rfl⟩

theorem parMove_up {x target : Int} (h : x < target) (step : Nat) : parMove x target step = min target (x + step) := if_pos h

/-! ## The entry to RAMP (R212, R213) -/

/-- RAMP is entered: the ramp's parameters are fixed from the current of the crossing, and IREF stands at its start. -/
structure EntersRamp (r : Fin 4) (f : Forecast) (s u : State) : Prop where
  shapes : Shapes (rampFields r) s u
  state : parState r u = 2
  i0 : u.par[r].i0 = s.mrv[r].iTot
  itgt : u.par[r].itgt = s.mrv[r].iTot + 2 * f.de
  rstep : u.par[r].rstep = roundDiv (f.de.natAbs * 2 ^ 17) f.tr
  iref : u.par[r].iref = s.mrv[r].iTot * 65536
  moved : u.par[r].moved = 0

/-- The phase request of the episode leaves what the entry has fixed. -/
theorem EntersRamp.request (h : EntersRamp r f s u) (n : Nat) :
    EntersRamp r f s ((parUpd r (fun q => { q with raised := true }) u).put (F.PARr_STAT_NPAR r) n) := by
  have hpar : ((parUpd r (fun q => { q with raised := true }) u).put (F.PARr_STAT_NPAR r) n).par[r] = { u.par[r] with raised := true } :=
    parUpd_same u r _
  have hapart : ∀ r : Fin 4, fldApart (F.PARr_STAT_NPAR r) (F.PARr_STAT_STATE r) = true := by decide +kernel
  exact ⟨(h.shapes.parUpd r _).put n (.tail _ (.head _)), (State.get_put_apart (hapart r) n _).trans h.state, (congrArg Par.i0 hpar).trans h.i0,
    (congrArg Par.itgt hpar).trans h.itgt, (congrArg Par.rstep hpar).trans h.rstep, (congrArg Par.iref hpar).trans h.iref,
    (congrArg Par.moved hpar).trans h.moved⟩

/-- At the stamp crossing an armed episode enters RAMP; the guard trips in that cycle, or IREF makes its first move. -/
theorem parRampStart_enters (hfc : s.par[r].fc = some f) (harmed : parState r s = 1) : ∃ u, EntersRamp r f s u ∧
    parRampStart r s = if parGuardTrips r f u then (parShow r f u).after 0 (.unwind r) else parAdvance r f u := by
  unfold parRampStart
  simp only [hfc, harmed, if_true]
  refine ⟨_, ?_, rfl⟩
  have henter : ∀ g : Par → Par, (g s.par[r]).i0 = s.mrv[r].iTot → (g s.par[r]).itgt = s.mrv[r].iTot + 2 * f.de →
      (g s.par[r]).rstep = roundDiv (f.de.natAbs * 2 ^ 17) f.tr → (g s.par[r]).iref = s.mrv[r].iTot * 65536 → (g s.par[r]).moved = 0 →
      EntersRamp r f s ((parUpd r g s).put (F.PARr_STAT_STATE r) 2) := fun g hi0 hitgt hrstep hiref hmoved =>
    have hpar : ((parUpd r g s).put (F.PARr_STAT_STATE r) 2).par[r] = g s.par[r] := parUpd_same s r g
    ⟨((Shapes.refl _ s).parUpd r g).put 2 (.head _), parState_put (by decide) _, (congrArg Par.i0 hpar).trans hi0,
      (congrArg Par.itgt hpar).trans hitgt, (congrArg Par.rstep hpar).trans hrstep, (congrArg Par.iref hpar).trans hiref,
      (congrArg Par.moved hpar).trans hmoved⟩
  split
  · exact henter _ rfl rfl rfl rfl rfl
  · exact (henter _ rfl rfl rfl rfl rfl).request _

/-! ## The guard (R215) -/

theorem parGuardTrips_of_rise (hstate : parState r u = 2) (hde : 0 < f.de) :
    parGuardTrips r f u = decide (u.get (F.MRVr_VSNOW_S r) + 20 * f.unwth ≤ sensed r u) := by
  simp [parGuardTrips, hstate, hde]

theorem parGuardTrips_of_fall (hstate : parState r u = 2) (hde : f.de < 0) : parGuardTrips r f u = u.on (F.GATH_CMPr_STAT_UVNOW r) := by
  have hnot : ¬ 0 < f.de := by omega
  simp [parGuardTrips, hstate, hde, hnot]

theorem EntersRamp.sensed (h : EntersRamp r f s u) : sensed r u = Machine.sensed r s := by
  have hvt := h.shapes.alters.get _ (rampFields_apart_guard r).right.left
  unfold Machine.sensed
  rw [hvt, h.shapes.mrv]

/-! ## The stamp crossing (R213, R215) -/

/-- What a stamp crossing leaves alone, with or without a trip. -/
theorem Shapes.keeps_crossing (h : Shapes (rampFields r ++ showFields r) s t) : Keeps [Reg.PARr_STAT r, Reg.PARr_P r, Reg.PARr_IREF r] s t :=
  h.alters.keeps (by simp [rampFields, showFields, F.PARr_STAT_STATE, F.PARr_STAT_NPAR, F.PARr_P_P, F.PARr_IREF_IREF])

theorem prerampStart_ramps (hfc : s.par[r].fc = some f) (harmed : parState r s = 1) (hde : 0 < f.de)
    (hquiet : Machine.sensed r s < s.get (F.MRVr_VSNOW_S r) + 20 * f.unwth) (ht : t = parRampStart r s) :
    parState r t = 2 ∧ t.par[r].i0 = s.mrv[r].iTot ∧ t.par[r].itgt = s.mrv[r].iTot + 2 * f.de ∧
      t.par[r].rstep = roundDiv (f.de.natAbs * 2 ^ 17) f.tr ∧
      t.par[r].iref = min (t.par[r].itgt * 65536) (s.mrv[r].iTot * 65536 + t.par[r].rstep) ∧ NoLog s t ∧
        Keeps [Reg.PARr_STAT r, Reg.PARr_P r, Reg.PARr_IREF r] s t := by
  obtain ⟨u, hramp, heq⟩ := parRampStart_enters hfc harmed
  have hguard : parGuardTrips r f u = false := by
    rw [parGuardTrips_of_rise hramp.state hde, hramp.sensed, hramp.shapes.alters.get _ (rampFields_apart_guard r).left]
    exact decide_eq_false (by omega)
  have hfirst : u.par[r].moved ≠ u.clk.ns + 1 := by rw [hramp.moved]; omega
  have hrise : u.par[r].iref < u.par[r].itgt * 65536 := by rw [hramp.iref, hramp.itgt]; omega
  rw [hguard] at heq
  replace heq : t = parAdvance r f u := ht.trans heq
  obtain ⟨p, hpar⟩ := parAdvance_moves (f := f) hramp.state hfirst
  rw [← heq, parMove_up hrise] at hpar
  have hshow := parAdvance_shapes r f u
  rw [← heq] at hshow
  have hitgt : t.par[r].itgt = s.mrv[r].iTot + 2 * f.de := (congrArg Par.itgt hpar).trans hramp.itgt
  have hrstep : t.par[r].rstep = u.par[r].rstep := by rw [hpar]
  refine ⟨(congrArg (parState r) heq).trans ((parAdvance_state r f u).trans hramp.state), (congrArg Par.i0 hpar).trans hramp.i0, hitgt,
    hrstep.trans hramp.rstep, ?_, (hramp.shapes.andThen hshow).noLog, (hramp.shapes.andThen hshow).keeps_crossing⟩
  rw [hrstep, hitgt, ← hramp.itgt, ← hramp.iref]
  exact congrArg Par.iref hpar

theorem prerampStart_trips (hfc : s.par[r].fc = some f) (harmed : parState r s = 1) (hde : f.de < 0)
    (hunder : s.on (F.GATH_CMPr_STAT_UVNOW r) = true) (ht : t = parRampStart r s) :
    parState r t = 2 ∧ t.par[r].itgt = s.mrv[r].iTot + 2 * f.de ∧ t.par[r].iref = s.mrv[r].iTot * 65536 ∧ (s.clk.ns, .unwind r) ∈ t.timers ∧
      NoLog s t ∧ Keeps [Reg.PARr_STAT r, Reg.PARr_P r, Reg.PARr_IREF r] s t := by
  obtain ⟨u, hramp, heq⟩ := parRampStart_enters hfc harmed
  have hguard : parGuardTrips r f u = true :=
    (parGuardTrips_of_fall hramp.state hde).trans ((hramp.shapes.alters.on (rampFields_apart_guard r).right.right).trans hunder)
  rw [hguard] at heq
  replace heq : t = (parShow r f u).after 0 (.unwind r) := ht.trans heq
  have hpar : t.par[r] = { u.par[r] with p := parP r f u } := by rw [heq]; exact parShow_par r f u
  have hshow : Shapes (showFields r) u t := by rw [heq]; exact (parShow_shapes r f u).after 0 _
  refine ⟨?_, (congrArg Par.itgt hpar).trans hramp.itgt, (congrArg Par.iref hpar).trans hramp.iref, ?_,
    (hramp.shapes.andThen hshow).noLog, (hramp.shapes.andThen hshow).keeps_crossing⟩
  · exact (hshow.alters.get _ (showFields_apart_state r)).trans hramp.state
  · rw [heq]
    exact State.mem_timers_after _ _ (congrArg Clk.ns ((parShow_shapes r f u).clk.trans hramp.shapes.clk))

/-! ## The end of the ramp (R213, R214) -/

theorem rampComplete_holds (hfc : s.par[r].fc = some f) (hramp : parState r s = 2) (ht : t = parRampComplete r s) :
    parState r t = 3 ∧ t.par[r].iref = s.par[r].itgt * 65536 ∧ (s.clk.ns + (f.tLoad + f.tr + f.appwin - s.clk.ns), .handoff r) ∈ t.timers ∧
      NoLog s t ∧ Keeps [Reg.PARr_STAT r, Reg.PARr_P r, Reg.PARr_IREF r] s t := by
  obtain ⟨u, hu⟩ : ∃ u, u = (parUpd r (fun q => { q with iref := q.itgt * 65536 }) s).put (F.PARr_STAT_STATE r) 3 := ⟨_, rfl⟩
  have hstate : parState r u = 3 := by rw [hu]; exact parState_put (by decide) _
  have hiref : u.par[r].iref = s.par[r].itgt * 65536 := by
    rw [hu]
    exact congrArg Par.iref (parUpd_same s r _)
  have hset : Shapes (rampFields r) s u := by rw [hu]; exact ((Shapes.refl _ s).parUpd r _).put 3 (.head _)
  have heq : t = (parShow r f u).restart (f.tLoad + f.tr + f.appwin - s.clk.ns) (.handoff r) := by
    rw [ht, hu]
    unfold parRampComplete
    simp only [hfc, hramp, if_true]
  have hshow : Shapes (showFields r) u t := by rw [heq]; exact (parShow_shapes r f u).restart _ _
  refine ⟨(hshow.alters.get _ (showFields_apart_state r)).trans hstate, ?_, ?_, (hset.andThen hshow).noLog, (hset.andThen hshow).keeps_crossing⟩
  · rw [heq]
    exact (congrArg Par.iref (parShow_par r f u)).trans hiref
  · rw [heq]
    exact State.mem_timers_after _ _ (congrArg (·.ns + _) ((parShow_shapes r f u).clk.trans hset.clk))

/-! ## The return to IDLE (R214 to R216) -/

/-- With no forecast pending the shaper is IDLE, with no episode, no P and no phase request. -/
theorem parIdle_rests (hpend : s.par[r].pend = none) (ht : t = parIdle r s) :
    parState r t = 0 ∧ t.par[r].fc = none ∧ t.par[r].p = 0 ∧ t.get (F.PARr_STAT_NPAR r) = 0 ∧ Shapes (idleFields r) s t := by
  have hapart : ∀ r : Fin 4, apartAll [F.PARr_STAT_NPAR r, F.PARr_STAT_PEND r, F.PARr_P_P r] (F.PARr_STAT_STATE r) = true ∧
      apartAll [F.PARr_STAT_PEND r, F.PARr_P_P r] (F.PARr_STAT_NPAR r) = true := by decide +kernel
  obtain ⟨hstate, hnpar⟩ := hapart r
  have heq : t = parUpd r (fun q => { q with fc := none, pend := none, raised := false, p := 0 })
      ((((s.put (F.PARr_STAT_STATE r) 0).put (F.PARr_STAT_NPAR r) 0).put (F.PARr_STAT_PEND r) 0).put (F.PARr_P_P r) 0) := by
    rw [ht]
    unfold parIdle
    simp only [hpend]
  have hpar : t.par[r] = { s.par[r] with fc := none, pend := none, raised := false, p := 0 } := by rw [heq]; exact parUpd_same _ r _
  refine ⟨?_, by rw [hpar], by rw [hpar], ?_, ?_⟩
  · rw [heq]
    exact (((((Alters.refl _ _).put 0 (.head _)).put 0 (.tail _ (.head _))).put 0 (.tail _ (.tail _ (.head _)))).get _ hstate).trans
      (parState_put (by decide) s)
  · rw [heq]
    exact ((((Alters.refl _ _).put 0 (.head _)).put 0 (.tail _ (.head _))).get _ hnpar).trans (State.get_put_of_lt (npar_fits r) (Nat.two_pow_pos _) _)
  · rw [heq]
    exact (((((Shapes.refl _ s).put 0 (.head _)).put 0 (.tail _ (.head _))).put 0 (.tail _ (.tail _ (.head _)))).put 0
      (.tail _ (.tail _ (.tail _ (.head _))))).parUpd r _

theorem Shapes.keeps_idle (h : Shapes (idleFields r) s t) : Keeps [Reg.PARr_STAT r, Reg.PARr_P r] s t :=
  h.alters.keeps (by simp [idleFields, F.PARr_STAT_STATE, F.PARr_STAT_NPAR, F.PARr_STAT_PEND, F.PARr_P_P])

theorem handoff_transfers (hhold : parState r s = 3) (hpend : s.par[r].pend = none) (ht : t = parHandoff r s) :
    parState r t = 0 ∧ t.par[r].fc = none ∧ t.par[r].p = 0 ∧ t.get (F.PARr_STAT_NPAR r) = 0 ∧
      t.mrv[r].u1 = clampInt (s.mrv[r].u1 + s.par[r].p * 4096) (-(zeroAsOne (s.lv (F.MRVr_LIM_DMAX r)) * 2 ^ 28))
        (zeroAsOne (s.lv (F.MRVr_LIM_DMAX r)) * 2 ^ 28) ∧ NoLog s t ∧ Keeps [Reg.PARr_STAT r, Reg.PARr_P r] s t := by
  unfold parHandoff at ht
  rw [if_pos hhold] at ht
  obtain ⟨hidle, hfc, hp, hnpar, hshapes⟩ := parIdle_rests (by exact hpend) ht
  refine ⟨hidle, hfc, hp, hnpar, ?_, hshapes.noLog, ((Keeps.refl _ s).mrvUpd r _).trans hshapes.keeps_idle⟩
  rw [hshapes.mrv, mrvUpd_same]

theorem unwindComplete_rests (hunwind : parState r s = 4) (hpend : s.par[r].pend = none) (ht : t = parUnwindComplete r s) :
    parState r t = 0 ∧ t.par[r].fc = none ∧ t.par[r].p = 0 ∧ t.mrv[r].u1 = s.mrv[r].u1 ∧ t.get (F.PARr_STAT_NPAR r) = 0 ∧ NoLog s t ∧
      Keeps [Reg.PARr_STAT r, Reg.PARr_P r] s t := by
  unfold parUnwindComplete at ht
  rw [if_pos hunwind] at ht
  have hback : (parUpd r (fun q => { q with iref := q.i0 * 65536 }) s).par[r].pend = none := (congrArg Par.pend (parUpd_same s r _)).trans hpend
  obtain ⟨hidle, hfc, hp, hnpar, hshapes⟩ := parIdle_rests hback ht
  have hwhole : Shapes (idleFields r) s t := ((Shapes.refl _ s).parUpd r _).trans hshapes
  exact ⟨hidle, hfc, hp, by rw [hwhole.mrv], hnpar, hwhole.noLog, hwhole.keeps_idle⟩

/-! ## The unwind (R215) -/

/-- The angle of a log entry follows from the domains and the log's selection. -/
theorem State.logAngle_congr (hdom : t.dom = s.dom) (hlog : t.log = s.log) : t.logAngle = s.logAngle := by
  unfold State.logAngle
  rw [hdom, hlog]

/-- UNWIND entered, source 135 fired and UNW counted, before the entry in the log. -/
def unwindBegun (r : Fin 4) (s : State) : State := ((s.put (F.PARr_STAT_STATE r) 4).fire 135).inc (F.PARr_CNT_UNW r)

/-- The fields that the entry to UNWIND sets. -/
def unwindFields (r : Fin 4) : List Fld := [F.PARr_STAT_STATE r, F.EVM_FAST_FAST, F.PARr_CNT_UNW r]

theorem unwindBegun_begins (r : Fin 4) (s : State) : parState r (unwindBegun r s) = 4 ∧
    (unwindBegun r s).get (F.PARr_CNT_UNW r) = satInc (F.PARr_CNT_UNW r).width (s.get (F.PARr_CNT_UNW r)) 1 ∧
    Alters (unwindFields r) s (unwindBegun r s) ∧ (unwindBegun r s).log = s.log ∧ (unwindBegun r s).clk = s.clk := by
  have hapart : ∀ r : Fin 4, apartAll [F.EVM_FAST_FAST, F.PARr_CNT_UNW r] (F.PARr_STAT_STATE r) = true ∧
      apartAll [F.PARr_STAT_STATE r, F.EVM_FAST_FAST] (F.PARr_CNT_UNW r) = true := by decide +kernel
  obtain ⟨hstate, hunw⟩ := hapart r
  have hclk : ∀ v : State, (v.fire 135).clk = v.clk := fun v => by unfold State.fire; split <;> rfl
  refine ⟨?_, ?_, ?_, fire_log 135 (s := _), hclk _⟩
  · exact ((((Alters.refl _ _).fire 135 (.head _)).inc 1 (.tail _ (.head _))).get _ hstate).trans (parState_put (by decide) s)
  · exact (State.get_inc_same (unw_fits r) _ 1).trans
      (congrArg (satInc _ · 1) ((((Alters.refl _ s).put 4 (.head _)).fire 135 (.tail _ (.head _))).get _ hunw))
  · exact (((Alters.refl _ s).put 4 (.head _)).fire 135 (.tail _ (.head _))).inc 1 (.tail _ (.tail _ (.head _)))

theorem unwind_begins (hfc : s.par[r].fc = some f) (hstate : parState r s = 2 ∨ parState r s = 3) (ht : t = parUnwind r s) :
    parState r t = 4 ∧ t.get (F.PARr_CNT_UNW r) = satInc (F.PARr_CNT_UNW r).width (s.get (F.PARr_CNT_UNW r)) 1 ∧
      Logged 0x07 0x0004 ([b8 r] ++ bytesOfNat 2 f.seq ++ bytesOfNat 2 (ofSigned 16 (asr s.par[r].iref 16)) ++ bytesOfNat 2 (sensed r s)) s t ∧
      Keeps [Reg.PARr_STAT r, Reg.PARr_P r, Reg.PARr_IREF r, Reg.PARr_CNT r, Reg.EVM_FAST] s t := by
  unfold parUnwind at ht
  simp only [hfc] at ht
  rw [if_pos hstate] at ht
  change t = parAdvance r f (((unwindBegun r s).logReq 0x07 0x0004 _).cancel _) at ht
  obtain ⟨hbegun, hunw, halters, hlog, hclk⟩ := unwindBegun_begins r s
  have hshow := parAdvance_shapes r f (((unwindBegun r s).logReq 0x07 0x0004 ([b8 r] ++ bytesOfNat 2 f.seq ++
    bytesOfNat 2 (ofSigned 16 (asr s.par[r].iref 16)) ++ bytesOfNat 2 (sensed r s))).cancel (.handoff r))
  rw [← ht] at hshow
  refine ⟨(hshow.alters.get _ (showFields_apart_state r)).trans hbegun, (hshow.alters.get _ (showFields_apart_unw r)).trans hunw, ?_, ?_⟩
  · unfold Logged
    rw [hshow.log, State.cancel_log, State.logReq_log, hlog, hclk, State.logAngle_congr halters.dom hlog]
  · exact (((halters.logReq _ _ _).cancel _).andThen hshow.alters).keeps (by
      simp [unwindFields, showFields, F.PARr_STAT_STATE, F.EVM_FAST_FAST, F.PARr_CNT_UNW, F.PARr_P_P, F.PARr_IREF_IREF])

/-- Settles O21, command by command: each takes the episode from one state to the next, and shows P and IREF. -/
theorem parison : Obligations.Parison := by
  unfold Obligations.Parison
  exact ⟨fun s r f hfc harmed hde hquiet _ => ⟨_, rfl, prerampStart_ramps hfc harmed hde hquiet rfl⟩,
    fun s r f hfc harmed hde hunder => ⟨_, rfl, prerampStart_trips hfc harmed hde hunder rfl⟩,
    fun s r f hfc hramp => ⟨_, rfl, rampComplete_holds hfc hramp rfl⟩,
    fun s r hhold hpend => ⟨_, rfl, handoff_transfers hhold hpend rfl⟩,
    fun s r f hfc hstate => ⟨_, rfl, unwind_begins hfc hstate rfl⟩,
    fun s r hunwind hpend => ⟨_, rfl, unwindComplete_rests hunwind hpend rfl⟩⟩

end Sys2Proof.Machine
end

section
/-!
PROOFS. Counter units: the count step, the actions that reach a unit, period writes and capture reads (R221 to R233, R246).
-/
namespace Sys2Proof.Machine

variable {n : Fin 24} {s t u : State} {l m : List Fld}

/-! ## A firing of a source (R236, R237, R241) -/

/-- The first firing of a source in a cycle is recorded, and nothing else changes. -/
theorem fire_of_notFired {src : Nat} (h : NotFired src s) : s.fire src =
    { s with evm := { s.evm with firings := s.evm.firings ++ [⟨s.clk.time.toNat, src, s.chansOf src, s.sinksOf (s.chansOf src)⟩] } } :=
  if_neg (by rw [h]; decide)

/-- A first firing leaves the registers. -/
theorem fire_get {src : Nat} (h : NotFired src s) (f : Fld) : (s.fire src).get f = s.get f := by
  rw [fire_of_notFired h]
  rfl

theorem fire_cu (src : Nat) (s : State) : (s.fire src).cu = s.cu := by
  unfold State.fire
  split <;> rfl

theorem notFired_congr {src : Nat} (hevm : t.evm = s.evm) (hclk : t.clk = s.clk) (h : NotFired src s) : NotFired src t := by
  unfold NotFired
  rwa [hevm, hclk]

/-- The routing of a firing follows from the matrix's own words. -/
theorem chansOf_congr (hold : t.evm.old = s.evm.old) (hrd : ∀ a, 0x40090000 ≤ a → t.rd a = s.rd a) (src : Nat) : t.chansOf src = s.chansOf src := by
  have hcfg : ∀ a, 0x40090000 ≤ a → t.evmCfg a = s.evmCfg a := fun a ha => by
    unfold State.evmCfg
    rw [hold, hrd a ha]
  have hsrc : 0x40090000 ≤ Reg.EVM_SRCENs src := by unfold Reg.EVM_SRCENs; omega
  have hctl : ∀ c, 0x40090000 ≤ Reg.EVM_CHc_CTL c := fun c => by unfold Reg.EVM_CHc_CTL; omega
  unfold State.chansOf
  simp only [hcfg _ hsrc, hcfg _ (hctl _)]

theorem sinksOf_congr (hold : t.evm.old = s.evm.old) (hrd : ∀ a, 0x40090000 ≤ a → t.rd a = s.rd a) (chans : BitVec 32) :
    t.sinksOf chans = s.sinksOf chans := by
  have hcfg : ∀ c j, t.evmCfg (Reg.EVM_CHc_SNKj c j) = s.evmCfg (Reg.EVM_CHc_SNKj c j) := fun c j => by
    unfold State.evmCfg
    rw [hold, hrd _ (by unfold Reg.EVM_CHc_SNKj; omega)]
  unfold State.sinksOf
  simp only [hcfg]

/-- A firing after changes of registers outside the matrix is routed as before them. -/
theorem fires_of_keeps {src : Nat} {l : List Nat} (hkeeps : Keeps l s u) (hl : ∀ a ∈ l, a < 0x40090000) (hevm : u.evm = s.evm) (hclk : u.clk = s.clk)
    (hnot : NotFired src s) (ht : t.evm = (u.fire src).evm) : Fires src s t := by
  have hrd : ∀ a, 0x40090000 ≤ a → u.rd a = s.rd a := fun a ha => hkeeps.rd fun hmem => by have := hl a hmem; omega
  unfold Fires
  rw [ht, fire_of_notFired (notFired_congr hevm hclk hnot), chansOf_congr (congrArg Evm.old hevm) hrd, sinksOf_congr (congrArg Evm.old hevm) hrd,
    hevm, hclk]

/-! ## The frame of a unit's operations -/

/-- An operation of a counter unit: of the registers the listed fields alone differ; the log and the clocks are as before. -/
structure Tallies (l : List Fld) (s t : State) : Prop where
  alters : Alters l s t
  log : t.log = s.log
  clk : t.clk = s.clk

theorem Tallies.refl (l : List Fld) (s : State) : Tallies l s s := ⟨.refl l s, rfl, rfl⟩

theorem Tallies.trans (h : Tallies l s t) (k : Tallies l t u) : Tallies l s u :=
  ⟨h.alters.trans k.alters, k.log.trans h.log, k.clk.trans h.clk⟩

/-- One operation after another: the fields of both. -/
theorem Tallies.andThen (h : Tallies l s t) (k : Tallies m t u) : Tallies (l ++ m) s u :=
  ⟨h.alters.andThen k.alters, k.log.trans h.log, k.clk.trans h.clk⟩

theorem Tallies.put (h : Tallies l s t) {x : Fld} (v : Nat) (hx : x ∈ l) : Tallies l s (t.put x v) := ⟨h.alters.put v hx, h.log, h.clk⟩

theorem Tallies.cuUpd (h : Tallies l s t) (n : Fin 24) (f : Cu → Cu) : Tallies l s (t.cuUpd n f) :=
  ⟨h.alters.congr rfl rfl rfl rfl rfl, h.log, h.clk⟩

theorem Tallies.fire {src : Nat} (h : Tallies l s t) (hnot : NotFired src t) : Tallies l s (t.fire src) := by
  rw [fire_of_notFired hnot]
  exact ⟨h.alters.congr rfl rfl rfl rfl rfl, h.log, h.clk⟩

theorem Tallies.when (h : Tallies l s t) (c : Bool) {f : State → State} (hf : Tallies l s (f t)) : Tallies l s (t.when c f) := by
  cases c
  · exact h
  · exact hf

theorem Tallies.noLog (h : Tallies l s t) : NoLog s t := congrArg LogSt.reqs h.log

theorem cuUpd_same (s : State) (n : Fin 24) (f : Cu → Cu) : (s.cuUpd n f).cu[n] = f s.cu[n] := updAt_same _ _ _

theorem cuUpd_self {f : Cu → Cu} (h : f s.cu[n] = s.cu[n]) : s.cuUpd n f = s := by
  unfold State.cuUpd updAt
  rw [h]
  exact congrArg (fun v => { s with cu := v }) (Vector.set_getElem_self _)

/-! ## The fields of a unit -/

theorem count_fits : ∀ n : Fin 24, fldFits (F.CUn_COUNT_COUNT n) = true := by decide +kernel
theorem peract_fits : ∀ n : Fin 24, fldFits (F.CUn_PERACT_PERACT n) = true := by decide +kernel
theorem cap_fits : ∀ n : Fin 24, fldFits (F.CUn_CAP_CAP n) = true := by decide +kernel
theorem cappk_fits : ∀ n : Fin 24, fldFits (F.CUn_CAPPK_CAP n) = true := by decide +kernel
theorem pend_fits : ∀ n : Fin 24, fldFits (F.CUn_STAT_PEND n) = true := by decide +kernel
theorem pf_fits : ∀ n : Fin 24, fldFits (F.CUn_STAT_PF n) = true := by decide +kernel
theorem ovf_fits : ∀ n : Fin 24, fldFits (F.CUn_STAT_OVF n) = true := by decide +kernel
theorem capf_fits : ∀ n : Fin 24, fldFits (F.CUn_STAT_CAPF n) = true := by decide +kernel
theorem run_fits : ∀ n : Fin 24, fldFits (F.CUn_STAT_RUN n) = true := by decide +kernel

theorem fldOf_lt (f : Fld) (w : Word) : fldOf f w < 2 ^ f.width := Nat.mod_lt _ (Nat.two_pow_pos _)

/-- A one-bit field that is on reads as 1. -/
theorem State.get_of_on {f : Fld} (hw : f.width = 1) (h : s.on f = true) : s.get f = 1 := by
  have hlt : s.get f < 2 ^ f.width := fldOf_lt f _
  have hne : s.get f ≠ 0 := bne_iff_ne.mp h
  rw [hw] at hlt
  omega

theorem State.get_of_off {f : Fld} (h : s.on f = false) : s.get f = 0 := bne_eq_false_iff_eq.mp h

/-! ## The period (R227) -/

/-- The fields that the load of a pending period sets. -/
def loadFields (n : Fin 24) : List Fld := [F.CUn_PERACT_PERACT n, F.CUn_STAT_PEND n]

theorem cuLoadPeriod_tallies (n : Fin 24) (s : State) : Tallies (loadFields n) s (cuLoadPeriod n s) := by
  unfold cuLoadPeriod
  split
  · exact ((Tallies.refl _ s).put _ (.head _)).put _ (.tail _ (.head _))
  · exact .refl _ s

theorem cuLoadPeriod_cu (n : Fin 24) (s : State) : (cuLoadPeriod n s).cu = s.cu := by
  unfold cuLoadPeriod
  split <;> rfl

theorem cuLoadPeriod_evm (n : Fin 24) (s : State) : (cuLoadPeriod n s).evm = s.evm := by
  unfold cuLoadPeriod
  split <;> rfl

/-- Where no write of this cycle holds it back, a pending period becomes the active one and PEND clears. -/
theorem cuLoadPeriod_loads (hpend : s.cu[n].pendNow = false) (himm : s.cu[n].imm = none) :
    (cuLoadPeriod n s).get (F.CUn_STAT_PEND n) = 0 ∧ (cuLoadPeriod n s).get (F.CUn_PERACT_PERACT n) =
      if s.on (F.CUn_STAT_PEND n) then s.get (F.CUn_PERIOD_PERIOD n) else s.get (F.CUn_PERACT_PERACT n) := by
  have hapart : ∀ n : Fin 24, fldApart (F.CUn_STAT_PEND n) (F.CUn_PERACT_PERACT n) = true := by decide +kernel
  have hload : cuLoadPeriod n s = if s.on (F.CUn_STAT_PEND n) then
      (s.put (F.CUn_PERACT_PERACT n) (s.get (F.CUn_PERIOD_PERIOD n))).put (F.CUn_STAT_PEND n) 0 else s := by
    simp [cuLoadPeriod, hpend, himm, -Fin.getElem_fin]
  rw [hload]
  cases hon : s.on (F.CUn_STAT_PEND n)
  · exact ⟨State.get_of_off hon, rfl⟩
  · exact ⟨State.get_put_of_lt (pend_fits n) (Nat.two_pow_pos _) _,
      (State.get_put_apart (hapart n) _ _).trans (State.get_put_of_lt (peract_fits n) (fldOf_lt _ _) _)⟩

/-! ## The parts of a count step (R223) -/

/-- The unit at the start of its count step: what it remembers of the last step's capture is dropped. -/
def cuBegun (n : Fin 24) (s : State) : State := s.cuUpd n fun x => { x with capWas := none }

/-- The mark of the first step after a START falls where the unit runs. -/
def cuFirst (running : Bool) (x : Cu) : Cu := { x with first := x.first && !running }

/-- The count part of a step with no RESET. -/
def cuCounted (n : Fin 24) (checked running : Bool) (s : State) : State := (cuCount n checked s).cuUpd n (cuFirst running)

/-- The count step up to START: capture, then RESET or the count, then START. -/
def cuWorked (n : Fin 24) (s : State) : State :=
  let c := s.cu[n]
  let u := (cuImmediate n (cuBegun n s)).when c.capt (cuCapture n)
  (if c.reset then cuReset n u else cuCounted n (c.immNow.isSome || c.first) (s.on (F.CUn_STAT_RUN n)) u).when c.go (cuStart n)

/-- The marks of a cycle, dropped at its end. -/
def cuClosed (x : Cu) : Cu :=
  { x with read := none, start := none, capt := false, reset := false, go := false, immNow := x.imm, imm := none, pendNow := false, ma := none, mb := none }

/-- A count step is its parts, then the answer of a read of COUNT and the end of the cycle's marks. -/
theorem cuCountStep_eq (n : Fin 24) (s : State) : ∃ w, cuCountStep n s = ({ cuWorked n s with rdata := w } : State).cuUpd n cuClosed := ⟨_, rfl⟩

/-- The end of a step leaves all but the unit's marks. -/
theorem cuCountStep_ends (hworked : cuWorked n s = u) (h : Tallies l s u) (ht : t = cuCountStep n s) :
    Tallies l s t ∧ t.evm = u.evm ∧ t.cu[n] = cuClosed u.cu[n] ∧ ∀ f, t.get f = u.get f := by
  obtain ⟨w, heq⟩ := cuCountStep_eq n s
  subst ht
  rw [heq, hworked]
  exact ⟨⟨h.alters.congr rfl rfl rfl rfl rfl, h.log, h.clk⟩, rfl, cuUpd_same _ n cuClosed, fun _ => rfl⟩

theorem cuBegun_tallies (n : Fin 24) (s : State) : Tallies l s (cuBegun n s) := (Tallies.refl l s).cuUpd n _

theorem cuBegun_cu (n : Fin 24) (s : State) : (cuBegun n s).cu[n] = { s.cu[n] with capWas := none } := cuUpd_same s n _

/-- Without an IMMEDIATE period the unit begins its step as it stands. -/
theorem cuImmediate_of_none (himm : s.cu[n].immNow = none) : cuImmediate n (cuBegun n s) = cuBegun n s := by
  unfold cuImmediate
  rw [cuBegun_cu, himm]

/-- A stopped unit counts nothing. -/
theorem cuCounted_of_stopped (hrun : s.on (F.CUn_STAT_RUN n) = false) (checked : Bool) : cuCounted n checked false s = s := by
  have hcount : cuCount n checked s = s := by simp [cuCount, hrun]
  unfold cuCounted
  rw [hcount]
  exact cuUpd_self (by simp [cuFirst])

/-- On the AO clock a running unit counts one tick up (R222, R224). -/
theorem cuCount_of_ao (hrun : s.on (F.CUn_STAT_RUN n) = true) (hclk : s.on (F.CUn_CTL_CLK n) = false) :
    cuCount n false s = cuUp n 1 (s.get (F.CUn_PERACT_PERACT n)) s := by
  simp [cuCount, cuTicks, hrun, hclk]

/-- A step that crosses no match value raises no match. -/
theorem cuMatches_of_uncrossed {taken : Nat → Bool} (hma : s.cu[n].ma = none) (hmb : s.cu[n].mb = none)
    (ha : taken (s.rd (Reg.CUn_MATCHA n)).toNat = false) (hb : taken (s.rd (Reg.CUn_MATCHB n)).toNat = false) : cuMatches n taken s = s := by
  simp [cuMatches, hma, hmb, ha, hb, -Fin.getElem_fin]

/-! ## Counting (R222, R224) -/

/-- The count part of the step of a running unit on the AO clock that nothing else has reached. -/
theorem cuWorked_of_running (hrun : s.on (F.CUn_STAT_RUN n) = true) (hcu : s.cu[n] = {}) (hclk : s.on (F.CUn_CTL_CLK n) = false) :
    cuWorked n s = (cuUp n 1 (s.get (F.CUn_PERACT_PERACT n)) (cuBegun n s)).cuUpd n (cuFirst true) := by
  have hup : cuCount n false (cuBegun n s) = cuUp n 1 (s.get (F.CUn_PERACT_PERACT n)) (cuBegun n s) := cuCount_of_ao hrun hclk
  have himm : s.cu[n].immNow = none := by rw [hcu]
  simp only [cuWorked, cuCounted, cuImmediate_of_none himm, hcu, hrun]
  exact congrArg (State.cuUpd · n _) hup

/-- COUNT put to a value in which no match value was crossed: the matches of the step leave it. -/
theorem cuMatches_put_count {taken : Nat → Bool} (hcu : s.cu[n] = {}) (v : Nat) (ha : taken (s.rd (Reg.CUn_MATCHA n)).toNat = false)
    (hb : taken (s.rd (Reg.CUn_MATCHB n)).toNat = false) :
    cuMatches n taken ((cuBegun n s).put (F.CUn_COUNT_COUNT n) v) = (cuBegun n s).put (F.CUn_COUNT_COUNT n) v := by
  have hkeeps : Keeps [Reg.CUn_COUNT n] s ((cuBegun n s).put (F.CUn_COUNT_COUNT n) v) := ((Keeps.refl _ s).congr rfl rfl rfl).put v (.head _)
  have hapart : ∀ n : Fin 24, Reg.CUn_MATCHA n ∉ [Reg.CUn_COUNT n] ∧ Reg.CUn_MATCHB n ∉ [Reg.CUn_COUNT n] := by decide
  have hcu' : ((cuBegun n s).put (F.CUn_COUNT_COUNT n) v).cu[n] = {} := (cuBegun_cu n s).trans (by rw [hcu])
  obtain ⟨hna, hnb⟩ := hapart n
  exact cuMatches_of_uncrossed (by rw [hcu']) (by rw [hcu']) (by rwa [hkeeps.rd hna]) (by rwa [hkeeps.rd hnb])

theorem cuCountStep_counts (hrun : s.on (F.CUn_STAT_RUN n) = true) (hcu : s.cu[n] = {}) (hclk : s.on (F.CUn_CTL_CLK n) = false)
    (hroom : s.get (F.CUn_COUNT_COUNT n) < s.get (F.CUn_PERACT_PERACT n)) (ha : (s.rd (Reg.CUn_MATCHA n)).toNat ≠ s.get (F.CUn_COUNT_COUNT n) + 1)
    (hb : (s.rd (Reg.CUn_MATCHB n)).toNat ≠ s.get (F.CUn_COUNT_COUNT n) + 1) (ht : t = cuCountStep n s) :
    t.get (F.CUn_COUNT_COUNT n) = s.get (F.CUn_COUNT_COUNT n) + 1 ∧ t.evm = s.evm ∧ NoLog s t ∧ Keeps [Reg.CUn_COUNT n] s t := by
  have huncrossed : ∀ k, k ≠ s.get (F.CUn_COUNT_COUNT n) + 1 →
      (decide (s.get (F.CUn_COUNT_COUNT n) < k) && decide (k ≤ s.get (F.CUn_COUNT_COUNT n) + 1)) = false := fun k hk => by simp; omega
  have hup : cuUp n 1 (s.get (F.CUn_PERACT_PERACT n)) (cuBegun n s) =
      (cuBegun n s).put (F.CUn_COUNT_COUNT n) (s.get (F.CUn_COUNT_COUNT n) + 1) :=
    (if_pos (Nat.succ_le_of_lt hroom)).trans (cuMatches_put_count hcu _ (huncrossed _ ha) (huncrossed _ hb))
  have hworked := (cuWorked_of_running hrun hcu hclk).trans (congrArg (State.cuUpd · n _) hup)
  obtain ⟨htallies, hevm, -, hget⟩ := cuCountStep_ends hworked (((cuBegun_tallies n s).put _ (.head [])).cuUpd n _) ht
  have hfits : s.get (F.CUn_COUNT_COUNT n) + 1 < 2 ^ (F.CUn_COUNT_COUNT n).width := Nat.lt_of_le_of_lt hroom (fldOf_lt (F.CUn_PERACT_PERACT n) _)
  exact ⟨(hget _).trans (State.get_put_of_lt (count_fits n) hfits _), hevm, htallies.noLog, htallies.alters.keeps (by simp [F.CUn_COUNT_COUNT])⟩

/-! ## The wrap (R224, R227, R233, R235) -/

/-- The fields that a period event sets. -/
def periodFields (n : Fin 24) : List Fld := F.CUn_STAT_PF n :: loadFields n

theorem loadFields_apart : ∀ n : Fin 24, apartAll (loadFields n) (F.CUn_STAT_PF n) = true ∧ apartAll (loadFields n) (F.CUn_COUNT_COUNT n) = true ∧
    apartAll (loadFields n) (F.CUn_STAT_RUN n) = true := by decide +kernel

theorem periodFields_apart : ∀ n : Fin 24, apartAll (periodFields n) (F.CUn_LINK_PACT n) = true ∧
    apartAll (periodFields n) (F.CUn_COUNT_COUNT n) = true := by decide +kernel

theorem pf_apart_period : ∀ n : Fin 24, apartAll [F.CUn_STAT_PF n] (F.CUn_STAT_PEND n) = true ∧
    apartAll [F.CUn_STAT_PF n] (F.CUn_PERIOD_PERIOD n) = true ∧ apartAll [F.CUn_STAT_PF n] (F.CUn_PERACT_PERACT n) = true := by decide +kernel

theorem cuLink_of_none (toTgt : Bool) : cuLink n toTgt 0 s = s := by
  simp [cuLink]

/-- PF set and source 3n + 1 fired, before the load of a pending period. -/
def cuRaised (n : Fin 24) (s : State) : State := (s.put (F.CUn_STAT_PF n) 1).fire (3 * n + 1)

theorem cuRaised_tallies (hnot : NotFired (3 * n + 1) s) : Tallies [F.CUn_STAT_PF n] s (cuRaised n s) :=
  ((Tallies.refl _ s).put 1 (.head _)).fire hnot

theorem cuRaised_cu (n : Fin 24) (s : State) : (cuRaised n s).cu = s.cu := fire_cu _ _

theorem cuRaised_pf (hnot : NotFired (3 * n + 1) s) : (cuRaised n s).get (F.CUn_STAT_PF n) = 1 :=
  (fire_get (s := s.put (F.CUn_STAT_PF n) 1) hnot _).trans (State.get_put_of_lt (pf_fits n) Nat.one_lt_two s)

/-- Without a link action a period event sets PF, fires and loads a pending period. -/
theorem cuPeriodEvent_of_unlinked (hnot : NotFired (3 * n + 1) s) (hpact : s.get (F.CUn_LINK_PACT n) = 0) :
    cuPeriodEvent n s = cuLoadPeriod n (cuRaised n s) := by
  have hframe : Tallies (periodFields n) s (cuLoadPeriod n (cuRaised n s)) := (cuRaised_tallies hnot).andThen (cuLoadPeriod_tallies n _)
  have hact : (cuLoadPeriod n (cuRaised n s)).get (F.CUn_LINK_PACT n) = 0 := (hframe.alters.get _ (periodFields_apart n).left).trans hpact
  change cuLink n _ ((cuLoadPeriod n (cuRaised n s)).get (F.CUn_LINK_PACT n)) (cuLoadPeriod n (cuRaised n s)) = _
  rw [hact]
  exact cuLink_of_none _

theorem cuPeriodEvent_raises (hnot : NotFired (3 * n + 1) s) (hpact : s.get (F.CUn_LINK_PACT n) = 0) (hpend : s.cu[n].pendNow = false)
    (himm : s.cu[n].imm = none) (ht : t = cuPeriodEvent n s) :
    t.get (F.CUn_STAT_PF n) = 1 ∧ t.get (F.CUn_STAT_PEND n) = 0 ∧
      t.get (F.CUn_PERACT_PERACT n) = (if s.on (F.CUn_STAT_PEND n) then s.get (F.CUn_PERIOD_PERIOD n) else s.get (F.CUn_PERACT_PERACT n)) ∧
      t.evm = ((s.put (F.CUn_STAT_PF n) 1).fire (3 * n + 1)).evm ∧ Tallies (periodFields n) s t := by
  obtain rfl : t = cuLoadPeriod n (cuRaised n s) := ht.trans (cuPeriodEvent_of_unlinked hnot hpact)
  obtain ⟨hapartPend, hapartPeriod, hapartPeract⟩ := pf_apart_period n
  have hraised := cuRaised_tallies hnot
  obtain ⟨hclear, hload⟩ := cuLoadPeriod_loads (s := cuRaised n s) (n := n) (by rwa [cuRaised_cu]) (by rwa [cuRaised_cu])
  rw [hraised.alters.on hapartPend, hraised.alters.get _ hapartPeriod, hraised.alters.get _ hapartPeract] at hload
  exact ⟨((cuLoadPeriod_tallies n _).alters.get _ (loadFields_apart n).left).trans (cuRaised_pf hnot), hclear, hload, cuLoadPeriod_evm n _,
    hraised.andThen (cuLoadPeriod_tallies n _)⟩

theorem count_apart : ∀ n : Fin 24, apartAll [F.CUn_COUNT_COUNT n] (F.CUn_LINK_PACT n) = true ∧
    apartAll [F.CUn_COUNT_COUNT n] (F.CUn_STAT_PEND n) = true ∧ apartAll [F.CUn_COUNT_COUNT n] (F.CUn_PERIOD_PERIOD n) = true ∧
    apartAll [F.CUn_COUNT_COUNT n] (F.CUn_PERACT_PERACT n) = true := by decide +kernel

/-- COUNT cleared with a PERIOD event. -/
def cuWrapped (n : Fin 24) (s : State) : State := cuPeriodEvent n (s.put (F.CUn_COUNT_COUNT n) 0)

/-- At its period a unit that is no one-shot clears COUNT and raises its PERIOD event. -/
theorem cuUp_of_wrap {p : Nat} (honce : s.on (F.CUn_CTL_ONESHOT n) = false) (hend : s.get (F.CUn_COUNT_COUNT n) = p)
    (hmatch : cuMatches n (fun m => decide (m ≤ p) && (decide (p < m) || decide (m ≤ 0))) s = s) : cuUp n 1 p s = cuWrapped n s := by
  have hfull : ¬ p + 1 ≤ p := by omega
  unfold cuUp
  simp only [hend, hfull, honce, Nat.sub_self, Nat.zero_mod, Nat.not_lt_zero, decide_false, Bool.false_or, if_false, Bool.false_eq_true, hmatch]
  rfl

theorem cuWrapped_wraps (hnot : NotFired (3 * n + 1) s) (hpact : s.get (F.CUn_LINK_PACT n) = 0) (hpend : s.cu[n].pendNow = false)
    (himm : s.cu[n].imm = none) (ht : t = cuWrapped n s) :
    t.get (F.CUn_COUNT_COUNT n) = 0 ∧ t.get (F.CUn_STAT_PF n) = 1 ∧ t.get (F.CUn_STAT_PEND n) = 0 ∧
      t.get (F.CUn_PERACT_PERACT n) = (if s.on (F.CUn_STAT_PEND n) then s.get (F.CUn_PERIOD_PERIOD n) else s.get (F.CUn_PERACT_PERACT n)) ∧
      Fires (3 * n + 1) s t ∧ Tallies (F.CUn_COUNT_COUNT n :: periodFields n) s t := by
  have hcleared : Tallies [F.CUn_COUNT_COUNT n] s (s.put (F.CUn_COUNT_COUNT n) 0) := (Tallies.refl _ s).put 0 (.head _)
  obtain ⟨hpactApart, hpendApart, hperiodApart, hperactApart⟩ := count_apart n
  obtain ⟨hpf, hclear, hperact, hfire, hevent⟩ := cuPeriodEvent_raises (s := s.put (F.CUn_COUNT_COUNT n) 0) hnot
    ((hcleared.alters.get _ hpactApart).trans hpact) hpend himm ht
  rw [hcleared.alters.on hpendApart, hcleared.alters.get _ hperiodApart, hcleared.alters.get _ hperactApart] at hperact
  have hcount : t.get (F.CUn_COUNT_COUNT n) = 0 :=
    (hevent.alters.get _ (periodFields_apart n).right).trans (State.get_put_of_lt (count_fits n) (Nat.two_pow_pos _) _)
  have hkeeps : Keeps [Reg.CUn_COUNT n, Reg.CUn_STAT n] s ((s.put (F.CUn_COUNT_COUNT n) 0).put (F.CUn_STAT_PF n) 1) :=
    ((Keeps.refl _ s).put (f := F.CUn_COUNT_COUNT n) 0 (.head _)).put (f := F.CUn_STAT_PF n) 1 (.tail _ (.head _))
  have hunits : ∀ n : Fin 24, ∀ a ∈ [Reg.CUn_COUNT n, Reg.CUn_STAT n], a < 0x40090000 := by decide
  exact ⟨hcount, hpf, hclear, hperact, fires_of_keeps hkeeps (hunits n) rfl rfl hnot hfire, hcleared.andThen hevent⟩

theorem cuCountStep_wraps (hrun : s.on (F.CUn_STAT_RUN n) = true) (hcu : s.cu[n] = {}) (hclk : s.on (F.CUn_CTL_CLK n) = false)
    (honce : s.on (F.CUn_CTL_ONESHOT n) = false) (hend : s.get (F.CUn_COUNT_COUNT n) = s.get (F.CUn_PERACT_PERACT n))
    (ha : s.rd (Reg.CUn_MATCHA n) ≠ 0) (hb : s.rd (Reg.CUn_MATCHB n) ≠ 0) (hpact : s.get (F.CUn_LINK_PACT n) = 0)
    (hnot : NotFired (3 * n + 1) s) (ht : t = cuCountStep n s) :
    t.get (F.CUn_COUNT_COUNT n) = 0 ∧ t.get (F.CUn_STAT_PF n) = 1 ∧ t.get (F.CUn_STAT_PEND n) = 0 ∧ t.get (F.CUn_STAT_RUN n) = 1 ∧
      t.get (F.CUn_PERACT_PERACT n) = (if s.on (F.CUn_STAT_PEND n) then s.get (F.CUn_PERIOD_PERIOD n) else s.get (F.CUn_PERACT_PERACT n)) ∧
      Fires (3 * n + 1) s t ∧ NoLog s t ∧ Keeps [Reg.CUn_COUNT n, Reg.CUn_STAT n, Reg.CUn_PERACT n] s t := by
  have huncrossed : ∀ w : Word, w ≠ 0 → (decide (w.toNat ≤ s.get (F.CUn_PERACT_PERACT n)) &&
      (decide (s.get (F.CUn_PERACT_PERACT n) < w.toNat) || decide (w.toNat ≤ 0))) = false := fun w hw => by
    have hpos : w.toNat ≠ 0 := fun h => hw (BitVec.eq_of_toNat_eq h)
    simp
    omega
  have hbegun : (cuBegun n s).cu[n] = {} := (cuBegun_cu n s).trans (by rw [hcu])
  have hup : cuUp n 1 (s.get (F.CUn_PERACT_PERACT n)) (cuBegun n s) = cuWrapped n (cuBegun n s) :=
    cuUp_of_wrap honce hend (cuMatches_of_uncrossed (by rw [hbegun]) (by rw [hbegun]) (huncrossed _ ha) (huncrossed _ hb))
  obtain ⟨hcount, hpf, hpend, hperact, hfires, hwraps⟩ := cuWrapped_wraps (s := cuBegun n s) hnot hpact (by rw [hbegun]) (by rw [hbegun]) rfl
  obtain ⟨htallies, hevm, -, hget⟩ := cuCountStep_ends ((cuWorked_of_running hrun hcu hclk).trans (congrArg (State.cuUpd · n _) hup))
    (((cuBegun_tallies n s).trans hwraps).cuUpd n _) ht
  have hstays : ∀ n : Fin 24, apartAll (F.CUn_COUNT_COUNT n :: periodFields n) (F.CUn_STAT_RUN n) = true := by decide +kernel
  exact ⟨(hget _).trans hcount, (hget _).trans hpf, (hget _).trans hpend, (htallies.alters.get _ (hstays n)).trans (State.get_of_on rfl hrun),
    (hget _).trans hperact, (congrArg Evm.firings hevm).trans hfires, htallies.noLog,
    htallies.alters.keeps (by simp [periodFields, loadFields, F.CUn_COUNT_COUNT, F.CUn_STAT_PF, F.CUn_STAT_PEND, F.CUn_PERACT_PERACT])⟩

/-! ## START (R223, R227) -/

/-- The step of a stopped unit that no capture, RESET or IMMEDIATE period has reached is its START. -/
theorem cuWorked_of_stopped (hrun : s.on (F.CUn_STAT_RUN n) = false) (hcapt : s.cu[n].capt = false) (hreset : s.cu[n].reset = false)
    (himm : s.cu[n].immNow = none) : cuWorked n s = (cuBegun n s).when s.cu[n].go (cuStart n) := by
  have hcount : ∀ checked, cuCounted n checked false (cuBegun n s) = cuBegun n s := cuCounted_of_stopped hrun
  simp only [cuWorked, cuImmediate_of_none himm, hcapt, hreset, hrun, hcount, State.when_false, Bool.false_eq_true, if_false]

theorem run_apart : ∀ n : Fin 24, apartAll [F.CUn_STAT_RUN n] (F.CUn_STAT_PEND n) = true ∧ apartAll [F.CUn_STAT_RUN n] (F.CUn_PERIOD_PERIOD n) = true ∧
    apartAll [F.CUn_STAT_RUN n] (F.CUn_PERACT_PERACT n) = true := by decide +kernel

theorem cuStart_of_disabled (hen : s.on (F.CUn_CTL_EN n) = false) : cuStart n s = s := by
  simp [cuStart, hen]

theorem cuStart_starts (hen : s.on (F.CUn_CTL_EN n) = true) (hrun : s.on (F.CUn_STAT_RUN n) = false) (hpend : s.cu[n].pendNow = false)
    (himm : s.cu[n].imm = none) (ht : t = cuStart n s) :
    t.get (F.CUn_STAT_RUN n) = 1 ∧ t.get (F.CUn_STAT_PEND n) = 0 ∧ t.cu[n] = { s.cu[n] with first := true } ∧
      t.get (F.CUn_PERACT_PERACT n) = (if s.on (F.CUn_STAT_PEND n) then s.get (F.CUn_PERIOD_PERIOD n) else s.get (F.CUn_PERACT_PERACT n)) ∧
      t.evm = s.evm ∧ Tallies (F.CUn_STAT_RUN n :: loadFields n) s t := by
  have hset : Tallies [F.CUn_STAT_RUN n] s (s.put (F.CUn_STAT_RUN n) 1) := (Tallies.refl _ s).put 1 (.head _)
  obtain ⟨hclear, hload⟩ := cuLoadPeriod_loads (s := s.put (F.CUn_STAT_RUN n) 1) hpend himm
  obtain ⟨hpendApart, hperiodApart, hperactApart⟩ := run_apart n
  rw [hset.alters.on hpendApart, hset.alters.get _ hperiodApart, hset.alters.get _ hperactApart] at hload
  obtain rfl : t = (cuLoadPeriod n (s.put (F.CUn_STAT_RUN n) 1)).cuUpd n fun c => { c with first := true } := by
    rw [ht, cuStart, hen, hrun]
    rfl
  refine ⟨((cuLoadPeriod_tallies n _).alters.get _ (loadFields_apart n).right.right).trans (State.get_put_of_lt (run_fits n) Nat.one_lt_two s), hclear,
    ?_, hload, cuLoadPeriod_evm n _, (hset.andThen (cuLoadPeriod_tallies n _)).cuUpd n _⟩
  rw [cuUpd_same, cuLoadPeriod_cu]
  rfl

theorem cuCountStep_starts (hcu : s.cu[n] = { go := true }) (hen : s.on (F.CUn_CTL_EN n) = true) (hrun : s.on (F.CUn_STAT_RUN n) = false)
    (ht : t = cuCountStep n s) :
    t.get (F.CUn_STAT_RUN n) = 1 ∧ t.get (F.CUn_STAT_PEND n) = 0 ∧ t.cu[n] = { first := true } ∧
      t.get (F.CUn_PERACT_PERACT n) = (if s.on (F.CUn_STAT_PEND n) then s.get (F.CUn_PERIOD_PERIOD n) else s.get (F.CUn_PERACT_PERACT n)) ∧
      t.get (F.CUn_COUNT_COUNT n) = s.get (F.CUn_COUNT_COUNT n) ∧ t.evm = s.evm ∧ NoLog s t ∧ Keeps [Reg.CUn_STAT n, Reg.CUn_PERACT n] s t := by
  have hworked : cuWorked n s = cuStart n (cuBegun n s) := by
    rw [cuWorked_of_stopped hrun (by rw [hcu]) (by rw [hcu]) (by rw [hcu]), hcu, State.when_true]
  have hbegun : (cuBegun n s).cu[n] = { go := true } := (cuBegun_cu n s).trans (by rw [hcu])
  obtain ⟨hruns, hpend, hfirst, hperact, hevm, hstart⟩ :=
    cuStart_starts (s := cuBegun n s) hen hrun (by rw [hbegun]) (by rw [hbegun]) rfl
  obtain ⟨htallies, hevmT, hcuT, hget⟩ := cuCountStep_ends hworked ((cuBegun_tallies n s).trans hstart) ht
  have hstays : ∀ n : Fin 24, apartAll (F.CUn_STAT_RUN n :: loadFields n) (F.CUn_COUNT_COUNT n) = true := by decide +kernel
  refine ⟨(hget _).trans hruns, (hget _).trans hpend, ?_, (hget _).trans hperact, htallies.alters.get _ (hstays n), hevmT.trans hevm,
    htallies.noLog, htallies.alters.keeps (by simp [loadFields, F.CUn_STAT_RUN, F.CUn_STAT_PEND, F.CUn_PERACT_PERACT])⟩
  rw [hcuT, hfirst, hbegun]
  rfl

/-- A START that reaches a disabled unit is lost. -/
theorem cuCountStep_of_disabled (hcapt : s.cu[n].capt = false) (hreset : s.cu[n].reset = false) (himm : s.cu[n].immNow = none)
    (hrun : s.on (F.CUn_STAT_RUN n) = false) (hen : s.on (F.CUn_CTL_EN n) = false) (ht : t = cuCountStep n s) :
    t.cu[n].go = false ∧ t.evm = s.evm ∧ NoLog s t ∧ Keeps [] s t := by
  have hworked : cuWorked n s = cuBegun n s := by
    rw [cuWorked_of_stopped hrun hcapt hreset himm]
    cases s.cu[n].go
    · rfl
    · exact cuStart_of_disabled hen
  obtain ⟨htallies, hevm, hcu, -⟩ := cuCountStep_ends hworked (cuBegun_tallies (l := []) n s) ht
  exact ⟨congrArg Cu.go hcu, hevm, htallies.noLog, htallies.alters.keeps (by simp)⟩

/-! ## RESET (R223, R227) -/

theorem cuCountStep_resets {c : Cu} (hcu : s.cu[n] = c) (hreset : c.reset = true) (hgo : c.go = false) (hcapt : c.capt = false)
    (himmNow : c.immNow = none) (himm : c.imm = none) (hpend : c.pendNow = false) (ht : t = cuCountStep n s) :
    t.get (F.CUn_COUNT_COUNT n) = 0 ∧ t.get (F.CUn_STAT_RUN n) = s.get (F.CUn_STAT_RUN n) ∧ t.get (F.CUn_STAT_PEND n) = 0 ∧
      t.cu[n] = { first := c.first } ∧
      t.get (F.CUn_PERACT_PERACT n) = (if s.on (F.CUn_STAT_PEND n) then s.get (F.CUn_PERIOD_PERIOD n) else s.get (F.CUn_PERACT_PERACT n)) ∧
      t.evm = s.evm ∧ NoLog s t ∧ Keeps [Reg.CUn_COUNT n, Reg.CUn_STAT n, Reg.CUn_PERACT n] s t := by
  subst hcu
  obtain ⟨u, hu⟩ : ∃ u, u = (cuBegun n s).put (F.CUn_COUNT_COUNT n) 0 := ⟨_, rfl⟩
  have hworked : cuWorked n s = cuLoadPeriod n u := by
    simp only [cuWorked, cuImmediate_of_none himmNow, hcapt, hreset, hgo, State.when_false, if_true, hu]
    rfl
  have hcleared : Tallies [F.CUn_COUNT_COUNT n] s u := hu ▸ (cuBegun_tallies n s).put 0 (.head _)
  have hcount : u.get (F.CUn_COUNT_COUNT n) = 0 := hu ▸ State.get_put_of_lt (count_fits n) (Nat.two_pow_pos _) _
  have hbegun : u.cu[n] = { s.cu[n] with capWas := none } := hu ▸ cuBegun_cu n s
  have hevm : u.evm = s.evm := by rw [hu]; rfl
  obtain ⟨hclear, hload⟩ := cuLoadPeriod_loads (s := u) (n := n) (by rw [hbegun]; exact hpend) (by rw [hbegun]; exact himm)
  obtain ⟨-, hpendApart, hperiodApart, hperactApart⟩ := count_apart n
  rw [hcleared.alters.on hpendApart, hcleared.alters.get _ hperiodApart, hcleared.alters.get _ hperactApart] at hload
  obtain ⟨htallies, hevmT, hcuT, hget⟩ := cuCountStep_ends hworked (hcleared.andThen (cuLoadPeriod_tallies n u)) ht
  have hstays : ∀ n : Fin 24, apartAll (F.CUn_COUNT_COUNT n :: loadFields n) (F.CUn_STAT_RUN n) = true := by decide +kernel
  refine ⟨(hget _).trans (((cuLoadPeriod_tallies n u).alters.get _ (loadFields_apart n).right.left).trans hcount),
    htallies.alters.get _ (hstays n), (hget _).trans hclear, ?_, (hget _).trans hload, hevmT.trans ((cuLoadPeriod_evm n u).trans hevm),
    htallies.noLog, htallies.alters.keeps (by simp [loadFields, F.CUn_COUNT_COUNT, F.CUn_STAT_PEND, F.CUn_PERACT_PERACT])⟩
  rw [hcuT, cuLoadPeriod_cu, hbegun, cuClosed, himm]

/-! ## Capture (R223, R231, R232) -/

/-- The fields that a capture sets. -/
def captureFields (n : Fin 24) : List Fld := [F.CUn_CAP_CAP n, F.CUn_CAPPK_CAP n, F.CUn_STAT_OVF n, F.CUn_STAT_CAPF n]

theorem captureFields_regs (n : Fin 24) : ∀ f ∈ captureFields n, f.addr ∈ [Reg.CUn_CAP n, Reg.CUn_CAPPK n, Reg.CUn_STAT n] := by
  simp [captureFields, F.CUn_CAP_CAP, F.CUn_CAPPK_CAP, F.CUn_STAT_OVF, F.CUn_STAT_CAPF]

/-- The captured value stored, before its flags. -/
def cuTaken (n : Fin 24) (s : State) : State :=
  ((s.cuUpd n fun c => { c with capWas := some (s.clk.ns / 10, s.rd (Reg.CUn_CAP n), s.on (F.CUn_STAT_OVF n)) }).put (F.CUn_CAP_CAP n)
    (s.get (F.CUn_COUNT_COUNT n))).put (F.CUn_CAPPK_CAP n) (s.get (F.CUn_COUNT_COUNT n))

/-- The captured value stored and flagged, before the CAPTURE event. -/
def cuCaught (n : Fin 24) (s : State) : State :=
  ((cuTaken n s).when (s.on (F.CUn_STAT_CAPF n)) fun t => t.put (F.CUn_STAT_OVF n) 1).put (F.CUn_STAT_CAPF n) 1

theorem cuCapture_of_enabled (hen : s.on (F.CUn_CTL_EN n) = true) (hstart : s.cu[n].start = none) :
    cuCapture n s = (cuCaught n s).fire (3 * n + 2) := by
  unfold cuCapture
  rw [if_pos hen, hstart]
  rfl

theorem cuTaken_tallies (n : Fin 24) (s : State) : Tallies (captureFields n) s (cuTaken n s) :=
  (((Tallies.refl _ s).cuUpd n _).put _ (.head _)).put _ (.tail _ (.head _))

theorem cuCaught_flags (n : Fin 24) (s : State) : Tallies [F.CUn_STAT_OVF n, F.CUn_STAT_CAPF n] (cuTaken n s) (cuCaught n s) :=
  ((Tallies.refl _ _).when _ ((Tallies.refl _ _).put 1 (.head _))).put 1 (.tail _ (.head _))

theorem cuCaught_tallies (n : Fin 24) (s : State) : Tallies (captureFields n) s (cuCaught n s) :=
  (cuTaken_tallies n s).trans ⟨(cuCaught_flags n s).alters.mono (by simp [captureFields]), (cuCaught_flags n s).log, (cuCaught_flags n s).clk⟩

theorem cuCaught_evm (n : Fin 24) (s : State) : (cuCaught n s).evm = s.evm := by
  unfold cuCaught
  cases s.on (F.CUn_STAT_CAPF n) <;> rfl

theorem cuCaught_cu (n : Fin 24) (s : State) : (cuCaught n s).cu[n] =
    { s.cu[n] with capWas := some (s.clk.ns / 10, s.rd (Reg.CUn_CAP n), s.on (F.CUn_STAT_OVF n)) } := by
  have hcu : (cuCaught n s).cu = (cuTaken n s).cu := by
    unfold cuCaught
    rw [State.put_cu]
    cases s.on (F.CUn_STAT_CAPF n)
    · rw [State.when_false]
    · rw [State.when_true, State.put_cu]
  rw [hcu, cuTaken, State.put_cu, State.put_cu, cuUpd_same]

/-- The captured value stands in CUn_CAP and CUn_CAPPK, unread; OVF tells of one before it that nothing has read. -/
theorem cuCaught_shows (n : Fin 24) (s : State) : (cuCaught n s).get (F.CUn_CAP_CAP n) = s.get (F.CUn_COUNT_COUNT n) ∧
    (cuCaught n s).get (F.CUn_CAPPK_CAP n) = s.get (F.CUn_COUNT_COUNT n) ∧ (cuCaught n s).get (F.CUn_STAT_CAPF n) = 1 ∧
    (cuCaught n s).get (F.CUn_STAT_OVF n) = if s.on (F.CUn_STAT_CAPF n) then 1 else s.get (F.CUn_STAT_OVF n) := by
  have hapart : ∀ n : Fin 24, apartAll [F.CUn_STAT_OVF n, F.CUn_STAT_CAPF n] (F.CUn_CAP_CAP n) = true ∧
      apartAll [F.CUn_STAT_OVF n, F.CUn_STAT_CAPF n] (F.CUn_CAPPK_CAP n) = true ∧ fldApart (F.CUn_CAPPK_CAP n) (F.CUn_CAP_CAP n) = true ∧
      fldApart (F.CUn_STAT_CAPF n) (F.CUn_STAT_OVF n) = true ∧ apartAll [F.CUn_CAP_CAP n, F.CUn_CAPPK_CAP n] (F.CUn_STAT_OVF n) = true := by
    decide +kernel
  obtain ⟨hcap, hcappk, hpair, hflags, hovf⟩ := hapart n
  have hkept : (cuTaken n s).get (F.CUn_STAT_OVF n) = s.get (F.CUn_STAT_OVF n) :=
    ((((Tallies.refl [F.CUn_CAP_CAP n, F.CUn_CAPPK_CAP n] s).cuUpd n _).put _ (.head _)).put _ (.tail _ (.head _))).alters.get _ hovf
  refine ⟨((cuCaught_flags n s).alters.get _ hcap).trans ((State.get_put_apart hpair _ _).trans
    (State.get_put_of_lt (cap_fits n) (fldOf_lt (F.CUn_COUNT_COUNT n) _) _)),
    ((cuCaught_flags n s).alters.get _ hcappk).trans (State.get_put_of_lt (cappk_fits n) (fldOf_lt (F.CUn_COUNT_COUNT n) _) _),
    State.get_put_of_lt (capf_fits n) Nat.one_lt_two _, (State.get_put_apart hflags _ _).trans ?_⟩
  cases s.on (F.CUn_STAT_CAPF n)
  · exact hkept
  · exact State.get_put_of_lt (ovf_fits n) Nat.one_lt_two _

theorem cuCapture_captures (hen : s.on (F.CUn_CTL_EN n) = true) (hstart : s.cu[n].start = none) (hnot : NotFired (3 * n + 2) s)
    (ht : t = cuCapture n s) :
    t.get (F.CUn_CAP_CAP n) = s.get (F.CUn_COUNT_COUNT n) ∧ t.get (F.CUn_CAPPK_CAP n) = s.get (F.CUn_COUNT_COUNT n) ∧
      t.get (F.CUn_STAT_CAPF n) = 1 ∧
      t.get (F.CUn_STAT_OVF n) = (if s.on (F.CUn_STAT_CAPF n) then 1 else s.get (F.CUn_STAT_OVF n)) ∧
      t.cu[n] = { s.cu[n] with capWas := some (s.clk.ns / 10, s.rd (Reg.CUn_CAP n), s.on (F.CUn_STAT_OVF n)) } ∧
      Fires (3 * n + 2) s t ∧ Tallies (captureFields n) s t := by
  obtain rfl : t = (cuCaught n s).fire (3 * n + 2) := ht.trans (cuCapture_of_enabled hen hstart)
  have hcaught := cuCaught_tallies n s
  have hnotNow : NotFired (3 * n + 2) (cuCaught n s) := notFired_congr (cuCaught_evm n s) hcaught.clk hnot
  have hkeeps : Keeps [Reg.CUn_CAP n, Reg.CUn_CAPPK n, Reg.CUn_STAT n] s (cuCaught n s) := hcaught.alters.keeps (captureFields_regs n)
  have hunits : ∀ n : Fin 24, ∀ a ∈ [Reg.CUn_CAP n, Reg.CUn_CAPPK n, Reg.CUn_STAT n], a < 0x40090000 := by decide
  obtain ⟨hcap, hcappk, hcapf, hovf⟩ := cuCaught_shows n s
  exact ⟨(fire_get hnotNow _).trans hcap, (fire_get hnotNow _).trans hcappk, (fire_get hnotNow _).trans hcapf, (fire_get hnotNow _).trans hovf,
    (congrArg (fun v => v[n]) (fire_cu _ _)).trans (cuCaught_cu n s),
    fires_of_keeps hkeeps (hunits n) (cuCaught_evm n s) hcaught.clk hnot rfl, hcaught.fire hnotNow⟩

theorem cuCountStep_captures (hcu : s.cu[n] = { capt := true }) (hen : s.on (F.CUn_CTL_EN n) = true) (hrun : s.on (F.CUn_STAT_RUN n) = false)
    (hnot : NotFired (3 * n + 2) s) (ht : t = cuCountStep n s) :
    t.get (F.CUn_CAP_CAP n) = s.get (F.CUn_COUNT_COUNT n) ∧ t.get (F.CUn_CAPPK_CAP n) = s.get (F.CUn_COUNT_COUNT n) ∧
      t.get (F.CUn_STAT_CAPF n) = 1 ∧
      t.get (F.CUn_STAT_OVF n) = (if s.on (F.CUn_STAT_CAPF n) then 1 else s.get (F.CUn_STAT_OVF n)) ∧
      t.cu[n] = { capWas := some (s.clk.ns / 10, s.rd (Reg.CUn_CAP n), s.on (F.CUn_STAT_OVF n)) } ∧
      Fires (3 * n + 2) s t ∧ NoLog s t ∧ Keeps [Reg.CUn_CAP n, Reg.CUn_CAPPK n, Reg.CUn_STAT n] s t := by
  have hbegun : (cuBegun n s).cu[n] = { capt := true } := (cuBegun_cu n s).trans (by rw [hcu])
  obtain ⟨hcap, hcappk, hcapf, hovf, hmarks, hfires, hcapture⟩ := cuCapture_captures (s := cuBegun n s) hen (by rw [hbegun]) hnot rfl
  have hstops : ∀ n : Fin 24, apartAll (captureFields n) (F.CUn_STAT_RUN n) = true := by decide +kernel
  have hstill : (cuCapture n (cuBegun n s)).on (F.CUn_STAT_RUN n) = false := (hcapture.alters.on (hstops n)).trans hrun
  have hworked : cuWorked n s = cuCapture n (cuBegun n s) := by
    simp only [cuWorked, cuImmediate_of_none (n := n) (s := s) (by rw [hcu]), hcu, hrun, State.when_true, State.when_false, Bool.false_eq_true, if_false]
    exact cuCounted_of_stopped hstill _
  obtain ⟨htallies, hevm, hcuT, hget⟩ := cuCountStep_ends hworked ((cuBegun_tallies n s).trans hcapture) ht
  refine ⟨(hget _).trans hcap, (hget _).trans hcappk, (hget _).trans hcapf, (hget _).trans hovf, ?_, (congrArg Evm.firings hevm).trans hfires,
    htallies.noLog, htallies.alters.keeps (captureFields_regs n)⟩
  rw [hcuT, hmarks, hbegun]
  rfl

/-! ## Actions that reach a unit (R223, R233, R246) -/

/-- The marks of a unit with an action's added. -/
def cuReached (code : Nat) (c : Cu) : Cu :=
  { c with
    capt := c.capt || ([4, 5, 6] : List Nat).contains code
    reset := c.reset || ([2, 3, 5] : List Nat).contains code
    go := c.go || ([1, 3, 6] : List Nat).contains code }

section
variable (c : Cu)

theorem cuReached_start : cuReached 1 c = { c with go := true } := by simp [cuReached]
theorem cuReached_reset : cuReached 2 c = { c with reset := true } := by simp [cuReached]
theorem cuReached_startReset : cuReached 3 c = { c with reset := true, go := true } := by simp [cuReached]
theorem cuReached_capture : cuReached 4 c = { c with capt := true } := by simp [cuReached]

end

theorem cuAction_cu (n : Fin 24) (code : Nat) (s : State) : (cuAction n code s).cu[n] = cuReached code s.cu[n] := cuUpd_same s n _

theorem cuAction_tallies (n : Fin 24) (code : Nat) (s : State) : Tallies [] s (cuAction n code s) := (Tallies.refl _ s).cuUpd n _

/-- An accepted action of CNT_ACT reaches the unit that its argument names, and nothing else changes but the register. -/
theorem cntAct_reaches {ticket action : Byte} {arg : BitVec 16} (hfresh : Fresh Reg.CNT_ACT ticket s) (hunit : arg.toNat % 32 = n.val)
    (hlisted : action.toNat ≤ 4) {c : Cu} (hc : cuReached action.toNat s.cu[n] = c)
    (ht : t = s.act Reg.CNT_ACT ticket arg action (cntAct arg action)) :
    t.cu[n] = c ∧ t.rd Reg.CNT_ACT = ticket ++ (arg &&& 0x1f) ++ action ∧ t.evm = s.evm ∧ NoLog s t ∧
      Keeps [Reg.CNT_ACT] s t := by
  have hfull : implMask Reg.CNT_ACT = BitVec.allOnes 32 := by decide +kernel
  have hlt : arg.toNat % 32 < 24 := hunit ▸ n.isLt
  have hact : cntAct arg action s = cuAction n action.toNat s := by
    unfold cntAct
    rw [dif_pos hlt, if_pos hlisted]
    exact congrArg (cuAction · action.toNat s) (Fin.ext hunit)
  rw [State.act_fresh _ _ _ _ _ _ hfresh, hact] at ht
  subst ht
  refine ⟨(cuAction_cu n _ s).trans hc, ?_, rfl, rfl, ((cuAction_tallies n _ s).alters.keeps (by simp)).wr _ (.head _)⟩
  rw [State.rd_wr_same, hfull, BitVec.and_allOnes]
  rfl

theorem linkAction_reaches (n : Fin 24) (action : Fin 4) (ht : t = cuAction n action.val s) :
    t.cu[n] = { s.cu[n] with reset := s.cu[n].reset || action == 2 || action == 3, go := s.cu[n].go || action == 1 || action == 3 } ∧
      t.evm = s.evm ∧ NoLog s t ∧ Keeps [] s t := by
  have hmarks : ∀ c : Cu, cuReached action.val c =
      { c with reset := c.reset || action == 2 || action == 3, go := c.go || action == 1 || action == 3 } := fun c => by
    fin_cases action <;> simp [cuReached]
  have hreach := cuAction_tallies n action.val s
  subst ht
  exact ⟨(cuAction_cu n _ s).trans (hmarks _), rfl, hreach.noLog, hreach.alters.keeps (by simp)⟩

/-! ## Period writes and capture reads (R227, R228, R231) -/

theorem period_full : ∀ n : Fin 24, implMask (Reg.CUn_PERIOD n) = BitVec.allOnes 32 := by decide +kernel

theorem rd_wr_period (n : Fin 24) (s : State) (v : Word) : (s.wr (Reg.CUn_PERIOD n) v).rd (Reg.CUn_PERIOD n) = v := by
  rw [State.rd_wr_same, period_full, BitVec.and_allOnes]

/-- In BOUNDARY mode a period goes to the shadow; a write that comes after the step of its cycle is not held back by it. -/
theorem cuPeriodWrite_boundary {v : Word} (hmode : s.on (F.CUn_CTL_LOADMODE n) = false) (ht : t = cuPeriodWrite n v s) :
    t.rd (Reg.CUn_PERIOD n) = v ∧ t.get (F.CUn_STAT_PEND n) = 1 ∧ t.cu[n].pendNow = (!cuPast n s || s.cu[n].pendNow) ∧ NoLog s t ∧
      Keeps [Reg.CUn_PERIOD n, Reg.CUn_STAT n] s t := by
  have hne : ∀ n : Fin 24, Reg.CUn_PERIOD n ≠ Reg.CUn_STAT n := by decide
  obtain ⟨g, hg, heq⟩ : ∃ g : Cu → Cu, (g s.cu[n]).pendNow = (!cuPast n s || s.cu[n].pendNow) ∧
      t = ((s.wr (Reg.CUn_PERIOD n) v).put (F.CUn_STAT_PEND n) 1).cuUpd n g := by
    unfold cuPeriodWrite at ht
    rw [hmode] at ht
    refine ⟨_, ?_, ht⟩
    cases cuPast n s <;> rfl
  subst heq
  refine ⟨(State.rd_hw_ne _ _ _ _ (hne n)).trans (rd_wr_period n s v), State.get_put_of_lt (pend_fits n) Nat.one_lt_two _, ?_, rfl,
    (((Keeps.refl _ s).wr v (.head _)).put (f := F.CUn_STAT_PEND n) 1 (.tail _ (.head _))).congr rfl rfl rfl⟩
  rw [cuUpd_same]
  exact hg

/-- In IMMEDIATE mode a period waits for the next step that is to come after it, and PEND stands. -/
theorem cuPeriodWrite_immediate {v : Word} (hmode : s.on (F.CUn_CTL_LOADMODE n) = true) (ht : t = cuPeriodWrite n v s) :
    t.rd (Reg.CUn_PERIOD n) = v ∧
      t.cu[n] = (if cuPast n s then { s.cu[n] with immNow := some (v, false) } else { s.cu[n] with imm := some (v, false) }) ∧
      t.get (F.CUn_STAT_PEND n) = s.get (F.CUn_STAT_PEND n) ∧ NoLog s t ∧ Keeps [Reg.CUn_PERIOD n] s t := by
  have hapart : ∀ n : Fin 24, (F.CUn_STAT_PEND n).addr ∉ [Reg.CUn_PERIOD n] := by decide
  unfold cuPeriodWrite at ht
  rw [hmode] at ht
  subst ht
  have hkeeps : Keeps [Reg.CUn_PERIOD n] s (s.wr (Reg.CUn_PERIOD n) v) := (Keeps.refl _ s).wr v (.head _)
  exact ⟨rd_wr_period n s v, cuUpd_same _ n _, hkeeps.get (hapart n), rfl, hkeeps.congr rfl rfl rfl⟩

/-- A write that comes after the step of its cycle acts on the step of the next, in either mode. -/
theorem cuPeriodWrite_past {v : Word} (hpast : cuPast n s = true) (ht : t = cuPeriodWrite n v s) :
    t.rd (Reg.CUn_PERIOD n) = v ∧ (s.on (F.CUn_CTL_LOADMODE n) = true → t.cu[n].immNow = some (v, false) ∧
        t.get (F.CUn_STAT_PEND n) = s.get (F.CUn_STAT_PEND n)) ∧
      (s.on (F.CUn_CTL_LOADMODE n) = false → t.get (F.CUn_STAT_PEND n) = 1 ∧ t.cu[n].pendNow = s.cu[n].pendNow) ∧ NoLog s t ∧
        Keeps [Reg.CUn_PERIOD n, Reg.CUn_STAT n] s t := by
  cases hmode : s.on (F.CUn_CTL_LOADMODE n)
  · obtain ⟨hperiod, hpend, hcu, hlog, hkeeps⟩ := cuPeriodWrite_boundary hmode ht
    rw [hpast] at hcu
    exact ⟨hperiod, nofun, fun _ => ⟨hpend, hcu⟩, hlog, hkeeps⟩
  · obtain ⟨hperiod, hcu, hpend, hlog, hkeeps⟩ := cuPeriodWrite_immediate hmode ht
    rw [if_pos hpast] at hcu
    exact ⟨hperiod, fun _ => ⟨congrArg Cu.immNow hcu, hpend⟩, nofun, hlog, hkeeps.mono (by simp)⟩

/-- A read of CUn_CAP in a cycle with no capture before it clears CAPF. -/
theorem cuCaptureRead_clears (hcap : s.cu[n].capWas.all (fun x => decide (x.1 ≠ s.clk.ns / 10)) = true) (ht : t = cuCaptureRead n s) :
    t.rdata = s.rd (Reg.CUn_CAP n) ∧ t.get (F.CUn_STAT_CAPF n) = 0 ∧ t.get (F.CUn_STAT_OVF n) = s.get (F.CUn_STAT_OVF n) ∧ NoLog s t ∧
      Keeps [Reg.CUn_STAT n] s t := by
  have hapart : ∀ n : Fin 24, fldApart (F.CUn_STAT_CAPF n) (F.CUn_STAT_OVF n) = true := by decide +kernel
  have heq : cuCaptureRead n s = ({ s with rdata := s.rd (Reg.CUn_CAP n) } : State).put (F.CUn_STAT_CAPF n) 0 := by
    unfold cuCaptureRead
    split
    next cyc v ovf hsome =>
      rw [hsome, Option.all_some, decide_eq_true_eq] at hcap
      exact if_neg hcap
    next => rfl
  rw [heq] at ht
  subst ht
  exact ⟨rfl, State.get_put_of_lt (capf_fits n) (Nat.two_pow_pos _) _, State.get_put_apart (hapart n) _ _, rfl,
    ((Keeps.refl _ s).congr rfl rfl rfl).put (f := F.CUn_STAT_CAPF n) 0 (.head _)⟩

/-- Settles O22, command by command: what has reached a unit decides which parts its count step has. -/
theorem counterUnits : Obligations.CounterUnits := by
  unfold Obligations.CounterUnits
  refine ⟨fun s n hrun hcu hclk hroom ha hb => ⟨_, rfl, cuCountStep_counts hrun hcu hclk hroom ha hb rfl⟩,
    fun s n hrun hcu hclk honce hend ha hb hpact hnot => ⟨_, rfl, cuCountStep_wraps hrun hcu hclk honce hend ha hb hpact hnot rfl⟩,
    fun s n ticket arg hfresh hunit => ⟨_, rfl, cntAct_reaches hfresh hunit (by decide) (cuReached_start _) rfl⟩,
    fun s n ticket arg hfresh hunit => ⟨_, rfl, cntAct_reaches hfresh hunit (by decide) (cuReached_reset _) rfl⟩,
    fun s n ticket arg hfresh hunit => ⟨_, rfl, cntAct_reaches hfresh hunit (by decide) (cuReached_startReset _) rfl⟩,
    fun s n ticket arg hfresh hunit => ⟨_, rfl, cntAct_reaches hfresh hunit (by decide) (cuReached_capture _) rfl⟩,
    fun s n action => ⟨_, rfl, linkAction_reaches n action rfl⟩,
    fun s n hcu hen hrun => ⟨_, rfl, cuCountStep_starts hcu hen hrun rfl⟩,
    fun s n _ hcapt hreset himm hrun hen => ⟨_, rfl, cuCountStep_of_disabled hcapt hreset himm hrun hen rfl⟩,
    fun s n c hcu hreset hgo hcapt himmNow himm hpend => ⟨_, rfl, cuCountStep_resets hcu hreset hgo hcapt himmNow himm hpend rfl⟩,
    fun s n hcu hen hrun hnot => ⟨_, rfl, cuCountStep_captures hcu hen hrun hnot rfl⟩,
    fun s n value hmode hpast => ⟨_, rfl, ?_⟩, fun s n value hmode hpast => ⟨_, rfl, ?_⟩,
    fun s n value hpast => ⟨_, rfl, cuPeriodWrite_past hpast rfl⟩, fun s n hcap => ⟨_, rfl, cuCaptureRead_clears hcap rfl⟩⟩
  · obtain ⟨hperiod, hpend, hcu, hlog, hkeeps⟩ := cuPeriodWrite_boundary (v := value) hmode rfl
    rw [hpast] at hcu
    exact ⟨hperiod, hpend, hcu, hlog, hkeeps⟩
  · obtain ⟨hperiod, hcu, -, hlog, hkeeps⟩ := cuPeriodWrite_immediate (v := value) hmode rfl
    rw [hpast] at hcu
    exact ⟨hperiod, congrArg Cu.imm hcu, hlog, hkeeps⟩

end Sys2Proof.Machine
end

section
/-!
PROOFS. The event matrix: configuration writes, delivery to one sink, EVO outputs, software triggers (R236 to R245).
-/
namespace Sys2Proof.Machine

variable {c : Fin 32} {j : Fin 4} {a : Nat} {v : Word} {s t u : State}

/-! ## The numbers of set bits -/

theorem getLsbD_ofNat_two_pow {w i : Nat} (hi : i < w) (k : Nat) : (BitVec.ofNat w (2 ^ i)).getLsbD k = decide (i = k) := by
  rw [BitVec.getLsbD_ofNat, Nat.testBit_two_pow]
  by_cases h : i = k
  · simp [← h, hi]
  · simp [h]

theorem bitsOf_zero (w : Nat) : bitsOf (0 : BitVec w) = [] := by
  simp [bitsOf]

theorem bitsOf_two_pow {w i : Nat} (hi : i < w) : bitsOf (BitVec.ofNat w (2 ^ i)) = [i] := by
  have hbits : bitsOf (BitVec.ofNat w (2 ^ i)) = (List.range w).filter (· == i) := by
    refine List.filter_congr fun k _ => ?_
    rw [getLsbD_ofNat_two_pow hi, beq_eq_decide]
    exact decide_eq_decide.mpr eq_comm
  rw [hbits, List.filter_beq, List.count_eq_one_of_mem List.nodup_range (List.mem_range.mpr hi)]
  rfl

/-- The sum of two powers is the word of the two bits. -/
theorem ofNat_two_pow_add {w i k : Nat} (h : i < k) : BitVec.ofNat w (2 ^ i + 2 ^ k) = BitVec.ofNat w (2 ^ i) ||| BitVec.ofNat w (2 ^ k) := by
  have hor : 2 ^ k + 2 ^ i = 2 ^ k ||| 2 ^ i := by
    simpa using Nat.two_pow_add_eq_or_of_lt (Nat.pow_lt_pow_right (by decide) h) 1
  rw [Nat.add_comm, hor, Nat.or_comm]
  exact BitVec.ofNat_or

/-! ## The sinks of a channel (R239) -/

/-- Four words in one: each has its own 32 bits. -/
theorem getLsbD_words (x y z w : Word) {i : Nat} (hi : i < 32) : (x ++ y ++ z ++ w).getLsbD i = w.getLsbD i ∧
    (x ++ y ++ z ++ w).getLsbD (32 + i) = z.getLsbD i ∧ (x ++ y ++ z ++ w).getLsbD (64 + i) = y.getLsbD i ∧
    (x ++ y ++ z ++ w).getLsbD (96 + i) = x.getLsbD i := by
  have hsub : 64 + i - 32 = 32 + i ∧ 96 + i - 32 = 64 + i := by omega
  have hge : ¬ 64 + i < 32 ∧ ¬ 96 + i < 32 := by omega
  simp only [BitVec.getLsbD_append, Nat.add_sub_cancel_left, hsub]
  simp [hi, hge]

theorem chSinks_getLsbD (c : Fin 32) (j : Fin 4) (s : State) {i : Nat} (hi : i < 32) :
    (chSinks c s).getLsbD (32 * j + i) = (s.rd (Reg.EVM_CHc_SNKj c j)).getLsbD i := by
  obtain ⟨h0, h1, h2, h3⟩ := getLsbD_words (s.rd (Reg.EVM_CHc_SNKj c 3)) (s.rd (Reg.EVM_CHc_SNKj c 2)) (s.rd (Reg.EVM_CHc_SNKj c 1))
    (s.rd (Reg.EVM_CHc_SNKj c 0)) hi
  match j with
  | 0 => exact (congrArg (BitVec.getLsbD _) (Nat.zero_add i)).trans h0
  | 1 => exact h1
  | 2 => exact h2
  | 3 => exact h3

theorem chSinks_congr (h : ∀ j : Fin 4, t.rd (Reg.EVM_CHc_SNKj c j) = s.rd (Reg.EVM_CHc_SNKj c j)) : chSinks c t = chSinks c s := by
  have h0 : t.rd (Reg.EVM_CHc_SNKj c 0) = s.rd (Reg.EVM_CHc_SNKj c 0) := h 0
  have h1 : t.rd (Reg.EVM_CHc_SNKj c 1) = s.rd (Reg.EVM_CHc_SNKj c 1) := h 1
  have h2 : t.rd (Reg.EVM_CHc_SNKj c 2) = s.rd (Reg.EVM_CHc_SNKj c 2) := h 2
  have h3 : t.rd (Reg.EVM_CHc_SNKj c 3) = s.rd (Reg.EVM_CHc_SNKj c 3) := h 3
  unfold chSinks
  rw [h0, h1, h2, h3]

/-- A channel with one sink has that bit in the word of the sink's register. -/
theorem rd_snk_of_chSinks {i : Nat} (hi : i < 32) (h : chSinks c s = BitVec.ofNat 128 (2 ^ (32 * j.val + i))) :
    s.rd (Reg.EVM_CHc_SNKj c j) = BitVec.ofNat 32 (2 ^ i) := by
  refine BitVec.eq_of_getLsbD_eq fun k hk => ?_
  rw [← chSinks_getLsbD c j s hk, h, getLsbD_ofNat_two_pow (by omega), getLsbD_ofNat_two_pow hi]
  exact decide_eq_decide.mpr (by omega)

theorem rd_snk_of_chSinks_zero (h : chSinks c s = 0) : s.rd (Reg.EVM_CHc_SNKj c j) = 0 := by
  refine BitVec.eq_of_getLsbD_eq fun k hk => ?_
  rw [← chSinks_getLsbD c j s hk, h]
  simp

/-! ## Configuration words (R241) -/

/-- A configuration word is stored for the firings of the next cycle on, and nothing else changes. -/
structure Configures (a : Nat) (v : Word) (s t : State) : Prop where
  rd : t.rd a = v &&& implMask a
  cfg : t.evmCfg a = s.evmCfg a
  firings : t.evm.firings = s.evm.firings
  log : t.log = s.log
  clk : t.clk = s.clk
  dom : t.dom = s.dom
  keeps : Keeps [a] s t

theorem evmStore_configures (a : Nat) (v : Word) (s : State) : Configures a v s (evmStore a v s) := by
  have hstore : ∀ u : State, mapFind u.evm.old a = some (s.evmCfg a) → u.evm.firings = s.evm.firings → u.log = s.log → u.clk = s.clk →
      u.dom = s.dom → Keeps [a] s u → Configures a v s (u.wr a v) := fun u hold hfirings hlog hclk hdom hkeeps =>
    ⟨u.rd_wr_same a v, congrArg (Option.getD · _) hold, hfirings, hlog, hclk, hdom, hkeeps.wr v (.head _)⟩
  unfold evmStore
  cases hold : mapFind s.evm.old a with
  | none =>
    refine hstore _ ?_ rfl rfl rfl rfl ((Keeps.refl _ s).congr rfl rfl rfl)
    refine (mapFind_insert _ _ _ _ hold).trans ((if_pos rfl).trans ?_)
    unfold State.evmCfg
    rw [hold]
    rfl
  | some w =>
    refine hstore s ?_ rfl rfl rfl rfl (.refl _ s)
    unfold State.evmCfg
    rw [hold]
    rfl

theorem Configures.logAngle (h : Configures a v s t) : t.logAngle = s.logAngle := State.logAngle_congr h.dom h.log

theorem snk_full : ∀ (c : Fin 32) (j : Fin 4), implMask (Reg.EVM_CHc_SNKj c j) = BitVec.allOnes 32 := by decide +kernel

theorem Configures.rd_snk (h : Configures (Reg.EVM_CHc_SNKj c j) v s t) : t.rd (Reg.EVM_CHc_SNKj c j) = v := by
  rw [h.rd, snk_full, BitVec.and_allOnes]

/-- A field of a word just stored. -/
theorem Configures.get (h : Configures a v s t) {f : Fld} (hf : fldFits f = true) (ha : f.addr = a) : t.get f = fldOf f v := by
  subst ha
  unfold State.get
  rw [h.rd, fldOf_and_of_within (m := implMask f.addr) hf]

theorem Configures.noLog (h : Configures a v s t) : NoLog s t := congrArg LogSt.reqs h.log

/-- A request that follows the store of a configuration word carries the time and the angle from before it. -/
theorem Configures.logged {block code : Nat} {d : List Byte} (h : Configures a v s u)
    (ht : t.log.reqs = u.log.reqs ++ [⟨u.clk.time, u.logAngle, block, code, d⟩]) : Logged block code d s t := by
  unfold Logged
  rw [ht, h.log, h.clk, h.logAngle]

/-! ## Writes of a channel's sinks (R239) -/

theorem sinkWrite_of_fork (hfork : s.on (F.EVM_CHc_CTL_MODE c) = true) (v : Word) : sinkWrite c j v s = evmStore (Reg.EVM_CHc_SNKj c j) v s :=
  if_pos hfork

/-- A SINGLE channel with no sink left takes the one that the write sets. -/
theorem sinkWrite_of_free {i : Nat} (hsingle : s.on (F.EVM_CHc_CTL_MODE c) = false) (hnone : bitsOf (chSinks c s) = [])
    (hkept : s.rd (Reg.EVM_CHc_SNKj c j) &&& v = 0) (hasked : bitsOf (v &&& ~~~(s.rd (Reg.EVM_CHc_SNKj c j))) = [i]) :
    sinkWrite c j v s = evmStore (Reg.EVM_CHc_SNKj c j) (BitVec.ofNat 32 (2 ^ i)) s := by
  simp [sinkWrite, hsingle, hnone, hkept, hasked]

/-- The refusal of one sink, after the store of the word that stands. -/
def sinkRefused (c : Fin 32) (j : Fin 4) (k : Nat) (s : State) : State :=
  ((s.setBit F.EVM_REF_REF c).put F.EVM_FLT_SNKREF 1).logReq 0x09 0x0001 [b8 c, b8 ((bitsOf (chSinks c s)).headD 0), b8 (32 * j.val + k), b8 1]

/-- A SINGLE channel that keeps a sink refuses another. -/
theorem sinkWrite_of_kept {k : Nat} (hsingle : s.on (F.EVM_CHc_CTL_MODE c) = false) (hkept : s.rd (Reg.EVM_CHc_SNKj c j) &&& v ≠ 0)
    (hasked : bitsOf (v &&& ~~~(s.rd (Reg.EVM_CHc_SNKj c j))) = [k]) :
    sinkWrite c j v s = sinkRefused c j k (evmStore (Reg.EVM_CHc_SNKj c j) (s.rd (Reg.EVM_CHc_SNKj c j) &&& v) s) := by
  have hbeq : (s.rd (Reg.EVM_CHc_SNKj c j) &&& v == 0) = false := beq_false_of_ne hkept
  simp only [sinkWrite, hsingle, hbeq, hasked, Bool.and_false, Bool.false_eq_true, if_false]
  rfl

theorem ref_fits : fldFits F.EVM_REF_REF = true := by decide +kernel
theorem snkref_fits : fldFits F.EVM_FLT_SNKREF = true := by decide +kernel

/-- The first sink that a SINGLE channel takes. -/
theorem sinkWrite_enables (hsingle : s.on (F.EVM_CHc_CTL_MODE c) = false) (hnone : chSinks c s = 0) (i : Fin 32)
    (ht : t = sinkWrite c j (BitVec.ofNat 32 (2 ^ i.val)) s) :
    t.rd (Reg.EVM_CHc_SNKj c j) = BitVec.ofNat 32 (2 ^ i.val) ∧ NoLog s t ∧ Keeps [Reg.EVM_CHc_SNKj c j] s t := by
  have hclear : s.rd (Reg.EVM_CHc_SNKj c j) = 0 := rd_snk_of_chSinks_zero hnone
  have hasked : bitsOf (BitVec.ofNat 32 (2 ^ i.val) &&& ~~~(0 : Word)) = [i.val] := by
    rw [BitVec.ofNat_eq_ofNat, BitVec.not_zero, BitVec.and_allOnes, bitsOf_two_pow i.isLt]
  have hcfg := evmStore_configures (Reg.EVM_CHc_SNKj c j) (BitVec.ofNat 32 (2 ^ i.val)) s
  rw [sinkWrite_of_free hsingle (by rw [hnone, bitsOf_zero]) (by rw [hclear]; exact BitVec.zero_and) (by rw [hclear, hasked])] at ht
  rw [← ht] at hcfg
  exact ⟨hcfg.rd_snk, hcfg.noLog, hcfg.keeps⟩

/-- Of the words of two sinks, the first keeps its bit and the second is asked for. -/
theorem two_sinks {i k : Fin 32} (h : i.val < k.val) :
    BitVec.ofNat 32 (2 ^ i.val) &&& BitVec.ofNat 32 (2 ^ i.val + 2 ^ k.val) = BitVec.ofNat 32 (2 ^ i.val) ∧
      BitVec.ofNat 32 (2 ^ i.val + 2 ^ k.val) &&& ~~~(BitVec.ofNat 32 (2 ^ i.val)) = BitVec.ofNat 32 (2 ^ k.val) := by
  rw [ofNat_two_pow_add h]
  constructor <;> refine BitVec.eq_of_getLsbD_eq fun b hb => ?_
  · rw [BitVec.getLsbD_and, BitVec.getLsbD_or]
    cases (BitVec.ofNat 32 (2 ^ i.val)).getLsbD b <;> rfl
  · rw [BitVec.getLsbD_and, BitVec.getLsbD_or, BitVec.getLsbD_not, getLsbD_ofNat_two_pow i.isLt, getLsbD_ofNat_two_pow k.isLt]
    by_cases hk : k.val = b
    · have hi : i.val ≠ b := by omega
      simp [hk, hi, hb]
    · simp [hk, hb]

/-- The second sink of a SINGLE channel is refused: the first stays, and the refusal is flagged and logged. -/
theorem sinkWrite_refuses {i k : Fin 32} (hsingle : s.on (F.EVM_CHc_CTL_MODE c) = false) (hik : i.val < k.val)
    (hone : chSinks c s = BitVec.ofNat 128 (2 ^ (32 * j.val + i.val))) (ht : t = sinkWrite c j (BitVec.ofNat 32 (2 ^ i.val + 2 ^ k.val)) s) :
    t.rd (Reg.EVM_CHc_SNKj c j) = BitVec.ofNat 32 (2 ^ i.val) ∧ t.bit F.EVM_REF_REF c = true ∧ t.get F.EVM_FLT_SNKREF = 1 ∧
      Logged 0x09 0x0001 [b8 c, b8 (32 * j.val + i.val), b8 (32 * j.val + k.val), 1] s t ∧
        Keeps [Reg.EVM_CHc_SNKj c j, Reg.EVM_REF, Reg.EVM_FLT] s t := by
  have hword : s.rd (Reg.EVM_CHc_SNKj c j) = BitVec.ofNat 32 (2 ^ i.val) := rd_snk_of_chSinks i.isLt hone
  obtain ⟨hkept, hasked⟩ := two_sinks hik
  have hne : BitVec.ofNat 32 (2 ^ i.val) ≠ 0 := fun h => by
    have hbit := getLsbD_ofNat_two_pow i.isLt i.val
    rw [h] at hbit
    simp at hbit
  rw [sinkWrite_of_kept hsingle (by rw [hword, hkept]; exact hne) (by rw [hword, hasked, bitsOf_two_pow k.isLt]), hword, hkept] at ht
  obtain ⟨u, hu⟩ : ∃ u, u = evmStore (Reg.EVM_CHc_SNKj c j) (BitVec.ofNat 32 (2 ^ i.val)) s := ⟨_, rfl⟩
  have hcfg := evmStore_configures (Reg.EVM_CHc_SNKj c j) (BitVec.ofNat 32 (2 ^ i.val)) s
  rw [← hu] at ht hcfg
  have hsinks : chSinks c u = chSinks c s := chSinks_congr fun j' => by
    by_cases hj : Reg.EVM_CHc_SNKj c j' = Reg.EVM_CHc_SNKj c j
    · rw [hj, hcfg.rd_snk, hword]
    · exact hcfg.keeps.rd (by simpa using hj)
  have hbits : (bitsOf (chSinks c u)).headD 0 = 32 * j.val + i.val := by
    rw [hsinks, hone, bitsOf_two_pow (by omega)]
    rfl
  have hflags : Keeps [Reg.EVM_REF, Reg.EVM_FLT] u t := by
    rw [ht]
    exact (((Keeps.refl _ u).hw (a := Reg.EVM_REF) _ (.head _)).put (f := F.EVM_FLT_SNKREF) 1 (.tail _ (.head _))).logReq _ _ _
  have hapart : ∀ (c : Fin 32) (j : Fin 4), Reg.EVM_CHc_SNKj c j ∉ [Reg.EVM_REF, Reg.EVM_FLT] := by decide
  refine ⟨(hflags.rd (hapart c j)).trans hcfg.rd_snk, ?_, ?_, hcfg.logged ?_, (hcfg.keeps.mono (by simp)).trans (hflags.mono (by simp))⟩
  · rw [ht]
    exact (congrArg (fun m => m.testBit c) (State.get_put_ne _ F.EVM_FLT_SNKREF F.EVM_REF_REF 1 (by decide))).trans
      (State.bit_setBit_same ref_fits c.isLt u)
  · rw [ht]
    exact State.get_put_of_lt snkref_fits (by decide) _
  · rw [ht, sinkRefused, hbits]
    rfl

/-! ## Writes of a channel's mode (R240) -/

theorem mode_fits : ∀ c : Fin 32, fldFits (F.EVM_CHc_CTL_MODE c) = true := by decide +kernel
theorem en_fits : ∀ c : Fin 32, fldFits (F.EVM_CHc_CTL_EN c) = true := by decide +kernel
theorem moderef_fits : fldFits F.EVM_FLT_MODEREF = true := by decide +kernel

/-- The word with FORK kept: MODE is 1 and EN is as written. -/
theorem fldOf_or_fork (c : Fin 32) (v : Word) : fldOf (F.EVM_CHc_CTL_MODE c) (v ||| 2) = 1 ∧ fldOf (F.EVM_CHc_CTL_EN c) (v ||| 2) = v.toNat % 2 := by
  have hor : (v ||| 2).toNat = v.toNat ||| 2 := BitVec.toNat_or ..
  constructor
  · change (v ||| 2).toNat / 2 % 2 = 1
    rw [hor, Nat.or_div_two, Nat.or_mod_two_eq_one]
    exact .inr rfl
  · change (v ||| 2).toNat / 1 % 2 = v.toNat % 2
    rw [hor, Nat.div_one]
    simpa using Nat.or_mod_two_pow (a := v.toNat) (b := 2) (n := 1)

/-- A FORK channel of two sinks or more refuses SINGLE: MODE stays, the rest of the write is stored, and the refusal is flagged and logged. -/
theorem modeWrite_refuses (hfork : s.on (F.EVM_CHc_CTL_MODE c) = true) (hv : v.getLsbD 1 = false) (hmany : 1 < (bitsOf (chSinks c s)).length)
    (ht : t = modeWrite c v s) :
    t.get (F.EVM_CHc_CTL_MODE c) = 1 ∧ t.get (F.EVM_CHc_CTL_EN c) = v.toNat % 2 ∧ t.get F.EVM_FLT_MODEREF = 1 ∧
      Logged 0x09 0x0002 [b8 c, b8 (bitsOf (chSinks c s)).length] s t ∧ Keeps [Reg.EVM_CHc_CTL c, Reg.EVM_FLT] s t := by
  have hcfg := evmStore_configures (Reg.EVM_CHc_CTL c) (v ||| 2) s
  obtain ⟨u, hu⟩ : ∃ u, u = evmStore (Reg.EVM_CHc_CTL c) (v ||| 2) s := ⟨_, rfl⟩
  replace ht : t = (u.put F.EVM_FLT_MODEREF 1).logReq 0x09 0x0002 [b8 c, b8 (bitsOf (chSinks c s)).length] := by
    rw [ht, hu]
    exact if_pos ⟨hfork, by rw [hv]; rfl, hmany⟩
  rw [← hu] at hcfg
  have hflag : Keeps [Reg.EVM_FLT] u t := by
    rw [ht]
    exact ((Keeps.refl _ u).put (f := F.EVM_FLT_MODEREF) 1 (.head _)).logReq _ _ _
  have hapart : ∀ c : Fin 32, Reg.EVM_CHc_CTL c ∉ [Reg.EVM_FLT] := by decide
  obtain ⟨hmode, hen⟩ := fldOf_or_fork c v
  refine ⟨((hflag.get (hapart c)).trans (hcfg.get (mode_fits c) rfl)).trans hmode, ((hflag.get (hapart c)).trans (hcfg.get (en_fits c) rfl)).trans hen,
    ?_, hcfg.logged ?_, (hcfg.keeps.mono (by simp)).trans (hflag.mono (by simp))⟩
  · rw [ht]
    exact State.get_put_of_lt moderef_fits (by decide) u
  · rw [ht]
    rfl

/-- Any other write of the mode is stored for the next cycle. -/
theorem modeWrite_stores (hallowed : s.on (F.EVM_CHc_CTL_MODE c) = false ∨ v.getLsbD 1 = true ∨ (bitsOf (chSinks c s)).length ≤ 1)
    (ht : t = modeWrite c v s) :
    t.get (F.EVM_CHc_CTL_MODE c) = v.toNat / 2 % 2 ∧ t.get (F.EVM_CHc_CTL_EN c) = v.toNat % 2 ∧
      t.evmCfg (Reg.EVM_CHc_CTL c) = s.evmCfg (Reg.EVM_CHc_CTL c) ∧ t.evm.firings = s.evm.firings ∧ NoLog s t ∧ Keeps [Reg.EVM_CHc_CTL c] s t := by
  have hstored : modeWrite c v s = evmStore (Reg.EVM_CHc_CTL c) v s := by
    refine if_neg ?_
    rintro ⟨hfork, hv, hmany⟩
    rcases hallowed with hsingle | hset | hfew
    · rw [hfork] at hsingle
      exact absurd hsingle (by decide)
    · rw [hset] at hv
      exact absurd hv (by decide)
    · omega
  have hcfg := evmStore_configures (Reg.EVM_CHc_CTL c) v s
  rw [← hstored, ← ht] at hcfg
  have hen : fldOf (F.EVM_CHc_CTL_EN c) v = v.toNat % 2 := congrArg (· % 2) (Nat.div_one v.toNat)
  exact ⟨hcfg.get (mode_fits c) rfl, (hcfg.get (en_fits c) rfl).trans hen, hcfg.cfg, hcfg.firings, hcfg.noLog, hcfg.keeps⟩

/-! ## Delivery (R236 to R238, R244) -/

theorem chCnt_fits : ∀ c : Fin 32, fldFits (F.EVM_CHc_CNT_CNT c) = true := by decide +kernel

/-- The last firings taken off and a channel counted, before its sink acts. -/
def chFired (c : Fin 32) (s : State) : State := ({ s with evm := { s.evm with firings := [] } } : State).inc (F.EVM_CHc_CNT_CNT c)

theorem chFired_keeps (c : Fin 32) (s : State) : Keeps [Reg.EVM_CHc_CNT c] s (chFired c s) :=
  ((Keeps.refl _ s).congr rfl rfl rfl).inc (f := F.EVM_CHc_CNT_CNT c) 1 (.head _)

theorem chFired_cnt (c : Fin 32) (s : State) :
    (chFired c s).get (F.EVM_CHc_CNT_CNT c) = satInc (F.EVM_CHc_CNT_CNT c).width (s.get (F.EVM_CHc_CNT_CNT c)) 1 :=
  State.get_inc_same (chCnt_fits c) _ 1

theorem sinkAct_evo (i : Fin 8) (s : State) : sinkAct (120 + i.val) s = evoSink i s := by
  unfold sinkAct
  iterate 7 rw [if_neg (by omega)]
  rw [Nat.add_sub_cancel_left, Fin.ofNat_val_eq_self]

/-- One firing that is due, of one channel with one output: the channel is counted and the output's sink acts. -/
theorem eventDelivery_of_one {i : Fin 8} {f : Firing} (hfirings : s.evm.firings = [f]) (hdue : f.cycle + 3 ≤ s.clk.time.toNat)
    (hchans : f.chans = BitVec.ofNat 32 (2 ^ c.val)) (hsinks : f.sinks = BitVec.ofNat 128 (2 ^ (120 + i.val))) :
    eventDelivery s = evoSink i (chFired c s) := by
  have hevo : bitsOf f.sinks = [120 + i.val] := by rw [hsinks, bitsOf_two_pow (by omega)]
  have hchan : bitsOf f.chans = [c.val] := by rw [hchans, bitsOf_two_pow c.isLt]
  have hnotRail : ¬ 120 + i.val < 104 := by omega
  unfold eventDelivery
  simp only [hfirings, Nat.not_lt.mpr hdue, if_false]
  simp [hevo, hchan, hnotRail, sinkAct_evo, chFired]

theorem evoUpd_same (i : Fin 8) (g : Evo → Evo) (s : State) : (evoUpd i g s).evm.evo[i] = g s.evm.evo[i] := updAt_same _ _ _

theorem evoSink_of_toggle {i : Fin 8} (h : s.evm.evo[i].toggle = true) : evoSink i s = evoUpd i (fun e => { e with level := !e.level }) s := if_pos h

theorem evoSink_of_pulse {i : Fin 8} (h : s.evm.evo[i].toggle = false) (hwidth : s.get F.EVM_EVOCTL_WIDTH ≠ 0) :
    evoSink i s = (evoUpd i (fun e => { e with level := true, width := s.get F.EVM_EVOCTL_WIDTH }) s).restart (s.get F.EVM_EVOCTL_WIDTH * 10)
      (.evoPulseEnd i) := by
  unfold evoSink zeroAsOne
  rw [h, if_neg hwidth]
  rfl

/-- In TOGGLE mode the delivery inverts the output. -/
theorem eventDelivery_toggles {i : Fin 8} {f : Firing} (hfirings : s.evm.firings = [f]) (hdue : f.cycle + 3 ≤ s.clk.time.toNat)
    (hchans : f.chans = BitVec.ofNat 32 (2 ^ c.val)) (hsinks : f.sinks = BitVec.ofNat 128 (2 ^ (120 + i.val))) (hmode : s.evm.evo[i].toggle = true)
    (ht : t = eventDelivery s) :
    t.evm.firings = [] ∧ t.evm.evo[i].level = !s.evm.evo[i].level ∧
      t.get (F.EVM_CHc_CNT_CNT c) = satInc (F.EVM_CHc_CNT_CNT c).width (s.get (F.EVM_CHc_CNT_CNT c)) 1 ∧
      t.timers = s.timers ∧ NoLog s t ∧ Keeps [Reg.EVM_CHc_CNT c] s t := by
  rw [eventDelivery_of_one hfirings hdue hchans hsinks, evoSink_of_toggle (s := chFired c s) hmode] at ht
  subst ht
  exact ⟨rfl, congrArg Evo.level (evoUpd_same i _ (chFired c s)), chFired_cnt c s, rfl, rfl, (chFired_keeps c s).congr rfl rfl rfl⟩

/-- In PULSE mode the delivery starts the pulse, or starts it afresh. -/
theorem eventDelivery_pulses {i : Fin 8} {f : Firing} (hfirings : s.evm.firings = [f]) (hdue : f.cycle + 3 ≤ s.clk.time.toNat)
    (hchans : f.chans = BitVec.ofNat 32 (2 ^ c.val)) (hsinks : f.sinks = BitVec.ofNat 128 (2 ^ (120 + i.val))) (hmode : s.evm.evo[i].toggle = false)
    (hwidth : s.get F.EVM_EVOCTL_WIDTH ≠ 0) (ht : t = eventDelivery s) :
    t.evm.firings = [] ∧ t.evm.evo[i].level = true ∧ (s.clk.ns + 10 * s.get F.EVM_EVOCTL_WIDTH, .evoPulseEnd i) ∈ t.timers ∧ NoLog s t ∧
      Keeps [Reg.EVM_CHc_CNT c] s t := by
  have hapart : ∀ c : Fin 32, F.EVM_EVOCTL_WIDTH.addr ∉ [Reg.EVM_CHc_CNT c] := by decide
  have hget : (chFired c s).get F.EVM_EVOCTL_WIDTH = s.get F.EVM_EVOCTL_WIDTH := (chFired_keeps c s).get (hapart c)
  rw [eventDelivery_of_one hfirings hdue hchans hsinks, evoSink_of_pulse (s := chFired c s) hmode (hget ▸ hwidth), hget, Nat.mul_comm] at ht
  subst ht
  exact ⟨rfl, congrArg Evo.level (evoUpd_same i _ (chFired c s)), List.mem_append_right _ (.head _), rfl, (chFired_keeps c s).congr rfl rfl rfl⟩

theorem evoEnd_lowers {i : Fin 8} (hmode : s.evm.evo[i].toggle = false) (ht : t = evoEnd i s) :
    t.evm.evo[i].level = false ∧ t.evm.firings = s.evm.firings ∧ t.regs = s.regs ∧ NoLog s t ∧ SameMem s t := by
  have hlow : evoEnd i s = evoUpd i (fun e => { e with level := false }) s := if_neg (by rw [hmode]; decide)
  rw [hlow] at ht
  subst ht
  exact ⟨congrArg Evo.level (evoUpd_same i _ s), rfl, rfl, rfl, .of_eq rfl rfl⟩

/-! ## Software triggers (R245) -/

theorem swTrig_records {ticket : Byte} {arg : BitVec 16} (hfresh : Fresh Reg.EVM_ACT ticket s) (ht : t = s.act Reg.EVM_ACT ticket arg 1 (swTrig arg)) :
    t.evm.sw = s.evm.sw ++ [arg.extractLsb' 0 8] ∧ t.evm.firings = s.evm.firings ∧ t.rd Reg.EVM_ACT = ticket ++ (arg &&& 0xff) ++ (1 : Byte) ∧
      NoLog s t ∧ Keeps [Reg.EVM_ACT] s t := by
  have hfull : implMask Reg.EVM_ACT = BitVec.allOnes 32 := by decide +kernel
  rw [State.act_fresh _ _ _ _ _ _ hfresh] at ht
  subst ht
  refine ⟨rfl, rfl, ?_, rfl, ((Keeps.refl _ s).congr rfl rfl rfl).wr _ (.head _)⟩
  rw [State.rd_wr_same, hfull, BitVec.and_allOnes]
  rfl

/-- Settles O23, command by command: a delivery by the mode of its output, a configuration write by the mode and the sinks of its channel. -/
theorem eventMatrix : Obligations.EventMatrix := by
  unfold Obligations.EventMatrix
  refine ⟨fun s c i f hfirings hdue hchans hsinks hmode => ⟨_, rfl, eventDelivery_toggles hfirings hdue hchans hsinks hmode rfl⟩,
    fun s c i f hfirings hdue hchans hsinks hmode hwidth => ⟨_, rfl, eventDelivery_pulses hfirings hdue hchans hsinks hmode hwidth rfl⟩,
    fun s c j value hfork => ⟨_, congrArg Host.Outcome.next (sinkWrite_of_fork hfork value), ?_⟩,
    fun s c j i hsingle hnone => ⟨_, rfl, sinkWrite_enables hsingle hnone i rfl⟩,
    fun s c j i k hsingle hik hone => ⟨_, rfl, sinkWrite_refuses hsingle hik hone rfl⟩,
    fun s c value hfork hv hmany => ⟨_, rfl, modeWrite_refuses hfork hv hmany rfl⟩,
    fun s c value hallowed => ⟨_, rfl, modeWrite_stores hallowed rfl⟩,
    fun s i hmode => ⟨_, rfl, evoEnd_lowers hmode rfl⟩,
    fun s ticket arg hfresh => ⟨_, rfl, swTrig_records hfresh rfl⟩⟩
  have hcfg := evmStore_configures (Reg.EVM_CHc_SNKj c j) value s
  exact ⟨hcfg.rd_snk, hcfg.cfg, hcfg.firings, hcfg.noLog, hcfg.keeps⟩

end Sys2Proof.Machine
end

section
/-!
PROOFS. The state at reset (R249, R282, R287).
-/
namespace Sys2Proof.Machine

/-- Settles O2: the maps are empty at reset, and the cores hold root, null and the boot trap entry. -/
theorem resetInvariants : Obligations.ResetInvariants :=
  ⟨(mapsOk_iff_canon _).mpr .reset, rfl, by decide +kernel, rfl⟩

end Sys2Proof.Machine
end

section
/-!
PROOFS. Instructions of the Trio at an ordinary boundary: the fetch leaves the cores alone, and each kind of answer ends as R253, R269 and R298 say.
-/
namespace Sys2Proof.Machine

variable {s t u : State}

/-! ## The fetch -/

/-- What a read of memory leaves alone as it meets errors: the Trio, and the fields outside the ECC registers (R334). -/
structure EccOnly (s t : State) : Prop where
  trio : t.trio = s.trio
  get : ∀ f : Fld, f.addr ≠ Reg.LCS_ECC → f.addr ≠ Reg.LCS_ECCADDR → t.get f = s.get f

theorem EccOnly.refl (s : State) : EccOnly s s := ⟨rfl, fun _ _ _ => rfl⟩

theorem EccOnly.trans (h : EccOnly s t) (k : EccOnly t u) : EccOnly s u :=
  ⟨k.trio.trans h.trio, fun f he ha => (k.get f he ha).trans (h.get f he ha)⟩

theorem EccOnly.of_eq (htrio : t.trio = s.trio) (hregs : t.regs = s.regs) : EccOnly s t :=
  ⟨htrio, fun f _ _ => by rw [State.get_regs, hregs, ← State.get_regs]⟩

theorem logLimited_eccOnly (s : State) (key block code : Nat) (data : List Byte) : EccOnly s (s.logLimited key block code data) := by
  unfold State.logLimited
  split
  · exact .of_eq rfl rfl
  · split <;> exact .of_eq rfl rfl

/-- An error's count and address: what both kinds of error store (R334). -/
theorem eccCounted_eccOnly {f : Fld} (hf : f.addr = Reg.LCS_ECC) (a : Nat) (s : State) : EccOnly s ((s.inc f).put F.LCS_ECCADDR_ADDR a) :=
  ⟨rfl, fun g hecc haddr =>
    (State.get_put_ne _ _ _ _ haddr).trans (congrArg (fldOf g) (State.rd_hw_ne _ _ _ _ (by rw [hf]; exact hecc)))⟩

theorem eccCe_eccOnly (a : Nat) (s : State) : EccOnly s (eccCe a s) := (eccCounted_eccOnly rfl _ s).trans (logLimited_eccOnly _ _ _ _ _)

theorem eccUe_eccOnly (a reader : Nat) (s : State) : EccOnly s (eccUe a reader s) := (eccCounted_eccOnly rfl _ s).trans (.of_eq rfl rfl)

theorem eccFix_eccOnly (a n : Nat) (s : State) : EccOnly s (eccFix a n s) :=
  State.each_rel EccOnly .refl (fun _ _ _ => .trans) _ (fun w t => setSoft w false (eccCe w t))
    (fun w u => (eccCe_eccOnly w u).trans (.of_eq rfl rfl)) s

theorem memRead_eccOnly (n a : Nat) (s : State) : EccOnly s (memRead n a s).1 := by
  unfold memRead
  dsimp only
  split
  case h_2 => split <;> exact .of_eq rfl rfl
  case h_5 =>
    split
    · exact .refl s
    · split
      · exact (eccFix_eccOnly a n s).trans (eccUe_eccOnly _ _ _)
      · exact eccFix_eccOnly a n s
  all_goals exact .refl s

theorem fetched_eccOnly (s : State) : EccOnly s (fetched s) := by
  have hread := memRead_eccOnly 4 s.trio.core.pc.toNat s
  unfold fetched fetchFault
  dsimp only
  split
  · exact .refl s
  · split
    · exact .refl s
    · split
      · next hrun => rwa [hrun] at hread
      · next hrun => rwa [hrun] at hread

@[simp] theorem fetched_trio (s : State) : (fetched s).trio = s.trio := (fetched_eccOnly s).trio

theorem fetched_trioActive (s : State) : trioActive (fetched s) = trioActive s := by
  simp only [trioActive, trioSpeed, fetched_trio, (fetched_eccOnly s).get F.SYS_SPEED_TRIO (by decide) (by decide)]

/-! ## The answer of an instruction -/

/-- With room in the undo log no checkpoint is taken at the boundary (R314). -/
theorem highWater_of_room (h : s.trio.undo.length ≤ 32000) : highWater s = s := by
  have hroom : decide (32256 - s.trio.undo.length < 64) = false := decide_eq_false (by omega)
  simp only [highWater, hroom, Bool.and_false, Bool.false_eq_true, if_false]

/-- At an ordinary boundary an instruction is its own effect on the fetched state. -/
theorem instr_of_boundary (hb : Boundary s) (body : State → Res) : instr body s = .next (highWater (settleRes (body (fetched s)))) := by
  obtain ⟨hactive, hirq, hfetch, -⟩ := hb
  have hpair : fetchFault s = (fetched s, none) := Prod.ext rfl hfetch
  unfold instr
  simp only [hactive, hirq, hpair, Bool.not_true, Bool.false_eq_true, if_false]

/-- An update of the cores depends on the cores as they stand alone. -/
theorem coreUpd_congr {f g : Core → Core} (h : f s.trio.core = g s.trio.core) : coreUpd f s = coreUpd g s := by
  simp only [coreUpd, trioUpd, h]

section
variable {body : State → Res} {f g : Core → Core}

theorem Jumps.congr (h : Jumps f s t) (hfg : f s.trio.core = g s.trio.core) : Jumps g s t :=
  h.trans (coreUpd_congr (by rw [fetched_trio, hfg]))

theorem Completes.congr (h : Completes f s t) (hfg : f s.trio.core = g s.trio.core) : Completes g s t :=
  Jumps.congr h (by rw [hfg])

/-- An instruction whose effect settles as an update of the cores is that update of the fetched state. -/
theorem jumps_of_settled (hb : Boundary s) (hset : settleRes (body (fetched s)) = coreUpd f (fetched s)) :
    ∃ t, instr body s = .next t ∧ Jumps f s t := by
  have hundo : (coreUpd f (fetched s)).trio.undo = s.trio.undo := by rw [← fetched_trio s]; rfl
  obtain ⟨-, -, -, hroom⟩ := id hb
  exact ⟨_, by rw [instr_of_boundary hb, hset, highWater_of_room (by rwa [hundo])], rfl⟩

/-- The cores still execute after an update of the cores on the fetched state. -/
theorem trioActive_coreUpd_fetched (hb : Boundary s) (f : Core → Core) : trioActive (coreUpd f (fetched s)) = true :=
  (fetched_trioActive s).trans hb.left

/-- An instruction that updates the cores, but not the PC, and completes (R269). -/
theorem completes_of_done (hb : Boundary s) (hpc : ∀ c, (f c).pc = c.pc)
    (hbody : ∀ u : State, u.trio = s.trio → body u = .done (coreUpd f u) id) : ∃ t, instr body s = .next t ∧ Completes f s t := by
  refine jumps_of_settled hb ?_
  rw [hbody _ (fetched_trio s), settleRes, if_pos (trioActive_coreUpd_fetched hb f)]
  simp only [id, coreUpd, trioUpd, hpc]

/-- An instruction without an effect of its own that completes. -/
theorem completes_id (hb : Boundary s) (hbody : ∀ u : State, u.trio = s.trio → body u = .done u id) :
    ∃ t, instr body s = .next t ∧ Completes id s t :=
  completes_of_done hb (fun _ => rfl) hbody

/-- A control transfer that ends no loop level. -/
theorem jumps_of_goto {pc : Word} (hb : Boundary s) (hbody : ∀ u : State, u.trio = s.trio → body u = .goto pc (coreUpd f u)) :
    ∃ t, instr body s = .next t ∧ Jumps (fun c => { f c with pc := pc }) s t := by
  refine jumps_of_settled hb ?_
  rw [hbody _ (fetched_trio s), settleRes, if_pos (trioActive_coreUpd_fetched hb f)]
  rfl

/-- A taken branch (R270). -/
theorem jumps_of_branch {pc : Word} (hb : Boundary s) (hbody : ∀ u : State, u.trio = s.trio → body u = .branch pc u) :
    ∃ t, instr body s = .next t ∧ Jumps (fun c => { endLevels pc 3 c with pc := pc }) s t := by
  refine jumps_of_settled hb ?_
  rw [hbody _ (fetched_trio s)]
  exact if_pos (trioActive_coreUpd_fetched hb id)

/-- A count-zero loop completes at the end of its body (R268). -/
theorem jumps_of_skip {last : Word} (hb : Boundary s) (hbody : ∀ u : State, u.trio = s.trio → body u = .skip last u) :
    ∃ t, instr body s = .next t ∧ Jumps (fun c => loopBack last 3 c) s t := by
  refine jumps_of_settled hb ?_
  rw [hbody _ (fetched_trio s)]
  exact if_pos (trioActive_coreUpd_fetched hb id)

/-- A trap that is no double trap (R298). -/
theorem trapped_of_trap {cause : Nat} {tval : Word} {cap : Option Nat} (hb : Boundary s) (hcan : CanTrap s)
    (hbody : ∀ u : State, u.trio = s.trio → body u = .trap cause tval cap u) :
    ∃ t, instr body s = .next t ∧ Trapped cause tval cap s t := by
  obtain ⟨hout, htvec⟩ := hcan
  refine jumps_of_settled hb ?_
  rw [hbody _ (fetched_trio s), settleRes, takeTrap]
  simp only [fetched_trio, hout, htvec, Bool.not_true, Bool.false_eq_true, if_false]
  rfl

end

/-! ## Writes of one register -/

theorem setReg_pc (c : Core) (k : Nat) (v : Word) : (c.setReg k v).pc = c.pc := by
  unfold Core.setReg
  split
  · rfl
  · split
    · rfl
    · split <;> rfl

theorem setCap_pc (c : Core) (n : Nat) (v : Cap) : (c.setCap n v).pc = c.pc := by
  unfold Core.setCap
  split <;> rfl

/-- An instruction that writes one integer register and completes. -/
theorem completes_writeReg {body : State → Res} {k : Nat} {v : Core → Word} (hb : Boundary s)
    (hbody : ∀ u : State, u.trio = s.trio → body u = writeReg k (v u.trio.core) u) :
    ∃ t, instr body s = .next t ∧ Completes (fun c => c.setReg k (v c)) s t :=
  completes_of_done hb (fun c => setReg_pc c k _) hbody

/-- An instruction that writes one capability register and completes. -/
theorem completes_writeCap {body : State → Res} {w : Word} {v : Core → Cap} (hb : Boundary s)
    (hbody : ∀ u : State, u.trio = s.trio → body u = writeCap w (v u.trio.core) u) :
    ∃ t, instr body s = .next t ∧ Completes (fun c => c.setCap (fCd w) (v c)) s t :=
  completes_of_done hb (fun c => setCap_pc c _ _) hbody

end Sys2Proof.Machine
end

section
/-!
PROOFS. The register and immediate instructions: their functions as R258 to R260 give them, and their completion.
-/
namespace Sys2Proof.Machine

variable {s t : State}

/-! ## The functions of R258 and R259 -/

theorem sltW_eq (a b : Word) : sltW a b = if a.slt b then 1 else 0 := by simp [sltW, boolWord, BitVec.slt]

theorem sltuW_eq (a b : Word) : sltuW a b = if a.ult b then 1 else 0 := by simp [sltuW, boolWord, BitVec.ult]

theorem minW_eq (a b : Word) : minW a b = BitVec.ofInt 32 (min a.toInt b.toInt) := by
  unfold minW
  split
  · rw [min_eq_left (by omega), BitVec.ofInt_toInt]
  · rw [min_eq_right (by omega), BitVec.ofInt_toInt]

theorem maxW_eq (a b : Word) : maxW a b = BitVec.ofInt 32 (max a.toInt b.toInt) := by
  unfold maxW
  split
  · rw [max_eq_right (by omega), BitVec.ofInt_toInt]
  · rw [max_eq_left (by omega), BitVec.ofInt_toInt]

theorem minuW_eq (a b : Word) : minuW a b = BitVec.ofNat 32 (min a.toNat b.toNat) := by
  unfold minuW
  split
  · rw [min_eq_left (by omega), BitVec.ofNat_toNat, BitVec.setWidth_eq]
  · rw [min_eq_right (by omega), BitVec.ofNat_toNat, BitVec.setWidth_eq]

theorem maxuW_eq (a b : Word) : maxuW a b = BitVec.ofNat 32 (max a.toNat b.toNat) := by
  unfold maxuW
  split
  · rw [max_eq_right (by omega), BitVec.ofNat_toNat, BitVec.setWidth_eq]
  · rw [max_eq_left (by omega), BitVec.ofNat_toNat, BitVec.setWidth_eq]

theorem sraW_eq (a : Word) (n : Nat) : sraW a n = BitVec.ofInt 32 (a.toInt.fdiv (2 ^ n)) := by
  rw [sraW, BitVec.sshiftRight, Int.shiftRight_eq_div_pow, Int.fdiv_eq_ediv_of_nonneg _ (by positivity)]
  norm_cast

/-- A clamp chooses a limit or the number itself. -/
theorem clampInt_eq {lo hi : Int} (h : lo ≤ hi) (x : Int) : clampInt x lo hi = if x < lo then lo else if hi < x then hi else x := by
  unfold clampInt
  split
  · omega
  · split <;> omega

theorem satW_eq (a : Word) (n : Nat) :
    satW a n = BitVec.ofInt 32 (if a.toInt < -(2 ^ n) then -(2 ^ n) else if 2 ^ n - 1 < a.toInt then 2 ^ n - 1 else a.toInt) := by
  have hpos : (0 : Int) < 2 ^ n := by positivity
  rw [satW, clampInt_eq (by omega)]

theorem mulW_eq (a b : Word) : mulW a b = BitVec.ofInt 32 (a.toInt * b.toInt) := by
  rw [BitVec.ofInt_mul, BitVec.ofInt_toInt, BitVec.ofInt_toInt]
  rfl

/-- The upper half of a 64-bit number is its quotient by 2^32, rounded down. -/
theorem extractLsb'_high_ofInt (x : Int) : (BitVec.ofInt 64 x).extractLsb' 32 32 = BitVec.ofInt 32 (x.fdiv (2 ^ 32)) := by
  rw [Int.fdiv_eq_ediv_of_nonneg _ (by decide)]
  refine BitVec.eq_of_toNat_eq ?_
  rw [BitVec.extractLsb'_toNat, BitVec.toNat_ofInt, BitVec.toNat_ofInt, Nat.shiftRight_eq_div_pow]
  omega

theorem mulhW_eq (a b : Word) : mulhW a b = (a.signExtend 64 * b.signExtend 64).extractLsb' 32 32 := by
  rw [mulhW, ← extractLsb'_high_ofInt, BitVec.ofInt_mul]
  rfl

theorem mulhuW_eq (a b : Word) : mulhuW a b = (a.zeroExtend 64 * b.zeroExtend 64).extractLsb' 32 32 := by
  have hlt : a.toNat * b.toNat < 2 ^ 64 := by have := Nat.mul_lt_mul'' a.isLt b.isLt; omega
  refine BitVec.eq_of_toNat_eq ?_
  simp [mulhuW, Nat.shiftRight_eq_div_pow]
  omega

theorem divW_eq (a b : Word) : divW a b = if b = 0 then 0xFFFFFFFF else a.sdiv b := by
  unfold divW
  split
  · rfl
  · refine BitVec.eq_of_toInt_eq ?_
    rw [BitVec.toInt_ofInt, BitVec.toInt_sdiv]

theorem divuW_eq (a b : Word) : divuW a b = if b = 0 then 0xFFFFFFFF else a.udiv b := by
  unfold divuW
  split
  · rfl
  · rw [← BitVec.toNat_udiv, BitVec.ofNat_toNat, BitVec.setWidth_eq]
    rfl

theorem remW_eq (a b : Word) : remW a b = if b = 0 then a else a.srem b := by
  unfold remW
  split
  · rfl
  · rw [← BitVec.toInt_srem, BitVec.ofInt_toInt]

theorem remuW_eq (a b : Word) : remuW a b = if b = 0 then a else a.umod b := by
  unfold remuW
  split
  · rfl
  · rw [← BitVec.toNat_umod, BitVec.ofNat_toNat, BitVec.setWidth_eq]
    rfl

/-- LUI's immediate is the upper half of the word. -/
theorem fImmZ_shift (w : Word) : fImmZ w <<< 16 = w.extractLsb' 0 16 ++ (0 : BitVec 16) := by
  refine BitVec.eq_of_getLsbD_eq fun i hi => ?_
  rw [BitVec.getLsbD_shiftLeft, BitVec.getLsbD_append]
  by_cases hlow : i < 16
  · simp [hlow]
  · simp [fImmZ, hlow, hi]
    omega

/-! ## Completion -/

/-- A register instruction of rs1 and rs2 that computes `f`. -/
theorem aluR_completes {op : Word → Word → Word} (f : Word → Word → Word) (hop : ∀ a b, op a b = f a b) {w : Word} (hb : Boundary s) :
    ∃ t, instr (aluR op w) s = .next t ∧ Completes (fun c => c.setReg (fRd w) (f (c.reg (fRs1 w)) (c.reg (fRs2 w)))) s t :=
  completes_writeReg hb fun u _ => congrArg (writeReg (fRd w) · u) (hop _ _)

/-- A shift by a register: by its five low bits. -/
theorem shift_completes {op : Word → Nat → Word} (f : Word → Nat → Word) (hop : ∀ a n, op a n = f a n) {w : Word} (hb : Boundary s) :
    ∃ t, instr (fun u => aluN op (shAmt w u) w u) s = .next t ∧
      Completes (fun c => c.setReg (fRd w) (f (c.reg (fRs1 w)) ((c.reg (fRs2 w)).toNat % 32))) s t :=
  completes_writeReg hb fun u _ => congrArg (writeReg (fRd w) · u) (hop _ _)

/-- A register instruction of rs1 and an amount in the word. -/
theorem aluN_completes {op : Word → Nat → Word} (f : Word → Nat → Word) (hop : ∀ a n, op a n = f a n) {n : Nat} {w : Word} (hb : Boundary s) :
    ∃ t, instr (aluN op n w) s = .next t ∧ Completes (fun c => c.setReg (fRd w) (f (c.reg (fRs1 w)) n)) s t :=
  completes_writeReg hb fun u _ => congrArg (writeReg (fRd w) · u) (hop _ _)

/-- An immediate instruction that computes `f`. -/
theorem aluI_completes {op : Word → Word → Word} (f : Word → Word → Word) (hop : ∀ a b, op a b = f a b) {imm w : Word} (hb : Boundary s) :
    ∃ t, instr (aluI op imm w) s = .next t ∧ Completes (fun c => c.setReg (fRd w) (f (c.reg (fRs1 w)) imm)) s t :=
  completes_writeReg hb fun u _ => congrArg (writeReg (fRd w) · u) (hop _ _)

/-- Settles O25: each instruction writes rd with its function, which is the one that R258 and R259 state. -/
theorem registerAlu : Obligations.RegisterAlu := by
  unfold Obligations.RegisterAlu
  exact ⟨fun _ _ hb => aluR_completes (· + ·) (fun _ _ => rfl) hb, fun _ _ hb => aluR_completes (· - ·) (fun _ _ => rfl) hb,
    fun _ _ hb => aluR_completes (· &&& ·) (fun _ _ => rfl) hb, fun _ _ hb => aluR_completes (· ||| ·) (fun _ _ => rfl) hb,
    fun _ _ hb => aluR_completes (· ^^^ ·) (fun _ _ => rfl) hb, fun _ _ hb => shift_completes (· <<< ·) (fun _ _ => rfl) hb,
    fun _ _ hb => shift_completes (· >>> ·) (fun _ _ => rfl) hb, fun _ _ hb => shift_completes _ sraW_eq hb,
    fun _ _ hb => aluR_completes _ sltW_eq hb, fun _ _ hb => aluR_completes _ sltuW_eq hb, fun _ _ hb => aluR_completes _ minW_eq hb,
    fun _ _ hb => aluR_completes _ maxW_eq hb, fun _ _ hb => aluR_completes _ minuW_eq hb, fun _ _ hb => aluR_completes _ maxuW_eq hb,
    fun _ _ hb => aluN_completes (· <<< ·) (fun _ _ => rfl) hb, fun _ _ hb => aluN_completes (· >>> ·) (fun _ _ => rfl) hb,
    fun _ _ hb => aluN_completes _ sraW_eq hb, fun _ _ hb => aluN_completes _ satW_eq hb,
    fun _ _ hb => aluR_completes _ mulW_eq hb, fun _ _ hb => aluR_completes _ mulhW_eq hb,
    fun _ _ hb => aluR_completes _ mulhuW_eq hb, fun _ _ hb => completes_writeReg hb fun _ _ => rfl,
    fun _ _ hb => completes_writeReg hb fun _ _ => rfl, fun _ _ hb => aluR_completes _ divW_eq hb,
    fun _ _ hb => aluR_completes _ divuW_eq hb, fun _ _ hb => aluR_completes _ remW_eq hb, fun _ _ hb => aluR_completes _ remuW_eq hb⟩

/-- Settles O26: each instruction writes rd with its function of rs1 and the immediate. -/
theorem immediateAlu : Obligations.ImmediateAlu := by
  unfold Obligations.ImmediateAlu
  exact ⟨fun _ _ hb => aluI_completes (· + ·) (fun _ _ => rfl) hb, fun _ _ hb => aluI_completes (· &&& ·) (fun _ _ => rfl) hb,
    fun _ _ hb => aluI_completes (· ||| ·) (fun _ _ => rfl) hb, fun _ _ hb => aluI_completes (· ^^^ ·) (fun _ _ => rfl) hb,
    fun _ _ hb => aluI_completes _ sltW_eq hb, fun _ _ hb => aluI_completes _ sltuW_eq hb,
    fun _ w hb => completes_writeReg hb fun u _ => congrArg (writeReg (fRd w) · u) (fImmZ_shift w)⟩

/-! ## Division by zero and the overflow -/

/-- A completing write of a register whose value is known is the write of that value. -/
theorem Completes.setReg_value {k : Nat} {v : Core → Word} {x : Word} (h : Completes (fun c => c.setReg k (v c)) s t) (hv : v s.trio.core = x) :
    Completes (fun c => c.setReg k x) s t :=
  h.congr (by rw [hv])

/-- Settles O58: by 0 the quotient is all ones and the remainder the dividend; the overflowing division wraps and leaves no remainder. -/
theorem divisionByZero : Obligations.DivisionByZero := by
  unfold Obligations.DivisionByZero
  have hdiv := fun (s : State) (w : Word) (hb : Boundary s) => aluR_completes _ divW_eq (w := w) hb
  have hrem := fun (s : State) (w : Word) (hb : Boundary s) => aluR_completes _ remW_eq (w := w) hb
  refine ⟨fun s w hb hzero => ?_, fun s w hb hzero => ?_, fun s w hb hzero => ?_, fun s w hb hzero => ?_, fun s w hb hmin hneg => ?_,
    fun s w hb hmin hneg => ?_⟩
  · obtain ⟨t, hrun, ht⟩ := hdiv s w hb
    exact ⟨t, hrun, ht.setReg_value (if_pos hzero)⟩
  · obtain ⟨t, hrun, ht⟩ := aluR_completes _ divuW_eq (w := w) hb
    exact ⟨t, hrun, ht.setReg_value (if_pos hzero)⟩
  · obtain ⟨t, hrun, ht⟩ := hrem s w hb
    exact ⟨t, hrun, ht.congr (congrArg _ (if_pos hzero))⟩
  · obtain ⟨t, hrun, ht⟩ := aluR_completes _ remuW_eq (w := w) hb
    exact ⟨t, hrun, ht.congr (congrArg _ (if_pos hzero))⟩
  · obtain ⟨t, hrun, ht⟩ := hdiv s w hb
    exact ⟨t, hrun, ht.setReg_value (by rw [hmin, hneg]; decide)⟩
  · obtain ⟨t, hrun, ht⟩ := hrem s w hb
    exact ⟨t, hrun, ht.setReg_value (by rw [hmin, hneg]; decide)⟩

end Sys2Proof.Machine
end

section
/-!
PROOFS. Control transfer: branches and jumps, and hardware loops (R264, R268 to R270).
-/
namespace Sys2Proof.Machine

variable {s t : State}

/-! ## Branches and jumps -/

/-- Word offsets count four bytes each. -/
theorem shiftLeft_two (x : Word) : x <<< 2 = x * 4 := by
  rw [BitVec.shiftLeft_eq_mul_twoPow]
  rfl

theorem fOff16_eq (w : Word) : fOff16 w = (w.extractLsb' 0 16).signExtend 32 * 4 := shiftLeft_two _
theorem fOff26_eq (w : Word) : fOff26 w = (w.extractLsb' 0 26).signExtend 32 * 4 := shiftLeft_two _
theorem fEnd_eq (w : Word) : fEnd w = (w.extractLsb' 0 16).zeroExtend 32 * 4 := shiftLeft_two _

/-- A target off a word boundary, in its two low bits. -/
theorem extractLsb'_two_ne_zero (x : Word) : x.extractLsb' 0 2 ≠ 0 ↔ x.toNat % 4 ≠ 0 := by
  rw [ne_eq, ne_eq, ← BitVec.toNat_inj, BitVec.extractLsb'_toNat]
  rfl

/-- A conditional branch goes to its target where the condition holds, and completes where it does not. -/
theorem condBranch_does {cond : Word → Word → Bool} {P : Word → Word → Prop} (hcond : ∀ a b, cond a b = true ↔ P a b) {w : Word} (hb : Boundary s) :
    ∃ t, instr (condBranch cond w) s = .next t ∧
      (P (s.trio.core.reg (fRd w)) (s.trio.core.reg (fRs1 w)) →
        Jumps (fun c => { endLevels (s.trio.core.pc + (w.extractLsb' 0 16).signExtend 32 * 4) 3 c with
          pc := s.trio.core.pc + (w.extractLsb' 0 16).signExtend 32 * 4 }) s t) ∧
      (¬ P (s.trio.core.reg (fRd w)) (s.trio.core.reg (fRs1 w)) → Completes id s t) := by
  have hbody : ∀ u : State, u.trio = s.trio → condBranch cond w u =
      if cond (s.trio.core.reg (fRd w)) (s.trio.core.reg (fRs1 w)) then .branch (s.trio.core.pc + fOff16 w) u else .done u id :=
    fun u hu => by rw [← hu]; rfl
  rw [← hcond, ← fOff16_eq]
  by_cases h : cond (s.trio.core.reg (fRd w)) (s.trio.core.reg (fRs1 w)) = true
  · obtain ⟨t, hrun, ht⟩ := jumps_of_branch hb fun u hu => (hbody u hu).trans (if_pos h)
    exact ⟨t, hrun, fun _ => ht, fun hn => absurd h hn⟩
  · obtain ⟨t, hrun, ht⟩ := completes_id hb fun u hu => (hbody u hu).trans (if_neg h)
    exact ⟨t, hrun, fun hp => absurd hp h, fun _ => ht⟩

/-- Settles O30: the six conditions are cases of one conditional branch. -/
theorem branches : Obligations.Branches := by
  unfold Obligations.Branches
  refine ⟨fun s w hb => condBranch_does (fun _ _ => beq_iff_eq) hb, fun s w hb => condBranch_does (fun _ _ => bne_iff_ne) hb,
    fun s w hb => condBranch_does (P := fun a b => a.toInt < b.toInt) (fun _ _ => decide_eq_true_iff) hb,
    fun s w hb => condBranch_does (P := fun a b => b.toInt ≤ a.toInt) (fun _ _ => decide_eq_true_iff) hb,
    fun s w hb => condBranch_does (P := fun a b => a.toNat < b.toNat) (fun _ _ => decide_eq_true_iff) hb,
    fun s w hb => condBranch_does (P := fun a b => b.toNat ≤ a.toNat) (fun _ _ => decide_eq_true_iff) hb,
    fun s w hb => ?j, fun s w hb => ?call, fun s w hb haligned => ?jmpl, fun s w hb hcan hoff => ?misaligned⟩
  case j =>
    rw [← fOff26_eq]
    exact jumps_of_branch hb fun u hu => by rw [← hu]; rfl
  case call =>
    rw [← fOff26_eq]
    exact jumps_of_goto hb fun u hu => by rw [← hu]; rfl
  case jmpl =>
    refine jumps_of_goto hb fun u hu => ?_
    rw [← hu] at haligned ⊢
    exact if_neg fun h => (extractLsb'_two_ne_zero _).mp h haligned
  case misaligned =>
    refine trapped_of_trap hb hcan fun u hu => ?_
    rw [← hu] at hoff ⊢
    exact if_pos ((extractLsb'_two_ne_zero _).mpr hoff)

/-! ## Hardware loops -/

/-- LOOPI's count is ten bits of the word (R257). -/
theorem fCount10_eq (w : Word) : fCount10 w = w.toNat / 65536 % 1024 := by
  rw [fCount10, BitVec.extractLsb'_toNat, Nat.shiftRight_eq_div_pow]

theorem setReg_loops (c : Core) (k : Nat) (v : Word) : (c.setReg k v).lsa = c.lsa ∧ (c.setReg k v).lea = c.lea ∧ (c.setReg k v).lct = c.lct ∧
    (c.setReg k v).depth = c.depth := by
  unfold Core.setReg
  split
  · exact ⟨rfl, rfl, rfl, rfl⟩
  · split
    · exact ⟨rfl, rfl, rfl, rfl⟩
    · split <;> exact ⟨rfl, rfl, rfl, rfl⟩

/-- A loop with levels free and a count pushes a level and goes on at its body (R268). -/
theorem loopStart_pushes {count w : Word} {body : State → Res} (hb : Boundary s) (hbody : ∀ u : State, u.trio = s.trio → body u = loopStart count w u)
    (hfree : s.trio.core.depth ≠ 3) (hcount : count ≠ 0) :
    ∃ t, instr body s = .next t ∧ Jumps (fun c => { c with
      lsa := updAt c.lsa (Fin.ofNat 3 c.depth.toNat) (fun _ => c.pc + 4),
      lea := updAt c.lea (Fin.ofNat 3 c.depth.toNat) (fun _ => c.pc + (w.extractLsb' 0 16).zeroExtend 32 * 4),
      lct := updAt c.lct (Fin.ofNat 3 c.depth.toNat) (fun _ => count), depth := c.depth + 1, pc := c.pc + 4 }) s t := by
  rw [← fEnd_eq]
  obtain ⟨t, hrun, ht⟩ := jumps_of_goto (body := body) (pc := s.trio.core.pc + 4) (f := fun x => { x with
      lsa := updAt x.lsa (Fin.ofNat 3 s.trio.core.depth.toNat) (fun _ => x.pc + 4),
      lea := updAt x.lea (Fin.ofNat 3 s.trio.core.depth.toNat) (fun _ => s.trio.core.pc + fEnd w),
      lct := updAt x.lct (Fin.ofNat 3 s.trio.core.depth.toNat) (fun _ => count), depth := x.depth + 1 }) hb fun u hu => by
    rw [hbody u hu, ← hu, loopStart, if_neg (by rwa [hu]), if_neg hcount]
  exact ⟨t, hrun, ht.congr rfl⟩

section
variable {c : Core} {a : Word}

/-- Outside every level the loop-back evaluation goes on at the next word (R269). -/
theorem loopBack_of_empty (hdepth : c.depth = 0) (n : Nat) : loopBack a n c = { c with pc := a + 4 } := by
  cases n with
  | zero => rfl
  | succ n => rw [loopBack, if_pos (Or.inl hdepth)]

/-- A level's count taken down, with another iteration to come; and its last iteration over, the level around it the innermost (R269). -/
def levelAgain (l : Fin 3) (c : Core) : Core := { c with lct := updAt c.lct l (fun _ => c.lct[l] - 1), pc := c.lsa[l] }
def levelOver (l : Fin 3) (c : Core) : Core := { c with lct := updAt c.lct l (fun _ => 0), depth := c.depth - 1 }

theorem levelAgain_lct (l j : Fin 3) (c : Core) : (levelAgain l c).lct[j] = if j = l then c.lct[l] - 1 else c.lct[j] := updAt_get _ _ _ _
theorem levelOver_lct (l j : Fin 3) (c : Core) : (levelOver l c).lct[j] = if j = l then 0 else c.lct[j] := updAt_get _ _ _ _
theorem levelOver_depth (l : Fin 3) (c : Core) : (levelOver l c).depth = c.depth - 1 := rfl

/-- At the end of the innermost level with an iteration left: back to its start (R269). -/
theorem loopBack_of_more {n : Nat} {l : Fin 3} (hl : Fin.ofNat 3 (c.depth.toNat - 1) = l) (hdepth : c.depth ≠ 0) (hend : c.lea[l] = a)
    (hmore : c.lct[l] ≠ 1) : loopBack a (n + 1) c = levelAgain l c := by
  subst hl
  rw [loopBack, if_neg (not_or.mpr ⟨hdepth, not_not.mpr hend⟩), if_pos (sub_ne_zero.mpr hmore)]
  rfl

/-- At the end of the innermost level's last iteration: out of it, to the level around it (R269). -/
theorem loopBack_of_last {n : Nat} {l : Fin 3} (hl : Fin.ofNat 3 (c.depth.toNat - 1) = l) (hdepth : c.depth ≠ 0) (hend : c.lea[l] = a)
    (hlast : c.lct[l] = 1) : loopBack a (n + 1) c = loopBack a n (levelOver l c) := by
  subst hl
  have hzero : c.lct[Fin.ofNat 3 (c.depth.toNat - 1)] - 1 = 0 := sub_eq_zero.mpr hlast
  rw [loopBack, if_neg (not_or.mpr ⟨hdepth, not_not.mpr hend⟩), if_neg (not_not.mpr hzero), hzero]
  rfl

end

/-- ADDI leaves the loop registers to the loop-back evaluation of its address. -/
theorem addi_loops (hb : Boundary s) (w : Word) : ∃ t c, exec (.addi w) s = .next t ∧ t.trio.core = loopBack s.trio.core.pc 3 c ∧
    c.lsa = s.trio.core.lsa ∧ c.lea = s.trio.core.lea ∧ c.lct = s.trio.core.lct ∧ c.depth = s.trio.core.depth := by
  obtain ⟨t, hrun, ht⟩ := aluI_completes (op := (· + ·)) (· + ·) (fun _ _ => rfl) (imm := fImmS w) (w := w) hb
  obtain ⟨hlsa, hlea, hlct, hdepth⟩ := setReg_loops s.trio.core (fRd w) (s.trio.core.reg (fRs1 w) + fImmS w)
  refine ⟨t, _, hrun, ?_, hlsa, hlea, hlct, hdepth⟩
  rw [show t = _ from ht]
  simp only [coreUpd, trioUpd, fetched_trio]

/-- Settles O31: entry by the push of a level, and each case of the loop-back evaluation. -/
theorem hardwareLoops : Obligations.HardwareLoops := by
  unfold Obligations.HardwareLoops
  refine ⟨fun s w hb hfree hcount => loopStart_pushes hb (fun u _ => ?loopi) hfree hcount,
    fun s w hb hfree hcount => loopStart_pushes hb (fun u hu => ?loop) hfree hcount, fun s w hb hfree hzero => ?zero,
    fun s w hb hcan hfull => ?full, fun s w hb hdepth hend hmore => ?more, fun s w hb hdepth hend hlast => ?last,
    fun s w hb hdepth hend0 hend1 hlast hmore => ?outer⟩
  case loopi => rw [← fCount10_eq]
  case loop => rw [← hu]; rfl
  case zero =>
    rw [← fEnd_eq]
    obtain ⟨t, hrun, ht⟩ := jumps_of_skip (body := fun t => loopStart (reg (fRd w) t) w t) (last := s.trio.core.pc + fEnd w) hb fun u hu => by
      rw [loopStart, if_neg (by rwa [hu]), if_pos (by rwa [reg, hu]), hu]
    exact ⟨t, hrun, ht.congr rfl⟩
  case full =>
    rw [← fCount10_eq]
    exact trapped_of_trap hb hcan fun u hu => if_pos (by rwa [hu])
  case more =>
    obtain ⟨t, c, hrun, hcore, hlsa, hlea, hlct, hd⟩ := addi_loops hb w
    rw [loopBack_of_more (l := 0) (by rw [hd, hdepth]; rfl) (by rw [hd, hdepth]; decide) (by rwa [hlea]) (by rwa [hlct])] at hcore
    refine ⟨t, hrun, ?_⟩
    dsimp only
    rw [hcore, levelAgain_lct, if_pos rfl, ← hlsa, ← hlea, ← hlct, ← hdepth, ← hd]
    exact ⟨rfl, rfl, rfl, rfl, rfl⟩
  case last =>
    obtain ⟨t, c, hrun, hcore, hlsa, hlea, hlct, hd⟩ := addi_loops hb w
    have hout : (levelOver 0 c).depth = 0 := by rw [levelOver_depth, hd, hdepth]; rfl
    rw [loopBack_of_last (l := 0) (by rw [hd, hdepth]; rfl) (by rw [hd, hdepth]; decide) (by rwa [hlea]) (by rwa [hlct]),
      loopBack_of_empty hout] at hcore
    refine ⟨t, hrun, ?_⟩
    dsimp only
    rw [hcore]
    exact ⟨rfl, (levelOver_lct 0 0 c).trans (if_pos rfl), hout⟩
  case outer =>
    obtain ⟨t, c, hrun, hcore, hlsa, hlea, hlct, hd⟩ := addi_loops hb w
    have hout : (levelOver 1 c).depth = 1 := by rw [levelOver_depth, hd, hdepth]; rfl
    have hlct0 : (levelOver 1 c).lct[(0 : Fin 3)] = s.trio.core.lct[(0 : Fin 3)] := by rw [levelOver_lct, if_neg (by decide), hlct]
    rw [loopBack_of_last (l := 1) (by rw [hd, hdepth]; rfl) (by rw [hd, hdepth]; decide) (by rwa [hlea]) (by rwa [hlct]),
      loopBack_of_more (l := 0) (by rw [hout]; rfl) (by rw [hout]; decide) (by rw [← hend0, ← hlea]; rfl) (by rwa [hlct0])] at hcore
    refine ⟨t, hrun, ?_⟩
    dsimp only
    rw [hcore, levelAgain_lct, levelAgain_lct, if_pos rfl, if_neg (by decide), hlct0, levelOver_lct, if_pos rfl, ← hlsa]
    exact ⟨rfl, rfl, rfl, hout⟩

end Sys2Proof.Machine
end

section
/-!
PROOFS. The checks of data accesses and their traps (R288 to R290, R298, R330).
-/
namespace Sys2Proof.Machine

variable {s u : State}

/-! ## The order of the checks -/

section
variable {c : Cap} {perms : List Nat} {a n : Nat}

theorem capFault_of_untagged (h : c.tag = false) : capFault c perms a n = some 0x05 := by simp [capFault, h]

theorem capFault_of_sealed (h : c.tag = true) (hs : c.isSealed = true) : capFault c perms a n = some 0x08 := by simp [capFault, h, hs]

theorem capFault_of_missing (h : c.tag = true) (hs : c.isSealed = false) (hp : perms.all (fun p => c.has p) = false) :
    capFault c perms a n = some 0x07 := by
  simp [capFault, h, hs, hp]

theorem capFault_of_outside (h : c.tag = true) (hs : c.isSealed = false) (hp : perms.all (fun p => c.has p) = true)
    (hout : c.covers a n = false) : capFault c perms a n = some 0x06 := by
  simp [capFault, h, hs, hp, hout]

theorem capFault_of_pass (h : c.tag = true) (hs : c.isSealed = false) (hp : perms.all (fun p => c.has p) = true)
    (hin : c.covers a n = true) : capFault c perms a n = none := by
  simp [capFault, h, hs, hp, hin]

end

/-- The capability's own check comes before alignment. -/
theorem dataFault_of_cap {cN : Nat} {perms : List Nat} {a n align cause : Nat} (h : capFault (s.trio.core.cap cN) perms a n = some cause) :
    dataFault cN perms a n align s = some cause := by
  rw [dataFault, h]

theorem dataFault_of_misaligned {cN : Nat} {perms : List Nat} {a n align : Nat} (h : capFault (s.trio.core.cap cN) perms a n = none)
    (hoff : a % align ≠ 0) : dataFault cN perms a n align s = some 0x09 := by
  rw [dataFault, h]
  exact if_pos hoff

/-! ## The traps -/

theorem effAddr_congr (h : u.trio = s.trio) (w : Word) : effAddr w u = effAddr w s := by rw [effAddr, reg, h]; rfl

theorem dataFault_congr (h : u.trio = s.trio) (cN : Nat) (perms : List Nat) (a n align : Nat) :
    dataFault cN perms a n align u = dataFault cN perms a n align s := by
  rw [dataFault, h]
  rfl

section
variable {w : Word} {n cause : Nat}

/-- A load whose checks fail traps with the cause and names its capability register. -/
theorem load_of_fault {conv : Nat → Word} (h : u.trio = s.trio) (hf : dataFault (fCN w) [pLOAD] (effAddr w s) n n s = some cause) :
    load n conv w u = .trap cause (BitVec.ofNat 32 (effAddr w s)) (some (fCN w)) u := by
  simp only [load, effAddr_congr h, dataFault_congr h, hf]

theorem storeReg_of_fault (h : u.trio = s.trio) (hf : dataFault (fCN w) [pSTORE] (effAddr w s) n n s = some cause) :
    storeReg n w u = .trap cause (BitVec.ofNat 32 (effAddr w s)) (some (fCN w)) u := by
  simp only [storeReg, effAddr_congr h, dataFault_congr h, hf]

theorem loadCap_of_fault (h : u.trio = s.trio) (hf : dataFault (fCN w) [pLOAD, pLOADCAP] (effAddr w s) 16 16 s = some cause) :
    loadCap w u = .trap cause (BitVec.ofNat 32 (effAddr w s)) (some (fCN w)) u := by
  simp only [loadCap, effAddr_congr h, dataFault_congr h, hf]

/-- A load where no memory answers. -/
theorem load_of_unanswered {conv : Nat → Word} (h : u.trio = s.trio) (hf : dataFault (fCN w) [pLOAD] (effAddr w s) n n s = none)
    (hnone : regionOf (effAddr w s) = none) : load n conv w u = .trap 0x0A (BitVec.ofNat 32 (effAddr w s)) none u := by
  simp only [load, effAddr_congr h, dataFault_congr h, hf, loadBytes, memRead, hnone, reduceCtorEq, if_false]

/-- A store into the boot ROM. -/
theorem storeReg_of_rom (h : u.trio = s.trio) (hf : dataFault (fCN w) [pSTORE] (effAddr w s) n n s = none)
    (hrom : regionOf (effAddr w s) = some .rom) : storeReg n w u = .trap 0x0A (BitVec.ofNat 32 (effAddr w s)) none u := by
  simp [storeReg, effAddr_congr h, dataFault_congr h, hf, storeBytes, memWrite, hrom]

end

/-- Settles O29: each cause by the first check that fails, and the bus error where none does. -/
theorem accessTraps : Obligations.AccessTraps := by
  unfold Obligations.AccessTraps
  refine ⟨fun s w hb hcan htag => trapped_of_trap hb hcan fun u hu => load_of_fault hu (dataFault_of_cap (capFault_of_untagged htag)),
    fun s w hb hcan htag hseal => trapped_of_trap hb hcan fun u hu => storeReg_of_fault hu (dataFault_of_cap (capFault_of_sealed htag hseal)),
    fun s w hb hcan htag hseal hperm => trapped_of_trap hb hcan fun u hu =>
      storeReg_of_fault hu (dataFault_of_cap (capFault_of_missing htag hseal (by simp [hperm]))),
    fun s w hb hcan htag hseal hload hperm => trapped_of_trap hb hcan fun u hu =>
      loadCap_of_fault hu (dataFault_of_cap (capFault_of_missing htag hseal (by simp [hperm]))),
    fun s w hb hcan htag hseal hload hout => trapped_of_trap hb hcan fun u hu =>
      load_of_fault hu (dataFault_of_cap (capFault_of_outside htag hseal (by simp [hload]) ?outside)),
    fun s w hb hcan htag hseal hstore hin hoff => trapped_of_trap hb hcan fun u hu =>
      storeReg_of_fault hu (dataFault_of_misaligned (capFault_of_pass htag hseal (by simp [hstore]) hin) hoff),
    fun s w hb hcan hf hnone => trapped_of_trap hb hcan fun u hu => load_of_unanswered hu hf hnone,
    fun s w hb hcan hf hrom => trapped_of_trap hb hcan fun u hu => storeReg_of_rom hu hf hrom⟩
  case outside =>
    rw [Cap.covers, Bool.and_eq_false_iff, decide_eq_false_iff_not, decide_eq_false_iff_not]
    omega

end Sys2Proof.Machine
end

section
/-!
PROOFS. Capabilities: their fields after each field update (R280 to R282), and what a written capability register reads as.
-/
namespace Sys2Proof.Machine

/-! ## Fields of a capability -/

section
variable (c : Cap)

/-- A replaced field holds the bits of the number; every other bit stays. -/
theorem putBits_bit {lo n : Nat} (h : lo + n ≤ 128) (v i : Nat) :
    (c.putBits lo n v).bits.getLsbD i = if lo ≤ i ∧ i < lo + n then v.testBit (i - lo) else c.bits.getLsbD i := by
  have hmask : (BitVec.ofNat 128 ((2 ^ n - 1) * 2 ^ lo)).getLsbD i = (decide (lo ≤ i) && decide (i < lo + n)) := by
    rw [BitVec.getLsbD_ofNat, Nat.testBit_mul_two_pow, Nat.testBit_two_pow_sub_one]
    by_cases hlo : lo ≤ i <;> by_cases hhi : i < lo + n <;> simp [hlo, hhi] <;> omega
  simp only [Cap.putBits, BitVec.getLsbD_or, BitVec.getLsbD_and, BitVec.getLsbD_not, hmask]
  rw [BitVec.getLsbD_ofNat, Nat.testBit_mul_two_pow, Nat.testBit_mod_two_pow]
  by_cases hi : i < 128
  · by_cases hlo : lo ≤ i <;> by_cases hhi : i < lo + n <;> simp [hi, hlo, hhi] <;> omega
  · rw [if_neg (by omega), BitVec.getLsbD_of_ge _ _ (by omega)]
    simp [hi]

theorem extractLsb'_putBits_same {lo n : Nat} (h : lo + n ≤ 128) (v : Nat) : (c.putBits lo n v).bits.extractLsb' lo n = BitVec.ofNat n v := by
  refine BitVec.eq_of_getLsbD_eq fun i hi => ?_
  rw [BitVec.getLsbD_extractLsb', putBits_bit c h, if_pos (by omega), BitVec.getLsbD_ofNat, Nat.add_sub_cancel_left]

theorem extractLsb'_putBits_apart {lo n start len : Nat} (h : lo + n ≤ 128) (hd : start + len ≤ lo ∨ lo + n ≤ start) (v : Nat) :
    (c.putBits lo n v).bits.extractLsb' start len = c.bits.extractLsb' start len := by
  refine BitVec.eq_of_getLsbD_eq fun i hi => ?_
  rw [BitVec.getLsbD_extractLsb', BitVec.getLsbD_extractLsb', putBits_bit c h, if_neg (by omega)]

theorem isSealed_putBits_apart {lo n : Nat} (h : lo + n ≤ 96) (v : Nat) : (c.putBits lo n v).isSealed = c.isSealed := by
  rw [Cap.isSealed, putBits_bit c (by omega), if_neg (by omega)]
  rfl

@[simp] theorem setBase_tag (v : Nat) : (c.setBase v).tag = c.tag := rfl
@[simp] theorem setBase_base (v : Nat) : (c.setBase v).base = v % 2 ^ 32 := congrArg BitVec.toNat (extractLsb'_putBits_same c (by decide) v)
@[simp] theorem setBase_len (v : Nat) : (c.setBase v).len = c.len :=
  congrArg BitVec.toNat (extractLsb'_putBits_apart c (by decide) (.inr (by decide)) v)
@[simp] theorem setBase_perm (v : Nat) : (c.setBase v).perm = c.perm := extractLsb'_putBits_apart c (by decide) (.inr (by decide)) v
@[simp] theorem setBase_otype (v : Nat) : (c.setBase v).otype = c.otype :=
  congrArg BitVec.toNat (extractLsb'_putBits_apart c (by decide) (.inr (by decide)) v)
@[simp] theorem setBase_isSealed (v : Nat) : (c.setBase v).isSealed = c.isSealed := isSealed_putBits_apart c (by decide) v

@[simp] theorem setLen_tag (v : Nat) : (c.setLen v).tag = c.tag := rfl
@[simp] theorem setLen_base (v : Nat) : (c.setLen v).base = c.base :=
  congrArg BitVec.toNat (extractLsb'_putBits_apart c (by decide) (.inl (by decide)) v)
@[simp] theorem setLen_len (v : Nat) : (c.setLen v).len = v % 2 ^ 33 := congrArg BitVec.toNat (extractLsb'_putBits_same c (by decide) v)
@[simp] theorem setLen_perm (v : Nat) : (c.setLen v).perm = c.perm := extractLsb'_putBits_apart c (by decide) (.inr (by decide)) v
@[simp] theorem setLen_otype (v : Nat) : (c.setLen v).otype = c.otype :=
  congrArg BitVec.toNat (extractLsb'_putBits_apart c (by decide) (.inr (by decide)) v)
@[simp] theorem setLen_isSealed (v : Nat) : (c.setLen v).isSealed = c.isSealed := isSealed_putBits_apart c (by decide) v

@[simp] theorem setPerm_tag (v : Nat) : (c.setPerm v).tag = c.tag := rfl
@[simp] theorem setPerm_base (v : Nat) : (c.setPerm v).base = c.base :=
  congrArg BitVec.toNat (extractLsb'_putBits_apart c (by decide) (.inl (by decide)) v)
@[simp] theorem setPerm_len (v : Nat) : (c.setPerm v).len = c.len :=
  congrArg BitVec.toNat (extractLsb'_putBits_apart c (by decide) (.inl (by decide)) v)
@[simp] theorem setPerm_perm (v : Nat) : (c.setPerm v).perm = BitVec.ofNat 8 v := extractLsb'_putBits_same c (by decide) v
@[simp] theorem setPerm_otype (v : Nat) : (c.setPerm v).otype = c.otype :=
  congrArg BitVec.toNat (extractLsb'_putBits_apart c (by decide) (.inr (by decide)) v)
@[simp] theorem setPerm_isSealed (v : Nat) : (c.setPerm v).isSealed = c.isSealed := isSealed_putBits_apart c (by decide) v

/-- A seal and its type, set together: SEALED and OTYPE are all that changes. -/
theorem extractLsb'_seal_apart {start len : Nat} (hd : start + len ≤ 80 ∨ 97 ≤ start) (ty b : Nat) :
    ((c.putBits 80 16 ty).putBits 96 1 b).bits.extractLsb' start len = c.bits.extractLsb' start len := by
  rw [extractLsb'_putBits_apart _ (by decide) (by omega), extractLsb'_putBits_apart _ (by decide) (by omega)]

theorem otype_seal (ty b : Nat) : ((c.putBits 80 16 ty).putBits 96 1 b).otype = ty % 65536 :=
  congrArg BitVec.toNat ((extractLsb'_putBits_apart _ (by decide) (.inl (by decide)) b).trans (extractLsb'_putBits_same c (by decide) ty))

theorem isSealed_seal (ty b : Nat) : ((c.putBits 80 16 ty).putBits 96 1 b).isSealed = b.testBit 0 := by
  rw [Cap.isSealed, putBits_bit _ (by decide), if_pos (by decide)]

@[simp] theorem sealed_tag (ty : Nat) : (c.sealed ty).tag = c.tag := rfl
@[simp] theorem sealed_base (ty : Nat) : (c.sealed ty).base = c.base := congrArg BitVec.toNat (extractLsb'_seal_apart c (.inl (by decide)) ty 1)
@[simp] theorem sealed_len (ty : Nat) : (c.sealed ty).len = c.len := congrArg BitVec.toNat (extractLsb'_seal_apart c (.inl (by decide)) ty 1)
@[simp] theorem sealed_perm (ty : Nat) : (c.sealed ty).perm = c.perm := extractLsb'_seal_apart c (.inl (by decide)) ty 1
@[simp] theorem sealed_otype (ty : Nat) : (c.sealed ty).otype = ty % 65536 := otype_seal c ty 1
@[simp] theorem sealed_isSealed (ty : Nat) : (c.sealed ty).isSealed = true := isSealed_seal c ty 1

@[simp] theorem unsealed_tag : c.unsealed.tag = c.tag := rfl
@[simp] theorem unsealed_base : c.unsealed.base = c.base := congrArg BitVec.toNat (extractLsb'_seal_apart c (.inl (by decide)) 0 0)
@[simp] theorem unsealed_len : c.unsealed.len = c.len := congrArg BitVec.toNat (extractLsb'_seal_apart c (.inl (by decide)) 0 0)
@[simp] theorem unsealed_perm : c.unsealed.perm = c.perm := extractLsb'_seal_apart c (.inl (by decide)) 0 0
@[simp] theorem unsealed_otype : c.unsealed.otype = 0 := otype_seal c 0 0
@[simp] theorem unsealed_isSealed : c.unsealed.isSealed = false := isSealed_seal c 0 0

end

/-! ## Capability registers -/

/-- A written capability register reads as what was written, in the trap window too (R297). -/
theorem cap_setCap_same (c : Core) (n : Nat) (v : Cap) : (c.setCap n v).cap n = v := by
  by_cases h : n = 7 ∧ c.intrap = true
  · simp [Core.setCap, Core.cap, h]
  · simp only [Core.setCap, if_neg h, Core.cap]
    exact updAt_same _ _ _

/-- The loop-back evaluation changes nothing but the PC and the loop levels. -/
theorem loopBack_keeps (a : Word) (n : Nat) (c : Core) :
    ∃ lct depth pc, loopBack a n c = { c with lct := lct, depth := depth, pc := pc } := by
  induction n generalizing c with
  | zero => exact ⟨_, _, _, rfl⟩
  | succ n ih =>
    rw [loopBack]
    dsimp only
    split
    · exact ⟨_, _, _, rfl⟩
    · split
      · exact ⟨_, _, _, rfl⟩
      · obtain ⟨lct, depth, pc, hc⟩ := ih _
        exact ⟨lct, depth, pc, hc⟩

theorem cap_loopBack (a : Word) (m : Nat) (c : Core) (n : Nat) : (loopBack a m c).cap n = c.cap n := by
  obtain ⟨lct, depth, pc, hc⟩ := loopBack_keeps a m c
  rw [hc]
  rfl

end Sys2Proof.Machine
end

section
/-!
PROOFS. Capability instructions and protected transfers (R275, R291 to R296, R299).
-/
namespace Sys2Proof.Machine

variable {s : State}

/-- An instruction completes with a capability written, which the register written then shows. -/
def Derives (w : Word) (v : Cap) (s t : State) : Prop :=
  Completes (fun c => c.setCap (fCd w) (t.trio.core.cap (fCd w))) s t ∧ t.trio.core.cap (fCd w) = v

theorem derives_of_writeCap {body : State → Res} {w : Word} {v : Cap} (hb : Boundary s)
    (hbody : ∀ u : State, u.trio = s.trio → body u = writeCap w v u) : ∃ t, instr body s = .next t ∧ Derives w v s t := by
  obtain ⟨t, hrun, ht⟩ := completes_writeCap (v := fun _ => v) hb hbody
  have hcap : t.trio.core.cap (fCd w) = v := by
    rw [show t = _ from ht]
    exact (cap_loopBack _ _ _ _).trans (cap_setCap_same _ _ _)
  exact ⟨t, hrun, by rwa [hcap], hcap⟩

/-- A privileged instruction whose capability carries SYS has its own effect (R273). -/
theorem priv_of_sys {n : Nat} (hsys : SysCap n s) {u : State} (hu : u.trio = s.trio) (w : Word) (body : State → Res) : priv n w body u = body u := by
  obtain ⟨htag, hseal, hperm⟩ := hsys
  simp [priv, hu, htag, hseal, hperm]

/-! ## Results as R275 gives them -/

/-- A length below 2^32 is the length field's low word (R280). -/
theorem length_word (c : Cap) :
    (if c.len = 2 ^ 32 then BitVec.allOnes 32 else BitVec.ofNat 32 c.len) = if c.len = 2 ^ 32 then 0xFFFFFFFF else c.bits.extractLsb' 32 32 := by
  have hlow : BitVec.ofNat 32 c.len = c.bits.extractLsb' 32 32 := by
    refine BitVec.eq_of_toNat_eq ?_
    rw [Cap.len, BitVec.toNat_ofNat, BitVec.extractLsb'_toNat, BitVec.extractLsb'_toNat]
    exact Nat.mod_mod_of_dvd _ (by decide)
  rw [hlow]
  rfl

theorem base_word (c : Cap) : BitVec.ofNat 32 c.base = c.bits.extractLsb' 0 32 := by
  rw [Cap.base, BitVec.ofNat_toNat, BitVec.setWidth_eq]

theorem otype_word (c : Cap) : BitVec.ofNat 32 c.otype = (c.bits.extractLsb' 80 16).zeroExtend 32 := BitVec.ofNat_toNat _ _

theorem tag_word (x y : Bool) : (boolWord x ||| (boolWord y <<< 1)) = BitVec.ofNat 32 ((if x then 1 else 0) + (if y then 2 else 0)) := by
  cases x <;> cases y <;> rfl

/-- Permissions masked with a register's low byte (R291). -/
theorem masked_perm (p : BitVec 8) (v : Word) : BitVec.ofNat 8 (p.toNat &&& v.toNat % 256) = p &&& v.extractLsb' 0 8 := by
  refine BitVec.eq_of_toNat_eq ?_
  rw [BitVec.toNat_ofNat, BitVec.toNat_and, BitVec.extractLsb'_toNat, Nat.shiftRight_zero]
  exact Nat.mod_eq_of_lt (lt_of_le_of_lt Nat.and_le_left p.isLt)

theorem within_word (a b : Cap) : boolWord (within a b) =
    if a.tag ∧ b.tag ∧ b.base ≤ a.base ∧ a.base + a.len ≤ b.base + b.len ∧ a.perm &&& ~~~b.perm = 0 then 1 else 0 := by
  simp [boolWord, within, and_assoc]

/-- A sealing capability whose bounds hold a type (R291). -/
theorem typeIn_of_bounds {n : Nat} {c : Cap} (hlo : c.base ≤ n) (hhi : n < c.base + c.len) : typeIn n c = true := by simp [typeIn, hlo, hhi]

/-- A length field takes a length within another one whole. -/
theorem len_mod {c : Cap} {n : Nat} (h : n ≤ c.len) : n % 2 ^ 33 = n :=
  Nat.mod_eq_of_lt (lt_of_le_of_lt h (c.bits.extractLsb' 32 33).isLt)

/-! ## Checks that pass -/

section
variable {w : Word} {u : State}

theorem trim_of_pass (hu : u.trio = s.trio) (htag : (s.trio.core.cap (fCs1 w)).tag = true) (hseal : (s.trio.core.cap (fCs1 w)).isSealed = false)
    (hle : (s.trio.core.reg (fRs1 w)).toNat ≤ (s.trio.core.cap (fCs1 w)).len) (f : Cap → Nat → Cap) :
    trim f w u = writeCap w (f (s.trio.core.cap (fCs1 w)) (s.trio.core.reg (fRs1 w)).toNat) u := by
  simp [trim, checked, firstFail, cs1, reg, hu, htag, hseal, Nat.not_lt.mpr hle]

end

/-! ## The instructions -/

/-- Settles O34: the reads write one integer register, the derivations one capability register once their checks pass. -/
theorem capabilityInstructions : Obligations.CapabilityInstructions := by
  unfold Obligations.CapabilityInstructions
  refine ⟨fun s w hb => completes_writeCap hb fun _ _ => rfl, fun s w hb => ?base, fun s w hb => ?len,
    fun s w hb => completes_writeReg (v := fun _ => (s.trio.core.cap (fCs1 w)).perm.zeroExtend 32) hb fun u hu => by rw [← hu]; rfl,
    fun s w hb => ?otype, fun s w hb => ?tag, fun s w hb htag hseal hle => ?trimlo, fun s w hb htag hseal hle => ?trimlen,
    fun s w hb htag hseal => ?mask, fun s w hb => completes_writeCap hb fun _ _ => rfl, ?lock, ?unlock, fun s w hb => ?within,
    fun s w hb => completes_writeCap hb fun _ _ => rfl⟩
  case base =>
    rw [← base_word]
    exact completes_writeReg hb fun u hu => by rw [← hu]; rfl
  case len =>
    rw [← length_word]
    exact completes_writeReg hb fun u hu => by rw [← hu]; rfl
  case otype =>
    rw [← otype_word]
    exact completes_writeReg hb fun u hu => by rw [← hu]; rfl
  case tag =>
    rw [← tag_word]
    exact completes_writeReg hb fun u hu => by rw [← hu]; rfl
  case within =>
    rw [← within_word]
    exact completes_writeReg hb fun u hu => by rw [← hu]; rfl
  case trimlo =>
    obtain ⟨t, hrun, ht, hcap⟩ : Does (.atrimlo w) s (Derives w _ s) := derives_of_writeCap hb fun u hu => trim_of_pass hu htag hseal hle _
    refine ⟨t, hrun, ht, ?_⟩
    rw [hcap]
    simpa [htag, hseal] using len_mod (Nat.sub_le _ _)
  case trimlen =>
    obtain ⟨t, hrun, ht, hcap⟩ : Does (.atrimlen w) s (Derives w _ s) := derives_of_writeCap hb fun u hu => trim_of_pass hu htag hseal hle _
    refine ⟨t, hrun, ht, ?_⟩
    rw [hcap]
    simpa [htag, hseal] using len_mod hle
  case mask =>
    obtain ⟨t, hrun, ht, hcap⟩ : Does (.amask w) s (Derives w ((s.trio.core.cap (fCs1 w)).setPerm
        ((s.trio.core.cap (fCs1 w)).perm.toNat &&& (s.trio.core.reg (fRs1 w)).toNat % 256)) s) :=
      derives_of_writeCap hb fun u hu => by simp [checked, firstFail, cs1, reg, hu, htag, hseal]
    refine ⟨t, hrun, ht, ?_⟩
    rw [hcap, setPerm_perm, masked_perm]
    simp [htag, hseal]
  case lock =>
    intro s w hb htag hseal htag2 hseal2 hperm hty hlo hhi
    obtain ⟨t, hrun, ht, hcap⟩ : Does (.alock w) s (Derives w ((s.trio.core.cap (fCs1 w)).sealed ((s.trio.core.reg (fRs1 w)).toNat % 65536)) s) :=
      derives_of_writeCap hb fun u hu => by
        simp [checked, firstFail, cs1, cs2, reg, hu, htag, hseal, htag2, hseal2, hperm, hty, typeIn_of_bounds hlo hhi]
    refine ⟨t, hrun, ht, ?_⟩
    rw [hcap]
    simp [htag]
  case unlock =>
    intro s w hb htag hseal htag2 hseal2 hperm hlo hhi
    obtain ⟨t, hrun, ht, hcap⟩ : Does (.aunlock w) s (Derives w (s.trio.core.cap (fCs1 w)).unsealed s) := derives_of_writeCap hb fun u hu => by
      simp [checked, firstFail, cs1, cs2, hu, htag, hseal, htag2, hseal2, hperm, typeIn_of_bounds hlo hhi]
    refine ⟨t, hrun, ht, ?_⟩
    rw [hcap]
    simp [htag]

/-- Settles O35: a transfer or a write of a special capability whose checks pass, and the first failing check where one fails. -/
theorem protectedTransfers : Obligations.ProtectedTransfers := by
  unfold Obligations.ProtectedTransfers
  refine ⟨fun s w hb htag hseal hexec haligned => ?ajump, fun s w hb hcan htag hseal hexec => ?noExec, ?aenter,
    fun s w hb hsys hnum => ?rdTvec, fun s w hb hsys hnum => ?rdTepcc, fun s w hb hsys hnum => ?wrTvec, fun s w hb hsys hnum => ?wrTepcc,
    fun s w hb hcan hperm => ?noSys, fun s w hb hcan htag hseal hlen => ?trim, fun s w hb hcan htag htag2 hseal => ?lock⟩
  case ajump =>
    have hbits : (s.trio.core.reg (fRs1 w)).extractLsb' 0 2 = 0 := not_not.mp fun h => (extractLsb'_two_ne_zero _).mp h haligned
    exact jumps_of_goto (f := fun c => { c with pcc := s.trio.core.cap (fCs1 w) }) hb fun u hu => by
      simp only [checked, firstFail, cs1, reg, hu, htag, hseal, hexec, hbits, Bool.not_true, Bool.false_eq_true, if_false, ne_eq,
        not_true_eq_false]
  case noExec => exact trapped_of_trap hb hcan fun u hu => by simp [checked, firstFail, cs1, hu, htag, hseal, hexec]
  case aenter =>
    intro s w hb htag htag2 hseal hseal2 heven hpair hexec hexec2
    exact jumps_of_goto (f := fun c => { c.setCap (fCd w) (s.trio.core.cap (fCs2 w)).unsealed with pcc := (s.trio.core.cap (fCs1 w)).unsealed }) hb
      fun u hu => by simp [checked, firstFail, cs1, cs2, hu, htag, htag2, hseal, hseal2, heven, hpair, hexec, hexec2]
  case rdTvec => exact completes_writeCap hb fun u hu => (priv_of_sys hsys hu w _).trans (by simp [reg, hu, hnum])
  case rdTepcc => exact completes_writeCap hb fun u hu => (priv_of_sys hsys hu w _).trans (by simp [reg, hu, hnum])
  case wrTvec =>
    exact completes_of_done hb (fun _ => rfl) fun u hu => (priv_of_sys hsys hu w _).trans (by simp [reg, cs1, hu, hnum])
  case wrTepcc =>
    exact completes_of_done hb (fun _ => rfl) fun u hu => (priv_of_sys hsys hu w _).trans (by simp [reg, cs1, hu, hnum])
  case noSys => exact trapped_of_trap hb hcan fun u hu => by simp [priv, hu, hperm]
  case trim => exact trapped_of_trap hb hcan fun u hu => by simp [trim, checked, firstFail, cs1, reg, hu, htag, hseal, hlen]
  case lock => exact trapped_of_trap hb hcan fun u hu => by simp [checked, firstFail, cs1, cs2, reg, hu, htag, htag2, hseal]

end Sys2Proof.Machine
end

section
/-!
PROOFS. Accesses and fetches that meet memory errors: what R334 counts and logs is missing from the frames of several instructions.
-/
namespace Sys2Proof.Machine

/-- A released Trio in the boot ROM with its memories powered; g1 holds an address of shared SRAM, and o6 of window 0, which holds the top of a
save area there, too. -/
def running : State :=
  let s := (State.reset.put F.SYS_SPEED_TRIO 0).put F.PWR_ON0_ON 0x111
  { s with trio := { run := true, core := { g := #v[0, 0x20000040, 0, 0, 0, 0, 0, 0], win := (Vector.replicate 128 0).set (winIn 1 6) 0x20000040 } } }

/-- A word of shared SRAM holds a single-bit error that no read has met. -/
def softLoad : State := { running with mst := { soft := [(0x20000040, true)] } }

/-- The word that the Trio fetches, in ITCM, holds a single-bit error that no read has met. -/
def softFetch : State :=
  { running with trio := { running.trio with core := { running.trio.core with pc := 0x10000000 } }, mst := { soft := [(0x10000000, true)] } }

/-- The same in the trap window. -/
def softFetchTrapped : State :=
  { softFetch with trio := { softFetch.trio with core := { softFetch.trio.core with intrap := true } } }

/-- Two words of shared SRAM are known to hold uncorrectable errors. -/
def badWords : State := { running with mst := { bad := [(0x20000000, true), (0x20000040, true)] } }

theorem boundary_softLoad : Boundary softLoad := by decide +kernel
theorem boundary_softFetch : Boundary softFetch := by decide +kernel
theorem boundary_softFetchTrapped : Boundary softFetchTrapped := by decide +kernel
theorem boundary_badWords : Boundary badWords := by decide +kernel

/-- The log codes that a command leaves. -/
def logCodes (c : Instr) (s : State) : List Nat :=
  match exec c s with
  | .next t => t.log.reqs.map (fun e => e.code)
  | _ => []

theorem logCodes_of_next {c : Instr} {s t : State} (h : exec c s = .next t) : logCodes c s = t.log.reqs.map (fun e => e.code) := by
  rw [logCodes, h]

/-- Refutes O27: a load that meets a single-bit error counts and logs it (R334), and the clause lets nothing beyond the fetch change. -/
theorem not_loadInstructions : ¬ Obligations.LoadInstructions := by
  unfold Obligations.LoadInstructions
  rintro ⟨hload, -⟩
  obtain ⟨t, hrun, ht⟩ := hload softLoad 0x0001E000#32 boundary_softLoad (by decide +kernel) (by decide +kernel) (by decide +kernel)
    (by decide +kernel)
  have hfetch : (fetched softLoad).log.reqs = [] := by decide +kernel
  have hcodes := logCodes_of_next hrun
  rw [show t.log.reqs = [] from (congrArg (fun u => u.log.reqs) ht).trans hfetch] at hcodes
  exact absurd hcodes (by decide +kernel)

/-- Refutes O28: STC reads the words it replaces into the undo log, and one that holds an uncorrectable error is counted and logged (R316, R334). -/
theorem not_storeInstructions : ¬ Obligations.StoreInstructions := by
  unfold Obligations.StoreInstructions
  rintro ⟨-, -, -, hstc, -⟩
  obtain ⟨t, hrun, -, -, -, -, -, hlog⟩ := hstc badWords 0x0001E000#32 boundary_badWords (by decide +kernel) (by decide +kernel) (by decide +kernel)
  have hcodes := logCodes_of_next hrun
  rw [show t.log.reqs = [] from hlog] at hcodes
  exact absurd hcodes (by decide +kernel)

/-- Refutes O32: WSPILL reads the words it replaces into the undo log, as STC does. -/
theorem not_registerWindows : ¬ Obligations.RegisterWindows := by
  unfold Obligations.RegisterWindows
  rintro ⟨-, -, -, -, hspill, -⟩
  obtain ⟨t, hrun, -, -, -, -, hlog⟩ := hspill badWords 0x00E0E000#32 boundary_badWords (by decide +kernel) (by decide +kernel) (by decide +kernel)
    (by decide +kernel) (by decide +kernel)
  have hcodes := logCodes_of_next hrun
  rw [show t.log.reqs = [] from hlog] at hcodes
  exact absurd hcodes (by decide +kernel)

/-- Refutes O33: a fetch that meets a single-bit error counts and logs it (R334), and the clause on CKPT lets no log request be made. -/
theorem not_systemInstructions : ¬ Obligations.SystemInstructions := by
  unfold Obligations.SystemInstructions
  rintro ⟨-, -, -, -, -, -, -, -, -, -, -, -, hckpt⟩
  obtain ⟨t, hrun, -, -, -, -, hlog, -⟩ := hckpt softFetch 0x0000E000#32 boundary_softFetch (by decide +kernel)
  have hcodes := logCodes_of_next hrun
  rw [show t.log.reqs = [] from hlog] at hcodes
  exact absurd hcodes (by decide +kernel)

/-- Refutes O36: the fetch of an instruction that traps in the trap window logs the single-bit error it meets before the two entries of the
double trap. -/
theorem not_illegalWords : ¬ Obligations.IllegalWords := by
  unfold Obligations.IllegalWords
  rintro ⟨-, -, -, hdouble, -⟩
  obtain ⟨t, hrun, -, -, -, -, hlog, -⟩ := hdouble softFetchTrapped 0 boundary_softFetchTrapped rfl (by decide +kernel) (by decide +kernel)
  have hcodes := logCodes_of_next hrun
  rw [hlog] at hcodes
  exact absurd hcodes (by decide +kernel)

end Sys2Proof.Machine
end

section
/-!
PROOFS. What keeps a capability well-formed (R282), and what keeps every capability of the cores well-formed and g0 = 0 (R249).
-/
namespace Sys2Proof.Machine

/-! ## Well-formed capabilities (R282) -/

section
variable {c : Cap}

theorem wf_iff : c.wf = true ↔ (c.tag = true → c.base + c.len ≤ 2 ^ 32 ∧ c.bits.extractLsb' 65 7 = 0 ∧ c.bits.extractLsb' 97 31 = 0 ∧
    (c.otype = 0 ↔ c.isSealed = false)) := by
  unfold Cap.wf
  cases c.tag
  · simp
  · cases c.isSealed <;> simp [and_assoc]

theorem wf_untagged {c : Cap} (h : c.tag = false) : c.wf = true := wf_iff.mpr fun ht => by simp [h] at ht

/-- A change of base and length alone keeps the conditions, where the new bounds stay within 2^32. -/
theorem wf_setLen (h : c.wf = true) {v : Nat} (hv : v ≤ c.len) : (c.setLen v).wf = true :=
  wf_iff.mpr fun ht => by
    obtain ⟨hb, h1, h2, ho⟩ := wf_iff.mp h ht
    refine ⟨?_, (extractLsb'_putBits_apart c (by decide) (.inr (by decide)) v).trans h1,
      (extractLsb'_putBits_apart c (by decide) (.inr (by decide)) v).trans h2, by simpa using ho⟩
    rw [setLen_base, setLen_len, len_mod hv]
    omega

theorem wf_trimLo (h : c.wf = true) {v : Nat} (hv : v ≤ c.len) : ((c.setBase (c.base + v)).setLen (c.len - v)).wf = true :=
  wf_iff.mpr fun ht => by
    obtain ⟨hb, h1, h2, ho⟩ := wf_iff.mp h ht
    have hlen : ∀ start n, 65 ≤ start → ((c.setBase (c.base + v)).setLen (c.len - v)).bits.extractLsb' start n = c.bits.extractLsb' start n :=
      fun start n hs => (extractLsb'_putBits_apart (c.setBase (c.base + v)) (by decide) (.inr (by omega)) _).trans
        (extractLsb'_putBits_apart c (by decide) (.inr (by omega)) _)
    refine ⟨?_, (hlen _ _ (by decide)).trans h1, (hlen _ _ (by decide)).trans h2, by simpa using ho⟩
    rw [setLen_base, setLen_len, setBase_base, len_mod (Nat.sub_le c.len v)]
    have := Nat.mod_le (c.base + v) (2 ^ 32)
    omega

theorem wf_setPerm (h : c.wf = true) (v : Nat) : (c.setPerm v).wf = true :=
  wf_iff.mpr fun ht => by
    obtain ⟨hb, h1, h2, ho⟩ := wf_iff.mp h ht
    exact ⟨by simpa using hb, (extractLsb'_putBits_apart c (by decide) (.inl (by decide)) v).trans h1,
      (extractLsb'_putBits_apart c (by decide) (.inr (by decide)) v).trans h2, by simpa using ho⟩

/-- Sealing with a type other than 0. -/
theorem wf_sealed (h : c.wf = true) {ty : Nat} (hty : ty % 65536 ≠ 0) : (c.sealed ty).wf = true :=
  wf_iff.mpr fun ht => by
    obtain ⟨hb, h1, h2, -⟩ := wf_iff.mp h ht
    exact ⟨by simpa using hb, (extractLsb'_seal_apart c (.inl (by decide)) ty 1).trans h1,
      (extractLsb'_seal_apart c (.inr (by decide)) ty 1).trans h2, by simpa using hty⟩

theorem wf_unsealed (h : c.wf = true) : c.unsealed.wf = true :=
  wf_iff.mpr fun ht => by
    obtain ⟨hb, h1, h2, -⟩ := wf_iff.mp h ht
    exact ⟨by simpa using hb, (extractLsb'_seal_apart c (.inl (by decide)) 0 0).trans h1,
      (extractLsb'_seal_apart c (.inr (by decide)) 0 0).trans h2, by simp⟩

end

/-! ## The capabilities and g0 of the cores -/

/-- Every capability of the cores is well-formed, and g0 holds 0. -/
structure CoreOk (c : Core) : Prop where
  regs : ∀ n : Fin 8, c.c[n].wf = true
  tc7 : c.tc7.wf = true
  pcc : c.pcc.wf = true
  tepcc : c.tepcc.wf = true
  tvec : c.tvec.wf = true
  g0 : c.g[(0 : Fin 8)] = 0

namespace CoreOk

variable {c : Core}

theorem reset : CoreOk {} := ⟨by decide, by decide, by decide, by decide, by decide, by decide⟩

/-- A change of anything but the capabilities and the global registers. -/
theorem upd {win tw pc cwp old wen tcause tepc tval ie intrap lsa lea lct depth} (h : CoreOk c) :
    CoreOk ⟨c.g, win, tw, c.c, c.tc7, c.pcc, c.tepcc, c.tvec, pc, cwp, old, wen, tcause, tepc, tval, ie, intrap, lsa, lea, lct, depth⟩ :=
  ⟨h.regs, h.tc7, h.pcc, h.tepcc, h.tvec, h.g0⟩

theorem cap (h : CoreOk c) (n : Nat) : (c.cap n).wf = true := by
  unfold Core.cap
  split
  · exact h.tc7
  · exact h.regs _

theorem setCap (h : CoreOk c) (n : Nat) {v : Cap} (hv : v.wf = true) : CoreOk (c.setCap n v) := by
  unfold Core.setCap
  split
  · exact ⟨h.regs, hv, h.pcc, h.tepcc, h.tvec, h.g0⟩
  · refine ⟨fun k => ?_, h.tc7, h.pcc, h.tepcc, h.tvec, h.g0⟩
    rw [updAt_get]
    split
    · exact hv
    · exact h.regs k

theorem setPcc (h : CoreOk c) {v : Cap} (hv : v.wf = true) : CoreOk { c with pcc := v } := ⟨h.regs, h.tc7, hv, h.tepcc, h.tvec, h.g0⟩

theorem setTepcc (h : CoreOk c) {v : Cap} (hv : v.wf = true) : CoreOk { c with tepcc := v } := ⟨h.regs, h.tc7, h.pcc, hv, h.tvec, h.g0⟩

theorem setTvec (h : CoreOk c) {v : Cap} (hv : v.wf = true) : CoreOk { c with tvec := v } := ⟨h.regs, h.tc7, h.pcc, h.tepcc, hv, h.g0⟩

/-- A write of a general register: g0 is never written (R249). -/
theorem setReg (h : CoreOk c) (k : Nat) (v : Word) : CoreOk (c.setReg k v) := by
  unfold Core.setReg
  split
  · exact h
  next hk =>
    split
    next hlt =>
      refine ⟨h.regs, h.tc7, h.pcc, h.tepcc, h.tvec, ?_⟩
      have hne : (0 : Fin 8) ≠ Fin.ofNat 8 k := fun e => hk (by simpa [Nat.mod_eq_of_lt hlt] using (congrArg Fin.val e).symm)
      rw [updAt_get, if_neg hne]
      exact h.g0
    · split
      · exact h.upd
      · exact h.upd

/-- A write of a special register: none holds a capability (R274). -/
theorem setSr (h : CoreOk c) (sr : Nat) (v : Word) : CoreOk (c.setSr sr v) := by
  unfold Core.setSr
  split
  · exact h.upd
  · exact h.upd
  · exact h.upd
  · exact h.upd
  · exact h.upd
  · exact h.upd
  · exact h.upd
  · split
    · exact h.upd
    · exact h.upd
    · exact h.upd
    · exact h

theorem loopBack (h : CoreOk c) (a : Word) (n : Nat) : CoreOk (loopBack a n c) := by
  obtain ⟨lct, depth, pc, e⟩ := loopBack_keeps a n c
  exact e ▸ h.upd

theorem endLevels (h : CoreOk c) (t : Word) (n : Nat) : CoreOk (endLevels t n c) := by
  induction n generalizing c with
  | zero => exact h
  | succ n ih =>
    dsimp only [Machine.endLevels]
    split
    · exact h
    · exact ih h.upd

/-- Entry to a trap: the saved PCC is the old one, the new one TVEC unsealed (R298, R299). -/
theorem enterTrap (h : CoreOk c) {tcause tval : Word} : CoreOk { c with
    tcause := tcause, tval := tval, tepc := c.pc, tepcc := c.pcc, intrap := true, pcc := c.tvec.unsealed, pc := BitVec.ofNat 32 c.tvec.base } :=
  ⟨h.regs, h.tc7, wf_unsealed h.tvec, h.pcc, h.tvec, h.g0⟩

end CoreOk

end Sys2Proof.Machine
end

section
/-!
PROOFS. What the operations that an instruction of the Trio can reach leave of the cores: the capabilities well-formed and g0 = 0. An operation
leaves the cores alone, or resets them, or takes a trap. One lemma per operation, in the order of the model's files.
-/
namespace Sys2Proof.Machine

/-- In a state, every capability of the cores is well-formed and g0 holds 0. -/
structure Caps (s : State) : Prop where
  core : CoreOk s.trio.core

namespace Caps

variable {s : State}

/-! ### Control flow and updates of other fields -/

theorem of_core {t : State} (h : Caps s) (e : t.trio.core = s.trio.core) : Caps t := ⟨e ▸ h.core⟩

theorem ite {c : Prop} {_ : Decidable c} {t : State} (h : Caps s) (k : Caps t) : Caps (if c then s else t) := by
  split <;> assumption

theorem dite {c : Prop} {_ : Decidable c} {f : c → State} {g : ¬c → State} (h : ∀ {x}, Caps (f x)) (k : ∀ {x}, Caps (g x)) :
    Caps (if x : c then f x else g x) := by
  split
  · exact h
  · exact k

theorem iteApply {c : Prop} {_ : Decidable c} {f g : State → State} (h : Caps (f s)) (k : Caps (g s)) : Caps ((if c then f else g) s) := by
  split <;> assumption

theorem iteFst {α : Type} {c : Prop} {_ : Decidable c} {p q : State × α} (h : Caps p.1) (k : Caps q.1) : Caps (if c then p else q).1 := by
  split <;> assumption

theorem foldl {α : Type} {l : List α} {f : State → α → State} (h : Caps s) (hf : ∀ {t x}, Caps t → Caps (f t x)) :
    Caps (l.foldl f s) := by
  induction l generalizing s with
  | nil => exact h
  | cons x l ih => exact ih (hf h)

theorem eqFst {α : Type} {p : State × α} {t : State} {x : α} (h : Caps p.1) (e : p = (t, x)) : Caps t := by
  subst e; exact h

/-- An update of anything but the Trio. -/
theorem upd {regs live shadow touch pending timers free rdata busErr clk dom acu sync cu evm log gath mem lop out phase mrv prot edge par ring apr mst}
    {boot lim mbx hif tw avs usb pwr mot mlane fb cap tap} (h : Caps s) :
    Caps ⟨regs, live, shadow, touch, pending, timers, free, rdata, busErr, clk, dom, acu, sync, cu, evm, log, gath, mem, lop, out, phase,
      mrv, prot, edge, par, ring, apr, s.trio, mst, boot, lim, mbx, hif, tw, avs, usb, pwr, mot, mlane, fb, cap, tap⟩ :=
  ⟨h.core⟩

/-! ### Machine/Ops.lean -/

theorem wr {a : Nat} {w : Word} (h : Caps s) : Caps (s.wr a w) := h.upd
theorem hw {a : Nat} {op : Word → Word} (h : Caps s) : Caps (s.hw a op) := h.wr.upd
theorem put {f : Fld} {v : Nat} (h : Caps s) : Caps (s.put f v) := h.hw
theorem putI {f : Fld} {v : Int} (h : Caps s) : Caps (s.putI f v) := h.put
theorem putB {f : Fld} {b : Bool} (h : Caps s) : Caps (s.putB f b) := h.put
theorem inc {f : Fld} {k : Nat} (h : Caps s) : Caps (s.inc f k) := h.hw
theorem setBit {f : Fld} {i : Nat} (h : Caps s) : Caps (s.setBit f i) := h.hw
theorem putBit {f : Fld} {i : Nat} {b : Bool} (h : Caps s) : Caps (s.putBit f i b) := .ite h.setBit h.hw
theorem showPend {r : Nat} (h : Caps s) : Caps (s.showPend r) := h.putB
theorem store {a : Nat} {w : Word} (h : Caps s) : Caps (s.store a w) := h.wr.foldl fun h => h.upd.showPend
theorem act {a : Nat} {ticket : Byte} {arg : BitVec 16} {action : Byte} {perform : State → State} (h : Caps s)
    (hperform : ∀ {t}, Caps t → Caps (perform t)) : Caps (s.act a ticket arg action perform) :=
  .ite h (hperform h).wr
theorem after {ns : Nat} {c : Instr} (h : Caps s) : Caps (s.after ns c) := h.upd
theorem cancel {c : Instr} (h : Caps s) : Caps (s.cancel c) := h.upd
theorem restart {ns : Nat} {c : Instr} (h : Caps s) : Caps (s.restart ns c) := h.cancel.after
theorem logReq {block code : Nat} {data : List Byte} (h : Caps s) : Caps (s.logReq block code data) := h.upd
theorem fire {src : Nat} (h : Caps s) : Caps (s.fire src) := .ite h.inc h.upd
theorem draw (h : Caps s) : Caps s.draw := h.upd
theorem each {α : Type} {l : List α} {f : α → State → State} (h : Caps s) (hf : ∀ {x t}, Caps t → Caps (f x t)) :
    Caps (s.each l f) :=
  h.foldl hf
theorem when {c : Bool} {f : State → State} (h : Caps s) (hf : ∀ {t}, Caps t → Caps (f t)) : Caps (s.when c f) := .ite (hf h) h
theorem setByte {a : Nat} {b : Byte} (h : Caps s) : Caps (s.setByte a b) := h.upd
theorem setBytes {a : Nat} {l : List Byte} (h : Caps s) : Caps (s.setBytes a l) := by
  induction l generalizing s a with
  | nil => exact h
  | cons b l ih => exact ih h.setByte

/-! ### Machine/Attn.lean -/

theorem twUpd {n : Fin 2} {f : TwPort → TwPort} (h : Caps s) : Caps (twUpd n f s) := h.upd
theorem attnKick {n : Fin 2} (h : Caps s) : Caps (attnKick n s) := by
  dsimp only [Machine.attnKick]
  split
  · exact .ite h.restart h
  · exact h.twUpd
  · exact h
theorem twCause {n : Fin 2} {bit : Nat} (h : Caps s) : Caps (twCause n bit s) := .ite h (.ite h.setBit h.setBit.attnKick)
theorem railAttn {r : Fin 4} (h : Caps s) : Caps (railAttn r s) := h.twCause.twCause.each fun h => .ite h.put h

/-! ### Machine/LongOp.lean -/

theorem postWrite {a : Nat} {d : List Byte} (h : Caps s) : Caps (s.postWrite a d) := .ite h h.upd
theorem msixSend {v : Nat} (h : Caps s) : Caps (s.msixSend v) := h.postWrite.upd
theorem sendVector {v : Nat} (h : Caps s) : Caps (s.sendVector v) := .ite h (.ite h.upd h.msixSend)
theorem msixLate {v : Nat} (h : Caps s) : Caps (s.msixLate v) := .ite h.upd.msixSend h
theorem msixWrite {i : Nat} {w : Word} (h : Caps s) : Caps (s.msixWrite i w) := h.upd.msixLate
theorem lopUpd {k : Fin 5} {f : LongOp → LongOp} (h : Caps s) : Caps (s.lopUpd k f) := h.upd
theorem lopMirror {k : Fin 5} {lo hi : Word} (h : Caps s) : Caps (lopMirror k lo hi s) := .ite h.wr.wr (.ite h.wr.wr (.ite h.wr.wr h))
theorem lopWord {k : Fin 5} {state count progress : Nat} (h : Caps s) : Caps (lopWord k state count progress s) := by
  dsimp only [Machine.lopWord]
  split
  · exact h.wr.wr.lopMirror.postWrite
  · exact h.wr.wr.lopMirror
theorem lopStatus {k : Fin 5} {state count : Nat} (h : Caps s) : Caps (lopStatus k state count s) := h.lopWord
theorem lopStart {k : Fin 5} {host : Option LopHost} {planned : Nat} (h : Caps s) : Caps (lopStart k host planned s) :=
  (h.when fun h => h.restart).lopUpd.lopWord
theorem lopEnd {k : Fin 5} {state : Nat} (h : Caps s) : Caps (lopEnd k state s) := by
  dsimp only [Machine.lopEnd]
  refine .lopUpd (.cancel ?_)
  split
  · split
    · exact h.lopStatus.logReq.sendVector
    · exact h.lopStatus.logReq
  · exact h.lopStatus.logReq

/-! ### Machine/Mem.lean -/

theorem logLimited {key block code : Nat} {data : List Byte} (h : Caps s) : Caps (s.logLimited key block code data) := by
  dsimp only [State.logLimited]
  split
  · exact h.upd.logReq
  · exact .ite h.upd.logReq h
theorem setTag {a : Nat} {t : Bool} (h : Caps s) : Caps (setTag a t s) := h.upd
theorem setSoft {a : Nat} {b : Bool} (h : Caps s) : Caps (setSoft a b s) := h.upd
theorem eccClear {lo hi : Nat} (h : Caps s) : Caps (eccClear lo hi s) := h.upd
theorem eccGood {w : Nat} (h : Caps s) : Caps (eccGood w s) := h.eccClear
theorem eccUe {a reader : Nat} (h : Caps s) : Caps (eccUe a reader s) := h.inc.put.logReq
theorem eccCe {a : Nat} (h : Caps s) : Caps (eccCe a s) := h.inc.put.logLimited
theorem eccFix {a n : Nat} (h : Caps s) : Caps (eccFix a n s) := h.each fun h => h.eccCe.setSoft
theorem pokeBytes {a : Nat} {l : List Byte} (h : Caps s) : Caps (pokeBytes a l s) := (h.setBytes.each fun h => h.setTag).each fun h => h.eccGood
theorem undoPush {reader w : Nat} (h : Caps s) : Caps (undoPush reader w s) :=
  .put ⟨(Caps.ite h.eccUe h.eccFix).eccClear.core⟩
theorem undoStore {reader a n : Nat} (h : Caps s) : Caps (undoStore reader a n s) := .ite (h.each fun h => h.undoPush) h
theorem undoVoid {pd : Nat} (h : Caps s) : Caps (undoVoid pd s) := ⟨h.core⟩
theorem wipeBank {pd : Nat} (h : Caps s) : Caps (wipeBank pd s) := h.upd
theorem windowTouch {off : Nat} (h : Caps s) : Caps (windowTouch off s) := h.upd
theorem memRead {n a : Nat} (h : Caps s) : Caps (memRead n a s).1 := by
  dsimp only [Machine.memRead]
  split
  · exact h
  · exact .iteFst h h.windowTouch
  · exact h
  · exact h
  · refine .iteFst h ?_
    split
    · exact h.eccFix.eccUe
    · exact h.eccFix
theorem memWrite {a : Nat} {l : List Byte} (h : Caps s) : Caps (memWrite a l s).1 := by
  dsimp only [Machine.memWrite]
  split
  · refine .iteFst h ?_
    split
    · exact (Caps.ite h.eccFix h).eccUe
    · exact (Caps.ite h.eccFix h).undoStore.pokeBytes
  · refine .iteFst h ?_
    split
    · exact (Caps.ite h.eccFix h).eccUe
    · exact (Caps.ite h.eccFix h).undoStore.pokeBytes
  · refine .iteFst h ?_
    split
    · exact (Caps.ite h.eccFix h).eccUe
    · exact (Caps.ite h.eccFix h).undoStore.pokeBytes
  · refine .iteFst h ?_
    split
    · exact (Caps.ite h.eccFix h).eccUe
    · exact (Caps.ite h.eccFix h).undoStore.pokeBytes
  · exact h

/-! ### Machine/Gather.lean -/

theorem gUpd {b : Fin 3} {f : Bank → Bank} (h : Caps s) : Caps (gUpd b f s) := by
  dsimp only [Machine.gUpd]
  split <;> exact h.upd
theorem gMark {a : Nat} {b : Fin 3} {i : Nat} {v : Bool} (h : Caps s) : Caps (gMark a b i v s) := by
  dsimp only [Machine.gMark]
  exact h.hw
theorem gSpareBack {b : Fin 3} (h : Caps s) : Caps (gSpareBack b s) := h.when fun h => h.gUpd
theorem gSetSpare {b : Fin 3} {i : Nat} (h : Caps s) : Caps (gSetSpare b i s) := by
  dsimp only [Machine.gSetSpare]
  refine .gSpareBack ?_
  split <;> exact h.put
theorem calPut {b : Fin 3} {i item : Nat} {v : Int} (h : Caps s) : Caps (calPut b i item v s) := h.eccGood.upd
theorem gNoSpare {b : Fin 3} (h : Caps s) : Caps (gNoSpare b s) := .ite h h.put.logReq.gUpd
theorem gShadow {b : Fin 3} {again : Bool} (h : Caps s) : Caps (gShadow b again s) := h.gUpd.restart
theorem gCalibrate {b : Fin 3} {stage : StepStage} (h : Caps s) : Caps (gCalibrate b stage s) := h.gUpd.restart
theorem gStep {b : Fin 3} {kind : StepKind} {c : Nat} (h : Caps s) : Caps (gStep b kind c s) := h.setBit.gUpd.gShadow
theorem gInPlace {b : Fin 3} {kind : StepKind} {c : Nat} (h : Caps s) : Caps (gInPlace b kind c s) := h.setBit.gUpd.gCalibrate
theorem gRotate {b : Fin 3} (h : Caps s) : Caps (gRotate b s) := by
  dsimp only [Machine.gRotate]
  refine .ite ?_ h.gNoSpare
  split
  · exact h.gStep
  · exact h
theorem gNext {b : Fin 3} (h : Caps s) : Caps (gNext b s) := .ite h (Caps.ite h.gRotate h).restart
theorem gFullNext {b : Fin 3} (h : Caps s) : Caps (gFullNext b s) := by
  dsimp only [Machine.gFullNext]
  split
  · exact .ite h.gUpd.gInPlace (.ite h.gUpd.gStep h.gUpd.gNoSpare.putBit)
  · exact h.gUpd.putBit
theorem gFullEnd {state : Nat} (h : Caps s) : Caps (gFullEnd state s) := .ite h.lopEnd h
theorem gLoadFactory {b : Fin 3} {i : Nat} {items : List Nat} (h : Caps s) : Caps (gLoadFactory b i items s) := h.foldl fun h => h.calPut
theorem gRefuse (h : Caps s) : Caps (gRefuse s) := h.put
theorem gathRotate {arg : BitVec 16} (h : Caps s) : Caps (gathRotate arg s) := h.each fun h => .ite h.gRefuse h.gRotate
theorem gFullCal {bs : List (Fin 3)} (h : Caps s) : Caps (gFullCal bs s) := .ite h.gRefuse (h.each fun h => h.gUpd.setBit.gFullNext).gFullEnd
theorem gathFullcal {arg : BitVec 16} (h : Caps s) : Caps (gathFullcal arg s) := .ite h.gRefuse h.lopStart.gFullCal
theorem gSliceAction {arg : BitVec 16} {onSpare onLane onOther : Fin 3 → Nat → State → State} (h : Caps s)
    (honSpare : ∀ {x x1 t}, Caps t → Caps (onSpare x x1 t)) (honLane : ∀ {x x1 t}, Caps t → Caps (onLane x x1 t))
    (honOther : ∀ {x x1 t}, Caps t → Caps (onOther x x1 t)) : Caps (gSliceAction arg onSpare onLane onOther s) := by
  dsimp only [Machine.gSliceAction]
  split
  · exact h.gRefuse
  · exact .ite h.gRefuse (.ite (honSpare h) (.ite (.ite (honLane h) h.gRefuse) (honOther h)))
theorem gathCalslice {arg : BitVec 16} (h : Caps s) : Caps (gathCalslice arg s) :=
  h.gSliceAction (fun h => h.gInPlace) (fun h => h.gStep) (fun h => h)
theorem gathRetire {arg : BitVec 16} (h : Caps s) : Caps (gathRetire arg s) :=
  h.gSliceAction (fun h => h.gMark.gSetSpare) (fun h => h.gStep) (fun h => h.gMark)
theorem gathRestore {arg : BitVec 16} (h : Caps s) : Caps (gathRestore arg s) := by
  dsimp only [Machine.gathRestore]
  split
  · exact h.gRefuse
  · exact .ite h.gRefuse (.ite h.gInPlace h)
theorem seqUpd {n : Fin 16} {f : Seqr → Seqr} (h : Caps s) : Caps (seqUpd n f s) := h.upd
theorem seqRun {n : Fin 16} (h : Caps s) : Caps (seqRun n s) := have h1 := h.seqUpd.put.put; .ite h1 h1.restart
theorem seqTrigger {n : Fin 16} (h : Caps s) : Caps (seqTrigger n s) := .ite h.put h.seqRun
theorem seqTrigKind {n : Fin 16} {kind : Nat} (h : Caps s) : Caps (seqTrigKind n kind s) := .ite h.seqTrigger h
theorem gathStart {arg : BitVec 16} (h : Caps s) : Caps (gathStart arg s) := h.seqTrigKind
theorem gathAct {arg : BitVec 16} {action : Byte} (h : Caps s) : Caps (gathAct arg action s) := by
  dsimp only [Machine.gathAct]
  split
  · exact h.gathRotate
  · exact h.gathFullcal
  · exact h.gathCalslice
  · exact h.gathRetire
  · exact h.gathRestore
  · exact h.gathStart
  · exact h.gRefuse
theorem seqStampWrite {n : Fin 16} {v : Word} (h : Caps s) : Caps (seqStampWrite n v s) := .ite h.wr.seqUpd.put.after h.wr.seqUpd
theorem seqCtlWrite {n : Fin 16} {v : Word} (h : Caps s) : Caps (seqCtlWrite n v s) := have h1 := h.wr; .ite h1.put.seqUpd (.ite h1.seqRun h1)
theorem seqEntWrite {n : Fin 16} {e : Fin 32} {v : Word} (h : Caps s) : Caps (seqEntWrite n e v s) := .ite h.put h.wr

/-! ### Machine/Rail.lean -/

theorem showRun (h : Caps s) : Caps (showRun s) := h.put
theorem setM {r : Fin 4} {st : Nat} (h : Caps s) : Caps (setM r st s) := h.put.showRun
theorem setE {r : Fin 4} {st : Nat} (h : Caps s) : Caps (setE r st s) := h.put
theorem phUpd {p : Fin 32} {f : Phase → Phase} (h : Caps s) : Caps (phUpd p f s) := h.upd
theorem mrvUpd {r : Fin 4} {f : Mrv → Mrv} (h : Caps s) : Caps (mrvUpd r f s) := h.upd
theorem protUpd {r : Fin 4} {f : Prot → Prot} (h : Caps s) : Caps (protUpd r f s) := h.upd
theorem edgeUpd {r : Fin 4} {f : EdgeSt → EdgeSt} (h : Caps s) : Caps (edgeUpd r f s) := h.upd
theorem parUpd {r : Fin 4} {f : Par → Par} (h : Caps s) : Caps (parUpd r f s) := h.upd
theorem phaseOffAt {r : Fin 4} {p : Fin 32} {t64 : Nat} (h : Caps s) : Caps (phaseOffAt r p t64 s) :=
  .ite h.cancel.cancel.phUpd.restart h.cancel.cancel.phUpd
theorem phaseOff {r : Fin 4} {p : Fin 32} (h : Caps s) : Caps (phaseOff r p s) := h.phaseOffAt
theorem phaseOffMinOn {r : Fin 4} {p : Fin 32} (h : Caps s) : Caps (phaseOffMinOn r p s) := .ite h.cancel.phUpd.restart h.phaseOff
theorem settle {r : Fin 4} {p : Fin 32} (h : Caps s) : Caps (settle r p s) := .ite h h.phUpd
theorem fallAt {r : Fin 4} {p : Fin 32} {t64 : Nat} (h : Caps s) : Caps (fallAt r p t64 s) := .ite h.phaseOffAt.settle.phUpd h.phaseOffAt.settle
theorem fall {r : Fin 4} {p : Fin 32} (h : Caps s) : Caps (fall r p s) := h.fallAt
theorem holdPhase {r : Fin 4} {p : Fin 32} (h : Caps s) : Caps (holdPhase r p s) := h.phUpd.restart
theorem holdEnd {r : Fin 4} (h : Caps s) : Caps (holdEnd r s) := have h1 := h.each fun h => .ite h.phUpd.cancel h; .ite h1.edgeUpd h1.edgeUpd.put
theorem lowHold {r : Fin 4} {obeyMinOn : Bool} (h : Caps s) : Caps (lowHold r obeyMinOn s) :=
  have h1 := (h.each fun h => (Caps.ite h.phaseOffMinOn h.phaseOff).holdPhase).edgeUpd
  .ite h1.restart (.ite h1.edgeUpd h1.holdEnd.put)
theorem showPends (h : Caps s) : Caps (showPends s) := h.each fun h => h.putB
theorem setN {r : Fin 4} {n : Nat} (h : Caps s) : Caps (setN r n s) := h.put.mrvUpd
theorem gloryStop {r : Fin 4} (h : Caps s) : Caps (gloryStop r s) := h.put.mrvUpd
theorem gloryEnd {r : Fin 4} (h : Caps s) : Caps (gloryEnd r s) := .ite h.inc.logReq.cancel.mrvUpd.gloryStop h
theorem mLeave {r : Fin 4} {st : Nat} (h : Caps s) : Caps (mLeave r st s) := h.gloryEnd.cancel.setN.setM.mrvUpd
theorem parAbort {r : Fin 4} {cause : Nat} (h : Caps s) : Caps (parAbort r cause s) := .ite h.logReq.put.put.put.put.cancel.parUpd h
theorem freezeEnd {r : Fin 4} (h : Caps s) : Caps (freezeEnd r s) := h.put.put
theorem ringtestFail {r : Fin 4} (h : Caps s) : Caps (ringtestFail r s) := .ite h.lopEnd h

/-! ### Machine/Prot.lean -/

theorem condPut {r : Fin 4} {f : Nat} {b : Bool} (h : Caps s) : Caps (condPut r f b s) := h.putBit
theorem idleFast {r : Fin 4} (h : Caps s) : Caps (idleFast r s) :=
  ((h.condPut.condPut.condPut.condPut.condPut.when fun h => h.cancel).when fun h => h.cancel).cancel.protUpd.each fun h => h.phUpd
theorem idleAll {r : Fin 4} (h : Caps s) : Caps (idleAll r s) := h.idleFast.put.cancel.cancel.cancel.protUpd.put.each fun h => h.phUpd
theorem protFire {r : Fin 4} {i : Nat} (h : Caps s) : Caps (protFire r i s) := .ite h h.fire.protUpd
theorem setP {r : Fin 4} {p : Nat} (h : Caps s) : Caps (setP r p s) := h.put
theorem limEnd {r : Fin 4} (h : Caps s) : Caps (limEnd r s) := h.put.protUpd.each fun h => h.phUpd
theorem railStop {r : Fin 4} {byOv : Bool} (h : Caps s) : Caps (railStop r byOv s) :=
  have h1 := h.limEnd.inc.cancel
  .ite h1.protFire.protUpd h1.protFire.protUpd.lowHold.mLeave.idleFast.ringtestFail.parAbort.freezeEnd.setE
theorem railLatch {r : Fin 4} (h : Caps s) : Caps (railLatch r s) := h.setP.put.protFire
theorem hiccup {r : Fin 4} {onlyVin : Bool} (h : Caps s) : Caps (hiccup r onlyVin s) := .ite h.setP (.ite h.logReq.railLatch h.put.setP)
theorem respond {r : Fin 4} {code : Nat} {onlyVin byOv : Bool} (h : Caps s) : Caps (respond r code onlyVin byOv s) :=
  have h1 := h.when fun h => h.protUpd
  .ite h1 (.ite (.ite (h1.when fun h => h.put).railLatch (.ite h1.protUpd.hiccup h1.protUpd)) (.ite h1.railStop.railLatch h1.railStop.hiccup.protUpd))
theorem declOne {r : Fin 4} {d : Decl} (h : Caps s) : Caps (declOne r d s) := by
  dsimp only [Machine.declOne]
  refine .protUpd ?_
  split
  · exact h.setBit.railAttn.logReq.upd
  · exact h.setBit.railAttn.logReq
theorem declare {r : Fin 4} {ds : List Decl} (h : Caps s) : Caps (declare r ds s) :=
  have h1 := ((h.each fun h => h.declOne).when fun h => h.protFire).when fun h => h.protFire
  .ite h1.respond h1
theorem setCond {r : Fin 4} {f : Nat} {present : Bool} {val : Int} (h : Caps s) : Caps (setCond r f present val s) :=
  .ite h.declare (.ite h (.ite h.condPut.declare h.condPut))
theorem gloryKick {r : Fin 4} (h : Caps s) : Caps (gloryKick r s) := .ite h.after h
theorem ovEnd {r : Fin 4} (h : Caps s) : Caps (ovEnd r s) := h.protUpd.cancel.condPut
theorem retimed {since len : Nat} {c : Instr} (h : Caps s) : Caps (retimed since len c s) := h.restart
theorem vthWritten {r : Fin 4} (h : Caps s) : Caps (vthWritten r s) := by
  dsimp only [Machine.vthWritten]
  refine .ite (.retimed ?_) ?_
  · split
    · refine .ite ?_ (.retimed ?_)
      · split
        · exact .ite h h.retimed
        · exact h
      · split
        · exact .ite h h.retimed
        · exact h
    · split
      · exact .ite h h.retimed
      · exact h
  · split
    · refine .ite ?_ (.retimed ?_)
      · split
        · exact .ite h h.retimed
        · exact h
      · split
        · exact .ite h h.retimed
        · exact h
    · split
      · exact .ite h h.retimed
      · exact h
theorem hicWritten {r : Fin 4} (h : Caps s) : Caps (hicWritten r s) := .ite h.retimed h
theorem limitWritten {r : Fin 4} (h : Caps s) : Caps (limitWritten r s) := h.protUpd
theorem vinMissing {r : Fin 4} (h : Caps s) : Caps (vinMissing r s) := .ite h.protUpd.setCond h
theorem imoRefresh {r : Fin 4} {p : Fin 32} (h : Caps s) : Caps (imoRefresh r p s) := .ite (.ite h.phUpd.condPut.declare h.phUpd.condPut) h
theorem imoAll (h : Caps s) : Caps (imoAll s) := h.each fun h => h.each fun h => h.imoRefresh
theorem protOffRail {r : Fin 4} (h : Caps s) : Caps (protOffRail r s) := h.idleAll.limEnd.setP.put.cancel
theorem protOnRail {r : Fin 4} (h : Caps s) : Caps (protOnRail r s) :=
  (Caps.ite h.protUpd.restart.vinMissing h.protUpd.restart.restart).each fun h => h.imoRefresh
theorem respWrite {r : Fin 4} {v : Word} (h : Caps s) : Caps (respWrite r v s) := h.limitWritten.each fun h => .ite h.put h.put.logReq

/-! ### Machine/Marver.lean -/

theorem slewKick {r : Fin 4} {rested : Bool} (h : Caps s) : Caps (slewKick r rested s) := .ite h (.ite (.ite h.cancel h.restart) (.ite h h.restart))
theorem vsetApply {r : Fin 4} {src v : Nat} (h : Caps s) : Caps (vsetApply r src v s) := h.put.put.mrvUpd.slewKick
theorem vsetUndo {r : Fin 4} (h : Caps s) : Caps (vsetUndo r s) := by
  dsimp only [Machine.vsetUndo]
  split
  · exact h.put.put.put.cancel.after
  · exact h.put.put.put.cancel
theorem vsetArrive {r : Fin 4} {src v : Nat} (h : Caps s) : Caps (vsetArrive r src v s) := by
  dsimp only [Machine.vsetArrive]
  refine .ite h.inc (.ite h.inc.logReq ?_)
  split
  · exact .ite (.ite h.inc.vsetUndo.vsetApply h.inc) h.vsetApply
  · exact h.vsetApply
theorem showBal {r : Fin 4} (h : Caps s) : Caps (showBal r s) := h.each fun h => h.putI
theorem ffGuardChange {r : Fin 4} {before : Bool} (h : Caps s) : Caps (ffGuardChange r before s) := .ite h.restart (.ite h.put.cancel h)
theorem clearBal {r : Fin 4} {ps : List (Fin 32)} (h : Caps s) : Caps (clearBal r ps s) := (h.each fun h => h.phUpd).showBal
theorem mrvClear {arg : BitVec 16} (h : Caps s) : Caps (mrvClear arg s) := h.mrvUpd
theorem mrvBalClear {arg : BitVec 16} (h : Caps s) : Caps (mrvBalClear arg s) := h.clearBal
theorem mrvAct {arg : BitVec 16} {action : Byte} (h : Caps s) : Caps (mrvAct arg action s) := by
  dsimp only [Machine.mrvAct]
  split
  · exact h.mrvClear
  · exact h.mrvBalClear
  · exact h
theorem vshostWrite {r : Fin 4} {v : Word} (h : Caps s) : Caps (vshostWrite r v s) := h.wr.vsetArrive
theorem vspmbWrite {r : Fin 4} {v : Word} (h : Caps s) : Caps (vspmbWrite r v s) := h.wr.vsetArrive
theorem updWrite {r : Fin 4} {v : Word} (h : Caps s) : Caps (updWrite r v s) := .ite h.put.upd h.put
theorem updDiscard {r : Fin 4} (h : Caps s) : Caps (updDiscard r s) := (h.foldl fun h => h.wr).put.upd.put.when fun h => h.logReq

/-! ### Machine/Edge.lean -/

theorem forceEnd {r : Fin 4} {p : Fin 32} (h : Caps s) : Caps (forceEnd r p s) := .ite h.fall h
theorem forceEndAll {r : Fin 4} (h : Caps s) : Caps (forceEndAll r s) := h.each fun h => h.forceEnd
theorem uvRelease {r : Fin 4} (h : Caps s) : Caps (uvRelease r s) := h.put.forceEndAll.gloryEnd
theorem restOne {r : Fin 4} {p : Fin 32} (h : Caps s) : Caps (restOne r p s) := .ite h (.ite h.phUpd (.ite h h.phUpd))
theorem blankOne {r : Fin 4} {p : Fin 32} (h : Caps s) : Caps (blankOne r p s) := .ite h (.ite (.ite h.phaseOffMinOn h.fall) (.ite h.restOne h))
theorem unblankOne {r : Fin 4} {p : Fin 32} (h : Caps s) : Caps (unblankOne r p s) := .ite h h.phUpd
theorem blankFollow {r : Fin 4} (h : Caps s) : Caps (blankFollow r s) :=
  .ite h (.ite (h.put.each fun h => h.blankOne) (h.put.each fun h => h.unblankOne))
theorem ovHoldEnd {r : Fin 4} (h : Caps s) : Caps (ovHoldEnd r s) := .ite h (.ite h.holdEnd (h.each fun h => .ite h.phUpd h))
theorem ovQuiet {r : Fin 4} (h : Caps s) : Caps (ovQuiet r s) := h.put.ovEnd.blankFollow.protUpd.ovHoldEnd
theorem ovRelease {r : Fin 4} (h : Caps s) : Caps (ovRelease r s) := h.ovQuiet.gloryKick
theorem cmpOff {r : Fin 4} (h : Caps s) : Caps (cmpOff r s) := h.put.ovQuiet
theorem freeze {r : Fin 4} (h : Caps s) : Caps (freeze r s) :=
  .ite h (.ite h.put.edgeUpd (h.put.edgeUpd.put.inc.each fun h => h.phUpd).ringtestFail.parAbort)
theorem unfreeze {r : Fin 4} (h : Caps s) : Caps (unfreeze r s) := .ite h.freezeEnd h
theorem othersOff {r : Fin 4} {obeyMinOn : Bool} (h : Caps s) : Caps (othersOff r obeyMinOn s) :=
  h.each fun h => .ite (Caps.ite h.phaseOffMinOn h.phaseOff).phUpd h.phUpd
theorem heldOff {r : Fin 4} (h : Caps s) : Caps (heldOff r s) := .ite h (h.each fun h => h.phaseOff.cancel.holdPhase).edgeUpd.restart
theorem inert {r : Fin 4} (h : Caps s) : Caps (inert r s) :=
  .ite h (Caps.ite h h.heldOff.protUpd.lowHold.mLeave.idleFast.ringtestFail.parAbort.freezeEnd).othersOff.edgeUpd.setE.logReq
theorem release {r : Fin 4} (h : Caps s) : Caps (release r s) := .ite h (Caps.ite h.setE h.edgeUpd.setE).logReq
theorem edgeAct {arg : BitVec 16} {action : Byte} (h : Caps s) : Caps (edgeAct arg action s) := by
  dsimp only [Machine.edgeAct]
  split
  · exact h.freeze
  · exact h.unfreeze
  · exact h.inert
  · exact h.release
  · exact h
theorem railEnable {r : Fin 4} (h : Caps s) : Caps (railEnable r s) := by
  dsimp only [Machine.railEnable]
  refine .ite h ?_
  split
  · exact (h.put.setBit.when fun h => h.setBit).logReq
  · exact h.put.edgeUpd.setE.protOnRail.ffGuardChange
theorem railDisable {r : Fin 4} (h : Caps s) : Caps (railDisable r s) :=
  .ite h.put (Caps.ite h h.protUpd.lowHold).protOffRail.mLeave.ringtestFail.parAbort.freezeEnd.othersOff.put.edgeUpd.setE.cmpOff.ffGuardChange
theorem edgeCtlWrite {r : Fin 4} {v : Word} (h : Caps s) : Caps (edgeCtlWrite r v s) :=
  have h1 := Caps.ite h h.store.showPends
  .ite h1.railEnable h1.railDisable
theorem edgeMapWrite {r : Fin 4} {a : Nat} {v : Word} (h : Caps s) : Caps (edgeMapWrite r a v s) := .ite h.put.logReq h.wr
theorem midNow {r : Fin 4} {p : Fin 32} (h : Caps s) : Caps (midNow r p s) := .ite h h.phaseOff.phUpd
theorem protClear {arg : BitVec 16} (h : Caps s) : Caps (protClear arg s) :=
  have h1 := (h.logReq.put.each fun h => h.midNow).mLeave.protOffRail.setE
  .ite h (.ite h.put.logReq (.ite h1.cmpOff.ffGuardChange h1.cmpOff.ffGuardChange.put))
theorem protAbort {arg : BitVec 16} (h : Caps s) : Caps (protAbort arg s) := .ite h.railLatch h
theorem protRestore {arg : BitVec 16} (h : Caps s) : Caps (protRestore arg s) := by
  dsimp only [Machine.protRestore]
  refine .ite h ?_
  split
  · exact .ite h.put.logReq h.phUpd
  · exact .ite h.put.logReq h.putBit
theorem protAct {arg : BitVec 16} {action : Byte} (h : Caps s) : Caps (protAct arg action s) := by
  dsimp only [Machine.protAct]
  split
  · exact h.protClear
  · exact h.protAbort
  · exact h.protRestore
  · exact h

/-! ### Machine/MotFault.lean -/

theorem motUpd {m : Fin 4} {f : Motor → Motor} (h : Caps s) : Caps (motUpd m f s) := h.upd
theorem motEnter {m : Fin 4} {st : Nat} (h : Caps s) : Caps (motEnter m st s) := h.put.motUpd
theorem motCarrierOff {m : Fin 4} (h : Caps s) : Caps (motCarrierOff m s) := h.cancel.cancel.cancel.motUpd
theorem motDeclare {m : Fin 4} {fs : List Nat} {cur : Int} (h : Caps s) : Caps (motDeclare m fs cur s) :=
  have h1 := (h.each fun h => h.setBit.logReq).when fun h => h.fire
  .ite h1.motEnter.motCarrierOff.put h1
theorem motWatch {m : Fin 4} {cur : Int} {old : Nat} (h : Caps s) : Caps (motWatch m cur old s) := h.put.motDeclare
theorem motCheck {m : Fin 4} (h : Caps s) : Caps (motCheck m s) := h.motWatch
theorem motSetCond {m : Fin 4} {f : Nat} {present : Bool} {cur : Int} (h : Caps s) : Caps (motSetCond m f present cur s) := h.putBit.motWatch
theorem motWatchAll (h : Caps s) : Caps (motWatchAll s) := .ite (h.each fun h => .ite h.motCheck h) h

/-! ### Machine/Angle.lean -/

theorem domUpd {d : Fin 8} {f : Domain → Domain} (h : Caps s) : Caps (domUpd d f s) := h.upd
theorem angRefuse {idx a : Nat} {flag : Fld} (h : Caps s) : Caps (angRefuse idx a flag s) := h.put.logReq
theorem acuUpd {k : Fin 16} {f : Acu → Acu} (h : Caps s) : Caps (acuUpd k f s) := h.upd
theorem acuShow {k : Fin 16} (h : Caps s) : Caps (acuShow k s) := h.putB
theorem acuRaise {k : Fin 16} (h : Caps s) : Caps (acuRaise k s) := h.put.acuUpd
theorem acuDisarm {k : Fin 16} (h : Caps s) : Caps (acuDisarm k s) := h.acuUpd.acuShow
theorem acuAdvance {k : Fin 16} (h : Caps s) : Caps (acuAdvance k s) := h.wr.when fun h => h.put
theorem acuAfter {k : Fin 16} (h : Caps s) : Caps (acuAfter k s) := .ite h.acuAdvance h.acuDisarm
theorem acuArmed {k : Fin 16} (h : Caps s) : Caps (acuArmed k s) :=
  have h1 := h.acuShow
  .ite h1 (.ite (.ite h1.put.after h1.put.acuAfter) (.ite h1.after h1))
theorem acuStampWrite {k : Fin 16} {v : Word} (h : Caps s) : Caps (acuStampWrite k v s) := .ite h.acuUpd.wr.acuShow h.acuUpd.wr.acuArmed
theorem acuCtlWrite {k : Fin 16} {v : Word} (h : Caps s) : Caps (acuCtlWrite k v s) := .ite h.wr.acuArmed h.wr.acuShow
theorem acuStatus {d : Fin 8} {bit : Nat} (h : Caps s) : Caps (acuStatus d bit s) := h.each fun h => .ite h.acuRaise h
theorem holdoverEnter {d : Fin 8} (h : Caps s) : Caps (holdoverEnter d s) := h.put.setBit.motWatchAll.logReq.domUpd.acuStatus
theorem refMissing {d : Fin 8} (h : Caps s) : Caps (refMissing d s) := .ite h.holdoverEnter h
theorem acquireAfresh {d : Fin 8} (h : Caps s) : Caps (acquireAfresh d s) := h.put.motWatchAll.domUpd
theorem reacquire {arg : BitVec 16} (h : Caps s) : Caps (reacquire arg s) := .ite h.domUpd (.ite h.domUpd.acquireAfresh h)
theorem showRate {d : Fin 8} (h : Caps s) : Caps (showRate d s) := h.putI
theorem roleLoad (h : Caps s) : Caps (roleLoad s) := .ite h.upd h
theorem syncCtlWrite {v : Word} (h : Caps s) : Caps (syncCtlWrite v s) := h.wr.roleLoad
theorem domEnable {d : Fin 8} (h : Caps s) : Caps (domEnable d s) := h.domUpd.showRate.put.put.motWatchAll
theorem domDisable {d : Fin 8} (h : Caps s) : Caps (domDisable d s) := h.put.put.motWatchAll.domUpd
theorem holdToDerive {d : Fin 8} (h : Caps s) : Caps (holdToDerive d s) := .ite h h.put
theorem angCtlWrite {d : Fin 8} {v : Word} (h : Caps s) : Caps (angCtlWrite d v s) :=
  have h1 := (h.wr.when fun h => h.put).holdToDerive
  .ite h.angRefuse (.ite h1.domEnable (.ite h1.domDisable h1))
theorem commitRate {d : Fin 8} {rate : Nat} (h : Caps s) : Caps (commitRate d rate s) := have h1 := h.domUpd; .ite h1 (.ite h1.domUpd.put h1.domUpd)
theorem freqWrite {d : Fin 8} {v : Word} (h : Caps s) : Caps (freqWrite d v s) := .ite h.angRefuse (Caps.ite h.wr h.wr.put.put).commitRate
theorem ratehWrite {d : Fin 8} {v : Word} (h : Caps s) : Caps (ratehWrite d v s) := .ite h.angRefuse h.wr.commitRate
theorem railmapWrite {v : Word} (h : Caps s) : Caps (railmapWrite v s) := by
  dsimp only [Machine.railmapWrite]
  split
  · exact h.angRefuse
  · exact h.wr
theorem angAct {arg : BitVec 16} {action : Byte} (h : Caps s) : Caps (angAct arg action s) := .ite h.reacquire h

/-! ### Machine/Pwr.lean -/

theorem pwrUpd {f : PwrSt → PwrSt} (h : Caps s) : Caps (pwrUpd f s) := h.upd
theorem setReq {d : Nat} {v : Bool} (h : Caps s) : Caps (setReq d v s) := .ite h.putBit h.putBit
theorem pwrKick (h : Caps s) : Caps (pwrKick s) := .ite h (.ite h h.put.after)
theorem upRequests {l : List Nat} (h : Caps s) : Caps (upRequests l s) := (h.each fun h => h.setReq).pwrUpd.pwrKick
theorem wakeRequests {l : List Nat} (h : Caps s) : Caps (wakeRequests l s) := h.upRequests.pwrUpd
theorem usbEmpty (h : Caps s) : Caps (usbEmpty s) := h.upd
theorem groupUp (h : Caps s) : Caps (groupUp s) := .ite h (.each ⟨h.core⟩ fun h => h.after)

/-! ### Machine/Mbx.lean -/

theorem mbDeny (h : Caps s) : Caps (mbDeny s) := h.inc.upd
theorem mbWref (h : Caps s) : Caps (mbWref s) := h.inc
theorem mbLog {k code : Nat} {data : List Byte} (h : Caps s) : Caps (mbLog k code data s) := h.logLimited
theorem mbTouch {k : Nat} (h : Caps s) : Caps (mbTouch k s) := h.upd
theorem lockBreak {k cause : Nat} (h : Caps s) : Caps (lockBreak k cause s) := .ite h h.put.cancel.mbLog
theorem locksOf {id : Nat} (h : Caps s) : Caps (locksOf id s) := h.each fun h => .ite h.lockBreak h
theorem locktoChanged (h : Caps s) : Caps (locktoChanged s) := h.each fun h => .ite h.cancel.after h.cancel
theorem lockFree {k : Nat} (h : Caps s) : Caps (lockFree k s) := h.upd.put.cancel
theorem lockRead {agent : Agent} {k : Nat} (h : Caps s) : Caps (lockRead agent k s) :=
  .ite h.mbDeny (.ite h.upd (.ite h.upd (.ite (.ite h.put.upd.restart h.put.upd) h.upd)))
theorem lockWrite {agent : Agent} {k : Nat} {value : Word} (h : Caps s) : Caps (lockWrite agent k value s) :=
  .ite h.mbDeny (.ite h (.ite h.lockFree h.mbWref))
theorem dataWrite {agent : Agent} {k i : Nat} {value : Word} (h : Caps s) : Caps (dataWrite agent k i value s) :=
  .ite h.mbDeny (.ite h.wr.mbTouch h.mbWref)
theorem mbNotify {k : Nat} (h : Caps s) : Caps (mbNotify k s) := by
  dsimp only [Machine.mbNotify]
  refine .ite ?_ h
  split
  · exact h.after
  · exact h.wakeRequests
  · exact h.wakeRequests
  · exact h.wakeRequests
  · exact h.wakeRequests
  · exact h
theorem sendDo {agent : Agent} {k : Nat} {arg : BitVec 16} (h : Caps s) : Caps (sendDo agent k arg s) := by
  dsimp only [Machine.sendDo]
  split
  · exact
      have h1 := h.put.put.put.mbTouch.fire
      (Caps.ite h1.twCause (.ite h1.twCause h1)).mbNotify
  · exact h.inc.mbLog
theorem sendWrite {agent : Agent} {k : Nat} {ticket : Byte} {arg0 : BitVec 16} {action : Byte} (h : Caps s) :
    Caps (sendWrite agent k ticket arg0 action s) :=
  .ite h.mbDeny (.ite h (Caps.ite h.sendDo h).upd)
theorem takeRead {agent : Agent} {k : Nat} (h : Caps s) : Caps (takeRead agent k s) :=
  have h1 := h.upd
  .ite h.mbDeny (.ite (.ite h1.put.upd.upd h1.put.upd) h1)
theorem mbxRead {agent : Agent} {a : Nat} (h : Caps s) : Caps (mbxRead agent a s) :=
  .ite h.mbDeny (.ite h.upd (.ite h.upd (.ite h.lockRead (.ite h.upd (.ite h.takeRead (.ite h.upd h.upd))))))

/-! ### Machine/TrioCtl.lean -/

theorem trioUpd {f : TrioSt → TrioSt} (h : Caps s) (hf : (f s.trio).core = s.trio.core := by rfl) : Caps (trioUpd f s) := h.of_core hf
theorem coreUpd {f : Core → Core} (h : Caps s) (hf : ∀ {c}, CoreOk c → CoreOk (f c)) : Caps (coreUpd f s) := ⟨hf h.core⟩
theorem setSpeed {v : Nat} (h : Caps s) : Caps (setSpeed v s) := h.put
theorem wdtPause (h : Caps s) : Caps (wdtPause s) := by
  dsimp only [Machine.wdtPause]
  split
  · exact h.cancel.trioUpd
  · exact h
theorem wdtResume (h : Caps s) : Caps (wdtResume s) := .ite h.wdtPause.trioUpd.after h.wdtPause
theorem wdtKick (h : Caps s) : Caps (wdtKick s) := h.wdtPause.trioUpd.wdtResume
theorem handBack (h : Caps s) : Caps (handBack s) := ((h.each fun h => h.hw).each fun h => h.put).upd
theorem periodicArm (h : Caps s) : Caps (periodicArm s) := .ite h.cancel h.cancel.after
theorem ckptStart {sleep : Bool} (h : Caps s) : Caps (ckptStart sleep s) := h.cancel.trioUpd.after
theorem highWater (h : Caps s) : Caps (highWater s) := .ite h.inc.ckptStart h
theorem enterRun (h : Caps s) : Caps (enterRun s) := .ite h.setSpeed.trioUpd.wdtPause h.setSpeed.wdtResume.periodicArm
theorem wakeUp (h : Caps s) : Caps (wakeUp s) := .ite (.ite h.groupUp.after (.ite h.enterRun h)) (.ite h.trioUpd h)
theorem trioReset {cause offset : Nat} (h : Caps s) : Caps (trioReset cause offset s) :=
  .ite h (.restart (.locksOf (.each (.each (.each (.wr (.wr (.put (.put (.put ⟨.reset⟩))))) fun h => h.setReq) fun h => h.wipeBank) fun h =>
    h.updDiscard)))
theorem rollbackStart {cause kind agree : Nat} (h : Caps s) : Caps (rollbackStart cause kind agree s) :=
  .ite h.trioReset h.cancel.cancel.setSpeed.wdtPause.logReq.inc.put.trioUpd.after
theorem doubleTrap {why cause2 : Nat} {tval : Word} (h : Caps s) : Caps (doubleTrap why cause2 tval s) := h.logReq.rollbackStart
theorem takeTrap {cause : Nat} {tval : Word} {cap : Option Nat} (h : Caps s) : Caps (takeTrap cause tval cap s) :=
  .ite h.doubleTrap (.ite h.doubleTrap (h.coreUpd fun h => h.enterTrap))

/-! ### Machine/Reset.lean -/

theorem deviceReset {bit : Nat} : Caps (deviceReset bit s) := ⟨CoreOk.reset⟩

/-! ### Machine/Boot.lean -/

theorem bootUpd {f : BootSt → BootSt} (h : Caps s) : Caps (bootUpd f s) := h.upd
theorem xspiExec (h : Caps s) : Caps (xspiExec s) := .ite h.put.bootUpd h.put.bootUpd
theorem verifyBegin {n : Fin 2} (h : Caps s) : Caps (verifyBegin n s) := h.bootUpd.restart
theorem otpRefuse {action word : Nat} (h : Caps s) : Caps (otpRefuse action word s) := h.put.logReq
theorem otpBegin {action : Nat} {l : List (Nat × Word)} (h : Caps s) : Caps (otpBegin action l s) := h.put.bootUpd.restart
theorem otpProgram {arg : BitVec 16} (h : Caps s) : Caps (otpProgram arg s) := .ite h.otpRefuse h.otpBegin
theorem otpArver {arg : BitVec 16} (h : Caps s) : Caps (otpArver arg s) := .ite h.otpRefuse h.otpBegin
theorem otpRevoke {arg : BitVec 16} (h : Caps s) : Caps (otpRevoke arg s) := .ite h.otpRefuse h.otpBegin
theorem otpTransition {arg : BitVec 16} (h : Caps s) : Caps (otpTransition arg s) :=
  .ite h.otpRefuse (.ite h.otpRefuse.put h.logReq.bootUpd.otpBegin)
theorem wipeFinish {state : Nat} (h : Caps s) : Caps (wipeFinish state s) := h.lopEnd.logReq.put.upd
theorem wipeBegin {mask : Nat} (h : Caps s) : Caps (wipeBegin mask s) :=
  have h1 := (h.put.each fun h => h.undoVoid).upd.each fun h => h.after
  .ite h1.wipeFinish h1
theorem wipeStart {arg : BitVec 16} (h : Caps s) : Caps (wipeStart arg s) := .ite h.put h.lopStart.wipeBegin
theorem verifyStart {arg : BitVec 16} (h : Caps s) : Caps (verifyStart arg s) := .ite h.put h.lopStart.verifyBegin
theorem lcsAct {arg : BitVec 16} {action : Byte} (h : Caps s) : Caps (lcsAct arg action s) :=
  .ite h.otpProgram (.ite h.otpTransition (.ite h.otpArver (.ite h.otpRevoke (.ite h.wipeStart h))))

/-! ### Machine/Tw.lean -/

theorem twLog {n : Fin 2} {code : Nat} {data : List Byte} (h : Caps s) : Caps (twLog n code data s) := .ite h.logLimited h.logReq
theorem rspdWrite {n : Fin 2} {i : Nat} {v : Word} (h : Caps s) : Caps (rspdWrite n i v s) := h.twUpd.wr
theorem rspcWrite {n : Fin 2} {i : Nat} {v : Word} (h : Caps s) : Caps (rspcWrite n i v s) := h.twUpd.wr
theorem queuePop {agent : Agent} {n : Fin 2} (h : Caps s) : Caps (queuePop agent n s) := by
  dsimp only [Machine.queuePop]
  split
  · exact h.upd
  · exact .ite h.twUpd.upd h.upd
theorem twExec {arg : BitVec 16} (h : Caps s) : Caps (twExec arg s) := .ite h.put (.ite h.put.twUpd h)
theorem selfReset {n : Fin 2} {cause : Nat} (h : Caps s) : Caps (selfReset n cause s) := h.setBit.inc.twLog.twUpd.locksOf
theorem twReset {arg : BitVec 16} (h : Caps s) : Caps (twReset arg s) := .ite h h.selfReset
theorem twRequest {arg : BitVec 16} (h : Caps s) : Caps (twRequest arg s) := h.twCause
theorem twAct {arg : BitVec 16} {action : Byte} (h : Caps s) : Caps (twAct arg action s) := .ite h.twExec (.ite h.twRequest (.ite h.twReset h))

/-! ### Machine/Avs.lean -/

theorem avsCtlWrite {n : Fin 2} {v : Word} (h : Caps s) : Caps (avsCtlWrite n v s) := .ite h.wr h.put.logReq

/-! ### Machine/Cap.lean -/

theorem capUpd {f : CapSt → CapSt} (h : Caps s) : Caps (capUpd f s) := h.upd
theorem elUpd {i : Fin 16} {f : Electrode → Electrode} (h : Caps s) : Caps (elUpd i f s) := h.capUpd
theorem capMeasure (h : Caps s) : Caps (capMeasure s) := h.capUpd.restart
theorem capScan (h : Caps s) : Caps (capScan s) := have h1 := Caps.ite h.capUpd.after h; .ite h1 h1.capUpd.capMeasure
theorem scanRequest (h : Caps s) : Caps (scanRequest s) := .ite h (.ite h.capUpd h.capScan)
theorem capCtlWrite {value : Word} (h : Caps s) : Caps (capCtlWrite value s) :=
  have h1 := h.wr
  .ite h1.capUpd.restart (.ite h1.cancel.cancel.capUpd h1)
theorem learnBegin {mask dur : Nat} (h : Caps s) : Caps (learnBegin mask dur s) := h.capUpd
theorem learnStart {mask : Nat} (h : Caps s) : Caps (learnStart mask s) := .ite h.put (.ite h.lopStart.learnBegin h.put)
theorem learnFinish {state mask : Nat} (h : Caps s) : Caps (learnFinish state mask s) := h.cancel.lopEnd.capUpd.logReq
theorem learnAbort (h : Caps s) : Caps (learnAbort s) := .ite h.learnFinish h
theorem capRecal {mask : Nat} (h : Caps s) : Caps (capRecal mask s) := h.each fun h => h.elUpd
theorem dryWrite {i : Fin 16} {value : Word} (h : Caps s) : Caps (dryWrite i value s) := h.wr.put

/-! ### Machine/Cnt.lean -/

theorem cuUpd {n : Fin 24} {f : Cu → Cu} (h : Caps s) : Caps (s.cuUpd n f) := h.upd
theorem cuKeepStart {n : Fin 24} (h : Caps s) : Caps (cuKeepStart n s) := .ite h h.cuUpd
theorem cuAction {n : Fin 24} {code : Nat} (h : Caps s) : Caps (cuAction n code s) := h.cuUpd
theorem cuRunWrite {n : Fin 24} {off : Nat} (h : Caps s) : Caps (cuRunWrite n off s) := h.put.logReq
theorem cuCtlWrite {n : Fin 24} {old new : Word} (h : Caps s) : Caps (cuCtlWrite n old new s) :=
  (Caps.ite h.wr.cuRunWrite h.wr).when fun h => h.put
theorem cuCountWrite {n : Fin 24} {v : Word} (h : Caps s) : Caps (cuCountWrite n v s) := .ite h.cuRunWrite h.cuKeepStart.put
theorem cuMatchWrite {n : Fin 24} {isB : Bool} {v : Word} (h : Caps s) : Caps (cuMatchWrite n isB v s) := .ite h.wr (.ite h.cuUpd.wr h.cuUpd.wr)
theorem cuPeriodWrite {n : Fin 24} {v : Word} (h : Caps s) : Caps (cuPeriodWrite n v s) := .ite h.wr.cuUpd h.wr.put.cuUpd
theorem cuCaptureRead {n : Fin 24} (h : Caps s) : Caps (cuCaptureRead n s) := by
  dsimp only [Machine.cuCaptureRead]
  split
  · exact .ite h.upd.putB h.upd.put
  · exact h.upd.put
theorem cuCountRead {n : Fin 24} (h : Caps s) : Caps (cuCountRead n s) := h.cuUpd.upd
theorem cntAct {arg : BitVec 16} {action : Byte} (h : Caps s) : Caps (cntAct arg action s) := .dite (.ite h.cuAction h) h

/-! ### Machine/Mot.lean -/

theorem stallWatch {m : Fin 4} (h : Caps s) : Caps (stallWatch m s) := by
  dsimp only [Machine.stallWatch]
  refine .ite ?_ h.motUpd.cancel.motSetCond
  split
  · exact h.motUpd.restart
  · exact .ite h h.restart
theorem motEnable {m : Fin 4} {value : Word} (h : Caps s) : Caps (motEnable m value s) := by
  dsimp only [Machine.motEnable]
  refine .ite h.wr.motCheck.stallWatch ?_
  split
  · exact h.wr.put.setBit.logReq
  · exact h.wr.put.put.motEnter.restart.motWatch.stallWatch
theorem motDisable {m : Fin 4} {value : Word} (h : Caps s) : Caps (motDisable m value s) := h.wr.put.motEnter.motCarrierOff.put
theorem motInert {m : Fin 4} (h : Caps s) : Caps (motInert m s) := .ite h.motEnter.motCheck.stallWatch h
theorem motRelease {m : Fin 4} (h : Caps s) : Caps (motRelease m s) := .ite h.motUpd h
theorem motClear {m : Fin 4} (h : Caps s) : Caps (motClear m s) := .ite h (.ite h.motCheck.setBit.logReq h.motCheck.motDisable.motUpd)
theorem motRespWrite {m : Fin 4} {value : Word} (h : Caps s) : Caps (motRespWrite m value s) := h.put.when fun h => h.put
theorem motLimWrite {m : Fin 4} {value : Word} (h : Caps s) : Caps (motLimWrite m value s) := h.wr.motCheck
theorem motThofsWrite {m : Fin 4} {value : Word} (h : Caps s) : Caps (motThofsWrite m value s) := h.wr.put

/-! ### Machine/Fb.lean -/

theorem fbUpd {f : Fin 4} {g : Fb → Fb} (h : Caps s) : Caps (fbUpd f g s) := h.upd
theorem fbThv {f : Fin 4} (h : Caps s) : Caps (fbThv f s) := h.each fun h => .ite h.put h
theorem setPos {f : Fin 4} (h : Caps s) : Caps (setPos f s) := h.wr.wr.fbThv
theorem fbCtlWrite {f : Fin 4} {value : Word} (h : Caps s) : Caps (fbCtlWrite f value s) :=
  have h1 := h.wr
  .ite h1.fbUpd.restart (.ite h1.fbUpd (.ite h1.fbUpd h1))

/-! ### Machine/Lehr.lean -/

theorem logFwEntry {arg : BitVec 16} (h : Caps s) : Caps (logFwEntry arg s) := h.logReq

/-! ### Machine/Hif.lean -/

theorem hifUpd {f : HifSt → HifSt} (h : Caps s) : Caps (hifUpd f s) := h.upd
theorem sqUpd {n : Fin 8} {f : HSq → HSq} (h : Caps s) : Caps (sqUpd n f s) := h.hifUpd
theorem cqUpd {m : Fin 10} {f : HCq → HCq} (h : Caps s) : Caps (cqUpd m f s) := h.hifUpd
theorem slotUpd {i : Fin 16} {f : HSlot → HSlot} (h : Caps s) : Caps (slotUpd i f s) := h.hifUpd
theorem cqSetPi {m : Fin 10} {v : Nat} (h : Caps s) : Caps (cqSetPi m v s) := .ite h.put h.put
theorem cqSetState {m : Fin 10} {v : Nat} (h : Caps s) : Caps (cqSetState m v s) := .ite h.put h.put
theorem tagDone {n : Fin 8} {tag : Word} {gen st : Nat} (h : Caps s) : Caps (tagDone n tag gen st s) := h.sqUpd
theorem completionWrite {i : Fin 16} (h : Caps s) : Caps (completionWrite i s) :=
  have h1 := Caps.ite h.postWrite.cqSetPi.putB h.postWrite.cqSetPi
  have h2 := Caps.ite h1.tagDone h1
  (Caps.ite h2.sendVector h2).slotUpd
theorem complete {i : Fin 16} {st result orig : Nat} (h : Caps s) : Caps (complete i st result orig s) :=
  .ite h.slotUpd.completionWrite h.slotUpd.hifUpd
theorem drainWait {m : Fin 10} (h : Caps s) : Caps (drainWait m s) := h.each fun h => .ite h.hifUpd.completionWrite h
theorem fetchKick (h : Caps s) : Caps (fetchKick s) := .ite h.restart h
theorem takeSlot {agent : Agent} (h : Caps s) : Caps (takeSlot agent s) := by
  dsimp only [Machine.takeSlot]
  split
  · exact h.upd
  · exact (Caps.ite h.hifUpd.slotUpd.hifUpd h.hifUpd.slotUpd).upd
theorem postDo {arg : BitVec 16} (h : Caps s) : Caps (postDo arg s) :=
  have h1 := h.hifUpd
  .ite h.put (.ite h1.slotUpd.fetchKick (Caps.ite h1.postWrite h1).complete.fetchKick)
theorem hifAct {arg : BitVec 16} {action : Byte} (h : Caps s) : Caps (hifAct arg action s) := .ite h.postDo h
theorem ringStart {ring : Fin 18} (h : Caps s) : Caps (ringStart ring s) :=
  have h1 := h.cqSetState.cqSetPi.cqUpd
  .ite h.put.put.put.sqUpd.restart (.ite h1.put.drainWait.fetchKick (.ite h1.hifUpd.restart h1.hifUpd))
theorem ringStop {ring : Fin 18} (h : Caps s) : Caps (ringStop ring s) := by
  dsimp only [Machine.ringStop]
  refine .ite (.sqUpd (.put (.put (.put (h.cancel.each fun h => .ite h ?_))))) (.ite h.cqSetState.cqSetPi
    (.ite h.cqSetState.cqSetPi.cancel h.cqSetState.cqSetPi))
  split
  · exact h.hifUpd.complete
  · exact h.complete
  · exact h.slotUpd
  · exact h
theorem hifWrite {agent : Agent} {a : Nat} {value : Word} (h : Caps s) : Caps (hifWrite agent a value s) := by
  dsimp only [Machine.hifWrite]
  refine .ite h.put ?_
  split
  · exact
      have h1 := h.wr
      .ite (.ite h.wr.ringStop h.put) (.ite h1.ringStart (.ite (.ite h1.sqUpd (.ite h1.sqUpd h1)) (.ite h1.hifUpd h1)))
  · exact
      have h1 := h.wr
      .ite (.ite h.wr.locksOf h.wr) (.ite (.ite h1 (.ite h1.restart (.ite h1.cancel (.ite h1 h1.restart)))) h.wr)
theorem functionReset {kind : Fin 3} (h : Caps s) : Caps (functionReset kind s) :=
  have h1 := (h.each fun h => .ite h.wr.cancel.put.put.put.sqUpd h.wr.cqSetState.cqSetPi).cancel.cancel.hifUpd
  have h2 := Caps.ite h1.upd.logReq.locksOf.put h1.upd.logReq.locksOf
  .ite h2.put.put.put.put.upd h2
theorem dmaResume (h : Caps s) : Caps (dmaResume s) := (h.each fun h => h.drainWait).fetchKick.each fun h => h.msixLate
theorem cfgWrite {o : Nat} {v : Word} (h : Caps s) : Caps (cfgWrite o v s) := by
  dsimp only [Machine.cfgWrite]
  split
  · exact h.upd
  · exact h.upd
  · exact .ite h.upd (.ite h.upd.dmaResume h)
  · exact h.upd.dmaResume
  · exact .ite h.functionReset h
  · exact h.upd
  · exact h.upd
  · exact h

/-! ### Machine/Link.lean -/

theorem aprUpd {f : Apr → Apr} (h : Caps s) : Caps (aprUpd f s) := h.upd
theorem laneUpd {ln : Fin 2} {f : AprLane → AprLane} (h : Caps s) : Caps (laneUpd ln f s) := h.aprUpd
theorem setLink {new : Nat} {joined : Fin 2 → Bool} (h : Caps s) : Caps (setLink new joined s) :=
  have h1 := h.each fun h => h.laneUpd
  .ite h1 (((h1.put.logReq.when fun h => h.put).when fun h => h.aprUpd).when fun h => h.fire)
theorem laneLoss {ln : Fin 2} {cause : Nat} (h : Caps s) : Caps (laneLoss ln cause s) := h.fire.put.logReq.each fun h => .ite h.refMissing h
theorem laneFresh {ln : Fin 2} (h : Caps s) : Caps (laneFresh ln s) := h.cancel.laneUpd
theorem halfLost {ln : Fin 2} (h : Caps s) : Caps (halfLost ln s) := h.laneUpd.when fun h => h.inc
theorem laneUnlock {ln : Fin 2} (h : Caps s) : Caps (laneUnlock ln s) := h.laneFresh.laneUpd
theorem aprDown {cause : Nat} (h : Caps s) : Caps (aprDown cause s) :=
  ((h.each fun h => h.halfLost.put.laneUnlock.when fun h => h.laneLoss).each fun h => h.laneUpd).setLink
theorem linkTimeout {ln : Fin 2} (h : Caps s) : Caps (linkTimeout ln s) := .ite (.ite h.setLink h.laneUpd) h
theorem telTimer {r : Fin 4} (h : Caps s) : Caps (telTimer r s) := .ite h.restart h.cancel
theorem aprCtlWrite {v : Word} (h : Caps s) : Caps (aprCtlWrite v s) :=
  have h1 := h.wr
  .ite (h1.aprUpd.restart.each fun h => h.telTimer) (.ite (h1.aprDown.aprUpd.cancel.each fun h => h.telTimer) (h1.each fun h => .ite h.linkTimeout h))
theorem aprTelWrite {v : Word} (h : Caps s) : Caps (aprTelWrite v s) := h.wr.each fun h => h.telTimer
theorem aprRetrain (h : Caps s) : Caps (aprRetrain s) := .ite h.aprUpd.aprDown.aprUpd h.aprUpd
theorem aprAct {action : Byte} (h : Caps s) : Caps (aprAct action s) := by
  dsimp only [Machine.aprAct]
  split
  · exact h.aprRetrain
  · exact h.put
  · exact h

/-! ### Machine/Usb.lean -/

theorem usbUpd {f : UsbSt → UsbSt} (h : Caps s) : Caps (usbUpd f s) := h.upd
theorem epUpd {k : Fin 7} {f : UsbEp → UsbEp} (h : Caps s) : Caps (epUpd k f s) := h.usbUpd
theorem setFst {v : Nat} (h : Caps s) : Caps (setFst v s) := h.put
theorem gobTake {l : List Nat} (h : Caps s) : Caps (gobTake l s) := h.usbUpd
theorem gobFree {l : List Nat} (h : Caps s) : Caps (gobFree l s) := h.usbUpd
theorem regionWrite {j : Nat} {value : Word} (h : Caps s) : Caps (regionWrite j value s) := .ite h.put.logLimited h.store
theorem gobAlloc {agent : Agent} {j : Nat} (h : Caps s) : Caps (gobAlloc agent j s) := by
  dsimp only [Machine.gobAlloc]
  split
  · exact h.upd
  · exact .ite h.gobTake.upd.usbUpd h.gobTake.upd
theorem gobRelease {agent : Agent} {j g : Nat} (h : Caps s) : Caps (gobRelease agent j g s) := .ite h (.ite h.usbUpd h.gobFree)
theorem inPush {agent : Agent} {k : Fin 7} {len g : Nat} (h : Caps s) : Caps (inPush agent k len g s) := .ite h.put.logLimited h.epUpd
theorem outTake {agent : Agent} {k : Fin 7} (h : Caps s) : Caps (outTake agent k s) := by
  dsimp only [Machine.outTake]
  refine .ite ?_ h.upd
  split
  · exact h.upd
  · exact h.upd.epUpd
theorem rxDrop (h : Caps s) : Caps (rxDrop s) := h.usbUpd.cancel
theorem usbFlush (h : Caps s) : Caps (usbFlush s) := h.usbEmpty.rxDrop
theorem setHubBit {i : Nat} {b : Bool} (h : Caps s) : Caps (setHubBit i b s) := h.usbUpd
theorem portConnect (h : Caps s) : Caps (portConnect s) := h.setHubBit
theorem usbReconnect (h : Caps s) : Caps (usbReconnect s) := .ite h h.usbUpd.portConnect.setHubBit.restart
theorem usbDetach (h : Caps s) : Caps (usbDetach s) := h.setFst.put.put.put.cancel.usbUpd.usbFlush.locksOf
theorem usbAttach (h : Caps s) : Caps (usbAttach s) := .ite h.setFst.portConnect h
theorem usbCtlWrite {w : Word} (h : Caps s) : Caps (usbCtlWrite w s) := have h1 := h.store; .ite h1.usbAttach (.ite h1.usbUpd h1.usbUpd.usbDetach)

/-! ### Machine/View.lean -/

theorem snapshot {j : Nat} (h : Caps s) : Caps (snapshot j s) := .ite h h.upd.logReq
theorem logAct {arg : BitVec 16} {action : Byte} (h : Caps s) : Caps (logAct arg action s) := by
  dsimp only [Machine.logAct]
  split
  · exact h.snapshot
  · exact h.logFwEntry
  · exact h

/-! ### Machine/Evm.lean -/

theorem evmStore {a : Nat} {v : Word} (h : Caps s) : Caps (evmStore a v s) := (Caps.ite h h.upd).wr
theorem sinkWrite {c : Fin 32} {j : Fin 4} {v : Word} (h : Caps s) : Caps (sinkWrite c j v s) := by
  dsimp only [Machine.sinkWrite]
  refine .ite h.evmStore ?_
  split
  · exact h.evmStore
  · exact h.evmStore.setBit.put.logReq
theorem modeWrite {c : Fin 32} {v : Word} (h : Caps s) : Caps (modeWrite c v s) := .ite h.evmStore.put.logReq h.evmStore
theorem swTrig {arg : BitVec 16} (h : Caps s) : Caps (swTrig arg s) := h.upd
theorem evmAct {arg : BitVec 16} {action : Byte} (h : Caps s) : Caps (evmAct arg action s) := .ite h.swTrig h

/-! ### Machine/Block.lean -/

theorem blockHidden {id : Nat} {s0 : State} (h : Caps s) : Caps (blockHidden id s0 s) := by
  dsimp only [Machine.blockHidden]
  split
  · exact h.upd
  · exact
      have h1 := h.upd.each fun h => .iteApply h.gLoadFactory (.iteApply h.gLoadFactory h.gLoadFactory)
      .ite h1.lopEnd h1
  · exact h.upd
  · exact h.upd
  · exact h.upd
  · exact h.upd
  · exact h.upd
  · exact h.upd
  · exact h.upd
  · exact h.upd
  · exact h.upd
  · exact h.upd
  · exact h.upd
  · exact h.upd
  · exact (Caps.ite h.lopEnd h).upd.each fun h => h.wr.put
  · exact h.upd.put.put
  · exact h
theorem blockReset {id : Nat} (h : Caps s) : Caps (blockReset id s) :=
  have h1 : Caps { s with
      regs := mapEraseRange s.regs (0x40000000 + id * 65536) (0x40000000 + id * 65536 + 65536)
      live := mapEraseRange s.live (0x40000000 + id * 65536) (0x40000000 + id * 65536 + 65536) } :=
    h.upd
  h1.upd.blockHidden.each fun h => h.showPend
theorem blockResetAct {arg : BitVec 16} (h : Caps s) : Caps (blockResetAct arg s) := .ite h.blockReset h.put.logReq
theorem pwrAct {arg : BitVec 16} {action : Byte} (h : Caps s) : Caps (pwrAct arg action s) := .ite h.blockResetAct h

/-! ### Machine/Clock.lean -/

theorem xinSchedule (h : Caps s) : Caps (xinSchedule s) := by
  dsimp only [Machine.xinSchedule]
  split
  · exact h.cancel.cancel
  · exact .ite h.cancel.cancel.after (.ite h.cancel.cancel.after h.cancel.cancel)
theorem xinSelect (h : Caps s) : Caps (xinSelect s) := h.put.put
theorem xinReturnTo {by_ : Nat} (h : Caps s) : Caps (xinReturnTo by_ s) := .ite h.xinSelect.put.logReq.cancel h
theorem clkCfgWrite {v : Word} (h : Caps s) : Caps (clkCfgWrite v s) := h.wr.xinSchedule

/-! ### Machine/Derive.lean -/

theorem storeIf {a : Nat} {w : Word} (h : Caps s) : Caps (s.storeIf a w) := .ite h h.store
theorem deriveFld {f : Fld} {v : Nat} (h : Caps s) : Caps (s.deriveFld f v) := h.storeIf
theorem mrvDerive {r : Fin 4} (h : Caps s) : Caps (mrvDerive r s) :=
  h.storeIf.storeIf.storeIf.storeIf.deriveFld.deriveFld.deriveFld.deriveFld.deriveFld
theorem motDerive {m : Fin 4} (h : Caps s) : Caps (motDerive m s) := h.deriveFld.deriveFld
theorem capDerive (h : Caps s) : Caps (capDerive s) := h.deriveFld.each fun h => h.deriveFld.deriveFld
theorem twDerive {n : Fin 2} (h : Caps s) : Caps (twDerive n s) := h.deriveFld.deriveFld.deriveFld.deriveFld
theorem xspiDerive (h : Caps s) : Caps (xspiDerive s) := h.deriveFld.deriveFld
theorem rateDerive {d : Fin 8} (h : Caps s) : Caps (rateDerive d s) := .ite h.put.put h.put.put.commitRate
theorem deriveBlock {id : Nat} (h : Caps s) : Caps (deriveBlock id s) := by
  dsimp only [Machine.deriveBlock]
  split
  · exact h.each fun h => h.mrvDerive
  · exact h.twDerive.twDerive
  · exact h.each fun h => h.motDerive
  · exact h.capDerive
  · exact h.xspiDerive
  · exact h
theorem expertLoad {id : Nat} (h : Caps s) : Caps (expertLoad id s) := by
  dsimp only [Machine.expertLoad]
  split
  · exact (h.each fun h => h.each fun h => h.storeIf).deriveBlock.xinSchedule
  · exact (h.each fun h => h.each fun h => h.storeIf).deriveBlock.each fun h => h.rateDerive.holdToDerive
  · exact (h.each fun h => h.each fun h => h.storeIf).deriveBlock.gNext.gNext.gNext
  · exact (h.each fun h => h.each fun h => h.storeIf).deriveBlock.each fun h => h.vthWritten.hicWritten.limitWritten
  · exact (h.each fun h => h.each fun h => h.storeIf).deriveBlock.showPends
  · exact (h.each fun h => h.each fun h => h.storeIf).deriveBlock.each fun h => h.deriveFld
  · exact (h.each fun h => h.each fun h => h.storeIf).deriveBlock.periodicArm
  · exact (h.each fun h => h.each fun h => h.storeIf).deriveBlock.each fun h => h.stallWatch
  · exact (h.each fun h => h.each fun h => h.storeIf).deriveBlock

/-! ### Machine/Bus.lean -/

theorem busFail (h : Caps s) : Caps (busFail s) := h.upd
theorem unanswered {agent : Agent} (h : Caps s) : Caps (unanswered agent s) := (Caps.ite h.upd h).busFail
theorem cfgAnswer {f : State → State} (h : Caps s) (hf : ∀ {t}, Caps t → Caps (f t)) : Caps (cfgAnswer f s) := .ite (hf h) h.busFail
theorem readClear {a : Nat} {event : Word} (h : Caps s) : Caps (readClear a event s) := by
  dsimp only [Machine.readClear]
  split
  · exact h
  · exact .ite h h.wr.upd
theorem calRead {agent : Agent} {w : Nat} (h : Caps s) : Caps (calRead agent w s) := .ite h.eccFix.eccUe.draw.upd h.eccFix.upd
theorem readHard {agent : Agent} {a : Nat} {t : State} (h : Caps s) (e : readHard agent a s = some t) : Caps t := by
  dsimp only [Machine.readHard] at e
  split at e
  · obtain ⟨w, -, rfl⟩ := Option.map_eq_some_iff.mp e
    exact h.calRead
  · split at e
    · exact Option.some.inj e ▸ h.upd.pwrUpd
    · split at e
      · exact Option.some.inj e ▸ h.upd.wr
      · exact Option.some.inj e ▸ h.cuCaptureRead
      · obtain ⟨n, -, rfl⟩ := Option.map_eq_some_iff.mp e
        exact h.cuCountRead
theorem readIo {agent : Agent} {a : Nat} {t : State} (h : Caps s) (e : readIo agent a s = some t) : Caps t := by
  dsimp only [Machine.readIo] at e
  split at e
  · exact Option.some.inj e ▸ h.takeSlot
  · split at e
    · exact Option.some.inj e ▸ h.queuePop
    · exact Option.some.inj e ▸ h.gobAlloc
    · exact Option.some.inj e ▸ h.outTake
    · cases e
theorem busRead {agent : Agent} {a0 : Nat} {event : Word} (h : Caps s) : Caps (busRead agent a0 event s) := by
  dsimp only [Machine.busRead]
  refine .ite (h.upd.cfgAnswer fun h => h.upd) (.ite h.upd.unanswered (.ite h.upd.upd (.ite (.ite h.upd.mbDeny h.upd.mbxRead.readClear) ?_)))
  split
  next e => exact h.upd.readHard e
  · split
    next e1 => exact h.upd.readIo e1
    · exact h.upd.upd.readClear
theorem actionOf {a : Nat} {arg : BitVec 16} {action : Byte} (h : Caps s) : Caps (actionOf a arg action s) := by
  dsimp only [Machine.actionOf]
  split
  · exact .ite (.ite h h.put) h
  · exact .ite h.xinReturnTo h
  · exact h.angAct
  · exact h.gathAct
  · exact h.mrvAct
  · exact h.protAct
  · exact h.edgeAct
  · exact h.aprAct
  · exact h.cntAct
  · exact h.evmAct
  · exact .ite h.trioReset (.ite h.wdtKick h)
  · exact h.lcsAct
  · exact h.hifAct
  · exact .ite h.lockBreak h
  · exact h.twAct
  · exact .ite h.usbReconnect h
  · exact .ite h.motClear (.ite h.motInert (.ite h.motRelease h))
  · exact .ite h.setPos h
  · exact .ite h.scanRequest (.ite h.learnStart (.ite h.capRecal (.ite h.learnAbort h)))
  · exact h.pwrAct
  · exact h.logAct
  · exact .ite h.xspiExec h
  · exact .ite h.verifyStart h
  · exact h
theorem actWrite {a : Nat} {ticket : Byte} {arg : BitVec 16} {action : Byte} (h : Caps s) : Caps (actWrite a ticket arg action s) :=
  .ite (.ite h Caps.deviceReset.after) (h.act fun h => h.actionOf)
theorem onAt {a base n stride : Nat} {f : Nat → State} (h : Caps s) (hf : ∀ {x}, Caps (f x)) : Caps (onAt a base n stride f s) := by
  dsimp only [Machine.onAt]
  split
  · exact hf
  · exact h
theorem cmpCtlWrite {r : Fin 4} {v : Word} (h : Caps s) : Caps (cmpCtlWrite r v s) := have h1 := Caps.ite h.wr.uvRelease h.wr; .ite h1.ovRelease h1
theorem rotWrite {v : Word} (h : Caps s) : Caps (rotWrite v s) := h.wr.gNext.gNext.gNext
theorem writeAngle {a : Nat} {v : Word} (h : Caps s) : Caps (writeAngle a v s) :=
  .ite h.clkCfgWrite (.ite h.syncCtlWrite (.ite h.railmapWrite (.ite h.rotWrite (((((((((Caps.ite h.seqEntWrite h.store).onAt h.seqStampWrite).onAt
    h.seqCtlWrite).onAt h.cmpCtlWrite).onAt h.acuStampWrite).onAt h.acuCtlWrite).onAt h.ratehWrite).onAt h.freqWrite).onAt h.angCtlWrite))))
theorem writeRail {a : Nat} {v : Word} (h : Caps s) : Caps (writeRail a v s) :=
  .ite h.aprCtlWrite (.ite h.aprTelWrite (((((((((((Caps.ite h.store.showPends (.ite h.edgeMapWrite h.store)).onAt
    (h.store.when fun h => h.parAbort)).onAt h.edgeMapWrite).onAt h.edgeCtlWrite).onAt h.respWrite).onAt h.wr.limitWritten).onAt
    h.wr.hicWritten).onAt h.wr.vthWritten).onAt h.updWrite).onAt h.vspmbWrite).onAt h.vshostWrite))
theorem writeCore {agent : Agent} {a : Nat} {v : Word} (h : Caps s) : Caps (writeCore agent a v s) := by
  dsimp only [Machine.writeCore]
  split
  · exact ((((h.store.onAt h.cuPeriodWrite).onAt h.cuMatchWrite).onAt h.cuMatchWrite).onAt h.cuCountWrite).onAt h.cuCtlWrite
  · exact ((Caps.ite h.sinkWrite h.store).onAt h.modeWrite).onAt h.evmStore
  · exact .ite h.wr.wdtResume (.ite h.wr.periodicArm (.ite (.ite h.wr.wakeUp h.wr) h.store))
  · exact h.hifWrite
theorem attnenWrite {n : Fin 2} {v : Word} (h : Caps s) : Caps (attnenWrite n v s) := .ite h.wr h.wr.attnKick
theorem twCtlWrite {n : Fin 2} {v : Word} (h : Caps s) : Caps (twCtlWrite n v s) := have h1 := Caps.ite h.wr h.wr.twUpd; .ite h1.attnKick h1
theorem writeIo {a : Nat} {v : Word} (h : Caps s) : Caps (writeIo a v s) :=
  .ite h.usbCtlWrite ((Caps.iteApply (.iteApply h.rspcWrite h.rspdWrite) (((h.store.onAt h.regionWrite).onAt h.avsCtlWrite).onAt
    h.attnenWrite)).onAt h.twCtlWrite)
theorem writeMotor {agent : Agent} {a : Nat} {v : Word} (h : Caps s) : Caps (writeMotor agent a v s) :=
  .ite h.capCtlWrite (.ite (.ite h.pwrUpd h) (.ite (.ite h.pwrUpd h) (((((((((h.store.onAt h.dryWrite).onAt h.fbCtlWrite).onAt h.wr.stallWatch).onAt
    h.wr.stallWatch).onAt h.wr.stallWatch).onAt h.motLimWrite).onAt h.motThofsWrite).onAt h.motRespWrite).onAt (.ite h.motEnable h.motDisable))))
theorem writeEffect {agent : Agent} {a : Nat} {v : Word} (h : Caps s) : Caps (writeEffect agent a v s) := by
  dsimp only [Machine.writeEffect]
  split
  · exact h.writeAngle
  · exact h.writeAngle
  · exact h.writeAngle
  · exact h.writeRail
  · exact h.writeRail
  · exact h.writeRail
  · exact h.writeRail
  · exact h.writeCore
  · exact h.writeCore
  · exact h.writeCore
  · exact h.writeCore
  · exact h.writeIo
  · exact h.writeIo
  · exact h.writeIo
  · exact h.writeMotor
  · exact h.writeMotor
  · exact h.writeMotor
  · exact h.writeMotor
  · exact h.store
theorem flagClear {agent : Agent} {a : Nat} {v event : Word} (h : Caps s) : Caps (flagClear agent a v event s) := by
  dsimp only [Machine.flagClear]
  split
  · exact h
  · exact
      have h1 := h.wr
      .ite h (.ite (.ite h1.wr h1) (.ite h1.imoAll (.ite h1.motWatchAll h1)))
theorem fieldWrite {agent : Agent} {a : Nat} {v event : Word} (h : Caps s) : Caps (fieldWrite agent a v event s) := by
  dsimp only [Machine.fieldWrite]
  split
  · exact h
  · exact
      have h1 := Caps.ite h.flagClear.wr.expertLoad h.flagClear
      have h2 := Caps.ite h1 h1.inc
      .ite h2 (.ite h2.writeEffect h2.writeEffect.deriveBlock)
theorem mbxWriteReg {agent : Agent} {a : Nat} {v : Word} (h : Caps s) : Caps (mbxWriteReg agent a v s) :=
  .ite h.inc (.ite (.ite h (.ite h.inc (.ite h.actWrite (.ite h (.ite h.fieldWrite h.fieldWrite.locktoChanged)))))
    (.ite h (.ite h.lockWrite (.ite h.sendWrite (.ite h.dataWrite h)))))
theorem gobWrite {agent : Agent} {a : Nat} {v : Word} {other : State} (h : Caps s) (k : Caps other) : Caps (gobWrite agent a v other s) :=
  (k.onAt h.inPush).onAt h.gobRelease
theorem irqSeen {a : Nat} (h : Caps s) : Caps (irqSeen a s) := .ite h.wakeUp h
theorem busWrite {agent : Agent} {a0 : Nat} {v event : Word} (h : Caps s) : Caps (busWrite agent a0 v event s) := by
  dsimp only [Machine.busWrite]
  refine .ite (h.upd.cfgAnswer fun h => h.cfgWrite) (.ite h.upd.unanswered (.ite h.upd.put
    (.ite (.ite h.upd.msixWrite h.upd) (.ite h.upd.mbxWriteReg ?_))))
  split
  · exact h.upd
  · exact .ite h.upd.actWrite (.ite (h.upd.gobWrite h.upd.fieldWrite) h.upd.fieldWrite.irqSeen)

/-! ### Machine/Shauc.lean -/

theorem fetchFault (h : Caps s) : Caps (fetchFault s).1 := by
  dsimp only [Machine.fetchFault]
  split
  · exact h
  · refine .iteFst h ?_
    split <;> next e => exact h.memRead.eqFst e
theorem loadBytes {n a : Nat} (h : Caps s) : Caps (loadBytes n a s).1 := by
  unfold Machine.loadBytes
  split
  · exact .iteFst h (show Caps (Machine.busRead .trio a 0 s) from h.busRead)
  · exact h.memRead
theorem storeBytes {a : Nat} {l : List Byte} (h : Caps s) : Caps (storeBytes a l s).1 := by
  unfold Machine.storeBytes
  split
  · exact .iteFst h (show Caps (Machine.busWrite .trio a (wordOfBytes l) 0 s) from h.busWrite)
  · exact h.memWrite
theorem storeTagged {a : Nat} {l : List Byte} {tag : Bool} (h : Caps s) : Caps (storeTagged a l tag s).1 := by
  dsimp only [Machine.storeTagged]
  split
  next e => exact .ite (h.storeBytes.eqFst e).setTag (h.storeBytes.eqFst e)
  · exact h.storeBytes

end Caps

end Sys2Proof.Machine
end

section
/-!
PROOFS. O59: no instruction of the Trio that accesses no memory makes an ill-formed tagged capability.
-/
namespace Sys2Proof.Machine

theorem capsOk_iff_caps (s : State) : CapsOk s ↔ Caps s :=
  ⟨fun ⟨hregs, htc7, hpcc, htepcc, htvec, hg0⟩ => ⟨hregs, htc7, hpcc, htepcc, htvec, hg0⟩,
    fun ⟨⟨hregs, htc7, hpcc, htepcc, htvec, hg0⟩⟩ => ⟨hregs, htc7, hpcc, htepcc, htvec, hg0⟩⟩

theorem firstFail_none_iff {l : List (Bool × Nat × Nat)} : firstFail l = none ↔ ∀ p ∈ l, p.1 = false := by
  induction l with
  | nil => simp [firstFail]
  | cons p l ih =>
    obtain ⟨b, cause, r⟩ := p
    cases b <;> simp [firstFail, ih]

/-- An instruction's answer keeps the capabilities, and so does what takes effect after it. -/
def Res.Caps : Res → Prop
  | .done s f => Machine.Caps s ∧ ∀ {t}, Machine.Caps t → Machine.Caps (f t)
  | .goto _ s | .branch _ s | .skip _ s | .trap _ _ _ s => Machine.Caps s

/-- A meaning answers a next state, with its capabilities kept. -/
def CapsOut (o : Out) : Prop := ∃ t, o = .next t ∧ Caps t

theorem Res.Caps.ite {c : Prop} {_ : Decidable c} {r q : Res} (h : c → r.Caps) (k : ¬c → q.Caps) : (if c then r else q).Caps := by
  split
  next hc => exact h hc
  next hc => exact k hc

namespace Caps

variable {s : State}

theorem done {f : State → State} (h : Caps s) (hf : ∀ {t}, Caps t → Caps (f t)) : (Res.done s f).Caps := ⟨h, hf⟩
theorem goto {pc : Word} (h : Caps s) : (Res.goto pc s).Caps := h
theorem branch {pc : Word} (h : Caps s) : (Res.branch pc s).Caps := h
theorem skip {last : Word} (h : Caps s) : (Res.skip last s).Caps := h
theorem trap {cause : Nat} {tval : Word} {cap : Option Nat} (h : Caps s) : (Res.trap cause tval cap s).Caps := h

/-! ### An instruction at its boundary -/

theorem settleRes {r : Res} (h : r.Caps) : Caps (settleRes r) := by
  cases r with
  | done s f => exact .ite (h.2 (h.1.coreUpd fun h => h.loopBack _ _)) h.1
  | goto pc s => exact .ite (coreUpd h fun h => h.upd) h
  | branch pc s => exact .ite (coreUpd h fun h => (h.endLevels _ _).upd) h
  | skip last s => exact .ite (coreUpd h fun h => h.loopBack _ _) h
  | trap cause tval cap s => exact takeTrap h

theorem instr {body : State → Res} (h : Caps s) (hbody : ∀ {t}, Caps t → (body t).Caps) : CapsOut (instr body s) := by
  refine ⟨_, rfl, .ite h ?_⟩
  split
  · exact h.takeTrap
  · split
    next e => exact (h.fetchFault.eqFst e).takeTrap
    next e => exact (settleRes (hbody (h.fetchFault.eqFst e))).highWater

/-! ### What the instructions share -/

theorem writeReg {k : Nat} {v : Word} (h : Caps s) : (writeReg k v s).Caps := (h.coreUpd fun h => h.setReg _ _).done id
theorem aluR {f : Word → Word → Word} {w : Word} (h : Caps s) : (aluR f w s).Caps := h.writeReg
theorem aluN {f : Word → Nat → Word} {n : Nat} {w : Word} (h : Caps s) : (aluN f n w s).Caps := h.writeReg
theorem aluI {f : Word → Word → Word} {imm w : Word} (h : Caps s) : (aluI f imm w s).Caps := h.writeReg
theorem condBranch {f : Word → Word → Bool} {w : Word} (h : Caps s) : (condBranch f w s).Caps := .ite (fun _ => h.branch) fun _ => h.done id
theorem priv {cS : Nat} {w : Word} {body : State → Res} (h : Caps s) (hbody : (body s).Caps) : (priv cS w body s).Caps :=
  .ite (fun _ => hbody) fun _ => h.trap
theorem windowMove {new : BitVec 3} {w : Word} (h : Caps s) : (windowMove new w s).Caps := (h.coreUpd fun h => h.upd.setReg _ _).done id
theorem loopStart {count w : Word} (h : Caps s) : (loopStart count w s).Caps :=
  .ite (fun _ => h.trap) fun _ => .ite (fun _ => h.skip) fun _ => (h.coreUpd fun h => h.upd).goto
theorem writeCap {w : Word} {v : Cap} (h : Caps s) (hv : v.wf = true) : (writeCap w v s).Caps := (h.coreUpd fun h => h.setCap _ hv).done id

/-- Checks in order: the effect runs only where none fails. -/
theorem checked {l : List (Bool × Nat × Nat)} {tval : Word} {body : State → Res} (h : Caps s) (hbody : firstFail l = none → (body s).Caps) :
    (checked l tval body s).Caps := by
  unfold Machine.checked
  split
  · exact h.trap
  next hl => exact hbody hl

theorem cs1 (h : Caps s) (w : Word) : (cs1 w s).wf = true := h.core.cap _
theorem cs2 (h : Caps s) (w : Word) : (cs2 w s).wf = true := h.core.cap _

/-- ATRIMLO and ATRIMLEN: past the checks, rs1 lies within the length. -/
theorem trim {f : Cap → Nat → Cap} {w : Word} (h : Caps s) (hf : ∀ {c : Cap} {v : Nat}, c.wf = true → v ≤ c.len → (f c v).wf = true) :
    (trim f w s).Caps :=
  h.checked fun hpass => by
    have hlast := firstFail_none_iff.mp hpass _ (List.getLast_mem (List.cons_ne_nil _ _))
    exact h.writeCap (hf (h.cs1 w) (Nat.not_lt.mp (of_decide_eq_false hlast)))

/-! ### Reserved encodings (R278) -/

theorem reservedWord {w : Word} (h : Caps s) : Caps (reservedWord w s).2 := h.draw
theorem reservedRegs {w : Word} (h : Caps s) : Caps (reservedRegs w s) := h.each fun h => h.draw.coreUpd fun h => h.setReg _ _

/-- A free load, store or capability store. -/
theorem reservedMove {b d : Prop} {_ : Decidable b} {_ : Decidable d} {n a a' a'' : Nat} {l l' : List Byte} {tag : Bool} (h : Caps s) :
    Caps (if b then Machine.loadBytes n a s else if d then Machine.storeTagged a' l tag s else Machine.storeBytes a'' l' s).1 :=
  .iteFst h.loadBytes (.iteFst h.storeTagged h.storeBytes)

theorem reservedAccess {w : Word} (h : Caps s) : Caps (reservedAccess w s).1 := by
  have h1 := h.draw.draw.draw
  dsimp only [Machine.reservedAccess]
  split
  · exact h1
  · split
    next e => exact h1.reservedMove.eqFst e
    next e => exact h1.reservedMove.eqFst e

theorem reservedAccesses {w : Word} {n : Nat} (h : Caps s) : Caps (reservedAccesses w n s).1 := by
  induction n generalizing s with
  | zero => exact h
  | succ n ih =>
    dsimp only [Machine.reservedAccesses]
    split
    next e =>
      split
      · exact ih (h.reservedAccess.eqFst e)
      · exact h.reservedAccess.eqFst e
    · exact h.reservedAccess

theorem reservedTrap {w : Word} (h : Caps s) : (reservedTrap w s).Caps := (Caps.ite (h.draw.draw.coreUpd fun h => h.upd) h.draw.draw).trap

theorem reserved {w : Word} (h : Caps s) : (reserved w s).Caps := by
  have hrun {n : Nat} := h.reservedWord (w := w) |>.reservedAccesses (w := w) (n := n)
  dsimp only [Machine.reserved]
  split
  next e => exact (hrun.eqFst e).trap
  next e =>
    have hregs := (hrun.eqFst e).draw.reservedRegs (w := w)
    exact .ite (fun _ => (hrun.eqFst e).done id) fun _ => .ite (fun _ => hregs.reservedTrap) fun _ => hregs.goto

/-! ### The instructions with a meaning of their own -/

theorem execJmpl {w : Word} (h : Caps s) : CapsOut (execJmpl w s) :=
  h.instr fun h => .ite (fun _ => h.trap) fun _ => (h.coreUpd fun h => h.setReg _ _).goto
theorem execWopen {w : Word} (h : Caps s) : CapsOut (execWopen w s) := h.instr fun h => .ite (fun _ => h.trap) fun _ => h.windowMove
theorem execWclose {w : Word} (h : Caps s) : CapsOut (execWclose w s) := h.instr fun h => .ite (fun _ => h.trap) fun _ => h.windowMove
theorem execRdsr {w : Word} (h : Caps s) : CapsOut (execRdsr w s) := by
  refine h.instr fun h => ?_
  split
  · exact h.priv h.writeReg
  · exact h.writeReg
theorem execWrsr {w : Word} (h : Caps s) : CapsOut (execWrsr w s) :=
  h.instr fun h => h.priv (h.done fun h => h.coreUpd fun h => h.setSr _ _)
/-- TRET: PCC takes TEPCC, which is well-formed. -/
theorem execTret {w : Word} (h : Caps s) : CapsOut (execTret w s) :=
  h.instr fun h => h.priv (h.coreUpd fun h => (h.setPcc h.tepcc).upd).goto
theorem execWfi {w : Word} (h : Caps s) : CapsOut (execWfi w s) := by
  refine h.instr fun h => h.priv (h.done fun h => ?_)
  split
  · exact h
  · exact h.ckptStart

theorem execAmask {w : Word} (h : Caps s) : CapsOut (execAmask w s) := h.instr fun h => h.checked fun _ => h.writeCap (wf_setPerm (h.cs1 w) _)

/-- ALOCK seals with a type that its checks have found other than 0. -/
theorem execAlock {w : Word} (h : Caps s) : CapsOut (execAlock w s) :=
  h.instr fun h => h.checked fun hpass => by
    have hlast := firstFail_none_iff.mp hpass _ (List.getLast_mem (List.cons_ne_nil _ _))
    exact h.writeCap (wf_sealed (h.cs1 w) (by simpa using (Bool.or_eq_false_iff.mp hlast).1))

theorem execAunlock {w : Word} (h : Caps s) : CapsOut (execAunlock w s) := h.instr fun h => h.checked fun _ => h.writeCap (wf_unsealed (h.cs1 w))
theorem execAjump {w : Word} (h : Caps s) : CapsOut (execAjump w s) :=
  h.instr fun h => h.checked fun _ => .ite (fun _ => h.trap) fun _ => (h.coreUpd fun k => k.setPcc (h.cs1 w)).goto
theorem execAenter {w : Word} (h : Caps s) : CapsOut (execAenter w s) :=
  h.instr fun h => h.checked fun _ => (h.coreUpd fun k => (k.setCap _ (wf_unsealed (h.cs2 w))).setPcc (wf_unsealed (h.cs1 w))).goto
theorem execArdspc {w : Word} (h : Caps s) : CapsOut (execArdspc w s) := by
  refine h.instr fun h => h.priv ?_
  split
  · exact h.writeCap h.core.pcc
  · exact h.writeCap h.core.tepcc
  · exact h.writeCap h.core.tvec
  · exact h.reserved
theorem execAwrspc {w : Word} (h : Caps s) : CapsOut (execAwrspc w s) := by
  refine h.instr fun h => h.priv ?_
  split
  · exact (h.coreUpd fun k => k.setTepcc (h.cs1 w)).done id
  · exact (h.coreUpd fun k => k.setTvec (h.cs1 w)).done id
  · exact h.reserved

/-- Every instruction without a data access keeps the capabilities. -/
theorem exec_of_noAccess (h : Caps s) {i : Instr} (hi : noAccess i = true) : CapsOut (exec i s) := by
  cases i with
  | add _ | sub _ | and_ _ | or_ _ | xor _ | slt _ | sltu _ | min _ | max _ | minu _ | maxu _ | mul _ | mulh _ | mulhu _ | madd _ | msub _
  | div _ | divu _ | rem _ | remu _ => exact h.instr fun h => h.aluR
  | sll _ | srl _ | sra _ | slli _ | srli _ | srai _ | sati _ => exact h.instr fun h => h.aluN
  | addi _ | andi _ | ori _ | xori _ | slti _ | sltiu _ => exact h.instr fun h => h.aluI
  | lui _ | ardbase _ | ardlen _ | ardperm _ | ardtype _ | ardtag _ | awithin _ => exact h.instr fun h => h.writeReg
  | beq _ | bne _ | blt _ | bge _ | bltu _ | bgeu _ => exact h.instr fun h => h.condBranch
  | j _ => exact h.instr fun h => h.branch
  | call _ => exact h.instr fun h => (h.coreUpd fun h => h.setReg _ _).goto
  | jmpl _ => exact h.execJmpl
  | loop _ | loopi _ => exact h.instr fun h => h.loopStart
  | wopen _ => exact h.execWopen
  | wclose _ => exact h.execWclose
  | rdsr _ => exact h.execRdsr
  | wrsr _ => exact h.execWrsr
  | trap _ | bkpt _ | definedIllegal _ => exact h.instr fun h => h.trap
  | tret _ => exact h.execTret
  | wfi _ => exact h.execWfi
  | ckpt _ => exact h.instr fun h => h.priv (h.done fun h => h.ckptStart)
  | reservedEncoding _ => exact h.instr fun h => h.reserved
  | acpy w => exact h.instr fun h => h.writeCap (h.cs1 w)
  | avoid _ => exact h.instr fun h => h.writeCap (wf_untagged rfl)
  | ardpcc _ => exact h.instr fun h => h.writeCap h.core.pcc
  | atrimlo _ => exact h.instr fun h => h.trim fun hwf hle => wf_trimLo hwf hle
  | atrimlen _ => exact h.instr fun h => h.trim fun hwf hle => wf_setLen hwf hle
  | amask _ => exact h.execAmask
  | alock _ => exact h.execAlock
  | aunlock _ => exact h.execAunlock
  | ajump _ => exact h.execAjump
  | aenter _ => exact h.execAenter
  | ardspc _ => exact h.execArdspc
  | awrspc _ => exact h.execAwrspc
  | _ => exact Bool.noConfusion hi

end Caps

/-- Settles O59: what each instruction shares keeps the capabilities, and each instruction is built of it. -/
theorem instructionsKeepCapabilities : Obligations.InstructionsKeepCapabilities := by
  intro i s hi h
  obtain ⟨t, ht, hc⟩ := ((capsOk_iff_caps s).mp h).exec_of_noAccess hi
  exact ⟨t, ht, (capsOk_iff_caps t).mpr hc⟩

end Sys2Proof.Machine
end

section
/-!
PROOFS. The capability state after a device reset and after a Trio-only reset (R287): either puts the cores at their reset values, and what a
Trio-only reset does after that leaves them alone.
-/
namespace Sys2Proof.Machine

variable {s t : State}

/-- The cores are as before. -/
def SameCore (s t : State) : Prop := t.trio.core = s.trio.core

theorem SameCore.refl (s : State) : SameCore s s := rfl

theorem SameCore.trans {u : State} (h : SameCore s t) (k : SameCore t u) : SameCore s u := Eq.trans k h

theorem SameCore.each {α : Type} (h : SameCore s t) (l : List α) {f : α → State → State} (hf : ∀ x v, SameCore v (f x v)) :
    SameCore s (t.each l f) :=
  h.trans (State.each_rel SameCore .refl (fun _ _ _ => .trans) l f hf t)

theorem putBit_sameCore (f : Fld) (i : Nat) (b : Bool) (s : State) : SameCore s (s.putBit f i b) := by
  cases b <;> rfl

theorem setReq_sameCore (d : Nat) (v : Bool) (s : State) : SameCore s (setReq d v s) := by
  unfold setReq
  split <;> exact putBit_sameCore _ _ _ _

theorem wipeBank_sameCore (d : Nat) (s : State) : SameCore s (wipeBank d s) := rfl

theorem updDiscard_sameCore (r : Fin 4) (s : State) : SameCore s (updDiscard r s) := by
  have hwords : SameCore s (s.each (s.shadow.filter fun p => shadowMine r p s) fun p t => t.wr p.addr (inForce r p.addr t)) :=
    (SameCore.refl s).each _ fun _ _ => rfl
  have hlog : ∀ (c : Bool) (v : State), SameCore v (v.when c fun t => t.logReq 0x04 0x0003 [b8 r]) := fun c _ => by cases c <;> rfl
  exact hwords.trans (hlog _ _)

theorem lockBreak_sameCore (k cause : Nat) (s : State) : SameCore s (lockBreak k cause s) := by
  unfold lockBreak
  split
  · exact .refl s
  · exact congrArg TrioSt.core (logLimited_eccOnly _ _ _ _ _).trio

theorem locksOf_sameCore (id : Nat) (s : State) : SameCore s (locksOf id s) :=
  (SameCore.refl s).each _ fun k v => by
    split
    · exact lockBreak_sameCore k 2 v
    · exact .refl v

/-- The cores take their reset values before the requests, the wipes, the discards and the locks' releases (R320). -/
theorem trioReset_core (hrun : s.trio.run = true) (cause offset : Nat) : (trioReset cause offset s).trio.core = {} := by
  unfold trioReset
  rw [if_neg (by simp [hrun])]
  exact (((SameCore.refl _).each _ fun _ _ => setReq_sameCore _ _ _).each _ fun _ _ => wipeBank_sameCore _ _).each _
    (fun _ _ => updDiscard_sameCore _ _) |>.trans (locksOf_sameCore 1 _)

theorem deviceReset_core (bit : Nat) (s : State) : (deviceReset bit s).trio.core = {} := rfl

/-- DEVRESET with its key and a fresh ticket is a device reset whose cause ends at once (R515). -/
theorem devreset_of_fresh {ticket : Byte} (hfresh : Fresh Reg.SYS_ACT ticket s) :
    exec (.devreset ticket 0x5A5A) s = .next ((deviceReset 2 s).after 0 .startup) := by
  have hnot : ¬(ticket ≠ 0 ∧ ticket = (s.rd Reg.SYS_ACT).extractLsb' 24 8) := fun ⟨h0, heq⟩ => hfresh.elim h0 fun hne => hne heq
  show execDevreset ticket 0x5A5A s = _
  rw [execDevreset, if_neg hnot, if_pos rfl]

/-- TRIO_ACT's reset action with a fresh ticket is a Trio-only reset, which the word of the action follows (R20, R320). -/
theorem trioResetAction_of_fresh {ticket : Byte} (arg : BitVec 16) (hfresh : Fresh Reg.TRIO_ACT ticket s) : exec (.trioResetAction ticket arg) s =
    .next ((trioReset 4 0 s).wr Reg.TRIO_ACT (actWord ticket (arg &&& argMask Reg.TRIO_ACT 1) 1)) :=
  congrArg Host.Outcome.next (State.act_fresh s Reg.TRIO_ACT ticket arg 1 (trioReset 4 0) hfresh)

theorem capsAtReset_of_core (h : t.trio.core = {}) : CapsAtReset t.trio.core := by
  rw [h]
  decide

/-- Settles O3: each of the resets leaves the cores at their reset values; root and the boot trap entry are fixed words. -/
theorem capabilityReset : Obligations.CapabilityReset := by
  unfold Obligations.CapabilityReset
  refine ⟨capsAtReset_of_core rfl, by decide, by decide, fun s ticket hfresh => ?_, fun s ticket arg hfresh hrun => ?_⟩
  · exact ⟨_, devreset_of_fresh hfresh, capsAtReset_of_core (deviceReset_core 2 s)⟩
  · exact ⟨_, trioResetAction_of_fresh arg hfresh, capsAtReset_of_core (trioReset_core hrun 4 0)⟩

end Sys2Proof.Machine
end

section
/-!
PROOFS. With INTV = 0 there are no periodic checkpoints (R314, R329); the clause on PERIODIC_CHECKPOINT asks for one in every running state.
-/
namespace Sys2Proof.Machine

theorem periodicCheckpoint_of_no_interval {s : State} (h : intvNs s = 0) : exec .periodicCheckpoint s = .next s := by
  show execPeriodicCheckpoint s = _
  rw [execPeriodicCheckpoint, h, if_neg (by simp)]

/-- The running Trio of `running`, whose firmware has set INTV to 0. -/
def intervalOff : State := running.put F.TRIO_CKCFG_INTV 0

theorem intervalOff_active : trioActive intervalOff = true := by decide +kernel

theorem intervalOff_intvNs : intvNs intervalOff = 0 := by decide +kernel

/-- Refutes O37: with INTV = 0 the periodic request is ignored (R329), and the first clause has no hypothesis on INTV. -/
theorem not_trioControl : ¬ Obligations.TrioControl := by
  unfold Obligations.TrioControl
  rintro ⟨hperiodic, -⟩
  obtain ⟨t, hrun, htrio, -⟩ := hperiodic intervalOff intervalOff_active
  have ht : intervalOff = t := Host.Outcome.next.inj ((periodicCheckpoint_of_no_interval intervalOff_intvNs).symm.trans hrun)
  have hckpt : intervalOff.trio.ckpt = true := ht ▸ congrArg TrioSt.ckpt htrio
  exact absurd hckpt (by decide +kernel)

end Sys2Proof.Machine
end

section
/-!
PROOFS. A W1C write of the pending IRQs in the cycle of a sink action that has already acted (R13, R321).
-/
namespace Sys2Proof.Machine

theorem implMask_irqPend : ∀ j : Fin 2, implMask (Reg.TRIO_IRQPENDj j) = BitVec.allOnes 32 := by decide +kernel

theorem irqPend_ne_irqClr : ∀ j : Fin 2, Reg.TRIO_IRQPENDj j ≠ Reg.TRIO_IRQCLRj j := by decide

/-- What is pending after the write: the bits it does not clear, those of the event that comes with it, and those it would clear that an event of the
cycle has already set. -/
theorem irqPendClear_pend (j : Fin 2) (value event : Word) (s : State) : ∃ t, exec (.irqPendClear j value event) s = .next t ∧
    t.rd (Reg.TRIO_IRQPENDj j) = (s.rd (Reg.TRIO_IRQPENDj j) &&& ~~~value) |||
      (event ||| (s.touched (Reg.TRIO_IRQPENDj j)).elim 0 fun e => e.clean &&& value) := by
  refine ⟨_, rfl, ?_⟩
  rw [State.rd_wr_ne _ _ _ _ (irqPend_ne_irqClr j), State.rd_wr_same, implMask_irqPend j, BitVec.and_allOnes]

/-- The running Trio of `running`, right after a sink action on IRQ 5. -/
def irqRaised : State := irqRaise 5 running

theorem pend_irqRaised : irqRaised.rd (Reg.TRIO_IRQPENDj (0 : Fin 2)) = 0x20 := by decide +kernel

/-- The cycle's own event has set bit 5. -/
theorem touched_irqRaised : (irqRaised.touched (Reg.TRIO_IRQPENDj (0 : Fin 2))).map (fun e => e.clean) = some 0x20 := by decide +kernel

/-- Refutes O38: its last clause lets only `event` survive the W1C write, but an IRQ that a sink action has already raised in the cycle of the write
stays pending, too (R13, R321). -/
theorem not_trioReset : ¬ Obligations.TrioReset := by
  unfold Obligations.TrioReset
  rintro ⟨-, -, -, -, -, hclear⟩
  obtain ⟨t, hrun, hgone, -⟩ := hclear irqRaised 0 0xFFFFFFFF 0
  obtain ⟨u, hrun', hstay⟩ := irqPendClear_pend 0 0xFFFFFFFF 0 irqRaised
  obtain rfl : u = t := Host.Outcome.next.inj (hrun'.symm.trans hrun)
  obtain ⟨e, htouched, hclean⟩ := Option.map_eq_some_iff.mp touched_irqRaised
  rw [htouched, Option.elim_some, hclean, hgone, pend_irqRaised] at hstay
  exact absurd hstay (by decide)

end Sys2Proof.Machine
end

section
/-!
PROOFS. A debug read of a word that holds a single-bit error (R331, R334).
-/
namespace Sys2Proof.Machine

/-- The word of `softLoad` with the single-bit error is corrected as the debug port reads it, and the correction is logged (R334). -/
theorem logCodes_debugRead_softLoad : logCodes (.authenticatedDebugPort 0 (.memRead 0x20000040)) softLoad = [0x0001] := by decide +kernel

/-- Refutes O56: a debug read corrects and logs a single-bit error (R334), while the clause on reads of shared SRAM excludes uncorrectable errors only
and lets no log request be made. -/
theorem not_testAccessPort : ¬ Obligations.TestAccessPort := by
  unfold Obligations.TestAccessPort
  rintro ⟨-, -, -, -, -, -, -, -, -, -, -, -, -, -, -, -, -, -, -, -, -, -, -, -, hread, -⟩
  obtain ⟨t, hrun, -, -, -, hlog, -⟩ := hread softLoad 0 16 (by decide +kernel) (by decide) (by decide +kernel) (by decide +kernel)
  have hcodes := logCodes_of_next hrun
  rw [show t.log.reqs = [] from hlog] at hcodes
  exact absurd (logCodes_debugRead_softLoad.symm.trans hcodes) (by decide)

end Sys2Proof.Machine
end

section
/-!
PROOFS. The log's full SRAM counts the entry that the log ring has just copied (R530, R534).
-/
namespace Sys2Proof.Machine

set_option Elab.async false

/-- An entry that waits in the log's queue. -/
def waitingEntry : LogEntry := { time := 0, angle := 0, block := 0, code := 0, data := [] }

/-- In STOP mode with the log ring in RUN, WIDX is 2047 entries ahead of HIDX, and HIF has copied the entry at HIDX in this very cycle. -/
def copiedWhileFull : State :=
  { (((State.reset.put F.LOG_CTL_FULLMODE 1).put (F.HIF_OR_STAT_STATE 1) 1).wr Reg.LOG_WIDX 2047) with
    log := { copied := true, queue := [waitingEntry] } }

/-- The writer holds: the entry stays in the queue. -/
theorem queue_logCycle_copiedWhileFull : (logCycle copiedWhileFull).log.queue = [waitingEntry] := by decide +kernel

/-- Refutes O24: the first clause asks only that HIDX is not 2048 entries behind, but in STOP mode the writer also holds in the cycle in which the copy
has just advanced HIDX to 2047 behind (R534). -/
theorem not_eventLog : ¬ Obligations.EventLog := by
  unfold Obligations.EventLog
  rintro ⟨hwriter, -⟩
  obtain ⟨t, hrun, hqueue, -⟩ := hwriter copiedWhileFull waitingEntry rfl rfl rfl (by decide +kernel)
  obtain rfl : logCycle copiedWhileFull = t := Host.Outcome.next.inj hrun
  exact absurd (hqueue.symm.trans queue_logCycle_copiedWhileFull) (by decide)

end Sys2Proof.Machine
end

section
/-!
PROOFS. A drop of VDD_PHY while a lane of the processor link is up (R521).
-/
namespace Sys2Proof.Machine

set_option Elab.async false

/-- APR_CTL.EN is 0 and PCIe is down, while lane 0 of the processor link is still ACTIVE and the link reports it. -/
def laneStillUp : State :=
  let s := (State.reset.put F.APR_STAT_LINK 2).put F.APR_STAT_LANE0 3
  { s with apr := { s.apr with lane := s.apr.lane.set 0 { s.apr.lane[0] with joined := true } } }

/-- The lost lane and the link's change are logged after the drop of the supply. -/
theorem logCodes_phySupplyDrop_laneStillUp : logCodes .phySupplyDrop laneStillUp = [0x0003, 0x0002, 0x0001] := by decide +kernel

/-- Refutes O42: the clause on the drop of VDD_PHY has no hypothesis on the processor link's lanes, and a lane that loses its clock is logged
after it (R199, R521). -/
theorem not_resetAndStartup : ¬ Obligations.ResetAndStartup := by
  unfold Obligations.ResetAndStartup
  rintro ⟨-, -, -, -, -, -, -, -, -, hdrop, -⟩
  obtain ⟨t, hrun, -, -, hlast, -⟩ := hdrop laneStillUp (by decide +kernel) (by decide +kernel) rfl (by decide +kernel)
  have hcodes := logCodes_of_next hrun
  rw [logCodes_phySupplyDrop_laneStillUp] at hcodes
  have hcode : [0x0003, 0x0002, 0x0001].getLast? = some 0x0003 := by
    rw [hcodes, List.getLast?_map, show t.log.reqs.getLast? = _ from hlast, Option.map_some]
  exact absurd hcode (by decide)

end Sys2Proof.Machine
end

section
/-!
PROOFS. A log entry with a single-bit error on its way to host memory (R334, R533).
-/
namespace Sys2Proof.Machine

set_option Elab.async false

/-- The log ring runs with room, one entry waits to be copied, and a word of it holds a single-bit error that no read has met. -/
def softLogEntry : State :=
  { ((State.reset.put (F.HIF_OR_STAT_STATE 1) 1).put (F.HIF_OR_CTL_IRQSH 1) 1).wr Reg.LOG_WIDX 1 with
    mst := { soft := [(entryAddr 0, true)] } }

/-- The copy corrects the word and logs it. -/
theorem logCodes_logCopy_softLogEntry : logCodes (.logCopy false) softLogEntry = [0x0001] := by decide +kernel

/-- Refutes O45: the clause on the log copy excludes uncorrectable errors only and lets no log request be made, while a single-bit error in the
copied entry is corrected, counted and logged (R334). -/
theorem not_hostRings : ¬ Obligations.HostRings := by
  unfold Obligations.HostRings
  rintro ⟨-, -, -, -, -, -, -, -, -, -, -, -, -, hcopy, -⟩
  obtain ⟨t, hrun, -, -, -, -, hlog, -⟩ := hcopy softLogEntry (by decide +kernel) (by decide +kernel) rfl rfl rfl (by decide +kernel) (by decide +kernel)
  have hcodes := logCodes_of_next hrun
  rw [show t.log.reqs = [] from hlog] at hcodes
  exact absurd (logCodes_logCopy_softLogEntry.symm.trans hcodes) (by decide)

end Sys2Proof.Machine
end

section
/-!
PROOFS. The host's VSET and the bits that MRVr_VSHOST does not implement (R11, R383).
-/
namespace Sys2Proof.Machine

set_option Elab.async false

/-- Every domain is on and rail 0 has a phase; a descriptor of zeros asks for 0 mV on rail 0, and MRV0_VSHOST holds bit 13, which the register does not
implement. -/
def vshostReservedBit : State :=
  let s := (((State.reset.put F.PWR_ON0_ON 0xFFFFFFFF).put F.PWR_ON1_ON 0xFFFFFFFF).put (F.EDGEr_MAP_M 0) 1).put (F.MRVr_VSRC_MASK 0) 1
  { s with regs := mapPut 0 s.regs (Reg.MRVr_VSHOST 0) 0x2000 }

/-- The write leaves the bit at 0 (R11). -/
theorem vshost_opVset_vshostReservedBit : (opVset 0 vshostReservedBit).rd (Reg.MRVr_VSHOST 0) = 0 := by decide +kernel

/-- Refutes O46: the clause on VSET lets every bit of MRVr_VSHOST above the voltage stay, and a write leaves a bit that the register does not implement
at 0 (R11). -/
theorem not_hostOpcodes : ¬ Obligations.HostOpcodes := by
  unfold Obligations.HostOpcodes
  rintro ⟨-, -, -, -, -, hvset, -⟩
  obtain ⟨t, hrun, hvshost, -⟩ := hvset vshostReservedBit 0 0 (by decide +kernel) (by decide +kernel) (by decide +kernel) (by decide +kernel)
  obtain rfl : opVset 0 vshostReservedBit = t := Host.Outcome.next.inj hrun
  have hstays := vshost_opVset_vshostReservedBit.symm.trans (hvshost (by decide +kernel))
  exact absurd hstays (by decide +kernel)

end Sys2Proof.Machine
end

section
/-!
PROOFS. A mirrored read of TW1 with PAGE = 0xFF (R413, R416).
-/
namespace Sys2Proof.Machine

set_option Elab.async false

/-- TW1 in the PMBus personality with PAGE = 0xFF, and an entry of its response table that answers OPERATION for any page. -/
def allPagesOnTw1 : State :=
  let s := (((State.reset.put F.PWR_ON1_ON 0x20000000).put (F.TWn_PAGE_PAGE 1) 0xFF).put (F.TWn_RSPCi_CMD 1 0) 1).put (F.TWn_RSPCi_VALID 1 0) 1
  twUpd 1 (fun p => { p with pers := pPMBUS }) (s.put (F.TWn_RSPCi_ANYPAGE 1 0) 1)

/-- The read sets TW1_CML[6], as a paged read without a single rail does on either port. -/
theorem cml_operation_allPagesOnTw1 :
    (match exec (.operation 1 .read) allPagesOnTw1 with | .next t => t.rd (Reg.TWn_CML 1) | _ => 0) = 0x40 := by decide +kernel

/-- Refutes O48: the clause on the mirrored reads of TW1 lets the table answer whatever PAGE is, while a paged read with PAGE = 0xFF is answered with
0xFF bytes and flagged on both ports (R413), so that TW1_CML changes. -/
theorem not_pmbusReads : ¬ Obligations.PmbusReads := by
  unfold Obligations.PmbusReads
  rintro ⟨-, -, -, -, -, -, -, -, -, -, -, -, -, -, -, -, -, -, -, -, -, -, htable, -⟩
  obtain ⟨t, hrun, -, -, hkeeps, -⟩ := htable allPagesOnTw1 1 (.operation 1 .read) 0x01 0 (by decide +kernel) rfl (by decide) (by decide) (by decide +kernel)
  have hcml := cml_operation_allPagesOnTw1
  rw [hrun] at hcml
  exact absurd (hcml.symm.trans (hkeeps (Reg.TWn_CML 1) (by decide))) (by decide +kernel)

end Sys2Proof.Machine
end

section
/-!
PROOFS. An index pulse in the AO cycle in which its channel's fault source has already fired (R237, R486).
-/
namespace Sys2Proof.Machine

set_option Elab.async false

/-- Feedback channel 0 with an index that falls 4 096 positions from where it should, right after another firing of its fault source. -/
def indexAfterFault : State :=
  let s := ((State.reset.put F.PWR_ON1_ON 0xFFFFFFFF).put (F.FBf_CTL_EN 0) 1).put (F.FBf_CTL_ZMODE 0) 1
  (s.put (F.FBf_STAT_INDEXED 0) 1).fire 145

/-- The second firing of the source in the cycle is counted (R237). -/
theorem fast_indexEdge_indexAfterFault :
    (indexEdge 0 15 indexAfterFault).rd Reg.EVM_FAST = 1 ∧ indexAfterFault.rd Reg.EVM_FAST = 0 := by decide +kernel

/-- Refutes O54: the clause on a misplaced index does not exclude that the channel's fault source has fired in the cycle, and a further firing of it is
counted in EVM_FAST (R237). -/
theorem not_feedbackChannels : ¬ Obligations.FeedbackChannels := by
  unfold Obligations.FeedbackChannels
  rintro ⟨-, -, -, -, -, -, -, -, -, -, hindex, -⟩
  obtain ⟨t, hrun, -, -, -, -, -, -, hkeeps, -⟩ := hindex indexAfterFault 0 15 (by decide +kernel) (by decide +kernel) (by decide +kernel) (by decide +kernel)
    (by decide +kernel) (by decide +kernel) (by decide +kernel)
  obtain rfl : indexEdge 0 15 indexAfterFault = t := Host.Outcome.next.inj hrun
  obtain ⟨hafter, hbefore⟩ := fast_indexEdge_indexAfterFault
  have hsame := hkeeps Reg.EVM_FAST (by decide)
  rw [hafter, hbefore] at hsame
  exact absurd hsame (by decide)

end Sys2Proof.Machine
end

section
/-!
PROOFS. Rules that the host's and the field units share: firings in a cycle, saturating counts, timers and entries at most once a millisecond
(R237, R406).
-/
namespace Sys2Proof.Machine

set_option Elab.async false

variable {s t u : State}

/-! ## Firings -/

/-- The registers of the event matrix. -/
def EvmRegs (a : Nat) : Prop := 0x40090000 ≤ a ∧ a < 0x400A0000

/-- The channels and the sinks of a source follow from the matrix's own words. -/
theorem routing_congr {src : Nat} (hsrc : src < 256) (hold : t.evm.old = s.evm.old) (hrd : ∀ a, EvmRegs a → t.rd a = s.rd a) :
    t.chansOf src = s.chansOf src ∧ ∀ m, t.sinksOf m = s.sinksOf m := by
  have hcfg : ∀ a, EvmRegs a → t.evmCfg a = s.evmCfg a := fun a ha => by
    unfold State.evmCfg
    rw [hold, hrd a ha]
  have hen : EvmRegs (Reg.EVM_SRCENs src) := by unfold EvmRegs Reg.EVM_SRCENs; omega
  have hctl : ∀ c ∈ List.range 32, EvmRegs (Reg.EVM_CHc_CTL c) := fun c hc => by
    rw [List.mem_range] at hc
    unfold EvmRegs Reg.EVM_CHc_CTL
    omega
  have hsnk : ∀ c ∈ List.range 32, ∀ j < 4, EvmRegs (Reg.EVM_CHc_SNKj c j) := fun c hc j hj => by
    rw [List.mem_range] at hc
    unfold EvmRegs Reg.EVM_CHc_SNKj
    omega
  refine ⟨List.foldl_ext _ _ _ fun m c hc => ?_, fun m => List.foldl_ext _ _ _ fun n c hc => ?_⟩
  · rw [hcfg _ hen, hcfg _ (hctl c hc)]
  · rw [hcfg _ (hsnk c hc 0 (by decide)), hcfg _ (hsnk c hc 1 (by decide)), hcfg _ (hsnk c hc 2 (by decide)), hcfg _ (hsnk c hc 3 (by decide))]

/-- A first firing after changes of registers outside the matrix is routed as before them. -/
theorem fires_of_outside {src : Nat} {l : List Nat} (hkeeps : Keeps l s u) (hl : ∀ a ∈ l, a < 0x40090000 ∨ 0x400A0000 ≤ a) (hsrc : src < 256)
    (hevm : u.evm = s.evm) (hclk : u.clk = s.clk) (hnot : NotFired src s) (ht : t.evm = (u.fire src).evm) : Fires src s t := by
  have hrd : ∀ a, EvmRegs a → u.rd a = s.rd a := fun a ha => hkeeps.rd fun hmem => by have := hl a hmem; unfold EvmRegs at ha; omega
  obtain ⟨hchans, hsinks⟩ := routing_congr hsrc (congrArg Evm.old hevm) hrd
  unfold Fires
  rw [ht, fire_of_notFired (notFired_congr hevm hclk hnot), hchans, hsinks, hevm, hclk]

theorem Keeps.fired {l : List Nat} {src : Nat} (h : Keeps l s t) (hnot : NotFired src t) : Keeps l s (t.fire src) := by
  rw [fire_of_notFired hnot]
  exact h.congr rfl rfl rfl

/-! ## Counts and timers -/

/-- An 8-bit count just raised. -/
theorem State.get_inc_byte {f : Fld} (hf : fldFits f = true) (hw : f.width = 8) (s : State) : (s.inc f).get f = min 255 (s.get f + 1) := by
  rw [State.get_inc_same hf, satInc, hw, Nat.min_comm]
  rfl

theorem State.armed_cancel (s : State) (c : Instr) : (s.cancel c).armed c = false := by
  unfold State.armed State.cancel
  rw [List.any_filter, List.any_eq_false]
  rintro x -
  simp

theorem State.mem_timers_restart (s : State) (ns : Nat) (c : Instr) : (s.clk.ns + ns, c) ∈ (s.restart ns c).timers :=
  List.mem_append_right _ (.head _)

theorem Keeps.after {l : List Nat} (h : Keeps l s t) (n : Nat) (c : Instr) : Keeps l s (t.after n c) := h.congr rfl rfl rfl

/-! ## Entries at most once a millisecond (R406) -/

/-- The first entry of its key is made. -/
theorem State.logLimited_first {key : Nat} (h : (mapFind s.lim key).getD 0 = 0) (block code : Nat) (data : List Byte) :
    s.logLimited key block code data = ({ s with lim := mapPut 0 s.lim key (s.clk.ns + 1) } : State).logReq block code data := by
  unfold State.logLimited
  rw [h]
  rfl

/-- What a limited entry can do: the map of the last entries and the log's requests alone change. -/
theorem State.logLimited_log (s : State) (key block code : Nat) (data : List Byte) :
    ∃ m g, s.logLimited key block code data = { s with lim := m, log := g } := by
  unfold State.logLimited
  split
  · exact ⟨_, _, rfl⟩
  · split
    · exact ⟨_, _, rfl⟩
    · exact ⟨s.lim, s.log, rfl⟩

@[simp] theorem State.logLimited_regs (s : State) (key block code : Nat) (data : List Byte) : (s.logLimited key block code data).regs = s.regs := by
  obtain ⟨m, g, h⟩ := s.logLimited_log key block code data
  rw [h]

@[simp] theorem State.logLimited_mbx (s : State) (key block code : Nat) (data : List Byte) : (s.logLimited key block code data).mbx = s.mbx := by
  obtain ⟨m, g, h⟩ := s.logLimited_log key block code data
  rw [h]

theorem Keeps.logLimited {l : List Nat} (h : Keeps l s t) (key block code : Nat) (data : List Byte) :
    Keeps l s (t.logLimited key block code data) := by
  obtain ⟨m, g, hlim⟩ := t.logLimited_log key block code data
  rw [hlim]
  exact h.congr rfl rfl rfl

/-- The first entry of its key, after changes that leave the clocks, the log and the domains. -/
theorem logged_of_limited {key : Nat} {block code : Nat} {data : List Byte} (hlim : (mapFind u.lim key).getD 0 = 0) (hclk : u.clk = s.clk)
    (hlog : u.log = s.log) (hdom : u.dom = s.dom) : Logged block code data s (u.logLimited key block code data) := by
  rw [State.logLimited_first hlim]
  unfold Logged
  rw [State.logReq_log]
  unfold State.logAngle
  simp only [hclk, hlog, hdom]

end Sys2Proof.Machine
end

section
/-!
PROOFS. Locks of the mailboxes: who an access reaches, reads, releases, the time-out and BREAK (R393 to R400, R408).
-/
namespace Sys2Proof.Machine

set_option Elab.async false

variable {s t : State} {agent : Agent} {k : Fin 16}

/-! ## The fields of MBk_STAT -/

@[simp] theorem mbFull_fits : ∀ k : Fin 16, fldFits (F.MBk_STAT_FULL k) = true := by decide
@[simp] theorem mbOwner_fits : ∀ k : Fin 16, fldFits (F.MBk_STAT_OWNER k) = true := by decide
@[simp] theorem mbLen_fits : ∀ k : Fin 16, fldFits (F.MBk_STAT_LEN k) = true := by decide
@[simp] theorem mbSender_fits : ∀ k : Fin 16, fldFits (F.MBk_STAT_SENDER k) = true := by decide
theorem mbStat_off_access : ∀ k : Fin 16, F.LCS_STAT_STATE.addr ∉ [Reg.MBk_STAT k] ∧ F.HIF_CTL_LOCK.addr ∉ [Reg.MBk_STAT k] := by decide
theorem mbStat_ne_mbxAct : ∀ k : Fin 8, (F.MBk_STAT_OWNER k).addr ≠ Reg.MBX_ACT := by decide
theorem mbStat_outside : ∀ k : Fin 16, ∀ a ∈ [Reg.MBk_STAT k], a < 0x40090000 ∨ 0x400A0000 ≤ a := by decide
theorem implMask_mbxAct : implMask Reg.MBX_ACT = BitVec.allOnes 32 := by decide
theorem wref_fits : fldFits F.MBX_CNT_WREF = true := by decide

/-- The fields of MBk_STAT share no bit. -/
theorem mbStat_apart : ∀ k : Fin 16, fldApart (F.MBk_STAT_FULL k) (F.MBk_STAT_OWNER k) = true ∧
    fldApart (F.MBk_STAT_FULL k) (F.MBk_STAT_LEN k) = true ∧ fldApart (F.MBk_STAT_LEN k) (F.MBk_STAT_FULL k) = true ∧
    fldApart (F.MBk_STAT_LEN k) (F.MBk_STAT_OWNER k) = true ∧ fldApart (F.MBk_STAT_SENDER k) (F.MBk_STAT_FULL k) = true ∧
    fldApart (F.MBk_STAT_SENDER k) (F.MBk_STAT_LEN k) = true ∧ fldApart (F.MBk_STAT_SENDER k) (F.MBk_STAT_OWNER k) = true := by decide

theorem agent_id_lt (agent : Agent) : agent.id < 8 := by cases agent <;> decide
theorem agent_id_ne_zero (agent : Agent) : agent.id ≠ 0 := by cases agent <;> decide
theorem agent_id_trio : agent.id = 1 ↔ agent = .trio := by cases agent <;> decide

/-! ## Access -/

theorem mbReached_of_open (h : agent = .debug → debugOpen s = true) (f : State → State) : mbReached agent f s = f s :=
  if_neg fun ⟨hdebug, hshut⟩ => by simp [h hdebug] at hshut

theorem mbReached_of_shut (h : agent = .debug ∧ debugOpen s = false) (f : State → State) : mbReached agent f s = { s with busErr := true } :=
  if_pos ⟨h.left, by rw [h.right]; rfl⟩

theorem mbDenied_of_open (h : agent = .host → s.on F.HIF_CTL_LOCK = false) : mbDenied agent s = false := by
  unfold mbDenied
  by_cases hhost : agent = .host
  · rw [h hhost, Bool.and_false]
  · rw [beq_false_of_ne hhost, Bool.false_and]

theorem mbDenied_of_locked (h : agent = .host ∧ s.on F.HIF_CTL_LOCK = true) : mbDenied agent s = true := by
  unfold mbDenied
  rw [h.left, h.right]
  rfl

theorem mbDeny_keeps (s : State) : Keeps [Reg.MBX_CNT] s (mbDeny s) := ((Keeps.refl _ s).inc 1 (f := F.MBX_CNT_DENY) (.head _)).congr rfl rfl rfl

/-- An ignored write counts in WREF and does nothing else (R396, R397). -/
theorem mbWref_counts (ht : t = mbWref s) : t.get F.MBX_CNT_WREF = min 255 (s.get F.MBX_CNT_WREF + 1) ∧ t.mbx = s.mbx ∧ t.timers = s.timers ∧
    NoLog s t ∧ Keeps [Reg.MBX_CNT] s t := by
  subst ht
  exact ⟨State.get_inc_byte wref_fits rfl s, rfl, rfl, rfl, (Keeps.refl _ s).inc 1 (f := F.MBX_CNT_WREF) (.head _)⟩

/-! ## One read of a lock (R397, R398, R400) -/

/-- A free lock becomes the reader's. -/
def lockWon (agent : Agent) (k : Nat) (s : State) : State :=
  { s.put (F.MBk_STAT_OWNER k) agent.id with
    rdata := 0, mbx := { s.mbx with won := updAt s.mbx.won (Fin.ofNat 8 k) (fun _ => s.clk.ns) } }

theorem lockWon_owner (agent : Agent) (k : Fin 16) (s : State) : mbOwner k (lockWon agent k s) = agent.id :=
  State.get_put_of_lt (mbOwner_fits k) (agent_id_lt agent) s

theorem lockWon_keeps (agent : Agent) (k : Fin 16) (s : State) : Keeps [Reg.MBk_STAT k] s (lockWon agent k s) :=
  ((Keeps.refl _ s).put agent.id (f := F.MBk_STAT_OWNER k) (.head _)).congr rfl rfl rfl

section
variable (hopen : mbDenied agent s = false) (hshared : k.val < 8)
include hopen hshared

theorem lockRead_of_freed (hfreed : mbFreed k s ≠ 0) : lockRead agent k s = { s with rdata := BitVec.ofNat 32 (mbFreed k s) } := by
  unfold lockRead
  rw [if_neg (by simp [hopen]), if_neg (Nat.not_le.mpr hshared), if_pos hfreed]

theorem lockRead_of_held (hfreed : mbFreed k s = 0) (hheld : mbOwner k s ≠ 0) :
    lockRead agent k s = { s with rdata := BitVec.ofNat 32 (mbOwner k s) } := by
  unfold lockRead
  rw [if_neg (by simp [hopen]), if_neg (Nat.not_le.mpr hshared), if_neg (not_not_intro hfreed), if_neg hheld]

theorem lockRead_of_free (hfreed : mbFreed k s = 0) (hfree : mbOwner k s = 0) : lockRead agent k s =
    if agent.id ≠ 1 ∧ locktoNs s ≠ 0 then (lockWon agent k s).restart (locktoNs s) (.lockTimeout (Fin.ofNat 8 k)) else lockWon agent k s := by
  unfold lockRead
  rw [if_neg (by simp [hopen]), if_neg (Nat.not_le.mpr hshared), if_neg (not_not_intro hfreed), if_pos hfree]
  rfl

/-- Beside the timers, the read of a free lock makes it the reader's and nothing else. -/
theorem lockRead_of_free_timers (hfreed : mbFreed k s = 0) (hfree : mbOwner k s = 0) :
    ∃ q, lockRead agent k s = { lockWon agent k s with timers := q } := by
  rw [lockRead_of_free hopen hshared hfreed hfree]
  split <;> exact ⟨_, rfl⟩

end

theorem lockRead_of_denied (h : mbDenied agent s = true) : lockRead agent k s = mbDeny s := if_pos h

theorem lockRead_of_private (hopen : mbDenied agent s = false) (hprivate : 8 ≤ k.val) : lockRead agent k s = { s with rdata := 0 } := by
  unfold lockRead
  rw [if_neg (by simp [hopen]), if_pos hprivate]

/-- A read of a lock adds no answer. -/
theorem lockRead_answers (agent : Agent) (k : Nat) (s : State) : (lockRead agent k s).mbx.answers = s.mbx.answers := by
  unfold lockRead
  dsimp only
  repeat' split
  all_goals rfl

/-! ## The reads of one cycle -/

/-- The answers of the reads of a cycle before the first of them. -/
def noAnswers (s : State) : State := { s with mbx := { s.mbx with answers := [] } }

/-- The reader's word joins the answers. -/
def addAnswer (agent : Agent) (s : State) : State := { s with mbx := { s.mbx with answers := s.mbx.answers ++ [(agent.id, s.rdata)] } }

theorem readers_single : ∀ a : Agent, ([.trio, .host, .usb, .tw0, .tw1, .debug] : List Agent).filter [a].contains = [a] := by
  intro a
  cases a <;> rfl

theorem readers_pair {a b : Agent} (h : a.id < b.id) : ([.trio, .host, .usb, .tw0, .tw1, .debug] : List Agent).filter [b, a].contains = [a, b] := by
  revert h
  cases a <;> cases b <;> decide

/-- The word that the first reader of the command gets. -/
def pickAnswer (agent : Agent) (s : State) : State :=
  { s with rdata := ((s.mbx.answers.find? (fun x => x.1 == agent.id)).map (·.2)).getD s.rdata }

theorem pickAnswer_of_find {w : Word} {i : Nat} (h : s.mbx.answers.find? (fun x => x.1 == agent.id) = some (i, w)) :
    pickAnswer agent s = { s with rdata := w } := by
  unfold pickAnswer
  rw [h]
  rfl

/-- One reader in the cycle: its read, with its answer. -/
theorem lockReads_single (hopen : agent = .debug → debugOpen s = true) :
    lockReads [agent] k s = addAnswer agent (lockRead agent k (noAnswers s)) := by
  have hreads : lockReads [agent] k s = pickAnswer agent (mbReached agent (fun u => addAnswer agent (lockRead agent k u)) (noAnswers s)) := by
    unfold lockReads
    rw [readers_single]
    rfl
  rw [hreads, mbReached_of_open (s := noAnswers s) hopen]
  refine pickAnswer_of_find (i := agent.id) ?_
  show ((lockRead agent k (noAnswers s)).mbx.answers ++ _).find? _ = _
  rw [lockRead_answers]
  exact List.find?_cons_of_pos (beq_self_eq_true _)

/-- Two readers in the cycle: the one of the lower ID reads first. -/
theorem lockReads_pair {a b : Agent} (h : a.id < b.id) : lockReads [b, a] k s =
    pickAnswer b (mbReached b (fun u => addAnswer b (lockRead b k u)) (mbReached a (fun u => addAnswer a (lockRead a k u)) (noAnswers s))) := by
  unfold lockReads
  rw [readers_pair h]
  rfl

/-! ## Releases (R397, R399) -/

theorem lockFree_frees (ht : t = lockFree k s) : mbOwner k t = 0 ∧ t.armed (.lockTimeout (Fin.ofNat 8 k)) = false ∧ NoLog s t ∧
    Keeps [Reg.MBk_STAT k] s t := by
  subst ht
  exact ⟨State.get_put_of_lt (mbOwner_fits k) (Nat.two_pow_pos _) _, State.armed_cancel _ _, rfl,
    ((Keeps.refl _ s).put 0 (f := F.MBk_STAT_OWNER k) (.head _)).congr rfl rfl rfl⟩

theorem lockWrite_of_owner (hopen : mbDenied agent s = false) (hshared : k.val < 8) (hown : mbOwner k s = agent.id) :
    lockWrite agent k 0 s = lockFree k s := by
  unfold lockWrite
  rw [if_neg (by simp [hopen]), if_neg (Nat.not_le.mpr hshared), if_pos ⟨rfl, hown⟩]

theorem lockWrite_of_other (hopen : mbDenied agent s = false) (hshared : k.val < 8) {value : Word} (hother : mbOwner k s ≠ agent.id ∨ value ≠ 0) :
    lockWrite agent k value s = mbWref s := by
  unfold lockWrite
  rw [if_neg (by simp [hopen]), if_neg (Nat.not_le.mpr hshared), if_neg fun ⟨hzero, hown⟩ => hother.elim (· hown) (· hzero)]

/-- A lock that the device releases. -/
def lockOpened (k : Fin 8) (s : State) : State := (s.put (F.MBk_STAT_OWNER k) 0).cancel (.lockTimeout k)

theorem lockBreak_of_held (k : Fin 8) (cause : Nat) (hheld : mbOwner k s ≠ 0) : lockBreak k cause s =
    (lockOpened k s).logLimited (0x0D0010 + k.val) 0x0D 1 [b8 k.val, b8 (mbOwner k s), b8 cause] := by
  unfold lockBreak
  rw [if_neg hheld, Fin.ofNat_val_eq_self]
  rfl

theorem mbOwner_fits_lock : ∀ k : Fin 8, fldFits (F.MBk_STAT_OWNER k) = true := by decide

/-- The release of a held lock by the device: the first entry of its millisecond, the owner's end and that of its time-out (R399, R406). -/
theorem lockBreak_breaks {k : Fin 8} {cause : Nat} (hheld : mbOwner k s ≠ 0) (hlim : (mapFind s.lim (0x0D0010 + k.val)).getD 0 = 0)
    (ht : t = lockBreak k cause s) : mbOwner k t = 0 ∧ t.armed (.lockTimeout k) = false ∧
      Logged 0x0D 1 [b8 k.val, b8 (mbOwner k s), b8 cause] s t ∧ Keeps [Reg.MBk_STAT k] s t := by
  have hopened : Keeps [Reg.MBk_STAT k] s (lockOpened k s) := ((Keeps.refl _ s).put 0 (f := F.MBk_STAT_OWNER k) (.head _)).cancel _
  rw [lockBreak_of_held k cause hheld] at ht
  subst ht
  refine ⟨?_, ?_, logged_of_limited hlim rfl rfl rfl, hopened.logLimited _ _ _ _⟩
  · rw [mbOwner, State.get_regs, State.logLimited_regs]
    exact State.get_put_of_lt (mbOwner_fits_lock k) (Nat.two_pow_pos _) s
  · obtain ⟨m, g, hrec⟩ := (lockOpened k s).logLimited_log (0x0D0010 + k.val) 0x0D 1 [b8 k.val, b8 (mbOwner k s), b8 cause]
    rw [hrec]
    exact State.armed_cancel _ _

/-- LOCKTO has elapsed: the lock is released with cause 1 (R399, R408). -/
theorem lockTimeout_releases {k : Fin 8} (hext : 2 ≤ mbOwner k s) (hto : locktoNs s ≠ 0) (hdue : s.mbx.won[k] + locktoNs s ≤ s.clk.ns)
    (hlim : (mapFind s.lim (0x0D0010 + k.val)).getD 0 = 0) (ht : t = if lockDue k s then lockLapse k s else s) :
    mbOwner k t = 0 ∧ t.armed (.lockTimeout k) = false ∧ Logged 0x0D 1 [b8 k.val, b8 (mbOwner k s), 1] s t ∧ Keeps [Reg.MBk_STAT k] s t := by
  have hlapse : lockDue k s = true := by
    rw [lockDue, decide_eq_true hext, decide_eq_true hdue, bne_iff_ne.mpr hto]
    rfl
  rw [if_pos hlapse] at ht
  obtain ⟨hown, harm, hlog, hkeeps⟩ := lockBreak_breaks (k := k) (cause := 1)
    (s := { s with mbx := { s.mbx with lapsed := (k.val, mbOwner k s, aoNow s) :: s.mbx.lapsed.filter (fun x => x.2.2 == aoNow s) } })
    (show mbOwner k s ≠ 0 by omega) hlim ht
  exact ⟨hown, harm, hlog, hkeeps⟩

theorem lockTimeout_idle {k : Fin 8} (hnot : mbOwner k s = 1 ∨ mbOwner k s = 0 ∨ locktoNs s = 0 ∨ s.clk.ns < s.mbx.won[k] + locktoNs s) :
    lockDue k s = false := by
  unfold lockDue
  simp only [Bool.and_eq_false_iff, decide_eq_false_iff_not, bne_eq_false_iff_eq]
  omega

end Sys2Proof.Machine
end

section
/-!
PROOFS. Data writes, sends and takes of the mailboxes, and the settlement (R396, R401 to R406).
-/
namespace Sys2Proof.Machine

set_option Elab.async false

variable {s t : State} {agent : Agent} {k : Fin 16}

/-! ## Data (R396) -/

theorem implMask_mbData : ∀ k i : Fin 16, implMask (Reg.MBk_DATAi k i) = BitVec.allOnes 32 := by decide

theorem dataWrite_of_right (hopen : mbDenied agent s = false) (hright : mbRight agent k s = true) (hfull : mbFull k s = false) (i : Nat)
    (value : Word) : dataWrite agent k i value s = mbTouch k (s.wr (Reg.MBk_DATAi k i) value) := by
  unfold dataWrite
  rw [if_neg (by simp [hopen]), if_pos (by rw [hright, hfull]; rfl)]

theorem dataWrite_of_refused (hopen : mbDenied agent s = false) (hbad : mbRight agent k s = false ∨ mbFull k s = true) (i : Nat)
    (value : Word) : dataWrite agent k i value s = mbWref s := by
  unfold dataWrite
  rw [if_neg (by simp [hopen]), if_neg (by obtain h | h := hbad <;> simp [h])]

theorem not_mem_mbTouch (k : Nat) (s : State) : k ∉ (mbTouch k s).mbx.taken := by
  unfold mbTouch
  simp

/-- A data word that is stored (R396). -/
theorem dataWrite_stores {i : Fin 16} {value : Word} (ht : t = mbTouch k (s.wr (Reg.MBk_DATAi k i) value)) :
    t.rd (Reg.MBk_DATAi k i) = value ∧ k.val ∉ t.mbx.taken ∧ NoLog s t ∧ Keeps [Reg.MBk_DATAi k i] s t := by
  subst ht
  refine ⟨?_, not_mem_mbTouch _ _, rfl, ((Keeps.refl _ s).wr value (.head _)).congr rfl rfl rfl⟩
  show (s.wr _ value).rd _ = value
  rw [State.rd_wr_same, implMask_mbData, BitVec.and_allOnes]

/-! ## Sends (R401, R405, R406) -/

theorem actWord_one_ne_zero (ticket : Byte) (arg : BitVec 16) : actWord ticket arg 1 ≠ 0 := fun h => by
  have hset : (actWord ticket arg 1).getLsbD 0 = true := by
    rw [actWord, BitVec.getLsbD_append]
    rfl
  rw [h] at hset
  exact absurd hset (by decide)

/-- The agent's own word of MBk_SEND is remembered (R20, R401). -/
def sendRemember (agent : Agent) (k : Nat) (w : Word) (s : State) : State :=
  { s with mbx := { s.mbx with send := mapPut 0 s.mbx.send (8 * k + agent.id) w } }

theorem sendRemember_send (agent : Agent) (k : Nat) (ticket : Byte) (arg : BitVec 16) (s : State) :
    mapFind (sendRemember agent k (actWord ticket arg 1) s).mbx.send (8 * k + agent.id) = some (actWord ticket arg 1) := by
  unfold sendRemember
  rw [mapFind_put, if_pos rfl, if_neg (actWord_one_ne_zero ticket arg)]

theorem sendWrite_of_fresh (hopen : mbDenied agent s = false) {ticket : Byte}
    (hfresh : ticket = 0 ∨ ticket ≠ ((mapFind s.mbx.send (8 * k.val + agent.id)).getD 0).extractLsb' 24 8) {arg : BitVec 16} {u : State}
    (hu : sendDo agent k (arg &&& 0x1f) s = u) (hsend : u.mbx.send = s.mbx.send) :
    sendWrite agent k ticket arg 1 s = sendRemember agent k (actWord ticket (arg &&& 0x1f) 1) u := by
  unfold sendWrite sendRemember
  rw [if_neg (by simp [hopen])]
  simp only [if_true, hu, hsend]
  exact if_neg fun ⟨hnz, hsame⟩ => hfresh.elim hnz (· hsame)

theorem sendWrite_of_repeated (hopen : mbDenied agent s = false) {ticket : Byte} (hnz : ticket ≠ 0)
    (hsame : ticket = ((mapFind s.mbx.send (8 * k.val + agent.id)).getD 0).extractLsb' 24 8) (arg : BitVec 16) :
    sendWrite agent k ticket arg 1 s = s := by
  unfold sendWrite
  rw [if_neg (by simp [hopen])]
  exact if_pos ⟨hnz, hsame⟩

theorem sendLen_mask (arg : BitVec 16) : (arg &&& 0x1f).toNat % 32 = arg.toNat % 32 := by
  have hand : (arg &&& 0x1f).toNat = arg.toNat % 32 := by
    rw [BitVec.toNat_and]
    exact Nat.and_two_pow_sub_one_eq_mod arg.toNat 5
  omega

theorem mbNotify_off_stat : ∀ k : Fin 16, (F.MBk_CFG_NOTIFY k).addr ∉ [Reg.MBk_STAT k] := by decide

/-- A packet in its mailbox: FULL, LEN and SENDER are set. -/
def packetIn (agent : Agent) (k len : Nat) (s : State) : State :=
  mbTouch k (((s.put (F.MBk_STAT_FULL k) 1).put (F.MBk_STAT_LEN k) len).put (F.MBk_STAT_SENDER k) agent.id)

theorem packetIn_keeps (agent : Agent) (k : Fin 16) (len : Nat) (s : State) : Keeps [Reg.MBk_STAT k] s (packetIn agent k len s) :=
  ((((Keeps.refl _ s).put 1 (f := F.MBk_STAT_FULL k) (.head _)).put len (f := F.MBk_STAT_LEN k) (.head _)).put agent.id
    (f := F.MBk_STAT_SENDER k) (.head _)).congr rfl rfl rfl

theorem packetIn_stat (agent : Agent) (k : Fin 16) {len : Nat} (hlen : len < 32) (s : State) :
    mbFull k (packetIn agent k len s) = true ∧ (packetIn agent k len s).get (F.MBk_STAT_LEN k) = len ∧
      (packetIn agent k len s).get (F.MBk_STAT_SENDER k) = agent.id ∧ mbOwner k (packetIn agent k len s) = mbOwner k s := by
  obtain ⟨hfo, hfl, hlf, hlo, hsf, hsl, hso⟩ := mbStat_apart k
  have hget : ∀ f, (packetIn agent k len s).get f =
    (((s.put (F.MBk_STAT_FULL k) 1).put (F.MBk_STAT_LEN k) len).put (F.MBk_STAT_SENDER k) agent.id).get f := fun _ => rfl
  refine ⟨?_, ?_, ?_, ?_⟩
  · rw [mbFull, State.on, hget, State.get_put_apart hsf, State.get_put_apart hlf, State.get_put_of_lt (mbFull_fits k) Nat.one_lt_two]
    rfl
  · rw [hget, State.get_put_apart hsl, State.get_put_of_lt (mbLen_fits k) hlen]
  · rw [hget, State.get_put_of_lt (mbSender_fits k) (agent_id_lt agent)]
  · rw [mbOwner, hget, State.get_put_apart hso, State.get_put_apart hlo, State.get_put_apart hfo]
    rfl

section
variable {arg : BitVec 16} (hright : mbRight agent k s = true) (hfull : mbFull k s = false) (htook : s.mbx.took.contains (k.val, aoNow s) = false)
  (hlen : arg.toNat % 32 ≠ 0 ∧ arg.toNat % 32 ≤ 16) (hable : mbDisabled k s = false)
include hright hfull htook hlen hable

theorem sendReason_of_accepted : sendReason agent k (arg.toNat % 32) s = 0 := by
  have hlong : ¬(arg.toNat % 32 = 0 ∨ 16 < arg.toNat % 32) := by omega
  simp only [sendReason, hright, hfull, htook, hable, if_neg hlong]
  rfl

/-- An accepted send whose receiver is no two-wire port and that notifies nobody: the packet, and the mailbox's source (R401, R405). -/
theorem sendDo_of_accepted (hquiet : s.on (F.MBk_CFG_NOTIFY k) = false) (hrecv : mbRecv k s ≠ 4 ∧ mbRecv k s ≠ 5)
    (hnot : NotFired (168 + k.val % 8) s) : sendDo agent k arg s = (packetIn agent k (arg.toNat % 32) s).fire (168 + k.val % 8) := by
  have hkeeps := (packetIn_keeps agent k (arg.toNat % 32) s).fired (src := 168 + k.val % 8) (notFired_congr rfl rfl hnot)
  have hoff : ((packetIn agent k (arg.toNat % 32) s).fire (168 + k.val % 8)).on (F.MBk_CFG_NOTIFY k) = false :=
    (hkeeps.on (mbNotify_off_stat k)).trans hquiet
  unfold sendDo
  dsimp only
  rw [sendReason_of_accepted hright hfull htook hlen hable]
  rw [if_neg hrecv.left, if_neg hrecv.right]
  unfold mbNotify
  exact if_neg (ne_true_of_eq_false hoff)

end

theorem sendDo_of_refused {arg : BitVec 16} (hwhy : sendReason agent k (arg.toNat % 32) s ≠ 0) : sendDo agent k arg s =
    (s.inc F.MBX_CNT_SREF).logLimited (0x0D0020 + k.val) 0x0D 2 [b8 k.val, b8 agent.id, b8 (sendReason agent k (arg.toNat % 32) s)] := by
  unfold sendDo
  dsimp only
  split
  next h => exact absurd h hwhy
  next h => rfl

/-- The reasons of a refusal in their order (R401, R406). -/
theorem sendReason_of_refused {len : Nat} (hwhy : sendReason agent k len s ≠ 0) : sendReason agent k len s =
    if mbRight agent k s = false ∧ s.mbx.lapsed.contains (k.val, agent.id, aoNow s) = false then 1
    else if mbFull k s = true ∨ s.mbx.took.contains (k.val, aoNow s) = true then 2 else if len = 0 ∨ 16 < len then 3 else 4 := by
  unfold sendReason at hwhy ⊢
  simp only [Bool.and_eq_true, Bool.not_eq_true', Bool.or_eq_true] at hwhy ⊢
  split at hwhy
  next h => rw [if_pos h, if_pos h]
  next h =>
    rw [if_neg h, if_neg h]
    split at hwhy
    next h => rw [if_pos h, if_pos h]
    next h =>
      rw [if_neg h, if_neg h]
      split at hwhy
      next h => rw [if_pos h, if_pos h]
      next h =>
        rw [if_neg h, if_neg h]
        exact if_pos (Classical.byContradiction fun hable => hwhy (if_neg hable))

/-! ## Takes (R403, R404) -/

/-- The receiver's read empties a full mailbox; the Trio's take is remembered, for it can be handed back. -/
def packetOut (agent : Agent) (k : Nat) (s : State) : State :=
  { s.put (F.MBk_STAT_FULL k) 0 with
    rdata := takeWord k s
    mbx := { s.mbx with
      took := (k, aoNow s) :: s.mbx.took.filter (fun x => x.2 == aoNow s)
      taken := if agent = .trio then s.mbx.taken ++ [k] else s.mbx.taken } }

theorem takeRead_of_receiver (hopen : mbDenied agent s = false) (hrecv : agent.id = mbRecv k s) (hfull : mbFull k s = true) :
    takeRead agent k s = packetOut agent k s := by
  unfold takeRead packetOut
  rw [if_neg (by simp [hopen])]
  dsimp only
  refine (if_pos ⟨hrecv, hfull⟩).trans ?_
  by_cases htrio : agent = .trio
  · rw [if_pos (agent_id_trio.mpr htrio), if_pos htrio]
    rfl
  · rw [if_neg (mt agent_id_trio.mp htrio), if_neg htrio]
    rfl

theorem takeRead_of_other (hopen : mbDenied agent s = false) (hnot : agent.id ≠ mbRecv k s ∨ mbFull k s = false) :
    takeRead agent k s = { s with rdata := takeWord k s } := by
  unfold takeRead
  rw [if_neg (by simp [hopen])]
  dsimp only
  exact if_neg fun ⟨hrecv, hfull⟩ => hnot.elim (· hrecv) fun h => by
    rw [show mbFull k s = true from hfull] at h
    exact absurd h (by decide)

theorem packetOut_takes (hfull : mbFull k s = true) (ht : t = packetOut agent k s) :
    t.rdata = BitVec.ofNat 32 (2 ^ 31 + s.get (F.MBk_STAT_LEN k) * 65536 + s.get (F.MBk_STAT_SENDER k) * 256) ∧ mbFull k t = false ∧
      t.mbx.taken = (if agent = .trio then s.mbx.taken ++ [k.val] else s.mbx.taken) ∧
      t.get (F.MBk_STAT_LEN k) = s.get (F.MBk_STAT_LEN k) ∧ NoLog s t ∧ Keeps [Reg.MBk_STAT k] s t := by
  subst ht
  obtain ⟨-, hapart, -⟩ := mbStat_apart k
  refine ⟨?_, State.on_put_zero (mbFull_fits k) s, rfl, State.get_put_apart hapart 0 s, rfl,
    ((Keeps.refl _ s).put 0 (f := F.MBk_STAT_FULL k) (.head _)).congr rfl rfl rfl⟩
  show takeWord k s = _
  rw [takeWord, hfull]
  rfl

/-! ## The settlement -/

theorem addAnswer_keeps {l : List Nat} (h : Keeps l s t) (agent : Agent) : Keeps l s (addAnswer agent t) := h.congr rfl rfl rfl

/-- The only reader of a free lock of a shared mailbox owns it. -/
theorem lockReads_of_free (hopen : mbDenied agent s = false) (hreach : agent = .debug → debugOpen s = true) (hshared : k.val < 8)
    (hfreed : mbFreed k s = 0) (hfree : mbOwner k s = 0) :
    ∃ q, lockReads [agent] k s = addAnswer agent { lockWon agent k (noAnswers s) with timers := q } ∧
      q = if agent.id ≠ 1 ∧ locktoNs s ≠ 0 then (s.restart (locktoNs s) (.lockTimeout (Fin.ofNat 8 k))).timers else s.timers := by
  refine ⟨_, ?_, rfl⟩
  rw [lockReads_single hreach, lockRead_of_free (s := noAnswers s) hopen hshared hfreed hfree]
  show addAnswer agent (if agent.id ≠ 1 ∧ locktoNs s ≠ 0 then _ else _) = _
  split <;> rfl

/-- Of two readers of a free lock the one of the lower ID owns it, and the other one reads that ID (R398). -/
theorem lockReads_pair_of_free {a b : Agent} (hlt : a.id < b.id) (hreach : b = .debug → debugOpen s = true)
    (hlock : a = .host ∨ b = .host → s.on F.HIF_CTL_LOCK = false) (hshared : k.val < 8) (hfreed : mbFreed k s = 0) (hfree : mbOwner k s = 0)
    (ht : t = lockReads [b, a] k s) :
    mbOwner k t = a.id ∧ t.rdata = BitVec.ofNat 32 a.id ∧ t.mbx.answers = [(a.id, 0), (b.id, BitVec.ofNat 32 a.id)] ∧ NoLog s t ∧
      Keeps [Reg.MBk_STAT k] s t := by
  have ha : a = .debug → debugOpen s = true := fun h => by subst h; exact absurd hlt (by cases b <;> decide)
  obtain ⟨q, hfirst⟩ := lockRead_of_free_timers (s := noAnswers s) (k := k) (mbDenied_of_open fun h => hlock (.inl h)) hshared hfreed hfree
  have hkeeps : Keeps [Reg.MBk_STAT k] s (addAnswer a { lockWon a k (noAnswers s) with timers := q }) := (lockWon_keeps a k s).congr rfl rfl rfl
  have howner : mbOwner k (addAnswer a { lockWon a k (noAnswers s) with timers := q }) = a.id := lockWon_owner a k s
  have hopen : debugOpen (addAnswer a { lockWon a k (noAnswers s) with timers := q }) = debugOpen s := by
    unfold debugOpen
    rw [hkeeps.get (mbStat_off_access k).left]
    rfl
  have hdenied : b = .host → (addAnswer a { lockWon a k (noAnswers s) with timers := q }).on F.HIF_CTL_LOCK = false := fun h =>
    (hkeeps.on (mbStat_off_access k).right).trans (hlock (.inr h))
  have hsecond : t = pickAnswer b (addAnswer b
      { addAnswer a { lockWon a k (noAnswers s) with timers := q } with rdata := BitVec.ofNat 32 a.id }) := by
    rw [ht, lockReads_pair hlt, mbReached_of_open (s := noAnswers s) ha, hfirst, mbReached_of_open (hopen ▸ hreach),
      lockRead_of_held (mbDenied_of_open hdenied) hshared hfreed (howner.symm ▸ agent_id_ne_zero a), howner]
  have hne : a.id ≠ b.id := Nat.ne_of_lt hlt
  rw [pickAnswer_of_find (i := b.id) (w := BitVec.ofNat 32 a.id) (by
    show [(a.id, (0 : Word)), (b.id, BitVec.ofNat 32 a.id)].find? _ = _
    simp [hne])] at hsecond
  subst hsecond
  exact ⟨howner, rfl, rfl, rfl, hkeeps.congr rfl rfl rfl⟩

/-- Settles O47, one clause for each access: what the access does is one lemma for each of its branches. -/
theorem mailboxTransfers : Obligations.MailboxTransfers := by
  unfold Obligations.MailboxTransfers
  refine ⟨fun s agent k hlock hk hfreed hfree hto hreach => ⟨_, rfl, ?wonUntimed⟩, fun s agent k hlock hk hfreed hfree hext hto hreach => ⟨_, rfl, ?wonTimed⟩,
    fun s agent k hlock hk hfreed hheld hreach => ⟨_, rfl, ?held⟩, fun s agent k hlock hk hfreed hreach => ⟨_, rfl, ?freed⟩,
    fun s agent k hnone hreach => ⟨_, rfl, ?none⟩, fun s agent k hlock hk hown hreach => ⟨_, rfl, ?release⟩,
    fun s agent k value hlock hk hother hreach => ⟨_, rfl, ?ignored⟩,
    fun s k hext hto hdue hlim => ⟨_, rfl, lockTimeout_releases hext hto hdue hlim rfl⟩, fun s k hnot => ⟨_, rfl, ?idle⟩,
    fun s ticket arg k hfresh harg hheld hlim => ⟨_, rfl, ?broken⟩, fun s agent k i value hlock hright hfull hreach => ⟨_, rfl, ?data⟩,
    fun s agent k i value hlock hbad hreach => ⟨_, rfl, ?noData⟩,
    fun s agent k ticket arg hlock hfresh hright hfull htook hlen hable hquiet hrecv hnot hreach => ⟨_, rfl, ?sent⟩,
    fun s agent k ticket arg hlock hfresh hwhy hlim hreach => ⟨_, rfl, ?refused⟩,
    fun s agent k ticket arg hlock hnz hsame hreach => ⟨_, rfl, ?again⟩, fun s agent k hlock hrecv hfull hreach => ⟨_, rfl, ?taken⟩,
    fun s agent k hlock hnot hreach => ⟨_, rfl, ?notTaken⟩,
    fun s a b k hlt hreach hlock hk hfreed hfree => ⟨_, rfl, lockReads_pair_of_free hlt hreach hlock hk hfreed hfree rfl⟩,
    fun s agent k hshut => ⟨_, rfl, mbReached_of_shut hshut _⟩⟩
  case wonUntimed =>
    obtain ⟨q, hrun, hq⟩ := lockReads_of_free (mbDenied_of_open hlock) hreach hk hfreed hfree
    rw [if_neg fun ⟨hid, hns⟩ => hto.elim (fun h => hid (agent_id_trio.mpr h)) hns] at hq
    rw [hrun, hq]
    exact ⟨rfl, lockWon_owner agent k s, rfl, rfl, (lockWon_keeps agent k s).congr rfl rfl rfl⟩
  case wonTimed =>
    obtain ⟨q, hrun, hq⟩ := lockReads_of_free (mbDenied_of_open hlock) hreach hk hfreed hfree
    rw [if_pos ⟨mt agent_id_trio.mp hext, hto⟩] at hq
    rw [hrun, hq]
    exact ⟨rfl, lockWon_owner agent k s, s.mem_timers_restart _ _, rfl, (lockWon_keeps agent k s).congr rfl rfl rfl⟩
  case held =>
    rw [lockReads_single hreach, lockRead_of_held (s := noAnswers s) (mbDenied_of_open hlock) hk hfreed hheld]
    exact ⟨rfl, rfl, rfl, (Keeps.refl _ s).congr rfl rfl rfl⟩
  case freed =>
    rw [lockReads_single hreach, lockRead_of_freed (s := noAnswers s) (mbDenied_of_open hlock) hk hfreed]
    exact ⟨rfl, rfl, rfl, rfl, (Keeps.refl _ s).congr rfl rfl rfl⟩
  case none =>
    rw [lockReads_single hreach]
    by_cases hdenied : agent = .host ∧ s.on F.HIF_CTL_LOCK = true
    · rw [lockRead_of_denied (s := noAnswers s) (mbDenied_of_locked hdenied), if_pos hdenied]
      exact ⟨rfl, rfl, rfl, (mbDeny_keeps s).congr rfl rfl rfl⟩
    · have hopen : agent = .host → s.on F.HIF_CTL_LOCK = false := fun h => Bool.eq_false_iff.mpr fun hon => hdenied ⟨h, hon⟩
      rw [lockRead_of_private (s := noAnswers s) (mbDenied_of_open hopen) (hnone.resolve_left hdenied), if_neg hdenied]
      exact ⟨rfl, rfl, rfl, (Keeps.refl _ s).congr rfl rfl rfl⟩
  case release =>
    rw [mbReached_of_open hreach, lockWrite_of_owner (mbDenied_of_open hlock) hk hown]
    exact lockFree_frees rfl
  case ignored =>
    rw [mbReached_of_open hreach, lockWrite_of_other (mbDenied_of_open hlock) hk hother]
    obtain ⟨hcount, -, htimers, hlog, hkeeps⟩ := mbWref_counts (s := s) rfl
    exact ⟨hcount, htimers, hlog, hkeeps⟩
  case idle =>
    rw [lockTimeout_idle hnot]
    exact ⟨rfl, Keeps.refl _ s⟩
  case broken =>
    rw [State.act_fresh _ _ _ _ _ _ hfresh, harg]
    obtain ⟨hown, -, hlog, hkeeps⟩ := lockBreak_breaks (k := k) (cause := 3) hheld hlim rfl
    refine ⟨?_, hlog, ?_, (hkeeps.mono (List.cons_subset_cons _ (List.nil_subset _))).wr _ (.tail _ (.head _))⟩
    · exact (regGet_wr_apart _ _ _ _ (mbStat_ne_mbxAct k)).trans hown
    · rw [State.rd_wr_same, implMask_mbxAct, BitVec.and_allOnes]
      rfl
  case data =>
    rw [mbReached_of_open hreach, dataWrite_of_right (mbDenied_of_open hlock) hright hfull]
    exact dataWrite_stores rfl
  case noData =>
    rw [mbReached_of_open hreach, dataWrite_of_refused (mbDenied_of_open hlock) hbad]
    obtain ⟨hcount, hmbx, -, hlog, hkeeps⟩ := mbWref_counts (s := s) rfl
    exact ⟨hcount, hmbx, hlog, hkeeps⟩
  case sent =>
    have hmask := sendLen_mask arg
    have hdo := sendDo_of_accepted (arg := arg &&& 0x1f) hright hfull htook (hmask.symm ▸ hlen) hable hquiet hrecv hnot
    rw [hmask] at hdo
    have hin : NotFired (168 + k.val % 8) (packetIn agent k (arg.toNat % 32) s) := notFired_congr rfl rfl hnot
    have hkeeps := packetIn_keeps agent k (arg.toNat % 32) s
    obtain ⟨hfullT, hlenT, hsenderT, hownerT⟩ := packetIn_stat agent k (Nat.mod_lt _ (by decide)) s
    rw [mbReached_of_open hreach, sendWrite_of_fresh (mbDenied_of_open hlock) hfresh hdo (by rw [fire_of_notFired hin]; rfl)]
    refine ⟨?_, ?_, ?_, ?_, ?_, sendRemember_send _ _ _ _ _, congrArg LogSt.reqs (fire_log _), ?_⟩
    · exact (congrArg (· != 0) (fire_get hin _)).trans hfullT
    · exact (fire_get hin _).trans hlenT
    · exact (fire_get hin _).trans hsenderT
    · exact (fire_get hin _).trans hownerT
    · exact fires_of_outside hkeeps (mbStat_outside k) (by omega) rfl rfl hnot rfl
    · exact (hkeeps.fired hin).congr rfl rfl rfl
  case refused =>
    have hmask := sendLen_mask arg
    have hdo := sendDo_of_refused (arg := arg &&& 0x1f) (hmask.symm ▸ hwhy)
    rw [hmask, sendReason_of_refused hwhy] at hdo
    rw [mbReached_of_open hreach, sendWrite_of_fresh (mbDenied_of_open hlock) hfresh hdo (by rw [State.logLimited_mbx]; rfl)]
    exact ⟨logged_of_limited hlim rfl rfl rfl, sendRemember_send _ _ _ _ _,
      (((Keeps.refl _ s).inc 1 (f := F.MBX_CNT_SREF) (.head _)).logLimited _ _ _ _).congr rfl rfl rfl⟩
  case again => rw [mbReached_of_open hreach, sendWrite_of_repeated (mbDenied_of_open hlock) hnz hsame]
  case taken =>
    rw [mbReached_of_open hreach, takeRead_of_receiver (mbDenied_of_open hlock) hrecv hfull]
    exact packetOut_takes hfull rfl
  case notTaken =>
    rw [mbReached_of_open hreach, takeRead_of_other (mbDenied_of_open hlock) hnot]
    exact ⟨rfl, rfl, rfl, (Keeps.refl _ s).congr rfl rfl rfl⟩

end Sys2Proof.Machine
end

section
/-!
PROOFS. Two-wire ports: how a transaction begins, is answered, refused, and how a write takes effect (R411 to R413, R416, R420 to R422).
-/
namespace Sys2Proof.Machine

set_option Elab.async false

variable {s t u : State} {n : Fin 2} {l : List Nat}

/-! ## The hidden state of a port -/

@[simp] theorem twUpd_get (n : Fin 2) (f : TwPort → TwPort) (s : State) (x : Fld) : (twUpd n f s).get x = s.get x := rfl
@[simp] theorem twUpd_on (n : Fin 2) (f : TwPort → TwPort) (s : State) (x : Fld) : (twUpd n f s).on x = s.on x := rfl
@[simp] theorem twUpd_same (n : Fin 2) (f : TwPort → TwPort) (s : State) : (twUpd n f s).tw[n] = f s.tw[n] := updAt_same _ _ _

theorem Keeps.twUpd (h : Keeps l s t) (n : Fin 2) (f : TwPort → TwPort) : Keeps l s (twUpd n f t) := h.congr rfl rfl rfl

theorem Keeps.setBit (h : Keeps l s t) {f : Fld} (i : Nat) (hf : f.addr ∈ l) : Keeps l s (t.setBit f i) := h.hw _ hf

theorem cml_fits : ∀ n : Fin 2, fldFits (F.TWn_CML_CML n) = true := by decide
theorem twPage_fits : ∀ n : Fin 2, fldFits (F.TWn_PAGE_PAGE n) = true := by decide
theorem mbxsel_fits : ∀ n : Fin 2, fldFits (F.TWn_PAGE_MBXSEL n) = true := by decide
theorem pecerr_fits : ∀ n : Fin 2, fldFits (F.TWn_CNT_PECERR n) = true := by decide
theorem qfull_fits : ∀ n : Fin 2, fldFits (F.TWn_CNT_QFULL n) = true := by decide
theorem twPage_apart : ∀ n : Fin 2, fldApart (F.TWn_PAGE_PAGE n) (F.TWn_PAGE_MBXSEL n) = true ∧
    fldApart (F.TWn_PAGE_MBXSEL n) (F.TWn_PAGE_PAGE n) = true := by decide

/-- A bit just set joins the field's others. -/
theorem State.get_setBit_or {f : Fld} (hf : fldFits f = true) {i : Nat} (hi : i < f.width) (s : State) : (s.setBit f i).get f = s.get f ||| 2 ^ i := by
  rw [State.get_regs, State.setBit_regs_put, State.put_regs, regGet_put _ _ _ hf]
  exact Nat.mod_eq_of_lt (Nat.or_lt_two_pow (fldOf_lt f _) (Nat.pow_lt_pow_right Nat.one_lt_two hi))

/-! ## A transaction begins -/

/-- What a port knows once a command code has come. -/
theorem twBegin_port (n : Fin 2) (cmd : Nat) (s : State) : (twBegin n cmd s).tw[n] =
    { s.tw[n] with nack := false, cmd := cmd, resp := [], busAt := some s.clk.ns, deaf := false } := twUpd_same _ _ _

theorem twBegin_keeps (n : Fin 2) (cmd : Nat) (s : State) (l : List Nat) : Keeps l s (twBegin n cmd s) := (Keeps.refl l s).twUpd _ _

theorem pmbus_read (h : Target n 2 s) (cmd : Nat) (read : State → State) (write : List Byte → State → State) :
    pmbus n cmd .read read write s = read (twBegin n cmd s) := by
  obtain ⟨hhears, hpers⟩ := h
  unfold pmbus
  rw [hhears, if_neg (by decide), hpers]
  rfl

theorem pmbus_write (h : Target n 2 s) (cmd : Nat) (d : List Byte) (read : State → State) (write : List Byte → State → State) :
    pmbus n cmd (.write d) read write s = write d (twBegin n cmd s) := by
  obtain ⟨hhears, hpers⟩ := h
  unfold pmbus
  rw [hhears, if_neg (by decide), hpers]
  rfl

theorem mfr_awake (h : Target n 1 s ∨ Target n 2 s) : (!twHears n s || !(s.tw[n].pers == pPMBUS || s.tw[n].pers == pSMBUS)) = false := by
  obtain ⟨hhears, hpers⟩ | ⟨hhears, hpers⟩ := h <;> rw [hhears, hpers] <;> rfl

theorem mfr_read (h : Target n 1 s ∨ Target n 2 s) (cmd : Nat) (read : State → State) (write : List Byte → State → State) :
    mfr n cmd .read read write s = read (twBegin n cmd s) := by
  unfold mfr
  rw [mfr_awake h, if_neg (by decide)]

theorem mfr_write (h : Target n 1 s ∨ Target n 2 s) (cmd : Nat) (d : List Byte) (read : State → State) (write : List Byte → State → State) :
    mfr n cmd (.write d) read write s = write d (twBegin n cmd s) := by
  unfold mfr
  rw [mfr_awake h, if_neg (by decide)]

section
variable {c : Instr} {P : State → Prop} {cmd : Nat} {d : List Byte} {read : State → State} {write : List Byte → State → State}

/-- What a write in the PMBus personality comes to. -/
theorem does_of_pmbus_write (h : Target n 2 s) (hexec : exec c s = .next (pmbus n cmd (.write d) read write s))
    (hrun : write d (twBegin n cmd s) = t) (hP : P t) : Does c s P :=
  ⟨t, hexec.trans (congrArg Host.Outcome.next ((pmbus_write h cmd d read write).trans hrun)), hP⟩

theorem does_of_pmbus_read (h : Target n 2 s) (hexec : exec c s = .next (pmbus n cmd .read read write s)) (hrun : read (twBegin n cmd s) = t)
    (hP : P t) : Does c s P :=
  ⟨t, hexec.trans (congrArg Host.Outcome.next ((pmbus_read h cmd read write).trans hrun)), hP⟩

/-- What a manufacturer command comes to in either personality. -/
theorem does_of_mfr_write (h : Target n 1 s ∨ Target n 2 s) (hexec : exec c s = .next (mfr n cmd (.write d) read write s))
    (hrun : write d (twBegin n cmd s) = t) (hP : P t) : Does c s P :=
  ⟨t, hexec.trans (congrArg Host.Outcome.next ((mfr_write h cmd d read write).trans hrun)), hP⟩

theorem does_of_mfr_read (h : Target n 1 s ∨ Target n 2 s) (hexec : exec c s = .next (mfr n cmd .read read write s))
    (hrun : read (twBegin n cmd s) = t) (hP : P t) : Does c s P :=
  ⟨t, hexec.trans (congrArg Host.Outcome.next ((mfr_read h cmd read write).trans hrun)), hP⟩

end

/-! ## Answers and refusals -/

/-- An answer in a state in which the port has just begun. -/
theorem answered_of_begun {cmd : Nat} {d : List Byte} (hu : u.tw[n] = (twBegin n cmd s).tw[n]) (ht : t.tw = (twAnswer n d u).tw) :
    Answered n cmd d s t := by
  rw [twBegin_port] at hu
  have hport : t.tw[n] = { u.tw[n] with resp := d ++ [pec ([addrW n u, b8 u.tw[n].cmd] ++ addrR n u :: d)] } := by
    rw [ht]
    exact twUpd_same _ _ _
  unfold addrW addrR at hport
  rw [hu] at hport
  rw [Answered, hport]
  exact ⟨rfl, rfl⟩

/-- A refusal in a state in which the port has just begun. -/
theorem nacked_of_begun {cmd bit : Nat} (hbit : bit < 8) (ht : t = twNack n bit (twBegin n cmd s)) :
    Nacked n bit s t ∧ t.tw[n].q = s.tw[n].q ∧ NoLog s t ∧ Keeps [Reg.TWn_CML n] s t := by
  have hport : t.tw[n] = { (twBegin n cmd s).tw[n] with nack := true } := by
    rw [ht]
    exact twUpd_same _ _ _
  rw [twBegin_port] at hport
  refine ⟨⟨by rw [hport], by rw [hport], ?_⟩, by rw [hport], ?_, ?_⟩
  · rw [ht]
    exact State.get_setBit_or (cml_fits n) hbit _
  · rw [ht]
    rfl
  · rw [ht]
    exact ((twBegin_keeps n cmd s _).setBit bit (f := F.TWn_CML_CML n) (.head _)).twUpd _ _

theorem cnt_off_cml : ∀ n : Fin 2, Reg.TWn_CNT n ∉ [Reg.TWn_CML n] := by decide
theorem cnt_ne_cml : ∀ n : Fin 2, (F.TWn_CML_CML n).addr ≠ Reg.TWn_CNT n := by decide

/-- A refusal that is counted and logged at most once a millisecond: the count's field, the code and the data (R413, R422, R437). -/
theorem nacked_counted {cmd bit code : Nat} {data : List Byte} {f : Fld} (hbit : bit < 8) (hcode : code = 2 ∨ code = 3)
    (hf : fldFits f = true) (hw : f.width = 8) (haddr : f.addr = Reg.TWn_CNT n) (hlim : (mapFind s.lim (0x0E0000 + code * 16 + n.val)).getD 0 = 0)
    (ht : t = twLog n code data ((twNack n bit (twBegin n cmd s)).inc f)) :
    Nacked n bit s t ∧ t.tw[n].q = s.tw[n].q ∧ Logged 0x0E code (b8 n :: data) s t ∧ t.get f = min 255 (s.get f + 1) ∧
      Keeps [Reg.TWn_CML n, Reg.TWn_CNT n] s t := by
  obtain ⟨⟨hnack, hresp, hcml⟩, hq, -, hkeeps⟩ := nacked_of_begun (s := s) (n := n) (cmd := cmd) hbit rfl
  rw [twLog, if_pos hcode] at ht
  obtain ⟨m, g, hrec⟩ := ((twNack n bit (twBegin n cmd s)).inc f).logLimited_log (0x0E0000 + code * 16 + n) 0x0E code (b8 n :: data)
  have htw : t.tw = (twNack n bit (twBegin n cmd s)).tw := by rw [ht, hrec]; rfl
  have hregs : t.regs = ((twNack n bit (twBegin n cmd s)).inc f).regs := by rw [ht, hrec]
  have hne : (F.TWn_CML_CML n).addr ≠ f.addr := haddr ▸ cnt_ne_cml n
  have hcount : (twNack n bit (twBegin n cmd s)).get f = s.get f := hkeeps.get (by rw [haddr]; exact cnt_off_cml n)
  refine ⟨⟨htw ▸ hnack, htw ▸ hresp, ?_⟩, htw ▸ hq, ht ▸ logged_of_limited hlim rfl rfl rfl, ?_, ?_⟩
  · rw [State.get_regs, hregs]
    exact (State.get_inc_ne hne 1 _).trans hcml
  · rw [State.get_regs, hregs]
    exact (State.get_inc_byte hf hw _).trans (by rw [hcount])
  · rw [ht]
    exact ((hkeeps.mono (List.cons_subset_cons _ (List.nil_subset _))).inc 1 (haddr ▸ .tail _ (.head _))).logLimited _ _ _ _

/-! ## The end of a write (R411 to R413) -/

section
variable {need : Nat} {valid : Bool} {data d : List Byte} {effect : State → State}

theorem twWrite_of_bare (hvalid : valid = true) (hlen : data.length = need) (hreq : s.on (F.TWn_CTL_PECREQ n) = false) :
    twWrite n need valid data effect s = effect s := by
  subst hvalid
  unfold twWrite
  rw [hlen, if_neg (by simp), if_pos rfl, hreq, if_neg (by decide)]

theorem twWrite_of_pec (hvalid : valid = true) (hlen : d.length = need) (hdata : data = d ++ [pec ([addrW n s, b8 s.tw[n].cmd] ++ d)]) :
    twWrite n need valid data effect s = effect s := by
  subst hvalid
  unfold twWrite
  have hget : (d ++ [pec ([addrW n s, b8 s.tw[n].cmd] ++ d)]).getD need 0 = pec ([addrW n s, b8 s.tw[n].cmd] ++ d) := by
    rw [← hlen, List.getD_append_right _ _ _ _ (Nat.le_refl _), Nat.sub_self]
    rfl
  have htake : (d ++ [pec ([addrW n s, b8 s.tw[n].cmd] ++ d)]).take need = d := by rw [← hlen, List.take_left]
  rw [hdata, if_neg (by simp [hlen]), if_neg (by simp [hlen]), hget, htake, if_pos rfl]

theorem twWrite_of_invalid (hvalid : valid = false) : twWrite n need valid data effect s = badData n s := by
  subst hvalid
  unfold twWrite
  exact if_pos (by simp)

theorem twWrite_of_wrongPec {e : Byte} (hvalid : valid = true) (hdata : data = d ++ [e]) (hlen : d.length = need)
    (hpec : e ≠ pec ([addrW n s, b8 s.tw[n].cmd] ++ d)) : twWrite n need valid data effect s = pecFail n s := by
  subst hvalid hdata
  unfold twWrite
  have hget : (d ++ [e]).getD need 0 = e := by
    rw [← hlen, List.getD_append_right _ _ _ _ (Nat.le_refl _), Nat.sub_self]
    rfl
  have htake : (d ++ [e]).take need = d := by rw [← hlen, List.take_left]
  rw [if_neg (by simp [hlen]), if_neg (by simp [hlen]), hget, htake, if_neg hpec]

end

/-! ## The write queue (R421, R422) -/

section
variable {kind cmd : Nat} {valid : Nat → Bool} {data : List Byte} {also_ : State → State}

theorem queueFull_of_room (hroom : s.tw[n].q.length + s.tw[n].popped.length < 16) (cmd : Nat) : queueFull n (twBegin n cmd s) = false := by
  unfold queueFull
  rw [twBegin_port]
  exact decide_eq_false (Nat.not_le.mpr hroom)

theorem queueFull_of_full (hfull : 16 ≤ s.tw[n].q.length) (cmd : Nat) : queueFull n (twBegin n cmd s) = true := by
  unfold queueFull
  rw [twBegin_port]
  exact decide_eq_true (Nat.le_add_right_of_le hfull)

theorem queueWrite_of_room (hroom : queueFull n s = false) : queueWrite n kind cmd valid data also_ s =
    twWrite n kind (valid (natOfBytes (data.take kind))) data (fun t => queueAppend n kind cmd (natOfBytes (data.take kind)) (also_ t)) s := by
  unfold queueWrite
  rw [hroom]
  exact if_neg (by simp)

theorem queueWrite_of_full (hfull : queueFull n s = true) (hmeet : kind = 0 ∨ data ≠ [] ∧ (kind = 2 ∨ valid (natOfBytes (data.take kind)) = true)) :
    queueWrite n kind cmd valid data also_ s = queueRefuse n s := by
  unfold queueWrite
  rw [hfull]
  exact if_pos (by simpa using hmeet)

/-- One entry is appended with the PAGE in force, and the port's source fires (R421). -/
theorem queueAppend_queues {data : Nat} (hnack : u.tw[n].nack = false) (hq : u.tw[n].q = s.tw[n].q) (hkeeps : Keeps l s u)
    (hl : ∀ a ∈ l, (a < 0x40090000 ∨ 0x400A0000 ≤ a) ∧ a ≠ Reg.TWn_PAGE n) (hevm : u.evm = s.evm) (hclk : u.clk = s.clk)
    (hlog : u.log = s.log) (hnot : NotFired (180 + n.val) s) (ht : t = queueAppend n kind cmd data u) :
    Queued n kind cmd data s t ∧ Fires (180 + n.val) s t ∧ NoLog s t ∧ Keeps l s t := by
  subst ht
  have hpage : twPage n u = twPage n s := hkeeps.get fun hmem => (hl _ hmem).right rfl
  have happ : ∀ f, Keeps l s (twUpd n f u) := fun f => hkeeps.twUpd n f
  have hfire : ∀ f, (twUpd n f u).fire (180 + n.val) = _ := fun f => fire_of_notFired (notFired_congr hevm hclk hnot)
  unfold queueAppend
  dsimp only
  refine ⟨?_, fires_of_outside (happ _) (fun a ha => (hl a ha).left) (by omega) hevm hclk hnot rfl, ?_, (happ _).fired (notFired_congr hevm hclk hnot)⟩
  · rw [hfire, hpage]
    have hport := twUpd_same n (fun p => { p with q := p.q ++ [BitVec.ofNat 32 (2 ^ 31 + kind * 2 ^ 29 +
      (if twPage n s = 0xFF then 2 ^ 28 else twPage n s % 4 * 2 ^ 24) + cmd * 65536 + data % 65536)] }) u
    exact ⟨(congrArg TwPort.nack hport).trans hnack, (congrArg TwPort.q hport).trans (congrArg (· ++ _) hq)⟩
  · rw [hfire]
    exact congrArg LogSt.reqs hlog

/-- A queued write of a command that has just begun. -/
theorem queueAppend_appends {data : Nat} (hport : u.tw[n] = (twBegin n cmd s).tw[n]) (hkeeps : Keeps l s u)
    (hl : ∀ a ∈ l, (a < 0x40090000 ∨ 0x400A0000 ≤ a) ∧ a ≠ Reg.TWn_PAGE n) (hevm : u.evm = s.evm) (hclk : u.clk = s.clk)
    (hlog : u.log = s.log) (hnot : NotFired (180 + n.val) s) (ht : t = queueAppend n kind cmd data u) :
    Queued n kind cmd data s t ∧ Fires (180 + n.val) s t ∧ NoLog s t ∧ Keeps l s t :=
  queueAppend_queues (by rw [hport, twBegin_port]) (by rw [hport, twBegin_port]) hkeeps hl hevm hclk hlog hnot ht

end

end Sys2Proof.Machine
end

section
/-!
PROOFS. The mailboxes by the bus, as sender 4 or 5, and the settlement of the writes (R415, R420, R428).
-/
namespace Sys2Proof.Machine

set_option Elab.async false

variable {s t u : State} {n : Fin 2} {k : Fin 16}

/-! ## The port as a sender (R393) -/

theorem twAgent_id : ∀ n : Fin 2, (twAgent n).id = 4 + n.val := by decide
theorem twAgent_ne_host : ∀ n : Fin 2, twAgent n ≠ .host := by decide
theorem twAgent_ne_trio : ∀ n : Fin 2, twAgent n ≠ .trio := by decide
theorem twAgent_id_ne_one : ∀ n : Fin 2, (twAgent n).id ≠ 1 := by decide

theorem mbDenied_twAgent (n : Fin 2) (s : State) : mbDenied (twAgent n) s = false := mbDenied_of_open fun h => absurd h (twAgent_ne_host n)

/-- The selected mailbox is one of the sixteen. -/
theorem twMbx_eq (n : Fin 2) (s : State) : ∃ k : Fin 16, twMbx n s = k.val :=
  ⟨⟨twMbx n s, fldOf_lt (F.TWn_PAGE_MBXSEL n) _⟩, rfl⟩

theorem clampNat_of_within {x lo hi : Nat} (hlo : lo ≤ x) (hhi : x ≤ hi) : clampNat x lo hi = x := by
  unfold clampNat
  omega

/-- The two bytes that a take by the bus answers (R403, R420). -/
theorem takeWord_bytes (hfull : mbFull k s = true) :
    bitIf ((takeWord k s).getLsbD 31) 15 + ((takeWord k s).extractLsb' 16 5).toNat * 256 + ((takeWord k s).extractLsb' 8 3).toNat =
      2 ^ 15 + s.get (F.MBk_STAT_LEN k) * 256 + s.get (F.MBk_STAT_SENDER k) := by
  have hlen : s.get (F.MBk_STAT_LEN k) < 32 := fldOf_lt (F.MBk_STAT_LEN k) _
  have hsender : s.get (F.MBk_STAT_SENDER k) < 8 := fldOf_lt (F.MBk_STAT_SENDER k) _
  have hword : (takeWord k s).toNat = 2 ^ 31 + s.get (F.MBk_STAT_LEN k) * 65536 + s.get (F.MBk_STAT_SENDER k) * 256 := by
    unfold takeWord
    rw [if_pos hfull, BitVec.toNat_ofNat]
    omega
  have hbit : (takeWord k s).getLsbD 31 = true := by
    rw [← BitVec.testBit_toNat, hword, Nat.testBit_eq_decide_div_mod_eq]
    exact decide_eq_true (by omega)
  rw [hbit, BitVec.extractLsb'_toNat, BitVec.extractLsb'_toNat, hword, Nat.shiftRight_eq_div_pow, Nat.shiftRight_eq_div_pow]
  show 2 ^ 15 + _ * 256 + _ = _
  omega

/-! ## Queued writes of voltages -/

/-- The data bytes of a write word, and whether they are a voltage (R107, R414). -/
theorem natOfBytes_pair (lo hi : Byte) : natOfBytes [lo, hi] = lo.toNat + 256 * hi.toNat := by simp [natOfBytes]
theorem natOfBytes_single (b : Byte) : natOfBytes [b] = b.toNat := by simp [natOfBytes]

theorem voltOk_iff (v : Nat) : voltOk v = true ↔ 500 ≤ v ∧ v ≤ 5000 := by simp [voltOk]

theorem queueAppend_get {kind cmd data : Nat} (hnot : NotFired (180 + n.val) u) (f : Fld) : (queueAppend n kind cmd data u).get f = u.get f := by
  unfold queueAppend
  exact (fire_get (src := 180 + n.val) (s := twUpd n _ u) (notFired_congr rfl rfl hnot) f).trans (twUpd_get n _ u f)

/-- No register is listed. -/
theorem nil_outside (n : Fin 2) : ∀ a ∈ ([] : List Nat), (a < 0x40090000 ∨ 0x400A0000 ≤ a) ∧ a ≠ Reg.TWn_PAGE n := fun _ h => absurd h List.not_mem_nil

theorem cml_outside : ∀ n : Fin 2, ∀ a ∈ [Reg.TWn_CML n], (a < 0x40090000 ∨ 0x400A0000 ≤ a) ∧ a ≠ Reg.TWn_PAGE n := by decide

section
variable {cmd : Nat} {lo hi : Byte} (hroom : s.tw[n].q.length + s.tw[n].popped.length < 16)
include hroom

/-- A voltage in range, with the right PEC or with none where none must be, is queued as a write word (R413, R414, R421). -/
theorem voutWrite_appends {data : List Byte} (hvolt : 500 ≤ lo.toNat + 256 * hi.toNat ∧ lo.toNat + 256 * hi.toNat ≤ 5000)
    (hdata : data = [lo, hi] ∧ s.on (F.TWn_CTL_PECREQ n) = false ∨ data = [lo, hi, pec [b8 (2 * s.tw[n].addr), b8 cmd, lo, hi]])
    (hnot : NotFired (180 + n.val) s) (ht : t = queueWrite n 2 cmd voltOk data id (twBegin n cmd s)) :
    Queued n 2 cmd (lo.toNat + 256 * hi.toNat) s t ∧ Fires (180 + n.val) s t ∧ NoLog s t ∧ Keeps [] s t := by
  have hpair : natOfBytes (data.take 2) = lo.toNat + 256 * hi.toNat := by
    obtain ⟨rfl, -⟩ | rfl := hdata <;> exact natOfBytes_pair lo hi
  rw [queueWrite_of_room (queueFull_of_room hroom cmd), hpair, (voltOk_iff _).mpr hvolt] at ht
  refine queueAppend_appends rfl (twBegin_keeps n cmd s []) (nil_outside n) rfl rfl rfl hnot (ht.trans ?_)
  obtain ⟨rfl, hreq⟩ | rfl := hdata
  · exact twWrite_of_bare rfl rfl hreq
  · refine twWrite_of_pec rfl (d := [lo, hi]) rfl ?_
    unfold addrW
    rw [twBegin_port]
    rfl

theorem voutWrite_refuses (hvolt : lo.toNat + 256 * hi.toNat < 500 ∨ 5000 < lo.toNat + 256 * hi.toNat)
    (ht : t = queueWrite n 2 cmd voltOk [lo, hi] id (twBegin n cmd s)) :
    Nacked n 6 s t ∧ t.tw[n].q = s.tw[n].q ∧ NoLog s t ∧ Keeps [Reg.TWn_CML n] s t := by
  have hbad : voltOk (natOfBytes ([lo, hi].take 2)) = false := by
    rw [← Bool.not_eq_true, voltOk_iff, show [lo, hi].take 2 = [lo, hi] from rfl, natOfBytes_pair]
    omega
  rw [queueWrite_of_room (queueFull_of_room hroom cmd), twWrite_of_invalid hbad] at ht
  exact nacked_of_begun (by decide) ht

end

/-- A full queue refuses a write, counts it and logs it (R422). -/
theorem queueRefuse_refuses {cmd : Nat} (hlim : (mapFind s.lim (0x0E0030 + n.val)).getD 0 = 0) (ht : t = queueRefuse n (twBegin n cmd s)) :
    Nacked n 1 s t ∧ t.tw[n].q = s.tw[n].q ∧ t.get (F.TWn_CNT_QFULL n) = min 255 (s.get (F.TWn_CNT_QFULL n) + 1) ∧
      Logged 0x0E 3 [b8 n.val, b8 cmd] s t ∧ Keeps [Reg.TWn_CML n, Reg.TWn_CNT n] s t := by
  unfold queueRefuse at ht
  rw [twBegin_port] at ht
  obtain ⟨hnack, hq, hlog, hcount, hkeeps⟩ := nacked_counted (s := s) (cmd := cmd) (by decide) (.inr rfl) (qfull_fits n) rfl rfl hlim ht
  exact ⟨hnack, hq, hcount, hlog, hkeeps⟩

/-- A queued command that gets as far as the queue: it is a send byte, or its first data byte is valid (R413, R414, R421). -/
theorem queued_exec {c : Instr} {code : Nat} {d : List Byte} (s : State)
    (hc : (c, code) ∈ [(Instr.operation n (.write d), 0x01), (.clearFaults n (.write d), 0x03), (.voutCommand n (.write d), 0x21), (.voutMax n (.write d), 0x24), (.voutMin n (.write d), 0x2B), (.mfrClear n (.write d), 0xD8)])
    (hmeet : d.take 1 = [0x80] ∨ d.take 1 = [0] ∨ d ≠ [] ∧ code ≠ 0x01 ∨ code = 0x03 ∨ code = 0xD8) :
    ∃ read kind valid also_, exec c s = .next (pmbus n code (.write d) read (fun d => queueWrite n kind code valid d also_) s) ∧
      (kind = 0 ∨ d ≠ [] ∧ (kind = 2 ∨ valid (natOfBytes (d.take kind)) = true)) := by
  have hsome : code = 0x03 ∨ code = 0xD8 ∨ d ≠ [] := by
    by_cases hd : d = []
    · subst hd
      simp only [List.take_nil, List.ne_cons_self, ne_eq, not_true, false_and, false_or] at hmeet
      exact hmeet.imp id .inl
    · exact .inr (.inr hd)
  simp only [List.mem_cons, Prod.mk.injEq, List.not_mem_nil, or_false] at hc
  obtain ⟨rfl, rfl⟩ | ⟨rfl, rfl⟩ | hc := hc
  · have hbyte : d.take 1 = [0x80] ∨ d.take 1 = [0] := by simpa using hmeet
    refine ⟨_, 1, _, _, rfl, .inr ⟨by simpa using hsome, .inr ?_⟩⟩
    obtain h | h := hbyte <;> rw [h, natOfBytes_single] <;> rfl
  · exact ⟨_, 0, _, _, rfl, .inl rfl⟩
  · obtain ⟨rfl, rfl⟩ | ⟨rfl, rfl⟩ | ⟨rfl, rfl⟩ | ⟨rfl, rfl⟩ := hc
    · exact ⟨_, 2, _, _, rfl, .inr ⟨by simpa using hsome, .inl rfl⟩⟩
    · exact ⟨_, 2, _, _, rfl, .inr ⟨by simpa using hsome, .inl rfl⟩⟩
    · exact ⟨_, 2, _, _, rfl, .inr ⟨by simpa using hsome, .inl rfl⟩⟩
    · exact ⟨_, 0, _, _, rfl, .inl rfl⟩

/-! ## PAGE and the mailbox selection (R415, R420) -/

theorem pageValid_iff (p : Byte) : (decide (p.toNat ≤ 3) || p == 0xFF) = true ↔ p.toNat ≤ 3 ∨ p = 0xFF := by
  rw [Bool.or_eq_true, decide_eq_true_eq, beq_iff_eq]

/-- A PAGE that takes effect. -/
theorem pageWrite_sets {p : Byte} (ht : t = (twBegin n 0 s).put (F.TWn_PAGE_PAGE n) p.toNat) :
    t.get (F.TWn_PAGE_PAGE n) = p.toNat ∧ t.get (F.TWn_PAGE_MBXSEL n) = s.get (F.TWn_PAGE_MBXSEL n) ∧ t.tw[n].nack = false ∧ NoLog s t ∧
      Keeps [Reg.TWn_PAGE n] s t := by
  subst ht
  exact ⟨State.get_put_of_lt (twPage_fits n) p.isLt _, State.get_put_apart (twPage_apart n).left _ _, congrArg TwPort.nack (twBegin_port n 0 s), rfl,
    (twBegin_keeps n 0 s _).put p.toNat (f := F.TWn_PAGE_PAGE n) (.head _)⟩

/-- A mailbox selection that takes effect. -/
theorem mbxSelWrite_sets {k : Byte} (hk : k.toNat ≤ 15) (ht : t = (twBegin n 0xD0 s).put (F.TWn_PAGE_MBXSEL n) k.toNat) :
    t.get (F.TWn_PAGE_MBXSEL n) = k.toNat ∧ t.get (F.TWn_PAGE_PAGE n) = s.get (F.TWn_PAGE_PAGE n) ∧ NoLog s t ∧ Keeps [Reg.TWn_PAGE n] s t := by
  subst ht
  exact ⟨State.get_put_of_lt (mbxsel_fits n) (Nat.lt_succ_of_le hk) _, State.get_put_apart (twPage_apart n).right _ _, rfl,
    (twBegin_keeps n 0xD0 s _).put k.toNat (f := F.TWn_PAGE_MBXSEL n) (.head _)⟩

/-! ## The mailbox commands (R420) -/

/-- The read of a free lock by a port makes the port its owner, with the time-out running (R397, R399). -/
theorem mbxLockRead_wins (hshared : k.val < 8) (hfree : mbOwner k s = 0) (hfreed : mbFreed k s = 0) (hto : locktoNs s ≠ 0)
    (ht : t = twAnswer n [b8 (lockRead (twAgent n) k (twBegin n 0xD1 s)).rdata.toNat] (lockRead (twAgent n) k (twBegin n 0xD1 s))) :
    Answered n 0xD1 [0] s t ∧ mbOwner k t = 4 + n.val ∧ (s.clk.ns + locktoNs s, .lockTimeout (Fin.ofNat 8 k)) ∈ t.timers ∧ NoLog s t ∧
      Keeps [Reg.MBk_STAT k] s t := by
  rw [lockRead_of_free (s := twBegin n 0xD1 s) (mbDenied_twAgent n _) hshared hfreed hfree,
    if_pos (show _ ∧ locktoNs (twBegin n 0xD1 s) ≠ 0 from ⟨twAgent_id_ne_one n, hto⟩)] at ht
  subst ht
  exact ⟨answered_of_begun rfl rfl, (lockWon_owner (twAgent n) k s).trans (twAgent_id n), State.mem_timers_restart _ _ _, rfl,
    ((twBegin_keeps n 0xD1 s _).trans (lockWon_keeps (twAgent n) k (twBegin n 0xD1 s))).congr rfl rfl rfl⟩

theorem mbxLockRead_reads (hshared : k.val < 8) (hheld : mbOwner k s ≠ 0) (hfreed : mbFreed k s = 0)
    (ht : t = twAnswer n [b8 (lockRead (twAgent n) k (twBegin n 0xD1 s)).rdata.toNat] (lockRead (twAgent n) k (twBegin n 0xD1 s))) :
    Answered n 0xD1 [b8 (mbOwner k s)] s t ∧ NoLog s t ∧ Keeps [] s t := by
  have howner : mbOwner k s < 8 := fldOf_lt (F.MBk_STAT_OWNER k) _
  have hbyte : (BitVec.ofNat 32 (mbOwner k s)).toNat = mbOwner k s := Nat.mod_eq_of_lt (by omega)
  have hsame : mbOwner k (twBegin n 0xD1 s) = mbOwner k s := rfl
  rw [lockRead_of_held (s := twBegin n 0xD1 s) (mbDenied_twAgent n _) hshared hfreed hheld] at ht
  dsimp only at ht
  rw [hsame, hbyte] at ht
  subst ht
  exact ⟨answered_of_begun rfl rfl, rfl, (twBegin_keeps n 0xD1 s []).congr rfl rfl rfl⟩

theorem mbxLockWrite_frees (hshared : k.val < 8) (hown : mbOwner k s = 4 + n.val) (ht : t = lockWrite (twAgent n) k 0 (twBegin n 0xD1 s)) :
    mbOwner k t = 0 ∧ t.armed (.lockTimeout (Fin.ofNat 8 k)) = false ∧ NoLog s t ∧ Keeps [Reg.MBk_STAT k] s t := by
  rw [lockWrite_of_owner (s := twBegin n 0xD1 s) (mbDenied_twAgent n _) hshared (hown.trans (twAgent_id n).symm)] at ht
  obtain ⟨hfree, harm, hlog, hkeeps⟩ := lockFree_frees ht
  exact ⟨hfree, harm, hlog, (twBegin_keeps n 0xD1 s _).trans hkeeps⟩

/-- One data word by the bus (R396, R420). -/
theorem mbxDataWrite_stores {w : Word} (hright : mbRight (twAgent n) k s = true) (hempty : mbFull k s = false)
    (ht : t = dataWrite (twAgent n) k 0 w (twBegin n 0xD2 s)) :
    t.rd (Reg.MBk_DATAi k 0) = w ∧ NoLog s t ∧ Keeps [Reg.MBk_DATAi k 0] s t := by
  rw [dataWrite_of_right (s := twBegin n 0xD2 s) (mbDenied_twAgent n _) hright hempty] at ht
  obtain ⟨hword, -, hlog, hkeeps⟩ := dataWrite_stores (i := 0) ht
  exact ⟨hword, hlog, (twBegin_keeps n 0xD2 s _).trans hkeeps⟩

/-- A block of the last packet's words, which the receiver alone reads (R396, R420). -/
theorem mbxDataRead_answers (hrecv : mbRecv k s = 4 + n.val) (hmin : 1 ≤ s.get (F.MBk_STAT_LEN k)) (hmax : s.get (F.MBk_STAT_LEN k) ≤ 16)
    (ht : t = twAnswer n (b8 (4 * clampNat (s.get (F.MBk_STAT_LEN k)) 1 16) :: ((List.range (clampNat (s.get (F.MBk_STAT_LEN k)) 1 16)).map fun i =>
      bytesOfWord (if mbRecv k s = (twAgent n).id then s.rd (Reg.MBk_DATAi k i) else 0)).flatten) (twBegin n 0xD2 s)) :
    Answered n 0xD2 (b8 (4 * s.get (F.MBk_STAT_LEN k)) ::
      ((List.range (s.get (F.MBk_STAT_LEN k))).map fun i => bytesOfWord (s.rd (Reg.MBk_DATAi k i))).flatten) s t ∧ NoLog s t ∧ Keeps [] s t := by
  simp only [if_pos (hrecv.trans (twAgent_id n).symm), clampNat_of_within hmin hmax] at ht
  subst ht
  exact ⟨answered_of_begun rfl rfl, rfl, (twBegin_keeps n 0xD2 s []).twUpd _ _⟩

theorem mbxDataCount_bad {m : Byte} (hm : m.toNat < 4 ∨ 64 < m.toNat ∨ m.toNat % 4 ≠ 0) :
    (decide (4 ≤ m.toNat) && decide (m.toNat ≤ 64) && m.toNat % 4 == 0) = false := by
  simp only [Bool.and_eq_false_iff, decide_eq_false_iff_not, beq_eq_false_iff_ne]
  omega

/-- A send by the bus: the packet is in the mailbox, whose source fires (R401, R420). -/
theorem mbxSend_sends {key : Byte} {len : Nat} {arg : BitVec 16} (harg : arg.toNat % 32 = len)
    (hfresh : key = 0 ∨ key ≠ ((mapFind s.mbx.send (8 * k.val + (4 + n.val))).getD 0).extractLsb' 24 8) (hright : mbRight (twAgent n) k s = true)
    (hempty : mbFull k s = false) (htook : s.mbx.took.contains (k.val, aoNow s) = false) (hlen : len ≠ 0 ∧ len ≤ 16) (hrecv : mbRecv k s = 1)
    (hquiet : s.on (F.MBk_CFG_NOTIFY k) = false) (hnot : NotFired (168 + k.val % 8) s) (ht : t = sendWrite (twAgent n) k key arg 1 (twBegin n 0xD3 s)) :
    mbFull k t = true ∧ t.get (F.MBk_STAT_LEN k) = len ∧ t.get (F.MBk_STAT_SENDER k) = 4 + n.val ∧ Fires (168 + k.val % 8) s t ∧ NoLog s t ∧
      Keeps [Reg.MBk_STAT k] s t := by
  have hmask : (arg &&& 0x1f).toNat % 32 = len := (sendLen_mask arg).trans harg
  have hable : mbDisabled k s = false := by rw [mbDisabled, hrecv]; rfl
  have hto : mbRecv k s ≠ 4 ∧ mbRecv k s ≠ 5 := by rw [hrecv]; decide
  have hin : NotFired (168 + k.val % 8) (packetIn (twAgent n) k len (twBegin n 0xD3 s)) := notFired_congr rfl rfl hnot
  have hkeeps : Keeps [Reg.MBk_STAT k] s (packetIn (twAgent n) k len (twBegin n 0xD3 s)) := (twBegin_keeps n 0xD3 s _).trans (packetIn_keeps _ k len _)
  have hdo := sendDo_of_accepted (s := twBegin n 0xD3 s) (arg := arg &&& 0x1f) hright hempty htook (hmask.symm ▸ hlen) hable hquiet hto hnot
  rw [hmask] at hdo
  obtain ⟨hfullT, hlenT, hsenderT, -⟩ := packetIn_stat (twAgent n) k (show len < 32 by omega) (twBegin n 0xD3 s)
  rw [sendWrite_of_fresh (s := twBegin n 0xD3 s) (mbDenied_twAgent n _) (by rw [twAgent_id n]; exact hfresh) hdo
    (by rw [fire_of_notFired hin]; rfl)] at ht
  subst ht
  refine ⟨?_, ?_, ?_, fires_of_outside hkeeps (mbStat_outside k) (by omega) rfl rfl hnot rfl, congrArg LogSt.reqs (fire_log _),
    (hkeeps.fired hin).congr rfl rfl rfl⟩
  · exact (congrArg (· != 0) (fire_get hin _)).trans hfullT
  · exact (fire_get hin _).trans hlenT
  · exact ((fire_get hin _).trans hsenderT).trans (twAgent_id n)

/-- A take by the bus (R403, R420). -/
theorem mbxTake_takes (hrecv : mbRecv k s = 4 + n.val) (hfull : mbFull k s = true) {d : List Byte} {u : State}
    (hu : u = takeRead (twAgent n) k (twBegin n 0xD4 s))
    (hd : d = bytesOfNat 2 (bitIf (u.rdata.getLsbD 31) 15 + (u.rdata.extractLsb' 16 5).toNat * 256 + (u.rdata.extractLsb' 8 3).toNat))
    (ht : t = twAnswer n d u) :
    Answered n 0xD4 (bytesOfNat 2 (2 ^ 15 + s.get (F.MBk_STAT_LEN k) * 256 + s.get (F.MBk_STAT_SENDER k))) s t ∧ mbFull k t = false ∧ NoLog s t ∧
      Keeps [Reg.MBk_STAT k] s t := by
  rw [takeRead_of_receiver (s := twBegin n 0xD4 s) (mbDenied_twAgent n _) ((twAgent_id n).trans hrecv.symm) hfull] at hu
  have hword : u.rdata = takeWord k s := hu ▸ rfl
  rw [hword, takeWord_bytes hfull] at hd
  obtain ⟨-, hempty, -, -, hlog, hkeeps⟩ := packetOut_takes (s := twBegin n 0xD4 s) hfull hu
  rw [ht, hd]
  refine ⟨answered_of_begun (by rw [hu]; rfl) rfl, hempty, hlog, ((twBegin_keeps n 0xD4 s _).trans hkeeps).twUpd _ _⟩

/-- A read of the causes returns and clears them (R13, R428). -/
theorem attnRead_clears (hnone : s.touched (Reg.TWn_ATTN n) = none) (ht : t = attnRead n (twBegin n 0xD5 s)) :
    Answered n 0xD5 (bytesOfNat 2 (s.get (F.TWn_ATTN_CAUSE n))) s t ∧ t.get (F.TWn_ATTN_CAUSE n) = 0 ∧ NoLog s t ∧ Keeps [Reg.TWn_ATTN n] s t := by
  have hrun : attnRead n (twBegin n 0xD5 s) =
      (twAnswer n (bytesOfNat 2 (s.get (F.TWn_ATTN_CAUSE n))) (twBegin n 0xD5 s)).wr (Reg.TWn_ATTN n) 0 := by
    have hbegun : (twBegin n 0xD5 s).touched (Reg.TWn_ATTN n) = none := hnone
    unfold attnRead
    dsimp only
    rw [hbegun]
    rfl
  rw [hrun] at ht
  subst ht
  refine ⟨answered_of_begun rfl rfl, ?_, rfl, ((twBegin_keeps n 0xD5 s _).twUpd _ _).wr 0 (.head _)⟩
  unfold State.get
  rw [show (F.TWn_ATTN_CAUSE n).addr = Reg.TWn_ATTN n from rfl, State.rd_wr_same, BitVec.ofNat_eq_ofNat, BitVec.zero_and]
  simp [fldOf]

/-! ## The settlement -/

/-- The refusal of a byte as the bus sees it. -/
theorem refused_of_begun {cmd : Nat} (ht : t = badData n (twBegin n cmd s)) : Nacked n 6 s t ∧ NoLog s t ∧ Keeps [Reg.TWn_CML n] s t := by
  obtain ⟨hnack, -, hlog, hkeeps⟩ := nacked_of_begun (by decide) ht
  exact ⟨hnack, hlog, hkeeps⟩

/-- Settles O49, one clause for each write: how a transaction begins and ends is one lemma for both personalities, and a mailbox command is the
mailbox's own access. -/
theorem pmbusWrites : Obligations.PmbusWrites := by
  unfold Obligations.PmbusWrites
  refine ⟨fun s n p htgt hp hreq => ?page, fun s n p htgt hp => ?pagePec, fun s n p htgt hhigh hall => ?pageBad,
    fun s n p e htgt hp he hlim => ?pageWrong, fun s n b htgt hb hroom hreq hnot => ?operation,
    fun s n c code lo hi htgt hc hmin hmax hroom hreq hnot => ?vout, fun s n c code lo hi htgt hc hmin hmax hroom hnot => ?voutPec,
    fun s n c lo hi htgt hc hbad hroom => ?voutBad, fun s n htgt hroom hreq hnot => ?clearFaults, fun s n htgt hroom hreq hnot => ?mfrClear,
    fun s n c code d htgt hfull hc hmeet hlim => ?full,
    fun s n htgt => does_of_mfr_read htgt rfl rfl ⟨answered_of_begun rfl rfl, rfl, (twBegin_keeps n 0xD0 s []).twUpd _ _⟩,
    fun s n k htgt hreq hk => ?selWrite, fun s n k htgt hk => ?selBad, fun s n htgt hshared hfree hfreed hto => ?lockWon,
    fun s n htgt hshared hheld hfreed => ?lockHeld, fun s n htgt hreq hshared hown => ?lockFreed,
    fun s n a b c d htgt hreq hright hempty => ?data, fun s n m d htgt hm => ?dataBad, fun s n htgt hrecv hmin hmax => ?dataRead,
    fun s n l k htgt hreq hfresh hright hempty htook hlen hrecv hquiet hnot => ?send, fun s n htgt hrecv hfull => ?take,
    fun s n htgt hnone => does_of_mfr_read htgt rfl rfl (attnRead_clears hnone rfl),
    fun s n htgt => does_of_mfr_read htgt rfl rfl ⟨answered_of_begun rfl rfl, rfl, (twBegin_keeps n 0xD6 s []).twUpd _ _⟩⟩
  case page => exact does_of_pmbus_write htgt rfl (twWrite_of_bare ((pageValid_iff p).mpr hp) rfl hreq) (pageWrite_sets rfl)
  case pagePec =>
    obtain ⟨hpage, -, hnack, hlog, hkeeps⟩ := pageWrite_sets (s := s) (n := n) (p := p) rfl
    refine does_of_pmbus_write htgt rfl (twWrite_of_pec ((pageValid_iff p).mpr hp) (d := [p]) rfl ?_) ⟨hpage, hnack, hlog, hkeeps⟩
    unfold addrW
    rw [twBegin_port]
    rfl
  case pageBad =>
    have hbad : (decide (p.toNat ≤ 3) || p == 0xFF) = false := by
      rw [← Bool.not_eq_true, pageValid_iff]
      exact fun h => h.elim (Nat.not_le.mpr hhigh) hall
    exact does_of_pmbus_write htgt rfl (twWrite_of_invalid hbad) (refused_of_begun rfl)
  case pageWrong =>
    have hpec : e ≠ pec ([addrW n (twBegin n 0 s), b8 (twBegin n 0 s).tw[n].cmd] ++ [p]) := by
      unfold addrW
      rw [twBegin_port]
      exact he
    obtain ⟨hnack, -, hlog, hcount, hkeeps⟩ :=
      nacked_counted (s := s) (cmd := 0) (data := [b8 0, b8 (twPage n s)]) (bit := 5) (by decide) (.inl rfl) (pecerr_fits n) rfl rfl hlim rfl
    refine does_of_pmbus_write htgt rfl ((twWrite_of_wrongPec ((pageValid_iff p).mpr hp) (d := [p]) rfl rfl hpec).trans ?_) ⟨hnack, hlog, hcount, hkeeps⟩
    unfold pecFail
    rw [twBegin_port]
    rfl
  case operation =>
    have hvalid : (b.toNat == 0x80 || b.toNat == 0) = true := by obtain rfl | rfl := hb <;> rfl
    refine does_of_pmbus_write htgt rfl (queueWrite_of_room (queueFull_of_room hroom 0x01)) ?_
    rw [show natOfBytes ([b].take 1) = b.toNat from natOfBytes_single b]
    exact queueAppend_appends (n := n) (cmd := 0x01) rfl (twBegin_keeps n 0x01 s []) (nil_outside n) rfl rfl rfl hnot (twWrite_of_bare hvalid rfl hreq)
  case vout =>
    simp only [List.mem_cons, Prod.mk.injEq, List.not_mem_nil, or_false] at hc
    obtain ⟨rfl, rfl⟩ | ⟨rfl, rfl⟩ | ⟨rfl, rfl⟩ := hc
    all_goals exact does_of_pmbus_write htgt rfl rfl (voutWrite_appends hroom ⟨hmin, hmax⟩ (.inl ⟨rfl, hreq⟩) hnot rfl)
  case voutPec =>
    simp only [List.mem_cons, Prod.mk.injEq, List.not_mem_nil, or_false] at hc
    obtain ⟨rfl, rfl⟩ | ⟨rfl, rfl⟩ | ⟨rfl, rfl⟩ := hc
    all_goals exact does_of_pmbus_write htgt rfl rfl (voutWrite_appends hroom ⟨hmin, hmax⟩ (.inr rfl) hnot rfl)
  case voutBad =>
    simp only [List.mem_cons, List.not_mem_nil, or_false] at hc
    obtain rfl | rfl | rfl := hc
    all_goals exact does_of_pmbus_write htgt rfl rfl (voutWrite_refuses hroom hbad rfl)
  case clearFaults =>
    have hkeeps : Keeps [Reg.TWn_CML n] s ((twBegin n 0x03 s).put (F.TWn_CML_CML n) 0) :=
      (twBegin_keeps n 0x03 s _).put 0 (f := F.TWn_CML_CML n) (.head _)
    obtain ⟨hqueued, hfires, hlog, hkeeps⟩ :=
      queueAppend_appends (u := (twBegin n 0x03 s).put (F.TWn_CML_CML n) 0) (n := n) (kind := 0) (data := 0) (cmd := 0x03) rfl hkeeps (cml_outside n) rfl rfl rfl hnot rfl
    refine does_of_pmbus_write htgt rfl ((queueWrite_of_room (queueFull_of_room hroom 0x03)).trans (twWrite_of_bare rfl rfl hreq))
      ⟨hqueued, ?_, hfires, hlog, hkeeps⟩
    exact (queueAppend_get (u := (twBegin n 0x03 s).put (F.TWn_CML_CML n) 0) (notFired_congr rfl rfl hnot) _).trans
      (State.get_put_of_lt (cml_fits n) (Nat.two_pow_pos _) (twBegin n 0x03 s))
  case mfrClear =>
    exact does_of_pmbus_write htgt rfl ((queueWrite_of_room (queueFull_of_room hroom 0xD8)).trans (twWrite_of_bare rfl rfl hreq))
      (queueAppend_appends (n := n) (cmd := 0xD8) rfl (twBegin_keeps n 0xD8 s []) (nil_outside n) rfl rfl rfl hnot rfl)
  case full =>
    obtain ⟨read, kind, valid, also_, hexec, hmeets⟩ := queued_exec s hc hmeet
    exact does_of_pmbus_write htgt hexec (queueWrite_of_full (queueFull_of_full hfull code) hmeets) (queueRefuse_refuses hlim rfl)
  case selWrite => exact does_of_mfr_write htgt rfl (twWrite_of_bare (decide_eq_true hk) rfl hreq) (mbxSelWrite_sets hk rfl)
  case selBad => exact does_of_mfr_write htgt rfl (twWrite_of_invalid (decide_eq_false (Nat.not_le.mpr hk))) (refused_of_begun rfl)
  case lockWon =>
    obtain ⟨k, hk⟩ := twMbx_eq n s
    rw [hk] at hshared hfree hfreed ⊢
    exact does_of_mfr_read htgt rfl rfl (mbxLockRead_wins hshared hfree hfreed hto (by rw [← hk]; rfl))
  case lockHeld =>
    obtain ⟨k, hk⟩ := twMbx_eq n s
    rw [hk] at hshared hheld hfreed ⊢
    exact does_of_mfr_read htgt rfl rfl (mbxLockRead_reads hshared hheld hfreed (by rw [← hk]; rfl))
  case lockFreed =>
    obtain ⟨k, hk⟩ := twMbx_eq n s
    rw [hk] at hshared hown ⊢
    exact does_of_mfr_write htgt rfl (twWrite_of_bare rfl rfl hreq) (mbxLockWrite_frees hshared hown (by rw [← hk]; rfl))
  case data =>
    obtain ⟨k, hk⟩ := twMbx_eq n s
    rw [hk] at hright hempty ⊢
    exact does_of_mfr_write htgt rfl (twWrite_of_bare (by simp) rfl hreq) (mbxDataWrite_stores hright hempty (by rw [← hk]; rfl))
  case dataBad => exact does_of_mfr_write htgt rfl (twWrite_of_invalid (mbxDataCount_bad hm)) (refused_of_begun rfl)
  case dataRead =>
    obtain ⟨k, hk⟩ := twMbx_eq n s
    rw [hk] at hrecv hmin hmax ⊢
    exact does_of_mfr_read htgt rfl rfl (mbxDataRead_answers hrecv hmin hmax (by rw [← hk]; rfl))
  case send =>
    obtain ⟨k', hk⟩ := twMbx_eq n s
    rw [hk] at hfresh hright hempty htook hrecv hquiet hnot ⊢
    have harg : (BitVec.ofNat 16 (l.toNat % 32)).toNat % 32 = l.toNat % 32 := by
      rw [BitVec.toNat_ofNat]
      omega
    exact does_of_mfr_write htgt rfl (twWrite_of_bare rfl rfl hreq)
      (mbxSend_sends harg hfresh hright hempty htook hlen hrecv hquiet hnot (by rw [← hk]; rfl))
  case take =>
    obtain ⟨k, hk⟩ := twMbx_eq n s
    rw [hk] at hrecv hfull ⊢
    exact does_of_mfr_read htgt rfl rfl (mbxTake_takes hrecv hfull (by rw [← hk]; rfl) rfl rfl)

end Sys2Proof.Machine
end

section
/-!
PROOFS. Words and their bytes, and writes of a row of registers (R9, R424, R425).
-/
namespace Sys2Proof.Machine

set_option Elab.async false

variable {s t : State}

/-- A bit of a word made of four bytes is that of its byte. -/
theorem wordOfBytes_getLsbD (b : List Byte) {j i : Nat} (hj : j < 4) (hi : i < 8) :
    (wordOfBytes b).getLsbD (8 * j + i) = (b.getD j 0).getLsbD i := by
  unfold wordOfBytes
  simp only [BitVec.getLsbD_append]
  obtain rfl | rfl | rfl | rfl : j = 0 ∨ j = 1 ∨ j = 2 ∨ j = 3 := by omega
  · rw [if_pos (by omega), Nat.mul_zero, Nat.zero_add]
  · rw [if_neg (by omega), if_pos (by omega), show 8 * 1 + i - 8 = i by omega]
  · rw [if_neg (by omega), if_neg (by omega), if_pos (by omega), show 8 * 2 + i - 8 - 8 = i by omega]
  · rw [if_neg (by omega), if_neg (by omega), if_neg (by omega), show 8 * 3 + i - 8 - 8 - 8 = i by omega]

/-- A byte of a word made of four bytes. -/
theorem wordOfBytes_extract (b : List Byte) {j : Nat} (hj : j < 4) : (wordOfBytes b).extractLsb' (8 * j) 8 = b.getD j 0 := by
  refine BitVec.eq_of_getLsbD_eq fun i hi => ?_
  rw [BitVec.getLsbD_extractLsb', decide_eq_true hi, Bool.true_and, wordOfBytes_getLsbD b hj hi]

/-- The bytes of a word made of four bytes. -/
theorem bytesOfWord_wordOfBytes {b : List Byte} (h : b.length = 4) : bytesOfWord (wordOfBytes b) = b := by
  have hbytes : bytesOfWord (wordOfBytes b) = [b.getD 0 0, b.getD 1 0, b.getD 2 0, b.getD 3 0] := by
    unfold bytesOfWord
    rw [← wordOfBytes_extract b (j := 0) (by decide), ← wordOfBytes_extract b (j := 1) (by decide),
      ← wordOfBytes_extract b (j := 2) (by decide), ← wordOfBytes_extract b (j := 3) (by decide)]
  rw [hbytes]
  match b, h with
  | [_, _, _, _], _ => rfl

theorem bytesOfWord_length (w : Word) : (bytesOfWord w).length = 4 := rfl

/-- A list cut into groups of four, put together again. -/
theorem flatten_fours (m : Nat) {d : List Byte} (h : d.length = 4 * m) : ((List.range m).map fun i => (d.drop (4 * i)).take 4).flatten = d := by
  induction m generalizing d with
  | zero => exact (List.eq_nil_of_length_eq_zero h).symm
  | succ m ih =>
    have hrest := ih (d := d.drop 4) (by rw [List.length_drop]; omega)
    have hgroups : ∀ i, (d.drop (4 * (i + 1))).take 4 = ((d.drop 4).drop (4 * i)).take 4 := fun i => by
      rw [List.drop_drop, Nat.mul_add, Nat.add_comm]
    rw [List.range_succ_eq_map, List.map_cons, List.flatten_cons, List.map_map]
    simp only [Function.comp_def, Nat.succ_eq_add_one, hgroups, hrest]
    exact List.take_append_drop 4 d

/-- What registers written in a row hold afterwards. -/
theorem rd_each_wr {a : Nat → Nat} (w : Nat → Word) (ha : ∀ i j, a i = a j → i = j) (xs : List Nat) (j : Nat) (s : State) :
    (s.each xs fun i t => t.wr (a i) (w i)).rd (a j) = if j ∈ xs then w j &&& implMask (a j) else s.rd (a j) := by
  induction xs generalizing s with
  | nil => rfl
  | cons x xs ih =>
    rw [State.each_cons, ih]
    by_cases hin : j ∈ xs
    · rw [if_pos hin, if_pos (.tail _ hin)]
    · rw [if_neg hin]
      by_cases hx : j = x
      · subst hx
        rw [if_pos (.head _), State.rd_wr_same]
      · rw [if_neg fun h => (List.mem_cons.mp h).elim hx hin, State.rd_wr_ne _ _ _ _ fun h => hx (ha j x h)]

end Sys2Proof.Machine
end

section
/-!
PROOFS. Self-resets and the locks that they release, entry by entry of the lock table (R399, R427).
-/
namespace Sys2Proof.Machine

set_option Elab.async false

variable {s t : State} {n : Fin 2}

theorem mbStat_inj : ∀ {j k : Fin 8}, (F.MBk_STAT_OWNER j).addr = (F.MBk_STAT_OWNER k).addr → j = k := by decide

/-- The device's release of one lock, as an update of a register, the timers and the log. -/
theorem lockBreak_owner (k j : Fin 8) (cause : Nat) (s : State) :
    mbOwner j (lockBreak k cause s) = if j = k then 0 else mbOwner j s := by
  by_cases hheld : mbOwner k s = 0
  · rw [lockBreak, if_pos hheld]
    split
    next h => rw [h, hheld]
    next => rfl
  · rw [lockBreak_of_held k cause hheld, mbOwner, State.get_regs, State.logLimited_regs]
    show (s.put (F.MBk_STAT_OWNER k) 0).get (F.MBk_STAT_OWNER j) = _
    split
    next h => rw [h]; exact State.get_put_of_lt (mbOwner_fits_lock k) (Nat.two_pow_pos _) s
    next h => exact State.get_put_ne _ _ _ _ fun haddr => h (mbStat_inj haddr)

theorem State.armed_cancel_of_not {s : State} {c : Instr} (h : s.armed c = false) (d : Instr) : (s.cancel d).armed c = false := by
  unfold State.armed State.cancel at *
  rw [List.any_eq_false] at h ⊢
  exact fun x hx => h x (List.mem_of_mem_filter hx)

/-- The release of a lock ends its own time-out and starts none. -/
theorem lockBreak_armed (k j : Fin 8) (cause : Nat) (h : s.armed (.lockTimeout j) = false ∨ j = k ∧ mbOwner k s ≠ 0) :
    (lockBreak k cause s).armed (.lockTimeout j) = false := by
  by_cases hheld : mbOwner k s = 0
  · rw [lockBreak, if_pos hheld]
    exact h.resolve_right fun ⟨_, hne⟩ => hne hheld
  · obtain ⟨m, g, hrec⟩ := (lockOpened k s).logLimited_log (0x0D0010 + k.val) 0x0D 1 [b8 k.val, b8 (mbOwner k s), b8 cause]
    rw [lockBreak_of_held k cause hheld, hrec]
    obtain harm | ⟨rfl, -⟩ := h
    · exact State.armed_cancel_of_not (s := s.put (F.MBk_STAT_OWNER k) 0) harm _
    · exact State.armed_cancel _ _

theorem lockBreak_sameMem (k : Fin 8) (cause : Nat) (s : State) : SameMem s (lockBreak k cause s) := by
  by_cases hheld : mbOwner k s = 0
  · rw [lockBreak, if_pos hheld]
    exact ⟨fun _ => rfl, rfl⟩
  · rw [lockBreak_of_held k cause hheld]
    exact ((((Keeps.refl [Reg.MBk_STAT k] s).put 0 (f := F.MBk_STAT_OWNER k) (.head _)).cancel (.lockTimeout k)).logLimited _ _ _ _).sameMem

/-- The locks of an agent, one after another. -/
def breakOf (id : Nat) (k : Fin 8) (s : State) : State := if mbOwner k s = id then lockBreak k 2 s else s

theorem locksOf_eq (id : Nat) (s : State) : locksOf id s = s.each (List.finRange 8) (breakOf id) := by
  have hrange : List.range 8 = (List.finRange 8).map Fin.val := by decide
  unfold locksOf State.each
  rw [hrange, List.foldl_map]
  rfl

/-- Of the locks passed over, those of the agent are free afterwards; the others have their owners. -/
theorem breakOf_each_owner {id : Nat} (hid : id ≠ 0) (xs : List (Fin 8)) (j : Fin 8) (s : State) :
    mbOwner j (s.each xs (breakOf id)) = if j ∈ xs ∧ mbOwner j s = id then 0 else mbOwner j s := by
  induction xs generalizing s with
  | nil => rfl
  | cons k xs ih =>
    have hstep : mbOwner j (breakOf id k s) = if j = k ∧ mbOwner j s = id then 0 else mbOwner j s := by
      unfold breakOf
      by_cases hown : mbOwner k s = id
      · rw [if_pos hown, lockBreak_owner]
        by_cases hjk : j = k
        · subst hjk
          rw [if_pos rfl, if_pos ⟨rfl, hown⟩]
        · rw [if_neg hjk, if_neg fun h => hjk h.left]
      · rw [if_neg hown, if_neg fun ⟨hjk, h⟩ => hown (hjk ▸ h)]
    rw [State.each_cons, ih, hstep]
    by_cases hown : mbOwner j s = id
    · by_cases hjk : j = k
      · simp [hjk, hjk ▸ hown, hid.symm]
      · simp [hjk, hown]
    · simp [hown]

theorem breakOf_each_armed {id : Nat} (hid : id ≠ 0) (xs : List (Fin 8)) (j : Fin 8) (s : State)
    (h : s.armed (.lockTimeout j) = false ∨ j ∈ xs ∧ mbOwner j s = id) : (s.each xs (breakOf id)).armed (.lockTimeout j) = false := by
  induction xs generalizing s with
  | nil => exact h.resolve_right fun h => List.not_mem_nil h.left
  | cons k xs ih =>
    rw [State.each_cons]
    refine ih _ ?_
    unfold breakOf
    by_cases hown : mbOwner k s = id
    · rw [if_pos hown]
      obtain harm | ⟨hin, hj⟩ := h
      · exact .inl (lockBreak_armed k j 2 (.inl harm))
      · by_cases hjk : j = k
        · exact .inl (lockBreak_armed k j 2 (.inr ⟨hjk, by rw [hown]; exact hid⟩))
        · exact .inr ⟨(List.mem_cons.mp hin).resolve_left hjk, by rw [lockBreak_owner, if_neg hjk]; exact hj⟩
    · rw [if_neg hown]
      exact h.imp (fun harm => harm) fun ⟨hin, hj⟩ => ⟨(List.mem_cons.mp hin).resolve_left fun hjk => hown (hjk ▸ hj), hj⟩

/-- An agent that holds no lock loses none. -/
theorem locksOf_of_none {id : Nat} (h : ∀ k : Fin 8, mbOwner k s ≠ id) : locksOf id s = s := by
  rw [locksOf_eq]
  have hstep : ∀ k, breakOf id k s = s := fun k => if_neg (h k)
  induction List.finRange 8 with
  | nil => rfl
  | cons k xs ih => rw [State.each_cons, hstep, ih]

theorem locksOf_sameMem (id : Nat) (s : State) : SameMem s (locksOf id s) := by
  rw [locksOf_eq]
  refine State.each_rel SameMem (fun _ => ⟨fun _ => rfl, rfl⟩) (fun _ _ _ h k => h.trans k) _ _ (fun k v => ?_) s
  unfold breakOf
  split
  · exact lockBreak_sameMem k 2 v
  · exact ⟨fun _ => rfl, rfl⟩

/-! ## The reset of a port -/

/-- A port whose transaction is discarded. -/
def portReset (now : Nat) (p : TwPort) : TwPort :=
  { p with resp := [], nack := false, busy := false, sdaUntil := min p.sdaUntil now, busAt := some now, deaf := true }

/-- A self-reset before the port's locks are released. -/
def resetBegun (n : Fin 2) (cause : Nat) (s : State) : State :=
  twUpd n (portReset s.clk.ns) (((s.setBit (F.TWn_CML_CML n) 1).inc (F.TWn_CNT_SELFRST n)).logReq 0x0E 1 [b8 n.val, b8 cause, b8 s.tw[n].cmd])

theorem selfReset_eq (n : Fin 2) (cause : Nat) (s : State) : selfReset n cause s = locksOf (4 + n.val) (resetBegun n cause s) := rfl

theorem selfrst_fits : ∀ n : Fin 2, fldFits (F.TWn_CNT_SELFRST n) = true := by decide
theorem selfrst_ne_cml : ∀ n : Fin 2, (F.TWn_CNT_SELFRST n).addr ≠ (F.TWn_CML_CML n).addr := by decide
theorem mbOwner_off_reset : ∀ (k : Fin 8) (n : Fin 2), (F.MBk_STAT_OWNER k).addr ∉ [Reg.TWn_CML n, Reg.TWn_CNT n] := by decide

theorem resetBegun_keeps (n : Fin 2) (cause : Nat) (s : State) : Keeps [Reg.TWn_CML n, Reg.TWn_CNT n] s (resetBegun n cause s) :=
  ((((Keeps.refl _ s).setBit 1 (f := F.TWn_CML_CML n) (.head _)).inc 1 (f := F.TWn_CNT_SELFRST n) (.tail _ (.head _))).logReq _ _ _).twUpd _ _

theorem resetBegun_owner (k : Fin 8) (n : Fin 2) (cause : Nat) (s : State) : mbOwner k (resetBegun n cause s) = mbOwner k s :=
  (resetBegun_keeps n cause s).get (mbOwner_off_reset k n)

/-- The reset of a port that holds no lock: the transaction is discarded, counted and logged (R427). -/
theorem selfReset_of_noLock {cause : Nat} (hnone : ∀ k : Fin 8, mbOwner k.val s ≠ 4 + n.val) (ht : t = selfReset n cause s) :
    t.tw[n] = portReset s.clk.ns s.tw[n] ∧ t.get (F.TWn_CML_CML n) = s.get (F.TWn_CML_CML n) ||| 2 ^ 1 ∧
      t.get (F.TWn_CNT_SELFRST n) = min 255 (s.get (F.TWn_CNT_SELFRST n) + 1) ∧ Logged 0x0E 1 [b8 n.val, b8 cause, b8 s.tw[n].cmd] s t ∧
      Keeps [Reg.TWn_CML n, Reg.TWn_CNT n] s t := by
  rw [selfReset_eq, locksOf_of_none fun k => by rw [resetBegun_owner]; exact hnone k] at ht
  subst ht
  have hregs : (resetBegun n cause s).regs = ((s.setBit (F.TWn_CML_CML n) 1).inc (F.TWn_CNT_SELFRST n)).regs := rfl
  refine ⟨twUpd_same _ _ _, ?_, ?_, rfl, resetBegun_keeps n cause s⟩
  · rw [State.get_regs, hregs, ← State.get_regs, State.get_inc_ne (selfrst_ne_cml n).symm, State.get_setBit_or (cml_fits n) (show 1 < 8 by decide)]
  · rw [State.get_regs, hregs, ← State.get_regs, State.get_inc_byte (selfrst_fits n) rfl, State.get_setBit_ne (selfrst_ne_cml n)]

/-- The reset of a port that holds locks releases them all and no other (R399, R427). -/
theorem selfReset_releases {cause : Nat} {k : Fin 8} (hown : mbOwner k.val s = 4 + n.val) (ht : t = selfReset n cause s) :
    mbOwner k.val t = 0 ∧ (∀ j : Fin 8, mbOwner j.val s ≠ 4 + n.val → mbOwner j.val t = mbOwner j.val s) ∧ t.armed (.lockTimeout k) = false ∧
      SameMem s t := by
  have hid : 4 + n.val ≠ 0 := by omega
  have howner : ∀ j : Fin 8, mbOwner j t = if mbOwner j s = 4 + n.val then 0 else mbOwner j s := fun j => by
    rw [ht, selfReset_eq, locksOf_eq, breakOf_each_owner hid, resetBegun_owner]
    simp only [List.mem_finRange, true_and]
  refine ⟨(howner k).trans (if_pos hown), fun j hj => (howner j).trans (if_neg hj), ?_, ?_⟩
  · rw [ht, selfReset_eq, locksOf_eq]
    exact breakOf_each_armed hid _ k _ (.inr ⟨List.mem_finRange k, (resetBegun_owner k n cause s).trans hown⟩)
  · rw [ht, selfReset_eq]
    exact (resetBegun_keeps n cause s).sameMem.trans (locksOf_sameMem _ _)

end Sys2Proof.Machine
end

section
/-!
PROOFS. Queue pops and the pointer personality (R422, R424).
-/
namespace Sys2Proof.Machine

set_option Elab.async false

variable {s t u : State} {n : Fin 2}

/-! ## Pops (R422) -/

theorem queuePop_of_cons {w : Word} {l : List Word} (hq : s.tw[n].q = w :: l) :
    queuePop .trio n s = { twUpd n (fun p => { p with q := l, popped := p.popped ++ [w] }) s with rdata := w } := by
  unfold queuePop
  rw [hq]
  rfl

theorem queuePop_of_nil (hq : s.tw[n].q = []) (agent : Agent) : queuePop agent n s = { s with rdata := 0 } := by
  unfold queuePop
  rw [hq]

/-! ## The register file (R424) -/

theorem implMask_regf : ∀ (n : Fin 2) (i : Fin 64), implMask (Reg.TWn_REGFi n i) = BitVec.allOnes 32 := by decide

theorem regf_inj {n i j : Nat} (h : Reg.TWn_REGFi n i = Reg.TWn_REGFi n j) : i = j := by
  unfold Reg.TWn_REGFi at h
  omega

theorem regfByte_congr {p : Nat} (h : t.rd (Reg.TWn_REGFi n (p / 4)) = s.rd (Reg.TWn_REGFi n (p / 4))) : regfByte n p t = regfByte n p s := by
  unfold regfByte
  rw [h]

/-- A byte of the register file stored. -/
def regfStore (n : Fin 2) (p : Nat) (b : Byte) (s : State) : State :=
  s.wr (Reg.TWn_REGFi n (p / 4)) (wordOfBytes ((bytesOfWord (s.rd (Reg.TWn_REGFi n (p / 4)))).set (p % 4) b))

/-- After a stored byte each byte of the file reads as itself, but the one stored. -/
theorem regfByte_regfStore {p : Nat} (hp : p < 256) (b : Byte) (q : Nat) (s : State) :
    regfByte n q (regfStore n p b s) = if q = p then b else regfByte n q s := by
  have hlen : ((bytesOfWord (s.rd (Reg.TWn_REGFi n (p / 4)))).set (p % 4) b).length = 4 := by rw [List.length_set]; rfl
  have hmask : implMask (Reg.TWn_REGFi n (p / 4)) = BitVec.allOnes 32 := implMask_regf n ⟨p / 4, by omega⟩
  by_cases hword : q / 4 = p / 4
  · unfold regfByte regfStore
    rw [hword, State.rd_wr_same, hmask, BitVec.and_allOnes, bytesOfWord_wordOfBytes hlen]
    simp only [List.getD_eq_getElem?_getD]
    by_cases hqp : q = p
    · rw [if_pos hqp, hqp, List.getElem?_set_self (show p % 4 < 4 by omega)]
      rfl
    · rw [if_neg hqp, List.getElem?_set_ne (show p % 4 ≠ q % 4 by omega)]
  · rw [if_neg fun h => hword (congrArg (· / 4) h)]
    exact regfByte_congr (State.rd_wr_ne _ _ _ _ fun h => hword (regf_inj h))

/-- The pointer set. -/
def ptrSet (n : Fin 2) (p : Nat) (s : State) : State := twUpd n (fun t => { t with ptr := p }) s

theorem ptrStore_single (b : Byte) {p : Nat} (hp : s.tw[n].ptr = p) : ptrStore n [b] s =
    ptrSet n (ptrNext n p s) (if (s.rd (Reg.TWn_WPROT n)).getLsbD (p / 32) then s else regfStore n p b s) := by
  subst hp
  rfl

theorem wprot_bit {i : Nat} (hi : i < 32) (n : Fin 2) (s : State) : s.bit (F.TWn_WPROT_PROT n) i = (s.rd (Reg.TWn_WPROT n)).getLsbD i := by
  unfold State.bit State.get
  rw [fldOf_bit, show (F.TWn_WPROT_PROT n).addr = Reg.TWn_WPROT n from rfl, show (F.TWn_WPROT_PROT n).lo = 0 from rfl,
    show (F.TWn_WPROT_PROT n).width = 32 from rfl, decide_eq_true hi, Bool.true_and, Nat.zero_add]

theorem regf_outside (n : Fin 2) (i : Nat) : ∀ a ∈ [Reg.TWn_REGFi n i], (a < 0x40090000 ∨ 0x400A0000 ≤ a) ∧ a ≠ Reg.TWn_PAGE n := by
  intro a ha
  rw [List.mem_singleton] at ha
  subst ha
  unfold Reg.TWn_REGFi Reg.TWn_PAGE
  omega

/-! ## Transactions of the pointer personality -/

theorem pointerWrite_of_silent (h : twHears n s = false ∨ s.tw[n].pers ≠ 3) (d : List Byte) : pointerWrite n d s = twSilent n s := by
  unfold pointerWrite
  refine if_pos ?_
  obtain h | h := h
  · rw [h]
    rfl
  · rw [Bool.or_eq_true]
    exact .inr (bne_iff_ne.mpr h)

theorem pointer_awake (h : Target n 3 s) : (!twHears n s || s.tw[n].pers != pPOINTER) = false := by
  rw [h.left, h.right]
  rfl

theorem pointerWrite_of_address (h : Target n 3 s) (p : Byte) : pointerWrite n [p] s = ptrSet n p.toNat (twBegin n 0 s) := by
  unfold pointerWrite
  rw [pointer_awake h]
  rfl

theorem pointerWrite_of_byte (h : Target n 3 s) (hroom : s.tw[n].q.length + s.tw[n].popped.length < 16) (p b : Byte) :
    pointerWrite n [p, b] s = queueAppend n 3 0 (p.toNat * 256 + 1) (ptrStore n [b] (ptrSet n p.toNat (twBegin n 0 s))) := by
  have hfull : queueFull n s = false := decide_eq_false (Nat.not_le.mpr hroom)
  unfold pointerWrite
  rw [pointer_awake h]
  dsimp only
  rw [if_neg (by decide), if_neg (List.cons_ne_nil b []), if_neg (by rw [hfull]; decide)]
  rfl

theorem pointerRead_of_byte (h : Target n 3 s) : pointerRead n 1 s =
    twUpd n (fun t => { t with resp := [regfByte n s.tw[n].ptr s] }) (ptrSet n (ptrNext n s.tw[n].ptr s) (twBegin n 0 s)) := by
  have hptr : (twBegin n 0 s).tw[n].ptr = s.tw[n].ptr := by rw [twBegin_port]
  unfold pointerRead ptrRead
  rw [pointer_awake h, hptr]
  rfl

/-- An appended entry and a first firing leave the registers and the rest of the port. -/
theorem queueAppend_eq (hnot : NotFired (180 + n.val) u) (kind cmd data : Nat) :
    ∃ w g, queueAppend n kind cmd data u = { twUpd n (fun p => { p with q := p.q ++ [w] }) u with evm := g } :=
  ⟨_, _, fire_of_notFired (s := twUpd n _ u) (notFired_congr rfl rfl hnot)⟩

/-- The state of the register file once a byte has been stored, or passed over where it is protected. -/
def byteWritten (n : Fin 2) (p : Nat) (b : Byte) (s : State) : State :=
  if s.bit (F.TWn_WPROT_PROT n) (p / 32) then ptrSet n p (twBegin n 0 s) else regfStore n p b (ptrSet n p (twBegin n 0 s))

theorem byteWritten_keeps (n : Fin 2) (p : Nat) (b : Byte) (s : State) : Keeps [Reg.TWn_REGFi n (p / 4)] s (byteWritten n p b s) := by
  have hset : Keeps [Reg.TWn_REGFi n (p / 4)] s (ptrSet n p (twBegin n 0 s)) := (twBegin_keeps n 0 s _).twUpd _ _
  unfold byteWritten
  split
  · exact hset
  · exact hset.wr _ (.head _)

/-- Beside the registers nothing but the port has changed. -/
theorem byteWritten_rest (n : Fin 2) (p : Nat) (b : Byte) (s : State) : (byteWritten n p b s).tw = (ptrSet n p (twBegin n 0 s)).tw ∧
    (byteWritten n p b s).evm = s.evm ∧ (byteWritten n p b s).clk = s.clk ∧ (byteWritten n p b s).log = s.log := by
  unfold byteWritten
  split <;> exact ⟨rfl, rfl, rfl, rfl⟩

theorem regfByte_byteWritten {p : Nat} (hp : p < 256) (b : Byte) (q : Nat) (s : State) : regfByte n q (byteWritten n p b s) =
    if q = p ∧ s.bit (F.TWn_WPROT_PROT n) (p / 32) = false then b else regfByte n q s := by
  unfold byteWritten
  by_cases hprot : s.bit (F.TWn_WPROT_PROT n) (p / 32) = true
  · rw [if_pos hprot, if_neg fun h => absurd (hprot.symm.trans h.right) (by decide)]
    rfl
  · rw [if_neg hprot, regfByte_regfStore hp]
    by_cases hqp : q = p
    · rw [if_pos hqp, if_pos ⟨hqp, Bool.not_eq_true _ ▸ hprot⟩]
    · rw [if_neg hqp, if_neg fun h => hqp h.left]
      rfl

/-- A byte that the pointer personality stores, or passes over where it is protected (R424). -/
theorem pointerByte_stores {p b : Byte} (hnot : NotFired (180 + n.val) s)
    (ht : t = queueAppend n 3 0 (p.toNat * 256 + 1) (ptrStore n [b] (ptrSet n p.toNat (twBegin n 0 s)))) :
    t.tw[n].ptr = ptrNext n p.toNat s ∧ Queued n 3 0 (p.toNat * 256 + 1) s t ∧ Fires (180 + n.val) s t ∧
      regfByte n p.toNat t = (if s.bit (F.TWn_WPROT_PROT n) (p.toNat / 32) then regfByte n p.toNat s else b) ∧
      (∀ q : Fin 256, q.val ≠ p.toNat → regfByte n q.val t = regfByte n q.val s) ∧ NoLog s t ∧ Keeps [Reg.TWn_REGFi n (p.toNat / 4)] s t := by
  have hset : (ptrSet n p.toNat (twBegin n 0 s)).tw[n] = { (twBegin n 0 s).tw[n] with ptr := p.toNat } := twUpd_same _ _ _
  have hstore : ptrStore n [b] (ptrSet n p.toNat (twBegin n 0 s)) = ptrSet n (ptrNext n p.toNat s) (byteWritten n p.toNat b s) := by
    rw [ptrStore_single b (congrArg TwPort.ptr hset), byteWritten, wprot_bit (by have := p.isLt; omega)]
    rfl
  obtain ⟨htw, hevm, hclk, hlog⟩ := byteWritten_rest n p.toNat b s
  have hport : (ptrSet n (ptrNext n p.toNat s) (byteWritten n p.toNat b s)).tw[n] = { (twBegin n 0 s).tw[n] with ptr := ptrNext n p.toNat s } := by
    rw [ptrSet, twUpd_same, htw, hset]
  rw [hstore] at ht
  rw [twBegin_port] at hport
  obtain ⟨hqueued, hfires, hlogT, hkeeps⟩ := queueAppend_queues (n := n)
    (u := ptrSet n (ptrNext n p.toNat s) (byteWritten n p.toNat b s)) (by rw [hport]) (by rw [hport])
    ((byteWritten_keeps n p.toNat b s).twUpd _ _) (regf_outside n _) hevm hclk hlog hnot ht
  obtain ⟨w, g, happ⟩ := queueAppend_eq (u := ptrSet n (ptrNext n p.toNat s) (byteWritten n p.toNat b s)) (notFired_congr hevm hclk hnot) 3 0
    (p.toNat * 256 + 1)
  rw [happ] at ht
  have hregf : ∀ q, regfByte n q t = regfByte n q (byteWritten n p.toNat b s) := fun q => by rw [ht]; rfl
  refine ⟨?_, hqueued, hfires, ?_, fun q hq => ?_, hlogT, hkeeps⟩
  · rw [ht]
    exact (congrArg TwPort.ptr (twUpd_same n _ _)).trans (congrArg TwPort.ptr hport)
  · rw [hregf, regfByte_byteWritten p.isLt]
    cases s.bit (F.TWn_WPROT_PROT n) (p.toNat / 32)
    · exact if_pos ⟨rfl, rfl⟩
    · exact if_neg fun h => absurd h.right (by decide)
  · rw [hregf, regfByte_byteWritten p.isLt, if_neg fun h => hq h.left]

end Sys2Proof.Machine
end

section
/-!
PROOFS. The controller role of a two-wire port (R425, R426).
-/
namespace Sys2Proof.Machine

set_option Elab.async false

variable {s t u : State} {n : Fin 2} {l : List Nat}

theorem result_fits : ∀ n : Fin 2, fldFits (F.TWn_MSTAT_RESULT n) = true := by decide
theorem busyref_fits : ∀ n : Fin 2, fldFits (F.TWn_MSTAT_BUSYREF n) = true := by decide
theorem hndrop_fits : ∀ n : Fin 2, fldFits (F.TWn_MSTAT_HNDROP n) = true := by decide
theorem attnin_fits : ∀ n : Fin 2, fldFits (F.TWn_MSTAT_ATTNIN n) = true := by decide
theorem result_apart_hndrop : ∀ n : Fin 2, fldApart (F.TWn_MSTAT_RESULT n) (F.TWn_MSTAT_HNDROP n) = true := by decide
theorem implMask_twAct : implMask Reg.TW_ACT = BitVec.allOnes 32 := by decide
theorem implMask_mbuf : ∀ (n : Fin 2) (i : Fin 8), implMask (Reg.TWn_MBUFi n i) = BitVec.allOnes 32 := by decide

/-! ## The actions of TW_ACT -/

/-- The port that the argument of an action names. -/
theorem twAct_port {arg : BitVec 16} (h : arg.toNat % 2 = n.val) : Fin.ofNat 2 arg.toNat = n := Fin.ext h

theorem twAct_fresh {ticket : Byte} (hon : slotOn Reg.TW_ACT s = true) (hfresh : Fresh Reg.TW_ACT ticket s) (arg : BitVec 16) (action : Byte)
    (perform : State → State) : s.actAt Reg.TW_ACT ticket arg action perform = (perform s).wr Reg.TW_ACT (actWord ticket (arg &&& 0x1) action) := by
  unfold State.actAt
  rw [if_pos hon, State.act_fresh _ _ _ _ _ _ hfresh]
  rfl

theorem twAct_word (w : Word) (s : State) : (s.wr Reg.TW_ACT w).rd Reg.TW_ACT = w := by
  rw [State.rd_wr_same, implMask_twAct, BitVec.and_allOnes]

/-- The frame of an action with its word. -/
theorem Keeps.twAct (h : Keeps l s t) (w : Word) : Keeps (l ++ [Reg.TW_ACT]) s (t.wr Reg.TW_ACT w) :=
  (h.mono (List.subset_append_left _ _)).wr w (List.mem_append_right _ (.head _))

theorem mstat_ne_twAct : ∀ n : Fin 2, (F.TWn_MSTAT_RESULT n).addr ≠ Reg.TW_ACT ∧ (F.TWn_MSTAT_BUSYREF n).addr ≠ Reg.TW_ACT ∧
    (F.TWn_CML_CML n).addr ≠ Reg.TW_ACT ∧ (F.TWn_CNT_SELFRST n).addr ≠ Reg.TW_ACT ∧ (F.TWn_ATTN_CAUSE n).addr ≠ Reg.TW_ACT := by decide

/-- A field's value depends on its place in the word alone. -/
theorem fldOf_place {f g : Fld} (hlo : f.lo = g.lo) (hwidth : f.width = g.width) (w : Word) : fldOf f w = fldOf g w := by
  unfold fldOf
  rw [hlo, hwidth]

/-- The fields of a TWn_MCMD word lie at the same place for both ports. -/
theorem mcmd_place (n : Fin 2) (w : Word) : fldOf (F.TWn_MCMD_PEC 0) w = fldOf (F.TWn_MCMD_PEC n) w ∧
    fldOf (F.TWn_MCMD_ADDR 0) w = fldOf (F.TWn_MCMD_ADDR n) w ∧ mcmdRlen w = min (fldOf (F.TWn_MCMD_RLEN n) w) 32 ∧
    mcmdWlen w = min (fldOf (F.TWn_MCMD_WLEN n) w) 32 := by
  unfold mcmdRlen mcmdWlen
  rw [fldOf_place (f := F.TWn_MCMD_PEC 0) (g := F.TWn_MCMD_PEC n) rfl rfl, fldOf_place (f := F.TWn_MCMD_ADDR 0) (g := F.TWn_MCMD_ADDR n) rfl rfl,
    fldOf_place (f := F.TWn_MCMD_RLEN 0) (g := F.TWn_MCMD_RLEN n) rfl rfl, fldOf_place (f := F.TWn_MCMD_WLEN 0) (g := F.TWn_MCMD_WLEN n) rfl rfl]
  exact ⟨rfl, rfl, rfl, rfl⟩

/-! ## Starts (R425) -/

/-- The bytes that a transfer writes. -/
def transferBytes (n : Fin 2) (s : State) : List Byte :=
  let d := b8 (2 * s.get (F.TWn_MCMD_ADDR n)) :: (mbuf n s).take (min (s.get (F.TWn_MCMD_WLEN n)) 32)
  if s.get (F.TWn_MCMD_PEC n) = 1 then d ++ [pec d] else d

theorem twExec_of_idle {arg : BitVec 16} (hport : arg.toNat % 2 = n.val) (hpers : s.tw[n].pers = 4) (hidle : s.tw[n].busy = false) :
    twExec arg s = twUpd n (fun p => { p with
      busy := true, mcmd := s.rd (Reg.TWn_MCMD n), sent := transferBytes n s, resp := transferBytes n s, busAt := some s.clk.ns })
      (s.put (F.TWn_MSTAT_RESULT n) 0) := by
  obtain rfl := twAct_port hport
  obtain ⟨hpec, haddr, -, hwlen⟩ := mcmd_place (Fin.ofNat 2 arg.toNat) (s.rd (Reg.TWn_MCMD (Fin.ofNat 2 arg.toNat)))
  unfold twExec
  dsimp only
  rw [if_neg (by rw [hidle]; decide), hpec, haddr, hwlen]
  exact if_pos hpers

theorem twExec_of_busy {arg : BitVec 16} (hport : arg.toNat % 2 = n.val) (hbusy : s.tw[n].busy = true) :
    twExec arg s = s.put (F.TWn_MSTAT_BUSYREF n) 1 := by
  obtain rfl := twAct_port hport
  exact if_pos hbusy

/-! ## Ends (R425) -/

/-- The end of a transfer: its result, the port's source, and the port free again. -/
theorem twEnd_ends {result : Nat} (hresult : result < 8) (hkeeps : Keeps l s u) (hmstat : Reg.TWn_MSTAT n ∈ l)
    (hl : ∀ a ∈ l, a < 0x40090000 ∨ 0x400A0000 ≤ a) (hevm : u.evm = s.evm) (hclk : u.clk = s.clk) (hlog : u.log = s.log)
    (hnot : NotFired (180 + n.val) s) (ht : t = twEnd n result u) :
    t.tw[n] = { u.tw[n] with busy := false, busAt := some u.clk.ns } ∧ t.get (F.TWn_MSTAT_RESULT n) = result ∧ Fires (180 + n.val) s t ∧
      NoLog s t ∧ Keeps l s t := by
  have hput : Keeps l s (twUpd n (fun p => { p with busy := false, busAt := some u.clk.ns }) (u.put (F.TWn_MSTAT_RESULT n) result)) :=
    (hkeeps.put result (f := F.TWn_MSTAT_RESULT n) hmstat).twUpd _ _
  have hnotU : NotFired (180 + n.val) (twUpd n (fun p => { p with busy := false, busAt := some u.clk.ns }) (u.put (F.TWn_MSTAT_RESULT n) result)) :=
    notFired_congr hevm hclk hnot
  have hrun : t = _ := ht.trans (fire_of_notFired hnotU)
  refine ⟨?_, ?_, fires_of_outside hput hl (by omega) hevm hclk hnot (by rw [ht]; rfl), ?_, ht ▸ hput.fired hnotU⟩
  · rw [hrun]
    exact twUpd_same _ _ _
  · rw [hrun]
    exact State.get_put_of_lt (result_fits n) hresult u
  · rw [hrun]
    exact congrArg LogSt.reqs hlog

/-- Registers written in a row are all that changes. -/
theorem each_wr_eq (a : Nat → Nat) (w : Nat → Word) (xs : List Nat) (s : State) : ∃ m, (s.each xs fun i t => t.wr (a i) (w i)) = { s with regs := m } := by
  induction xs generalizing s with
  | nil => exact ⟨s.regs, rfl⟩
  | cons x xs ih =>
    obtain ⟨m, h⟩ := ih (s.wr (a x) (w x))
    exact ⟨m, h⟩

theorem mbuf_length (n : Fin 2) (s : State) : (mbuf n s).length = 32 := by
  unfold mbuf
  rw [List.length_flatten, List.map_map]
  simp only [Function.comp_def, bytesOfWord_length]
  rfl

theorem mbuf_inj {i j : Nat} (h : Reg.TWn_MBUFi n i = Reg.TWn_MBUFi n j) : i = j := by
  unfold Reg.TWn_MBUFi at h
  omega

/-- The transfer buffer after bytes have been stored from offset 0. -/
theorem mbuf_mbufStore {d : List Byte} (hd : d.length ≤ 32) (n : Fin 2) (s : State) : mbuf n (mbufStore n d s) = d ++ (mbuf n s).drop d.length := by
  have hlen : (d ++ (mbuf n s).drop d.length).length = 4 * 8 := by
    rw [List.length_append, List.length_drop, mbuf_length]
    omega
  have hword : ∀ i ∈ List.range 8, bytesOfWord ((mbufStore n d s).rd (Reg.TWn_MBUFi n i)) = ((d ++ (mbuf n s).drop d.length).drop (4 * i)).take 4 := by
    intro i hi
    have hlt : i < 8 := List.mem_range.mp hi
    unfold mbufStore
    rw [rd_each_wr _ fun i j h => mbuf_inj h, if_pos hi, implMask_mbuf n ⟨i, hlt⟩, BitVec.and_allOnes]
    exact bytesOfWord_wordOfBytes (by rw [List.length_take, List.length_drop, hlen]; omega)
  conv_lhs => unfold mbuf
  rw [List.map_congr_left hword]
  exact flatten_fours 8 hlen

theorem mbufStore_keeps (n : Fin 2) (d : List Byte) (s : State) :
    Keeps (Reg.TWn_MSTAT n :: (List.range 8).map (Reg.TWn_MBUFi n)) s (mbufStore n d s) :=
  (Keeps.refl _ s).each _ fun _ hi _ => (Keeps.refl _ _).wr _ (.tail _ (List.mem_map_of_mem hi))

theorem mbufs_outside : ∀ n : Fin 2, ∀ a ∈ Reg.TWn_MSTAT n :: (List.range 8).map (Reg.TWn_MBUFi n), a < 0x40090000 ∨ 0x400A0000 ≤ a := by decide
theorem mstat_outside : ∀ n : Fin 2, ∀ a ∈ [Reg.TWn_MSTAT n], a < 0x40090000 ∨ 0x400A0000 ≤ a := by decide

/-- A transfer that the bus cuts short ends with its result (R425). -/
theorem transferEnd_of_cut (hbusy : s.tw[n].busy = true) {outcome : Fin 3} (hcut : outcome ≠ 0) (rx : List Byte) :
    transferEnd n outcome rx s = twEnd n (if outcome = 1 then 2 else 3) s := by
  unfold transferEnd
  rw [hbusy, if_neg (by decide)]
  obtain rfl | rfl : outcome = 1 ∨ outcome = 2 := by revert outcome; decide
  all_goals rfl

/-- A transfer that has read bytes and their PEC (R412, R425). -/
theorem transferEnd_of_read (hbusy : s.tw[n].busy = true) {rx : List Byte} (hrlen : fldOf (F.TWn_MCMD_RLEN n) s.tw[n].mcmd = rx.length)
    (hsome : 1 ≤ rx.length) (hmax : rx.length ≤ 32) (hpec : fldOf (F.TWn_MCMD_PEC n) s.tw[n].mcmd = 1) (e : Byte) :
    transferEnd n 0 (rx ++ [e]) s =
      twEnd n (if e = pec (s.tw[n].sent ++ [b8 (2 * fldOf (F.TWn_MCMD_ADDR n) s.tw[n].mcmd + 1)] ++ rx) then 1 else 4) (mbufStore n rx s) := by
  obtain ⟨hpec0, haddr0, hrlen0, -⟩ := mcmd_place n s.tw[n].mcmd
  have hlen : mcmdRlen s.tw[n].mcmd = rx.length := by rw [hrlen0, hrlen, Nat.min_eq_left hmax]
  have hdata : (rx ++ [e] ++ List.replicate rx.length 0).take rx.length = rx := by rw [List.append_assoc, List.take_left]
  have hlast : (rx ++ [e]).getD rx.length 0 = e := by
    rw [List.getD_append_right _ _ _ _ (Nat.le_refl _), Nat.sub_self]
    rfl
  have hok : ∀ x : Byte, (rx.length = 0 ∨ fldOf (F.TWn_MCMD_PEC 0) s.tw[n].mcmd = 0 ∨ e = x) ↔ e = x := fun x => by
    rw [hpec0, hpec]
    constructor
    · rintro (h | h | h)
      · omega
      · exact absurd h (by decide)
      · exact h
    · exact fun h => .inr (.inr h)
  unfold transferEnd
  rw [hbusy, if_neg (by decide)]
  simp only [hlen, hdata, hlast, hok, haddr0]

end Sys2Proof.Machine
end

section
/-!
PROOFS. Attention of the two-wire ports and the settlement of the ports' obligation (R409, R426 to R430).
-/
namespace Sys2Proof.Machine

set_option Elab.async false

variable {s t u : State} {n : Fin 2} {l : List Nat}

theorem cause_fits : ∀ n : Fin 2, fldFits (F.TWn_ATTN_CAUSE n) = true := by decide
theorem attretry_fits : ∀ n : Fin 2, fldFits (F.TWn_CNT_ATTRETRY n) = true := by decide
theorem hnrxAddr_fits : ∀ n : Fin 2, fldFits (F.TWn_HNRX_ADDR n) = true := by decide
theorem hnrxWord_fits : ∀ n : Fin 2, fldFits (F.TWn_HNRX_WORD n) = true := by decide
theorem hnrxWord_apart_addr : ∀ n : Fin 2, fldApart (F.TWn_HNRX_WORD n) (F.TWn_HNRX_ADDR n) = true := by decide

/-! ## Causes (R428 to R430) -/

/-- A signalled cause changes the timers and the port alone. -/
theorem attnKick_eq (n : Fin 2) (s : State) : ∃ q p, attnKick n s = { s with timers := q, tw := p } := by
  unfold attnKick
  split
  · split
    · exact ⟨_, s.tw, rfl⟩
    · exact ⟨s.timers, s.tw, rfl⟩
  · exact ⟨s.timers, _, rfl⟩
  · exact ⟨s.timers, s.tw, rfl⟩

/-- In INBAND mode a signalled cause changes the timers alone. -/
theorem attnKick_inband (h : s.get (F.TWn_CTL_ATTNMODE n) = 1) : ∃ q, attnKick n s = { s with timers := q } := by
  unfold attnKick
  rw [h]
  show ∃ q, (if s.tw[n].sdaUntil ≤ s.clk.ns then s.restart (idleLeft n s) (.inbandRequest n false) else s) = _
  split
  · exact ⟨_, rfl⟩
  · exact ⟨s.timers, rfl⟩

theorem attnKick_notify (h : s.get (F.TWn_CTL_ATTNMODE n) = 2) : attnKick n s = twUpd n (fun p => { p with notify := true, tries := 0 }) s := by
  unfold attnKick
  rw [h]
  rfl

theorem ctl_off_attn : ∀ n : Fin 2, (F.TWn_CTL_ATTNMODE n).addr ∉ [Reg.TWn_ATTN n] ∧ (F.TWn_ATTNEN_EN n).addr ∉ [Reg.TWn_ATTN n] := by decide

theorem setCause_keeps (n : Fin 2) (bit : Nat) (s : State) : Keeps [Reg.TWn_ATTN n] s (s.setBit (F.TWn_ATTN_CAUSE n) bit) :=
  (Keeps.refl _ s).setBit bit (f := F.TWn_ATTN_CAUSE n) (.head _)

/-- What setting a cause does to the registers and the log. -/
theorem twCause_sets (hon : twOn s = true) {bit : Nat} (hbit : bit < 6) :
    (twCause n bit s).get (F.TWn_ATTN_CAUSE n) = s.get (F.TWn_ATTN_CAUSE n) ||| 2 ^ bit ∧ NoLog s (twCause n bit s) ∧
      Keeps [Reg.TWn_ATTN n] s (twCause n bit s) := by
  have hset : (s.setBit (F.TWn_ATTN_CAUSE n) bit).get (F.TWn_ATTN_CAUSE n) = s.get (F.TWn_ATTN_CAUSE n) ||| 2 ^ bit :=
    State.get_setBit_or (cause_fits n) hbit s
  unfold twCause
  rw [hon, if_neg (by decide)]
  dsimp only
  split
  · exact ⟨hset, rfl, setCause_keeps n bit s⟩
  · obtain ⟨q, p, hkick⟩ := attnKick_eq n (s.setBit (F.TWn_ATTN_CAUSE n) bit)
    rw [hkick]
    exact ⟨hset, rfl, (setCause_keeps n bit s).congr rfl rfl rfl⟩

/-- A new enabled cause in NOTIFY mode waits as a Host Notify (R430). -/
theorem twCause_notifies (hon : twOn s = true) {bit : Nat} (hbit : bit < 6) (hmode : s.get (F.TWn_CTL_ATTNMODE n) = 2)
    (hnew : s.bit (F.TWn_ATTN_CAUSE n) bit = false) (hen : s.bit (F.TWn_ATTNEN_EN n) bit = true) :
    (twCause n bit s).tw[n].notify = true ∧ (twCause n bit s).tw[n].tries = 0 := by
  have hkeeps := setCause_keeps n bit s
  have hpending : twPending n (s.setBit (F.TWn_ATTN_CAUSE n) bit) ≠ twPending n s := fun h => by
    have hbits := congrArg (fun x => x.testBit bit) h
    unfold State.bit at hnew hen
    simp only [twPending, hkeeps.get (ctl_off_attn n).right, State.get_setBit_or (cause_fits n) hbit, Nat.testBit_and, Nat.testBit_or,
      Nat.testBit_two_pow_self, hnew, hen] at hbits
    exact absurd hbits (by decide)
  unfold twCause
  rw [hon, if_neg (by decide)]
  dsimp only
  rw [if_neg hpending, attnKick_notify ((hkeeps.get (ctl_off_attn n).left).trans hmode), twUpd_same]
  exact ⟨rfl, rfl⟩

/-! ## In-band requests and Host Notify (R429, R430) -/

theorem inband_of_collision (h : s.clk.ns < s.tw[n].sdaUntil) : inband n true s =
    (twUpd n (fun p => { p with sdaUntil := s.clk.ns, busAt := some s.clk.ns }) (s.inc (F.TWn_CNT_ATTRETRY n))).restart 50000 (.inbandRequest n false) := by
  unfold inband
  exact if_pos h

theorem inband_of_idle (htarget : twTarget n s = true) (hmode : s.get (F.TWn_CTL_ATTNMODE n) = 1) (hpending : twPending n s ≠ 0)
    (hidle : idleLeft n s = 0) : inband n false s = (twUpd n (fun p => { p with sdaUntil := s.clk.ns + inbwNs n s }) s).restart
      (zeroAsOne (s.get (F.TWn_TO_ATTREP n)) * 1000000) (.inbandRequest n false) := by
  unfold inband
  rw [if_neg (by decide), htarget, hmode, if_neg (by simp [hpending]), if_neg (not_not_intro hidle)]

/-- The bytes of a Host Notify. -/
def notifyBytes (n : Fin 2) (s : State) (p : TwPort) : List Byte := [0x10, b8 (2 * p.addr), b8 (s.get (F.TWn_ATTN_CAUSE n)), 0]

/-- The attempt of a waiting notification, before its outcome. -/
def notifySent (n : Fin 2) (s : State) : State := twUpd n (fun p => { p with resp := notifyBytes n s p }) s

section
variable (htarget : twTarget n s = true) (hwait : s.tw[n].notify = true) (hmode : s.get (F.TWn_CTL_ATTNMODE n) = 2)
include htarget hwait hmode

theorem hostNotify_of_accepted : hostNotify n true s = twUpd n (fun p => { p with notify := false, tries := 0 }) (notifySent n s) := by
  unfold hostNotify
  rw [htarget, hwait, hmode, if_neg (by decide)]
  rfl

theorem hostNotify_of_retry (htries : s.tw[n].tries < s.get (F.TWn_MCMD_HNRETRY n)) :
    hostNotify n false s = twUpd n (fun p => { p with tries := p.tries + 1 }) (notifySent n s) := by
  unfold hostNotify
  rw [htarget, hwait, hmode, if_neg (by decide)]
  exact if_pos htries

theorem hostNotify_of_dropped (htries : s.get (F.TWn_MCMD_HNRETRY n) ≤ s.tw[n].tries) :
    hostNotify n false s = (twUpd n (fun p => { p with notify := false, tries := 0 }) ((notifySent n s).put (F.TWn_MSTAT_HNDROP n) 1)).logReq
      0x0E 4 [b8 n.val, b8 (s.get (F.TWn_ATTN_CAUSE n))] := by
  unfold hostNotify
  rw [htarget, hwait, hmode, if_neg (by decide)]
  exact if_neg (Nat.not_lt.mpr htries)

end

theorem cause_off_mstat : ∀ n : Fin 2, (F.TWn_ATTN_CAUSE n).addr ∉ [Reg.TWn_MSTAT n] := by decide

/-- A notification that is given up (R430). -/
theorem notifyDropped_drops (ht : t = (twUpd n (fun p => { p with notify := false, tries := 0 }) ((notifySent n s).put (F.TWn_MSTAT_HNDROP n) 1)).logReq
      0x0E 4 [b8 n.val, b8 (s.get (F.TWn_ATTN_CAUSE n))]) :
    t.tw[n].resp = notifyBytes n s s.tw[n] ∧ t.tw[n].notify = false ∧ t.on (F.TWn_MSTAT_HNDROP n) = true ∧
      t.get (F.TWn_ATTN_CAUSE n) = s.get (F.TWn_ATTN_CAUSE n) ∧ Logged 0x0E 4 [b8 n.val, b8 (s.get (F.TWn_ATTN_CAUSE n))] s t ∧
      Keeps [Reg.TWn_MSTAT n] s t := by
  have hsent : (notifySent n s).tw[n] = { s.tw[n] with resp := notifyBytes n s s.tw[n] } := twUpd_same _ _ _
  have hport : t.tw[n] = { (notifySent n s).tw[n] with notify := false, tries := 0 } := by
    rw [ht]
    exact twUpd_same _ _ _
  rw [hsent] at hport
  have hkeeps : Keeps [Reg.TWn_MSTAT n] s t := by
    rw [ht]
    exact (((((Keeps.refl _ s).twUpd n _).put 1 (f := F.TWn_MSTAT_HNDROP n) (.head _)).twUpd n _).logReq _ _ _)
  refine ⟨by rw [hport], by rw [hport], ?_, hkeeps.get (cause_off_mstat n), ?_, hkeeps⟩
  · rw [ht]
    exact State.on_put_one (hndrop_fits n) rfl _
  · rw [ht]
    rfl

theorem notifyReceived_of_controller (h : Target n 4 s) (ib : Bool) (addr : Byte) (data : BitVec 16) : notifyReceived n ib addr data s =
    if ib then (s.put (F.TWn_MSTAT_ATTNIN n) 1).fire (180 + n.val)
    else (((s.put (F.TWn_MSTAT_ATTNIN n) 1).fire (180 + n.val)).put (F.TWn_HNRX_ADDR n) addr.toNat).put (F.TWn_HNRX_WORD n) data.toNat := by
  unfold notifyReceived
  rw [h.left, h.right, if_neg (by decide)]

theorem hnrx_ne_mstat : ∀ n : Fin 2, (F.TWn_MSTAT_ATTNIN n).addr ≠ Reg.TWn_HNRX n := by decide

theorem Fires.congr {src : Nat} (h : Fires src s u) (hevm : t.evm = u.evm) : Fires src s t := (congrArg Evm.firings hevm).trans h

/-- A request or a Host Notify from another device (R430). -/
theorem notifyReceived_records (h : Target n 4 s) (hnot : NotFired (180 + n.val) s) (ib : Bool) (addr : Byte) (data : BitVec 16)
    (ht : t = notifyReceived n ib addr data s) :
    t.on (F.TWn_MSTAT_ATTNIN n) = true ∧ Fires (180 + n.val) s t ∧ (ib = false → t.get (F.TWn_HNRX_ADDR n) = addr.toNat ∧
      t.get (F.TWn_HNRX_WORD n) = data.toNat) ∧ NoLog s t ∧ Keeps (if ib then [Reg.TWn_MSTAT n] else [Reg.TWn_MSTAT n, Reg.TWn_HNRX n]) s t := by
  have hput : Keeps [Reg.TWn_MSTAT n] s (s.put (F.TWn_MSTAT_ATTNIN n) 1) := (Keeps.refl _ s).put 1 (f := F.TWn_MSTAT_ATTNIN n) (.head _)
  have hnotP : NotFired (180 + n.val) (s.put (F.TWn_MSTAT_ATTNIN n) 1) := notFired_congr rfl rfl hnot
  have hfires : Fires (180 + n.val) s ((s.put (F.TWn_MSTAT_ATTNIN n) 1).fire (180 + n.val)) :=
    fires_of_outside hput (mstat_outside n) (by omega) rfl rfl hnot rfl
  have hflag : ((s.put (F.TWn_MSTAT_ATTNIN n) 1).fire (180 + n.val)).on (F.TWn_MSTAT_ATTNIN n) = true :=
    (congrArg (· != 0) (fire_get hnotP _)).trans (State.on_put_one (attnin_fits n) rfl s)
  rw [notifyReceived_of_controller h] at ht
  cases ib with
  | true =>
    rw [if_pos rfl] at ht
    subst ht
    refine ⟨hflag, hfires, fun hf => absurd hf (by decide), ?_, hput.fired hnotP⟩
    rw [NoLog, fire_log, State.put_log]
  | false =>
    rw [if_neg (by decide)] at ht
    subst ht
    refine ⟨?_, hfires.congr ((State.put_evm _ _ _).trans (State.put_evm _ _ _)), fun _ => ⟨?_, ?_⟩, ?_, ?_⟩
    · refine Eq.trans (congrArg (· != 0) ?_) hflag
      rw [State.get_put_ne _ _ _ _ (hnrx_ne_mstat n), State.get_put_ne _ _ _ _ (hnrx_ne_mstat n)]
    · rw [State.get_put_apart (hnrxWord_apart_addr n), State.get_put_of_lt (hnrxAddr_fits n) addr.isLt]
    · rw [State.get_put_of_lt (hnrxWord_fits n) data.isLt]
    · rw [NoLog, State.put_log, State.put_log, fire_log, State.put_log]
    · exact ((((hput.fired hnotP).mono (List.cons_subset_cons _ (List.nil_subset _))).put _ (f := F.TWn_HNRX_ADDR n) (.tail _ (.head _))).put _
        (f := F.TWn_HNRX_WORD n) (.tail _ (.head _)))

/-! ## Personality (R409) -/

/-- A port in a new personality, its transaction state at reset. -/
def portAs (pers speed addr : Nat) (p : TwPort) : TwPort :=
  { p with pers := pers, speed := speed, addr := addr, resp := [], nack := false, busy := false, cmd := 0, sdaUntil := 0, deaf := false }

theorem personality_changes (hon : twOn s = true) (hnew : s.get (F.TWn_CTL_PERS n) ≠ s.tw[n].pers ∨ s.get (F.TWn_CTL_SPEED n) ≠ s.tw[n].speed ∨
    s.get (F.TWn_ADDR_ADDR n) ≠ s.tw[n].addr) (ht : t = personality n s) :
    t.tw[n] = portAs (s.get (F.TWn_CTL_PERS n)) (s.get (F.TWn_CTL_SPEED n)) (s.get (F.TWn_ADDR_ADDR n)) s.tw[n] ∧ NoLog s t ∧ Keeps [] s t := by
  have hgo : (!twOn s || (s.get (F.TWn_CTL_PERS n) == s.tw[n].pers && s.get (F.TWn_CTL_SPEED n) == s.tw[n].speed &&
      s.get (F.TWn_ADDR_ADDR n) == s.tw[n].addr)) = false := by
    rw [hon, Bool.not_true, Bool.false_or]
    simp only [Bool.and_eq_false_iff, beq_eq_false_iff_ne]
    exact or_assoc.mpr hnew
  have hport := twUpd_same n (portAs (s.get (F.TWn_CTL_PERS n)) (s.get (F.TWn_CTL_SPEED n)) (s.get (F.TWn_ADDR_ADDR n))) s
  have hkeeps : Keeps [] s (twUpd n (portAs (s.get (F.TWn_CTL_PERS n)) (s.get (F.TWn_CTL_SPEED n)) (s.get (F.TWn_ADDR_ADDR n))) s) :=
    (Keeps.refl _ s).twUpd n _
  unfold personality at ht
  dsimp only at ht
  rw [hgo, if_neg (by decide)] at ht
  split at ht
  next h =>
    obtain ⟨q, hkick⟩ := attnKick_inband h.left
    rw [hkick] at ht
    exact ht ▸ ⟨hport, rfl, hkeeps.congr rfl rfl rfl⟩
  next => exact ht ▸ ⟨hport, rfl, hkeeps⟩

/-! ## The settlement -/

theorem clampNat_inbw (x : Nat) : clampNat x 50 100 = min 100 (max 50 x) := by
  unfold clampNat
  omega

theorem twOn_of_slot (h : slotOn Reg.TW_ACT s = true) : twOn s = true := h

/-- A port that is reset by itself has a personality of a target (R427). -/
theorem selfResets (hon : twOn s = true) {p : Nat} (hpers : s.tw[n].pers = p) (hp : p ∈ [pSMBUS, pPMBUS, pPOINTER])
    (hstill : twStill n (ttmoNs n s) s = true) :
    (twOn s && (s.tw[n].pers == pSMBUS || s.tw[n].pers == pPMBUS || s.tw[n].pers == pPOINTER) && twStill n (ttmoNs n s) s) = true := by
  rw [hon, hstill, hpers]
  revert hp
  simp only [List.mem_cons, List.not_mem_nil, or_false]
  rintro (rfl | rfl | rfl) <;> rfl

theorem twReset_of_port {arg : BitVec 16} (hport : arg.toNat % 2 = n.val) (hpers : s.tw[n].pers ∈ [pSMBUS, pPMBUS, pPOINTER, pCONTROLLER]) :
    twReset arg s = selfReset n 3 s := by
  obtain rfl := twAct_port hport
  unfold twReset
  refine if_neg ?_
  revert hpers
  simp only [List.mem_cons, List.not_mem_nil, or_false]
  unfold pSMBUS pPMBUS pPOINTER pCONTROLLER
  omega

theorem mbOwner_off_mstat : ∀ (k : Fin 8) (n : Fin 2), (F.MBk_STAT_OWNER k).addr ∉ [Reg.TWn_MSTAT n] := by decide
theorem mstat_off_reset : ∀ n : Fin 2, Reg.TWn_MSTAT n ∉ [Reg.TWn_CML n, Reg.TWn_CNT n] := by decide
theorem reset_off_mstat : ∀ n : Fin 2, Reg.TWn_CML n ∉ [Reg.TWn_MSTAT n] ∧ Reg.TWn_CNT n ∉ [Reg.TWn_MSTAT n] := by decide

theorem selfReset_evm {cause : Nat} (hnone : ∀ k : Fin 8, mbOwner k.val s ≠ 4 + n.val) : (selfReset n cause s).evm = s.evm := by
  rw [selfReset_eq, locksOf_of_none fun k => by rw [resetBegun_owner]; exact hnone k]
  rfl

/-- The end of a transfer whose source has not fired in the cycle. -/
theorem twEnd_eq {result : Nat} (hnot : NotFired (180 + n.val) s) :
    ∃ g, twEnd n result s = { twUpd n (fun p => { p with busy := false, busAt := some s.clk.ns }) (s.put (F.TWn_MSTAT_RESULT n) result) with evm := g } :=
  ⟨_, fire_of_notFired (s := twUpd n _ (s.put (F.TWn_MSTAT_RESULT n) result)) (notFired_congr rfl rfl hnot)⟩

theorem mbuf_off_mstat : ∀ (n : Fin 2) (i : Fin 8), Reg.TWn_MBUFi n i ∉ [Reg.TWn_MSTAT n] := by decide

theorem Keeps.mbuf (h : Keeps [Reg.TWn_MSTAT n] s t) : mbuf n t = mbuf n s := by
  unfold Sys2Proof.Machine.mbuf
  exact congrArg List.flatten (List.map_congr_left fun i hi => congrArg bytesOfWord (h.rd (mbuf_off_mstat n ⟨i, List.mem_range.mp hi⟩)))

/-- A stretch time-out ends the transfer with TMO and resets the port (R426). -/
theorem stretchTimeout_resets (hnot : NotFired (180 + n.val) s) (hnone : ∀ k : Fin 8, mbOwner k.val s ≠ 4 + n.val)
    (ht : t = selfReset n 2 (twEnd n 5 s)) :
    t.tw[n].busy = false ∧ t.get (F.TWn_MSTAT_RESULT n) = 5 ∧ t.on (F.TWn_MSTAT_HNDROP n) = s.on (F.TWn_MSTAT_HNDROP n) ∧
      t.bit (F.TWn_CML_CML n) 1 = true ∧ t.get (F.TWn_CNT_SELFRST n) = min 255 (s.get (F.TWn_CNT_SELFRST n) + 1) ∧
      Fires (180 + n.val) s t ∧ Logged 0x0E 1 [b8 n.val, 2, b8 s.tw[n].cmd] s t ∧ Keeps [Reg.TWn_MSTAT n, Reg.TWn_CML n, Reg.TWn_CNT n] s t := by
  obtain ⟨g, hrun⟩ := twEnd_eq (result := 5) hnot
  obtain ⟨hport, hresult, hfires, -, hkeeps⟩ := twEnd_ends (result := 5) (by decide) (Keeps.refl _ s) (.head _) (mstat_outside n) rfl rfl rfl hnot rfl
  have hnoneE : ∀ k : Fin 8, mbOwner k.val (twEnd n 5 s) ≠ 4 + n.val := fun k => by
    rw [mbOwner, hkeeps.get (mbOwner_off_mstat k n)]
    exact hnone k
  have hdrop : (twEnd n 5 s).on (F.TWn_MSTAT_HNDROP n) = s.on (F.TWn_MSTAT_HNDROP n) := by
    rw [hrun]
    exact State.on_put_apart (result_apart_hndrop n) 5 s
  obtain ⟨hreset, hcml, hcount, hlog, hkeepsR⟩ := selfReset_of_noLock hnoneE ht
  rw [hport] at hreset hlog
  refine ⟨by rw [hreset]; rfl, (hkeepsR.get (mstat_off_reset n)).trans hresult, (hkeepsR.on (mstat_off_reset n)).trans hdrop, ?_, ?_,
    hfires.congr (ht ▸ selfReset_evm hnoneE), ?_, ?_⟩
  · rw [State.bit, hcml, Nat.testBit_or, Nat.testBit_two_pow_self, Bool.or_true]
  · rw [hcount, hkeeps.get (reset_off_mstat n).right]
  · rw [hrun] at hlog
    exact hlog
  · exact (hkeeps.mono (List.cons_subset_cons _ (List.nil_subset _))).trans (hkeepsR.mono (List.subset_cons_self _ _))

/-- Settles O50, one clause for each event of a port. -/
theorem twoWirePorts : Obligations.TwoWirePorts := by
  unfold Obligations.TwoWirePorts
  refine ⟨fun s n p hsilent => ⟨_, congrArg Host.Outcome.next (pointerWrite_of_silent hsilent [p]), ?silent⟩, fun s n w l hon hq => ?pop,
    fun s n agent hon hq => ?popNone, fun s n p htgt => ⟨_, congrArg Host.Outcome.next (pointerWrite_of_address htgt p), ?address⟩,
    fun s n p b htgt hroom hnot => ⟨_, congrArg Host.Outcome.next (pointerWrite_of_byte htgt hroom p b), pointerByte_stores hnot rfl⟩,
    fun s n htgt => ⟨_, congrArg Host.Outcome.next (pointerRead_of_byte htgt), ?read⟩,
    fun s ticket arg n hon hfresh hport hpers hidle => ⟨_, rfl, ?start⟩, fun s ticket arg n hon hfresh hport hbusy => ⟨_, rfl, ?startRefused⟩,
    fun s n outcome rx hbusy hcut hnot => ⟨_, congrArg Host.Outcome.next (transferEnd_of_cut hbusy hcut rx), ?cut⟩,
    fun s n rx e hbusy hrlen hsome hmax hpec hnot =>
      ⟨_, congrArg Host.Outcome.next (transferEnd_of_read hbusy hrlen hsome hmax hpec e), ?done⟩,
    fun s n hbusy hnot hstill hnone => ?stretch, fun s n p hon hpers hp hstill hnone => ?reset,
    fun s n p k hon hpers hp hstill hown => ?resetLocks, fun s ticket arg n hon hfresh hport hpers hnone => ⟨_, rfl, ?twReset⟩,
    fun s ticket arg n hon hfresh hport => ⟨_, rfl, ?request⟩, fun s n hon hpers hmode hpending hidle => ?inband,
    fun s n hhold => ⟨_, congrArg Host.Outcome.next (inband_of_collision hhold), ?collision⟩,
    fun s n htarget hwait hmode => ⟨_, congrArg Host.Outcome.next (hostNotify_of_accepted htarget hwait hmode), ?accepted⟩,
    fun s n htarget hwait hmode htries => ⟨_, congrArg Host.Outcome.next (hostNotify_of_retry htarget hwait hmode htries), ?retry⟩,
    fun s n htarget hwait hmode htries =>
      ⟨_, congrArg Host.Outcome.next (hostNotify_of_dropped htarget hwait hmode htries), notifyDropped_drops rfl⟩,
    fun s n ib addr data htgt hnot => ⟨_, rfl, notifyReceived_records htgt hnot ib addr data rfl⟩, fun s n hon hnew => ⟨_, rfl, ?personality⟩⟩
  case silent =>
    have hport : (twSilent n s).tw[n] = { s.tw[n] with nack := true, resp := [], busAt := some s.clk.ns } := twUpd_same _ _ _
    dsimp only
    rw [hport]
    exact ⟨rfl, rfl, rfl, rfl, rfl, rfl, (Keeps.refl _ s).twUpd _ _⟩
  case pop =>
    have hport := twUpd_same n (fun p => { p with q := l, popped := p.popped ++ [w] }) s
    exact ⟨_, congrArg Host.Outcome.next ((if_pos hon).trans (queuePop_of_cons hq)), rfl, congrArg TwPort.q hport, congrArg TwPort.popped hport, rfl,
      (Keeps.refl _ s).congr rfl rfl rfl⟩
  case popNone =>
    exact ⟨_, congrArg Host.Outcome.next ((if_pos hon).trans (queuePop_of_nil hq agent)), rfl, rfl, rfl, (Keeps.refl _ s).congr rfl rfl rfl⟩
  case address =>
    have hport : (ptrSet n p.toNat (twBegin n 0 s)).tw[n] = { (twBegin n 0 s).tw[n] with ptr := p.toNat } := twUpd_same _ _ _
    rw [twBegin_port] at hport
    dsimp only
    rw [hport]
    exact ⟨rfl, rfl, rfl, rfl, (twBegin_keeps n 0 s []).twUpd _ _⟩
  case read =>
    have hport := twUpd_same n (fun t => { t with resp := [regfByte n s.tw[n].ptr s] }) (ptrSet n (ptrNext n s.tw[n].ptr s) (twBegin n 0 s))
    have hptr : (ptrSet n (ptrNext n s.tw[n].ptr s) (twBegin n 0 s)).tw[n].ptr = ptrNext n s.tw[n].ptr s := congrArg TwPort.ptr (twUpd_same _ _ _)
    exact ⟨congrArg TwPort.resp hport, (congrArg TwPort.ptr hport).trans hptr, rfl, ((twBegin_keeps n 0 s []).twUpd _ _).twUpd _ _⟩
  case start =>
    obtain ⟨hresult, -⟩ := mstat_ne_twAct n
    rw [twAct_fresh hon hfresh, twExec_of_idle hport hpers hidle]
    have hport := twUpd_same n (fun p => { p with
      busy := true, mcmd := s.rd (Reg.TWn_MCMD n), sent := transferBytes n s, resp := transferBytes n s, busAt := some s.clk.ns })
      (s.put (F.TWn_MSTAT_RESULT n) 0)
    refine ⟨congrArg TwPort.busy hport, ?_, congrArg TwPort.mcmd hport, congrArg TwPort.sent hport, twAct_word _ _, rfl,
      (((Keeps.refl [Reg.TWn_MSTAT n] s).put 0 (f := F.TWn_MSTAT_RESULT n) (.head _)).twUpd n _).twAct _⟩
    exact (regGet_wr_apart _ _ _ _ hresult).trans (State.get_put_of_lt (result_fits n) (Nat.two_pow_pos _) s)
  case startRefused =>
    obtain ⟨-, hbusyref, -⟩ := mstat_ne_twAct n
    rw [twAct_fresh hon hfresh, twExec_of_busy hport hbusy]
    refine ⟨?_, rfl, rfl, ((Keeps.refl [Reg.TWn_MSTAT n] s).put 1 (f := F.TWn_MSTAT_BUSYREF n) (.head _)).twAct _⟩
    exact (congrArg (· != 0) (regGet_wr_apart _ _ _ _ hbusyref)).trans (State.on_put_one (busyref_fits n) rfl s)
  case cut =>
    obtain ⟨hport, hresult, hfires, hlog, hkeeps⟩ := twEnd_ends (result := if outcome = 1 then 2 else 3) (by split <;> decide) (Keeps.refl _ s)
      (.head _) (mstat_outside n) rfl rfl rfl hnot rfl
    exact ⟨by rw [hport], hresult, hfires, hlog, hkeeps⟩
  case done =>
    obtain ⟨m, hstored⟩ := each_wr_eq (Reg.TWn_MBUFi n) (fun i => wordOfBytes (((rx ++ (mbuf n s).drop rx.length).drop (4 * i)).take 4)) (List.range 8) s
    have hstore : mbufStore n rx s = { s with regs := m } := hstored
    obtain ⟨hport, hresult, hfires, hlog, hkeeps⟩ := twEnd_ends
      (result := if e = pec (s.tw[n].sent ++ [b8 (2 * fldOf (F.TWn_MCMD_ADDR n) s.tw[n].mcmd + 1)] ++ rx) then 1 else 4) (u := mbufStore n rx s)
      (by split <;> decide) (mbufStore_keeps n rx s) (.head _) (mbufs_outside n) (by rw [hstore]) (by rw [hstore]) (by rw [hstore]) hnot rfl
    refine ⟨by rw [hport], hresult, ?_, hfires, hlog, hkeeps⟩
    have hnotM : NotFired (180 + n.val) (mbufStore n rx s) := notFired_congr (by rw [hstore]) (by rw [hstore]) hnot
    obtain ⟨-, -, -, -, hbuf⟩ := twEnd_ends
      (result := if e = pec (s.tw[n].sent ++ [b8 (2 * fldOf (F.TWn_MCMD_ADDR n) s.tw[n].mcmd + 1)] ++ rx) then 1 else 4)
      (by split <;> decide) (Keeps.refl _ (mbufStore n rx s)) (.head _) (mstat_outside n) rfl rfl rfl hnotM rfl
    rw [hbuf.mbuf, mbuf_mbufStore hmax]
  case stretch =>
    exact ⟨_, congrArg Host.Outcome.next (if_pos (by rw [hbusy, hstill]; rfl)), stretchTimeout_resets hnot hnone rfl⟩
  case reset =>
    exact ⟨_, congrArg Host.Outcome.next (if_pos (selfResets hon hpers hp hstill)), selfReset_of_noLock hnone rfl⟩
  case resetLocks =>
    exact ⟨_, congrArg Host.Outcome.next (if_pos (selfResets hon hpers hp hstill)), selfReset_releases hown rfl⟩
  case twReset =>
    obtain ⟨-, -, hcmlAct, hcountAct, -⟩ := mstat_ne_twAct n
    rw [twAct_fresh hon hfresh, twReset_of_port hport hpers]
    obtain ⟨hreset, hcml, hcount, hlog, hkeeps⟩ := selfReset_of_noLock (cause := 3) hnone rfl
    exact ⟨hreset, (regGet_wr_apart _ _ _ _ hcmlAct).trans hcml, (regGet_wr_apart _ _ _ _ hcountAct).trans hcount, twAct_word _ _, hlog,
      hkeeps.twAct _⟩
  case request =>
    obtain ⟨-, -, -, -, hcauseAct⟩ := mstat_ne_twAct n
    have hbit : 4 < 6 := by decide
    have hrun : twRequest arg s = twCause n 4 s := by rw [twRequest, twAct_port hport]
    rw [twAct_fresh hon hfresh, hrun]
    obtain ⟨hcause, hlog, hkeeps⟩ := twCause_sets (n := n) (twOn_of_slot hon) hbit
    exact ⟨(regGet_wr_apart _ _ _ _ hcauseAct).trans hcause, twAct_word _ _,
      fun ⟨hmode, hnew, hen⟩ => twCause_notifies (twOn_of_slot hon) hbit hmode hnew hen, hlog, hkeeps.twAct _⟩
  case inband =>
    have htarget : twTarget n s = true := by rw [twTarget, hon, decide_eq_true hpers.left, decide_eq_true hpers.right]; rfl
    refine ⟨_, congrArg Host.Outcome.next (inband_of_idle htarget hmode hpending hidle), ?_, rfl, ((Keeps.refl _ s).twUpd n _).restart _ _⟩
    rw [← clampNat_inbw]
    exact congrArg TwPort.sdaUntil (twUpd_same n _ s)
  case collision =>
    exact ⟨congrArg TwPort.sdaUntil (twUpd_same n _ (s.inc (F.TWn_CNT_ATTRETRY n))), State.get_inc_byte (attretry_fits n) rfl s,
      State.mem_timers_restart _ _ _, rfl, (((Keeps.refl _ s).inc 1 (f := F.TWn_CNT_ATTRETRY n) (.head _)).twUpd n _).restart _ _⟩
  case accepted =>
    have hport : (twUpd n (fun p => { p with notify := false, tries := 0 }) (notifySent n s)).tw[n] =
        { (notifySent n s).tw[n] with notify := false, tries := 0 } := twUpd_same _ _ _
    rw [show (notifySent n s).tw[n] = { s.tw[n] with resp := notifyBytes n s s.tw[n] } from twUpd_same _ _ _] at hport
    dsimp only
    rw [hport]
    exact ⟨rfl, rfl, rfl, rfl, ((Keeps.refl _ s).twUpd n _).twUpd n _⟩
  case retry =>
    have hport : (twUpd n (fun p => { p with tries := p.tries + 1 }) (notifySent n s)).tw[n] =
        { (notifySent n s).tw[n] with tries := (notifySent n s).tw[n].tries + 1 } := twUpd_same _ _ _
    rw [show (notifySent n s).tw[n] = { s.tw[n] with resp := notifyBytes n s s.tw[n] } from twUpd_same _ _ _] at hport
    dsimp only
    rw [hport]
    exact ⟨rfl, hwait, rfl, rfl, ((Keeps.refl _ s).twUpd n _).twUpd n _⟩
  case personality =>
    obtain ⟨hport, hlog, hkeeps⟩ := personality_changes hon hnew rfl
    rw [hport]
    exact ⟨rfl, rfl, rfl, rfl, rfl, hlog, hkeeps⟩

end Sys2Proof.Machine
end

section
/-!
PROOFS. Motors: fields, conditions and their watch where nothing new is present (R464, R478, R479).
-/
namespace Sys2Proof.Machine

set_option Elab.async false

variable {s t u : State} {m : Fin 4} {l : List Nat}

/-! ## Fields -/

theorem moCond_fits : ∀ m : Fin 4, fldFits (F.MOTm_STAT_COND m) = true := by decide
theorem moThv_fits : ∀ m : Fin 4, fldFits (F.MOTm_STAT_THV m) = true := by decide
theorem moSt_fits : ∀ m : Fin 4, fldFits (F.MOTm_STAT_ST m) = true := by decide
theorem moDecl_fits : ∀ m : Fin 4, fldFits (F.MOTm_FLAG_DECL m) = true := by decide
theorem moEn_fits : ∀ m : Fin 4, fldFits (F.MOTm_CTL_EN m) = true := by decide
theorem moThofs_fits : ∀ m : Fin 4, fldFits (F.MOTm_THOFS_THOFS m) = true := by decide

/-- The fields of MOTm_STAT share no bit. -/
theorem moStat_apart : ∀ m : Fin 4, fldApart (F.MOTm_STAT_COND m) (F.MOTm_STAT_ST m) = true ∧
    fldApart (F.MOTm_STAT_COND m) (F.MOTm_STAT_THV m) = true ∧ fldApart (F.MOTm_STAT_ST m) (F.MOTm_STAT_COND m) = true ∧
    fldApart (F.MOTm_STAT_ST m) (F.MOTm_STAT_THV m) = true ∧ fldApart (F.MOTm_STAT_THV m) (F.MOTm_STAT_ST m) = true ∧
    fldApart (F.MOTm_STAT_THV m) (F.MOTm_STAT_COND m) = true := by decide

/-! ## The hidden state of a motor -/

@[simp] theorem motUpd_same (m : Fin 4) (f : Motor → Motor) (s : State) : (motUpd m f s).mot[m] = f s.mot[m] := updAt_same _ _ _
@[simp] theorem motUpd_get (m : Fin 4) (f : Motor → Motor) (s : State) (x : Fld) : (motUpd m f s).get x = s.get x := rfl
@[simp] theorem motUpd_on (m : Fin 4) (f : Motor → Motor) (s : State) (x : Fld) : (motUpd m f s).on x = s.on x := rfl

theorem Keeps.motUpd (h : Keeps l s t) (m : Fin 4) (f : Motor → Motor) : Keeps l s (motUpd m f t) := h.congr rfl rfl rfl

/-! ## The mask of conditions (R478) -/

/-- The sum of the powers of two that seven truth values select has those truth values as its bits. -/
theorem sum_bits (b : Fin 7 → Bool) {f : Nat} (hf : f < 7) :
    (((List.range 7).map fun i => if b (Fin.ofNat 7 i) then 2 ^ i else 0).sum).testBit f = b ⟨f, hf⟩ := by
  have hall : ∀ b0 b1 b2 b3 b4 b5 b6 : Bool, ∀ f : Fin 7, ((List.range 7).map fun i =>
      if ![b0, b1, b2, b3, b4, b5, b6] (Fin.ofNat 7 i) then 2 ^ i else 0).sum.testBit f = ![b0, b1, b2, b3, b4, b5, b6] f := by decide
  have hb : b = ![b 0, b 1, b 2, b 3, b 4, b 5, b 6] := by
    funext i
    match i with
    | 0 | 1 | 2 | 3 | 4 | 5 | 6 => rfl
  rw [hb]
  exact hall _ _ _ _ _ _ _ ⟨f, hf⟩

theorem motConds_testBit {f : Nat} (hf : f < 7) : (motConds m s).testBit f = (motActs m f s && motRaw m f s) := by
  have hsum : motConds m s = ((List.range 7).map fun i => if (fun j : Fin 7 => motActs m j s && motRaw m j s) (Fin.ofNat 7 i) then 2 ^ i else 0).sum := rfl
  rw [hsum]
  exact sum_bits (fun j : Fin 7 => motActs m j s && motRaw m j s) hf

theorem motConds_lt (m : Fin 4) (s : State) : motConds m s < 128 := by
  have hterm : ∀ f ∈ List.range 7, (if motActs m f s && motRaw m f s then 2 ^ f else 0) ≤ 2 ^ f := fun f _ => by
    split
    · exact Nat.le_refl _
    · exact Nat.zero_le _
  have hsum : motConds m s ≤ ((List.range 7).map fun f => 2 ^ f).sum := List.sum_le_sum hterm
  exact Nat.lt_of_le_of_lt hsum (by decide)

theorem motConds_ext {n : Nat} (hn : n < 128) (h : ∀ f < 7, (motActs m f s && motRaw m f s) = n.testBit f) : motConds m s = n := by
  refine Nat.eq_of_testBit_eq fun f => ?_
  by_cases hf : f < 7
  · rw [motConds_testBit hf, h f hf]
  · have hpow : 2 ^ 7 ≤ 2 ^ f := Nat.pow_le_pow_right (by decide) (Nat.not_lt.mp hf)
    rw [Nat.testBit_lt_two_pow (Nat.lt_of_lt_of_le (motConds_lt m s) hpow), Nat.testBit_lt_two_pow (Nat.lt_of_lt_of_le hn hpow)]

theorem motConds_zero (h : ∀ f < 7, motActs m f s = true → motRaw m f s = false) : motConds m s = 0 :=
  motConds_ext (by decide) fun f hf => by
    rw [Nat.zero_testBit]
    cases hacts : motActs m f s
    · rfl
    · rw [h f hf hacts]
      rfl

/-! ## States that agree on what the conditions are formed from -/

/-- The two states agree on what decides which detectors of a motor act and on the raw conditions, but for those kept in MOTm_STAT. -/
structure MotLike (m : Fin 4) (s t : State) : Prop where
  en : motorEn m t = motorEn m s
  switches : motSwitches m t = motSwitches m s
  cleared : motCleared m t = motCleared m s
  raw : ∀ f, f = 1 ∨ f = 2 ∨ f = 3 ∨ f = 4 → motRaw m f t = motRaw m f s

theorem MotLike.refl (m : Fin 4) (s : State) : MotLike m s s := ⟨rfl, rfl, rfl, fun _ _ => rfl⟩

theorem MotLike.trans (h : MotLike m s t) (k : MotLike m t u) : MotLike m s u :=
  ⟨k.en.trans h.en, k.switches.trans h.switches, k.cleared.trans h.cleared, fun f hf => (k.raw f hf).trans (h.raw f hf)⟩

theorem motSwitches_congr (h : motSt m t = motSt m s) : motSwitches m t = motSwitches m s := by
  unfold motSwitches
  rw [h]

theorem MotLike.acts (h : MotLike m s t) (f : Nat) : motActs m f t = motActs m f s := by
  unfold motActs
  rw [h.en, h.switches, h.cleared]

/-- The conditions that their events keep. -/
theorem motRaw_kept {f : Nat} (hf : f = 0 ∨ f = 5 ∨ f = 6) : motRaw m f s = s.bit (F.MOTm_STAT_COND m) f := by
  obtain rfl | rfl | rfl := hf <;> rfl

/-- Registers that decide nothing about the conditions of a motor beside its state. -/
def motFree (m : Fin 4) (l : List Nat) : Bool :=
  ([Reg.MOTm_CTL m, Reg.MOTm_LIM m, Reg.MOTm_SPEED m, Reg.GATH_MFLT] ++ (List.range 8).map Reg.ANGn_STAT).all fun a => !l.contains a

theorem MotLike.of_keeps (hkeeps : Keeps l s t) (hl : motFree m l = true) (hsw : motSwitches m t = motSwitches m s) (hflt : t.mot[m].fltLow = s.mot[m].fltLow)
    (hclr : t.mot[m].cleared = s.mot[m].cleared) (hclk : t.clk = s.clk) : MotLike m s t := by
  have hnot : ∀ a ∈ [Reg.MOTm_CTL m, Reg.MOTm_LIM m, Reg.MOTm_SPEED m, Reg.GATH_MFLT] ++ (List.range 8).map Reg.ANGn_STAT, a ∉ l := fun a ha hin => by
    have := List.all_eq_true.mp hl a ha
    simp [hin] at this
  have hctl : Reg.MOTm_CTL m ∉ l := hnot _ (by simp)
  have hmotor : motorDom m t = motorDom m s := by
    unfold motorDom
    rw [hkeeps.get (f := F.MOTm_CTL_DOM m) hctl]
  refine ⟨hkeeps.on (f := F.MOTm_CTL_EN m) hctl, hsw, ?_, ?_⟩
  · unfold motCleared
    rw [hclr, hclk]
  · rintro f (rfl | rfl | rfl | rfl)
    · exact hflt
    · have hget : t.get F.GATH_MFLT_MFLT = s.get F.GATH_MFLT_MFLT := hkeeps.get (hnot _ (by simp [F.GATH_MFLT_MFLT]))
      show (t.bit _ _ || t.bit _ _) = (s.bit _ _ || s.bit _ _)
      unfold State.bit
      rw [hget]
    · have hget : t.get (F.ANGn_STAT_STATE (motorDom m s)) = s.get (F.ANGn_STAT_STATE (motorDom m s)) :=
        hkeeps.get (hnot _ (List.mem_append_right _ (List.mem_map_of_mem (List.mem_range.mpr (motorDom m s).isLt))))
      unfold motRaw
      rw [hmotor]
      simp only [hget]
    · have hlim : t.get (F.MOTm_LIM_OVSPD m) = s.get (F.MOTm_LIM_OVSPD m) := hkeeps.get (hnot _ (by simp [F.MOTm_LIM_OVSPD]))
      have hspeed : t.get (F.MOTm_SPEED_SPEED m) = s.get (F.MOTm_SPEED_SPEED m) := hkeeps.get (hnot _ (by simp [F.MOTm_SPEED_SPEED]))
      show decide (t.get (F.MOTm_LIM_OVSPD m) * 16 ≤ (t.getI (F.MOTm_SPEED_SPEED m)).natAbs) = decide _
      unfold State.getI
      rw [hlim, hspeed]

/-! ## One bit of a field -/

/-- Taking a power of two away from a number that has it leaves its other bits. -/
theorem testBit_sub_two_pow {v i j : Nat} (hi : v.testBit i = true) (hj : j ≠ i) : (v - 2 ^ i).testBit j = v.testBit j := by
  obtain ⟨r, rfl⟩ : ∃ r, v = 2 ^ i + r := ⟨v - 2 ^ i, (Nat.add_sub_cancel' (Nat.ge_two_pow_of_testBit hi)).symm⟩
  rw [Nat.add_sub_cancel_left]
  rcases Nat.lt_or_gt_of_ne hj with hlt | hgt
  · exact (Nat.testBit_two_pow_add_gt hlt r).symm
  · rw [Nat.testBit_two_pow_add_eq, Bool.not_eq_true', Nat.testBit_eq_decide_div_mod_eq, decide_eq_false_iff_not] at hi
    obtain ⟨k, rfl⟩ : ∃ k, j = k + 1 + i := ⟨j - i - 1, by omega⟩
    rw [← Nat.testBit_div_two_pow (x := r), ← Nat.testBit_div_two_pow (x := 2 ^ i + r), Nat.add_div_left _ (Nat.two_pow_pos i), Nat.testBit_succ,
      Nat.testBit_succ]
    congr 1
    omega

/-- Fields follow from the registers alone. -/
theorem State.get_of_regs (h : t.regs = s.regs) (g : Fld) : t.get g = s.get g := by rw [State.get_regs, h, ← State.get_regs]

theorem State.putBit_false_regs (s : State) (f : Fld) (i : Nat) :
    (s.putBit f i false).regs = (s.put f (s.get f - (if (s.get f).testBit i then 2 ^ i else 0))).regs := rfl

/-- The other bits of a field stay where one is cleared. -/
theorem State.bit_putBit_ne {f : Fld} (hf : fldFits f = true) {i j : Nat} (hj : j ≠ i) (s : State) : (s.putBit f i false).bit f j = s.bit f j := by
  have hget : (s.putBit f i false).get f = (s.get f - (if (s.get f).testBit i then 2 ^ i else 0)) % 2 ^ f.width := s.get_put_same f _ (fldOk_of_fits f hf)
  have hlt : s.get f < 2 ^ f.width := fldOf_lt f _
  unfold State.bit
  rw [hget, Nat.mod_eq_of_lt (Nat.lt_of_le_of_lt (Nat.sub_le _ _) hlt)]
  split
  next hset => exact testBit_sub_two_pow hset hj
  next => rfl

/-- The other bits of a field stay where one is set. -/
theorem State.bit_setBit_ne {f : Fld} (hf : fldFits f = true) {i j : Nat} (hj : j ≠ i) (s : State) : (s.setBit f i).bit f j = s.bit f j := by
  have hlt : s.get f < 2 ^ f.width := fldOf_lt f _
  unfold State.bit
  rw [State.get_regs, State.setBit_regs_put, State.put_regs, regGet_put _ _ _ hf, Nat.testBit_mod_two_pow, Nat.testBit_or,
    Nat.testBit_two_pow_of_ne (Ne.symm hj), Bool.or_false]
  by_cases hw : j < f.width
  · rw [decide_eq_true hw, Bool.true_and]
  · rw [Nat.testBit_lt_two_pow (Nat.lt_of_lt_of_le hlt (Nat.pow_le_pow_right (by decide) (Nat.not_lt.mp hw))), Bool.and_false]

/-! ## The watch where no condition is new (R478, R479) -/

/-- No condition is present that was not. -/
def NoNewCond (m : Fin 4) (old : Nat) (s : State) : Prop := ∀ f < 7, motActs m f s = true → motRaw m f s = true → old.testBit f = true

/-- MOTm_STAT shows every condition that is present. -/
def Settled (m : Fin 4) (s : State) : Prop := NoNewCond m (s.get (F.MOTm_STAT_COND m)) s

theorem NoNewCond.mono {old new : Nat} (h : NoNewCond m old s) (hsub : ∀ f < 7, old.testBit f = true → new.testBit f = true) : NoNewCond m new s :=
  fun f hf hacts hraw => hsub f hf (h f hf hacts hraw)

/-- The conditions that are no new ones are those that a mask holds. -/
theorem noNewCond_of_mask {old : Nat} (h : motConds m s &&& (0x7F ^^^ old) = 0) : NoNewCond m old s := by
  intro f hf hacts hraw
  have hbit : (motConds m s &&& (0x7F ^^^ old)).testBit f = false := by rw [h, Nat.zero_testBit]
  have hfull : (127 : Nat).testBit f = true := by
    rw [show (127 : Nat) = 2 ^ 7 - 1 from rfl, Nat.testBit_two_pow_sub_one]
    exact decide_eq_true hf
  rw [Nat.testBit_and, Nat.testBit_xor, motConds_testBit hf, hacts, hraw, hfull] at hbit
  simpa using hbit

theorem noNewCond_of_zero (h : motConds m s = 0) (old : Nat) : NoNewCond m old s := noNewCond_of_mask (by rw [h, Nat.zero_and])

theorem motDeclare_none (m : Fin 4) (cur : Int) (s : State) : motDeclare m [] cur s = s := rfl

/-- Where no condition is new, the watch shows the conditions and declares nothing. -/
theorem motWatch_of_none {old : Nat} (h : NoNewCond m old s) (cur : Int) : motWatch m cur old s = s.put (F.MOTm_STAT_COND m) (motConds m s) := by
  have hnone : (List.range 7).filter (fun f => (motConds m s).testBit f && !old.testBit f) = [] := by
    rw [List.filter_eq_nil_iff]
    intro f hf
    rw [motConds_testBit (List.mem_range.mp hf)]
    cases hacts : motActs m f s
    · simp
    · cases hraw : motRaw m f s
      · simp
      · simp [h f (List.mem_range.mp hf) hacts hraw]
  unfold motWatch
  dsimp only
  rw [hnone, motDeclare_none]

theorem condPut_get {n : Nat} (hn : n < 128) (m : Fin 4) (s : State) : (s.put (F.MOTm_STAT_COND m) n).get (F.MOTm_STAT_COND m) = n :=
  State.get_put_of_lt (moCond_fits m) hn s

theorem motFree_stat : ∀ m : Fin 4, motFree m [Reg.MOTm_STAT m] = true := by decide

/-! ## Steps that leave a motor where it is -/

/-- A step of a motor's watch: of the registers MOTm_STAT alone changes, but neither its state nor THV; of the hidden state the stall timer. -/
structure MotStep (m : Fin 4) (s t : State) : Prop where
  keeps : Keeps [Reg.MOTm_STAT m] s t
  st : motSt m t = motSt m s
  thv : t.get (F.MOTm_STAT_THV m) = s.get (F.MOTm_STAT_THV m)
  log : t.log = s.log
  evm : t.evm = s.evm
  clk : t.clk = s.clk
  dom : t.dom = s.dom
  mot : ∃ v, t.mot[m] = { s.mot[m] with stallFrom := v }
  timers : ∀ e ∈ s.timers, e.2 ≠ .stall m → e ∈ t.timers

theorem MotStep.refl (m : Fin 4) (s : State) : MotStep m s s :=
  ⟨.refl _ s, rfl, rfl, rfl, rfl, rfl, rfl, ⟨s.mot[m].stallFrom, rfl⟩, fun _ he _ => he⟩

theorem MotStep.trans (h : MotStep m s t) (k : MotStep m t u) : MotStep m s u := by
  obtain ⟨v, hv⟩ := h.mot
  obtain ⟨w, hw⟩ := k.mot
  exact ⟨h.keeps.trans k.keeps, k.st.trans h.st, k.thv.trans h.thv, k.log.trans h.log, k.evm.trans h.evm, k.clk.trans h.clk, k.dom.trans h.dom,
    ⟨w, by rw [hw, hv]⟩, fun e he hne => k.timers e (h.timers e he hne) hne⟩

theorem MotStep.like (h : MotStep m s t) : MotLike m s t := by
  obtain ⟨v, hv⟩ := h.mot
  exact .of_keeps h.keeps (motFree_stat m) (motSwitches_congr h.st) (by rw [hv]) (by rw [hv]) h.clk

theorem motStep_cond (n : Nat) (m : Fin 4) (s : State) : MotStep m s (s.put (F.MOTm_STAT_COND m) n) :=
  ⟨(Keeps.refl _ s).put n (f := F.MOTm_STAT_COND m) (.head _), State.get_put_apart (moStat_apart m).left n s,
    State.get_put_apart (moStat_apart m).right.left n s, rfl, rfl, rfl, rfl, ⟨s.mot[m].stallFrom, rfl⟩, fun _ he _ => he⟩

theorem motStep_condBit (f : Nat) (m : Fin 4) (s : State) : MotStep m s (s.putBit (F.MOTm_STAT_COND m) f false) :=
  have hput := motStep_cond (s.get (F.MOTm_STAT_COND m) - (if (s.get (F.MOTm_STAT_COND m)).testBit f then 2 ^ f else 0)) m s
  have hregs := s.putBit_false_regs (F.MOTm_STAT_COND m) f
  have hget := fun g : Fld => State.get_of_regs hregs g
  ⟨hput.keeps.congr hregs rfl rfl, (hget _).trans hput.st, (hget _).trans hput.thv, rfl, rfl, rfl, rfl, ⟨s.mot[m].stallFrom, rfl⟩, fun _ he _ => he⟩

theorem motStep_stallFrom (v : Option Nat) (m : Fin 4) (s : State) : MotStep m s (motUpd m (fun x => { x with stallFrom := v }) s) :=
  ⟨(Keeps.refl _ s).motUpd m _, rfl, rfl, rfl, rfl, rfl, rfl, ⟨v, motUpd_same m _ s⟩, fun _ he _ => he⟩

theorem motStep_cancel (m : Fin 4) (s : State) : MotStep m s (s.cancel (.stall m)) :=
  ⟨(Keeps.refl _ s).cancel _, rfl, rfl, rfl, rfl, rfl, rfl, ⟨s.mot[m].stallFrom, rfl⟩, fun _ he hne => List.mem_filter.mpr ⟨he, by simpa using hne⟩⟩

theorem motStep_restart (n : Nat) (m : Fin 4) (s : State) : MotStep m s (s.restart n (.stall m)) :=
  ⟨(Keeps.refl _ s).restart _ _, rfl, rfl, rfl, rfl, rfl, rfl, ⟨s.mot[m].stallFrom, rfl⟩,
    fun _ he hne => List.mem_append_left _ (List.mem_filter.mpr ⟨he, by simpa using hne⟩)⟩

/-- The conditions shown are those present, so a later watch finds no new one. -/
theorem settled_of_shown (h : MotLike m s t) (hshown : t.get (F.MOTm_STAT_COND m) = motConds m s) : Settled m t := by
  intro f hf hacts hraw
  rw [h.acts] at hacts
  by_cases hkept : f = 1 ∨ f = 2 ∨ f = 3 ∨ f = 4
  · rw [h.raw f hkept] at hraw
    rw [hshown, motConds_testBit hf, hacts, hraw]
    rfl
  · rwa [motRaw_kept (by omega)] at hraw

/-- What a watch does that finds no new condition. -/
theorem motWatch_quiet {old : Nat} (h : NoNewCond m old s) (cur : Int) :
    MotStep m s (motWatch m cur old s) ∧ Settled m (motWatch m cur old s) ∧ (motWatch m cur old s).get (F.MOTm_STAT_COND m) = motConds m s := by
  rw [motWatch_of_none h]
  have hshown := condPut_get (motConds_lt m s) m s
  exact ⟨motStep_cond _ m s, settled_of_shown (motStep_cond _ m s).like hshown, hshown⟩

theorem noNewCond_motOld (h : Settled m s) : NoNewCond m (motOld m s) s :=
  h.mono fun f _ hf => by rw [motOld, Nat.testBit_or, hf, Bool.true_or]

theorem motCheck_quiet_of_settled (h : Settled m s) :
    MotStep m s (motCheck m s) ∧ Settled m (motCheck m s) ∧ (motCheck m s).get (F.MOTm_STAT_COND m) = motConds m s :=
  motWatch_quiet (noNewCond_motOld h) 0

/-- A kept condition that an event makes absent, beside conditions that are not new. -/
theorem noNewCond_putBit {f old : Nat} (hf : f = 0 ∨ f = 5 ∨ f = 6)
    (h : ∀ g < 7, g ≠ f → motActs m g s = true → motRaw m g s = true → old.testBit g = true) :
    NoNewCond m old (s.putBit (F.MOTm_STAT_COND m) f false) := by
  have hlike := (motStep_condBit f m s).like
  intro g hg hacts hraw
  rw [hlike.acts] at hacts
  by_cases hkept : g = 1 ∨ g = 2 ∨ g = 3 ∨ g = 4
  · rw [hlike.raw g hkept] at hraw
    exact h g hg (by omega) hacts hraw
  · have hg' : g = 0 ∨ g = 5 ∨ g = 6 := by omega
    rw [motRaw_kept hg'] at hraw
    have hne : g ≠ f := fun heq => by
      rw [heq, State.bit_putBit_false (moCond_fits m)] at hraw
      exact absurd hraw (by decide)
    rw [State.bit_putBit_ne (moCond_fits m) hne] at hraw
    exact h g hg hne hacts (by rwa [motRaw_kept hg'])

/-- An event that makes a condition absent declares nothing where no other is new. -/
theorem motSetCond_quiet {f : Nat} (hf : f = 0 ∨ f = 5 ∨ f = 6)
    (h : ∀ g < 7, g ≠ f → motActs m g s = true → motRaw m g s = true → (motOld m s).testBit g = true) (cur : Int) :
    MotStep m s (motSetCond m f false cur s) ∧ Settled m (motSetCond m f false cur s) ∧
      ∀ g, (g = 0 ∨ g = 5 ∨ g = 6) → g ≠ f → motActs m g s = true →
        (motSetCond m f false cur s).bit (F.MOTm_STAT_COND m) g = s.bit (F.MOTm_STAT_COND m) g := by
  obtain ⟨hstep, hsettled, hshown⟩ := motWatch_quiet (noNewCond_putBit hf h) cur
  have hbit := motStep_condBit f m s
  refine ⟨hbit.trans hstep, hsettled, fun g hg hne hacts => ?_⟩
  have hval : (motSetCond m f false cur s).get (F.MOTm_STAT_COND m) = motConds m (s.putBit (F.MOTm_STAT_COND m) f false) := hshown
  have hlt : g < 7 := by omega
  unfold State.bit
  rw [hval, motConds_testBit hlt, hbit.like.acts, hacts, Bool.true_and, motRaw_kept hg]
  exact State.bit_putBit_ne (moCond_fits m) hne s

/-- The same where every condition is shown. -/
theorem motSetCond_of_settled {f : Nat} (hf : f = 0 ∨ f = 5 ∨ f = 6) (h : Settled m s) (cur : Int) :
    MotStep m s (motSetCond m f false cur s) ∧ Settled m (motSetCond m f false cur s) ∧
      ∀ g, (g = 0 ∨ g = 5 ∨ g = 6) → g ≠ f → motActs m g s = true →
        (motSetCond m f false cur s).bit (F.MOTm_STAT_COND m) g = s.bit (F.MOTm_STAT_COND m) g :=
  motSetCond_quiet hf (fun g hg _ => noNewCond_motOld h g hg) cur

/-- The same conditions, shown as before. -/
theorem MotLike.noNewCond (h : MotLike m s t) {old : Nat} (hs : NoNewCond m old s)
    (hcond : t.get (F.MOTm_STAT_COND m) = s.get (F.MOTm_STAT_COND m)) : NoNewCond m old t := by
  intro f hf hacts hraw
  rw [h.acts] at hacts
  refine hs f hf hacts ?_
  by_cases hkept : f = 1 ∨ f = 2 ∨ f = 3 ∨ f = 4
  · rwa [h.raw f hkept] at hraw
  · rw [motRaw_kept (by omega)] at hraw ⊢
    unfold State.bit at *
    rwa [hcond] at hraw

theorem MotLike.settled (h : MotLike m s t) (hs : Settled m s) (hcond : t.get (F.MOTm_STAT_COND m) = s.get (F.MOTm_STAT_COND m)) : Settled m t := by
  unfold Settled
  rw [hcond]
  exact h.noNewCond hs hcond

/-- The stall timer follows its condition; where nothing is new, no fault is declared. -/
theorem stallWatch_quiet (h : Settled m s) : MotStep m s (stallWatch m s) ∧
    (motActs m 6 s = true → (stallWatch m s).bit (F.MOTm_STAT_COND m) 6 = s.bit (F.MOTm_STAT_COND m) 6) := by
  unfold stallWatch
  split
  next =>
    split
    next => exact ⟨(motStep_stallFrom _ m s).trans (motStep_restart _ m _), fun _ => rfl⟩
    next =>
      split
      next => exact ⟨.refl m s, fun _ => rfl⟩
      next => exact ⟨motStep_restart _ m s, fun _ => rfl⟩
  next =>
    have hstop := (motStep_stallFrom none m s).trans (motStep_cancel m _)
    have hset := motSetCond_of_settled (f := 5) (.inr (.inl rfl)) (hstop.like.settled h rfl) 0
    obtain ⟨hstep, -, hbits⟩ := hset
    exact ⟨hstop.trans hstep, fun hacts => hbits 6 (.inr (.inr rfl)) (by decide) (by rw [hstop.like.acts, hacts])⟩

/-! ## One new condition (R479) -/

/-- Where one condition is new, the watch shows the conditions and declares that one. -/
theorem motWatch_of_one {f old : Nat} (hf : f < 7) (hold : old.testBit f = false) (hacts : motActs m f s = true) (hraw : motRaw m f s = true)
    (hrest : ∀ g < 7, g ≠ f → motActs m g s = true → motRaw m g s = true → old.testBit g = true) (cur : Int) :
    motWatch m cur old s = motDeclare m [f] cur (s.put (F.MOTm_STAT_COND m) (motConds m s)) := by
  have hone : ∀ f : Fin 7, (List.range 7).filter (fun g => g == f.val) = [f.val] := by decide
  have hnew : (List.range 7).filter (fun g => (motConds m s).testBit g && !old.testBit g) = [f] := by
    rw [← hone ⟨f, hf⟩]
    refine List.filter_congr fun g hg => ?_
    have hg7 := List.mem_range.mp hg
    rw [motConds_testBit hg7]
    by_cases heq : g = f
    · simp [heq, hacts, hraw, hold]
    · have hne : (g == f) = false := beq_false_of_ne heq
      dsimp only
      rw [hne]
      cases hga : motActs m g s
      · rfl
      · cases hgr : motRaw m g s
        · rfl
        · rw [hrest g hg7 heq hga hgr]
          rfl
  unfold motWatch
  dsimp only
  rw [hnew]

/-- The record of one declared fault: its flag and its entry. -/
def faultNoted (m : Fin 4) (f : Nat) (cur : Int) (s : State) : State :=
  (s.setBit (F.MOTm_FLAG_DECL m) f).logReq 0x11 0x0001 ([b8 m, b8 f, b8 (motResp m f s)] ++ bytesOfNat 2 (ofSigned 16 (motValue m f cur s)))

theorem motDeclare_one (m : Fin 4) (f : Nat) (cur : Int) (s : State) : motDeclare m [f] cur s =
    if motResp m f s = 4 ∧ motSt m s ≠ moFAULT then
      (motCarrierOff m (motEnter m moFAULT ((faultNoted m f cur s).fire (137 + 2 * m.val)))).put (F.MOTm_STAT_COND m)
        (motConds m (motCarrierOff m (motEnter m moFAULT ((faultNoted m f cur s).fire (137 + 2 * m.val)))))
    else (faultNoted m f cur s).when (decide (1 ≤ motResp m f s)) fun t => t.fire (137 + 2 * m.val) := by
  have hany : ∀ p : Nat → Bool, [f].any p = p f := fun p => by simp
  by_cases h : motResp m f s = 4 ∧ motSt m s ≠ moFAULT
  · have hfires : decide (1 ≤ motResp m f s) = true := by rw [h.left]; rfl
    have hlatch : [f].any (fun g => motResp m g s == 4) = true := by rw [hany, h.left]; rfl
    unfold motDeclare
    dsimp only
    rw [if_pos h, if_pos ⟨hlatch, h.right⟩, hany, hfires]
    rfl
  · have hstay : ¬ ([f].any (fun g => motResp m g s == 4) = true ∧ motSt m s ≠ moFAULT) := fun hlatch => h ⟨by simpa using hlatch.left, hlatch.right⟩
    unfold motDeclare
    dsimp only
    rw [if_neg h, if_neg hstay, hany]
    rfl

end Sys2Proof.Machine
end

section
/-!
PROOFS. The motor period: pulses, the start of a period, and the sample request (R465 to R468, R472, R476, R477).
-/
namespace Sys2Proof.Machine

set_option Elab.async false

variable {s t u : State} {m : Fin 4} {l : List Nat}

/-! ## Pulses (R466, R467) -/

theorem State.get_inc_apart {f g : Fld} (h : fldApart f g = true) (k : Nat) (s : State) : (s.inc f k).get g = s.get g := by
  rw [State.get_of_regs (State.inc_regs_put s f k)]
  exact State.get_put_apart h _ s

theorem moCnt_apart : ∀ m : Fin 4, fldApart (F.MOTm_CNT_SUPP m) (F.MOTm_CNT_LATE m) = true ∧
    fldApart (F.MOTm_CNT_SHORT m) (F.MOTm_CNT_LATE m) = true := by decide

/-- The registers that set a motor's pulses are not its counts. -/
theorem moCnt_notSetting : ∀ m : Fin 4, Reg.MOTm_CTL m ∉ [Reg.MOTm_CNT m] ∧ Reg.MOTm_DT m ∉ [Reg.MOTm_CNT m] ∧
    Reg.MOTm_STAT m ∉ [Reg.MOTm_CNT m] := by decide

/-- What a phase makes of an on-time in a period: the pulse's length, the new carry, and what it counts. -/
def pulseParts (m : Fin 4) (per on : Nat) (p : MotPulse) (s : State) : Nat × Nat × Nat :=
  motPulse (s.get (F.MOTm_CTL_SPM m)) (motDt m s) (motMin m s) (motTonMax m per s) on p.carry

/-- The pulse that a phase begins with an on-time. -/
def pulseOf (m : Fin 4) (per on : Nat) (p : MotPulse) (s : State) : MotPulse :=
  let r := pulseParts m per on p s
  if r.1 = 0 then { start := 0, stop := 0, carry := r.2.1, on := on }
  else { start := per / 2 - r.1 / 2, stop := per / 2 - r.1 / 2 + r.1, carry := r.2.1, on := on }

theorem motPhase_eq (m : Fin 4) (x : Fin 3) (per on : Nat) (s : State) : motPhase m x per on s =
    (let s1 := motUpd m (fun y => { y with phase := updAt y.phase x fun _ => pulseOf m per on s.mot[m].phase[x] s }) s
    let r := pulseParts m per on s.mot[m].phase[x] s
    if r.2.2 = 1 then s1.inc (F.MOTm_CNT_SUPP m) else if r.2.2 = 2 then s1.inc (F.MOTm_CNT_SHORT m) else s1) := rfl

theorem pulseOf_on (m : Fin 4) (per on : Nat) (p : MotPulse) (s : State) : (pulseOf m per on p s).on = on := by
  unfold pulseOf
  dsimp only
  split <;> rfl

theorem pulseOf_length (m : Fin 4) (per on : Nat) (p : MotPulse) (s : State) :
    (pulseOf m per on p s).stop - (pulseOf m per on p s).start = (pulseParts m per on p s).1 := by
  unfold pulseOf
  dsimp only
  split
  next h => exact h.symm
  next => exact Nat.add_sub_cancel_left _ _

theorem pulseOf_carry (m : Fin 4) (per on : Nat) (p : MotPulse) (s : State) : (pulseOf m per on p s).carry = (pulseParts m per on p s).2.1 := by
  unfold pulseOf
  dsimp only
  split <;> rfl

/-- A pulse stands in the middle of its period. -/
theorem pulseOf_start {per on : Nat} {p : MotPulse} (h : (pulseOf m per on p s).start ≠ (pulseOf m per on p s).stop) :
    (pulseOf m per on p s).start = per / 2 - ((pulseOf m per on p s).stop - (pulseOf m per on p s).start) / 2 := by
  rw [pulseOf_length]
  unfold pulseOf at h ⊢
  dsimp only at h ⊢
  split
  next hzero =>
    rw [if_pos hzero] at h
    exact absurd rfl h
  next => rfl

/-- Steps that change the pulses of a motor and its counts but LATE. -/
structure Pulsed (l : List Nat) (m : Fin 4) (s t : State) : Prop where
  keeps : Keeps l s t
  late : t.get (F.MOTm_CNT_LATE m) = s.get (F.MOTm_CNT_LATE m)
  log : t.log = s.log
  evm : t.evm = s.evm
  clk : t.clk = s.clk
  dom : t.dom = s.dom
  timers : t.timers = s.timers
  mot : ∃ ph, t.mot[m] = { s.mot[m] with phase := ph }

theorem Pulsed.trans (h : Pulsed l m s t) (k : Pulsed l m t u) : Pulsed l m s u := by
  obtain ⟨p, hp⟩ := h.mot
  obtain ⟨q, hq⟩ := k.mot
  exact ⟨h.keeps.trans k.keeps, k.late.trans h.late, k.log.trans h.log, k.evm.trans h.evm, k.clk.trans h.clk, k.dom.trans h.dom,
    k.timers.trans h.timers, ⟨q, by rw [hq, hp]⟩⟩

theorem pulsed_phase (l : List Nat) (m : Fin 4) (f : Motor → Vector MotPulse 3) (s : State) :
    Pulsed l m s (motUpd m (fun y => { y with phase := f y }) s) :=
  ⟨(Keeps.refl l s).motUpd m _, rfl, rfl, rfl, rfl, rfl, rfl, ⟨_, motUpd_same m _ s⟩⟩

theorem pulsed_inc {f : Fld} (haddr : f.addr = Reg.MOTm_CNT m) (hlate : fldApart f (F.MOTm_CNT_LATE m) = true) (s : State) :
    Pulsed [Reg.MOTm_CNT m] m s (s.inc f) :=
  ⟨(Keeps.refl _ s).inc 1 (by rw [haddr]; exact .head _), State.get_inc_apart hlate 1 s, rfl, rfl, rfl, rfl, rfl, ⟨s.mot[m].phase, rfl⟩⟩

theorem motPhase_pulsed (m : Fin 4) (x : Fin 3) (per on : Nat) (s : State) : Pulsed [Reg.MOTm_CNT m] m s (motPhase m x per on s) := by
  have hphase := pulsed_phase [Reg.MOTm_CNT m] m (fun y => updAt y.phase x fun _ => pulseOf m per on s.mot[m].phase[x] s) s
  rw [motPhase_eq]
  dsimp only
  split
  next => exact hphase.trans (pulsed_inc rfl (moCnt_apart m).left _)
  next =>
    split
    next => exact hphase.trans (pulsed_inc rfl (moCnt_apart m).right _)
    next => exact hphase

theorem motPhase_phase (m : Fin 4) (x : Fin 3) (per on : Nat) (s : State) :
    (motPhase m x per on s).mot[m].phase = updAt s.mot[m].phase x fun _ => pulseOf m per on s.mot[m].phase[x] s := by
  have hupd : (motUpd m (fun y => { y with phase := updAt y.phase x fun _ => pulseOf m per on s.mot[m].phase[x] s }) s).mot[m].phase =
      updAt s.mot[m].phase x fun _ => pulseOf m per on s.mot[m].phase[x] s := by rw [motUpd_same]
  rw [motPhase_eq]
  dsimp only
  split
  next => exact hupd
  next =>
    split
    next => exact hupd
    next => exact hupd

/-- An on-time of zero counts nothing. -/
theorem motPhase_pulsed_of_zero (l : List Nat) (m : Fin 4) (x : Fin 3) (per : Nat) (s : State) : Pulsed l m s (motPhase m x per 0 s) := by
  have hcount : (pulseParts m per 0 s.mot[m].phase[x] s).2.2 = 0 := rfl
  rw [motPhase_eq]
  dsimp only
  rw [hcount]
  exact pulsed_phase l m _ s

theorem pulseParts_congr (h : Keeps [Reg.MOTm_CNT m] s t) (per on : Nat) (p : MotPulse) : pulseParts m per on p t = pulseParts m per on p s := by
  obtain ⟨hctl, hdt, -⟩ := moCnt_notSetting m
  have hspm : t.get (F.MOTm_CTL_SPM m) = s.get (F.MOTm_CTL_SPM m) := h.get hctl
  have hd : t.get (F.MOTm_DT_DT m) = s.get (F.MOTm_DT_DT m) := h.get hdt
  have hmin : t.get (F.MOTm_DT_MINPULSE m) = s.get (F.MOTm_DT_MINPULSE m) := h.get hdt
  have hdly : t.get (F.MOTm_DT_SDLY m) = s.get (F.MOTm_DT_SDLY m) := h.get hdt
  unfold pulseParts motTonMax motMin motDt
  rw [hspm, hd, hmin, hdly]

theorem pulseOf_congr (h : Keeps [Reg.MOTm_CNT m] s t) (per on : Nat) (p : MotPulse) : pulseOf m per on p t = pulseOf m per on p s := by
  unfold pulseOf
  rw [pulseParts_congr h]

/-- The three phases begin their pulses. -/
def motPulses (m : Fin 4) (per : Nat) (on : Nat × Nat × Nat) (s : State) : State :=
  motPhase m 2 per on.2.2 (motPhase m 1 per on.2.1 (motPhase m 0 per on.1 s))

/-- The on-time of a phase among three. -/
def onOf (on : Nat × Nat × Nat) (x : Fin 3) : Nat := ![on.1, on.2.1, on.2.2] x

theorem motPulses_pulsed (m : Fin 4) (per : Nat) (on : Nat × Nat × Nat) (s : State) : Pulsed [Reg.MOTm_CNT m] m s (motPulses m per on s) :=
  ((motPhase_pulsed m 0 per on.1 s).trans (motPhase_pulsed m 1 per on.2.1 _)).trans (motPhase_pulsed m 2 per on.2.2 _)

theorem motPulses_pulsed_of_zero (l : List Nat) (m : Fin 4) (per : Nat) (s : State) : Pulsed l m s (motPulses m per (0, 0, 0) s) :=
  ((motPhase_pulsed_of_zero l m 0 per s).trans (motPhase_pulsed_of_zero l m 1 per _)).trans (motPhase_pulsed_of_zero l m 2 per _)

theorem motPulses_phase (m : Fin 4) (per : Nat) (on : Nat × Nat × Nat) (x : Fin 3) (s : State) :
    (motPulses m per on s).mot[m].phase[x] = pulseOf m per (onOf on x) s.mot[m].phase[x] s := by
  have hk0 := (motPhase_pulsed m 0 per on.1 s).keeps
  have hk1 := hk0.trans (motPhase_pulsed m 1 per on.2.1 _).keeps
  unfold motPulses
  rw [motPhase_phase, updAt_get]
  match x with
  | 0 => rw [if_neg (by decide), motPhase_phase, updAt_get, if_neg (by decide), motPhase_phase, updAt_get, if_pos rfl]; rfl
  | 1 =>
    rw [if_neg (by decide), motPhase_phase, updAt_get, if_pos rfl, pulseOf_congr hk0, motPhase_phase, updAt_get, if_neg (by decide)]
    rfl
  | 2 =>
    rw [if_pos rfl, pulseOf_congr hk1, motPhase_phase, updAt_get, if_neg (by decide), motPhase_phase, updAt_get, if_neg (by decide)]
    rfl

/-! ## The start of a period (R465, R472) -/

/-- The carrier's event and the period in force. -/
def periodOpen (m : Fin 4) (s : State) : State :=
  motUpd m (fun x => { x with per := motPer m s, perAt := s.clk.ns })
    ((s.fire (136 + 2 * m.val)).restart (motPer m s * 4) (.pwmPeriodStart m))

/-- The on-times in force in the new period. -/
def periodOns (m : Fin 4) (s : State) : Nat × Nat × Nat :=
  if s.mot[m].first && s.mot[m].next.isNone then (0, 0, 0)
  else s.mot[m].next.getD (s.mot[m].phase[(0 : Fin 3)].on, s.mot[m].phase[(1 : Fin 3)].on, s.mot[m].phase[(2 : Fin 3)].on)

/-- The pulses of the period that begins in `s`, of which `u` has turned to its state. -/
def periodPulses (m : Fin 4) (s u : State) : State :=
  (motPulses m (motPer m s) (periodOns m s) (motUpd m (fun x => { x with next := none, asked := false, first := false }) u)).restart
    (s.get (F.MOTm_DT_SDLY m) * 100) (.currentSampleRequest m)

theorem periodStart_eq (hen : motorEn m s = true) (hfault : motSt m s ≠ moFAULT) (hoff : motSt m s ≠ moOFF) (hu : motTurn m (periodOpen m s) = u)
    (hsw : motSwitches m u = true) : periodStart m s = stallWatch m (if s.mot[m].next.isNone && !s.mot[m].first then
      motSetCond m 6 true 0 ((periodPulses m s u).inc (F.MOTm_CNT_LATE m)) else motSetCond m 6 false 0 (periodPulses m s u)) := by
  have heq : periodStart m s = if !(motorEn m s) || motSt m s == moFAULT || motSt m s == moOFF then s
      else if !motSwitches m (motTurn m (periodOpen m s)) then motTurn m (periodOpen m s)
      else stallWatch m (if s.mot[m].next.isNone && !s.mot[m].first then
        motSetCond m 6 true 0 ((periodPulses m s (motTurn m (periodOpen m s))).inc (F.MOTm_CNT_LATE m))
        else motSetCond m 6 false 0 (periodPulses m s (motTurn m (periodOpen m s)))) := by
    unfold periodStart periodPulses periodOns
    cases s.mot[m].next <;> rfl
  rw [heq, if_neg (by simp [hen, hfault, hoff]), hu, if_neg (by rw [hsw]; decide)]

/-- A period has begun: its event has fired and the carrier runs. -/
structure PeriodBegun (l : List Nat) (m : Fin 4) (s t : State) : Prop where
  keeps : Keeps l s t
  fires : Fires (136 + 2 * m.val) s t
  clk : t.clk = s.clk
  dom : t.dom = s.dom
  timer : (s.clk.ns + 4 * motPer m s, .pwmPeriodStart m) ∈ t.timers

theorem periodOpen_fires (hnot : NotFired (136 + 2 * m.val) s) : Fires (136 + 2 * m.val) s (periodOpen m s) :=
  fires_of_outside (l := []) (.refl _ s) (by simp) (by omega) rfl rfl hnot rfl

theorem periodOpen_begun (l : List Nat) (hnot : NotFired (136 + 2 * m.val) s) : PeriodBegun l m s (periodOpen m s) := by
  have hclk : (s.fire (136 + 2 * m.val)).clk = s.clk := by rw [fire_of_notFired hnot]
  have hdom : (s.fire (136 + 2 * m.val)).dom = s.dom := by rw [fire_of_notFired hnot]
  have htimer := State.mem_timers_restart (s.fire (136 + 2 * m.val)) (motPer m s * 4) (.pwmPeriodStart m)
  rw [hclk] at htimer
  exact ⟨(((Keeps.refl l s).fired hnot).restart _ _).motUpd m _, periodOpen_fires hnot, hclk, hdom, Nat.mul_comm 4 _ ▸ htimer⟩

theorem periodOpen_mot (hnot : NotFired (136 + 2 * m.val) s) :
    (periodOpen m s).mot[m] = { s.mot[m] with per := motPer m s, perAt := s.clk.ns } := by
  have hmot : (s.fire (136 + 2 * m.val)).mot = s.mot := by rw [fire_of_notFired hnot]
  have hsame : ((s.fire (136 + 2 * m.val)).restart (motPer m s * 4) (.pwmPeriodStart m)).mot = s.mot := hmot
  unfold periodOpen
  rw [motUpd_same, hsame]

theorem periodOpen_log (m : Fin 4) (s : State) : (periodOpen m s).log = s.log := by
  have hlog := fire_log (s := s) (136 + 2 * m.val)
  exact hlog

theorem periodOpen_get (hnot : NotFired (136 + 2 * m.val) s) (f : Fld) : (periodOpen m s).get f = s.get f := fire_get hnot f

/-- What the pulses change in a period that has begun. -/
theorem periodPulses_begun (hu : PeriodBegun l m s u) (hp : Pulsed l m (motUpd m (fun x => { x with next := none, asked := false, first := false }) u)
    (motPulses m (motPer m s) (periodOns m s) (motUpd m (fun x => { x with next := none, asked := false, first := false }) u))) :
    PeriodBegun l m s (periodPulses m s u) := by
  obtain ⟨hkeeps, hfires, hclk, hdom, htimer⟩ := hu
  refine ⟨((hkeeps.motUpd m _).trans hp.keeps).restart _ _, hfires.congr hp.evm, hp.clk.trans hclk, hp.dom.trans hdom, ?_⟩
  refine List.mem_append_left _ (List.mem_filter.mpr ⟨?_, ?_⟩)
  · rw [hp.timers]
    exact htimer
  · simp

theorem MotStep.begun (h : MotStep m t u) (hb : PeriodBegun l m s t) (hl : Reg.MOTm_STAT m ∈ l) : PeriodBegun l m s u :=
  ⟨hb.keeps.trans (h.keeps.mono (by simpa using hl)), hb.fires.congr h.evm, h.clk.trans hb.clk, h.dom.trans hb.dom, h.timers _ hb.timer (by simp)⟩

end Sys2Proof.Machine
end

section
/-!
PROOFS. The start of a period in each state of a motor, and the sample request (R465 to R468, R472, R476, R477).
-/
namespace Sys2Proof.Machine

set_option Elab.async false

variable {s t u v : State} {m : Fin 4} {l : List Nat}

theorem Pulsed.mono {k : List Nat} (h : Pulsed l m s t) (hlk : l ⊆ k) : Pulsed k m s t :=
  ⟨h.keeps.mono hlk, h.late, h.log, h.evm, h.clk, h.dom, h.timers, h.mot⟩

/-! ## What the pulses leave (R467, R472) -/

theorem periodPulses_mot (m : Fin 4) (s u : State) : (periodPulses m s u).mot[m] =
    { u.mot[m] with next := none, asked := false, first := false, phase := (periodPulses m s u).mot[m].phase } := by
  obtain ⟨ph, hph⟩ := (motPulses_pulsed m (motPer m s) (periodOns m s) (motUpd m (fun x => { x with next := none, asked := false, first := false }) u)).mot
  have hmot : (periodPulses m s u).mot[m] = { u.mot[m] with next := none, asked := false, first := false, phase := ph } :=
    hph.trans (by rw [motUpd_same])
  rw [hmot]

theorem periodPulses_phase (hset : Keeps [Reg.MOTm_CNT m] s u) (x : Fin 3) :
    (periodPulses m s u).mot[m].phase[x] = pulseOf m (motPer m s) (onOf (periodOns m s) x) u.mot[m].phase[x] s := by
  have hphase := motPulses_phase m (motPer m s) (periodOns m s) x (motUpd m (fun x => { x with next := none, asked := false, first := false }) u)
  rw [motUpd_same, pulseOf_congr (hset.motUpd m _)] at hphase
  exact hphase

theorem periodPulses_keeps (m : Fin 4) (s u : State) : Keeps [Reg.MOTm_CNT m] u (periodPulses m s u) :=
  (((Keeps.refl _ u).motUpd m _).trans (motPulses_pulsed m (motPer m s) (periodOns m s) _).keeps).restart _ _

theorem motFree_cnt : ∀ m : Fin 4, motFree m [Reg.MOTm_CNT m] = true := by decide

theorem periodPulses_clk (m : Fin 4) (s u : State) : (periodPulses m s u).clk = u.clk :=
  (motPulses_pulsed m (motPer m s) (periodOns m s) (motUpd m (fun x => { x with next := none, asked := false, first := false }) u)).clk

theorem periodPulses_log (m : Fin 4) (s u : State) : (periodPulses m s u).log = u.log :=
  (motPulses_pulsed m (motPer m s) (periodOns m s) (motUpd m (fun x => { x with next := none, asked := false, first := false }) u)).log

theorem periodPulses_late (m : Fin 4) (s u : State) : (periodPulses m s u).get (F.MOTm_CNT_LATE m) = u.get (F.MOTm_CNT_LATE m) :=
  (motPulses_pulsed m (motPer m s) (periodOns m s) (motUpd m (fun x => { x with next := none, asked := false, first := false }) u)).late

theorem periodPulses_stat (m : Fin 4) (s u : State) {f : Fld} (hf : f.addr = Reg.MOTm_STAT m) : (periodPulses m s u).get f = u.get f :=
  (periodPulses_keeps m s u).get (hf ▸ (moCnt_notSetting m).right.right)

theorem periodPulses_like (m : Fin 4) (s u : State) : MotLike m u (periodPulses m s u) := by
  have hmot := periodPulses_mot m s u
  exact .of_keeps (periodPulses_keeps m s u) (motFree_cnt m) (motSwitches_congr (periodPulses_stat m s u rfl)) (by rw [hmot]) (by rw [hmot])
    (periodPulses_clk m s u)

theorem periodPulses_settled (h : Settled m u) (s : State) : Settled m (periodPulses m s u) :=
  (periodPulses_like m s u).settled h (periodPulses_stat m s u rfl)

/-- The sample request of the period is due SDLY after its start. -/
theorem periodPulses_sample (hclk : u.clk = s.clk) :
    (s.clk.ns + 100 * s.get (F.MOTm_DT_SDLY m), .currentSampleRequest m) ∈ (periodPulses m s u).timers := by
  have hpulsed := (motPulses_pulsed m (motPer m s) (periodOns m s) (motUpd m (fun x => { x with next := none, asked := false, first := false }) u)).clk
  have hsame : (motPulses m (motPer m s) (periodOns m s) (motUpd m (fun x => { x with next := none, asked := false, first := false }) u)).clk = s.clk :=
    hpulsed.trans hclk
  have htimer := State.mem_timers_restart (motPulses m (motPer m s) (periodOns m s)
    (motUpd m (fun x => { x with next := none, asked := false, first := false }) u)) (s.get (F.MOTm_DT_SDLY m) * 100) (.currentSampleRequest m)
  rw [hsame] at htimer
  exact Nat.mul_comm 100 _ ▸ htimer

/-- Where the on-times have come in time and no condition is new, the rest of the start is the watch. -/
theorem periodStart_of_settled (hen : motorEn m s = true) (hfault : motSt m s ≠ moFAULT) (hoff : motSt m s ≠ moOFF) (hu : motTurn m (periodOpen m s) = u)
    (hsw : motSwitches m u = true) (hset : Settled m u) (hlate : (s.mot[m].next.isNone && !s.mot[m].first) = false) :
    MotStep m (periodPulses m s u) (periodStart m s) := by
  rw [periodStart_eq hen hfault hoff hu hsw, if_neg (by rw [hlate]; decide)]
  obtain ⟨hstep, hshown, -⟩ := motSetCond_of_settled (f := 6) (.inr (.inr rfl)) (periodPulses_settled hset s) 0
  exact hstep.trans (stallWatch_quiet hshown).left

/-! ## RUN (R467) -/

theorem motTurn_of_run (h : motSt m s = moRUN) : motTurn m s = s := by
  have hinert : ¬ (motSt m s = moINERT ∧ s.mot[m].release = true) := fun hin => absurd (h.symm.trans hin.left) (by decide)
  have hdue : motAlignDue m s = false := by rw [motAlignDue, h]; rfl
  rw [motTurn, if_neg hinert, hdue]
  rfl

theorem motSwitches_of_run (h : motSt m s = moRUN) : motSwitches m s = true := by rw [motSwitches, h]; rfl

theorem periodOpen_like (hnot : NotFired (136 + 2 * m.val) s) : MotLike m s (periodOpen m s) := by
  have hmot := periodOpen_mot hnot
  have hbegun := periodOpen_begun [Reg.MOTm_CNT m] hnot
  exact .of_keeps hbegun.keeps (motFree_cnt m) (motSwitches_congr (periodOpen_get hnot _)) (by rw [hmot]) (by rw [hmot]) hbegun.clk

theorem periodOpen_settled (hnot : NotFired (136 + 2 * m.val) s) (h : Settled m s) : Settled m (periodOpen m s) :=
  (periodOpen_like hnot).settled h (periodOpen_get hnot _)

/-- The table of R467: length and new carry. -/
theorem motPulse_table {spm : Nat} (hspm : spm = 0 ∨ spm = 1 ∨ spm = 2) (dt minP tonMax on carry : Nat) :
    ((motPulse spm dt minP tonMax on carry).1, (motPulse spm dt minP tonMax on carry).2.1) =
      if on = 0 then (0, carry) else if on + carry ≤ dt then (0, if spm = 0 then on + carry else 0)
      else if on + carry < minP then (if spm = 2 then minP else 0, if spm = 0 then on + carry else 0) else (min (on + carry) tonMax, 0) := by
  unfold motPulse
  dsimp only
  split
  next => rfl
  next =>
    split
    next => obtain rfl | rfl | rfl := hspm <;> rfl
    next =>
      split
      next => obtain rfl | rfl | rfl := hspm <;> rfl
      next => rfl

theorem motDt_eq (m : Fin 4) (s : State) : motDt m s = min 500 (max 5 (s.get (F.MOTm_DT_DT m))) := by
  unfold motDt clampNat
  omega

theorem PeriodBegun.next (h : PeriodBegun l m s t) (hkeeps : Keeps l t u) (hevm : u.evm = t.evm) (hclk : u.clk = t.clk) (hdom : u.dom = t.dom)
    (htimers : u.timers = t.timers) : PeriodBegun l m s u :=
  ⟨h.keeps.trans hkeeps, h.fires.congr hevm, hclk.trans h.clk, hdom.trans h.dom, by rw [htimers]; exact h.timer⟩

theorem moLate_fits : ∀ m : Fin 4, fldFits (F.MOTm_CNT_LATE m) = true := by decide

theorem begun_of_pulses (hu : PeriodBegun l m s u) (hcnt : Reg.MOTm_CNT m ∈ l) : PeriodBegun l m s (periodPulses m s u) :=
  periodPulses_begun hu ((motPulses_pulsed m _ _ _).mono (by simpa using hcnt))

/-- New on-times make the pulses of the period (R465, R467). -/
theorem does_pulses {ons : Vector Nat 3} (x : Fin 3) (hen : motorEn m s = true) (hrun : motSt m s = moRUN) (hset : Settled m s)
    (hspm : s.get (F.MOTm_CTL_SPM m) = 0 ∨ s.get (F.MOTm_CTL_SPM m) = 1 ∨ s.get (F.MOTm_CTL_SPM m) = 2)
    (hnext : s.mot[m].next = some (ons[(0 : Fin 3)], ons[(1 : Fin 3)], ons[(2 : Fin 3)])) (hnot : NotFired (136 + 2 * m.val) s)
    (ht : t = periodStart m s) :
    t.mot[m].per = motPer m s ∧ t.mot[m].perAt = s.clk.ns ∧ t.mot[m].next = none ∧ t.mot[m].phase[x].on = ons[x] ∧
    (t.mot[m].phase[x].stop - t.mot[m].phase[x].start, t.mot[m].phase[x].carry) =
      (if ons[x] = 0 then (0, s.mot[m].phase[x].carry)
      else if ons[x] + s.mot[m].phase[x].carry ≤ min 500 (max 5 (s.get (F.MOTm_DT_DT m))) then
        (0, if s.get (F.MOTm_CTL_SPM m) = 0 then ons[x] + s.mot[m].phase[x].carry else 0)
      else if ons[x] + s.mot[m].phase[x].carry < motMin m s then
        (if s.get (F.MOTm_CTL_SPM m) = 2 then motMin m s else 0, if s.get (F.MOTm_CTL_SPM m) = 0 then ons[x] + s.mot[m].phase[x].carry else 0)
      else (min (ons[x] + s.mot[m].phase[x].carry) (motTonMax m (motPer m s) s), 0)) ∧
    (t.mot[m].phase[x].start ≠ t.mot[m].phase[x].stop →
      t.mot[m].phase[x].start = motPer m s / 2 - (t.mot[m].phase[x].stop - t.mot[m].phase[x].start) / 2) ∧
    Fires (136 + 2 * m.val) s t ∧ (s.clk.ns + 4 * motPer m s, .pwmPeriodStart m) ∈ t.timers ∧
      (s.clk.ns + 100 * s.get (F.MOTm_DT_SDLY m), .currentSampleRequest m) ∈ t.timers ∧ NoLog s t ∧ Keeps [Reg.MOTm_CNT m, Reg.MOTm_STAT m] s t := by
  have hopenRun : motSt m (periodOpen m s) = moRUN := (periodOpen_get hnot _).trans hrun
  have hstep := periodStart_of_settled hen (by rw [hrun]; decide) (by rw [hrun]; decide) (motTurn_of_run hopenRun) (motSwitches_of_run hopenRun)
    (periodOpen_settled hnot hset) (by rw [hnext]; rfl)
  have hopen := periodOpen_begun [Reg.MOTm_CNT m, Reg.MOTm_STAT m] hnot
  have hbegun := hstep.begun (begun_of_pulses hopen (.head _)) (.tail _ (.head _))
  have hons : onOf (periodOns m s) x = ons[x] := by
    unfold periodOns
    rw [hnext, if_neg (by simp)]
    match x with
    | 0 | 1 | 2 => rfl
  have hphase : (periodPulses m s (periodOpen m s)).mot[m].phase[x] = pulseOf m (motPer m s) ons[x] s.mot[m].phase[x] s := by
    rw [periodPulses_phase (periodOpen_begun _ hnot).keeps, hons, periodOpen_mot hnot]
  obtain ⟨w, hw⟩ := hstep.mot
  have hmot := (periodPulses_mot m s (periodOpen m s))
  rw [periodOpen_mot hnot] at hmot
  have hfinal : (periodStart m s).mot[m].phase[x] = pulseOf m (motPer m s) ons[x] s.mot[m].phase[x] s := by rw [hw]; exact hphase
  have hlog : (periodStart m s).log = s.log := (hstep.log.trans (periodPulses_log m s _)).trans (periodOpen_log m s)
  subst ht
  refine ⟨by rw [hw, hmot], by rw [hw, hmot], by rw [hw, hmot], ?_, ?_, ?_, hbegun.fires, hbegun.timer,
    hstep.timers _ (periodPulses_sample hopen.clk) (by simp), congrArg LogSt.reqs hlog, hbegun.keeps⟩
  · rw [hfinal, pulseOf_on]
  · rw [hfinal, pulseOf_length, pulseOf_carry, ← motDt_eq]
    exact motPulse_table hspm _ _ _ _ _
  · rw [hfinal]
    exact pulseOf_start

/-! ## No on-times in time: LATE (R472, R478) -/

/-- A fault's entry after steps that leave the clocks, the log and the domains. -/
theorem faultNoted_logged {f : Nat} {cur x : Int} {r : Nat} (hlog : u.log = s.log) (hclk : u.clk = s.clk) (hdom : u.dom = s.dom)
    (hresp : motResp m f u = r) (hval : motValue m f cur u = x) :
    (faultNoted m f cur u).log.reqs = s.log.reqs ++ [⟨s.clk.time, s.logAngle, 0x11, 1, [b8 m, b8 f, b8 r] ++ bytesOfNat 2 (ofSigned 16 x)⟩] := by
  unfold faultNoted
  rw [State.logReq_log, hresp, hval]
  show u.log.reqs ++ [⟨u.clk.time, u.logAngle, _, _, _⟩] = _
  unfold State.logAngle
  rw [hlog, hclk, hdom]

theorem faultNoted_flag (m : Fin 4) {f : Nat} (hf : f < 7) (cur : Int) (s : State) : (faultNoted m f cur s).bit (F.MOTm_FLAG_DECL m) f = true :=
  State.bit_setBit_same (moDecl_fits m) hf s

theorem faultNoted_keeps (m : Fin 4) (f : Nat) (cur : Int) (s : State) : Keeps [Reg.MOTm_FLAG m] s (faultNoted m f cur s) :=
  ((Keeps.refl _ s).hw _ (.head _)).logReq _ _ _

/-- The state in which the watch shows a condition that an event has just made present. -/
def condShown (m : Fin 4) (f : Nat) (s : State) : State :=
  (s.setBit (F.MOTm_STAT_COND m) f).put (F.MOTm_STAT_COND m) (motConds m (s.setBit (F.MOTm_STAT_COND m) f))

theorem motStep_setBit (m : Fin 4) (f : Nat) (s : State) : MotStep m s (s.setBit (F.MOTm_STAT_COND m) f) :=
  have hget := State.get_of_regs (s.setBit_regs_put (F.MOTm_STAT_COND m) f)
  ⟨(Keeps.refl _ s).hw _ (.head _), (hget _).trans (State.get_put_apart (moStat_apart m).left _ s),
    (hget _).trans (State.get_put_apart (moStat_apart m).right.left _ s), rfl, rfl, rfl, rfl, ⟨s.mot[m].stallFrom, rfl⟩, fun _ he _ => he⟩

theorem condShown_step (m : Fin 4) (f : Nat) (s : State) : MotStep m s (condShown m f s) := (motStep_setBit m f s).trans (motStep_cond _ m _)

/-- A condition that an event makes present is the one new condition where every other is shown. -/
theorem motSetCond_new {f : Nat} (hkept : f = 0 ∨ f = 5 ∨ f = 6) (hold : (motOld m s).testBit f = false) (hacts : motActs m f s = true)
    (hrest : ∀ g < 7, g ≠ f → motActs m g s = true → motRaw m g s = true → (motOld m s).testBit g = true) (cur : Int) :
    motSetCond m f true cur s = motDeclare m [f] cur (condShown m f s) := by
  have hlike := (motStep_setBit m f s).like
  have hwidth : f < (F.MOTm_STAT_COND m).width := by show f < 7; omega
  have hraw : motRaw m f (s.setBit (F.MOTm_STAT_COND m) f) = true := by
    rw [motRaw_kept hkept]
    exact State.bit_setBit_same (moCond_fits m) hwidth s
  refine motWatch_of_one hwidth hold (by rw [hlike.acts]; exact hacts) hraw (fun g hg hne hga hgr => ?_) cur
  rw [hlike.acts] at hga
  refine hrest g hg hne hga ?_
  by_cases hfree : g = 1 ∨ g = 2 ∨ g = 3 ∨ g = 4
  · rwa [hlike.raw g hfree] at hgr
  · rw [motRaw_kept (by omega)] at hgr ⊢
    rwa [State.bit_setBit_ne (moCond_fits m) hne] at hgr

/-- The condition is shown, and so is every other that is present. -/
theorem condShown_get (m : Fin 4) (f : Nat) (s : State) :
    (condShown m f s).get (F.MOTm_STAT_COND m) = motConds m (s.setBit (F.MOTm_STAT_COND m) f) := condPut_get (motConds_lt m _) m _

theorem condShown_bit {f : Nat} (hkept : f = 0 ∨ f = 5 ∨ f = 6) (hacts : motActs m f s = true) :
    (condShown m f s).bit (F.MOTm_STAT_COND m) f = true := by
  have hlt : f < 7 := by omega
  unfold State.bit
  rw [condShown_get, motConds_testBit hlt, (motStep_setBit m f s).like.acts, hacts, motRaw_kept hkept]
  exact State.bit_setBit_same (moCond_fits m) hlt s

theorem motFree_flag : ∀ m : Fin 4, motFree m [Reg.MOTm_FLAG m] = true := by decide

theorem faultNoted_like (m : Fin 4) (f : Nat) (cur : Int) (s : State) : MotLike m s (faultNoted m f cur s) := by
  have hstat : Reg.MOTm_STAT m ∉ [Reg.MOTm_FLAG m] := by revert m; decide
  exact .of_keeps (faultNoted_keeps m f cur s) (motFree_flag m) (motSwitches_congr ((faultNoted_keeps m f cur s).get hstat)) rfl rfl rfl

theorem motOld_of_not_cleared (h : motCleared m s = none) : motOld m s = s.get (F.MOTm_STAT_COND m) := by
  rw [motOld, h]
  exact Nat.or_zero _

/-- The registers of a motor's counts, states, flags and responses are apart. -/
theorem moFlag_apart : ∀ m : Fin 4, Reg.MOTm_RESP m ∉ [Reg.MOTm_CNT m, Reg.MOTm_STAT m, Reg.MOTm_FLAG m] ∧
    Reg.MOTm_STAT m ∉ [Reg.MOTm_FLAG m] ∧ Reg.MOTm_CNT m ∉ [Reg.MOTm_STAT m] ∧ Reg.MOTm_CNT m ∉ [Reg.MOTm_FLAG m] ∧
    Reg.MOTm_FLAG m ∉ [Reg.MOTm_STAT m] := by decide

/-- A fault that is noted and does nothing else leaves every condition shown. -/
theorem settled_of_noted (m : Fin 4) (f : Nat) (cur : Int) (s : State) : Settled m (faultNoted m f cur (condShown m f s)) := by
  have hlike := (motStep_cond (motConds m (s.setBit (F.MOTm_STAT_COND m) f)) m (s.setBit (F.MOTm_STAT_COND m) f)).like
  exact settled_of_shown (hlike.trans (faultNoted_like m f cur _))
    (((faultNoted_keeps m f cur _).get (moFlag_apart m).right.left).trans (condShown_get m f s))

/-- LATE with response 0: the condition and the flag are set and the entry is made. -/
theorem motSetCond_late (hcond : s.bit (F.MOTm_STAT_COND m) 6 = false) (hresp : motResp m 6 s = 0) (hset : Settled m s) (hen : motorEn m s = true)
    (hcleared : motCleared m s = none) : motSetCond m 6 true 0 s = faultNoted m 6 0 (condShown m 6 s) := by
  have hacts : motActs m 6 s = true := by rw [motActs, if_neg (by decide), hen]; rfl
  have hold := motOld_of_not_cleared hcleared
  have hrespShown : motResp m 6 (condShown m 6 s) = 0 := by
    have hget : (condShown m 6 s).get (F.MOTm_RESP_RESP m) = s.get (F.MOTm_RESP_RESP m) :=
      (condShown_step m 6 s).keeps.get (fun hin => (moFlag_apart m).left (by simpa using .inr (.inl (List.mem_singleton.mp hin))))
    rw [motResp, hget]
    exact hresp
  rw [motSetCond_new (.inr (.inr rfl)) (by rw [hold]; exact hcond) hacts (fun g hg _ => hold ▸ hset g hg), motDeclare_one, hrespShown,
    if_neg fun hlatch => absurd hlatch.left (by decide)]
  rfl

/-- The count of missing on-times, beside pulses that have begun. -/
theorem incLate_like (m : Fin 4) (s : State) : MotLike m s (s.inc (F.MOTm_CNT_LATE m)) :=
  have hkeeps : Keeps [Reg.MOTm_CNT m] s (s.inc (F.MOTm_CNT_LATE m)) := (Keeps.refl _ s).inc 1 (.head _)
  .of_keeps hkeeps (motFree_cnt m) (motSwitches_congr (hkeeps.get (moCnt_notSetting m).right.right)) rfl rfl rfl

/-- What LATE makes of a period's pulses. -/
theorem late_of_pulses {p : State} (hp : PeriodBegun [Reg.MOTm_CNT m, Reg.MOTm_STAT m, Reg.MOTm_FLAG m] m s p) (hlike : MotLike m s p)
    (hlog : p.log = s.log) (hlate : p.get (F.MOTm_CNT_LATE m) = s.get (F.MOTm_CNT_LATE m))
    (hcondp : p.get (F.MOTm_STAT_COND m) = s.get (F.MOTm_STAT_COND m)) (hcond : s.bit (F.MOTm_STAT_COND m) 6 = false) (hresp : motResp m 6 s = 0)
    (hset : Settled m s) (hen : motorEn m s = true) (hcleared : motCleared m s = none)
    (ht : t = stallWatch m (motSetCond m 6 true 0 (p.inc (F.MOTm_CNT_LATE m)))) :
    t.bit (F.MOTm_STAT_COND m) 6 = true ∧ t.bit (F.MOTm_FLAG_DECL m) 6 = true ∧ motSt m t = motSt m p ∧ t.mot[m].phase = p.mot[m].phase ∧
      t.get (F.MOTm_CNT_LATE m) = min 255 (s.get (F.MOTm_CNT_LATE m) + 1) ∧ Logged 0x11 1 [b8 m.val, 6, 0, 0, 0] s t ∧
      PeriodBegun [Reg.MOTm_CNT m, Reg.MOTm_STAT m, Reg.MOTm_FLAG m] m s t := by
  obtain ⟨hnoResp, hnoStat, hnoCnt, hnoCnt', hnoFlag⟩ := moFlag_apart m
  have hq := hp.next (u := p.inc (F.MOTm_CNT_LATE m)) ((Keeps.refl _ p).inc 1 (.head _)) rfl rfl rfl rfl
  have hincKeeps : Keeps [Reg.MOTm_CNT m] p (p.inc (F.MOTm_CNT_LATE m)) := (Keeps.refl _ p).inc 1 (.head _)
  have hcount : (p.inc (F.MOTm_CNT_LATE m)).get (F.MOTm_CNT_LATE m) = min 255 (s.get (F.MOTm_CNT_LATE m) + 1) := by
    rw [State.get_inc_byte (moLate_fits m) rfl, hlate]
  have hqlog : (p.inc (F.MOTm_CNT_LATE m)).log = s.log := hlog
  have hqmot : (p.inc (F.MOTm_CNT_LATE m)).mot = p.mot := rfl
  have hlikeq := hlike.trans (incLate_like m p)
  generalize p.inc (F.MOTm_CNT_LATE m) = q at *
  have hcondq : q.get (F.MOTm_STAT_COND m) = s.get (F.MOTm_STAT_COND m) := (hincKeeps.get (moCnt_notSetting m).right.right).trans hcondp
  have hbitq : q.bit (F.MOTm_STAT_COND m) 6 = false := by
    unfold State.bit at *
    rwa [hcondq]
  have hrespq : motResp m 6 q = 0 := by
    have hget : q.get (F.MOTm_RESP_RESP m) = s.get (F.MOTm_RESP_RESP m) := hq.keeps.get hnoResp
    rw [motResp, hget]
    exact hresp
  have henq : motorEn m q = true := hlikeq.en.trans hen
  rw [motSetCond_late hbitq hrespq (hlikeq.settled hset hcondq) henq (hlikeq.cleared.trans hcleared)] at ht
  have hshown := condShown_step m 6 q
  have hactsq : motActs m 6 q = true := by rw [motActs, if_neg (by decide), henq]; rfl
  have hbit := condShown_bit (.inr (.inr rfl)) hactsq
  have hbegun : PeriodBegun [Reg.MOTm_CNT m, Reg.MOTm_STAT m, Reg.MOTm_FLAG m] m s (condShown m 6 q) := hshown.begun hq (.tail _ (.head _))
  have hrespShown : motResp m 6 (condShown m 6 q) = 0 := by
    have hget : (condShown m 6 q).get (F.MOTm_RESP_RESP m) = s.get (F.MOTm_RESP_RESP m) := hbegun.keeps.get hnoResp
    rw [motResp, hget]
    exact hresp
  have hsettled := settled_of_noted m 6 0 q
  generalize condShown m 6 q = y at *
  have hnoted := faultNoted_keeps m 6 0 y
  have hnotedLike := faultNoted_like m 6 0 y
  have hentry := faultNoted_logged (cur := 0) (x := 0) (hshown.log.trans hqlog) hbegun.clk hbegun.dom hrespShown rfl
  have hnotedBegun := hbegun.next (hnoted.mono (by simp)) rfl rfl rfl rfl
  have hnotedMot : (faultNoted m 6 0 y).mot = y.mot := rfl
  have hflag := faultNoted_flag m (f := 6) (by decide) 0 y
  generalize faultNoted m 6 0 y = x at *
  obtain ⟨hstep, hkept⟩ := stallWatch_quiet hsettled
  obtain ⟨from_, hmot⟩ := hstep.mot
  obtain ⟨fromq, hmotq⟩ := hshown.mot
  have hactsx : motActs m 6 x = true := by rw [hnotedLike.acts, hshown.like.acts, hactsq]
  have hcondx : x.bit (F.MOTm_STAT_COND m) 6 = true := by
    unfold State.bit at *
    rwa [hnoted.get hnoStat]
  rw [ht]
  refine ⟨(hkept hactsx).trans hcondx, ?_, ?_, ?_, ?_, (congrArg LogSt.reqs hstep.log).trans hentry, hstep.begun hnotedBegun (.tail _ (.head _))⟩
  · unfold State.bit at *
    rwa [hstep.keeps.get (f := F.MOTm_FLAG_DECL m) hnoFlag]
  · exact ((hstep.st.trans (hnoted.get hnoStat)).trans hshown.st).trans (hincKeeps.get (moCnt_notSetting m).right.right)
  · rw [hmot, hnotedMot, hmotq, hqmot]
  · exact ((hstep.keeps.get hnoCnt).trans ((hnoted.get hnoCnt').trans (hshown.keeps.get hnoCnt))).trans hcount

/-- Without on-times the period repeats, and LATE is counted and declared; its response 0 changes nothing else (R472). -/
theorem does_late (hen : motorEn m s = true) (hrun : motSt m s = moRUN) (hfirst : s.mot[m].first = false) (hnext : s.mot[m].next = none)
    (hcond : s.bit (F.MOTm_STAT_COND m) 6 = false) (hresp : motResp m 6 s = 0) (hnot : NotFired (136 + 2 * m.val) s) (hset : Settled m s)
    (hcleared : motCleared m s = none) (ht : t = periodStart m s) :
    t.bit (F.MOTm_STAT_COND m) 6 = true ∧ t.bit (F.MOTm_FLAG_DECL m) 6 = true ∧ motSt m t = moRUN ∧
      (∀ x : Fin 3, t.mot[m].phase[x].on = s.mot[m].phase[x].on) ∧ t.get (F.MOTm_CNT_LATE m) = min 255 (s.get (F.MOTm_CNT_LATE m) + 1) ∧
    Logged 0x11 1 [b8 m.val, 6, 0, 0, 0] s t ∧ Fires (136 + 2 * m.val) s t ∧ Keeps [Reg.MOTm_CNT m, Reg.MOTm_STAT m, Reg.MOTm_FLAG m] s t := by
  have hopenRun : motSt m (periodOpen m s) = moRUN := (periodOpen_get hnot _).trans hrun
  have hrun' := periodStart_eq hen (by rw [hrun]; decide) (by rw [hrun]; decide) (motTurn_of_run hopenRun) (motSwitches_of_run hopenRun)
  rw [hnext, hfirst, if_pos (show (Option.isNone none && !false) = true from rfl)] at hrun'
  have hbegun : PeriodBegun [Reg.MOTm_CNT m, Reg.MOTm_STAT m, Reg.MOTm_FLAG m] m s (periodPulses m s (periodOpen m s)) :=
    begun_of_pulses (periodOpen_begun _ hnot) (.head _)
  obtain ⟨hbit, hflag, hst, hphase, hlate, hlogged, hend⟩ := late_of_pulses hbegun ((periodOpen_like hnot).trans (periodPulses_like m s _))
    ((periodPulses_log m s _).trans (periodOpen_log m s)) ((periodPulses_late m s _).trans (periodOpen_get hnot _))
    ((periodPulses_stat m s _ rfl).trans (periodOpen_get hnot _)) hcond hresp hset hen hcleared (ht.trans hrun')
  refine ⟨hbit, hflag, (hst.trans (periodPulses_stat m s _ rfl)).trans hopenRun, fun x => ?_, hlate, hlogged, hend.fires, hend.keeps⟩
  have hon := congrArg MotPulse.on (periodPulses_phase (m := m) (periodOpen_begun [Reg.MOTm_CNT m] hnot).keeps x)
  rw [pulseOf_on] at hon
  rw [hphase, hon]
  unfold periodOns
  rw [hnext, hfirst]
  match x with
  | 0 | 1 | 2 => rfl

/-! ## The end of an inert state and of an alignment (R476, R477) -/

theorem motEnter_begun (h : PeriodBegun l m s t) (hl : Reg.MOTm_STAT m ∈ l) (st : Nat) : PeriodBegun l m s (motEnter m st t) :=
  h.next (((Keeps.refl l t).put st (f := F.MOTm_STAT_ST m) hl).motUpd m _) rfl rfl rfl rfl

theorem motEnter_st {st : Nat} (hst : st < 8) (m : Fin 4) (s : State) : motSt m (motEnter m st s) = st := State.get_put_of_lt (moSt_fits m) hst s

theorem motEnter_get (st : Nat) (m : Fin 4) (s : State) (f : Fld) : (motEnter m st s).get f = (s.put (F.MOTm_STAT_ST m) st).get f := by
  rw [motEnter, motUpd_get]

theorem motEnter_cond (st : Nat) (m : Fin 4) (s : State) : (motEnter m st s).get (F.MOTm_STAT_COND m) = s.get (F.MOTm_STAT_COND m) :=
  State.get_put_apart (moStat_apart m).right.right.left st s

theorem motEnter_thv (st : Nat) (m : Fin 4) (s : State) : (motEnter m st s).get (F.MOTm_STAT_THV m) = s.get (F.MOTm_STAT_THV m) :=
  State.get_put_apart (moStat_apart m).right.right.right.left st s

/-- The motor after a release: both integrators at zero. -/
def motReleased (m : Fin 4) (s : State) : State := motUpd m (fun x => { x with accD := 0, accQ := 0 }) (motEnter m moRUN s)

theorem motTurn_of_release (hinert : motSt m s = moINERT) (hrel : s.mot[m].release = true)
    (hstart : s.on (F.MOTm_CTL_ALIGN m) = false ∨ s.on (F.MOTm_STAT_THV m) = true) : motTurn m s = motReleased m s := by
  have hrun : motStart m s = moRUN := by
    unfold motStart
    obtain h | h := hstart <;> simp [h]
  rw [motTurn, if_pos ⟨hinert, hrel⟩, hrun]
  rfl

/-- A released motor starts its first period with no on-times, so with no pulse (R472, R477). -/
theorem does_release (hen : motorEn m s = true) (hinert : motSt m s = moINERT) (hrel : s.mot[m].release = true) (hfirst : s.mot[m].first = true)
    (hnext : s.mot[m].next = none) (hstart : s.on (F.MOTm_CTL_ALIGN m) = false ∨ s.on (F.MOTm_STAT_THV m) = true)
    (hconds : motConds m (s.put (F.MOTm_STAT_ST m) 2) = 0) (hnot : NotFired (136 + 2 * m.val) s) (ht : t = periodStart m s) :
    t.mot[m].accD = 0 ∧ t.mot[m].accQ = 0 ∧ t.mot[m].release = false ∧ motSt m t = moRUN ∧ Fires (136 + 2 * m.val) s t ∧ NoLog s t ∧
      Keeps [Reg.MOTm_STAT m] s t := by
  have hmotOpen := periodOpen_mot hnot
  have hturn : motTurn m (periodOpen m s) = motReleased m (periodOpen m s) :=
    motTurn_of_release ((periodOpen_get hnot _).trans hinert) (by rw [hmotOpen]; exact hrel)
      (hstart.imp ((congrArg (· != 0) (periodOpen_get hnot _)).trans ·) ((congrArg (· != 0) (periodOpen_get hnot _)).trans ·))
  have hopen := periodOpen_begun [Reg.MOTm_STAT m] hnot
  have hu : PeriodBegun [Reg.MOTm_STAT m] m s (motReleased m (periodOpen m s)) :=
    (motEnter_begun hopen (.head _) moRUN).next ((Keeps.refl _ _).motUpd m _) rfl rfl rfl rfl
  have hst : motSt m (motReleased m (periodOpen m s)) = moRUN := motEnter_st (by decide) m _
  have hmotu : (motReleased m (periodOpen m s)).mot[m] = { (motEnter m moRUN (periodOpen m s)).mot[m] with accD := 0, accQ := 0 } := motUpd_same m _ _
  have hmote : (motEnter m moRUN (periodOpen m s)).mot[m].fltLow = s.mot[m].fltLow ∧ (motEnter m moRUN (periodOpen m s)).mot[m].cleared = s.mot[m].cleared ∧
      (motEnter m moRUN (periodOpen m s)).mot[m].release = false := by
    unfold motEnter
    dsimp only
    rw [motUpd_same]
    show (periodOpen m s).mot[m].fltLow = _ ∧ (periodOpen m s).mot[m].cleared = _ ∧ _
    rw [hmotOpen]
    exact ⟨rfl, rfl, rfl⟩
  obtain ⟨hflt, hclr, hgone⟩ := hmote
  have hput := (Keeps.refl [Reg.MOTm_STAT m] s).put 2 (f := F.MOTm_STAT_ST m) (.head _)
  have hkeeps : Keeps [Reg.MOTm_STAT m] (s.put (F.MOTm_STAT_ST m) 2) (motReleased m (periodOpen m s)) :=
    ⟨fun a ha => (hu.keeps.rd ha).trans (hput.rd ha).symm, hu.keeps.sameMem⟩
  have hrunPut : motSt m (s.put (F.MOTm_STAT_ST m) 2) = moRUN := State.get_put_of_lt (moSt_fits m) (by show 2 < 8; decide) s
  have hlike : MotLike m (s.put (F.MOTm_STAT_ST m) 2) (motReleased m (periodOpen m s)) :=
    .of_keeps hkeeps (motFree_stat m) (motSwitches_congr (hst.trans hrunPut.symm)) (by rw [hmotu]; exact hflt) (by rw [hmotu]; exact hclr) hu.clk
  have hcond : (motReleased m (periodOpen m s)).get (F.MOTm_STAT_COND m) = (s.put (F.MOTm_STAT_ST m) 2).get (F.MOTm_STAT_COND m) :=
    ((motEnter_cond moRUN m _).trans (periodOpen_get hnot _)).trans (State.get_put_apart (moStat_apart m).right.right.left 2 s).symm
  have hset : Settled m (motReleased m (periodOpen m s)) := hlike.settled (noNewCond_of_zero hconds _) hcond
  have hstep := periodStart_of_settled hen (by rw [hinert]; decide) (by rw [hinert]; decide) hturn (motSwitches_of_run hst) hset (by rw [hfirst]; simp)
  have hons : periodOns m s = (0, 0, 0) := by
    unfold periodOns
    rw [hfirst, hnext]
    rfl
  have hpulses : PeriodBegun [Reg.MOTm_STAT m] m s (periodPulses m s (motReleased m (periodOpen m s))) :=
    periodPulses_begun hu (by rw [hons]; exact motPulses_pulsed_of_zero _ m _ _)
  have hend := hstep.begun hpulses (.head _)
  obtain ⟨w, hw⟩ := hstep.mot
  have hlog : (periodStart m s).log = s.log := (hstep.log.trans (periodPulses_log m s _)).trans (periodOpen_log m s)
  have hmot := periodPulses_mot m s (motReleased m (periodOpen m s))
  rw [hmotu] at hmot
  subst ht
  refine ⟨by rw [hw, hmot], by rw [hw, hmot], ?_, ?_, hend.fires, congrArg LogSt.reqs hlog, hend.keeps⟩
  · rw [hw, hmot]
    exact hgone
  · exact (hstep.st.trans (periodPulses_stat m s _ rfl)).trans hst

/-- The offset that an alignment finds. -/
def alignOffset (m : Fin 4) (s : State) : Nat := (65536 - motAngle m 0 s) % 65536

/-- The state in which the end of an alignment logs its offset, before the motor runs. -/
def alignNoted (m : Fin 4) (th : Nat) (s : State) : State :=
  (motUpd m (fun x => { x with accD := 0, accQ := 0 }) ((s.put (F.MOTm_THOFS_THOFS m) th).put (F.MOTm_STAT_THV m) 1)).logReq 0x11 0x0003
    (b8 m :: bytesOfNat 2 th)

theorem motAligned_eq (h : motSt m s = moALIGN) : motAligned m s = motEnter m moRUN (alignNoted m (alignOffset m s) s) := if_neg fun hne => hne h

theorem motAlignDue_of (h : motSt m s = moALIGN)
    (hdue : s.mot[m].alignAt + max 1 (s.get (F.MOTm_ALGN_ALIGNT m)) * 10000000 ≤ s.clk.ns) : motAlignDue m s = true := by
  have hone : ∀ n, zeroAsOne n = max 1 n := fun n => by unfold zeroAsOne; split <;> omega
  unfold motAlignDue
  rw [h, hone, decide_eq_true hdue]
  rfl

/-- What the end of an alignment changes. -/
structure Aligned (m : Fin 4) (th : Nat) (s t : State) : Prop where
  keeps : Keeps [Reg.MOTm_THOFS m, Reg.MOTm_STAT m] s t
  offset : t.get (F.MOTm_THOFS_THOFS m) = th
  thv : t.get (F.MOTm_STAT_THV m) = 1
  st : motSt m t = moRUN
  cond : t.get (F.MOTm_STAT_COND m) = s.get (F.MOTm_STAT_COND m)
  log : t.log.reqs = s.log.reqs ++ [⟨s.clk.time, s.logAngle, 0x11, 3, b8 m :: bytesOfNat 2 th⟩]
  accs : t.mot[m].accD = 0 ∧ t.mot[m].accQ = 0
  flt : t.mot[m].fltLow = s.mot[m].fltLow
  cleared : t.mot[m].cleared = s.mot[m].cleared
  evm : t.evm = s.evm
  clk : t.clk = s.clk
  dom : t.dom = s.dom
  timers : t.timers = s.timers

/-- THOFS is another register than MOTm_STAT. -/
theorem moThofs_ne_stat : ∀ m : Fin 4, Reg.MOTm_THOFS m ≠ Reg.MOTm_STAT m := by decide

theorem alignNoted_put (m : Fin 4) (th : Nat) (s : State) (f : Fld) :
    (alignNoted m th s).get f = ((s.put (F.MOTm_THOFS_THOFS m) th).put (F.MOTm_STAT_THV m) 1).get f := by
  rw [State.get_regs, alignNoted, State.logReq_regs, ← State.get_regs, motUpd_get]

theorem alignNoted_keeps (m : Fin 4) (th : Nat) (s : State) : Keeps [Reg.MOTm_THOFS m, Reg.MOTm_STAT m] s (alignNoted m th s) :=
  ((((Keeps.refl _ s).put th (f := F.MOTm_THOFS_THOFS m) (.head _)).put 1 (f := F.MOTm_STAT_THV m) (.tail _ (.head _))).motUpd m _).logReq _ _ _

theorem alignNoted_log (m : Fin 4) (th : Nat) (s : State) :
    (alignNoted m th s).log.reqs = s.log.reqs ++ [⟨s.clk.time, s.logAngle, 0x11, 3, b8 m :: bytesOfNat 2 th⟩] := by
  rw [alignNoted, State.logReq_log]
  rfl

theorem alignNoted_rest (m : Fin 4) (th : Nat) (s : State) : (alignNoted m th s).evm = s.evm ∧ (alignNoted m th s).clk = s.clk ∧
    (alignNoted m th s).dom = s.dom ∧ (alignNoted m th s).timers = s.timers := ⟨rfl, rfl, rfl, rfl⟩

theorem motEnter_rest (m : Fin 4) (st : Nat) (s : State) : (motEnter m st s).log = s.log ∧ (motEnter m st s).evm = s.evm ∧
    (motEnter m st s).clk = s.clk ∧ (motEnter m st s).dom = s.dom ∧ (motEnter m st s).timers = s.timers := ⟨rfl, rfl, rfl, rfl, rfl⟩

theorem alignNoted_mot (m : Fin 4) (th : Nat) (s : State) : (alignNoted m th s).mot[m] = { s.mot[m] with accD := 0, accQ := 0 } :=
  motUpd_same m _ ((s.put (F.MOTm_THOFS_THOFS m) th).put (F.MOTm_STAT_THV m) 1)

theorem alignNoted_offset {th : Nat} (hth : th < 2 ^ 16) (m : Fin 4) (s : State) : (alignNoted m th s).get (F.MOTm_THOFS_THOFS m) = th := by
  rw [alignNoted_put, State.get_put_ne _ (F.MOTm_STAT_THV m) (F.MOTm_THOFS_THOFS m) _ (moThofs_ne_stat m)]
  exact State.get_put_of_lt (moThofs_fits m) hth s

theorem alignNoted_thv (m : Fin 4) (th : Nat) (s : State) : (alignNoted m th s).get (F.MOTm_STAT_THV m) = 1 := by
  rw [alignNoted_put]
  exact State.get_put_of_lt (moThv_fits m) Nat.one_lt_two _

theorem alignNoted_cond (m : Fin 4) (th : Nat) (s : State) : (alignNoted m th s).get (F.MOTm_STAT_COND m) = s.get (F.MOTm_STAT_COND m) := by
  rw [alignNoted_put, State.get_put_apart (moStat_apart m).right.right.right.right.right]
  exact State.get_put_ne _ _ (F.MOTm_STAT_COND m) _ (moThofs_ne_stat m).symm

/-- A motor's entry to a state keeps what its faults are formed from, and its integrators. -/
theorem motEnter_mot (m : Fin 4) (st : Nat) (s : State) : (motEnter m st s).mot[m].accD = s.mot[m].accD ∧ (motEnter m st s).mot[m].accQ = s.mot[m].accQ ∧
    (motEnter m st s).mot[m].fltLow = s.mot[m].fltLow ∧ (motEnter m st s).mot[m].cleared = s.mot[m].cleared ∧
    (motEnter m st s).mot[m].release = false ∧ (motEnter m st s).mot[m].first = true ∧
    ∀ x : Fin 3, (motEnter m st s).mot[m].phase[x] = { s.mot[m].phase[x] with carry := 0, start := 0, stop := 0 } := by
  unfold motEnter
  dsimp only
  rw [motUpd_same]
  refine ⟨rfl, rfl, rfl, rfl, rfl, rfl, fun x => ?_⟩
  show (s.mot[m].phase.map _)[x] = _
  rw [Fin.getElem_fin, Vector.getElem_map]
  rfl

theorem motAligned_aligned (h : motSt m s = moALIGN) : Aligned m (alignOffset m s) s (motAligned m s) := by
  have hlt : alignOffset m s < 2 ^ 16 := by
    unfold alignOffset
    omega
  rw [motAligned_eq h]
  generalize alignOffset m s = th at hlt ⊢
  obtain ⟨hd, hq, hflt, hclr, -⟩ := motEnter_mot m moRUN (alignNoted m th s)
  rw [alignNoted_mot] at hd hq hflt hclr
  obtain ⟨hlog, hevm, hclk, hdom, htimers⟩ := motEnter_rest m moRUN (alignNoted m th s)
  obtain ⟨hevm', hclk', hdom', htimers'⟩ := alignNoted_rest m th s
  refine ⟨?_, ?_, ?_, motEnter_st (by decide) m _, ?_, by rw [hlog]; exact alignNoted_log m th s, ⟨hd, hq⟩, hflt, hclr, hevm.trans hevm',
    hclk.trans hclk', hdom.trans hdom', htimers.trans htimers'⟩
  · exact ((alignNoted_keeps m th s).put _ (f := F.MOTm_STAT_ST m) (.tail _ (.head _))).motUpd m _
  · rw [motEnter_get, State.get_put_ne _ (F.MOTm_STAT_ST m) (F.MOTm_THOFS_THOFS m) _ (moThofs_ne_stat m)]
    exact alignNoted_offset hlt m s
  · exact (motEnter_thv moRUN m _).trans (alignNoted_thv m th s)
  · exact (motEnter_cond moRUN m _).trans (alignNoted_cond m th s)

end Sys2Proof.Machine
end

section
/-!
PROOFS. The end of an alignment at a period start, the sample request, and the current loop (R468 to R471, R476).
-/
namespace Sys2Proof.Machine

set_option Elab.async false

variable {s t u v : State} {m : Fin 4} {l : List Nat}

/-! ## A period start that ends an alignment (R476) -/

theorem logAngle_congr (hlog : t.log = s.log) (hdom : t.dom = s.dom) : t.logAngle = s.logAngle := by
  unfold State.logAngle
  rw [hlog, hdom]

theorem motAngle_congr (hctl : t.get (F.MOTm_CTL_DOM m) = s.get (F.MOTm_CTL_DOM m)) (hdom : t.dom = s.dom) (ns : Nat) :
    motAngle m ns t = motAngle m ns s := by
  have hmotor : motorDom m t = motorDom m s := congrArg (Fin.ofNat 8) hctl
  simp only [motAngle, hmotor, hdom]

theorem motTurn_of_aligned (h : motSt m s = moALIGN) (hdue : motAlignDue m s = true) : motTurn m s = motAligned m s := by
  have hinert : ¬ (motSt m s = moINERT ∧ s.mot[m].release = true) := fun hin => absurd (h.symm.trans hin.left) (by decide)
  rw [motTurn, if_neg hinert, if_pos hdue]

theorem moThofs_apart : ∀ m : Fin 4, Reg.MOTm_THOFS m ∉ [Reg.MOTm_STAT m] ∧ Reg.MOTm_THOFS m ∉ [Reg.MOTm_CNT m] := by decide

theorem motFree_aligned : ∀ m : Fin 4, motFree m [Reg.MOTm_THOFS m, Reg.MOTm_STAT m] = true := by decide

/-- A due alignment ends with the period's start, and the motor runs. -/
theorem does_alignedPeriod (hen : motorEn m s = true) (halign : motSt m s = moALIGN) (hnext : s.mot[m].next.isSome = true)
    (hdue : s.mot[m].alignAt + max 1 (s.get (F.MOTm_ALGN_ALIGNT m)) * 10000000 ≤ s.clk.ns) (hconds : motConds m s = 0)
    (hnot : NotFired (136 + 2 * m.val) s) (ht : t = periodStart m s) :
    t.get (F.MOTm_THOFS_THOFS m) = (65536 - motAngle m 0 s) % 65536 ∧ t.on (F.MOTm_STAT_THV m) = true ∧ motSt m t = moRUN ∧
      Logged 0x11 3 (b8 m.val :: bytesOfNat 2 ((65536 - motAngle m 0 s) % 65536)) s t ∧ Fires (136 + 2 * m.val) s t ∧
      Keeps [Reg.MOTm_STAT m, Reg.MOTm_THOFS m, Reg.MOTm_CNT m] s t := by
  have hopen := periodOpen_begun [Reg.MOTm_STAT m, Reg.MOTm_THOFS m, Reg.MOTm_CNT m] hnot
  have hmotOpen := periodOpen_mot hnot
  have hopenSt : motSt m (periodOpen m s) = moALIGN := (periodOpen_get hnot _).trans halign
  have hopenDue : motAlignDue m (periodOpen m s) = true := motAlignDue_of hopenSt (by
    rw [hmotOpen, hopen.clk, periodOpen_get hnot]
    exact hdue)
  have hoffset : alignOffset m (periodOpen m s) = (65536 - motAngle m 0 s) % 65536 := by
    unfold alignOffset
    rw [motAngle_congr (periodOpen_get hnot _) hopen.dom]
  have hu := motAligned_aligned hopenSt
  have hturn := motTurn_of_aligned hopenSt hopenDue
  rw [hoffset] at hu
  generalize (65536 - motAngle m 0 s) % 65536 = th at hu ⊢
  generalize hq : motAligned m (periodOpen m s) = q at hu hturn
  have hsub : [Reg.MOTm_THOFS m, Reg.MOTm_STAT m] ⊆ [Reg.MOTm_STAT m, Reg.MOTm_THOFS m, Reg.MOTm_CNT m] := by simp
  have hbegun := hopen.next (hu.keeps.mono hsub) hu.evm hu.clk hu.dom hu.timers
  have hswitches : motSwitches m q = motSwitches m (periodOpen m s) := by
    rw [motSwitches_of_run hu.st, motSwitches, hopenSt]
    rfl
  have hlike := (periodOpen_like hnot).trans (.of_keeps hu.keeps (motFree_aligned m) hswitches hu.flt hu.cleared hu.clk)
  have hset : Settled m q := hlike.settled (noNewCond_of_zero hconds _) (hu.cond.trans (periodOpen_get hnot _))
  have hstep := periodStart_of_settled hen (by rw [halign]; decide) (by rw [halign]; decide) hturn (motSwitches_of_run hu.st) hset (by rw [← Option.not_isSome, hnext]; rfl)
  have hpulses := begun_of_pulses hbegun (.tail _ (.tail _ (.head _)))
  have hend := hstep.begun hpulses (.head _)
  have hnoThofs : Reg.MOTm_THOFS m ∉ [Reg.MOTm_STAT m] ∧ Reg.MOTm_THOFS m ∉ [Reg.MOTm_CNT m] := moThofs_apart m
  have hthv : (periodStart m s).get (F.MOTm_STAT_THV m) = 1 := (hstep.thv.trans (periodPulses_stat m s _ rfl)).trans hu.thv
  rw [ht]
  refine ⟨?_, ?_, (hstep.st.trans (periodPulses_stat m s _ rfl)).trans hu.st, ?_, hend.fires, hend.keeps⟩
  · exact ((hstep.keeps.get hnoThofs.left).trans ((periodPulses_keeps m s q).get hnoThofs.right)).trans hu.offset
  · unfold State.on
    rw [hthv]
    rfl
  · have hlog := (congrArg LogSt.reqs (hstep.log.trans (periodPulses_log m s q))).trans hu.log
    unfold Logged
    rw [hlog, periodOpen_log, hopen.clk, logAngle_congr (periodOpen_log m s) hopen.dom]

/-! ## The sample request (R468) -/

/-- The cycle in which the lane of a motor takes its pair. -/
def pairTurn (m : Fin 4) (s : State) : Nat := max s.clk.ns s.mlane[(Fin.ofNat 2 (m.val / 2) : Fin 2)]

/-- The lane has the pair of a motor in its turn. -/
def pairAsked (m : Fin 4) (s : State) : State :=
  motUpd m (fun x => { x with apAt := some (pairTurn m s), asked := true, pairAt := pairTurn m s + 200 })
    { s with mlane := updAt s.mlane (Fin.ofNat 2 (m.val / 2)) (fun _ => pairTurn m s + 200) }

theorem sampleRequest_eq (h : motSwitches m s = true) : sampleRequest m s = motLatch m (pairAsked m s) :=
  if_neg (by rw [h]; decide)

theorem pairAsked_mot (m : Fin 4) (s : State) :
    (pairAsked m s).mot[m] = { s.mot[m] with apAt := some (pairTurn m s), asked := true, pairAt := pairTurn m s + 200 } := motUpd_same m _ _

/-- The angle that is latched for a pair. -/
def latchedAngle (m : Fin 4) (s : State) : Nat := if motSt m s = moALIGN then 0 else (motAngle m 0 s + s.get (F.MOTm_THOFS_THOFS m)) % 65536

theorem motLatch_eq {a : Nat} (h : s.mot[m].apAt = some a) :
    motLatch m s = if a ≤ s.clk.ns then motUpd m (fun x => { x with apAt := none, theta := latchedAngle m s }) s else s := by
  unfold motLatch
  rw [h]
  rfl

/-- What a sample request does in ALIGN and RUN. -/
theorem sampleRequest_does (h : motSwitches m s = true) (ht : t = sampleRequest m s) :
    t.mlane[(Fin.ofNat 2 (m.val / 2) : Fin 2)] = pairTurn m s + 200 ∧ t.mot[m].pairAt = pairTurn m s + 200 ∧ t.mot[m].asked = true ∧
      (s.mlane[(Fin.ofNat 2 (m.val / 2) : Fin 2)] ≤ s.clk.ns → t.mot[m].theta = latchedAngle m s ∧ t.mot[m].apAt = none) ∧
      (s.clk.ns < s.mlane[(Fin.ofNat 2 (m.val / 2) : Fin 2)] → t.mot[m].apAt = some (pairTurn m s) ∧ t.mot[m].theta = s.mot[m].theta) ∧
      NoLog s t ∧ Keeps [] s t := by
  have hmot := pairAsked_mot m s
  have hap : (pairAsked m s).mot[m].apAt = some (pairTurn m s) := by rw [hmot]
  have hlane : (pairAsked m s).mlane[(Fin.ofNat 2 (m.val / 2) : Fin 2)] = pairTurn m s + 200 := updAt_same _ _ _
  have hkeeps : Keeps [] s (pairAsked m s) := (Keeps.refl [] s).congr rfl rfl rfl
  rw [ht, sampleRequest_eq h, motLatch_eq hap]
  split
  next hle =>
    have hturn : s.mlane[(Fin.ofNat 2 (m.val / 2) : Fin 2)] ≤ s.clk.ns := Nat.le_trans (Nat.le_max_right _ _) hle
    refine ⟨hlane, ?_, ?_, fun _ => ?_, fun hlt => absurd hturn (Nat.not_le.mpr hlt), rfl, hkeeps.motUpd m _⟩
    · rw [motUpd_same, hmot]
    · rw [motUpd_same, hmot]
    · rw [motUpd_same]
      exact ⟨rfl, rfl⟩
  next hle =>
    have hnot : ¬ s.mlane[(Fin.ofNat 2 (m.val / 2) : Fin 2)] ≤ s.clk.ns := fun hturn => hle (Nat.max_le.mpr ⟨Nat.le_refl _, hturn⟩)
    refine ⟨hlane, ?_, ?_, fun hturn => absurd hturn hnot, fun _ => ⟨hap, ?_⟩, rfl, hkeeps⟩
    · rw [hmot]
    · rw [hmot]
    · rw [hmot]

/-! ## What a completed pair feeds beside the loop (R96, R101) -/

/-- The samplers' own state and the timers alone change. -/
def GathOnly (s t : State) : Prop := ∃ g q, t = { s with gath := g, timers := q }

theorem GathOnly.refl (s : State) : GathOnly s s := ⟨s.gath, s.timers, rfl⟩

theorem GathOnly.trans (h : GathOnly s t) (k : GathOnly t u) : GathOnly s u := by
  obtain ⟨g, q, rfl⟩ := h
  obtain ⟨g', q', rfl⟩ := k
  exact ⟨g', q', rfl⟩

theorem seqGot_gathOnly (n : Fin 16) (x : Int) (s : State) : GathOnly s (seqGot n x s) := by
  unfold seqGot
  split
  next => exact .refl s
  next =>
    dsimp only
    cases (seqNeed n s == s.gath.seq[n].count + 1)
    · exact ⟨_, _, rfl⟩
    · exact ⟨_, _, rfl⟩

theorem seqFeed_gathOnly (kind ch : Nat) (x : Int) (s : State) : GathOnly s (seqFeed kind ch x s) :=
  State.each_rel GathOnly .refl (fun _ _ _ => .trans) _ _ (fun n t => by
    split
    · exact seqGot_gathOnly n x t
    · exact .refl t) s

theorem mcurGuard_of_valid {code : Nat} (h : 4096 ≤ code * 18) (ch : Fin 8) (s : State) :
    ∃ g, mcurGuard ch code s = ({ s with gath := g }, (code : Int)) := by
  have hlow : mcurLow code = false := decide_eq_false (Nat.not_lt.mpr h)
  unfold mcurGuard
  rw [hlow]
  exact ⟨_, rfl⟩

/-! ## The current loop (R469, R470) -/

/-- The currents of a pair in the stationary and the rotating frame. -/
def pairBeta (ia ib : Int) : Int := asr ((ia + 2 * ib) * 37837 + 32768) 16
def pairD (th : Nat) (ia ib : Int) : Int := asr (ia * cos16 th + pairBeta ia ib * sin16 th) 15
def pairQ (th : Nat) (ia ib : Int) : Int := asr (-ia * sin16 th + pairBeta ia ib * cos16 th) 15

/-- The d axis in RUN. -/
def axisD (m : Fin 4) (id : Int) (s : State) : Int × Int :=
  motAxis (s.get (F.MOTm_CUR_KP m)) (s.get (F.MOTm_CUR_KI m)) s.mot[m].accD
    (clampInt (s.getI (F.MOTm_REF_IDREF m)) (-(s.get (F.MOTm_IQMAX_IQMAX m) : Int)) (s.get (F.MOTm_IQMAX_IQMAX m)) - id)
    (min (s.get (F.MOTm_VLIM_VLIM m)) 37837 : Nat) (min (s.get (F.MOTm_VLIM_VLIM m)) 37837 : Nat)

/-- The state that the loop leaves before the watch: the integrators, the next on-times and the four results. -/
def loopDone (m : Fin 4) (accD accQ : Int) (next : Nat × Nat × Nat) (id iq vd vq : Int) (s : State) : State :=
  ((((motUpd m (fun x => { x with accD := accD, accQ := accQ, asked := false, next := some next }) s).putI (F.MOTm_IDQ_D m) id).putI (F.MOTm_IDQ_Q m)
    iq).putI (F.MOTm_VDQ_D m) vd).putI (F.MOTm_VDQ_Q m) vq

/-- The first of a pair's three currents at the overcurrent limit. -/
def pairOver (m : Fin 4) (ia ib : Int) (s : State) : Option Int :=
  [ia, ib, -ia - ib].find? fun i => decide (s.get (F.MOTm_LIM_IOC m) ≤ i.natAbs)

theorem currentPair_of_run {a b : Nat} (hrun : motSt m s = moRUN) (hasked : s.mot[m].asked = true) (ha : 4096 ≤ a * 18) (hb : 4096 ≤ b * 18) :
    ∃ (v : State) (accQ vq : Int) (next : Nat × Nat × Nat), GathOnly s v ∧
      currentPair m a b s = motSetCond m 0 (pairOver m (motScale m a v) (motScale m b v) v).isSome ((pairOver m (motScale m a v) (motScale m b v) v).getD 0)
        (loopDone m (axisD m (pairD v.mot[m].theta (motScale m a v) (motScale m b v)) v).2 accQ next
          (pairD v.mot[m].theta (motScale m a v) (motScale m b v)) (pairQ v.mot[m].theta (motScale m a v) (motScale m b v))
          (axisD m (pairD v.mot[m].theta (motScale m a v) (motScale m b v)) v).1 vq v) := by
  obtain ⟨ga, hga⟩ := mcurGuard_of_valid ha (Fin.ofNat 8 (2 * m.val)) s
  obtain ⟨gb, hgb⟩ := mcurGuard_of_valid hb (Fin.ofNat 8 (2 * m.val + 1)) { s with gath := ga }
  have hfed : GathOnly s (seqFeed 3 (2 * m.val + 1) ((b : Int) - 2048) (seqFeed 3 (2 * m.val) ((a : Int) - 2048) { s with gath := gb })) :=
    (GathOnly.trans ⟨gb, s.timers, rfl⟩ (seqFeed_gathOnly _ _ _ _)).trans (seqFeed_gathOnly _ _ _ _)
  unfold currentPair
  rw [if_neg (by rw [motSwitches_of_run hrun, hasked]; decide)]
  extract_lets pa pb fed ia ib ic align th ibeta id iq lim refD refQ vlim kp ki d ql q per adv tho va vbeta vb vc voff ton s1 s2 ioc hit
  have hpa : pa = ({ s with gath := ga }, (a : Int)) := hga
  have hpb : pb = ({ s with gath := gb }, (b : Int)) := by
    show mcurGuard _ b pa.1 = _
    rw [hpa]
    exact hgb
  have hfedOnly : GathOnly s fed := by
    show GathOnly s (seqFeed 3 (2 * m.val + 1) (pb.2 - 2048) (seqFeed 3 (2 * m.val) (pa.2 - 2048) pb.1))
    rw [hpa, hpb]
    exact hfed
  have hst : motSt m fed = moRUN := by
    obtain ⟨g, timers, hg⟩ := hfedOnly
    rw [hg]
    exact hrun
  have hia : motScale m a fed = ia := by
    show _ = motScale m pa.2 fed
    rw [hpa]
  have hib : motScale m b fed = ib := by
    show _ = motScale m pb.2 fed
    rw [hpb]
  have hrotates : align = false := by
    show (motSt m fed == moALIGN) = false
    rw [hst]
    rfl
  have hrefD : refD = clampInt (fed.getI (F.MOTm_REF_IDREF m)) (-lim) lim := if_neg (by rw [hrotates]; decide)
  have hd : axisD m id fed = d := by
    show motAxis _ _ _ _ _ _ = motAxis kp ki fed.mot[m].accD (refD - id) vlim vlim
    rw [hrefD]
  refine ⟨fed, q.2, q.1, (motOn va voff per ton, motOn vb voff per ton, motOn vc voff per ton), hfedOnly, ?_⟩
  rw [hia, hib]
  show motSetCond m 0 hit.isSome (hit.getD 0) s2 = motSetCond m 0 hit.isSome (hit.getD 0)
    (loopDone m (axisD m id fed).2 q.2 (motOn va voff per ton, motOn vb voff per ton, motOn vc voff per ton) id iq (axisD m id fed).1 q.1 fed)
  rw [hd]
  rfl

end Sys2Proof.Machine
end

section
/-!
PROOFS. A completed current pair, and the settlement of the motor period (R86, R468 to R471).
-/
namespace Sys2Proof.Machine

set_option Elab.async false

variable {s t u v : State} {m : Fin 4} {l : List Nat}

/-! ## The frame of the samplers -/

theorem GathOnly.get (h : GathOnly s t) (f : Fld) : t.get f = s.get f := by
  obtain ⟨g, q, rfl⟩ := h
  rfl

theorem GathOnly.keeps (h : GathOnly s t) (l : List Nat) : Keeps l s t := by
  obtain ⟨g, q, rfl⟩ := h
  exact (Keeps.refl l s).congr rfl rfl rfl

theorem GathOnly.same (h : GathOnly s t) : t.mot = s.mot ∧ t.log = s.log ∧ t.clk = s.clk := by
  obtain ⟨g, q, rfl⟩ := h
  exact ⟨rfl, rfl, rfl⟩

/-- With no shadow stage a conversion gives its code and nothing else. -/
theorem gTake_of_idle {b : Fin 3} (h : (gBank b s).stage = .idle) (k c : Nat) (raw : BitVec 12) (shadow : Option (BitVec 12)) :
    gTake b k c raw shadow s = (s, sarCode b (gSliceAt b k c s) raw s) := by
  have hnot : ¬ (((gBank b s).stage = .shadow ∨ (gBank b s).stage = .shadowAgain) ∧ (gBank b s).count < 256 ∧ gLaneOf b (gBank b s).cand s = some k) := by
    rw [h]
    rintro ⟨hstage | hstage, -⟩
    · exact absurd hstage (by decide)
    · exact absurd hstage (by decide)
  unfold gTake gCompare
  dsimp only
  rw [if_neg hnot]

/-- A served pair in its time goes to the loop. -/
theorem execPair_of_served (hat : s.mot[m].pairAt ≤ s.clk.ns) (hserved : gServed 2 (m.val / 2) (s.mot[m].pairAt - 100) s = true)
    (hidle : (gBank 2 s).stage = .idle) (rawA rawB : BitVec 12) : execCurrentPairComplete m ⟨rawA, none⟩ ⟨rawB, none⟩ s =
      .next (currentPair m (sarCode 2 (gSliceAt 2 (m.val / 2) (s.mot[m].pairAt - 200) s) rawA s).toNat
        (sarCode 2 (gSliceAt 2 (m.val / 2) (s.mot[m].pairAt - 100) s) rawB s).toNat s) := by
  have hgo : ¬ (s.clk.ns < s.mot[m].pairAt ∨ (!gServed 2 (m.val / 2) (s.mot[m].pairAt - 100) s) = true) := by
    rintro (hlt | hnot)
    · exact absurd hat (Nat.not_le.mpr hlt)
    · rw [hserved] at hnot
      exact absurd hnot (by decide)
  unfold execCurrentPairComplete
  dsimp only
  rw [if_neg hgo, gTake_of_idle hidle]
  dsimp only
  rw [gTake_of_idle hidle, Nat.sub_sub]

theorem execPair_of_unserved {a b : Conversion}
    (h : s.clk.ns < s.mot[m].pairAt ∨ gServed 2 (m.val / 2) (s.mot[m].pairAt - 100) s = false) : execCurrentPairComplete m a b s = .next s :=
  if_pos (h.imp id fun hnot => by rw [hnot]; rfl)

theorem currentPair_of_unasked (h : s.mot[m].asked = false) (a b : Nat) : currentPair m a b s = s :=
  if_pos (by rw [h, Bool.not_false, Bool.or_true])

theorem execPair_of_unasked (h : s.mot[m].asked = false) (hidle : (gBank 2 s).stage = .idle) (rawA rawB : BitVec 12) :
    execCurrentPairComplete m ⟨rawA, none⟩ ⟨rawB, none⟩ s = .next s := by
  by_cases hgo : s.clk.ns < s.mot[m].pairAt ∨ gServed 2 (m.val / 2) (s.mot[m].pairAt - 100) s = false
  · exact execPair_of_unserved hgo
  · rw [not_or, Nat.not_lt, Bool.not_eq_false] at hgo
    rw [execPair_of_served hgo.left hgo.right hidle, currentPair_of_unasked h]

/-! ## The results (R470) -/

theorem State.get_putI_same {f : Fld} (hf : fldFits f = true) (v : Int) (s : State) : (s.putI f v).get f = ofSigned f.width v :=
  State.get_put_of_lt hf (BitVec.isLt _) s

theorem State.get_putI_apart {f g : Fld} (h : fldApart f g = true) (v : Int) (s : State) : (s.putI f v).get g = s.get g := State.get_put_apart h _ s

theorem moIdq_fits : ∀ m : Fin 4, fldFits (F.MOTm_IDQ_D m) = true ∧ fldFits (F.MOTm_IDQ_Q m) = true ∧ fldFits (F.MOTm_VDQ_D m) = true := by decide

/-- The results of the loop share no bit. -/
theorem moIdq_apart : ∀ m : Fin 4, fldApart (F.MOTm_IDQ_Q m) (F.MOTm_IDQ_D m) = true ∧ fldApart (F.MOTm_VDQ_D m) (F.MOTm_IDQ_D m) = true ∧
    fldApart (F.MOTm_VDQ_Q m) (F.MOTm_IDQ_D m) = true ∧ fldApart (F.MOTm_VDQ_D m) (F.MOTm_IDQ_Q m) = true ∧
    fldApart (F.MOTm_VDQ_Q m) (F.MOTm_IDQ_Q m) = true ∧ fldApart (F.MOTm_VDQ_Q m) (F.MOTm_VDQ_D m) = true := by decide

section
variable (accD accQ : Int) (next : Nat × Nat × Nat) (id iq vd vq : Int)

theorem loopDone_results (m : Fin 4) (s : State) : (loopDone m accD accQ next id iq vd vq s).get (F.MOTm_IDQ_D m) = ofSigned 16 id ∧
    (loopDone m accD accQ next id iq vd vq s).get (F.MOTm_IDQ_Q m) = ofSigned 16 iq ∧
    (loopDone m accD accQ next id iq vd vq s).get (F.MOTm_VDQ_D m) = ofSigned 16 vd := by
  obtain ⟨hfitD, hfitQ, hfitV⟩ := moIdq_fits m
  obtain ⟨hqd, hvd, hvqd, hvq, hvqq, hvv⟩ := moIdq_apart m
  unfold loopDone
  refine ⟨?_, ?_, ?_⟩
  · rw [State.get_putI_apart hvqd, State.get_putI_apart hvd, State.get_putI_apart hqd, State.get_putI_same hfitD]
    rfl
  · rw [State.get_putI_apart hvqq, State.get_putI_apart hvq, State.get_putI_same hfitQ]
    rfl
  · rw [State.get_putI_apart hvv, State.get_putI_same hfitV]
    rfl

theorem loopDone_keeps (m : Fin 4) (s : State) : Keeps [Reg.MOTm_IDQ m, Reg.MOTm_VDQ m] s (loopDone m accD accQ next id iq vd vq s) :=
  (((((Keeps.refl _ s).motUpd m _).put _ (f := F.MOTm_IDQ_D m) (.head _)).put _ (f := F.MOTm_IDQ_Q m) (.head _)).put _ (f := F.MOTm_VDQ_D m)
    (.tail _ (.head _))).put _ (f := F.MOTm_VDQ_Q m) (.tail _ (.head _))

theorem loopDone_mot (m : Fin 4) (s : State) : (loopDone m accD accQ next id iq vd vq s).mot[m] =
    { s.mot[m] with accD := accD, accQ := accQ, asked := false, next := some next } :=
  motUpd_same m (fun x => { x with accD := accD, accQ := accQ, asked := false, next := some next }) s

theorem loopDone_same (m : Fin 4) (s : State) :
    (loopDone m accD accQ next id iq vd vq s).log = s.log ∧ (loopDone m accD accQ next id iq vd vq s).clk = s.clk := ⟨rfl, rfl⟩

end

theorem moIdq_notStat : ∀ m : Fin 4, Reg.MOTm_STAT m ∉ [Reg.MOTm_IDQ m, Reg.MOTm_VDQ m] ∧ Reg.MOTm_IDQ m ∉ [Reg.MOTm_STAT m] ∧
    Reg.MOTm_VDQ m ∉ [Reg.MOTm_STAT m] ∧ motFree m [Reg.MOTm_IDQ m, Reg.MOTm_VDQ m] = true := by decide

/-- Beside one condition none is new, by a mask that leaves that one out. -/
theorem noNewBut_of_mask {f mask old : Nat} (hmask : ∀ g < 7, g ≠ f → mask.testBit g = true) (h : motConds m s &&& (mask ^^^ old &&& mask) = 0) :
    ∀ g < 7, g ≠ f → motActs m g s = true → motRaw m g s = true → old.testBit g = true := by
  intro g hg hne hacts hraw
  have hbit : (motConds m s &&& (mask ^^^ old &&& mask)).testBit g = false := by rw [h, Nat.zero_testBit]
  rw [Nat.testBit_and, Nat.testBit_xor, Nat.testBit_and, motConds_testBit hg, hacts, hraw, hmask g hg hne] at hbit
  simpa using hbit

theorem MotLike.noNewBut {f old : Nat} (h : MotLike m s t) (hcond : t.get (F.MOTm_STAT_COND m) = s.get (F.MOTm_STAT_COND m))
    (hs : ∀ g < 7, g ≠ f → motActs m g s = true → motRaw m g s = true → old.testBit g = true) :
    ∀ g < 7, g ≠ f → motActs m g t = true → motRaw m g t = true → old.testBit g = true := by
  intro g hg hne hacts hraw
  rw [h.acts] at hacts
  refine hs g hg hne hacts ?_
  by_cases hkept : g = 1 ∨ g = 2 ∨ g = 3 ∨ g = 4
  · rwa [h.raw g hkept] at hraw
  · rw [motRaw_kept (by omega)] at hraw ⊢
    unfold State.bit at *
    rwa [hcond] at hraw

/-- The loop with no current at the overcurrent limit. -/
theorem motSetCond_of_loop {id : Int} {accD accQ iq vd vq : Int} {next : Nat × Nat × Nat} (hv : GathOnly s v)
    (hcond : motConds m s &&& (0x7E ^^^ s.get (F.MOTm_STAT_COND m) &&& 0x7E) = 0)
    (ht : t = motSetCond m 0 false 0 (loopDone m accD accQ next id iq vd vq v)) :
    t.get (F.MOTm_IDQ_D m) = ofSigned 16 id ∧ t.get (F.MOTm_IDQ_Q m) = ofSigned 16 iq ∧ t.get (F.MOTm_VDQ_D m) = ofSigned 16 vd ∧
      t.mot[m].accD = accD ∧ t.mot[m].next.isSome = true ∧ t.mot[m].asked = false ∧ t.mot[m].phase = s.mot[m].phase ∧ NoLog s t ∧ SameMem s t := by
  obtain ⟨hmotv, hlogv, hclkv⟩ := hv.same
  obtain ⟨hnotStat, hnotIdq, hnotVdq, hfree⟩ := moIdq_notStat m
  obtain ⟨hlogL, hclkL⟩ := loopDone_same accD accQ next id iq vd vq m v
  have hkeeps := (hv.keeps _).trans (loopDone_keeps accD accQ next id iq vd vq m v)
  have hmot := loopDone_mot accD accQ next id iq vd vq m v
  obtain ⟨hd, hq, hvd⟩ := loopDone_results accD accQ next id iq vd vq m v
  generalize loopDone m accD accQ next id iq vd vq v = L at *
  have hcondL : L.get (F.MOTm_STAT_COND m) = s.get (F.MOTm_STAT_COND m) := hkeeps.get hnotStat
  have hlike : MotLike m s L := .of_keeps hkeeps hfree (motSwitches_congr (hkeeps.get hnotStat)) (by rw [hmot, hmotv]) (by rw [hmot, hmotv])
    (hclkL.trans hclkv)
  have hmask : ∀ g < 7, g ≠ 0 → (0x7E : Nat).testBit g = true := by decide
  have hnew := hlike.noNewBut hcondL (noNewBut_of_mask hmask hcond)
  obtain ⟨hstep, -, -⟩ := motSetCond_quiet (s := L) (f := 0) (.inl rfl)
    (fun g hg hne hga hgr => by rw [motOld, Nat.testBit_or, hcondL, hnew g hg hne hga hgr, Bool.true_or]) 0
  obtain ⟨w, hw⟩ := hstep.mot
  rw [ht]
  refine ⟨(hstep.keeps.get hnotIdq).trans hd, (hstep.keeps.get hnotIdq).trans hq, (hstep.keeps.get hnotVdq).trans hvd, ?_, ?_, ?_, ?_, ?_,
    hkeeps.sameMem.trans hstep.keeps.sameMem⟩
  · rw [hw, hmot]
  · rw [hw, hmot]
    rfl
  · rw [hw, hmot]
  · rw [hw, hmot, hmotv]
  · exact congrArg LogSt.reqs (hstep.log.trans (hlogL.trans hlogv))

/-- No current of the pair is at the limit. -/
theorem pairOver_none {ia ib : Int} (ha : ia.natAbs < s.get (F.MOTm_LIM_IOC m)) (hb : ib.natAbs < s.get (F.MOTm_LIM_IOC m))
    (hc : (ia + ib).natAbs < s.get (F.MOTm_LIM_IOC m)) : pairOver m ia ib s = none := by
  have hsum : (-ia - ib).natAbs = (ia + ib).natAbs := by omega
  refine List.find?_eq_none.mpr fun x hx => ?_
  rw [decide_eq_true_eq, Nat.not_le]
  simp only [List.mem_cons, List.not_mem_nil, or_false] at hx
  obtain rfl | rfl | rfl := hx
  · exact ha
  · exact hb
  · exact hsum ▸ hc

theorem motScale_congr (h : GathOnly s v) (c : Int) : motScale m c v = motScale m c s := by
  unfold motScale
  rw [h.get, h.get]

theorem axisD_congr (h : GathOnly s v) (id : Int) : axisD m id v = axisD m id s := by
  unfold axisD State.getI
  rw [h.get, h.get, h.get, h.get, h.get, h.same.left]

/-- A completed pair in RUN (R469, R470). -/
theorem does_pair {rawA rawB : BitVec 12} {a b : Nat} (hrun : motSt m s = moRUN) (hasked : s.mot[m].asked = true) (hat : s.mot[m].pairAt ≤ s.clk.ns)
    (hserved : gServed 2 (m.val / 2) (s.mot[m].pairAt - 100) s = true) (hidle : (gBank 2 s).stage = .idle)
    (hcodeA : sarCode 2 (gSliceAt 2 (m.val / 2) (s.mot[m].pairAt - 200) s) rawA s = a)
    (hcodeB : sarCode 2 (gSliceAt 2 (m.val / 2) (s.mot[m].pairAt - 100) s) rawB s = b) (ha : 4096 ≤ a * 18) (hb : 4096 ≤ b * 18)
    (hcond : motConds m s &&& (0x7E ^^^ s.get (F.MOTm_STAT_COND m) &&& 0x7E) = 0)
    (hia : (motScale m a s).natAbs < s.get (F.MOTm_LIM_IOC m)) (hib : (motScale m b s).natAbs < s.get (F.MOTm_LIM_IOC m))
    (hic : (motScale m a s + motScale m b s).natAbs < s.get (F.MOTm_LIM_IOC m)) :
    Does (.currentPairComplete m ⟨rawA, none⟩ ⟨rawB, none⟩) s fun t =>
      t.get (F.MOTm_IDQ_D m) = ofSigned 16 (pairD s.mot[m].theta (motScale m a s) (motScale m b s)) ∧
      t.get (F.MOTm_IDQ_Q m) = ofSigned 16 (pairQ s.mot[m].theta (motScale m a s) (motScale m b s)) ∧
      t.get (F.MOTm_VDQ_D m) = ofSigned 16 (axisD m (pairD s.mot[m].theta (motScale m a s) (motScale m b s)) s).1 ∧
      t.mot[m].accD = (axisD m (pairD s.mot[m].theta (motScale m a s) (motScale m b s)) s).2 ∧
      t.mot[m].next.isSome = true ∧ t.mot[m].asked = false ∧ t.mot[m].phase = s.mot[m].phase ∧ NoLog s t ∧ SameMem s t := by
  refine ⟨_, execPair_of_served hat hserved hidle rawA rawB, ?_⟩
  rw [hcodeA, hcodeB, Int.toNat_natCast, Int.toNat_natCast]
  obtain ⟨v, accQ, vq, next, hv, hpair⟩ := currentPair_of_run hrun hasked ha hb
  have hover : pairOver m (motScale m a s) (motScale m b s) v = none := pairOver_none (by rw [hv.get]; exact hia) (by rw [hv.get]; exact hib)
    (by rw [hv.get]; exact hic)
  rw [motScale_congr hv, motScale_congr hv, axisD_congr hv, hv.same.left, hover] at hpair
  exact motSetCond_of_loop hv hcond hpair

/-! ## The settlement -/

theorem periodStart_of_off (h : motorEn m s = false) : periodStart m s = s := if_pos (by rw [h]; rfl)

theorem latchedAngle_of_run (h : motSt m s = moRUN) : latchedAngle m s = (motAngle m 0 s + s.get (F.MOTm_THOFS_THOFS m)) % 65536 :=
  if_neg (by rw [h]; decide)

theorem motSwitches_of_align (h : motSt m s = moALIGN) : motSwitches m s = true := by rw [motSwitches, h]; rfl

/-- Settles O53, the starts of a period by the state of the motor and its on-times, then the sample request and the current loop. -/
theorem motorPeriod : Obligations.MotorPeriod := by
  unfold Obligations.MotorPeriod
  refine ⟨fun s m x ons hen hrun _ hcond hspm hnext hnot _ => ⟨_, rfl, ?pulses⟩, fun s m hen hrun hfirst hnext hcond hresp hnot hnew hcleared => ⟨_, rfl, ?late⟩,
    fun s m hen hinert hrel hfirst hnext hstart hconds hnot => ⟨_, rfl, ?release⟩,
    fun s m hen halign hnext hdue hconds _ hnot _ => ⟨_, rfl, ?aligned⟩, fun s m hoff => ⟨_, rfl, periodStart_of_off hoff⟩,
    fun s m hrun => ⟨_, rfl, ?sample⟩, fun s m halign => ⟨_, rfl, ?alignSample⟩,
    fun s m rawA rawB a b hrun hasked hat hserved hidle hcodeA hcodeB ha hb hcond hlimits _ => ?pair,
    fun s m a b hnot => ⟨_, execPair_of_unserved hnot, rfl⟩, fun s m rawA rawB hasked hidle => ⟨_, execPair_of_unasked hasked hidle rawA rawB, rfl⟩⟩
  case pulses => exact does_pulses x hen hrun (noNewCond_of_mask hcond) hspm hnext hnot rfl
  case late => exact does_late hen hrun hfirst hnext hcond hresp hnot (noNewCond_of_mask hnew) hcleared rfl
  case release => exact does_release hen hinert hrel hfirst hnext hstart hconds hnot rfl
  case aligned => exact does_alignedPeriod hen halign hnext hdue hconds hnot rfl
  case sample =>
    obtain ⟨hlane, hpair, hasked, hnow, hlater, hlog, hkeeps⟩ := sampleRequest_does (motSwitches_of_run hrun) rfl
    rw [latchedAngle_of_run hrun] at hnow
    exact ⟨hlane, hpair, hasked, hnow, hlater, hlog, hkeeps⟩
  case alignSample =>
    obtain ⟨-, -, hasked, hnow, -, hlog, hkeeps⟩ := sampleRequest_does (motSwitches_of_align halign) rfl
    exact ⟨fun hle => (hnow hle).left.trans (if_pos halign), hasked, hlog, hkeeps⟩
  case pair =>
    obtain ⟨hia, hib, hic⟩ := hlimits
    exact does_pair hrun hasked hat hserved hidle hcodeA hcodeB ha hb hcond hia hib hic

end Sys2Proof.Machine
end

section
/-!
PROOFS. The Trio's write of MOTm_CTL: from the bus to the motor, and what Basic level derives after it (R11, R15, R465, R466, R475).
-/
namespace Sys2Proof.Machine

set_option Elab.async false

variable {s t u v : State} {m : Fin 4} {l : List Nat}

/-! ## What Basic level derives (R465, R466) -/

/-- The registers that Basic level derives for the motors. -/
def derivedRegs : List Nat := (List.range 4).flatMap fun k => [Reg.MOTm_PWM k, Reg.MOTm_DT k]

/-- Of the registers only those change that Basic level derives; the hidden state that a motor's statements speak of stays. -/
structure MotDerived (s t : State) : Prop where
  keeps : Keeps derivedRegs s t
  log : t.log = s.log
  mot : t.mot = s.mot
  timers : t.timers = s.timers
  clk : t.clk = s.clk
  dom : t.dom = s.dom

theorem MotDerived.refl (s : State) : MotDerived s s := ⟨.refl _ s, rfl, rfl, rfl, rfl, rfl⟩

theorem MotDerived.trans (h : MotDerived s t) (k : MotDerived t u) : MotDerived s u :=
  ⟨h.keeps.trans k.keeps, k.log.trans h.log, k.mot.trans h.mot, k.timers.trans h.timers, k.clk.trans h.clk, k.dom.trans h.dom⟩

theorem storeIf_derived {a : Nat} (hplain : shadowRails a = []) (ha : a ∈ derivedRegs) (w : Word) (s : State) : MotDerived s (s.storeIf a w) := by
  have hstore : s.store a w = s.wr a w := by rw [State.store, hplain]; rfl
  unfold State.storeIf
  split
  next => exact .refl s
  next =>
    rw [hstore]
    exact ⟨(Keeps.refl _ s).wr w ha, rfl, rfl, rfl, rfl, rfl⟩

theorem derived_plain : ∀ m : Fin 4, (shadowRails (Reg.MOTm_PWM m) = [] ∧ Reg.MOTm_PWM m ∈ derivedRegs) ∧
    shadowRails (Reg.MOTm_DT m) = [] ∧ Reg.MOTm_DT m ∈ derivedRegs := by decide

theorem motDerive_derived (m : Fin 4) (s : State) : MotDerived s (motDerive m s) :=
  have hplain := derived_plain m
  (storeIf_derived hplain.left.left hplain.left.right _ s).trans (storeIf_derived hplain.right.left hplain.right.right _ _)

theorem deriveBlock_motor (s : State) : MotDerived s (deriveBlock 0x11 s) :=
  State.each_rel MotDerived .refl (fun _ _ _ => .trans) _ _ (fun m t => motDerive_derived m t) s

theorem derived_atLevel (expert : Bool) (s : State) : MotDerived s (if expert then s else deriveBlock 0x11 s) := by
  cases expert
  · exact deriveBlock_motor s
  · exact .refl s

/-- A field outside the derived registers. -/
theorem MotDerived.get (h : MotDerived s t) {f : Fld} (hf : f.addr ∉ derivedRegs) : t.get f = s.get f := h.keeps.get hf

/-! ## From the bus to the motor (R11, R15) -/

/-- A state in which the effect of a write begins: the bus error is clear, and an attempt at most has been counted (R15, R333). -/
structure EffectBegins (s u : State) : Prop where
  keeps : Keeps [Reg.SYS_IGNWR] s u
  log : u.log = s.log
  mot : u.mot = s.mot
  timers : u.timers = s.timers
  clk : u.clk = s.clk
  dom : u.dom = s.dom

theorem EffectBegins.get (h : EffectBegins s u) {f : Fld} (hf : f.addr ≠ Reg.SYS_IGNWR) : u.get f = s.get f :=
  h.keeps.get fun hmem => hf (List.mem_singleton.mp hmem)

/-- The row of MOTm_CTL. -/
def motCtlRow : RegRow := rowsMOT1[3]

theorem rowFor_motCtl : ∀ m : Fin 4, rowFor (Reg.MOTm_CTL m) = some motCtlRow := by decide +kernel

theorem motCtl_basic : ∀ m : Fin 4, basicField (F.MOTm_CTL_EN m) motCtlRow = true ∧ basicField (F.MOTm_CTL_DOM m) motCtlRow = true ∧
    basicField (F.MOTm_CTL_ALIGN m) motCtlRow = true := by decide

theorem motCtl_slot : ∀ m : Fin 4, Reg.MOTm_CTL m / 65536 = 0x4011 ∧ Reg.MOTm_CTL m % 4 = 0 ∧ Reg.MOTm_CTL m ≠ ctlOf (Reg.MOTm_CTL m) ∧
    ownedSlot (Reg.MOTm_CTL m) = true ∧ at1 (Reg.MOTm_CTL m) (Reg.MOTm_CTL 0) 4 0x80 = some m.val ∧ Reg.MOTm_CTL m ≠ Reg.CAP_CTL ∧
    Reg.MOTm_CTL m ≠ Reg.PWR_REQ0 ∧ Reg.MOTm_CTL m ≠ Reg.PWR_REQ1 := by decide

/-- The effect of a write of MOTm_CTL (R475, R477). -/
theorem writeMotor_ctl (m : Fin 4) (agent : Agent) (w : Word) (s : State) :
    writeMotor agent (Reg.MOTm_CTL m) w s = if w.getLsbD 0 then motEnable m w s else motDisable m w s := by
  obtain ⟨-, -, -, -, hat, hcap, hreq0, hreq1⟩ := motCtl_slot m
  unfold writeMotor
  rw [if_neg hcap, if_neg hreq0, if_neg hreq1]
  dsimp only
  rw [onAt_of_some hat, Fin.ofNat_val_eq_self]

/-- The Trio's write of MOTm_CTL reaches the motor with the fields that the writer may write. -/
theorem busWrite_motCtl (hon : slotOn (Reg.MOTm_CTL m) s = true) (v : Word) : ∃ (w : Word) (u : State), EffectBegins s u ∧
    (fldOf (F.MOTm_CTL_EN m) w = fldOf (F.MOTm_CTL_EN m) v ∧ fldOf (F.MOTm_CTL_DOM m) w = fldOf (F.MOTm_CTL_DOM m) v ∧
      fldOf (F.MOTm_CTL_ALIGN m) w = fldOf (F.MOTm_CTL_ALIGN m) v) ∧
    MotDerived (if w.getLsbD 0 then motEnable m w u else motDisable m w u) (busWrite .trio (Reg.MOTm_CTL m) v 0 s) := by
  obtain ⟨hslot, hword, hctl, howned, -⟩ := motCtl_slot m
  obtain ⟨hen, hdom, halign⟩ := motCtl_basic m
  have hans : answered .trio (Reg.MOTm_CTL m) { s with busErr := false } = true := by
    have hslotOn : slotOn (Reg.MOTm_CTL m) { s with busErr := false } = true := hon
    simp [answered, howned, hword, hslotOn, reaches]
  have hirq : ∀ t : State, irqSeen (Reg.MOTm_CTL m) t = t := fun t => if_neg fun h => by omega
  have hmay := mayWrite_of_basic (r := motCtlRow) (by decide) (({ s with busErr := false } : State).expertAt (Reg.MOTm_CTL m))
  obtain ⟨u, hu, hrun⟩ := fieldWrite_plain .trio (Reg.MOTm_CTL m) v { s with busErr := false } motCtlRow (rowFor_motCtl m) rfl hctl hmay
  have hclear : EffectBegins s { s with busErr := false } := ⟨(Keeps.refl _ s).congr rfl rfl rfl, rfl, rfl, rfl, rfl, rfl⟩
  have hbegin : EffectBegins s u := by
    obtain rfl | rfl := hu
    · exact hclear
    · exact ⟨hclear.keeps.inc 1 (.head _), rfl, rfl, rfl, rfl, rfl⟩
  refine ⟨writtenWord motCtlRow (({ s with busErr := false } : State).expertAt (Reg.MOTm_CTL m)) v (({ s with busErr := false } : State).rd (Reg.MOTm_CTL m)), u,
    hbegin, ⟨fldOf_writtenWord_basic hen _ v _, fldOf_writtenWord_basic hdom _ v _, fldOf_writtenWord_basic halign _ v _⟩, ?_⟩
  have heffect : ∀ (w : Word) (t : State), writeEffect .trio (Reg.MOTm_CTL m) w t = writeMotor .trio (Reg.MOTm_CTL m) w t := fun w t => by
    simp only [writeEffect, hslot]
  have hblock : Reg.MOTm_CTL m / 65536 % 256 = 0x11 := by rw [hslot]
  rw [busWrite_fields .trio (Reg.MOTm_CTL m) v 0 s motCtlRow hans (by decide) (by omega) (by omega) (rowFor_motCtl m) rfl, hirq, hrun, heffect,
    writeMotor_ctl, hblock]
  exact derived_atLevel _ _

/-! ## The written word -/

/-- MOTm_CTL written, with the motor not enabled yet (R475). -/
def ctlStored (m : Fin 4) (w : Word) (s : State) : State := (s.wr (Reg.MOTm_CTL m) w).put (F.MOTm_CTL_EN m) 0

theorem moCtl_apart : ∀ m : Fin 4, fldApart (F.MOTm_CTL_EN m) (F.MOTm_CTL_DOM m) = true ∧ fldApart (F.MOTm_CTL_EN m) (F.MOTm_CTL_ALIGN m) = true ∧
    fldFits (F.MOTm_CTL_DOM m) = true ∧ fldFits (F.MOTm_CTL_ALIGN m) = true := by decide

theorem ctlStored_keeps (m : Fin 4) (w : Word) (s : State) : Keeps [Reg.MOTm_CTL m] s (ctlStored m w s) :=
  ((Keeps.refl _ s).wr w (.head _)).put 0 (f := F.MOTm_CTL_EN m) (.head _)

theorem ctlStored_en (m : Fin 4) (w : Word) (s : State) : motorEn m (ctlStored m w s) = false := State.on_put_zero (moEn_fits m) _

theorem ctlStored_dom (m : Fin 4) (w : Word) (s : State) : (ctlStored m w s).get (F.MOTm_CTL_DOM m) = fldOf (F.MOTm_CTL_DOM m) w := by
  obtain ⟨happart, -, hfits, -⟩ := moCtl_apart m
  exact (State.get_put_apart happart 0 _).trans (State.get_wr_same hfits rfl s w)

theorem ctlStored_align (m : Fin 4) (w : Word) (s : State) : (ctlStored m w s).get (F.MOTm_CTL_ALIGN m) = fldOf (F.MOTm_CTL_ALIGN m) w := by
  obtain ⟨-, happart, -, hfits⟩ := moCtl_apart m
  exact (State.get_put_apart happart 0 _).trans (State.get_wr_same hfits rfl s w)

end Sys2Proof.Machine
end

section
/-!
PROOFS. A motor is enabled, refused or disabled by a write of MOTm_CTL (R465, R475, R477).
-/
namespace Sys2Proof.Machine

set_option Elab.async false

variable {s t u v x : State} {m : Fin 4} {l : List Nat} {w value : Word}

/-! ## The written EN bit -/

theorem ctlEn_bit (m : Fin 4) (w : Word) : w.getLsbD 0 = (fldOf (F.MOTm_CTL_EN m) w).testBit 0 := by
  rw [fldOf_bit]
  rfl

/-- A write with EN set has the other fields of the word. -/
theorem ctlFields_or_one (m : Fin 4) (v : Word) : fldOf (F.MOTm_CTL_DOM m) (v ||| 1) = fldOf (F.MOTm_CTL_DOM m) v ∧
    fldOf (F.MOTm_CTL_ALIGN m) (v ||| 1) = fldOf (F.MOTm_CTL_ALIGN m) v := by
  have hone : ∀ m : Fin 4, fldOf (F.MOTm_CTL_DOM m) 1 = 0 ∧ fldOf (F.MOTm_CTL_ALIGN m) 1 = 0 := by decide
  obtain ⟨hdom, halign⟩ := hone m
  exact ⟨by rw [fldOf_or, hdom, Nat.or_zero], by rw [fldOf_or, halign, Nat.or_zero]⟩

theorem ctlEn_or_one (m : Fin 4) (h : fldOf (F.MOTm_CTL_EN m) w = fldOf (F.MOTm_CTL_EN m) (value ||| 1)) : w.getLsbD 0 = true := by
  rw [ctlEn_bit m, h, ← ctlEn_bit, BitVec.getLsbD_or]
  simp

theorem ctlEn_and_not_one (m : Fin 4) (h : fldOf (F.MOTm_CTL_EN m) w = fldOf (F.MOTm_CTL_EN m) (value &&& ~~~1)) : w.getLsbD 0 = false := by
  rw [ctlEn_bit m, h, ← ctlEn_bit, BitVec.getLsbD_and]
  simp

/-! ## The reasons for a refusal (R89, R475) -/

theorem Keeps.pdOn (h : Keeps l s t) (h0 : F.PWR_ON0_ON.addr ∉ l) (h1 : F.PWR_ON1_ON.addr ∉ l) (n : Nat) : pdOn n t = pdOn n s := by
  unfold Machine.pdOn State.bit
  rw [h.get h0, h.get h1]

/-- The channel that a source names; 4 where it names none. -/
def fbOfSrc (src : Nat) : Nat := if 4 ≤ src ∧ src ≤ 7 then src - 4 else 4

theorem fbOfSrc_le (src : Nat) : fbOfSrc src ≤ 4 := by
  unfold fbOfSrc
  split <;> omega

/-- Why an enable with domain `d` is refused. -/
def refusalOf (m : Fin 4) (d : Fin 8) (s : State) : Option Nat :=
  let f := fbOfSrc s.dom[d].src
  if !pdOn (26 + m) s || !pdOn 48 s || s.get (gLaneFld 2 (m.val / 2)) == 15 || (f < 4 && !pdOn (50 + f) s) then some 1
  else if !s.on (F.ANGn_CTL_EN d) || f == 4 then some 2
  else if !s.on (F.FBf_CTL_EN f) then some 3
  else if s.mot[m].fltLow || (s.bit F.GATH_MFLT_MFLT (2 * m.val) || s.bit F.GATH_MFLT_MFLT (2 * m.val + 1)) then some 4
  else none

theorem motRefusal_eq (m : Fin 4) (s : State) : motRefusal m s = refusalOf m (motorDom m s) s := rfl

/-- A write of MOTm_CTL changes nothing that decides about a refusal but the domain. -/
theorem ctl_decides : ∀ m : Fin 4, F.PWR_ON0_ON.addr ∉ [Reg.MOTm_CTL m, Reg.SYS_IGNWR] ∧ F.PWR_ON1_ON.addr ∉ [Reg.MOTm_CTL m, Reg.SYS_IGNWR] ∧
    (gLaneFld 2 (m.val / 2)).addr ∉ [Reg.MOTm_CTL m, Reg.SYS_IGNWR] ∧ F.GATH_MFLT_MFLT.addr ∉ [Reg.MOTm_CTL m, Reg.SYS_IGNWR] ∧
    (∀ d : Fin 8, (F.ANGn_CTL_EN d).addr ∉ [Reg.MOTm_CTL m, Reg.SYS_IGNWR]) ∧
    ∀ f : Fin 5, (F.FBf_CTL_EN f).addr ∉ [Reg.MOTm_CTL m, Reg.SYS_IGNWR] := by decide

theorem refusalOf_congr (h : Keeps [Reg.MOTm_CTL m, Reg.SYS_IGNWR] s t) (hdom : t.dom = s.dom) (hmot : t.mot = s.mot) (d : Fin 8) :
    refusalOf m d t = refusalOf m d s := by
  obtain ⟨h0, h1, hlane, hflt, hang, hfb⟩ := ctl_decides m
  have hchan : t.on (F.FBf_CTL_EN (fbOfSrc s.dom[d].src)) = s.on (F.FBf_CTL_EN (fbOfSrc s.dom[d].src)) :=
    h.on (hfb ⟨fbOfSrc s.dom[d].src, Nat.lt_succ_of_le (fbOfSrc_le _)⟩)
  unfold refusalOf State.bit
  rw [hdom, hmot]
  dsimp only
  rw [h.pdOn h0 h1, h.pdOn h0 h1, h.pdOn h0 h1, h.get hlane, h.on (hang d), hchan, h.get hflt]

theorem EffectBegins.stored_keeps (h : EffectBegins s u) (m : Fin 4) (w : Word) : Keeps [Reg.MOTm_CTL m, Reg.SYS_IGNWR] s (ctlStored m w u) :=
  (h.keeps.mono (by simp)).trans ((ctlStored_keeps m w u).mono (by simp))

/-- Why the write is refused, by the state before it. -/
theorem refusal_stored (h : EffectBegins s u) {d : Fin 8} (hd : fldOf (F.MOTm_CTL_DOM m) w = d.val) :
    motRefusal m (ctlStored m w u) = refusalOf m d s := by
  have hdomain : motorDom m (ctlStored m w u) = d := by
    unfold motorDom
    rw [ctlStored_dom, hd, Fin.ofNat_val_eq_self]
  rw [motRefusal_eq, hdomain]
  exact refusalOf_congr (h.stored_keeps m w) h.dom h.mot d

theorem fbOfSrc_of_named {src : Nat} {f : Fin 4} (h : src = 4 + f.val) : fbOfSrc src = f.val := by
  unfold fbOfSrc
  rw [if_pos (by omega)]
  omega

theorem refusalOf_one {d : Fin 8} {f : Fin 4} (hsrc : s.dom[d].src = 4 + f.val)
    (h : pdOn (26 + m.val) s = false ∨ pdOn 48 s = false ∨ s.get (gLaneFld 2 (m.val / 2)) = 15 ∨ pdOn (50 + f.val) s = false) : refusalOf m d s = some 1 := by
  unfold refusalOf
  dsimp only
  rw [fbOfSrc_of_named hsrc]
  refine if_pos ?_
  obtain h | h | h | h := h <;> simp [h]

/-- With the domains on and the lane served, the reasons after the first. -/
theorem refusalOf_powered {d : Fin 8} (hmot : pdOn (26 + m.val) s = true) (hmux : pdOn 48 s = true) (hlane : s.get (gLaneFld 2 (m.val / 2)) ≠ 15)
    (hfb : fbOfSrc s.dom[d].src < 4 → pdOn (50 + fbOfSrc s.dom[d].src) s = true) : refusalOf m d s =
      if !s.on (F.ANGn_CTL_EN d) || fbOfSrc s.dom[d].src == 4 then some 2
      else if !s.on (F.FBf_CTL_EN (fbOfSrc s.dom[d].src)) then some 3
      else if s.mot[m].fltLow || (s.bit F.GATH_MFLT_MFLT (2 * m.val) || s.bit F.GATH_MFLT_MFLT (2 * m.val + 1)) then some 4
      else none := by
  have hchan : (decide (fbOfSrc s.dom[d].src < 4) && !pdOn (50 + fbOfSrc s.dom[d].src) s) = false := by
    by_cases hlt : fbOfSrc s.dom[d].src < 4
    · rw [hfb hlt, Bool.not_true, Bool.and_false]
    · rw [decide_eq_false hlt, Bool.false_and]
  unfold refusalOf
  dsimp only
  exact if_neg (by rw [hmot, hmux, hchan, beq_false_of_ne hlane]; decide)

/-! ## A refused enable (R475) -/

theorem motEnable_refused (hoff : motorEn m u = false) {why : Nat} (hwhy : motRefusal m (ctlStored m w u) = some why) :
    motEnable m w u = ((ctlStored m w u).setBit F.MOT_FLT_ENREF m).logReq 0x11 0x0002 [b8 m, b8 why] := by
  have heq : motEnable m w u = if motorEn m u then stallWatch m (motCheck m (u.wr (Reg.MOTm_CTL m) w))
      else match motRefusal m (ctlStored m w u) with
      | some why => ((ctlStored m w u).setBit F.MOT_FLT_ENREF m).logReq 0x11 0x0002 [b8 m, b8 why]
      | none => stallWatch m (motWatch m 0 0 ((motEnter m (motStart m (ctlStored m w u)) ((ctlStored m w u).put (F.MOTm_CTL_EN m) 1)).restart
          (4 - u.clk.ns % 4) (.pwmPeriodStart m))) := rfl
  rw [heq, hoff, hwhy]
  rfl

/-- An entry after steps that leave the clocks, the log and the domains. -/
theorem lastLog_of_logReq (hclk : t.clk = s.clk) (hlog : t.log = s.log) (hdom : t.dom = s.dom) (b c : Nat) (d : List Byte) :
    LastLog b c d s (t.logReq b c d) := by
  unfold LastLog
  rw [State.logReq_log, hclk, logAngle_congr hlog hdom]
  dsimp only
  rw [List.getLast?_concat]

theorem enref_fits : fldFits F.MOT_FLT_ENREF = true := by decide

/-- The registers of a motor's control and state are neither derived nor the flags of refusals. -/
theorem motCtl_apart : ∀ m : Fin 4, Reg.MOTm_CTL m ∉ derivedRegs ∧ Reg.MOTm_STAT m ∉ derivedRegs ∧ F.MOT_FLT_ENREF.addr ∉ derivedRegs ∧
    Reg.MOTm_CTL m ≠ F.MOT_FLT_ENREF.addr ∧ Reg.MOTm_STAT m ≠ F.MOT_FLT_ENREF.addr ∧ Reg.MOTm_STAT m ∉ [Reg.MOTm_CTL m, Reg.SYS_IGNWR] ∧
    Reg.MOTm_CTL m ≠ Reg.SYS_IGNWR := by decide

theorem MotDerived.sameMem (h : MotDerived s t) : SameMem s t := h.keeps.sameMem

/-- What a refused enable leaves (R475). -/
theorem does_refused (hon : slotOn (Reg.MOTm_CTL m) s = true) (hoff : s.on (F.MOTm_CTL_EN m) = false) {d : Fin 8}
    (hd : fldOf (F.MOTm_CTL_DOM m) value = d.val) {why : Nat} (hwhy : refusalOf m d s = some why) : Does (.motorEnable m value) s fun t =>
      motorEn m t = false ∧ t.mot = s.mot ∧ motSt m t = motSt m s ∧ t.bit F.MOT_FLT_ENREF m = true ∧ LastLog 0x11 2 [b8 m.val, b8 why] s t ∧ SameMem s t := by
  obtain ⟨hctl, hstat, hflt, hctlFlt, hstatFlt, hstatCtl, hignwr⟩ := motCtl_apart m
  obtain ⟨w, u, hbegin, ⟨hen, hdom, -⟩, hderived⟩ := busWrite_motCtl hon (value ||| 1)
  have hwd : fldOf (F.MOTm_CTL_DOM m) w = d.val := (hdom.trans (ctlFields_or_one m value).left).trans hd
  have hoffu : motorEn m u = false := (congrArg (· != 0) (hbegin.get (f := F.MOTm_CTL_EN m) hignwr)).trans hoff
  rw [ctlEn_or_one m hen, if_pos rfl, motEnable_refused hoffu ((refusal_stored hbegin hwd).trans hwhy)] at hderived
  refine ⟨_, rfl, ?_⟩
  generalize busWrite .trio (Reg.MOTm_CTL m) (value ||| 1) 0 s = t at hderived ⊢
  have hkeeps := hbegin.stored_keeps m w
  have hsame : (ctlStored m w u).mot = s.mot ∧ (ctlStored m w u).clk = s.clk ∧ (ctlStored m w u).log = s.log ∧ (ctlStored m w u).dom = s.dom :=
    ⟨hbegin.mot, hbegin.clk, hbegin.log, hbegin.dom⟩
  have henS := ctlStored_en m w u
  generalize ctlStored m w u = q at *
  obtain ⟨hmot, hclk, hlog, hdoms⟩ := hsame
  have hget : ∀ f : Fld, f.addr ∉ derivedRegs → t.get f = (q.setBit F.MOT_FLT_ENREF m).get f := fun f hf => hderived.get hf
  refine ⟨?_, hderived.mot.trans hmot, ?_, ?_, ?_, (hkeeps.sameMem.trans ((Keeps.refl [F.MOT_FLT_ENREF.addr] q).setBit m.val (.head _)).sameMem).trans
    hderived.sameMem⟩
  · have hen' := (hget (F.MOTm_CTL_EN m) hctl).trans (State.get_setBit_ne hctlFlt q m.val)
    exact (congrArg (· != 0) hen').trans henS
  · exact ((hget (F.MOTm_STAT_ST m) hstat).trans (State.get_setBit_ne hstatFlt q m.val)).trans (hkeeps.get hstatCtl)
  · unfold State.bit
    rw [hget F.MOT_FLT_ENREF hflt]
    exact State.bit_setBit_same enref_fits m.isLt q
  · have hlast := lastLog_of_logReq (t := q.setBit F.MOT_FLT_ENREF m) hclk hlog hdoms 0x11 2 [b8 m.val, b8 why]
    unfold LastLog at hlast ⊢
    rwa [hderived.log]

end Sys2Proof.Machine
end

section
/-!
PROOFS. A motor that an enable starts, and the ends of its carrier: disable, inert, release and CLEAR (R465, R475, R477, R480).
-/
namespace Sys2Proof.Machine

set_option Elab.async false

variable {s t u v x : State} {m : Fin 4} {l : List Nat} {w value : Word}

/-! ## An accepted enable (R475) -/

theorem Keeps.motEnter (h : Keeps l s t) (m : Fin 4) (hl : Reg.MOTm_STAT m ∈ l) (st : Nat) : Keeps l s (motEnter m st t) :=
  (h.put st (f := F.MOTm_STAT_ST m) hl).motUpd m _

/-- The enabled motor before the watch, its first period due in the next peripheral-clock cycle. -/
def motStarted (m : Fin 4) (w : Word) (u : State) : State :=
  (motEnter m (motStart m (ctlStored m w u)) ((ctlStored m w u).put (F.MOTm_CTL_EN m) 1)).restart (4 - u.clk.ns % 4) (.pwmPeriodStart m)

theorem motEnable_accepted (hoff : motorEn m u = false) (hnone : motRefusal m (ctlStored m w u) = none) :
    motEnable m w u = stallWatch m (motWatch m 0 0 (motStarted m w u)) := by
  have heq : motEnable m w u = if motorEn m u then stallWatch m (motCheck m (u.wr (Reg.MOTm_CTL m) w))
      else match motRefusal m (ctlStored m w u) with
      | some why => ((ctlStored m w u).setBit F.MOT_FLT_ENREF m).logReq 0x11 0x0002 [b8 m, b8 why]
      | none => stallWatch m (motWatch m 0 0 (motStarted m w u)) := rfl
  rw [heq, hoff, hnone]
  rfl

theorem motStart_cases (m : Fin 4) (s : State) : motStart m s = moALIGN ∨ motStart m s = moRUN := by
  unfold motStart
  split
  · exact .inl rfl
  · exact .inr rfl

theorem motStart_lt (m : Fin 4) (s : State) : motStart m s < 8 := by
  obtain h | h := motStart_cases m s <;> rw [h] <;> decide

/-- Registers that a start changes are none that its faults are formed from. -/
theorem start_reads : ∀ m : Fin 4, F.GATH_MFLT_MFLT.addr ∉ [Reg.MOTm_CTL m, Reg.MOTm_STAT m, Reg.SYS_IGNWR] ∧
    (∀ d : Fin 8, (F.ANGn_STAT_STATE d).addr ∉ [Reg.MOTm_CTL m, Reg.MOTm_STAT m, Reg.SYS_IGNWR]) ∧
    Reg.MOTm_SPEED m ∉ [Reg.MOTm_CTL m, Reg.MOTm_STAT m, Reg.SYS_IGNWR] ∧ Reg.MOTm_LIM m ∉ [Reg.MOTm_CTL m, Reg.MOTm_STAT m, Reg.SYS_IGNWR] ∧
    Reg.MOTm_STAT m ∉ [Reg.MOTm_CTL m, Reg.SYS_IGNWR] ∧ Reg.MOTm_CTL m ≠ Reg.MOTm_STAT m := by decide

section
variable (h : EffectBegins s u)
include h

theorem motStarted_keeps (m : Fin 4) (w : Word) : Keeps [Reg.MOTm_CTL m, Reg.MOTm_STAT m, Reg.SYS_IGNWR] s (motStarted m w u) :=
  have hstored : Keeps [Reg.MOTm_CTL m, Reg.MOTm_STAT m, Reg.SYS_IGNWR] s (ctlStored m w u) := (h.stored_keeps m w).mono (by simp)
  ((hstored.put 1 (f := F.MOTm_CTL_EN m) (.head _)).motEnter m (.tail _ (.head _)) _).restart _ _

theorem motStarted_rest (m : Fin 4) (w : Word) : (motStarted m w u).log = s.log ∧ (motStarted m w u).clk = s.clk ∧ (motStarted m w u).dom = s.dom :=
  ⟨h.log, h.clk, h.dom⟩

theorem motStarted_timer (m : Fin 4) (w : Word) : (s.clk.ns + (4 - s.clk.ns % 4), .pwmPeriodStart m) ∈ (motStarted m w u).timers := by
  have htimer := State.mem_timers_restart (motEnter m (motStart m (ctlStored m w u)) ((ctlStored m w u).put (F.MOTm_CTL_EN m) 1)) (4 - u.clk.ns % 4)
    (.pwmPeriodStart m)
  rw [show (motEnter m (motStart m (ctlStored m w u)) ((ctlStored m w u).put (F.MOTm_CTL_EN m) 1)).clk = s.clk from h.clk, h.clk] at htimer
  rw [motStarted, h.clk]
  exact htimer

theorem motStarted_mot (m : Fin 4) (w : Word) : (motStarted m w u).mot[m].fltLow = s.mot[m].fltLow ∧ (motStarted m w u).mot[m].first = true ∧
    ∀ x : Fin 3, (motStarted m w u).mot[m].phase[x].carry = 0 := by
  obtain ⟨-, -, hflt, -, -, hfirst, hphase⟩ := motEnter_mot m (motStart m (ctlStored m w u)) ((ctlStored m w u).put (F.MOTm_CTL_EN m) 1)
  have hmot : ((ctlStored m w u).put (F.MOTm_CTL_EN m) 1).mot = s.mot := h.mot
  rw [hmot] at hflt
  exact ⟨hflt, hfirst, fun x => congrArg MotPulse.carry (hphase x)⟩

end

theorem motStarted_get (m : Fin 4) (w : Word) (u : State) (f : Fld) : (motStarted m w u).get f =
    (((ctlStored m w u).put (F.MOTm_CTL_EN m) 1).put (F.MOTm_STAT_ST m) (motStart m (ctlStored m w u))).get f := by
  rw [State.get_regs, motStarted, State.restart, State.after_regs, State.cancel_regs, ← State.get_regs, motEnter_get]

theorem motStarted_en (m : Fin 4) (w : Word) (u : State) : motorEn m (motStarted m w u) = true := by
  have hget := motStarted_get m w u (F.MOTm_CTL_EN m)
  rw [State.get_put_ne _ (F.MOTm_STAT_ST m) (F.MOTm_CTL_EN m) _ (start_reads m).right.right.right.right.right] at hget
  unfold motorEn State.on
  rw [hget]
  exact State.on_put_one (moEn_fits m) rfl _

theorem motStarted_st (m : Fin 4) (w : Word) (u : State) : motSt m (motStarted m w u) = motStart m (ctlStored m w u) :=
  (motStarted_get m w u _).trans (State.get_put_of_lt (moSt_fits m) (motStart_lt m _) _)

theorem motStarted_dom (m : Fin 4) (w : Word) (u : State) {d : Fin 8} (hd : fldOf (F.MOTm_CTL_DOM m) w = d.val) : motorDom m (motStarted m w u) = d := by
  have hne : (F.MOTm_CTL_DOM m).addr ≠ (F.MOTm_STAT_ST m).addr := (start_reads m).right.right.right.right.right
  unfold motorDom
  rw [motStarted_get, State.get_put_ne _ _ _ _ hne, State.get_put_apart (moCtl_apart m).left, ctlStored_dom, hd, Fin.ofNat_val_eq_self]

theorem motStarted_cond (h : EffectBegins s u) (m : Fin 4) (w : Word) : (motStarted m w u).get (F.MOTm_STAT_COND m) = s.get (F.MOTm_STAT_COND m) := by
  have hne : (F.MOTm_STAT_COND m).addr ≠ (F.MOTm_CTL_EN m).addr := (start_reads m).right.right.right.right.right.symm
  rw [motStarted_get, State.get_put_apart (moStat_apart m).right.right.left, State.get_put_ne _ _ _ _ hne]
  exact (h.stored_keeps m w).get (start_reads m).right.right.right.right.left

theorem ctlStored_start (h : EffectBegins s u) (m : Fin 4) {w value : Word} (halign : fldOf (F.MOTm_CTL_ALIGN m) w = fldOf (F.MOTm_CTL_ALIGN m) value) :
    motStart m (ctlStored m w u) = if fldOf (F.MOTm_CTL_ALIGN m) value = 1 ∧ s.on (F.MOTm_STAT_THV m) = false then moALIGN else moRUN := by
  have hthv : (ctlStored m w u).on (F.MOTm_STAT_THV m) = s.on (F.MOTm_STAT_THV m) :=
    (h.stored_keeps m w).on (start_reads m).right.right.right.right.left
  have hbit : fldOf (F.MOTm_CTL_ALIGN m) value < 2 := Nat.mod_lt _ (Nat.two_pow_pos _)
  have hon : (ctlStored m w u).on (F.MOTm_CTL_ALIGN m) = decide (fldOf (F.MOTm_CTL_ALIGN m) value = 1) := by
    unfold State.on
    rw [ctlStored_align, halign]
    interval_cases fldOf (F.MOTm_CTL_ALIGN m) value <;> rfl
  unfold motStart
  rw [hon, hthv]
  simp only [Bool.and_eq_true, decide_eq_true_eq, Bool.not_eq_true']

/-- No raw condition stands where a motor may start. -/
theorem motRaw_free {d : Fin 8} (hd : motorDom m t = d) (hflt : t.mot[m].fltLow = false) (h0 : t.bit F.GATH_MFLT_MFLT (2 * m.val) = false)
    (h1 : t.bit F.GATH_MFLT_MFLT (2 * m.val + 1) = false) (hstate : t.get (F.ANGn_STAT_STATE d) ∈ [1, 2, 3]) {f : Nat} (hf : f = 1 ∨ f = 2 ∨ f = 3) :
    motRaw m f t = false := by
  obtain rfl | rfl | rfl := hf
  · exact hflt
  · show (t.bit _ _ || t.bit _ _) = false
    rw [h0, h1]
    rfl
  · have hst : t.get (F.ANGn_STAT_STATE (motorDom m t).val) ∈ [1, 2, 3] := hd ▸ hstate
    show (t.get _ == 0 || t.get _ == 4 || t.get _ == 5) = false
    generalize t.get (F.ANGn_STAT_STATE (motorDom m t).val) = n at hst ⊢
    revert n
    decide

/-- An accepted enable starts the motor (R465, R475). -/
theorem does_enabled (hon : slotOn (Reg.MOTm_CTL m) s = true) (hoff : s.on (F.MOTm_CTL_EN m) = false) {d : Fin 8}
    (hd : fldOf (F.MOTm_CTL_DOM m) value = d.val) (hnone : refusalOf m d s = none) (hflt : s.mot[m].fltLow = false)
    (h0 : s.bit F.GATH_MFLT_MFLT (2 * m.val) = false) (h1 : s.bit F.GATH_MFLT_MFLT (2 * m.val + 1) = false)
    (hstate : s.get (F.ANGn_STAT_STATE d) ∈ [1, 2, 3]) (hspeed : (s.getI (F.MOTm_SPEED_SPEED m)).natAbs < s.get (F.MOTm_LIM_OVSPD m) * 16)
    (hcond : s.get (F.MOTm_STAT_COND m) = 0) : Does (.motorEnable m value) s fun t =>
      motorEn m t = true ∧ motSt m t = (if fldOf (F.MOTm_CTL_ALIGN m) value = 1 ∧ s.on (F.MOTm_STAT_THV m) = false then moALIGN else moRUN) ∧
      (s.clk.ns + (4 - s.clk.ns % 4), .pwmPeriodStart m) ∈ t.timers ∧ t.mot[m].first = true ∧ (∀ x : Fin 3, t.mot[m].phase[x].carry = 0) ∧
        NoLog s t ∧ SameMem s t := by
  obtain ⟨hctl, hstat, -, -, -, -, hignwr⟩ := motCtl_apart m
  obtain ⟨w, u, hbegin, ⟨hen, hdom, halign⟩, hderived⟩ := busWrite_motCtl hon (value ||| 1)
  have hwd : fldOf (F.MOTm_CTL_DOM m) w = d.val := (hdom.trans (ctlFields_or_one m value).left).trans hd
  have hoffu : motorEn m u = false := (congrArg (· != 0) (hbegin.get (f := F.MOTm_CTL_EN m) hignwr)).trans hoff
  rw [ctlEn_or_one m hen, if_pos rfl, motEnable_accepted hoffu ((refusal_stored hbegin hwd).trans hnone)] at hderived
  refine ⟨_, rfl, ?_⟩
  generalize busWrite .trio (Reg.MOTm_CTL m) (value ||| 1) 0 s = t at hderived ⊢
  have hst := (motStarted_st m w u).trans (ctlStored_start hbegin m (halign.trans (ctlFields_or_one m value).right))
  have hkeeps := motStarted_keeps hbegin m w
  obtain ⟨hlog, hclk, hdoms⟩ := motStarted_rest hbegin m w
  have htimer := motStarted_timer hbegin m w
  obtain ⟨hfltq, hfirst, hcarry⟩ := motStarted_mot hbegin m w
  have henq := motStarted_en m w u
  have hdomq := motStarted_dom m w u hwd
  have hcondq := (motStarted_cond hbegin m w).trans hcond
  generalize motStarted m w u = q at *
  obtain ⟨hmflt, hang, hspd, hlim, -, -⟩ := start_reads m
  have hnew : NoNewCond m 0 q := by
    intro f hf _ hraw
    by_cases hdet : f = 1 ∨ f = 2 ∨ f = 3
    · have hfree := motRaw_free hdomq (hfltq.trans hflt) ((congrArg (Nat.testBit · _) (hkeeps.get hmflt)).trans h0)
        ((congrArg (Nat.testBit · _) (hkeeps.get hmflt)).trans h1) (by rw [hkeeps.get (hang d)]; exact hstate) hdet
      rw [hfree] at hraw
      exact absurd hraw (by decide)
    · by_cases hover : f = 4
      · subst hover
        have hover : decide (q.get (F.MOTm_LIM_OVSPD m) * 16 ≤ (q.getI (F.MOTm_SPEED_SPEED m)).natAbs) = true := hraw
        unfold State.getI at hover hspeed
        rw [hkeeps.get (f := F.MOTm_LIM_OVSPD m) hlim, hkeeps.get (f := F.MOTm_SPEED_SPEED m) hspd, decide_eq_true_eq] at hover
        exact absurd hspeed (Nat.not_lt.mpr hover)
      · rw [motRaw_kept (by omega)] at hraw
        unfold State.bit at hraw
        rwa [hcondq] at hraw
  obtain ⟨hwatch, hsettled, -⟩ := motWatch_quiet hnew 0
  have hstep := hwatch.trans (stallWatch_quiet hsettled).left
  obtain ⟨from_, hmot⟩ := hstep.mot
  generalize stallWatch m (motWatch m 0 0 q) = x at *
  refine ⟨?_, ?_, ?_, ?_, ?_, ?_, (hkeeps.sameMem.trans hstep.keeps.sameMem).trans hderived.sameMem⟩
  · have hget := (hderived.get (f := F.MOTm_CTL_EN m) hctl).trans (hstep.keeps.get (fun hmem => (start_reads m).right.right.right.right.right (List.mem_singleton.mp hmem)))
    exact (congrArg (· != 0) hget).trans henq
  · exact ((hderived.get (f := F.MOTm_STAT_ST m) hstat).trans hstep.st).trans hst
  · rw [hderived.timers]
    exact hstep.timers _ htimer (by simp)
  · rw [hderived.mot, hmot]
    exact hfirst
  · rw [hderived.mot, hmot]
    exact hcarry
  · exact congrArg LogSt.reqs (hderived.log.trans (hstep.log.trans hlog))

/-! ## The outputs (R464) -/

/-- Outside ALIGN and RUN every output is low. -/
theorem motPin_low (h : motSwitches m s = false) (x : Fin 3) (high : Bool) : motPin m x high s = false := by
  unfold motPin
  rw [h, Bool.false_and, Bool.false_and]

theorem motSwitches_of_other {st : Nat} (h : motSt m s = st) (hst : (st == moALIGN || st == moRUN) = false) : motSwitches m s = false := by
  rw [motSwitches, h]
  exact hst

/-! ## A motor is disabled (R477) -/

/-- The motor off, its carrier stopped. -/
theorem motDisable_eq (m : Fin 4) (w : Word) (s : State) :
    motDisable m w s = (motCarrierOff m (motEnter m moOFF (ctlStored m w s))).put (F.MOTm_STAT_COND m) 0 := rfl

theorem motCarrierOff_get (m : Fin 4) (s : State) (f : Fld) : (motCarrierOff m s).get f = s.get f := by
  rw [motCarrierOff, motUpd_get]
  rfl

theorem motCarrierOff_log (m : Fin 4) (s : State) : (motCarrierOff m s).log = s.log := rfl

theorem motCarrierOff_keeps (h : Keeps l s t) (m : Fin 4) : Keeps l s (motCarrierOff m t) := (((h.cancel _).cancel _).cancel _).motUpd m _

theorem motCarrierOff_armed (m : Fin 4) (s : State) : (motCarrierOff m s).armed (.pwmPeriodStart m) = false :=
  State.armed_cancel_of_not (State.armed_cancel_of_not (State.armed_cancel s _) _) _

/-- What a disable leaves. -/
structure MotOff (m : Fin 4) (s t : State) : Prop where
  keeps : Keeps [Reg.MOTm_CTL m, Reg.MOTm_STAT m] s t
  en : motorEn m t = false
  st : motSt m t = moOFF
  cond : t.get (F.MOTm_STAT_COND m) = 0
  thv : t.get (F.MOTm_STAT_THV m) = s.get (F.MOTm_STAT_THV m)
  armed : t.armed (.pwmPeriodStart m) = false
  log : t.log = s.log

theorem motDisable_off (m : Fin 4) (w : Word) (s : State) : MotOff m s (motDisable m w s) := by
  obtain ⟨hcs, hct, hsc, hst, hts, htc⟩ := moStat_apart m
  have hne : Reg.MOTm_CTL m ≠ Reg.MOTm_STAT m := (start_reads m).right.right.right.right.right
  have hkeeps : Keeps [Reg.MOTm_CTL m, Reg.MOTm_STAT m] s (motEnter m moOFF (ctlStored m w s)) :=
    ((ctlStored_keeps m w s).mono (by simp)).motEnter m (.tail _ (.head _)) moOFF
  have hall : Keeps [Reg.MOTm_CTL m, Reg.MOTm_STAT m] s (motDisable m w s) :=
    motDisable_eq m w s ▸ (motCarrierOff_keeps hkeeps m).put 0 (f := F.MOTm_STAT_COND m) (.tail _ (.head _))
  refine ⟨hall, ?_, ?_, ?_, ?_, ?_, ?_⟩
  · have hget : (motDisable m w s).get (F.MOTm_CTL_EN m) = (ctlStored m w s).get (F.MOTm_CTL_EN m) := by
      rw [motDisable_eq, State.get_put_ne _ (F.MOTm_STAT_COND m) (F.MOTm_CTL_EN m) _ hne, motCarrierOff_get, motEnter_get,
        State.get_put_ne _ (F.MOTm_STAT_ST m) (F.MOTm_CTL_EN m) _ hne]
    exact (congrArg (· != 0) hget).trans (ctlStored_en m w s)
  · unfold motSt
    rw [motDisable_eq, State.get_put_apart hcs, motCarrierOff_get]
    exact motEnter_st (by decide) m _
  · rw [motDisable_eq]
    exact condPut_get (by decide) m _
  · rw [motDisable_eq, State.get_put_apart hct, motCarrierOff_get, motEnter_thv]
    exact (ctlStored_keeps m w s).get fun hmem => hne (List.mem_singleton.mp hmem).symm
  · unfold State.armed
    rw [motDisable_eq, State.put_timers]
    exact motCarrierOff_armed m _
  · rw [motDisable_eq, State.put_log, motCarrierOff_log, (motEnter_rest m moOFF _).left]
    rfl

theorem moStat_ne_ignwr : ∀ m : Fin 4, Reg.MOTm_STAT m ≠ Reg.SYS_IGNWR := by decide

/-- A write with EN clear. -/
theorem does_disabled (hon : slotOn (Reg.MOTm_CTL m) s = true) (value : Word) : Does (.motorDisable m value) s fun t =>
    motorEn m t = false ∧ motSt m t = moOFF ∧ t.get (F.MOTm_STAT_COND m) = 0 ∧ t.on (F.MOTm_STAT_THV m) = s.on (F.MOTm_STAT_THV m) ∧
      (∀ (x : Fin 3) (high : Bool), motPin m x high t = false) ∧ t.armed (.pwmPeriodStart m) = false ∧ NoLog s t ∧
    (∀ a, a ∉ Reg.MOTm_CTL m :: Reg.MOTm_STAT m :: Reg.SYS_IGNWR :: (List.range 4).flatMap (fun k => [Reg.MOTm_PWM k, Reg.MOTm_DT k]) →
      t.rd a = s.rd a) ∧ SameMem s t := by
  obtain ⟨hctl, hstat, -, -, -, -, hignwr⟩ := motCtl_apart m
  obtain ⟨w, u, hbegin, ⟨hen, -, -⟩, hderived⟩ := busWrite_motCtl hon (value &&& ~~~1)
  rw [ctlEn_and_not_one m hen, if_neg (by decide)] at hderived
  refine ⟨_, rfl, ?_⟩
  generalize busWrite .trio (Reg.MOTm_CTL m) (value &&& ~~~1) 0 s = t at hderived ⊢
  have hoff := motDisable_off m w u
  generalize motDisable m w u = q at hoff hderived
  have hst : motSt m t = moOFF := (hderived.get (f := F.MOTm_STAT_ST m) hstat).trans hoff.st
  have hnotIgn : Reg.MOTm_STAT m ≠ Reg.SYS_IGNWR := moStat_ne_ignwr m
  refine ⟨(congrArg (· != 0) (hderived.get (f := F.MOTm_CTL_EN m) hctl)).trans hoff.en, hst, (hderived.get (f := F.MOTm_STAT_COND m) hstat).trans hoff.cond, ?_,
    fun x high => motPin_low (motSwitches_of_other hst rfl) x high, ?_, congrArg LogSt.reqs (hderived.log.trans (hoff.log.trans hbegin.log)), ?_,
    (hbegin.keeps.sameMem.trans hoff.keeps.sameMem).trans hderived.sameMem⟩
  · exact congrArg (· != 0) ((hderived.get (f := F.MOTm_STAT_THV m) hstat).trans (hoff.thv.trans (hbegin.get (f := F.MOTm_STAT_THV m) hnotIgn)))
  · unfold State.armed
    rw [hderived.timers]
    exact hoff.armed
  · intro a ha
    simp only [List.mem_cons, not_or] at ha
    obtain ⟨hac, has, hai, had⟩ := ha
    exact (hderived.keeps.rd had).trans ((hoff.keeps.rd (by simp [hac, has])).trans (hbegin.keeps.rd (by simp [hai])))

end Sys2Proof.Machine
end

section
/-!
PROOFS. Inert, release, CLEAR, the end of an alignment, a driver fault and a stall, and the settlement of the motor states (R476 to R480).
-/
namespace Sys2Proof.Machine

set_option Elab.async false

variable {s t u v x : State} {m : Fin 4} {l : List Nat}

/-! ## Inert (R477) -/

/-- MOTm_STAT is none of the registers that faults, beside its own conditions, are formed from. -/
theorem stat_reads : ∀ m : Fin 4, F.GATH_MFLT_MFLT.addr ∉ [Reg.MOTm_STAT m] ∧ (∀ d : Fin 8, (F.ANGn_STAT_STATE d).addr ∉ [Reg.MOTm_STAT m]) ∧
    Reg.MOTm_CTL m ∉ [Reg.MOTm_STAT m] := by decide

/-- An entry to INERT with no fault present brings no new condition. -/
theorem inert_settled (hflt : s.mot[m].fltLow = false) (h0 : s.bit F.GATH_MFLT_MFLT (2 * m.val) = false)
    (h1 : s.bit F.GATH_MFLT_MFLT (2 * m.val + 1) = false) (hstate : s.get (F.ANGn_STAT_STATE (motorDom m s)) ∈ [1, 2, 3]) :
    Settled m (motEnter m moINERT s) := by
  obtain ⟨-, -, hfltE, -⟩ := motEnter_mot m moINERT s
  have hkeeps := (Keeps.refl [Reg.MOTm_STAT m] s).motEnter m (.head _) moINERT
  obtain ⟨hmflt, hang, hctl⟩ := stat_reads m
  have hdom : motorDom m (motEnter m moINERT s) = motorDom m s := congrArg (Fin.ofNat 8) (hkeeps.get (f := F.MOTm_CTL_DOM m) hctl)
  have hsw : motSwitches m (motEnter m moINERT s) = false := motSwitches_of_other (motEnter_st (by decide) m s) rfl
  intro f hf hacts hraw
  by_cases hdet : f = 1 ∨ f = 2 ∨ f = 3
  · have hfree := motRaw_free hdom (hfltE.trans hflt) ((congrArg (Nat.testBit · _) (hkeeps.get hmflt)).trans h0)
      ((congrArg (Nat.testBit · _) (hkeeps.get hmflt)).trans h1) (by rw [hkeeps.get (hang _)]; exact hstate) hdet
    rw [hfree] at hraw
    exact absurd hraw (by decide)
  · by_cases hrun : f = 0 ∨ f = 4 ∨ f = 5
    · rw [motActs, if_pos hrun, hsw, Bool.and_false] at hacts
      exact absurd hacts (by decide)
    · rwa [motRaw_kept (by omega)] at hraw

/-- A motor that switches becomes inert. -/
theorem motInert_does (hsw : motSwitches m s = true) (hflt : s.mot[m].fltLow = false) (h0 : s.bit F.GATH_MFLT_MFLT (2 * m.val) = false)
    (h1 : s.bit F.GATH_MFLT_MFLT (2 * m.val + 1) = false) (hstate : s.get (F.ANGn_STAT_STATE (motorDom m s)) ∈ [1, 2, 3]) :
    motSt m (motInert m s) = moINERT ∧ motorEn m (motInert m s) = motorEn m s ∧ (∀ x : Fin 3, (motInert m s).mot[m].phase[x].carry = 0) ∧
      NoLog s (motInert m s) ∧ Keeps [Reg.MOTm_STAT m] s (motInert m s) := by
  have hrun : motInert m s = stallWatch m (motCheck m (motEnter m moINERT s)) := if_pos hsw
  obtain ⟨hcheck, hsettled, -⟩ := motCheck_quiet_of_settled (inert_settled hflt h0 h1 hstate)
  have hstep := hcheck.trans (stallWatch_quiet hsettled).left
  obtain ⟨from_, hmot⟩ := hstep.mot
  obtain ⟨-, -, -, -, -, -, hphase⟩ := motEnter_mot m moINERT s
  have hkeeps := ((Keeps.refl [Reg.MOTm_STAT m] s).motEnter m (.head _) moINERT).trans hstep.keeps
  rw [hrun]
  refine ⟨hstep.st.trans (motEnter_st (by decide) m s), hkeeps.on (f := F.MOTm_CTL_EN m) (stat_reads m).right.right, fun x => ?_,
    congrArg LogSt.reqs (hstep.log.trans (motEnter_rest m moINERT s).left), hkeeps⟩
  rw [hmot]
  exact congrArg MotPulse.carry (hphase x)

theorem inert_pins (h : motSt m s = moINERT) (x : Fin 3) (high : Bool) : motPin m x high s = false := motPin_low (motSwitches_of_other h rfl) x high

theorem motSwitches_of_either (h : motSt m s = moALIGN ∨ motSt m s = moRUN) : motSwitches m s = true := h.elim motSwitches_of_align motSwitches_of_run

theorem motInert_of_other (ha : motSt m s ≠ moALIGN) (hr : motSt m s ≠ moRUN) : motInert m s = s :=
  if_neg (by rw [motSwitches, beq_false_of_ne ha, beq_false_of_ne hr]; decide)

/-! ## The actions of MOT_ACT (R20, R477, R480) -/

theorem motAct_mask : argMask Reg.MOT_ACT 1 = 0x3 ∧ argMask Reg.MOT_ACT 2 = 0x3 ∧ argMask Reg.MOT_ACT 3 = 0x3 ∧
    implMask Reg.MOT_ACT = BitVec.allOnes 32 := by decide

theorem motAct_motor : ∀ m : Fin 4, (BitVec.ofNat 16 m.val &&& 0x3 : BitVec 16) = BitVec.ofNat 16 m.val := by decide

theorem motAct_apart : ∀ m : Fin 4, Reg.MOTm_STAT m ∉ [Reg.MOT_ACT] ∧ Reg.MOTm_CTL m ∉ [Reg.MOT_ACT] ∧ F.MOT_FLT_CLRREF.addr ∉ [Reg.MOT_ACT] ∧
    Reg.MOTm_STAT m ≠ F.MOT_FLT_CLRREF.addr ∧ Reg.MOTm_CTL m ≠ F.MOT_FLT_CLRREF.addr := by decide

/-- An action whose ticket is fresh: its effect, then the word in MOT_ACT. -/
structure MotActed (word : Word) (x t : State) : Prop where
  keeps : Keeps [Reg.MOT_ACT] x t
  word : t.rd Reg.MOT_ACT = word
  mot : t.mot = x.mot
  log : t.log = x.log

theorem motAct_fresh {ticket : Byte} {arg : BitVec 16} {action : Byte} {f : State → State} (h : Fresh Reg.MOT_ACT ticket s)
    (hmask : argMask Reg.MOT_ACT action = 0x3) : MotActed (actWord ticket (arg &&& 0x3) action) (f s) (s.act Reg.MOT_ACT ticket arg action f) := by
  rw [State.act_fresh _ _ _ _ _ _ h, hmask]
  exact ⟨(Keeps.refl _ _).wr _ (.head _), by rw [State.rd_wr_same, motAct_mask.right.right.right, BitVec.and_allOnes], rfl, rfl⟩

theorem MotActed.st {word : Word} (h : MotActed word x t) : motSt m t = motSt m x := h.keeps.get (motAct_apart m).left
theorem MotActed.en {word : Word} (h : MotActed word x t) : motorEn m t = motorEn m x := h.keeps.on (f := F.MOTm_CTL_EN m) (motAct_apart m).right.left

theorem ofNat_of_mod {n : Nat} (h : n % 4 = m.val) : Fin.ofNat 4 n = m := Fin.ext h

theorem motRelease_mot (m : Fin 4) (s : State) : (motRelease m s).mot[m].release = (s.mot[m].release || decide (motSt m s = moINERT)) := by
  unfold motRelease
  split
  next h => rw [motUpd_same, decide_eq_true h, Bool.or_true]
  next h => rw [decide_eq_false h, Bool.or_false]

theorem motRelease_rest (m : Fin 4) (s : State) : motSt m (motRelease m s) = motSt m s ∧ NoLog s (motRelease m s) ∧ Keeps [] s (motRelease m s) := by
  unfold motRelease
  split
  · exact ⟨rfl, rfl, (Keeps.refl _ s).motUpd m _⟩
  · exact ⟨rfl, rfl, .refl _ s⟩

/-! ## CLEAR (R480) -/

/-- The check that a CLEAR begins with, where no condition is present. -/
theorem motCheck_of_none (h : motConds m s = 0) : motCheck m s = s.put (F.MOTm_STAT_COND m) 0 := by
  unfold motCheck
  rw [motWatch_of_none (noNewCond_of_zero h _), h]

/-- With no condition present a CLEAR takes the motor from FAULT to OFF. -/
theorem motClear_of_none (hfault : motSt m s = moFAULT) (h : motConds m s = 0) :
    motSt m (motClear m s) = moOFF ∧ motorEn m (motClear m s) = false ∧ NoLog s (motClear m s) ∧
      Keeps [Reg.MOTm_STAT m, Reg.MOTm_CTL m] s (motClear m s) := by
  have hmask : (s.put (F.MOTm_STAT_COND m) 0).get (F.MOTm_STAT_COND m) = 0 := condPut_get (by decide) m s
  have hnone : (List.range 7).any (fun f => (0 : Nat).testBit f && motResp m f (s.put (F.MOTm_STAT_COND m) 0) == 4) = false := by
    simp
  have hclear : motClear m s = motUpd m (fun y => { y with cleared := some ((s.put (F.MOTm_STAT_COND m) 0).clk.ns / 4, 0) })
      (motDisable m ((s.put (F.MOTm_STAT_COND m) 0).rd (Reg.MOTm_CTL m)) (s.put (F.MOTm_STAT_COND m) 0)) := by
    unfold motClear
    rw [if_neg (fun hne => hne hfault), motCheck_of_none h]
    extract_lets q mask
    have hzero : mask = 0 := hmask
    rw [hzero, hnone]
    rfl
  have hoff := motDisable_off m ((s.put (F.MOTm_STAT_COND m) 0).rd (Reg.MOTm_CTL m)) (s.put (F.MOTm_STAT_COND m) 0)
  have hput := (Keeps.refl [Reg.MOTm_STAT m, Reg.MOTm_CTL m] s).put 0 (f := F.MOTm_STAT_COND m) (.head _)
  have hlog : (s.put (F.MOTm_STAT_COND m) 0).log = s.log := rfl
  rw [hclear]
  generalize s.put (F.MOTm_STAT_COND m) 0 = q at *
  generalize motDisable m (q.rd (Reg.MOTm_CTL m)) q = p at *
  exact ⟨hoff.st, hoff.en, congrArg LogSt.reqs (hoff.log.trans hlog), (hput.trans (hoff.keeps.mono (by simp))).motUpd m _⟩

/-- In FAULT declarations flag, log and fire alone. -/
theorem motDeclare_of_fault (h : motSt m s = moFAULT) (fs : List Nat) (cur : Int) :
    Keeps [Reg.MOTm_FLAG m, Reg.EVM_FAST] s (motDeclare m fs cur s) ∧ (motDeclare m fs cur s).mot = s.mot := by
  have hstay : ∀ c : Prop, ¬ (c ∧ motSt m s ≠ moFAULT) := fun c hc => hc.right h
  have hnoted : ∀ (f : Nat) (t : State), Keeps [Reg.MOTm_FLAG m, Reg.EVM_FAST] t ((t.setBit (F.MOTm_FLAG_DECL m) f).logReq 0x11 0x0001
      ([b8 m, b8 f, b8 (motResp m f s)] ++ bytesOfNat 2 (ofSigned 16 (motValue m f cur s)))) := fun f t =>
    ((Keeps.refl _ t).setBit f (f := F.MOTm_FLAG_DECL m) (.head _)).logReq _ _ _
  unfold motDeclare
  dsimp only
  rw [if_neg (hstay _)]
  refine ⟨((Keeps.refl _ s).each fs fun f _ => hnoted f).when _ (((Keeps.refl _ s).each fs fun f _ => hnoted f).fire _ (.tail _ (.head _))), ?_⟩
  have heach := State.each_rel (fun s t => t.mot = s.mot) (fun _ => rfl) (fun _ _ _ h k => k.trans h) fs
    (fun f t => (t.setBit (F.MOTm_FLAG_DECL m) f).logReq 0x11 0x0001
      ([b8 m, b8 f, b8 (motResp m f s)] ++ bytesOfNat 2 (ofSigned 16 (motValue m f cur s)))) (fun _ _ => rfl) s
  cases fs.any (fun f => decide (1 ≤ motResp m f s))
  · exact heach
  · have hfire : ∀ (src : Nat) (t : State), (t.fire src).mot = t.mot := fun src t => by
      unfold State.fire
      split <;> rfl
    exact (hfire _ _).trans heach

theorem motClrref_fits : fldFits F.MOT_FLT_CLRREF = true := by decide

theorem moFast_apart : ∀ m : Fin 4, Reg.MOTm_STAT m ∉ [Reg.MOTm_FLAG m, Reg.EVM_FAST] ∧ Reg.MOTm_CTL m ∉ [Reg.MOTm_FLAG m, Reg.EVM_FAST] ∧
    Reg.MOTm_RESP m ∉ [Reg.MOTm_FLAG m, Reg.EVM_FAST] ∧ Reg.MOTm_CTL m ≠ Reg.MOTm_STAT m ∧ Reg.MOTm_RESP m ≠ Reg.MOTm_STAT m := by decide

/-- A CLEAR while the driver's fault with response LATCH_OFF is present is refused. -/
theorem motClear_refused (hfault : motSt m s = moFAULT) (hen : motorEn m s = true) (hflt : s.mot[m].fltLow = true) (hresp : motResp m 1 s = 4) :
    motSt m (motClear m s) = moFAULT ∧ motorEn m (motClear m s) = true ∧ (motClear m s).bit F.MOT_FLT_CLRREF m = true ∧
      (motClear m s).mot = s.mot ∧ SameMem s (motClear m s) := by
  obtain ⟨hstat, hctl, hrsp, hctlStat, hrspStat⟩ := moFast_apart m
  obtain ⟨-, -, -, hstatFlt, hctlFlt⟩ := motAct_apart m
  have hput := (Keeps.refl [Reg.MOTm_STAT m] s).put (motConds m s) (f := F.MOTm_STAT_COND m) (.head _)
  have hshown : motSt m (s.put (F.MOTm_STAT_COND m) (motConds m s)) = moFAULT := (State.get_put_apart (moStat_apart m).left _ s).trans hfault
  have hconds : (motConds m s).testBit 1 = true := by
    have hacts : motActs m 1 s = true := by rw [motActs, if_neg (by decide), hen]; rfl
    have hraw : motRaw m 1 s = true := hflt
    rw [motConds_testBit (by decide), hacts, hraw]
    rfl
  obtain ⟨hkeeps, hmot⟩ := motDeclare_of_fault hshown
    ((List.range 7).filter fun f => (motConds m s).testBit f && !(motOld m s).testBit f) 0
  have hcheck : motCheck m s = motDeclare m ((List.range 7).filter fun f => (motConds m s).testBit f && !(motOld m s).testBit f) 0
      (s.put (F.MOTm_STAT_COND m) (motConds m s)) := rfl
  rw [← hcheck] at hkeeps hmot
  have hcond : (motCheck m s).get (F.MOTm_STAT_COND m) = motConds m s := (hkeeps.get hstat).trans (condPut_get (motConds_lt m s) m s)
  have hst : motSt m (motCheck m s) = moFAULT := (hkeeps.get hstat).trans hshown
  have henc : motorEn m (motCheck m s) = true :=
    (hkeeps.on (f := F.MOTm_CTL_EN m) hctl).trans ((hput.on (f := F.MOTm_CTL_EN m) (fun hmem => hctlStat (List.mem_singleton.mp hmem))).trans hen)
  have hrespc : motResp m 1 (motCheck m s) = 4 := by
    have hget : (motCheck m s).get (F.MOTm_RESP_RESP m) = s.get (F.MOTm_RESP_RESP m) :=
      (hkeeps.get hrsp).trans (hput.get (f := F.MOTm_RESP_RESP m) (fun hmem => hrspStat (List.mem_singleton.mp hmem)))
    unfold motResp at hresp ⊢
    rw [hget]
    exact hresp
  have hany : (List.range 7).any (fun f => ((motCheck m s).get (F.MOTm_STAT_COND m)).testBit f && motResp m f (motCheck m s) == 4) = true :=
    List.any_eq_true.mpr ⟨1, by decide, by rw [hcond, hconds, hrespc]; rfl⟩
  have hclear : motClear m s = ((motCheck m s).setBit F.MOT_FLT_CLRREF m).logReq 0x11 0x0004 [b8 m, b8 ((motCheck m s).get (F.MOTm_STAT_COND m))] := by
    unfold motClear
    rw [if_neg (fun hne => hne hfault)]
    exact if_pos hany
  have hsame : SameMem s (motCheck m s) := hput.sameMem.trans hkeeps.sameMem
  rw [hclear]
  generalize motCheck m s = c at *
  have hget : ∀ f, ((c.setBit F.MOT_FLT_CLRREF m).logReq 0x11 0x0004 [b8 m, b8 (c.get (F.MOTm_STAT_COND m))]).get f = (c.setBit F.MOT_FLT_CLRREF m).get f :=
    fun f => by rw [State.get_regs, State.logReq_regs, ← State.get_regs]
  refine ⟨?_, ?_, ?_, hmot, hsame.trans ((Keeps.refl [F.MOT_FLT_CLRREF.addr] c).setBit m.val (.head _)).sameMem⟩
  · exact ((hget (F.MOTm_STAT_ST m)).trans (State.get_setBit_ne hstatFlt c _)).trans hst
  · exact (congrArg (· != 0) ((hget (F.MOTm_CTL_EN m)).trans (State.get_setBit_ne hctlFlt c _))).trans henc
  · unfold State.bit
    rw [hget]
    exact State.bit_setBit_same motClrref_fits m.isLt c

end Sys2Proof.Machine
end

section
/-!
PROOFS. A fault that latches a motor, and the settlement of the motor states (R476, R478, R479).
-/
namespace Sys2Proof.Machine

set_option Elab.async false

variable {s t u v x y : State} {m : Fin 4} {l : List Nat}

/-! ## A fault with response LATCH_OFF (R479) -/

/-- The motor in FAULT after a declaration, its conditions formed afresh. -/
def motLatched (m : Fin 4) (s : State) : State :=
  (motCarrierOff m (motEnter m moFAULT s)).put (F.MOTm_STAT_COND m) (motConds m (motCarrierOff m (motEnter m moFAULT s)))

theorem motDeclare_latches {f : Nat} (hresp : motResp m f s = 4) (hst : motSt m s ≠ moFAULT) (cur : Int) :
    motDeclare m [f] cur s = motLatched m ((faultNoted m f cur s).fire (137 + 2 * m.val)) := by
  rw [motDeclare_one, if_pos ⟨hresp, hst⟩]
  rfl

theorem motLatched_st (m : Fin 4) (s : State) : motSt m (motLatched m s) = moFAULT := by
  unfold motSt
  rw [motLatched, State.get_put_apart (moStat_apart m).left, motCarrierOff_get]
  exact motEnter_st (by decide) m s

theorem motLatched_keeps (h : Keeps l s t) (m : Fin 4) (hl : Reg.MOTm_STAT m ∈ l) : Keeps l s (motLatched m t) :=
  (motCarrierOff_keeps (h.motEnter m hl moFAULT) m).put _ (f := F.MOTm_STAT_COND m) hl

theorem motLatched_rest (m : Fin 4) (s : State) : (motLatched m s).log = s.log ∧ (motLatched m s).evm = s.evm := by
  obtain ⟨hlog, hevm, -⟩ := motEnter_rest m moFAULT s
  unfold motLatched
  rw [State.put_log, State.put_evm, motCarrierOff_log]
  exact ⟨hlog, hevm⟩

theorem motLatched_flt (m : Fin 4) (s : State) : (motLatched m s).mot[m].fltLow = s.mot[m].fltLow := by
  obtain ⟨-, -, hflt, -⟩ := motEnter_mot m moFAULT s
  unfold motLatched
  rw [State.put_mot, motCarrierOff, motUpd_same]
  exact hflt

theorem moLatch_apart : ∀ m : Fin 4, Reg.MOTm_FLAG m ∉ [Reg.MOTm_STAT m] ∧ Reg.MOTm_CTL m ∉ [Reg.MOTm_STAT m, Reg.MOTm_FLAG m] ∧
    ∀ a ∈ [Reg.MOTm_STAT m, Reg.MOTm_FLAG m], a < 0x40090000 ∨ 0x400A0000 ≤ a := by decide

/-- What the declaration of one latching fault leaves, after a watch that has shown it. -/
theorem does_latch {f : Nat} {cur x : Int} (hf : f < 7) (hkeeps : Keeps [Reg.MOTm_STAT m] s y) (hlog : y.log = s.log) (hevm : y.evm = s.evm)
    (hclk : y.clk = s.clk) (hdom : y.dom = s.dom) (hnot : NotFired (137 + 2 * m.val) s) (hresp : motResp m f y = 4) (hst : motSt m y ≠ moFAULT)
    (hval : motValue m f cur y = x) (ht : t = motDeclare m [f] cur y) :
    t.mot[m].fltLow = y.mot[m].fltLow ∧ motSt m t = moFAULT ∧ motorEn m t = motorEn m s ∧ (∀ (p : Fin 3) (high : Bool), motPin m p high t = false) ∧
      t.bit (F.MOTm_FLAG_DECL m) f = true ∧ Logged 0x11 1 ([b8 m, b8 f, b8 4] ++ bytesOfNat 2 (ofSigned 16 x)) s t ∧ Fires (137 + 2 * m.val) s t ∧
      Keeps [Reg.MOTm_STAT m, Reg.MOTm_FLAG m] s t := by
  obtain ⟨hflag, hctl, hout⟩ := moLatch_apart m
  rw [motDeclare_latches hresp hst] at ht
  have hentry := faultNoted_logged (cur := cur) hlog hclk hdom hresp hval
  have hbit := faultNoted_flag m hf cur y
  have hnoted : Keeps [Reg.MOTm_STAT m, Reg.MOTm_FLAG m] s (faultNoted m f cur y) :=
    (hkeeps.mono (by simp)).trans ((faultNoted_keeps m f cur y).mono (by simp))
  have hevm' : (faultNoted m f cur y).evm = s.evm := hevm
  have hclk' : (faultNoted m f cur y).clk = s.clk := hclk
  have hmot' : (faultNoted m f cur y).mot = y.mot := rfl
  generalize faultNoted m f cur y = q at *
  have hnot' := notFired_congr hevm' hclk' hnot
  have hfired := hnoted.fired hnot'
  obtain ⟨hlogL, hevmL⟩ := motLatched_rest m (q.fire (137 + 2 * m.val))
  have hflt := motLatched_flt m (q.fire (137 + 2 * m.val))
  have hstat := motLatched_keeps (Keeps.refl [Reg.MOTm_STAT m] (q.fire (137 + 2 * m.val))) m (.head _)
  have hst' := motLatched_st m (q.fire (137 + 2 * m.val))
  have hall := motLatched_keeps hfired m (.head _)
  rw [← ht] at hlogL hevmL hflt hstat hst' hall
  refine ⟨?_, hst', hall.on (f := F.MOTm_CTL_EN m) hctl, fun p high => motPin_low (motSwitches_of_other hst' rfl) p high, ?_, ?_,
    fires_of_outside hnoted hout (by omega) hevm' hclk' hnot hevmL, hall⟩
  · rw [hflt, fire_of_notFired hnot', ← hmot']
  · unfold State.bit at hbit ⊢
    rw [hstat.get (f := F.MOTm_FLAG_DECL m) hflag, fire_get hnot']
    exact hbit
  · unfold Logged
    rw [hlogL, fire_log]
    exact hentry

/-- The conditions of a mask that leaves one out are no new ones. -/
theorem noNewBut_of_masked {f mask old : Nat} (hmask : ∀ g < 7, g ≠ f → mask.testBit g = true)
    (h : motConds m s &&& (0x7F ^^^ old) &&& mask = 0) : ∀ g < 7, g ≠ f → motActs m g s = true → motRaw m g s = true → old.testBit g = true := by
  intro g hg hne hacts hraw
  have hbit : (motConds m s &&& (0x7F ^^^ old) &&& mask).testBit g = false := by rw [h, Nat.zero_testBit]
  have hfull : (127 : Nat).testBit g = true := by
    rw [show (127 : Nat) = 2 ^ 7 - 1 from rfl, Nat.testBit_two_pow_sub_one]
    exact decide_eq_true hg
  rw [Nat.testBit_and, Nat.testBit_and, Nat.testBit_xor, motConds_testBit hg, hacts, hraw, hmask g hg hne, hfull] at hbit
  simpa using hbit

theorem motResp_congr (h : Keeps [Reg.MOTm_STAT m] s t) (f : Nat) : motResp m f t = motResp m f s := by
  have hget : t.get (F.MOTm_RESP_RESP m) = s.get (F.MOTm_RESP_RESP m) :=
    h.get fun hmem => (moFast_apart m).right.right.right.right (List.mem_singleton.mp hmem)
  unfold motResp
  rw [hget]

/-! ## A driver fault (R478) -/

/-- The driver's fault input low for its time. -/
def driverLow (m : Fin 4) (s : State) : State := motUpd m (fun x => { x with fltLow := true }) s

theorem driverLow_raw {g : Nat} (hg : g ≠ 1) (m : Fin 4) (s : State) : motRaw m g (driverLow m s) = motRaw m g s := by
  unfold motRaw
  split
  next => exact absurd rfl hg
  next => rfl
  next => rfl
  next => rfl
  next => rfl

theorem driverLow_cleared (m : Fin 4) (s : State) : motCleared m (driverLow m s) = motCleared m s := by
  unfold motCleared driverLow
  rw [motUpd_same]
  rfl

theorem driverLow_acts (g : Nat) (m : Fin 4) (s : State) : motActs m g (driverLow m s) = motActs m g s := by
  unfold motActs
  rw [driverLow_cleared]
  rfl

/-- A driver fault that is new and latches (R478, R479). -/
theorem does_driverFault (hen : motorEn m s = true) (hcond : s.bit (F.MOTm_STAT_COND m) 1 = false) (hresp : motResp m 1 s = 4)
    (hst : motSt m s ≠ moFAULT) (hnot : NotFired (137 + 2 * m.val) s)
    (hnew : motConds m s &&& (0x7F ^^^ s.get (F.MOTm_STAT_COND m)) &&& 0x7D = 0) (hcleared : motCleared m s = none)
    (ht : t = motCheck m (driverLow m s)) :
    t.mot[m].fltLow = true ∧ motSt m t = moFAULT ∧ motorEn m t = true ∧ (∀ (x : Fin 3) (high : Bool), motPin m x high t = false) ∧
      t.bit (F.MOTm_FLAG_DECL m) 1 = true ∧ Logged 0x11 1 [b8 m.val, 1, 4, 0, 0] s t ∧ Fires (137 + 2 * m.val) s t ∧
      Keeps [Reg.MOTm_STAT m, Reg.MOTm_FLAG m] s t := by
  have hold : motOld m (driverLow m s) = s.get (F.MOTm_STAT_COND m) := motOld_of_not_cleared ((driverLow_cleared m s).trans hcleared)
  have hlow : (driverLow m s).mot[m].fltLow = true := by rw [driverLow, motUpd_same]
  have hacts : motActs m 1 (driverLow m s) = true := by rw [driverLow_acts, motActs, if_neg (by decide), hen]; rfl
  have hrest : ∀ g < 7, g ≠ 1 → motActs m g (driverLow m s) = true → motRaw m g (driverLow m s) = true →
      (motOld m (driverLow m s)).testBit g = true := fun g hg hne hga hgr => by
    rw [driverLow_acts] at hga
    rw [driverLow_raw hne] at hgr
    rw [hold]
    exact noNewBut_of_masked (mask := 0x7D) (f := 1) (by decide) hnew g hg hne hga hgr
  have hwatch : motCheck m (driverLow m s) = motDeclare m [1] 0 ((driverLow m s).put (F.MOTm_STAT_COND m) (motConds m (driverLow m s))) :=
    motWatch_of_one (by decide) (by rw [hold]; exact hcond) hacts hlow hrest 0
  have hkeeps : Keeps [Reg.MOTm_STAT m] s ((driverLow m s).put (F.MOTm_STAT_COND m) (motConds m (driverLow m s))) :=
    ((Keeps.refl _ s).motUpd m _).put _ (f := F.MOTm_STAT_COND m) (.head _)
  have hstill : motSt m ((driverLow m s).put (F.MOTm_STAT_COND m) (motConds m (driverLow m s))) ≠ moFAULT := by
    unfold motSt
    rw [State.get_put_apart (moStat_apart m).left]
    exact hst
  obtain ⟨hflt, hfault, henT, hpins, hflag, hlogged, hfires, hall⟩ := does_latch (x := 0) (by decide) hkeeps rfl rfl rfl rfl hnot
    ((motResp_congr hkeeps 1).trans hresp) hstill rfl (ht.trans hwatch)
  exact ⟨hflt.trans hlow, hfault, henT.trans hen, hpins, hflag, hlogged, hfires, hall⟩

/-! ## A stall (R478) -/

theorem moSpeed_ne_stat : ∀ m : Fin 4, Reg.MOTm_SPEED m ∉ [Reg.MOTm_STAT m] := by decide

theorem execStall_of_due (hstall : stallNow m s = true) (hdue : s.mot[m].stallFrom.any (fun t => t + stallNs m s ≤ s.clk.ns) = true) :
    execStall m s = .next (motSetCond m 5 true 0 s) := congrArg Host.Outcome.next (if_pos ⟨hstall, hdue⟩)

/-- A stall that is new and latches (R478, R479). -/
theorem does_stall (hen : motorEn m s = true) (hsw : motSt m s = moALIGN ∨ motSt m s = moRUN) (hcond : s.bit (F.MOTm_STAT_COND m) 5 = false)
    (hresp : motResp m 5 s = 4) (hnot : NotFired (137 + 2 * m.val) s)
    (hnew : motConds m s &&& (0x7F ^^^ s.get (F.MOTm_STAT_COND m)) &&& 0x5F = 0) (hcleared : motCleared m s = none)
    (ht : t = motSetCond m 5 true 0 s) :
    motSt m t = moFAULT ∧ motorEn m t = true ∧ (∀ (x : Fin 3) (high : Bool), motPin m x high t = false) ∧ t.bit (F.MOTm_FLAG_DECL m) 5 = true ∧
      Logged 0x11 1 ([b8 m.val, 5, 4] ++ bytesOfNat 2 (ofSigned 16 (motRpm m s))) s t ∧
      Fires (137 + 2 * m.val) s t ∧ Keeps [Reg.MOTm_STAT m, Reg.MOTm_FLAG m] s t := by
  have hold := motOld_of_not_cleared hcleared
  have hacts : motActs m 5 s = true := by rw [motActs, if_pos (by decide), hen, motSwitches_of_either hsw]; rfl
  have hset := motSetCond_new (f := 5) (.inr (.inl rfl)) (by rw [hold]; exact hcond) hacts
    (fun g hg hne hga hgr => hold ▸ noNewBut_of_masked (mask := 0x5F) (f := 5) (by decide) hnew g hg hne hga hgr) 0
  have hshown := condShown_step m 5 s
  have hstill : motSt m (condShown m 5 s) ≠ moFAULT := by
    rw [hshown.st]
    obtain h | h := hsw <;> rw [h] <;> decide
  have hrpm : motValue m 5 0 (condShown m 5 s) = motRpm m s := by
    have hspeed : (condShown m 5 s).get (F.MOTm_SPEED_SPEED m) = s.get (F.MOTm_SPEED_SPEED m) := hshown.keeps.get (moSpeed_ne_stat m)
    show Int.tdiv (toSigned _ ((condShown m 5 s).get (F.MOTm_SPEED_SPEED m))) 16 = _
    rw [hspeed]
    rfl
  obtain ⟨-, hfault, henT, hpins, hflag, hlogged, hfires, hall⟩ := does_latch (by decide) hshown.keeps hshown.log hshown.evm hshown.clk hshown.dom hnot
    ((motResp_congr hshown.keeps 5).trans hresp) hstill hrpm (ht.trans hset)
  exact ⟨hfault, henT.trans hen, hpins, hflag, hlogged, hfires, hall⟩

theorem execStall_of_none (h : (motIqRef m s).natAbs ≠ s.get (F.MOTm_IQMAX_IQMAX m) ∨
    s.get (F.MOTm_STALL_STALLSPD m) * 16 ≤ (s.getI (F.MOTm_SPEED_SPEED m)).natAbs ∨
    s.mot[m].stallFrom.all (fun t => s.clk.ns < t + stallNs m s) = true) : execStall m s = .next s := by
  have hnot : ¬ (stallNow m s = true ∧ s.mot[m].stallFrom.any (fun t => t + stallNs m s ≤ s.clk.ns) = true) := by
    rintro ⟨hstall, hdue⟩
    simp only [stallNow, Bool.and_eq_true, beq_iff_eq, decide_eq_true_eq] at hstall
    obtain ⟨⟨-, hmax⟩, hslow⟩ := hstall
    obtain h | h | h := h
    · exact h hmax
    · exact absurd hslow (Nat.not_lt.mpr h)
    · rw [Option.all_eq_true] at h
      obtain ⟨c, hfrom, hle⟩ := Option.any_eq_true .. |>.mp hdue
      have hlt := h c hfrom
      rw [decide_eq_true_eq] at hle hlt
      exact absurd hlt (Nat.not_lt.mpr hle)
  unfold execStall
  rw [if_neg hnot]

/-! ## The reasons for a refusal, by the state of the domain, the channel and the driver (R475) -/

theorem fbOfSrc_eq_four {src : Nat} (h : src < 4 ∨ 7 < src) : fbOfSrc src = 4 := if_neg (by omega)

theorem refusalOf_badDomain {d : Fin 8} (hpd : pdOn (26 + m.val) s = true) (hmux : pdOn 48 s = true) (hlane : s.get (gLaneFld 2 (m.val / 2)) ≠ 15)
    (hbad : s.dom[d].src < 4 ∨ 7 < s.dom[d].src ∨ s.on (F.ANGn_CTL_EN d) = false ∧ pdOn (46 + s.dom[d].src) s = true) : refusalOf m d s = some 2 := by
  by_cases hnamed : s.dom[d].src < 4 ∨ 7 < s.dom[d].src
  · have hfour := fbOfSrc_eq_four hnamed
    rw [refusalOf_powered hpd hmux hlane (fun hlt => by omega), hfour]
    exact if_pos (by rw [beq_self_eq_true, Bool.or_true])
  · obtain ⟨hang, hfb⟩ : s.on (F.ANGn_CTL_EN d) = false ∧ pdOn (46 + s.dom[d].src) s = true := by
      obtain h | h | h := hbad
      · exact absurd (.inl h) hnamed
      · exact absurd (.inr h) hnamed
      · exact h
    have hsum : 50 + fbOfSrc s.dom[d].src = 46 + s.dom[d].src := by
      unfold fbOfSrc
      rw [if_pos (by omega)]
      omega
    rw [refusalOf_powered hpd hmux hlane (fun _ => by rw [hsum]; exact hfb), hang]
    exact if_pos (by rw [Bool.not_false, Bool.true_or])

theorem refusalOf_faulty {d : Fin 8} {f : Fin 4} (hpd : pdOn (26 + m.val) s = true) (hmux : pdOn 48 s = true)
    (hlane : s.get (gLaneFld 2 (m.val / 2)) ≠ 15) (hsrc : s.dom[d].src = 4 + f.val) (hang : s.on (F.ANGn_CTL_EN d) = true) (hfb : pdOn (50 + f.val) s = true)
    (hfault : s.on (F.FBf_CTL_EN f) = false ∨ s.mot[m].fltLow = true ∨ s.bit F.GATH_MFLT_MFLT (2 * m.val) = true ∨
      s.bit F.GATH_MFLT_MFLT (2 * m.val + 1) = true) : refusalOf m d s = some (if s.on (F.FBf_CTL_EN f) = false then 3 else 4) := by
  have hfbs := fbOfSrc_of_named hsrc
  have hchan : (f.val == 4) = false := beq_false_of_ne (by omega)
  rw [refusalOf_powered hpd hmux hlane (fun _ => by rw [hfbs]; exact hfb), hfbs, hang, hchan, if_neg (by decide)]
  cases hoff : s.on (F.FBf_CTL_EN f)
  · rfl
  · have hpresent : (s.mot[m].fltLow || (s.bit F.GATH_MFLT_MFLT (2 * m.val) || s.bit F.GATH_MFLT_MFLT (2 * m.val + 1))) = true := by
      obtain h | h | h | h := hfault
      · exact absurd (hoff.symm.trans h) (by decide)
      · rw [h, Bool.true_or]
      · rw [h, Bool.true_or, Bool.or_true]
      · rw [h, Bool.or_true, Bool.or_true]
    rw [hpresent]
    rfl

/-! ## The settlement -/

theorem execAlignmentDone_of_due (hdue : motAlignDue m s = true) : execAlignmentDone m s = .next (motAligned m s) :=
  congrArg Host.Outcome.next (if_pos hdue)

/-- Settles O52, the enables by the reason for a refusal, then the ends of the carrier, CLEAR, the alignment and the latching faults. -/
theorem motorStates : Obligations.MotorStates := by
  unfold Obligations.MotorStates
  refine ⟨fun s m d f value hon hoff hpd hmux hlane hd hsrc hang hfbOn hfb hflt h0 h1 hstate hspeed hcond => ?enabled,
    fun s m value hon hoff hpowered hbad => ?badDomain, fun s m d f value hon hoff hd hsrc hdown => ?down,
    fun s m d f value hon hoff hpd hmux hlane hd hsrc hang hfbOn hfault => ?faulty, fun s m value hon => does_disabled hon value,
    fun s m hsw hflt h0 h1 hstate => ⟨_, rfl, ?inert⟩, fun s m ticket hfresh hsw hflt h0 h1 hstate => ⟨_, rfl, ?inertAct⟩,
    fun s m ha hr => ⟨_, rfl, motInert_of_other ha hr⟩, fun s m ticket arg hfresh harg => ⟨_, rfl, ?release⟩,
    fun s m ticket arg hfresh harg hfault hconds => ⟨_, rfl, ?clear⟩, fun s m ticket arg hfresh harg hfault hen hflt hresp => ⟨_, rfl, ?clearRefused⟩,
    fun s m halign hdue => ⟨_, execAlignmentDone_of_due (motAlignDue_of halign hdue), ?aligned⟩,
    fun s m hen hcond hresp hst hnot hnew hcleared => ⟨_, rfl, does_driverFault hen hcond hresp hst hnot hnew hcleared rfl⟩,
    fun s m hen hsw hdue hmax hslow hcond hresp hnot hnew hcleared => ⟨_, execStall_of_due ?due hdue, does_stall hen hsw hcond hresp hnot hnew hcleared rfl⟩,
    fun s m h => ⟨_, execStall_of_none h, rfl⟩⟩
  case enabled =>
    have hfbs := fbOfSrc_of_named hsrc
    refine does_enabled hon hoff hd ?_ hflt h0 h1 hstate hspeed hcond
    rw [refusalOf_powered hpd hmux hlane (fun _ => by rw [hfbs]; exact hfbOn), hfbs, hang, hfb, hflt, h0, h1]
    have hchan : (f.val == 4) = false := beq_false_of_ne (by omega)
    rw [hchan]
    rfl
  case badDomain =>
    obtain ⟨hpd, hmux, hlane⟩ := hpowered
    have hlt : fldOf (F.MOTm_CTL_DOM m) value < 8 := Nat.mod_lt _ (Nat.two_pow_pos 3)
    obtain ⟨d, hd⟩ : ∃ d : Fin 8, fldOf (F.MOTm_CTL_DOM m) value = d.val := ⟨⟨_, hlt⟩, rfl⟩
    simp only [hd, Fin.ofNat_val_eq_self] at hbad
    exact does_refused hon hoff hd (refusalOf_badDomain hpd hmux hlane hbad)
  case down =>
    obtain ⟨t, hrun, hen, hmot, -, hflag, hlast, hmem⟩ := does_refused hon hoff hd (refusalOf_one hsrc hdown)
    exact ⟨t, hrun, hen, hmot, hflag, hlast, hmem⟩
  case faulty =>
    obtain ⟨t, hrun, hen, hmot, -, hflag, hlast, hmem⟩ := does_refused hon hoff hd (refusalOf_faulty hpd hmux hlane hsrc hang hfbOn hfault)
    refine ⟨t, hrun, hen, hmot, hflag, ?_, hmem⟩
    split at hlast
    next h => rwa [if_pos h]
    next h => rwa [if_neg h]
  case inert =>
    obtain ⟨hst, hen, hcarry, hlog, hkeeps⟩ := motInert_does (motSwitches_of_either hsw) hflt h0 h1 hstate
    exact ⟨hst, hen, inert_pins hst, hcarry, hlog, hkeeps⟩
  case inertAct =>
    obtain ⟨hst, hen, hcarry, hlog, hkeeps⟩ := motInert_does (motSwitches_of_either hsw) hflt h0 h1 hstate
    have hact := motAct_fresh (arg := BitVec.ofNat 16 m.val) (f := motInert m) hfresh motAct_mask.right.left
    rw [motAct_motor] at hact
    refine ⟨hact.st.trans hst, hact.en.trans hen, inert_pins (hact.st.trans hst), fun x => ?_, hact.word, (congrArg LogSt.reqs hact.log).trans hlog,
      (hkeeps.mono (by simp)).trans (hact.keeps.mono (by simp))⟩
    rw [hact.mot]
    exact hcarry x
  case release =>
    rw [ofNat_of_mod harg]
    have hact := motAct_fresh (arg := arg) (f := motRelease m) hfresh motAct_mask.right.right.left
    obtain ⟨hst, hlog, hkeeps⟩ := motRelease_rest m s
    refine ⟨?_, hact.st.trans hst, hact.word, (congrArg LogSt.reqs hact.log).trans hlog, (hkeeps.mono (by simp)).trans hact.keeps⟩
    rw [hact.mot]
    exact motRelease_mot m s
  case clear =>
    rw [ofNat_of_mod harg]
    have hact := motAct_fresh (arg := arg) (f := motClear m) hfresh motAct_mask.left
    obtain ⟨hst, hen, hlog, hkeeps⟩ := motClear_of_none hfault hconds
    exact ⟨hact.st.trans hst, hact.en.trans hen, hact.word, (congrArg LogSt.reqs hact.log).trans hlog,
      (hkeeps.mono (by simp)).trans (hact.keeps.mono (by simp))⟩
  case clearRefused =>
    rw [ofNat_of_mod harg]
    have hact := motAct_fresh (arg := arg) (f := motClear m) hfresh motAct_mask.left
    obtain ⟨hst, hen', hflag, hmot, hmem⟩ := motClear_refused hfault hen hflt hresp
    exact ⟨hact.st.trans hst, hact.en.trans hen', (congrArg (Nat.testBit · _) (hact.keeps.get (motAct_apart m).right.right.left)).trans hflag, hact.word,
      hact.mot.trans hmot, hmem.trans hact.keeps.sameMem⟩
  case aligned =>
    have hdone := motAligned_aligned halign
    exact ⟨hdone.offset, congrArg (· != 0) hdone.thv, hdone.st, hdone.accs.left, hdone.accs.right, hdone.log, hdone.keeps⟩
  case due =>
    rw [stallNow, hen, motSwitches_of_either hsw, hmax, decide_eq_true hslow, beq_self_eq_true]
    rfl

end Sys2Proof.Machine
end
